-- ==== Sys2Proof/Word.lean ====
section
/-! DEFINITION. The units of the controller (R13, R14, R16) and the shapes of what reaches it from outside: the
datagrams, frames and messages that commands carry as operands. A field that the manual does bit arithmetic on and
that the model only compares or counts is a natural number; a signed quantity is an integer; an exact fraction (R20) is
a rational. -/

namespace Sys2Proof

/-- A fire-timer tick: a count of ft, 800 ps each (R13). -/
abbrev Tick := Nat

/-- A position in pu, 2^-16 mm (R14). -/
abbrev Pu := Int

/-- A byte string, first byte first. -/
abbrev Bytes := List Nat

/-- What an access does to a 64-bit word of an on-chip array (R413); ADD32 names the half it acts on. -/
inductive WordOp where
  | read
  | write (v : Nat)
  | add32 (upper : Bool) (v : Nat)
  | add64 (v : Nat)
  | swap (v : Nat)
  deriving DecidableEq, Repr

/-- Who reaches the swept arrays (Table 15.1): engines, the DMA unit, the hardware clients of port P2 of the common pool, and on ports W
and R of the line store the nozzle map unit and the link controller. -/
inductive Client where
  | engine (k : Fin 8)
  | dma
  | fireUnit
  | ledger
  | snapshotUnit
  | eventBuffer
  | nozzleMap
  | linkReader
  deriving DecidableEq, Repr

/-- One access to a word of an array: 0–7 are ES0–ES7, 8–11 CP0–CP3, 12–27 LB0–LB15. `edge` is the cycle on whose clock edge it was issued. -/
structure Access where
  client : Client
  array  : Nat
  word   : Nat
  op     : WordOp
  edge   : Nat
  deriving DecidableEq, Repr

/-- What an Ethernet frame carries (Table 12.1): a UDP datagram to a port, a PTP message without UDP, an ICMP or ICMPv6 echo request, an
ARP request or a neighbour solicitation, a fragment, PAUSE. -/
inductive EthBody where
  | udp (port : Nat)
  | ptp
  | echo
  | resolve
  | fragment
  | pause
  deriving DecidableEq, Repr

/-- What the packet engine sees of an Ethernet frame (Table 12.1, R322): whether its FCS passes, its bytes, the number of its VLAN tags
and the VLAN ID (0 untagged), whether its destination MAC address is the port's own (or a group to which the port listens), the
version of IP (0 without IP) and its destination address, of an ARP request or a neighbour solicitation the address sought, and what
it carries. `fixed` and `lost`: RS-FEC codewords corrected, and not correctable, since the frame before. A field network has no such
frame. -/
structure Eth where
  fcsOk : Bool
  bytes : Nat
  tags  : Nat
  vid   : Nat
  own   : Bool
  ip    : Nat
  dst   : Nat
  body  : EthBody
  fixed : Nat
  lost  : Nat
  deriving DecidableEq, Repr

/-- One datagram of an open session as it arrives (Table 12.2). `port` 0–3 is HP0–HP3, 4–5 is FN0–FN1; `addr` is the
source address with its UDP port, or the HOST number on a field network. `ver` is VERSION, `kind` KIND, `len` LENGTH, `bytes` the bytes
that UDP says it has (on a field network the reassembly has compared them). `cipher` and `tag` are the body as enciphered, whose plain
text the command's own operands spell, and the tag, which the block verifies under the session's key (R326, R438); `rsv` gathers the
bits of the body that its table reserves (R17). -/
structure Dgram where
  port  : Nat
  addr  : Nat
  eth   : Eth
  ver   : Nat
  kind  : Nat
  len   : Nat
  bytes : Nat
  sid   : Nat
  seq   : Nat
  cipher : Bytes
  tag   : Bytes
  rsv   : Nat
  deriving DecidableEq, Repr

/-- A sequenced KTP message: its datagram and its transfer handle (R334). -/
structure Ktp where
  dg     : Dgram
  handle : Nat
  deriving DecidableEq, Repr

/-- A KOP request (Table 13.4) less what the command's own operands give (what it acts on, TXID, DATA): OP, TAG, INDEX and SUB as the
response returns them, OFFSET, LENGTH, and in `rsv` the bits that the table reserves or fixes at 0 for the operation. -/
structure Kop where
  dg    : Dgram
  op    : Nat
  tag   : Nat
  index : Nat
  sub   : Nat
  rsv   : Nat
  off   : Nat
  len   : Nat
  deriving DecidableEq, Repr

/-- An item descriptor as sent: the 32-byte header and the 16-byte tile entries, each as one little-endian number
(Tables 2.1 and 2.2). -/
structure Descriptor where
  hdr   : Nat
  tiles : List Nat
  deriving DecidableEq, Repr

/-- A FIRE_REPORT frame as its words arrive, header to trailer (Table 7.7). -/
structure FireRep where
  words : List Nat
  deriving DecidableEq, Repr

/-- A STATUS frame as its words arrive (Table 7.7, R234), with the FEC blocks that the port has received since the STATUS before: the
payloads of each of them, descrambled, as they came on U0 and on US, fewer than 83 where loss of block lock cut one short (R204, R209).
A frame that such blocks hold whole reaches the model as the command of its kind. -/
structure StatusRep where
  words : List Nat
  rx    : List (List Nat × List Nat)
  deriving DecidableEq, Repr

/-- A LOSS frame as its words arrive (Table 7.7). -/
structure LossRep where
  words : List Nat
  deriving DecidableEq, Repr

/-- A RESPONSE frame as its words arrive (Table 7.8). -/
structure CtlResp where
  words : List Nat
  deriving DecidableEq, Repr

/-- One ECHO exchange (R216): departure t1, arrival t4, and the content of the ECHO_RSP block (Table 7.2). -/
structure Echo where
  t1      : Nat
  t4      : Nat
  content : Nat
  deriving DecidableEq, Repr

/-- A sync frame (Table 5.4). `ok`: CRC and reserved fields pass (R162). -/
structure SyncFrame where
  srcPos    : Nat
  aligned   : Bool
  fault     : Bool
  snap      : Bool
  bp0Valid  : Bool
  bp1Valid  : Bool
  seq       : Nat
  hops      : Nat
  txFt      : Nat
  echoFt    : Nat
  echoDwell : Nat
  snapFt    : Nat
  bp0Pos    : Int
  bp0Age    : Nat
  bp1Pos    : Int
  bp1Age    : Nat
  /-- Bits [7:4] of byte 0x03, and the CRC. -/
  rsv       : Nat
  crc       : Nat
  deriving DecidableEq, Repr

/-- A HELLO body (Table 12.5): its bytes, the certificate of Table 16.8 among them. -/
structure HelloMsg where
  bytes : Bytes
  deriving DecidableEq, Repr

/-- A PTP message as the time-sync logic sees it (R323), with what the packet engine sees of its frame. Times are in ns; `rx` is the fire-timer tick of its
time-stamp. `kind`: 0 announce, 1 one-step sync, 2 two-step sync, 3 follow-up, 4 delay or path-delay response, 5 path-delay request.
`master` is the identity of the clock that sends it; of a path-delay response, `rx` is the time-stamp of the request, `arrival` that of
the response and `turnNs` the time that the other end says it took. -/
structure PtpMsg where
  eth       : Eth
  kind      : Nat
  domain    : Nat
  quality   : Nat
  utcOffset : Int
  utcValid  : Bool
  rx        : Nat
  originNs  : Nat
  seqId     : Nat
  master    : Nat
  arrival   : Nat
  turnNs    : Nat
  deriving DecidableEq, Repr

/-- What the PCS of a host port reports (R321): block lock, alignment lock, the ft since a local or remote fault was last signalled, and
the ft for which lock has been lost or a fault signalled without a break. -/
structure PcsReport where
  port    : Fin 4
  block   : Bool
  align   : Bool
  quiet   : Nat
  failing : Nat
  deriving DecidableEq, Repr

/-- A life-cycle request: the 256 bytes of its record as one little-endian number (Table 16.2), and whether the fuse reads back as
blown (Table 16.3). -/
structure LcReq where
  body   : Nat
  fuseOk : Bool
  deriving DecidableEq, Repr

/-- The 256 bytes of an owner key record as one little-endian number (Table 16.5). -/
structure OwnerRec where
  body : Nat
  deriving DecidableEq, Repr

/-- One head-maker list entry (Table 16.6). -/
structure MakerKey where
  maker : Nat
  keyId : Nat
  key   : Nat
  deriving DecidableEq, Repr

/-- The 1,024 bytes of a head-maker list load as one little-endian number (Table 16.6). -/
structure ListLoad where
  body : Nat
  deriving DecidableEq, Repr

/-- The 256 bytes of a clearance token as one little-endian number (Table 16.10). -/
structure ClearTok where
  body : Nat
  deriving DecidableEq, Repr

/-- What the March test of one region finds for one row (R417, R419): the row of the macro, its lowest faulty column and
the number of faulty columns. -/
structure RowFault where
  row    : Nat
  column : Nat
  count  : Nat
  deriving DecidableEq, Repr

/-- How a cell fails: it is stuck, it makes no rising or no falling change, or an access to another cell disturbs it. -/
inductive CellKind where
  | stuck (v : Bool)
  | noRise
  | noFall
  | disturbed
  deriving DecidableEq, Repr

/-- A cell of a macro that fails: row and column, check columns among them (R417). -/
structure CellFault where
  row    : Nat
  column : Nat
  kind   : CellKind
  deriving DecidableEq, Repr

/-- A fault in a buffer of a subsystem, found by its destructive test (R421): where it lies (R29), and the faulty columns. -/
structure BufFault where
  sub    : Nat
  slice  : Nat
  block  : Nat
  row    : Nat
  column : Nat
  count  : Nat
  deriving DecidableEq, Repr

/-- A patch image in a slot of the firmware-patch area (R405): ROM version, patch version, mask of engines, length in bytes, and whether
its signature under the patch key verifies; the layout of an image is not given. -/
structure PatchImage where
  rom     : Nat
  version : Nat
  mask    : Nat
  len     : Nat
  sigOk   : Bool
  deriving DecidableEq, Repr

/-- What a tamper source measures (Table 16.7): the level of an input; the mesh patterns driven and received, and whether both wires
are whole; VBAT in mV; the backup sensor in 0.1 °C; the reference period in ps; the period of the root PLL, and VCORE or VSRAM,
in thousandths of their nominal values. -/
inductive TamperSense where
  | level (high : Bool)
  | mesh (driven received : Nat) (whole : Bool)
  | vbat (mv : Nat)
  | temp (tenths : Int)
  | refPeriod (ps : Nat)
  | rootPeriod (permille : Nat)
  | supply (permille : Nat)
  deriving DecidableEq, Repr

/-- What the start-up finds (R405, R421, R424, R426, R431–R433, R469, R474): the straps, the check pattern of the backup domain,
the sources that wiped the cocoon on VBAT alone with the calendar seconds of each wipe, the calendar (units of 2^-16 s), whether the fuse of a pending life-cycle
transition is blown, the check of the cocoon cells, the test of the shadow, of the swept arrays (region and cell) and of the buffers, the
patch images that the service tool has offered since the last reset, each with its slot, the installed DRAM in MiB, VHV. -/
structure PowerUp where
  bpos       : Nat
  bakPresent : Bool
  wiped      : List (Fin 9 × Nat)
  calendar   : Nat
  lcBlown    : Bool
  cellsOk    : Bool
  shadowOk   : Bool
  arrays     : List (Nat × CellFault)
  buffers    : List BufFault
  installs   : List (Fin 2 × PatchImage)
  dramMib    : Nat
  vhv        : Bool
  deriving DecidableEq, Repr

/-- One bit of a DRAM channel that has changed by itself before a read (R108): channel, byte address, bit. -/
structure BitFlip where
  ch   : Nat
  addr : Nat
  bit  : Nat
  deriving DecidableEq, Repr

/-- One part of a plane-line of a direct item (R341): item handle, plane rank, line, byte offset within the plane-line, the
CRC-32C it carries, and its bytes. -/
structure StreamPart where
  handle : Nat
  plane  : Nat
  line   : Nat
  offset : Nat
  crc    : Nat
  data   : Bytes
  deriving DecidableEq, Repr

/-- Where a host's datagram outside any session came from: port 0–3 HP0–HP3, 4–5 FN0–FN1; source address and UDP port,
or the HOST number on a field network. -/
structure Path where
  port : Nat
  addr : Nat
  deriving DecidableEq, Repr

/-- A datagram outside any session, as HELLO and PROOF are: where it came from, what the packet engine sees of its frame, and the header
of its envelope, with the bytes that UDP says it has (Table 12.2). -/
structure Sender where
  path : Path
  eth  : Eth
  ver  : Nat
  kind : Nat
  len  : Nat
  bytes : Nat
  sid  : Nat
  seq  : Nat
  deriving DecidableEq, Repr

/-- The sync headers that the receiver of an upstream lane has seen, the newest last (R199). `lane`: 0 U0, 1 US. -/
structure LaneHeaders where
  lane : Fin 2
  hdrs : List Nat
  deriving DecidableEq, Repr

/-- A control block that the receiver of an upstream lane has taken: lane 0 U0, 1 US, and its type (Table 7.2). -/
structure LaneBlock where
  lane : Fin 2
  kind : Nat
  deriving DecidableEq, Repr

/-- What a tamper source measures at one time (Table 16.7). -/
structure TamperReading where
  source : Fin 9
  sense  : TamperSense
  deriving DecidableEq, Repr

/-- A supply of Table 19.4, from 0 VCORE to 6 VIO33, and its voltage in µV. -/
structure SupplyReading where
  supply : Nat
  uv     : Nat
  deriving DecidableEq, Repr

/-- The clocks as they are watched (R467): the period of the reference in ps, the lock of the root PLL, and for how many ns they have
been as they are. -/
structure ClockReading where
  ps     : Nat
  locked : Bool
  ns     : Nat
  deriving DecidableEq, Repr

/-- A domain whose wake latency ends, and the faulty cells that the test of its arrays finds, each with its region, and those of its
buffers (R421). -/
structure Woken where
  domain : Fin 11
  found  : List (Nat × CellFault)
  buffers : List BufFault
  deriving DecidableEq, Repr

/-- The 16 bytes of an ACK body as one little-endian number (Table 12.7). -/
structure AckMsg where
  body : Nat
  deriving DecidableEq, Repr

/-- A CAN frame as received (R362–R366): whether it is an FD frame, a remote frame, one with a 29-bit identifier, whether its CRC passes,
the identifier, and the data bytes. -/
structure CanMsg where
  fd    : Bool
  remote : Bool
  extended : Bool
  crcOk : Bool
  ident : Nat
  data  : Bytes
  deriving DecidableEq, Repr

/-- A word of a swept on-chip array whose read was uncorrectable (R415). `array`: 0 ES, 1 CP, 2 LB; `inst` its number;
`reader`: of ES and CP, the engine that read the word or started the transfer, 8 a hardware client; of LB, 4 times the head
plus the row whose frame was being built. -/
structure MemWord where
  array  : Nat
  inst   : Nat
  reader : Nat
  macro_ : Nat
  row    : Nat
  column : Nat
  deriving DecidableEq, Repr

end Sys2Proof
end

