-- ==== Sys2Proof/Syntax.lean ====
section
/-! DEFINITION. The commands of the block: one constructor for each row of spec/opcode_table.json (95: each step whole
and indivisible). Every command carries the fire-timer tick `t` at which it happens. A command that a session sends
carries its request (`Kop`) or its message (`Ktp`, `Dgram`); a command that the block's own schedulers start names the
unit that it concerns. -/

namespace Sys2Proof

/-- The commands (spec/opcode_table.json). -/
inductive Instr where
  /-- ITEM_SUBMIT (R341). -/
  | itemSubmit (t : Tick) (m : Ktp) (descs : List Descriptor)
  /-- SUBMISSION (R506). -/
  | submission (t : Tick) (sess : Fin 32)
  /-- ADMISSION_EVALUATION (R48). -/
  | admissionEvaluation (t : Tick) (z : Fin 8)
  /-- SKIPPED_NO_MARK (R52). -/
  | skippedNoMark (t : Tick) (z : Fin 8)
  /-- FIRE_REPORT (R53). -/
  | fireReport (t : Tick) (l : Fin 16) (r : FireRep)
  /-- FIRE_REPORT_TIMEOUT (R54). -/
  | fireReportTimeout (t : Tick) (h : Fin 64) (row : Fin 4)
  /-- OUTCOME_NOTICE (R64). -/
  | outcomeNotice (t : Tick)
  /-- ITEM_OUTCOME_READ (R64). -/
  | itemOutcomeRead (t : Tick) (k : Kop)
  /-- REJECT_ASSERT (R276). -/
  | rejectAssert (t : Tick) (z : Fin 8) (handle : Nat)
  /-- REJECT_RELEASE (R276). -/
  | rejectRelease (t : Tick) (z : Fin 8)
  /-- ZONE_ENABLE (R69). -/
  | zoneEnable (t : Tick) (k : Kop) (z : Fin 8)
  /-- ZONE_DRAIN (R69). -/
  | zoneDrain (t : Tick) (k : Kop) (z : Fin 8)
  /-- ZONE_ABORT (R70). -/
  | zoneAbort (t : Tick) (k : Kop) (z : Fin 8)
  /-- ZONE_DRAIN_COMPLETE (R69). -/
  | zoneDrainComplete (t : Tick) (z : Fin 8)
  /-- REJECT_HOLD_CLEAR (R72). -/
  | rejectHoldClear (t : Tick) (k : Kop) (z : Fin 8)
  /-- ITEM_ABORT (R73). -/
  | itemAbort (t : Tick) (k : Kop) (handle : Nat)
  /-- TEMPLATE_BEGIN (R339). -/
  | templateBegin (t : Tick) (m : Ktp) (loadId : Nat) (hdr : Nat)
  /-- TILE_BEGIN (R339). -/
  | tileBegin (t : Tick) (m : Ktp) (loadId : Nat) (hdr : Nat)
  /-- LOAD_DATA (R340). -/
  | loadData (t : Tick) (m : Ktp) (loadId : Nat) (offset : Nat) (data : Bytes)
  /-- LOAD_CANCEL (R340). -/
  | loadCancel (t : Tick) (m : Ktp) (loadId : Nat)
  /-- TEMPLATE_VERIFY (R82). -/
  | templateVerify (t : Tick) (idx : Nat)
  /-- TILE_VERIFY (R85). -/
  | tileVerify (t : Tick) (idx : Nat)
  /-- TEMPLATE_DELETE (R86). -/
  | templateDelete (t : Tick) (k : Kop) (handle : Nat)
  /-- TILE_DELETE (R86). -/
  | tileDelete (t : Tick) (k : Kop) (handle : Nat)
  /-- ROW_LINE_COMPOSE (R96). -/
  | rowLineCompose (t : Tick) (flips : List BitFlip)
  /-- DRAM_CHANNEL_FAULT (R111). -/
  | dramChannelFault (t : Tick) (ch : Fin 2)
  /-- DRAM_RETRAIN_COMPLETE (R469). -/
  | dramRetrainComplete (t : Tick) (ch : Fin 2) (ok : Bool)
  /-- STREAM_LINE (R341). -/
  | streamLine (t : Tick) (m : Ktp) (part : StreamPart)
  /-- GENERATION_INSTALL (R127). -/
  | generationInstall (t : Tick) (h : Fin 64)
  /-- ENCODER_EDGE (R257). -/
  | encoderEdge (t : Tick) (c : Fin 8) (wire : Fin 2) (level : Bool) (stamp : Nat)
  /-- HELD_EDGE_PROCESS (R140). -/
  | heldEdgeProcess (t : Tick) (z : Fin 8)
  /-- EDGE_TIMEOUT (R142). -/
  | edgeTimeout (t : Tick) (z : Fin 8)
  /-- FRAME_BUILD_EVALUATION (R146). -/
  | frameBuildEvaluation (t : Tick)
  /-- CANCEL_SEND (R221). -/
  | cancelSend (t : Tick) (h : Fin 64) (row : Fin 4)
  /-- TRAVERSE_ARM (R157). -/
  | traverseArm (t : Tick) (z : Fin 8)
  /-- TRAVERSE_END (R158). -/
  | traverseEnd (t : Tick) (z : Fin 8)
  /-- ALIGNMENT_PATTERN (R160). -/
  | alignmentPattern (t : Tick) (k : Kop) (z : Fin 8) (cmd : Nat)
  /-- SYNC_FRAME_SEND (R162). -/
  | syncFrameSend (t : Tick) (p : Fin 2)
  /-- SYNC_FRAME_RECEIVE (R163). -/
  | syncFrameReceive (t : Tick) (p : Fin 2) (f : SyncFrame)
  /-- FIRE_TIMER_STEP (R164). -/
  | fireTimerStep (t : Tick)
  /-- SYNC_HOLDOVER (R165). -/
  | syncHoldover (t : Tick)
  /-- SYNC_STARTUP_END (R35). -/
  | syncStartupEnd (t : Tick)
  /-- BOARD_FAULT_ASSERT (R168). -/
  | boardFaultAssert (t : Tick) (k : Kop) (v : Nat)
  /-- VPH_SAMPLE (R176). -/
  | vphSample (t : Tick) (c : Fin 16) (mv : Nat) (sense : Int)
  /-- VPH_SAMPLE_TIMEOUT (R179). -/
  | vphSampleTimeout (t : Tick) (c : Fin 16)
  /-- SOURCE_RESISTANCE_ESTIMATE (R180). -/
  | sourceResistanceEstimate (t : Tick) (c : Fin 16)
  /-- TEMPERATURE_STALE (R183). -/
  | temperatureStale (t : Tick) (h : Fin 64)
  /-- SUPPLY_ON (R188). -/
  | supplyOn (t : Tick) (k : Kop) (c : Fin 16)
  /-- SUPPLY_OFF (R193). -/
  | supplyOff (t : Tick) (k : Kop) (c : Fin 16)
  /-- CHAIN_SUPPLY_RESET (R188). -/
  | chainSupplyReset (t : Tick) (k : Kop) (c : Fin 16)
  /-- SUPPLY_RAMP_START (R189). -/
  | supplyRampStart (t : Tick) (c : Fin 16)
  /-- RAMP_TIMEOUT (R188). -/
  | rampTimeout (t : Tick) (c : Fin 16)
  /-- INRUSH_TIMEOUT (R188). -/
  | inrushTimeout (t : Tick) (c : Fin 16)
  /-- SWITCH_LEAK (R188). -/
  | switchLeak (t : Tick) (c : Fin 16)
  /-- HV_DIE_LOSS (R188). -/
  | hvDieLoss (t : Tick) (die : Fin 2)
  /-- LINK_BRINGUP (R213). -/
  | linkBringup (t : Tick) (l : Fin 16)
  /-- LINK_BRINGUP_RETRY (R213). -/
  | linkBringupRetry (t : Tick) (l : Fin 16)
  /-- PORT_AUTO_BRINGUP (R224). -/
  | portAutoBringup (t : Tick) (l : Fin 16)
  /-- ENUMERATE (R232). -/
  | enumerate (t : Tick) (k : Kop) (l : Fin 16)
  /-- ECHO_MEASUREMENT (R216). -/
  | echoMeasurement (t : Tick) (l : Fin 16) (a : Fin 9) (echoes : List Echo) (lam : Nat)
  /-- TIME_PAIR_SEND (R217). -/
  | timePairSend (t : Tick) (l : Fin 16)
  /-- LINE_FRAME_TRANSMIT (R219). -/
  | lineFrameTransmit (t : Tick) (l : Fin 16)
  /-- STATUS_FRAME (R210). -/
  | statusFrame (t : Tick) (l : Fin 16) (r : StatusRep)
  /-- LOSS_REPORT (R222). -/
  | lossReport (t : Tick) (l : Fin 16) (r : LossRep)
  /-- CONTROL_RESPONSE (R223). -/
  | controlResponse (t : Tick) (l : Fin 16) (r : CtlResp)
  /-- CONTROL_TIMEOUT (R223). -/
  | controlTimeout (t : Tick) (l : Fin 16) (a : Fin 9)
  /-- STATUS_TIMEOUT (R224). -/
  | statusTimeout (t : Tick) (l : Fin 16) (a : Fin 9)
  /-- NEIGHBOUR_LOCK_TIMEOUT (R224). -/
  | neighbourLockTimeout (t : Tick) (l : Fin 16) (a : Fin 9)
  /-- PORT_BLOCK_LOCK_LOSS (R224). -/
  | portBlockLockLoss (t : Tick) (l : Fin 16)
  /-- SPARE_TAKEOVER_L0 (R225). -/
  | spareTakeoverL0 (t : Tick) (k : Kop) (l : Fin 16)
  /-- SPARE_TAKEOVER_L1 (R225). -/
  | spareTakeoverL1 (t : Tick) (k : Kop) (l : Fin 16)
  /-- SPARE_RELEASE (R225). -/
  | spareRelease (t : Tick) (k : Kop) (l : Fin 16)
  /-- LANE_MOVE (R225). -/
  | laneMove (t : Tick) (l : Fin 16)
  /-- REVERSE_BLOCK (R229). -/
  | reverseBlock (t : Tick) (l : Fin 16) (b : LaneBlock) (content : Nat)
  /-- DUAL_LOCK_REGAINED (R229). -/
  | dualLockRegained (t : Tick) (l : Fin 16)
  /-- RESTORE (R230). -/
  | restore (t : Tick) (k : Kop) (l : Fin 16)
  /-- HEAD_VERIFICATION (R237). -/
  | headVerification (t : Tick) (h : Fin 64) (c : Fin 16)
  /-- TRIM_LOAD (R245). -/
  | trimLoad (t : Tick) (h : Fin 64) (c : Fin 16)
  /-- SCAN_BLOCK_START (R244). -/
  | scanBlockStart (t : Tick) (h : Fin 64)
  /-- SCAN_BLOCK_COMPLETE (R241). -/
  | scanBlockComplete (t : Tick) (h : Fin 64) (aborted : Bool) (v0 : Nat) (vs : List Nat)
  /-- SCAN_INTERVAL_EXPIRY (R244). -/
  | scanIntervalExpiry (t : Tick) (h : Fin 64)
  /-- SCAN_FULL (R244). -/
  | scanFull (t : Tick) (k : Kop) (h : Fin 64)
  /-- SCAN_REBASELINE (R243). -/
  | scanRebaseline (t : Tick) (k : Kop) (h : Fin 64)
  /-- WARM_STEP (R247). -/
  | warmStep (t : Tick) (h : Fin 64)
  /-- COOLDOWN_RETURN (R251). -/
  | cooldownReturn (t : Tick) (h : Fin 64)
  /-- WIRE_DISAGREEMENT (R258). -/
  | wireDisagreement (t : Tick) (c : Fin 8) (cause : Nat)
  /-- SSI_READ (R259). -/
  | ssiRead (t : Tick) (c : Fin 8) (stamp : Nat) (bits : Nat) (idleHigh : Bool) (wentLow : Bool)
  /-- SINCOS_SAMPLE (R261). -/
  | sincosSample (t : Tick) (c : Fin 8) (x : Int) (y : Int)
  /-- INDEX_PULSE (R267). -/
  | indexPulse (t : Tick) (c : Fin 8) (active : Bool) (stamp : Nat)
  /-- CHANNEL_STARTED (R263). -/
  | channelStarted (t : Tick) (c : Fin 8)
  /-- CHANNEL_CLEAR (R263). -/
  | channelClear (t : Tick) (k : Kop) (c : Fin 8)
  /-- CHANNEL_PRESET (R266). -/
  | channelPreset (t : Tick) (k : Kop) (c : Fin 8) (v : Nat)
  /-- SPEED_SAMPLE (R271). -/
  | speedSample (t : Tick) (c : Fin 8)
  /-- MARK_EDGE (R273). -/
  | markEdge (t : Tick) (m : Fin 8) (stamp : Nat) (level : Bool)
  /-- MARK_OFFER (R274). -/
  | markOffer (t : Tick) (m : Fin 8)
  /-- SWITCH_EDGE (R275). -/
  | switchEdge (t : Tick) (sw : Fin 16) (stamp : Nat) (level : Bool)
  /-- GATE_TEST (R279). -/
  | gateTest (t : Tick) (k : Kop) (g : Fin 8)
  /-- AXIS_ENABLE (R284). -/
  | axisEnable (t : Tick) (k : Kop) (a : Fin 8) (retHighFor : Nat)
  /-- AXIS_DISABLE (R284). -/
  | axisDisable (t : Tick) (k : Kop) (a : Fin 8)
  /-- MOVE_ABSOLUTE (R287). -/
  | moveAbsolute (t : Tick) (k : Kop) (a : Fin 8) (v : Nat)
  /-- MOVE_RELATIVE (R287). -/
  | moveRelative (t : Tick) (k : Kop) (a : Fin 8) (v : Nat)
  /-- AXIS_STOP (R288). -/
  | axisStop (t : Tick) (k : Kop) (a : Fin 8)
  /-- AXIS_HOME (R295). -/
  | axisHome (t : Tick) (k : Kop) (a : Fin 8) (v : Nat)
  /-- FOLLOW_START (R293). -/
  | followStart (t : Tick) (k : Kop) (a : Fin 8)
  /-- FOLLOW_END (R294). -/
  | followEnd (t : Tick) (k : Kop) (a : Fin 8)
  /-- AXIS_POWER_DOWN (R297). -/
  | axisPowerDown (t : Tick) (k : Kop) (a : Fin 8)
  /-- RET_RELEASE (R297). -/
  | retRelease (t : Tick) (a : Fin 8)
  /-- RETENTION_CHECK (R297). -/
  | retentionCheck (t : Tick) (a : Fin 8) (retLow : Bool)
  /-- RETENTION_COMPLETE (R297). -/
  | retentionComplete (t : Tick) (a : Fin 8)
  /-- RETENTION_TIMEOUT (R297). -/
  | retentionTimeout (t : Tick) (a : Fin 8)
  /-- AXIS_PRESET (R296). -/
  | axisPreset (t : Tick) (k : Kop) (a : Fin 8) (v : Nat)
  /-- AXIS_CLEAR (R301). -/
  | axisClear (t : Tick) (k : Kop) (a : Fin 8)
  /-- GROUP_MOVE (R289). -/
  | groupMove (t : Tick) (k : Kop) (g : Fin 4) (targets : Nat)
  /-- GROUP_STOP (R290). -/
  | groupStop (t : Tick) (k : Kop) (g : Fin 4)
  /-- MOVE_COMPLETE (R285). -/
  | moveComplete (t : Tick) (a : Fin 8)
  /-- STOP_COMPLETE (R288). -/
  | stopComplete (t : Tick) (a : Fin 8)
  /-- VIRTUAL_LIMIT_CROSSED (R292). -/
  | virtualLimitCrossed (t : Tick) (a : Fin 8)
  /-- COARSE_STEP (R293). -/
  | coarseStep (t : Tick) (a : Fin 8) (dir : Bool)
  /-- DRIVER_SUPPLY_LOSS (R298). -/
  | driverSupplyLoss (t : Tick) (a : Fin 8)
  /-- FEED_MOVE_START (R299). -/
  | feedMoveStart (t : Tick) (z : Fin 8)
  /-- CALIBRATION_TEMPERATURE_CHECK (R303). -/
  | calibrationTemperatureCheck (t : Tick)
  /-- ENCODER_COLLECTION_COMPLETE (R305). -/
  | encoderCollectionComplete (t : Tick) (c : Fin 4)
  /-- COLLECTION_TIMEOUT (R305). -/
  | collectionTimeout (t : Tick) (c : Fin 4)
  /-- ENCODER_COMPUTE_DONE (R306). -/
  | encoderComputeDone (t : Tick) (c : Fin 4)
  /-- ENCODER_VERIFY_DONE (R307). -/
  | encoderVerifyDone (t : Tick) (c : Fin 4)
  /-- CALIBRATION_APPLY (R308). -/
  | calibrationApply (t : Tick) (c : Fin 4)
  /-- APPLY_TIMEOUT (R308). -/
  | applyTimeout (t : Tick) (c : Fin 4)
  /-- RECEIVE_RUN_START (R309). -/
  | receiveRunStart (t : Tick) (l : Fin 16) (lane : Fin 2)
  /-- RECEIVE_RUN_COMPLETE (R310). -/
  | receiveRunComplete (t : Tick) (l : Fin 16) (openOff : Nat) (oldEye : Nat)
  /-- TRANSMIT_RUN_START (R311). -/
  | transmitRunStart (t : Tick) (l : Fin 16) (lane : Fin 3)
  /-- TRANSMIT_LOCK_TIMEOUT (R311). -/
  | transmitLockTimeout (t : Tick) (l : Fin 16)
  /-- REQUEST_CANCEL (R316). -/
  | requestCancel (t : Tick) (k : Kop) (slot : Fin 16)
  /-- REQUEST_ENCODER_CAL (R316). -/
  | requestEncoderCal (t : Tick) (k : Kop) (slot : Fin 16) (target : Nat) (deadline : Nat)
  /-- REQUEST_LANE_CAL (R316). -/
  | requestLaneCal (t : Tick) (k : Kop) (slot : Fin 16) (target : Nat) (deadline : Nat)
  /-- REQUEST_ELEMENT_SCAN (R316). -/
  | requestElementScan (t : Tick) (k : Kop) (slot : Fin 16) (target : Nat) (deadline : Nat)
  /-- REQUEST_MEMORY_TEST (R423). -/
  | requestMemoryTest (t : Tick) (k : Kop) (slot : Fin 16) (target : Nat) (deadline : Nat)
  /-- REQUEST_WINDOW_CHECK (R317). -/
  | requestWindowCheck (t : Tick) (slot : Fin 16)
  /-- REQUEST_DEADLINE (R317). -/
  | requestDeadline (t : Tick) (slot : Fin 16)
  /-- CALIBRATION_VALUE_WRITE (R314). -/
  | calibrationValueWrite (t : Tick) (k : Kop) (index : Nat) (sub : Nat) (v : Nat)
  /-- AUTO_CALIBRATION_WRITE (R304). -/
  | autoCalibrationWrite (t : Tick) (k : Kop) (index : Nat) (sub : Nat) (v : Nat)
  /-- HOST_LINK_UP (R321). -/
  | hostLinkUp (t : Tick) (x : PcsReport)
  /-- HOST_LINK_DOWN (R321). -/
  | hostLinkDown (t : Tick) (x : PcsReport)
  /-- PTP_MESSAGE (R323). -/
  | ptpMessage (t : Tick) (p : Fin 4) (m : PtpMsg)
  /-- HELLO (R328). -/
  | hello (t : Tick) (src : Sender) (m : HelloMsg)
  /-- PROOF (R328). -/
  | proof (t : Tick) (src : Sender) (hid : Nat) (sig : Nat)
  /-- HANDSHAKE_TIMEOUT (R328). -/
  | handshakeTimeout (t : Tick) (hid : Nat)
  /-- HEARTBEAT (R329). -/
  | heartbeat (t : Tick) (dg : Dgram)
  /-- CLOSE (R333). -/
  | close (t : Tick) (dg : Dgram)
  /-- ACK (R337). -/
  | ack (t : Tick) (dg : Dgram) (m : AckMsg)
  /-- ACK_SEND (R336). -/
  | ackSend (t : Tick) (sess : Fin 32)
  /-- RETRANSMIT (R338). -/
  | retransmit (t : Tick) (sess : Fin 32) (n : Nat)
  /-- LEASE_EXPIRY (R332). -/
  | leaseExpiry (t : Tick) (sess : Fin 32)
  /-- SESSION_EVICT (R333). -/
  | sessionEvict (t : Tick) (k : Kop) (idx : Fin 32)
  /-- OWNERSHIP_CLAIM (R345). -/
  | ownershipClaim (t : Tick) (k : Kop) (z : Fin 8)
  /-- OWNERSHIP_RELEASE (R345). -/
  | ownershipRelease (t : Tick) (k : Kop) (z : Fin 8)
  /-- OWNERSHIP_TAKE (R345). -/
  | ownershipTake (t : Tick) (k : Kop) (z : Fin 8)
  /-- OWNERSHIP_LAPSE (R346). -/
  | ownershipLapse (t : Tick) (z : Fin 8)
  /-- REGISTER_WRITE (R351). -/
  | registerWrite (t : Tick) (k : Kop) (index : Nat) (sub : Nat) (v : Nat)
  /-- TX_BEGIN (R371). -/
  | txBegin (t : Tick) (k : Kop)
  /-- TX_WRITE (R373). -/
  | txWrite (t : Tick) (k : Kop) (txid : Nat) (index : Nat) (sub : Nat) (v : Nat)
  /-- TX_READ (R373). -/
  | txRead (t : Tick) (k : Kop) (txid : Nat) (index : Nat) (sub : Nat)
  /-- TX_COMMIT (R375). -/
  | txCommit (t : Tick) (k : Kop) (txid : Nat) (limit : Nat)
  /-- TX_ABORT (R378). -/
  | txAbort (t : Tick) (k : Kop) (txid : Nat)
  /-- TX_STATUS (R360). -/
  | txStatus (t : Tick) (k : Kop) (txid : Nat)
  /-- COMMIT_APPLY (R375). -/
  | commitApply (t : Tick) (slot : Fin 8)
  /-- COMMIT_TIMEOUT (R378). -/
  | commitTimeout (t : Tick) (slot : Fin 8)
  /-- TRANSACTION_EXPIRY (R373). -/
  | transactionExpiry (t : Tick) (slot : Fin 8)
  /-- TRANSACTION_SLOT_ABORT (R378). -/
  | transactionSlotAbort (t : Tick) (k : Kop) (slot : Fin 8)
  /-- CAN_FRAME (R366). -/
  | canFrame (t : Tick) (f : Fin 2) (m : CanMsg)
  /-- CAN_REASSEMBLY_TIMEOUT (R366). -/
  | canReassemblyTimeout (t : Tick) (f : Fin 2) (host : Nat)
  /-- STORE_SAVE (R384). -/
  | storeSave (t : Tick) (k : Kop)
  /-- STORE_SAVE_RESTART (R386). -/
  | storeSaveRestart (t : Tick) (k : Kop)
  /-- STORE_ERASE (R386). -/
  | storeErase (t : Tick) (k : Kop)
  /-- SAVE_COMPLETE (R384). -/
  | saveComplete (t : Tick) (ok : Bool)
  /-- ENGINE_WATCHDOG (R406). -/
  | engineWatchdog (t : Tick) (e : Fin 8)
  /-- ENGINE_INVALID_OPERATION (R406). -/
  | engineInvalidOperation (t : Tick) (e : Fin 8)
  /-- ENGINE_RESTART (R406). -/
  | engineRestart (t : Tick) (e : Fin 8) (sig0 : Bool) (sig1 : Bool)
  /-- UNCORRECTABLE_WORD (R415). -/
  | uncorrectableWord (t : Tick) (w : MemWord)
  /-- REGION_TEST_START (R422). -/
  | regionTestStart (t : Tick)
  /-- REGION_TEST_COMPLETE (R417). -/
  | regionTestComplete (t : Tick) (faults : List CellFault) (singles : List Nat)
  /-- MEMORY_TEST_REGION (R423). -/
  | memoryTestRegion (t : Tick)
  /-- TRANSPARENT_TEST_WRITE (R397). -/
  | transparentTestWrite (t : Tick) (k : Kop) (v : Nat)
  /-- LIFE_CYCLE_REQUEST (R426). -/
  | lifeCycleRequest (t : Tick) (k : Kop) (r : LcReq) (stuck : List Nat)
  /-- OWNER_KEY_LOAD (R428). -/
  | ownerKeyLoad (t : Tick) (k : Kop) (r : OwnerRec)
  /-- HEAD_MAKER_LIST_REPLACE (R429). -/
  | headMakerListReplace (t : Tick) (k : Kop) (r : ListLoad)
  /-- HEAD_MAKER_LIST_ADD (R429). -/
  | headMakerListAdd (t : Tick) (k : Kop) (r : ListLoad)
  /-- HEAD_MAKER_LIST_REMOVE (R429). -/
  | headMakerListRemove (t : Tick) (k : Kop) (r : ListLoad)
  /-- TAMPER_DETECT (R431). -/
  | tamperDetect (t : Tick) (x : TamperReading) (stuck : List Nat)
  /-- TAMPER_CLEAR (R432). -/
  | tamperClear (t : Tick) (k : Kop) (active : Nat)
  /-- RECORD_COMMIT (R445). -/
  | recordCommit (t : Tick)
  /-- RECORDER_CLEAR (R449). -/
  | recorderClear (t : Tick) (k : Kop) (tok : ClearTok)
  /-- OPERATING_SECONDS_WRITE (R447). -/
  | operatingSecondsWrite (t : Tick)
  /-- CALENDAR_DISCIPLINE (R451). -/
  | calendarDiscipline (t : Tick)
  /-- CALENDAR_SET (R452). -/
  | calendarSet (t : Tick) (k : Kop) (v : Nat)
  /-- SNAPSHOT (R455). -/
  | snapshot (t : Tick) (k : Kop)
  /-- BOARD_SNAPSHOT (R455). -/
  | boardSnapshot (t : Tick) (k : Kop)
  /-- SNAPSHOT_PERIOD (R455). -/
  | snapshotPeriod (t : Tick)
  /-- SNAPSHOT_LATCH (R456). -/
  | snapshotLatch (t : Tick)
  /-- SNAPSHOT_BUFFER_SWAP (R456). -/
  | snapshotBufferSwap (t : Tick)
  /-- POWER_ON_RESET (R474). -/
  | powerOnReset (t : Tick) (p : PowerUp)
  /-- EXTERNAL_RESET (R463). -/
  | externalReset (t : Tick) (p : PowerUp)
  /-- RESTART (R465). -/
  | restart (t : Tick) (k : Kop)
  /-- DEBUG_RESET (R463). -/
  | debugReset (t : Tick) (p : PowerUp)
  /-- SUPPLY_OUT_OF_RANGE (R462). -/
  | supplyOutOfRange (t : Tick) (x : SupplyReading) (p : PowerUp)
  /-- CORE_SUPPLY_EXCURSION (R486). -/
  | coreSupplyExcursion (t : Tick) (supply : Nat) (begins : Bool) (uv : Nat)
  /-- CLOCK_LOSS (R467). -/
  | clockLoss (t : Tick) (x : ClockReading) (stuck : List Nat) (p : PowerUp)
  /-- LANE_PLL_LOSS (R467). -/
  | lanePllLoss (t : Tick) (port : Fin 20)
  /-- DIE_TEMPERATURE_SAMPLE (R468). -/
  | dieTemperatureSample (t : Tick) (temp : Int)
  /-- DEVICE_READY (R476). -/
  | deviceReady (t : Tick)
  /-- DOMAIN_RETENTION (R470). -/
  | domainRetention (t : Tick) (d : Fin 11)
  /-- DOMAIN_OFF (R470). -/
  | domainOff (t : Tick) (d : Fin 11)
  /-- DOMAIN_WAKE (R471). -/
  | domainWake (t : Tick) (d : Fin 11)
  /-- DOMAIN_WAKE_COMPLETE (R470). -/
  | domainWakeComplete (t : Tick) (x : Woken)
  /-- ORDERLY_POWER_DOWN (R477). -/
  | orderlyPowerDown (t : Tick) (k : Kop)
  /-- POWER_DOWN_PROGRESS (R477). -/
  | powerDownProgress (t : Tick)
  /-- BLOCK_LOCK_LOST (R199). -/
  | blockLockLost (t : Tick) (l : Fin 16) (x : LaneHeaders)
  /-- BLOCK_LOCK_GAINED (R199). -/
  | blockLockGained (t : Tick) (l : Fin 16) (x : LaneHeaders)
  /-- FEC_MODE_START (R213). -/
  | fecModeStart (t : Tick) (l : Fin 16)
  /-- CAN_BUS_ERROR (R362). -/
  | canBusError (t : Tick) (f : Fin 2) (transmit : Bool) (primary : Bool)
  /-- BUS_OFF_RECOVERY (R362). -/
  | busOffRecovery (t : Tick) (f : Fin 2)
  /-- TERMINATION_CALIBRATION_DONE (R311). -/
  | terminationCalibrationDone (t : Tick) (l : Fin 16) (code : Nat)
  /-- COMMANDED_RESET_TIMEOUT (R465). -/
  | commandedResetTimeout (t : Tick) (p : PowerUp)
  /-- ENGINE_RUNNING (R406). -/
  | engineRunning (t : Tick) (e : Fin 8)
  deriving DecidableEq, Repr

end Sys2Proof
end

