-- ==== Sys2Proof/Config.lean ====
section
/-! DEFINITION. What the manual leaves open: free values, constants without a body, so that nothing can be proved of what
they are. -/

namespace Sys2Proof.Config

/-- Count size in pu of a board position: the manual does not say how a receiver learns that of the sourcing channel. -/
opaque boardCountSize : Rat

/-- Abort codes less 1 of refused and of failed motion commands for which the manual names none: 0 planner not running, 1 stopped,
2 driver supply lost, 3 handshake failed. -/
opaque motionCode : Nat → Nat

/-- Receive setting and eye width that the adaptation of a link port at its bring-up finds (R313), each time afresh. -/
opaque adaptedSetting : Nat → Nat
opaque adaptedEye : Nat → Nat

/-- Rate correction in ppb that the steering of R163 takes, each time afresh: the manual gives its bound and its aim. -/
opaque steerRate : Nat → Int

/-- Credit below W − 16 that the controller gives while it holds a session back (R337), each time afresh. -/
opaque credit : Nat → Nat

/-- Numbers drawn from the on-chip random source (R427, R329). -/
opaque random : Nat → Nat

/-- Session keys wrapped under the session master secret (R427): AES-256 key wrapping is named without the form that gives 64 bytes. -/
opaque wrapped : Nat → Nat → Nat

/-- The private half of the device key, in fuses; the provisioning key in ROM (chapter 16). -/
opaque deviceKey : Nat
opaque provisioningKey : Nat

/-- Distance in ft beyond the least one at which a board snapshot is scheduled (R167), each time afresh. -/
opaque snapLead : Nat → Nat

/-- What a part is made with, by object key: grade, stepping, ROM version, addresses, maps of the silicon stepping. -/
opaque factory : Nat → Nat

/-- Quantities that the block measures on itself and that the manual leaves to the silicon, by object key and tick: power,
energy, engine load, store wear. -/
opaque measured : Nat → Nat → Nat

/-- What the levelling of the store makes of the erasures of its banks: the highest count of any block (R447). -/
opaque storeWear : List Nat → Nat

/-- The zone in whose stale-handle count a stale message enters that names none (R335), each time afresh. -/
opaque staleZone : Nat → Nat

/-- Words of the swept arrays, by array · 2^16 + word, in which one bit flips on a cycle of CLK_ENG (R415). -/
opaque softErrors : Nat → List Nat

/-- A slot that the recorder writes does not read back as written, by the number of the write (R447). -/
opaque slotFails : Nat → Bool

/-- Accesses that the firmware of the engines, the DMA unit and the hardware clients issue on a cycle of CLK_ENG. -/
opaque accesses : Nat → List Access

/-- What a read returns that meets a write of the same scratchpad word (R409), by cycle and scratchpad. -/
opaque undefinedRead : Nat → Nat → Nat

end Sys2Proof.Config
end

