-- ==== Sys2Proof/Machine/Bits.lean ====
section
/-! DEFINITION. Bit fields, sign extension, byte order (R16), exact rounding (R20), position differences (R139), the
checksums the manual names, and the canonical sparse maps that the state is built of. -/

namespace Sys2Proof.Machine

/-- Field of `len` bits from bit `lo` of `w`. -/
def fld (w lo len : Nat) : Nat := (w >>> lo) % 2 ^ len

/-- Bit `i` of `w` as a Boolean. -/
def bitOf (w i : Nat) : Bool := w.testBit i

/-- A Boolean as 0 or 1. -/
def b2n (b : Bool) : Nat := if b then 1 else 0

/-- `w` with its field of `len` bits at `lo` replaced. -/
def setFld (w lo len v : Nat) : Nat := w - (fld w lo len) * 2 ^ lo + (v % 2 ^ len) * 2 ^ lo

/-- Two's complement reading of the low `n` bits of `w`. -/
def sx (n w : Nat) : Int :=
  if w % 2 ^ n < 2 ^ (n - 1) then ((w % 2 ^ n : Nat) : Int) else ((w % 2 ^ n : Nat) : Int) - ((2 ^ n : Nat) : Int)

/-- The low `n` bits of the two's complement form of `i`. -/
def toU (n : Nat) (i : Int) : Nat := (i % ((2 ^ n : Nat) : Int)).toNat

/-- A POS48 value (R14): the signed 48-bit representative. -/
def pos48 (i : Int) : Int := sx 48 (toU 48 i)

/-- Comparison of positions goes through their signed 48-bit difference `a − b` (R139). -/
def pdiff (a b : Int) : Int := pos48 (a - b)

/-- Ceiling of `a / b`; 0 for `b = 0`. -/
def ceilDiv (a b : Nat) : Nat := if b = 0 then 0 else (a + b - 1) / b

/-- Round to nearest, half away from zero (R20). -/
def roundR (q : Rat) : Int := if 0 ≤ q then (q + 1 / 2).floor else -((1 / 2 - q).floor)

/-- Ceiling of a rational as a natural number, 0 below 0. -/
def ceilR (q : Rat) : Nat := q.ceil.toNat

/-- Clamp to an interval. -/
def clampI (x lo hi : Int) : Int := max lo (min x hi)

def clampR (x lo hi : Rat) : Rat := max lo (min x hi)

def absR (x : Rat) : Rat := if x < 0 then -x else x

/-- Little-endian bytes of `w`, `n` of them (R16). -/
def leBytes : Nat → Nat → List Nat
  | 0, _ => []
  | n + 1, w => (w % 256) :: leBytes n (w / 256)

/-- The number whose little-endian bytes are given (R16). -/
def ofBytes : List Nat → Nat
  | [] => 0
  | b :: bs => b % 256 + 256 * ofBytes bs

/-- `n` bytes of the number `w` from byte `off`. -/
def byteSlice (w off n : Nat) : Nat := fld w (8 * off) (8 * n)

/-- Fields packed one after another from bit 0, each given as (bits, value). -/
def packBits : List (Nat × Nat) → Nat
  | [] => 0
  | (n, v) :: r => v % 2 ^ n + 2 ^ n * packBits r

/-- One bit step of a reflected CRC register. -/
def crcStepR (poly c : Nat) : Nat → Nat
  | 0 => c
  | k + 1 => crcStepR poly (if c % 2 = 1 then (c / 2) ^^^ poly else c / 2) k

/-- Word of an on-chip array after an operation on it (R413): an ADD wraps, ADD32 leaves the other half unchanged. -/
def wordAfter (op : WordOp) (w : Nat) : Nat :=
  match op with
  | .read => w
  | .write v | .swap v => v % 2 ^ 64
  | .add32 upper v => setFld w (32 * b2n upper) 32 (fld w (32 * b2n upper) 32 + v)
  | .add64 v => (w + v) % 2 ^ 64

/-- CRC-32C (Castagnoli, reflected, initial and final all ones) continued from register `c`. -/
def crc32cFold (c : Nat) (bs : List Nat) : Nat :=
  bs.foldl (fun c b => crcStepR 0x82F63B78 (c ^^^ (b % 256)) 8) c

/-- CRC-32C of a byte string. -/
def crc32c (bs : List Nat) : Nat := (crc32cFold 0xFFFFFFFF bs) ^^^ 0xFFFFFFFF

/-- What a part of a byte string gives to the CRC register over the whole: the register is linear, so the parts may arrive in any
order. `zeros` bytes follow the part. -/
def crc32cPart (bs : List Nat) (zeros : Nat) : Nat := crc32cFold (crc32cFold 0 bs) (List.replicate zeros 0)

/-- The CRC-32C of `n` bytes whose parts have given `c`. -/
def crc32cJoin (n c : Nat) : Nat := (crc32cFold 0xFFFFFFFF (List.replicate n 0)) ^^^ c ^^^ 0xFFFFFFFF

/-- One bit step of a 16-bit CRC register, most significant bit first. -/
def crc16Step (c : Nat) : Nat → Nat
  | 0 => c
  | k + 1 => crc16Step (if c.testBit 15 then ((c * 2) ^^^ 0x1021) % 65536 else (c * 2) % 65536) k

/-- CRC-16 with polynomial 0x1021 and initial value 0xFFFF (R85). -/
def crc16 (bs : List Nat) : Nat := bs.foldl (fun c b => crc16Step (c ^^^ ((b % 256) * 256)) 8) 0xFFFF

/-- Number of ones among the low `n` bits. -/
def popBits : Nat → Nat → Nat
  | 0, _ => 0
  | n + 1, w => w % 2 + popBits n (w / 2)

/-- The word with bit 63 replaced by even parity over the whole word (R79). -/
def evenParity (w : Nat) : Nat :=
  let low := w % 2 ^ 63
  low + 2 ^ 63 * (popBits 63 low % 2)

/-- The numbers of the bits set among the low `n` bits, ascending. -/
def bitsSet (n w : Nat) : List Nat := (List.range n).filter fun i => w.testBit i

/-- Rank of bit `p` among the bits set of `w`, counted from the lowest. -/
def rankOf (w p : Nat) : Nat := popBits p w

/-- Integer square root, bit by bit from `2 ^ (k - 1)`. -/
def isqrtGo : Nat → Nat → Nat → Nat
  | 0, _, r => r
  | k + 1, n, r => isqrtGo k n (if (r + 2 ^ k) * (r + 2 ^ k) ≤ n then r + 2 ^ k else r)
def isqrt (n : Nat) : Nat := isqrtGo (Nat.log2 n / 2 + 1) n 0

/-- Integer square root, rounded to nearest: the nearest integer `r` to √n, exactly by comparison of squares. -/
def sqrtRound (n : Nat) : Nat :=
  let r := isqrt n
  if n > r * r + r then r + 1 else r

/-! ### Sparse maps

A map is a list of (key, value) pairs with keys strictly rising and no value equal to the default `d`, so that equal maps
are equal lists. -/

/-- A sparse map from natural numbers. -/
abbrev SMap (α : Type) := List (Nat × α)

/-- The value at a key; `d` where the map lists none. -/
def sget {α : Type} (d : α) : SMap α → Nat → α
  | [], _ => d
  | (k, v) :: m, a => if k = a then v else sget d m a

/-- Removal of a key. -/
def sdel {α : Type} : SMap α → Nat → SMap α
  | [], _ => []
  | (k, v) :: m, a => if k = a then m else (k, v) :: sdel m a

/-- Insertion in key order, over what stands there. -/
def sins {α : Type} : SMap α → Nat → α → SMap α
  | [], a, x => [(a, x)]
  | (k, v) :: m, a, x =>
    if a < k then (a, x) :: (k, v) :: m else if a = k then (a, x) :: m else (k, v) :: sins m a x

/-- Write of a value: writing the default removes the entry. -/
def sset {α : Type} [DecidableEq α] (d : α) (m : SMap α) (a : Nat) (x : α) : SMap α :=
  if x = d then sdel m a else sins m a x

/-- What the map lists at a key, if anything. -/
def sfind {α : Type} : SMap α → Nat → Option α
  | [], _ => none
  | (k, v) :: m, a => if k = a then some v else sfind m a

/-- The canonical form: keys strictly rising, no default listed. -/
abbrev smapWf {α : Type} [DecidableEq α] (d : α) (m : SMap α) : Prop :=
  m.Pairwise (fun x y => x.1 < y.1) ∧ ∀ x ∈ m, x.2 ≠ d

/-! ### Vectors by index -/

/-- Change one entry of a vector. -/
def vupd {α : Type} {n : Nat} (v : Vector α n) (i : Fin n) (f : α → α) : Vector α n := v.set i (f v[i])

/-- All indices of a vector, ascending. -/
def fins (n : Nat) : List (Fin n) := List.finRange n

/-- Sum of a list. -/
def sumN (xs : List Nat) : Nat := xs.foldl (· + ·) 0

end Sys2Proof.Machine
end

