-- ==== Sys2Proof/Machine/Dict.lean ====
section
/-! DEFINITION. The object dictionary: one row for each object (R349, R388, Tables 2.10 to 14.13), by the index block of
Table 14.1. `bnd` is the commit boundary of R374: 0 IMMEDIATE or a later point of the row, 1 ITEM(z), 2 IDLE(z),
3 RESTART. -/

namespace Sys2Proof.Machine

/-- A row of the dictionary: subindices, bytes, access (Table 13.2: 0 RO, 1 RW, 2 WO, 3 CMD, 4 RWS), role masks of reads
and writes (bit 0 V, 1 O, 2 J, 3 S, 4 K), default, whether the value is signed, fixed range, one further admitted
value, commit boundary, whether the object is a BLOB or STR. -/
structure ObjRow where
  s0   : Nat
  s1   : Nat
  bytes : Nat
  acc  : Nat
  rd   : Nat
  wr   : Nat
  dflt : Nat
  sgn  : Bool
  lo   : Int
  hi   : Int
  alt  : Option Nat
  bnd  : Nat
  blob : Bool
  deriving DecidableEq, Repr

/-- Objects of index block 0x1000. -/
def rows1000 : List ObjRow := [
  ⟨0x01, 0x01, 16, 0, 31, 31, 0x30343436434b4e, false, 0, 0, none, 0, true⟩,
  ⟨0x02, 0x02, 1, 0, 31, 31, 0, false, 0, 1, none, 0, false⟩,
  ⟨0x03, 0x03, 2, 0, 31, 31, 0, false, 0, 65535, none, 0, false⟩,
  ⟨0x04, 0x04, 8, 0, 31, 31, 0, false, 0, 18446744073709551615, none, 0, false⟩,
  ⟨0x05, 0x05, 4, 0, 31, 31, 0, false, 0, 4294967295, none, 0, false⟩,
  ⟨0x06, 0x06, 4, 0, 31, 31, 0, false, 0, 4294967295, none, 0, false⟩,
  ⟨0x07, 0x07, 4, 0, 31, 31, 0, false, 0, 4294967295, none, 0, false⟩,
  ⟨0x08, 0x08, 4, 0, 31, 31, 0, false, 0, 4294967295, none, 0, false⟩,
  ⟨0x09, 0x09, 32, 4, 8, 8, 0, false, 0, 0, none, 0, true⟩,
  ⟨0x0A, 0x0A, 1, 0, 31, 31, 0, false, 0, 1, none, 0, false⟩,
  ⟨0x0B, 0x0B, 2, 0, 31, 31, 0, false, 0, 65535, none, 0, false⟩,
  ⟨0x20, 0x20, 1, 3, 8, 8, 0, false, 1, 3, none, 3, false⟩,
  ⟨0x21, 0x21, 1, 0, 31, 31, 0, false, 0, 2, none, 0, false⟩,
  ⟨0x22, 0x22, 4, 0, 31, 31, 0, false, 0, 4294967295, none, 0, false⟩,
  ⟨0x23, 0x23, 1, 0, 31, 31, 1, false, 0, 3, none, 0, false⟩,
  ⟨0x24, 0x24, 2, 0, 31, 31, 0, false, 0, 65535, none, 0, false⟩,
  ⟨0x25, 0x25, 4, 0, 31, 31, 0, false, 0, 4294967295, none, 0, false⟩]

/-- Objects of index block 0x1F00. -/
def rows1F00 : List ObjRow := [
  ⟨0x01, 0x01, 1, 0, 31, 31, 0, false, 0, 255, none, 0, false⟩,
  ⟨0x02, 0x02, 4, 4, 8, 8, 2000, false, 200, 60000, none, 0, false⟩,
  ⟨0x03, 0x03, 2, 4, 8, 8, 512, false, 32, 2048, none, 0, false⟩,
  ⟨0x04, 0x04, 2, 4, 8, 8, 47100, false, 1024, 65535, none, 3, false⟩,
  ⟨0x05, 0x08, 4, 0, 31, 31, 0, false, 0, 4294967295, none, 0, false⟩]

/-- Objects of index block 0x1F20. -/
def rows1F20 : List ObjRow := [
  ⟨0x01, 0x01, 4, 0, 31, 31, 0, false, 0, 4294967295, none, 0, false⟩,
  ⟨0x02, 0x02, 8, 0, 31, 31, 0, false, 0, 18446744073709551615, none, 0, false⟩,
  ⟨0x03, 0x03, 1, 0, 31, 31, 0, false, 0, 255, none, 0, false⟩,
  ⟨0x04, 0x04, 4, 0, 31, 31, 0, false, 0, 4294967295, none, 0, false⟩,
  ⟨0x05, 0x05, 20, 0, 31, 31, 0, false, 0, 0, none, 0, true⟩,
  ⟨0x06, 0x06, 4, 0, 31, 31, 0, false, 0, 4294967295, none, 0, false⟩,
  ⟨0x07, 0x07, 4, 0, 31, 31, 0, false, 0, 4294967295, none, 0, false⟩,
  ⟨0x08, 0x08, 1, 3, 8, 8, 0, false, 1, 1, none, 0, false⟩]

/-- Objects of index block 0x1F40. -/
def rows1F40 : List ObjRow := [
  ⟨0x01, 0x01, 1, 4, 8, 8, 1, false, 0, 1, none, 3, false⟩,
  ⟨0x02, 0x02, 1, 4, 8, 8, 0, false, 0, 1, none, 3, false⟩,
  ⟨0x03, 0x03, 1, 4, 8, 8, 1, false, 0, 1, none, 3, false⟩,
  ⟨0x04, 0x04, 2, 4, 8, 8, 1500, false, 1280, 9000, none, 3, false⟩,
  ⟨0x05, 0x05, 6, 0, 31, 31, 0, false, 0, 0, none, 0, true⟩,
  ⟨0x06, 0x06, 4, 4, 8, 8, 0, false, 0, 4294967295, none, 3, false⟩,
  ⟨0x07, 0x07, 1, 4, 8, 8, 0, false, 0, 255, none, 3, false⟩,
  ⟨0x08, 0x08, 4, 4, 8, 8, 0, false, 0, 4294967295, none, 3, false⟩,
  ⟨0x09, 0x09, 16, 4, 8, 8, 0, false, 0, 0, none, 3, true⟩,
  ⟨0x0A, 0x0A, 1, 4, 8, 8, 0, false, 0, 255, none, 3, false⟩,
  ⟨0x0B, 0x0B, 16, 4, 8, 8, 0, false, 0, 0, none, 3, true⟩,
  ⟨0x0C, 0x0C, 2, 4, 8, 8, 0, false, 0, 4094, none, 3, false⟩,
  ⟨0x0D, 0x0D, 2, 4, 8, 8, 1399, false, 0, 4095, none, 3, false⟩,
  ⟨0x0E, 0x0E, 1, 0, 31, 31, 0, false, 0, 2, none, 0, false⟩,
  ⟨0x0F, 0x13, 8, 0, 31, 31, 0, false, 0, 18446744073709551615, none, 0, false⟩]

/-- Objects of index block 0x1F48. -/
def rows1F48 : List ObjRow := [
  ⟨0x01, 0x01, 1, 4, 8, 8, 1, false, 0, 2, none, 3, false⟩,
  ⟨0x02, 0x02, 1, 4, 8, 8, 0, false, 0, 127, none, 3, false⟩,
  ⟨0x03, 0x03, 1, 4, 8, 8, 15, false, 0, 15, none, 3, false⟩,
  ⟨0x04, 0x04, 1, 0, 31, 31, 0, false, 0, 4, none, 0, false⟩,
  ⟨0x05, 0x05, 4, 0, 31, 31, 0, true, (-2147483648), 2147483647, none, 0, false⟩,
  ⟨0x06, 0x06, 20, 0, 31, 31, 0, false, 0, 0, none, 0, true⟩,
  ⟨0x07, 0x07, 1, 0, 31, 31, 255, false, 0, 255, some 255, 0, false⟩]

/-- Objects of index block 0x1F50. -/
def rows1F50 : List ObjRow := [
  ⟨0x01, 0x01, 1, 4, 8, 8, 0, false, 0, 1, none, 3, false⟩,
  ⟨0x02, 0x02, 1, 4, 8, 8, 16, false, 0, 63, none, 3, false⟩,
  ⟨0x03, 0x03, 1, 4, 8, 8, 3, false, 0, 3, none, 3, false⟩,
  ⟨0x04, 0x04, 1, 4, 8, 8, 3, false, 0, 3, none, 3, false⟩,
  ⟨0x05, 0x05, 1, 0, 31, 31, 0, false, 0, 3, none, 0, false⟩,
  ⟨0x06, 0x07, 8, 0, 31, 31, 0, false, 0, 18446744073709551615, none, 0, false⟩,
  ⟨0x08, 0x08, 4, 0, 31, 31, 0, false, 0, 4294967295, none, 0, false⟩,
  ⟨0x09, 0x09, 4, 0, 31, 31, 0, false, 0, 4294967295, none, 0, false⟩]

/-- Objects of index block 0x1F80. -/
def rows1F80 : List ObjRow := [
  ⟨0x01, 0x01, 1, 0, 31, 31, 0, false, 0, 255, none, 0, false⟩,
  ⟨0x02, 0x02, 4, 1, 8, 8, 60000, false, 1, 600000, none, 0, false⟩,
  ⟨0x03, 0x03, 4, 1, 8, 8, 30000, false, 1000, 600000, none, 0, false⟩,
  ⟨0x04, 0x04, 4, 0, 31, 31, 0, false, 0, 4294967295, none, 0, false⟩,
  ⟨0x05, 0x05, 4, 0, 31, 31, 0, false, 0, 4294967295, none, 0, false⟩]

/-- Objects of index block 0x1F88. -/
def rows1F88 : List ObjRow := [
  ⟨0x01, 0x01, 4, 0, 31, 31, 0, false, 0, 4294967295, none, 0, false⟩,
  ⟨0x02, 0x02, 1, 0, 31, 31, 0, false, 0, 3, none, 0, false⟩,
  ⟨0x03, 0x03, 4, 0, 31, 31, 0, false, 0, 4294967295, none, 0, false⟩,
  ⟨0x04, 0x04, 2, 0, 31, 31, 0, false, 0, 65535, none, 0, false⟩,
  ⟨0x05, 0x05, 4, 0, 31, 31, 65280, false, 0, 4294967295, some 255, 0, false⟩,
  ⟨0x06, 0x06, 4, 0, 31, 31, 0, false, 0, 4294967295, none, 0, false⟩,
  ⟨0x07, 0x07, 1, 3, 8, 8, 0, false, 1, 1, none, 0, false⟩]

/-- Objects of index block 0x2000, part 0. -/
def rows2000_0 : List ObjRow := [
  ⟨0x01, 0x01, 8, 4, 8, 8, 0, false, 0, 18446744073709551615, none, 2, false⟩,
  ⟨0x02, 0x02, 1, 4, 8, 8, 0, false, 0, 255, none, 2, false⟩,
  ⟨0x03, 0x03, 32, 1, 12, 12, 0, false, 0, 0, none, 0, true⟩,
  ⟨0x04, 0x04, 1, 0, 15, 15, 1, false, 0, 3, none, 0, false⟩,
  ⟨0x05, 0x05, 1, 0, 15, 15, 0, false, 0, 255, none, 0, false⟩,
  ⟨0x10, 0x10, 1, 0, 15, 15, 0, false, 0, 4, none, 0, false⟩,
  ⟨0x11, 0x11, 1, 3, 14, 14, 0, false, 1, 3, none, 0, false⟩,
  ⟨0x12, 0x12, 2, 4, 12, 12, 64, false, 16, 4096, none, 2, false⟩,
  ⟨0x13, 0x13, 2, 4, 12, 12, 32, false, 1, 256, none, 1, false⟩,
  ⟨0x14, 0x14, 192, 4, 12, 12, 0x380000380000380000380000380000380000380000380001c00001c00001c00001c00001c00001c00001c00001c0000e00000e00000e00000e00000e00000e00000e00000e000070000070000070000070000070000070000070000070000380000380000380000380000380000380000380000380001c00001c00001c00001c00001c00001c00001c00001c0000e00000e00000e00000e00000e00000e00000e00000e00000000007000007000007000007000007000007000007000007, false, 0, 0, none, 1, true⟩,
  ⟨0x15, 0x15, 4, 4, 12, 12, 4096, false, 1, 16777215, none, 1, false⟩,
  ⟨0x16, 0x16, 1, 3, 8, 8, 0, false, 1, 1, none, 0, false⟩,
  ⟨0x17, 0x17, 4, 0, 15, 15, 0, false, 0, 4294967295, none, 0, false⟩,
  ⟨0x20, 0x20, 4, 4, 8, 8, 64, false, 0, 4096, none, 3, false⟩,
  ⟨0x21, 0x21, 4, 4, 12, 12, 512, false, 16, 65536, none, 1, false⟩,
  ⟨0x22, 0x22, 4, 0, 15, 15, 0, false, 0, 4294967295, none, 0, false⟩,
  ⟨0x23, 0x23, 4, 0, 15, 15, 0, false, 0, 4294967295, none, 0, false⟩,
  ⟨0x30, 0x30, 1, 4, 12, 12, 0, false, 0, 8, none, 2, false⟩,
  ⟨0x31, 0x31, 1, 4, 12, 12, 7, false, 0, 7, none, 1, false⟩,
  ⟨0x32, 0x32, 1, 4, 12, 12, 7, false, 1, 7, none, 1, false⟩,
  ⟨0x33, 0x33, 1, 4, 12, 12, 75, false, 50, 100, none, 1, false⟩,
  ⟨0x34, 0x34, 2, 4, 12, 12, 16, false, 0, 8192, none, 0, false⟩,
  ⟨0x35, 0x35, 1, 4, 12, 12, 2, false, 0, 255, none, 0, false⟩,
  ⟨0x36, 0x36, 4, 4, 12, 12, 0, false, 0, 524288, none, 0, false⟩,
  ⟨0x37, 0x37, 4, 0, 15, 15, 0, false, 0, 4294967295, none, 0, false⟩,
  ⟨0x38, 0x3F, 512, 4, 12, 12, 0, false, 0, 0, none, 1, true⟩,
  ⟨0x40, 0x40, 4, 0, 15, 15, 0, false, 0, 4294967295, none, 0, false⟩,
  ⟨0x41, 0x41, 4, 0, 15, 15, 0, false, 0, 4294967295, none, 0, false⟩,
  ⟨0x42, 0x42, 8, 0, 15, 15, 0, false, 0, 18446744073709551615, none, 0, false⟩,
  ⟨0x43, 0x43, 8, 0, 15, 15, 0, false, 0, 18446744073709551615, none, 0, false⟩]

/-- Objects of index block 0x2000, part 1. -/
def rows2000_1 : List ObjRow := [
  ⟨0x44, 0x44, 8, 0, 15, 15, 0, false, 0, 18446744073709551615, none, 0, false⟩,
  ⟨0x45, 0x45, 8, 0, 15, 15, 0, false, 0, 18446744073709551615, none, 0, false⟩,
  ⟨0x46, 0x46, 8, 0, 15, 15, 0, false, 0, 18446744073709551615, none, 0, false⟩,
  ⟨0x50, 0x50, 1, 4, 8, 8, 255, false, 0, 9, some 255, 2, false⟩,
  ⟨0x51, 0x51, 4, 4, 12, 12, 1040384, false, 1, 2147483648, none, 2, false⟩,
  ⟨0x52, 0x52, 2, 4, 12, 12, 375, false, 1, 65535, none, 2, false⟩,
  ⟨0x53, 0x53, 4, 4, 12, 12, 0, false, 0, 4294967295, none, 1, false⟩,
  ⟨0x54, 0x54, 2, 4, 12, 12, 0, false, 0, 255, none, 2, false⟩,
  ⟨0x55, 0x55, 4, 4, 12, 12, 50000, false, 0, 625000, none, 1, false⟩,
  ⟨0x56, 0x56, 4, 4, 12, 12, 0x3d0900, false, 1000, 8000000, none, 1, false⟩,
  ⟨0x57, 0x57, 4, 4, 12, 12, 20000, false, 1, 1000000, none, 1, false⟩,
  ⟨0x58, 0x58, 4, 4, 8, 8, 16384, true, 66, 65536, none, 2, false⟩,
  ⟨0x59, 0x59, 4, 4, 8, 8, 2048, true, 7, 32768, none, 2, false⟩,
  ⟨0x5A, 0x5A, 4, 4, 12, 12, 0, false, 0, 4294967295, none, 1, false⟩,
  ⟨0x5B, 0x5B, 1, 0, 15, 15, 0, false, 0, 4, none, 0, false⟩,
  ⟨0x5C, 0x5C, 6, 0, 15, 15, 0, true, (-140737488355328), 140737488355327, none, 0, false⟩,
  ⟨0x5D, 0x5D, 4, 0, 15, 15, 0, true, (-2147483648), 2147483647, none, 0, false⟩,
  ⟨0x5E, 0x5E, 6, 0, 15, 15, 0, true, (-140737488355328), 140737488355327, none, 0, false⟩,
  ⟨0x5F, 0x5F, 1, 4, 8, 8, 255, false, 0, 7, some 255, 2, false⟩,
  ⟨0x60, 0x60, 4, 4, 12, 12, 0, true, (-2147483648), 2147483647, none, 2, false⟩,
  ⟨0x61, 0x61, 2, 4, 12, 12, 1, false, 1, 4096, none, 2, false⟩,
  ⟨0x62, 0x62, 2, 0, 15, 15, 0, true, (-32768), 32767, none, 0, false⟩,
  ⟨0x63, 0x63, 8, 0, 15, 15, 0, false, 0, 18446744073709551615, none, 0, false⟩,
  ⟨0x64, 0x64, 8, 0, 15, 15, 0, false, 0, 18446744073709551615, none, 0, false⟩,
  ⟨0x65, 0x65, 4, 0, 15, 15, 0, false, 0, 4294967295, none, 0, false⟩,
  ⟨0x66, 0x66, 4, 0, 15, 15, 0, false, 0, 4294967295, none, 0, false⟩,
  ⟨0x67, 0x67, 16, 3, 12, 12, 0, false, 0, 0, none, 0, true⟩,
  ⟨0x70, 0x70, 1, 4, 8, 8, 0, false, 0, 1, none, 2, false⟩,
  ⟨0x71, 0x71, 1, 4, 8, 8, 255, false, 0, 7, some 255, 2, false⟩,
  ⟨0x72, 0x72, 1, 4, 8, 8, 255, false, 0, 7, some 255, 2, false⟩]

/-- Objects of index block 0x2000, part 2. -/
def rows2000_2 : List ObjRow := [
  ⟨0x78, 0x78, 8, 0, 31, 31, 0, false, 0, 18446744073709551615, none, 0, false⟩,
  ⟨0x79, 0x79, 4, 0, 31, 31, 0, false, 0, 4294967295, none, 0, false⟩,
  ⟨0x7A, 0x7A, 1, 3, 12, 12, 0, false, 1, 3, none, 0, false⟩,
  ⟨0x7B, 0x7B, 4, 4, 8, 8, 10000, false, 0, 600000, none, 0, false⟩,
  ⟨0x80, 0x8B, 8, 0, 15, 15, 0, false, 0, 18446744073709551615, none, 0, false⟩,
  ⟨0x8C, 0x8C, 8, 0, 15, 15, 0, false, 0, 18446744073709551615, none, 0, false⟩,
  ⟨0x8D, 0x8D, 72, 0, 15, 15, 0, false, 0, 0, none, 0, true⟩]

/-- Objects of index block 0x2000. -/
def rows2000 : List ObjRow := rows2000_0 ++ rows2000_1 ++ rows2000_2

/-- Objects of index block 0x2400. -/
def rows2400 : List ObjRow := [
  ⟨0x01, 0x01, 2, 3, 6, 6, 0, false, 0, 65535, none, 0, false⟩,
  ⟨0x02, 0x02, 40, 0, 15, 15, 0, false, 0, 0, none, 0, true⟩,
  ⟨0x03, 0x03, 2, 1, 15, 15, 65535, false, 0, 65535, none, 0, false⟩,
  ⟨0x04, 0x04, 2, 0, 15, 15, 0, false, 0, 65535, none, 0, false⟩,
  ⟨0x05, 0x05, 2, 0, 15, 15, 0, false, 0, 65535, none, 0, false⟩,
  ⟨0x06, 0x06, 4, 0, 15, 15, 0, false, 0, 4294967295, none, 0, false⟩,
  ⟨0x07, 0x07, 8, 0, 15, 15, 0, false, 0, 18446744073709551615, none, 0, false⟩]

/-- Objects of index block 0x2800. -/
def rows2800 : List ObjRow := [
  ⟨0x01, 0x01, 4, 4, 8, 8, 1024, false, 256, 8192, none, 3, false⟩,
  ⟨0x02, 0x02, 2, 1, 15, 15, 65535, false, 0, 65535, none, 0, false⟩,
  ⟨0x03, 0x03, 1, 0, 15, 15, 0, false, 0, 4, none, 0, false⟩,
  ⟨0x04, 0x04, 2, 0, 15, 15, 0, false, 0, 65535, none, 0, false⟩,
  ⟨0x05, 0x05, 2, 3, 12, 12, 0, false, 0, 65535, none, 0, false⟩,
  ⟨0x06, 0x06, 4, 1, 15, 15, 0xffffffff, false, 0, 4294967295, none, 0, false⟩,
  ⟨0x07, 0x07, 1, 0, 15, 15, 0, false, 0, 255, none, 0, false⟩,
  ⟨0x08, 0x08, 2, 0, 15, 15, 0, false, 0, 65535, none, 0, false⟩,
  ⟨0x09, 0x09, 4, 3, 14, 14, 0, false, 0, 4294967295, none, 0, false⟩,
  ⟨0x0A, 0x0A, 4, 0, 15, 15, 0, false, 0, 4294967295, none, 0, false⟩,
  ⟨0x0B, 0x0B, 4, 0, 15, 15, 0, false, 0, 4294967295, none, 0, false⟩,
  ⟨0x0C, 0x0C, 4, 0, 15, 15, 0, false, 0, 4294967295, none, 0, false⟩,
  ⟨0x0D, 0x0D, 4, 0, 15, 15, 0, false, 0, 4294967295, none, 0, false⟩,
  ⟨0x0E, 0x0E, 4, 0, 15, 15, 0, false, 0, 4294967295, none, 0, false⟩]

/-- Objects of index block 0x3000, part 0. -/
def rows3000_0 : List ObjRow := [
  ⟨0x01, 0x01, 1, 0, 15, 15, 0, false, 0, 4, none, 0, false⟩,
  ⟨0x02, 0x02, 368, 0, 15, 15, 0, false, 0, 0, none, 0, true⟩,
  ⟨0x03, 0x03, 1, 0, 15, 15, 1, false, 0, 7, none, 0, false⟩,
  ⟨0x04, 0x04, 1, 4, 8, 8, 0, false, 0, 1, none, 0, false⟩,
  ⟨0x05, 0x05, 4096, 0, 15, 15, 0, false, 0, 0, none, 0, true⟩,
  ⟨0x06, 0x06, 1, 0, 15, 15, 255, false, 0, 255, none, 0, false⟩,
  ⟨0x07, 0x07, 2, 0, 15, 15, 65535, false, 0, 65535, none, 0, false⟩,
  ⟨0x08, 0x08, 8, 0, 15, 15, 0, false, 0, 18446744073709551615, none, 0, false⟩,
  ⟨0x09, 0x09, 8, 0, 15, 15, 0, false, 0, 18446744073709551615, none, 0, false⟩,
  ⟨0x10, 0x10, 1, 0, 15, 15, 0, false, 0, 3, none, 0, false⟩,
  ⟨0x11, 0x11, 2, 0, 15, 15, 0, true, (-32768), 32767, none, 0, false⟩,
  ⟨0x12, 0x12, 2, 4, 12, 12, 0, true, (-400), 1200, none, 1, false⟩,
  ⟨0x13, 0x13, 2, 4, 12, 12, 30, false, 5, 200, none, 1, false⟩,
  ⟨0x14, 0x14, 4, 4, 8, 8, 1311, true, 0, 65536, none, 0, false⟩,
  ⟨0x15, 0x15, 4, 4, 8, 8, 33, true, 0, 6553, none, 0, false⟩,
  ⟨0x16, 0x16, 4, 0, 15, 15, 0, false, 0, 4294967295, none, 0, false⟩,
  ⟨0x17, 0x17, 4, 0, 15, 15, 0, false, 0, 4294967295, none, 0, false⟩,
  ⟨0x20, 0x20, 1, 0, 15, 15, 0, false, 0, 2, none, 0, false⟩,
  ⟨0x21, 0x21, 4, 4, 12, 12, 600, false, 0, 86400, none, 0, false⟩,
  ⟨0x22, 0x22, 1, 3, 14, 14, 0, false, 1, 2, none, 0, false⟩,
  ⟨0x23, 0x23, 2, 4, 8, 8, 0, false, 500, 5000, some 0, 0, false⟩,
  ⟨0x24, 0x24, 2, 4, 8, 8, 150, false, 110, 400, none, 0, false⟩,
  ⟨0x25, 0x25, 2, 4, 8, 8, 50, false, 10, 90, none, 0, false⟩,
  ⟨0x26, 0x26, 2, 4, 8, 8, 80, false, 20, 500, none, 0, false⟩,
  ⟨0x27, 0x27, 4, 4, 8, 8, 0, false, 0, 100000, none, 0, false⟩,
  ⟨0x28, 0x28, 8, 0, 15, 15, 0, false, 0, 18446744073709551615, none, 0, false⟩,
  ⟨0x29, 0x29, 4, 0, 15, 15, 0, false, 0, 4294967295, none, 0, false⟩,
  ⟨0x2A, 0x2A, 16384, 0, 15, 15, 0, false, 0, 0, none, 0, true⟩,
  ⟨0x2B, 0x2B, 16384, 0, 15, 15, 0, false, 0, 0, none, 0, true⟩,
  ⟨0x40, 0x43, 8, 4, 12, 12, 0, false, 0, 18446744073709551615, none, 2, false⟩]

/-- Objects of index block 0x3000, part 1. -/
def rows3000_1 : List ObjRow := [
  ⟨0x44, 0x47, 2, 4, 12, 12, 65535, false, 0, 255, some 65535, 2, false⟩,
  ⟨0x48, 0x4B, 4, 4, 12, 12, 0x1f58d1, false, 0, 2097151, none, 2, false⟩,
  ⟨0x4C, 0x4C, 2, 1, 15, 15, 0, false, 0, 32767, none, 0, false⟩,
  ⟨0x4D, 0x4D, 1, 4, 15, 12, 0, false, 0, 255, none, 1, false⟩,
  ⟨0x4E, 0x4E, 8192, 0, 15, 15, 0, false, 0, 0, none, 0, true⟩,
  ⟨0x4F, 0x4F, 4, 0, 15, 15, 0, false, 0, 4294967295, none, 0, false⟩,
  ⟨0x50, 0x50, 1, 0, 15, 15, 0, false, 0, 1, none, 0, false⟩,
  ⟨0x51, 0x54, 4, 0, 15, 15, 0, false, 0, 4294967295, none, 0, false⟩,
  ⟨0x60, 0x63, 4, 4, 12, 12, 0, true, (-2147483648), 2147483647, none, 1, false⟩,
  ⟨0x64, 0x67, 4, 4, 12, 12, 0, true, (-250000), 250000, none, 1, false⟩,
  ⟨0x68, 0x6B, 16, 4, 12, 12, 0, false, 0, 0, none, 1, true⟩,
  ⟨0x70, 0x70, 32, 4, 12, 12, 0x478046804580448043804280418040803f803e803d803c803b803a8039803880, false, 0, 0, none, 1, true⟩,
  ⟨0x71, 0x71, 2, 4, 12, 12, 16384, false, 13107, 19661, none, 1, false⟩,
  ⟨0x72, 0x72, 32, 0, 15, 15, 0, false, 0, 0, none, 0, true⟩,
  ⟨0x73, 0x73, 280, 0, 15, 15, 0, false, 0, 0, none, 0, true⟩,
  ⟨0x74, 0x74, 4, 0, 15, 15, 0, false, 0, 4294967295, none, 0, false⟩,
  ⟨0x75, 0x75, 1, 0, 15, 15, 1, false, 0, 4, none, 0, false⟩,
  ⟨0x76, 0x76, 8, 0, 15, 15, 0, false, 0, 18446744073709551615, none, 0, false⟩,
  ⟨0x77, 0x77, 8, 0, 15, 15, 0, false, 0, 18446744073709551615, none, 0, false⟩]

/-- Objects of index block 0x3000. -/
def rows3000 : List ObjRow := rows3000_0 ++ rows3000_1

/-- Objects of index block 0x3800, part 0. -/
def rows3800_0 : List ObjRow := [
  ⟨0x01, 0x01, 1, 0, 15, 15, 0, false, 0, 5, none, 0, false⟩,
  ⟨0x02, 0x02, 1, 0, 15, 15, 0, false, 0, 255, none, 0, false⟩,
  ⟨0x03, 0x03, 1, 4, 8, 8, 0, false, 0, 63, none, 3, false⟩,
  ⟨0x04, 0x04, 1, 4, 8, 8, 0, false, 0, 1, none, 3, false⟩,
  ⟨0x05, 0x05, 1, 0, 15, 15, 0, false, 0, 4, none, 0, false⟩,
  ⟨0x06, 0x06, 1, 0, 15, 15, 0, false, 0, 255, none, 0, false⟩,
  ⟨0x07, 0x07, 1, 3, 10, 10, 0, false, 1, 1, none, 0, false⟩,
  ⟨0x08, 0x08, 4, 0, 15, 15, 0, false, 0, 4294967295, none, 0, false⟩,
  ⟨0x09, 0x09, 4, 0, 15, 15, 0, false, 0, 4294967295, none, 0, false⟩,
  ⟨0x0A, 0x0A, 4, 0, 15, 15, 0, false, 0, 4294967295, none, 0, false⟩,
  ⟨0x0B, 0x0B, 1, 0, 15, 15, 4, false, 0, 255, none, 0, false⟩,
  ⟨0x0C, 0x0C, 1, 3, 8, 8, 0, false, 0, 2, none, 0, false⟩,
  ⟨0x0D, 0x0D, 8, 0, 15, 15, 0, false, 0, 18446744073709551615, none, 0, false⟩,
  ⟨0x0E, 0x0E, 8, 0, 15, 15, 0, false, 0, 18446744073709551615, none, 0, false⟩,
  ⟨0x0F, 0x0F, 4, 0, 15, 15, 0, false, 0, 4294967295, none, 0, false⟩,
  ⟨0x10, 0x10, 1, 3, 8, 8, 0, false, 1, 1, none, 0, false⟩,
  ⟨0x40, 0x40, 1, 3, 14, 14, 0, false, 0, 2, none, 0, false⟩,
  ⟨0x41, 0x41, 1, 0, 15, 15, 0, false, 0, 5, none, 0, false⟩,
  ⟨0x42, 0x42, 1, 0, 15, 15, 0, false, 0, 6, none, 0, false⟩,
  ⟨0x43, 0x43, 2, 4, 8, 8, 20000, false, 18000, 42000, none, 2, false⟩,
  ⟨0x44, 0x44, 2, 4, 8, 8, 30000, false, 0, 65535, none, 2, false⟩,
  ⟨0x45, 0x45, 4, 4, 8, 8, 1000, false, 100, 100000, none, 0, false⟩,
  ⟨0x46, 0x46, 2, 4, 8, 8, 100, false, 10, 2000, none, 0, false⟩,
  ⟨0x47, 0x47, 2, 4, 8, 8, 10, false, 1, 100, none, 0, false⟩,
  ⟨0x48, 0x48, 2, 4, 8, 8, 20, false, 1, 200, none, 0, false⟩,
  ⟨0x49, 0x49, 2, 4, 8, 8, 600, false, 10, 10000, none, 0, false⟩,
  ⟨0x4A, 0x4A, 1, 4, 12, 12, 0, false, 0, 2, none, 1, false⟩,
  ⟨0x4B, 0x4B, 4, 4, 12, 12, 0, false, 0, 500000, none, 1, false⟩,
  ⟨0x4C, 0x4C, 4, 0, 15, 15, 0, false, 0, 4294967295, none, 0, false⟩,
  ⟨0x4D, 0x4D, 2, 0, 15, 15, 0, false, 0, 65535, none, 0, false⟩]

/-- Objects of index block 0x3800, part 1. -/
def rows3800_1 : List ObjRow := [
  ⟨0x4E, 0x4E, 4, 0, 15, 15, 0, true, (-2147483648), 2147483647, none, 0, false⟩,
  ⟨0x4F, 0x4F, 4, 0, 15, 15, 0, false, 0, 4294967295, none, 0, false⟩]

/-- Objects of index block 0x3800. -/
def rows3800 : List ObjRow := rows3800_0 ++ rows3800_1

/-- Objects of index block 0x3801. -/
def rows3801 : List ObjRow := [
  ⟨0x01, 0x01, 1, 0, 15, 15, 0, false, 0, 255, none, 0, false⟩,
  ⟨0x02, 0x02, 32, 0, 15, 15, 0, false, 0, 0, none, 0, true⟩,
  ⟨0x03, 0x03, 1, 0, 15, 15, 255, false, 0, 255, some 255, 0, false⟩,
  ⟨0x04, 0x04, 4, 0, 15, 15, 0, false, 0, 4294967295, none, 0, false⟩,
  ⟨0x05, 0x05, 4, 0, 15, 15, 0, false, 0, 4294967295, none, 0, false⟩,
  ⟨0x06, 0x06, 2, 0, 15, 15, 0, true, (-32768), 32767, none, 0, false⟩,
  ⟨0x07, 0x07, 16, 0, 15, 15, 0, false, 0, 0, none, 0, true⟩]

/-- Objects of index block 0x4000, part 0. -/
def rows4000_0 : List ObjRow := [
  ⟨0x01, 0x01, 1, 4, 8, 8, 0, false, 0, 3, none, 2, false⟩,
  ⟨0x02, 0x02, 1, 4, 8, 8, 0, false, 0, 1, none, 2, false⟩,
  ⟨0x03, 0x03, 4, 4, 8, 8, 1, false, 1, 2147483648, none, 2, false⟩,
  ⟨0x04, 0x04, 4, 4, 8, 8, 1, false, 1, 2147483648, none, 2, false⟩,
  ⟨0x05, 0x05, 1, 4, 8, 8, 16, false, 0, 255, none, 2, false⟩,
  ⟨0x06, 0x06, 4, 4, 8, 8, 0, false, 0, 4294967295, none, 2, false⟩,
  ⟨0x07, 0x07, 1, 4, 8, 8, 1, false, 0, 1, none, 2, false⟩,
  ⟨0x08, 0x08, 1, 4, 8, 8, 0, false, 0, 1, none, 2, false⟩,
  ⟨0x09, 0x09, 8, 4, 8, 8, 0, true, (-9223372036854775808), 9223372036854775807, none, 2, false⟩,
  ⟨0x0A, 0x0A, 1, 4, 8, 8, 1, false, 0, 255, none, 2, false⟩,
  ⟨0x0B, 0x0B, 4, 4, 12, 12, 0x3d0900, false, 1000, 8000000, none, 0, false⟩,
  ⟨0x0C, 0x0C, 4, 4, 12, 12, 1000, false, 10, 100000, none, 0, false⟩,
  ⟨0x0D, 0x0D, 4, 4, 8, 8, 263769, false, 0, 524287, none, 2, false⟩,
  ⟨0x0E, 0x0E, 4, 4, 8, 8, 2000, false, 100, 10000, none, 2, false⟩,
  ⟨0x0F, 0x0F, 4, 4, 8, 8, 50000, false, 2000, 1000000, none, 2, false⟩,
  ⟨0x10, 0x10, 2, 4, 8, 8, 20, false, 1, 100, none, 2, false⟩,
  ⟨0x11, 0x11, 4, 4, 8, 8, 0, false, 0, 125000, none, 2, false⟩,
  ⟨0x12, 0x12, 4, 4, 8, 8, 1024, false, 1, 2147483648, none, 2, false⟩,
  ⟨0x13, 0x13, 2, 4, 8, 8, 1024, false, 4, 4096, none, 2, false⟩,
  ⟨0x14, 0x14, 1, 0, 15, 15, 0, false, 0, 4, none, 0, false⟩,
  ⟨0x15, 0x15, 1, 0, 15, 15, 0, false, 0, 9, none, 0, false⟩,
  ⟨0x16, 0x16, 1, 3, 14, 14, 0, false, 1, 1, none, 0, false⟩,
  ⟨0x17, 0x17, 8, 3, 8, 8, 0, true, (-9223372036854775808), 9223372036854775807, none, 0, false⟩,
  ⟨0x18, 0x18, 8, 0, 15, 15, 0, true, (-9223372036854775808), 9223372036854775807, none, 0, false⟩,
  ⟨0x19, 0x19, 6, 0, 15, 15, 0, true, (-140737488355328), 140737488355327, none, 0, false⟩,
  ⟨0x1A, 0x1A, 4, 0, 15, 15, 0, true, (-2147483648), 2147483647, none, 0, false⟩,
  ⟨0x1B, 0x1B, 2, 0, 15, 15, 0, false, 0, 65535, none, 0, false⟩,
  ⟨0x1C, 0x1C, 8, 0, 15, 15, 0, true, (-9223372036854775808), 9223372036854775807, none, 0, false⟩,
  ⟨0x1D, 0x1D, 8, 0, 15, 15, 0, true, (-9223372036854775808), 9223372036854775807, none, 0, false⟩,
  ⟨0x1E, 0x1E, 4, 0, 15, 15, 0, false, 0, 4294967295, none, 0, false⟩]

/-- Objects of index block 0x4000, part 1. -/
def rows4000_1 : List ObjRow := [
  ⟨0x1F, 0x1F, 4, 0, 15, 15, 0, false, 0, 4294967295, none, 0, false⟩,
  ⟨0x20, 0x20, 4, 0, 15, 15, 0, false, 0, 4294967295, none, 0, false⟩,
  ⟨0x21, 0x21, 2, 0, 15, 15, 0, false, 0, 65535, none, 0, false⟩]

/-- Objects of index block 0x4000. -/
def rows4000 : List ObjRow := rows4000_0 ++ rows4000_1

/-- Objects of index block 0x4800. -/
def rows4800 : List ObjRow := [
  ⟨0x01, 0x01, 1, 4, 12, 12, 0, false, 0, 1, none, 1, false⟩,
  ⟨0x02, 0x02, 4, 4, 12, 12, 1000, false, 0, 100000, none, 1, false⟩,
  ⟨0x03, 0x03, 6, 4, 12, 12, 0, true, (-140737488355328), 140737488355327, none, 1, false⟩,
  ⟨0x04, 0x04, 4, 4, 12, 12, 0, false, 0, 4294967295, none, 1, false⟩,
  ⟨0x05, 0x05, 4, 4, 12, 12, 0, false, 0, 4294967295, none, 1, false⟩,
  ⟨0x06, 0x06, 4, 4, 12, 12, 0, false, 0, 4294967295, none, 1, false⟩,
  ⟨0x07, 0x07, 6, 0, 15, 15, 0, true, (-140737488355328), 140737488355327, none, 0, false⟩,
  ⟨0x08, 0x08, 8, 0, 15, 15, 0, false, 0, 18446744073709551615, none, 0, false⟩,
  ⟨0x09, 0x09, 4, 0, 15, 15, 0, false, 0, 4294967295, none, 0, false⟩,
  ⟨0x0A, 0x0A, 4, 0, 15, 15, 0, false, 0, 4294967295, none, 0, false⟩,
  ⟨0x0B, 0x0B, 4, 0, 15, 15, 0, false, 0, 4294967295, none, 0, false⟩,
  ⟨0x0C, 0x0C, 4, 0, 15, 15, 0, false, 0, 4294967295, none, 0, false⟩]

/-- Objects of index block 0x4880. -/
def rows4880 : List ObjRow := [
  ⟨0x01, 0x01, 1, 0, 15, 15, 0, false, 0, 1, none, 0, false⟩,
  ⟨0x02, 0x02, 1, 4, 8, 8, 0, false, 0, 1, none, 0, false⟩,
  ⟨0x03, 0x03, 2, 4, 8, 8, 100, false, 0, 10000, none, 0, false⟩,
  ⟨0x04, 0x04, 1, 4, 8, 8, 0, false, 0, 3, none, 0, false⟩,
  ⟨0x05, 0x05, 1, 4, 8, 8, 255, false, 0, 7, some 255, 0, false⟩,
  ⟨0x06, 0x06, 4, 0, 15, 15, 0, false, 0, 4294967295, none, 0, false⟩,
  ⟨0x07, 0x07, 8, 0, 15, 15, 0, false, 0, 18446744073709551615, none, 0, false⟩]

/-- Objects of index block 0x4900. -/
def rows4900 : List ObjRow := [
  ⟨0x01, 0x01, 6, 4, 12, 12, 0, true, (-140737488355328), 140737488355327, none, 2, false⟩,
  ⟨0x02, 0x02, 4, 4, 12, 12, 2000, false, 0, 100000, none, 0, false⟩,
  ⟨0x03, 0x03, 4, 4, 12, 12, 5000, false, 100, 1000000, none, 0, false⟩,
  ⟨0x04, 0x04, 4, 4, 12, 12, 0, false, 0, 4294967295, none, 0, false⟩,
  ⟨0x05, 0x05, 1, 4, 8, 8, 0, false, 0, 1, none, 2, false⟩,
  ⟨0x06, 0x06, 1, 0, 15, 15, 0, false, 0, 1, none, 0, false⟩,
  ⟨0x07, 0x07, 4, 0, 15, 15, 0, false, 0, 4294967295, none, 0, false⟩,
  ⟨0x08, 0x08, 4, 0, 15, 15, 0, false, 0, 4294967295, none, 0, false⟩,
  ⟨0x09, 0x09, 1, 0, 15, 15, 0, false, 0, 1, none, 0, false⟩,
  ⟨0x0A, 0x0A, 1, 3, 8, 8, 0, false, 1, 1, none, 0, false⟩,
  ⟨0x0B, 0x0B, 4, 0, 15, 15, 0, false, 0, 4294967295, none, 0, false⟩]

/-- Objects of index block 0x5000. -/
def rows5000 : List ObjRow := [
  ⟨0x01, 0x01, 1, 0, 15, 15, 0, false, 0, 7, none, 0, false⟩,
  ⟨0x02, 0x02, 2, 0, 15, 15, 2, false, 0, 65535, none, 0, false⟩,
  ⟨0x03, 0x03, 8, 0, 15, 15, 0, true, (-9223372036854775808), 9223372036854775807, none, 0, false⟩,
  ⟨0x04, 0x04, 4, 0, 15, 15, 0, true, (-2147483648), 2147483647, none, 0, false⟩,
  ⟨0x05, 0x05, 1, 3, 14, 14, 0, false, 0, 1, none, 0, false⟩,
  ⟨0x06, 0x06, 8, 3, 14, 14, 0, true, (-9223372036854775808), 9223372036854775807, none, 0, false⟩,
  ⟨0x07, 0x07, 8, 3, 14, 14, 0, true, (-9223372036854775808), 9223372036854775807, none, 0, false⟩,
  ⟨0x08, 0x08, 1, 3, 15, 15, 0, false, 1, 1, none, 0, false⟩,
  ⟨0x09, 0x09, 1, 3, 14, 14, 0, false, 1, 1, none, 0, false⟩,
  ⟨0x0A, 0x0A, 1, 3, 14, 14, 0, false, 0, 1, none, 0, false⟩,
  ⟨0x0B, 0x0B, 1, 3, 14, 14, 0, false, 1, 1, none, 0, false⟩,
  ⟨0x0C, 0x0C, 8, 3, 8, 8, 0, true, (-9223372036854775808), 9223372036854775807, none, 0, false⟩,
  ⟨0x0D, 0x0D, 1, 3, 14, 14, 0, false, 1, 1, none, 0, false⟩,
  ⟨0x10, 0x10, 4, 1, 12, 12, 100000, false, 1, 5000000, none, 0, false⟩,
  ⟨0x11, 0x11, 4, 1, 12, 12, 1000000, false, 1, 1000000000, none, 0, false⟩,
  ⟨0x12, 0x12, 4, 1, 12, 12, 1000000, false, 1, 1000000000, none, 0, false⟩,
  ⟨0x13, 0x13, 4, 1, 12, 12, 0x3d0900, false, 1, 1000000000, none, 0, false⟩,
  ⟨0x14, 0x16, 4, 0, 15, 15, 0, false, 0, 4294967295, none, 0, false⟩,
  ⟨0x17, 0x17, 8, 1, 12, 12, 0xffff800000000000, true, (-9223372036854775808), 9223372036854775807, none, 0, false⟩,
  ⟨0x18, 0x18, 8, 1, 12, 12, 0x7fffffffffff, true, (-9223372036854775808), 9223372036854775807, none, 0, false⟩,
  ⟨0x19, 0x19, 4, 4, 8, 8, 0xa0a0e0, false, 0, 4294967295, none, 0, false⟩,
  ⟨0x1A, 0x1A, 2, 1, 12, 12, 256, false, 1, 256, none, 0, false⟩,
  ⟨0x1B, 0x1B, 1, 1, 12, 12, 0, false, 0, 1, none, 0, false⟩,
  ⟨0x1C, 0x1C, 4, 1, 12, 12, 10000, false, 1, 5000000, none, 0, false⟩,
  ⟨0x1D, 0x1D, 8, 1, 12, 12, 0, true, (-9223372036854775808), 9223372036854775807, none, 0, false⟩,
  ⟨0x1E, 0x1E, 2, 1, 8, 8, 10, false, 1, 1000, none, 0, false⟩,
  ⟨0x1F, 0x1F, 1, 4, 8, 8, 255, false, 0, 3, some 255, 0, false⟩,
  ⟨0x20, 0x20, 8, 0, 15, 15, 0, false, 0, 18446744073709551615, none, 0, false⟩,
  ⟨0x21, 0x21, 4, 0, 15, 15, 0, true, (-2147483648), 2147483647, none, 0, false⟩]

/-- Objects of index block 0x5200. -/
def rows5200 : List ObjRow := [
  ⟨0x01, 0x01, 64, 3, 14, 14, 0, false, 0, 0, none, 0, true⟩,
  ⟨0x02, 0x02, 1, 3, 15, 15, 0, false, 1, 1, none, 0, false⟩,
  ⟨0x03, 0x03, 1, 0, 15, 15, 0, false, 0, 255, none, 0, false⟩,
  ⟨0x04, 0x04, 1, 0, 15, 15, 0, false, 0, 2, none, 0, false⟩]

/-- Objects of index block 0x6000. -/
def rows6000 : List ObjRow := [
  ⟨0x01, 0x01, 1, 0, 15, 15, 0, false, 0, 255, none, 0, false⟩]

/-- Objects of index block 0x6010. -/
def rows6010 : List ObjRow := [
  ⟨0x01, 0x01, 16, 3, 14, 14, 0, false, 0, 0, none, 0, true⟩,
  ⟨0x02, 0x02, 4, 0, 15, 15, 0, false, 0, 4294967295, none, 0, false⟩]

/-- Objects of index block 0x6100. -/
def rows6100 : List ObjRow := [
  ⟨0x01, 0x01, 1, 1, 8, 8, 1, false, 0, 1, none, 0, false⟩,
  ⟨0x02, 0x02, 2, 1, 8, 8, 150, false, 20, 500, none, 0, false⟩,
  ⟨0x03, 0x03, 4, 1, 8, 8, 60000, false, 100, 600000, none, 0, false⟩,
  ⟨0x04, 0x04, 2, 1, 8, 8, 16, false, 1, 256, none, 0, false⟩,
  ⟨0x05, 0x05, 4, 1, 8, 8, 5000, false, 10, 600000, none, 0, false⟩,
  ⟨0x06, 0x06, 12, 1, 15, 8, 0x1388138800000000, false, 0, 0, none, 0, true⟩,
  ⟨0x07, 0x07, 2, 0, 15, 15, 5000, false, 0, 65535, none, 0, false⟩,
  ⟨0x08, 0x08, 2, 0, 15, 15, 65535, false, 0, 65535, none, 0, false⟩,
  ⟨0x09, 0x09, 1, 0, 15, 15, 0, false, 0, 5, none, 0, false⟩,
  ⟨0x0A, 0x0A, 1, 0, 15, 15, 0, false, 0, 255, none, 0, false⟩,
  ⟨0x0B, 0x0B, 2, 0, 15, 15, 0, true, (-32768), 32767, none, 0, false⟩,
  ⟨0x0C, 0x0C, 4, 0, 15, 15, 0, false, 0, 4294967295, none, 0, false⟩,
  ⟨0x0D, 0x0D, 4, 0, 15, 15, 0, false, 0, 4294967295, none, 0, false⟩]

/-- Objects of index block 0x6200. -/
def rows6200 : List ObjRow := [
  ⟨0x01, 0x01, 1, 1, 8, 8, 1, false, 0, 1, none, 0, false⟩,
  ⟨0x02, 0x02, 2, 1, 8, 8, 100, false, 20, 500, none, 0, false⟩,
  ⟨0x03, 0x03, 1, 1, 8, 8, 20, false, 8, 48, none, 0, false⟩,
  ⟨0x04, 0x05, 2, 1, 15, 8, 8, false, 0, 1023, none, 0, false⟩,
  ⟨0x06, 0x07, 1, 0, 15, 15, 0, false, 0, 255, none, 0, false⟩,
  ⟨0x08, 0x0A, 1, 1, 15, 8, 32, false, 8, 56, none, 0, false⟩,
  ⟨0x0B, 0x0B, 1, 0, 15, 15, 0, false, 0, 5, none, 0, false⟩,
  ⟨0x0C, 0x0C, 1, 0, 15, 15, 0, false, 0, 255, none, 0, false⟩,
  ⟨0x0D, 0x0D, 1, 0, 15, 15, 0, false, 0, 255, none, 0, false⟩,
  ⟨0x0E, 0x0E, 4, 0, 15, 15, 0, false, 0, 4294967295, none, 0, false⟩,
  ⟨0x0F, 0x0F, 4, 0, 15, 15, 0, false, 0, 4294967295, none, 0, false⟩]

/-- Objects of index block 0x7000. -/
def rows7000 : List ObjRow := [
  ⟨0x01, 0x01, 1, 1, 8, 8, 1, false, 0, 1, none, 0, false⟩,
  ⟨0x02, 0x02, 4, 1, 8, 8, 2000, false, 100, 60000, none, 0, false⟩,
  ⟨0x03, 0x03, 4, 0, 15, 15, 0, false, 0, 4294967295, none, 0, false⟩,
  ⟨0x04, 0x04, 4, 0, 15, 15, 0, false, 0, 4294967295, none, 0, false⟩,
  ⟨0x05, 0x05, 4, 0, 15, 15, 0, false, 0, 4294967295, none, 0, false⟩,
  ⟨0x06, 0x06, 4, 0, 15, 15, 0, false, 0, 4294967295, none, 0, false⟩,
  ⟨0x07, 0x07, 4, 0, 15, 15, 0, false, 0, 4294967295, none, 0, false⟩,
  ⟨0x08, 0x08, 4, 0, 15, 15, 0, false, 0, 4294967295, none, 0, false⟩,
  ⟨0x09, 0x09, 4, 0, 15, 15, 0, false, 0, 4294967295, none, 0, false⟩,
  ⟨0x0A, 0x0A, 8, 0, 15, 15, 0xffffffffffffffff, false, 0, 18446744073709551615, none, 0, false⟩]

/-- Objects of index block 0x7010. -/
def rows7010 : List ObjRow := [
  ⟨0x01, 0x01, 1, 0, 15, 15, 0, false, 0, 3, none, 3, false⟩,
  ⟨0x02, 0x02, 4, 0, 15, 15, 0, false, 0, 4294967295, none, 0, false⟩,
  ⟨0x03, 0x03, 4, 0, 15, 15, 0, false, 0, 4294967295, none, 0, false⟩,
  ⟨0x04, 0x04, 2, 0, 15, 15, 0, false, 0, 65535, none, 0, false⟩,
  ⟨0x05, 0x05, 4, 0, 15, 15, 0, false, 0, 4294967295, none, 0, false⟩]

/-- Objects of index block 0x8000. -/
def rows8000 : List ObjRow := [
  ⟨0x01, 0x01, 1, 0, 31, 31, 0, false, 0, 4, none, 0, false⟩,
  ⟨0x02, 0x02, 256, 3, 16, 16, 0, false, 0, 0, none, 0, true⟩,
  ⟨0x03, 0x03, 1, 0, 31, 31, 0, false, 0, 2, none, 0, false⟩,
  ⟨0x04, 0x04, 256, 3, 16, 16, 0, false, 0, 0, none, 0, true⟩,
  ⟨0x05, 0x05, 32, 0, 31, 31, 0, false, 0, 0, none, 0, true⟩,
  ⟨0x06, 0x06, 1, 0, 31, 31, 0, false, 0, 255, none, 0, false⟩,
  ⟨0x07, 0x07, 1, 1, 31, 31, 0, false, 0, 63, none, 0, false⟩,
  ⟨0x08, 0x08, 36, 0, 31, 31, 0, false, 0, 0, none, 0, true⟩,
  ⟨0x09, 0x09, 1024, 3, 16, 16, 0, false, 0, 0, none, 0, true⟩,
  ⟨0x0A, 0x0A, 1, 0, 31, 31, 0, false, 0, 1, none, 0, false⟩,
  ⟨0x0B, 0x0B, 2, 0, 31, 31, 0, false, 0, 65535, none, 0, false⟩,
  ⟨0x0C, 0x0C, 1, 3, 16, 16, 0, false, 1, 1, none, 0, false⟩,
  ⟨0x0D, 0x0D, 1, 4, 16, 16, 15, false, 0, 15, none, 0, false⟩,
  ⟨0x0E, 0x0E, 1, 4, 16, 16, 0, false, 0, 15, none, 0, false⟩,
  ⟨0x0F, 0x0F, 4, 0, 31, 31, 0, false, 0, 4294967295, none, 0, false⟩,
  ⟨0x10, 0x10, 1, 0, 31, 31, 0, false, 0, 11, none, 0, false⟩,
  ⟨0x11, 0x11, 8, 0, 31, 31, 0, false, 0, 18446744073709551615, none, 0, false⟩]

/-- Objects of index block 0x9000. -/
def rows9000 : List ObjRow := [
  ⟨0x01, 0x01, 4, 0, 31, 31, 0, false, 0, 4294967295, none, 0, false⟩,
  ⟨0x02, 0x02, 4, 0, 31, 31, 0, false, 0, 4294967295, none, 0, false⟩,
  ⟨0x03, 0x03, 4, 0, 31, 31, 0, false, 0, 4294967295, none, 0, false⟩,
  ⟨0x04, 0x04, 4, 1, 31, 31, 0, false, 0, 4294967295, none, 0, false⟩,
  ⟨0x05, 0x05, 64, 0, 31, 31, 0, false, 0, 0, none, 0, true⟩,
  ⟨0x06, 0x06, 1024, 0, 31, 31, 0, false, 0, 0, none, 0, true⟩,
  ⟨0x07, 0x07, 256, 3, 8, 8, 0, false, 0, 0, none, 0, true⟩,
  ⟨0x08, 0x08, 4, 0, 31, 31, 0, false, 0, 4294967295, none, 0, false⟩,
  ⟨0x09, 0x09, 4, 0, 31, 31, 0, false, 0, 4294967295, none, 0, false⟩]

/-- Objects of index block 0x9400. -/
def rows9400 : List ObjRow := [
  ⟨0x01, 0x01, 8, 0, 31, 31, 0, false, 0, 18446744073709551615, none, 0, false⟩,
  ⟨0x02, 0x02, 1, 0, 31, 31, 0, false, 0, 1, none, 0, false⟩,
  ⟨0x03, 0x03, 8, 3, 8, 8, 0, false, 0, 18446744073709551615, none, 0, false⟩,
  ⟨0x04, 0x04, 1, 1, 8, 8, 1, false, 0, 1, none, 0, false⟩,
  ⟨0x05, 0x05, 4, 0, 31, 31, 0, true, (-2147483648), 2147483647, none, 0, false⟩,
  ⟨0x06, 0x06, 4, 0, 31, 31, 0, true, (-2147483648), 2147483647, none, 0, false⟩]

/-- Objects of index block 0x9800. -/
def rows9800 : List ObjRow := [
  ⟨0x01, 0x01, 1, 3, 14, 14, 0, false, 1, 1, none, 0, false⟩,
  ⟨0x02, 0x02, 4, 4, 8, 8, 0, false, 0, 60000, none, 0, false⟩,
  ⟨0x03, 0x03, 1, 3, 8, 8, 0, false, 1, 1, none, 0, false⟩,
  ⟨0x04, 0x04, 4, 0, 31, 31, 0, false, 0, 4294967295, none, 0, false⟩,
  ⟨0x05, 0x05, 8, 0, 31, 31, 0, false, 0, 18446744073709551615, none, 0, false⟩,
  ⟨0x06, 0x06, 1, 1, 31, 31, 0, false, 0, 10, none, 0, false⟩,
  ⟨0x07, 0x07, 1024, 0, 31, 31, 0, false, 0, 0, none, 0, true⟩]

/-- Objects of index block 0xA000. -/
def rowsA000 : List ObjRow := [
  ⟨0x01, 0x01, 4, 0, 31, 31, 0, false, 0, 4294967295, none, 0, false⟩,
  ⟨0x02, 0x02, 2, 0, 31, 31, 0, true, (-32768), 32767, none, 0, false⟩,
  ⟨0x03, 0x03, 1, 0, 31, 31, 0, false, 0, 4, none, 0, false⟩,
  ⟨0x04, 0x04, 1, 3, 8, 8, 0, false, 1, 1, none, 3, false⟩,
  ⟨0x05, 0x05, 1, 3, 8, 8, 0, false, 1, 1, none, 0, false⟩,
  ⟨0x06, 0x06, 1, 0, 31, 31, 0, false, 0, 2, none, 0, false⟩,
  ⟨0x07, 0x07, 1, 0, 31, 31, 0, false, 0, 255, none, 0, false⟩]

/-- Objects of index block 0xA010. -/
def rowsA010 : List ObjRow := [
  ⟨0x01, 0x01, 1, 0, 31, 31, 0, false, 0, 3, none, 0, false⟩,
  ⟨0x02, 0x02, 4, 4, 8, 8, 100, false, 0, 60000, none, 0, false⟩,
  ⟨0x03, 0x03, 4, 4, 8, 8, 0, false, 0, 600000, none, 0, false⟩,
  ⟨0x04, 0x04, 4, 0, 31, 31, 0, false, 0, 4294967295, none, 0, false⟩,
  ⟨0x05, 0x05, 8, 0, 31, 31, 0, false, 0, 18446744073709551615, none, 0, false⟩,
  ⟨0x06, 0x06, 4, 0, 31, 31, 0, false, 0, 4294967295, none, 0, false⟩]

/-- Objects of index block 0xA800. -/
def rowsA800 : List ObjRow := [
  ⟨0x01, 0x01, 1, 0, 15, 15, 0, false, 0, 255, none, 0, false⟩,
  ⟨0x02, 0x02, 1, 0, 15, 15, 0, false, 0, 4, none, 0, false⟩,
  ⟨0x03, 0x03, 4, 0, 15, 15, 0, true, (-2147483648), 2147483647, none, 0, false⟩,
  ⟨0x04, 0x05, 4, 0, 15, 15, 0, false, 0, 4294967295, none, 0, false⟩,
  ⟨0x06, 0x06, 4, 0, 15, 15, 0, true, (-2147483648), 2147483647, none, 0, false⟩,
  ⟨0x07, 0x08, 1, 4, 8, 8, 255, false, 0, 7, some 255, 3, false⟩,
  ⟨0x09, 0x09, 1, 1, 14, 14, 0, false, 0, 1, none, 0, false⟩,
  ⟨0x0A, 0x0A, 1, 0, 15, 15, 0, false, 0, 1, none, 0, false⟩,
  ⟨0x0B, 0x0B, 4, 0, 15, 15, 0, false, 0, 4294967295, none, 0, false⟩,
  ⟨0x10, 0x10, 8, 0, 15, 15, 0, false, 0, 18446744073709551615, none, 0, false⟩]

/-- Objects of index block 0xF000. -/
def rowsF000 : List ObjRow := [
  ⟨0x01, 0x01, 1024, 0, 31, 31, 0, false, 0, 0, none, 0, true⟩,
  ⟨0x02, 0x02, 4, 1, 31, 31, 0, false, 0, 4294967295, none, 0, false⟩,
  ⟨0x03, 0x03, 64, 0, 31, 31, 0, false, 0, 0, none, 0, true⟩]

/-- The index block and instance of an index (Table 14.1, R389, R392, R394); none where it lies in no range. A node of link
`l` at address `a` has block 0x3801 and instance 16 · l + a. -/
def objFam (i : Nat) : Option (Nat × Nat) :=
  if i < 0x2000 then
    if i = 0x1000 ∨ i = 0x1F00 ∨ i = 0x1F48 ∨ i = 0x1F80 then some (i, 0)
    else if 0x1F20 ≤ i ∧ i < 0x1F40 then some (0x1F20, i - 0x1F20)
    else if 0x1F40 ≤ i ∧ i < 0x1F44 then some (0x1F40, i - 0x1F40)
    else if i = 0x1F50 ∨ i = 0x1F51 then some (0x1F50, i - 0x1F50)
    else if 0x1F88 ≤ i ∧ i < 0x1F90 then some (0x1F88, i - 0x1F88)
    else none
  else if i < 0x2200 then if i % 0x40 = 0 then some (0x2000, (i - 0x2000) / 0x40) else none
  else if i = 0x2400 ∨ i = 0x2800 then some (i, 0)
  else if 0x3000 ≤ i ∧ i < 0x3800 then if i % 0x20 = 0 then some (0x3000, (i - 0x3000) / 0x20) else none
  else if 0x3800 ≤ i ∧ i < 0x3900 then
    if i % 16 = 0 then some (0x3800, (i - 0x3800) / 16)
    else if i % 16 ≤ 8 then some (0x3801, i - 0x3800) else none
  else if 0x4000 ≤ i ∧ i < 0x4100 then if i % 0x20 = 0 then some (0x4000, (i - 0x4000) / 0x20) else none
  else if 0x4800 ≤ i ∧ i < 0x4880 then if i % 16 = 0 then some (0x4800, (i - 0x4800) / 16) else none
  else if 0x4880 ≤ i ∧ i < 0x4900 then if i % 8 = 0 then some (0x4880, (i - 0x4880) / 8) else none
  else if 0x4900 ≤ i ∧ i < 0x4980 then if i % 16 = 0 then some (0x4900, (i - 0x4900) / 16) else none
  else if 0x5000 ≤ i ∧ i < 0x5200 then if i % 0x40 = 0 then some (0x5000, (i - 0x5000) / 0x40) else none
  else if 0x5200 ≤ i ∧ i < 0x5240 then if i % 16 = 0 then some (0x5200, (i - 0x5200) / 16) else none
  else if i = 0x6000 then some (0x6000, 0)
  else if 0x6010 ≤ i ∧ i < 0x6020 then some (0x6010, i - 0x6010)
  else if 0x6100 ≤ i ∧ i < 0x6140 then if i % 16 = 0 then some (0x6100, (i - 0x6100) / 16) else none
  else if 0x6200 ≤ i ∧ i < 0x6300 then if i % 16 = 0 then some (0x6200, (i - 0x6200) / 16) else none
  else if i = 0x7000 then some (0x7000, 0)
  else if 0x7010 ≤ i ∧ i < 0x7018 then some (0x7010, i - 0x7010)
  else if i = 0x8000 ∨ i = 0x9000 ∨ i = 0x9400 ∨ i = 0x9800 ∨ i = 0xA000 ∨ i = 0xA800 then some (i, 0)
  else if 0xA010 ≤ i ∧ i < 0xA01B then some (0xA010, i - 0xA010)
  else if 0xF000 ≤ i ∧ i < 0x10000 then some (0xF000, i - 0xF000)
  else none

/-- The rows of an index block. -/
def famRows (f : Nat) : List ObjRow :=
  match f with
  | 0x1000 => rows1000
  | 0x1F00 => rows1F00
  | 0x1F20 => rows1F20
  | 0x1F40 => rows1F40
  | 0x1F48 => rows1F48
  | 0x1F50 => rows1F50
  | 0x1F80 => rows1F80
  | 0x1F88 => rows1F88
  | 0x2000 => rows2000
  | 0x2400 => rows2400
  | 0x2800 => rows2800
  | 0x3000 => rows3000
  | 0x3800 => rows3800
  | 0x3801 => rows3801
  | 0x4000 => rows4000
  | 0x4800 => rows4800
  | 0x4880 => rows4880
  | 0x4900 => rows4900
  | 0x5000 => rows5000
  | 0x5200 => rows5200
  | 0x6000 => rows6000
  | 0x6010 => rows6010
  | 0x6100 => rows6100
  | 0x6200 => rows6200
  | 0x7000 => rows7000
  | 0x7010 => rows7010
  | 0x8000 => rows8000
  | 0x9000 => rows9000
  | 0x9400 => rows9400
  | 0x9800 => rows9800
  | 0xA000 => rowsA000
  | 0xA010 => rowsA010
  | 0xA800 => rowsA800
  | 0xF000 => rowsF000
  | _ => []

/-- A vendor diagnostic object without a row in Table 14.13: it is defined and RO, its size is the model's (R403, DESIGN CHOICE,
notes/assumptions/36). -/
def vendorRow (sub : Nat) : ObjRow := ⟨sub, sub, 4, 0, 31, 31, 0, false, 0, 4294967295, none, 0, false⟩

/-- The row of an object. -/
def objRow (i sub : Nat) : Option ObjRow :=
  match objFam i with
  | none => none
  | some (f, n) =>
    if f = 0xA010 ∧ n = 10 ∧ (sub = 2 ∨ sub = 3) then none
    else if f = 0xF000 ∧ (n ≠ 0 ∨ sub = 0 ∨ 3 < sub) then some (vendorRow sub)
    else (famRows f).find? fun r => r.s0 ≤ sub ∧ sub ≤ r.s1

/-- Default of an object: that of its row, and the head base 4 · l of link l (R197). -/
def objDefault (i sub : Nat) : Nat :=
  match objFam i, sub with
  | some (0x3800, l), 3 => 4 * l
  | _, _ =>
    match objRow i sub with
    | some r => r.dflt
    | none => 0

/-- The key of an object in the maps of the state. -/
def objKey (i sub : Nat) : Nat := i * 256 + sub

/-- Objects whose name ends in "select": a value for each session (R390). -/
def isSelect (i sub : Nat) : Bool :=
  match objFam i, sub with
  | some (0x2400, _), 0x03 => true
  | some (0x2800, _), 0x02 => true | some (0x2800, _), 0x06 => true
  | some (0x3000, _), 0x4C => true
  | some (0x8000, _), 0x07 => true
  | some (0x9000, _), 0x04 => true
  | some (0x9800, _), 0x06 => true
  | some (0xF000, 0), 0x02 => true
  | _, _ => false

end Sys2Proof.Machine
end

