-- ==== Sys2Proof/Machine/State.lean ====
section
/-! DEFINITION. The state of the block as plain data: every register, queue, buffer, counter, mode and pin that the manual
gives it, and the queue of waiting commands. -/

namespace Sys2Proof.Machine

/-- Reasons for which the block stops. No command of this model raises one: the manual gives every command an effect. -/
inductive Fault where
  /-- Raised by nothing; the type must not be empty for a run to be written down. Safe. -/
  | stopped
  deriving DecidableEq, Repr

/-- Reasons for which a command has no meaning here. -/
inductive Refusal where
  /-- Raised by the dispatch alone, for a command without a meaning. Safe: nothing is claimed of it. -/
  | notModelled (mnemonic : String)
  deriving DecidableEq, Repr

/-! ### Events and outputs -/

/-- An event record before its commit (Table 17.1): the stamps it takes at its event tick, and its fields. -/
structure Event where
  tick        : Nat
  opSeconds   : Nat
  powerCycles : Nat
  calendar    : Nat
  code        : Nat
  cls         : Nat
  sev         : Nat
  session     : Nat
  role        : Nat
  loc         : Nat
  payload     : Nat
  deriving DecidableEq, Repr

/-- Balls whose reset state Table 19.2 gives, beside gates, axes and chains: lanes of link and host ports, TXDIS, sync ports, RESET_N and CK of
the DRAM, SSI clocks, TXD and STBY of the field networks, TDO. -/
inductive Ball where
  | hlTx | hpTx | hpTxdis | syTx | dramReset | dramCk | pfCk | fnTxd | fnStby | tdo
  deriving DecidableEq, Repr

/-- Levels of Table 19.2: electrical idle or common mode, stopped or high impedance. -/
inductive Level where
  | high | low | idle | off
  deriving DecidableEq, Repr

/-- What the last command sent or drove. The model's own log: it is emptied when a command begins. -/
inductive Out where
  /-- The pin of a reject output took a level: gate, high. -/
  | gate (g : Nat) (level : Bool)
  /-- A message to a host, before it is enciphered: port, address, SESSION_ID, KIND, SEQ, body. -/
  | message (port addr sid kind seq body : Nat)
  /-- The datagram that carries it from a host port: port, the gateway it goes to next or 0, address, the bytes of the envelope (Table 12.2). -/
  | datagram (port hop addr : Nat) (bytes : List Nat)
  /-- A control block on a downstream lane: port, physical lane 0 D0, 1 D1, 2 DS, type of Table 7.2, content. -/
  | block (port lane kind content : Nat)
  /-- A frame placed on a logical lane: port, lane, its words from header to trailer (R205). -/
  | frame (port lane : Nat) (words : List Nat)
  /-- An FEC block that leaves on a physical lane: port, lane, payloads of its 83 data blocks (Table 7.3). -/
  | fec (port lane : Nat) (blocks : List Nat)
  /-- The blocks of the outputs before it as they are on the lane (R199): port, lane, blocks of 66 bits, sync header lowest. -/
  | coded (port lane : Nat) (blocks : List Nat)
  /-- A sync frame on a sync port (Table 5.4): its 52 bytes. -/
  | sync (port frame : Nat)
  /-- A pin of an axis took a level (Table 10.1): axis, pin 0 EN, 1 RET, 2 STEP, 3 DIR, level. -/
  | axisPin (axis pin level : Nat)
  /-- Pulses on STEPn (R281, R283): axis, level of DIRn, pulses, their width in cycles of CLK_PER, pulses low. -/
  | steps (axis dirLevel n width : Nat) (low : Bool)
  /-- An Ethernet frame leaves a host port: VLAN ID (0 untagged) and PCP; what it carries follows. -/
  | eth (port vid pcp : Nat)
  /-- A host port answers a frame (Table 12.1): port, 1 echo, 2 address resolution, version of IP. -/
  | reply (port kind ip : Nat)
  /-- A CAN FD frame: controller, identifier, data with its padding. -/
  | can (f ident : Nat) (data : List Nat)
  /-- A gate of a chain's high-side switch: chain, on. -/
  | chainGate (c : Nat) (on : Bool)
  /-- The inrush control of a chain's gate (R190): chain, 1 hold, 2 raise, 3 lower. -/
  | gateDrive (c drive : Nat)
  /-- A ball takes its reset state (R481): ball, number, level. -/
  | ball (b : Ball) (n : Nat) (l : Level)
  /-- A precision-time message sent by the block: port, kind. -/
  | ptp (port kind : Nat)
  deriving DecidableEq, Repr

/-! ### Items, zones and the ledger (chapters 1, 2, 5) -/

/-- States of Table 2.5; a RELEASED item holds no slot. -/
inductive ItemState where
  | queued | admitted | printing | spoiled | delivered | spoiledTail | deliveredTail | final
  deriving DecidableEq, Repr

/-- One tile entry of a descriptor (Table 2.2). -/
structure TileEntry where
  tile   : Nat
  x      : Nat
  y      : Nat
  op     : Nat
  planes : Nat
  deriving DecidableEq, Repr

/-- The fixed outcome of an item (Table 2.8). -/
structure Outcome where
  code    : Nat
  reason  : Nat
  finalFt : Nat
  /-- The stamps at FINAL_FT (R441): operating seconds, calendar seconds. -/
  op      : Nat
  cal     : Nat
  loc     : Nat
  deriving DecidableEq, Repr

/-- How far one head row has come with an item, in lines counted over all its traverses (R96, R156). -/
structure RowProg where
  head     : Fin 64
  row      : Fin 4
  composed : Nat
  built    : Nat
  deriving DecidableEq, Repr

/-- The generation of a head's nozzle map fixed for an item at its start (R67, R127). -/
structure GenAt where
  head : Fin 64
  inst : Nat
  deriving DecidableEq, Repr

/-- An item that holds a ledger slot. -/
structure Item where
  slot       : Nat
  gen        : Nat
  zone       : Fin 8
  hostId     : Nat
  direct     : Bool
  template   : Nat
  lineCount  : Nat
  startRule  : Nat
  start      : Int
  markWindow : Nat
  tiles      : List TileEntry
  /-- 0 an ordinary item; 1 ROW, 2 STITCH (Table 5.2). -/
  pattern    : Nat
  /-- Session and host that submitted it. -/
  sid        : Nat
  host       : Nat
  state      : ItemState
  origin     : Option Int
  /-- It holds its references on its template and tiles (R87). -/
  refs       : Bool
  refTpl     : Bool
  refTiles   : List Nat
  /-- LATE_ reason of the last wait; 14 (TOO_LATE) if none. -/
  lastWait   : Nat
  /-- Position at which the item became the head item of its queue (R51). -/
  markFrom   : Option Rat
  /-- The mark that was accepted for it. -/
  markAt     : Option Int
  reserved   : Bool
  /-- Set number of the zone's ITEM(z) values in force at its start, once started (R67). -/
  startSet   : Option Nat
  startGens  : List GenAt
  prog       : List RowProg
  /-- Number of rows that reported a line FIRED as composed, by line. -/
  fired      : SMap Nat
  /-- Latest fire instant of its fired lines. -/
  lastFire   : Nat
  /-- Row-lines reported FIRED or CLAMPED or otherwise. -/
  reported   : Nat
  /-- Lowest line known not to be fired as composed. -/
  badLine    : Option Nat
  /-- Outcome, once final. -/
  outcome    : Option Outcome
  /-- The outcome became final before any fire report of the item (R60). -/
  blank      : Bool
  /-- The item's notice has been sent. -/
  noticed    : Bool
  /-- The notice is held (R64). -/
  held       : Bool
  /-- Values of LINES_FIRED and FIRST_BAD_LINE frozen at the hand-over (R507). -/
  handedFired : Nat
  handedBad   : Nat
  /-- The reject pulse has been issued, or the item's leading edge passed under a hold (Table 2.5). -/
  pulsed     : Bool
  /-- Its trailing edge is taken as past the gate (R72). -/
  gone       : Bool
  /-- An overlap of a reject pulse with this delivered item has been counted (R277). -/
  overlap    : Bool
  /-- Position of the feed axis at the end of its last traverse (R278). -/
  feedBase   : Option Int
  /-- It was ADMITTED, with lines past their commit point, when its zone entered SUSPENDED (R153). -/
  revDue     : Bool
  /-- The session whose access spoiled it (R443): index and role, 0 if none. -/
  bySession  : Nat
  byRole     : Nat
  deriving DecidableEq, Repr

/-- An outcome that waits to be handed to a host port (R64): the full record, of a slot holder or of a submission that got
no slot. -/
structure Notice where
  handle  : Nat
  zone    : Fin 8
  hostId  : Nat
  sid     : Nat
  /-- For a submission without a slot, its outcome; a slot holder's stands in its item. -/
  noSlot  : Option Outcome
  deriving DecidableEq, Repr

/-- States of Table 2.9. -/
inductive ZoneState where
  | disabled | enabled | draining | aborting | tail
  deriving DecidableEq, Repr

/-- Placement states of Table 5.1. -/
inductive Place where
  | noSource | standby | tracking | suspended | fault
  deriving DecidableEq, Repr

/-- The tracker of a zone (R140). -/
structure Tracker where
  pHat    : Rat
  vHat    : Rat
  tLast   : Nat
  lastCnt : Rat
  /-- The latest edge held under the 64-ft rule. -/
  held    : Option (Rat × Nat)
  /-- Unfiltered forward edges taken since the tracker entered STANDBY, up to 2. -/
  init    : Nat
  /-- Consecutive forward edges, and consecutive edges with innovation within the tracking limit. -/
  fwd     : Nat
  within  : Nat
  /-- Stamp of the last edge accepted within the tracking limit (R143). -/
  tGood   : Nat
  /-- Some edge has been taken since the source became valid. -/
  any     : Bool
  deriving DecidableEq, Repr

/-- A counted update of a zone's source: position in pu, stamp. -/
structure Upd where
  pos   : Rat
  stamp : Nat
  deriving DecidableEq, Repr

/-- A reservation row of a zone (R100): head row key 4·h + r, cycles, bursts. -/
structure Res where
  row : Nat
  cyc : Nat
  bur : Nat
  deriving DecidableEq, Repr

/-- A zone Z0–Z7. -/
structure Zone where
  state      : ZoneState
  refOrigin  : Option Int
  zoneEnd    : Option Int
  hwm        : Rat
  place      : Place
  /-- Tick of the entry to FAULT (R143). -/
  faultAt    : Nat
  trk        : Tracker
  /-- Current counted update, and those before it that a mark may still need, newest first (R273). -/
  upd        : Option Upd
  trail      : List Upd
  /-- ITEM(z) sets (R67): number of the set in force, and the values that the keys changed at the last boundary had. -/
  setNo      : Nat
  prevSet    : List (Nat × Nat)
  /-- Tick at which the set in force began: what applies on that tick belongs to it. -/
  setAt      : Option Nat
  /-- RJ is held after a loss of the source; items tracked at the loss (R72). -/
  hold       : Bool
  lossItems  : List Nat
  /-- Owner host and the tick at which ownership lapses, if it is held without a session (R345, R346). -/
  owner      : Option Nat
  lapseAt    : Option Nat
  /-- Current traverse and the item that it belongs to, whether it is armed, whether its feed move is pending or running
  (R156–R159). -/
  traverse   : Int
  travItem   : Nat
  armed      : Bool
  feedDue    : Bool
  feedRun    : Bool
  /-- Position of the feed axis at the end of the last fired traverse (R278). -/
  feedPos    : Int
  res        : List Res
  outcomes   : Vector Nat 12
  admitted   : Nat
  late       : Vector Nat 9
  stale      : Nat
  spillway   : Nat
  withdrawn  : Nat
  faults     : Nat
  reversals  : Nat
  substituted : Nat
  spread     : Nat
  reassigned : Nat
  unhidden   : Nat
  guarded    : Nat
  quality    : Nat
  unhideable : Nat
  maskResult : Nat
  /-- Handle that the last alignment pattern command returned. -/
  patternHandle : Nat
  deriving DecidableEq, Repr

/-! ### Templates, tiles, streams and DRAM (chapter 3) -/

/-- States of Table 3.4. -/
inductive Residency where
  | free | loading | resident | retiring | invalid
  deriving DecidableEq, Repr

/-- One template or tile index in use: generation, header, load progress, where it lies. -/
structure Asset where
  idx     : Nat
  gen     : Nat
  st      : Residency
  hdr     : Nat
  refs    : Nat
  /-- Session and load ID of its load; what has arrived; what the bytes that have arrived give to the CRC (R82). -/
  sid     : Nat
  loadId  : Nat
  got     : Nat
  crc     : Nat
  /-- Pieces received, as (offset, length), and whether every pad bit arrived as 0 (R82). -/
  pieces  : List (Nat × Nat)
  padOk   : Bool
  /-- Base address on each channel; for a tile, the base of its data (channel `ch`) and of its line index (the other). -/
  base0   : Nat
  base1   : Nat
  /-- Bytes held on each channel. -/
  len0    : Nat
  len1    : Nat
  /-- Channel of a tile's data. -/
  ch      : Nat
  /-- A delete was commanded while it was INVALID with references held (Table 3.4). -/
  deleted : Bool
  deriving DecidableEq, Repr

/-- One stored or partly received plane-line of a direct item (R103, R341): the bytes of its parts by offset. -/
structure StreamLine where
  zone   : Fin 8
  handle : Nat
  plane  : Nat
  line   : Nat
  /-- Its address on the channel of its band; its bursts of 64 bytes by offset. -/
  base   : Nat
  parts  : SMap (List Nat)
  deriving DecidableEq, Repr

/-! ### Heads (chapters 4, 6, 8) -/

/-- A composed row-line in a ring (R95): item handle, line counted over all traverses, codes of 3 bits per nozzle. -/
structure RingLine where
  handle : Nat
  line   : Nat
  codes  : Nat
  deriving DecidableEq, Repr

/-- Transmission of a line frame: port, logical lane, tick at which its trailer left, FEC block of its trailer, depth. -/
structure Sent where
  port  : Fin 16
  lane  : Nat
  tick  : Nat
  bseq  : Nat
  depth : Nat
  deriving DecidableEq, Repr

/-- A stamped row-line (R146). -/
structure Stamped where
  handle : Nat
  line   : Nat
  void   : Bool
  fire   : Nat
  f0     : Int
  segs   : List Int
  codes  : Nat
  drops  : Nat
  sag    : Int
  factors : List Nat
  /-- The port and depth that serve the head at the stamp. -/
  port   : Fin 16
  depth  : Nat
  /-- Order of stamping over the whole block. -/
  order  : Nat
  sent   : Option Sent
  /-- Its fire report has been found missing (R54). -/
  missed : Bool
  deriving DecidableEq, Repr

/-- A withdrawn line that the head end may still hold, as it was stamped (R148, R221): CANCEL blocks still to be sent. -/
structure Withdrawn extends Stamped where
  cancels : Nat
  /-- Tick at which the first CANCEL left. -/
  cancelAt : Nat
  deriving DecidableEq, Repr

/-- The main-pulse widths of a fired row-line as the controller mirrors them (R175): its fire instant, the supply word that it
latched, a width for each code, sub-drop and trim class that it fires, and whether a width was clamped. -/
structure Mirror where
  fire    : Nat
  word    : Nat
  widths  : List (Nat × Nat × Nat × Nat)
  clamped : Bool
  deriving DecidableEq, Repr

/-- One row of a head: its ring, its stamped lines, its withdrawn lines, the stamp of the last line that left the list of
stamped lines by firing. -/
structure HRow where
  ring      : List RingLine
  stamped   : List Stamped
  withdrawn : List Withdrawn
  lastFire  : Nat
  /-- Last segment instant of its fired lines (R244). -/
  lastEnd   : Nat
  /-- Widths of the row-line reported last (R175). -/
  mirror    : Option Mirror
  deriving DecidableEq, Repr

/-- Identity states of Table 8.4. -/
inductive IdState where
  | absent | reading | verified | unverified | unreadable
  deriving DecidableEq, Repr

/-- Thermal states of Table 8.5. -/
inductive Thermal where
  | cold | normal | warn | cooldown
  deriving DecidableEq, Repr

/-- A generation of a head's nozzle map (R126): the entries that differ from 0x24, by nozzle number. -/
structure NozMap where
  inst    : Nat
  entries : SMap Nat
  deriving DecidableEq, Repr

/-- A scan block that has been started (R239), with the measurement current, thresholds and lead resistance of Table 8.6 that hold for
it. -/
structure ScanBlock where
  row    : Nat
  first  : Nat
  count  : Nat
  ft     : Nat
  cur    : Nat
  open_  : Nat
  short  : Nat
  drift  : Nat
  lead   : Nat
  deriving DecidableEq, Repr

/-- A head position H00–H63. -/
structure Head where
  /-- Serving node, while enumerated and in service: link of numbering, node address. -/
  link     : Option (Fin 16)
  node     : Nat
  inService : Bool
  /-- Bank of the line store that holds its partition (R23). -/
  bank     : Nat
  idState  : IdState
  /-- Words of the maker block and of the baseline record read so far; 0 the reading goes on, 1 it is complete, 2 a READ of the
  maker block was answered other than OK (R237). -/
  rd       : List Nat
  rdBase   : List Nat
  rdEnd    : Nat
  /-- Maker block as verified, as one little-endian number; 0 before. -/
  maker    : Nat
  blockOk  : Bool
  driveOk  : Bool
  /-- Identity recorded at this position since reset (R238): maker, model, serial. -/
  lastId   : Option (Nat × Nat × Nat)
  /-- Trim source in force since the enumeration (R245). -/
  trimSrc  : Nat
  trim     : Nat
  /-- The plane is written and its CRC read back; the CRCs agreed; mismatches so far; three of them. -/
  trimBusy : Bool
  trimOk   : Bool
  trimTries : Nat
  trimFailed : Bool
  thermal  : Thermal
  temp     : Int
  tempAt   : Option Nat
  sensorFault : Bool
  tripped  : Bool
  /-- The setpoint was taken from the maker block (R508). -/
  setFromBlock : Bool
  setKnown : Bool
  integ    : Rat
  warmPeriod : Nat
  cooldowns : Nat
  /-- Scans (R239–R244). -/
  scanDue  : Bool
  scanNext : Nat
  scanBlk  : Option ScanBlock
  /-- The block that follows it without a gap, and blocks to be measured again, as row, first nozzle and count. -/
  scanAhead : Option ScanBlock
  scanRedo : List (Nat × Nat × Nat)
  lastFull : Nat
  fullRuns : Nat
  aborted  : Nat
  scanPend : SMap Nat
  ratio    : SMap Nat
  baseOk   : Bool
  baseline : SMap Nat
  /-- Nozzle-map generations (R126, R127). -/
  inst     : NozMap
  pend     : Option NozMap
  prev     : Option NozMap
  installs : Nat
  rowQuality : Vector Nat 4
  rows     : Vector HRow 4
  linesFired : Nat
  dropsFired : Nat
  clamped  : Nat
  suppressed : Nat
  deriving DecidableEq, Repr

/-! ### Chains (chapter 6) -/

/-- Supply states of Table 6.6. -/
inductive ChainState where
  | off | armed | ramp | on | fault | tripped
  deriving DecidableEq, Repr

/-- One supply sample: tick, VPH in mV, current in mA. -/
structure Sample where
  tick : Nat
  mv   : Nat
  ma   : Int
  deriving DecidableEq, Repr

/-- The heater supply of a chain 0–15. -/
structure Chain where
  state     : ChainState
  trip      : Nat
  /-- Samples of the last 10 ms, newest first. -/
  samples   : List Sample
  vph       : Nat
  current   : Int
  /-- Runs of consecutive samples: within the window, outside it, above the trip current, above V_MAX of a head. -/
  inRun     : Nat
  outRun    : Nat
  overI     : Nat
  overV     : Nat
  lastSample : Option Nat
  rampFrom  : Nat
  /-- Tick since which the current has stood at the inrush limit, and since which VPH sense stands above 2,000 mV with the
  gate off. -/
  inrushFrom : Option Nat
  leakFrom  : Option Nat
  /-- Inrush limit, ramp rate, ramp timeout latched at the start of the ramp. -/
  inrush    : Nat
  rate      : Nat
  timeout   : Nat
  /-- Samples taken, modulo 256; supply words sent in the last 200 µs, with the ticks of their samples, newest first. -/
  seq       : Nat
  words     : List (Nat × Nat)
  rsLearned : Nat
  /-- Tick of the last estimate of R180, and estimates discarded. -/
  rsAt      : Nat
  rsBad     : Nat
  faults    : Nat
  gate      : Bool
  /-- What the inrush control does with the gate (R190): 0 off, 1 held, 2 raised, 3 lowered, 4 fully on. -/
  drive     : Nat
  deriving DecidableEq, Repr

/-! ### Links (chapter 7) -/

/-- Link states of Table 7.15. -/
inductive LinkState where
  | off | training | enumerating | aligning | ready | fault
  deriving DecidableEq, Repr

/-- Dual-homed states of Table 7.13; `single` for a chain served by one port. -/
inductive Dual where
  | single | normal | split | degraded | isolated
  deriving DecidableEq, Repr

/-- A control frame to be sent (Table 7.8): OP 1 READ, 2 WRITE, 3 ENUM; register; data words asked for or given; the data. -/
structure CtlReq where
  op    : Nat
  reg   : Nat
  cnt   : Nat
  data  : List Nat
  deriving DecidableEq, Repr

/-- An outstanding control frame of a node (R211, R223). `busy`: it waits to be sent, for the first time or again. -/
structure Ctl where
  cseq  : Nat
  req   : CtlReq
  tries : Nat
  sentAt : Nat
  busy  : Bool
  /-- It has been sent before: what is sent now is a retry (R223). -/
  again : Bool
  deriving DecidableEq, Repr

/-- A node at address 1–8 of a chain. -/
structure Node where
  present  : Bool
  kind     : Nat
  identity : Nat
  profileOk : Bool
  inService : Bool
  lost     : Bool
  head     : Option (Fin 64)
  delayA   : Nat
  delayB   : Nat
  timeErr  : Int
  status   : Nat
  lastStatus : Option Nat
  lastSeq  : Option Nat
  lanes    : Nat
  timeOk   : Bool
  side     : Nat
  /-- Far-side loss of lock reported since. -/
  farLostAt : Option Nat
  /-- Far-side lock reported without a break since. -/
  farOkAt  : Option Nat
  /-- ESEQ of its next ECHO exchange, and the tick of its last measurement (R216). -/
  eseq     : Nat
  echoAt   : Option Nat
  cseq     : Nat
  ctl      : Option Ctl
  /-- Control frames that wait for the outstanding one. -/
  ctlWait  : List CtlReq
  deriving DecidableEq, Repr

/-- What lay in one FEC block (R222): logical lane, sequence, line frames (head, row, handle, line) and the node addresses of
control frames. -/
structure FecRec where
  lane  : Nat
  bseq  : Nat
  lines : List (Fin 64 × Fin 4 × Nat × Nat)
  ctls  : List Nat
  deriving DecidableEq, Repr

/-- What a port sends on a logical lane (R202): the FEC block under way, counted without end, and its words; index of its first
header, 127 if none; the block with which the present run of lane groups began, and MSEQ of that group's MARKER; the tick at which
the lane is free again; the block whose group's MARKER left when the group was opened. -/
structure LaneTx where
  bseq  : Nat
  words : List Nat
  first : Nat
  mark  : Nat
  mseq  : Nat
  free  : Nat
  opened : Option Nat
  deriving DecidableEq, Repr

/-- A link port HL0–HL15. -/
structure Port where
  state     : LinkState
  since     : Nat
  nodes     : Vector Node 9
  enumDepth : Nat
  enumTries : Nat
  lockU0    : Bool
  lockUS    : Bool
  /-- Ticks at which the upstream lanes gained lock (dual-homed chains, R229). -/
  lockSince : Option Nat
  dual      : Dual
  splitPt   : Nat
  raster    : Nat
  words     : Nat
  laneMap   : Nat
  /-- Lane move in progress: logical lane, target physical lane (R225), reason 1 calibration, 2 command, 3 failure; and the reason
  for which DS carries a logical lane, 0 if it carries none. -/
  move      : Option (Nat × Nat × Nat)
  spareWhy  : Nat
  /-- FEC blocks corrected, blocks lost, control retries (R203, R222, R223). -/
  corrected : Nat
  blocksLost : Nat
  retries   : Nat
  /-- Upstream blocks and frames discarded (R200, R205, R206). -/
  discards  : Nat
  /-- FEC mode has begun (R213 step 3); the logical lanes, and the physical lane that carries none. -/
  fec       : Bool
  tx        : Vector LaneTx 2
  spare     : LaneTx
  /-- Scrambler of each physical lane: its last 58 bits, newest lowest (R199). -/
  scr       : Vector Nat 3
  /-- Reception (R204, R205): words of the frame in progress still to come, whether parsing waits for the next FIRST_HDR; the type of the
  last control block on each upstream lane (R200). -/
  rxLeft    : Nat
  rxWait    : Bool
  rxKind    : Vector Nat 2
  recs      : List FecRec
  tseq      : Nat
  lastTime  : Option Nat
  /-- Ticks of LOSS reports within the last 1 ms, per logical lane. -/
  loss0     : List Nat
  loss1     : List Nat
  lam       : Nat
  /-- A lost node waits for the next bring-up (R224); CHAIN_TOO_LONG has been recorded since the last one (R214). -/
  again     : Bool
  tooLong   : Bool
  deriving DecidableEq, Repr

/-! ### Position feedback (chapter 9) -/

/-- Channel states of Table 9.2. -/
inductive ChanState where
  | off | starting | valid | fault | mismatch
  deriving DecidableEq, Repr

/-- A position-feedback channel PF0–PF7. -/
structure Chan where
  state   : ChanState
  cause   : Nat
  count   : Int
  /-- Accepted levels of A, B and Z; tick of the last accepted edge. -/
  levA    : Bool
  levB    : Bool
  lastEdge : Option (Nat × Nat)
  /-- Tick of the last fault condition, and tick at which STARTING began. -/
  badAt   : Nat
  startAt : Nat
  /-- The last two count updates: count and stamp, newest first (R271). -/
  u1      : Option (Int × Nat)
  u2      : Option (Int × Nat)
  /-- Updates since standstill, up to 2. -/
  hist    : Nat
  speed   : Int
  dirPos  : Option Bool
  revNew  : Bool
  revBit  : Bool
  standstill : Bool
  referenced : Bool
  /-- R267: have_last with last, pending with pend. -/
  last    : Option Int
  pend    : Option Int
  obsIdx  : Int
  expIdx  : Int
  reversals : Nat
  faults  : Nat
  mismatches : Nat
  /-- SSI: last raw position, runs of good and of bad reads, reads discarded. -/
  raw     : Option Int
  good    : Nat
  bad     : Nat
  discarded : Nat
  /-- SINCOS: last phase in units of 2^-32 period, whole periods, last sample tick, run of amplitudes out of limits, tick since
  which the amplitude is within limits, last amplitude in ‰, samples of the last pair. -/
  phase   : Option Nat
  periods : Int
  sampleAt : Nat
  ampBad  : Nat
  ampOkAt : Nat
  amp     : Nat
  smpX    : Int
  smpY    : Int
  deriving DecidableEq, Repr

/-- An active edge that waits (R273, R274): its stamp and recorded position, the opposite edge's stamp and position. -/
structure MarkWait where
  stamp   : Nat
  pos     : Option Int
  close   : Option Nat
  closePos : Option Int
  deriving DecidableEq, Repr

/-- A mark input MK0–MK7 (R273, R274). -/
structure Mark where
  /-- Active edges that wait to be offered, oldest first. -/
  waits   : List MarkWait
  /-- Accepted marks kept in the order of their stamps: stamp and recorded position (R47). -/
  kept    : List (Nat × Int)
  lastPos : Int
  lastAt  : Nat
  some_   : Bool
  accepted : Nat
  tooClose : Nat
  unclaimed : Nat
  refused : Nat
  deriving DecidableEq, Repr

/-- A magnetic switch HS0–HS15 (R275). -/
structure Switch where
  level : Bool
  edges : Nat
  lastAt : Nat
  deriving DecidableEq, Repr

/-- The pulse of an item at its gate: it holds the output until the counted position of its zone passes `ends`; with none, it
lasts the minimum pulse length alone (R276, R278). -/
structure Pulse where
  handle : Nat
  zone   : Fin 8
  ends   : Option Int
  deriving DecidableEq, Repr

/-- A reject gate RJ0–RJ7 (R276–R279). -/
structure Gate where
  asserted : Bool
  since    : Nat
  /-- Release not before this tick; the pulses that hold the output. -/
  minEnd   : Nat
  handles  : List Pulse
  test     : Bool
  hold     : Bool
  pulses   : Nat
  late     : Nat
  overlaps : Nat
  deriving DecidableEq, Repr

/-! ### Motion (chapter 10) -/

/-- Axis states (R284). -/
inductive AxisState where
  | disabled | idle | moving | stopping | homing | following | retaining | retained
  deriving DecidableEq, Repr

/-- An exact number p + q·√k: the peak speed of a move is a square root (R285), and what follows from it stays in its field. -/
structure Surd where
  p : Rat
  q : Rat
  k : Rat
  deriving DecidableEq, Repr

/-- A rational number as such. -/
def Surd.rat (x : Rat) : Surd := { p := x, q := 0, k := 0 }

/-- A stretch of motion in exact numbers. `kind`: 0 a trapezoidal move, 1 a stop from speed `v0`, 2 steps at the constant
speed `v0`. Distances and speeds are those of the lead axis; the axis itself issues `num / den` microsteps for each. -/
structure Profile where
  kind  : Nat
  /-- Origin of its time, and direction (positive or not); the tick at which DIR turns for it, where that lies ahead when it is planned
  (R293). -/
  t0    : Nat
  pos   : Bool
  turn  : Option Nat
  /-- Distance covered before, and distance of this stretch. -/
  base  : Surd
  dist  : Surd
  v0    : Surd
  vmax  : Rat
  acc   : Rat
  dec   : Rat
  num   : Nat
  den   : Nat
  /-- Microsteps of the axis from distance 0 to the end of this stretch. -/
  total : Nat
  deriving DecidableEq, Repr

/-- An axis AX0–AX7. -/
structure Axis where
  state   : AxisState
  /-- Bits 0, 1, 4–7 of Table 10.6; bits 2 and 3 follow from the position. -/
  status  : Nat
  /-- Position at distance 0 of the first stretch; the stretches under way, in the order of their times. -/
  pos     : Int
  segs    : List Profile
  vLat    : Nat
  aLat    : Nat
  dLat    : Nat
  /-- EN asserted, and since when; DIR stood for positive motion before the stretches under way. -/
  en      : Bool
  enAt    : Nat
  dir     : Bool
  /-- The handshake of Table 10.5: RET driven low, last step done, tick of the command, timeout latched. -/
  retDriven : Bool
  retStep : Nat
  retAt   : Nat
  retTo   : Nat
  /-- Latched multiplier, tick of the last coarse step, coarse steps ignored; a follow end is under way. -/
  mult    : Nat
  lastIn  : Option Nat
  ignored : Nat
  ending  : Bool
  /-- The home edge has been found. -/
  homed   : Bool
  /-- Microsteps issued before the stretches under way. -/
  issued  : Nat
  /-- Zone whose feed move this is; group whose move this is. -/
  feed    : Option (Fin 8)
  grp     : Option (Fin 4)
  deriving DecidableEq, Repr

/-- An axis group 0–3: state 0 IDLE, 1 MOVING, 2 STOPPING; lead axis and distances of the line. -/
structure Group where
  state : Nat
  lead  : Nat
  deltas : List Int
  deriving DecidableEq, Repr

/-! ### Board time and the sync ports (chapter 5) -/

/-- A board position as received (R166): counted position, its stamp in the sender's frame (TX_FT − AGE), the sync port it came
by. -/
structure BoardPos where
  valid : Bool
  pos   : Int
  stamp : Int
  port  : Nat
  deriving DecidableEq, Repr

/-- The last valid frame of a sync port: its TX_FT, its arrival, and its board positions as received. -/
structure SyncRx where
  txFt  : Nat
  at_   : Nat
  fault : Bool
  snap  : Bool
  snapFt : Nat
  bp0   : Option (Int × Nat)
  bp1   : Option (Int × Nat)
  deriving DecidableEq, Repr

/-- Board time and the sync ports. `align` 0 ALONE, 1 RATE_LOCKED, 2 ALIGNED, 3 HOLDOVER, 4 CONFLICT. -/
structure Sync where
  align   : Nat
  startup : Bool
  passive : Bool
  hops    : Nat
  offset  : Int
  rate    : Int
  /-- The sub-ft phase that the rate correction has brought the fire timer to, and the tick up to which it is counted (R163). -/
  phase   : Rat
  phaseAt : Nat
  inTol   : Nat
  stepDue : Bool
  /-- The one step of R164 has been made; a peer has been seen on SY0; none was seen by the end of sync-port start-up, and the
  zones with a board position wait for the late alignment (R35). -/
  stepped : Bool
  seen    : Bool
  late    : Bool
  delays  : Vector Nat 2
  rx      : Vector (Option SyncRx) 2
  seq     : Vector Nat 2
  bp      : Vector BoardPos 2
  bpConflict : Vector Bool 2
  ownFault : Bool
  zoneFault : Bool
  line    : Bool
  discards : Nat
  /-- A pending board snapshot tick (R167). -/
  snap    : Option Nat
  deriving DecidableEq, Repr

/-! ### Host ports, sessions and transfers (chapter 12) -/

/-- A sequenced message of the controller that is not acknowledged yet (R338). -/
structure TxMsg where
  n      : Nat
  kind   : Nat
  /-- What follows the transfer handle, and its bytes. -/
  body   : Nat
  len    : Nat
  /-- Item handles that an OUTCOME message carries (R342), for R333. -/
  items  : List Nat
  zone   : Nat
  sentAt : Option Nat
  tries  : Nat
  /-- Tick of its last retransmission on later messages received (R338). -/
  fastAt : Option Nat
  deriving DecidableEq, Repr

/-- A load of a session (R339). `done`: it has ended, and the message that says so (R340). -/
structure Load where
  loadId : Nat
  tile   : Bool
  idx    : Nat
  done   : Option Nat
  deriving DecidableEq, Repr

/-- A held KOP response (R359). -/
structure Resp where
  op    : Nat
  tag   : Nat
  index : Nat
  sub   : Nat
  code  : Nat
  info  : Nat
  /-- OFFSET of the data, or the transaction state. -/
  state : Nat
  size  : Nat
  data  : Nat
  /-- Bytes of the data. -/
  dlen  : Nat
  deriving DecidableEq, Repr

/-- A session slot 0–31. -/
structure Session where
  isOpen  : Bool
  gen     : Nat
  hostId  : Nat
  roles   : Nat
  leaseMs : Nat
  leaseEnd : Nat
  window  : Nat
  port    : Nat
  addr    : Nat
  seqOut  : Nat
  seqHi   : Nat
  seqSeen : List Nat
  rxCum   : Nat
  rxGot   : List Nat
  /-- ITEM_SUBMIT messages accepted and not yet delivered (R335). -/
  subs    : List (Nat × List Descriptor)
  /-- Messages accepted since the last ACK, and the tick of the first of them; a duplicate asks for an ACK at once. -/
  accepted : Nat
  ackFrom : Option Nat
  ackNow  : Bool
  txNext  : Nat
  txCum   : Nat
  txCredit : Nat
  unacked : List TxMsg
  /-- Unsequenced messages, by kind, length and body, that wait for a path (R347). -/
  rawWait : List (Nat × Nat × Nat)
  /-- A zone's stream ring refused the session's last stream line (R337). -/
  ringFull : Bool
  /-- Round-trip estimate in ft (RFC 6298). -/
  srtt    : Option Rat
  rttvar  : Rat
  retx    : Nat
  stale   : Nat
  loads   : List Load
  resps   : List Resp
  selects : SMap Nat
  /-- The session keys, host to controller and back (R438). -/
  keyIn   : Nat
  keyOut  : Nat
  /-- It was opened with a provisioning certificate (R428). -/
  prov    : Bool
  deriving DecidableEq, Repr

/-- A pending handshake (R328). -/
structure Handshake where
  hid    : Nat
  path   : Path
  roles  : Nat
  leaseMs : Nat
  window : Nat
  hostId : Nat
  prov   : Bool
  at_    : Nat
  /-- Bodies of the HELLO and of the CHALLENGE, the certificate's key, and the private key of DEV_EPH. -/
  hello  : List Nat
  chal   : List Nat
  key    : Nat
  eph    : Nat
  deriving DecidableEq, Repr

/-- A host port HP0–HP3: link state 0 DOWN, 1 UP, 2 DISABLED, and its counters. -/
structure HPort where
  link    : Nat
  rx      : Nat
  tx      : Nat
  fecOk   : Nat
  fecBad  : Nat
  discard : Nat
  /-- Bytes in the receive buffer while PD-NET is in RETENTION (R471); ticks of the echo answers of the last second. -/
  buffered : Nat
  echoes  : List Nat
  deriving DecidableEq, Repr

/-- The time-sync logic (R323, R324). Times in ns; the pair holds tick, PTP ns; `rate` is that of the PTP clock against the fire timer,
less 1. `grand` holds the quality and the identity of the master in use and the tick of its last announce message. -/
structure Ptp where
  state   : Nat
  port    : Option Nat
  offset  : Int
  pair    : Nat × Nat
  utcOffset : Int
  utcValid : Bool
  rate    : Rat
  grand   : Option (Nat × Nat × Nat)
  /-- Receipt of a two-step SYNC: sequence and tick. -/
  sync    : Option (Nat × Nat)
  delay   : Nat
  synced  : Nat
  deriving DecidableEq, Repr

/-! ### Transactions, field networks and the persistent store (chapter 13) -/

/-- A value staged in a transaction. `bind` is the entry that a select value named at the TX_WRITE (R390). -/
structure Stage where
  key   : Nat
  bind  : Nat
  value : Nat
  deriving DecidableEq, Repr

/-- A transaction slot; state 0 FREE, 1 OPEN, 2 COMMITTING, 3 DONE. -/
structure Tx where
  gen     : Nat
  sessIdx : Nat
  sid     : Nat
  host    : Nat
  roles   : Nat
  state   : Nat
  /-- Versions recorded at the first touch, by key. -/
  touched : List (Nat × Nat)
  staged  : List Stage
  result  : Nat
  limitAt : Nat
  /-- The tick at which its lease ends, unless a request renews it (R373). -/
  leaseEnd : Nat
  /-- Order in which slots became FREE or DONE, and order of commits. -/
  freedAt : Nat
  commitNo : Nat
  waitIdle : Nat
  waitItem : Nat
  deriving DecidableEq, Repr

/-- A partial message of one sender on a field network (R366). -/
structure Partial where
  host  : Nat
  msgno : Nat
  next  : Nat
  bytes : List Nat
  at_   : Nat
  deriving DecidableEq, Repr

/-- A field-network controller; bus 0 OFF, 1 ERROR_ACTIVE, 2 ERROR_PASSIVE, 3 BUS_OFF. -/
structure Can where
  bus     : Nat
  txErr   : Nat
  rxErr   : Nat
  rx      : Nat
  tx      : Nat
  discard : Nat
  busOffs : Nat
  parts   : List Partial
  /-- Message number towards each host. -/
  msgno   : SMap Nat
  deriving DecidableEq, Repr

/-- A request that waits: its session and tag, the domains that it waits for, and the command that it is (R358, R472). -/
structure Waiting where
  sess    : Fin 32
  tag     : Nat
  domains : List (Fin 11)
  cmd     : Instr
  deriving DecidableEq, Repr

/-- A bank of the non-volatile store (Table 13.14): its 32 bytes of header as one little-endian number, the bytes of its entries, its 32
bytes of trailer. -/
structure Bank where
  header  : Nat
  body    : List Nat
  trailer : Nat
  deriving DecidableEq, Repr

/-- A save under way (R384): target bank 0 or 1, what it writes, whether a restart follows. -/
structure Save where
  bank    : Nat
  count   : Nat
  entries : List (Nat × Nat)
  restart : Bool
  deriving DecidableEq, Repr

/-- Status of a command object (Table 13.3). -/
structure CmdStat where
  state : Nat
  code  : Nat
  deriving DecidableEq, Repr

/-! ### Engines (chapter 15) -/

/-- An engine K0–K7: state 0 OFF, 1 STARTING, 2 RUNNING, 3 RESTARTING. -/
structure Engine where
  state    : Nat
  restarts : Nat
  /-- Ticks of its stops within the last 10 s. -/
  stops    : List Nat
  /-- Tick of the stop, while it is held in reset. -/
  heldFrom : Option Nat
  /-- Tick of the restart since which it runs from ROM alone (R407). -/
  bypassAt : Option Nat
  halted   : Bool
  /-- Version of the patch in use; 0 none. -/
  patch    : Nat
  deriving DecidableEq, Repr

/-- The words of the swept arrays, and the accesses to them (R408–R415). -/
structure Arrays where
  /-- Words that are not 0, by the cells that hold them: array · 2^16 + word, or those of a spare row. -/
  words   : SMap Nat
  /-- Remapped rows: macro · 512 + row to spare + 1 (R419). -/
  remap   : SMap Nat
  /-- The region that is locked for its test, and the shadow, by array · 2^16 + word (R417, R418). -/
  locked  : Option Nat
  shadow  : SMap Nat
  /-- Words in which one bit has flipped, by array · 2^16 + word, and errors corrected in ES0–ES7, CP0–CP3, LB0–LB15 (R415). -/
  weak    : List Nat
  single  : Vector Nat 28
  /-- Cycles of the last 1 µs on which an engine used P0 and P1 of each pool bank (R411). -/
  portUse : Vector (List Nat) 8
  /-- Accesses issued and not yet served, in order of issue. -/
  waiting : List Access
  /-- The engine at which the next round begins, by pool bank (R411). -/
  turn    : Vector (Fin 8) 4
  /-- Accesses repeated after BUSY, by scratchpad (0x7010 + k .05). -/
  retries : Vector Nat 8
  /-- Cycles of CLK_ENG. -/
  cycle   : Nat
  /-- What the accesses that the last cycle completed returned. -/
  answers : List (Access × Nat)
  deriving DecidableEq, Repr

/-! ### Self-calibration (chapter 11) -/

/-- What a collection holds of one sector (R305): pairs, their exact sums, and the sum of the shadow radii. -/
structure Sector where
  n   : Nat
  sx  : Int
  sy  : Int
  sxx : Int
  syy : Int
  sxy : Int
  rho : Rat
  deriving DecidableEq, Repr

/-- Correction values of a sin/cos channel (Table 11.8): offsets and amplitudes in 0.1 mV, phase in 2^-16 period. -/
structure Corr where
  os : Int
  oc : Int
  as : Nat
  ac : Nat
  ph : Int
  deriving DecidableEq, Repr

/-- Calibration of a sin/cos channel PF0–PF3. `st`: 0 UNCALIBRATED, 1 COLLECTING, 2 COMPUTING, 3 VERIFYING, 4 AWAITING_GAP,
5 CALIBRATED. -/
structure EncCal where
  st       : Nat
  /-- The channel has been calibrated or written since reset: the state when no run is in progress. -/
  done     : Bool
  /-- VALID has been entered since the mode committed. -/
  seenValid : Bool
  result   : Nat
  refTemp  : Option Int
  lastTemp : Int
  runs     : Nat
  rejects  : Nat
  residual : Nat
  /-- Tick at which the collection or the waiting began; whole periods of the channel at its last pair, and the whole periods counted
  since the collection began, forwards and backwards. -/
  since    : Nat
  from_    : Int
  counted  : Nat
  sectors  : Vector Sector 16
  /-- The first collection is complete and waits for the computation. -/
  ready    : Bool
  /-- Values under verification or awaiting a gap; whether a host wrote them (R314). -/
  new      : Option Corr
  newResid : Nat
  written  : Bool
  deriving DecidableEq, Repr

/-- A run that is due and has not started (R303, R304): KIND and TARGET of Table 11.4, value written by a host. -/
structure DueRun where
  kind   : Nat
  target : Nat
  write  : Option Nat
  /-- It became due by the temperature or by the first VALID, not by a request. -/
  auto   : Bool
  deriving DecidableEq, Repr

/-- Lane calibration of a link port. -/
structure LaneCal where
  /-- Lane run in progress: 0 none, 1 D0, 2 D1, 3 DS, 4 U0, 5 US. -/
  run      : Nat
  since    : Nat
  /-- A transmit run: 1 waits for the logical lane to reach DS, 2 driver at common mode, 3 idle groups sent, 4 the same under
  the old code, 5 the logical lane moves back. -/
  step     : Nat
  /-- Result with which the run will end; value written by a host, or the new code of a transmit run. -/
  verdict  : Nat
  write    : Option Nat
  byHost   : Bool
  result   : Nat
  eyes     : Vector Nat 2
  failed   : Nat
  runs     : Nat
  rejects  : Nat
  refTemps : Vector (Option Int) 5
  /-- Nodes that have reported lock once and twice running since the lane sends again. -/
  lockOnce : List Nat
  lockTwice : List Nat
  deriving DecidableEq, Repr

/-- A request slot (Tables 11.4, 11.7). -/
structure ReqSlot where
  kind     : Nat
  target   : Nat
  deadline : Nat
  result   : Nat
  seq      : Nat
  deriving DecidableEq, Repr

/-! ### On-chip memory (chapter 15) -/

/-- The transparent test and the counters of the swept arrays. -/
structure MemTest where
  /-- Next region of the sweep, tick at which the last one began. -/
  next     : Nat
  lastAt   : Option Nat
  /-- The interval in ft that was in force as it began (0x7000.02). -/
  every    : Nat
  /-- Region under test, and whether a requested test began it. -/
  under    : Option (Nat × Bool)
  sweeps   : Nat
  /-- Requested test: slot, regions still to begin, tick of the last begin. -/
  req      : Option (Nat × List Nat)
  reqAt    : Nat
  found    : Nat
  repaired : Nat
  unrepaired : Nat
  lastLoc  : Nat
  /-- Spare rows used, by macro number over all arrays. -/
  used     : SMap Nat
  /-- Uncorrectable words of ES, CP, LB; operations that the hardware clients of the common pool dropped for one (R415). -/
  uncorr   : Vector Nat 3
  dropped  : Vector Nat 4
  /-- The shadow failed its test: the sweep stays off (R421). -/
  shadowBad : Bool
  deriving DecidableEq, Repr

/-! ### Trust (chapter 16) -/

/-- An accepted life-cycle transition that is not over (Table 16.3): FROM, TO, TOGGLES, whether the fuse blows, the session that asked. -/
structure LcRun where
  from_   : Nat
  to_     : Nat
  toggles : Nat
  fuseOk  : Bool
  sess    : Nat
  deriving DecidableEq, Repr

/-- The cocoon (Table 16.4). -/
structure Cocoon where
  owner     : Option Nat
  minEpoch  : Nat
  recordSeq : Nat
  clearance : Option Nat
  list      : List MakerKey
  listSeq   : Nat
  secret    : Nat
  /-- Wrapped session keys, by session index. -/
  wrapped   : SMap Nat
  deriving DecidableEq, Repr

/-- The tamper latch and what lies beside it in PD-BAK; `active`: sources that are active (R432). -/
structure Tamper where
  active : Nat
  latch  : Nat
  wipes  : Nat
  cause  : Nat
  time   : Nat
  deriving DecidableEq, Repr

/-! ### Recorder and snapshots (chapter 17) -/

/-- A committed record. -/
structure Rec where
  seq : Nat
  ev  : Event
  deriving DecidableEq, Repr

/-- The recorder in the non-volatile store. -/
structure Recorder where
  records : List Rec
  lastSeq : Nat
  clears  : Nat
  displaced : Nat
  /-- Slots written in the device's life; slots whose CRC fails (R447). -/
  writes  : Nat
  torn    : Nat
  /-- A CLEARED record that stands at the head of the buffer, not yet committed. -/
  clearing : Option Event
  deriving DecidableEq, Repr

/-- A scheduled latch tick (R455): of a board snapshot, of the snapshot period. -/
structure Latch where
  at_    : Nat
  board  : Bool
  period : Bool
  deriving DecidableEq, Repr

/-- Counter snapshots (R455–R457): two buffers of counters by number, the one that is active, the epoch. -/
structure Snap where
  buf0   : SMap Nat
  buf1   : SMap Nat
  active : Bool
  epoch  : Nat
  tick   : Nat
  /-- Scheduled latch ticks, in rising order. -/
  due    : List Latch
  /-- The latch tick last taken, and whether it was a board snapshot's. -/
  last   : Option (Nat × Bool)
  /-- A latched buffer that is not active yet: its latch tick. -/
  latched : Option Nat
  deriving DecidableEq, Repr

/-! ### Power, clocks, start-up (chapter 18) -/

/-- A power domain; state 0 OFF, 1 RETENTION, 2 ON, 3 WAKING. -/
structure Domain where
  state   : Nat
  /-- Tick at which it began to wake, and the state it wakes from. -/
  wakeAt  : Nat
  wakeFrom : Nat
  wakes   : Nat
  deriving DecidableEq, Repr

/-- Reset, supplies, clocks and the orderly power-down. -/
structure Power where
  cause    : Nat
  dieTemp  : Int
  dieHot   : Bool
  readyTemp : Option Int
  dramMib  : Nat
  /-- A DRAM channel is trained; failed retrainings in a row; retraining. -/
  trained  : Vector Bool 2
  failures : Vector Nat 2
  training : Vector Bool 2
  /-- VHV and isolator link of each HV die. -/
  die      : Vector Bool 2
  /-- Lane PLL locks: HL0–HL15, HP0–HP3; root PLL and reference. -/
  pll      : Vector Bool 20
  root     : Bool
  refOk    : Bool
  /-- The RTC oscillator has been starting since this tick (R492). -/
  rtcFrom  : Option Nat
  /-- A core supply (VCORE, VSRAM) is outside its range within ±12 %. -/
  excursion : Vector Bool 2
  /-- A commanded reset waits for the chains since this tick. -/
  resetFrom : Option Nat
  /-- Step of Table 18.7 that the power-down has completed; 0 none. -/
  step     : Nat
  stepAt   : Nat
  /-- Start-up step 10 has written ON to the chains. -/
  autoOn   : Bool
  poweredAt : Nat
  deriving DecidableEq, Repr

/-! ### The block -/

/-- The state of the block. Fields of later chapters stand in structures of their own. -/
structure State where
  /-- The fire timer (R137). -/
  ft      : Nat
  pending : List Instr
  /-- The model's own: session index and role of the access that is being carried out; (0, 0) where there is none (R441). -/
  origin  : Nat × Nat
  /-- Requests that wait, in the order in which they arrived, and the session of the one whose turn has come. -/
  waiting : List Waiting
  resumed : Option (Fin 32)
  /-- The model's own counter of free values. -/
  free    : Nat
  /-- The model's own log of what the last command sent. -/
  out     : List Out
  /-- Values in force of RW and RWS objects, by index · 256 + subindex, where they differ from the row's default. -/
  obj     : SMap Nat
  /-- Versions of objects, where they differ from 1 (R355). -/
  ver     : SMap Nat
  /-- The model's own: the tick after the last one on which a value was applied to an object, by its key. -/
  verAt   : SMap Nat
  /-- Values that take force at the next restart. -/
  restartObj : SMap Nat
  items   : List Item
  gens    : Vector Nat 256
  freeSlots : List Nat
  /-- Zone of the last item of each slot; 8 where there was none (R45). -/
  slotZone : SMap Nat
  notices : List Notice
  noticesSent : Nat
  /-- Outcome records held by R64 of items whose slots are free again. -/
  heldOut : List Nat
  lateReports : Nat
  zones   : Vector Zone 8
  templates : List Asset
  tiles   : List Asset
  /-- Generations of free template and tile indices, where not 0, and the order in which they were freed. -/
  tplGen  : SMap Nat
  tplFree : List Nat
  tplNext : Nat
  tileGen : SMap Nat
  tileFree : List Nat
  tileNext : Nat
  dram    : Vector (List Host.Cell) 2
  stream  : List StreamLine
  /-- Host writes to DRAM beyond what the share of R77 has carried since, in fifths of a byte, and the tick of that figure. -/
  writeLoad : Nat
  writeAt : Nat
  dataErrors : Nat
  streamDiscards : Nat
  heads   : Vector Head 64
  stampNo : Nat
  chains  : Vector Chain 16
  ports   : Vector Port 16
  /-- Event buffer (R445). -/
  events  : List Event
  lost    : Nat
  lostRun : Nat
  lostFirst : Nat
  lostLast : Nat
  opSeconds : Nat
  powerCycles : Nat
  /-- Calendar in units of 2^-16 s, and whether it is valid (R450). -/
  calendar : Nat
  calValid : Bool
  /-- Ticks at which `opSeconds` and `calendar` had their values; operating seconds last written to the store. -/
  opAt    : Nat
  opStored : Nat
  calAt   : Nat
  /-- Frequency term and correction of R451 in ppb, last measured offset in ns. -/
  calFreq : Rat
  calCorr : Rat
  calOff  : Int
  /-- Tick of the last run of the procedure of R451. -/
  calRun  : Option Nat
  cmdStat : SMap CmdStat
  sessions : Vector Session 32
  sessFree : List Nat
  shakes  : List Handshake
  refusals : Nat
  authFails : Nat
  replays : Nat
  staleSess : Nat
  malformed : Nat
  hports  : Vector HPort 4
  ptp     : Ptp
  txs     : Vector Tx 8
  txClock : Nat
  conflicts : Nat
  staleTx : Nat
  cans    : Vector Can 2
  banks   : Vector Bank 2
  /-- Erasures of each bank in the device's life. -/
  erases  : Vector Nat 2
  activeBank : Nat
  save    : Option Save
  loadResult : Nat
  skipped : Nat
  engines : Vector Engine 8
  /-- The two slots of the firmware-patch area (R405). -/
  patches : Vector (Option PatchImage) 2
  arrays  : Arrays
  /-- Of each power domain that is idle: since when, with Retention after and Off after as they stood then (R470, Table 14.12). -/
  idle    : Vector (Option (Nat × Nat × Nat)) 11
  chans   : Vector Chan 8
  marks   : Vector Mark 8
  switches : Vector Switch 16
  gates   : Vector Gate 8
  axes    : Vector Axis 8
  groups  : Vector Group 4
  sync    : Sync
  /-- Board position, device state (0 STARTING, 1 READY, 2 POWERING_DOWN), life-cycle state. -/
  bpos    : Nat
  devState : Nat
  lifeCycle : Nat
  serial  : Nat
  /-- Toggle fuses blown; a life-cycle transition pending in the non-volatile store (R426). -/
  toggles : Nat
  /-- Fuses PROVISIONED, FIELD and RETIRED, bits 0 to 2 (R424). -/
  fuses   : Nat
  lcPending : Option LcRun
  cocoon  : Cocoon
  tamper  : Tamper
  enc     : Vector EncCal 4
  lanes   : Vector LaneCal 16
  due     : List DueRun
  reqs    : Vector ReqSlot 16
  mem     : MemTest
  recorder : Recorder
  snap    : Snap
  domains : Vector Domain 11
  power   : Power
  deriving DecidableEq, Repr

/-! ### Reset

Every part at the value the manual gives for reset; where it gives none, at zero, empty or absent (notes/assumptions/4). -/

def Tracker.start : Tracker :=
  { pHat := 0, vHat := 0, tLast := 0, lastCnt := 0, held := none, init := 0, fwd := 0, within := 0, tGood := 0, any := false }

def Zone.init : Zone :=
  { state := .disabled, refOrigin := none, zoneEnd := none, hwm := 0, place := .noSource, faultAt := 0, trk := Tracker.start, upd := none,
    trail := [], setNo := 0, prevSet := [], setAt := none, hold := false, lossItems := [], owner := none, lapseAt := none, traverse := 0, travItem := 0xFFFF,
    armed := false, feedDue := false, feedRun := false, feedPos := 0, res := [], outcomes := Vector.replicate 12 0, admitted := 0,
    late := Vector.replicate 9 0, stale := 0, spillway := 0, withdrawn := 0, faults := 0, reversals := 0, substituted := 0,
    spread := 0, reassigned := 0, unhidden := 0, guarded := 0, quality := 0, unhideable := 0, maskResult := 0,
    patternHandle := 0xFFFF }

def HRow.init : HRow := { ring := [], stamped := [], withdrawn := [], lastFire := 0, lastEnd := 0, mirror := none }

def NozMap.init : NozMap := { inst := 0, entries := [] }

def Head.init : Head :=
  { link := none, node := 0, inService := false, bank := 0, idState := .absent, rd := [], rdBase := [], rdEnd := 0, maker := 0, blockOk := false, driveOk := false,
    lastId := none, trimSrc := 0, trim := 0, trimBusy := false, trimOk := false, trimTries := 0, trimFailed := false, thermal := .cold,
    temp := 0, tempAt := none, sensorFault := false, tripped := false, setFromBlock := false, setKnown := false, integ := 0,
    warmPeriod := 0, cooldowns := 0, scanDue := false, scanNext := 0, scanBlk := none, scanAhead := none, scanRedo := [], lastFull := 0,
    fullRuns := 0, aborted := 0, scanPend := [], ratio := [], baseOk := false, baseline := [],
    inst := NozMap.init, pend := none, prev := none, installs := 0, rowQuality := Vector.replicate 4 0,
    rows := Vector.replicate 4 HRow.init, linesFired := 0, dropsFired := 0, clamped := 0, suppressed := 0 }

def Chain.init : Chain :=
  { state := .off, trip := 0, samples := [], vph := 0, current := 0, inRun := 0, outRun := 0, overI := 0, overV := 0,
    lastSample := none, rampFrom := 0, inrushFrom := none, leakFrom := none, inrush := 0, rate := 0, timeout := 0, seq := 0, words := [],
    rsLearned := 0, rsAt := 0, rsBad := 0, faults := 0, gate := false, drive := 0 }

def Node.init : Node :=
  { present := false, kind := 0, identity := 0, profileOk := false, inService := false, lost := false, head := none,
    delayA := 0, delayB := 0, timeErr := 0, status := 0, lastStatus := none, lastSeq := none, lanes := 0, timeOk := false,
    side := 0, farLostAt := none, farOkAt := none, eseq := 0, echoAt := none, cseq := 0, ctl := none, ctlWait := [] }

def LaneTx.init : LaneTx := { bseq := 0, words := [], first := 127, mark := 0, mseq := 0, free := 0, opened := none }

def Port.init : Port :=
  { state := .off, since := 0, nodes := Vector.replicate 9 Node.init, enumDepth := 0, enumTries := 0, lockU0 := false,
    lockUS := false, lockSince := none, dual := .single, splitPt := 0, raster := 0, words := 0, laneMap := 4,
    move := none, spareWhy := 0, corrected := 0, blocksLost := 0, retries := 0, discards := 0, fec := false,
    tx := Vector.replicate 2 LaneTx.init, spare := LaneTx.init, scr := Vector.replicate 3 0, rxLeft := 0, rxWait := false,
    rxKind := Vector.replicate 2 0, recs := [],
    tseq := 0, lastTime := none, loss0 := [], loss1 := [], lam := 0, again := false, tooLong := false }

def Chan.init : Chan :=
  { state := .off, cause := 0, count := 0, levA := false, levB := false, lastEdge := none, badAt := 0, startAt := 0,
    u1 := none, u2 := none, hist := 0, speed := 0, dirPos := none, revNew := false, revBit := false, standstill := false,
    referenced := false, last := none, pend := none, obsIdx := 0, expIdx := 0, reversals := 0, faults := 0, mismatches := 0,
    raw := none, good := 0, bad := 0, discarded := 0, phase := none, periods := 0, sampleAt := 0, ampBad := 0, ampOkAt := 0,
    amp := 0, smpX := 0, smpY := 0 }

def Mark.init : Mark :=
  { waits := [], kept := [], lastPos := 0, lastAt := 0, some_ := false, accepted := 0, tooClose := 0,
    unclaimed := 0, refused := 0 }

def Switch.init : Switch := { level := false, edges := 0, lastAt := 0 }

def Gate.init : Gate :=
  { asserted := false, since := 0, minEnd := 0, handles := [], test := false, hold := false, pulses := 0, late := 0,
    overlaps := 0 }

/-- An axis after reset is DISABLED with PHASE_LOST set (Table 10.6). -/
def Axis.init : Axis :=
  { state := .disabled, status := 2, pos := 0, segs := [], vLat := 0, aLat := 0, dLat := 0, en := false, enAt := 0,
    dir := false, retDriven := false, retStep := 0, retAt := 0, retTo := 0, mult := 0, lastIn := none, ignored := 0,
    ending := false, homed := false, issued := 0, feed := none, grp := none }

def Group.init : Group := { state := 0, lead := 0, deltas := [] }

def Sync.init : Sync :=
  { align := 0, startup := true, passive := false, hops := 0, offset := 0, rate := 0, phase := 0, phaseAt := 0, inTol := 0, stepDue := false, stepped := false,
    seen := false, late := false,
    delays := Vector.replicate 2 0, rx := Vector.replicate 2 none, seq := Vector.replicate 2 0,
    bp := Vector.replicate 2 { valid := false, pos := 0, stamp := 0, port := 0 }, bpConflict := Vector.replicate 2 false,
    ownFault := false, zoneFault := false, line := false, discards := 0, snap := none }

def Session.init : Session :=
  { isOpen := false, gen := 0, hostId := 0, roles := 0, leaseMs := 0, leaseEnd := 0, window := 0, port := 0,
    addr := 0, seqOut := 0, seqHi := 0, seqSeen := [], rxCum := 0, rxGot := [], subs := [], accepted := 0, ackFrom := none,
    ackNow := false, txNext := 0, txCum := 0, txCredit := 0, unacked := [], rawWait := [], ringFull := false, srtt := none, rttvar := 0, retx := 0, stale := 0,
    loads := [], resps := [], selects := [], keyIn := 0, keyOut := 0, prov := false }

def HPort.init : HPort := { link := 0, rx := 0, tx := 0, fecOk := 0, fecBad := 0, discard := 0, buffered := 0, echoes := [] }

def Ptp.init : Ptp :=
  { state := 0, port := none, offset := 0, pair := (0, 0), utcOffset := 0, utcValid := false, rate := 0, grand := none, sync := none,
    delay := 0, synced := 0 }

def Tx.init : Tx :=
  { gen := 0, sessIdx := 0, sid := 0, host := 0, roles := 0, state := 0, touched := [], staged := [], result := 0,
    limitAt := 0, leaseEnd := 0, freedAt := 0, commitNo := 0, waitIdle := 0, waitItem := 0xFF }

def Can.init : Can :=
  { bus := 0, txErr := 0, rxErr := 0, rx := 0, tx := 0, discard := 0, busOffs := 0, parts := [], msgno := [] }

/-- An erased bank. -/
def Bank.init : Bank := { header := 2 ^ 256 - 1, body := [], trailer := 2 ^ 256 - 1 }

def Engine.init : Engine :=
  { state := 0, restarts := 0, stops := [], heldFrom := none, bypassAt := none, halted := false, patch := 0 }

def Arrays.init : Arrays :=
  { words := [], remap := [], locked := none, shadow := [], weak := [], single := Vector.replicate 28 0,
    portUse := Vector.replicate 8 [], waiting := [], turn := Vector.replicate 4 0, retries := Vector.replicate 8 0, cycle := 0, answers := [] }

def Sector.init : Sector := { n := 0, sx := 0, sy := 0, sxx := 0, syy := 0, sxy := 0, rho := 0 }

def EncCal.init : EncCal :=
  { st := 0, done := false, seenValid := false, result := 0, refTemp := none, lastTemp := 0, runs := 0, rejects := 0,
    residual := 0xFFFF, since := 0, from_ := 0, counted := 0, sectors := Vector.replicate 16 Sector.init, ready := false, new := none,
    newResid := 0, written := false }

def LaneCal.init : LaneCal :=
  { run := 0, since := 0, step := 0, verdict := 3, write := none, byHost := false, result := 0, eyes := Vector.replicate 2 0,
    failed := 0, runs := 0, rejects := 0, refTemps := Vector.replicate 5 none, lockOnce := [], lockTwice := [] }

def ReqSlot.init : ReqSlot := { kind := 0, target := 0, deadline := 0, result := 0, seq := 0 }

def MemTest.init : MemTest :=
  { next := 0, lastAt := none, every := 0, under := none, sweeps := 0, req := none, reqAt := 0, found := 0, repaired := 0,
    unrepaired := 0, lastLoc := 2 ^ 64 - 1, used := [], uncorr := Vector.replicate 3 0,
    dropped := Vector.replicate 4 0, shadowBad := false }

def Cocoon.init : Cocoon :=
  { owner := none, minEpoch := 0, recordSeq := 0, clearance := none, list := [], listSeq := 0, secret := 0, wrapped := [] }

def Tamper.init : Tamper := { active := 0, latch := 0, wipes := 0, cause := 0, time := 0 }

/-- The factory CLEARED record, sequence 1 with clear count 0, at subsystem 19, slice 0 (R449). -/
def factoryRecord : Rec :=
  { seq := 1, ev := { tick := 0, opSeconds := 0, powerCycles := 0, calendar := 0, code := 0x9810, cls := 5, sev := 1,
                      session := 0, role := 0, loc := 342555046656868351, payload := 0 } }

def Recorder.init : Recorder := { records := [factoryRecord], lastSeq := 1, clears := 0, displaced := 0, writes := 0, torn := 0, clearing := none }

def Snap.init : Snap :=
  { buf0 := [], buf1 := [], active := false, epoch := 0, tick := 0, due := [], last := none, latched := none }

def Domain.init : Domain := { state := 0, wakeAt := 0, wakeFrom := 0, wakes := 0 }

def Power.init : Power :=
  { cause := 0, dieTemp := 0, dieHot := false, readyTemp := none, dramMib := 0, trained := Vector.replicate 2 false,
    failures := Vector.replicate 2 0, training := Vector.replicate 2 false, die := Vector.replicate 2 false,
    pll := Vector.replicate 20 false, root := false, refOk := false, rtcFrom := none, excursion := Vector.replicate 2 false, resetFrom := none, step := 0,
    stepAt := 0, autoOn := false, poweredAt := 0 }

/-- The block as the reset leaves it and before start-up begins (R464, R474): nothing is listed in memory, every object
stands at its default, the device state is STARTING. -/
def State.reset : State :=
  { ft := 0, pending := [], origin := (0, 0), waiting := [], resumed := none, free := 0, out := [], obj := [], ver := [], verAt := [], restartObj := [], items := [],
    gens := Vector.replicate 256 0, freeSlots := List.range 256, slotZone := [], notices := [], noticesSent := 0, heldOut := [], lateReports := 0,
    zones := Vector.replicate 8 Zone.init, templates := [], tiles := [], tplGen := [], tplFree := [], tplNext := 0,
    tileGen := [], tileFree := [], tileNext := 0, dram := Vector.replicate 2 [], stream := [], writeLoad := 0, writeAt := 0,
    dataErrors := 0,
    streamDiscards := 0, heads := Vector.replicate 64 Head.init, stampNo := 0, chains := Vector.replicate 16 Chain.init,
    ports := Vector.replicate 16 Port.init, events := [], lost := 0, lostRun := 0, lostFirst := 0, lostLast := 0,
    opSeconds := 0, powerCycles := 0, calendar := 0, calValid := false, opAt := 0, opStored := 0, calAt := 0, calFreq := 0,
    calCorr := 0, calOff := 0, calRun := none, cmdStat := [], sessions := Vector.replicate 32 Session.init, sessFree := List.range 32,
    shakes := [], refusals := 0, authFails := 0, replays := 0, staleSess := 0, malformed := 0, hports := Vector.replicate 4 HPort.init,
    ptp := Ptp.init, txs := Vector.replicate 8 Tx.init, txClock := 0, conflicts := 0, staleTx := 0,
    cans := Vector.replicate 2 Can.init, banks := Vector.replicate 2 Bank.init, erases := Vector.replicate 2 0, activeBank := 0, save := none,
    loadResult := 1, skipped := 0, engines := Vector.replicate 8 Engine.init, patches := Vector.replicate 2 none, arrays := Arrays.init, idle := Vector.replicate 11 none,
    chans := Vector.replicate 8 Chan.init, marks := Vector.replicate 8 Mark.init, switches := Vector.replicate 16 Switch.init,
    gates := Vector.replicate 8 Gate.init, axes := Vector.replicate 8 Axis.init, groups := Vector.replicate 4 Group.init,
    sync := Sync.init, bpos := 0, devState := 0, lifeCycle := 0, serial := 0, toggles := 0, fuses := 0, lcPending := none,
    cocoon := Cocoon.init, tamper := Tamper.init, enc := Vector.replicate 4 EncCal.init,
    lanes := Vector.replicate 16 LaneCal.init, due := [], reqs := Vector.replicate 16 ReqSlot.init, mem := MemTest.init,
    recorder := Recorder.init, snap := Snap.init, domains := Vector.replicate 11 Domain.init, power := Power.init }

end Sys2Proof.Machine
end

