-- ==== Sys2Proof/Machine/Trig.lean ====
section
/-! DEFINITION. The circular functions that R261 and R306 name: angles in turns, fine enough for the results that the controller
rounds them to (notes/assumptions/18), and square roots. -/

namespace Sys2Proof.Machine

/-- atan(2^-i) / (2π) in units of 2^-48 turn, i = 0–43. -/
def atanTable : List Int :=
  [35184372088832, 20770547670515, 10974586953444, 5570871696862, 2796246208089, 1399486241028, 699913886760, 349978300884,
   174991820497, 87496244017, 43748163730, 21874087080, 10937044192, 5468522177, 2734261099, 1367130551,
   683565276, 341782638, 170891319, 85445659, 42722830, 21361415, 10680707, 5340354,
   2670177, 1335088, 667544, 333772, 166886, 83443, 41722, 20861,
   10430, 5215, 2608, 1304, 652, 326, 163, 81,
   41, 20, 10, 5]

/-- One vectoring step: rotate (x, y) towards the axis, adding up the angle. -/
def cordicStep (v : Int × Int × Int) (e : Int × Nat) : Int × Int × Int :=
  let p : Int := 2 ^ e.2
  if 0 < v.2.1 then (v.1 + v.2.1 / p, v.2.1 - v.1 / p, v.2.2 + e.1) else (v.1 - v.2.1 / p, v.2.1 + v.1 / p, v.2.2 - e.1)

/-- 2π in units of 2^-160. -/
def twoPi160 : Int := 9182885614096437842769610399486622256908310048836

/-- Sum of a power series by Horner's rule: terms from the last, each `1 − θ² / (a · (a + 1)) · rest`, in units of 2^-160. -/
def hornerGo (sq : Int) : Nat → Int → Int → Int
  | 0, _, acc => acc
  | n + 1, a, acc => hornerGo sq n (a - 2) (2 ^ 160 - sq * acc / 2 ^ 160 / (a * (a + 1)))

/-- The angle of `p` units of 2^-32 turn, between −π and π, in units of 2^-160. -/
def angle160 (p : Int) : Int := sx 32 (toU 32 p) * twoPi160 / 2 ^ 32

/-- sin and cos of `p` units of 2^-32 turn, in units of 2^-128. -/
def sin128 (p : Int) : Int :=
  let th := angle160 p
  th * hornerGo (th * th / 2 ^ 160) 28 56 (2 ^ 160) / 2 ^ 192
def cos128 (p : Int) : Int :=
  let th := angle160 p
  hornerGo (th * th / 2 ^ 160) 28 55 (2 ^ 160) / 2 ^ 32

/-- atan2(y, x) in units of 2^-32 turn, rounded down, 0 to 2^32 − 1; 0 for the null vector. The fixed-point angle is within one unit;
the side of that unit's direction on which (x, y) lies decides, a point within 2^-120 of it counting as on it. -/
def turnOf (y x : Int) : Nat :=
  let (half, x', y') : Int × Int × Int := if x < 0 then (2 ^ 47, -x, -y) else (0, x, y)
  let r := atanTable.zipIdx.foldl cordicStep (x' * 2 ^ 64, y' * 2 ^ 64, 0)
  let c : Int := (half + r.2.2 + 2 ^ 15) / 2 ^ 16
  let side := y * cos128 c - x * sin128 c
  if y = 0 ∧ x = 0 then 0 else toU 32 (if -((x.natAbs + y.natAbs : Nat) : Int) * 256 ≤ side then c else c - 1)

/-- √q for a rational q ≥ 0, rounded down to a multiple of 2^-n. -/
def sqrtBits (n : Nat) (q : Rat) : Rat := (isqrt ((q * 4 ^ n).floor.toNat) : Rat) / 2 ^ n

/-- √q for a rational q ≥ 0, rounded to the nearest integer: exact. -/
def roundRoot (q : Rat) : Nat := (isqrt ((4 * q).floor.toNat) + 1) / 2

end Sys2Proof.Machine
end

