-- ==== Sys2Proof/Machine/Profile.lean ====
section
/-! DEFINITION. Motion profiles in exact numbers (R285, R288, R293): distance, speed and microsteps at a tick. -/

namespace Sys2Proof.Machine

/-- A number of ft in seconds. -/
def ftSec (n : Nat) : Rat := (n : Rat) / 1250000000

/-! ### Exact numbers of one quadratic field -/

def Surd.add (a b : Surd) : Surd := { p := a.p + b.p, q := a.q + b.q, k := if a.q = 0 then b.k else a.k }
def Surd.scale (c : Rat) (a : Surd) : Surd := { a with p := c * a.p, q := c * a.q }
def Surd.sub (a b : Surd) : Surd := a.add (b.scale (-1))
def Surd.mul (a b : Surd) : Surd :=
  let k := if a.q = 0 then b.k else a.k
  { p := a.p * b.p + a.q * b.q * k, q := a.p * b.q + a.q * b.p, k }

/-- 0 ≤ p + q·√k, decided by squares. -/
def Surd.nonneg (a : Surd) : Bool :=
  if 0 ≤ a.p then decide (0 ≤ a.q) || decide (a.q * a.q * a.k ≤ a.p * a.p)
  else decide (0 ≤ a.q) && decide (a.p * a.p ≤ a.q * a.q * a.k)
def Surd.le (a b : Surd) : Bool := (b.sub a).nonneg

/-- The greatest integer not above the number: an estimate of the root, put right by exact comparison. -/
def Surd.floor (a : Surd) : Int :=
  let r := sqrtBits 30 (a.q * a.q * a.k)
  let c := (if 0 ≤ a.q then a.p + r else a.p - r).floor
  if (Surd.rat (c + 1 : Int)).le a then c + 1 else if (Surd.rat c).le a then c else c - 1
def Surd.ceil (a : Surd) : Int := -(a.scale (-1)).floor

/-! ### Profiles -/

/-- The move is long enough to reach the maximum speed (R285). -/
def Profile.cruises (p : Profile) : Bool :=
  (Surd.rat (p.vmax * p.vmax / (2 * p.acc) + p.vmax * p.vmax / (2 * p.dec))).le p.dist

/-- Peak speed of plan() (R285): the exact square root. -/
def Profile.peak (p : Profile) : Surd :=
  if p.cruises then Surd.rat p.vmax else { p := 0, q := 1, k := 2 * p.acc * p.dec * p.dist.p / (p.acc + p.dec) }

/-- Duration of the phases of plan(): acceleration, cruise, deceleration. -/
def Profile.phases (p : Profile) : Surd × Surd × Surd :=
  let vp := p.peak
  let tc : Rat :=
    if p.cruises then (p.dist.p - p.vmax * p.vmax / (2 * p.acc) - p.vmax * p.vmax / (2 * p.dec)) / p.vmax else 0
  (vp.scale (1 / p.acc), Surd.rat tc, vp.scale (1 / p.dec))

/-- Duration of a stretch in seconds; steps at constant speed have a rational one. -/
def Profile.duration (p : Profile) : Surd :=
  if p.kind = 0 then let x := p.phases; (x.1.add x.2.1).add x.2.2
  else if p.kind = 1 then p.v0.scale (1 / p.dec)
  else Surd.rat (p.dist.p / p.v0.p)

/-- Distance covered `t` seconds after the origin: s(t) of R285, the stop of R288, steps at constant speed. -/
def Profile.run (p : Profile) (t : Rat) : Surd :=
  let at_ := Surd.rat t
  if p.duration.le at_ then p.dist
  else if t ≤ 0 then Surd.rat 0
  else if p.kind = 0 then
    let x := p.phases
    let vp := p.peak
    if at_.le x.1 then Surd.rat (p.acc * t * t / 2)
    else if at_.le (x.1.add x.2.1) then ((vp.mul x.1).scale (1 / 2)).add (vp.mul (at_.sub x.1))
    else
      let left := p.duration.sub at_
      p.dist.sub ((left.mul left).scale (p.dec / 2))
  else if p.kind = 1 then (p.v0.scale t).sub (Surd.rat (p.dec * t * t / 2))
  else p.v0.scale t

/-- Speed `t` seconds after the origin. -/
def Profile.speed (p : Profile) (t : Rat) : Surd :=
  let at_ := Surd.rat t
  if p.duration.le at_ ∨ t < 0 then Surd.rat 0
  else if p.kind = 0 then
    let x := p.phases
    if at_.le x.1 then Surd.rat (p.acc * t)
    else if at_.le (x.1.add x.2.1) then p.peak
    else (p.duration.sub at_).scale p.dec
  else if p.kind = 1 then p.v0.sub (Surd.rat (p.dec * t))
  else p.v0

/-- Seconds from the origin to a tick; 0 before it. -/
def Profile.secs (p : Profile) (now : Nat) : Rat := ftSec (now - p.t0)

/-- Speed at a tick. -/
def Profile.speedAt (p : Profile) (now : Nat) : Surd := if now < p.t0 then Surd.rat 0 else p.speed (p.secs now)

/-- Distance from distance 0 at a tick. -/
def Profile.distAt (p : Profile) (now : Nat) : Surd := p.base.add (p.run (p.secs now))

/-- Microsteps issued by a tick: those due at the last edge of CLK_PER, one in 8 ft (R283, R285). -/
def Profile.stepsAt (p : Profile) (now : Nat) : Nat :=
  min p.total ((p.distAt (now / 8 * 8)).scale ((p.num : Rat) / (p.den : Rat))).floor.toNat

/-- A stretch is over: its last microstep is issued, and a stop has reached speed 0. -/
def Profile.over_ (p : Profile) (now : Nat) : Bool :=
  p.stepsAt now == p.total && (p.kind != 1 || p.duration.le (Surd.rat (p.secs now)))

/-- Microsteps of a stretch as a signed change of position. -/
def Profile.moveAt (p : Profile) (now : Nat) : Int := if p.pos then (p.stepsAt now : Int) else -(p.stepsAt now : Int)

/-- Position of an axis at a tick. -/
def Axis.posAt (x : Axis) (now : Nat) : Int := x.segs.foldl (fun a p => a + p.moveAt now) x.pos

/-- Microsteps issued by a tick. -/
def Axis.issuedAt (x : Axis) (now : Nat) : Nat := x.segs.foldl (fun a p => a + p.stepsAt now) x.issued

/-- The stretch under way at a tick: the first that is not over, or else the last. -/
def Axis.active (x : Axis) (now : Nat) : Option Profile :=
  match x.segs.find? fun p => !p.over_ now with
  | some p => some p
  | none => x.segs.getLast?

/-- Signed speed in microsteps/s, toward zero. -/
def Axis.speedAt (x : Axis) (now : Nat) : Int :=
  match x.active now with
  | some p =>
    let v := ((p.speedAt now).scale ((p.num : Rat) / (p.den : Rat))).floor
    if p.pos then v else -v
  | none => 0

/-- Every stretch is over. -/
def Axis.idleAt (x : Axis) (now : Nat) : Bool := x.segs.all fun p => p.over_ now

/-- Microsteps owed while following: those of the last stretch not issued yet (R293). -/
def Axis.owedAt (x : Axis) (now : Nat) : Nat :=
  match x.state, x.segs.getLast? with
  | .following, some p => p.total - p.stepsAt now
  | _, _ => 0

/-- The direction for which DIR stands at a tick: that of the last stretch for which it has turned. -/
def Axis.dirAt (x : Axis) (now : Nat) : Bool :=
  x.segs.foldl (fun d p => match p.turn with | some u => if u ≤ now then p.pos else d | none => d) x.dir

/-- End all motion at a tick: the microsteps issued are counted into the position. -/
def Axis.halt (x : Axis) (now : Nat) : Axis :=
  { x with pos := x.posAt now, issued := x.issuedAt now, dir := x.dirAt now, segs := [] }

end Sys2Proof.Machine
end

