-- ==== Sys2Proof/Machine/Ops.lean ====
section
/-! DEFINITION. The named operations over the state that the meanings share: time, objects, events, items and their slots,
withdrawal and spoiling, sessions' messages. -/

namespace Sys2Proof.Machine

/-! ### Time, free values, outputs -/

/-- What an operation does at an earlier tick of the same command: stamps, outcomes and records take that tick. -/
def State.atTick (s : State) (tick : Nat) (f : State → State) : State :=
  { f { s with ft := tick } with ft := s.ft }

/-- Record an output. -/
def State.emit (s : State) (o : Out) : State := { s with out := s.out ++ [o] }
def State.emitAll (s : State) (os : List Out) : State := { s with out := s.out ++ os }

/-- ft in a number of µs, ms, s (R13). -/
def usFt (n : Nat) : Nat := n * 1250
def msFt (n : Nat) : Nat := n * 1250000
def secFt (n : Nat) : Nat := n * 1250000000

/-! ### Parts of the state by index -/

def State.updZone (s : State) (z : Fin 8) (f : Zone → Zone) : State := { s with zones := vupd s.zones z f }
def State.updHead (s : State) (h : Fin 64) (f : Head → Head) : State := { s with heads := vupd s.heads h f }
def State.updRow (s : State) (h : Fin 64) (r : Fin 4) (f : HRow → HRow) : State :=
  s.updHead h fun x => { x with rows := vupd x.rows r f }
def State.updChain (s : State) (c : Fin 16) (f : Chain → Chain) : State := { s with chains := vupd s.chains c f }
def State.updPort (s : State) (l : Fin 16) (f : Port → Port) : State := { s with ports := vupd s.ports l f }
def State.updNode (s : State) (l : Fin 16) (a : Fin 9) (f : Node → Node) : State :=
  s.updPort l fun p => { p with nodes := vupd p.nodes a f }
def State.updSess (s : State) (i : Fin 32) (f : Session → Session) : State := { s with sessions := vupd s.sessions i f }
def State.updChan (s : State) (c : Fin 8) (f : Chan → Chan) : State := { s with chans := vupd s.chans c f }
def State.updGate (s : State) (g : Fin 8) (f : Gate → Gate) : State := { s with gates := vupd s.gates g f }
def State.updAxis (s : State) (a : Fin 8) (f : Axis → Axis) : State := { s with axes := vupd s.axes a f }
def State.updTx (s : State) (i : Fin 8) (f : Tx → Tx) : State := { s with txs := vupd s.txs i f }
def State.updEngine (s : State) (k : Fin 8) (f : Engine → Engine) : State := { s with engines := vupd s.engines k f }

/-- Engine `k` is RUNNING (Table 1.4). -/
def State.running (s : State) (k : Fin 8) : Bool := s.engines[k].state == 2

/-! ### Objects -/

/-- Value in force of an object. -/
def State.oget (s : State) (i sub : Nat) : Nat := sget (objDefault i sub) s.obj (objKey i sub)

/-- Put a value into force, without a new version. -/
def State.oput (s : State) (i sub v : Nat) : State := { s with obj := sset (objDefault i sub) s.obj (objKey i sub) v }

/-- Version of an object (R355). -/
def State.over (s : State) (i sub : Nat) : Nat := sget 1 s.ver (objKey i sub)

/-- A value is applied to an object on this tick: its version is one more modulo 2^32, once on a tick (R355). -/
def State.bump (s : State) (i sub : Nat) : State :=
  let now := s.ft
  if sget 0 s.verAt (objKey i sub) = now + 1 then s
  else { s with ver := sset 1 s.ver (objKey i sub) ((s.over i sub + 1) % 2 ^ 32), verAt := sset 0 s.verAt (objKey i sub) (now + 1) }

/-- Apply a value: in force, with its version. -/
def State.oapply (s : State) (i sub v : Nat) : State := (s.oput i sub v).bump i sub

/-- Index of zone, head, link, node, channel, mark, switch, gate, axis objects (Table 14.1). -/
def zIdx (z : Fin 8) : Nat := 0x2000 + 0x40 * z.val
def hIdx (h : Fin 64) : Nat := 0x3000 + 0x20 * h.val
def lIdx (l : Fin 16) : Nat := 0x3800 + 0x10 * l.val
def cIdx (c : Fin 8) : Nat := 0x4000 + 0x20 * c.val
def mIdx (m : Fin 8) : Nat := 0x4800 + 0x10 * m.val
def swIdx (w : Fin 16) : Nat := 0x4880 + 0x08 * w.val
def gIdx (g : Fin 8) : Nat := 0x4900 + 0x10 * g.val
def aIdx (a : Fin 8) : Nat := 0x5000 + 0x40 * a.val
def grpIdx (g : Fin 4) : Nat := 0x5200 + 0x10 * g.val

def State.zc (s : State) (z : Fin 8) (sub : Nat) : Nat := s.oget (zIdx z) sub
def State.hc (s : State) (h : Fin 64) (sub : Nat) : Nat := s.oget (hIdx h) sub
def State.lc (s : State) (l : Fin 16) (sub : Nat) : Nat := s.oget (lIdx l) sub
def State.cc (s : State) (c : Fin 8) (sub : Nat) : Nat := s.oget (cIdx c) sub
def State.gc (s : State) (g : Fin 8) (sub : Nat) : Nat := s.oget (gIdx g) sub
def State.ac (s : State) (a : Fin 8) (sub : Nat) : Nat := s.oget (aIdx a) sub

/-- Levels of EN and DIR of an axis, and the idle level of STEP, by its polarities (Table 10.2). -/
def State.enPin (s : State) (a : Fin 8) (on : Bool) : Out := .axisPin a.val 0 (b2n (on != bitOf (s.ac a 0x19) 2))
def State.dirPin (s : State) (a : Fin 8) (pos : Bool) : Out := .axisPin a.val 3 (b2n (pos != bitOf (s.ac a 0x19) 1))
def State.stepPin (s : State) (a : Fin 8) : Out := .axisPin a.val 2 (b2n (bitOf (s.ac a 0x19) 0))

/-- The pins of an axis as its configuration makes them. -/
def State.axisPins (s : State) (a : Fin 8) : List Out := [s.enPin a s.axes[a].en, s.stepPin a, s.dirPin a (s.axes[a].dirAt s.ft)]

/-- The pulses on STEP from the state's tick to `now`, and the turns of DIR between them (R281, R283). -/
def State.stepPulses (s : State) (now : Nat) : List Out :=
  (fins 8).flatMap fun a => s.axes[a].segs.flatMap fun p =>
    let n := p.stepsAt now - p.stepsAt s.ft
    let cfg := s.ac a 0x19
    (match p.turn with | some u => if s.ft < u ∧ u ≤ now then [s.dirPin a p.pos] else [] | none => []) ++
    (if n = 0 then [] else [.steps a.val (b2n (p.pos != bitOf cfg 1)) n (fld cfg 4 8 + 1) (bitOf cfg 0)])

/-- Value of an object for an item: that of the ITEM(z) set under which it started, the value in force before its start
(R67). -/
def State.ogetFor (s : State) (it : Item) (i sub : Nat) : Nat :=
  let zn := s.zones[it.zone]
  match it.startSet with
  | some n => if n < zn.setNo then (sfind zn.prevSet (objKey i sub)).getD (s.oget i sub) else s.oget i sub
  | none => s.oget i sub

/-! ### Membership -/

/-- The zone of a head (R25). -/
def State.zoneOfHead (s : State) (h : Fin 64) : Option (Fin 8) := (fins 8).find? fun z => bitOf (s.zc z 0x01) h.val

/-- The zone of an axis. -/
def State.zoneOfAxis (s : State) (a : Fin 8) : Option (Fin 8) := (fins 8).find? fun z => bitOf (s.zc z 0x02) a.val

/-- Member heads of a zone. -/
def State.zoneHeads (s : State) (z : Fin 8) : List (Fin 64) := (fins 64).filter fun h => bitOf (s.zc z 0x01) h.val

/-- The reject output of a zone. -/
def State.zoneGate (s : State) (z : Fin 8) : Option (Fin 8) :=
  let g := s.zc z 0x72
  if h : g < 8 then some ⟨g, h⟩ else none

/-- The zone of a reject output. -/
def State.gateZone (s : State) (g : Fin 8) : Option (Fin 8) := (fins 8).find? fun z => s.zc z 0x72 == g.val

/-- The mark input of a zone, and the zone of a mark input. -/
def State.markZone (s : State) (m : Fin 8) : Option (Fin 8) := (fins 8).find? fun z => s.zc z 0x71 == m.val

/-- The feed axis of a zone. -/
def State.feedAxis (s : State) (z : Fin 8) : Option (Fin 8) :=
  let a := s.zc z 0x5F
  if h : a < 8 then some ⟨a, h⟩ else none

/-- Zones whose position source is channel `c`. -/
def State.zonesOfChan (s : State) (c : Fin 8) : List (Fin 8) := (fins 8).filter fun z => s.zc z 0x50 == c.val

/-- Plane-map entry of a row and its fields (Table 4.2). -/
def State.planeMap (s : State) (h : Fin 64) (r : Fin 4) : Nat := s.hc h (0x40 + r.val)
def pmPlane (e : Nat) : Nat := fld e 0 3
def pmRole (e : Nat) : Nat := fld e 3 2
def pmDir (e : Nat) : Nat := fld e 5 1
def pmStride (e : Nat) : Nat := fld e 6 2 + 1
def pmFirstCol (e : Nat) : Nat := fld e 8 20
def pmFirst (e : Nat) : Nat := fld e 32 13
def pmLast (e : Nat) : Nat := fld e 48 13

/-- The PRIMARY and REDUNDANT rows of a zone, by head and row. -/
def State.zoneRows (s : State) (z : Fin 8) : List (Fin 64 × Fin 4) :=
  (s.zoneHeads z).flatMap fun h =>
    ((fins 4).filter fun r => pmRole (s.planeMap h r) == 1 || pmRole (s.planeMap h r) == 2).map fun r => (h, r)

/-! ### Location codes (R29) -/

/-- A location code from its fields. -/
def locOf (pkg die sub slice block macro_ row col : Nat) : Nat :=
  packBits [(16, col), (16, row), (10, macro_), (6, block), (6, slice), (5, sub), (2, die), (3, pkg)]

/-- A location code with only subsystem and slice (R32). -/
def State.loc (s : State) (sub slice : Nat) : Nat := locOf s.bpos 0 sub slice 63 1023 0xFFFF 0xFFFF

/-- A location code with block, macro and row given. -/
def State.locBMR (s : State) (sub slice block macro_ row : Nat) : Nat :=
  locOf s.bpos 0 sub slice block macro_ row 0xFFFF

/-! ### Events (R441–R445) -/

/-- Class and severity of an event code (R442, Table 17.3). -/
def evClass (code : Nat) : Nat × Nat :=
  let n := code % 0x800
  if n = 1 then (1, 0) else if n = 2 then (2, 2)
  else
    match code with
    | 0x2010 => (4, 3) | 0x2011 => (4, 2) | 0x2012 => (4, 1) | 0x2013 => (4, 1) | 0x2014 => (4, 3) | 0x2015 => (4, 0)
    | 0x2810 => (0, 0) | 0x2811 => (0, 0) | 0x2812 => (0, 2) | 0x2813 => (0, 2) | 0x2814 => (0, 1) | 0x2815 => (1, 0)
    | 0x4810 => (1, 1) | 0x4811 => (3, 0) | 0x4812 => (2, 2)
    | 0x5810 => (2, 2) | 0x5811 => (1, 1) | 0x5812 => (2, 2) | 0x5813 => (1, 1)
    | 0x6810 => (2, 2) | 0x6811 => (2, 1) | 0x6812 => (3, 1) | 0x6813 => (1, 1) | 0x6814 => (2, 2) | 0x6815 => (3, 1)
    | 0x7010 => (2, 2)
    | 0x7810 => (4, 1) | 0x7811 => (3, 0) | 0x7812 => (2, 2)
    | 0x8010 => (2, 1) | 0x8011 => (1, 0) | 0x8012 => (1, 1) | 0x8013 => (0, 1)
    | 0x8810 => (2, 1) | 0x8811 => (2, 2)
    | 0x9010 => (3, 0) | 0x9011 => (3, 1) | 0x9012 => (3, 1) | 0x9013 => (3, 2) | 0x9014 => (3, 2) | 0x9015 => (2, 3)
    | 0x9016 => (2, 2)
    | 0x9810 => (5, 1) | 0x9811 => (5, 2) | 0x9812 => (2, 2) | 0x9813 => (2, 2) | 0x9814 => (3, 1) | 0x9815 => (1, 0)
    | 0xA010 => (3, 0) | 0xA011 => (2, 2) | 0xA012 => (2, 2) | 0xA013 => (1, 0)
    | _ => (2, 2)

/-- Place an event in the buffer order: by event tick, then by location code (R445). -/
def insertEvent (e : Event) : List Event → List Event
  | [] => [e]
  | x :: xs => if e.tick < x.tick ∨ (e.tick = x.tick ∧ e.loc < x.loc) then e :: x :: xs else x :: insertEvent e xs

/-- Record an event now; one that finds the buffer of 256 full is lost and counted (R445). -/
def State.addEvent (s : State) (e : Event) : State :=
  if s.events.length < 256 then { s with events := insertEvent e s.events }
  else
    { s with lost := s.lost + 1, lostRun := s.lostRun + 1,
             lostFirst := if s.lostRun = 0 then e.tick else s.lostFirst, lostLast := e.tick }

/-- Periods of the 32.768 kHz crystal up to a tick. -/
def crystalEdges (t : Nat) : Nat := t * 32768 / 1250000000

/-- The calendar at the present tick, in units of 2^-16 s (R450): each crystal period adds 2 units, and the correction adds or omits single
ones; it reads 0 while it is not valid. -/
def State.calNow (s : State) : Nat :=
  if !s.calValid then 0
  else
    let periods := crystalEdges s.ft - crystalEdges s.calAt
    ((s.calendar : Int) + 2 * periods + ((2 * periods : Nat) * s.calCorr / 1000000000 : Rat).floor).toNat

/-- Operating seconds at the present tick. -/
def State.opNow (s : State) : Nat := s.opSeconds + (s.ft - s.opAt) / 1250000000

/-- Calendar seconds for the stamp of an event: 0 while the calendar is not valid (Table 17.1). -/
def State.calStamp (s : State) : Nat := if s.calValid then s.calNow / 65536 else 0

/-- Record an event by code, with origin (session index, role) and payload fields of (bits, value). -/
def State.eventBy (s : State) (sess role code sev loc : Nat) (payload : List (Nat × Nat)) : State :=
  s.addEvent { tick := s.ft, opSeconds := s.opNow, powerCycles := s.powerCycles, calendar := s.calStamp, code,
               cls := (evClass code).1, sev, session := if role = 0 then 0 else sess, role, loc,
               payload := packBits payload }

/-- Record a named event: of the access that is being carried out, or of the controller's own detection. -/
def State.event (s : State) (code loc : Nat) (payload : List (Nat × Nat)) : State :=
  s.eventBy s.origin.1 s.origin.2 code (evClass code).2 loc payload

/-- STATE_CHANGED of a subsystem (R442). -/
def State.stateChanged (s : State) (sub loc index subidx old new : Nat) : State :=
  s.event (sub * 0x800 + 1) loc [(16, index), (8, subidx), (8, 0), (32, old), (32, new), (64, s.ft)]

/-- FAULT of a subsystem (R442). -/
def State.faultEvent (s : State) (sub loc index subidx cause value : Nat) : State :=
  s.event (sub * 0x800 + 2) loc [(16, index), (8, subidx), (8, cause), (32, value), (32, 0), (64, s.ft)]

/-! ### Codes of named states -/

def ZoneState.code : ZoneState → Nat
  | .disabled => 0 | .enabled => 1 | .draining => 2 | .aborting => 3 | .tail => 4
def Place.code : Place → Nat
  | .noSource => 0 | .standby => 1 | .tracking => 2 | .suspended => 3 | .fault => 4
def ChainState.code : ChainState → Nat
  | .off => 0 | .armed => 1 | .ramp => 2 | .on => 3 | .fault => 4 | .tripped => 5
def LinkState.code : LinkState → Nat
  | .off => 0 | .training => 1 | .enumerating => 2 | .aligning => 3 | .ready => 4 | .fault => 5
def Dual.code : Dual → Nat
  | .single => 0 | .normal => 1 | .split => 2 | .degraded => 3 | .isolated => 4
def IdState.code : IdState → Nat
  | .absent => 0 | .reading => 1 | .verified => 2 | .unverified => 3 | .unreadable => 4
def Thermal.code : Thermal → Nat
  | .cold => 0 | .normal => 1 | .warn => 2 | .cooldown => 3
def ChanState.code : ChanState → Nat
  | .off => 0 | .starting => 1 | .valid => 2 | .fault => 3 | .mismatch => 4
def AxisState.code : AxisState → Nat
  | .disabled => 0 | .idle => 1 | .moving => 2 | .stopping => 3 | .homing => 4 | .following => 5 | .retaining => 6
  | .retained => 7
def Residency.code : Residency → Nat
  | .free => 0 | .loading => 1 | .resident => 2 | .retiring => 3 | .invalid => 4

/-- Change a zone's state, with the event of the change (R442). -/
def State.setZoneState (s : State) (z : Fin 8) (st : ZoneState) : State :=
  let old := s.zones[z].state
  if old = st then s
  else (s.updZone z fun x => { x with state := st }).stateChanged 5 (s.loc 5 z.val) (zIdx z) 0x10 old.code st.code

/-! ### Items -/

/-- Handle of an item: [7:0] slot, [15:8] generation (R43). -/
def Item.handle (it : Item) : Nat := it.slot + 256 * it.gen

/-- The item that a handle names; none for a stale handle (R45). -/
def State.item? (s : State) (h : Nat) : Option Item := s.items.find? fun it => it.handle == h

def State.updItem (s : State) (h : Nat) (f : Item → Item) : State :=
  { s with items := s.items.map fun it => if it.handle = h then f it else it }

/-- The item is in the polder: admitted and not final. -/
def Item.inPolder (it : Item) : Bool := it.state == .admitted || it.state == .printing

/-- The item is a printed item (R71): final as DELIVERED or spoiled, its slot not released. -/
def Item.printed (it : Item) : Bool :=
  it.state == .spoiled || it.state == .delivered || it.state == .spoiledTail || it.state == .deliveredTail

def State.zoneItems (s : State) (z : Fin 8) : List Item := s.items.filter fun it => it.zone == z
def State.polder (s : State) (z : Fin 8) : List Item := (s.zoneItems z).filter Item.inPolder
def State.queue (s : State) (z : Fin 8) : List Item := (s.zoneItems z).filter fun it => it.state == .queued
def State.printedItems (s : State) (z : Fin 8) : List Item := (s.zoneItems z).filter Item.printed

/-- Traverses in which an item is printed (R156, R161): first number and count. -/
def State.traverses (s : State) (it : Item) : Int × Nat :=
  let n := s.zc it.zone 0x30
  if n = 0 ∨ it.pattern ≠ 0 then (0, 1) else (1 - (s.zc it.zone 0x61 : Int), s.zc it.zone 0x61 + n - 1)

/-- Row-lines of an item on one row. -/
def State.totalLines (s : State) (it : Item) : Nat := it.lineCount * (s.traverses it).2

/-- An item with a line whose frame is neither built nor dropped. -/
def State.unbuilt (s : State) (it : Item) : Bool := it.prog.any fun p => p.built < s.totalLines it

/-- An item that has started and still has a line whose frame is neither built nor dropped (R67). -/
def State.unfinished (s : State) (it : Item) : Bool := it.startSet.isSome && s.unbuilt it

/-- A set of ITEM(z) values began on this tick, and nothing has started under it: what applies now still belongs to it. -/
def State.setFresh (s : State) (z : Fin 8) : Bool :=
  s.zones[z].setAt == some s.ft && (s.zoneItems z).all fun it => it.startSet != some s.zones[z].setNo

/-- An ITEM(z) boundary occurs now (R67): no started, unfinished item of the zone started under an older set. -/
def State.itemBoundary (s : State) (z : Fin 8) : Bool :=
  s.setFresh z || (s.zoneItems z).all fun it => !(s.unfinished it) || it.startSet == some s.zones[z].setNo

/-! ### Placement quantities (chapter 5) -/

/-- µm/s in pu/ft. -/
def umsPuFt (v : Rat) : Rat := v * 524288 / 10000000000000

/-- Line pitch of a zone in pu. -/
def State.pitch (s : State) (z : Fin 8) : Rat := (s.zc z 0x51 : Rat) / (s.zc z 0x52 : Rat)

/-- Position of line `n` after the origin (R144). -/
def State.lineOff (s : State) (z : Fin 8) (n : Nat) : Int :=
  roundR ((n : Rat) * (s.zc z 0x51 : Rat) / (s.zc z 0x52 : Rat))

/-- Count size of a channel (R266). -/
def State.chanCount (s : State) (c : Fin 8) : Rat :=
  let nd := (s.cc c 0x03 : Rat) / (s.cc c 0x04 : Rat)
  if s.cc c 0x01 = 2 then nd * max 1 ((s.cc c 0x12 : Rat) / 1024) else nd

/-- The channel that is a zone's source, if one is. -/
def State.srcChan (s : State) (z : Fin 8) : Option (Fin 8) :=
  let p := s.zc z 0x50
  if h : p < 8 then some ⟨p, h⟩ else none

/-- Count size of a zone's source; for a board position the manual does not say how the block learns it: it is free (notes/assumptions/19). -/
def State.countSize (s : State) (z : Fin 8) : Rat :=
  match s.srcChan z with
  | some c => s.chanCount c
  | none => Config.boardCountSize

/-- A rational position difference through its signed 48-bit representative (R139). -/
def wrapR (q : Rat) : Rat := q - 281474976710656 * ((q / 281474976710656 + 1 / 2).floor : Rat)

/-- Placement tolerance of a zone, 0 selecting one quarter of the pitch (R140). -/
def State.tolOf (s : State) (z : Fin 8) (raw : Nat) : Rat := if raw = 0 then s.pitch z / 4 else (raw : Rat)
def State.tol (s : State) (z : Fin 8) : Rat := s.tolOf z (s.zc z 0x53)
/-- Tracking limit (R140). -/
def State.trackLimit (s : State) (z : Fin 8) : Rat := s.tol z / 4

/-- The lesser and the greater of two positions, by their signed 48-bit difference (R139). -/
def wmin (a b : Rat) : Rat := if wrapR (a - b) ≤ 0 then a else b
def wmax (a b : Rat) : Rat := if 0 ≤ wrapR (a - b) then a else b

/-- Estimate of position and speed at tick `t` (R140), for both directions of motion. -/
def State.estimate (s : State) (z : Fin 8) (t : Nat) : Rat × Rat :=
  let k := s.zones[z].trk
  let cs := s.countSize z
  let dt : Rat := (t : Rat) - (k.tLast : Rat)
  if 0 ≤ k.vHat then
    let v := if k.vHat > 0 ∧ dt * k.vHat > cs then cs / dt else k.vHat
    (wmin (k.pHat + v * dt) (k.lastCnt + cs), v)
  else
    let v := if dt * k.vHat < -cs then -cs / dt else k.vHat
    (wmax (k.pHat + v * dt) (k.lastCnt - cs), v)

/-- The position of R48 and R150: the greater of the estimate and H. -/
def State.posGuard (s : State) (z : Fin 8) (t : Nat) : Rat :=
  wmax (s.estimate z t).1 s.zones[z].hwm

/-- Speed bound of R150 in pu/ft. -/
def State.speedBound (s : State) (z : Fin 8) (t : Nat) : Rat :=
  let v := (s.estimate z t).2
  max (umsPuFt (s.zc z 0x56 : Rat)) (absR v + umsPuFt ((s.zc z 0x57 : Rat) / 10))

/-- The fire timer is board time: that of board position 0 itself, or one aligned to it (R163, R264). -/
def State.boardTime (s : State) : Bool := s.sync.align == 2 || (s.bpos == 0 && !s.sync.passive)

/-- The zone's source is valid (Table 5.1, R263, R264). -/
def State.srcValid (s : State) (z : Fin 8) : Bool :=
  match s.srcChan z with
  | some c => s.chans[c].state == .valid
  | none =>
    match s.zc z 0x50 with
    | 8 => s.boardTime && s.sync.bp[(0 : Fin 2)].valid && !s.sync.bpConflict[(0 : Fin 2)]
    | 9 => s.boardTime && s.sync.bp[(1 : Fin 2)].valid && !s.sync.bpConflict[(1 : Fin 2)]
    | _ => false

/-- position_valid(z) of R142. -/
def State.posValid (s : State) (z : Fin 8) : Bool :=
  match s.zones[z].place with
  | .standby => true | .tracking => true | .suspended => true | .noSource => false | .fault => false

/-- Zone readiness (R28, Table 14.3): 0 READY, 1 NO_HEADS, 2 NO_POSITION, 3 NO_REJECT_OUTPUT. -/
def State.zoneReady (s : State) (z : Fin 8) : Nat :=
  if (s.zoneHeads z).isEmpty then 1
  else if s.zones[z].place = .noSource ∨ ¬ s.srcValid z then 2
  else if (s.zoneGate z).isNone then 3 else 0

/-- The zone's counted position. -/
def State.counted (s : State) (z : Fin 8) : Rat :=
  match s.zones[z].upd with
  | some u => u.pos
  | none => s.zones[z].trk.lastCnt

/-- The zone's counted position has reached `x`, now or at its highest (R53, R276). -/
def State.reached (s : State) (z : Fin 8) (x : Int) : Bool :=
  decide (0 ≤ wrapR (s.counted z - (x : Rat))) || decide (0 ≤ wrapR (s.zones[z].hwm - (x : Rat)))

/-- Gate position G of the zone, in pu or in microsteps (R276, R278). -/
def State.gatePos (s : State) (g : Fin 8) : Int := sx 48 (s.gc g 0x01)

/-- The item's leading edge has reached its gate, and its trailing edge has passed it (R276, R278). -/
def State.leadAtGate (s : State) (it : Item) : Bool :=
  match s.zoneGate it.zone, it.origin with
  | some g, some o =>
    if s.zc it.zone 0x30 = 0 then s.reached it.zone (o + s.gatePos g)
    else
      match it.feedBase, s.feedAxis it.zone with
      | some b, some a => s.gatePos g ≤ s.axes[a].posAt s.ft - b
      | _, _ => false
  | _, _ => false

/-- The item's trailing edge has passed its gate (R71, R276). In a scanning zone a spoiled item has passed once its pulse is over;
under the hold of R72, which asserts the output itself, once its leading edge is there (R278). -/
def State.trailPast (s : State) (it : Item) : Bool :=
  it.gone ||
  match s.zoneGate it.zone, it.origin with
  | some g, some o =>
    if s.zc it.zone 0x30 = 0 then s.reached it.zone (o + s.lineOff it.zone (it.lineCount - 1) + s.gatePos g)
    else s.leadAtGate it &&
      (!(it.state == .spoiled || it.state == .spoiledTail) || it.pulsed && (s.zones[it.zone].hold || !s.gates[g].asserted))
  | _, _ => false

/-- Printed items of a zone that are still tracked to the gate (R71). An item whose outcome is held is tracked no more once
its trailing edge is past the gate. -/
def State.tracked (s : State) (z : Fin 8) : List Item :=
  (s.printedItems z).filter fun it => !(it.held && s.trailPast it)

/-- Zone idle (R68): polder empty, nothing tracked to its gate, queue empty. -/
def State.zoneIdle (s : State) (z : Fin 8) : Bool :=
  (s.polder z).isEmpty && (s.tracked z).isEmpty && (s.queue z).isEmpty

def State.allIdle (s : State) : Bool := (fins 8).all fun z => s.zoneIdle z

/-- A delivered item whose gate passage meets the pulse of another (R277): counted once, with its event. In a scanning zone
an item passes its gate on the tick on which its leading edge is there (R278). A passage that begins and ends with one count is
met too: it is marked as over only after this test. -/
def State.checkOverlap (s : State) (z : Fin 8) : State :=
  match s.zoneGate z with
  | none => s
  | some g =>
    if s.gates[g].asserted && !s.gates[g].hold && !s.gates[g].handles.isEmpty then
      (s.zoneItems z).foldl (fun s it =>
        if (it.state = .delivered ∨ it.state = .deliveredTail) ∧ ¬ it.overlap ∧ ¬ it.gone ∧ s.leadAtGate it then
          let s := s.updItem it.handle fun x => { x with overlap := true }
          let s := s.updGate g fun x => { x with overlaps := x.overlaps + 1 }
          s.event 0x8013 (s.loc 16 (32 + g.val)) [(8, g.val), (16, it.handle), (32, it.hostId)]
        else s) s
    else s

/-! ### Templates and tiles: references and slots (R81–R88) -/

/-- The template or tile that a handle names; none for a stale handle. -/
def State.template? (s : State) (h : Nat) : Option Asset :=
  s.templates.find? fun a => a.idx + 1024 * a.gen == h
def State.tile? (s : State) (h : Nat) : Option Asset := s.tiles.find? fun a => a.idx + 65536 * a.gen == h

def State.updTemplate (s : State) (i : Nat) (f : Asset → Asset) : State :=
  { s with templates := s.templates.map fun a => if a.idx = i then f a else a }
def State.updTile (s : State) (i : Nat) (f : Asset → Asset) : State :=
  { s with tiles := s.tiles.map fun a => if a.idx = i then f a else a }

/-- Next generation of an index; the last index skips the last generation (R81, R83). -/
def nextGen (gens last idx g : Nat) : Nat :=
  let n := (g + 1) % gens
  if idx = last ∧ n = gens - 1 then 0 else n

/-- Return a template index to FREE (R81). -/
def State.freeTemplate (s : State) (i : Nat) : State :=
  match s.templates.find? (fun a => a.idx == i) with
  | none => s
  | some a =>
    { s with templates := s.templates.filter (fun b => b.idx ≠ i),
             tplGen := sset 0 s.tplGen i (nextGen 64 1023 i a.gen), tplFree := s.tplFree ++ [i] }

/-- Return a tile index to FREE (R83). -/
def State.freeTile (s : State) (i : Nat) : State :=
  match s.tiles.find? (fun a => a.idx == i) with
  | none => s
  | some a =>
    { s with tiles := s.tiles.filter (fun b => b.idx ≠ i),
             tileGen := sset 0 s.tileGen i (nextGen 65536 65535 i a.gen), tileFree := s.tileFree ++ [i] }

/-- Take a reference on a handle that is LOADING or RESIDENT (R87). -/
def State.refTemplate (s : State) (h : Nat) : State :=
  match s.template? h with
  | some a => if a.st = .loading ∨ a.st = .resident then s.updTemplate a.idx fun b => { b with refs := b.refs + 1 } else s
  | none => s
def State.refTile (s : State) (h : Nat) : State :=
  match s.tile? h with
  | some a =>
    if a.st = .loading ∨ a.st = .resident then s.updTile a.idx fun b => { b with refs := b.refs + 1 } else s
  | none => s

/-- ONCE bit of a tile header (Table 3.3). -/
def Asset.once (a : Asset) : Bool := bitOf a.hdr 11

/-- Release a reference (Table 3.4, R88): RETIRING returns to FREE with the last reference, and so does a ONCE tile. A ONCE tile that
is still LOADING then stays as it is, since Table 3.4 lists no such transition (DESIGN CHOICE, notes/assumptions/26). -/
def State.unrefTemplate (s : State) (h : Nat) : State :=
  match s.template? h with
  | some a =>
    let s := s.updTemplate a.idx fun b => { b with refs := b.refs - 1 }
    if a.refs ≤ 1 ∧ (a.st = .retiring ∨ a.deleted) then s.freeTemplate a.idx else s
  | none => s
def State.unrefTile (s : State) (h : Nat) : State :=
  match s.tile? h with
  | some a =>
    let s := s.updTile a.idx fun b => { b with refs := b.refs - 1 }
    if a.refs = 1 ∧ (a.st = .retiring ∨ a.deleted ∨ (a.once ∧ (a.st = .resident ∨ a.st = .invalid))) then s.freeTile a.idx else s
  | none => s

/-- An item's template and tiles on which it holds a reference: recorded with the item at submission. -/
def State.takeRefs (s : State) (it : Item) : State :=
  it.tiles.foldl (fun s e => s.refTile e.tile) (if it.template = 0xFFFF then s else s.refTemplate it.template)

/-- The last segment instant of a stamped line (R145). -/
def Stamped.lastSeg (l : Stamped) : Nat := ((l.fire : Int) + l.segs.foldl max 0).toNat

/-- Forget the lines of an item that has left the machine; the last fire instant of the row stands. -/
def HRow.purge (x : HRow) (h : Nat) : HRow :=
  { x with ring := x.ring.filter (fun l => l.handle ≠ h), withdrawn := x.withdrawn.filter (fun l => l.handle ≠ h),
           stamped := x.stamped.filter (fun l => l.handle ≠ h),
           lastFire := (x.stamped.filter fun l => l.handle = h).foldl (fun m l => max m l.fire) x.lastFire,
           lastEnd := (x.stamped.filter fun l => l.handle = h).foldl (fun m l => max m l.lastSeg) x.lastEnd }

/-- Release the slot of an item (R44, R87): its references go, the generation advances, slot 0xFF skips 0xFF. -/
def State.releaseSlot (s : State) (h : Nat) : State :=
  match s.item? h with
  | none => s
  | some it =>
    let s := it.prog.foldl (fun s q => s.updRow q.head q.row fun x => x.purge h) s
    let s :=
      if it.refs then
        let s := if it.template = 0xFFFF ∨ ¬ it.refTpl then s else s.unrefTemplate it.template
        it.refTiles.foldl (fun s t => s.unrefTile t) s
      else s
    let g := (it.gen + 1) % 256
    let g := if it.slot = 255 ∧ g = 255 then 0 else g
    let s := { s with items := s.items.filter (fun x => x.handle ≠ h), freeSlots := s.freeSlots ++ [it.slot],
                      stream := s.stream.filter (fun l => l.handle ≠ h) }
    if hs : it.slot < 256 then { s with gens := s.gens.set it.slot g } else s

/-! ### Reservations (R99–R101) -/

/-- Columns printed by the row's active nozzles at traverse 0: lowest, highest, step. -/
def spanOf (e : Nat) : Nat × Nat × Nat :=
  (pmFirstCol e, pmFirstCol e + pmStride e * (pmLast e - pmFirst e), pmStride e)

def spanCount (e : Nat) : Nat := pmLast e - pmFirst e + 1

/-- Fields of a tile header (Table 3.3). -/
def tilePlanes (h : Nat) : Nat := fld h 8 3 + 1
def tileWidth (h : Nat) : Nat := fld h 32 14 + 1
def tileHeight (h : Nat) : Nat := fld h 48 16 + 1
def tileMaxOps (h : Nat) : Nat := fld h 64 16
def tileMaxBytes (h : Nat) : Nat := fld h 80 16
def tileLength (h : Nat) : Nat := fld h 96 32
def tileCrc (h : Nat) : Nat := fld h 128 32

/-- Fields of a template header (Table 3.2). -/
def tplMask (h : Nat) : Nat := fld h 8 8
def tplWidth (h : Nat) : Nat := fld h 32 20 + 1
def tplLines (h : Nat) : Nat := fld h 64 24
def tplCrc (h : Nat) : Nat := fld h 96 32
def tplLength (h : Nat) : Nat := fld h 128 64

/-- Some column of the row's span lies in `lo … lo + w − 1`. -/
def spanMeets (e lo w : Nat) : Bool :=
  let (c0, c1, st) := spanOf e
  if w = 0 ∨ lo + w ≤ c0 ∨ c1 < lo then false
  else
    let first := if lo ≤ c0 then c0 else c0 + ceilDiv (lo - c0) st * st
    first ≤ c1 && first < lo + w

/-- Zone raster width (R504): one more than the highest column of a PRIMARY nozzle at traverse 0. -/
def State.rasterWidth (s : State) (z : Fin 8) : Nat :=
  (s.zoneHeads z).foldl (fun w h =>
    (fins 4).foldl (fun w r =>
      let e := s.planeMap h r
      if pmRole e = 1 then max w ((spanOf e).2.1 + 1) else w) w) 0

/-- Planes that PRIMARY rows of the zone carry, as a mask (R115). -/
def State.mappedPlanes (s : State) (z : Fin 8) : Nat :=
  (s.zoneHeads z).foldl (fun w h =>
    (fins 4).foldl (fun w r =>
      let e := s.planeMap h r
      if pmRole e = 1 then w ||| 2 ^ pmPlane e else w) w) 0

/-- Cost of one line of an item on a row (R99). -/
def State.rowCost (s : State) (it : Item) (h : Fin 64) (r : Fin 4) : Nat × Nat :=
  let e := s.planeMap h r
  let n := ceilDiv (spanCount e) 168 + 1
  let holds :=
    if it.direct then bitOf (s.mappedPlanes it.zone) (pmPlane e)
    else match s.template? it.template with
      | some a => bitOf (tplMask a.hdr) (pmPlane e)
      | none => false
  let base : Nat × Nat := if holds then (n, n) else (0, 0)
  it.tiles.foldl (fun (c : Nat × Nat) te =>
    match s.tile? te.tile with
    | some a =>
      if bitOf te.planes (pmPlane e) ∧ spanMeets e te.x (tileWidth a.hdr) then
        (c.1 + max (ceilDiv (tileWidth a.hdr) 168) (ceilDiv (tileMaxOps a.hdr) 4) + 1,
         c.2 + ceilDiv (tileMaxBytes a.hdr) 64 + 1)
      else c
    | none => c) base

/-- Row reservations that an item alone needs. -/
def State.itemRes (s : State) (it : Item) : List Res :=
  (s.zoneRows it.zone).map fun (h, r) =>
    let c := s.rowCost it h r
    { row := 4 * h.val + r.val, cyc := c.1, bur := c.2 }

/-- Maxima of two reservation lists, row by row. -/
def maxRes (a b : List Res) : List Res :=
  b.foldl (fun acc x =>
    if acc.any (fun y => y.row == x.row) then
      acc.map fun y => if y.row = x.row then { y with cyc := max y.cyc x.cyc, bur := max y.bur x.bur } else y
    else acc ++ [x]) a

/-- Maker-block fields of a head (Table 8.2). -/
def mkField (b off len : Nat) : Nat := fld b (8 * off) len
def Head.rowCount (h : Head) : Nat := if h.blockOk then fld h.maker 8 2 + 1 else 0
def Head.nozzles (h : Head) (r : Nat) : Nat := if h.blockOk then fld h.maker (8 * (0x18 + 2 * r)) 14 else 0
def Head.nozzleTotal (h : Head) : Nat := h.nozzles 0 + h.nozzles 1 + h.nozzles 2 + h.nozzles 3
/-- Number of nozzle 0 of a row (R233). -/
def Head.nozzleBase (h : Head) (r : Nat) : Nat := ((List.range r).map h.nozzles).foldl (· + ·) 0
def Head.rNom (h : Head) : Nat := mkField h.maker 0x20 32
def Head.eRank (h : Head) : Nat := mkField h.maker 0x24 16
def Head.fRank (h : Head) : Nat := mkField h.maker 0x26 16
def Head.wMin (h : Head) : Nat := mkField h.maker 0x28 16
def Head.wMax (h : Head) : Nat := mkField h.maker 0x2A 16
def Head.vMin (h : Head) : Nat := mkField h.maker 0x2C 16
def Head.vMax (h : Head) : Nat := mkField h.maker 0x2E 16
def Head.tRef (h : Head) : Int := sx 16 (mkField h.maker 0x30 16)
def Head.cT (h : Head) : Int := sx 32 (mkField h.maker 0x34 32)
def Head.tSetDef (h : Head) : Int := sx 16 (mkField h.maker 0x158 16)
def Head.tSetMax (h : Head) : Int := sx 16 (mkField h.maker 0x15A 16)
def Head.tWarn (h : Head) : Int := sx 16 (mkField h.maker 0x15C 16)
def Head.tLimit (h : Head) : Int := sx 16 (mkField h.maker 0x15E 16)
def Head.tResume (h : Head) : Int := sx 16 (mkField h.maker 0x160 16)
def Head.warmE (h : Head) : Nat := mkField h.maker 0x162 16
def Head.warmRate (h : Head) : Nat := 10 * mkField h.maker 0x164 16

/-- Drive record of code `d` (1–7), 40 bytes (Table 6.1), and its fields. -/
def Head.record (h : Head) (d : Nat) : Nat := fld h.maker (8 * (0x40 + 40 * (d - 1))) 320
def recVolume (x : Nat) : Nat := fld x 0 16
def recSubs (x : Nat) : Nat := fld x 16 2 + 1
def recSettle (x : Nat) : Nat := fld x 32 16
def subPre (x j : Nat) : Nat := fld x (8 * (8 + 8 * j)) 12
def subDead (x j : Nat) : Nat := fld x (8 * (8 + 8 * j) + 12) 12
def subEnergy (x j : Nat) : Nat := fld x (8 * (12 + 8 * j)) 16
def subGap (x j : Nat) : Nat := fld x (8 * (12 + 8 * j) + 16) 12
/-- A drop code is defined when its record has energy in sub-drop 0 (R170). -/
def Head.defines (h : Head) (d : Nat) : Bool := 1 ≤ d && d ≤ 7 && h.blockOk && subEnergy (h.record d) 0 != 0

/-- Longest train of a head in ft (R184). -/
def Head.trainLen (h : Head) (d : Nat) : Nat :=
  let x := h.record d
  let n := recSubs x
  (List.range n).foldl (fun a j =>
    a + subPre x j + subDead x j + h.wMax + (if j + 1 = n then recSettle x else subGap x j)) 0

/-- Maximum line rate in Hz; 0 while the drive data are not known (R184). -/
def Head.fMax (h : Head) : Nat :=
  if h.driveOk then
    let t := ((List.range 8).filter h.defines).foldl (fun m d => max m (h.trainLen d)) 0
    min 96000 (min (10 * h.fRank) (1250000000 / (t + 64)))
  else 0

/-- Rate bound of a zone in lines/s (R100). -/
def State.rateBound (s : State) (z : Fin 8) : Rat :=
  let mm : Rat := s.pitch z / 65536
  let v : Rat := (s.zc z 0x56 : Rat) / 1000 / mm
  (s.zoneHeads z).foldl (fun b h => min b (s.heads[h].fMax : Rat)) v

/-- Load of a zone in cycles/s and bursts/s (R100). -/
def State.zoneLoad (s : State) (z : Fin 8) (v : List Res) : Rat × Rat :=
  let f := s.rateBound z
  (((v.map Res.cyc).foldl (· + ·) 0 : Nat) * f, ((v.map Res.bur).foldl (· + ·) 0 : Nat) * f)

/-- The loads of all zones, with zone `z` at the reservation `v`, within the limits of R100. -/
def State.loadFits (s : State) (z : Fin 8) (v : List Res) : Bool :=
  let tot := (fins 8).foldl (fun (a : Rat × Rat) y =>
    let l := s.zoneLoad y (if y = z then v else s.zones[y].res)
    (a.1 + l.1, a.2 + l.2)) (0, 0)
  tot.1 ≤ 562500000 && tot.2 ≤ 437500000

/-- The zone's vectors as the maxima over its items still reserved (R101). -/
def State.recomputeRes (s : State) (z : Fin 8) : State :=
  let v := ((s.zoneItems z).filter fun it => it.reserved).foldl (fun v it => maxRes v (s.itemRes it)) []
  s.updZone z fun x => { x with res := v }

/-! ### Withdrawal (R148) -/

/-- The remaining lines of the item have been dropped (R59, R60). -/
def Item.dropped (it : Item) : Bool := it.blank || match it.outcome with | some o => o.code == 1 | none => false

/-- The item of a handle takes its withdrawn lines back, to be built again. -/
def State.rebuilds (s : State) (h : Nat) : Bool := match s.item? h with | some it => !it.dropped | none => false

/-- Lower FIRST_BAD_LINE of an item that has not been handed to the host port (R54, R507). -/
def Item.markBad (it : Item) (line : Nat) : Item :=
  if it.noticed ∨ it.held then it
  else { it with badLine := some (match it.badLine with | some b => min b line | none => line) }

/-- Withdraw, on one row, the first stamped line for which `p` holds and every later line of the row, of those still
withdrawable. -/
def State.withdrawRow (s : State) (h : Fin 64) (r : Fin 4) (p : Stamped → Bool) : State :=
  let row := s.heads[h].rows[r]
  let keep := row.stamped.takeWhile fun l => !(p l && s.ft + 6250 ≤ l.fire)
  let go := row.stamped.drop keep.length
  if go.isEmpty then s
  else
    let s := s.updRow h r fun x =>
      { x with stamped := keep,
               -- the codes of a composed line return to the head of the ring, to be built again
               ring := (go.filter fun l => !l.void && s.rebuilds l.handle).map (fun l => { handle := l.handle, line := l.line, codes := l.codes })
                        ++ x.ring,
               -- a frame that has not left the port is not sent
               withdrawn := x.withdrawn ++ (go.filter fun l => l.sent.isSome).map fun l =>
                 { toStamped := l, cancels := 2, cancelAt := 0 } }
    let s := go.reverse.foldl (fun s l =>
      s.updItem l.handle fun it => if it.dropped then it.markBad (l.line % max 1 it.lineCount) else
        { it with prog := it.prog.map fun q =>
            if q.head = h ∧ q.row = r then { q with built := min q.built l.line } else q }) s
    match s.zoneOfHead h with
    | some z => s.updZone z fun x => { x with withdrawn := x.withdrawn + go.length }
    | none => s

/-- Withdraw every withdrawable line of a head. -/
def State.withdrawHead (s : State) (h : Fin 64) : State :=
  (fins 4).foldl (fun s r => s.withdrawRow h r fun _ => true) s

/-- Withdraw every withdrawable line of a zone. -/
def State.withdrawZone (s : State) (z : Fin 8) : State := (s.zoneHeads z).foldl (fun s h => s.withdrawHead h) s

/-- Remove every ring entry and every remaining line of an item: it is built no more. -/
def State.dropItem (s : State) (h : Nat) : State :=
  match s.item? h with
  | none => s
  | some it =>
    let n := s.totalLines it
    let s := it.prog.foldl (fun s q => s.updRow q.head q.row fun x => { x with ring := x.ring.filter fun l => l.handle ≠ h }) s
    s.updItem h fun it => { it with prog := it.prog.map fun q => { q with composed := n, built := n } }

/-! ### Spoiling (R55–R62) -/

/-- Payload of Table 17.2. -/
def itemPayload (h hostId outcome reason bad fired loc fin : Nat) : List (Nat × Nat) :=
  [(16, h), (32, hostId), (8, outcome), (8, reason), (24, bad), (24, fired), (64, loc), (64, fin)]

/-- Queue the notice of a slot holder. -/
def State.pushNotice (s : State) (it : Item) : State :=
  { s with notices := s.notices ++ [{ handle := it.handle, zone := it.zone, hostId := it.hostId, sid := it.sid, noSlot := none }] }

/-- Count an outcome of a zone. -/
def State.countOutcome (s : State) (z : Fin 8) (code : Nat) (up : Bool) : State :=
  if hc : code < 12 then
    s.updZone z fun x => { x with outcomes := vupd x.outcomes ⟨code, hc⟩ fun n => if up then n + 1 else n - 1 }
  else s

/-- Lines of an item fired as composed on every row (R507). -/
def State.linesFired (s : State) (it : Item) : Nat :=
  let need := it.prog.length * (s.traverses it).2
  (it.fired.filter fun e => e.2 ≥ need).length

/-- The lowest line that a row has still to build of an item, of `n` lines counted over all traverses. -/
def Item.lowestLeft (it : Item) (n built : Nat) : Option Nat :=
  let c := max 1 it.lineCount
  if n ≤ built then none else some (if built % c + (n - built) ≤ c then built % c else 0)

/-- The lines that a row has still to build will not be fired as composed: they are voided, passed over or dropped (R507). -/
def Item.markLeft (it : Item) (n built : Nat) : Item :=
  match it.lowestLeft n built with | some l => it.markBad l | none => it

/-- The same for every row of the item. -/
def Item.markAllLeft (it : Item) (n : Nat) : Item := it.prog.foldl (fun a q => a.markLeft n q.built) it

/-- The pulse of an item at its gate (R276): to the trailing-edge gate position plus the extension in force at its assertion. -/
def State.pulseOf (s : State) (g : Fin 8) (it : Item) : Pulse :=
  { handle := it.handle, zone := it.zone,
    ends := if s.zc it.zone 0x30 ≠ 0 then none
      else it.origin.map fun o => o + s.lineOff it.zone (it.lineCount - 1) + s.gatePos g + (s.gc g 0x04 : Int) }

/-- Drive a reject output (R276): the level at the pin, asserted high unless the polarity inverts it (Table 9.3). -/
def State.gateOut (s : State) (g : Fin 8) (on : Bool) : State := s.emit (.gate g.val (on != (s.gc g 0x05 == 1)))

/-- Assert a reject output for an item at once or on schedule (R276): pulse counted, item marked. -/
def State.assertGate (s : State) (g : Fin 8) (h : Nat) : State :=
  let was := s.gates[g].asserted
  let s := s.updGate g fun x =>
    { x with asserted := true, since := if was then x.since else s.ft,
             minEnd := max x.minEnd (s.ft + usFt (s.gc g 0x03)),
             handles := x.handles ++ ((s.item? h).map (s.pulseOf g)).toList, pulses := x.pulses + 1 }
  let s := s.updItem h fun it => { it with pulsed := true }
  if was then s else s.gateOut g true

/-- LATE_REJECT (R62): the outcome became spoiled after the leading edge had passed the gate; the pulse is issued at once. -/
def State.lateReject (s : State) (h code loc : Nat) : State :=
  match s.item? h with
  | none => s
  | some it =>
    match s.zoneGate it.zone with
    | some g =>
      if s.leadAtGate it && !s.zones[it.zone].hold then
        let s := s.assertGate g h
        let s := s.updGate g fun x => { x with late := x.late + 1 }
        s.event 0x2812 (s.loc 5 it.zone.val)
          (itemPayload h it.hostId code 0 (it.badLine.getD 0xFFFFFF) (s.linesFired it) loc s.ft)
      else s
    | none => s

/-- A spoil cause found on the tick of an item's outcome, or after it (R56): on the same tick the smallest code stands; later
ones are counted and recorded. -/
def State.laterCause (s : State) (it : Item) (o : Outcome) (code loc sess role : Nat) : State :=
  if it.state == .final then s
  else if o.finalFt = s.ft ∧ (it.state = .spoiled ∨ it.state = .spoiledTail) ∧ ¬ it.noticed ∧ ¬ it.held then
    if code < o.code then
      let n := s.totalLines it
      let s := s.updItem it.handle fun it =>
        let it := { it with outcome := some { o with code, loc }, bySession := sess, byRole := role }
        if code = 1 then it.markAllLeft n else it
      let s := (s.countOutcome it.zone o.code false).countOutcome it.zone code true
      if code = 1 then s.dropItem it.handle else s
    else s
  else if hc : 1 ≤ code ∧ code ≤ 9 then
    let s := s.updZone it.zone fun x => { x with late := vupd x.late ⟨code - 1, by omega⟩ (· + 1) }
    s.event 0x2811 (s.loc 5 it.zone.val)
      (itemPayload it.handle it.hostId code 0 (it.badLine.getD 0xFFFFFF) (s.linesFired it) loc o.finalFt)
  else s

/-- A spoil cause found for one item (R55, R56, R58–R62). `line` is the line it names as not fired as composed, if any. -/
def State.spoil (s : State) (h code loc : Nat) (line : Option Nat) (sess role : Nat) : State :=
  let s := match line with
    | some l => s.updItem h fun it => it.markBad (l % max 1 it.lineCount)
    | none => s
  match s.item? h with
  | none => s
  | some it =>
    if it.inPolder then
      let blank := it.state == .admitted
      let n := s.totalLines it
      let s := s.updItem h fun it =>
        { it with state := .spoiled, blank, reserved := false, bySession := sess, byRole := role,
                  outcome := some { code, reason := 0, finalFt := s.ft, op := s.opNow, cal := s.calStamp, loc } }
      let s := (s.countOutcome it.zone code true).recomputeRes it.zone
      -- R60: withdrawn where still withdrawable, and not built again
      let s := if blank then it.prog.foldl (fun s q => s.withdrawRow q.head q.row fun l => l.handle == h) s else s
      -- R59, R60: the remaining lines are dropped
      let s := if blank ∨ code = 1 then (s.updItem h fun it => it.markAllLeft n).dropItem h else s
      (s.pushNotice it).lateReject h code loc
    else
      match it.outcome with
      | none => s
      | some o => s.laterCause it o code loc sess role

/-- Lines of an item that were built as composed and have not fired yet. -/
def State.composedLeft (s : State) (it : Item) : Bool :=
  it.prog.any fun q => s.heads[q.head].rows[q.row].stamped.any fun l => l.handle == it.handle && !l.void

/-- The outcome of the item is not fixed yet, or was fixed as spoiled on this very tick (R56). -/
def State.unsettled (s : State) (it : Item) : Bool :=
  it.inPolder || it.state == .spoiled && match it.outcome with | some o => o.finalFt == s.ft | none => false

/-- A cause may concern the item (R55, R56): it is in the polder, or was spoiled on this tick, or was spoiled before and has
composed lines that have not fired. What a void line meets is no cause (R58). -/
def State.exposed (s : State) (it : Item) : Bool := s.unsettled it || it.state == .spoiled && s.composedLeft it

/-- A line past its commit point is withdrawn no more (R148): 5 µs before its fire instant. -/
def State.withdrawable (s : State) (l : Stamped) : Bool := decide (s.ft + 6250 ≤ l.fire)

/-- The item has a line on a row that is not past its commit point: unbuilt, or stamped and withdrawable. Of an item whose lines
have just been dropped (R59, R60) the lines that are not stamped were not built. -/
def State.lineLeft (s : State) (it : Item) (q : RowProg) : Bool :=
  let mine := s.heads[q.head].rows[q.row].stamped.filter fun l => l.handle == it.handle
  mine.any s.withdrawable || if it.dropped then decide (mine.length < s.totalLines it) else decide (q.built < s.totalLines it)

/-- The item has a line on head `h` that COOLDOWN of the head keeps from firing (R249, R56): of an item whose outcome is older, only
a composed line counts. -/
def State.cooled (s : State) (h : Fin 64) (it : Item) : Bool :=
  it.prog.any fun q => q.head == h &&
    (s.unsettled it && s.lineLeft it q ||
      it.state == .spoiled && s.heads[h].rows[q.row].stamped.any fun l => l.handle == it.handle && !l.void && s.withdrawable l)

/-- Spoil every item of a zone that a cause may concern and for which `p` holds. -/
def State.spoilZone (s : State) (z : Fin 8) (p : Item → Bool) (code loc : Nat) : State :=
  ((s.zoneItems z).filter fun it => s.exposed it && p it).foldl (fun s it => s.spoil it.handle code loc none 0 0) s

/-- The item needs head `h`: some row of the head is among its rows, with a line not yet fired. -/
def State.needsHead (s : State) (it : Item) (h : Fin 64) : Bool :=
  it.prog.any fun q => q.head == h &&
    (q.built < s.totalLines it || (s.heads[h].rows[q.row].stamped.any fun l => l.handle == it.handle))

/-- Spoil every item that needs one of the heads and that a cause may concern. -/
def State.spoilHeads (s : State) (hs : List (Fin 64)) (code loc : Nat) : State :=
  (s.items.filter fun it => s.exposed it && hs.any fun h => s.needsHead it h).foldl
    (fun s it => s.spoil it.handle code loc none 0 0) s

/-- A stale handle counts in the zone of the slot's last item (R45). -/
def State.countStale (s : State) (h : Nat) : State :=
  let z := sget 8 s.slotZone (h % 256)
  if hz : z < 8 then s.updZone ⟨z, hz⟩ fun x => { x with stale := x.stale + 1 } else s

/-- A MARK item that has become the head of its queue begins its window at the counted position (R51). -/
def State.setHead (s : State) (z : Fin 8) : State :=
  match (s.queue z).head? with
  | some it =>
    if it.startRule = 2 ∧ it.markFrom.isNone then s.updItem it.handle fun x => { x with markFrom := some (s.counted z) }
    else s
  | none => s

/-- End a queued item as REJECTED or SKIPPED_NO_MARK (Table 2.5). -/
def State.finish (s : State) (h code reason : Nat) : State :=
  match s.item? h with
  | none => s
  | some it =>
    let s := s.updItem h fun it =>
      { it with state := .final, outcome := some { code, reason, finalFt := s.ft, op := s.opNow, cal := s.calStamp, loc := s.loc 5 it.zone.val } }
    ((s.countOutcome it.zone code true).pushNotice it).setHead it.zone

/-- Spoiled items whose leading edge is past the gate: each has its pulse (Table 2.5), or has passed under the hold and is not
judged individually (R72). -/
def State.passGate (s : State) (z : Fin 8) : State :=
  (s.zoneItems z).foldl (fun s it =>
    if (it.state = .spoiled ∨ it.state = .spoiledTail) ∧ ¬ it.pulsed ∧ ¬ it.gone ∧ s.leadAtGate it then
      if s.zones[z].hold then s.updItem it.handle fun x => { x with pulsed := true }
      else match s.zoneGate z with
        | some g => s.assertGate g it.handle
        | none => s
    else s) s

/-- The gate passage of a delivered item is over once its trailing edge is past (R277); in a scanning zone as it reaches its gate
(R278). -/
def State.endPassages (s : State) (z : Fin 8) : State :=
  (s.zoneItems z).foldl (fun s it =>
    if (it.state = .delivered ∨ it.state = .deliveredTail) ∧ s.trailPast it then
      s.updItem it.handle fun x => { x with gone := true }
    else s) s

/-- What follows for the items of a zone from its position and from notices sent (Tables 2.5 and 2.9, R277): pulses begin,
overlaps are counted, tails begin, slots are released, a zone without tracked items leaves TAIL. -/
def State.settle (s : State) (z : Fin 8) : State :=
  let s := ((s.passGate z).checkOverlap z).endPassages z
  let s := (s.zoneItems z).foldl (fun s it =>
    if it.state = .spoiled ∧ it.noticed ∧ (it.gone ∨ s.leadAtGate it) then
      s.updItem it.handle fun x => { x with state := .spoiledTail }
    else if it.state = .delivered ∧ it.noticed then s.updItem it.handle fun x => { x with state := .deliveredTail }
    else s) s
  let s := (s.zoneItems z).foldl (fun s it =>
    if (it.state = .spoiledTail ∨ it.state = .deliveredTail) ∧ s.trailPast it ∧ ¬ it.held then s.releaseSlot it.handle
    else if it.state = .final ∧ it.noticed ∧ ¬ it.held then s.releaseSlot it.handle else s) s
  if s.zones[z].state = .tail ∧ (s.tracked z).isEmpty then s.setZoneState z .disabled else s

/-! ### Power (R473) -/

/-- Length in ft of the windows over which power is measured, and the mW of a domain in one of them. -/
def powerWindow : Nat := 12500000
def windowPower (d w : Nat) : Nat := Config.measured (objKey (0xA010 + d) 0x04) w % 2 ^ 32

/-- The windows that have ended since the reset, by number. -/
def State.powerWindows (s : State) : List Nat :=
  let first := ceilDiv s.power.poweredAt powerWindow
  (List.range (s.ft / powerWindow - first)).map (· + first)

/-- Power of a domain in mW over the last window; its energy in mJ, the sum of the windows. -/
def State.domainPower (s : State) (d : Nat) : Nat := ((s.powerWindows.getLast?).map (windowPower d)).getD 0
def State.domainEnergy (s : State) (d : Nat) : Nat := sumN (s.powerWindows.map (windowPower d)) / 100

/-! ### Counters (R453, R454) -/

/-- Counters 0–127 (Table 17.4). -/
def State.counterLow (s : State) (n : Nat) : Nat :=
  if n < 8 then s.engines[Fin.ofNat 8 n].restarts
  else if n < 16 then s.arrays.retries[Fin.ofNat 8 n]
  else if n < 44 then s.arrays.single[Fin.ofNat 28 (n - 16)]
  else if n < 47 then s.mem.uncorr[Fin.ofNat 3 (n - 44)]
  else if n < 48 then 0
  else if n < 80 then s.sessions[Fin.ofNat 32 (n - 48)].retx
  else if n < 112 then s.sessions[Fin.ofNat 32 (n - 80)].stale
  else if n < 120 then
    let e := s.enc[Fin.ofNat 4 ((n - 112) / 2)]
    if n % 2 = 0 then e.runs else e.rejects
  else if n = 120 then s.opNow
  else if n = 121 then s.powerCycles
  else 0

/-- Counter `k` of a zone. -/
def Zone.counter (x : Zone) (k : Nat) : Nat :=
  if h : k < 12 then x.outcomes[k]
  else
    match k with
    | 12 => x.admitted | 13 => x.substituted | 14 => x.spread | 15 => x.reassigned | 16 => x.unhidden | 17 => x.guarded
    | 18 => x.spillway | 19 => x.withdrawn | 20 => x.faults | 21 => x.reversals | 22 => x.stale
    | _ => 0

/-- Counter `k` of a head, of a channel, of a host port. -/
def Head.counter (x : Head) (k : Nat) : Nat :=
  match k with
  | 0 => x.linesFired | 1 => x.dropsFired | 2 => x.clamped | 3 => x.suppressed | 4 => x.cooldowns | 5 => x.aborted
  | 6 => x.installs
  | _ => 0

def Chan.counter (x : Chan) (k : Nat) : Nat :=
  match k with
  | 0 => toU 64 x.count | 1 => x.reversals | 2 => x.faults | _ => x.mismatches

def Mark.counter (x : Mark) (k : Nat) : Nat :=
  match k with
  | 0 => x.accepted | 1 => x.tooClose | 2 => x.unclaimed | _ => x.refused

def Gate.counter (x : Gate) (k : Nat) : Nat :=
  match k with
  | 0 => x.pulses | 1 => x.late | _ => x.overlaps

def HPort.counter (x : HPort) (k : Nat) : Nat :=
  match k with
  | 0 => x.rx | 1 => x.tx | 2 => x.fecOk | 3 => x.fecBad | 4 => x.discard
  | _ => 0

def Can.counter (x : Can) (k : Nat) : Nat :=
  match k with
  | 0 => x.rx | 1 => x.tx | 2 => x.discard | _ => x.busOffs

/-- Counter `k` of a link. -/
def State.linkCounter (s : State) (l : Fin 16) (k : Nat) : Nat :=
  match k with
  | 0 => s.ports[l].corrected | 1 => s.ports[l].blocksLost | 2 => s.ports[l].retries | 3 => s.chains[l].faults
  | 4 => s.lanes[l].runs | 5 => s.lanes[l].rejects
  | _ => 0

/-- Counters 1,320 and up. -/
def State.counterHigh (s : State) (n : Nat) : Nat :=
  match n with
  | 1320 => s.refusals | 1321 => s.authFails | 1322 => s.replays | 1323 => s.staleSess | 1324 => s.conflicts | 1325 => s.staleTx
  | 1337 => s.recorder.displaced | 1338 => s.lost | 1339 => s.mem.found | 1340 => s.mem.repaired | 1341 => s.dataErrors
  | 1342 => s.streamDiscards | 1343 => s.lateReports | 1344 => s.noticesSent | 1345 => s.sync.discards
  | _ => if 1326 ≤ n ∧ n < 1337 then s.domainEnergy (n - 1326) else 0

/-- Value of counter `n` (Table 17.4). -/
def State.counter (s : State) (n : Nat) : Nat :=
  (if n < 128 then s.counterLow n
  else if n < 384 then s.zones[Fin.ofNat 8 ((n - 128) / 32)].counter (n % 32)
  else if n < 896 then s.heads[Fin.ofNat 64 ((n - 384) / 8)].counter (n % 8)
  else if n < 1152 then s.linkCounter (Fin.ofNat 16 ((n - 896) / 16)) (n % 16)
  else if n < 1184 then s.chans[Fin.ofNat 8 ((n - 1152) / 4)].counter (n % 4)
  else if n < 1216 then s.marks[Fin.ofNat 8 ((n - 1184) / 4)].counter (n % 4)
  else if n < 1240 then s.gates[Fin.ofNat 8 ((n - 1216) / 3)].counter ((n - 1216) % 3)
  else if n < 1256 then s.switches[Fin.ofNat 16 (n - 1240)].edges
  else if n < 1272 then
    let x := s.axes[Fin.ofNat 8 ((n - 1256) / 2)]
    if n % 2 = 0 then toU 64 (x.posAt s.ft) else x.issuedAt s.ft
  else if n < 1280 then 0
  else if n < 1312 then s.hports[Fin.ofNat 4 ((n - 1280) / 8)].counter (n % 8)
  else if n < 1320 then s.cans[Fin.ofNat 2 ((n - 1312) / 4)].counter (n % 4)
  else s.counterHigh n) % 2 ^ 64

/-! ### Latching a snapshot (R455, R456) -/

/-- First multiple of `m` that is not below `x`. -/
def multipleFrom (m x : Nat) : Nat := ceilDiv x m * m

/-- Scheduled latch ticks that still stand: one of the snapshot period as long as the period has a multiple there. -/
def State.liveDue (s : State) : List Latch :=
  let p := msFt (s.oget 0x9800 0x02)
  s.snap.due.filter fun x => !x.period || (p != 0 && x.at_ % p == 0)

/-- The latched buffer becomes active, the epoch advances (R456). -/
def Snap.swap (x : Snap) : Snap :=
  match x.latched with
  | some d => { x with active := !x.active, latched := none, epoch := (x.epoch + 1) % 2 ^ 32, tick := d }
  | none => x

/-- Counters at a latch tick, by number, where they are not 0: what has happened before it counts (R456). -/
def State.countersAt (s : State) (d : Nat) : SMap Nat :=
  (List.range 1408).filterMap fun n => let v := State.counter { s with ft := d } n; if v = 0 then none else some (n, v)

/-- Every counter goes into the inactive buffer. -/
def State.latchOne (s : State) (x : Snap) (l : Latch) : Snap :=
  let x := { x.swap with last := some (l.at_, l.board), latched := some l.at_ }
  if x.active then { x with buf0 := s.countersAt l.at_ } else { x with buf1 := s.countersAt l.at_ }

/-- The snapshot as time goes on to tick `t`: every latch tick that has come is taken, before anything else that happens on it. -/
def State.latched (s : State) (t : Nat) : Snap :=
  if s.snap.due.any fun x => decide (x.at_ ≤ t) then
    (s.liveDue.filter fun x => decide (x.at_ ≤ t)).foldl s.latchOne { s.snap with due := s.liveDue.filter fun x => decide (t < x.at_) }
  else s.snap

/-! ### Idle domains, and the state as a command finds it (R470, R471) -/

/-- A periodic action is due: never done, or `d` ft ago or more. -/
def periodic (o : Option Nat) (d now : Nat) : Bool := match o with | some b => decide (b + d ≤ now) | none => true

/-- The slot takes no request: its last one waits or runs. -/
def State.reqBusy (s : State) (i : Fin 16) : Bool := s.reqs[i].result == 1 || s.reqs[i].result == 2

/-- The ports of a link domain. -/
def linkHalf (d : Nat) : List (Fin 16) := (fins 16).filter fun l => l.val / 8 + 4 == d

/-- Every zone is DISABLED and idle, and every chain OFF. -/
def State.zonesOff (s : State) : Bool := (fins 8).all fun z => s.zones[z].state == .disabled && s.zoneIdle z
def State.chainsAllOff (s : State) : Bool := (fins 16).all fun c => s.chains[c].state == .off

/-- Loads of a session that have not ended (R339). -/
def Session.openLoads (x : Session) : List Load := x.loads.filter fun l => l.done.isNone

/-- Idle conditions (Table 18.5). -/
def State.domainIdle (s : State) (d : Fin 11) : Bool :=
  match d.val with
  | 0 => ((fins 32).all fun i => !(s.sessions[i].isOpen && s.sessions[i].port < 4)) && s.oget 0x1F48 0x01 == 0
  | 1 => (fins 32).all fun i => !(s.sessions[i].isOpen && 4 ≤ s.sessions[i].port)
  | 2 => (s.items.all fun it => !(it.state == .queued || it.inPolder)) && ((fins 32).all fun i => s.sessions[i].openLoads.isEmpty)
  | 3 => s.zonesOff && s.chainsAllOff
  | 4 => (linkHalf 4).all fun l => (fins 9).all fun a => !s.ports[l].nodes[a].present
  | 5 => (linkHalf 5).all fun l => (fins 9).all fun a => !s.ports[l].nodes[a].present
  | 6 =>
    ((fins 8).all fun c => s.cc c 0x01 == 0) && ((fins 8).all fun a => s.axes[a].state == .disabled || s.axes[a].state == .retained) &&
    ((fins 8).all fun g => !s.gates[g].asserted) && (fins 16).all fun w => s.oget (swIdx w) 0x04 == 0
  | 7 =>
    s.zonesOff && s.chainsAllOff && ((fins 16).all fun i => !s.reqBusy i) && s.due.isEmpty && s.events.isEmpty &&
    s.recorder.clearing.isNone && s.mem.under.isNone && s.mem.req.isNone &&
    !(s.oget 0x7000 0x01 == 1 && !s.mem.shadowBad && periodic s.mem.lastAt s.mem.every s.ft)
  | 8 => s.chainsAllOff && (fins 64).all fun h => !s.heads[h].scanDue
  | _ => false

/-- Retention after and Off after of a domain (Table 14.12). -/
def State.retAfter (s : State) (d : Fin 11) : Nat := s.oget (0xA010 + d.val) 0x02
def State.offAfter (s : State) (d : Fin 11) : Nat := s.oget (0xA010 + d.val) 0x03

/-- The idle timers: of each domain that is idle, when that began, and what the timers compare with from then on (R470). -/
def State.idleTimers (s : State) : Vector (Option (Nat × Nat × Nat)) 11 :=
  Vector.ofFn fun d => if s.domainIdle d then some (s.idle[d].getD (s.ft, s.retAfter d, s.offAfter d)) else none

/-- Work that has come up wakes PD-IMG, PD-ENG and PD-HV (R471), once the block runs and before its power-down is done. -/
def State.selfWoken (s : State) : Vector Domain 11 :=
  Vector.ofFn fun d =>
    let x := s.domains[d]
    if (d.val = 2 ∨ d.val = 7 ∨ d.val = 8) ∧ x.state < 2 ∧ s.power.root ∧ s.power.step < 6 ∧ !s.domainIdle d then
      { state := 3, wakes := x.wakes + 1, wakeAt := s.ft, wakeFrom := x.state }
    else x

/-- The state as a command finds it at tick `t`: time never goes back, the log of outputs holds what left meanwhile by itself, the
microsteps of the motion under way; the idle timers and the domains have taken what the last command left, and the latch ticks that have
come are taken (R456). -/
def State.begin (s : State) (t : Nat) : State :=
  { s with ft := max s.ft t, origin := (0, 0), out := s.stepPulses (max s.ft t), idle := s.idleTimers, domains := s.selfWoken,
           snap := s.latched (max s.ft t) }

end Sys2Proof.Machine
end

