-- ==== Sys2Proof/Machine/Crypto.lean ====
section
/-! DEFINITION. The cryptography that chapter 16 names: SHA-256 and SHA-512, HKDF (R438), AES-256-GCM (R438), X25519 (R329, R438) and
Ed25519 (R405, R425, R428, R429, R435, R437, R440). The manual names the algorithms; their steps are PRESUMED from the published
standards (notes/assumptions/20). -/

namespace Sys2Proof.Machine

/-- Big-endian bytes of a number, and the number of big-endian bytes. -/
def beBytes (n w : Nat) : Bytes := (leBytes n w).reverse
def ofBytesBE (bs : Bytes) : Nat := ofBytes bs.reverse

/-- A byte string cut into pieces of `n` bytes. -/
def pieces (n : Nat) (bs : Bytes) : List Bytes := (List.range (ceilDiv bs.length n)).map fun k => (bs.drop (n * k)).take n

/-- A byte string filled up with zeros to a multiple of `n` bytes. -/
def padTo (n : Nat) (bs : Bytes) : Bytes := bs ++ List.replicate (n * ceilDiv bs.length n - bs.length) 0

def xorBytes (a b : Bytes) : Bytes := List.zipWith Nat.xor a b

/-! ### SHA-2: words of 32 bits (SHA-256) or of 64 bits (SHA-512) -/

/-- The first 80 primes, from whose roots the constants come. -/
def primes80 : List Nat := (List.range 410).filter fun n => decide (2 ≤ n) && (List.range n).all fun d => decide (d < 2) || n % d != 0

/-- Greatest `r` below `2 ^ k` with `r ^ e ≤ n`. -/
def rootBelow (e n : Nat) : Nat → Nat
  | 0 => 0
  | k + 1 =>
    let r := rootBelow e (n / 2 ^ e) k
    if (2 * r + 1) ^ e ≤ n then 2 * r + 1 else 2 * r

/-- The first `w` bits of the fractional part of the `e`-th root of `p`. -/
def rootFraction (w e p : Nat) : Nat := rootBelow e (p * 2 ^ (e * w)) (w + 6) % 2 ^ w

def shaWidth (big : Bool) : Nat := if big then 64 else 32
def ror (w n x : Nat) : Nat := (x >>> n) ||| ((x <<< (w - n)) % 2 ^ w)

def sha2A (big : Bool) (x : Nat) : Nat :=
  if big then ror 64 28 x ^^^ ror 64 34 x ^^^ ror 64 39 x else ror 32 2 x ^^^ ror 32 13 x ^^^ ror 32 22 x
def sha2E (big : Bool) (x : Nat) : Nat :=
  if big then ror 64 14 x ^^^ ror 64 18 x ^^^ ror 64 41 x else ror 32 6 x ^^^ ror 32 11 x ^^^ ror 32 25 x
def sha2Near (big : Bool) (x : Nat) : Nat :=
  if big then ror 64 1 x ^^^ ror 64 8 x ^^^ (x >>> 7) else ror 32 7 x ^^^ ror 32 18 x ^^^ (x >>> 3)
def sha2Far (big : Bool) (x : Nat) : Nat :=
  if big then ror 64 19 x ^^^ ror 64 61 x ^^^ (x >>> 6) else ror 32 17 x ^^^ ror 32 19 x ^^^ (x >>> 10)

/-- The message schedule, newest word first. -/
def sha2Schedule (big : Bool) (ws : List Nat) : Nat → List Nat
  | 0 => ws
  | k + 1 =>
    let g := fun i => ws.getD i 0
    sha2Schedule big ((sha2Far big (g 1) + g 6 + sha2Near big (g 14) + g 15) % 2 ^ shaWidth big :: ws) k

/-- One round on the eight working words a … h. -/
def sha2Round (big : Bool) (v : List Nat) (kw : Nat × Nat) : List Nat :=
  let m := 2 ^ shaWidth big
  match v with
  | [a, b, c, d, e, f, g, h] =>
    let t1 := h + sha2E big e + ((e &&& f) ^^^ ((m - 1 - e) &&& g)) + kw.1 + kw.2
    let t2 := sha2A big a + ((a &&& b) ^^^ (a &&& c) ^^^ (b &&& c))
    [(t1 + t2) % m, a, b, c, (d + t1) % m, e, f, g]
  | _ => v

/-- One block into the chaining words. -/
def sha2Block (big : Bool) (h : List Nat) (block : Bytes) : List Nat :=
  let w := shaWidth big
  let rounds := if big then 80 else 64
  let ks := (primes80.take rounds).map (rootFraction w 3)
  let ws := (sha2Schedule big ((pieces (w / 8) block).map ofBytesBE).reverse (rounds - 16)).reverse
  List.zipWith (fun x y => (x + y) % 2 ^ w) h ((ks.zip ws).foldl (sha2Round big) h)

/-- SHA-256 or SHA-512 of a byte string. -/
def sha2 (big : Bool) (m : Bytes) : Bytes :=
  let w := shaWidth big
  let bl := 2 * w
  let len := w / 4
  let zeros := (bl - (m.length + 1 + len) % bl) % bl
  let msg := m ++ 0x80 :: List.replicate zeros 0 ++ beBytes len (8 * m.length)
  ((pieces bl msg).foldl (sha2Block big) ((primes80.take 8).map (rootFraction w 2))).flatMap (beBytes (w / 8))

/-- HMAC-SHA256. -/
def hmac (key m : Bytes) : Bytes :=
  let k := padTo 64 (if 64 < key.length then sha2 false key else key)
  let k := if k.isEmpty then List.replicate 64 0 else k
  sha2 false (xorBytes k (List.replicate 64 0x5C) ++ sha2 false (xorBytes k (List.replicate 64 0x36) ++ m))

/-- HKDF-SHA256 with an output of 32 bytes: Extract, then one step of Expand. -/
def hkdf (salt ikm info : Bytes) : Bytes := hmac (hmac salt ikm) (info ++ [1])

/-! ### AES-256-GCM -/

/-- Product in GF(2^8) by the polynomial 0x11B. -/
def gf8 : Nat → Nat → Nat → Nat
  | 0, _, _ => 0
  | k + 1, a, b => (if b % 2 = 1 then a else 0) ^^^ gf8 k (if 128 ≤ a then (2 * a) ^^^ 0x11B else 2 * a) (b / 2)
def aesMul (a b : Nat) : Nat := gf8 8 a b

/-- The S-box, the byte for `x` at bits 8 · x on. -/
def aesBox : Nat :=
  0x16bb54b00f2d99416842e6bf0d89a18cdf2855cee9871e9b948ed9691198f8e19e1dc186b95735610ef6034866b53e708a8bbd4b1f74dde8c6b4a61c2e2578ba08ae7a65eaf4566ca94ed58d6d37c8e779e4959162acd3c25c2406490a3a32e0db0b5ede14b8ee4688902a22dc4f816073195d643d7ea7c41744975fec130ccdd2f3ff1021dab6bcf5389d928f40a351a89f3c507f02f94585334d43fbaaefd0cf584c4a39becb6a5bb1fc20ed00d153842fe329b3d63b52a05a6e1b1a2c830975b227ebe28012079a059618c323c7041531d871f1e5a534ccf73f362693fdb7c072a49cafa2d4adf04759fa7dc982ca76abd7fe2b670130c56f6bf27b777c63
def aesSub (x : Nat) : Nat := aesBox >>> (8 * x) % 256

/-- Key schedule of AES-256: 60 words, newest first; `i` is the number of the next word. -/
def aesExpand (ws : List Bytes) (rcon i : Nat) : Nat → List Bytes
  | 0 => ws
  | k + 1 =>
    let t := ws.headD []
    let t :=
      if i % 8 = 0 then xorBytes ((t.drop 1 ++ t.take 1).map aesSub) [rcon, 0, 0, 0]
      else if i % 8 = 4 then t.map aesSub
      else t
    aesExpand (xorBytes (ws.getD 7 []) t :: ws) (if i % 8 = 0 then aesMul rcon 2 else rcon) (i + 1) k

/-- The 15 round keys. -/
def aesKeys (key : Bytes) : List Bytes := pieces 16 (aesExpand (pieces 4 key).reverse 1 8 52).reverse.flatten

def aesShift (b : Bytes) : Bytes := (List.range 16).map fun i => b.getD ((5 * i) % 16) 0
def aesMix (b : Bytes) : Bytes :=
  (List.range 16).map fun i =>
    let g := fun j => b.getD (4 * (i / 4) + (i + j) % 4) 0
    aesMul (g 0) 2 ^^^ aesMul (g 1) 3 ^^^ g 2 ^^^ g 3

/-- AES-256 on one block of 16 bytes. -/
def aesBlock (key block : Bytes) : Bytes :=
  let ks := aesKeys key
  let x := ((ks.drop 1).take 13).foldl (fun x k => xorBytes (aesMix (aesShift (x.map aesSub))) k) (xorBytes block (ks.headD []))
  xorBytes (aesShift (x.map aesSub)) (ks.getD 14 [])

/-- Product in GF(2^128) of GCM, whose bit 0 is the most significant one. -/
def gf128 (x : Nat) : Nat → Nat → Nat → Nat
  | 0, z, _ => z
  | k + 1, z, v =>
    gf128 x k (if x.testBit k then z ^^^ v else z) (if v % 2 = 1 then (v / 2) ^^^ (0xE1 * 2 ^ 120) else v / 2)
def ghash (h : Nat) (bs : Bytes) : Nat := (pieces 16 bs).foldl (fun y b => gf128 (y ^^^ ofBytesBE b) 128 0 h) 0

/-- The key stream of GCM from counter 2 on. -/
def gcmStream (key nonce : Bytes) (n : Nat) : Bytes :=
  (List.range (ceilDiv n 16)).flatMap fun k => aesBlock key (nonce ++ beBytes 4 (k + 2))

/-- AES-256-GCM: what a plain text is enciphered to, and the 16-byte tag over it and the additional data. -/
def gcmCipher (key nonce text : Bytes) : Bytes := xorBytes text (gcmStream key nonce text.length)
def gcmTag (key nonce aad cipher : Bytes) : Bytes :=
  let h := ofBytesBE (aesBlock key (List.replicate 16 0))
  let y := ghash h (padTo 16 aad ++ padTo 16 cipher ++ beBytes 8 (8 * aad.length) ++ beBytes 8 (8 * cipher.length))
  xorBytes (beBytes 16 y) (aesBlock key (nonce ++ beBytes 4 1))

/-! ### Curve25519 -/

def p25519 : Nat := 2 ^ 255 - 19

/-- `b ^ e mod m`, over the bits of the exponent; `k` bounds their number. -/
def powMod (m b : Nat) : Nat → Nat → Nat
  | 0, _ => 1
  | k + 1, e =>
    let x := powMod m b k (e / 2)
    let y := x * x % m
    if e % 2 = 1 then y * b % m else y
def fPow (b e : Nat) : Nat := powMod p25519 b 256 e
def fInv (a : Nat) : Nat := fPow a (p25519 - 2)
def fSub (a b : Nat) : Nat := (a + p25519 - b % p25519) % p25519

/-- A private scalar: bits [2:0] and 255 cleared, bit 254 set. -/
def clampScalar (k : Nat) : Nat := k % 2 ^ 254 / 8 * 8 + 2 ^ 254

/-- One step of the ladder of X25519 on x2, z2, x3, z3. -/
def ladderStep (x1 : Nat) (v : Nat × Nat × Nat × Nat) : Nat × Nat × Nat × Nat :=
  let (x2, z2, x3, z3) := v
  let a := (x2 + z2) % p25519
  let aa := a * a % p25519
  let b := fSub x2 z2
  let bb := b * b % p25519
  let e := fSub aa bb
  let da := fSub x3 z3 * a % p25519
  let cb := (x3 + z3) * b % p25519
  (aa * bb % p25519, e * (aa + 121665 * e) % p25519, (da + cb) * (da + cb) % p25519, x1 * (fSub da cb * fSub da cb % p25519) % p25519)

def ladder (k x1 : Nat) : Nat → Nat × Nat × Nat × Nat → Nat × Nat × Nat × Nat
  | 0, v => v
  | n + 1, v =>
    let (x2, z2, x3, z3) := v
    if k.testBit n then
      let (a, b, c, d) := ladderStep x1 (x3, z3, x2, z2)
      ladder k x1 n (c, d, a, b)
    else ladder k x1 n (ladderStep x1 v)

/-- X25519 of a private key and a public one. -/
def x25519 (priv pub : Nat) : Nat :=
  let x1 := pub % 2 ^ 255 % p25519
  let (x2, z2, _, _) := ladder (clampScalar priv) x1 255 (1, 0, x1, 1)
  x2 * fInv z2 % p25519
def x25519Public (priv : Nat) : Nat := x25519 priv 9

/-- A point of the Edwards curve in extended coordinates X, Y, Z, T. -/
abbrev EdPoint := Nat × Nat × Nat × Nat

def edOrder : Nat := 2 ^ 252 + 27742317777372353535851937790883648493
def edD : Nat := fSub 0 (121665 * fInv 121666 % p25519)

def edAdd (p q : EdPoint) : EdPoint :=
  let (x1, y1, z1, t1) := p
  let (x2, y2, z2, t2) := q
  let a := fSub y1 x1 * fSub y2 x2 % p25519
  let b := (y1 + x1) * (y2 + x2) % p25519
  let c := 2 * t1 * t2 % p25519 * edD % p25519
  let d := 2 * z1 * z2 % p25519
  let e := fSub b a
  let f := fSub d c
  let g := (d + c) % p25519
  let h := (b + a) % p25519
  (e * f % p25519, g * h % p25519, f * g % p25519, e * h % p25519)

/-- Scalar multiple, over the bits of the scalar; `k` bounds their number. -/
def edMul (p : EdPoint) : Nat → Nat → EdPoint
  | 0, _ => (0, 1, 1, 0)
  | k + 1, n =>
    let q := edMul p k (n / 2)
    let q := edAdd q q
    if n % 2 = 1 then edAdd q p else q

def edEq (p q : EdPoint) : Bool :=
  (p.1 * q.2.2.1 % p25519 == q.1 * p.2.2.1 % p25519) && (p.2.1 * q.2.2.1 % p25519 == q.2.1 * p.2.2.1 % p25519)

/-- The x coordinate with the given lowest bit, of a point with coordinate `y`; none where there is no such point. -/
def edX (y odd : Nat) : Option Nat :=
  let u := fSub (y * y) 1
  let v := (edD * (y * y % p25519) + 1) % p25519
  let w := u * fInv v % p25519
  let x := fPow w ((p25519 + 3) / 8)
  let x := if x * x % p25519 = w then x else x * fPow 2 ((p25519 - 1) / 4) % p25519
  if p25519 ≤ y ∨ x * x % p25519 ≠ w ∨ (x = 0 ∧ odd = 1) then none
  else some (if x % 2 = odd then x else p25519 - x)

/-- A point from its 32 bytes, and its bytes. -/
def edDecode (n : Nat) : Option EdPoint :=
  let y := n % 2 ^ 255
  (edX y (n / 2 ^ 255 % 2)).map fun x => (x, y, 1, x * y % p25519)
def edEncode (p : EdPoint) : Nat :=
  let zi := fInv p.2.2.1
  p.2.1 * zi % p25519 + 2 ^ 255 * (p.1 * zi % p25519 % 2)

/-- The base point: y = 4/5, x even. -/
def edBase : EdPoint := (edDecode (4 * fInv 5 % p25519)).getD (0, 1, 1, 0)

/-- Ed25519: the public key and the 64-byte signature of a private key's 32 bytes. -/
def edPublic (priv : Nat) : Nat := edEncode (edMul edBase 256 (clampScalar (ofBytes ((sha2 true (leBytes 32 priv)).take 32))))
def edSign (priv : Nat) (m : Bytes) : Nat :=
  let h := sha2 true (leBytes 32 priv)
  let a := clampScalar (ofBytes (h.take 32))
  let r := ofBytes (sha2 true (h.drop 32 ++ m)) % edOrder
  let rb := edEncode (edMul edBase 256 r)
  let k := ofBytes (sha2 true (leBytes 32 rb ++ leBytes 32 (edPublic priv) ++ m)) % edOrder
  rb + 2 ^ 256 * ((r + k * a) % edOrder)

/-- Ed25519: the signature of 64 bytes verifies over the message under the public key. -/
def edVerify (key sig : Nat) (m : Bytes) : Bool :=
  let r := sig % 2 ^ 256
  let n := sig / 2 ^ 256
  match edDecode key, edDecode r with
  | some a, some rp =>
    let k := ofBytes (sha2 true (leBytes 32 r ++ leBytes 32 key ++ m)) % edOrder
    decide (n < edOrder) && edEq (edMul (edMul edBase 256 n) 4 8) (edMul (edAdd rp (edMul a 256 k)) 4 8)
  | _, _ => false

end Sys2Proof.Machine
end

