-- ==== Sys2Proof/Machine/Wire.lean ====
section
/-! DEFINITION. Frames as they stand on the wires: their bytes, words and check sums (R162, R199–R211), the envelope (R325, R438), and the
fields of the records and messages that arrive as bytes (chapters 12, 13, 16). -/

namespace Sys2Proof

open Sys2Proof.Machine

/-- Bytes 0x01 to 0x2F of a sync frame (Table 5.4). -/
def SyncFrame.body (f : SyncFrame) : Nat :=
  packBits [(3, f.srcPos), (1, b2n f.aligned), (1, b2n f.fault), (1, b2n f.snap), (1, b2n f.bp0Valid), (1, b2n f.bp1Valid),
            (8, f.seq), (4, f.hops), (4, f.rsv), (64, f.txFt), (64, f.echoFt), (32, f.echoDwell), (64, f.snapFt),
            (48, toU 48 f.bp0Pos), (16, f.bp0Age), (48, toU 48 f.bp1Pos), (16, f.bp1Age)]

/-- Its CRC-32C and its reserved field are right (R162). -/
def SyncFrame.ok (f : SyncFrame) : Bool := f.rsv == 0 && f.crc == crc32c (leBytes 47 f.body)

/-- The frame with its reserved field 0 and its CRC. -/
def SyncFrame.seal (f : SyncFrame) : SyncFrame :=
  let f := { f with rsv := 0 }
  { f with crc := crc32c (leBytes 47 f.body) }

/-- The 52 bytes of a sync frame: the K28.5 code group, the fields, the CRC. -/
def SyncFrame.bytes (f : SyncFrame) : Nat := packBits [(8, 0xBC), (376, f.body), (32, f.crc)]

namespace Machine

/-! ### Line coding (R199) -/

/-- A sync header is valid: 0b01 a data block, 0b10 a control block. -/
def syncValid (hdr : Nat) : Bool := hdr == 1 || hdr == 2

/-- Block lock is gained: the last 64 sync headers, oldest first, are valid. -/
def lockGained (hdrs : List Nat) : Bool :=
  decide (64 ≤ hdrs.length) && (hdrs.reverse.take 64).all syncValid

/-- Block lock is lost: 16 of the last 64 sync headers are invalid. -/
def lockLost (hdrs : List Nat) : Bool :=
  decide (16 ≤ ((hdrs.reverse.take 64).filter fun x => !syncValid x).length)

/-- `n` bits of a payload through the scrambler x^58 + x^39 + 1, bit 0 first: the register of the last 58 scrambled bits, newest at
bit 0, and what leaves. -/
def scrambleBits : Nat → Nat → Nat → Nat × Nat
  | 0, st, _ => (st, 0)
  | n + 1, st, w =>
    let b := (w % 2 + st / 2 ^ 38 % 2 + st / 2 ^ 57 % 2) % 2
    let r := scrambleBits n ((2 * st + b) % 2 ^ 58) (w / 2)
    (r.1, b + 2 * r.2)

/-- The same bits back. -/
def descrambleBits : Nat → Nat → Nat → Nat × Nat
  | 0, st, _ => (st, 0)
  | n + 1, st, w =>
    let b := (w % 2 + st / 2 ^ 38 % 2 + st / 2 ^ 57 % 2) % 2
    let r := descrambleBits n ((2 * st + w % 2) % 2 ^ 58) (w / 2)
    (r.1, b + 2 * r.2)

/-- Payload of a control block: its type, then its content. -/
def controlBlock (kind content : Nat) : Nat := packBits [(8, kind), (56, content)]

/-! ### Contents of control blocks (Table 7.2) -/

/-- One bit step of an 8-bit CRC register, most significant bit first. -/
def crc8Step (c : Nat) : Nat → Nat
  | 0 => c
  | k + 1 => crc8Step (if c.testBit 7 then ((c * 2) ^^^ 0x07) % 256 else (c * 2) % 256) k

/-- CRC-8 of Table 7.2 over the low `n` bits of `w`, taken as bytes. -/
def crc8 (n w : Nat) : Nat := (leBytes ((n + 7) / 8) (w % 2 ^ n)).foldl (fun c b => crc8Step (c ^^^ b) 8) 0

/-- MARKER: logical lane carried (3 none), MSEQ. -/
def markerContent (logical mseq : Nat) : Nat := packBits [(2, logical), (8, mseq)]

/-- TRAIN: STATE 1 SEEK, 2 LOCKED; HOPS. -/
def trainContent (state hops : Nat) : Nat := packBits [(4, state), (4, hops)]

/-- The two blocks of a supply word, as type and content. -/
def supplyPair (w : Nat) : List (Nat × Nat) :=
  [(0x4B, fld w 0 56), (0x4C, packBits [(8, fld w 56 8), (32, crc32c (leBytes 8 w))])]

/-- The two blocks of a TIME pair: TX_FT, TSEQ. -/
def timePair (tx tseq : Nat) : List (Nat × Nat) :=
  [(0x55, fld tx 0 56), (0x56, packBits [(8, fld tx 56 8), (8, tseq), (32, crc32c (leBytes 8 tx ++ [tseq % 256]))])]

/-- ECHO_REQ: node address, ESEQ. -/
def echoReqContent (node eseq : Nat) : Nat := packBits [(6, node), (8, eseq)]

/-- ECHO_RSP: node address, ESEQ, TURN, CRC-8. -/
def echoRspContent (node eseq turn : Nat) : Nat :=
  let w := packBits [(6, node), (8, eseq), (32, turn)]
  w + 2 ^ 46 * crc8 46 w

/-- Content of a CANCEL block: node address, row, line, handle, CRC-8. -/
def cancelContent (node row line handle : Nat) : Nat :=
  let w := packBits [(6, node), (2, row), (24, line), (16, handle)]
  w + 2 ^ 48 * crc8 48 w

/-! ### The code RS(528, 514) (R203)

Field and generator polynomials are those of IEEE 802.3 clause 91 (PRESUMED, notes/assumptions/20). -/

/-- A symbol of GF(2^10) times x, modulo x^10 + x^3 + 1. -/
def gfDouble (a : Nat) : Nat := if a < 512 then 2 * a else ((2 * a) % 1024) ^^^ 9

/-- Product of two symbols, over the low `n` bits of the second. -/
def gfMulGo : Nat → Nat → Nat → Nat
  | 0, _, _ => 0
  | n + 1, a, b => (if b % 2 = 1 then a else 0) ^^^ gfMulGo n (gfDouble a) (b / 2)
def gfMul (a b : Nat) : Nat := gfMulGo 10 a b

/-- Powers of the primitive element x. -/
def gfPow : Nat → Nat
  | 0 => 1
  | n + 1 => gfDouble (gfPow n)

/-- Product of x − α^j for j = 0 to 13: coefficients from the highest order down, the leading 1 left out. -/
def rsGenerator : List Nat :=
  ((List.range 14).foldl (fun p j => List.zipWith (· ^^^ ·) (p ++ [0]) (0 :: p.map (gfMul (gfPow j)))) [1]).drop 1

/-- The 14 parity symbols of a message, highest order first. -/
def rsParity (msg : List Nat) : List Nat :=
  let g := rsGenerator
  msg.foldl (fun r m =>
    let f := m ^^^ r.headD 0
    List.zipWith (· ^^^ ·) (r.drop 1 ++ [0]) (g.map (gfMul f))) (List.replicate 14 0)

/-- The information bits of an FEC block: FIRST_HDR and BSEQ, then its 80 words (Table 7.3, R203). -/
def fecInfo (words : List Nat) (first bseq : Nat) : Nat :=
  packBits ((7, first) :: (1, 0) :: (8, bseq) :: (4, 0) :: words.map fun w => (64, w))

/-- The symbols of a bit string, ten bits each, in order. -/
def symbolsOf (n bits : Nat) : List Nat := (List.range n).map fun i => fld bits (10 * i) 10

/-- The payloads of the 83 data blocks of an FEC block (Table 7.3). -/
def fecBlocks (words : List Nat) (first bseq : Nat) : List Nat :=
  let info := fecInfo words first bseq
  let par := packBits ((rsParity (symbolsOf 514 info)).map fun p => (10, p))
  words ++ [fld info 0 20 + 2 ^ 20 * fld par 0 44, fld par 44 64, fld par 108 32]

/-- The 528 symbols of a codeword from the payloads of its 83 data blocks. -/
def fecSymbols (blocks : List Nat) : List Nat :=
  let b80 := blocks.getD 80 0
  symbolsOf 514 (packBits ((20, fld b80 0 20) :: (blocks.take 80).map fun w => (64, w))) ++
    symbolsOf 14 (fld b80 20 44 + 2 ^ 44 * (blocks.getD 81 0) + 2 ^ 108 * fld (blocks.getD 82 0) 0 32)

/-- Inverse of a symbol: its power 1022, by squares. -/
def gfInv (a : Nat) : Nat :=
  ((List.range 9).foldl (fun (x : Nat × Nat) _ => let q := gfMul x.1 x.1; (q, gfMul x.2 q)) (a, 1)).2

/-- Value of a polynomial, coefficients from the lowest order up. -/
def gfEval (p : List Nat) (x : Nat) : Nat := p.foldr (fun c a => c ^^^ gfMul a x) 0

/-- Sum of two polynomials of any lengths. -/
def gfSum : List Nat → List Nat → List Nat
  | [], q => q
  | p, [] => p
  | a :: p, b :: q => (a ^^^ b) :: gfSum p q

/-- The 14 syndromes of a received codeword: its values at the roots α^0 to α^13 of the generator. -/
def rsSyndromes (c : List Nat) : List Nat := (List.range 14).map fun j => let r := gfPow j; c.foldl (fun a x => gfMul a r ^^^ x) 0

/-- Berlekamp–Massey over the syndromes: the error locator, the last one before a change of length, that length, the shift and the
discrepancy that belongs to it. -/
def rsLocator (syn : List Nat) : List Nat :=
  let step := fun (x : List Nat × List Nat × Nat × Nat × Nat) (n : Nat) =>
    let (lam, b, len, m, bd) := x
    let d := (List.range (len + 1)).foldl (fun a i => a ^^^ gfMul (lam.getD i 0) (if i ≤ n then syn.getD (n - i) 0 else 0)) 0
    if d = 0 then (lam, b, len, m + 1, bd)
    else
      let f := gfMul d (gfInv bd)
      let lam' := gfSum lam (List.replicate m 0 ++ b.map (gfMul f))
      if 2 * len ≤ n then (lam', lam, n + 1 - len, 1, d) else (lam', b, len, m + 1, bd)
  ((List.range 14).foldl step ([1], [1], 0, 1, 1)).1

/-- A codeword with the errors taken out that its syndromes locate: Chien's search over its 528 places, Forney's values. -/
def rsCorrect (c : List Nat) : List Nat :=
  let syn := rsSyndromes c
  if syn.all (· == 0) then c
  else
    let lam := rsLocator syn
    let omega := (List.range 14).map fun k =>
      (List.range (k + 1)).foldl (fun a i => a ^^^ gfMul (lam.getD i 0) (syn.getD (k - i) 0)) 0
    let deriv := (lam.zipIdx.drop 1).map fun x => if x.2 % 2 = 1 then x.1 else 0
    c.zipIdx.map fun x =>
      let loc := gfPow (527 - x.2)
      let inv := gfInv loc
      if gfEval lam inv = 0 then x.1 ^^^ gfMul loc (gfMul (gfEval omega inv) (gfInv (gfEval deriv inv))) else x.1

/-- A received FEC block as its receiver reads it: its 80 words, FIRST_HDR, whether symbols of it were corrected. -/
structure FecRead where
  words : List Nat
  first : Nat
  fixed : Bool
  deriving DecidableEq, Repr

/-- Decoding of a received FEC block (R204): the codeword that differs from it in at most 7 symbols, with header fields that meet Table
7.3. A received block for which there is none, or which was cut short, is lost. -/
def fecDecode (got : List Nat) : Option FecRead :=
  let r := fecSymbols got
  let c := rsCorrect r
  let n := (List.zipWith (fun a b => b2n (a != b)) r c).foldl (· + ·) 0
  let info := packBits ((c.take 514).map fun x => (10, x))
  let first := fld info 0 7
  if got.length = 83 ∧ rsParity (c.take 514) = c.drop 514 ∧ n ≤ 7 ∧ ¬ bitOf info 7 ∧ fld info 16 4 = 0 ∧
      fld (got.getD 82 0) 32 32 = 0 ∧ (first < 80 ∨ first = 127) then
    some { words := (List.range 80).map fun i => fld info (20 + 64 * i) 64, first, fixed := n != 0 }
  else none

/-! ### Frames (R205–R211) -/

/-- Header word of a frame (Table 7.4): type, address, BCAST, length in words, type fields. -/
def headerWord (type addr : Nat) (bcast : Bool) (len fields : Nat) : Nat :=
  packBits [(4, type), (6, addr), (1, b2n bcast), (1, 0), (11, len - 1), (1, 0), (40, fields)]

/-- Trailer word over the words before it (R205). -/
def trailerWord (ws : List Nat) : Nat := crc32c (ws.flatMap (leBytes 8))

/-- A frame from its words before the trailer. -/
def sealFrame (ws : List Nat) : List Nat := ws ++ [trailerWord ws]

/-- Words of a bit string. -/
def wordsOfNat (n bits : Nat) : List Nat := (List.range n).map fun i => fld bits (64 * i) 64

/-- Row energy block (Table 6.3): sixteen class factors, SAG. -/
def energyBlock (factors : List Nat) (sag : Int) : List (Nat × Nat) :=
  (List.range 16).map (fun k => (16, factors.getD k 0)) ++ [(16, toU 16 sag), (16, 0)]

/-- A LINE frame of a row of `q` nozzles (Table 7.6). -/
def lineFrame (node row : Nat) (void : Bool) (line fire : Nat) (segs : List Int) (factors : List Nat) (sag : Int)
    (handle q codes : Nat) : List Nat :=
  let n := ceilDiv (3 * q) 64
  let fields := packBits [(2, row), (1, b2n void), (13, 0), (24, line)]
  let body := packBits ((64, fire) :: (List.range 8).map (fun k => (24, toU 24 (segs.getD k 0))) ++ energyBlock factors sag ++
    [(16, handle), (16, 0)])
  sealFrame (headerWord 1 node false (11 + n) fields :: wordsOfNat 9 body ++ wordsOfNat n (codes % 2 ^ (3 * q)))

/-- A CONTROL frame (Table 7.8): ENUM is broadcast, for the node that it asks for has no address yet (DEDUCED,
notes/assumptions/16). -/
def controlFrame (node cseq op reg cnt : Nat) (data : List Nat) : List Nat :=
  let all := op == 3
  let fields := packBits [(8, cseq), (4, op), (6, cnt - 1), (8, 0), (14, 0)]
  sealFrame (headerWord 2 (if all then 0 else node) all (3 + data.length) fields :: packBits [(32, reg), (32, 0)] :: data)

/-- Words that arrive are a frame of a type (R205): header, length and trailer are right. -/
def frameOk (type : Nat) (ws : List Nat) : Bool :=
  let h := ws.getD 0 0
  fld h 0 4 == type && !bitOf h 10 && !bitOf h 11 && !bitOf h 23 && fld h 12 11 + 1 == ws.length && decide (3 ≤ ws.length) &&
  ws.getD (ws.length - 1) 0 == trailerWord (ws.take (ws.length - 1))

end Machine

/-! ### Frames that arrive (Tables 7.7, 7.8, R234) -/

def FireRep.addr (r : FireRep) : Nat := fld (r.words.getD 0 0) 4 6
def FireRep.row (r : FireRep) : Nat := fld (r.words.getD 0 0) 24 2
def FireRep.void (r : FireRep) : Bool := bitOf (r.words.getD 0 0) 26
def FireRep.line (r : FireRep) : Nat := fld (r.words.getD 0 0) 40 24
def FireRep.handle (r : FireRep) : Nat := fld (r.words.getD 1 0) 0 16
def FireRep.result (r : FireRep) : Nat := fld (r.words.getD 1 0) 16 3
def FireRep.fireFt (r : FireRep) : Nat := r.words.getD 2 0
/-- Its checks pass: type, length, CRC, reserved fields and RESULT (R205, R206, R17). -/
def FireRep.ok (r : FireRep) : Bool :=
  frameOk 4 r.words && r.words.length == 4 && fld (r.words.getD 0 0) 27 13 == 0 && fld (r.words.getD 1 0) 19 45 == 0 &&
  r.result != 7
/-- The frame that a head end sends. -/
def FireRep.make (addr row : Nat) (void : Bool) (line handle result fireFt : Nat) : FireRep :=
  { words := sealFrame [headerWord 4 addr false 4 (packBits [(2, row), (1, b2n void), (13, 0), (24, line)]),
      packBits [(16, handle), (3, result)], fireFt] }

def StatusRep.addr (r : StatusRep) : Nat := fld (r.words.getD 0 0) 4 6
def StatusRep.sseq (r : StatusRep) : Nat := fld (r.words.getD 0 0) 24 8
def StatusRep.temp (r : StatusRep) : Int := sx 16 (fld (r.words.getD 1 0) 0 16)
def StatusRep.timeErr (r : StatusRep) : Int := sx 16 (fld (r.words.getD 1 0) 16 16)
def StatusRep.lanes (r : StatusRep) : Nat := fld (r.words.getD 1 0) 32 5
def StatusRep.timeOk (r : StatusRep) : Bool := bitOf (r.words.getD 1 0) 49
def StatusRep.side (r : StatusRep) : Nat := fld (r.words.getD 1 0) 50 1
def StatusRep.sensorFault (r : StatusRep) : Bool := bitOf (r.words.getD 2 0) 16
def StatusRep.tripped (r : StatusRep) : Bool := bitOf (r.words.getD 2 0) 17
/-- Words 0x08 and 0x10 as one number (0x3800 + 0x10·l + a .07). -/
def StatusRep.body (r : StatusRep) : Nat := packBits [(64, r.words.getD 1 0), (64, r.words.getD 2 0)]
def StatusRep.ok (r : StatusRep) : Bool :=
  frameOk 5 r.words && r.words.length == 4 && fld (r.words.getD 0 0) 32 32 == 0 && fld (r.words.getD 1 0) 37 3 == 0 &&
  fld (r.words.getD 1 0) 51 13 == 0 && fld (r.words.getD 2 0) 20 44 == 0
/-- A STATUS frame: LANES, TIME_OK, SIDE, sensor fault and trip beside temperature and time error. -/
def StatusRep.make (addr sseq : Nat) (temp timeErr : Int) (lanes : Nat) (timeOk : Bool) (side : Nat) (sensorFault tripped : Bool) :
    StatusRep :=
  { words := sealFrame [headerWord 5 addr false 4 (packBits [(8, sseq)]),
      packBits [(16, toU 16 temp), (16, toU 16 timeErr), (5, lanes), (3, 0), (8, 0), (1, 0), (1, b2n timeOk), (1, side)],
      packBits [(16, 0x8000), (1, b2n sensorFault), (1, b2n tripped)]], rx := [] }

def LossRep.addr (r : LossRep) : Nat := fld (r.words.getD 0 0) 4 6
def LossRep.bseq (r : LossRep) : Nat := fld (r.words.getD 1 0) 0 8
def LossRep.logical (r : LossRep) : Nat := fld (r.words.getD 1 0) 8 2
def LossRep.ok (r : LossRep) : Bool :=
  frameOk 6 r.words && r.words.length == 3 && fld (r.words.getD 0 0) 24 40 == 0 && fld (r.words.getD 1 0) 11 53 == 0
def LossRep.make (addr bseq logical : Nat) (crc : Bool) : LossRep :=
  { words := sealFrame [headerWord 6 addr false 3 0, packBits [(8, bseq), (2, logical), (1, b2n crc)]] }

def CtlResp.addr (r : CtlResp) : Nat := fld (r.words.getD 0 0) 4 6
def CtlResp.cseq (r : CtlResp) : Nat := fld (r.words.getD 0 0) 24 8
def CtlResp.op (r : CtlResp) : Nat := fld (r.words.getD 0 0) 32 4
def CtlResp.status (r : CtlResp) : Nat := fld (r.words.getD 0 0) 42 8
def CtlResp.reg (r : CtlResp) : Nat := fld (r.words.getD 1 0) 0 32
def CtlResp.data (r : CtlResp) : List Nat := (r.words.take (r.words.length - 1)).drop 2
/-- Reserved fields in the data of a response are 0 (R17): those of the identity in one to ENUM (Table 7.10), and those of TRIM_CRC
(Table 8.1). -/
def CtlResp.dataOk (r : CtlResp) : Bool :=
  if r.op = 3 then fld (r.data.getD 2 0) 16 48 == 0 && r.data.getD 3 0 == 0
  else if r.op = 1 ∧ r.reg = 0x20001000 then fld (r.data.getD 0 0) 32 32 == 0
  else true

/-- A response to READ or ENUM with STATUS 0 carries COUNT_M1 + 1 words, any other none. -/
def CtlResp.ok (r : CtlResp) : Bool :=
  frameOk 3 r.words && fld (r.words.getD 0 0) 50 14 == 0 && fld (r.words.getD 1 0) 32 32 == 0 && r.dataOk &&
  r.data.length == (if (r.op = 1 ∨ r.op = 3) ∧ r.status = 0 then fld (r.words.getD 0 0) 36 6 + 1 else 0)
def CtlResp.make (addr cseq op cnt status reg : Nat) (data : List Nat) : CtlResp :=
  { words := sealFrame (headerWord 3 addr false (3 + data.length)
      (packBits [(8, cseq), (4, op), (6, cnt - 1), (8, status), (14, 0)]) :: packBits [(32, reg), (32, 0)] :: data) }

def Echo.turn (e : Echo) : Nat := fld e.content 14 32
/-- An ECHO_RSP block of a node to a request: address, ESEQ, CRC-8 and reserved field are right (R200, R216). -/
def Echo.ok (e : Echo) (node eseq : Nat) : Bool :=
  fld e.content 0 6 == node && fld e.content 6 8 == eseq % 256 && fld e.content 46 8 == crc8 46 e.content && fld e.content 54 2 == 0

/-! ### Envelopes and the messages of chapters 12, 13 and 16 -/

/-- The body of a request meets Table 13.4 and R17. -/
def Kop.wf (k : Kop) : Bool :=
  k.rsv == 0 && 1 ≤ k.op && k.op ≤ 8 && (k.index != 0 || k.sub == 0) &&
  (k.op == 1 || k.op == 2 || k.op == 4 || k.op == 5 || (k.index == 0 && k.off == 0 && (k.op == 6 || k.len == 0)))

/-- The operation and the object of a request (Table 13.4). -/
def Kop.names (k : Kop) (op i sub : Nat) : Bool := k.op == op && k.index == i && k.sub == sub

/-- The datagram with its body marked as malformed unless `ok`. -/
def Dgram.only (d : Dgram) (ok : Bool) : Dgram := if ok then d else { d with rsv := 1 }

/-- A datagram is one of a command's KIND; one of another known KIND is no such message and is taken as malformed. -/
def Dgram.of (d : Dgram) (kind : Nat) : Dgram := d.only (d.kind == kind)

/-- HELLO (Table 12.5). -/
def HelloMsg.body (m : HelloMsg) : Nat := ofBytes m.bytes
def HelloMsg.certLen (m : HelloMsg) : Nat := fld m.body 0 16
def HelloMsg.roles (m : HelloMsg) : Nat := fld m.body 16 5
def HelloMsg.leaseMs (m : HelloMsg) : Nat := fld m.body 32 32
def HelloMsg.window (m : HelloMsg) : Nat := fld m.body 64 16
def HelloMsg.hostEph (m : HelloMsg) : Nat := byteSlice m.body 0x0C 32
def HelloMsg.hostNonce (m : HelloMsg) : Nat := byteSlice m.body 0x2C 16
def HelloMsg.rsv (m : HelloMsg) : Nat := packBits [(11, fld m.body 21 11), (16, fld m.body 80 16)]

/-- The certificate in a HELLO (Table 16.8). -/
def HelloMsg.cert (m : HelloMsg) : Nat := byteSlice m.body 0x3C 160
def certVersion (c : Nat) : Nat := fld c 0 8
def certIssuer (c : Nat) : Nat := fld c 8 1
def certRoles (c : Nat) : Nat := fld c 16 5
def certEpoch (c : Nat) : Nat := fld c 32 16
def certHostId (c : Nat) : Nat := fld c 64 64
def certSerial (c : Nat) : Nat := fld c 128 64
def certNotBefore (c : Nat) : Nat := fld c 192 48
def certNotAfter (c : Nat) : Nat := fld c 256 48
def certHostKey (c : Nat) : Nat := byteSlice c 0x40 32
def certSig (c : Nat) : Nat := byteSlice c 0x60 64
def certRsv (c : Nat) : Nat :=
  packBits [(7, fld c 9 7), (11, fld c 21 11), (16, fld c 48 16), (16, fld c 240 16), (16, fld c 304 16), (192, fld c 320 192)]

/-- The certificate meets Table 16.8. -/
def certForm (c : Nat) : Bool :=
  certVersion c == 1 && certRsv c == 0 && certHostId c != 0 && !(certIssuer c == 1 && certSerial c == 0)

/-- What of a record its signature in the last 64 bytes covers: the bytes before them. -/
def recordSigned (n body : Nat) : Bytes := leBytes (n - 64) body
def recordSig (n body : Nat) : Nat := byteSlice body (n - 64) 64

/-- Life-cycle request (Table 16.2). -/
def LcReq.from_ (r : LcReq) : Nat := fld r.body 8 8
def LcReq.to_ (r : LcReq) : Nat := fld r.body 16 8
def LcReq.toggles (r : LcReq) : Nat := fld r.body 32 8
def LcReq.serial (r : LcReq) : Nat := fld r.body 64 64
def LcReq.wf (r : LcReq) : Bool :=
  fld r.body 0 8 == 1 && fld r.body 24 8 == 0 && fld r.body 40 24 == 0 && byteSlice r.body 0x10 0xB0 == 0 && decide (r.toggles ≤ 64)

/-- Owner key record (Table 16.5). -/
def OwnerRec.hasClearance (r : OwnerRec) : Bool := bitOf r.body 8
def OwnerRec.minEpoch (r : OwnerRec) : Nat := fld r.body 16 16
def OwnerRec.recordSeq (r : OwnerRec) : Nat := fld r.body 32 32
def OwnerRec.serial (r : OwnerRec) : Nat := fld r.body 64 64
def OwnerRec.ownerKey (r : OwnerRec) : Nat := byteSlice r.body 0x10 32
def OwnerRec.clearanceKey (r : OwnerRec) : Nat := byteSlice r.body 0x30 32
def OwnerRec.wf (r : OwnerRec) : Bool :=
  fld r.body 0 8 == 1 && fld r.body 9 7 == 0 && r.recordSeq != 0 && byteSlice r.body 0x50 0x70 == 0 &&
  (r.hasClearance || r.clearanceKey == 0)

/-- Head-maker list load (Table 16.6). -/
def ListLoad.op (r : ListLoad) : Nat := fld r.body 8 8
def ListLoad.count (r : ListLoad) : Nat := fld r.body 16 8
def ListLoad.listSeq (r : ListLoad) : Nat := fld r.body 32 32
def ListLoad.serial (r : ListLoad) : Nat := fld r.body 64 64
def ListLoad.entries (r : ListLoad) : List MakerKey :=
  (List.range r.count).map fun e =>
    let w := byteSlice r.body (0x10 + 36 * e) 36
    { maker := fld w 0 16, keyId := fld w 16 16, key := fld w 32 256 }
def ListLoad.wf (r : ListLoad) (op : Nat) : Bool :=
  fld r.body 0 8 == 1 && r.op == op && decide (r.count ≤ 26) && (r.count != 0 || op == 1) && fld r.body 24 8 == 0 &&
  byteSlice r.body (0x10 + 36 * r.count) (0x3B0 - 36 * r.count) == 0 && (op != 3 || r.entries.all fun e => e.key == 0)

/-- Clearance token (Table 16.10). -/
def ClearTok.clearCount (k : ClearTok) : Nat := fld k.body 32 32
def ClearTok.serial (k : ClearTok) : Nat := fld k.body 64 64
def ClearTok.hostId (k : ClearTok) : Nat := fld k.body 128 64
def ClearTok.notAfter (k : ClearTok) : Nat := fld k.body 192 48
def ClearTok.wf (k : ClearTok) : Bool :=
  fld k.body 0 8 == 1 && fld k.body 8 8 == 1 && fld k.body 16 16 == 0 && fld k.body 240 16 == 0 && byteSlice k.body 0x20 0xA0 == 0

/-- ACK (Table 12.7): CUM, CREDIT, and the numbers that SACK names. -/
def AckMsg.cum (m : AckMsg) : Nat := fld m.body 0 27
def AckMsg.credit (m : AckMsg) : Nat := fld m.body 32 16
def AckMsg.sack (m : AckMsg) : List Nat := (bitsSet 64 (fld m.body 64 64)).map fun i => m.cum + 1 + i
def AckMsg.ok (m : AckMsg) : Bool := fld m.body 27 5 == 0 && fld m.body 48 16 == 0

namespace Machine

/-- Header of an envelope (Table 12.2). -/
def envelope (kind len sid seq : Nat) : Nat := packBits [(8, 1), (8, kind), (16, len), (32, sid), (64, seq)]

/-- The 32-bit transfer handle of message `n` of session index `i` (R334). -/
def transferHandle (i n : Nat) : Nat := packBits [(5, i), (11, n % 2048), (16, n / 2048 % 65536)]

/-- An envelope as bytes, with a tag of `tag` bytes: kinds 0x01–0x04 are sent as they are, the others enciphered under the key of the
direction, with SESSION_ID and SEQ as the nonce and the header as additional data (R325, R364, R438). -/
def envelopeWire (kind len sid seq key body tag : Nat) : Bytes :=
  let head := leBytes 16 (envelope kind len sid seq)
  let text := leBytes len body
  if kind ≤ 4 then head ++ text
  else
    let nonce := leBytes 4 sid ++ leBytes 8 seq
    let cipher := gcmCipher (leBytes 32 key) nonce text
    head ++ cipher ++ (gcmTag (leBytes 32 key) nonce head cipher).take tag

/-- The KINDs that a host sends in a session (Table 12.3); those that a field network carries (R364). -/
def hostKind (port kind : Nat) : Bool :=
  kind == 6 || kind == 7 || kind == 0x30 ||
  (decide (port < 4) && ((0x10 ≤ kind && kind ≤ 0x14) || kind == 0x18 || kind == 0x1A))

/-- Session key of a direction (R438): from the shared secret, the nonces and the SESSION_ID. -/
def sessionKey (shared hostNonce devNonce sid : Nat) (toHost : Bool) : Nat :=
  let info := (if toHost then "KUICA c2h" else "KUICA h2c").toList.map Char.toNat
  ofBytes (hkdf (leBytes 16 hostNonce ++ leBytes 16 devNonce) (leBytes 32 shared) (info ++ leBytes 4 sid))

end Machine

/-- The tag of an encrypted datagram verifies under a key (R326, R438): 16 bytes on a host port, 8 on a field network (R364). -/
def Dgram.tagVerifies (d : Dgram) (key : Nat) : Bool :=
  let head := Machine.leBytes 16 (Machine.packBits [(8, d.ver), (8, d.kind), (16, d.len), (32, d.sid), (64, d.seq)])
  d.tag == (Machine.gcmTag (Machine.leBytes 32 key) (Machine.leBytes 4 d.sid ++ Machine.leBytes 8 d.seq) head d.cipher).take (if d.port < 4 then 16 else 8)

/-- The envelope of a message outside any session is in form (Table 12.2): no tag, SESSION_ID and SEQ 0, LENGTH the bytes of the body. -/
def Sender.form (x : Sender) (kind len mtu : Nat) : Bool :=
  x.ver == 1 && x.kind == kind && x.len == len && x.sid == 0 && x.seq == 0 &&
  (4 ≤ x.path.port || (x.bytes == 16 + len && decide (len + 80 ≤ mtu)))

end Sys2Proof
end

