-- ==== Sys2Proof/Machine/Lanes.lean ====
section
/-! DEFINITION. The lanes of the link ports: what leaves on them block by block, as lane groups of FEC blocks with timed blocks between
them, and what a port reads of the FEC blocks that arrive (R199–R205, R219, R225). -/

namespace Sys2Proof.Machine

/-- The link is the primary of a dual-homed pair (R198). -/
def State.isDual (s : State) (l : Fin 16) : Bool := l.val % 2 == 0 && s.lc l 0x04 == 1

/-- The link whose number enumerates the nodes of the chain on which a port lies (R198). -/
def State.chainOf (s : State) (l : Fin 16) : Fin 16 :=
  let p : Fin 16 := Fin.ofNat 16 (l.val - 1)
  if l.val % 2 = 1 ∧ s.isDual p then p else l

/-- Physical lane (0 D0, 1 D1, 2 DS) that carries a logical lane. -/
def Port.physical (p : Port) (logical : Nat) : Nat := fld p.laneMap (2 * logical) 2

/-- The physical lane that carries no logical lane. -/
def Port.freePhys (p : Port) : Nat := 3 - p.physical 0 - p.physical 1

/-! ### The line code (R199) -/

/-- A block of 66 bits as it leaves on a lane: the sync header, and the scrambled payload above it. -/
def codeBlock (reg : Nat) (b : Nat × Nat) : Nat × Nat :=
  let r := scrambleBits 64 reg b.2
  (r.1, b.1 + 4 * r.2)

/-- Blocks, given as sync header and payload, through the scrambler of a lane. -/
def codeBlocks (reg : Nat) (bs : List (Nat × Nat)) : Nat × List Nat :=
  bs.foldl (fun a b => let r := codeBlock a.1 b; (r.1, a.2 ++ [r.2])) (reg, [])

/-- Sync header and payload of the blocks that an output is: 0b10 a control block, 0b01 a data block. -/
def Out.blocks : Out → List (Nat × Nat)
  | .block _ _ kind content => [(2, controlBlock kind content)]
  | .fec _ _ bs => bs.map fun w => (1, w)
  | _ => []

/-- Blocks leave on a physical lane of a port, through the scrambler of the lane. -/
def State.send (s : State) (l : Fin 16) (lane : Nat) (os : List Out) : State :=
  if os.isEmpty then s
  else
    let i : Fin 3 := Fin.ofNat 3 lane
    let r := codeBlocks s.ports[l].scr[i] (os.flatMap Out.blocks)
    (s.updPort l fun p => { p with scr := vupd p.scr i fun _ => r.1 }).emitAll (os ++ [.coded l.val lane r.2])

/-! ### Lane groups and FEC blocks (R202, R204, R219) -/

/-- A lane of a port sends 80 words in each FEC block; a word lasts 6.84 ns on its lane, 3.42 ns of port time (FEC blocks). -/
def wordsFt (n : Nat) : Nat := ceilDiv (n * 684) 80
def ftWords (t : Nat) : Nat := t * 80 / 684

/-- One word on a lane, a header or not: with the 80th the FEC block is complete, and its payloads are given. -/
def LaneTx.word (x : LaneTx) (hdr : Bool) (w : Nat) : LaneTx × List (Nat × List Nat) :=
  let first := if hdr ∧ x.first = 127 then x.words.length else x.first
  let ws := x.words ++ [w]
  if ws.length < 80 then ({ x with words := ws, first }, [])
  else ({ x with bseq := x.bseq + 1, words := [], first := 127 }, [(x.bseq, fecBlocks ws first (x.bseq % 256))])

/-- The words of a frame on a lane: its first word is a header. -/
def LaneTx.put (x : LaneTx) (ws : List Nat) : LaneTx × List (Nat × List Nat) :=
  match ws with
  | [] => (x, [])
  | w :: rest => rest.foldl (fun a v => let r := a.1.word false v; (r.1, a.2 ++ r.2)) (x.word true w)

/-- The FEC block of idle words alone that has a sequence. -/
def idleBlock (b : Nat) : Nat × List Nat := (b, fecBlocks (List.replicate 80 0) 0 (b % 256))

/-- `n` idle words on a lane: they complete the block under way, fill blocks of their own and begin the next one. -/
def LaneTx.idles (x : LaneTx) (n : Nat) : LaneTx × List (Nat × List Nat) :=
  let first := if x.first = 127 then x.words.length else x.first
  let room := 80 - x.words.length
  if n = 0 then (x, [])
  else if n < room then ({ x with words := x.words ++ List.replicate n 0, first }, [])
  else
    let k := (n - room) / 80
    let rest := (n - room) % 80
    ({ x with bseq := x.bseq + 1 + k, words := List.replicate rest 0, first := if rest = 0 then 127 else 0 },
     (x.bseq, fecBlocks (x.words ++ List.replicate room 0) first (x.bseq % 256)) ::
       (List.range k).map fun i => idleBlock (x.bseq + 1 + i))

/-- A lane as it stands at a tick: idle words have filled it since it was free (R205). -/
def LaneTx.idle (x : LaneTx) (now : Nat) : LaneTx × List (Nat × List Nat) :=
  let r := x.idles (ftWords (now - x.free))
  ({ r.1 with free := max r.1.free now }, r.2)

/-- The FEC block under way is filled with idle words (R225). -/
def LaneTx.fill (x : LaneTx) : LaneTx × List (Nat × List Nat) := if x.words.isEmpty then (x, []) else x.idles (80 - x.words.length)

/-- MSEQ of the MARKER of the group that begins with block `b`. -/
def LaneTx.mseqAt (x : LaneTx) (b : Nat) : Nat := x.mseq + (b - x.mark) / 16

/-- A lane group begins at the next block, whose MARKER leaves at once (R202, R225): it takes the next MSEQ. -/
def LaneTx.newGroup (x : LaneTx) : LaneTx :=
  { x with mark := x.bseq, mseq := x.mseq + ceilDiv (x.bseq - x.mark) 16, opened := some x.bseq }

/-- The MARKER of the group that begins with block `b` on a physical lane. -/
def LaneTx.marker (x : LaneTx) (l : Fin 16) (phys logical b : Nat) : Out :=
  .block l.val phys 0x2D (markerContent logical (x.mseqAt b))

/-- What leaves on a physical lane for complete blocks: each group of 16 opens with its MARKER. -/
def LaneTx.outs (x : LaneTx) (l : Fin 16) (phys logical : Nat) (bs : List (Nat × List Nat)) : List Out :=
  bs.flatMap fun b =>
    (if (b.1 - x.mark) % 16 = 0 ∧ x.opened ≠ some b.1 then [x.marker l phys logical b.1] else []) ++ [Out.fec l.val phys b.2]

/-- The sequence of the FEC block that holds the last word on a lane. -/
def LaneTx.last (x : LaneTx) : Nat := if x.words.isEmpty then x.bseq - 1 else x.bseq

/-- The driver of a physical lane is held at common mode (step 2 of Table 11.3), from the tick on which the logical lane has left it. -/
def State.laneHeld (s : State) (l : Fin 16) (phys : Nat) : Bool :=
  s.lanes[l].run == phys + 1 && (s.lanes[l].step == 2 || s.lanes[l].step == 1 && s.ports[l].freePhys == phys)

/-- A lane on which nothing leaves until now. -/
def LaneTx.hush (x : LaneTx) (now : Nat) : LaneTx := { x with words := [], first := 127, free := max x.free now }

/-- Idle words have filled a logical lane up to now: what they complete leaves. -/
def State.idleLane (s : State) (l : Fin 16) (i : Fin 2) : State :=
  let p := s.ports[l]
  let now := s.ft
  if s.laneHeld l (p.physical i.val) then s.updPort l fun p => { p with tx := vupd p.tx i fun x => x.hush now }
  else
    let r := p.tx[i].idle now
    (s.updPort l fun p => { p with tx := vupd p.tx i fun _ => r.1 }).send l (p.physical i.val) (r.1.outs l (p.physical i.val) i.val r.2)

/-- The free physical lane sends nothing: it is held at common mode, or it is DS of a secondary, which is not connected (Table 7.12). -/
def State.freeSilent (s : State) (l : Fin 16) : Bool := s.chainOf l != l || s.laneHeld l s.ports[l].freePhys

/-- The free physical lane sends lane groups of idle words, their MARKERs naming no logical lane; their FEC blocks count a sequence of
their own (DEDUCED, notes/assumptions/16). -/
def State.idleFree (s : State) (l : Fin 16) : State :=
  let p := s.ports[l]
  let now := s.ft
  if s.freeSilent l then s.updPort l fun p => { p with spare := p.spare.hush now }
  else
    let r := p.spare.idle now
    (s.updPort l fun p => { p with spare := r.1 }).send l p.freePhys (r.1.outs l p.freePhys 3 r.2)

/-- The lanes of a port in FEC mode as they stand now. -/
def State.idleLanes (s : State) (l : Fin 16) : State :=
  if s.ports[l].fec then ((s.idleLane l 0).idleLane l 1).idleFree l else s

/-- A lane group of no logical lane opens on the free physical lane. -/
def State.openFree (s : State) (l : Fin 16) : State :=
  if s.freeSilent l then s
  else
    let p := s.ports[l]
    let now := s.ft
    let y := (p.spare.hush now).newGroup
    (s.updPort l fun p => { p with spare := y }).send l p.freePhys [y.marker l p.freePhys 3 y.bseq]

/-- Lanes that carry timed blocks: those of the logical lanes (R225), and a lane that sends again under its calibration
(Table 11.3). -/
def State.timedLanes (s : State) (l : Fin 16) : List Nat :=
  let p := s.ports[l]
  let x := s.lanes[l]
  [p.physical 0, p.physical 1] ++ if 1 ≤ x.run ∧ x.run ≤ 3 ∧ 3 ≤ x.step ∧ x.step ≤ 4 then
    [x.run - 1].filter fun i => i != p.physical 0 && i != p.physical 1 else []

/-- Send timed blocks, given as type and content, back to back on every lane that carries them; what the lanes have sent up to now comes
before them. -/
def State.timed (s : State) (l : Fin 16) (bs : List (Nat × Nat)) : State :=
  let s := s.idleLanes l
  (s.timedLanes l).foldl (fun s i => s.send l i (bs.map fun b => Out.block l.val i b.1 b.2)) s

/-! ### FEC blocks that arrive (R204, R205, R209) -/

/-- Words of a frame still to come on the upstream lane, and whether its parsing waits for the next FIRST_HDR, after the words of one
block from the `i`-th on; with the number of malformed words met. -/
def parseWords : List Nat → Nat × Bool → Nat × Bool × Nat
  | [], (left, wait) => (left, wait, 0)
  | w :: ws, (left, wait) =>
    if wait then (0, true, 0)
    else if 0 < left then parseWords ws (left - 1, false)
    else if w % 16 ≠ 0 then parseWords ws (fld w 12 11, false)
    else if w = 0 then parseWords ws (0, false)
    else (0, true, 1)

/-- What the port's receiver takes of one FEC block, given as its copies on U0 and US: the copy that decodes, or a lost block, with
which the frame in progress is lost (R204, R209). A malformed word is discarded and counted (R205). -/
def Port.takeFec (p : Port) (b : List Nat × List Nat) : Port :=
  match (fecDecode b.1).orElse fun _ => fecDecode b.2 with
  | none => { p with blocksLost := p.blocksLost + 1, rxLeft := 0, rxWait := true }
  | some d =>
    let p := if d.fixed then { p with corrected := p.corrected + 1 } else p
    let r := if p.rxWait then (if d.first = 127 then (0, true, 0) else parseWords (d.words.drop d.first) (0, false))
      else parseWords d.words (p.rxLeft, false)
    { p with rxLeft := r.1, rxWait := r.2.1, discards := p.discards + r.2.2 }

end Sys2Proof.Machine
end

