-- ==== Sys2Proof/Machine/Operands.lean ====
section
/-! DEFINITION. The operand forms of the commands: datagrams of a session (R326, R332), sequenced messages (R335), requests
to objects (R349–R361) with the checks of roles, life cycle and ownership, item descriptors (Tables 2.1, 2.2), and
what the block sends back. -/

namespace Sys2Proof.Machine

/-! ### Abort codes (Table 13.9) -/

def abMalformed : Nat := 0x00010001
def abLength : Nat := 0x00010002
def abBusy : Nat := 0x00010003
def abNoObject : Nat := 0x00020001
def abNoSub : Nat := 0x00020002
def abOffset : Nat := 0x00020003
def abReadOnly : Nat := 0x00030001
def abWriteOnly : Nat := 0x00030002
def abRole : Nat := 0x00030003
def abNotOwner : Nat := 0x00030004
def abLifeCycle : Nat := 0x00030005
def abAuth : Nat := 0x00030006
def abTxRequired : Nat := 0x00030007
def abNotStageable : Nat := 0x00030008
def abRange : Nat := 0x00040001
def abConfig : Nat := 0x00040002
def abResource : Nat := 0x00040003
def abWork : Nat := 0x00050001
def abStale : Nat := 0x00050002
def abFinal : Nat := 0x00050003
def abMoving : Nat := 0x00050004
def abLimit : Nat := 0x00050005
def abNotRef : Nat := 0x00050006
def abTxUnknown : Nat := 0x00060001
def abTxFull : Nat := 0x00060002
def abTxLarge : Nat := 0x00060003
def abTxState : Nat := 0x00060004
def abConflict : Nat := 0x00060005
def abTimeout : Nat := 0x00060006
def abExpired : Nat := 0x00060007
def abSessEnded : Nat := 0x00060008
def abAborted : Nat := 0x00060009
def abStoreFailed : Nat := 0x00070001

/-! ### Sessions -/

/-- SESSION_ID of a slot: [4:0] index, [31:5] generation (Table 12.2). -/
def State.sid (s : State) (i : Fin 32) : Nat := i.val + 32 * s.sessions[i].gen

/-- The open session that a SESSION_ID names. -/
def State.sess? (s : State) (sid : Nat) : Option (Fin 32) :=
  let i : Fin 32 := Fin.ofNat 32 sid
  if s.sessions[i].isOpen && s.sid i == sid then some i else none

/-- A host port whose link is up, or a field network whose bus runs. -/
def State.pathUp (s : State) (port : Nat) : Bool :=
  if h : port < 4 then s.hports[(⟨port, h⟩ : Fin 4)].link == 1
  else if h : port - 4 < 2 then (s.cans[(⟨port - 4, h⟩ : Fin 2)].bus == 1 || s.cans[(⟨port - 4, h⟩ : Fin 2)].bus == 2)
  else false

/-- A wake trigger (R470): a domain that is OFF or in RETENTION begins to wake. -/
def State.wake (s : State) (d : Fin 11) : State :=
  let now := s.ft
  if s.domains[d].state < 2 then
    { s with domains := vupd s.domains d fun x => { state := 3, wakes := x.wakes + 1, wakeAt := now, wakeFrom := x.state } }
  else s

/-- Change a host port. -/
def State.updHport (s : State) (p : Fin 4) (f : HPort → HPort) : State := { s with hports := vupd s.hports p f }

/-- RS-FEC runs on a host port: by object, and at 25 Gb/s alone (Table 12.1). -/
def State.fecOn (s : State) (p : Fin 4) : Bool := s.oget (0x1F40 + p.val) 0x02 == 0 && s.oget (0x1F40 + p.val) 0x03 == 1

/-- Value of an object that the manual leaves to the part. -/
def factory (i sub : Nat) : Nat := Config.factory (objKey i sub)

/-- The link-local address of a port, which is always active (Table 12.10), from its MAC address by RFC 4291 (PRESUMED,
notes/assumptions/20), as its 16 bytes little-endian. -/
def linkLocal (p : Nat) : Nat :=
  let m := factory (0x1F40 + p) 0x05
  packBits [(16, 0x80FE), (48, 0), (8, fld m 0 8 ^^^ 2), (16, fld m 8 16), (16, 0xFEFF), (24, fld m 24 24)]

/-- An address is the port's own (Table 12.10); IPv4 is off with address 0. -/
def State.ownIp (s : State) (p : Nat) (e : Eth) : Bool :=
  if e.ip = 4 then e.dst == s.oget (0x1F40 + p) 0x06 && e.dst != 0
  else e.ip == 6 && (e.dst == linkLocal p || (e.dst == s.oget (0x1F40 + p) 0x09 && e.dst != 0))

/-- What a host port reads no further (Table 12.1): a frame outside 64–9,216 bytes, PAUSE, a fragment. -/
def ethIgnored (e : Eth) : Bool := !(64 ≤ e.bytes && e.bytes ≤ 9216) || e.body == .pause || e.body == .fragment

/-- FCS, VLAN ID, of one tag at most, and destination are right (R322); PTP may come to its group. -/
def State.ethForUs (s : State) (p : Nat) (ptp : Bool) (e : Eth) : Bool :=
  e.fcsOk && e.tags ≤ 1 && e.vid == s.oget (0x1F40 + p) 0x0C && e.own && (e.body == .ptp || ptp || s.ownIp p e)

/-- A frame that a host port handles as a message (R322): PTP comes by its own UDP ports, or without UDP. -/
def State.ethOk (s : State) (p : Nat) (ptp : Bool) (e : Eth) : Bool :=
  !ethIgnored e && s.ethForUs p ptp e &&
  match e.body with
  | .udp n => if ptp then n == 319 || n == 320 else n == s.oget 0x1F00 0x04
  | .ptp => ptp
  | _ => false

/-- Hosts reach the block no more: K0 or K1 is halted (R407). -/
def State.unreachable (s : State) : Bool := s.engines[(0 : Fin 8)].halted || s.engines[(1 : Fin 8)].halted

/-- While PD-NET is in RETENTION, or wakes from it, each port has a receive buffer of 64 KiB (R471). -/
def State.netBuffers (s : State) : Bool :=
  s.domains[(0 : Fin 11)].state == 1 || (s.domains[(0 : Fin 11)].state == 3 && s.domains[(0 : Fin 11)].wakeFrom == 1)

/-- An echo request is answered, at most 100 times in a second; an ARP request or a neighbour solicitation for an own address is answered
(Table 12.1). -/
def State.answerFrame (s : State) (p : Fin 4) (e : Eth) : State :=
  let now := s.ft
  let recent := s.hports[p].echoes.filter fun t => now < t + secFt 1
  if e.body = .echo ∧ recent.length < 100 then
    (s.updHport p fun x => { x with echoes := recent ++ [now], tx := x.tx + 1 }).emit (.reply p.val 1 e.ip)
  else if e.body = .resolve then (s.updHport p fun x => { x with tx := x.tx + 1 }).emit (.reply p.val 2 e.ip)
  else s

/-- A frame arrives on a host port whose link is up: counted as received, with what RS-FEC found; PD-NET wakes for it. A frame that is no
message for the block is answered, or ignored, or discarded and counted (R322, R471); so is one beyond the receive buffer. -/
def State.portFrame (s : State) (p : Fin 4) (ptp : Bool) (e : Eth) : Bool × State :=
  let fec := s.fecOn p
  let full := s.netBuffers && decide (65536 < s.hports[p].buffered + e.bytes)
  let held := if s.netBuffers ∧ !full then e.bytes else 0
  let s := (s.updHport p fun x => { x with rx := x.rx + 1, buffered := x.buffered + held,
                                           fecOk := x.fecOk + (if fec then e.fixed else 0),
                                           fecBad := x.fecBad + (if fec then e.lost else 0) }).wake 0
  let drop := s.updHport p fun x => { x with discard := x.discard + 1 }
  if full then (false, drop)
  else if ethIgnored e then (false, s)
  else if s.ethOk p.val ptp e then (ptp || !s.unreachable, s)
  else if s.ethForUs p.val ptp e ∧ (e.body = .echo ∨ e.body = .resolve) then (false, s.answerFrame p e)
  else (false, drop)

/-- A frame or a message arrives: taken or not. A field network takes none while the block is unreachable either. -/
def State.frameIn (s : State) (port : Nat) (ptp : Bool) (e : Eth) : Bool × State :=
  if !s.pathUp port then (false, s)
  else if h : port < 4 then s.portFrame ⟨port, h⟩ ptp e
  else (!s.unreachable, s)

/-- Class of what a host port carries (R322): 0 PTP (no KIND), 1 session messages and KOP, 2 KTP control, 3 KTP bulk. -/
def hostClass (kind : Nat) : Nat :=
  if kind = 0 then 0 else if kind ≤ 7 ∨ kind = 0x30 then 1 else if kind = 0x13 ∨ kind = 0x1A then 3 else 2

/-- CAN identifier (Table 13.8). -/
def canIdent (prio dir dev host msgno last seg : Nat) : Nat :=
  packBits [(5, 0), (5, seg), (1, last), (2, msgno), (6, host), (6, dev), (1, dir), (3, prio)]

/-- Fault confinement: the state of an active or passive controller follows its counters. -/
def Can.confine (x : Can) : Can :=
  if x.bus = 1 ∨ x.bus = 2 then { x with bus := if 127 < x.txErr ∨ 127 < x.rxErr then 2 else 1 } else x

/-- The smallest data length of a CAN FD frame that holds `n` bytes. -/
def canLength (n : Nat) : Nat := ([0, 1, 2, 3, 4, 5, 6, 7, 8, 12, 16, 20, 24, 32, 48].find? fun d => decide (n ≤ d)).getD 64

/-- Data of frame `k` of a message: a segment of 64 bytes, the final one padded with 0 to a data length (R365). -/
def canSegment (bytes : Bytes) (k : Nat) : Bytes :=
  let seg := (bytes.drop (64 * k)).take 64
  seg ++ List.replicate (canLength seg.length - seg.length) 0

/-- Send a message of `len` bytes on a field network (R363, R365, R367): its frames in order, the message number advanced. -/
def State.canSend (s : State) (f : Fin 2) (host prio len : Nat) (bytes : Bytes) : State :=
  let n := ceilDiv len 64
  let no := sget 0 s.cans[f].msgno host
  let dev := s.oget (0x1F50 + f.val) 0x02
  let s := { s with cans := vupd s.cans f fun x =>
    { x with tx := x.tx + n, txErr := x.txErr - n, msgno := sset 0 x.msgno host ((no + 1) % 4) }.confine }
  (List.range n).foldl (fun (s : State) (k : Nat) =>
    s.emit (.can f.val (canIdent prio 1 dev host no (b2n (k + 1 == n)) k) (canSegment bytes k))) s

/-- Priority of a message on a field network (R367): NOTIFY has OP 0x89. -/
def canPrio (kind body : Nat) : Nat := if kind = 0x30 then (if fld body 0 8 = 0x89 then 6 else 4) else 2

/-- A frame leaves a host port, counted, with the VLAN ID of the port and the PCP of its class (R322). -/
def State.ethOut (s : State) (p : Fin 4) (kind : Nat) : State :=
  { s with hports := vupd s.hports p fun x => { x with tx := x.tx + 1 } }.emit
    (.eth p.val (s.oget (0x1F40 + p.val) 0x0C) (fld (s.oget (0x1F40 + p.val) 0x0D) (3 * hostClass kind) 3))

/-- The address to which a datagram of a host port goes next (Table 12.10): 0, its own destination, where that lies in the subnet of the
port or is a link-local one; else the gateway. `addr` holds the 16 bytes of the destination lowest; an IPv4 address is a number whose
highest byte is sent first. -/
def State.nextHop (s : State) (p : Fin 4) (addr : Nat) : Nat :=
  let bs := leBytes 16 addr
  let i := 0x1F40 + p.val
  if bs.take 12 = [0, 0, 0, 0, 0, 0, 0, 0, 0, 0, 0xFF, 0xFF] then
    if ofBytesBE (bs.drop 12) >>> (32 - s.oget i 0x07) = s.oget i 0x06 >>> (32 - s.oget i 0x07) then 0 else s.oget i 0x08
  else
    let n := 128 - s.oget i 0x0A
    if bs.take 2 = [0xFE, 0x80] ∨ ofBytesBE bs >>> n = ofBytesBE (leBytes 16 (s.oget i 0x09)) >>> n then 0 else s.oget i 0x0B

/-- A message leaves in its envelope (R325), in a datagram of a host port or in the frames of a field network, whose tag has 8 bytes
(R364). `key` is that of the direction, `len` LENGTH. -/
def State.post (s : State) (port addr kind key sid seq len body : Nat) : State :=
  let s := s.emit (.message port addr sid kind seq body)
  if h : port < 4 then (s.ethOut ⟨port, h⟩ kind).emit (.datagram port (s.nextHop ⟨port, h⟩ addr) addr (envelopeWire kind len sid seq key body 16))
  else if h : port - 4 < 2 then
    s.canSend ⟨port - 4, h⟩ addr (canPrio kind body) (16 + len + (if kind ≤ 4 then 0 else 8)) (envelopeWire kind len sid seq key body 8)
  else s

/-- One datagram of a session: it takes the session's next SEQ (R326). -/
def State.sendDatagram (s : State) (i : Fin 32) (kind len body : Nat) : State :=
  let x := s.sessions[i]
  (s.updSess i fun x => { x with seqOut := x.seqOut + 1 }).post x.port x.addr kind x.keyOut (s.sid i) (x.seqOut + 1) len body

/-- Send an unsequenced message of a session; it waits while its path is down (R347). -/
def State.sendRaw (s : State) (i : Fin 32) (kind len body : Nat) : State :=
  if s.pathUp s.sessions[i].port then s.sendDatagram i kind len body
  else s.updSess i fun x => { x with rawWait := x.rawWait ++ [(kind, len, body)] }

/-- A datagram of a sequenced message: its body begins with the transfer handle (R334). -/
def State.sendSequenced (s : State) (i : Fin 32) (m : TxMsg) : State :=
  s.sendDatagram i m.kind (4 + m.len) (transferHandle i.val m.n + 2 ^ 32 * m.body)

/-- A message that the window lets go (R337) and that has not been sent. -/
def Session.goes (x : Session) (m : TxMsg) : Bool := m.sentAt.isNone && decide (m.n < x.txCum + x.txCredit + 16)

/-- The messages that go are sent now; a LOAD_ID is free again once its final LOAD_STATUS has been (R340). -/
def Session.markSent (x : Session) (now : Nat) : Session :=
  let ms := x.unacked.map fun m => if x.goes m then { m with sentAt := some now } else m
  { x with unacked := ms,
           loads := x.loads.filter fun l => match l.done with
             | some n => ms.any fun m => m.n == n && m.sentAt.isNone
             | none => true }

/-- Put on the path every message of a session that may be sent and has not been (R337, R347). -/
def State.flushTx (s : State) (i : Fin 32) : State :=
  let x := s.sessions[i]
  if !s.pathUp x.port then s
  else
    let now := s.ft
    let s := s.updSess i fun x => { x with rawWait := [] }
    let s := x.rawWait.foldl (fun (s : State) (m : Nat × Nat × Nat) => s.sendDatagram i m.1 m.2.1 m.2.2) s
    let go := x.unacked.filter x.goes
    let s := s.updSess i fun x => x.markSent now
    go.foldl (fun (s : State) (m : TxMsg) => s.sendSequenced i m) s

/-- A datagram is in the form of Table 12.2: VERSION 1, a KIND that a host sends (R327), what UDP carries is what LENGTH says, and that is at most the MTU less 80 bytes
(R325); no reserved bit of its body is set. -/
def State.envelopeOk (s : State) (d : Dgram) : Bool :=
  d.ver == 1 && d.rsv == 0 && hostKind d.port d.kind && (4 ≤ d.port || (d.bytes == 32 + d.len && decide (d.len + 80 ≤ s.oget (0x1F40 + d.port) 0x04)))

/-- An encrypted datagram is taken: the session it belongs to, its SEQ recorded, the lease renewed and the path taken over
(R326, R332, R347, R368). A discarded datagram answers `none` with its count. -/
def State.datagram (s : State) (d : Dgram) : Option (Fin 32) × State :=
  match s.frameIn d.port false d.eth with
  | (false, s) => (none, s)
  | (true, s) =>
    match s.sess? d.sid with
    | none => (none, { s with staleSess := s.staleSess + 1 })
    | some i =>
      let x := s.sessions[i]
      if x.leaseEnd = 0 ∨ (s.running 1 ∧ x.leaseEnd ≤ s.ft) ∨ (x.port ≥ 4 ∨ d.port ≥ 4) ∧ ¬ (x.port = d.port ∧ x.addr = d.addr) then
        (none, { s with staleSess := s.staleSess + 1 })
      else if !d.tagVerifies x.keyIn then (none, { s with authFails := s.authFails + 1 })
      else if d.seq + 1024 ≤ x.seqHi ∨ d.seq ∈ x.seqSeen ∨ d.seq = 0 then
        (none, { s with replays := s.replays + 1 })
      else if !s.envelopeOk d then (none, { s with malformed := s.malformed + 1 })
      else
        let hi := max x.seqHi d.seq
        let s := s.updSess i fun x =>
          { x with seqHi := hi, seqSeen := (d.seq :: x.seqSeen).filter fun q => hi < q + 1024,
                   leaseEnd := s.ft + msFt x.leaseMs, port := d.port, addr := d.addr }
        (some i, s.flushTx i)

/-- Send a sequenced message: it takes the session's next number, and is held until acknowledged (R334, R338). -/
def State.sendSeq (s : State) (i : Fin 32) (kind len body : Nat) (items : List Nat) (zone : Nat) : State :=
  let s := s.updSess i fun x =>
    { x with txNext := x.txNext + 1,
             unacked := x.unacked ++ [{ n := x.txNext, kind, body, len, items, zone, sentAt := none, tries := 0, fastAt := none }] }
  s.flushTx i

/-! ### Sequenced messages (R334–R336) -/

/-- How a sequenced message is classified (R335). -/
inductive SeqClass where
  | accept (n : Nat)
  | duplicate
  | stale
  deriving DecidableEq, Repr

/-- Message number of a transfer handle (R334). -/
def handleNo (h : Nat) : Nat := fld h 16 16 * 2048 + fld h 5 11

/-- The procedure of R335 against the session's receive state. -/
def State.classify (s : State) (i : Fin 32) (h : Nat) : SeqClass :=
  let x := s.sessions[i]
  let n := handleNo h
  let d0 := (n + 134217728 - x.rxCum % 134217728) % 134217728
  let d : Int := if d0 ≥ 67108864 then (d0 : Int) - 134217728 else d0
  let abs : Nat := (x.rxCum + d).toNat
  if 0 ≤ d ∧ d < x.window ∧ abs ∉ x.rxGot then .accept abs
  else if -(x.window : Int) ≤ d ∧ d < x.window then .duplicate
  else .stale

/-- Advance over received numbers. -/
def advanceCum (got : List Nat) : Nat → Nat → Nat
  | 0, c => c
  | k + 1, c => if c ∈ got then advanceCum got k (c + 1) else c

/-- Mark a message as received; an ACK is due (R336). -/
def State.markRx (s : State) (i : Fin 32) (n : Nat) : State :=
  s.updSess i fun x =>
    let got := n :: x.rxGot
    let c := advanceCum got got.length x.rxCum
    { x with rxGot := got.filter fun m => c ≤ m, rxCum := c, accepted := x.accepted + 1,
             ackFrom := match x.ackFrom with | some a => some a | none => some s.ft }

/-- What a classified message does (R335): taken, or an ACK is due at once, or counted as stale. -/
def State.takeSeq (s : State) (i : Fin 32) (c : SeqClass) (stale : State → State) : Option (Fin 32 × Nat) × State :=
  match c with
  | .accept n => (some (i, n), s)
  | .duplicate => (none, s.updSess i fun x => { x with ackNow := true })
  | .stale => (none, stale (s.updSess i fun x => { x with stale := x.stale + 1 }))

/-- A sequenced message of a KIND arrives: taken with its session and number, or discarded, with the acknowledgement due. A handle
whose index differs from the session's is malformed (R334); a field network carries none (R364). `stale` counts a stale message
where its zone is known (R45). What it brings about is recorded under role J (R441). -/
def State.sequenced (s : State) (kind : Nat) (m : Ktp) (stale : State → State) : Option (Fin 32 × Nat) × State :=
  match s.datagram ((m.dg.of kind).only (fld m.handle 0 5 == m.dg.sid % 32)) with
  | (none, s) => (none, s)
  | (some i, s) => { s with origin := (i.val, 3) }.takeSeq i (s.classify i m.handle) stale

/-- A stale message that names no zone (R335): the zone whose stale-handle count it enters is free (notes/assumptions/30). -/
def State.staleNowhere (s : State) : State :=
  let z : Fin 8 := Fin.ofNat 8 (Config.staleZone s.free)
  { s with free := s.free + 1 }.updZone z fun x => { x with stale := x.stale + 1 }

/-! ### Access to objects -/

/-- The zones to which an object belongs for ownership (R344): that of the zone block, of the head, of the axis; those of the axes of
a group (R301). -/
def State.objOwned (s : State) (i : Nat) : List (Fin 8) :=
  match objFam i with
  | some (0x2000, n) => [Fin.ofNat 8 n]
  | some (0x3000, n) => (s.zoneOfHead (Fin.ofNat 64 n)).toList
  | some (0x5000, n) => (s.zoneOfAxis (Fin.ofNat 8 n)).toList
  | some (0x5200, n) => ((fins 8).filter fun a => s.ac a 0x1F == n).filterMap s.zoneOfAxis
  | _ => []

/-- A host with these roles acts for the owner of a zone (R343). -/
def State.hostActs (s : State) (z : Fin 8) (host roles : Nat) : Bool :=
  s.zones[z].owner == some host && bitOf roles 2

/-- The session that acts for the owner of a zone. -/
def State.actingSession (s : State) (z : Fin 8) : Option (Fin 32) :=
  (fins 32).find? fun i => s.sessions[i].isOpen && s.hostActs z s.sessions[i].hostId s.sessions[i].roles

/-- Roles through which an access by `host` is permitted, as a mask: role J counts for nothing on a zone whose owner the
session does not act for, if it lacks S (R344). -/
def State.effRoles (s : State) (i host roles : Nat) : Nat :=
  if ((s.objOwned i).any fun z => s.zones[z].owner.isSome && !s.hostActs z host roles) && !bitOf roles 3 then
    roles - (if bitOf roles 2 then 4 else 0)
  else roles

/-- Roles and ownership of an access (R344, R353); what the life-cycle state forbids (Table 16.1), the commands themselves refuse. The
ownership command, subindex 0x7A of a zone, judges ownership
itself (R345). -/
def State.accessCode (s : State) (i sub : Nat) (r : ObjRow) (write : Bool) (host roles : Nat) : Nat :=
  let mask := if write then r.wr else r.rd
  if roles &&& mask = 0 then abRole
  else if write ∧ sub ≠ 0x7A ∧ (s.effRoles i host roles) &&& mask = 0 then abNotOwner
  else 0

/-- The role named as the origin of an event: the highest-numbered one that permitted the access (Table 17.1). -/
def topRole (mask : Nat) : Nat :=
  if bitOf mask 4 then 5 else if bitOf mask 3 then 4 else if bitOf mask 2 then 3 else if bitOf mask 1 then 2
  else if bitOf mask 0 then 1 else 0

/-- Who made a request: session slot, and the role that permitted it. -/
structure Who where
  sess : Fin 32
  role : Nat
  deriving DecidableEq, Repr

/-- A value within the row's fixed range (R350, R354): given as its raw number. -/
def rowRange (r : ObjRow) (v : Nat) : Bool :=
  v < 2 ^ (8 * r.bytes) &&
  (r.blob || r.alt == some v ||
   (let x : Int := if r.sgn then sx (8 * r.bytes) v else v
    r.lo ≤ x && x ≤ r.hi))

/-- A byte in a text: how many bytes of its character are still to come, and the least and the greatest of the next (RFC 3629). -/
def utf8Next (b : Nat) : Option (Nat × Nat × Nat) :=
  if b < 0x80 then some (0, 0x80, 0xBF)
  else if 0xC2 ≤ b ∧ b ≤ 0xDF then some (1, 0x80, 0xBF)
  else if b = 0xE0 then some (2, 0xA0, 0xBF)
  else if b = 0xED then some (2, 0x80, 0x9F)
  else if 0xE1 ≤ b ∧ b ≤ 0xEF then some (2, 0x80, 0xBF)
  else if b = 0xF0 then some (3, 0x90, 0xBF)
  else if 0xF1 ≤ b ∧ b ≤ 0xF3 then some (3, 0x80, 0xBF)
  else if b = 0xF4 then some (3, 0x80, 0x8F)
  else none

/-- UTF-8: `n` more bytes of a character are due, the next from `lo` to `hi`. -/
def utf8From : Nat → Nat → Nat → List Nat → Bool
  | n, _, _, [] => n == 0
  | 0, _, _, b :: bs => match utf8Next b with | some (n, lo, hi) => utf8From n lo hi bs | none => false
  | n + 1, lo, hi, b :: bs => decide (lo ≤ b) && decide (b ≤ hi) && utf8From n 0x80 0xBF bs

/-- A value of STR(n): UTF-8, and 0 in every byte after the last character (Table 13.1). -/
def textOk (n v : Nat) : Bool :=
  let bs := leBytes n v
  let text := bs.takeWhile (· ≠ 0)
  (bs.drop text.length).all (· == 0) && utf8From 0 0x80 0xBF text

/-- The objects of type STR that can be written hold text (Tables 14.3, 14.6). -/
def textRange (i sub v : Nat) : Bool :=
  match objFam i with
  | some (0x1000, _) => sub != 0x09 || textOk 32 v
  | some (0x2000, _) => sub != 0x03 || textOk 32 v
  | _ => true

/-- What a command object's action answers: a refusal, an action done, one that goes on. -/
inductive CmdRes where
  | refuse (code : Nat)
  | done
  | running
  deriving DecidableEq, Repr

/-- The body of a response (Table 13.5), and its bytes. -/
def Resp.body (r : Resp) : Nat :=
  packBits [(8, r.op + 128), (8, 0), (16, r.tag), (16, r.index), (8, r.sub), (8, 0), (32, r.code), (32, r.info), (16, r.state),
            (16, r.dlen), (32, r.size), (8 * r.dlen, r.data)]
def Resp.len (r : Resp) : Nat := 24 + r.dlen

/-- Answer a request: the response is held under its tag, of which 32 are held (R359), and sent. -/
def State.respond (s : State) (i : Fin 32) (r : Resp) : State :=
  if s.sessions[i].isOpen then
    (s.updSess i fun x => { x with resps := (r :: x.resps).take 32 }).sendRaw i 0x30 r.len r.body
  else s

/-- Version that a response reports (R355, R390): 0 for RO and CMD objects, 1 for a select value. -/
def State.version (s : State) (i sub : Nat) : Nat :=
  match objRow i sub with
  | some r => if r.acc = 0 ∨ r.acc = 3 then 0 else if isSelect i sub then 1 else s.over i sub
  | none => 0

/-- A response with a code and without data: INFO is the version for the operations on objects, 0 for the others (Table 13.5). -/
def State.plainResp (s : State) (k : Kop) (code : Nat) : Resp :=
  { op := k.op, tag := k.tag, index := k.index, sub := k.sub, code,
    info := if k.op = 1 ∨ k.op = 2 ∨ k.op = 4 ∨ k.op = 5 then s.version k.index k.sub else 0,
    state := 0, size := 0, data := 0, dlen := 0 }

/-- Requests of a session that wait (R358, R472). -/
def State.waitingOf (s : State) (i : Fin 32) : List Waiting := s.waiting.filter fun x => x.sess == i

/-- The session and role under which a permitted write acts. -/
def State.whoFor (s : State) (i sub : Nat) (who : Fin 32) : Who :=
  let x := s.sessions[who]
  let m := match objRow i sub with | some r => (s.effRoles i x.hostId x.roles) &&& r.wr | none => 0
  { sess := who, role := topRole m }

/-- What the access of a request is recorded under (R441): its session and role; a request on a transaction acts through the session's
roles. -/
def State.accessBy (s : State) (k : Kop) (i : Fin 32) : State :=
  { s with origin := (i.val, if k.index = 0 then topRole s.sessions[i].roles else (s.whoFor k.index k.sub i).role) }

/-- A request arrives (R326, R357–R359): taken with its session, or discarded, or answered from the held responses, or refused
as the ninth that awaits a response, or as malformed. A request that waits already is not taken again. -/
def State.request (s : State) (k : Kop) : Option (Fin 32) × State :=
  match s.datagram (k.dg.of 0x30) with
  | (none, s) => (none, s)
  | (some i, s) =>
    if !s.running 0 then (none, s)
    else
      match s.sessions[i].resps.find? fun r => r.tag == k.tag with
      | some r => (none, s.sendRaw i 0x30 r.len r.body)
      | none =>
        if (s.waitingOf i).any fun x => x.tag == k.tag then (none, s)
        else if 8 ≤ (s.waitingOf i).length then (none, s.respond i (s.plainResp k abBusy))
        else if !k.wf then (none, s.respond i (s.plainResp k abMalformed))
        else if k.len > 1024 then (none, s.respond i (s.plainResp k abLength))
        else (some i, s.accessBy k i)

/-- The domains are ON. -/
def State.domainsOn (s : State) (ds : List (Fin 11)) : Bool := ds.all fun d => s.domains[d].state == 2

/-- A request waits for domains, which it wakes, or behind an earlier request of its session: it is carried out, and answered, when its
turn comes (R358, R472). -/
def State.await (s : State) (c : Instr) (k : Kop) (i : Fin 32) (ds : List (Fin 11)) : State :=
  let s := ds.foldl State.wake s
  { s with waiting := s.waiting ++ [{ sess := i, tag := k.tag, domains := ds, cmd := c }] }

/-- A request is taken: one that has waited and whose turn has come, or one that arrives behind none of its session. -/
def State.arrive (s : State) (c : Instr) (k : Kop) : Option (Fin 32) × State :=
  match s.resumed with
  | some i => (some i, { s with resumed := none }.accessBy k i)
  | none =>
    match s.request k with
    | (none, s) => (none, s)
    | (some i, s) => if (s.waitingOf i).isEmpty then (some i, s) else (none, s.await c k i [])

/-- Checks of a write that come before its action: the object exists, its size, roles, life cycle, ownership. A part of a BLOB or STR
object that no command acts on may be written (Table 13.4). -/
def State.writeCode (s : State) (k : Kop) (i sub : Nat) (who : Fin 32) : Nat :=
  if (objFam i).isNone then abNoObject
  else
    match objRow i sub with
    | none => abNoSub
    | some r =>
      if r.acc = 0 then abReadOnly
      else if r.blob ∧ r.acc = 1 then
        if k.len = 0 then abLength else if r.bytes < k.off + k.len then abOffset
        else s.accessCode i sub r true s.sessions[who].hostId s.sessions[who].roles
      else if k.off ≠ 0 ∧ ¬ r.blob then abMalformed
      else if k.off ≠ 0 ∨ k.len ≠ r.bytes then abLength
      else s.accessCode i sub r true s.sessions[who].hostId s.sessions[who].roles

/-- A direct WRITE of value `v` to an RW or WO object (R351): checked, acted on, answered with its code and version. RWS objects
take a transaction. -/
def State.write (s : State) (c : Instr) (k : Kop) (i sub v : Nat) (act : State → Who → State × Nat) : State :=
  match s.arrive c k with
  | (none, s) => s
  | (some w, s) =>
    if !k.names 2 i sub then s else
    let code :=
      match objRow i sub with
      | some r => if r.acc = 4 then abTxRequired else s.writeCode k i sub w
      | none => s.writeCode k i sub w
    let code := if code ≠ 0 then code
      else match objRow i sub with
        | some r => if rowRange r v && textRange i sub v then 0 else abRange
        | none => 0
    if code ≠ 0 then s.respond w (s.plainResp k code)
    else
      let r := act s (s.whoFor i sub w)
      r.1.respond w (r.1.plainResp k r.2)

/-- Set the status of a command object. -/
def State.setStat (s : State) (i sub : Nat) (c : CmdStat) : State :=
  { s with cmdStat := sset { state := 0, code := 0 } s.cmdStat (objKey i sub) c }

/-- A request of Table 11.4 of an unknown KIND, or with a reserved bit set, is malformed (R17, R315). -/
def requestMalformed (i v : Nat) : Bool :=
  match objFam i with
  | some (0x6010, _) => decide (4 < fld v 0 8) || fld v 8 8 != 0 || fld v 32 32 != 0
  | _ => false

/-- The domains on whose hardware an object acts or reports, by its subsystem and Table 1.1 (R471, R472; DEDUCED, notes/assumptions/39):
link objects from subindex 0x40 on are those of the chain; an axis command wakes PD-ENG as well. -/
def objDomains (i sub : Nat) : List (Fin 11) :=
  match objFam i with
  | some (0x1F40, _) => [0]
  | some (0x1F48, _) => [0]
  | some (0x1F50, _) => [1]
  | some (0x2800, _) => [2]
  | some (0x2000, _) => [3]
  | some (0x2400, _) => [3]
  | some (0x3000, _) => [3]
  | some (0x3800, l) => if 0x40 ≤ sub then [3, 8] else if l < 8 then [4] else [5]
  | some (0x3801, n) => if n < 128 then [4] else [5]
  | some (0x4000, _) => [6]
  | some (0x4800, _) => [6]
  | some (0x4880, _) => [6]
  | some (0x4900, _) => [6]
  | some (0x5000, _) => [6, 7]
  | some (0x5200, _) => [6, 7]
  | some (0x6010, _) => [7]
  | some (0x6100, _) => [6, 7]
  | some (0x6200, l) => if l < 8 then [4, 7] else [5, 7]
  | some (0x7010, k) => if 2 ≤ k ∧ 0x04 ≤ sub then [7] else []
  | some (0xA800, _) => [3]
  | _ => []

/-- A WRITE to a CMD object with value `v` (R351, R352): checked, acted on once the domains of its hardware are ON (R472), its status
kept, answered. -/
def State.command (s : State) (c : Instr) (k : Kop) (i sub v : Nat) (act : State → Who → State × CmdRes) : State :=
  match s.arrive c k with
  | (none, s) => s
  | (some w, s) =>
    if !k.names 2 i sub then s else
    let code := s.writeCode k i sub w
    let code := if code ≠ 0 then code
      else match objRow i sub with
        | some r => if requestMalformed i v then abMalformed else if rowRange r v then 0 else abRange
        | none => 0
    if code ≠ 0 then s.respond w (s.plainResp k code)
    else if !s.domainsOn (objDomains i sub) then s.await c k w (objDomains i sub)
    else
      let (s', res) := act s (s.whoFor i sub w)
      match res with
      | .refuse c => s'.respond w (s'.plainResp k c)
      | .done =>
        State.respond (s'.setStat i sub { state := 2, code := 0 }) w (s'.plainResp k 0)
      | .running =>
        State.respond (s'.setStat i sub { state := 1, code := 0 }) w (s'.plainResp k 0)

/-- The end of an action that went on: DONE, or FAILED with its code (Table 13.3). -/
def State.cmdEnd (s : State) (i sub code : Nat) : State :=
  s.setStat i sub { state := if code = 0 then 2 else 3, code }

/-! ### Item descriptors (Tables 2.1, 2.2) -/

/-- Fields of one tile entry; `none` where a field is malformed. -/
def parseTile (e : Nat) : Option TileEntry :=
  let x := fld e 32 20
  let op := fld e 88 2
  let planes := fld e 96 8
  if fld e 52 12 ≠ 0 ∨ fld e 90 6 ≠ 0 ∨ fld e 104 24 ≠ 0 ∨ x ≥ 524288 ∨ op = 3 ∨ planes = 0 ∨ e ≥ 2 ^ 128 then none
  else some { tile := fld e 0 32, x, y := fld e 64 24, op, planes }

/-- The tile entries of a descriptor. -/
def parseTiles : List Nat → Option (List TileEntry)
  | [] => some []
  | e :: es =>
    match parseTile e, parseTiles es with
    | some t, some ts => some (t :: ts)
    | _, _ => none

/-- The item that a descriptor describes, not yet in a slot; `none` for a malformed one (R40, R41, R506). -/
def parseItem (d : Descriptor) : Option Item :=
  let h := d.hdr
  let direct := bitOf h 11
  let cnt := fld h 16 8
  let rule := fld h 24 2
  let tpl := fld h 64 16
  let lines := fld h 96 24
  let start := sx 48 (fld h 128 48)
  let win := fld h 192 24
  if fld h 0 8 ≠ 1 ∨ fld h 12 4 ≠ 0 ∨ cnt > 32 ∨ rule = 3 ∨ fld h 26 6 ≠ 0 ∨ fld h 80 16 ≠ 0 ∨ lines = 0 ∨
     fld h 120 8 ≠ 0 ∨ fld h 176 16 ≠ 0 ∨ fld h 216 8 ≠ 0 ∨ fld h 224 32 ≠ 0 ∨ h ≥ 2 ^ 256 ∨
     (direct ∧ (tpl ≠ 0xFFFF ∨ cnt ≠ 0)) ∨ (rule = 1 ∧ start ≤ 0) ∨ (rule ≠ 2 ∧ win ≠ 0) ∨ d.tiles.length ≠ cnt then none
  else
    match parseTiles d.tiles with
    | none => none
    | some ts =>
      some { slot := 0, gen := 0, zone := Fin.ofNat 8 (fld h 8 3), hostId := fld h 32 32, direct, template := tpl,
             lineCount := lines, startRule := rule, start, markWindow := win, tiles := ts, pattern := 0, sid := 0,
             host := 0, state := .queued, origin := none, refs := false, refTpl := false, refTiles := [], lastWait := 14,
             markFrom := none, markAt := none, reserved := false, startSet := none, startGens := [], prog := [], fired := [], lastFire := 0,
             reported := 0, badLine := none, outcome := none, blank := false, noticed := false, held := false,
             handedFired := 0, handedBad := 0xFFFFFF, pulsed := false, gone := false, overlap := false, feedBase := none, revDue := false,
             bySession := 0, byRole := 0 }

/-- The outcome record of Table 2.8 as one little-endian number. -/
def outcomeRecord (handle zone outcome hostId reason bad fired finalFt loc : Nat) (origin : Option Int) : Nat :=
  packBits [(16, handle), (3, zone), (5, 0), (4, outcome), (4, 0), (32, hostId), (8, reason), (24, bad), (24, fired), (8, 0),
    (64, finalFt), (64, loc), (48, match origin with | some o => toU 48 o | none => 0x800000000000), (16, 0)]

end Sys2Proof.Machine
end

