-- ==== Sys2Proof/Machine/Flags.lean ====
section
/-! DEFINITION. The conditions and status values that the manual computes from the state: nozzle classes, usable drive data,
the supply window, readiness of heads, the quality figures, the load of a port. -/

namespace Sys2Proof.Machine

/-! ### Nozzle map (R123, R124, R126) -/

/-- Effective class of a nozzle-map entry (R124). -/
def entryDefective (e : Nat) : Bool :=
  let c := fld e 0 3
  c == 1 || c == 2 || c == 4 || (c == 3 && !bitOf e 4) || bitOf e 3

/-- An entry with DEFECTIVE computed. -/
def mkEntry (e : Nat) : Nat := setFld e 5 1 (b2n (entryDefective e))

/-- Entry of a nozzle in a generation; reset value 0x24. -/
def NozMap.entry (m : NozMap) (i : Nat) : Nat := sget 0x24 m.entries i
def NozMap.bad (m : NozMap) (i : Nat) : Bool := bitOf (m.entry i) 5
def NozMap.put (m : NozMap) (i e : Nat) : NozMap := { m with entries := sset 0x24 m.entries i (mkEntry e) }

/-- The newest generation of a head: pending, or else installed (R134). -/
def Head.newest (h : Head) : NozMap := h.pend.getD h.inst

/-- Where a map holds what was written for the nozzle of select word `v` while no maker block tells the nozzles of its rows (R389). -/
def markKey (v : Nat) : Nat := 65536 + v

/-- The nozzle that a select value names (0x3000 .4C: [12:0] nozzle, [14:13] row); one that the head does not have is numbered beyond
every entry. -/
def Head.nozzleOf (x : Head) (v : Nat) : Nat :=
  if !x.blockOk then markKey v else if fld v 0 13 < x.nozzles (fld v 13 2) then x.nozzleBase (fld v 13 2) + fld v 0 13 else 32768

/-- The entries that stand under nozzle numbers. -/
def NozMap.known (m : NozMap) : NozMap := { m with entries := m.entries.filter fun e => e.1 < 65536 }

/-- Once the maker block is read, what was written before it for the nozzles of its rows is a change of their entries (R126, R389). -/
def Head.placeMarks (x : Head) : Head :=
  let ms := x.newest.entries.filter fun e => 65536 ≤ e.1
  if ms.isEmpty then x
  else
    let p := ms.foldl (fun (m : NozMap) e =>
      let j := x.nozzleOf (e.1 - 65536)
      if j = 32768 then m else m.put j ((m.entry j &&& 0x27) ||| (e.2 &&& 0x18))) x.newest.known
    { x with inst := x.inst.known, prev := x.prev.map NozMap.known, pend := some p }

/-- The generation fixed for an item at its start; the installed one before its start (R67, R127). -/
def State.genFor (s : State) (it : Item) (h : Fin 64) : NozMap :=
  let x := s.heads[h]
  match it.startGens.find? fun g => g.head == h with
  | some g => if g.inst = x.inst.inst then x.inst else x.prev.getD x.inst
  | none => x.inst

/-- Columns between the traverses: A / N columns of stride in a scanning zone, 0 in a web zone (R115). -/
def feedCols (n e : Nat) : Nat := if n = 0 then 0 else spanCount e / n

/-- Position of a nozzle in its row (R115). -/
def nozPos (e j : Nat) : Int := if pmDir e = 0 then (j : Int) - pmFirst e else (pmLast e : Int) - j

/-- Column that nozzle `j` prints at traverse `t` (R115). -/
def colOf (n e j : Nat) (t : Int) : Int :=
  (pmFirstCol e : Int) + (pmStride e : Int) * (nozPos e j - t * (feedCols n e : Int))

/-- The active nozzle that prints column `c` at traverse `t`, if one does. -/
def nozAtCol (n e : Nat) (c t : Int) : Option Nat :=
  let d := c - (pmFirstCol e : Int)
  let st : Int := pmStride e
  if d % st ≠ 0 then none
  else
    let p := d / st + t * (feedCols n e : Int)
    if p < 0 ∨ p ≥ spanCount e then none
    else some (if pmDir e = 0 then pmFirst e + p.toNat else pmLast e - p.toNat)

/-- nozzle_at(r, c, k) of R129. -/
def nozzleAt (n e : Nat) (c : Int) (k : Nat) : Nat :=
  let f := feedCols n e
  let u := if f = 0 then 0 else (((c - (pmFirstCol e : Int)) / (pmStride e : Int)) % (f : Int)).toNat
  let p := u + k * f
  if pmDir e = 0 then pmFirst e + p else pmLast e - p

/-- The REDUNDANT row that names a PRIMARY row as its partner (R116). -/
def State.redundantOf (s : State) (z : Fin 8) (h : Fin 64) (r : Fin 4) : Option (Fin 64 × Fin 4) :=
  (s.zoneRows z).find? fun (h2, r2) =>
    pmRole (s.planeMap h2 r2) == 2 && s.hc h2 (0x44 + r2.val) == h.val + 64 * r.val

/-- The PRIMARY row that a REDUNDANT row names (R116). -/
def State.partnerOf (s : State) (h : Fin 64) (r : Fin 4) : Option (Fin 64 × Fin 4) :=
  let p := s.hc h (0x44 + r.val)
  if p < 256 then some (Fin.ofNat 64 (p % 64), Fin.ofNat 4 (p / 64)) else none

/-! ### Quality (R134, R135) -/

/-- Numbers of the active nozzles of a row. -/
def activeNozzles (e : Nat) : List Nat := (List.range (spanCount e)).map (· + pmFirst e)

/-- Longest run of `true`. -/
def longestRun : List Bool → Nat → Nat → Nat
  | [], _, best => best
  | b :: bs, cur, best => if b then longestRun bs (cur + 1) (max best (cur + 1)) else longestRun bs 0 best

/-- DEFECTS and CLUSTER of a row in the newest generation. -/
def State.rowFigures (s : State) (h : Fin 64) (r : Fin 4) : Nat × Nat :=
  let e := s.planeMap h r
  let x := s.heads[h]
  let b := x.nozzleBase r.val
  let ds := (activeNozzles e).map fun j => x.newest.bad (b + j)
  ((ds.filter id).length, longestRun ds 0 0)

/-- No enabled method can ever place a drop of defective nozzle `j` (R134). -/
def State.unhideable (s : State) (z : Fin 8) (h : Fin 64) (r : Fin 4) (j : Nat) : Bool :=
  let n := s.zc z 0x30
  let m := s.zc z 0x31
  let e := s.planeMap h r
  let x := s.heads[h]
  let b := x.nozzleBase r.val
  let good := fun k => pmFirst e ≤ k && k ≤ pmLast e && !x.newest.bad (b + k)
  let red := bitOf m 0 &&
    match s.redundantOf z h r with
    | some (h2, r2) =>
      match nozAtCol n (s.planeMap h2 r2) (colOf n e j 0) 0 with
      | some k => !(s.heads[h2].newest.bad (s.heads[h2].nozzleBase r2.val + k))
      | none => false
    | none => false
  let spr := bitOf m 1 && ((1 ≤ j && good (j - 1)) || good (j + 1))
  let pas := bitOf m 2 && n != 0 && (List.range n).any fun k => good (nozzleAt n e (colOf n e j 0) k)
  !(red || spr || pas)

/-- Recompute a zone's quality figures, with the event at each begin and end of the condition (R134, R135). Where the unhideable
limit alone is exceeded the rule names no head and row: both read 0 (DESIGN CHOICE, notes/assumptions/10). -/
def State.recomputeQuality (s : State) (z : Fin 8) : State :=
  let prim := (s.zoneRows z).filter fun (h, r) => pmRole (s.planeMap h r) == 1
  let figs := prim.map fun (h, r) => (h, r, s.rowFigures h r)
  let s := (s.zoneHeads z).foldl (fun s h => s.updHead h fun x =>
    { x with rowQuality := Vector.ofFn fun (r : Fin 4) =>
        match figs.find? fun (f : Fin 64 × Fin 4 × Nat × Nat) => f.1 == h && f.2.1 == r with
        | some f => f.2.2.1 + 65536 * min 255 f.2.2.2
        | none => 0 }) s
  let unh := prim.foldl (fun a (h, r) =>
    let x := s.heads[h]
    a + ((activeNozzles (s.planeMap h r)).filter fun j =>
      x.newest.bad (x.nozzleBase r.val + j) && s.unhideable z h r j).length) 0
  let first := figs.find? fun f => f.2.2.1 > s.zc z 0x34 || f.2.2.2 > s.zc z 0x35
  let d := figs.any fun f => f.2.2.1 > s.zc z 0x34
  let c := figs.any fun f => f.2.2.2 > s.zc z 0x35
  let u := unh > s.zc z 0x36
  let exc := d || c || u
  let (hh, rr) : Nat × Nat := match first with | some f => (f.1.val, f.2.1.val) | none => (0, 0)
  let fig := match first with | some f => if f.2.2.1 > s.zc z 0x34 then 1 else 2 | none => 3
  let old := s.zones[z].quality
  let was := bitOf old 0
  -- the head and row that first exceeded a limit stand while the condition lasts
  let (hh, rr) := if exc ∧ was then (fld old 4 6, fld old 10 2) else (hh, rr)
  let q := if exc then packBits [(1, 1), (1, b2n d), (1, b2n c), (1, b2n u), (6, hh), (2, rr)] else 0
  let s := s.updZone z fun x => { x with quality := q, unhideable := unh }
  if exc = was then s
  else
    let (h0, r0) := if exc then (hh, rr) else (fld old 4 6, fld old 10 2)
    s.event 0x4810 (s.loc 9 h0) [(8, b2n exc), (8, h0), (8, r0), (8, if exc then fig else 0)]

/-! ### Maker block and drive data (R172, R236) -/

/-- Drive data are usable (R172), read from a maker block. -/
def Head.driveUsable (h : Head) : Bool :=
  let m := h.maker
  let rows := (List.range 7).map (· + 1)
  mkField m 0x32 16 == 0 && mkField m 0x38 64 == 0 && subEnergy (h.record 1) 0 != 0 &&
  rows.all (fun d =>
    let x := h.record d
    if subEnergy x 0 = 0 then x == 0
    else
      fld x 18 14 == 0 && fld x 48 16 == 0 &&
      (List.range 4).all (fun j =>
        fld x (8 * (8 + 8 * j) + 24) 8 == 0 && fld x (8 * (12 + 8 * j) + 28) 4 == 0 &&
        if j < recSubs x then subEnergy x j != 0 else fld x (8 * (8 + 8 * j)) 64 == 0) &&
      64 ≤ subPre x 0 + subDead x 0) &&
  1 ≤ h.wMin && h.wMin ≤ h.wMax && 18000 ≤ h.vMin && h.vMin < h.vMax && h.vMax ≤ 42000

/-- The maker block is well-formed (R236) beside the node identity (Table 7.10). -/
def makerWf (m identity : Nat) : Bool :=
  let rows := fld m 8 2 + 1
  let nz := fun x => fld m (8 * (0x18 + 2 * x)) 14
  let n := nz 0 + nz 1 + nz 2 + nz 3
  let len := mkField m 4 32
  let raw := ceilDiv n 2
  let t := if bitOf m 10 then (raw + 7) / 8 * 8 else 0
  fld m 0 8 == 1 && fld m 11 21 == 0 &&
  (List.range 4).all (fun x => fld m (8 * (0x18 + 2 * x) + 14) 2 == 0 &&
    if x < rows then 1 ≤ nz x && nz x ≤ 8192 else nz x == 0) &&
  n ≤ 8192 &&
  mkField m 8 16 == fld identity 16 16 && mkField m 12 32 == fld identity 32 32 && mkField m 16 64 == fld identity 64 64 &&
  len == 0x170 + t + 64 && len ≤ 65536 &&
  mkField m 0x166 16 == 0 && mkField m 0x168 64 == 0 && fld m (8 * (0x170 + raw)) (8 * (t - raw)) == 0 &&
  sx 16 (mkField m 0x160 16) < sx 16 (mkField m 0x15C 16) && sx 16 (mkField m 0x15C 16) < sx 16 (mkField m 0x15E 16) &&
  sx 16 (mkField m 0x15E 16) ≤ 1200 &&
  sx 16 (mkField m 0x158 16) ≤ sx 16 (mkField m 0x15A 16) && sx 16 (mkField m 0x15A 16) < sx 16 (mkField m 0x15C 16)

/-! ### Energy (R173, R175, R185, R191) -/

/-- Class ratio `k` of a 16 × U16 class-ratio object. -/
def classRatio (v k : Nat) : Nat := fld v (16 * k) 16

/-- The temperature factor of R173. -/
def tempFactor (h : Head) : Rat :=
  clampR (1 - (h.cT : Rat) * ((h.temp - h.tRef : Int) : Rat) / 10000000) (3 / 4) (5 / 4)

/-- Class factor from ratio, rank, trim and temperature factor (R173), not clamped. -/
def classFactorRaw (ratio eRank trim : Nat) (f : Rat) : Int :=
  roundR ((ratio : Rat) * eRank * trim * f / (16384 * 16384))

/-- Class factor `m[k]` of R173. -/
def classFactor (ratio eRank trim : Nat) (f : Rat) : Nat := (clampI (classFactorRaw ratio eRank trim f) 1 65535).toNat

/-- Exact width in ft of a main pulse of `e` nJ at `v` mV under factor `m` (R175). -/
def widthExact (e rNom : Nat) (m : Int) (v : Int) : Rat := 1250 * (e : Rat) * rNom * m / (16384 * (v : Rat) * v)

/-- Width of a main pulse as a head end computes it and the controller mirrors (R175): the width, and whether it was clamped. -/
def pulseWidth (e rNom m wMin wMax : Nat) (vph : Nat) (sag : Int) : Nat × Bool :=
  let t := roundR (widthExact e rNom m ((vph : Int) - sag))
  if t < wMin ∨ t > wMax then ((clampI t wMin wMax).toNat, true) else (t.toNat, false)

/-- A head breaks none of the conditions of R185 for a window, class ratios and an energy trim. -/
def windowOk (h : Head) (lo hi ratios trim : Nat) : Bool :=
  let ks := (List.range 16).map (classRatio ratios)
  let mx := ks.foldl max 0
  let mn := ks.foldl min 65535
  let mHi := classFactorRaw mx h.eRank trim (5 / 4)
  let mLo := classFactorRaw mn h.eRank trim (3 / 4)
  h.vMin ≤ lo && hi ≤ h.vMax &&
  ((List.range 8).filter h.defines).all fun d =>
    (List.range (recSubs (h.record d))).all fun j =>
      let e := subEnergy (h.record d) j
      widthExact e h.rNom mHi lo ≤ h.wMax && (h.wMin : Rat) ≤ widthExact e h.rNom mLo hi

/-- The chain that supplies a head (R187, R188): that of the link by which it is numbered. -/
def Head.chain (h : Head) : Option (Fin 16) := h.link

/-- The window of a head's chain passes R185 for it. -/
def State.headWindow (s : State) (h : Fin 64) : Bool :=
  match s.heads[h].chain with
  | some c => windowOk s.heads[h] (s.lc c 0x43) (s.lc c 0x44) (s.hc h 0x70) (s.hc h 0x71)
  | none => true

/-- No temperature report for 150 µs (R183). -/
def State.tempStale (s : State) (h : Fin 64) : Bool :=
  match s.heads[h].tempAt with
  | some t => t + 187500 ≤ s.ft
  | none => true

/-- Every index that the translation of a used row names is defined by the head's drop table (R118). -/
def State.translationOk (s : State) (h : Fin 64) : Bool :=
  (fins 4).all fun r =>
    let role := pmRole (s.planeMap h r)
    (role != 1 && role != 2) ||
    (List.range 7).all fun i =>
      let d := fld (s.hc h (0x48 + r.val)) (3 * i) 3
      d == 0 || s.heads[h].defines d

/-- Rows whose committed entries break R116 against the enumerated head's own nozzle counts (R389). -/
def State.badRows (s : State) (h : Fin 64) : List (Fin 4) :=
  if s.heads[h].blockOk then
    (fins 4).filter fun r =>
      let e := s.planeMap h r
      (pmRole e == 1 || pmRole e == 2) && decide (s.heads[h].nozzles r.val ≤ pmLast e)
  else []

/-- The setpoint lies above T_SET_MAX of the enumerated head (R508). -/
def State.setTooHigh (s : State) (h : Fin 64) : Bool :=
  s.heads[h].blockOk && decide (s.heads[h].tSetMax < sx 16 (s.hc h 0x12))

/-- Committed data contradict the enumerated head (R389, R508). -/
def State.mismatch (s : State) (h : Fin 64) : Bool := !(s.badRows h).isEmpty || s.setTooHigh h

/-- Energy readiness (R191, Table 6.9): 0 READY, 1 NO_DRIVE_DATA, 2 WINDOW, 3 SUPPLY, 4 TEMP_STALE. -/
def State.energyReady (s : State) (h : Fin 64) : Nat :=
  let x := s.heads[h]
  if !x.driveOk || !s.translationOk h then 1
  else if !s.headWindow h then 2
  else match x.chain with
    | some c => if s.chains[c].state ≠ .on then 3 else if s.tempStale h then 4 else 0
    | none => 3

/-! ### Heads (R238, R252) -/

/-- An identity that may be driven: VERIFIED, or UNVERIFIED in a zone that accepts it (R238). -/
def State.headAccepted (s : State) (h : Fin 64) : Bool :=
  match s.heads[h].idState with
  | .verified => true
  | .unverified => match s.zoneOfHead h with | some z => s.zc z 0x70 == 1 | none => false
  | _ => false

/-- Head readiness (R252, Table 8.6), the first failing reason in the order of its values. -/
def State.headReady (s : State) (h : Fin 64) : Nat :=
  let x := s.heads[h]
  if (s.zoneOfHead h).isNone ∨ ¬ x.inService then 1
  else if ¬ s.headAccepted h ∨ s.mismatch h ∨ ¬ x.blockOk then 2
  else if ¬ x.trimOk then 3
  else match x.thermal with
    | .cold => 4
    | .cooldown => 5
    | _ => if s.energyReady h ≠ 0 then 6 else if ¬ s.running 4 then 7 else 0

/-- heads_ready(item) of R48: every head that prints a row of the zone. -/
def State.headsReady (s : State) (z : Fin 8) : Bool :=
  (s.zoneRows z).all fun (h, _) => s.headReady h == 0

/-- A frame can be built for the head: in service, chain ON, temperature fresh, not in cool-down (R183, R192, R224, R249). -/
def State.headFires (s : State) (h : Fin 64) : Bool :=
  let x := s.heads[h]
  x.inService && x.thermal != .cooldown && !s.tempStale h &&
  match x.chain with | some c => s.chains[c].state == .on | none => false

/-! ### Link load and delivery (R215, R219) -/

/-- Words of a row's line frame (R207). -/
def frameWords (q : Nat) : Nat := 11 + ceilDiv (3 * q) 64

/-- Rows of a head with nozzles, as nozzle counts. -/
def Head.rowList (h : Head) : List Nat := ((List.range 4).map h.nozzles).filter (· ≠ 0)

/-- Raster load in bit/s and word load in words/s of a list of heads (R215). -/
def loadOf (hs : List Head) : Nat × Nat :=
  hs.foldl (fun a h => (a.1 + h.nozzleTotal * 3 * h.fMax, a.2 + (h.rowList.map frameWords).foldl (· + ·) 0 * h.fMax)) (0, 0)

/-- Heads in service numbered from link `l`, in the order of their depth. -/
def State.linkHeads (s : State) (l : Fin 16) : List (Fin 64) :=
  ((fins 64).filter fun h => s.heads[h].link == some l && s.heads[h].inService)

/-- The port that serves a head and its depth from that port (R219, R229). -/
def State.servedBy (s : State) (h : Fin 64) : Fin 16 × Nat :=
  let x := s.heads[h]
  let l := x.link.getD 0
  let p := s.ports[l]
  if s.isDual l ∧ (p.dual = .split ∨ p.dual = .isolated) ∧ p.splitPt ≠ 0 ∧ p.splitPt ≤ x.node then
    let k := ((fins 9).filter fun a => p.nodes[a].present).length
    (Fin.ofNat 16 (l.val + 1), k + 1 - x.node)
  else (l, x.node)

/-- Words of all rows that a port serves. -/
def State.portWords (s : State) (p : Fin 16) : Nat :=
  ((fins 64).filter fun h => s.heads[h].inService && (s.servedBy h).1 == p).foldl
    (fun a h => a + (s.heads[h].rowList.map frameWords).foldl (· + ·) 0) 0

/-- Lead floor of a head in ft: 20 µs and the delivery latency of R219, in exact ns / 0.8, rounded up to a tick. -/
def State.leadFloor (s : State) (h : Fin 64) : Nat :=
  let (p, q) := s.servedBy h
  -- 20 µs + 1,600 ns + B + 150 ns · q, B = words · 3.42 ns; in ft of 0.8 ns
  ceilDiv (2000000 + 160000 + s.portWords p * 342 + 15000 * q) 80

/-- Smallest distance in ft between two lines of a head (R146). -/
def Head.pMin (h : Head) : Nat := ceilDiv 1250000000 h.fMax

end Sys2Proof.Machine
end

