-- ==== Sys2Proof/Machine/Ledger.lean ====
section
/-! DEFINITION. Submission, the sluice, fire reports, outcomes and reject pulses (chapters 2 and 9). -/

namespace Sys2Proof.Machine

/-! ### Submission (R39–R46, R50, R506) -/

/-- Record a submission that gets no slot: its outcome is counted and its notice queued (R50, R506). -/
def State.refuseSlot (s : State) (z : Fin 8) (hostId sid reason : Nat) : State :=
  let s := s.countOutcome z 11 true
  { s with notices := s.notices ++ [{ handle := 0xFFFF, zone := z, hostId, sid,
                                      noSlot := some { code := 11, reason, finalFt := s.ft, op := s.opNow, cal := s.calStamp, loc := s.loc 5 z.val } }] }

/-- A handle that may be referenced: LOADING or RESIDENT (R87). -/
def State.refTplOk (s : State) (h : Nat) : Bool :=
  match s.template? h with | some a => a.st == .loading || a.st == .resident | none => false
def State.refTileOk (s : State) (h : Nat) : Bool :=
  match s.tile? h with | some a => a.st == .loading || a.st == .resident | none => false

/-- Give an item a slot (R43, R44): QUEUED with its references, or rejected as a duplicate (R46). -/
def State.takeSlot (s : State) (it : Item) (slot : Nat) : State × Nat × Nat :=
  let g := if h : slot < 256 then s.gens[slot] else 0
  let dup := (s.zoneItems it.zone).any fun x => x.hostId == it.hostId
  let it := { it with slot, gen := g }
  let s := { s with freeSlots := s.freeSlots.drop 1, slotZone := sset 8 s.slotZone slot it.zone.val }
  if dup then
    let s := { s with items := s.items ++ [it] }
    (s.finish it.handle 11 6, 0xFFFF, 6)
  else
    let it := { it with refs := true, refTpl := it.template ≠ 0xFFFF && s.refTplOk it.template,
                        refTiles := (it.tiles.map (·.tile)).filter s.refTileOk }
    let s := { s with items := s.items ++ [it] }
    ((s.takeRefs it).setHead it.zone, it.handle, 0)

/-- One descriptor, in the order of R506: its handle (0xFFFF if it is rejected at submission, Table 12.9) and the reason of its rejection (0 queued). A
session without role J submits for no host (R343). -/
def State.submit (s : State) (i : Fin 32) (d : Descriptor) : State × Nat × Nat :=
  let x := s.sessions[i]
  let z : Fin 8 := Fin.ofNat 8 (fld d.hdr 8 3)
  let hid := fld d.hdr 32 32
  match parseItem d with
  | none => (s.refuseSlot z hid (s.sid i) 1, 0xFFFF, 1)
  | some it =>
    match s.freeSlots with
    | [] => (s.refuseSlot z hid (s.sid i) 7, 0xFFFF, 7)
    | slot :: _ =>
      if s.zc z 0x13 ≤ (s.zoneItems z).length then (s.refuseSlot z hid (s.sid i) 7, 0xFFFF, 7)
      else s.takeSlot { it with sid := s.sid i, host := if bitOf x.roles 2 then x.hostId else 0 } slot

/-- Body of SUBMIT_REPLY after its transfer handle (Table 12.9). -/
def submitReply (rs : List (Nat × Nat × Nat)) : Nat :=
  packBits ([(32, rs.length)] ++ rs.flatMap fun (hid, h, r) => [(32, hid), (16, h), (8, r), (8, 0)])

/-- SUBMISSION (R506, R335, R341): the next ITEM_SUBMIT of a session whose every earlier message has been received is
delivered, its descriptors in message order, and answered. -/
def execSubmission (t : Nat) (i : Fin 32) (s : State) : Host.Outcome State Fault Refusal :=
  let s := s.begin t
  let x := s.sessions[i]
  match x.subs.find? fun m => m.1 < x.rxCum && x.subs.all fun y => m.1 ≤ y.1 with
  | none => .next s
  | some (n, ds) =>
    let s := s.updSess i fun x => { x with subs := x.subs.filter fun m => m.1 ≠ n }
    let (s, rs) := ds.foldl (fun (a : State × List (Nat × Nat × Nat)) d =>
      let (s, h, r) := a.1.submit i d
      (s, a.2 ++ [(fld d.hdr 32 32, h, r)])) (s, [])
    .next (s.sendSeq i 0x19 (4 + 8 * rs.length) (submitReply rs) [] 0)

/-- Zone of the first descriptor of a message, for the count of stale messages. -/
def descsZone (ds : List Descriptor) : Option (Fin 8) := ds.head?.map fun d => Fin.ofNat 8 (fld d.hdr 8 3)

/-- Count a stale message in a zone's stale-handle count (R335). -/
def State.staleIn (s : State) (z : Option (Fin 8)) : State :=
  match z with
  | some z => s.updZone z fun x => { x with stale := x.stale + 1 }
  | none => s

/-- ITEM_SUBMIT (R341): the message is accepted and held until it may be delivered. COUNT outside 1–64 is malformed. -/
def execItemSubmit (t : Nat) (m : Ktp) (ds : List Descriptor) (s : State) : Host.Outcome State Fault Refusal :=
  let s := s.begin t
  let m := { m with dg := m.dg.only (!ds.isEmpty && decide (ds.length ≤ 64)) }
  match s.sequenced 0x18 m (fun s => s.staleIn (descsZone ds)) with
  | (none, s) => .next s
  | (some (i, n), s) => .next ((s.markRx i n).updSess i fun x => { x with subs := x.subs ++ [(n, ds)] })

/-! ### The sluice (R47–R49) -/

/-- Row offset D(r) in pu (R144). -/
def State.rowOff (s : State) (h : Fin 64) (r : Fin 4) : Int := sx 32 (s.hc h (0x60 + r.val))

/-- Reason with which known_handles fails: UNKNOWN_HANDLE, TILE_INVALID, or 0 (R89). -/
def State.handleReason (s : State) (it : Item) : Nat :=
  let tpl :=
    if it.direct ∨ it.pattern ≠ 0 then 0
    else match s.template? it.template with
      | none => 8
      | some a => if a.st = .invalid ∨ a.st = .free ∨ (a.st = .retiring ∧ ¬ it.refTpl) then 8 else 0
  if tpl ≠ 0 then tpl
  else
    (it.tiles.foldl (fun r e =>
      if r ≠ 0 then r
      else match s.tile? e.tile with
        | none => 8
        | some a =>
          if a.st = .invalid then 20
          else if a.st = .free ∨ (a.st = .retiring ∧ e.tile ∉ it.refTiles) then 8 else 0) 0)

/-- within_geometry (Table 2.4 reason 9, R94, R155, R504). -/
def State.withinGeometry (s : State) (it : Item) : Bool :=
  let z := it.zone
  (s.zc z 0x30 == 0 || it.startRule == 0) &&
  (match s.template? it.template with
   | some a => it.direct || it.pattern != 0 || it.lineCount ≤ tplLines a.hdr
   | none => it.direct || it.pattern != 0) &&
  it.tiles.all fun e =>
    match s.tile? e.tile with
    | none => false
    | some a =>
      e.y < it.lineCount && e.y + tileHeight a.hdr ≤ it.lineCount && e.x + tileWidth a.hdr ≤ s.rasterWidth z &&
      e.planes &&& s.mappedPlanes z == e.planes &&
      (tilePlanes a.hdr == 1 || tilePlanes a.hdr == popBits 8 e.planes)

/-- gate_clear (R48). In a scanning zone the gate is measured in microsteps of the feed axis (R278), and no distance along
the traverse is asked for. -/
def State.gateClear (s : State) (it : Item) : Bool :=
  let z := it.zone
  match s.zoneGate z with
  | none => false
  | some g =>
    s.zc z 0x30 ≠ 0 ||
    let d := ((s.zoneRows z).map fun (h, r) => s.rowOff h r)
    let dmax := match d with | [] => 0 | a :: as => as.foldl max a
    ((s.gatePos g - dmax : Int) : Rat) ≥ (it.lineCount : Rat) * s.pitch z + s.speedBound z s.ft * 1250000

/-- The reason of the first static check that fails, 0 if none does (R48). -/
def State.staticReason (s : State) (it : Item) : Nat :=
  let z := it.zone
  if s.zones[z].owner ≠ some it.host ∨ it.host = 0 then 2
  else if s.zones[z].state ≠ .enabled then 3
  else if (s.zoneHeads z).isEmpty then 4
  else if ¬ s.posValid z then 5
  else if (s.zoneGate z).isNone then 21
  else if s.handleReason it ≠ 0 then s.handleReason it
  else if ¬ s.withinGeometry it then 9
  else if ¬ s.gateClear it then 10
  else if bitOf s.zones[z].quality 0 then 11
  else 0

/-- p_guard (R48): the position that the zone may reach within 100 µs. -/
def State.pGuard (s : State) (z : Fin 8) : Rat := s.posGuard z s.ft + s.speedBound z s.ft * 125000

/-- The origin lies at least the sluice distance beyond p_guard (R48, R51). -/
def State.sluiceOk (s : State) (z : Fin 8) (origin : Int) : Bool :=
  wrapR ((origin : Rat) - s.pGuard z) ≥ (s.zc z 0x12 : Rat) * s.pitch z

/-- Bytes of a plane-line that are stored: its bursts do not overlap. -/
def StreamLine.stored (l : StreamLine) : Nat := (l.parts.map fun p => p.2.length).foldl (· + ·) 0

/-- resident_verified (R90, R105). -/
def State.residentVerified (s : State) (it : Item) : Bool :=
  if it.pattern ≠ 0 then true
  else if it.direct then
    let want := min it.lineCount (s.zc it.zone 0x21)
    let planes := popBits 8 (s.mappedPlanes it.zone)
    let bytes := ceilDiv (s.rasterWidth it.zone) 168 * 64
    (List.range want).all fun n => (List.range planes).all fun q =>
      s.stream.any fun l => l.handle == it.handle && l.plane == q && l.line == n &&
        l.stored == bytes
  else
    (match s.template? it.template with | some a => a.st == .resident || a.st == .retiring | none => false) &&
    it.tiles.all fun e => match s.tile? e.tile with | some a => a.st == .resident || a.st == .retiring | none => false

/-- Stream rate in bit/s of one direct item of a zone (R104). -/
def State.streamRate (s : State) (z : Fin 8) : Rat :=
  (popBits 8 (s.mappedPlanes z) * ceilDiv (s.rasterWidth z) 168 * 512 : Nat) * s.rateBound z

/-- stream_capacity (R104). -/
def State.streamCapacity (s : State) (it : Item) : Bool :=
  let line := ceilDiv (s.rasterWidth it.zone) 168 * 64
  let sum := (s.items.filter fun x => x.direct && x.reserved).foldl (fun a x => a + s.streamRate x.zone) (s.streamRate it.zone)
  sum ≤ 92160000000 && 2 * s.zc it.zone 0x21 * line ≤ s.zc it.zone 0x20 * 1048576 && s.zc it.zone 0x20 ≠ 0

/-- A zone whose admission a waiting commit has stopped (R68, R376). -/
def State.commitHolds (s : State) (z : Fin 8) : Bool :=
  (fins 8).any fun i => s.txs[i].state == 2 && bitOf s.txs[i].waitIdle z.val

/-- The origin of the head item, by its start rule (Table 2.3); none under PITCH without a reference origin. -/
def State.resolveOrigin (s : State) (it : Item) : Option Int :=
  match it.origin with
  | some o => some o
  | none =>
    match it.startRule with
    | 0 => some it.start
    | 1 => s.zones[it.zone].refOrigin.map fun r => pos48 (r + it.start)
    | _ => it.markAt.map fun m => pos48 (m + it.start)

/-- The edges that Table 5.1 requires of a zone to enter TRACKING: from STANDBY 8 forward, the last 6 within the tracking limit;
from SUSPENDED 8 forward and within it. -/
def Zone.edgesReady (x : Zone) : Bool :=
  match x.place with
  | .standby => decide (8 ≤ x.trk.fwd) && decide (6 ≤ x.trk.within)
  | .suspended => decide (8 ≤ x.trk.fwd) && decide (8 ≤ x.trk.within)
  | _ => false

/-- Arm a traverse of an item (R157): H set to the counted position, and the zone tracks if it has the edges for it. -/
def State.armTraverse (s : State) (z : Fin 8) (h : Nat) (t : Int) : State :=
  let c := s.counted z
  s.updZone z fun x =>
    { x with traverse := t, travItem := h, armed := true, hwm := c, place := if x.edgesReady then .tracking else x.place }

/-- A first traverse may be armed at admission (R157): none is armed, no feed move is due or running, and no other item of the zone has a
line left, since items share no traverse (R156). Otherwise it is armed later, as the traverses after it are (DESIGN CHOICE,
notes/assumptions/24). -/
def State.mayArm (s : State) (z : Fin 8) : Bool :=
  !s.zones[z].armed && !s.zones[z].feedDue && !s.zones[z].feedRun && (s.zoneItems z).all fun x => !s.unbuilt x

/-- The item enters the polder at this tick (R48, R53, R157): reserved, its rows with no line composed. -/
def State.admitItem (s : State) (it : Item) (origin : Int) : State :=
  let z := it.zone
  let free := s.mayArm z
  let s := s.updItem it.handle fun x =>
    { x with state := .admitted, reserved := true, origin := some origin,
             prog := (s.zoneRows z).map fun (h, r) => { head := h, row := r, composed := 0, built := 0 } }
  let s := s.updZone z fun x =>
    { x with admitted := x.admitted + 1, zoneEnd := some (pos48 (origin + s.lineOff z (it.lineCount - 1))),
             res := maxRes x.res (s.itemRes it) }
  let s := if s.zc z 0x30 ≠ 0 ∧ free then s.armTraverse z it.handle (s.traverses it).1 else s
  s.setHead z

/-- Have a head item wait, with the reason it would end with. -/
def State.waitItem (s : State) (it : Item) (reason : Nat) : State :=
  s.updItem it.handle fun x => { x with lastWait := reason }

/-- The origin lies before the end of the most recently admitted item plus one line pitch (R48). -/
def State.outOfOrder (s : State) (z : Fin 8) (o : Int) : Bool :=
  match s.zones[z].zoneEnd with
  | some e => decide (wrapR (((o - e : Int) : Rat) - s.pitch z) < 0)
  | none => false

/-- The sluice of R48 for an item whose origin is known. A direct item of a zone without a stream ring waits for its stream
(Table 3.7). -/
def State.sluice (s : State) (it : Item) (o : Int) : State :=
  let z := it.zone
  if s.outOfOrder z o then s.finish it.handle 11 13
  else if ¬ s.sluiceOk z o then s.finish it.handle 11 it.lastWait
  else if it.direct ∧ s.zc z 0x20 = 0 then s.waitItem it 18
  else if ¬ s.residentVerified it then s.waitItem it 15
  else if ¬ s.headsReady z then s.waitItem it 16
  else if it.direct ∧ ¬ s.streamCapacity it then s.waitItem it 18
  else if s.domains[(2 : Fin 11)].state ≠ 2 ∨ ¬ s.loadFits z (maxRes s.zones[z].res (s.itemRes it)) then s.waitItem it 17
  else if s.commitHolds z then s
  else s.admitItem it o

/-- Evaluate the head item of a zone's queue (R47, R48). -/
def State.evaluate (s : State) (z : Fin 8) : State :=
  match (s.queue z).head? with
  | none => s
  | some it =>
    let r := s.staticReason it
    if r ≠ 0 then s.finish it.handle 11 r
    else if it.startRule = 2 ∧ it.markAt.isNone then s
    else
      match s.resolveOrigin it with
      | none => s.finish it.handle 11 12
      | some o =>
        let s := s.updItem it.handle fun x => { x with origin := some o }
        let s := if it.origin.isNone then s.updZone z fun x => { x with refOrigin := some o } else s
        s.sluice { it with origin := some o } o

/-- ADMISSION_EVALUATION (R47, R48): made by K2, while it runs. -/
def execAdmissionEvaluation (t : Nat) (z : Fin 8) (s : State) : Host.Outcome State Fault Refusal :=
  let s := s.begin t
  if s.running 2 then .next (s.evaluate z) else .next s

/-- Lines of an item's mark window (R51). -/
def State.markWindow (s : State) (it : Item) : Nat := if it.markWindow = 0 then s.zc it.zone 0x15 else it.markWindow

/-- The zone's counted position lies beyond the end of the item's mark window (R52). -/
def State.windowPast (s : State) (it : Item) : Bool :=
  match it.markFrom with
  | some f => 0 < wrapR ((s.counted it.zone - f) - (s.markWindow it : Rat) * s.pitch it.zone)
  | none => false

/-- SKIPPED_NO_MARK (R52): decided by K2, while it runs. -/
def execSkippedNoMark (t : Nat) (z : Fin 8) (s : State) : Host.Outcome State Fault Refusal :=
  let s := s.begin t
  match (s.queue z).head? with
  | some it =>
    if s.running 2 ∧ it.startRule = 2 ∧ it.markAt.isNone ∧ s.windowPast it then .next (s.finish it.handle 10 0) else .next s
  | none => .next s

/-! ### Fire reports (R53, R54, R507) -/

/-- The head at a node address of the chain of a port. -/
def State.headAt (s : State) (l : Fin 16) (a : Nat) : Option (Fin 64) :=
  if h : a < 9 then s.ports[s.chainOf l].nodes[(⟨a, h⟩ : Fin 9)].head else none

/-- Node address of a head, and the location code of a missing report (Table 2.13). -/
def State.linkLoc (s : State) (h : Fin 64) (r : Fin 4) : Nat :=
  s.locBMR 13 (s.servedBy h).1.val 63 s.heads[h].node r.val

/-- Location codes of Table 2.13 for a row of a head. -/
def State.fireLoc (s : State) (h : Fin 64) (r : Fin 4) : Nat := s.locBMR 12 h.val 63 1023 r.val

/-- A line that is known not to be fired as composed (R507). -/
def State.lineBad (s : State) (h : Nat) (line : Nat) : State := s.updItem h fun it => it.markBad (line % max 1 it.lineCount)

/-- A snapshot latched and not yet active also takes an increment that is counted after the latch tick, of a happening with an
earlier tick (R456). -/
def Snap.addTo (x : Snap) (n d : Nat) : Snap :=
  if x.active then { x with buf0 := sset 0 x.buf0 n (sget 0 x.buf0 n + d) } else { x with buf1 := sset 0 x.buf1 n (sget 0 x.buf1 n + d) }

/-- The row-line and drop counters of a head (Table 17.4), for a row-line fired at `fire` (R456). -/
def State.latchFired (s : State) (h : Fin 64) (fire drops : Nat) : State :=
  match s.snap.latched with
  | some d => if fire < d then { s with snap := (s.snap.addTo (384 + 8 * h.val) 1).addTo (385 + 8 * h.val) drops } else s
  | none => s

/-- RESULT FIRED or CLAMPED: the head fired the line. -/
def resultFired (result : Nat) : Bool := result == 0 || result == 2

/-- RESULT SUPPLY, LATE, TIME or FAULT: the head suppressed the row-line (Table 7.11); a cancelled one was not suppressed. -/
def resultSuppressed (result : Nat) : Bool := result == 1 || result == 3 || result == 5 || result == 6

/-- What the report of a line that its head fired says of the item: its state (R53, R153). -/
def State.itemFired (s : State) (l : Stamped) (clamped : Bool) : State :=
  match s.item? l.handle with
  | none => s
  | some it =>
    let s := s.updItem l.handle fun x => { x with lastFire := max x.lastFire l.fire }
    let s := if it.state = .admitted then s.updItem l.handle fun x => { x with state := .printing } else s
    let n := l.line % max 1 it.lineCount
    let s := s.updItem l.handle fun x =>
      if x.noticed ∨ x.held then x
      else if clamped ∨ l.void then x.markBad n
      else { x with fired := sset 0 x.fired n (sget 0 x.fired n + 1) }
    if it.state = .admitted ∧ it.revDue then
      s.spoil l.handle 4 (s.loc 11 it.zone.val) none 0 0
    else s

/-- DELIVERED (R53, R63): the last line's reports have arrived from every row that prints it. -/
def State.deliver (s : State) (h : Nat) : State :=
  match s.item? h with
  | none => s
  | some it =>
    if it.state = .printing ∧ it.prog.length * s.totalLines it ≤ it.reported then
      let s := s.updItem h fun x =>
        { x with state := .delivered, reserved := false,
                 outcome := some { code := 0, reason := 0, finalFt := s.ft, op := s.opNow, cal := s.calStamp, loc := 2 ^ 64 - 1 } }
      ((s.countOutcome it.zone 0 true).recomputeRes it.zone).pushNotice it
    else s

/-- What a report says of its item beyond the firing: the spoil cause of a result other than FIRED (R179, R186, R218, R220,
R250), in the location of Table 2.13. A line suppressed as late or without time is a line whose fire report never comes. -/
def State.reportCause (s : State) (h : Fin 64) (r : Fin 4) (l : Stamped) (result : Nat) : State :=
  match result with
  | 1 => s.spoil l.handle 8 (s.fireLoc h r) (some l.line) 0 0
  | 2 => s.spoil l.handle 8 (s.fireLoc h r) (some l.line) 0 0
  | 6 => s.spoil l.handle 2 (s.loc 15 h.val) (some l.line) 0 0
  | _ => s.spoil l.handle 3 (s.linkLoc h r) (some l.line) 0 0

/-- The event of a clamped row-line (R186): the chain's last VPH sample and the row-line's sag. -/
def State.clampEvent (s : State) (h : Fin 64) (r : Fin 4) (l : Stamped) : State :=
  let vph := match s.heads[h].chain with | some c => s.chains[c].vph | none => 0
  s.faultEvent 12 (s.fireLoc h r) (hIdx h) 0x76 2 (vph % 65536 + 65536 * toU 16 l.sag)

/-- The supply word that a row-line latched (R175): the newest one that Table 6.5 has at its depth by the fire instant. -/
def Chain.latched (x : Chain) (depth fire : Nat) : Option Nat :=
  (x.words.find? fun q => decide (q.1 + 325 + ceilDiv (75 * depth) 2 ≤ fire)).map (·.2)

/-- The codes and trim classes of the nozzles that a row-line fires. -/
def Head.firing (x : Head) (r w : Nat) : List (Nat × Nat) :=
  (((List.range (x.nozzles r)).filter fun j => fld w (3 * j) 3 != 0).map fun j =>
    (fld w (3 * j) 3, fld x.trim (4 * (x.nozzleBase r + j)) 4)).eraseDups

/-- The widths of a fired row-line, computed from the words sent (R175). -/
def State.mirrorOf (s : State) (h : Fin 64) (r : Fin 4) (l : Stamped) : Option Mirror :=
  let x := s.heads[h]
  match x.chain with
  | none => none
  | some c =>
    match s.chains[c].latched l.depth l.fire with
    | none => none
    | some w =>
      let ws := (x.firing r.val l.codes).flatMap fun q =>
        (List.range (recSubs (x.record q.1))).map fun j =>
          let p := pulseWidth (subEnergy (x.record q.1) j) x.rNom (l.factors.getD q.2 0) x.wMin x.wMax (fld w 0 16) l.sag
          ((q.1, j, q.2, p.1), p.2)
      some { fire := l.fire, word := w, widths := ws.map (·.1), clamped := ws.any (·.2) }

/-- What a report counts for its head (Table 6.9, R186): a fired line with its widths and drops, a clamp with its event, a
suppressed row-line. A clamp has its event also where the line is a void line, which is lost without spoiling its item (R58), and
where the item's notice has been handed over. -/
def State.headCounts (s : State) (h : Fin 64) (r : Fin 4) (l : Stamped) (result : Nat) : State :=
  if resultFired result then
    let m := s.mirrorOf h r l
    let s := s.updRow h r fun x =>
      { x with mirror := m, lastFire := max x.lastFire l.fire, lastEnd := max x.lastEnd l.lastSeg }
    let s := if result = 2 then s.clampEvent h r l else s
    let s := s.latchFired h l.fire l.drops
    s.updHead h fun x =>
      { x with linesFired := x.linesFired + 1, dropsFired := wordAfter (.add64 l.drops) x.dropsFired,
               clamped := x.clamped + b2n (result == 2) }
  else if resultSuppressed result then s.updHead h fun x => { x with suppressed := x.suppressed + 1 }
  else s

/-- A report for a line that is stamped. -/
def State.reportLine (s : State) (h : Fin 64) (r : Fin 4) (l : Stamped) (result : Nat) : State :=
  let s := s.headCounts h r l result
  let s := s.updRow h r fun x =>
    { x with stamped := x.stamped.filter (fun y => y ≠ l), lastFire := max x.lastFire l.fire,
               lastEnd := max x.lastEnd l.lastSeg }
  let before := s.item? l.handle
  let s := if resultFired result then s.itemFired l (result = 2) else s
  match before with
  | none => s
  | some it =>
    if it.noticed ∨ it.held then { s with lateReports := s.lateReports + 1 }
    else
      let s := s.updItem l.handle fun x => { x with reported := x.reported + 1 }
      let s := if result = 0 then s else s.lineBad l.handle l.line
      let s := if result = 0 ∨ l.void then s else s.reportCause h r l result
      s.deliver l.handle

/-- A report for a line that was withdrawn (R221): FIRED at the withdrawn instant spoils its item with SPOILED_LINK; a clamped one
meets the cause of R186 on the same tick. A report that comes after the notice was handed over is only counted (R54). -/
def State.reportWithdrawn (s : State) (h : Fin 64) (r : Fin 4) (w : Withdrawn) (result : Nat) : State :=
  let s := s.updRow h r fun x => { x with withdrawn := x.withdrawn.filter fun y => y ≠ w }
  let s := s.headCounts h r w.toStamped result
  match s.item? w.handle with
  | none => s
  | some it =>
    if it.noticed ∨ it.held then { s with lateReports := s.lateReports + 1 }
    else if ¬ resultFired result ∨ w.void then s
    else
      let s := s.spoil w.handle 3 (s.linkLoc h r) (some w.line) 0 0
      if result = 2 then s.spoil w.handle 8 (s.fireLoc h r) (some w.line) 0 0 else s

/-- FIRE_REPORT (R53, R54, R205): a report whose frame fails its checks is discarded and counted, and so is one with a stale handle
(R45). -/
def execFireReport (t : Nat) (l : Fin 16) (rep : FireRep) (s : State) : Host.Outcome State Fault Refusal :=
  let s := s.begin t
  if !rep.ok then .next (s.updPort l fun p => { p with discards := p.discards + 1 })
  else
    match s.headAt l rep.addr with
    | none => .next s
    | some h =>
      let r : Fin 4 := Fin.ofNat 4 rep.row
      match s.item? rep.handle with
      | none => .next (s.countStale rep.handle)
      | some it =>
        let same := fun (line fire : Nat) => line % max 1 it.lineCount == rep.line && fire == rep.fireFt
        let s := match s.heads[h].rows[r].stamped.find? fun y =>
            y.handle == rep.handle && y.void == rep.void && same y.line y.fire with
          | some y => s.reportLine h r y rep.result
          | none =>
            match s.heads[h].rows[r].withdrawn.find? fun (y : Withdrawn) => y.handle == rep.handle && same y.line y.fire with
            | some w => s.reportWithdrawn h r w rep.result
            | none => s
        .next (s.settle it.zone)

/-- FIRE_REPORT_TIMEOUT (R54): a line of the row whose report has not arrived 100 µs after its fire instant. The line is then
neither reported nor known to be bad, so neither figure of R507 takes it (notes/assumptions/42). -/
def execFireReportTimeout (t : Nat) (h : Fin 64) (r : Fin 4) (s : State) : Host.Outcome State Fault Refusal :=
  let s := s.begin t
  match s.heads[h].rows[r].stamped.find? fun l => !l.missed && decide (l.fire + usFt 100 ≤ s.ft) with
  | none => .next s
  | some l =>
    let s := s.updRow h r fun x =>
      { x with stamped := x.stamped.map fun y => if y = l then { y with missed := true } else y }
    if l.void then .next s
    else
      let s := s.spoil l.handle 3 (s.linkLoc h r) none 0 0
      match s.item? l.handle with
      | some it => .next (s.settle it.zone)
      | none => .next s

/-! ### Notices (R63–R66, R507) -/

/-- LINES_FIRED and FIRST_BAD_LINE of an item as they stand (R507). From the switch to void of R58 on, no line that is still
to be built is fired as composed. -/
def State.lineFigures (s : State) (it : Item) : Nat × Nat :=
  match it.outcome with
  | some o =>
    if o.code = 0 then (it.lineCount, 0xFFFFFF)
    else if 10 ≤ o.code then (0, 0xFFFFFF)
    else
      let bad := if o.finalFt + usFt 2 ≤ s.ft then (it.markAllLeft (s.totalLines it)).badLine else it.badLine
      (s.linesFired it, bad.getD 0xFFFFFF)
  | none => (s.linesFired it, 0xFFFFFF)

/-- The session to which an outcome goes (R64): the item's own while it is open, else the one that acts for the zone's owner.
A field network carries no OUTCOME (R364). -/
def State.noticeSession (s : State) (n : Notice) : Option (Fin 32) :=
  match s.sess? n.sid with
  | some i => if s.sessions[i].port < 4 then some i else none
  | none =>
    match s.actingSession n.zone with
    | some i => if s.sessions[i].port < 4 then some i else none
    | none => none

/-- Severity of an ITEM_OUTCOME record (R443). -/
def outcomeSeverity (code : Nat) : Nat := if code = 0 ∨ code = 11 then 0 else 1

/-- The ITEM_OUTCOME record (R443), with the stamps of the outcome (R441). -/
def State.outcomeEvent (s : State) (z : Fin 8) (h hostId : Nat) (o : Outcome) (bad fired sess role : Nat) : State :=
  s.addEvent { tick := o.finalFt, opSeconds := o.op, powerCycles := s.powerCycles, calendar := o.cal, code := 0x2810,
               cls := (evClass 0x2810).1, sev := outcomeSeverity o.code, session := if role = 0 then 0 else sess, role, loc := s.loc 5 z.val,
               payload := packBits (itemPayload h hostId o.code o.reason bad fired o.loc o.finalFt) }

/-- The record of a final item (Table 2.8). -/
def Item.record (it : Item) (o : Outcome) : Nat :=
  outcomeRecord it.handle it.zone.val o.code it.hostId o.reason it.handedBad it.handedFired o.finalFt o.loc it.origin

/-- OUTCOME message of one record (R342). -/
def outcomeBody (rec : Nat) : Nat := packBits [(32, 1), (320, rec)]

/-- Hand one notice to its session, or hold it in its ledger slot. A submission without a slot has nowhere to hold it. -/
def State.handNotice (s : State) (n : Notice) : State :=
  match n.noSlot with
  | some o =>
    let s := s.outcomeEvent n.zone 0xFFFF n.hostId o 0xFFFFFF 0 0 0
    match s.noticeSession n with
    | some i =>
      { s.sendSeq i 0x1B 44 (outcomeBody (outcomeRecord 0xFFFF n.zone.val o.code n.hostId o.reason 0xFFFFFF 0 o.finalFt o.loc none))
          [] n.zone.val with noticesSent := s.noticesSent + 1 }
    | none => s
  | none =>
    match s.item? n.handle with
    | none => s
    | some it =>
      match it.outcome with
      | none => s
      | some o =>
        let (fired, bad) := s.lineFigures it
        let to_ := s.noticeSession n
        let s := s.updItem n.handle fun x =>
          { x with handedFired := fired, handedBad := bad, noticed := to_.isSome, held := to_.isNone }
        let s := s.outcomeEvent n.zone n.handle n.hostId o bad fired it.bySession it.byRole
        match to_ with
        | some i =>
          let s := { s.sendSeq i 0x1B 44 (outcomeBody (({ it with handedFired := fired, handedBad := bad } : Item).record o))
                       [n.handle] n.zone.val with noticesSent := s.noticesSent + 1 }
          s.settle n.zone
        | none => s.settle n.zone

/-- OUTCOME_NOTICE (R64): the oldest final outcome that waits is handed over. -/
def execOutcomeNotice (t : Nat) (s : State) : Host.Outcome State Fault Refusal :=
  let s := s.begin t
  match s.notices with
  | [] => .next s
  | n :: rest => .next ({ s with notices := rest }.handNotice n)

/-- Zone and handle of an outcome record. -/
def recZone (r : Nat) : Nat := fld r 16 3
def recHandle (r : Nat) : Nat := fld r 0 16

/-- The record that a read of 0x2400.02 returns for a handle (Table 2.10). -/
def State.outcomeRead (s : State) (h : Nat) : Nat :=
  match s.item? h with
  | none => (s.heldOut.find? fun r => recHandle r == h).getD (outcomeRecord 0xFFFF 0 15 0 0 0 0 0 0 (some 0))
  | some it =>
    match it.outcome with
    | some o =>
      let (fired, bad) := if it.noticed ∨ it.held then (it.handedFired, it.handedBad) else s.lineFigures it
      ({ it with handedFired := fired, handedBad := bad } : Item).record o
    | none =>
      outcomeRecord it.handle it.zone.val 15 it.hostId 0 0xFFFFFF (s.linesFired it) 0 (2 ^ 64 - 1) it.origin

/-- The handle that a session has selected (0x2400.03); a stale one reads 0xFFFF. -/
def State.outcomeSelect (s : State) (i : Fin 32) : Nat :=
  let h := sget 0xFFFF s.sessions[i].selects (objKey 0x2400 0x03)
  if (s.item? h).isSome || s.heldOut.any fun r => recHandle r == h then h else 0xFFFF

/-- A read answers the bytes asked for; length 0 asks for all from the offset up to 1,024 (Table 13.4). -/
def readBlob (r : Resp) (size off len data : Nat) : Resp :=
  let n := if len = 0 then min 1024 (size - off) else len
  if size < off + n then { r with code := abOffset }
  else { r with state := off, size, data := fld data (8 * off) (8 * n), dlen := n }

/-- A session has read the outcome of an item: one held in its ledger slot is held no more (R64, R74). -/
def State.outcomeTaken (s : State) (h : Nat) : State :=
  match s.item? h with
  | some it => if it.held then (s.updItem h fun x => { x with held := false, noticed := true }).settle it.zone else s
  | none => { s with heldOut := s.heldOut.filter fun r => recHandle r != h }

/-- ITEM_OUTCOME_READ (R64): the read answers the record, and a held item may be released. -/
def execItemOutcomeRead (t : Nat) (k : Kop) (s : State) : Host.Outcome State Fault Refusal :=
  let s := s.begin t
  match s.arrive (.itemOutcomeRead t k) k with
  | (none, s) => .next s
  | (some w, s) =>
    if !k.names 1 0x2400 0x02 then .next s
    else if s.sessions[w].roles &&& 15 = 0 then .next (s.respond w (s.plainResp k abRole))
    else
      let h := s.outcomeSelect w
      let r := readBlob (s.plainResp k 0) 40 k.off k.len (s.outcomeRead h)
      let s := s.respond w r
      if r.code = 0 then .next (s.outcomeTaken h) else .next s

/-! ### Reject pulses (R276–R278) -/

/-- The position origin + G is reached within the gate lead, or has been reached (R276). -/
def State.gateDue (s : State) (g : Fin 8) (it : Item) : Bool :=
  s.leadAtGate it ||
  (s.zc it.zone 0x30 == 0 &&
   match it.origin with
   | some o =>
     let (p, v) := s.estimate it.zone s.ft
     decide (0 < v) &&
       decide (roundR (wrapR (((o + s.gatePos g : Int) : Rat) - p) / v) ≤ (usFt (s.gc g 0x02) : Int))
   | none => false)

/-- REJECT_ASSERT (R276, R278): not while the output is held, and once for each spoiled item. -/
def execRejectAssert (t : Nat) (z : Fin 8) (handle : Nat) (s : State) : Host.Outcome State Fault Refusal :=
  let s := s.begin t
  match s.zoneGate z, s.item? handle with
  | some g, some it =>
    if it.zone = z ∧ (it.state = .spoiled ∨ it.state = .spoiledTail) ∧ ¬ it.pulsed ∧ ¬ it.gone ∧ ¬ s.zones[z].hold ∧
        s.gateDue g it then
      .next ((s.assertGate g handle).settle z)
    else .next s
  | _, _ => .next s

/-- A pulse need no longer hold the output: the zone's counted position has passed the trailing-edge gate position plus the
extension (R276). -/
def State.pulseOver (s : State) (p : Pulse) : Bool :=
  match p.ends with
  | none => true
  | some e => s.reached p.zone e

/-- Release the tests of outputs that belong to no zone (R279). -/
def State.endTests (s : State) : State :=
  ((fins 8).filter fun g => s.gates[g].test && (s.gateZone g).isNone && decide (s.gates[g].minEnd ≤ s.ft)).foldl (fun s g =>
    (s.updGate g fun y => { y with asserted := false, handles := [], test := false }).gateOut g false) s

/-- REJECT_RELEASE (R276–R279). -/
def execRejectRelease (t : Nat) (z : Fin 8) (s : State) : Host.Outcome State Fault Refusal :=
  let s := (s.begin t).endTests
  match s.zoneGate z with
  | none => .next s
  | some g =>
    let x := s.gates[g]
    if x.asserted ∧ ¬ s.zones[z].hold ∧ x.minEnd ≤ s.ft ∧ x.handles.all s.pulseOver then
      let s := s.updGate g fun y => { y with asserted := false, handles := [], test := false }
      let s := if s.zc z 0x30 = 0 then s
        else x.handles.foldl (fun s p => s.updItem p.handle fun it => { it with gone := true }) s
      .next ((s.gateOut g false).settle z)
    else .next s

end Sys2Proof.Machine
end

