-- ==== Sys2Proof/Machine/Zones.lean ====
section
/-! DEFINITION. Zone control, item abort and the reject hold (R69–R73). -/

namespace Sys2Proof.Machine

/-- Reject every queued item of a zone with ZONE_DISABLED (Table 2.9). -/
def State.rejectQueue (s : State) (z : Fin 8) : State :=
  (s.queue z).foldl (fun s it => s.finish it.handle 11 3) s

/-- Discard the outcomes held for a zone, and release their slots (R64, R69). -/
def State.discardHeld (s : State) (z : Fin 8) : State :=
  let s := { s with heldOut := s.heldOut.filter fun r => recZone r != z.val }
  (((s.zoneItems z).filter fun it => it.held).foldl (fun s it => s.releaseSlot it.handle) s).settle z

/-- ENABLE (R69, R424, R476, R478). -/
def State.enableZone (s : State) (z : Fin 8) : State × CmdRes :=
  if s.lifeCycle = 0 ∨ s.lifeCycle = 4 then (s, .refuse abLifeCycle)
  else if s.zones[z].state = .aborting ∨ s.devState ≠ 1 then (s, .refuse abWork)
  else
    match s.zones[z].state with
    | .enabled => (s, .done)
    | .aborting => (s, .refuse abWork)
    | st =>
      if s.zoneReady z ≠ 0 then (s, .refuse abConfig)
      else
        let s := s.setZoneState z .enabled
        if st = .disabled then
          let c := s.counted z
          ((s.updZone z fun x => { x with refOrigin := none, hwm := c }).discardHeld z, .done)
        else (s, .done)

/-- DRAIN (Table 2.9). -/
def State.drainZone (s : State) (z : Fin 8) : State :=
  if s.zones[z].state = .enabled then (s.setZoneState z .draining).rejectQueue z else s

/-- ABORT (R70): every item in the polder is spoiled on this tick, with the writing session as origin. -/
def State.abortZone (s : State) (z : Fin 8) (who : Who) : State :=
  if s.zones[z].state = .enabled ∨ s.zones[z].state = .draining then
    let s := (s.setZoneState z .aborting).rejectQueue z
    let go := (s.zoneItems z).filter s.unsettled
    let s := go.foldl (fun s it => s.spoil it.handle 5 (s.loc 5 z.val) none who.sess.val who.role) s
    s.settle z
  else s

/-- ZONE_ENABLE (R69). -/
def execZoneEnable (t : Nat) (k : Kop) (z : Fin 8) (s : State) : Host.Outcome State Fault Refusal :=
  .next ((s.begin t).command (.zoneEnable t k z) k (zIdx z) 0x11 1 fun s _ => s.enableZone z)

/-- ZONE_DRAIN (R69). -/
def execZoneDrain (t : Nat) (k : Kop) (z : Fin 8) (s : State) : Host.Outcome State Fault Refusal :=
  .next ((s.begin t).command (.zoneDrain t k z) k (zIdx z) 0x11 2 fun s _ => (s.drainZone z, .done))

/-- ZONE_ABORT (R70). -/
def execZoneAbort (t : Nat) (k : Kop) (z : Fin 8) (s : State) : Host.Outcome State Fault Refusal :=
  .next ((s.begin t).command (.zoneAbort t k z) k (zIdx z) 0x11 3 fun s w => (s.abortZone z w, .done))

/-- ZONE_DRAIN_COMPLETE (Table 2.9): a DRAINING or ABORTING zone whose polder is empty. -/
def execZoneDrainComplete (t : Nat) (z : Fin 8) (s : State) : Host.Outcome State Fault Refusal :=
  let s := s.begin t
  if (s.zones[z].state = .draining ∨ s.zones[z].state = .aborting) ∧ (s.polder z).isEmpty then
    .next (s.setZoneState z (if (s.tracked z).isEmpty then .disabled else .tail))
  else .next s

/-- End the reject hold of a zone (R72), with its event: the number of items taken as having left the machine follows the
fields of REJECT_HOLD. The output falls unless a pulse still holds it. -/
def State.releaseHold (s : State) (z : Fin 8) (taken : Nat) : State :=
  match s.zoneGate z with
  | none => s.updZone z fun x => { x with hold := false, lossItems := [] }
  | some g =>
    let s := (s.passGate z).updZone z fun x => { x with hold := false, lossItems := [] }
    let keep := !(s.gates[g].handles.all s.pulseOver) || decide (s.ft < s.gates[g].minEnd)
    let s := s.updGate g fun x => { x with hold := false, asserted := keep, handles := if keep then x.handles else [] }
    let s := if keep then s else s.gateOut g false
    (s.event 0x2813 (s.loc 16 (32 + g.val)) [(8, 0), (8, g.val), (16, taken)]).settle z

/-- Items tracked at the loss that have not been shown past the gate. -/
def State.lossLeft (s : State) (z : Fin 8) : List Nat :=
  s.zones[z].lossItems.filter fun h => match s.item? h with | some it => !(s.trailPast it) | none => false

/-- REJECT_HOLD_CLEAR (R72): the items not shown past the gate are taken as having left the machine. -/
def execRejectHoldClear (t : Nat) (k : Kop) (z : Fin 8) (s : State) : Host.Outcome State Fault Refusal :=
  .next ((s.begin t).command (.rejectHoldClear t k z) k (zIdx z) 0x16 1 fun s _ =>
    if s.zones[z].hold then
      let left := s.lossLeft z
      let s := left.foldl (fun s h => s.updItem h fun it => { it with gone := true }) s
      (s.releaseHold z left.length, .done)
    else (s, .done))

/-- Whether role J alone of a session that does not act for the owner would act on the zone (R344). -/
def State.jobOnly (s : State) (z : Fin 8) (i : Fin 32) : Bool :=
  let x := s.sessions[i]
  s.zones[z].owner.isSome && !s.hostActs z x.hostId x.roles && !bitOf x.roles 3 && !bitOf x.roles 1

/-- Abort one item (R73). -/
def State.abortItem (s : State) (h : Nat) (w : Who) : State × CmdRes :=
  match s.item? h with
  | none => (s.countStale h, .refuse abStale)
  | some it =>
    if s.jobOnly it.zone w.sess then (s, .refuse abNotOwner)
    else if it.state = .queued then (s.finish h 11 19, .done)
    else if it.inPolder then
      ((s.spoil h 5 (s.loc 5 it.zone.val) none w.sess.val w.role).settle it.zone, .done)
    else (s, .refuse abFinal)

/-- ITEM_ABORT (R73). -/
def execItemAbort (t : Nat) (k : Kop) (h : Nat) (s : State) : Host.Outcome State Fault Refusal :=
  .next ((s.begin t).command (.itemAbort t k h) k 0x2400 0x01 h fun s w => s.abortItem h w)

end Sys2Proof.Machine
end

