-- ==== Sys2Proof/Machine/Dram.lean ====
section
/-! DEFINITION. External DRAM: bytes of the two channels, the regions of Table 3.1, placement of templates (R80), tiles and
stream lines. An unlisted byte reads 0 (notes/assumptions/14). -/

namespace Sys2Proof.Machine

/-- The canonical form of a DRAM channel. -/
abbrev Memory.wf (m : List Host.Cell) : Prop := smapWf 0 m

def dramGet (m : List Host.Cell) (a : Nat) : Nat := (sget 0 m a).toNat
def dramPut (m : List Host.Cell) (a b : Nat) : List Host.Cell := sset 0 m a (BitVec.ofNat 8 b)

/-- Bytes from an address. -/
def dramBytes (m : List Host.Cell) (a n : Nat) : List Nat := (List.range n).map fun i => dramGet m (a + i)

/-- Write a byte string. -/
def dramWrite (m : List Host.Cell) (a : Nat) : List Nat → List Host.Cell
  | [] => m
  | b :: bs => dramWrite (dramPut m a b) (a + 1) bs

/-- The 64-bit word at an address. -/
def dramWord (m : List Host.Cell) (a : Nat) : Nat := ofBytes (dramBytes m a 8)

def State.chanBytes (s : State) (ch a n : Nat) : List Nat := dramBytes s.dram[(Fin.ofNat 2 ch)] a n
def State.chanWord (s : State) (ch a : Nat) : Nat := dramWord s.dram[(Fin.ofNat 2 ch)] a
def State.chanWrite (s : State) (ch a : Nat) (bs : List Nat) : State :=
  { s with dram := vupd s.dram (Fin.ofNat 2 ch) fun m => dramWrite m a bs }

/-- Replace bit 63 of a word by even parity (R79). -/
def State.parityAt (s : State) (ch a : Nat) : State := s.chanWrite ch a (leBytes 8 (evenParity (s.chanWord ch a)))

/-! ### Regions (R75, R76): the half on each channel, in bytes -/

def mib : Nat := 1048576

/-- Stream rings of the zones below `n`, MiB. -/
def State.ringsMib (s : State) (n : Nat) : Nat := (((fins 8).filter fun z => z.val < n).map fun z => s.zc z 0x20).foldl (· + ·) 0

def State.ringBase (s : State) (z : Fin 8) : Nat := (256 + s.ringsMib z.val) * mib / 2
def State.ringEnd (s : State) (z : Fin 8) : Nat := (256 + s.ringsMib (z.val + 1)) * mib / 2
def State.tileBase (s : State) : Nat := (256 + s.ringsMib 8) * mib / 2
def State.tplBase (s : State) : Nat := s.tileBase + s.oget 0x2800 0x01 * mib / 2
def State.tplEnd (s : State) : Nat := s.power.dramMib * mib / 2

/-- Round up to 4 KiB. -/
def up4k (n : Nat) : Nat := (n + 4095) / 4096 * 4096

/-- First fit: the lowest aligned address from `base` to `fin` with `len` free bytes, clear of the spans used. -/
def firstFit (base fin len : Nat) (used : List (Nat × Nat)) : Option Nat :=
  let free := fun a => a + len ≤ fin && used.all fun u => u.2 = 0 || a + len ≤ u.1 || u.1 + u.2 ≤ a
  let starts := (up4k base) :: (used.map fun u => up4k (u.1 + u.2)).filter (base ≤ ·)
  (starts.filter free).foldl (fun m a => match m with | none => some a | some b => some (min a b)) none

/-- Bytes of a plane-line of a given width (R79). -/
def lineBytes (width : Nat) : Nat := ceilDiv width 168 * 64

/-- Bytes of a template on a channel (R80): whole bands of 16 lines, band `b` on channel `b mod 2`. -/
def tplBytes (h ch : Nat) : Nat :=
  let bands := ceilDiv (tplLines h) 16
  let bb := 16 * popBits 8 (tplMask h) * lineBytes (tplWidth h)
  (if ch = 0 then (bands + 1) / 2 else bands / 2) * bb

/-- word_address of R80, in bytes: channel and address of byte `i` of plane rank `q` of line `n`. -/
def tplAddr (a : Asset) (q n i : Nat) : Nat × Nat :=
  let p := popBits 8 (tplMask a.hdr)
  let lb := lineBytes (tplWidth a.hdr)
  let band := n / 16
  (band % 2, (if band % 2 = 0 then a.base0 else a.base1) + band / 2 * (16 * p * lb) + (n % 16 * p + q) * lb + i)

/-- Where byte `o` of the data of a template as sent lies (R79): channel and address. -/
def tplDataAddr (a : Asset) (o : Nat) : Nat × Nat :=
  let p := popBits 8 (tplMask a.hdr)
  let lb := lineBytes (tplWidth a.hdr)
  tplAddr a (o / lb % p) (o / lb / p) (o % lb)

/-- Space for a template: its bases. -/
def State.allocTemplate (s : State) (hdr : Nat) : Option (Nat × Nat) :=
  let fit := fun ch =>
    firstFit s.tplBase s.tplEnd (tplBytes hdr ch)
      (s.templates.map fun a => if ch = 0 then (a.base0, a.len0) else (a.base1, a.len1))
  match fit 0, fit 1 with
  | some a, some b => some (a, b)
  | _, _ => none

/-- Spans that tiles hold on a channel: data on their own, line indexes on the other (R76). -/
def State.tileSpans (s : State) (ch : Nat) : List (Nat × Nat) :=
  s.tiles.map fun a => if a.ch = ch then (a.base0, a.len0) else (a.base1, a.len1)

/-- Space for a tile: its data on the channel with more free space (channel 0 on a tie), its line index on the other. -/
def State.allocTile (s : State) (hdr : Nat) : Option (Nat × Nat × Nat) :=
  let held := fun ch => ((s.tileSpans ch).map (·.2)).foldl (· + ·) 0
  let ch := if held 1 < held 0 then 1 else 0
  match firstFit s.tileBase s.tplBase (tileLength hdr) (s.tileSpans ch),
        firstFit s.tileBase s.tplBase (8 * tilePlanes hdr * tileHeight hdr) (s.tileSpans (1 - ch)) with
  | some a, some b => some (ch, a, b)
  | _, _ => none

/-- Offset of plane rank `q` of line `n` in its band of a stream ring: the template layout of R80. -/
def State.bandOff (s : State) (z : Fin 8) (q n : Nat) : Nat :=
  (n % 16 * popBits 8 (s.mappedPlanes z) + q) * lineBytes (s.rasterWidth z)

/-- Where the band of a stored plane-line begins. -/
def State.bandBase (s : State) (l : StreamLine) : Nat := l.base - s.bandOff l.zone l.plane l.line

/-- Place in a zone's ring for plane rank `q` of line `n` of an item (R103): in the band of 16 lines that the item holds already, or
in a whole band at the lowest free place of the band's channel. -/
def State.allocStream (s : State) (z : Fin 8) (handle q n : Nat) : Option Nat :=
  let ch := s.stream.filter fun l => l.zone == z && l.line / 16 % 2 == n / 16 % 2
  match ch.find? fun l => l.handle == handle && l.line / 16 == n / 16 with
  | some l => some (s.bandBase l + s.bandOff z q n)
  | none =>
    let bb := s.bandOff z 0 15 + popBits 8 (s.mappedPlanes z) * lineBytes (s.rasterWidth z)
    let used := ch.map fun l => (s.bandBase l, bb)
    let free := fun a => a + bb ≤ s.ringEnd z && used.all fun u => a + bb ≤ u.1 || u.1 + u.2 ≤ a
    let starts := (s.ringBase z) :: used.map fun u => u.1 + u.2
    ((starts.filter free).foldl (fun m a => match m with | none => some a | some b => some (min a b)) none).map
      (· + s.bandOff z q n)

/-- A bit of DRAM changes by itself (R108): in the bytes of the channel, or in the stream line that lies there. -/
def State.flip (s : State) (f : BitFlip) : State :=
  let bit := 2 ^ (f.bit % 8)
  let lbz := fun (l : StreamLine) => lineBytes (s.rasterWidth l.zone)
  if s.stream.any fun l => l.line / 16 % 2 == f.ch % 2 && l.base ≤ f.addr && f.addr < l.base + lbz l then
    { s with stream := s.stream.map fun l =>
        if l.line / 16 % 2 = f.ch % 2 ∧ l.base ≤ f.addr ∧ f.addr < l.base + lbz l then
          let o := f.addr - l.base
          { l with parts := l.parts.map fun p =>
              if p.1 ≤ o ∧ o < p.1 + p.2.length then (p.1, p.2.modify (o - p.1) fun b => b ^^^ bit) else p }
        else l }
  else s.chanWrite f.ch f.addr [(s.chanBytes f.ch f.addr 1).headD 0 ^^^ bit]

end Sys2Proof.Machine
end

