-- ==== Sys2Proof/Machine/Tiles.lean ====
section
/-! DEFINITION. Kuica tile code (R91, R92), the line index (R85) and the verification of a tile. -/

namespace Sys2Proof.Machine

/-- One decoded plane-line: whether it is a REP, its pixels (`none` skipped), its opcodes, its bytes. -/
structure TLine where
  rep  : Bool
  px   : List (Option Nat)
  ops  : Nat
  used : Nat
  deriving DecidableEq, Repr

/-- Codes of `n` pixels packed 3 bits each. -/
def litCodes (w : Nat) (n : Nat) : List (Option Nat) := (List.range n).map fun i => some (fld w (3 * i) 3)

/-- Decode one plane-line from the head of `bs`; `none` on a malformed condition. `l.used` counts the bytes taken. -/
def decodeLine : Nat → List Nat → Nat → TLine → Option TLine
  | 0, _, _, _ => none
  | f + 1, bs, left, l =>
    if left = 0 then some l
    else
      match bs with
      | [] => none
      | b :: rest =>
        if b < 64 then
          let n := b + 1
          let k := ceilDiv (3 * n) 8
          let w := ofBytes (rest.take k)
          if rest.length < k ∨ w / 2 ^ (3 * n) ≠ 0 ∨ left < n then none
          else decodeLine f (rest.drop k) (left - n) { l with px := l.px ++ litCodes w n, ops := l.ops + 1, used := l.used + 1 + k }
        else if b < 192 then
          match rest with
          | [] => none
          | m :: rest =>
            let n := (if b < 128 then b % 8 else b % 64) * 256 + m % 256 + 1
            let px : Option Nat := if b < 128 then some (b / 8 % 8) else none
            if left < n then none
            else decodeLine f rest (left - n) { l with px := l.px ++ List.replicate n px, ops := l.ops + 1, used := l.used + 2 }
        else if b = 0xC0 then some { l with px := l.px ++ List.replicate left none, ops := l.ops + 1, used := l.used + 1 }
        else if b = 0xC1 ∧ l.ops = 0 then some { l with rep := true, ops := 1, used := l.used + 1 }
        else none

def TLine.zero : TLine := { rep := false, px := [], ops := 0, used := 0 }

/-- Decode one plane-line of a tile of width `w`. -/
def decodeTileLine (bs : List Nat) (w : Nat) : Option TLine := decodeLine (w + 2) bs w TLine.zero

/-- Line index of a whole tile: (offset, length, CRC-16) for each plane-line; `none` where the data are malformed (R92). -/
def indexTile (w planes maxOps maxBytes : Nat) : Nat → Nat → Nat → List Nat → Option (List (Nat × Nat × Nat))
  | 0, _, _, bs => if bs.isEmpty then some [] else none
  | k + 1, i, off, bs =>
    match decodeTileLine bs w with
    | none => none
    | some l =>
      if (l.rep ∧ i < planes) ∨ maxOps < l.ops ∨ maxBytes < l.used then none
      else
        match indexTile w planes maxOps maxBytes k (i + 1) (off + l.used) (bs.drop l.used) with
        | none => none
        | some es => some ((off, l.used, crc16 (bs.take l.used)) :: es)

/-- The plane-lines of a tile decode, with no line beyond the header's limits (R85, R92). -/
def tileLimitsOk (w planes : Nat) : Nat → Nat → List Nat → Bool
  | 0, _, bs => bs.isEmpty
  | k + 1, i, bs =>
    match decodeTileLine bs w with
    | none => false
    | some l => !(l.rep && i < planes) && tileLimitsOk w planes k (i + 1) (bs.drop l.used)

/-- The line index as bytes (R85). -/
def indexBytes (es : List (Nat × Nat × Nat)) : List Nat :=
  es.flatMap fun (o, n, c) => leBytes 8 (packBits [(32, o), (16, n), (16, c)])

/-- Data bytes of a tile as stored. -/
def State.tileData (s : State) (a : Asset) : List Nat := s.chanBytes a.ch a.base0 (tileLength a.hdr)

/-- One plane-line of a tile as composition reads it (R108): checked against its CRC-16 and decoded, through REP to the line
above; `none` on a tile data error. -/
def State.tileLine (s : State) (a : Asset) (cp : Nat) : Nat → Option (List (Option Nat))
  | 0 =>
    let e := s.chanWord (1 - a.ch) (a.base1 + 8 * cp)
    let bs := s.chanBytes a.ch (a.base0 + fld e 0 32) (fld e 32 16)
    if crc16 bs ≠ fld e 48 16 then none
    else
      match decodeTileLine bs (tileWidth a.hdr) with
      | some l => if l.rep ∨ l.used ≠ bs.length then none else some l.px
      | none => none
  | y + 1 =>
    let e := s.chanWord (1 - a.ch) (a.base1 + 8 * ((y + 1) * tilePlanes a.hdr + cp))
    let bs := s.chanBytes a.ch (a.base0 + fld e 0 32) (fld e 32 16)
    if crc16 bs ≠ fld e 48 16 then none
    else
      match decodeTileLine bs (tileWidth a.hdr) with
      | some l => if l.used ≠ bs.length then none else if l.rep then s.tileLine a cp y else some l.px
      | none => none

end Sys2Proof.Machine
end

