-- ==== Sys2Proof/Machine/Loads.lean ====
section
/-! DEFINITION. Loads of templates and tiles (R78–R88, R339, R340), stream lines (R103–R107, R341), and what a fault of a
DRAM channel leaves (R111, R469). -/

namespace Sys2Proof.Machine

/-! ### Headers -/

/-- A template header meets Table 3.2. -/
def tplHeaderOk (h : Nat) : Bool :=
  fld h 0 8 == 1 && tplMask h != 0 && fld h 16 16 == 0 && tplWidth h ≤ 524288 && fld h 52 12 == 0 && tplLines h != 0 &&
  fld h 88 8 == 0 && tplLength h == tplLines h * popBits 8 (tplMask h) * lineBytes (tplWidth h) && fld h 224 32 == 0 &&
  decide (h < 2 ^ 256)

/-- A tile header meets Table 3.3. -/
def tileHeaderOk (h : Nat) : Bool :=
  fld h 0 8 == 1 && fld h 12 20 == 0 && fld h 46 2 == 0 && tileMaxOps h != 0 && tileMaxBytes h != 0 && tileLength h != 0 &&
  tileLength h ≤ 16777216 && fld h 192 64 == 0 && decide (h < 2 ^ 256)

/-! ### Status of a load (Table 12.8) -/

/-- Body of LOAD_STATUS after its transfer handle. -/
def loadStatus (loadId : Nat) (tile : Bool) (status handle cond : Nat) : Nat :=
  packBits [(16, loadId), (1, b2n tile), (7, 0), (8, status), (32, handle), (8, cond), (24, 0)]

/-- Send LOAD_STATUS to a session. -/
def State.sendLoad (s : State) (i : Fin 32) (loadId : Nat) (tile : Bool) (status handle cond : Nat) : State :=
  s.sendSeq i 0x15 12 (loadStatus loadId tile status handle cond) [] 0

def Asset.tplHandle (a : Asset) : Nat := a.idx + 1024 * a.gen
def Asset.tileHandle (a : Asset) : Nat := a.idx + 65536 * a.gen
def Asset.handle (a : Asset) (tile : Bool) : Nat := if tile then a.tileHandle else a.tplHandle

/-- The template or tile of an index in use. -/
def State.assetAt (s : State) (tile : Bool) (idx : Nat) : Option Asset :=
  (if tile then s.tiles else s.templates).find? fun a => a.idx == idx

def State.updAsset (s : State) (tile : Bool) (idx : Nat) (f : Asset → Asset) : State :=
  if tile then s.updTile idx f else s.updTemplate idx f

def State.freeAsset (s : State) (tile : Bool) (idx : Nat) : State :=
  if tile then s.freeTile idx else s.freeTemplate idx

/-- Location code of a template or tile: subsystem 6, and the channel that holds a tile's data. -/
def State.assetLoc (s : State) (tile : Bool) (a : Asset) : Nat := s.loc 6 (if tile then a.ch else 63)

/-- Move a template or tile to INVALID, with its event (Table 3.4). -/
def State.invalidate (s : State) (tile : Bool) (idx : Nat) : State :=
  match s.assetAt tile idx with
  | none => s
  | some a =>
    if a.st = .invalid then s
    else
      let s := s.updAsset tile idx fun x => { x with st := .invalid }
      s.stateChanged 6 (s.assetLoc tile a) 0x2800 (if tile then 0x07 else 0x03) a.st.code 4

/-- The load of an index ends with its final status to its session, if that is open; its LOAD_ID is free once that has been sent
(R340). -/
def State.closeLoad (s : State) (tile : Bool) (idx status cond : Nat) : State :=
  match s.assetAt tile idx with
  | none => s
  | some a =>
    match s.sess? a.sid with
    | none => s
    | some i =>
      match s.sessions[i].openLoads.find? fun l => l.tile == tile && l.idx == idx with
      | none => s
      | some l =>
        let s := s.updSess i fun x =>
          { x with loads := x.loads.map fun m => if m.loadId = l.loadId then { m with done := some x.txNext } else m }
        s.sendLoad i l.loadId tile status (a.handle tile) cond

/-- A load that is cancelled (Table 3.4): to FREE without references, to INVALID with them. A queued item that holds one of these
references is then rejected by R89, although the text under Table 3.7 says that deleting rejects no such item (DESIGN CHOICE,
notes/assumptions/26). -/
def State.cancelLoad (s : State) (tile : Bool) (idx : Nat) : State :=
  match s.assetAt tile idx with
  | none => s
  | some a =>
    if a.st = .loading then
      let s := s.closeLoad tile idx 4 0
      if a.refs = 0 then s.freeAsset tile idx else s.invalidate tile idx
    else s

/-- A load whose own writing or verification fails ends INVALID with its condition (R340). -/
def State.failLoad (s : State) (tile : Bool) (idx cond : Nat) : State :=
  (s.closeLoad tile idx 2 cond).invalidate tile idx

/-! ### BEGIN (R339) -/

/-- The next free template index with its generation: those never used first, then the one freed longest ago (R81). -/
def State.nextTemplate (s : State) : Option (Nat × State) :=
  if s.tplNext < 1024 then some (s.tplNext, { s with tplNext := s.tplNext + 1 })
  else match s.tplFree with
    | [] => none
    | i :: r => some (i, { s with tplFree := r })

/-- The next free tile index (R83). -/
def State.nextTile (s : State) : Option (Nat × State) :=
  if s.tileNext < 65536 then some (s.tileNext, { s with tileNext := s.tileNext + 1 })
  else match s.tileFree with
    | [] => none
    | i :: r => some (i, { s with tileFree := r })

/-- A new asset in LOADING. -/
def newAsset (idx gen hdr sid loadId base0 base1 len0 len1 ch : Nat) : Asset :=
  { idx, gen, st := .loading, hdr, refs := 0, sid, loadId, got := 0, crc := 0, pieces := [], padOk := true, base0, base1, len0, len1,
    ch, deleted := false }

/-- Condition with which a BEGIN is refused before an index is sought; 0 none. -/
def State.beginCond (s : State) (i : Fin 32) (loadId : Nat) (hdrOk : Bool) : Nat :=
  let x := s.sessions[i]
  if !bitOf x.roles 2 then 12
  else if !hdrOk then 1
  else if x.loads.any fun l => l.loadId == loadId then 10
  else if 64 ≤ x.openLoads.length then 11 else 0

/-- Take a template index into use for a load, if there is room. -/
def State.takeTemplate (s s' : State) (idx : Nat) (i : Fin 32) (loadId hdr : Nat) (room : Option (Nat × Nat)) : State :=
  match room with
  | none => s.sendLoad i loadId false 3 0xFFFFFFFF 9
  | some (b0, b1) =>
    let a := newAsset idx (sget 0 s.tplGen idx) hdr (s.sid i) loadId b0 b1 (tplBytes hdr 0) (tplBytes hdr 1) 0
    let s := { s' with templates := s'.templates ++ [a] }
    let s := s.updSess i fun x => { x with loads := x.loads ++ [{ loadId, tile := false, idx, done := none }] }
    s.sendLoad i loadId false 0 a.tplHandle 0

/-- Open a template load. -/
def State.openTemplate (s : State) (i : Fin 32) (loadId hdr : Nat) : State :=
  let c := s.beginCond i loadId (tplHeaderOk hdr)
  if c ≠ 0 then s.sendLoad i loadId false 3 0xFFFFFFFF c
  else
    match s.nextTemplate with
    | none => s.sendLoad i loadId false 3 0xFFFFFFFF 8
    | some (idx, s') => s.takeTemplate s' idx i loadId hdr (s.allocTemplate hdr)

/-- Take a tile index into use for a load, if there is room. -/
def State.takeTile (s s' : State) (idx : Nat) (i : Fin 32) (loadId hdr : Nat) (room : Option (Nat × Nat × Nat)) : State :=
  match room with
  | none => s.sendLoad i loadId true 3 0xFFFFFFFF 9
  | some (ch, b0, b1) =>
    let a := newAsset idx (sget 0 s.tileGen idx) hdr (s.sid i) loadId b0 b1 (tileLength hdr)
      (8 * tilePlanes hdr * tileHeight hdr) ch
    let s := { s' with tiles := s'.tiles ++ [a] }
    let s := s.updSess i fun x => { x with loads := x.loads ++ [{ loadId, tile := true, idx, done := none }] }
    s.sendLoad i loadId true 0 a.tileHandle 0

/-- Open a tile load. -/
def State.openTile (s : State) (i : Fin 32) (loadId hdr : Nat) : State :=
  let c := s.beginCond i loadId (tileHeaderOk hdr)
  if c ≠ 0 then s.sendLoad i loadId true 3 0xFFFFFFFF c
  else
    match s.nextTile with
    | none => s.sendLoad i loadId true 3 0xFFFFFFFF 8
    | some (idx, s') => s.takeTile s' idx i loadId hdr (s.allocTile hdr)

/-- TEMPLATE_BEGIN (R78, R81, R339). -/
def execTemplateBegin (t : Nat) (m : Ktp) (loadId hdr : Nat) (s : State) : Host.Outcome State Fault Refusal :=
  match (s.begin t).sequenced 0x11 m State.staleNowhere with
  | (none, s) => .next s
  | (some (i, n), s) => .next ((s.markRx i n).openTemplate i loadId hdr)

/-- TILE_BEGIN (R83, R84, R339). -/
def execTileBegin (t : Nat) (m : Ktp) (loadId hdr : Nat) (s : State) : Host.Outcome State Fault Refusal :=
  match (s.begin t).sequenced 0x12 m State.staleNowhere with
  | (none, s) => .next s
  | (some (i, n), s) => .next ((s.markRx i n).openTile i loadId hdr)

/-! ### LOAD_DATA (R79, R340) -/

/-- Some byte of `off … off + len − 1` has been written. -/
def piecesMeet (ps : List (Nat × Nat)) (off len : Nat) : Bool :=
  ps.any fun p => decide (p.1 < off + len) && decide (off < p.1 + p.2)

/-- A byte of template data as sent keeps to R79: bit 63 of its word is 0, and so is every code position at or beyond WIDTH. -/
def padByteOk (hdr off b : Nat) : Bool :=
  let o := off % lineBytes (tplWidth hdr)
  (List.range 8).all fun k =>
    !bitOf b k ||
    (let bit := 8 * (o % 8) + k
     decide (bit < 63) && decide (o / 8 * 21 + bit / 3 < tplWidth hdr))

/-- Write template bytes; each word written gets its parity (R79). -/
def State.writeTemplate (s : State) (a : Asset) (off : Nat) (bs : Bytes) : State :=
  let s := (bs.zipIdx).foldl (fun (s : State) (p : Nat × Nat) =>
    let q := tplDataAddr a (off + p.2)
    s.chanWrite q.1 q.2 [p.1 % 256]) s
  let first := off / 8
  let last := (off + bs.length - 1) / 8
  (List.range (last + 1 - first)).foldl (fun (s : State) (k : Nat) =>
    let q := tplDataAddr a (8 * (first + k))
    s.parityAt q.1 q.2) s

/-- Write tile bytes. -/
def State.writeTile (s : State) (a : Asset) (off : Nat) (bs : Bytes) : State :=
  s.chanWrite a.ch (a.base0 + off) (bs.map (· % 256))

/-- Length of a template's or tile's data. -/
def Asset.dataLength (a : Asset) (tile : Bool) : Nat := if tile then tileLength a.hdr else tplLength a.hdr

/-- The write load of R77 at the present tick: the share of 4 GB/s carries 16 fifths of a byte in each ft. -/
def State.writesNow (s : State) : Nat := s.writeLoad - 16 * (s.ft - s.writeAt)

/-- Host writes exceed the share of R77. -/
def State.writesExceed (s : State) : Bool := s.writesNow != 0

/-- A host write of `n` bytes to DRAM. -/
def State.hostWrite (s : State) (n : Nat) : State := { s with writeLoad := s.writesNow + 5 * n, writeAt := s.ft }

/-- Data of an open load. -/
def State.loadPiece (s : State) (tile : Bool) (a : Asset) (off : Nat) (bs : Bytes) : State :=
  if a.dataLength tile < off + bs.length ∨ piecesMeet a.pieces off bs.length then s.failLoad tile a.idx 7
  else
    let s := (if tile then s.writeTile a off bs else s.writeTemplate a off bs).hostWrite bs.length
    let pad := tile || (bs.zipIdx).all fun p => padByteOk a.hdr (off + p.2) p.1
    s.updAsset tile a.idx fun x =>
      { x with got := x.got + bs.length, crc := x.crc ^^^ crc32cPart bs (a.dataLength tile - off - bs.length),
               pieces := x.pieces ++ [(off, bs.length)], padOk := x.padOk && pad }

/-- LOAD_DATA (R340): naming no open load of the session it is discarded and counted; it carries at least one byte. -/
def execLoadData (t : Nat) (m : Ktp) (loadId offset : Nat) (data : Bytes) (s : State) : Host.Outcome State Fault Refusal :=
  let m := { m with dg := m.dg.only !data.isEmpty }
  match (s.begin t).sequenced 0x13 m State.staleNowhere with
  | (none, s) => .next s
  | (some (i, n), s) =>
    let s := s.markRx i n
    let dropped : State :=
      if hp : m.dg.port < 4 then { s with hports := vupd s.hports ⟨m.dg.port, hp⟩ fun p => { p with discard := p.discard + 1 } }
      else s
    match s.sessions[i].openLoads.find? fun l => l.loadId == loadId with
    | none => .next dropped
    | some l =>
      match s.assetAt l.tile l.idx with
      | some a => .next (if a.st = .loading then s.loadPiece l.tile a offset data else dropped)
      | none => .next dropped

/-- LOAD_CANCEL (R340). -/
def execLoadCancel (t : Nat) (m : Ktp) (loadId : Nat) (s : State) : Host.Outcome State Fault Refusal :=
  match (s.begin t).sequenced 0x14 m State.staleNowhere with
  | (none, s) => .next s
  | (some (i, n), s) =>
    let s := s.markRx i n
    match s.sessions[i].openLoads.find? fun l => l.loadId == loadId with
    | some l => .next (s.cancelLoad l.tile l.idx)
    | none => .next s

/-! ### Verification (R82, R85) -/

/-- Both DRAM channels are trained. -/
def State.dramReady (s : State) : Bool := s.power.trained.all id

/-- A load is complete, and may be verified. -/
def State.loadDone (s : State) (tile : Bool) (a : Asset) : Bool :=
  a.st == .loading && a.got == a.dataLength tile && s.dramReady

/-- TEMPLATE_VERIFY (R82): PAD, then the CRC over the data as received. -/
def execTemplateVerify (t : Nat) (idx : Nat) (s : State) : Host.Outcome State Fault Refusal :=
  let s := s.begin t
  match s.assetAt false idx with
  | none => .next s
  | some a =>
    if s.loadDone false a then
      if !a.padOk then .next (s.failLoad false idx 3)
      else if crc32cJoin (tplLength a.hdr) a.crc ≠ tplCrc a.hdr then .next (s.failLoad false idx 4)
      else .next ((s.closeLoad false idx 1 0).updAsset false idx fun x => { x with st := .resident })
    else .next s

/-- TILE_VERIFY (R85): the CRC over the data as received (R340), then one complete decode, then the header's limits. The line index is
written beside it. -/
def execTileVerify (t : Nat) (idx : Nat) (s : State) : Host.Outcome State Fault Refusal :=
  let s := s.begin t
  match s.assetAt true idx with
  | none => .next s
  | some a =>
    if s.loadDone true a then
      let bs := s.tileData a
      let n := tilePlanes a.hdr * tileHeight a.hdr
      if crc32cJoin (tileLength a.hdr) a.crc ≠ tileCrc a.hdr then .next (s.failLoad true idx 4)
      else if !tileLimitsOk (tileWidth a.hdr) (tilePlanes a.hdr) n 0 bs then .next (s.failLoad true idx 5)
      else
        match indexTile (tileWidth a.hdr) (tilePlanes a.hdr) (tileMaxOps a.hdr) (tileMaxBytes a.hdr) n 0 0 bs with
        | none => .next (s.failLoad true idx 6)
        | some es =>
          .next (((s.chanWrite (1 - a.ch) a.base1 (indexBytes es)).closeLoad true idx 1 0).updAsset true idx
            fun x => { x with st := .resident })
    else .next s

/-! ### Delete (Table 3.4) -/

/-- Delete a template or tile by its handle. -/
def State.deleteAsset (s : State) (tile : Bool) (h : Nat) : State × CmdRes :=
  match if tile then s.tile? h else s.template? h with
  | none => (s, .refuse abStale)
  | some a =>
    match a.st with
    | .loading => (s.cancelLoad tile a.idx, .done)
    | .resident =>
      if a.refs = 0 then (s.freeAsset tile a.idx, .done)
      else (s.updAsset tile a.idx fun x => { x with st := .retiring }, .done)
    | .retiring => (s, .done)
    | .invalid =>
      if a.refs = 0 then (s.freeAsset tile a.idx, .done)
      else (s.updAsset tile a.idx fun x => { x with deleted := true }, .done)
    | .free => (s, .refuse abStale)

/-- TEMPLATE_DELETE (R86). -/
def execTemplateDelete (t : Nat) (k : Kop) (handle : Nat) (s : State) : Host.Outcome State Fault Refusal :=
  .next ((s.begin t).command (.templateDelete t k handle) k 0x2800 0x05 handle fun s _ => s.deleteAsset false handle)

/-- TILE_DELETE (R86). -/
def execTileDelete (t : Nat) (k : Kop) (handle : Nat) (s : State) : Host.Outcome State Fault Refusal :=
  .next ((s.begin t).command (.tileDelete t k handle) k 0x2800 0x09 handle fun s _ => s.deleteAsset true handle)

/-! ### DRAM channels (R111, R469) -/

/-- Some line of the item is not yet composed. -/
def State.uncomposed (s : State) (it : Item) : Bool := it.prog.any fun q => q.composed < s.totalLines it

/-- Spoil every item whose outcome is not settled before this tick and for which `p` holds, with one code and location. -/
def State.spoilAll (s : State) (p : Item → Bool) (code loc : Nat) : State :=
  let go := s.items.filter fun it => s.unsettled it && p it
  let s := go.foldl (fun s it => s.spoil it.handle code loc none 0 0) s
  (fins 8).foldl (fun s z => if go.any fun it => it.zone == z then s.settle z else s) s

/-- DRAM_CHANNEL_FAULT (R111): everything held on DRAM is INVALID, and retraining of the channel begins (R469). An open load ends
with LOAD_STATUS INVALID, condition 0: no condition is named for it (DESIGN CHOICE, notes/assumptions/26). -/
def execDramChannelFault (t : Nat) (ch : Fin 2) (s : State) : Host.Outcome State Fault Refusal :=
  let s := s.begin t
  if s.power.trained[ch] then
    let s := { s with power := { s.power with trained := s.power.trained.set ch false,
                                              training := s.power.training.set ch true },
                      dataErrors := s.dataErrors + 1, stream := [] }
    let loading := s.templates.filter (fun a => a.st == .loading) |>.map (·.idx)
    let s := loading.foldl (fun s i => s.closeLoad false i 2 0) s
    let s := (s.tiles.filter (fun a => a.st == .loading) |>.map (·.idx)).foldl (fun s i => s.closeLoad true i 2 0) s
    let s := (s.templates.map (·.idx)).foldl (fun s i => s.invalidate false i) s
    let s := (s.tiles.map (·.idx)).foldl (fun s i => s.invalidate true i) s
    let s := s.faultEvent 6 (s.loc 6 ch.val) 0x2800 0x0C 0 0
    .next (s.spoilAll s.uncomposed 9 (s.loc 6 ch.val))
  else .next s

/-- DRAM_RETRAIN_COMPLETE (R469): trained again or not, with an event, which is a FAULT since no object reports this state (R442) and names
the channel by its slice; after three failures in a row the channel is left untrained. -/
def execDramRetrainComplete (t : Nat) (ch : Fin 2) (ok : Bool) (s : State) : Host.Outcome State Fault Refusal :=
  let s := s.begin t
  let p := s.power
  if p.training[ch] then
    if ok then
      let s := { s with power := { p with trained := p.trained.set ch true, training := p.training.set ch false,
                                          failures := p.failures.set ch 0 } }
      .next (s.faultEvent 6 (s.loc 6 ch.val) 0x2800 0x0C 0 0)
    else
      let n := p.failures[ch] + 1
      let s := { s with power := { p with training := p.training.set ch (decide (n < 3)), failures := p.failures.set ch n } }
      .next (s.faultEvent 6 (s.loc 6 ch.val) 0x2800 0x0C 0 0)
  else .next s

/-! ### Stream lines (R103–R107, R341) -/

/-- Count a discarded stream line. -/
def State.dropStream (s : State) : State := { s with streamDiscards := s.streamDiscards + 1 }

/-- A line of a direct item has been composed on some row, of whatever plane, or the item needs it no more (R103; that one row is enough
is a DESIGN CHOICE, notes/assumptions/14). -/
def Item.pastLine (it : Item) (line : Nat) : Bool :=
  (it.state != .queued && !it.inPolder) || it.prog.any fun q => decide (line < q.composed)

/-- Rank of a plane among those that the zone maps (R103). -/
def State.streamRank (s : State) (z : Fin 8) (plane : Nat) : Option Nat :=
  if bitOf (s.mappedPlanes z) plane ∧ plane < 8 then some (rankOf (s.mappedPlanes z) plane) else none

/-- What a part of a plane-line meets. -/
inductive PartFate where
  | drop | full | store (q : Nat)
  deriving DecidableEq, Repr

/-- The fate of a part for a direct item: dropped, refused for room, or stored (R103, R106, R107). While a DRAM channel is not
trained there is nowhere to store it, and it is dropped (DESIGN CHOICE, notes/assumptions/14). -/
def State.partFate (s : State) (it : Item) (p : StreamPart) : PartFate :=
  match s.streamRank it.zone p.plane with
  | none => .drop
  | some q =>
    let lb := lineBytes (s.rasterWidth it.zone)
    if !it.direct ∨ it.pastLine p.line ∨ it.lineCount ≤ p.line ∨ crc32c p.data ≠ p.crc ∨ lb < p.offset + p.data.length ∨
        !s.dramReady then .drop
    else if s.stream.any fun l => l.handle == p.handle && l.plane == q && l.line == p.line then .store q
    else if (s.allocStream it.zone p.handle q p.line).isSome then .store q else .full

/-- Words of bytes with bit 63 of each replaced by even parity (R79). -/
def parityBytes : Nat → List Nat → List Nat
  | 0, _ => []
  | k + 1, bs => leBytes 8 (evenParity (ofBytes (bs.take 8))) ++ parityBytes k (bs.drop 8)

/-- Put bytes into a plane-line, burst by burst. -/
def putBursts : Nat → SMap (List Nat) → Nat → List Nat → SMap (List Nat)
  | 0, m, _, _ => m
  | k + 1, m, off, bs => putBursts k (sset [] m off (bs.take 64)) (off + 64) (bs.drop 64)

/-- The bursts of a part of a plane-line, over what is there. -/
def partOver (p : StreamPart) (m : SMap (List Nat)) : SMap (List Nat) :=
  putBursts (p.data.length / 64) m p.offset (parityBytes (p.data.length / 8) p.data)

/-- Store a part of a plane-line. -/
def State.storePart (s : State) (it : Item) (q : Nat) (p : StreamPart) : State :=
  let s := s.hostWrite p.data.length
  if s.stream.any fun l => l.handle == p.handle && l.plane == q && l.line == p.line then
    { s with stream := s.stream.map fun l =>
        if l.handle = p.handle ∧ l.plane = q ∧ l.line = p.line then { l with parts := partOver p l.parts } else l }
  else
    { s with stream := s.stream ++ [{ zone := it.zone, handle := p.handle, plane := q, line := p.line,
                                      base := (s.allocStream it.zone p.handle q p.line).getD 0, parts := partOver p [] }] }

/-- A part of a plane-line is in the form of Table 12.9: its offset and its length are multiples of 64. -/
def partForm (p : StreamPart) : Bool := p.offset % 64 == 0 && p.data.length % 64 == 0 && !p.data.isEmpty

/-- STREAM_LINE (R103, R106, R107, R341). -/
def execStreamLine (t : Nat) (m : Ktp) (part : StreamPart) (s : State) : Host.Outcome State Fault Refusal :=
  let m := { m with dg := m.dg.only (partForm part) }
  match (s.begin t).sequenced 0x1A m (fun s => s.countStale part.handle) with
  | (none, s) => .next s
  | (some (i, n), s) =>
    match s.item? part.handle with
    | none => .next (((s.markRx i n).dropStream).countStale part.handle)
    | some it =>
      let x := s.sessions[i]
      if !s.hostActs it.zone x.hostId x.roles then .next ((s.markRx i n).dropStream)
      else
        match s.partFate it part with
        | .drop => .next ((s.markRx i n).dropStream)
        | .full => .next (s.updSess i fun x => { x with ringFull := true })
        | .store q => .next (((s.markRx i n).storePart it q part).updSess i fun x => { x with ringFull := false })

end Sys2Proof.Machine
end

