-- ==== Sys2Proof/Machine/Target.lean ====
section
/-! DEFINITION. Where and when each row fires (R144, R145): lines counted over all traverses, target positions, predicted
fire instants, the sets of ITEM(z) values (R67). -/

namespace Sys2Proof.Machine

/-- Item line of a line counted over all traverses, and its traverse (R156). -/
def Item.lineOf (it : Item) (l : Nat) : Nat := l % max 1 it.lineCount
def State.traverseOf (s : State) (it : Item) (l : Nat) : Int := (s.traverses it).1 + (l / max 1 it.lineCount : Nat)

/-- Alignment values of a row as an item uses them (R67): row offset, time offset, segment offset. -/
def State.rowOffFor (s : State) (it : Item) (h : Fin 64) (r : Fin 4) : Int := sx 32 (s.ogetFor it (hIdx h) (0x60 + r.val))
def State.timeOffFor (s : State) (it : Item) (h : Fin 64) (r : Fin 4) : Int := sx 32 (s.ogetFor it (hIdx h) (0x64 + r.val))
def State.segOffFor (s : State) (it : Item) (h : Fin 64) (r : Fin 4) (k : Nat) : Int :=
  sx 16 (fld (s.ogetFor it (hIdx h) (0x68 + r.val)) (16 * k) 16)

/-- target(r, n) of R144 for a line counted over all traverses; the origin is the same in every traverse. -/
def State.target (s : State) (it : Item) (h : Fin 64) (r : Fin 4) (l : Nat) : Int :=
  it.origin.getD 0 + s.lineOff it.zone (it.lineOf l) + s.rowOffFor it h r

/-- Lowest target of line 0 over the rows of a zone, relative to the origin (R157, R159). -/
def State.lowestOff (s : State) (it : Item) : Int :=
  match (s.zoneRows it.zone).map fun (h, r) => s.rowOffFor it h r with
  | [] => 0
  | a :: as => as.foldl min a

/-- fire_instant of R145 at the present tick. -/
def State.fireInstant (s : State) (it : Item) (h : Fin 64) (r : Fin 4) (l : Nat) : Option Int :=
  if s.zones[it.zone].place = .tracking then
    let (p, v) := s.estimate it.zone s.ft
    if v ≤ 0 then none
    else some ((s.ft : Int) + roundR (wrapR ((s.target it h r l : Rat) - p) / v) + s.timeOffFor it h r)
  else none

/-- segment_delay of R145. -/
def State.segDelay (s : State) (it : Item) (h : Fin 64) (r : Fin 4) (k : Nat) (v : Rat) : Int :=
  roundR ((s.segOffFor it h r k : Rat) / v)

/-- Where an item stands on a row. -/
def Item.progOf (it : Item) (h : Fin 64) (r : Fin 4) : Option RowProg := it.prog.find? fun q => q.head == h && q.row == r

def State.updProg (s : State) (handle : Nat) (h : Fin 64) (r : Fin 4) (f : RowProg → RowProg) : State :=
  s.updItem handle fun it => { it with prog := it.prog.map fun q => if q.head = h ∧ q.row = r then f q else q }

/-- The ring entries of items not yet started leave the rings of some heads, to be composed again (R127). -/
def State.discardUnstarted (s : State) (hs : List (Fin 64)) : State :=
  let un := s.items.filter fun it => it.startSet.isNone
  let hit := fun (h : Nat) => un.any fun it => it.handle == h
  let s := hs.foldl (fun s h => (fins 4).foldl (fun s r =>
    s.updRow h r fun x => { x with ring := x.ring.filter fun l => !hit l.handle }) s) s
  un.foldl (fun s it => s.updItem it.handle fun x =>
    { x with prog := x.prog.map fun q => if q.head ∈ hs then { q with composed := q.built } else q }) s

/-- A new set of ITEM(z) values begins in a zone (R67): `old` are the values that the changed keys had. What applies on the tick on
which a set began joins that set. -/
def State.newSet (s : State) (z : Fin 8) (old : List (Nat × Nat)) : State :=
  let now := s.ft
  if s.setFresh z then
    s.updZone z fun x => { x with prevSet := x.prevSet ++ old.filter fun e => !(x.prevSet.any fun p => p.1 == e.1) }
  else s.updZone z fun x => { x with setNo := x.setNo + 1, prevSet := old, setAt := some now }

end Sys2Proof.Machine
end

