-- ==== Sys2Proof/Machine/Compose.lean ====
section
/-! DEFINITION. Composition of row-lines (R93–R98), the steps of Table 4.1 up to the ring (R113–R133), data errors
(R108–R110), and the installation of nozzle-map generations (R127). -/

namespace Sys2Proof.Machine

/-! ### Codes of a row-line: 3 bits per nozzle of the row -/

/-- Code of nozzle `j`. -/
def codeAt (w j : Nat) : Nat := fld w (3 * j) 3
def codePut (w j d : Nat) : Nat := setFld w (3 * j) 3 d
/-- Codes of a row, from a function of the nozzle, on the active nozzles of a plane-map entry. -/
def codesOf (e : Nat) (f : Nat → Nat) : Nat := (activeNozzles e).foldl (fun w j => codePut w j (f j)) 0
/-- Number of non-zero codes of a row of `q` nozzles. -/
def dropsOf (w q : Nat) : Nat := ((List.range q).filter fun j => codeAt w j ≠ 0).length

/-- Ring depth of R95. -/
def Head.ringDepth (h : Head) : Nat :=
  let bytes := ((List.range 4).map fun r => (ceilDiv (3 * h.nozzles r) 8 + 63) / 64 * 64).foldl (· + ·) 0
  min 64 (98304 / bytes)

/-! ### Step 1: plane codes (R93, R94, R108) -/

/-- What reading the data of a row-line gives: the plane codes by column, or the first error. -/
inductive Composed where
  | codes (f : SMap Nat)
  | parity (ch q n w : Nat)
  | badTile (handle : Nat)
  | missing
  deriving DecidableEq, Repr

/-- Words of a plane-line in the bursts that some of the columns touch. -/
def wordsRead (cols : List Nat) (width : Nat) : List Nat :=
  (List.range (lineBytes width / 8)).filter fun w => cols.any fun c => c < width && c / 168 == w / 8

/-- The word of a stream plane-line. -/
def StreamLine.word (l : StreamLine) (w : Nat) : Nat :=
  match l.parts.find? fun p => p.1 ≤ 8 * w && 8 * w + 8 ≤ p.1 + p.2.length with
  | some p => ofBytes ((p.2.drop (8 * w - p.1)).take 8)
  | none => 0

/-- Codes read from words; the lowest word that fails parity is reported. -/
def readWords (cols : List Nat) (width : Nat) (word : Nat → Nat) : Sum Nat (SMap Nat) :=
  match (wordsRead cols width).find? fun w => popBits 64 (word w) % 2 = 1 with
  | some w => .inl w
  | none => .inr (cols.foldl (fun m c => if c < width then sset 0 m c (fld (word (c / 21)) (3 * (c % 21)) 3) else m) [])

/-- Template codes of a plane-line under the columns. -/
def State.readTemplate (s : State) (it : Item) (plane n : Nat) (cols : List Nat) : Composed :=
  match s.template? it.template with
  | none => .codes []
  | some a =>
    if bitOf (tplMask a.hdr) plane then
      let q := rankOf (tplMask a.hdr) plane
      match readWords cols (tplWidth a.hdr) (fun w => let p := tplAddr a q n (8 * w); s.chanWord p.1 p.2) with
      | .inl w => .parity (n / 16 % 2) q n w
      | .inr m => .codes m
    else .codes []

/-- Stream codes of a plane-line under the columns (R103, R106). -/
def State.readStream (s : State) (it : Item) (plane n : Nat) (cols : List Nat) : Composed :=
  match s.streamRank it.zone plane with
  | none => .codes []
  | some q =>
    match s.stream.find? fun l => l.handle == it.handle && l.plane == q && l.line == n with
    | none => .missing
    | some l =>
      if l.stored < lineBytes (s.rasterWidth it.zone) then .missing
      else
        match readWords cols (s.rasterWidth it.zone) l.word with
        | .inl w => .parity (n / 16 % 2) q n w
        | .inr m => .codes m

/-- Merge one tile entry over the plane codes (R93). -/
def State.mergeTile (s : State) (e : TileEntry) (plane n : Nat) (cols : List Nat) (m : SMap Nat) : Composed :=
  match s.tile? e.tile with
  | none => .codes m
  | some a =>
    let w := tileWidth a.hdr
    if bitOf e.planes plane ∧ e.y ≤ n ∧ n < e.y + tileHeight a.hdr ∧ cols.any fun c => e.x ≤ c && c < e.x + w then
      let cp := if tilePlanes a.hdr = 1 then 0 else rankOf e.planes plane
      match s.tileLine a cp (n - e.y) with
      | none => .badTile e.tile
      | some px =>
        .codes (cols.foldl (fun m c =>
          if e.x ≤ c ∧ c < e.x + w then
            match (px[c - e.x]?).getD none with
            | none => m
            | some k =>
              match e.op with
              | 0 => sset 0 m c k
              | 1 => if k ≠ 0 then sset 0 m c k else m
              | _ => if k ≠ 0 then sset 0 m c 0 else m
          else m) m)
    else .codes m

/-- compose(r, n) of R93 on the columns that a row prints. -/
def State.composePlane (s : State) (it : Item) (plane n : Nat) (cols : List Nat) : Composed :=
  it.tiles.foldl (fun c e => match c with | .codes m => s.mergeTile e plane n cols m | x => x)
    (if it.direct then s.readStream it plane n cols else s.readTemplate it plane n cols)

/-! ### Steps 2 to 6 -/

/-- Code translation (R117). -/
def translate (w v : Nat) : Nat := if v = 0 then 0 else fld w (3 * (v - 1)) 3

/-- A pixel's bit in scale `k` (R119), under the values of the item. -/
def State.scaleBit (s : State) (it : Item) (k c n : Nat) : Bool :=
  bitOf (s.ogetFor it (zIdx it.zone) (0x38 + k)) (8 * (8 * (n % 64) + c % 64 / 8) + c % 64 % 8)

/-- A nozzle of a row is defective in the generation fixed for the item. -/
def State.badFor (s : State) (it : Item) (h : Fin 64) (r : Fin 4) (j : Nat) : Bool :=
  (s.genFor it h).bad (s.heads[h].nozzleBase r.val + j)

/-- visit(r, c, n) of R129: the scale's visit, and the visit after reassignment. -/
def State.visit (s : State) (it : Item) (h : Fin 64) (r : Fin 4) (c n : Nat) : Nat × Nat :=
  let np := s.zc it.zone 0x30
  let e := s.planeMap h r
  let k0 := ((List.range np).find? fun k => s.scaleBit it k c n).getD 0
  if bitOf (s.ogetFor it (zIdx it.zone) 0x31) 2 && s.badFor it h r (nozzleAt np e c k0) then
    (k0, (((List.range (np - 1)).map fun i => (k0 + i + 1) % np).find? fun k => !s.badFor it h r (nozzleAt np e c k)).getD k0)
  else (k0, k0)

/-- Position group of a nozzle (R122). -/
def groupOf (np e j : Nat) : Nat := (nozPos e j).toNat / max 1 (feedCols np e)

/-- Step 3 for a PRIMARY row: the pixel of nozzle `j` at column `c` is printed in this traverse; and it was reassigned. -/
def State.maskKeeps (s : State) (it : Item) (h : Fin 64) (r : Fin 4) (j c n : Nat) : Bool × Bool :=
  let np := s.zc it.zone 0x30
  if np = 0 then (true, false)
  else
    let (k0, k) := s.visit it h r c n
    (groupOf np (s.planeMap h r) j == k, k0 != k)

/-- raise of R132. -/
def Head.raise (x : Head) (limit k target : Nat) : Nat :=
  let allowed := (List.range (limit + 1)).filter x.defines
  let vol := fun k => recVolume (x.record k)
  match allowed.filter fun k => decide (target ≤ vol k) with
  | a :: as => as.foldl (fun b k => if vol k < vol b then k else b) a
  | [] =>
    match allowed with
    | [] => k
    | a :: as =>
      let b := as.foldl (fun b k => if vol b < vol k then k else b) a
      if vol k < vol b then b else k

/-- The smallest integer not below `a + need / n`. -/
def shareTarget (a need n : Nat) : Nat := a + ceilDiv need n

/-- spread(j) of R132: the codes with the drop spread, if that succeeds. -/
def spreadOne (x : Head) (bad : Nat → Bool) (e limit minPct w j : Nat) : Option Nat :=
  let vol := fun k => recVolume (x.record k)
  let need := vol (codeAt w j)
  let nb := ((if j = 0 then [] else [j - 1]) ++ [j + 1]).filter fun m =>
    pmFirst e ≤ m && m ≤ pmLast e && !bad m && codeAt w m != 0
  if nb.isEmpty then none
  else
    let new := nb.map fun m => (m, x.raise limit (codeAt w m) (shareTarget (vol (codeAt w m)) need nb.length))
    let gained : Int := (new.map fun p => (vol p.2 : Int) - vol (codeAt w p.1)).foldl (· + ·) 0
    if gained * 100 < (need * minPct : Nat) then none
    else some (codePut (new.foldl (fun w p => codePut w p.1 p.2) w) j 0)

/-- A row-line through steps 2–6: its codes, and the counts of substituted, spread and reassigned drops, and the nozzles left
unhidden. -/
structure Mapped where
  codes : Nat
  subst : Nat
  spread : Nat
  reass : Nat
  unhid : List Nat
  deriving DecidableEq, Repr

/-- Column of a nozzle, if it lies in 0–524,287. -/
def State.nozCol (s : State) (it : Item) (h : Fin 64) (r : Fin 4) (j : Nat) (t : Int) : Option Nat :=
  let c := colOf (s.zc it.zone 0x30) (s.planeMap h r) j t
  if 0 ≤ c ∧ c < 524288 then some c.toNat else none

/-- Steps 2–6 for a PRIMARY row (R117, R122, R130, R132, R133). -/
def State.mapPrimary (s : State) (it : Item) (h : Fin 64) (r : Fin 4) (t : Int) (n : Nat) (m : SMap Nat) : Mapped :=
  let e := s.planeMap h r
  let x := s.heads[h]
  let np := s.zc it.zone 0x30
  let tr := s.hc h (0x48 + r.val)
  let meth := s.ogetFor it (zIdx it.zone) 0x31
  let bad := s.badFor it h r
  let act := activeNozzles e
  let d2 := fun (j : Nat) => match s.nozCol it h r j t with | some c => translate tr (sget 0 m c) | none => 0
  let keep := fun (j : Nat) => match s.nozCol it h r j t with | some c => s.maskKeeps it h r j c n | none => (false, false)
  let w3 := codesOf e fun j => if (keep j).1 then d2 j else 0
  let reass := (act.filter fun j => codeAt w3 j != 0 && (keep j).2).length
  let partner := if bitOf meth 0 then s.redundantOf it.zone h r else none
  let gives := fun (j : Nat) => codeAt w3 j != 0 && bad j &&
    match partner, s.nozCol it h r j t with
    | some (h2, r2), some c =>
      (match nozAtCol np (s.planeMap h2 r2) c t with | some k => !s.badFor it h2 r2 k | none => false)
    | _, _ => false
  let w4 := codesOf e fun j => if gives j then 0 else codeAt w3 j
  let subst := (act.filter gives).length
  let lim := s.ogetFor it (zIdx it.zone) 0x32
  let pct := s.ogetFor it (zIdx it.zone) 0x33
  let (w5, spr) :=
    if bitOf meth 1 then
      act.foldl (fun (a : Nat × Nat) j =>
        if bad j && codeAt a.1 j != 0 then
          match spreadOne x bad e lim pct a.1 j with | some w => (w, a.2 + 1) | none => a
        else a) (w4, 0)
    else (w4, 0)
  let unhid := act.filter fun j => bad j && codeAt w5 j != 0
  { codes := codesOf e fun j => if bad j then 0 else codeAt w5 j, subst, spread := spr, reass, unhid }

/-- Steps 2–4 for a REDUNDANT row (R130, R131): only drops that its partner gives up. -/
def State.mapRedundant (s : State) (it : Item) (h : Fin 64) (r : Fin 4) (t : Int) (n : Nat) (m : SMap Nat) : Mapped :=
  let np := s.zc it.zone 0x30
  let tr := s.hc h (0x48 + r.val)
  let code := fun (j : Nat) =>
    match s.nozCol it h r j t, s.partnerOf h r with
    | some c, some (hp, rp) =>
      match nozAtCol np (s.planeMap hp rp) c t with
      | some jp =>
        if bitOf (s.ogetFor it (zIdx it.zone) 0x31) 0 && !s.badFor it h r j && s.badFor it hp rp jp &&
            (s.maskKeeps it hp rp jp c n).1 && translate (s.hc hp (0x48 + rp.val)) (sget 0 m c) != 0 then
          translate tr (sget 0 m c)
        else 0
      | none => 0
    | _, _ => 0
  { codes := codesOf (s.planeMap h r) code, subst := 0, spread := 0, reass := 0, unhid := [] }

/-- A row's number among the PRIMARY and REDUNDANT rows of its zone (R161). -/
def State.rowNo (s : State) (z : Fin 8) (h : Fin 64) (r : Fin 4) : Nat :=
  ((s.zoneRows z).takeWhile fun p => !(p.1 == h && p.2 == r)).length

/-- Codes of a pattern item on a row at a line (R161): code 7 through the row's translation; a defective nozzle fires nothing.
Every 32nd active nozzle is counted from the first one: 0, 32, 64 … (DESIGN CHOICE, notes/assumptions/10). -/
def State.patternCodes (s : State) (it : Item) (h : Fin 64) (r : Fin 4) (n : Nat) : Nat :=
  let e := s.planeMap h r
  let d := translate (s.hc h (0x48 + r.val)) 7
  let i := s.rowNo it.zone h r
  let a := spanCount e
  let fires := fun (p : Nat) =>
    if it.pattern = 1 then 32 * i ≤ n && n ≤ 32 * i + 3 else p % 32 == 0 || p < 8 || a ≤ p + 8
  codesOf e fun j => if fires (j - pmFirst e) && !s.badFor it h r j then d else 0

/-! ### Data errors (R109, R110) -/

/-- Some line of the item is not yet composed on a row of a plane that the template holds. -/
def State.needsTemplate (s : State) (it : Item) (a : Asset) : Bool :=
  it.template == a.tplHandle && !it.direct && it.pattern == 0 &&
  it.prog.any fun q => bitOf (tplMask a.hdr) (pmPlane (s.planeMap q.head q.row)) && decide (q.composed < s.totalLines it)

/-- Some line of the item that a tile covers is not yet composed on a row that the tile meets. -/
def State.needsTile (s : State) (it : Item) (a : Asset) : Bool :=
  it.tiles.any fun e => e.tile == a.tileHandle &&
    it.prog.any fun q =>
      let pm := s.planeMap q.head q.row
      bitOf e.planes (pmPlane pm) && spanMeets pm e.x (tileWidth a.hdr) &&
      decide (q.composed < ((s.traverses it).2 - 1) * it.lineCount + e.y + tileHeight a.hdr)

/-- A template or stream word fails parity (R109). -/
def State.parityError (s : State) (it : Item) (ch q n w : Nat) : State :=
  let loc := locOf s.bpos 0 6 ch q (n / 65536) (n % 65536) w
  let s := { s with dataErrors := s.dataErrors + 1 }
  match if it.direct then none else s.template? it.template with
  | none => s.spoilAll (fun x => x.handle == it.handle) 9 loc
  | some a => (s.invalidate false a.idx).spoilAll (fun x => x.handle == it.handle || s.needsTemplate x a) 9 loc

/-- A tile plane-line fails its check (R110). -/
def State.tileError (s : State) (it : Item) (handle : Nat) : State :=
  let loc := s.loc 7 it.zone.val
  let s := { s with dataErrors := s.dataErrors + 1 }
  match s.tile? handle with
  | none => s.spoilAll (fun x => x.handle == it.handle) 9 loc
  | some a => (s.invalidate true a.idx).spoilAll (fun x => x.handle == it.handle || s.needsTile x a) 9 loc

/-! ### The composition engine (R96) -/

/-- The line that a row would compose next: of the first admitted item with a line left. -/
def State.nextLine (s : State) (h : Fin 64) (r : Fin 4) : Option (Item × Nat) :=
  match s.zoneOfHead h with
  | none => none
  | some z =>
    (s.polder z).findSome? fun it =>
      match it.progOf h r with
      | some q => if q.composed < s.totalLines it then some (it, q.composed) else none
      | none => none

/-- Rank of a candidate by its predicted fire instant; those that cannot be predicted come after, by distance. -/
def State.composeKey (s : State) (it : Item) (h : Fin 64) (r : Fin 4) (l : Nat) : Nat × Int :=
  match s.fireInstant it h r l with
  | some f => (0, f)
  | none => (1, roundR (wrapR ((s.target it h r l : Rat) - s.counted it.zone)))

/-- In a scanning zone a line takes its turn after every line of the traverses before it, of its own item and of those admitted before
that (R156). -/
def State.inTurn (s : State) (it : Item) (l : Nat) : Bool :=
  s.zc it.zone 0x30 == 0 ||
  ((it.prog.all fun q => decide (l / max 1 it.lineCount * it.lineCount ≤ q.composed)) &&
   ((s.polder it.zone).takeWhile fun x => x.handle != it.handle).all fun x =>
     x.prog.all fun q => decide (s.totalLines x ≤ q.composed))

/-- The row that is served (R96): a row with a full ring is not. -/
def State.pickRow (s : State) : Option (Fin 64 × Fin 4 × Item × Nat) :=
  let cand := (fins 64).flatMap fun h => (fins 4).filterMap fun r =>
    if s.heads[h].rows[r].ring.length < s.heads[h].ringDepth then
      match s.nextLine h r with
      | some (it, l) => if s.inTurn it l then some (s.composeKey it h r l, h, r, it, l) else none
      | none => none
    else none
  match cand with
  | [] => none
  | c :: cs =>
    some ((cs.foldl (fun a b => if b.1.1 < a.1.1 ∨ (b.1.1 = a.1.1 ∧ b.1.2 < a.1.2) then b else a) c).2)

/-- A plane-line that every row has composed in the last traverse leaves its ring (R107), once the item has started: until then R127 may
have it composed again (DEDUCED, notes/assumptions/14). -/
def State.freeStream (s : State) (h : Nat) : State :=
  match s.item? h with
  | none => s
  | some it =>
    let last := ((s.traverses it).2 - 1) * it.lineCount
    if it.startSet.isNone then s
    else { s with stream := s.stream.filter fun l => !(l.handle == h && it.prog.all fun q => decide (last + l.line < q.composed)) }

/-- A row-line is written into its ring (R97), with what the nozzle map counted and found. -/
def State.writeRing (s : State) (it : Item) (h : Fin 64) (r : Fin 4) (l : Nat) (m : Mapped) : State :=
  let s := s.updRow h r fun x => { x with ring := x.ring ++ [{ handle := it.handle, line := l, codes := m.codes }] }
  let s := s.updProg it.handle h r fun q => { q with composed := l + 1 }
  let s := s.updZone it.zone fun x =>
    { x with substituted := x.substituted + m.subst, spread := x.spread + m.spread, reassigned := x.reassigned + m.reass,
             unhidden := x.unhidden + m.unhid.length }
  let s := if it.direct then s.freeStream it.handle else s
  match m.unhid with
  | [] => s
  | j :: _ =>
    (s.spoil it.handle 6 (locOf s.bpos 0 9 h.val 63 1023 r.val j) (some l) 0 0).settle it.zone

/-- Compose one row-line. -/
def State.composeRow (s : State) (h : Fin 64) (r : Fin 4) (it : Item) (l : Nat) : State :=
  let n := it.lineOf l
  let t := s.traverseOf it l
  let e := s.planeMap h r
  if it.pattern ≠ 0 then
    s.writeRing it h r l { codes := s.patternCodes it h r n, subst := 0, spread := 0, reass := 0, unhid := [] }
  else
    let cols := (activeNozzles e).filterMap fun j => s.nozCol it h r j t
    match s.composePlane it (pmPlane e) n cols with
    | .codes m => s.writeRing it h r l (if pmRole e = 2 then s.mapRedundant it h r t n m else s.mapPrimary it h r t n m)
    | .parity ch q n w => s.parityError it ch q n w
    | .badTile k => s.tileError it k
    | .missing => s.updProg it.handle h r fun q => { q with composed := l + 1 }

/-- ROW_LINE_COMPOSE (R96): the bits of DRAM that have changed by themselves do so before the read. -/
def execRowLineCompose (t : Nat) (flips : List BitFlip) (s : State) : Host.Outcome State Fault Refusal :=
  let s := flips.foldl State.flip (s.begin t)
  match s.pickRow with
  | none => .next s
  | some (h, r, it, l) => .next (s.composeRow h r it l)

/-! ### Generations (R126, R127) -/

/-- What waits for an ITEM(z) boundary of a head's zone may happen now: the zone is idle, or the boundary occurs, or the head belongs
to no zone (R126). -/
def State.headBoundary (s : State) (h : Fin 64) : Bool :=
  match s.zoneOfHead h with
  | none => true
  | some z => s.zoneIdle z || s.itemBoundary z

/-- A generation of a head may be installed now: the previous one is kept for no item any more (R126, R127). -/
def State.mayInstall (s : State) (h : Fin 64) : Bool :=
  s.headBoundary h &&
  s.items.all fun it => !(s.unfinished it) || it.startGens.all fun g => g.head != h || g.inst == s.heads[h].inst.inst

/-- Heads that carry a row whose partner, PRIMARY or REDUNDANT, lies on head `h` (R130). -/
def State.partnerHeads (s : State) (h : Fin 64) : List (Fin 64) :=
  (fins 64).filter fun g => (fins 4).any fun r =>
    (match s.partnerOf g r with | some p => p.1 == h && pmRole (s.planeMap g r) == 2 | none => false) ||
    (fins 4).any fun r2 =>
      (match s.partnerOf h r2 with | some p => p.1 == g && pmRole (s.planeMap h r2) == 2 | none => false)

/-- Put the pending generation of a head into force, with its event; entries of items not yet started are composed again. -/
def State.installGen (s : State) (h : Fin 64) : State :=
  let x := s.heads[h]
  match x.pend with
  | none => s
  | some p =>
    let ns := List.range x.nozzleTotal
    let nb := (ns.filter fun i => p.bad i && !x.inst.bad i).length
    let ng := (ns.filter fun i => !p.bad i && x.inst.bad i).length
    let s := s.updHead h fun x =>
      { x with inst := { p with inst := x.inst.inst + 1 }, prev := some x.inst, pend := none, installs := x.installs + 1 }
    (s.discardUnstarted (h :: s.partnerHeads h)).event 0x4811 (s.loc 9 h.val) [(8, h.val), (32, nb), (32, ng)]

/-- GENERATION_INSTALL (R127). -/
def execGenerationInstall (t : Nat) (h : Fin 64) (s : State) : Host.Outcome State Fault Refusal :=
  let s := s.begin t
  if s.heads[h].pend.isSome ∧ s.mayInstall h then
    let s := s.installGen h
    match s.zoneOfHead h with
    | some z => .next (s.newSet z [])
    | none => .next s
  else .next s

end Sys2Proof.Machine
end

