-- ==== Sys2Proof/Machine/Runs.lean ====
section
/-! DEFINITION. Runs of self-calibration as other families see them (R303, R304, R313, R315–R318): runs that are due, request
slots that wait for them, the end of a run on a lane. -/

namespace Sys2Proof.Machine

def State.updLane (s : State) (l : Fin 16) (f : LaneCal → LaneCal) : State := { s with lanes := vupd s.lanes l f }

/-- Requests of a kind and target that wait or run take a result. -/
def State.markReqs (s : State) (kind target : Nat) (result : Nat) : State :=
  { s with reqs := s.reqs.map fun q =>
      if q.kind = kind ∧ q.target = target ∧ (q.result = 1 ∨ q.result = 2) then { q with result } else q }

/-- A run of the target is due. -/
def State.isDue (s : State) (kind target : Nat) : Bool := s.due.any fun d => d.kind == kind && d.target == target

/-- A run of a target is due; one that is due already takes it in (R303). -/
def State.addDue (s : State) (kind target : Nat) (write : Option Nat) (auto : Bool) : State :=
  if s.isDue kind target then
    { s with due := s.due.map fun d =>
        if d.kind = kind ∧ d.target = target then { d with auto := d.auto || auto } else d }
  else { s with due := s.due ++ [{ kind, target, write, auto }] }

/-- A due run has started, or is no more due. -/
def State.dropDue (s : State) (kind target : Nat) : State :=
  { s with due := s.due.filter fun d => !(d.kind == kind && d.target == target) }

/-- A run is no more due of its own accord: its automatic calibration is disabled. -/
def State.unAuto (s : State) (kind target : Nat) : State :=
  { s with due := s.due.map fun d => if d.kind = kind ∧ d.target = target then { d with auto := false } else d }

/-- A due run that no request, temperature or write asks for any more is not made. -/
def State.pruneDue (s : State) (kind target : Nat) : State :=
  if s.reqs.any fun q => q.kind == kind && q.target == target && q.result == 1 then s
  else { s with due := s.due.filter fun d => !(d.kind == kind && d.target == target && !d.auto && d.write.isNone) }

/-- TARGET of a lane (Table 11.4). -/
def laneTarget (l : Fin 16) (lane : Nat) : Nat := 16 * l.val + lane

/-- The lane of the run in progress: 0 D0, 1 D1, 2 DS, 3 U0, 4 US. -/
def LaneCal.lane (x : LaneCal) : Nat := x.run - 1

/-- A lane run ends with a result (Table 11.7). -/
def State.endLane (s : State) (l : Fin 16) (result : Nat) : State :=
  let x := s.lanes[l]
  let held := s.ports[l].fec && s.freeSilent l
  let s := if held then s.idleFree l else s
  let s := (s.updLane l fun y =>
    { y with run := 0, step := 0, verdict := 3, write := none, byHost := false, result, lockOnce := [], lockTwice := [],
             runs := y.runs + 1, rejects := y.rejects + b2n (result == 4) }).markReqs 2
    (laneTarget l x.lane) result
  if held then s.openFree l else s

/-- A lane run in progress is abandoned at once, old values kept. -/
def State.abandonLane (s : State) (l : Fin 16) : State := if s.lanes[l].run = 0 then s else s.endLane l 6

/-- A data lane fails while DS carries the logical lane of the lane under calibration (R312): the calibration is abandoned, its
logical lane moves back as at the end of any run. -/
def State.disturbRun (s : State) (l : Fin 16) (logical : Nat) : State :=
  let x := s.lanes[l]
  if (x.run = 1 ∨ x.run = 2) ∧ x.lane ≠ logical ∧ s.ports[l].physical x.lane = 2 then s.updLane l fun y => { y with verdict := 6, write := none }
  else s

/-- The adaptation of a port's receivers at its bring-up counts as a successful run of both receive lanes (R313); what it finds
is free. -/
def State.adapted (s : State) (l : Fin 16) : State :=
  let n := s.free
  let i := 0x6200 + 16 * l.val
  let s := { (s.oput i 0x04 (Config.adaptedSetting n % 1024)).oput i 0x05 (Config.adaptedSetting (n + 1) % 1024) with
             free := n + 2 }
  let temp := s.power.dieTemp
  s.updLane l fun x =>
    { x with result := 3, runs := x.runs + 2,
             eyes := Vector.ofFn fun (k : Fin 2) => Config.adaptedEye (n + k.val) % 65,
             refTemps := (x.refTemps.set 3 (some temp)).set 4 (some temp) }

end Sys2Proof.Machine
end

