-- ==== Sys2Proof/Machine/Tracker.lean ====
section
/-! DEFINITION. The position tracker of a zone (R139–R143, R153), the loss and return of its source (R72, R270), and the
board fault line (R168). -/

namespace Sys2Proof.Machine

/-- The FAULT bits received on the sync ports. -/
def State.rxFault (s : State) : Bool :=
  (fins 2).any fun p => match s.sync.rx[p] with | some f => f.fault | none => false

/-- The board fault line (R168): recomputed, with an event at each change. The own assertion of a zone lasts as long as a zone with a
board position is in FAULT (DESIGN CHOICE, notes/assumptions/29). -/
def State.updateLine (s : State) : State :=
  let zf := (fins 8).any fun z => s.zones[z].place == .fault && (s.zc z 0x50 == 8 || s.zc z 0x50 == 9)
  let new := s.sync.ownFault || zf || s.rxFault
  let old := s.sync.line
  let s := { s with sync := { s.sync with zoneFault := zf, line := new } }
  if new = old then s else s.event 0x5813 (s.loc 11 63) [(8, b2n new)]

/-- Location code of a zone in the tracker (Table 2.13). -/
def State.trackLoc (s : State) (z : Fin 8) : Nat := s.loc 11 z.val

/-- The counted position in pu of a zone's source as it stands. -/
def State.sourcePos (s : State) (z : Fin 8) : Rat :=
  match s.srcChan z with
  | some c => (s.chans[c].count : Rat) * (s.cc c 0x03 : Rat) / (s.cc c 0x04 : Rat)
  | none =>
    match s.zc z 0x50 with
    | 8 => s.sync.bp[(0 : Fin 2)].pos
    | 9 => s.sync.bp[(1 : Fin 2)].pos
    | _ => 0

/-- The tracker enters STANDBY: its next two forward edges are not filtered (R140). -/
def Tracker.standby (k : Tracker) : Tracker := { k with init := 0, fwd := 0, within := 0, held := none }

def State.toStandby (s : State) (z : Fin 8) : State :=
  s.updZone z fun x => { x with place := .standby, trk := x.trk.standby }

/-- Fault ends (Table 5.1), with its event. -/
def State.endFault (s : State) (z : Fin 8) (to_ : Place) : State :=
  let s := s.updZone z fun x => { x with place := to_ }
  (s.stateChanged 11 (s.trackLoc z) (zIdx z) 0x5B Place.fault.code to_.code).updateLine

/-- The zone enters TRACKING. -/
def State.toTracking (s : State) (z : Fin 8) : State :=
  if s.zones[z].place = .fault then s.endFault z .tracking else s.updZone z fun x => { x with place := .tracking }

/-- A line of the item fired, or is stamped to fire, in the interval from `tg` to `tf` (R143). -/
def State.firedSince (s : State) (it : Item) (tg tf : Nat) : Bool :=
  (it.lastFire != 0 && decide (tg ≤ it.lastFire)) ||
  it.prog.any fun q => s.heads[q.head].rows[q.row].stamped.any fun l =>
    l.handle == it.handle && decide (tg ≤ l.fire) && decide (l.fire ≤ tf)

/-- Tracking fault (R143) on an edge with stamp `tf`. -/
def State.enterFault (s : State) (z : Fin 8) (tf : Nat) : State :=
  let tg := s.zones[z].trk.tGood
  let s := s.updZone z fun x => { x with place := .fault, faultAt := tf, faults := x.faults + 1, trk := { x.trk with within := 0 } }
  let s := (s.event 0x5810 (s.trackLoc z) [(8, z.val), (64, tg), (64, tf)]).withdrawZone z
  let go := (s.zoneItems z).filter fun it => s.firedSince it tg tf
  (go.foldl (fun s it => s.spoil it.handle 7 (s.trackLoc z) none 0 0) s).updateLine

/-- The zone's armed traverse is that of a line of the item: items share no traverse (R156, R157). -/
def State.inTraverse (s : State) (it : Item) (l : Nat) : Bool :=
  let x := s.zones[it.zone]
  x.armed && x.travItem == it.handle && x.traverse == s.traverseOf it l

/-- Instants of a row's lines that have passed while the zone is in FAULT (R143): those of lines past their commit point, and
that of the next line to build, by the estimate without its condition on the state. -/
def State.faultInstants (s : State) (it : Item) (q : RowProg) : List Nat :=
  let x := s.zones[it.zone]
  let committed := ((s.heads[q.head].rows[q.row].stamped.filter fun l => l.handle == it.handle).map (·.fire)).filter fun f =>
    decide (x.faultAt < f) && decide (f ≤ s.ft)
  let (p, v) := s.estimate it.zone s.ft
  if v ≤ 0 ∨ s.totalLines it ≤ q.built ∨ (s.zc it.zone 0x30 ≠ 0 ∧ ¬ s.inTraverse it q.built) then committed
  else
    let f : Int := s.ft + roundR (wrapR ((s.target it q.head q.row q.built : Rat) - p) / v) + s.timeOffFor it q.head q.row
    if f ≤ s.ft then committed ++ [max x.faultAt f.toNat] else committed

/-- In a zone in FAULT, each item with a line whose predicted instant passes is spoiled at the tick at which it passes (R143). -/
def State.faultPasses (s : State) (z : Fin 8) : State :=
  if s.zones[z].place ≠ .fault then s
  else
    ((s.zoneItems z).filter s.unsettled).foldl (fun s it =>
      match it.prog.flatMap (s.faultInstants it) with
      | [] => s
      | f :: fs => s.atTick (fs.foldl min f) fun s => s.spoil it.handle 7 (s.trackLoc z) none 0 0) s

/-- Reversal threshold of R153. -/
def State.revThreshold (s : State) (z : Fin 8) : Rat :=
  let r := s.zc z 0x5A
  if r = 0 then s.trackLimit z else r

/-- Reversal (R153). -/
def State.suspend (s : State) (z : Fin 8) : State :=
  let h := s.zones[z].hwm
  let c := s.counted z
  let s := s.updZone z fun x => { x with place := .suspended, reversals := x.reversals + 1 }
  let s := (s.event 0x5811 (s.trackLoc z) [(8, z.val), (48, toU 48 (roundR h)), (48, toU 48 (roundR c))]).withdrawZone z
  let s := ((s.polder z).filter fun it => it.state == .admitted && s.composedLeft it).foldl (fun s it =>
    s.updItem it.handle fun x => { x with revDue := true }) s
  s.spoilZone z (fun it => it.state != .admitted && !it.blank) 4 (s.trackLoc z)

/-- Transitions that the edges allow: the last 8 forward, the last 6 (8) within the tracking limit. -/
def State.edgesAllow (s : State) (z : Fin 8) : State :=
  let x := s.zones[z]
  match x.place with
  | .standby => if x.edgesReady then s.toTracking z else s
  | .fault => if 8 ≤ x.trk.within then s.toTracking z else s
  | _ => s

/-- One of the first two edges in STANDBY (R140). An edge backward starts the two afresh (notes/assumptions/11). -/
def Tracker.first (k : Tracker) (cnt : Rat) (t : Nat) (fwd : Bool) : Tracker :=
  if fwd then
    if k.init = 0 then
      { k with pHat := cnt, vHat := 0, tLast := t, lastCnt := cnt, init := 1, fwd := 1, within := 0, any := true, held := none }
    else
      { k with pHat := cnt, vHat := wrapR (cnt - k.lastCnt) / ((t : Rat) - (k.tLast : Rat)), tLast := t, lastCnt := cnt,
               init := 2, fwd := 2, within := 0, any := true, held := none }
  else { k with pHat := cnt, vHat := 0, tLast := t, lastCnt := cnt, init := 0, fwd := 0, within := 0, any := true, held := none }

/-- Innovation of an edge (R140). -/
def Tracker.innovation (k : Tracker) (cnt : Rat) (t : Nat) : Rat := wrapR (cnt - (k.pHat + k.vHat * ((t : Rat) - (k.tLast : Rat))))

/-- The filter of on_edge (R140), with the runs of edges that Table 5.1 counts. -/
def Tracker.filter (k : Tracker) (cnt : Rat) (t : Nat) (fwd good : Bool) (alpha beta : Rat) : Tracker :=
  let dt : Rat := (t : Rat) - (k.tLast : Rat)
  let r := k.innovation cnt t
  { k with pHat := k.pHat + k.vHat * dt + alpha * r, vHat := k.vHat + beta * r / dt, tLast := t, lastCnt := cnt,
           fwd := if fwd then k.fwd + 1 else 0, within := if good then k.within + 1 else 0,
           tGood := if good then t else k.tGood, any := true, held := none }

/-- Process one edge: count in pu, stamp (R140, R142). In FAULT the instants that have passed by the prediction before the edge are
settled first (R143). -/
def State.processEdge (s : State) (z : Fin 8) (cnt : Rat) (t : Nat) : State :=
  let s := s.faultPasses z
  let k := s.zones[z].trk
  let fwd := decide (0 < wrapR (cnt - k.lastCnt))
  if s.zones[z].place = .standby ∧ k.init < 2 then
    (s.updZone z fun x => { x with trk := x.trk.first cnt t fwd }).edgesAllow z
  else
    let good := decide (absR (k.innovation cnt t) ≤ s.trackLimit z)
    let s := if s.zones[z].place = .tracking ∧ fwd ∧ ¬ good then s.enterFault z t else s
    let a : Rat := (s.zc z 0x58 : Rat) / 65536
    let b : Rat := (s.zc z 0x59 : Rat) / 65536
    (s.updZone z fun x => { x with trk := x.trk.filter cnt t fwd good a b }).edgesAllow z

/-- Process the edge held, if its time has come (R140). -/
def State.processHeld (s : State) (z : Fin 8) (now : Nat) : State :=
  let k := s.zones[z].trk
  match k.held with
  | some (c, t) => if k.tLast + 64 ≤ now then s.processEdge z c t else s
  | none => s

/-- An edge arrives: held while less than 64 ft after the last processed edge (R140). -/
def State.edge (s : State) (z : Fin 8) (cnt : Rat) (t : Nat) : State :=
  let s := s.processHeld z t
  let k := s.zones[z].trk
  if k.any ∧ t < k.tLast + 64 then s.updZone z fun x => { x with trk := { x.trk with held := some (cnt, t) } }
  else s.processEdge z cnt t

/-- The item that a scanning zone prints: the first with a line neither built nor dropped. -/
def State.scanItem (s : State) (z : Fin 8) : Option Item := (s.zoneItems z).find? fun it => s.unbuilt it

/-- The carriage passes the lowest line-0 target of a traverse not armed (R159): between two counted positions. -/
def State.carriage (s : State) (z : Fin 8) (was : Option Rat) : State :=
  if s.zc z 0x30 = 0 ∨ s.zones[z].armed then s
  else
    match s.scanItem z, was with
    | some it, some p =>
      let x : Rat := ((it.origin.getD 0 + s.lowestOff it : Int) : Rat)
      if wrapR (p - x) ≤ 0 ∧ 0 < wrapR (s.counted z - x) then s.spoil it.handle 7 (s.trackLoc z) none 0 0 else s
    | _, _ => s

/-- The reject hold ends once the position is valid and every item tracked at the loss is shown past the gate (R72). -/
def State.holdRelease (s : State) (z : Fin 8) : State :=
  if s.zones[z].hold ∧ s.zones[z].place ≠ .noSource ∧ (s.lossLeft z).isEmpty then s.releaseHold z 0 else s

/-- What a new counted position means for the zone: reversal, resumption, the carriage, the hold, the gate. A reversal in a scanning zone
with no traverse armed (R159) leaves the zone in TRACKING (DESIGN CHOICE, notes/assumptions/11). -/
def State.afterCount (s : State) (z : Fin 8) (was : Option Rat) (oldH : Rat) : State :=
  let c := s.counted z
  let x := s.zones[z]
  let scanIdle := s.zc z 0x30 != 0 && !x.armed
  let s :=
    if x.place = .tracking ∧ wrapR (c - x.hwm) < -(s.revThreshold z) ∧ ¬ scanIdle then s.suspend z
    else if x.place = .suspended ∧ 0 < wrapR (c - oldH) ∧ x.edgesReady then s.toTracking z
    else s
  ((s.carriage z was).holdRelease z).settle z

/-- Updates kept for the marks: those as young as the longest mark filter (100 µs), and one before them. -/
def trimTrail (from_ : Nat) : List Upd → List Upd
  | [] => []
  | a :: l => if a.stamp < from_ then [a] else a :: trimTrail from_ l

/-- The zone's source delivers a count update. -/
def Zone.counts (x : Zone) (u : Upd) : Zone :=
  { x with upd := some u, trail := trimTrail (u.stamp - usFt 100 - 2) (x.upd.toList ++ x.trail) }

/-- Move H by a correction of the count (R269). -/
def Zone.raise (x : Zone) (step : Rat) : Zone := { x with hwm := x.hwm + step }

/-- Standstill time of the zone's source, in ft (R273). -/
def State.standTime (s : State) (z : Fin 8) : Nat :=
  match s.srcChan z with | some c => usFt (s.cc c 0x0C) | none => msFt 1

/-- The position at a stamp no later than the update `b` (R273), among updates given newest first: by linear interpolation between the update
just before it and the one just after it, or that of the one before where the one after came later than `stand` after the stamp. -/
def posBetween (stand stamp : Nat) (b : Upd) : List Upd → Rat
  | [] => b.pos
  | a :: l =>
    if stamp = b.stamp then b.pos
    else if a.stamp ≤ stamp then
      if stamp + stand < b.stamp then a.pos
      else a.pos + wrapR (b.pos - a.pos) * ((stamp : Rat) - a.stamp) / ((b.stamp : Rat) - a.stamp)
    else posBetween stand stamp a l

/-- The zone's counted position at a stamp, once an update has come at it or after it (R273); `stand` is the standstill time of its source. -/
def Zone.posAt (x : Zone) (stand stamp : Nat) : Option Rat :=
  match x.upd with
  | some b => if b.stamp < stamp then none else some (posBetween stand stamp b x.trail)
  | none => none

/-- A recorded position: the counted one and the sensor offset (R273). -/
def State.markPos (s : State) (m : Fin 8) (p : Rat) : Int := pos48 (roundR p + sx 48 (s.oget (mIdx m) 0x03))

/-- Positions of a waiting mark that the zone's last updates give. -/
def MarkWait.fill (w : MarkWait) (at_ : Nat → Option Int) : MarkWait :=
  { w with pos := w.pos.orElse fun _ => at_ w.stamp,
           closePos := w.closePos.orElse fun _ => w.close.bind at_ }

/-- Record the positions of the marks of a zone that wait for an update (R273). -/
def State.recordMarks (s : State) (z : Fin 8) : State :=
  let m := s.zc z 0x71
  if h : m < 8 then
    let i : Fin 8 := ⟨m, h⟩
    let at_ := fun (t : Nat) => (s.zones[z].posAt (s.standTime z) t).map (s.markPos i)
    { s with marks := vupd s.marks i fun x => { x with waits := x.waits.map fun w => w.fill at_ } }
  else s

/-- A count update of the zone's source (R140, R255): position in pu, stamp. -/
def State.onCount (s : State) (z : Fin 8) (pos : Rat) (stamp : Nat) : State :=
  let was := s.zones[z].upd.map (·.pos)
  let oldH := s.zones[z].hwm
  let s := s.updZone z fun x =>
    let x := x.counts { pos, stamp }
    { x with hwm := if 0 < wrapR (pos - x.hwm) then pos else x.hwm }
  let s := s.recordMarks z
  if s.zones[z].place = .noSource then s.settle z else (s.edge z pos stamp).afterCount z was oldH

/-! ### Loss and return of the source -/

/-- Begin the reject hold of a zone (R72), with its event. -/
def State.beginHold (s : State) (z : Fin 8) (items : List Nat) : State :=
  match s.zoneGate z with
  | none => s
  | some g =>
    let was := s.gates[g].asserted
    let s := s.updZone z fun x => { x with hold := true, lossItems := items }
    let s := s.updGate g fun x => { x with hold := true, asserted := true, since := if was then x.since else s.ft }
    let s := if was then s else s.gateOut g true
    s.event 0x2813 (s.loc 16 (32 + g.val)) [(8, 1), (8, g.val)]

/-- The zone's source stops being valid (R270, R72). -/
def State.loseSource (s : State) (z : Fin 8) (loc : Nat) : State :=
  if s.zones[z].place = .noSource then s
  else
    let s := s.faultPasses z
    let tracked := ((s.printedItems z) ++ (s.polder z)).map Item.handle
    let s := s.updZone z fun x => { x with place := .noSource, trk := x.trk.standby }
    let s := ((s.withdrawZone z).spoilZone z (fun _ => true) 7 loc).updateLine
    let s := if tracked.isEmpty then s
      else if s.zones[z].hold then s.updZone z fun x => { x with lossItems := x.lossItems ++ tracked.filter (· ∉ x.lossItems) }
      else s.beginHold z tracked
    s.settle z

/-- The zone's source is valid again: the count resumes from its current value; H keeps its value (R270). -/
def State.gainSource (s : State) (z : Fin 8) : State :=
  if s.zones[z].place = .noSource then
    let p := s.sourcePos z
    let now := s.ft
    let s := s.updZone z fun x =>
      { x with place := .standby, upd := some { pos := p, stamp := now }, trail := [],
               trk := { x.trk.standby with pHat := p, vHat := 0, lastCnt := p, any := false } }
    (s.holdRelease z).settle z
  else s

/-- Location code of a lost source (Table 2.13). -/
def State.sourceLoc (s : State) (z : Fin 8) : Nat :=
  match s.srcChan z with
  | some c => s.loc 16 c.val
  | none =>
    let b := if s.zc z 0x50 = 9 then s.sync.bp[(1 : Fin 2)] else s.sync.bp[(0 : Fin 2)]
    s.loc 11 (8 + b.port)

/-- A zone with a board position, on a block whose peer appeared late, waits to be idle (R35). -/
def State.boardLate (s : State) (z : Fin 8) : Bool := (s.srcChan z).isNone && s.sync.late && !s.zoneIdle z

/-- The late alignment is done once it has completed and no zone with a board position waits for it any more (R35). -/
def State.endLate (s : State) : State :=
  if s.sync.late ∧ s.boardTime ∧
      (fins 8).all (fun z => (s.zc z 0x50 != 8 && s.zc z 0x50 != 9) || s.zones[z].place != .noSource || s.zoneIdle z) then
    { s with sync := { s.sync with late := false } }
  else s

/-- Bring every zone's placement state in line with the validity of its source (Table 5.1). -/
def State.checkSources (s : State) : State :=
  let s := (fins 8).foldl (fun s z =>
    if s.srcValid z then (if s.boardLate z then s else s.gainSource z) else s.loseSource z (s.sourceLoc z)) s
  s.endLate

/-- A count update of a channel reaches the zones that it serves, while it is valid. -/
def State.chanUpdate (s : State) (c : Fin 8) (stamp : Nat) : State :=
  if s.chans[c].state = .valid then (s.zonesOfChan c).foldl (fun s z => s.onCount z (s.sourcePos z) stamp) s else s

/-- HELD_EDGE_PROCESS (R140). -/
def execHeldEdgeProcess (t : Nat) (z : Fin 8) (s : State) : Host.Outcome State Fault Refusal :=
  let s := s.begin t
  if s.zones[z].place = .noSource then .next s
  else
    let x := s.zones[z]
    if x.trk.held.isSome ∧ x.trk.tLast + 64 ≤ s.ft then
      .next ((s.processHeld z s.ft).afterCount z none x.hwm)
    else .next s

/-- EDGE_TIMEOUT (R142): 1 ms without an edge. -/
def execEdgeTimeout (t : Nat) (z : Fin 8) (s : State) : Host.Outcome State Fault Refusal :=
  let s := s.begin t
  let x := s.zones[z]
  if x.trk.tLast + msFt 1 ≤ s.ft then
    match x.place with
    | .tracking => .next ((s.toStandby z).withdrawZone z)
    | .fault => .next (((s.faultPasses z).endFault z .standby).toStandby z)
    | _ => .next s
  else .next s

end Sys2Proof.Machine
end

