-- ==== Sys2Proof/Machine/Frames.lean ====
section
/-! DEFINITION. Building, stamping and withdrawing line frames (R22, R146–R152, R208), void overprint (R57–R60), the guard
(R128), sag (R180–R182), traverses (R156–R158), alignment patterns (R160, R161), CANCEL blocks (R221). -/

namespace Sys2Proof.Machine

/-! ### The line that a row would build next -/

/-- First item of the zone with a line of the row neither built nor dropped. -/
def State.nextBuild (s : State) (z : Fin 8) (h : Fin 64) (r : Fin 4) : Option (Item × Nat) :=
  (s.zoneItems z).findSome? fun it =>
    match it.progOf h r with
    | some q => if q.built < s.totalLines it then some (it, q.built) else none
    | none => none

/-- Void overprint has begun for the item (R58): 2 µs after its outcome became final. -/
def State.voidMode (s : State) (it : Item) : Bool :=
  match it.outcome with
  | some o => 1 ≤ o.code && o.code ≤ 9 && !it.blank && o.code != 1 && decide (o.finalFt + 2500 ≤ s.ft)
  | none => false

/-- The head prints the void of an item spoiled with an outcome code (Table 2.6). -/
def State.voidHead (s : State) (code : Nat) (h : Fin 64) : Bool :=
  let x := s.heads[h]
  match code with
  | 1 => false
  | 2 => x.thermal != .cooldown
  | 3 => x.inService
  | 8 => match x.chain with | some c => s.chains[c].state == .on | none => false
  | _ => true

/-- Highest drop code that a head defines; 0 for none. -/
def Head.topCode (x : Head) : Nat := ((List.range 8).filter x.defines).foldl max 0

/-- Codes of a void line (R57): the zone's pattern on the active nozzles, under the pass mask in a scanning zone (R113). -/
def State.voidCodes (s : State) (it : Item) (h : Fin 64) (r : Fin 4) (l : Nat) : Nat :=
  let pat := s.ogetFor it (zIdx it.zone) 0x14
  let n := it.lineOf l
  let x := s.heads[h]
  let t := s.traverseOf it l
  codesOf (s.planeMap h r) fun j =>
    let d := fld pat (3 * (64 * (n % 8) + j % 64)) 3
    let d := if d = 0 ∨ x.defines d then d else x.topCode
    match s.nozCol it h r j t with
    | some c => if (s.maskKeeps it h r j c n).1 then d else 0
    | none => 0

/-- The guard (R128): codes on nozzles that are defective in the installed or the pending generation become 0. The codes, how
many, and the lowest nozzle. -/
def State.guard (s : State) (h : Fin 64) (r : Fin 4) (w : Nat) : Nat × List Nat :=
  let x := s.heads[h]
  let b := x.nozzleBase r.val
  let hit := (activeNozzles (s.planeMap h r)).filter fun j =>
    codeAt w j != 0 && (x.inst.bad (b + j) || match x.pend with | some p => p.bad (b + j) | none => false)
  (hit.foldl (fun w j => codePut w j 0) w, hit)

/-! ### Sag (R180–R182) -/

/-- Mean VPH of a chain over the last 100 µs, in mV. -/
def State.meanVph (s : State) (c : Fin 16) : Rat :=
  let vs := (s.chains[c].samples.filter fun x => s.ft ≤ x.tick + usFt 100).map (·.mv)
  if vs.isEmpty then 0 else ((vs.foldl (· + ·) 0 : Nat) : Rat) / (vs.length : Rat)

/-- Main pulses of the train of drop code `d` fired at `fire`, each at its nominal width at `v` mV: start and end in ft (R181). -/
def Head.pulses (x : Head) (d fire : Nat) (v : Rat) : List (Rat × Rat) :=
  let q := x.record d
  ((List.range (recSubs q)).foldl (fun (a : Rat × List (Rat × Rat)) j =>
    let st := a.1 + (subPre q j : Rat) + (subDead q j : Rat)
    let w : Rat := 1250 * (subEnergy q j : Rat) * (x.rNom : Rat) / (v * v)
    (st + w + (subGap q j : Rat), a.2 ++ [(st, st + w)])) ((fire : Rat), [])).2

/-- Highest code of a row-line. -/
def topOf (w q : Nat) : Nat := ((List.range q).map (codeAt w)).foldl max 0

/-- i_pred of R181 in mA, over the stamped row-lines of a chain. A pulse holds its start tick and not its end tick (DESIGN CHOICE,
notes/assumptions/45). -/
def State.iPred (s : State) (c : Fin 16) (t v : Rat) : Rat :=
  (s.linkHeads c).foldl (fun a h =>
    let x := s.heads[h]
    (fins 4).foldl (fun a r =>
      x.rows[r].stamped.foldl (fun a l =>
        let top := topOf l.codes (x.nozzles r.val)
        if top ≠ 0 ∧ (x.pulses top l.fire v).any (fun p => decide (p.1 ≤ t) && decide (t < p.2)) then
          a + (l.drops : Rat) * (v * 1000 / (x.rNom : Rat))
        else a) a) a) 0

/-- Source resistance of a chain for an item, in µΩ (R180). -/
def State.rSource (s : State) (it : Item) (c : Fin 16) : Nat :=
  match s.ogetFor it (lIdx c) 0x4A with
  | 0 => s.chains[c].rsLearned
  | 1 => s.ogetFor it (lIdx c) 0x4B
  | _ => 0

/-- SAG of a row-line in mV (R182), with the row-line itself among the stamped ones. -/
def State.sagOf (s : State) (it : Item) (h : Fin 64) (r : Fin 4) (w fire : Nat) : Int :=
  let x := s.heads[h]
  let top := topOf w (x.nozzles r.val)
  match x.chain with
  | none => 0
  | some c =>
    let v := s.meanVph c
    if top = 0 ∨ v = 0 then 0
    else
      match (x.pulses top fire v).head? with
      | none => 0
      | some (a, b) =>
        let tm := (a + b) / 2
        let age : Rat := ((510 + 30 * (s.servedBy h).2 : Nat) : Rat) * 5 / 4
        let rs : Rat := (s.rSource it c : Rat) / 1000000
        clampI (roundR (rs * (s.iPred c tm v - s.iPred c (tm - age) v))) (-8000) 8000

/-! ### What an evaluation decides for a row -/

/-- Decision for the next line of a row (R146, R147, R208, R22). -/
inductive Build where
  | wait
  /-- The row-line is not complete. -/
  | berm
  /-- The item takes the spillway. -/
  | spill
  /-- The line fires nothing and is passed over; all the remaining lines of the item on the row, if so said. -/
  | skip (rest : Bool)
  /-- Stamped at an instant, from the prediction. -/
  | stamp (fire : Nat) (f : Int)
  deriving DecidableEq, Repr

/-- Latest fire instant of a row: of its last stamped line, else of its last fired one (R148). -/
def HRow.last (x : HRow) : Nat := (x.stamped.map (·.fire)).foldl max x.lastFire

/-- The row's line is complete in its ring: it stands at its front. -/
def HRow.complete (x : HRow) (handle line : Nat) : Bool := x.ring.any fun l => l.handle == handle && l.line == line

/-- Segment delays of a row-line, all within the range of R208. -/
def State.segDelays (s : State) (it : Item) (h : Fin 64) (r : Fin 4) (v : Rat) : List Int :=
  (List.range 8).map fun k => s.segDelay it h r k v
def segsFit (ds : List Int) : Bool := ds.all fun d => decide (-8388608 ≤ d) && decide (d ≤ 8388607)

/-- build of R146 for a line whose prediction lies within the frame lead. -/
def State.buildNow (s : State) (it : Item) (h : Fin 64) (r : Fin 4) (l : Nat) (f : Int) (void : Bool) : Build :=
  let z := it.zone
  let (_, v) := s.estimate z s.ft
  let row := s.heads[h].rows[r]
  if wrapR ((s.target it h r l : Rat) - s.zones[z].hwm) ≤ 0 then .spill
  else if ¬ s.headFires h then (if void then .skip false else .wait)
  else if ¬ void ∧ ¬ row.complete it.handle l then .berm
  else if ¬ segsFit (s.segDelays it h r v) then .spill
  else
    let fire := max f (max ((row.last + s.heads[h].pMin : Nat) : Int) ((s.ft + s.leadFloor h : Nat) : Int))
    let tol := s.tolOf z (s.ogetFor it (zIdx z) 0x53)
    if ((fire - f : Int) : Rat) * v > tol - tol / 4 - s.countSize z then .spill else .stamp fire.toNat f

/-- The decision for the next line of a row. -/
def State.decideRow (s : State) (it : Item) (h : Fin 64) (r : Fin 4) (l : Nat) : Build :=
  let z := it.zone
  if s.zc z 0x30 ≠ 0 ∧ ¬ s.inTraverse it l then .wait
  else
    let void := s.voidMode it
    let code := match it.outcome with | some o => o.code | none => 0
    if void ∧ (pmRole (s.planeMap h r) = 2 ∨ ¬ s.voidHead code h) then .skip true
    else
      match s.fireInstant it h r l with
      | none => .wait
      | some f => if f - s.ft > (s.ogetFor it (zIdx z) 0x55 : Int) then .wait else s.buildNow it h r l f void

/-! ### Acting on the decisions -/

/-- Pass a line of a row over, or all that are left: they are not fired as composed (R507), and nothing of them stays in the
ring. -/
def State.passLine (s : State) (it : Item) (h : Fin 64) (r : Fin 4) (rest : Bool) : State :=
  let n := s.totalLines it
  let b := match it.progOf h r with | some q => q.built | none => n
  let s := s.updItem it.handle fun x => x.markLeft (if rest then n else min n (b + 1)) b
  let s := s.updRow h r fun x =>
    { x with ring := x.ring.filter fun q => !(q.handle == it.handle && (rest || decide (q.line ≤ b))) }
  s.updProg it.handle h r fun q => if rest then { q with composed := n, built := n }
    else { q with composed := max q.composed (q.built + 1), built := q.built + 1 }

/-- A row-line not complete when its frame must leave (R22): location of Table 2.13. The line is lost, unless the item's lines
are dropped anyway. -/
def State.bermLoss (s : State) (it : Item) (h : Fin 64) (r : Fin 4) (l : Nat) : State :=
  let s := s.spoil it.handle 9 (s.locBMR 10 s.heads[h].bank 63 h.val r.val) (some l) 0 0
  match s.item? it.handle with
  | some x => if x.dropped then s else s.passLine x h r false
  | none => s

/-- The spillway count of R152: one for an item that a cause has made SPOILED_OVERSPEED. -/
def State.countSpill (s : State) (before after : Option Outcome) (z : Fin 8) : State :=
  let lost := fun (o : Option Outcome) => match o with | some o => o.code == 1 | none => false
  if lost after && !lost before then s.updZone z fun x => { x with spillway := x.spillway + 1 } else s

/-- The spillway (R151, R152): a void line is lost alone (R58), and so is a line of an item that keeps another outcome (R56). -/
def State.spillLine (s : State) (it : Item) (h : Fin 64) (r : Fin 4) (l : Nat) : State :=
  if s.voidMode it then s.passLine it h r false
  else
    let s := s.spoil it.handle 1 (s.locBMR 11 it.zone.val 0 h.val r.val) (some l) 0 0
    match s.item? it.handle with
    | none => s
    | some x =>
      let s := s.countSpill it.outcome x.outcome it.zone
      if x.dropped then s else s.passLine x h r false

/-- The item starts (R67): its set and the generations of its heads are fixed. -/
def State.startItem (s : State) (it : Item) : State :=
  if it.startSet.isSome then s
  else
    let n := s.zones[it.zone].setNo
    let g := (s.zoneHeads it.zone).map fun h => ({ head := h, inst := s.heads[h].inst.inst } : GenAt)
    let s := s.updItem it.handle fun x => { x with startSet := some n, startGens := g }
    if it.direct then s.freeStream it.handle else s

/-- Stamp a row-line and build its frame (R146, R173); its sag follows once every line of the evaluation is stamped (R181). -/
def State.stampLine (s : State) (it : Item) (h : Fin 64) (r : Fin 4) (l fire : Nat) (f : Int) : State :=
  let s := s.startItem it
  let x := s.heads[h]
  let void := s.voidMode it
  let raw := if void then s.voidCodes it h r l
    else match x.rows[r].ring.find? fun q => q.handle == it.handle && q.line == l with
      | some q => q.codes
      | none => 0
  let (w, hit) := s.guard h r raw
  let s := s.updZone it.zone fun x => { x with guarded := x.guarded + hit.length }
  let (_, v) := s.estimate it.zone s.ft
  let (p, d) := s.servedBy h
  let ratios := s.ogetFor it (hIdx h) 0x70
  let trim := s.ogetFor it (hIdx h) 0x71
  let fs := (List.range 16).map fun k => classFactor (classRatio ratios k) x.eRank trim (tempFactor x)
  let line : Stamped :=
    { handle := it.handle, line := l, void, fire, f0 := f, segs := s.segDelays it h r v, codes := w,
      drops := dropsOf w (x.nozzles r.val), sag := 0, factors := fs, port := p, depth := d, order := s.stampNo, sent := none,
      missed := false }
  let s := { s with stampNo := s.stampNo + 1 }
  let s := s.updRow h r fun y =>
    { y with ring := y.ring.filter (fun q => !(q.handle == it.handle && q.line == l) && (!void || q.handle != it.handle)),
             stamped := y.stamped ++ [line],
             withdrawn := y.withdrawn.map fun q =>
               if q.handle = it.handle ∧ q.line = l then { q with cancels := 0 } else q }
  let s := s.updProg it.handle h r fun q => { q with built := l + 1, composed := max q.composed (l + 1) }
  let s := if void then s.updItem it.handle fun x => x.markBad (l % max 1 x.lineCount) else s
  match hit with
  | [] => s
  | j :: _ =>
    if void then s else s.spoil it.handle 6 (locOf s.bpos 0 9 h.val 63 1023 r.val j) (some l) 0 0

/-! ### Withdrawal at an evaluation (R148) -/

/-- A stamped line must be withdrawn. -/
def State.mustWithdraw (s : State) (h : Fin 64) (r : Fin 4) (l : Stamped) : Bool :=
  match s.item? l.handle with
  | none => false
  | some it =>
    match s.fireInstant it h r l.line with
    | none => true
    | some f =>
      let (_, v) := s.estimate it.zone s.ft
      let tol := s.tolOf it.zone (s.ogetFor it (zIdx it.zone) 0x53)
      decide (roundR (tol / 4 / v) < ((f - l.f0).natAbs : Int))

/-- Withdraw what must be withdrawn, on every row. -/
def State.withdrawMoved (s : State) : State :=
  (fins 64).foldl (fun s h => (fins 4).foldl (fun s r => s.withdrawRow h r (s.mustWithdraw h r)) s) s

/-! ### The evaluation (R146) -/

/-- One row's decision, with what it was made for. -/
structure Cand where
  head : Fin 64
  row  : Fin 4
  item : Nat
  line : Nat
  dec  : Build
  deriving DecidableEq, Repr

/-- Decisions for every row of every zone. -/
def State.candidates (s : State) : List Cand :=
  (fins 8).flatMap fun z => (s.zoneRows z).filterMap fun (h, r) =>
    match s.nextBuild z h r with
    | none => none
    | some (it, l) => some { head := h, row := r, item := it.handle, line := l, dec := s.decideRow it h r l }

def Cand.fire (c : Cand) : Nat := match c.dec with | .stamp f _ => f | _ => 0

/-- Candidates in the order of their stamped instants (R182); ties by head, then row. -/
def insertCand (c : Cand) : List Cand → List Cand
  | [] => [c]
  | x :: xs => if c.fire < x.fire then c :: x :: xs else x :: insertCand c xs
def sortCands (cs : List Cand) : List Cand := cs.foldl (fun acc c => insertCand c acc) []

/-- Losses and spills, which end lines of items on every row. -/
def State.actLoss (s : State) (c : Cand) : State :=
  match s.item? c.item with
  | none => s
  | some it =>
    match c.dec with
    | .berm => s.bermLoss it c.head c.row c.line
    | .spill => s.spillLine it c.head c.row c.line
    | .skip rest => s.passLine it c.head c.row rest
    | _ => s

/-- Builds, each for an item that still has the line to build. -/
def State.actStamp (s : State) (c : Cand) : State :=
  match s.item? c.item, c.dec with
  | some it, .stamp fire f =>
    match it.progOf c.head c.row with
    | some q => if q.built = c.line then s.stampLine it c.head c.row c.line fire f else s
    | none => s
  | _, _ => s

/-- SAG of the lines stamped at this evaluation, from number `n` on: every one of them is in the prediction of each (R181,
R182). -/
def State.putSags (s : State) (n : Nat) : State :=
  (fins 64).foldl (fun a h => (fins 4).foldl (fun a r => a.updRow h r fun y =>
    { y with stamped := y.stamped.map fun q =>
        if n ≤ q.order then
          { q with sag := match s.item? q.handle with | some it => s.sagOf it h r q.codes q.fire | none => 0 }
        else q }) a) s

/-- What a spoiled item has left in the rings leaves them once void overprint has begun (R97). -/
def State.clearRings (s : State) : State :=
  (s.items.filter s.voidMode).foldl (fun s it => it.prog.foldl (fun s q => s.updRow q.head q.row fun x =>
    { x with ring := x.ring.filter fun l => l.handle ≠ it.handle }) s) s

/-- FRAME_BUILD_EVALUATION (R146–R152). -/
def execFrameBuildEvaluation (t : Nat) (s : State) : Host.Outcome State Fault Refusal :=
  let s := (s.begin t).withdrawMoved
  let s := ((fins 8).foldl State.faultPasses s).clearRings
  let cs := s.candidates
  let n := s.stampNo
  let s := cs.foldl State.actLoss s
  let s := ((sortCands cs).foldl State.actStamp s).putSags n
  .next ((fins 8).foldl State.settle s)

/-! ### CANCEL blocks (R221) -/

/-- Tick at which a frame is known to be complete at its node: 1,600 ns and 150 ns for each node, in ft. -/
def Sent.complete (x : Sent) : Nat := x.tick + 2000 + ceilDiv (150 * x.depth * 5) 4

/-- A CANCEL of the withdrawn line may leave now: the second 100 ns after the first. -/
def State.cancelDue (s : State) (w : Withdrawn) : Bool :=
  match w.sent with
  | some x =>
    w.cancels != 0 && decide (x.complete ≤ s.ft) && decide (s.ft + 6250 ≤ w.fire) &&
    (w.cancels == 2 || decide (w.cancelAt + 125 ≤ s.ft))
  | none => false

/-- CANCEL_SEND (R221). -/
def execCancelSend (t : Nat) (h : Fin 64) (row : Fin 4) (s : State) : Host.Outcome State Fault Refusal :=
  let s := s.begin t
  match s.heads[h].rows[row].withdrawn.find? s.cancelDue with
  | none => .next s
  | some w =>
    let line := match s.item? w.handle with | some it => it.lineOf w.line | none => w.line
    let port := match w.sent with | some x => x.port | none => 0
    let s' := s.updRow h row fun x =>
      { x with withdrawn := x.withdrawn.map fun y =>
          if y = w then { y with cancels := y.cancels - 1, cancelAt := s.ft } else y }
    .next (s'.timed port [(0x78, cancelContent s.heads[h].node row.val line w.handle)])

/-! ### Traverses (R156–R159) -/

/-- TRAVERSE_ARM (R157). -/
def execTraverseArm (t : Nat) (z : Fin 8) (s : State) : Host.Outcome State Fault Refusal :=
  let s := s.begin t
  let x := s.zones[z]
  match s.scanItem z with
  | none => .next s
  | some it =>
    if s.zc z 0x30 ≠ 0 ∧ ¬ x.armed ∧ ¬ x.feedDue ∧ ¬ x.feedRun ∧ it.origin.isSome ∧
        (s.zc z 0x12 : Rat) * s.pitch z ≤ wrapR (((it.origin.getD 0 + s.lowestOff it : Int) : Rat) - s.counted z) then
      let l := (it.prog.map (·.built)).foldl min (s.totalLines it)
      .next (s.armTraverse z it.handle (s.traverseOf it l))
    else .next s

/-- Every row has fired or dropped every line of the item up to its current traverse. -/
def State.traverseDone (s : State) (it : Item) : Bool :=
  let upto := ((s.zones[it.zone].traverse - (s.traverses it).1 + 1).toNat) * it.lineCount
  it.prog.all fun q =>
    decide (min upto (s.totalLines it) ≤ q.built) &&
    s.heads[q.head].rows[q.row].stamped.all fun l => l.handle != it.handle || decide (l.fire ≤ s.ft)

/-- TRAVERSE_END (R158): the feed move becomes due; at the end of an item's last traverse the feed position from which its
gate is measured is taken (R278). No feed move follows a pattern item (R161), nor an item that printed nothing. -/
def execTraverseEnd (t : Nat) (z : Fin 8) (s : State) : Host.Outcome State Fault Refusal :=
  let s := s.begin t
  let x := s.zones[z]
  if s.zc z 0x30 = 0 then .next s
  else
    match (s.zoneItems z).find? fun it => !it.prog.isEmpty && it.feedBase.isNone with
    | none => .next s
    | some it =>
      if s.traverseDone it ∧ (x.armed ∨ ¬ s.unbuilt it) then
        let pos := match s.feedAxis z with | some a => s.axes[a].posAt s.ft | none => 0
        let s := if s.unbuilt it then s else s.updItem it.handle fun y => { y with feedBase := some pos }
        let feed := x.armed && (s.feedAxis z).isSome && it.pattern == 0
        .next ((s.updZone z fun y => { y with armed := false, feedDue := y.feedDue || feed, feedPos := pos }).settle z)
      else .next s

/-! ### Alignment patterns (R160) -/

/-- A pattern item of a zone (Tables 5.2, 5.3). -/
def State.patternItem (s : State) (z : Fin 8) (cmd sid host : Nat) : Option Item :=
  let p := fld cmd 0 4
  if ¬ (p = 1 ∨ p = 2) ∨ fld cmd 4 28 ≠ 0 ∨ fld cmd 112 16 ≠ 0 ∨ 2 ^ 128 ≤ cmd then none
  else
    let lines := if p = 1 then 32 * (s.zoneRows z).length else 256
    -- header of a POSITION item without tiles
    let hdr := packBits [(8, 1), (3, z.val), (1, 1), (4, 0), (8, 0), (2, 0), (6, 0), (32, fld cmd 32 32), (16, 0xFFFF), (16, 0),
      (24, max 1 lines), (8, 0), (48, fld cmd 64 48), (16, 0), (24, 0), (8, 0), (32, 0)]
    (parseItem { hdr, tiles := [] }).map fun it => { it with direct := false, pattern := p, sid, host, lineCount := lines }

/-- ALIGNMENT_PATTERN (R160): the pattern item joins the queue of the zone under the writing session. -/
def execAlignmentPattern (t : Nat) (k : Kop) (z : Fin 8) (cmd : Nat) (s : State) : Host.Outcome State Fault Refusal :=
  .next ((s.begin t).command (.alignmentPattern t k z cmd) k (zIdx z) 0x67 cmd fun s w =>
    let x := s.sessions[w.sess]
    match s.patternItem z cmd (s.sid w.sess) (if bitOf x.roles 2 then x.hostId else 0) with
    | none => (s, .refuse abMalformed)
    | some it =>
      match s.freeSlots with
      | [] =>
        ((s.refuseSlot z it.hostId it.sid 7).updZone z fun y => { y with patternHandle := 0xFFFF }, .done)
      | slot :: _ =>
        if s.zc z 0x13 ≤ (s.zoneItems z).length then
          ((s.refuseSlot z it.hostId it.sid 7).updZone z fun y => { y with patternHandle := 0xFFFF }, .done)
        else
          let (s, h, _) := s.takeSlot it slot
          (s.updZone z fun y => { y with patternHandle := h }, .done))

end Sys2Proof.Machine
end

