-- ==== Sys2Proof/Machine/Supply.lean ====
section
/-! DEFINITION. The heater supplies of the chains (R176–R193). -/

namespace Sys2Proof.Machine

/-- HV die of a chain: HV-A serves chains 0–7, HV-B 8–15. -/
def dieOf (c : Fin 16) : Fin 2 := if c.val < 8 then 0 else 1

/-- Change a chain's state, with the event of the change. -/
def State.setChain (s : State) (c : Fin 16) (st : ChainState) : State :=
  let old := s.chains[c].state
  (s.updChain c fun x => { x with state := st }).stateChanged 14 (s.loc 14 c.val) (lIdx c) 0x41 old.code st.code

/-- Drive a chain's gate. -/
def State.gateTo (s : State) (c : Fin 16) (on : Bool) : State :=
  if s.chains[c].gate = on then s
  else (s.updChain c fun x => { x with gate := on, drive := if on then 2 else 0 }).emit (.chainGate c.val on)

/-- The heads of a chain lose their supply (R192): their items are spoiled, their lines withdrawn. -/
def State.supplyDown (s : State) (c : Fin 16) (loc : Nat) : State :=
  let hs := s.linkHeads c
  let s := hs.foldl State.withdrawHead s
  let s := s.spoilHeads hs 8 loc
  (fins 8).foldl State.settle s

/-- A chain that carries its heads: RAMP, ON or FAULT. -/
def ChainState.live : ChainState → Bool
  | .ramp => true | .on => true | .fault => true | _ => false

/-- A chain trips (Table 6.6). `die` is the DIE field of the location code. -/
def State.tripChain (s : State) (c : Fin 16) (cause die : Nat) : State :=
  let x := s.chains[c]
  let loc := locOf s.bpos die 14 c.val 63 1023 0xFFFF 0xFFFF
  let s := (s.gateTo c false).updChain c fun x =>
    { x with state := .tripped, trip := cause, faults := x.faults + 1 }
  let s := s.event 0x7010 loc [(8, c.val), (8, cause), (16, x.vph), (32, toU 32 x.current)]
  if x.state.live then s.supplyDown c loc else s

/-- A chain enters FAULT: the gate stays on, and a run of samples within the window begins anew (Table 6.6). -/
def State.faultChain (s : State) (c : Fin 16) : State :=
  let s := s.updChain c fun x => { x with state := .fault, faults := x.faults + 1, inRun := 0 }
  let s := s.faultEvent 14 (s.loc 14 c.val) (lIdx c) 0x41 0 s.chains[c].vph
  s.supplyDown c (s.loc 14 c.val)

/-- A sample lies within the chain's supply window (R185). -/
def State.inWindow (s : State) (c : Fin 16) (mv : Nat) : Bool := decide (s.lc c 0x43 ≤ mv) && decide (mv ≤ s.lc c 0x44)

/-- Take a sample into the chain's record (R176): the last samples, and the runs of R188. -/
def State.takeSample (s : State) (c : Fin 16) (mv : Nat) (ma : Int) : State :=
  let w := s.inWindow c mv
  let hot := decide ((100 * s.lc c 0x49 : Nat) < ma)
  let high := (fins 64).any fun h => s.heads[h].link == some c && s.heads[h].blockOk && decide (s.heads[h].vMax < mv)
  let now := s.ft
  s.updChain c fun x =>
    let lim := decide ((100 * x.inrush : Nat) ≤ ma)
    { x with vph := mv, current := ma, lastSample := some now,
             samples := ({ tick := now, mv, ma } :: x.samples).filter fun y => now ≤ y.tick + msFt 10,
             inRun := if w then x.inRun + 1 else 0, outRun := if w then 0 else x.outRun + 1,
             overI := if hot then x.overI + 1 else 0, overV := if high then x.overV + 1 else 0,
             inrushFrom := if lim then some (x.inrushFrom.getD now) else none,
             leakFrom := if 2000 < mv ∧ ¬ x.gate then some (x.leakFrom.getD now) else none }

/-- The current has been held at the inrush limit for 5 ms; the ramp timeout has passed. -/
def State.inrushDue (s : State) (c : Fin 16) : Bool :=
  match s.chains[c].inrushFrom with | some t => decide (t + msFt 5 ≤ s.ft) | none => false
def State.rampDue (s : State) (c : Fin 16) : Bool :=
  decide (s.chains[c].rampFrom + msFt s.chains[c].timeout ≤ s.ft)

/-- What the inrush control does with the gate on a sample in RAMP (R190): it lowers the gate above the inrush limit, holds it at
the limit and where VPH has risen at the ramp rate (mV/µs) since the sample before, and raises it otherwise. The manual states
the two bounds; that the regulator keeps them sample by sample is the model's (DESIGN CHOICE, notes/assumptions/43). -/
def Chain.regulate (x : Chain) : Nat :=
  match x.samples with
  | a :: b :: _ =>
    if (100 * x.inrush : Nat) < a.ma then 3
    else if a.ma = (100 * x.inrush : Nat) ∨ x.rate * (a.tick - b.tick) ≤ 1250 * (a.mv - b.mv) then 1 else 2
  | [a] => if (100 * x.inrush : Nat) < a.ma then 3 else if a.ma = (100 * x.inrush : Nat) then 1 else 2
  | [] => 2

/-- The inrush control follows the sample while the chain is in RAMP; from ON the gate is fully on. -/
def State.driveGate (s : State) (c : Fin 16) : State :=
  let x := s.chains[c]
  match x.state with
  | .ramp =>
    let d := x.regulate
    if x.drive = d then s else (s.updChain c fun y => { y with drive := d }).emit (.gateDrive c.val d)
  | .on => if x.drive = 4 then s else (s.updChain c fun y => { y with drive := 4 }).emit (.gateDrive c.val 4)
  | _ => s

/-- The transition that a sample brings (Table 6.6): a row that leads to TRIPPED first, before one to FAULT as R188 says and before one
to ON as well (DESIGN CHOICE, notes/assumptions/45). -/
def State.sampleStep (s : State) (c : Fin 16) : State :=
  let x := s.chains[c]
  if x.state.live then
    if x.state = .ramp ∧ s.rampDue c then s.tripChain c 1 0
    else if x.state = .ramp ∧ s.inrushDue c then s.tripChain c 2 0
    else if 2 ≤ x.overI then s.tripChain c 3 0
    else if 2 ≤ x.overV then s.tripChain c 4 0
    else
      match x.state with
      | .ramp => if 200 ≤ x.inRun then s.setChain c .on else s
      | .on => if 2 ≤ x.outRun then s.faultChain c else s
      | .fault => if 200 ≤ x.inRun then s.setChain c .on else s
      | _ => s
  else s

/-- Supply word of a sample (Table 6.4). -/
def supplyWord (c : Fin 16) (mv : Nat) (valid : Bool) (tick seq : Nat) : Nat :=
  packBits [(16, mv), (4, c.val), (1, b2n valid), (3, 0), (32, tick), (8, seq)]

/-- Send the sample's supply word on the links that serve the chain, in RAMP, ON and FAULT (R176), on both ports of a dual-homed
pair (R227); the sequence counts the samples. The state is that which the sample leaves: the sample that trips the chain sends no word
(DESIGN CHOICE, notes/assumptions/45). -/
def State.sendSupply (s : State) (c : Fin 16) (mv : Nat) : State :=
  let x := s.chains[c]
  let now := s.ft
  if x.state.live then
    let w := supplyWord c mv (s.inWindow c mv && x.state == .on) now x.seq
    let s := (s.updChain c fun y =>
      { y with seq := (y.seq + 1) % 256, words := (now, w) :: y.words.filter fun q => decide (now < q.1 + usFt 200) }).timed c
        (supplyPair w)
    if s.isDual c then s.timed (Fin.ofNat 16 (c.val + 1)) (supplyPair w) else s
  else s.updChain c fun y => { y with seq := (y.seq + 1) % 256 }

/-- The HV supervisor takes a sample: PD-HV is ON, or in RETENTION a millisecond after the last one (R176, R471). -/
def State.samples? (s : State) (c : Fin 16) : Bool :=
  match s.domains[(8 : Fin 11)].state with
  | 2 => true
  | 1 => match s.chains[c].lastSample with | some a => decide (a + msFt 1 ≤ s.ft) | none => true
  | _ => false

/-- Current in mA of a differential sense voltage in nV over the shunt in µΩ (R493, Table 6.9), rounded by R20. -/
def State.shuntCurrent (s : State) (c : Fin 16) (sense : Int) : Int := roundR ((sense : Rat) / (s.lc c 0x45 : Rat))

/-- VPH_SAMPLE (R176, R188, R190): `sense` is the differential voltage at the shunt in nV (Table 19.8). -/
def execVphSample (t : Nat) (c : Fin 16) (mv : Nat) (sense : Int) (s : State) : Host.Outcome State Fault Refusal :=
  let s := s.begin t
  if s.samples? c then
    .next ((((s.takeSample c mv (s.shuntCurrent c sense)).sampleStep c).driveGate c).sendSupply c mv)
  else .next s

/-- No sample of the chain for 50 µs (R179). -/
def State.sampleMissing (s : State) (c : Fin 16) : Bool :=
  match s.chains[c].lastSample with | some a => decide (a + usFt 50 ≤ s.ft) | none => true

/-- VPH sense has stood above 2,000 mV for 1 ms with the gate off (R188). -/
def State.leaks (s : State) (c : Fin 16) : Bool :=
  match s.chains[c].leakFrom with | some a => decide (a + msFt 1 ≤ s.ft) | none => false

/-- VPH_SAMPLE_TIMEOUT (R179, R188): no sample for 50 µs. -/
def execVphSampleTimeout (t : Nat) (c : Fin 16) (s : State) : Host.Outcome State Fault Refusal :=
  let s := s.begin t
  if s.chains[c].state = .on ∧ s.sampleMissing c then .next (s.faultChain c) else .next s

/-- The estimate of R180 over sample pairs, in µΩ: the least-squares slope, if the current varies enough. -/
def slopeOf (xs : List Sample) : Option Rat :=
  let n : Rat := xs.length
  let sv : Rat := ((xs.map fun x => (x.mv : Int)).foldl (· + ·) 0 : Int)
  let si : Rat := ((xs.map (·.ma)).foldl (· + ·) 0 : Int)
  let sii : Rat := ((xs.map fun x => x.ma * x.ma).foldl (· + ·) 0 : Int)
  let svi : Rat := ((xs.map fun x => (x.mv : Int) * x.ma).foldl (· + ·) 0 : Int)
  if n = 0 then none
  else
    let var := sii / n - si / n * (si / n)
    let cov := svi / n - sv / n * (si / n)
    if var < 4000000 then none else some (-(cov / var) * 1000000)

/-- SOURCE_RESISTANCE_ESTIMATE (R180): every 10 ms in mode LEARNED. The event of a discarded estimate names subsystem 12, whose figure it is,
with slice 63, since Table 1.8 has no slice for a chain there (DESIGN CHOICE, notes/assumptions/45). -/
def execSourceResistanceEstimate (t : Nat) (c : Fin 16) (s : State) : Host.Outcome State Fault Refusal :=
  let s := s.begin t
  let x := s.chains[c]
  if s.lc c 0x4A = 0 ∧ x.rsAt + msFt 10 ≤ s.ft then
    let s := s.updChain c fun y => { y with rsAt := s.ft }
    match slopeOf (x.samples.filter fun y => s.ft ≤ y.tick + msFt 10) with
    | none => .next s
    | some r =>
      if 0 ≤ r ∧ r ≤ 500000 then .next (s.updChain c fun y => { y with rsLearned := (roundR r).toNat })
      else
        .next ((s.updChain c fun y => { y with rsBad := y.rsBad + 1 }).faultEvent 12 (s.loc 12 63) (lIdx c) 0x4C 0
          (toU 32 (roundR r)))
  else .next s

/-! ### Supply control (R187–R189, R193) -/

/-- The port is the secondary of a dual-homed pair (R187). -/
def State.isSecondary (s : State) (c : Fin 16) : Bool := c.val % 2 == 1 && s.isDual (Fin.ofNat 16 (c.val - 1))

/-- ON (R187, R188, R424, R478). -/
def State.supplyOn (s : State) (c : Fin 16) : State × CmdRes :=
  if s.lifeCycle = 0 ∨ s.lifeCycle = 4 then (s, .refuse abLifeCycle)
  else if s.isSecondary c then (s, .refuse abConfig)
  else if s.devState = 2 then (s, .refuse abWork)
  else if s.chains[c].state = .off then (s.updChain c fun x => { x with state := .armed }, .done)
  else (s, .done)

/-- OFF (R188, R193). -/
def State.supplyOff (s : State) (c : Fin 16) : State :=
  match s.chains[c].state with
  | .armed => s.updChain c fun x => { x with state := .off }
  | .ramp | .on | .fault =>
    ((s.gateTo c false).updChain c fun x => { x with state := .off }).supplyDown c (s.loc 14 c.val)
  | _ => s

/-- RESET (R188). -/
def State.supplyReset (s : State) (c : Fin 16) : State :=
  if s.chains[c].state = .tripped ∧ s.chains[c].vph < 2000 then s.setChain c .off else s

/-- SUPPLY_ON (R188). -/
def execSupplyOn (t : Nat) (k : Kop) (c : Fin 16) (s : State) : Host.Outcome State Fault Refusal :=
  .next ((s.begin t).command (.supplyOn t k c) k (lIdx c) 0x40 1 fun s _ => s.supplyOn c)

/-- SUPPLY_OFF (R193). -/
def execSupplyOff (t : Nat) (k : Kop) (c : Fin 16) (s : State) : Host.Outcome State Fault Refusal :=
  .next ((s.begin t).command (.supplyOff t k c) k (lIdx c) 0x40 0 fun s _ => (s.supplyOff c, .done))

/-- CHAIN_SUPPLY_RESET (R188). -/
def execChainSupplyReset (t : Nat) (k : Kop) (c : Fin 16) (s : State) : Host.Outcome State Fault Refusal :=
  .next ((s.begin t).command (.chainSupplyReset t k c) k (lIdx c) 0x40 2 fun s _ => (s.supplyReset c, .done))

/-- A head that does not keep its chain in ARMED (R189, R238): accepted, scanned, with usable drive data within the window, its
trim plane loaded (R245). -/
def State.headArms (s : State) (h : Fin 64) : Bool :=
  let x := s.heads[h]
  s.headAccepted h && decide (1 ≤ x.fullRuns) && x.driveOk && s.headWindow h && (x.trimOk || x.trimFailed)

/-- Every node of the chain has been enumerated, and every head end that it still holds has a head position that arms it: one left
out of service is on the chain as well, for the supply is common to the chain (R189, R238). A head end whose node is lost is asked
nothing (DESIGN CHOICE, notes/assumptions/45). -/
def State.chainArms (s : State) (c : Fin 16) : Bool :=
  let p := s.ports[c]
  (p.state == .aligning || p.state == .ready) && decide (1 ≤ p.enumDepth) &&
  (fins 9).all fun a =>
    let n := p.nodes[a]
    !n.present || n.lost || n.kind != 1 || (match n.head with | some h => s.headArms h | none => false)

/-- The arming conditions of R189, with PD-HV ON (R470). -/
def State.mayRamp (s : State) (c : Fin 16) : Bool :=
  s.chainArms c && decide (s.chains[c].vph < 2000) && s.power.die[dieOf c] && s.domains[(8 : Fin 11)].state == 2

/-- SUPPLY_RAMP_START (R189, R190): the ramp's parameters are latched. -/
def execSupplyRampStart (t : Nat) (c : Fin 16) (s : State) : Host.Outcome State Fault Refusal :=
  let s := s.begin t
  if s.chains[c].state = .armed ∧ s.mayRamp c then
    let s' := s.updChain c fun x =>
      { x with state := .ramp, rampFrom := s.ft, inrush := s.lc c 0x46, rate := s.lc c 0x47, timeout := s.lc c 0x48,
               inRun := 0, outRun := 0, overI := 0, overV := 0, inrushFrom := none, leakFrom := none }
    .next (s'.gateTo c true)
  else .next s

/-- RAMP_TIMEOUT (R188). -/
def execRampTimeout (t : Nat) (c : Fin 16) (s : State) : Host.Outcome State Fault Refusal :=
  let s := s.begin t
  if s.chains[c].state = .ramp ∧ s.rampDue c then .next (s.tripChain c 1 0) else .next s

/-- INRUSH_TIMEOUT (R188). -/
def execInrushTimeout (t : Nat) (c : Fin 16) (s : State) : Host.Outcome State Fault Refusal :=
  let s := s.begin t
  if s.chains[c].state = .ramp ∧ s.inrushDue c then .next (s.tripChain c 2 0) else .next s

/-- SWITCH_LEAK (R188): VPH sense above 2,000 mV for 1 ms with the gate off. -/
def execSwitchLeak (t : Nat) (c : Fin 16) (s : State) : Host.Outcome State Fault Refusal :=
  let s := s.begin t
  if (s.chains[c].state = .off ∨ s.chains[c].state = .armed) ∧ s.leaks c then .next (s.tripChain c 6 0) else .next s

/-- HV_DIE_LOSS (R188): the gates of the die turn off. -/
def execHvDieLoss (t : Nat) (die : Fin 2) (s : State) : Host.Outcome State Fault Refusal :=
  let s := s.begin t
  let s := { s with power := { s.power with die := s.power.die.set die false } }
  .next (((fins 16).filter fun c => dieOf c = die).foldl (fun s c => s.tripChain c 5 (die.val + 1)) s)

end Sys2Proof.Machine
end

