-- ==== Sys2Proof/Machine/Link.lean ====
section
/-! DEFINITION. The Flinel link: bring-up, numbering and load (R195–R217), frames on the lanes (R202–R207, R219),
control frames, lost nodes and lanes (R222–R226), dual-homed chains (R227–R230). -/

namespace Sys2Proof.Machine

/-- A tick that has been waited from, `d` ft ago or more. -/
def waited (o : Option Nat) (d now : Nat) : Bool := match o with | some b => decide (b + d ≤ now) | none => false

/-! ### Frames on the lanes (R202, R205, R219, R222) -/

/-- Record of a frame in every FEC block that it lies in, of the last 256 of its lane (R222). A control frame is recorded under its node
address; a broadcast ENUM, which every node takes, under 64 plus the depth that it asks. -/
def Port.record (p : Port) (lane first last : Nat) (line : List (Fin 64 × Fin 4 × Nat × Nat)) (ctl : List Nat) : Port :=
  { p with recs := (p.recs.filter fun r => r.lane != lane || decide (last < r.bseq + 256)) ++
      (List.range (last + 1 - first)).map fun k => { lane, bseq := first + k, lines := line, ctls := ctl } }

/-- The logical lane that is free first; L0 on a tie. -/
def Port.freeLane (p : Port) : Fin 2 := if p.tx[(1 : Fin 2)].free < p.tx[(0 : Fin 2)].free then 1 else 0

/-- Place a frame on the logical lane that is free first: the lane, the tick at which its trailer leaves, the sequence of the block
of its trailer. -/
def State.placeFrame (s : State) (l : Fin 16) (ws : List Nat) (line : List (Fin 64 × Fin 4 × Nat × Nat)) (ctl : List Nat) :
    State × Nat × Nat × Nat :=
  let i := s.ports[l].freeLane
  let s := s.idleLane l i
  let p := s.ports[l]
  let x := p.tx[i]
  let q := x.put ws
  let y := { q.1 with free := x.free + wordsFt ws.length }
  let s := (s.updPort l fun p => ({ p with tx := vupd p.tx i fun _ => y }).record i.val x.bseq y.last line ctl).emit (.frame l.val i.val ws)
  (s.send l (p.physical i.val) (y.outs l (p.physical i.val) i.val q.2), i.val, y.free, y.last)

/-! ### Line frames (R207, R219) -/

/-- A stamped line waits to be sent by the port. -/
def State.lineWaits (s : State) (l : Fin 16) : Bool :=
  (fins 64).any fun h => (fins 4).any fun r =>
    s.heads[h].rows[r].stamped.any fun y => y.port == l && y.sent.isNone

/-- The stamped unsent lines of the port, and the first of them in the order of stamping. -/
def State.nextFrame (s : State) (l : Fin 16) : Option (Fin 64 × Fin 4 × Stamped) :=
  let all := (fins 64).flatMap fun h => (fins 4).flatMap fun r =>
    (s.heads[h].rows[r].stamped.filter fun y => y.port == l && y.sent.isNone).map fun y => (h, r, y)
  all.foldl (fun (b : Option (Fin 64 × Fin 4 × Stamped)) x =>
    match b with
    | some y => if x.2.2.order < y.2.2.order then some x else b
    | none => some x) none

/-- The port sends frames: FEC mode has begun. -/
def State.sends (s : State) (l : Fin 16) : Bool := s.ports[l].fec

/-! ### Control frames (R211, R223) -/

/-- The port that serves a node of chain `c`, and its depth from that port (R229). -/
def State.nodePort (s : State) (c : Fin 16) (a : Fin 9) : Fin 16 :=
  let p := s.ports[c]
  if s.isDual c ∧ (p.dual = .split ∨ p.dual = .isolated) ∧ p.splitPt ≠ 0 ∧ p.splitPt ≤ a.val then Fin.ofNat 16 (c.val + 1) else c

/-- The tick at which a frame of `n` words placed now begins to leave, and the one at which its trailer has left. -/
def State.frameTicks (s : State) (l : Fin 16) (n : Nat) : Nat × Nat :=
  let b := max s.ft s.ports[l].tx[s.ports[l].freeLane].free
  (b, b + wordsFt n)

/-- Send the control frame of a node that waits to be sent: a retry only while engine K6 runs (R24, R223). -/
def State.sendCtl (s : State) (c : Fin 16) (a : Fin 9) : State :=
  let n := s.ports[c].nodes[a]
  match n.ctl with
  | some f =>
    let l := s.nodePort c a
    if f.busy ∧ s.sends l ∧ ¬ s.lineWaits l ∧ (¬ f.again ∨ s.running 6) then
      let (s, _, t, _) := s.placeFrame l (controlFrame a.val f.cseq f.req.op f.req.reg f.req.cnt f.req.data) []
        [if f.req.op = 3 then 64 + a.val else a.val]
      s.updNode c a fun x => { x with ctl := some { f with busy := false, tries := f.tries + 1, sentAt := t, again := true } }
    else s
  | none => s

/-- The next waiting control frame of a node becomes its outstanding one. -/
def State.nextCtl (s : State) (c : Fin 16) (a : Fin 9) : State :=
  let n := s.ports[c].nodes[a]
  match n.ctl, n.ctlWait with
  | none, req :: rest =>
    (s.updNode c a fun x =>
      { x with ctlWait := rest, cseq := (x.cseq + 1) % 256,
               ctl := some { cseq := x.cseq, req, tries := 0, sentAt := 0, busy := true, again := false } }).sendCtl c a
  | _, _ => s

/-- Queue a control frame for a node. -/
def State.control (s : State) (c : Fin 16) (a : Fin 9) (req : CtlReq) : State :=
  (s.updNode c a fun x => { x with ctlWait := x.ctlWait ++ [req] }).nextCtl c a

/-- WRITE of register words, and READ of `n` of them. -/
def State.writeRegs (s : State) (c : Fin 16) (a : Fin 9) (reg : Nat) (vs : List Nat) : State :=
  s.control c a { op := 2, reg, cnt := vs.length, data := vs }
def State.writeReg (s : State) (c : Fin 16) (a : Fin 9) (reg v : Nat) : State := s.writeRegs c a reg [v]
def State.readRegs (s : State) (c : Fin 16) (a : Fin 9) (reg n : Nat) : State := s.control c a { op := 1, reg, cnt := n, data := [] }

/-- The node of an enumerated head, while it is not lost. -/
def State.headNode (s : State) (h : Fin 64) : Option (Fin 16 × Fin 9) :=
  match s.heads[h].link with
  | some c =>
    let a := Fin.ofNat 9 s.heads[h].node
    if s.ports[c].nodes[a].present ∧ ¬ s.ports[c].nodes[a].lost then some (c, a) else none
  | none => none

/-- WRITE of registers of a head's node. -/
def State.writeHeads (s : State) (h : Fin 64) (reg : Nat) (vs : List Nat) : State :=
  match s.headNode h with
  | some (c, a) => s.writeRegs c a reg vs
  | none => s
def State.writeHead (s : State) (h : Fin 64) (reg v : Nat) : State := s.writeHeads h reg [v]

/-- Control frames that waited for line frames leave. -/
def State.pumpCtl (s : State) (l : Fin 16) : State :=
  let c := s.chainOf l
  (fins 9).foldl (fun s a => s.sendCtl c a) s

/-- The words of a stamped line's frame (Table 7.6, R174). -/
def State.lineWords (s : State) (h : Fin 64) (r : Fin 4) (y : Stamped) : List Nat :=
  let line := match s.item? y.handle with | some it => it.lineOf y.line | none => y.line
  lineFrame s.heads[h].node r.val y.void line y.fire y.segs y.factors y.sag y.handle (s.heads[h].nozzles r.val) y.codes

/-- LINE_FRAME_TRANSMIT (R219): the first line in the order of stamping, on the logical lane that is free first. -/
def execLineFrameTransmit (t : Nat) (l : Fin 16) (s : State) : Host.Outcome State Fault Refusal :=
  let s := s.begin t
  if !s.sends l then .next s
  else
    match s.nextFrame l with
    | none => .next (s.pumpCtl l)
    | some (h, r, y) =>
      let (s, lane, tick, bseq) := s.placeFrame l (s.lineWords h r y) [(h, r, y.handle, y.line)] []
      let s := s.updRow h r fun x =>
        { x with stamped := x.stamped.map fun z =>
            if z.order = y.order then { z with sent := some { port := l, lane, tick, bseq, depth := y.depth } } else z }
      .next (s.pumpCtl l)

/-- TIME_PAIR_SEND (R217): every 10 µs from the alignment on. -/
def execTimePairSend (t : Nat) (l : Fin 16) (s : State) : Host.Outcome State Fault Refusal :=
  let s := s.begin t
  let p := s.ports[l]
  if (p.state = .aligning ∨ p.state = .ready) ∧ periodic p.lastTime (usFt 10) s.ft then
    .next ((s.updPort l fun x => { x with lastTime := some s.ft, tseq := (x.tseq + 1) % 256 }).timed l (timePair s.ft p.tseq))
  else .next s

/-! ### Link and dual states -/

/-- Every link port has come to READY or FAULT. -/
def State.linksUp (s : State) : Bool := (fins 16).all fun l => s.ports[l].state == .ready || s.ports[l].state == .fault

/-- Start-up step 10 (R475): once, when every port has come to READY or FAULT, ON is written with origin 0 to each chain that serves
an enumerated head of a zone. -/
def State.tryAutoOn (s : State) : State :=
  if s.devState = 0 ∧ ¬ s.power.autoOn ∧ s.linksUp then
    let s := { s with power := { s.power with autoOn := true } }
    (fins 16).foldl (fun s c => if (s.linkHeads c).any fun h => (s.zoneOfHead h).isSome then (s.supplyOn c).1 else s) s
  else s

/-- Change a link's state, with the event where the chapter asks for one (FAULT). -/
def State.setLink (s : State) (l : Fin 16) (st : LinkState) : State :=
  let old := s.ports[l].state
  let s := s.updPort l fun p => { p with state := st, since := s.ft }
  let s := if st = .fault then s.stateChanged 13 (s.loc 13 l.val) (lIdx l) 0x01 old.code st.code else s
  if st = .fault ∨ st = .ready then s.tryAutoOn else s

/-- The link of a chain moves on; the secondary of a pair that is up moves with it (R213). -/
def State.setChainLink (s : State) (c : Fin 16) (st : LinkState) : State :=
  let s := s.setLink c st
  let b : Fin 16 := Fin.ofNat 16 (c.val + 1)
  if s.isDual c ∧ s.sends b ∧ s.ports[b].state ≠ .fault then s.setLink b st else s

/-- Change a chain's dual state with its event (Table 7.13). -/
def State.setDual (s : State) (c : Fin 16) (d : Dual) (split : Nat) : State :=
  let old := s.ports[c].dual
  (s.updPort c fun p => { p with dual := d, splitPt := split }).event 0x6813 (s.loc 13 c.val)
    [(8, c.val), (8, old.code), (8, d.code), (8, split)]

/-- Zones with a head on the chain. -/
def State.chainZones (s : State) (c : Fin 16) : List (Fin 8) :=
  (fins 8).filter fun z => (s.zoneHeads z).any fun h => s.heads[h].link == some c
def State.chainIdle (s : State) (c : Fin 16) : Bool := (s.chainZones c).all s.zoneIdle

/-! ### Bring-up (R213) -/

/-- A head position loses its node: nothing of the head is known until it is enumerated again (R237, R508). -/
def Head.absent (x : Head) : Head :=
  { x with inService := false, idState := .absent, maker := 0, blockOk := false, driveOk := false,
           rd := [], rdBase := [], rdEnd := 0, scanAhead := none, scanRedo := [], trim := 0, trimBusy := false, trimOk := false, trimTries := 0,
           trimFailed := false, thermal := .cold, sensorFault := false, tripped := false, integ := 0, warmPeriod := 0, scanDue := false, scanBlk := none, baseOk := false,
           baseline := [] }

/-- Step 1 of Table 7.11 on one port: everything known of its chain is forgotten. -/
def State.trainPort (s : State) (l : Fin 16) : State :=
  let s := ((fins 64).filter fun h => s.heads[h].link == some l).foldl (fun s h =>
    s.updHead h fun x =>
      { x.absent with link := none, node := 0, temp := 0, tempAt := none,
                      rows := x.rows.map fun r => { r with ring := [], stamped := [], withdrawn := [], lastFire := r.last } }) s
  let now := s.ft
  let s := (s.abandonLane l).updLane l fun x => { x with failed := 0 }
  let s := s.updPort l fun p =>
    { p with state := .training, since := now, nodes := Vector.replicate 9 Node.init, enumDepth := 0, lockU0 := false,
             lockUS := false, lockSince := none, dual := .single, splitPt := 0, raster := 0, words := 0,
             laneMap := 4, move := none, spareWhy := 0, fec := false, tx := Vector.replicate 2 { LaneTx.init with free := now },
             spare := { LaneTx.init with free := now }, rxLeft := 0, rxWait := true, rxKind := Vector.replicate 2 0, recs := [], lastTime := none, loss0 := [], loss1 := [], lam := 0, again := false, tooLong := false }
  let s := { s with power := { s.power with pll := s.power.pll.set l.val true } }
  [0, 1, 2].foldl (fun s i => s.send l i [Out.block l.val i 0x33 (trainContent 1 0)]) s

/-- The ports of a chain. -/
def State.chainPorts (s : State) (c : Fin 16) : List (Fin 16) :=
  if s.isDual c then [c, Fin.ofNat 16 (c.val + 1)] else [c]

/-- The chain is brought up again: both ports of a dual-homed pair at once. -/
def State.bringUp (s : State) (c : Fin 16) : State := (s.chainPorts c).foldl State.trainPort s

/-- LINK_BRINGUP (R213): the lanes of a port leave reset with its PLL locked. -/
def execLinkBringup (t : Nat) (l : Fin 16) (s : State) : Host.Outcome State Fault Refusal :=
  let s := s.begin t
  .next (((s.chainPorts (s.chainOf l)).filter fun p =>
    s.ports[p].state == .off && s.power.pll[(Fin.castLE (by omega) p : Fin 20)]).foldl State.trainPort s)

/-- Power domain of a link port (Table 18.5): PD-LKA serves HL0–HL7, PD-LKB HL8–HL15. -/
def linkDomain (l : Fin 16) : Fin 11 := if l.val < 8 then 4 else 5

/-- LINK_BRINGUP_RETRY (R213, R471): 100 ms in FAULT, not while the domain of the port is in RETENTION. A port whose heads are still
in zones that are not idle waits for them; the secondary of a pair, which serves no chain of its own, comes up again alone. -/
def execLinkBringupRetry (t : Nat) (l : Fin 16) (s : State) : Host.Outcome State Fault Refusal :=
  let s := s.begin t
  let p := s.ports[l]
  if p.state = .fault ∧ p.since + msFt 100 ≤ s.ft ∧ s.domains[linkDomain l].state = 2 then
    if s.chainOf l ≠ l then .next (s.trainPort l)
    else if s.chainIdle l then .next (s.bringUp l)
    else .next s
  else .next s

/-- PORT_AUTO_BRINGUP (R224). -/
def execPortAutoBringup (t : Nat) (l : Fin 16) (s : State) : Host.Outcome State Fault Refusal :=
  let s := s.begin t
  let c := s.chainOf l
  if s.ports[c].again ∧ s.chainIdle c then .next (s.bringUp c) else .next s

/-- ENUMERATE (R232). -/
def execEnumerate (t : Nat) (k : Kop) (l : Fin 16) (s : State) : Host.Outcome State Fault Refusal :=
  .next ((s.begin t).command (.enumerate t k l) k (lIdx l) 0x10 1 fun s _ =>
    let c := s.chainOf l
    if s.chainIdle c then (s.bringUp c, .done) else (s, .refuse abWork))

/-- BLOCK_LOCK_GAINED (R199), by the sync headers that the lane has received. -/
def execBlockLockGained (t : Nat) (l : Fin 16) (x : LaneHeaders) (s : State) : Host.Outcome State Fault Refusal :=
  let s := s.begin t
  if lockGained x.hdrs then
    .next (s.updPort l fun p =>
      { p with lockU0 := p.lockU0 || x.lane == 0, lockUS := p.lockUS || x.lane == 1,
               lockSince := if p.lockU0 ∨ p.lockUS then p.lockSince else some s.ft })
  else .next s

/-! ### Enumeration (R197, R213–R215) -/

/-- Identity fields (Table 7.10). -/
def idDownLat (i : Nat) : Nat := fld i 128 8
def idUpLat (i : Nat) : Nat := fld i 136 8

/-- ENUM to a depth: register word of Table 7.8. -/
def State.sendEnum (s : State) (c : Fin 16) (a : Fin 9) : State :=
  s.control c a { op := 3, reg := a.val + 16 * a.val, cnt := 4, data := [] }

/-- Partitions of the heads that have one in a bank of the line store. -/
def State.bankHeads (s : State) (b : Fin 16) : List (Fin 64) :=
  (fins 64).filter fun h => s.heads[h].link.isSome && s.heads[h].bank == b.val

/-- The bank for a partition that its link's own does not take (R23): the lowest whose own link serves fewer than four heads and
that has room. -/
def State.spareBank (s : State) (c : Fin 16) : Nat :=
  match (fins 16).find? fun b =>
      decide ((s.bankHeads b).length < 4) && decide (((fins 64).filter fun h => s.heads[h].link == some b).length < 4) with
  | some b => b.val
  | none => c.val

/-- A link's bank makes room for one of its own first four heads (R23): of the partitions of other links' heads that stand in it, that of
the lowest-numbered head is placed anew, although its link is not being enumerated (DESIGN CHOICE, notes/assumptions/16). -/
def State.clearBank (s : State) (c : Fin 16) : State :=
  if (s.bankHeads c).length < 4 then s
  else
    match (s.bankHeads c).find? fun h => s.heads[h].link != some c with
    | some h => let b := s.spareBank c; s.updHead h fun x => { x with bank := b }
    | none => s

/-- A head end left out of service, with the event (R197, R36, R231). -/
def State.leaveOut (s : State) (c : Fin 16) (a : Fin 9) (sub : Nat) : State :=
  (s.updNode c a fun n => { n with inService := false }).faultEvent 13 (s.locBMR 13 c.val 63 a.val 0xFFFF)
    (lIdx c + a.val) sub 0 0

/-- Maker, model and serial of a node identity (Table 7.10). -/
def idTriple (i : Nat) : Nat × Nat × Nat := (fld i 16 16, fld i 32 32, fld i 64 64)

/-- An identity other than the one last recorded at the head position: the nozzle map takes its reset values (R125, R238), and this head has
not been scanned since reset (R189). -/
def State.newIdentity (s : State) (h : Fin 64) (id : Nat × Nat × Nat) : State :=
  match s.heads[h].lastId with
  | none => s.updHead h fun x => { x with lastId := some id }
  | some old =>
    if old = id then s
    else
      let s := s.updHead h fun x =>
        { x with lastId := some id, inst := { inst := x.inst.inst + 1, entries := [] }, pend := none, prev := none,
                 scanPend := [], ratio := [], fullRuns := 0 }
      let s := s.event 0x7811 (s.loc 15 h.val) [(8, h.val), (16, id.1), (32, id.2.1), (64, id.2.2)]
      match s.zoneOfHead h with | some z => s.recomputeQuality z | none => s

/-- A head that is numbered: its partition is placed, its identity is read, a full scan is due (R23, R237, R244). The first four heads that
the link serves are those numbered first: a head end left without a number is none of them. -/
def State.enumHead (s : State) (c : Fin 16) (a : Fin 9) (h : Fin 64) : State :=
  let own := decide ((s.linkHeads c).length < 4)
  let s := if own then s.clearBank c else s
  let b := if own then c.val else s.spareBank c
  let s := s.newIdentity h (idTriple s.ports[c].nodes[a].identity)
  let src := s.hc h 0x04
  let s := s.updNode c a fun n => { n with head := some h }
  s.updHead h fun x =>
    { x.absent with link := some c, node := a.val, inService := true, bank := b, idState := .reading, temp := 0,
                    tempAt := none, scanDue := true, scanNext := 0, trimSrc := src,
                    rows := x.rows.map fun r => { HRow.init with lastFire := r.last, lastEnd := r.lastEnd } }

/-- A head end of a higher-numbered port gives its number to one of a lower-numbered port (R197). -/
def State.yieldNumber (s : State) (h : Fin 64) : State :=
  match s.heads[h].link with
  | none => s
  | some c =>
    let a : Fin 9 := Fin.ofNat 9 s.heads[h].node
    let s := (s.withdrawHead h).spoilHeads [h] 3 (s.locBMR 13 c.val 63 a.val 0xFFFF)
    (s.updNode c a fun n => { n with head := none }).leaveOut c a 0x03

/-- Number the head end at address `a`, the k-th of the chain counted from 0 (R197). -/
def State.numberNode (s : State) (c : Fin 16) (a : Fin 9) (k : Nat) : State :=
  let due := s.lc c 0x03 + k
  if h : due < 64 then
    let hd : Fin 64 := ⟨due, h⟩
    match s.heads[hd].link with
    | some d => if d < c then s.leaveOut c a 0x03 else (s.yieldNumber hd).enumHead c a hd
    | none => s.enumHead c a hd
  else s.leaveOut c a 0x03

/-- Raster load, word load and burst time of a chain's port (R215, R219). -/
def State.chainLoad (s : State) (c : Fin 16) : State :=
  let ld := loadOf ((s.linkHeads c).map fun h => s.heads[h])
  s.updPort c fun p => { p with raster := ld.1 / 1000000, words := ld.2 }

def State.overloaded (s : State) (c : Fin 16) : Bool :=
  let ld := loadOf ((s.linkHeads c).map fun h => s.heads[h])
  decide (16600000000 < ld.1) || decide (288000000 < ld.2)

/-- The load check (R215, R36): head ends leave service one at a time from the far end until both limits hold. -/
def State.loadCheck (s : State) (c : Fin 16) : State :=
  let s := (fins 9).reverse.foldl (fun s a =>
    match s.ports[c].nodes[a].head with
    | some h =>
      if s.overloaded c ∧ s.heads[h].inService then
        (s.updHead h fun x => { x with inService := false }).leaveOut c a 0x03
      else s
    | none => s) s
  s.chainLoad c

/-- Enumeration is complete (R213 step 5): heads numbered, load checked, DUAL written. A chain without a node has none to wait for
(step 7). -/
def State.endEnum (s : State) (c : Fin 16) : State :=
  let nodes := (fins 9).filter fun a => s.ports[c].nodes[a].present
  let s := s.updPort c fun p => { p with enumDepth := nodes.length }
  let hs := nodes.filter fun a => s.ports[c].nodes[a].kind == 1 && s.ports[c].nodes[a].inService
  let s := hs.zipIdx.foldl (fun s x => s.numberNode c x.1 x.2) s
  let s := s.loadCheck c
  let s :=
    if s.isDual c then
      nodes.foldl (fun s a => s.writeReg c a 0x118 1) (s.updPort c fun p => { p with dual := .normal })
    else s
  s.setChainLink c (if nodes.isEmpty then .ready else .aligning)

/-- A node has answered ENUM with its identity (R212, R231). -/
def State.enumAnswer (s : State) (c : Fin 16) (a : Fin 9) (ident : Nat) : State :=
  let kind := fld ident 0 8
  let prof := decide (fld ident 8 8 = 1)
  let s := s.updNode c a fun n =>
    { n with present := true, kind, identity := ident, profileOk := prof,
             inService := prof && decide (1 ≤ kind) && decide (kind ≤ 3), lastStatus := some s.ft }
  let s := if prof then s else s.leaveOut c a 0x02
  if h : a.val < 8 then s.sendEnum c ⟨a.val + 1, by omega⟩ else s.endEnum c

/-- FEC mode begins (R213 step 3): lane groups of idle words open on L0 and L1, each with its MARKER, and on DS, which carries no
logical lane. Their blocks leave as idle words fill them (State.idleLanes). -/
def State.startFec (s : State) (l : Fin 16) : State :=
  let now := s.ft
  let s := s.updPort l fun p =>
    { p with fec := true, tx := Vector.replicate 2 { LaneTx.init with free := now, opened := some 0 },
             spare := { LaneTx.init with free := now } }
  let s := [0, 1].foldl (fun s i => s.send l i [Out.block l.val i 0x2D (markerContent i 0)]) s
  s.openFree l

/-- FEC_MODE_START (R213 step 3): 9 ms after the port's lanes left reset. -/
def execFecModeStart (t : Nat) (l : Fin 16) (s : State) : Host.Outcome State Fault Refusal :=
  let s := s.begin t
  let p := s.ports[l]
  if p.state = .training ∧ p.since + msFt 9 ≤ s.ft then
    if p.lockU0 ∨ p.lockUS then
      let c := s.chainOf l
      let s := (s.startFec l).adapted l
      if c = l then .next ((s.setLink l .enumerating).sendEnum l 1)
      else
        match s.ports[c].state with
        | .aligning => .next (s.setLink l .aligning)
        | .ready => .next (s.setLink l .ready)
        | _ => .next (s.setLink l .enumerating)
    else .next (s.setLink l .fault)
  else .next s

/-- CHAIN_TOO_LONG (R214), once for each bring-up: the chain goes on past its eighth node. -/
def State.chainTooLong (s : State) (c : Fin 16) : State :=
  if s.ports[c].tooLong then s
  else (s.updPort c fun p => { p with tooLong := true }).event 0x6811 (s.loc 13 c.val) [(8, c.val)]

/-! ### Lost nodes (R224, R229) -/

/-- One node is lost: its items spoiled, its lines withdrawn, its head no longer ready, with the event. -/
def State.dropNode (s : State) (c : Fin 16) (a : Fin 9) (trigger : Nat) : State :=
  let n := s.ports[c].nodes[a]
  if ¬ n.present ∨ n.lost then s
  else
    let loc := s.locBMR 13 (s.nodePort c a).val 63 a.val 0xFFFF
    let s := match n.head with
      | some h => (((s.withdrawHead h).spoilHeads [h] 3 loc)).updHead h Head.absent
      | none => s
    let s := s.updNode c a fun x => { x with lost := true, inService := false, ctl := none, ctlWait := [], timeOk := false }
    let s := s.updPort c fun p => { p with again := true }
    s.event 0x6810 loc [(8, c.val), (8, a.val), (8, trigger)]

/-- A node is lost by a trigger of R224. In SPLIT the chain becomes ISOLATED: the nodes between the lost one and the break,
which neither port reaches any more, are lost with it (trigger 5). -/
def State.loseNode (s : State) (c : Fin 16) (a : Fin 9) (trigger : Nat) : State :=
  let p := s.ports[c]
  let s := s.dropNode c a trigger
  let s :=
    if p.dual = .split then
      let cut := (fins 9).filter fun b => if a.val < p.splitPt then a.val < b.val && b.val < p.splitPt
        else p.splitPt ≤ b.val && b.val < a.val
      let s := cut.foldl (fun s b => s.dropNode c b 5) s
      s.updPort c fun q => { q with dual := .isolated }
    else s
  (fins 8).foldl State.settle s

/-- STATUS_TIMEOUT (R224): no STATUS for 120 µs. -/
def execStatusTimeout (t : Nat) (l : Fin 16) (a : Fin 9) (s : State) : Host.Outcome State Fault Refusal :=
  let s := s.begin t
  let c := s.chainOf l
  let n := s.ports[c].nodes[a]
  if n.present ∧ ¬ n.lost ∧ waited n.lastStatus (usFt 120) s.ft then .next (s.loseNode c a 1) else .next s

/-- NEIGHBOUR_LOCK_TIMEOUT (R224): the neighbour of node `a` nearer the port has reported loss of lock on its far side for
2 µs, in a chain that is not dual-homed. -/
def execNeighbourLockTimeout (t : Nat) (l : Fin 16) (a : Fin 9) (s : State) : Host.Outcome State Fault Refusal :=
  let s := s.begin t
  let near : Fin 9 := Fin.ofNat 9 (a.val - 1)
  let n := s.ports[l].nodes[near]
  if 2 ≤ a.val ∧ s.chainOf l = l ∧ ¬ s.isDual l ∧ n.present ∧ waited n.farLostAt (usFt 2) s.ft then .next (s.loseNode l a 3) else .next s

/-- What follows when a port has no lock upstream (R224, R229). -/
def State.portLost (s : State) (l : Fin 16) : State :=
  let c := s.chainOf l
  if c ≠ l then
    if s.ports[c].dual = .normal ∧ s.sends l then s.setDual c .degraded 0 else s
  else if s.isDual l then s
  else (fins 9).foldl (fun s a => s.loseNode l a 4) s

/-- PORT_BLOCK_LOCK_LOSS (R224, R229): the port has no lock on U0 and US. -/
def execPortBlockLockLoss (t : Nat) (l : Fin 16) (s : State) : Host.Outcome State Fault Refusal :=
  let s := s.begin t
  let p := s.ports[l]
  if p.lockU0 ∨ p.lockUS then .next s else .next (s.portLost l)

/-- CONTROL_TIMEOUT (R213, R223): no response 50 µs after the frame was sent; ENUM is given up after two attempts, another
frame after eight, and its node is lost. Retries pause while engine K6 is not running. -/
def execControlTimeout (t : Nat) (l : Fin 16) (a : Fin 9) (s : State) : Host.Outcome State Fault Refusal :=
  let s := s.begin t
  let c := s.chainOf l
  match s.ports[c].nodes[a].ctl with
  | none => .next s
  | some f =>
    if f.busy ∨ s.ft < f.sentAt + usFt 50 ∨ ¬ s.running 6 then .next s
    else if f.req.op = 3 ∧ 2 ≤ f.tries then .next ((s.updNode c a fun n => { n with ctl := none }).endEnum c)
    else if 8 ≤ f.tries then .next (s.loseNode c a 2)
    else
      let s := (s.updPort c fun p => { p with retries := p.retries + 1 }).updNode c a fun n =>
        { n with ctl := some { f with busy := true } }
      .next (s.sendCtl c a)

/-! ### Writing a head's memory, and the trim plane (R233, R245) -/

/-- Words of a list of bytes, eight to a word. -/
def wordsOf : Nat → List Nat → List Nat
  | 0, _ => []
  | n + 1, bs => ofBytes (bs.take 8) :: wordsOf n (bs.drop 8)

/-- Write a byte string to head memory in WRITE frames of 64 words (R233). -/
def State.writeBlock (s : State) (h : Fin 64) (reg : Nat) (bs : List Nat) : State :=
  let ws := wordsOf ((bs.length + 7) / 8) bs
  (List.range ((ws.length + 63) / 64)).foldl (fun s k => s.writeHeads h (reg + 512 * k) ((ws.drop (64 * k)).take 64)) s

/-- The bytes of the plane that a head has been given: one class of 4 bits for each nozzle. -/
def Head.trimBytes (x : Head) : List Nat := leBytes (ceilDiv x.nozzleTotal 2) x.trim

/-- Write the plane to TRIM, then read TRIM_CRC back. -/
def State.sendTrim (s : State) (h : Fin 64) : State :=
  let s := s.writeBlock h 0x20000000 s.heads[h].trimBytes
  match s.headNode h with
  | some (c, a) => s.readRegs c a 0x20001000 1
  | none => s

/-- TRIM_CRC is compared with the CRC of the plane that was written; a mismatch is retried twice (R245). -/
def State.trimAnswer (s : State) (h : Fin 64) (status crc : Nat) : State :=
  let x := s.heads[h]
  if ¬ x.trimBusy then s
  else if status = 0 ∧ crc % 2 ^ 32 = crc32c x.trimBytes then s.updHead h fun y => { y with trimBusy := false, trimOk := true }
  else if x.trimTries < 2 then (s.updHead h fun y => { y with trimTries := y.trimTries + 1 }).sendTrim h
  else s.updHead h fun y => { y with trimBusy := false, trimTries := y.trimTries + 1, trimFailed := true }

/-! ### Reading a head's memory (R233, R237) -/

/-- Words of the maker block, as its first word declares them: LENGTH bytes, one that breaks R236 ending the reading. -/
def Head.makerWords (x : Head) : Nat :=
  let n := fld (x.rd.getD 0 0) 32 32
  if n ≤ 65536 then ceilDiv n 8 else 1

/-- Words of the baseline record of a head (Table 8.3), as many as the nozzle counts of its maker block ask for. -/
def Head.baseWords (x : Head) : Nat :=
  let w := fun k => fld (x.rd.getD 3 0) (16 * k) 14
  4 + ceilDiv (2 * min 8192 (w 0 + w 1 + w 2 + w 3)) 8

/-- The next READ of a head that is being read: 64 words of the maker block at a time, then the baseline record. -/
def State.readNext (s : State) (h : Fin 64) : State :=
  let x := s.heads[h]
  match s.headNode h with
  | none => s
  | some (c, a) =>
    if x.rdEnd ≠ 0 then s
    else if x.rd = [] then s.readRegs c a 0x10000000 64
    else if x.rd.length < x.makerWords then
      s.readRegs c a (0x10000000 + 8 * x.rd.length) (min 64 (x.makerWords - x.rd.length))
    else if x.rdBase.length < x.baseWords then
      s.readRegs c a (0x18000000 + 8 * x.rdBase.length) (min 64 (x.baseWords - x.rdBase.length))
    else s.updHead h fun y => { y with rdEnd := 1 }

/-- A READ has been answered: TRIM_CRC, or words of the maker block or of the baseline record. A maker block that cannot be read
ends the reading; a baseline record that cannot leaves the head without one. -/
def State.takeRead (s : State) (c : Fin 16) (a : Fin 9) (reg status : Nat) (data : List Nat) : State :=
  match s.ports[c].nodes[a].head with
  | none => s
  | some h =>
    if reg = 0x20001000 then s.trimAnswer h status (data.getD 0 0)
    else if s.heads[h].idState ≠ .reading ∨ s.heads[h].rdEnd ≠ 0 then s
    else if reg < 0x18000000 then
      if status = 0 then (s.updHead h fun x => { x with rd := x.rd ++ data }).readNext h
      else s.updHead h fun x => { x with rdEnd := 2 }
    else if reg < 0x20000000 then
      if status = 0 then (s.updHead h fun x => { x with rdBase := x.rdBase ++ data }).readNext h
      else s.updHead h fun x => { x with rdBase := [], rdEnd := 1 }
    else s

/-- Every head of a chain whose link has come to READY begins to be read, all of them in parallel (R237). -/
def State.startReads (s : State) (c : Fin 16) : State :=
  ((fins 64).filter fun h => s.heads[h].link == some c && s.heads[h].idState == .reading).foldl State.readNext s

/-- CONTROL_RESPONSE (R211, R223): a BUSY response has the frame sent again, once engine K6 runs; any other completes it. An ENUM response
with another STATUS than OK, or with another count than four words, ends the enumeration at its depth as no answer would (DESIGN CHOICE,
notes/assumptions/16). -/
def execControlResponse (t : Nat) (l : Fin 16) (r : CtlResp) (s : State) : Host.Outcome State Fault Refusal :=
  let s := s.begin t
  let c := s.chainOf l
  if !r.ok then .next (s.updPort l fun p => { p with discards := p.discards + 1 })
  else if h : r.addr < 9 then
    let a : Fin 9 := ⟨r.addr, h⟩
    match s.ports[c].nodes[a].ctl with
    | none => .next s
    | some f =>
      if f.busy ∨ f.cseq ≠ r.cseq ∨ f.req.op ≠ r.op ∨ f.req.reg ≠ r.reg ∨ 4 < r.status then .next s
      else if r.status = 4 then
        let s := (s.updPort c fun p => { p with retries := p.retries + 1 }).updNode c a fun n =>
          { n with ctl := some { f with busy := true, tries := 0 } }
        .next (s.sendCtl c a)
      else
        let s := s.updNode c a fun n => { n with ctl := none }
        if f.req.op = 3 then
          if r.status = 0 ∧ r.data.length = 4 then
            .next (s.enumAnswer c a (packBits (r.data.map fun w => (64, w))))
          else .next (s.endEnum c)
        else if f.req.op = 1 then .next ((s.takeRead c a f.req.reg r.status r.data).nextCtl c a)
        else .next (s.nextCtl c a)
  else .next s

/-! ### Delays (R216) -/

/-- Sum over a list. -/
def sumI (xs : List Int) : Int := xs.foldl (· + ·) 0

/-- Insertion of an integer into a rising list. -/
def insertI (x : Int) : List Int → List Int
  | [] => [x]
  | y :: ys => if x ≤ y then x :: y :: ys else y :: insertI x ys
def sortI (xs : List Int) : List Int := xs.foldl (fun acc x => insertI x acc) []

/-- Median of eight round trips: the mean of the two middle ones. -/
def medianOf (xs : List Int) : Option Rat :=
  match sortI xs with
  | [_, _, _, x, y, _, _, _] => some (((x + y : Int) : Rat) / 2)
  | _ => none

/-- Timed-path latencies of the nodes, from their identities. -/
def Port.down (p : Port) (a : Fin 9) : Int := idDownLat p.nodes[a].identity
def Port.up (p : Port) (a : Fin 9) : Int := idUpLat p.nodes[a].identity

/-- delay_a of R216 from a median round trip. -/
def Port.delayAOf (p : Port) (a : Fin 9) (rt : Rat) : Int :=
  let adj := sumI (((fins 9).filter fun j => decide (1 ≤ j.val) && decide (j.val < a.val)).map fun j => p.down j - p.up j)
  roundR ((rt + adj) / 2)

/-- seg(a) of R216, for a chain of k nodes. -/
def Port.seg (p : Port) (k a : Nat) : Int :=
  let d := fun (i : Nat) => (p.nodes[(Fin.ofNat 9 i : Fin 9)].delayA : Int)
  if a = 1 then d 1
  else if a = k + 1 then (p.lam : Int) - d k - p.down (Fin.ofNat 9 k)
  else d a - d (a - 1) - p.down (Fin.ofNat 9 (a - 1))

/-- The delay to the side-B pin of a node that the secondary serves, from a round trip measured from there: R216's delay_a, with the nodes
between and the two directions taken from that end (DEDUCED, notes/assumptions/16). -/
def Port.delayFarOf (p : Port) (k a : Nat) (rt : Rat) : Int :=
  let adj := sumI ((List.range (k - a)).map fun i => let j := Fin.ofNat 9 (a + 1 + i); p.up j - p.down j)
  roundR ((rt + adj) / 2)

/-- delay_b(a) of R216. -/
def Port.delayBOf (p : Port) (k : Nat) (a : Nat) : Int :=
  sumI ((List.range (k + 1 - a)).map fun i => p.seg k (a + 1 + i)) +
  sumI ((List.range (k - a)).map fun i => p.up (Fin.ofNat 9 (a + 1 + i)))

/-- Responses that answer the requests with ESEQ from `e` on, in their order (R200, R216). -/
def goodEchoes (a e : Nat) (xs : List Echo) : List Echo := (xs.zipIdx.filter fun x => x.1.ok a (e + x.2)).map (·.1)

/-- A node is measured in its alignment, and every 100 ms from then on (R213, R216). -/
def State.echoDue (s : State) (c : Fin 16) (a : Fin 9) : Bool :=
  let n := s.ports[c].nodes[a]
  n.present && !n.lost &&
  (s.ports[c].state == .aligning || s.ports[c].state == .ready && periodic n.echoAt (msFt 100) s.ft)

/-- delay_b of every node of a dual-homed chain, once each of them has been measured (R216). -/
def State.writeDelayB (s : State) (c : Fin 16) (lam : Nat) : State :=
  let s := s.updPort c fun q => { q with lam }
  let nodes := (fins 9).filter fun b => s.ports[c].nodes[b].present && !s.ports[c].nodes[b].lost
  if nodes.all fun b => s.ports[c].nodes[b].echoAt.isSome then
    nodes.foldl (fun s b =>
      let v := toU 32 (s.ports[c].delayBOf s.ports[c].enumDepth b.val)
      if v = s.ports[c].nodes[b].delayB then s
      else (s.updNode c b fun x => { x with delayB := v }).writeReg c b 0x110 v) s
  else s

/-- ECHO_MEASUREMENT (R216): eight exchanges with one node, each request in a timed block; a response that fails its checks is
discarded and counted. A delay that changes is written; a node that is being aligned is told to align (R213 step 6). -/
def execEchoMeasurement (t : Nat) (l : Fin 16) (a : Fin 9) (echoes : List Echo) (lam : Nat) (s : State) :
    Host.Outcome State Fault Refusal :=
  let s := s.begin t
  let c := s.chainOf l
  let p := s.ports[c]
  let n := p.nodes[a]
  if s.echoDue c a then
    let good := goodEchoes a.val n.eseq echoes
    let s := (s.timed (s.nodePort c a) ((List.range 8).map fun i => (0x66, echoReqContent a.val ((n.eseq + i) % 256)))).updNode c a
      fun x => { x with eseq := (x.eseq + 8) % 256 }
    let s := s.updPort l fun q => { q with discards := q.discards + (echoes.length - good.length) }
    match medianOf (good.map fun e => (e.t4 : Int) - e.t1 - e.turn) with
    | none => .next s
    | some rt =>
      let now := s.ft
      let s := s.updNode c a fun x => { x with echoAt := some now }
      let s :=
        if s.nodePort c a = c then
          let d := toU 32 (p.delayAOf a rt)
          if d = n.delayA then s else (s.updNode c a fun x => { x with delayA := d }).writeReg c a 0x108 d
        else
          let d := toU 32 (p.delayFarOf p.enumDepth a.val rt)
          if d = n.delayB then s else (s.updNode c a fun x => { x with delayB := d }).writeReg c a 0x110 d
      let s := if s.isDual c ∧ p.dual = .normal ∧ 0 < lam then s.writeDelayB c lam else s
      if p.state = .aligning ∧ ¬ n.timeOk then .next (s.writeReg c a 0x118 (4 + b2n (s.isDual c))) else .next s
  else .next s

/-! ### Lanes (R225, R226) -/

/-- The spare is free: no logical lane on it or moving, no run on it, and it is connected (Table 7.12). -/
def State.spareFree (s : State) (l : Fin 16) : Bool :=
  let p := s.ports[l]
  p.physical 0 != 2 && p.physical 1 != 2 && p.move.isNone && s.lanes[l].run != 3 && !bitOf s.lanes[l].failed 2 && s.chainOf l == l

/-- The logical lane is moving. -/
def Port.moving (p : Port) (logical : Nat) : Bool := match p.move with | some m => m.1 == logical | none => false

/-- A logical lane begins to move: to be done at the next frame boundary. -/
def State.beginMove (s : State) (l : Fin 16) (logical target reason : Nat) : State :=
  s.updPort l fun p => { p with move := some (logical, target, reason) }

/-- A data lane fails (R226): its logical lane moves to the spare; with the spare in use, the port's heads leave service. -/
def State.laneFail (s : State) (l : Fin 16) (logical : Nat) : State :=
  let p := s.ports[l]
  let s := s.disturbRun l logical
  if p.state = .fault ∨ p.moving logical then s
  else if s.spareFree l then s.beginMove l logical 2 3
  else
    let hs := (fins 64).filter fun h => s.heads[h].inService && (s.servedBy h).1 == l
    let s := s.spoilHeads hs 3 (s.locBMR 13 l.val logical 1023 0xFFFF)
    let s := hs.foldl (fun s h => s.updHead h fun x => { x with inService := false }) s
    (fins 8).foldl State.settle (s.setLink l .fault)

/-- Spare takeover by command. -/
def State.takeOver (s : State) (l : Fin 16) (logical : Nat) : State × CmdRes :=
  if s.ports[l].physical logical = 2 then (s, .done)
  else if s.spareFree l then (s.beginMove l logical 2 2, .done) else (s, .refuse abResource)

/-- SPARE_TAKEOVER_L0 (R225). -/
def execSpareTakeoverL0 (t : Nat) (k : Kop) (l : Fin 16) (s : State) : Host.Outcome State Fault Refusal :=
  .next ((s.begin t).command (.spareTakeoverL0 t k l) k (lIdx l) 0x0C 1 fun s _ => s.takeOver l 0)

/-- SPARE_TAKEOVER_L1 (R225). -/
def execSpareTakeoverL1 (t : Nat) (k : Kop) (l : Fin 16) (s : State) : Host.Outcome State Fault Refusal :=
  .next ((s.begin t).command (.spareTakeoverL1 t k l) k (lIdx l) 0x0C 2 fun s _ => s.takeOver l 1)

/-- A logical lane moves back from DS by command. While its data lane is marked failed the spare stays in use (R311): the command is
then refused as a takeover without a spare is (DESIGN CHOICE, notes/assumptions/16). -/
def State.giveBack (s : State) (l : Fin 16) (logical : Nat) : State × CmdRes :=
  if bitOf s.lanes[l].failed logical then (s, .refuse abResource) else (s.beginMove l logical logical 2, .done)

/-- SPARE_RELEASE (R225): the logical lane on DS moves back to its data lane. -/
def execSpareRelease (t : Nat) (k : Kop) (l : Fin 16) (s : State) : Host.Outcome State Fault Refusal :=
  .next ((s.begin t).command (.spareRelease t k l) k (lIdx l) 0x0C 0 fun s _ =>
    if s.ports[l].physical 0 = 2 then s.giveBack l 0
    else if s.ports[l].physical 1 = 2 then s.giveBack l 1
    else (s.updPort l fun p => { p with move := none }, .done))

/-! ### Losses (R222) -/

/-- One lost line frame: the item that owns the row-line is spoiled. -/
def State.loseLine (s : State) (l : Fin 16) (logical : Nat) (e : Fin 64 × Fin 4 × Nat × Nat) : State :=
  let void := s.heads[e.1].rows[e.2.1].stamped.any fun y => y.handle == e.2.2.1 && y.line == e.2.2.2 && y.void
  if void then s
  else
    (s.lineBad e.2.2.1 e.2.2.2).spoil e.2.2.1 3 (s.locBMR 13 l.val logical s.heads[e.1].node e.2.1.val) (some e.2.2.2) 0 0

/-- Frames recorded in the FEC block that a LOSS report names, of the last 256 blocks of its lane (R222): blocks of idle words count
among them. -/
def Port.named (p : Port) (logical bseq now : Nat) : List FecRec :=
  let cur := ((p.tx[(Fin.ofNat 2 logical : Fin 2)]).idle now).1.bseq
  p.recs.filter fun x => x.lane == logical && x.bseq % 256 == bseq && decide (cur < x.bseq + 256)

/-- Send a node's outstanding control frame again (R222, R223). -/
def State.retryCtl (s : State) (c : Fin 16) (a : Fin 9) : State :=
  match s.ports[c].nodes[a].ctl with
  | some f =>
    if f.busy then s
    else
      ((s.updPort c fun p => { p with retries := p.retries + 1 }).updNode c a fun n =>
        { n with ctl := some { f with busy := true } }).sendCtl c a
  | none => s

/-- The nodes whose control frames a LOSS report from address `a` has lost: the reporting node's own, and those that a broadcast ENUM
asks. -/
def lostCtls (a : Nat) (recs : List FecRec) : List (Fin 9) :=
  (((recs.flatMap (·.ctls)).filter fun x => x == a || 64 ≤ x).map fun x => Fin.ofNat 9 (x % 64)).eraseDups

/-- LOSS_REPORT (R222, R226). A node that has no address yet reports from address 0. -/
def execLossReport (t : Nat) (l : Fin 16) (r : LossRep) (s : State) : Host.Outcome State Fault Refusal :=
  let s := s.begin t
  if !r.ok then .next (s.updPort l fun p => { p with discards := p.discards + 1 })
  else if h : r.addr < 9 then
    let a : Fin 9 := ⟨r.addr, h⟩
    let c := s.chainOf l
    if 1 < r.logical then .next s
    else
      let now := s.ft
      let recs := s.ports[l].named r.logical r.bseq now
      let s := s.updPort l fun p =>
        { p with blocksLost := p.blocksLost + 1,
                 loss0 := if r.logical = 0 then (now :: p.loss0).filter fun b => now < b + msFt 1 else p.loss0,
                 loss1 := if r.logical = 1 then (now :: p.loss1).filter fun b => now < b + msFt 1 else p.loss1 }
      let mine := (recs.flatMap (·.lines)).filter fun e => s.heads[e.1].link == some c && s.heads[e.1].node == a.val
      let s := mine.eraseDups.foldl (fun s e => s.loseLine l r.logical e) s
      let s := (lostCtls a.val recs).foldl (fun s d => s.retryCtl c d) s
      let many := decide (16 < (if r.logical = 0 then s.ports[l].loss0 else s.ports[l].loss1).length)
      let s := if many then s.laneFail l r.logical else s
      .next ((fins 8).foldl State.settle s)
  else .next s

/-! ### Dual-homed chains (R228–R230) -/

/-- The control block types of Table 7.2, each with the bits of its content that are not reserved. -/
def blockTypes : List (Nat × Nat) :=
  [(0x1E, 0), (0x2D, 10), (0x33, 8), (0x4B, 56), (0x4C, 40), (0x55, 56), (0x56, 48), (0x66, 14), (0x67, 54), (0x78, 56), (0x87, 6)]

/-- A control block is good (R200): its type is listed, its reserved field is 0, and a SUPPLY_HI or TIME_HI comes right after its LO. -/
def blockGood (kind content before : Nat) : Bool :=
  (blockTypes.any fun x => x.1 == kind && decide (content < 2 ^ x.2)) && (kind != 0x4C || before == 0x4B) && (kind != 0x56 || before == 0x55)

/-- REVERSE_BLOCK (R200, R229): a control block that a port has received. One that is not good is discarded and counted. A REVERSE block,
received by the secondary of a chain in NORMAL, splits the chain. A TRAIN block with more than 8 HOPS, which only a node beyond depth 8
sends, says that the TRAIN of node 8 has reached one on its far side (R214; DEDUCED, notes/assumptions/16). One of another type has no
effect of its own. -/
def execReverseBlock (t : Nat) (l : Fin 16) (b : LaneBlock) (content : Nat) (s : State) : Host.Outcome State Fault Refusal :=
  let s := s.begin t
  let c := s.chainOf l
  let node := fld content 0 6
  let before := s.ports[l].rxKind[b.lane]
  let s := s.updPort l fun p => { p with rxKind := vupd p.rxKind b.lane fun _ => b.kind }
  if ¬ blockGood b.kind content before then .next (s.updPort l fun p => { p with discards := p.discards + 1 })
  else if b.kind = 0x33 then .next (if 8 < fld content 4 4 then s.chainTooLong c else s)
  else if b.kind ≠ 0x87 then .next s
  else if h : node < 9 then
    if c ≠ l ∧ s.ports[c].dual = .normal ∧ s.ports[c].nodes[(⟨node, h⟩ : Fin 9)].present then
      let s := (fins 9).foldl (fun s a => if node ≤ a.val then s.updNode c a fun n => { n with side := 1 } else s) s
      .next (s.setDual c .split node)
    else .next s
  else .next s

/-- Lock since a tick, held for 10 ms. -/
def heldFor (o : Option Nat) (now : Nat) : Bool := waited o (msFt 10) now

/-- DUAL_LOCK_REGAINED (R229). -/
def execDualLockRegained (t : Nat) (l : Fin 16) (s : State) : Host.Outcome State Fault Refusal :=
  let s := s.begin t
  let c := s.chainOf l
  let b : Fin 16 := Fin.ofNat 16 (c.val + 1)
  if s.isDual c ∧ s.ports[c].dual = .degraded ∧ heldFor s.ports[b].lockSince s.ft then .next (s.setDual c .normal 0)
  else .next s

/-- The broken segment of a SPLIT chain has had lock for 10 ms: that into node s, as the node before it reports, or the port. -/
def State.segmentOk (s : State) (c : Fin 16) : Bool :=
  let p := s.ports[c]
  if p.splitPt ≤ 1 then heldFor p.lockSince s.ft
  else heldFor p.nodes[(Fin.ofNat 9 (p.splitPt - 1) : Fin 9)].farOkAt s.ft

/-- RESTORE (R229, R230): at the link object of either port of the pair. Outside SPLIT, or before the broken segment has had lock for
10 ms, the command is done and has no effect: the transition of Table 7.13 is not made (DESIGN CHOICE, notes/assumptions/16). -/
def execRestore (t : Nat) (k : Kop) (l : Fin 16) (s : State) : Host.Outcome State Fault Refusal :=
  .next ((s.begin t).command (.restore t k l) k (lIdx l) 0x07 1 fun s _ =>
    let c := s.chainOf l
    let p := s.ports[c]
    if !s.chainIdle c then (s, .refuse abWork)
    else if p.dual = .split ∧ s.segmentOk c then
      let far := (fins 9).reverse.filter fun a => decide (p.splitPt ≤ a.val) && p.nodes[a].present
      let s := far.foldl (fun s a => s.writeReg c a 0x118 9) s
      let s := far.foldl (fun s a => s.updNode c a fun n => { n with side := 0 }) s
      (s.setDual c .normal 0, .done)
    else (s, .done))

end Sys2Proof.Machine
end

