-- ==== Sys2Proof/Machine/Heads.lean ====
section
/-! DEFINITION. Head identity, element scans, trim planes and heat (chapter 8). -/

namespace Sys2Proof.Machine

/-! ### Thermal states (R248–R251) -/

/-- The head has warming (R247). -/
def Head.warms (x : Head) : Bool :=
  x.warmE != 0 &&
  ((List.range 8).filter x.defines).all fun d =>
    (List.range (recSubs (x.record d))).all fun j => decide (2 * x.warmE < subEnergy (x.record d) j)

def State.tSet (s : State) (h : Fin 64) : Int := sx 16 (s.hc h 0x12)
def State.band (s : State) (h : Fin 64) : Int := s.hc h 0x13

/-- Change a head's thermal state, with its event if the table asks for one. -/
def State.setThermal (s : State) (h : Fin 64) (st : Thermal) (ev : Bool) : State :=
  let old := s.heads[h].thermal
  let s := s.updHead h fun x => { x with thermal := st }
  if ev then s.stateChanged 15 (s.loc 15 h.val) (hIdx h) 0x10 old.code st.code else s

/-- WARM_PERIOD is written, if it changes (R247). -/
def State.warmTo (s : State) (h : Fin 64) (v : Nat) : State :=
  if s.heads[h].warmPeriod = v then s
  else (s.updHead h fun x => { x with warmPeriod := v }).writeHead h 0x28000000 v

/-- Entry into COOLDOWN (R249): cause 1 limit, 2 sensor fault, 3 tripped, 4 stale. -/
def State.coolDown (s : State) (h : Fin 64) (cause : Nat) : State :=
  let s := (s.setThermal h .cooldown false).warmTo h 0
  let hit := s.items.filter fun it => s.cooled h it
  let s := s.withdrawHead h
  let s := hit.foldl (fun s it => s.spoil it.handle 2 (s.loc 15 h.val) none 0 0) s
  let s := s.event 0x7812 (s.loc 15 h.val) [(8, h.val), (16, toU 16 s.heads[h].temp), (8, cause)]
  (fins 8).foldl State.settle s

/-- The cause for which a report leads to COOLDOWN; 0 none. -/
def Head.coolCause (x : Head) : Nat :=
  if x.tLimit ≤ x.temp then 1 else if x.sensorFault then 2 else if x.tripped then 3 else 0

/-- One transition of Table 8.5 on a report, if one applies. -/
def State.thermalStep (s : State) (h : Fin 64) : Option State :=
  let x := s.heads[h]
  match x.thermal with
  | .cold =>
    if s.tSet h - s.band h ≤ x.temp then some (s.setThermal h .normal false)
    else if x.coolCause ≠ 0 then some (s.coolDown h x.coolCause) else none
  | .normal =>
    if x.temp < s.tSet h - 2 * s.band h ∧ x.warms then some (s.setThermal h .cold true)
    else if x.tWarn ≤ x.temp then some ((s.setThermal h .warn true).warmTo h 0)
    else if x.coolCause ≠ 0 then some (s.coolDown h x.coolCause) else none
  | .warn =>
    if x.temp < x.tWarn - 10 then some (s.setThermal h .normal true)
    else if x.coolCause ≠ 0 then some (s.coolDown h x.coolCause) else none
  | .cooldown => none

/-- The transitions of a report, repeatedly (R248). -/
def State.thermalRun : Nat → State → Fin 64 → State
  | 0, s, _ => s
  | n + 1, s, h => match s.thermalStep h with | some s' => State.thermalRun n s' h | none => s

/-- A temperature report of a head (R234, R248, R508). -/
def State.headReport (s : State) (h : Fin 64) (temp : Int) (fault trip : Bool) : State :=
  let s := s.updHead h fun x => { x with temp, tempAt := some s.ft, sensorFault := fault, tripped := trip }
  if s.heads[h].blockOk then State.thermalRun 4 s h else s

/-- TEMPERATURE_STALE (R183, R249): no report for 150 µs. -/
def execTemperatureStale (t : Nat) (h : Fin 64) (s : State) : Host.Outcome State Fault Refusal :=
  let s := s.begin t
  let x := s.heads[h]
  if x.blockOk ∧ x.thermal ≠ .cooldown ∧ s.tempStale h then .next (s.coolDown h 4) else .next s

/-- COOLDOWN_RETURN (R251). -/
def execCooldownReturn (t : Nat) (h : Fin 64) (s : State) : Host.Outcome State Fault Refusal :=
  let s := s.begin t
  let x := s.heads[h]
  if x.thermal = .cooldown ∧ ¬ s.tempStale h ∧ x.temp < x.tResume ∧ ¬ x.sensorFault ∧ ¬ x.tripped ∧ s.headBoundary h then
    let st := if s.tSet h - s.band h ≤ x.temp ∨ ¬ x.warms then Thermal.normal else Thermal.cold
    .next ((s.setThermal h st true).updHead h fun y => { y with cooldowns := y.cooldowns + 1 })
  else .next s

/-- The loop of R247: the new integral and the warming period. -/
def State.warmLoop (s : State) (h : Fin 64) : Rat × Nat :=
  let x := s.heads[h]
  let on := match x.chain with | some c => s.chains[c].state == .on | none => false
  if ¬ (x.thermal = .cold ∨ x.thermal = .normal) ∨ on = false ∨ ¬ x.warms ∨ (s.zoneOfHead h).isNone then (0, 0)
  else
    let e : Rat := (s.tSet h - x.temp : Int)
    let ki : Rat := (s.hc h 0x15 : Rat) / 65536
    let kp : Rat := (s.hc h 0x14 : Rat) / 65536
    let i := clampR (x.integ + ki * e) 0 1
    let u := clampR (kp * e + i) 0 1
    if u = 0 then (i, 0) else (i, max (ceilR (1250000000 / (u * x.warmRate))) 12500)

/-- WARM_STEP (R247). -/
def execWarmStep (t : Nat) (h : Fin 64) (s : State) : Host.Outcome State Fault Refusal :=
  let s := s.begin t
  if s.running 4 ∧ s.heads[h].blockOk then
    let (i, w) := s.warmLoop h
    .next ((s.updHead h fun x => { x with integ := i }).warmTo h w)
  else .next s

/-! ### Verification (R237, R238, R508) -/

/-- Baseline record of Table 8.3: valid for a head of `n` nozzles, and the ratio of a nozzle. -/
def baselineWf (b n : Nat) : Bool :=
  fld b 0 8 == 1 && fld b 8 24 == 0 && fld b 32 14 == n && fld b 46 18 == 0 && fld b 96 32 == 0 && fld b 176 80 == 0 &&
  fld b 64 32 == crc32c (leBytes (2 * n) (fld b 256 (16 * n)))
def baselineRatio (b i : Nat) : Nat := fld b (256 + 16 * i) 16

/-- A new setpoint from the maker block, where no store and no commit has given one (R508). -/
def State.setpointFromBlock (s : State) (h : Fin 64) : State :=
  let x := s.heads[h]
  let v := toU 16 x.tSetDef
  if x.setKnown ∨ (x.setFromBlock ∧ s.hc h 0x12 = v) then s
  else (s.oapply (hIdx h) 0x12 v).updHead h fun y => { y with setFromBlock := true }

/-- Registers that the controller writes once after it has read the maker block (R247, R250). -/
def State.headSetup (s : State) (h : Fin 64) : State :=
  let x := s.heads[h]
  let s := if x.warms then s.writeHead h 0x28000008 (toU 16 x.tWarn) else s
  s.writeHead h 0x28000010 (toU 16 (x.tLimit + 50))

/-- Events for committed data that the head contradicts (R389, R508). -/
def State.mismatchEvents (s : State) (h : Fin 64) : State :=
  let s := (s.badRows h).foldl (fun s r => s.event 0x4812 (s.loc 9 h.val) [(8, h.val), (8, r.val)]) s
  if s.setTooHigh h then s.event 0x4812 (s.loc 9 h.val) [(8, h.val), (8, 0xFF)] else s

/-- Change an identity state, with its event. -/
def State.setIdentity (s : State) (h : Fin 64) (st : IdState) : State :=
  let old := s.heads[h].idState
  let s := s.updHead h fun x => { x with idState := st }
  match st with
  | .unverified => s.event 0x7810 (s.loc 15 h.val)
      [(8, h.val), (16, mkField s.heads[h].maker 8 16), (32, mkField s.heads[h].maker 12 32), (64, mkField s.heads[h].maker 16 64)]
  | _ => s.stateChanged 15 (s.loc 15 h.val) (hIdx h) 0x01 old.code st.code

/-- The key of a maker and key number in the head-maker key list, and the signature of the maker block under it, over all but its last
64 bytes (R237, Table 8.2). -/
def State.makerKnown (s : State) (m : Nat) : Bool :=
  s.cocoon.list.any fun k => k.maker == mkField m 8 16 && k.keyId == mkField m 10 16 &&
    edVerify k.key (recordSig (mkField m 4 32) m) (recordSigned (mkField m 4 32) m)

/-- The words of a READ sequence as one little-endian number. -/
def wordsNum (ws : List Nat) : Nat := packBits (ws.map fun w => (64, w))

/-- The maker block that has been read is well-formed, and is taken. -/
def State.takeBlock (s : State) (h : Fin 64) : State :=
  let s := s.updHead h fun x =>
    let x := { x with maker := wordsNum x.rd, blockOk := true }
    let x := { x with driveOk := x.driveUsable }.placeMarks
    let n := x.nozzleTotal
    let base := wordsNum x.rdBase
    let ok := baselineWf base n
    { x with baseOk := ok,
             baseline := if ok then (List.range n).foldl (fun b i => sset 0 b i (baselineRatio base i)) [] else [],
             thermal := if x.warms then .cold else .normal }
  let s := s.setIdentity h (if s.makerKnown s.heads[h].maker then .verified else .unverified)
  let s := ((s.setpointFromBlock h).headSetup h).mismatchEvents h
  let s := match s.heads[h].link with | some c => s.loadCheck c | none => s
  match s.zoneOfHead h with | some z => s.recomputeQuality z | none => s

/-- HEAD_VERIFICATION (R237): the reading of the maker block, on the head's chain `c`, has ended, and K1, while it runs, verifies it. -/
def execHeadVerification (t : Nat) (h : Fin 64) (c : Fin 16) (s : State) : Host.Outcome State Fault Refusal :=
  let s := s.begin t
  let x := s.heads[h]
  if ¬ s.running 1 ∨ x.link ≠ some c ∨ x.idState ≠ .reading ∨ x.rdEnd = 0 then .next s
  else if x.rdEnd = 1 ∧ makerWf (wordsNum x.rd) s.ports[c].nodes[(Fin.ofNat 9 x.node : Fin 9)].identity then
    .next (s.takeBlock h)
  else
    let s := (s.setIdentity h .unreadable).updHead h fun y => { y with inService := false }
    .next (s.updNode c (Fin.ofNat 9 x.node) fun n => { n with inService := false })

/-! ### The trim plane (R245) -/

/-- The class whose ratio lies nearest `b`, the lower on a tie. -/
def nearestClass (ratios b : Nat) : Nat :=
  let d := fun (k : Nat) => ((classRatio ratios k : Int) - (b : Int)).natAbs
  (List.range 16).foldl (fun m k => if d k < d m then k else m) 0

/-- The trim plane of the head's source, as one little-endian number; none while BASELINE has no baseline. -/
def State.trimPlane (s : State) (h : Fin 64) : Option Nat :=
  let x := s.heads[h]
  let n := x.nozzleTotal
  if x.trimSrc = 0 ∧ bitOf x.maker 10 then some (fld x.maker (8 * 0x170) (8 * ceilDiv n 2))
  else if x.baseOk then
    some (packBits ((List.range n).map fun i =>
      let b := sget 0 x.baseline i
      (4, nearestClass (s.hc h 0x70) (if b = 0 then 16384 else b))))
  else none

/-- TRIM_LOAD (R245): once per enumeration the plane is written to the head end, on its chain `c`, and its CRC is read back; the answer to that READ
is compared as it arrives. -/
def execTrimLoad (t : Nat) (h : Fin 64) (c : Fin 16) (s : State) : Host.Outcome State Fault Refusal :=
  let s := s.begin t
  let x := s.heads[h]
  if x.link = some c ∧ (s.headNode h).isSome ∧ (x.idState = .verified ∨ x.idState = .unverified) ∧ ¬ x.trimBusy ∧ ¬ x.trimOk ∧ ¬ x.trimFailed then
    match s.trimPlane h with
    | none => .next s
    | some p => .next ((s.updHead h fun y => { y with trim := p, trimBusy := true }).sendTrim h)
  else .next s

/-! ### Element scans (R239–R244) -/

/-- Row and position of nozzle `i` of a head. -/
def Head.rowOfNozzle (x : Head) (i : Nat) : Nat × Nat :=
  let r := ((List.range 4).filter fun r => decide (x.nozzleBase r ≤ i) && x.nozzles r != 0).foldl max 0
  (r, i - x.nozzleBase r)

/-- Predicted instant of the first line that an item still has to print on the head, at the speed bound (R244, R150). -/
def State.firstInstant (s : State) (it : Item) (h : Fin 64) : Option Int :=
  let z := it.zone
  let v := s.speedBound z s.ft
  let p := s.posGuard z s.ft
  it.prog.foldl (fun (b : Option Int) q =>
    if q.head = h ∧ q.built < s.totalLines it then
      let d := wrapR ((s.target it q.head q.row q.built : Rat) - p)
      let f : Int := (s.ft : Int) + (d / v).floor + s.timeOffFor it q.head q.row
      match b with | some y => some (min y f) | none => some f
    else b) none

/-- A scan block may begin at tick `t` (R244). -/
def State.scanWindow (s : State) (h : Fin 64) (t : Nat) : Bool :=
  ((fins 4).all fun r =>
    let row := s.heads[h].rows[r]
    row.stamped.all (fun l => decide (l.fire ≤ s.ft) && decide (l.lastSeg + usFt 20 ≤ t)) &&
    decide (row.lastEnd + usFt 20 ≤ t)) &&
  match s.zoneOfHead h with
  | none => true
  | some z =>
    (s.zoneItems z).all fun it =>
      match s.firstInstant it h with
      | some f => decide ((t + usFt 130 + s.zc z 0x55 + usFt 20 : Int) ≤ f)
      | none => true

/-- A full scan of the head is due: by its own schedule, or by a request (R244, R315). -/
def State.scanIsDue (s : State) (h : Fin 64) : Bool :=
  s.heads[h].scanDue || s.reqs.any fun q => q.kind == 3 && q.target == h.val && (q.result == 1 || q.result == 2)

/-- The nozzles of the next block, as row, first nozzle and count: those of an aborted block first, then the next ones of a row, up
to 64 (R239, R240). -/
def Head.nextNozzles (x : Head) : Nat × Nat × Nat :=
  match x.scanRedo with
  | b :: _ => b
  | [] =>
    let (r, j) := x.rowOfNozzle x.scanNext
    (r, j, min 64 (x.nozzles r - j))

/-- A block lasts one slot of 2,500 ft more than it has nozzles (R239). -/
def ScanBlock.end_ (b : ScanBlock) : Nat := b.ft + 2500 * (b.count + 1)

/-- The tick that SCAN_FT names: 20 µs after the frame that writes it leaves, or the end of the block in progress, if that is later,
so that one follows the other without a gap (R239, R244). -/
def State.scanTick (s : State) (l : Fin 16) (b : Option ScanBlock) : Nat :=
  let at_ := (s.frameTicks l 5).2 + usFt 20
  match b with | some b => max at_ b.end_ | none => at_

/-- The measurement current (R241). -/
def State.scanCurrent (s : State) (h : Fin 64) : Nat :=
  let c := s.hc h 0x23
  if c ≠ 0 then c else max 500 (min 5000 (1000000000 / max 1 s.heads[h].rNom / 10 * 10))

/-- The next block of a due scan begins if its window is open (R239, R244): SCAN_START and SCAN_FT are written in one frame, sent at
once, and the objects of "next block" take effect (Table 8.6). -/
def State.startScanBlock (s : State) (h : Fin 64) : State :=
  let x := s.heads[h]
  match s.headNode h with
  | none => s
  | some (c, a) =>
    let l := s.nodePort c a
    let n := s.ports[c].nodes[a]
    let at_ := s.scanTick l x.scanBlk
    let (r, j, k) := x.nextNozzles
    if s.scanIsDue h ∧ x.scanAhead.isNone ∧ x.blockOk ∧ (x.scanRedo ≠ [] ∨ x.scanNext < x.nozzleTotal) ∧ n.ctl.isNone ∧
        n.ctlWait = [] ∧ s.sends l ∧ ¬ s.lineWaits l ∧ s.scanWindow h at_ then
      let first : Bool := x.scanNext = 0 ∧ x.scanRedo = []
      let b : ScanBlock := { row := r, first := j, count := k, ft := at_, cur := s.scanCurrent h, open_ := s.hc h 0x24,
                             short := s.hc h 0x25, drift := s.hc h 0x26, lead := s.hc h 0x27 }
      let s := if first then s.markReqs 3 h.val 2 else s
      let s := s.updHead h fun y =>
        let y := if y.scanBlk.isNone then { y with scanBlk := some b } else { y with scanAhead := some b }
        { y with lastFull := if first then at_ else y.lastFull, scanRedo := y.scanRedo.drop 1,
                 scanNext := if y.scanRedo = [] then y.nozzleBase r + j + k else y.scanNext }
      s.writeHeads h 0x28000018 [packBits [(13, j), (2, r), (1, 0), (6, k - 1)], at_]
    else s

/-- SCAN_BLOCK_START (R239, R244). -/
def execScanBlockStart (t : Nat) (h : Fin 64) (s : State) : Host.Outcome State Fault Refusal :=
  .next ((s.begin t).startScanBlock h)

/-- Class and stored ratio of a measured nozzle (R241): samples in µV, current in µA, lead in mΩ. -/
def measure (v0 v i lead rNom open_ short drift base : Nat) : Nat × Nat :=
  if 2500000 ≤ v then (1, 0xFFFF)
  else
    let b : Rat := ((((v : Int) - (v0 : Int) : Int) : Rat) * 1000 / (i : Rat) - (lead : Rat)) / (rNom : Rat)
    let q := (clampI (roundR (b * 16384)) 0 0xFFFE).toNat
    if (open_ : Rat) < b * 100 then (1, 0xFFFF)
    else if b * 100 < (short : Rat) then (2, q)
    else if base ≠ 0 ∧ (drift : Rat) * base / 16384 < absR (b - (base : Rat) / 16384) * 1000 then (3, q)
    else (0, q)

/-- classify(s, c) of R241 on one head; classes stand in the newest generation, the pending class with 7 for none. -/
def Head.classify (x : Head) (i c ratio : Nat) : Head × Bool :=
  let x := { x with ratio := sset 0 x.ratio i ratio }
  let old := fld (x.newest.entry i) 0 3
  if c = 2 ∨ old = 4 ∨ sget 7 x.scanPend i = c then
    let x := { x with scanPend := sset 7 x.scanPend i 7 }
    if old = c then (x, false)
    else ({ x with pend := some (x.newest.put i (setFld (x.newest.entry i) 0 3 c)) }, true)
  else if old = c then ({ x with scanPend := sset 7 x.scanPend i 7 }, false)
  else ({ x with scanPend := sset 7 x.scanPend i c }, false)

/-- The baseline record that the first full scan without one sets (R243). -/
def State.setBaseline (s : State) (h : Fin 64) : State :=
  let x := s.heads[h]
  let n := x.nozzleTotal
  let base := (List.range n).foldl (fun b i =>
    let c := fld (x.newest.entry i) 0 3
    sset 0 b i (if c = 1 ∨ c = 2 then 0 else sget 0 x.ratio i)) []
  let s := s.updHead h fun y => { y with baseOk := true, baseline := base }
  let data := (List.range n).flatMap fun i => leBytes 2 (sget 0 base i)
  s.writeBlock h 0x18000000
    (leBytes 32 (packBits [(8, 1), (24, 0), (14, n), (18, 0), (32, crc32c data), (32, 0), (48, s.calStamp)]) ++ data)

/-- A full scan is complete. -/
def State.scanDone (s : State) (h : Fin 64) : State :=
  let s := s.updHead h fun x => { x with scanDue := false, scanNext := 0, fullRuns := x.fullRuns + 1 }
  let s := if s.heads[h].baseOk then s else s.setBaseline h
  s.markReqs 3 h.val 3

/-- The samples of a block are measured and classified (R241, R242), with the values that were in force as it began. -/
def State.takeBlockSamples (s : State) (h : Fin 64) (b : ScanBlock) (v0 : Nat) (vs : List Nat) : State :=
  let first := s.heads[h].nozzleBase b.row + b.first
  let (x, changed) := vs.zipIdx.foldl (fun (a : Head × Bool) v =>
    let i := first + v.2
    let base := if a.1.baseOk then sget 0 a.1.baseline i else 0
    let m := measure v0 v.1 b.cur b.lead a.1.rNom b.open_ b.short b.drift base
    let r := a.1.classify i m.1 m.2
    (r.1, a.2 || r.2)) (s.heads[h], false)
  let s := s.updHead h fun _ => { x with scanBlk := x.scanAhead, scanAhead := none }
  if changed then match s.zoneOfHead h with | some z => s.recomputeQuality z | none => s else s

/-- SCAN_BLOCK_COMPLETE (R240–R243): samples in µV; an aborted block is measured again later. -/
def execScanBlockComplete (t : Nat) (h : Fin 64) (aborted : Bool) (v0 : Nat) (vs : List Nat) (s : State) :
    Host.Outcome State Fault Refusal :=
  let s := s.begin t
  match s.heads[h].scanBlk with
  | none => .next s
  | some b =>
    if aborted then
      .next (s.updHead h fun x =>
        { x with scanBlk := x.scanAhead, scanAhead := none, scanRedo := x.scanRedo ++ [(b.row, b.first, b.count)], aborted := x.aborted + 1 })
    else if vs.length ≠ b.count ∨ s.ft < b.end_ then .next s
    else
      let s := s.takeBlockSamples h b v0 vs
      let x := s.heads[h]
      if x.nozzleTotal ≤ x.scanNext ∧ x.scanRedo = [] ∧ x.scanBlk.isNone then .next (s.scanDone h) else .next s

/-- A full scan becomes due: a scan under way goes on as it is. -/
def State.scanNow (s : State) (h : Fin 64) : State := s.updHead h fun x => { x with scanDue := true }

/-- SCAN_INTERVAL_EXPIRY (R244). -/
def execScanIntervalExpiry (t : Nat) (h : Fin 64) (s : State) : Host.Outcome State Fault Refusal :=
  let s := s.begin t
  let n := s.hc h 0x21
  if n ≠ 0 ∧ s.heads[h].link.isSome ∧ s.heads[h].lastFull + secFt n ≤ s.ft then .next (s.scanNow h) else .next s

/-- SCAN_FULL (R244). -/
def execScanFull (t : Nat) (k : Kop) (h : Fin 64) (s : State) : Host.Outcome State Fault Refusal :=
  .next ((s.begin t).command (.scanFull t k h) k (hIdx h) 0x22 1 fun s _ => (s.scanNow h, .done))

/-- SCAN_REBASELINE (R243): role S only (Table 8.6). -/
def execScanRebaseline (t : Nat) (k : Kop) (h : Fin 64) (s : State) : Host.Outcome State Fault Refusal :=
  .next ((s.begin t).command (.scanRebaseline t k h) k (hIdx h) 0x22 2 fun s w =>
    if !bitOf s.sessions[w.sess].roles 3 then (s, .refuse abRole)
    else (s.updHead h fun x => { x with baseOk := false, baseline := [] }, .done))

end Sys2Proof.Machine
end

