-- ==== Sys2Proof/Machine/Feedback.lean ====
section
/-! DEFINITION. Position feedback: the channels PF0–PF7 (R255–R272), marks, switch inputs less what they do to an axis,
and the gate test (R273–R279). -/

namespace Sys2Proof.Machine

/-! ### Channel states (R263) -/

/-- A fresh collection of a sin/cos channel from the present tick (R305). -/
def EncCal.collect (x : EncCal) (now : Nat) (periods : Int) : EncCal :=
  { x with since := now, from_ := periods, counted := 0, sectors := Vector.replicate 16 Sector.init, ready := false }

/-- Change one channel's calibration; PF4–PF7 have none. -/
def State.updEnc (s : State) (c : Fin 8) (f : EncCal → EncCal) : State :=
  if h : c.val < 4 then { s with enc := vupd s.enc ⟨c.val, h⟩ f } else s

/-- Change a channel's state, with the event that Table 9.2 asks for. -/
def State.setChan (s : State) (c : Fin 8) (st : ChanState) : State :=
  let old := s.chans[c].state
  let s := s.updChan c fun x => { x with state := st }
  if st = .valid then s.stateChanged 16 (s.loc 16 c.val) (cIdx c) 0x14 old.code st.code else s

/-- A channel begins STARTING: counting resumes from the held count; a required reference is still to be seen. -/
def State.startChan (s : State) (c : Fin 8) : State :=
  let now := s.ft
  let ref := s.cc c 0x08
  (s.setChan c .starting).updChan c fun x =>
    { x with startAt := now, good := 0, bad := 0, raw := none, phase := none, ampBad := 0, ampOkAt := now,
             last := if ref = 1 then none else x.last, referenced := if ref = 1 then false else x.referenced, pend := none }

/-- A fault condition (R258, R260, R262). -/
def State.chanFault (s : State) (c : Fin 8) (cause : Nat) : State :=
  let st := s.chans[c].state
  let now := s.ft
  let s := s.updChan c fun x => { x with badAt := now }
  if st = .starting ∨ st = .valid then
    let s := (s.setChan c .fault).updChan c fun x => { x with cause, faults := x.faults + 1 }
    (s.faultEvent 16 (s.loc 16 c.val) (cIdx c) 0x15 cause 0).checkSources
  else s

/-- The channel counts in this state (Table 9.2). -/
def ChanState.counts : ChanState → Bool
  | .starting => true | .valid => true | .mismatch => true | .off => false | .fault => false

/-- Deliver a count update of a channel (R255, R272). -/
def State.countTo (s : State) (c : Fin 8) (count : Int) (stamp : Nat) : State :=
  let x := s.chans[c]
  if count = x.count then s
  else
    let fwd := decide (x.count < count)
    let rev := match x.dirPos with | some d => d != fwd | none => false
    let s := s.updChan c fun x =>
      { x with count, u2 := x.u1, u1 := some (count, stamp), hist := min 2 (x.hist + 1), standstill := false,
               dirPos := some fwd, revNew := x.revNew || rev, reversals := x.reversals + b2n rev }
    s.chanUpdate c stamp

/-- Direction invert (R256). -/
def State.inverted (s : State) (c : Fin 8) (d : Int) : Int := if s.cc c 0x02 = 1 then -d else d

/-! ### Incremental inputs (R257, R258) -/

/-- The new level of an input has held for its filter length `f`, in ft (R257): the edge is accepted. -/
def State.filtered (s : State) (stamp f : Nat) : Bool := decide (stamp + f ≤ s.ft)

/-- ENCODER_EDGE (R257): an edge of A (wire 0) or B (wire 1), accepted once its level has held for the filter length. The levels are followed
in every mode and state; an INCREMENTAL channel that is not OFF counts. A leads B in the direction that adds. -/
def execEncoderEdge (t : Nat) (c : Fin 8) (wire : Fin 2) (level : Bool) (stamp : Nat) (s : State) :
    Host.Outcome State Fault Refusal :=
  let s := s.begin t
  let x := s.chans[c]
  let was := if wire = 0 then x.levA else x.levB
  if was = level ∨ ¬ s.filtered stamp (s.cc c 0x05) then .next s
  else
    let both := match x.lastEdge with | some e => e.1 == stamp && e.2 != wire.val | none => false
    let d : Int := if wire = 0 then (if level != x.levB then 1 else -1) else (if level == x.levA then 1 else -1)
    let s := s.updChan c fun y =>
      { y with levA := if wire = 0 then level else y.levA, levB := if wire = 1 then level else y.levB,
               lastEdge := some (stamp, wire.val) }
    if s.cc c 0x01 ≠ 1 ∨ x.state = .off then .next s
    else if both then .next (s.chanFault c 4)
    else if x.state.counts then .next (s.countTo c (x.count + s.inverted c d) stamp) else .next s

/-- WIRE_DISAGREEMENT (R258): cause 1 WIRE_A, 2 WIRE_B, 3 WIRE_Z, which counts only with an index, or 4 QUADRATURE. -/
def execWireDisagreement (t : Nat) (c : Fin 8) (cause : Nat) (s : State) : Host.Outcome State Fault Refusal :=
  let s := s.begin t
  let mode := s.cc c 0x01
  let may := (mode == 1 && (cause == 1 || cause == 2 || cause == 4)) || ((mode == 1 || mode == 3) && cause == 3 && s.cc c 0x06 != 0)
  if may then .next (s.chanFault c cause) else .next s

/-! ### SSI inputs (R259, R260) -/

/-- Gray to binary over `n` bits. -/
def grayToBin : Nat → Nat → Nat
  | 0, _ => 0
  | n + 1, g => g ^^^ grayToBin n (g / 2)

/-- Position of an SSI frame: the first P of T bits, most significant first. -/
def ssiPos (fmt bits : Nat) : Nat :=
  let tt := fld fmt 0 6
  let p := fld fmt 6 6
  let v := fld bits (tt - p) p
  if bitOf fmt 18 then grayToBin p v % 2 ^ p else v
/-- Its error bit. -/
def ssiErr (fmt bits : Nat) : Bool :=
  let e := fld fmt 12 6
  e != 0 && bitOf bits (fld fmt 0 6 - e)

/-- A read that is discarded (R260): the second in a row is a fault. -/
def State.ssiBad (s : State) (c : Fin 8) (err : Bool) : State :=
  let n := s.chans[c].bad + 1
  let s := s.updChan c fun x => { x with bad := x.bad + 1, good := 0, discarded := x.discarded + 1 }
  if 2 ≤ n then s.chanFault c (if err then 6 else 5) else s

/-- SSI_READ (R259, R260): `stamp` is the tick of the first falling clock edge; `bits` the T bits, the first one highest. -/
def execSsiRead (t : Nat) (c : Fin 8) (stamp bits : Nat) (idleHigh wentLow : Bool) (s : State) :
    Host.Outcome State Fault Refusal :=
  let s := s.begin t
  let x := s.chans[c]
  let fmt := s.cc c 0x0D
  if s.cc c 0x01 ≠ 2 ∨ x.state = .off then .next s
  else if !idleHigh || !wentLow then .next (s.ssiBad c false)
  else if ssiErr fmt bits then .next (s.ssiBad c true)
  else
    let p := fld fmt 6 6
    let raw : Int := s.inverted c (ssiPos fmt bits)
    let step : Int := match x.raw with | some r => sx p (toU p (raw - r)) | none => 0
    let s := s.updChan c fun y => { y with raw := some raw, bad := 0, good := y.good + 1 }
    if (s.cc c 0x12 : Int) < step.natAbs then .next (s.chanFault c 7)
    else if x.state.counts then .next (s.countTo c (x.count + step) (stamp + s.cc c 0x11)) else .next s

/-! ### Sin/cos inputs (R261, R262) -/

/-- The correction values of an object value (Table 11.8). -/
def corrOf (v : Nat) : Corr :=
  { os := sx 16 (fld v 0 16), oc := sx 16 (fld v 16 16), as := fld v 32 16, ac := fld v 48 16, ph := sx 16 (fld v 64 16) }
def Corr.toObj (k : Corr) : Nat := packBits [(16, toU 16 k.os), (16, toU 16 k.oc), (16, k.as), (16, k.ac), (16, toU 16 k.ph), (16, 0)]

/-- Correction in use on a channel. -/
def State.corr (s : State) (c : Fin 8) : Corr := corrOf (s.oget (0x6100 + 16 * c.val) 0x06)

/-- A corrected sample pair (R306): phase in 2^-32 period, and s² + c². -/
def Corr.phase (k : Corr) (x y : Int) : Nat × Rat :=
  let s0 := sin128 (k.ph * 65536)
  let c0 := cos128 (k.ph * 65536)
  let sn := (x - k.os) * k.ac * c0
  let cn := (y - k.oc) * k.as * 2 ^ 128 + (x - k.os) * k.ac * s0
  let den : Rat := ((k.as * k.ac : Nat) : Rat) * c0
  (turnOf sn cn, ((sn * sn + cn * cn : Int) : Rat) / (den * den))

/-- Interpolated count of a phase (R261). -/
def interp (periods : Int) (phase i : Nat) : Int := periods * i + ((phase * i) / 2 ^ 32 : Nat)

/-- Add a pair to its sector (R305), and the whole periods since the pair before, in either direction; under verification the radius
under the new values as well. -/
def EncCal.take (e : EncCal) (periods : Int) (phase : Nat) (x y : Int) : EncCal :=
  let k : Fin 16 := Fin.ofNat 16 (phase / 2 ^ 28)
  let rho := match e.st, e.new with | 3, some n => sqrtBits 100 (n.phase x y).2 | _, _ => 0
  { e with from_ := periods, counted := e.counted + (periods - e.from_).natAbs, sectors := vupd e.sectors k fun q =>
      { n := q.n + 1, sx := q.sx + x, sy := q.sy + y, sxx := q.sxx + x * x, syy := q.syy + y * y, sxy := q.sxy + x * y,
        rho := q.rho + rho } }

/-- Phase step from the last sample, in 2^-32 period, −1/2 to 1/2. -/
def phaseStep (old new : Nat) : Int := sx 32 (toU 32 ((new : Int) - old))

/-- Stamp of a crossing, by linear interpolation of the phase between two samples (R261). -/
def crossing (t0 t1 : Nat) (p0 p1 : Rat) (i : Nat) (old new : Int) : Nat :=
  let b : Rat := if old < new then (new : Rat) / i else ((new + 1 : Int) : Rat) / i
  if p0 = p1 then t1 else (roundR (t0 + (b - p0) / (p1 - p0) * ((t1 : Rat) - t0))).toNat

/-- A sample's phase on a channel that counts. -/
def State.sinCount (s : State) (c : Fin 8) (phase : Nat) (t : Nat) : State :=
  let x := s.chans[c]
  let i := s.cc c 0x13
  match x.phase with
  | none => s.updChan c fun y => { y with phase := some phase, sampleAt := t }
  | some p0 =>
    let d := phaseStep p0 phase
    let whole := (p0 + d - phase) / 2 ^ 32
    let per := x.periods + whole
    let old := interp x.periods p0 i
    let new := interp per phase i
    let at_ := crossing x.sampleAt t (x.periods + (p0 : Rat) / 2 ^ 32) (per + (phase : Rat) / 2 ^ 32) i old new
    let s := s.updChan c fun y => { y with phase := some phase, periods := per, sampleAt := t }
    if x.state.counts then s.countTo c (x.count + s.inverted c (new - old)) at_ else s

/-- The phase has changed by more than a quarter period (R262). -/
def farPhase (old : Option Nat) (new : Nat) : Bool :=
  match old with | some p => decide (2 ^ 30 < (phaseStep p new).natAbs) | none => false

/-- SINCOS_SAMPLE (R261, R262, R305): one sample pair in units of 0.1 mV. -/
def execSincosSample (t : Nat) (c : Fin 8) (x y : Int) (s : State) : Host.Outcome State Fault Refusal :=
  let s := s.begin t
  let ch := s.chans[c]
  if s.cc c 0x01 ≠ 3 ∨ ch.state = .off ∨ 4 ≤ c.val then .next s
  else
    let pr := (s.corr c).phase x y
    let phase := pr.1
    let a2 := pr.2
    let ok : Bool := decide (1 / 4 ≤ a2) && decide (a2 ≤ 9 / 4)
    let now := s.ft
    let s := s.updChan c fun q =>
      { q with ampBad := if ok then 0 else q.ampBad + 1, ampOkAt := if ok then q.ampOkAt else now,
               amp := min 65535 (roundRoot (1000000 * a2)), smpX := x, smpY := y }
    let s := if farPhase ch.phase phase then s.chanFault c 9 else if 4 ≤ s.chans[c].ampBad then s.chanFault c 8 else s
    let s := s.sinCount c phase s.ft
    if s.chans[c].state = .valid then
      let per := s.chans[c].periods
      .next (s.updEnc c fun e => if (e.st = 1 ∨ e.st = 3) ∧ ¬ e.ready then e.take per phase x y else e)
    else .next s

/-! ### The index (R267–R269) -/

/-- Shift the count and what hangs on it, without a count update. -/
def Chan.shift (x : Chan) (d : Int) : Chan :=
  { x with count := x.count + d, u1 := x.u1.map fun u => (u.1 + d, u.2), u2 := x.u2.map fun u => (u.1 + d, u.2) }

/-- The nearest index count to `obs` on the grid of `base` (R267). -/
def indexGrid (base obs p : Int) : Int := base + p * roundR (((obs - base : Int) : Rat) / p)

/-- A correction reaches a zone (R269): as a count update, or as a fault with H shifted by the step. -/
def State.applyStep (s : State) (z : Fin 8) (step : Rat) (stamp : Nat) : State :=
  if s.zones[z].place = .noSource then s
  else if absR step ≤ s.trackLimit z then s.onCount z (s.sourcePos z) stamp
  else
    let p := s.sourcePos z
    let s := if s.zones[z].place = .fault then s else s.enterFault z stamp
    (s.updZone z fun x => (x.counts { pos := p, stamp }).raise step).settle z

/-- on_index of R267 for a channel that has a last index; in MISMATCH, where counting goes on, as well. -/
def State.onIndex (s : State) (c : Fin 8) (obs last : Int) (stamp : Nat) : State :=
  let x := s.chans[c]
  let p : Int := s.cc c 0x06
  let tol : Int := s.cc c 0x0A
  let e := indexGrid last obs p
  if (obs - e).natAbs ≤ tol then
    let s := if x.pend.isSome then s.event 0x8011 (s.loc 16 c.val) [(8, c.val), (64, toU 64 obs)] else s
    s.updChan c fun y => { y with last := some e, pend := none }
  else
    let s := s.event 0x8010 (s.loc 16 c.val) [(8, c.val), (64, toU 64 obs), (64, toU 64 e)]
    let s := s.updChan c fun y => { y with mismatches := y.mismatches + 1, expIdx := e }
    if s.cc c 0x07 = 1 then (if x.state = .valid then (s.setChan c .mismatch).checkSources else s)
    else
      match x.pend with
      | some q =>
        if (obs - indexGrid q obs p).natAbs ≤ tol then
          let corr := e - obs
          let s := s.updChan c fun y => { y.shift corr with last := some e, pend := none }
          let s := s.event 0x8012 (s.loc 16 c.val) [(8, c.val), (64, toU 64 corr)]
          let step : Rat := (corr : Rat) * (s.cc c 0x03 : Rat) / (s.cc c 0x04 : Rat)
          if s.chans[c].state = .valid then (s.zonesOfChan c).foldl (fun s z => s.applyStep z step stamp) s else s
        else s.updChan c fun y => { y with pend := some obs }
      | none => s.updChan c fun y => { y with pend := some obs }

/-- INDEX_PULSE (R257, R267): an accepted edge of Z; the index count is that at the active edge forward, at the inactive edge
backward. -/
def execIndexPulse (t : Nat) (c : Fin 8) (active : Bool) (stamp : Nat) (s : State) : Host.Outcome State Fault Refusal :=
  let s := s.begin t
  let x := s.chans[c]
  let mode := s.cc c 0x01
  if ¬ (mode = 1 ∨ mode = 3) ∨ s.cc c 0x06 = 0 ∨ active ≠ x.dirPos.getD true ∨ ¬ s.filtered stamp (s.cc c 0x05) then .next s
  else
    match x.state with
    | .starting | .valid | .mismatch =>
      match x.last with
      | some l => .next ((s.updChan c fun y => { y with obsIdx := y.count }).onIndex c x.count l stamp)
      | none =>
        let d : Int := if s.cc c 0x08 = 1 then sx 64 (s.cc c 0x09) - x.count else 0
        .next (s.updChan c fun y =>
          let y := y.shift d
          { y with last := some y.count, obsIdx := y.count, referenced := true })
    | _ => .next s

/-! ### Starting, clearing, presetting (R263, R266) -/

/-- The start conditions of Table 9.2. -/
def State.mayStart (s : State) (c : Fin 8) : Bool :=
  let x := s.chans[c]
  (s.cc c 0x08 == 0 || x.last.isSome) &&
  match s.cc c 0x01 with
  | 1 => decide (x.startAt + msFt 1 ≤ s.ft) && (x.badAt == 0 || decide (x.badAt + msFt 1 ≤ s.ft))
  | 2 => decide (8 ≤ x.good)
  | _ => decide (x.ampOkAt + msFt 1 ≤ s.ft) && (x.badAt == 0 || decide (x.badAt + msFt 1 ≤ s.ft))

/-- A due run of a sin/cos channel starts to collect once K5 runs and no other run of the channel is in progress (R303, R304). -/
def State.startEnc (s : State) (c : Fin 8) : State :=
  if h : c.val < 4 then
    let e := s.enc[(⟨c.val, h⟩ : Fin 4)]
    let now := s.ft
    let per := s.chans[c].periods
    if s.running 5 && (e.st == 0 || e.st == 5) && s.cc c 0x01 == 3 && s.isDue 1 c.val then
      ((s.dropDue 1 c.val).updEnc c fun x => { x.collect now per with st := 1, written := false }).markReqs 1 c.val 2
    else s
  else s

/-- What a sin/cos channel's calibration does when the channel enters VALID (R303, R305). -/
def State.encValid (s : State) (c : Fin 8) : State :=
  if h : c.val < 4 then
    let e := s.enc[(⟨c.val, h⟩ : Fin 4)]
    let now := s.ft
    let per := s.chans[c].periods
    if s.cc c 0x01 ≠ 3 then s
    else
      let s := s.updEnc c fun x => let x := { x with seenValid := true }
                                   if x.st = 1 ∨ x.st = 3 then x.collect now per else x
      if ¬ e.seenValid ∧ e.st = 0 ∧ ¬ e.done then (s.addDue 1 c.val none true).startEnc c else s
  else s

/-- CHANNEL_STARTED (R263). -/
def execChannelStarted (t : Nat) (c : Fin 8) (s : State) : Host.Outcome State Fault Refusal :=
  let s := s.begin t
  if s.chans[c].state = .starting ∧ s.mayStart c then .next (((s.setChan c .valid).encValid c).checkSources) else .next s

/-- CHANNEL_CLEAR (R263). -/
def execChannelClear (t : Nat) (k : Kop) (c : Fin 8) (s : State) : Host.Outcome State Fault Refusal :=
  .next ((s.begin t).command (.channelClear t k c) k (cIdx c) 0x16 1 fun s _ =>
    let x := s.chans[c]
    match x.state with
    | .fault =>
      if x.badAt + msFt 1 ≤ s.ft then ((s.startChan c).updChan c fun y => { y with cause := 0 }, .done) else (s, .done)
    | .mismatch =>
      if s.cc c 0x08 = 1 then (s.startChan c, .done)
      else
        (((s.updChan c fun y => { y with state := .valid, last := some y.obsIdx, pend := none }).encValid c).checkSources, .done)
    | _ => (s, .done))

/-- The zone's tracker starts afresh at a preset count (R266). -/
def State.presetZone (s : State) (z : Fin 8) : State :=
  if s.zones[z].place = .noSource then s
  else
    let p := s.sourcePos z
    let now := s.ft
    let s := if s.zones[z].place = .fault then s.endFault z .standby else s
    let s := (s.toStandby z).updZone z fun x =>
      { x with hwm := p, upd := some { pos := p, stamp := now }, trail := [],
               trk := { x.trk with pHat := p, vHat := 0, lastCnt := p, any := false } }
    s.settle z

/-- CHANNEL_PRESET (R266): the new count is no count update, so that the speed's history moves with it. -/
def execChannelPreset (t : Nat) (k : Kop) (c : Fin 8) (v : Nat) (s : State) : Host.Outcome State Fault Refusal :=
  .next ((s.begin t).command (.channelPreset t k c v) k (cIdx c) 0x17 v fun s _ =>
    if !(s.zonesOfChan c).all s.zoneIdle then (s, .refuse abWork)
    else
      let s := s.updChan c fun x => x.shift (sx 64 v - x.count)
      ((s.zonesOfChan c).foldl State.presetZone s, .done))

/-! ### Speed (R271, R272) -/

/-- The speed of R271 in µm/s, and whether the channel stands still. -/
def State.speedOf (s : State) (c : Fin 8) : Int × Bool :=
  let x := s.chans[c]
  match x.u1, x.u2 with
  | some (c1, t1), o2 =>
    if t1 + usFt (s.cc c 0x0C) ≤ s.ft then (0, true)
    else
      match o2 with
      | some (c2, t2) =>
        if x.hist < 2 then (0, false)
        else
          let dt : Rat := (t1 : Rat) - (t2 : Rat)
          let el : Rat := (s.ft : Rat) - (t1 : Rat)
          let dd := if dt < el then el else dt
          let vm : Rat := s.cc c 0x0B
          let v := ((c1 - c2 : Int) : Rat) * (s.cc c 0x03 : Rat) / (s.cc c 0x04 : Rat) / dd * 10000000000000 / 524288
          let v := if dd = 0 then (if c2 < c1 then vm else -vm) else v
          (roundR (clampR v (-vm) vm), false)
      | none => (0, false)
  -- a channel without any update since reset or standstill; reset leaves the bit 0 (Table 9.3), an OFF channel keeps it
  | none, _ => (0, x.standstill || x.state != .off)

/-- SPEED_SAMPLE (R271, R272): on ticks that are multiples of 12,500 ft. -/
def execSpeedSample (t : Nat) (c : Fin 8) (s : State) : Host.Outcome State Fault Refusal :=
  let s := s.begin t
  if s.ft % 12500 ≠ 0 then .next s
  else
    let (v, still) := s.speedOf c
    .next (s.updChan c fun x =>
      { x with speed := v, revBit := x.revNew, revNew := false, standstill := still,
               hist := if still then 0 else x.hist, u1 := if still then none else x.u1, u2 := if still then none else x.u2 })

/-! ### Marks (R273, R274, R51) -/

def State.updMark (s : State) (m : Fin 8) (f : Mark → Mark) : State := { s with marks := vupd s.marks m f }

/-- The level of a mark input has held for its filter length, in ns (R273). -/
def State.markFiltered (s : State) (m : Fin 8) (stamp : Nat) : Bool :=
  decide (stamp ≤ s.ft) && decide (5 * s.oget (mIdx m) 0x02 ≤ 4 * (s.ft - stamp))

/-- MARK_EDGE (R273, R274): an edge of a mark input to a level, accepted by its filter. The active edge is the rising or the falling
one; with the zone's source not valid it is refused, otherwise it waits for its recorded position. -/
def execMarkEdge (t : Nat) (m : Fin 8) (stamp : Nat) (level : Bool) (s : State) : Host.Outcome State Fault Refusal :=
  let s := s.begin t
  match s.markZone m with
  | none => .next s
  | some z =>
    if ¬ s.markFiltered m stamp then .next s
    else if level = (s.oget (mIdx m) 0x01 == 0) then
      if ¬ s.srcValid z then .next (s.updMark m fun x => { x with refused := x.refused + 1 })
      else .next ((s.updMark m fun x => { x with waits := x.waits ++ [{ stamp, pos := none, close := none, closePos := none }] }).recordMarks z)
    else
      .next ((s.updMark m fun x =>
        match x.waits.getLast? with
        | some w => if w.close.isNone then { x with waits := x.waits.dropLast ++ [{ w with close := some stamp }] } else x
        | none => x).recordMarks z)

/-- A position that is known, or that the passing of the standstill time makes known: the counted position before the
stamp. -/
def State.settledPos (s : State) (z : Fin 8) (m : Fin 8) (stamp : Nat) (p : Option Int) : Option Int :=
  match p with
  | some x => some x
  | none =>
    if stamp + s.standTime z ≤ s.ft then (s.zones[z].upd.map fun u => s.markPos m u.pos) else none

/-- The medium position at a mark's edge, its recorded position less the sensor offset, lies within the window of the item (R51). -/
def State.markInWindow (s : State) (it : Item) (m : Fin 8) (pos : Int) : Bool :=
  match it.markFrom with
  | some f =>
    let d := wrapR (((pos - sx 48 (s.oget (mIdx m) 0x03) : Int) : Rat) - f)
    decide (0 ≤ d) && decide (d ≤ (s.markWindow it : Rat) * s.pitch it.zone)
  | none => false

/-- An accepted mark is offered to the ledger (R51): to the head item, if that waits for a mark and the mark lies within its
window; else it is unclaimed. -/
def State.offerMark (s : State) (z m : Fin 8) (pos : Int) : State :=
  match (s.queue z).head? with
  | some it =>
    if it.startRule = 2 ∧ it.markAt.isNone ∧ s.markInWindow it m pos then
      let origin := pos48 (pos + it.start)
      if s.sluiceOk z origin then
        (s.updItem it.handle fun x => { x with markAt := some pos }).evaluate z
      else
        (s.updMark m fun x => { x with tooClose := x.tooClose + 1 }).event 0x2814 (s.loc 5 z.val)
          [(16, it.handle), (48, toU 48 pos)]
    else s.updMark m fun x => { x with unclaimed := x.unclaimed + 1 }
  | none => s.updMark m fun x => { x with unclaimed := x.unclaimed + 1 }

/-- The edge is accepted (R274): the source valid, beyond the blanking distance, its length within the limits. -/
def State.markOk (s : State) (z m : Fin 8) (pos : Int) (close : Option Int) : Bool :=
  let x := s.marks[m]
  let lmax := s.oget (mIdx m) 0x05
  s.srcValid z && (!x.some_ || decide ((s.oget (mIdx m) 0x06 : Int) < (pdiff pos x.lastPos).natAbs)) &&
  (lmax == 0 ||
   match close with
   | some q => decide (s.oget (mIdx m) 0x04 ≤ (pdiff q pos).natAbs) && decide ((pdiff q pos).natAbs ≤ lmax)
   | none => false)

/-- Decide a waiting mark whose positions are known. -/
def State.decideMark (s : State) (z m : Fin 8) (w : MarkWait) (pos : Int) (close : Option Int) : State :=
  let s := s.updMark m fun x => { x with waits := x.waits.filter fun v => v ≠ w }
  if s.markOk z m pos close then
    let s := s.updMark m fun x =>
      { x with accepted := x.accepted + 1, lastPos := pos, lastAt := w.stamp, some_ := true }
    if s.running 2 then s.offerMark z m pos
    else s.updMark m fun x => { x with kept := x.kept ++ [(w.stamp, pos)] }
  else s.updMark m fun x => { x with refused := x.refused + 1 }

/-- MARK_OFFER (R274): the oldest waiting mark, once its recorded position is known. -/
def execMarkOffer (t : Nat) (m : Fin 8) (s : State) : Host.Outcome State Fault Refusal :=
  let s := s.begin t
  match s.markZone m, s.marks[m].waits with
  | some z, w :: _ =>
    match s.settledPos z m w.stamp w.pos with
    | none => .next s
    | some p =>
      if s.oget (mIdx m) 0x05 = 0 then .next (s.decideMark z m w p none)
      else
        match w.close with
        | none => .next s
        | some cs =>
          match s.settledPos z m cs w.closePos with
          | none => .next s
          | some q => .next (s.decideMark z m w p (some q))
  | _, _ => .next s

/-- Marks kept while K2 did not run are offered in the order of their stamps (R47). -/
def State.offerKept (s : State) : State :=
  (fins 8).foldl (fun s m =>
    match s.markZone m with
    | none => s
    | some z =>
      let ks := s.marks[m].kept
      let s := s.updMark m fun x => { x with kept := [] }
      ks.foldl (fun s e => s.offerMark z m e.2) s) s

/-! ### The gate test (R279) -/

/-- GATE_TEST (R279). -/
def execGateTest (t : Nat) (k : Kop) (g : Fin 8) (s : State) : Host.Outcome State Fault Refusal :=
  .next ((s.begin t).command (.gateTest t k g) k (gIdx g) 0x0A 1 fun s _ =>
    let busy := match s.gateZone g with | some z => !s.zoneIdle z | none => false
    if busy then (s, .refuse abWork)
    else
      let was := s.gates[g].asserted
      let s := s.updGate g fun x =>
        { x with asserted := true, test := true, since := if was then x.since else s.ft,
                 minEnd := max x.minEnd (s.ft + usFt (s.gc g 0x03)) }
      (if was then s else s.gateOut g true, .done))

end Sys2Proof.Machine
end

