-- ==== Sys2Proof/Machine/Motion.lean ====
section
/-! DEFINITION. Motion (chapter 10): the axes AX0–AX7, their groups, limits, following, referencing, the retention
handshake, the feed axis of a scanning zone, and the magnetic switches that act on axes (R275). -/

namespace Sys2Proof.Machine

/-! ### Axis states and status (R284) -/

def State.axLoc (s : State) (a : Fin 8) : Nat := s.loc 17 a.val

/-- At rest: DISABLED, IDLE, RETAINING, RETAINED. -/
def AxisState.rest : AxisState → Bool
  | .disabled => true | .idle => true | .retaining => true | .retained => true
  | .moving => false | .stopping => false | .homing => false | .following => false

/-- Set or clear a bit of the axis status. -/
def Axis.flag (x : Axis) (i : Nat) (b : Bool) : Axis := { x with status := setFld x.status i 1 (b2n b) }

/-- The axis is referenced (R296). -/
def Axis.referenced (x : Axis) : Bool := bitOf x.status 0

/-- The axis becomes referenced; PHASE_LOST clears (R296). -/
def Axis.reference (x : Axis) : Axis := (x.flag 0 true).flag 1 false

/-- Status as read (Table 10.6): the position lies below the low or above the high limit of a referenced axis (R292). -/
def State.axisStatus (s : State) (a : Fin 8) : Nat :=
  let x := s.axes[a]
  let p := x.posAt s.ft
  setFld (setFld x.status 2 1 (b2n (x.referenced && decide (p < sx 64 (s.ac a 0x17))))) 3 1
    (b2n (x.referenced && decide (sx 64 (s.ac a 0x18) < p)))

/-- The zone whose feed axis this is. -/
def State.feedZone (s : State) (a : Fin 8) : Option (Fin 8) := (fins 8).find? fun z => s.feedAxis z == some a

/-- Settle the zone that measures its gate on this axis (R278). -/
def State.settleFeed (s : State) (a : Fin 8) : State :=
  match s.feedZone a with
  | some z => s.settle z
  | none => s

/-- End the commands of an axis that go on (Table 13.3). -/
def State.endAxisCmds (s : State) (a : Fin 8) (code : Nat) : State :=
  [0x06, 0x07, 0x09, 0x0A, 0x0B].foldl (fun s sub =>
    if (sget { state := 0, code := 0 } s.cmdStat (objKey (aIdx a) sub)).state = 1 then s.cmdEnd (aIdx a) sub code else s) s

/-- End a STOP of an axis that goes on. -/
def State.endStopCmd (s : State) (i sub : Nat) : State :=
  if (sget { state := 0, code := 0 } s.cmdStat (objKey i sub)).state = 1 then s.cmdEnd i sub 0 else s

/-- A group whose members are all at rest is IDLE; its commands end (R290). -/
def State.endGroup (s : State) (g : Fin 4) (code : Nat) : State :=
  if (fins 8).any fun a => s.axes[a].grp == some g then s
  else
    let s := { s with groups := vupd s.groups g fun _ => Group.init }
    let s := if (sget { state := 0, code := 0 } s.cmdStat (objKey (grpIdx g) 0x01)).state = 1 then s.cmdEnd (grpIdx g) 0x01 code
             else s
    s.endStopCmd (grpIdx g) 0x02

/-- A feed move has ended other than by its last microstep (R300): the item that awaited it is spoiled and gets no further
traverse; its gate is measured from the end of its last fired traverse (R278). -/
def State.feedFailed (s : State) (a : Fin 8) (z : Fin 8) : State :=
  let s := s.updZone z fun y => { y with feedRun := false, feedDue := false }
  match s.scanItem z with
  | none => s
  | some it =>
    let s := (s.spoil it.handle 7 (s.axLoc a) none 0 0).dropItem it.handle
    (s.updItem it.handle fun y => { y with feedBase := some (y.feedBase.getD s.zones[z].feedPos) }).settle z

/-- The axis has come to rest: its motion is counted, its state is `st`, what it did has ended with `code` (0: by its last
microstep). -/
def State.comeToRest (s : State) (a : Fin 8) (st : AxisState) (code : Nat) : State :=
  let x := s.axes[a]
  let now := s.ft
  let s := s.updAxis a fun x => { x.halt now with state := st, feed := none, grp := none, ending := false }
  let s := (s.endAxisCmds a code).endStopCmd (aIdx a) 0x08
  let s := match x.grp with | some g => s.endGroup g code | none => s
  let s := match x.feed with
    | some z => if code = 0 then s.updZone z fun y => { y with feedRun := false } else s.feedFailed a z
    | none => s
  s.settleFeed a

/-! ### Limits (R291, R292) -/

/-- The HOME, LIMIT_POS or LIMIT_NEG switches of an axis: function `f` of 0x4880 .04. -/
def State.switchOn (s : State) (a : Fin 8) (f : Nat) : Bool :=
  (fins 16).any fun w => s.oget (swIdx w) 0x04 == f && s.oget (swIdx w) 0x05 == a.val && s.switches[w].level

/-- A hard limit is active in this direction. -/
def State.hardLimit (s : State) (a : Fin 8) (pos : Bool) : Bool := s.switchOn a (if pos then 2 else 3)

/-- A command that would step in this direction is refused with LIMIT (R291, R292). -/
def State.limitBlocks (s : State) (a : Fin 8) (pos : Bool) : Bool :=
  let x := s.axes[a]
  let p := x.posAt s.ft
  s.hardLimit a pos ||
  (x.referenced && if pos then decide (sx 64 (s.ac a 0x18) < p) else decide (p < sx 64 (s.ac a 0x17)))

/-! ### Starting motion (R285, R286) -/

/-- Origin of a profile that starts now in direction `pos`: DIR_SETUP after a change of DIR, EN_DELAY after EN. -/
def State.originAt (s : State) (a : Fin 8) (pos : Bool) (from_ : Nat) : Nat :=
  let x := s.axes[a]
  let cfg := s.ac a 0x19
  max (if x.dir = pos then from_ else from_ + 125 * fld cfg 12 8) (x.enAt + usFt (10 * fld cfg 20 8))

/-- DIR stands for a direction from here on: its pin follows where it changes (R283, Table 10.2). -/
def State.turnTo (s : State) (a : Fin 8) (pos : Bool) : State :=
  if s.axes[a].dir = pos then s else (s.updAxis a fun x => { x with dir := pos }).emit (s.dirPin a pos)

/-- Latch the three parameters (R286). -/
def State.latchAxis (s : State) (a : Fin 8) : State :=
  let v := s.ac a 0x10
  let acc := s.ac a 0x11
  let dec := s.ac a 0x12
  s.updAxis a fun x => { x with vLat := v, aLat := acc, dLat := dec }

/-- A trapezoidal move of `d` > 0 microsteps at speed `v` with the latched acceleration and deceleration. -/
def State.startMove (s : State) (a : Fin 8) (st : AxisState) (pos : Bool) (d : Nat) (v : Nat) : State :=
  let t0 := s.originAt a pos s.ft
  (s.turnTo a pos).updAxis a fun x =>
    { x with state := st,
             segs := [{ kind := 0, t0, pos, turn := none, base := .rat 0, dist := .rat d, v0 := .rat 0, vmax := v, acc := x.aLat, dec := x.dLat,
                        num := 1, den := 1, total := d }] }

/-- Checks that a new move, home, follow, group or power-down command shares: K3 runs (Table 1.4), no work on a feed axis
(R299), the axis is IDLE (R287). 0 if it may go on. -/
def State.motionCode (s : State) (a : Fin 8) : Nat :=
  if !s.running 3 then 1 + Config.motionCode 0
  else if (match s.feedZone a with | some z => !(s.polder z).isEmpty | none => false) then abWork
  else if s.axes[a].state ≠ .idle then abMoving
  else 0

/-- Power-down is no planning and needs no K3. -/
def State.powerDownCode (s : State) (a : Fin 8) : Nat :=
  if (match s.feedZone a with | some z => !(s.polder z).isEmpty | none => false) then abWork
  else if s.axes[a].state ≠ .idle then abMoving
  else 0

/-- Position range of R282. -/
def posRange (p : Int) : Bool := decide (-(2 ^ 47 : Int) ≤ p ∧ p < 2 ^ 47)

/-- Start a host move to `target` from rest (R285–R287). -/
def State.moveTo (s : State) (a : Fin 8) (target : Int) : State × CmdRes :=
  let d := target - s.axes[a].pos
  let pos := decide (0 < d)
  if !posRange target then (s, .refuse abRange)
  else if d = 0 then (s.latchAxis a, .done)
  else if s.limitBlocks a pos then (s, .refuse abLimit)
  else
    let s := s.latchAxis a
    (s.startMove a .moving pos d.natAbs s.axes[a].vLat, .running)

/-- MOVE_ABSOLUTE (R285–R287, R296). -/
def execMoveAbsolute (t : Nat) (k : Kop) (a : Fin 8) (v : Nat) (s : State) : Host.Outcome State Fault Refusal :=
  .next ((s.begin t).command (.moveAbsolute t k a v) k (aIdx a) 0x06 v fun s _ =>
    if s.motionCode a ≠ 0 then (s, .refuse (s.motionCode a))
    else if !s.axes[a].referenced then (s, .refuse abNotRef)
    else s.moveTo a (sx 64 v))

/-- MOVE_RELATIVE (R285–R287). -/
def execMoveRelative (t : Nat) (k : Kop) (a : Fin 8) (v : Nat) (s : State) : Host.Outcome State Fault Refusal :=
  .next ((s.begin t).command (.moveRelative t k a v) k (aIdx a) 0x07 v fun s _ =>
    if s.motionCode a ≠ 0 then (s, .refuse (s.motionCode a))
    else s.moveTo a (s.axes[a].pos + sx 64 v))

/-! ### STOP (R288, R290) -/

/-- The stop profile of R288 from the speed at `now` at deceleration `b`; `none` where the move keeps its own profile. -/
def Profile.stop (p : Profile) (now : Nat) (b : Rat) : Option Profile :=
  let v := p.speedAt now
  let rs := (v.mul v).scale (1 / (2 * b))
  let r := p.dist.sub (p.run (p.secs now))
  let x := p.phases
  if p.kind = 0 ∧ ¬ (Surd.rat (p.secs now)).le (x.1.add x.2.1) ∧ r.le rs then none
  else
    let base := p.distAt now
    some { p with kind := 1, t0 := now, base, dist := rs, v0 := v, dec := b,
                  total := max (p.stepsAt now) ((base.add rs).scale ((p.num : Rat) / (p.den : Rat))).floor.toNat }

/-- Enter STOPPING at deceleration `b` of the lead (R288). Stretches already over are counted; what is owed is discarded. -/
def State.beginStop (s : State) (a : Fin 8) (b : Rat) : State :=
  let now := s.ft
  s.updAxis a fun x =>
    match x.active now with
    | none => { x with state := .stopping, ending := false }
    | some p =>
      match p.stop now b with
      | none => { x with state := .stopping, ending := false }
      | some q =>
        let done := { x with segs := x.segs.takeWhile fun y => y.over_ now && decide (y ≠ p) }
        { x with state := .stopping, ending := false, pos := done.posAt now, issued := done.issuedAt now, dir := x.dirAt now, segs := [q] }

/-- Stop deceleration of a group: b_stop of R289 from the objects at the STOP. -/
def State.groupStopDec (s : State) (g : Fin 4) : Rat :=
  let ds := s.groups[g].deltas
  let lead := (ds.map Int.natAbs).foldl max 0
  (fins 8).foldl (fun (b : Rat) a =>
    let d := (ds.getD a.val 0).natAbs
    if d = 0 then b
    else
      let f : Rat := (s.ac a 0x13 : Rat) * lead / d
      if b = 0 then f else min b f) 0

/-- Stop a whole group: every member stays scaled to the lead (R290). -/
def State.stopGroup (s : State) (g : Fin 4) : State :=
  if s.groups[g].state = 1 then
    let b := s.groupStopDec g
    let s := { s with groups := vupd s.groups g fun x => { x with state := 2 } }
    (fins 8).foldl (fun s a => if s.axes[a].grp = some g ∧ s.axes[a].state = .moving then s.beginStop a b else s) s
  else s

/-- STOP of an axis: of its group where it moves in one. -/
def State.stopAxis (s : State) (a : Fin 8) : State :=
  match s.axes[a].state, s.axes[a].grp with
  | .moving, some g => s.stopGroup g
  | .moving, none => s.beginStop a (s.ac a 0x13)
  | .homing, _ => s.beginStop a (s.ac a 0x13)
  | .following, _ => s.beginStop a (s.ac a 0x13)
  | _, _ => s

/-- AXIS_STOP (R288, R290). -/
def execAxisStop (t : Nat) (k : Kop) (a : Fin 8) (s : State) : Host.Outcome State Fault Refusal :=
  .next ((s.begin t).command (.axisStop t k a) k (aIdx a) 0x08 1 fun s _ =>
    let s' := s.stopAxis a
    if s.axes[a].state.rest || s.axes[a].state == .stopping then (s', .done) else (s', .running))

/-- GROUP_STOP (R290). -/
def execGroupStop (t : Nat) (k : Kop) (g : Fin 4) (s : State) : Host.Outcome State Fault Refusal :=
  .next ((s.begin t).command (.groupStop t k g) k (grpIdx g) 0x02 1 fun s _ =>
    if s.groups[g].state = 1 then (s.stopGroup g, .running) else (s, .done))

/-- MOVE_COMPLETE (R285): also the end of a follow whose owed microsteps are issued (R294). -/
def execMoveComplete (t : Nat) (a : Fin 8) (s : State) : Host.Outcome State Fault Refusal :=
  let s := s.begin t
  let x := s.axes[a]
  if (x.state = .moving ∨ x.state = .following ∧ x.ending) ∧ x.idleAt s.ft then .next (s.comeToRest a .idle 0) else .next s

/-- A stop ended at the target of its move: the move kept its own profile (R288). -/
def Axis.atTarget (x : Axis) : Bool := match x.segs with | [p] => p.kind == 0 | _ => false

/-- STOP_COMPLETE (R288, R300). -/
def execStopComplete (t : Nat) (a : Fin 8) (s : State) : Host.Outcome State Fault Refusal :=
  let s := s.begin t
  let x := s.axes[a]
  if x.state = .stopping ∧ x.idleAt s.ft then
    -- a home found its edge and has ended as it should
    let home := (sget { state := 0, code := 0 } s.cmdStat (objKey (aIdx a) 0x09)).state == 1 && x.homed
    .next (s.comeToRest a .idle (if x.atTarget ∨ home then 0 else 1 + Config.motionCode 1))
  else .next s

/-- A referenced axis steps further beyond a virtual limit (R292). -/
def State.crossed (s : State) (a : Fin 8) : Bool :=
  let x := s.axes[a]
  let p := x.posAt s.ft
  let pos := match x.active s.ft with | some q => q.pos | none => x.dir
  x.referenced && if pos then decide (sx 64 (s.ac a 0x18) < p) else decide (p < sx 64 (s.ac a 0x17))

/-- VIRTUAL_LIMIT_CROSSED (R292). -/
def execVirtualLimitCrossed (t : Nat) (a : Fin 8) (s : State) : Host.Outcome State Fault Refusal :=
  let s := s.begin t
  if s.crossed a then .next (s.stopAxis a) else .next s

/-! ### Enabling, disabling, preset, clear (R284, R296) -/

/-- Drive EN of an axis. -/
def State.driveEn (s : State) (a : Fin 8) (on : Bool) : State :=
  let now := s.ft
  (s.updAxis a fun x => { x with en := on, enAt := if on then now else x.enAt }).emit (s.enPin a on)

/-- AXIS_ENABLE (R284, R297): `retHighFor` is the time in ft for which RET has been high. -/
def execAxisEnable (t : Nat) (k : Kop) (a : Fin 8) (retHighFor : Nat) (s : State) : Host.Outcome State Fault Refusal :=
  .next ((s.begin t).command (.axisEnable t k a retHighFor) k (aIdx a) 0x05 1 fun s _ =>
    match s.axes[a].state with
    | .disabled =>
      if retHighFor = 0 then (s, .refuse abMoving)
      else ((s.driveEn a true).updAxis a fun x => { x with state := .idle }, .done)
    | .retained =>
      if retHighFor < usFt 100 then (s, .refuse abMoving)
      else ((s.driveEn a true).updAxis a fun x => { x with state := .idle }, .done)
    | _ => (s, .done))

/-- AXIS_DISABLE (R284). -/
def execAxisDisable (t : Nat) (k : Kop) (a : Fin 8) (s : State) : Host.Outcome State Fault Refusal :=
  .next ((s.begin t).command (.axisDisable t k a) k (aIdx a) 0x05 0 fun s _ =>
    if !s.axes[a].state.rest then (s, .refuse abMoving)
    else if s.axes[a].state = .idle then ((s.driveEn a false).updAxis a fun x => { x with state := .disabled }, .done)
    else (s, .done))

/-- AXIS_PRESET (R296). -/
def execAxisPreset (t : Nat) (k : Kop) (a : Fin 8) (v : Nat) (s : State) : Host.Outcome State Fault Refusal :=
  .next ((s.begin t).command (.axisPreset t k a v) k (aIdx a) 0x0C v fun s _ =>
    if !s.axes[a].state.rest then (s, .refuse abMoving)
    else if !posRange (sx 64 v) then (s, .refuse abRange)
    else (s.updAxis a fun x => { x.reference with pos := sx 64 v }, .done))

/-- AXIS_CLEAR (R301). -/
def execAxisClear (t : Nat) (k : Kop) (a : Fin 8) (s : State) : Host.Outcome State Fault Refusal :=
  .next ((s.begin t).command (.axisClear t k a) k (aIdx a) 0x0D 1 fun s _ =>
    (s.updAxis a fun x => (x.flag 6 false).flag 7 false, .done))

/-! ### Referencing (R295) -/

/-- AXIS_HOME (R295). -/
def execAxisHome (t : Nat) (k : Kop) (a : Fin 8) (v : Nat) (s : State) : Host.Outcome State Fault Refusal :=
  .next ((s.begin t).command (.axisHome t k a v) k (aIdx a) 0x09 v fun s _ =>
    let pos := s.ac a 0x1B == 0
    if v ≠ 1 then (s, .refuse abRange)
    else if s.motionCode a ≠ 0 then (s, .refuse (s.motionCode a))
    else if !(fins 16).any fun w => s.oget (swIdx w) 0x04 == 1 && s.oget (swIdx w) 0x05 == a.val then (s, .refuse abConfig)
    else if s.limitBlocks a pos then (s, .refuse abLimit)
    else
      let s := s.latchAxis a
      ((s.startMove a .homing pos (2 ^ 49) (s.ac a 0x1C)).updAxis a fun x => { x with homed := false }, .running))

/-- The HOME switch of a homing axis becomes active at the stamp (R295). -/
def State.homeEdge (s : State) (a : Fin 8) (stamp : Nat) : State :=
  let off := sx 64 (s.ac a 0x1D)
  if s.axes[a].state = .homing then
    let s := s.updAxis a fun x => { x.reference with pos := off - (x.posAt stamp - x.pos), homed := true }
    s.beginStop a s.axes[a].dLat
  else s

/-- A hard limit stops an axis, and every member of its group, from the tick at which the edge, filtered, is stamped, which is the present
one: what has been issued while the level was filtered counts (R290, R291; DEDUCED, notes/assumptions/27). -/
def State.hardStop (s : State) (a : Fin 8) (pos : Bool) : State :=
  let hit := s.axes[a]
  let members : List (Fin 8) := match hit.grp with | some g => (fins 8).filter fun b => s.axes[b].grp == some g | none => [a]
  members.foldl (fun (s : State) (b : Fin 8) =>
    let old := s.axes[b].state
    let now := s.ft
    let s := s.updAxis b fun x => x.halt now
    let s := if b = a then s.updAxis b fun x => x.flag (if pos then 4 else 5) true else s
    let s := if old = .homing then
        (s.updAxis b fun x => x.flag 7 true).event 0x8810 (s.axLoc b) [(8, b.val), (64, toU 64 (s.axes[b].pos))]
      else s
    let s := s.comeToRest b .idle abLimit
    s.stateChanged 17 (s.axLoc b) (aIdx b) 0x01 old.code AxisState.idle.code) s

/-- SWITCH_EDGE (R275, R291, R295): `level` is the filtered level of the input before polarity. -/
def execSwitchEdge (t : Nat) (sw : Fin 16) (stamp : Nat) (level : Bool) (s : State) : Host.Outcome State Fault Refusal :=
  let s := (s.begin t).wake 6
  let lv := level != (s.oget (swIdx sw) 0x02 == 1)
  if s.switches[sw].level = lv ∨ ¬ s.filtered stamp (usFt (s.oget (swIdx sw) 0x03)) then .next s
  else
    let s := { s with switches := vupd s.switches sw fun x =>
      { level := lv, edges := x.edges + 1, lastAt := stamp } }
    let f := s.oget (swIdx sw) 0x04
    let an := s.oget (swIdx sw) 0x05
    if ha : an < 8 then
      let a : Fin 8 := ⟨an, ha⟩
      let x := s.axes[a]
      let pos : Bool := match x.active s.ft with | some p => p.pos | none => x.dir
      if lv then
        if f = 1 then .next (s.homeEdge a stamp)
        else if ((f == 2 && pos) || (f == 3 && !pos)) && !x.state.rest then .next (s.hardStop a pos)
        else .next s
      else if f = 2 ∨ f = 3 then .next (s.updAxis a fun x => x.flag (if f = 2 then 4 else 5) (s.hardLimit a (f = 2) && bitOf x.status (if f = 2 then 4 else 5)))
      else .next s
    else .next s

/-! ### Following (R293, R294) -/

/-- FOLLOW_START (R293). -/
def execFollowStart (t : Nat) (k : Kop) (a : Fin 8) (s : State) : Host.Outcome State Fault Refusal :=
  .next ((s.begin t).command (.followStart t k a) k (aIdx a) 0x0A 1 fun s _ =>
    if s.motionCode a ≠ 0 then (s, .refuse (s.motionCode a))
    else
      let m := s.ac a 0x1A
      ((s.latchAxis a).updAxis a fun x => { x with state := .following, mult := m, lastIn := none, ending := false }, .done))

/-- FOLLOW_END (R294): the microsteps owed are issued at no more than v_max. -/
def execFollowEnd (t : Nat) (k : Kop) (a : Fin 8) (s : State) : Host.Outcome State Fault Refusal :=
  .next ((s.begin t).command (.followEnd t k a) k (aIdx a) 0x0A 0 fun s _ =>
    let x := s.axes[a]
    if x.state ≠ .following then (s, .done)
    else if x.idleAt s.ft then (s.comeToRest a .idle 0, .done)
    else (s.updAxis a fun x => { x with ending := true }, .running))

/-- Speed at which `n` microsteps are spread over `est` seconds, at no more than `v`. -/
def spread (n : Nat) (est : Rat) (v : Nat) : Rat := if est = 0 then v else min ((n : Rat) / est) v

/-- The edge of CLK_PER at a tick or before it: a coarse step is stamped there (R293). -/
def perEdge (t : Nat) : Nat := t / 8 * 8

/-- An old direction is finished first, at v_max (R293): what a stretch still owes is issued from `now` on. -/
def Profile.finish (p : Profile) (now v : Nat) : Profile :=
  { p with kind := 2, t0 := max now p.t0, base := .rat (p.stepsAt now), dist := .rat (p.total - p.stepsAt now : Nat), v0 := .rat v }

/-- The edge of CLK_PER by which a stretch has issued its last microstep. -/
def Profile.endTick (p : Profile) : Nat := ceilDiv (p.t0 + (p.duration.scale 1250000000).ceil.toNat) 8 * 8

/-- The direction of the last coarse step, or that for which DIR stands. -/
def Axis.heading (x : Axis) (now : Nat) : Bool := match x.segs.getLast? with | some p => p.pos | none => x.dirAt now

/-- The stretches of a following axis after a coarse step of direction `dir` at `now` (R293, R283): those that have ended or are planned anew,
those that go on, and the one that issues what is owed, evenly over the estimate, from DIR_SETUP after DIR has turned. `setup` and `ready` are
DIR_SETUP and the end of EN_DELAY. -/
def Axis.coarse (x : Axis) (dir : Bool) (now setup ready : Nat) : List Profile × List Profile × Profile :=
  let live := x.segs.filter fun p => !p.over_ now
  let turn := x.heading now != dir
  let est : Rat :=
    if turn ∨ waited x.lastIn (msFt 10) now ∨ x.lastIn.isNone then (x.mult : Rat) / x.vLat
    else ftSec (now - x.lastIn.getD 0)
  let rest := if turn then live.dropLast ++ (live.getLast?.map fun p => p.finish now x.vLat).toList else live.dropLast
  let owed := (if turn then 0 else x.owedAt now) + x.mult
  let last := if turn then none else live.getLast?
  let at_ := (rest.map Profile.endTick).foldl max now
  let u : Option Nat := if turn then some at_ else last.bind Profile.turn
  let t0 := if turn then at_ + 125 * setup else match last with | some p => max now p.t0 | none => now
  (x.segs.filter (fun p => p.over_ now) ++ last.toList, rest,
         { kind := 2, t0 := max t0 ready, pos := dir, turn := u, base := .rat 0, dist := .rat owed, v0 := .rat (spread owed est x.vLat),
           vmax := 0, acc := 0, dec := 0, num := 1, den := 1, total := owed })

/-- COARSE_STEP (R293, R294). -/
def execCoarseStep (t : Nat) (a : Fin 8) (dir : Bool) (s : State) : Host.Outcome State Fault Refusal :=
  let s := s.begin t
  let x := s.axes[a]
  if x.state ≠ .following ∨ x.ending then .next (s.updAxis a fun x => { x with ignored := x.ignored + 1 })
  else if s.hardLimit a dir then .next (s.hardStop a dir)
  else
    let now := s.ft
    let stamp := perEdge now
    let cfg := s.ac a 0x19
    let (gone, rest, new) := x.coarse dir stamp (fld cfg 12 8) (x.enAt + usFt (10 * fld cfg 20 8))
    -- positions of stretches that go on are counted from their own beginning; what else has been issued is counted now
    let x' := { { x with segs := gone }.halt now with segs := rest ++ [new], lastIn := some stamp }
    let s := s.updAxis a fun _ => x'
    let s := if x.dirAt now = x'.dirAt now then s else s.emit (s.dirPin a dir)
    if 4 * x.mult < new.total then .next ((s.updAxis a fun x => x.flag 6 true).stopAxis a) else .next s

/-! ### Groups (R289, R290) -/

/-- Members of a group (Table 10.6). -/
def State.members (s : State) (g : Fin 4) : List (Fin 8) := (fins 8).filter fun a => s.ac a 0x1F == g.val

/-- First failing check of a member. -/
def State.memberCode (s : State) (a : Fin 8) (target : Int) : Nat :=
  if s.motionCode a ≠ 0 then s.motionCode a
  else if !s.axes[a].referenced then abNotRef
  else if !posRange target then abRange
  else if target ≠ s.axes[a].pos ∧ s.limitBlocks a (decide (s.axes[a].pos < target)) then abLimit
  else 0

/-- group_params (R289): the minimum over the members that take part of an object scaled to the lead. -/
def State.groupParam (s : State) (ds : List Int) (sub : Nat) : Rat :=
  let lead := (ds.map Int.natAbs).foldl max 0
  (fins 8).foldl (fun (b : Rat) a =>
    let d := (ds.getD a.val 0).natAbs
    if d = 0 then b
    else
      let f : Rat := (s.ac a sub : Rat) * lead / d
      if b = 0 then f else min b f) 0

/-- GROUP_MOVE (R289, R290). -/
def execGroupMove (t : Nat) (k : Kop) (g : Fin 4) (targets : Nat) (s : State) : Host.Outcome State Fault Refusal :=
  .next ((s.begin t).command (.groupMove t k g targets) k (grpIdx g) 0x01 targets fun s _ =>
    let ms := s.members g
    let target := fun (a : Fin 8) => sx 64 (fld targets (64 * a.val) 64)
    let code := (ms.map fun a => s.memberCode a (target a)).foldl (fun c x => if c ≠ 0 then c else x) 0
    if (fins 8).any fun a => !ms.contains a && target a != 0 then (s, .refuse abRange)
    else if !s.running 3 then (s, .refuse (1 + Config.motionCode 0))
    else if code ≠ 0 then (s, .refuse code)
    else
      let ds := (fins 8).map fun a => if ms.contains a then target a - s.axes[a].pos else 0
      let big := (ds.map Int.natAbs).foldl max 0
      if big = 0 then (s, .done)
      else
        let lead := ((fins 8).find? fun a => (ds.getD a.val 0).natAbs == big).getD 0
        let v := s.groupParam ds 0x10
        let ac := s.groupParam ds 0x11
        let dc := s.groupParam ds 0x12
        let go := (fins 8).filter fun a => ds.getD a.val 0 != 0
        let s := go.foldl State.latchAxis s
        let s := s.updAxis lead fun x => { x with vLat := v.floor.toNat, aLat := ac.floor.toNat, dLat := dc.floor.toNat }
        -- every member starts on the same tick
        let t0 := go.foldl (fun m a => max m (s.originAt a (decide (0 < ds.getD a.val 0)) s.ft)) s.ft
        let s := go.foldl (fun s a =>
          let d := ds.getD a.val 0
          let pos := decide (0 < d)
          (s.turnTo a pos).updAxis a fun x =>
            { x with state := .moving, grp := some g,
                     segs := [{ kind := 0, t0, pos, turn := none, base := .rat 0, dist := .rat big, v0 := .rat 0, vmax := v, acc := ac, dec := dc,
                                num := d.natAbs, den := big, total := d.natAbs }] }) s
        ({ s with groups := vupd s.groups g fun _ => { state := 1, lead := lead.val, deltas := ds } }, .running))

/-! ### Power-down of a driver, and RET (R297, R298) -/

/-- The phase of the driver is lost: the axis is DISABLED and unreferenced, EN is deasserted (Table 10.3). -/
def State.phaseLost (s : State) (a : Fin 8) (code : Nat) : State :=
  let s := s.comeToRest a .disabled code
  let s := (s.driveEn a false).updAxis a fun x => { (x.flag 0 false).flag 1 true with retStep := 0, retDriven := false }
  s.event 0x8811 (s.axLoc a) [(8, a.val), (64, toU 64 s.axes[a].pos)]

/-- The handshake of R297 begins: RET is driven low. -/
def State.beginRetain (s : State) (a : Fin 8) : State :=
  let now := s.ft
  let limit := msFt (s.ac a 0x1E)
  (s.updAxis a fun x => { x with state := .retaining, retStep := 1, retDriven := true, retAt := now, retTo := limit }).emit
    (.axisPin a.val 1 0)

/-- AXIS_POWER_DOWN (R297). -/
def execAxisPowerDown (t : Nat) (k : Kop) (a : Fin 8) (s : State) : Host.Outcome State Fault Refusal :=
  .next ((s.begin t).command (.axisPowerDown t k a) k (aIdx a) 0x0B 1 fun s _ =>
    if s.powerDownCode a ≠ 0 then (s, .refuse (s.powerDownCode a)) else (s.beginRetain a, .running))

/-- RET_RELEASE (R297). -/
def execRetRelease (t : Nat) (a : Fin 8) (s : State) : Host.Outcome State Fault Refusal :=
  let s := s.begin t
  let x := s.axes[a]
  if x.state = .retaining ∧ x.retStep = 1 ∧ x.retAt + usFt 2 ≤ s.ft then
    .next ((s.updAxis a fun x => { x with retStep := 2, retDriven := false }).emit (.axisPin a.val 1 1))
  else .next s

/-- RETENTION_CHECK (R297). -/
def execRetentionCheck (t : Nat) (a : Fin 8) (retLow : Bool) (s : State) : Host.Outcome State Fault Refusal :=
  let s := s.begin t
  let x := s.axes[a]
  if x.state = .retaining ∧ x.retStep = 2 ∧ x.retAt + usFt 12 ≤ s.ft then
    if retLow then .next (s.updAxis a fun x => { x with retStep := 3 })
    else .next (s.phaseLost a (1 + Config.motionCode 3))
  else .next s

/-- RETENTION_COMPLETE (R297): RET has been high for 10 µs. -/
def execRetentionComplete (t : Nat) (a : Fin 8) (s : State) : Host.Outcome State Fault Refusal :=
  let s := s.begin t
  let x := s.axes[a]
  if x.state = .retaining ∧ x.retStep = 3 ∧ s.ft ≤ x.retAt + usFt 22 + x.retTo then
    .next ((s.comeToRest a .retained 0).driveEn a false |>.updAxis a fun x => { x with retStep := 0 })
  else .next s

/-- RETENTION_TIMEOUT (R297). -/
def execRetentionTimeout (t : Nat) (a : Fin 8) (s : State) : Host.Outcome State Fault Refusal :=
  let s := s.begin t
  let x := s.axes[a]
  if x.state = .retaining ∧ x.retStep = 3 ∧ x.retAt + usFt 12 + x.retTo ≤ s.ft then
    .next (s.phaseLost a (1 + Config.motionCode 3))
  else .next s

/-- DRIVER_SUPPLY_LOSS (R298): the other members of a group stop as under STOP. -/
def execDriverSupplyLoss (t : Nat) (a : Fin 8) (s : State) : Host.Outcome State Fault Refusal :=
  let s := s.begin t
  match s.axes[a].state with
  | .retaining => .next s
  | .retained => .next s
  | _ =>
    let g := s.axes[a].grp
    let s := match g with | some g => s.stopGroup g | none => s
    .next (s.phaseLost a (1 + Config.motionCode 2))

/-! ### The feed axis of a scanning zone (R158, R299) -/

/-- FEED_MOVE_START (R299): a feed move that a limit blocks has ended otherwise than by its last microstep (R300). -/
def execFeedMoveStart (t : Nat) (z : Fin 8) (s : State) : Host.Outcome State Fault Refusal :=
  let s := s.begin t
  match s.feedAxis z with
  | none => .next s
  | some a =>
    if s.zones[z].feedDue ∧ s.axes[a].state = .idle ∧ s.running 3 then
      let d := sx 32 (s.zc z 0x60)
      let s := (s.updZone z fun y => { y with feedDue := false, feedRun := true }).latchAxis a
      let target := s.axes[a].pos + d
      if d = 0 then .next ((s.updZone z fun y => { y with feedRun := false }).settleFeed a)
      else if s.limitBlocks a (decide (0 < d)) ∨ ¬ posRange target then .next (s.feedFailed a z)
      else
        .next ((s.startMove a .moving (decide (0 < d)) d.natAbs s.axes[a].vLat).updAxis a fun x => { x with feed := some z })
    else .next s

end Sys2Proof.Machine
end

