-- ==== Sys2Proof/Machine/Calib.lean ====
section
/-! DEFINITION. Self-calibration (chapter 11), and the link events that its runs hang on: STATUS frames, lane moves, loss of
lock on an upstream lane (R199, R210, R225, R226). -/

namespace Sys2Proof.Machine

/-! ### Sin/cos channels (R303–R308) -/

/-- Location of the calibration events: engine K5. -/
def State.calLoc (s : State) : Nat := s.loc 18 5

/-- Index of the calibration objects of a channel and of a port (Table 11.8). -/
def encIdx (c : Fin 4) : Nat := 0x6100 + 16 * c.val
def lcIdx (l : Fin 16) : Nat := 0x6200 + 16 * l.val

/-- The channel of a calibration. -/
def encChan (c : Fin 4) : Fin 8 := Fin.castLE (by omega) c

def State.updCal (s : State) (c : Fin 4) (f : EncCal → EncCal) : State := { s with enc := vupd s.enc c f }

/-- A channel of which the first collection waits goes on to the computation: one at a time (R304). -/
def State.nextCompute (s : State) : State :=
  if (fins 4).any fun c => s.enc[c].st == 2 then s
  else
    match (fins 4).filter fun c => s.enc[c].st == 1 && s.enc[c].ready with
    | [] => s
    | c :: cs =>
      let first := cs.foldl (fun (b : Fin 4) d => if s.enc[d].since < s.enc[b].since then d else b) c
      s.updCal first fun e => { e with st := 2, ready := false }

/-- A run of a channel ends with a result (Table 11.7), or the wait of a written value, which is no run and has none. -/
def State.endEnc (s : State) (c : Fin 4) (result : Nat) : State :=
  let e := s.enc[c]
  let temp := s.power.dieTemp
  let s := s.updCal c fun e =>
    let e := if e.written then e
      else { e with result, lastTemp := temp, runs := e.runs + 1, rejects := e.rejects + b2n (result == 4) }
    { e with st := if e.done then 5 else 0, ready := false, new := none, written := false }
  let s := if e.written then s else s.markReqs 1 c.val result
  (s.nextCompute).startEnc (encChan c)

/-- A run of a channel that is in progress is abandoned; a written value still waits. -/
def State.abandonEnc (s : State) (c : Fin 4) : State :=
  let e := s.enc[c]
  if 1 ≤ e.st ∧ e.st ≤ 4 ∧ ¬ e.written then s.endEnc c 6 else s

/-- A target's temperature has moved by more than its delta (R303). -/
def State.tempMoved (s : State) (ref : Option Int) (delta : Nat) : Bool :=
  match ref, s.power.readyTemp with
  | some r, _ => decide (delta < (s.power.dieTemp - r).natAbs)
  | none, some r => decide (delta < (s.power.dieTemp - r).natAbs)
  | none, none => false

/-- Lanes of a port that can be calibrated: DS of a secondary is not connected (Table 7.12). -/
def State.calLanes (s : State) (l : Fin 16) : List Nat := if s.chainOf l = l then [0, 1, 2, 3, 4] else [0, 1, 3, 4]

/-- CALIBRATION_TEMPERATURE_CHECK (R303). -/
def execCalibrationTemperatureCheck (t : Nat) (s : State) : Host.Outcome State Fault Refusal :=
  let s := s.begin t
  if !s.running 5 then .next s
  else
    let s := (fins 4).foldl (fun s c =>
      if s.oget (encIdx c) 0x01 = 1 ∧ s.cc (encChan c) 0x01 = 3 ∧ ¬ (1 ≤ s.enc[c].st ∧ s.enc[c].st ≤ 4) ∧
          s.tempMoved s.enc[c].refTemp (s.oget (encIdx c) 0x02) then
        (s.addDue 1 c.val none true).startEnc (encChan c)
      else s) s
    .next ((fins 16).foldl (fun s l =>
      if s.oget (lcIdx l) 0x01 = 1 then
        (s.calLanes l).foldl (fun s lane =>
          if s.lanes[l].run ≠ lane + 1 ∧ s.tempMoved (s.lanes[l].refTemps.toList.getD lane none) (s.oget (lcIdx l) 0x02) then
            s.addDue 2 (laneTarget l lane) none true
          else s) s
      else s) s)

/-- A collection is complete (R305): 64 whole periods counted in either direction of motion, 256 pairs in each sector. -/
def State.collected (s : State) (c : Fin 4) : Bool :=
  let e := s.enc[c]
  decide (64 ≤ e.counted) && (fins 16).all fun k => decide (256 ≤ e.sectors[k].n)

/-- ENCODER_COLLECTION_COMPLETE (R305). -/
def execEncoderCollectionComplete (t : Nat) (c : Fin 4) (s : State) : Host.Outcome State Fault Refusal :=
  let s := s.begin t
  if s.enc[c].st = 1 ∧ ¬ s.enc[c].ready ∧ s.chans[encChan c].state = .valid ∧ s.collected c then
    let now := s.ft
    .next ((s.updCal c fun e => { e with ready := true, since := now }).nextCompute)
  else .next s

/-- COLLECTION_TIMEOUT (R305): of the first or of the second collection, which runs while the channel is VALID. -/
def execCollectionTimeout (t : Nat) (c : Fin 4) (s : State) : Host.Outcome State Fault Refusal :=
  let s := s.begin t
  let e := s.enc[c]
  if (e.st = 1 ∨ e.st = 3) ∧ ¬ e.ready ∧ s.chans[encChan c].state = .valid ∧ ¬ s.collected c ∧ e.since + msFt (s.oget (encIdx c) 0x03) ≤ s.ft then
    .next (s.endEnc c 7)
  else .next s

/-- compute() of R306, rounded to object units. -/
def EncCal.compute (e : EncCal) : Corr :=
  let mean := fun (f : Sector → Int) => ((fins 16).map fun k => (f e.sectors[k] : Rat) / (e.sectors[k].n : Rat)).foldl (· + ·) 0 / 16
  let os := mean (·.sx)
  let oc := mean (·.sy)
  let vx := mean (·.sxx) - os * os
  let vy := mean (·.syy) - oc * oc
  let cxy := mean (·.sxy) - os * oc
  -- asin q = atan2 (q, √(1 − q²)) with q = −cxy / √(vx · vy); it is odd, and so is round() (R20)
  let scale : Rat := 2 ^ 100
  let size := turnOf (roundR (absR cxy * scale)) (roundR (sqrtBits 100 (vx * vy - cxy * cxy) * scale))
  let phi := roundR ((size : Rat) / 65536)
  { os := roundR os, oc := roundR oc, as := roundRoot (2 * vx), ac := roundRoot (2 * vy), ph := if 0 < cxy then -phi else phi }

/-- ENCODER_COMPUTE_DONE (R306): the second collection begins. -/
def execEncoderComputeDone (t : Nat) (c : Fin 4) (s : State) : Host.Outcome State Fault Refusal :=
  let s := s.begin t
  if s.enc[c].st = 2 then
    let now := s.ft
    let per := s.chans[encChan c].periods
    .next ((s.updCal c fun e => { (e.collect now per) with st := 3, new := some e.compute }).nextCompute)
  else .next s

/-- Residual error of R307 in 1/4096 period. -/
def EncCal.residualOf (e : EncCal) : Nat :=
  let m := (fins 16).foldl (fun (m : Rat) k => max m (absR (e.sectors[k].rho / (e.sectors[k].n : Rat) - 1))) 0
  ceilR (4096 * m * 2 ^ 160 / twoPi160)

/-- Values scaled up, for a phase at a fraction of 0.1 mV. -/
def Corr.fine (k : Corr) : Corr :=
  { k with os := k.os * 65536, oc := k.oc * 65536, as := k.as * 65536, ac := k.ac * 65536 }

/-- Phase under `new` of the pair that `old` puts at phase `p` (2^-16 period) on the unit circle. -/
def Corr.rephase (old new : Corr) (p : Int) : Nat :=
  let o := old.fine
  let sn := sin128 (p * 65536)
  let cs := cos128 (p * 65536)
  let x := o.as * sn / 2 ^ 128 + o.os
  let y := (o.ac : Int) * (cs * cos128 (old.ph * 65536) - sn * sin128 (old.ph * 65536)) / 2 ^ 256 + o.oc
  (new.fine.phase x y).1

/-- First failing check of Table 11.2; 0 if the values are plausible. -/
def failingCheck (old new : Corr) (residual limit : Nat) : Nat :=
  let inAmp := fun (a : Nat) => decide (1000 ≤ a) && decide (a ≤ 15000)
  let low : Int := min new.as new.ac
  if !(inAmp new.as && inAmp new.ac) then 1
  else if 5 * new.as < 4 * new.ac ∨ 5 * new.ac < 4 * new.as then 2
  else if low < 4 * new.os.natAbs ∨ low < 4 * new.oc.natAbs then 3
  else if 4096 < new.ph.natAbs then 4
  else if limit < residual then 5
  else if (List.range 16).any fun k =>
      let p : Int := 4096 * k + 2048
      decide (2 ^ 27 < (phaseStep (p.toNat * 65536) (old.rephase new p)).natAbs) then 6
  else 0

/-- ENCODER_VERIFY_DONE (R307). -/
def execEncoderVerifyDone (t : Nat) (c : Fin 4) (s : State) : Host.Outcome State Fault Refusal :=
  let s := s.begin t
  let e := s.enc[c]
  match e.new with
  | none => .next s
  | some n =>
    if e.st = 3 ∧ s.chans[encChan c].state = .valid ∧ s.collected c then
      let r := e.residualOf
      let bad := failingCheck (s.corr (encChan c)) n r (s.oget (encIdx c) 0x04)
      let now := s.ft
      if bad = 0 then .next (s.updCal c fun e => { e with st := 4, newResid := min r 0xFFFF, since := now })
      else
        .next ((s.endEnc c 4).event 0x9011 s.calLoc [(8, 1), (16, c.val), (8, bad), (8, 0), (8, 0)])
    else .next s

/-- The zone is in a medium gap (R308). -/
def State.inGap (s : State) (z : Fin 8) : Bool :=
  let p := (s.estimate z s.ft).1
  ((s.polder z) ++ (s.tracked z)).all fun it =>
    match it.origin with
    | some o => decide (wrapR (p - o) < 0) || decide ((s.lineOff z (it.lineCount - 1) : Rat) < wrapR (p - o))
    | none => true

/-- Counts by which the new values move the last sample (R308), with the phase and periods under them. -/
def State.calStep (s : State) (c : Fin 8) (n : Corr) : Int × Nat × Int :=
  let x := s.chans[c]
  let i := s.cc c 0x13
  match x.phase with
  | none => (0, 0, x.periods)
  | some p0 =>
    let p1 := (n.phase x.smpX x.smpY).1
    let d := phaseStep p0 p1
    let per := x.periods + (p0 + d - p1) / 2 ^ 32
    (s.inverted c (interp per p1 i - interp x.periods p0 i), p1, per)

/-- The values may take effect now (R308). -/
def State.mayApply (s : State) (c : Fin 8) (n : Corr) : Bool :=
  let step : Rat := absR ((s.calStep c n).1 * s.chanCount c)
  (s.zonesOfChan c).all fun z => if s.trackLimit z / 2 < step then s.zoneIdle z else s.inGap z

/-- Values of a channel take effect (R308): a step of the count reaches the trackers as an ordinary update. -/
def State.applyCorr (s : State) (c : Fin 4) (n : Corr) : State :=
  let ch := encChan c
  let e := s.enc[c]
  let st := s.calStep ch n
  let temp := s.power.dieTemp
  -- a value written by a host advances the version and keeps the reference taken at the write (R314, R355)
  let s := if e.written then s.oapply (encIdx c) 0x06 n.toObj else s.oput (encIdx c) 0x06 n.toObj
  let s := s.updChan ch fun x => { x with phase := x.phase.map fun _ => st.2.1, periods := st.2.2 }
  let s := if s.chans[ch].state.counts then s.countTo ch (s.chans[ch].count + st.1) s.ft else s
  let s := s.updCal c fun e =>
    { e with done := true, refTemp := if e.written then e.refTemp else some temp, residual := if e.written then 0xFFFF else e.newResid }
  if e.written then s.endEnc c e.result
  else (s.endEnc c 3).event 0x9010 s.calLoc [(8, 1), (16, c.val), (16, e.newResid)]

/-- CALIBRATION_APPLY (R308). -/
def execCalibrationApply (t : Nat) (c : Fin 4) (s : State) : Host.Outcome State Fault Refusal :=
  let s := s.begin t
  match s.enc[c].new with
  | none => .next s
  | some n => if s.enc[c].st = 4 ∧ s.mayApply (encChan c) n then .next (s.applyCorr c n) else .next s

/-- APPLY_TIMEOUT (R308). -/
def execApplyTimeout (t : Nat) (c : Fin 4) (s : State) : Host.Outcome State Fault Refusal :=
  let s := s.begin t
  let e := s.enc[c]
  if e.st = 4 ∧ e.since + msFt (s.oget (encIdx c) 0x05) ≤ s.ft then
    .next ((s.endEnc c 8).faultEvent 18 s.calLoc (encIdx c) 0x0A 8 0)
  else .next s

/-! ### Lane runs: their windows (R309, R311, R313, R317) -/

/-- A port whose downstream lanes have no spare (R313): the secondary of a pair, and a port whose spare is held by R226. -/
def State.noSpare (s : State) (l : Fin 16) : Bool := s.chainOf l != l || s.ports[l].spareWhy == 3

/-- DS carries no logical lane, nor is one moving. -/
def Port.spareIdle (p : Port) : Bool := p.physical 0 != 2 && p.physical 1 != 2 && p.move.isNone

/-- The window of a lane run is open (Table 11.6). A downstream lane carries lane groups from FEC mode on; before that there is no
run of it (DEDUCED, notes/assumptions/28). -/
def State.laneWindow (s : State) (l : Fin 16) (lane : Nat) : Bool :=
  let p := s.ports[l]
  s.running 5 && s.lanes[l].run == 0 &&
  match lane with
  | 3 => p.lockUS
  | 4 => p.lockU0
  | 2 => s.sends l && s.chainOf l == l && p.spareIdle
  | _ => s.sends l && (if s.noSpare l then s.chainIdle (s.chainOf l) && p.move.isNone else p.spareIdle)

/-- The earliest due run of the port whose window is open. -/
def State.firstLane (s : State) (l : Fin 16) : Option DueRun :=
  s.due.find? fun d => d.kind == 2 && d.target / 16 == l.val && s.laneWindow l (d.target % 16)

/-- A due lane run starts (R309, R311). -/
def State.startLane (s : State) (l : Fin 16) (d : DueRun) : State :=
  let lane := d.target % 16
  let move := decide (lane < 2) && !s.noSpare l
  let now := s.ft
  let s := (s.dropDue 2 d.target).markReqs 2 d.target 2
  let s := s.updLane l fun x =>
    { x with run := lane + 1, since := now, step := if lane < 3 then (if move then 1 else 2) else 0, verdict := 3,
             write := d.write, byHost := d.write.isSome, lockOnce := [], lockTwice := [] }
  if move then s.beginMove l lane 2 1 else s

/-- Start a run of a lane if it is the first that can start. -/
def State.tryLane (s : State) (l : Fin 16) (lane : Nat) : State :=
  match s.firstLane l with
  | some d => if d.target = laneTarget l lane then s.startLane l d else s
  | none => s

/-- RECEIVE_RUN_START (R309): lane 0 U0, 1 US. -/
def execReceiveRunStart (t : Nat) (l : Fin 16) (lane : Fin 2) (s : State) : Host.Outcome State Fault Refusal :=
  .next ((s.begin t).tryLane l (3 + lane.val))

/-- TRANSMIT_RUN_START (R311): lane 0 D0, 1 D1, 2 DS. -/
def execTransmitRunStart (t : Nat) (l : Fin 16) (lane : Fin 3) (s : State) : Host.Outcome State Fault Refusal :=
  .next ((s.begin t).tryLane l lane.val)

/-! ### Receive lanes (R309, R310) -/

/-- First longest run of set bits among offsets `i …` of `w`: start, length. -/
def longestOpen (w : Nat) : Nat → Nat → Nat → Nat × Nat → Nat × Nat
  | 0, _, _, best => best
  | n + 1, i, len, best =>
    let len := if bitOf w i then len + 1 else 0
    longestOpen w n (i + 1) len (if best.2 < len then (i + 1 - len, len) else best)

/-- Equaliser setting, sampling point and eye width of a sweep (R309): bit 64·e + o + 32 of `open_` set where offset o is
open under setting e. -/
def sweep (open_ : Nat) : Nat × Int × Nat :=
  let eyes := (List.range 16).map fun e => longestOpen (fld open_ (64 * e) 64) 64 0 0 (0, 0)
  let best := (List.range 16).foldl (fun b e => if (eyes.getD b (0, 0)).2 < (eyes.getD e (0, 0)).2 then e else b) 0
  let r := eyes.getD best (0, 0)
  let sum : Int := 2 * (r.1 : Int) - 64 + ((r.2 : Int) - 1)
  -- the centre, rounded towards the nominal point 0
  (best, (if 0 ≤ sum then sum / 2 else -((-sum) / 2)), r.2)

/-- A receive or transmit run has been successful: the reference temperature of the lane (R303). -/
def State.laneRef (s : State) (l : Fin 16) (lane : Nat) : State :=
  let temp := s.power.dieTemp
  s.updLane l fun x => { x with refTemps := Vector.ofFn fun (k : Fin 5) => if k.val = lane then some temp else x.refTemps[k] }

/-- RECEIVE_RUN_COMPLETE (R309, R310, R314): a value written by a host keeps the reference taken at the write. -/
def execReceiveRunComplete (t : Nat) (l : Fin 16) (openOff oldEye : Nat) (s : State) : Host.Outcome State Fault Refusal :=
  let s := s.begin t
  let x := s.lanes[l]
  if x.run ≠ 4 ∧ x.run ≠ 5 then .next s
  else
    let k : Fin 2 := if x.run = 4 then 0 else 1
    let tgt := laneTarget l x.lane
    match x.write with
    | some v => .next ((s.oapply (lcIdx l) (0x04 + k.val) v).endLane l 3)
    | none =>
      let r := sweep openOff
      let lim := s.oget (lcIdx l) 0x03
      if lim ≤ r.2.2 then
        let s := ((s.oput (lcIdx l) (0x04 + k.val) (r.1 + 16 * toU 6 r.2.1)).laneRef l x.lane).updLane l fun y => { y with eyes := vupd y.eyes k fun _ => r.2.2 }
        .next ((s.endLane l 3).event 0x9010 s.calLoc [(8, 2), (16, tgt), (16, r.2.2)])
      else
        let s := (s.updLane l fun y => { y with eyes := vupd y.eyes k fun _ => oldEye }).endLane l 4
        let s := s.event 0x9011 s.calLoc [(8, 2), (16, tgt), (8, 0), (8, r.2.2), (8, oldEye)]
        .next (if oldEye < lim then
            s.event 0x6815 (s.loc 13 l.val) [(8, l.val), (8, x.lane), (8, r.2.2), (8, oldEye)]
          else s)

/-- BLOCK_LOCK_LOST (R199, R310), by the sync headers that the lane has received. A receive run of the other lane is abandoned. -/
def execBlockLockLost (t : Nat) (l : Fin 16) (x : LaneHeaders) (s : State) : Host.Outcome State Fault Refusal :=
  let s := s.begin t
  if lockLost x.hdrs then
    let s := s.updPort l fun p =>
      let u0 := p.lockU0 && x.lane != 0
      let us := p.lockUS && x.lane != 1
      { p with lockU0 := u0, lockUS := us, lockSince := if u0 || us then p.lockSince else none }
    let other := if x.lane = 0 then 5 else 4
    .next (if s.lanes[l].run = other then s.endLane l 6 else s)
  else .next s

/-! ### Transmit lanes (R311, R312) -/

/-- A transmit run is over: its value takes effect, and a success is recorded (R311, R314). -/
def State.endTransmit (s : State) (l : Fin 16) : State :=
  let x := s.lanes[l]
  match x.verdict, x.write with
  | 3, some v =>
    let s := if x.byHost then s.oapply (lcIdx l) (0x08 + x.lane) v else s.oput (lcIdx l) (0x08 + x.lane) v
    let s := (if x.byHost then s else s.laneRef l x.lane).endLane l 3
    s.event 0x9010 s.calLoc [(8, 2), (16, laneTarget l x.lane), (16, 0)]
  | r, _ => s.endLane l r

/-- The bit of STATUS LANES in which a node reports a downstream lane of a port (Tables 7.7, 7.12): that of its serving side, or, at
the last node of a chain that the primary serves, that of its far side for a lane of the secondary. -/
def State.laneBit (s : State) (l : Fin 16) (a : Fin 9) (lane : Nat) : Option Nat :=
  let c := s.chainOf l
  if s.nodePort c a = l then some lane
  else if c ≠ l ∧ a.val = s.ports[c].enumDepth ∧ lane < 2 then some (3 + lane)
  else none

/-- Every node that receives the lane reports lock on it twice running (step 4 of Table 11.3). -/
def State.lanesLocked (s : State) (l : Fin 16) : Bool :=
  let c := s.chainOf l
  let x := s.lanes[l]
  (fins 9).all fun a =>
    let n := s.ports[c].nodes[a]
    !n.present || n.lost || (s.laneBit l a x.lane).isNone || x.lockTwice.contains a.val

/-- Step 5 of Table 11.3 once step 4 is reached: the logical lane moves back. -/
def State.checkLocked (s : State) (l : Fin 16) : State :=
  let x := s.lanes[l]
  if 1 ≤ x.run ∧ x.run ≤ 3 ∧ (x.step = 3 ∨ x.step = 4) ∧ s.lanesLocked l then
    if x.lane < 2 ∧ s.ports[l].physical x.lane = 2 then
      (s.updLane l fun y => { y with step := 5 }).beginMove l x.lane x.lane 1
    else s.endTransmit l
  else s

/-- A lane sends again after its calibration (step 3 of Table 11.3): lane groups of idle words, their MARKERs naming no logical lane. The
lane of a port without a spare, which still carries its logical lane, opens with such a MARKER. -/
def State.sendAgain (s : State) (l : Fin 16) (lane : Nat) : State :=
  if s.ports[l].freePhys = lane then s.openFree l else s.send l lane [.block l.val lane 0x2D (markerContent 3 0)]

/-- TERMINATION_CALIBRATION_DONE (R311 steps 2, 3): an implausible code is replaced by the old one. -/
def execTerminationCalibrationDone (t : Nat) (l : Fin 16) (code : Nat) (s : State) : Host.Outcome State Fault Refusal :=
  let s := s.begin t
  let x := s.lanes[l]
  if 1 ≤ x.run ∧ x.run ≤ 3 ∧ x.step = 2 ∧ x.since + usFt 50 ≤ s.ft then
    let ok := decide (8 ≤ code) && decide (code ≤ 56)
    let s := (s.idleLanes l).updLane l fun y =>
      let y := { y with step := 3, lockOnce := [], lockTwice := [] }
      if y.write.isSome || y.verdict != 3 then y
      else if ok then { y with write := some code } else { y with verdict := 4 }
    .next ((s.sendAgain l x.lane).checkLocked l)
  else .next s

/-- TRANSMIT_LOCK_TIMEOUT (R311): the old code for another 10 ms, then the lane is marked failed. -/
def execTransmitLockTimeout (t : Nat) (l : Fin 16) (s : State) : Host.Outcome State Fault Refusal :=
  let s := s.begin t
  let x := s.lanes[l]
  let now := s.ft
  if 1 ≤ x.run ∧ x.run ≤ 3 ∧ x.since + msFt 10 ≤ now then
    if x.step = 3 then
      .next (s.updLane l fun y =>
        { y with step := 4, since := now, verdict := if y.verdict = 3 then 4 else y.verdict, write := none,
                 lockOnce := [], lockTwice := [] })
    else if x.step = 4 then
      let s := (s.updLane l fun y => { y with failed := y.failed ||| 2 ^ x.lane }).endLane l 4
      .next (s.event 0x6814 (s.locBMR 13 l.val x.lane 1023 0xFFFF) [(8, l.val), (8, x.lane)])
    else .next s
  else .next s

/-- A lane run in progress is abandoned (R304): old values are kept, and a logical lane that had moved to DS moves back. -/
def State.stopLaneRun (s : State) (l : Fin 16) : State :=
  let x := s.lanes[l]
  if x.run = 0 then s
  else
    let s := s.endLane l 6
    if x.lane < 2 ∧ x.step = 1 then s.updPort l fun p => { p with move := none }
    else if x.lane < 2 ∧ 2 ≤ x.step ∧ s.ports[l].physical x.lane = 2 ∧ s.ports[l].move.isNone then s.beginMove l x.lane x.lane 1
    else s

/-- A logical lane goes over to a physical lane (R225): the FEC block on the old lane is filled with idle words, and a lane group
opens on the new one with its MARKER; a group of no logical lane opens on the lane that it leaves free. The losses counted so far are those of the old lane (R226). -/
def State.moveLane (s : State) (l : Fin 16) (logical target reason : Nat) : State :=
  let s := s.idleLanes l
  let p := s.ports[l]
  let i : Fin 2 := Fin.ofNat 2 logical
  let f := p.tx[i].fill
  let y := f.1.newGroup
  let s := (s.send l (p.physical logical) (f.1.outs l (p.physical logical) logical f.2)).updPort l fun p =>
    { p with move := none, spareWhy := if target = 2 then reason else 0, laneMap := setFld p.laneMap (2 * logical) 2 target,
             tx := vupd p.tx i fun _ => y, loss0 := if logical = 0 then [] else p.loss0, loss1 := if logical = 0 then p.loss1 else [] }
  (s.send l target [y.marker l target logical y.bseq]).openFree l

/-- LANE_MOVE (R225): the move ends at a frame boundary, once the frame in progress on the old lane is complete. -/
def execLaneMove (t : Nat) (l : Fin 16) (s : State) : Host.Outcome State Fault Refusal :=
  let s := s.begin t
  match s.ports[l].move with
  | none => .next s
  | some (logical, target, reason) =>
    if s.ft < (s.ports[l].tx[(Fin.ofNat 2 logical : Fin 2)]).free then .next s
    else
      let s := s.moveLane l logical target reason
      let s := if target = 2 then
          s.event 0x6812 (s.locBMR 13 l.val logical 1023 0xFFFF) [(8, l.val), (8, logical), (8, reason)]
        else s
      let x := s.lanes[l]
      let now := s.ft
      if x.run = logical + 1 ∧ x.step = 1 ∧ target = 2 then .next (s.updLane l fun y => { y with step := 2, since := now })
      else if x.run = logical + 1 ∧ x.step = 5 ∧ target = logical then .next (s.endTransmit l)
      else .next s

/-! ### STATUS frames (R210, R218, R226, R234) -/

/-- Reports of lock on a lane that is under a transmit run (R311 step 4). -/
def State.countLock (s : State) (l : Fin 16) (a : Fin 9) (lanes : Nat) : State :=
  let x := s.lanes[l]
  match s.laneBit l a x.lane with
  | none => s
  | some b =>
    if 1 ≤ x.run ∧ x.run ≤ 3 ∧ (x.step = 3 ∨ x.step = 4) then
      let s := s.updLane l fun y =>
        if bitOf lanes b then
          { y with lockTwice := if y.lockOnce.contains a.val && !y.lockTwice.contains a.val then a.val :: y.lockTwice else y.lockTwice,
                   lockOnce := if y.lockOnce.contains a.val then y.lockOnce else a.val :: y.lockOnce }
        else { y with lockOnce := y.lockOnce.erase a.val, lockTwice := y.lockTwice.erase a.val }
      s.checkLocked l
    else s

/-- Far-side lock of a node as it reports it, and a chain that goes on past its eighth node (R214). -/
def State.farSide (s : State) (c : Fin 16) (a : Fin 9) (lanes : Nat) : State :=
  let now := s.ft
  let ok := bitOf lanes 3 || bitOf lanes 4
  let s := s.updNode c a fun n =>
    { n with farLostAt := if ok then none else some (n.farLostAt.getD now), farOkAt := if ok then some (n.farOkAt.getD now) else none }
  if ok ∧ a = 8 ∧ ¬ s.isDual c then s.chainTooLong c else s

/-- Every node that is fit for service is aligned. -/
def State.chainAligned (s : State) (c : Fin 16) : Bool :=
  (fins 9).all fun a => let n := s.ports[c].nodes[a]; !n.present || !n.profileOk || n.lost || n.timeOk

/-- A node reports loss of lock on the lane that carries a logical lane (R226), less a lane under its own run (R311). -/
def State.laneLost (s : State) (port : Fin 16) (i lanes : Nat) : Bool :=
  s.ports[port].fec && s.ports[port].state != .fault && !bitOf lanes (s.ports[port].physical i) &&
  !(s.lanes[port].run == i + 1 && decide (2 ≤ s.lanes[port].step) && s.ports[port].physical i == i)

/-- STATUS_FRAME (R204, R205, R210, R213, R226, R234, R248). -/
def execStatusFrame (t : Nat) (l : Fin 16) (r : StatusRep) (s : State) : Host.Outcome State Fault Refusal :=
  let s := (s.begin t).updPort l fun p => r.rx.foldl Port.takeFec p
  let c := s.chainOf l
  if !r.ok then .next (s.updPort l fun p => { p with discards := p.discards + 1 })
  else if h : r.addr < 9 then
    let a : Fin 9 := ⟨r.addr, h⟩
    let n := s.ports[c].nodes[a]
    if ¬ n.present ∨ n.lost then .next s
    else
      let now := s.ft
      let s := s.updNode c a fun n =>
        { n with lastStatus := some now, lastSeq := some r.sseq, timeErr := r.timeErr, lanes := r.lanes, timeOk := r.timeOk,
                 side := r.side, status := r.body }
      let s := s.farSide c a r.lanes
      let s := if s.ports[c].state = .aligning ∧ s.chainAligned c then (s.setChainLink c .ready).startReads c else s
      let port := s.nodePort c a
      let s := (s.chainPorts c).foldl (fun s q => s.countLock q a r.lanes) s
      let s := [0, 1].foldl (fun s i => if s.laneLost port i r.lanes then s.laneFail port i else s) s
      match n.head with
      | some hd => .next (s.headReport hd r.temp r.sensorFault r.tripped)
      | none => .next s
  else .next s

/-! ### Requests (R315–R318) -/

/-- Value of a request object (Table 11.4). -/
def reqValue (kind target deadline : Nat) : Nat := packBits [(8, kind), (8, 0), (16, target), (32, 0), (64, deadline)]

def State.updReq (s : State) (i : Fin 16) (f : ReqSlot → ReqSlot) : State := { s with reqs := vupd s.reqs i f }

/-- A request is accepted into a slot (R316) with the result it has at once. -/
def State.acceptReq (s : State) (i : Fin 16) (kind target deadline result : Nat) : State :=
  s.updReq i fun q => { kind, target, deadline, result, seq := (q.seq + 1) % 65536 }

/-- REQUEST_CANCEL (R316). -/
def execRequestCancel (t : Nat) (k : Kop) (slot : Fin 16) (s : State) : Host.Outcome State Fault Refusal :=
  .next ((s.begin t).command (.requestCancel t k slot) k (0x6010 + slot.val) 0x01 (reqValue 0 0 0) fun s _ =>
    let q := s.reqs[slot]
    if q.result = 2 then (s, .refuse abWork)
    else if q.result = 1 then ((s.updReq slot fun q => { q with result := 9 }).pruneDue q.kind q.target, .done)
    else (s, .done))

/-- REQUEST_ENCODER_CAL (R316, R303). -/
def execRequestEncoderCal (t : Nat) (k : Kop) (slot : Fin 16) (target deadline : Nat) (s : State) :
    Host.Outcome State Fault Refusal :=
  .next ((s.begin t).command (.requestEncoderCal t k slot target deadline) k (0x6010 + slot.val) 0x01 (reqValue 1 target deadline) fun s _ =>
    if s.reqBusy slot then (s, .refuse abWork)
    else if h : target < 4 then
      let c : Fin 4 := ⟨target, h⟩
      if s.cc (encChan c) 0x01 ≠ 3 then (s.acceptReq slot 1 target deadline 4, .done)
      else if 1 ≤ s.enc[c].st ∧ s.enc[c].st ≤ 4 ∧ ¬ s.enc[c].written then (s.acceptReq slot 1 target deadline 2, .done)
      else (((s.acceptReq slot 1 target deadline 1).addDue 1 target none false).startEnc (encChan c), .done)
    else (s.acceptReq slot 1 target deadline 4, .done))

/-- A lane target exists (Table 11.4). -/
def State.laneExists (s : State) (target : Nat) : Bool :=
  target < 256 && (s.calLanes (Fin.ofNat 16 (target / 16))).contains (target % 16)

/-- REQUEST_LANE_CAL (R316, R303). -/
def execRequestLaneCal (t : Nat) (k : Kop) (slot : Fin 16) (target deadline : Nat) (s : State) :
    Host.Outcome State Fault Refusal :=
  .next ((s.begin t).command (.requestLaneCal t k slot target deadline) k (0x6010 + slot.val) 0x01 (reqValue 2 target deadline) fun s _ =>
    if s.reqBusy slot then (s, .refuse abWork)
    else if !s.laneExists target then (s.acceptReq slot 2 target deadline 4, .done)
    else if s.lanes[Fin.ofNat 16 (target / 16)].run = target % 16 + 1 then (s.acceptReq slot 2 target deadline 2, .done)
    else ((s.acceptReq slot 2 target deadline 1).addDue 2 target none false, .done))

/-- REQUEST_ELEMENT_SCAN (R316, R244): a scan of the head that is under way takes it in. -/
def execRequestElementScan (t : Nat) (k : Kop) (slot : Fin 16) (target deadline : Nat) (s : State) :
    Host.Outcome State Fault Refusal :=
  .next ((s.begin t).command (.requestElementScan t k slot target deadline) k (0x6010 + slot.val) 0x01 (reqValue 3 target deadline) fun s _ =>
    if s.reqBusy slot then (s, .refuse abWork)
    else if h : target < 64 then
      let x := s.heads[(⟨target, h⟩ : Fin 64)]
      if x.link.isNone then (s.acceptReq slot 3 target deadline 4, .done)
      else (s.acceptReq slot 3 target deadline (if x.scanBlk.isSome ∨ x.scanNext ≠ 0 then 2 else 1), .done)
    else (s.acceptReq slot 3 target deadline 4, .done))

/-- REQUEST_DEADLINE (R317). -/
def execRequestDeadline (t : Nat) (slot : Fin 16) (s : State) : Host.Outcome State Fault Refusal :=
  let s := s.begin t
  let q := s.reqs[slot]
  if q.result = 1 ∧ q.deadline ≠ 0 ∧ q.deadline ≤ s.ft then
    .next (((s.updReq slot fun q => { q with result := 5 }).pruneDue q.kind q.target).event 0x9012 s.calLoc
      [(8, slot.val), (8, q.kind), (16, q.target)])
  else .next s

/-! ### Values written by a host, automatic calibration (R304, R314) -/

/-- The calibration target of a value object: kind, target (Table 11.8). -/
def calTarget (index sub : Nat) : Option (Nat × Nat) :=
  if 0x6100 ≤ index ∧ index < 0x6140 ∧ index % 16 = 0 ∧ sub = 0x06 then some (1, (index - 0x6100) / 16)
  else if 0x6200 ≤ index ∧ index < 0x6300 ∧ index % 16 = 0 then
    let l := (index - 0x6200) / 16
    if sub = 0x04 ∨ sub = 0x05 then some (2, 16 * l + sub - 1)
    else if 0x08 ≤ sub ∧ sub ≤ 0x0A then some (2, 16 * l + sub - 8)
    else none
  else none

/-- The range of a correction value (Table 11.8). -/
def corrRange (v : Nat) : Bool :=
  let k := corrOf v
  decide (1 ≤ k.as) && decide (k.as ≤ 30000) && decide (1 ≤ k.ac) && decide (k.ac ≤ 30000) && decide (k.ph.natAbs ≤ 8192) &&
  fld v 80 16 == 0

/-- A run of the target waits or is in progress. -/
def State.calBusy (s : State) (kind target : Nat) : Bool :=
  s.isDue kind target ||
  if kind = 1 then let e := s.enc[Fin.ofNat 4 target]; decide (1 ≤ e.st) && decide (e.st ≤ 4)
  else s.lanes[Fin.ofNat 16 (target / 16)].run == target % 16 + 1

/-- CALIBRATION_VALUE_WRITE (R314). -/
def execCalibrationValueWrite (t : Nat) (k : Kop) (index sub v : Nat) (s : State) : Host.Outcome State Fault Refusal :=
  .next ((s.begin t).write (.calibrationValueWrite t k index sub v) k index sub v fun s _ =>
    match calTarget index sub with
    | none => (s, abNoSub)
    | some (1, c) =>
      if !corrRange v then (s, abRange)
      else if s.calBusy 1 c then (s, abWork)
      else
        let temp := s.power.dieTemp
        let now := s.ft
        let c : Fin 4 := Fin.ofNat 4 c
        let s := s.updCal c fun e => { e with st := 4, new := some (corrOf v), written := true, since := now, refTemp := some temp }
        ((if s.mayApply (encChan c) (corrOf v) ∧ (s.zonesOfChan (encChan c)).isEmpty then s.applyCorr c (corrOf v) else s), 0)
    | some (kind, target) =>
      if s.calBusy kind target then (s, abWork)
      else
        let l : Fin 16 := Fin.ofNat 16 (target / 16)
        ((s.addDue 2 target (some v) false).laneRef l (target % 16), 0))

/-- AUTO_CALIBRATION_WRITE (R304): clearing it abandons a run of the target in progress. -/
def execAutoCalibrationWrite (t : Nat) (k : Kop) (index sub v : Nat) (s : State) : Host.Outcome State Fault Refusal :=
  .next ((s.begin t).write (.autoCalibrationWrite t k index sub v) k index sub v fun s _ =>
    if sub ≠ 0x01 then (s, abNoSub)
    else
      let s := s.oapply index sub v
      if v = 1 then (s, 0)
      else if 0x6100 ≤ index ∧ index < 0x6140 then
        let c : Fin 4 := Fin.ofNat 4 ((index - 0x6100) / 16)
        (((s.unAuto 1 c.val).pruneDue 1 c.val).abandonEnc c, 0)
      else if 0x6200 ≤ index ∧ index < 0x6300 then
        let l : Fin 16 := Fin.ofNat 16 ((index - 0x6200) / 16)
        let s := (s.calLanes l).foldl (fun s lane =>
          (s.unAuto 2 (laneTarget l lane)).pruneDue 2 (laneTarget l lane)) s
        (s.stopLaneRun l, 0)
      else (s, abNoSub))

end Sys2Proof.Machine
end

