-- ==== Sys2Proof/Machine/Arrays.lean ====
section
/-! DEFINITION. The swept arrays: what the accesses of one cycle of CLK_ENG do to their words, and which of them wait (R408–R415); the shadow
in whose place a region is tested, and the spare rows (R417–R419). -/

namespace Sys2Proof.Machine

/-- Words of an array: 256 KiB of a scratchpad, 512 KiB of a pool bank, 384 KiB of a line-store bank (Table 15.1). -/
def arrayWords (a : Nat) : Nat := if a < 8 then 32768 else if a < 12 then 65536 else if a < 28 then 49152 else 0

/-- Key of a word. -/
def wordKey (a w : Nat) : Nat := a * 65536 + w

/-- The operation changes its word; it is an atomic one. -/
def wordWrites (op : WordOp) : Bool := op != .read
def wordAtomic (op : WordOp) : Bool := match op with | .add32 _ _ | .add64 _ | .swap _ => true | _ => false

/-- Number of the engine that makes an access. -/
def engineOf (x : Access) : Option (Fin 8) := match x.client with | .engine k => some k | _ => none

/-- The access goes to port A of its scratchpad: its own engine makes it. -/
def onPortA (x : Access) : Bool := match x.client with | .engine k => x.array == k.val | _ => false

/-- The port of a hardware client, which serves one access in a cycle (R408): P2 of a pool bank, W and R of a line-store bank. -/
def hwPort (x : Access) : Option Nat :=
  match x.client with
  | .engine _ | .dma => none
  | .nozzleMap => some 1
  | .linkReader => some 2
  | _ => some 0

/-- A hardware client makes the access, on port P2. -/
def onP2 (x : Access) : Bool := hwPort x == some 0

/-- The client has a port to the word, and the port has the operation (Table 15.1, R413). -/
def accessLegal (x : Access) : Bool :=
  decide (x.word < arrayWords x.array) &&
  (if x.array < 8 then (hwPort x).isNone && (onPortA x || !wordAtomic x.op)
   else if x.array < 12 then (hwPort x).isNone || onP2 x
   else match hwPort x, x.op with | some 1, .write _ | some 2, .read => true | _, _ => false)

/-- An engine issues accesses while it is RUNNING and its domain is clocked. -/
def State.engineIssues (s : State) (k : Fin 8) : Bool := s.running k && (decide (k.val < 2) || s.domains[7].state == 2)

/-! ### Where a word lies (R416–R419) -/

/-- Macro of a word counted over all arrays, its row, its region (R416). -/
def wordMacro (a w : Nat) : Nat := (if a < 8 then 32 * a else if a < 12 then 256 + 64 * (a - 8) else 512 + 48 * (a - 12)) + w / 1024
def wordRow (w : Nat) : Nat := w % 1024 / 2
def wordRegion (a w : Nat) : Nat := 16 * wordMacro a w + wordRow w / 32

/-- Array of a region, and its words. -/
def regionArray (r : Nat) : Nat := if r < 4096 then r / 512 else if r < 8192 then 8 + (r - 4096) / 1024 else 12 + (r - 8192) / 768
def regionWords (r : Nat) : List Nat :=
  let first := 64 * (if r < 4096 then r % 512 else if r < 8192 then (r - 4096) % 1024 else (r - 8192) % 768)
  (List.range 64).map (first + ·)

/-- Cells of spare row `n` (from 1) of a macro. -/
def spareKey (g n c : Nat) : Nat := 2 ^ 22 + 2 * (4 * g + (n - 1)) + c

/-- The array to which cells belong: those of a spare row lie in their macro. -/
def keyArray (key : Nat) : Nat :=
  if key < 2 ^ 22 then key / 65536
  else
    let g := (key - 2 ^ 22) / 8
    if g < 256 then g / 32 else if g < 512 then 8 + (g - 256) / 64 else 12 + (g - 512) / 48

/-- The cells that hold a word: those of its row, or of the spare to which the row is remapped (R419). -/
def Arrays.home (x : Arrays) (a w : Nat) : Nat :=
  match sget 0 x.remap (wordMacro a w * 512 + wordRow w) with
  | 0 => wordKey a w
  | n => spareKey (wordMacro a w) n (w % 2)

/-- The region of a word is locked: its clients are served from the shadow (R418). -/
def Arrays.shadowed (x : Arrays) (a w : Nat) : Bool := x.locked == some (wordRegion a w)

/-- A word as its clients see it, and as they write it. -/
def Arrays.at_ (x : Arrays) (a w : Nat) : Nat :=
  if x.shadowed a w then sget 0 x.shadow (wordKey a w) else sget 0 x.words (x.home a w)
def Arrays.put (x : Arrays) (a w v : Nat) : Arrays :=
  if x.shadowed a w then { x with shadow := sset 0 x.shadow (wordKey a w) v } else { x with words := sset 0 x.words (x.home a w) v }

/-- What an access does to the check code of its word (R415): a read corrects a single-bit error and counts it, a write ends it. The
shadow holds corrected data. -/
def Arrays.check (x : Arrays) (q : Access) : Arrays :=
  let key := wordKey q.array q.word
  if x.shadowed q.array q.word ∨ key ∉ x.weak then x
  else
    let reads := match q.op with | .write _ => false | _ => true
    { x with single := if reads then vupd x.single (Fin.ofNat 28 q.array) (· + 1) else x.single,
             weak := if wordWrites q.op then x.weak.filter (· != key) else x.weak }

/-- Step 1 and 2 of Table 15.3: the region is locked and copied; its cells are then tested, and hold nothing. -/
def Arrays.lock (x : Arrays) (r : Nat) : Arrays :=
  let a := regionArray r
  let copy := (regionWords r).foldl (fun m w => sset 0 m (wordKey a w) (x.at_ a w)) []
  { x with locked := some r, shadow := copy, words := (regionWords r).foldl (fun m w => sset 0 m (x.home a w) 0) x.words }

/-- Steps 4 and 5: the shadow is written back, into the spare of a row that has been remapped, with fresh check bits; the region is
unlocked. -/
def Arrays.unlock (x : Arrays) (r : Nat) : Arrays :=
  let a := regionArray r
  { x with words := (regionWords r).foldl (fun m w => sset 0 m (x.home a w) (sget 0 x.shadow (wordKey a w))) x.words,
           weak := x.weak.filter fun k => !((regionWords r).any fun w => k == wordKey a w), locked := none, shadow := [] }

/-! ### One cycle of a scratchpad -/

/-- What serving an access does: its word changes, its answer is the value before (R413). -/
def Arrays.serve (x : Arrays) (q : Access) : Arrays :=
  let w := x.at_ q.array q.word
  let x := (x.check q).put q.array q.word (wordAfter q.op w)
  { x with answers := x.answers ++ [(q, w)], waiting := x.waiting.erase q }

/-- A port that receives BUSY repeats its access on the next cycle (R409). -/
def Arrays.busy (x : Arrays) (k : Fin 8) : Arrays := { x with retries := vupd x.retries k (· + 1) }

/-- Two accesses to one word of a scratchpad, the earlier port's first (R409). Two reads both return it. A write of the earlier port
takes effect and the later port repeats; a read of the earlier port that meets a write returns undefined data, and a plain write
takes effect at once. An atomic operation of the later port acts once, on its repeat (DEDUCED, notes/assumptions/44). -/
def Arrays.meet (x : Arrays) (k : Fin 8) (a b : Access) : Arrays :=
  if ¬ wordWrites a.op ∧ ¬ wordWrites b.op then (x.serve a).serve b
  else if wordWrites a.op then (x.serve a).busy k
  else
    let x := { x with answers := x.answers ++ [(a, Config.undefinedRead x.cycle k.val % 2 ^ 64)], waiting := x.waiting.erase a }
    let x := if wordAtomic b.op then x else (x.check b).put b.array b.word (wordAfter b.op (x.at_ b.array b.word))
    x.busy k

/-- The access that port B takes: an engine's before the DMA unit's (R410). -/
def Arrays.portB (x : Arrays) (k : Fin 8) : Option Access :=
  let q := x.waiting.filter fun y => y.array == k.val && !onPortA y
  (q.find? fun y => (engineOf y).isSome).or q.head?

/-- The access that port A takes. -/
def Arrays.portA (x : Arrays) (k : Fin 8) : Option Access := x.waiting.find? fun y => y.array == k.val && onPortA y

/-- One cycle of scratchpad ES k (R409, R410); of two accesses issued on one edge, port B's is the later. -/
def Arrays.padCycle (x : Arrays) (k : Fin 8) : Arrays :=
  match x.portA k, x.portB k with
  | none, none => x
  | some a, none => x.serve a
  | none, some b => x.serve b
  | some a, some b =>
    if a.word ≠ b.word then (x.serve a).serve b
    else if a.edge ≤ b.edge then x.meet k a b
    else x.meet k b a

/-! ### One cycle of a pool bank -/

/-- The engines in the order of a round that begins at engine `k` (R411). -/
def roundFrom (k : Fin 8) : List (Fin 8) := (fins 8).map fun j => Fin.ofNat 8 (k.val + j.val)

/-- The ports P0 and P1 of a bank that engines may use on this cycle: of those of the last 1 µs, 625, they have had at most 75 %
(R411). -/
def Arrays.openPorts (x : Arrays) (n : Fin 4) : List (Fin 2) :=
  (fins 2).filter fun p => decide ((x.portUse[Fin.ofNat 8 (2 * n.val + p.val)].filter fun c => decide (x.cycle < c + 625)).length < 468)

/-- The accesses of engines that P0 and P1 take: one for each open port, in the order of the round (R411). -/
def Arrays.enginesOn (x : Arrays) (n : Fin 4) : List Access :=
  ((roundFrom x.turn[n]).filterMap fun k => x.waiting.find? fun y => y.array == 8 + n.val && engineOf y == some k).take (x.openPorts n).length

/-- The ports that engines use are noted. -/
def Arrays.notePorts (x : Arrays) (n : Fin 4) : Arrays :=
  ((x.openPorts n).take (x.enginesOn n).length).foldl (fun (x : Arrays) p =>
    { x with portUse := vupd x.portUse (Fin.ofNat 8 (2 * n.val + p.val)) fun l => x.cycle :: l.filter fun c => decide (x.cycle < c + 625) }) x

/-- The accesses that a bank serves on a cycle, in the order DMA, P2, P1, P0 (R411, R412). -/
def Arrays.bankServed (x : Arrays) (n : Fin 4) : List Access :=
  let a := 8 + n.val
  let e := x.enginesOn n
  let d := (x.waiting.filter fun y => y.array == a && y.client == .dma).take (2 - e.length)
  let h := x.waiting.filter fun y => y.array == a && onP2 y
  d ++ h ++ e.reverse

/-- One cycle of bank CP n (R411, R412): reads return what the word held before the cycle, writes and atomic operations are applied
one after another. -/
def Arrays.bankCycle (x : Arrays) (n : Fin 4) : Arrays :=
  let before := x
  let last := (x.enginesOn n).getLast?.bind engineOf
  let x := (x.bankServed n).foldl (fun (x : Arrays) q =>
    if wordWrites q.op then x.serve q
    else { x.check q with answers := x.answers ++ [(q, before.at_ q.array q.word)], waiting := x.waiting.erase q }) (x.notePorts n)
  match last with
  | some k => { x with turn := vupd x.turn n fun _ => k + 1 }
  | none => x

/-! ### One cycle of a line-store bank -/

/-- One cycle of LB n (R414): R reads what a word held before, W writes; neither waits. -/
def Arrays.lineCycle (x : Arrays) (n : Fin 16) : Arrays :=
  let mine := x.waiting.filter fun y => y.array == 12 + n.val
  (mine.filter fun y => wordWrites y.op).foldl Arrays.serve ((mine.filter fun y => !wordWrites y.op).foldl Arrays.serve x)

/-! ### One cycle of all of them -/

/-- A port of a hardware client takes one access in a cycle (R408, R411). -/
def oncePerPort (qs : List Access) : List Access :=
  qs.foldl (fun acc q => if (hwPort q).isSome && acc.any (fun y => y.array == q.array && hwPort y == hwPort q) then acc else acc ++ [q]) []

/-- What is issued on a cycle: a free list, of which the legal accesses of engines that run are taken, and one for each hardware
client's port. -/
def State.issued (s : State) : List Access :=
  let n := s.arrays.cycle
  oncePerPort (((Config.accesses n).map fun (q : Access) => { q with edge := n }).filter fun q =>
    accessLegal q && match engineOf q with | some k => s.engineIssues k | none => true)

/-- Words in which a bit has flipped on a cycle, those of the region under test apart. -/
def Arrays.flipped (x : Arrays) : List Nat :=
  (Config.softErrors x.cycle).filter fun k =>
    decide (k % 65536 < arrayWords (k / 65536)) && !x.shadowed (k / 65536) (k % 65536) && !x.weak.elem k

/-- One cycle of CLK_ENG at the swept arrays (R408). -/
def State.arrayCycle (s : State) : State :=
  let x : Arrays := { s.arrays with waiting := s.arrays.waiting ++ s.issued, answers := [], weak := s.arrays.weak ++ s.arrays.flipped }
  let x := (fins 16).foldl Arrays.lineCycle ((fins 4).foldl Arrays.bankCycle ((fins 8).foldl Arrays.padCycle x))
  { s with arrays := { x with cycle := x.cycle + 1 } }

/-- An engine that stops loses the accesses it had issued; its scratchpad is cleared before it restarts (R406). -/
def State.dropAccesses (s : State) (k : Fin 8) : State :=
  { s with arrays := { s.arrays with waiting := s.arrays.waiting.filter fun q => engineOf q != some k } }
def State.clearPad (s : State) (k : Fin 8) : State :=
  { s with arrays := { s.arrays with words := s.arrays.words.filter (fun e => keyArray e.1 != k.val),
                                     shadow := s.arrays.shadow.filter (fun e => e.1 / 65536 != k.val),
                                     weak := s.arrays.weak.filter (fun e => e / 65536 != k.val) } }

/-- A hardware client drops the operation of its port (R415). -/
def State.dropOperation (s : State) (c : Client) : State :=
  { s with arrays := { s.arrays with waiting := s.arrays.waiting.filter fun q => q.client != c } }

end Sys2Proof.Machine
end

