-- ==== Sys2Proof/Machine/Sync.lean ====
section
/-! DEFINITION. Board time and the sync ports (R162–R168), and the scheduling of counter snapshots (R455). -/

namespace Sys2Proof.Machine

/-! ### Scheduling of snapshots (R455) -/

/-- Distance of two ticks. -/
def tickDist (a b : Nat) : Nat := max a b - min a b

/-- Insert a latch tick in rising order. -/
def insertDue (x : Latch) : List Latch → List Latch
  | [] => [x]
  | y :: ys => if x.at_ < y.at_ then x :: y :: ys else y :: insertDue x ys

/-- Two latch ticks lie within 100 µs of each other. -/
def nearLatch (a b : Nat) : Bool := decide (tickDist a b ≤ 125000)

/-- A latch tick after one taken within 100 µs before it: 100 µs after that one (R455, R457). -/
def State.spaced (s : State) (tick : Nat) : Nat :=
  match s.snap.last with
  | some (l, _) => if l ≤ tick ∧ tick ≤ l + 125000 then l + 125000 else tick
  | none => tick

/-- The latch ticks that are scheduled, the next one of the snapshot period among them, unless it joins another (R455). -/
def State.scheduled (s : State) : List Latch :=
  let p := msFt (s.oget 0x9800 0x02)
  let d := s.liveDue
  let m := multipleFrom p s.ft
  if p = 0 ∨ (d.any fun x => nearLatch x.at_ m) ∨ s.spaced m ≠ m then d
  else insertDue { at_ := m, board := false, period := true } d

/-- A snapshot is requested for a latch tick (R455). A request within 100 µs of a board snapshot joins that one, scheduled or taken; what lies
within 100 µs of a board snapshot joins it. Any other request joins the scheduled snapshot that lies within 100 µs; one within 100 µs after a
latch tick that has been taken joins what is scheduled, or waits until the 100 µs are over. -/
def State.schedule (s : State) (tick : Nat) (board : Bool) : State :=
  let d := s.scheduled
  let put (due : List Latch) : State := { s with snap := { s.snap with due } }
  let at_ := s.spaced tick
  let taken : Bool := match s.snap.last with | some (l, b) => l == tick || (b && nearLatch l tick) | none => false
  if taken ∨ d.any fun x => x.board && nearLatch x.at_ tick then put d
  else if board then put (insertDue { at_, board := true, period := false } (d.filter fun x => !nearLatch x.at_ at_))
  else if (d.any fun x => nearLatch x.at_ tick) ∨ (at_ ≠ tick ∧ d ≠ []) then put d
  else put (insertDue { at_, board := false, period := false } d)

/-! ### Alignment (R163, R164) -/

/-- A tick moved with the fire timer. -/
def moveTick (d : Int) (t : Nat) : Nat := ((t : Int) + d).toNat
def moveOpt (d : Int) (t : Option Nat) : Option Nat := t.map (moveTick d)

/-- The ticks from which running intervals are counted, moved with the fire timer so that a step of it lengthens or shortens no
interval. -/
def Port.shift (d : Int) (p : Port) : Port :=
  { p with since := moveTick d p.since, lockSince := moveOpt d p.lockSince, tx := p.tx.map fun x => { x with free := moveTick d x.free },
           lastTime := moveOpt d p.lastTime, loss0 := p.loss0.map (moveTick d), loss1 := p.loss1.map (moveTick d),
           nodes := p.nodes.map fun n =>
             { n with lastStatus := moveOpt d n.lastStatus, farLostAt := moveOpt d n.farLostAt, farOkAt := moveOpt d n.farOkAt, echoAt := moveOpt d n.echoAt,
                      ctl := n.ctl.map fun c => { c with sentAt := moveTick d c.sentAt } } }
def Head.shift (d : Int) (x : Head) : Head :=
  { x with tempAt := moveOpt d x.tempAt, lastFull := moveTick d x.lastFull,
           scanBlk := x.scanBlk.map fun b => { b with ft := moveTick d b.ft },
           scanAhead := x.scanAhead.map fun b => { b with ft := moveTick d b.ft },
           rows := x.rows.map fun r =>
             { r with lastFire := moveTick d r.lastFire, lastEnd := moveTick d r.lastEnd,
                      mirror := r.mirror.map fun m => { m with fire := moveTick d m.fire } } }
def Chain.shift (d : Int) (x : Chain) : Chain :=
  { x with samples := x.samples.map fun y => { y with tick := moveTick d y.tick }, lastSample := moveOpt d x.lastSample,
           words := x.words.map fun w => (moveTick d w.1, w.2), rampFrom := moveTick d x.rampFrom, inrushFrom := moveOpt d x.inrushFrom, leakFrom := moveOpt d x.leakFrom,
           rsAt := moveTick d x.rsAt }
def Chan.shiftTicks (d : Int) (x : Chan) : Chan :=
  { x with badAt := if x.badAt = 0 then 0 else moveTick d x.badAt, startAt := moveTick d x.startAt,
           u1 := x.u1.map fun u => (u.1, moveTick d u.2), u2 := x.u2.map fun u => (u.1, moveTick d u.2),
           lastEdge := x.lastEdge.map fun e => (moveTick d e.1, e.2), sampleAt := moveTick d x.sampleAt,
           ampOkAt := moveTick d x.ampOkAt }
def Axis.shift (d : Int) (x : Axis) : Axis :=
  { x with segs := x.segs.map fun p => { p with t0 := moveTick d p.t0, turn := moveOpt d p.turn }, enAt := moveTick d x.enAt, retAt := moveTick d x.retAt,
           lastIn := moveOpt d x.lastIn }
def Zone.shift (d : Int) (x : Zone) : Zone :=
  { x with lapseAt := moveOpt d x.lapseAt, faultAt := moveTick d x.faultAt, setAt := moveOpt d x.setAt,
           trk := { x.trk with tLast := moveTick d x.trk.tLast, tGood := moveTick d x.trk.tGood,
                               held := x.trk.held.map fun h => (h.1, moveTick d h.2) },
           upd := x.upd.map fun u => { u with stamp := moveTick d u.stamp },
           trail := x.trail.map fun u => { u with stamp := moveTick d u.stamp } }
def Session.shift (d : Int) (x : Session) : Session :=
  { x with leaseEnd := if x.leaseEnd = 0 then 0 else moveTick d x.leaseEnd, ackFrom := moveOpt d x.ackFrom,
           unacked := x.unacked.map fun m => { m with sentAt := moveOpt d m.sentAt } }
def Engine.shift (d : Int) (x : Engine) : Engine :=
  { x with stops := x.stops.map (moveTick d), heldFrom := moveOpt d x.heldFrom, bypassAt := moveOpt d x.bypassAt }
def Sync.shift (d : Int) (x : Sync) : Sync :=
  { x with rx := x.rx.map fun r => r.map fun y => { y with at_ := moveTick d y.at_ }, phaseAt := moveTick d x.phaseAt }

/-- The fire timer is stepped by `d` ft (R164). -/
def State.stepTimer (s : State) (d : Int) : State :=
  { s with ft := moveTick d s.ft,
           ports := s.ports.map (Port.shift d), heads := s.heads.map (Head.shift d), chains := s.chains.map (Chain.shift d),
           chans := s.chans.map (Chan.shiftTicks d), axes := s.axes.map (Axis.shift d), zones := s.zones.map (Zone.shift d),
           sessions := s.sessions.map (Session.shift d), engines := s.engines.map (Engine.shift d), sync := s.sync.shift d,
           gates := s.gates.map fun g => { g with since := moveTick d g.since, minEnd := moveTick d g.minEnd },
           marks := s.marks.map fun m => { m with lastAt := moveTick d m.lastAt },
           shakes := s.shakes.map fun h => { h with at_ := moveTick d h.at_ },
           txs := s.txs.map fun x => { x with limitAt := moveTick d x.limitAt, leaseEnd := moveTick d x.leaseEnd,
                                              freedAt := moveTick d x.freedAt },
           hports := s.hports.map fun x => { x with echoes := x.echoes.map (moveTick d) },
           cans := s.cans.map fun c => { c with parts := c.parts.map fun p => { p with at_ := moveTick d p.at_ } },
           enc := s.enc.map fun e => { e with since := moveTick d e.since },
           lanes := s.lanes.map fun e => { e with since := moveTick d e.since },
           mem := { s.mem with lastAt := moveOpt d s.mem.lastAt, reqAt := moveTick d s.mem.reqAt },
           domains := s.domains.map fun e => { e with wakeAt := moveTick d e.wakeAt },
           power := { s.power with resetFrom := moveOpt d s.power.resetFrom, stepAt := moveTick d s.power.stepAt,
                                   poweredAt := moveTick d s.power.poweredAt, rtcFrom := moveOpt d s.power.rtcFrom },
           opAt := moveTick d s.opAt, calAt := moveTick d s.calAt }

def State.updSync (s : State) (f : Sync → Sync) : State := { s with sync := f s.sync }

/-- Round trip of a sync port from a frame that answers one of the block's own, and the one-way delay, to the nearest ft (R163). -/
def syncTrip (f : SyncFrame) (t4 : Nat) : Int := (t4 : Int) - f.echoFt - f.echoDwell
def syncDelay (f : SyncFrame) (t4 : Nat) : Nat := (roundR ((syncTrip f t4 : Rat) / 2)).toNat

/-- Twice the offset of board time from the own time, an integer: the one-way delay is half the round trip (R163). -/
def syncOffset2 (f : SyncFrame) (t4 : Nat) : Int := 2 * (f.txFt : Int) + syncTrip f t4 - 2 * (t4 : Int)

/-- The rate correction, in ppb, that drives the offset to 0 (R163): towards board time, by at most 200 ppm; how much is free
(notes/assumptions/19). -/
def steer (off2 : Int) (n : Nat) : Int :=
  let k : Int := ((Config.steerRate n).natAbs % 200001 : Nat)
  if 0 < off2 then k else if off2 < 0 then -k else clampI (Config.steerRate n) (-200000) 200000

/-- The sub-ft phase of the steered fire timer at a tick, 0 to 1 (R163). -/
def Sync.phaseAt_ (y : Sync) (now : Nat) : Rat :=
  let q := y.phase + (y.rate : Rat) * ((now - y.phaseAt : Nat) : Rat) / 1000000000
  q - (q.floor : Rat)

/-- The alignment of a controller at a board position above 0 on a valid frame on SY0 (R163, R164). A frame that echoes none of
the block's own gives no round trip. ALIGNED is lost on one frame with an offset beyond 1 ft (DESIGN CHOICE,
notes/assumptions/29). -/
def State.align (s : State) (f : SyncFrame) : State :=
  if f.echoFt = 0 then s
  else
    let off2 := syncOffset2 f s.ft
    let off := roundR ((off2 : Rat) / 2)
    let n := s.free
    let now := s.ft
    let s := { s with free := n + 1 }.updSync fun y =>
      { y with offset := off, rate := steer off2 n, phase := y.phaseAt_ now, phaseAt := now }
    if !s.sync.stepped then
      if s.allIdle then (s.stepTimer off).updSync fun y => { y with stepped := true, stepDue := false, align := 1, inTol := 0 }
      else s.updSync fun y => { y with stepDue := true, align := 1, inTol := 0 }
    else
      let good := decide (off2.natAbs ≤ 2)
      let run := if good then s.sync.inTol + 1 else 0
      let align := if 1000 ≤ run ∨ (s.sync.align = 2 ∧ good) then 2 else 1
      s.updSync fun y => { y with inTol := run, align, hops := min 15 (f.hops + 1) }

/-! ### Frames (R162, R166, R167) -/

/-- The channel that sources board position `j` here (0xA800 .07, .08). -/
def State.bpSource (s : State) (j : Fin 2) : Option (Fin 8) :=
  let v := s.oget 0xA800 (0x07 + j.val)
  if h : v < 8 then some ⟨v, h⟩ else none

/-- Board position `j` of a received frame. -/
def SyncRx.bp (r : SyncRx) (j : Fin 2) : Option (Int × Nat) := if j = 0 then r.bp0 else r.bp1

/-- Board position `j` as sent on port `p`: the own channel's latest edge, or what the other port received (R166). -/
def State.bpOut (s : State) (p j : Fin 2) : Option (Int × Nat) :=
  match s.bpSource j with
  | some c =>
    let x := s.chans[c]
    if x.state = .valid then
      let pos := pos48 (roundR ((x.count : Rat) * (s.cc c 0x03 : Rat) / (s.cc c 0x04 : Rat)))
      let age := match x.u1 with | some u => min 0xFFFF (s.ft - u.2) | none => 0xFFFF
      some (pos, age)
    else none
  | none =>
    match s.sync.rx[1 - p] with
    | some r => (r.bp j).map fun (q : Int × Nat) => (q.1, min 0xFFFF (q.2 + (s.ft - r.at_)))
    | none => none

/-- The frame that a port sends now (Table 5.4), with its CRC. -/
def State.syncFrame (s : State) (p : Fin 2) : SyncFrame :=
  let al := s.bpos == 0 || s.sync.align == 2
  let b0 := s.bpOut p 0
  let b1 := s.bpOut p 1
  let (echo, dwell) : Nat × Nat := match s.sync.rx[p] with | some r => (r.txFt, (s.ft - r.at_) % 2 ^ 32) | none => (0, 0)
  let snap := match s.sync.snap with | some t => if s.ft < t then some t else none | none => none
  SyncFrame.seal
    { srcPos := s.bpos, aligned := al, fault := s.sync.line, snap := snap.isSome, bp0Valid := b0.isSome,
      bp1Valid := b1.isSome, seq := s.sync.seq[p], hops := if s.bpos = 0 then 0 else if al then s.sync.hops else 15,
      txFt := s.ft, echoFt := echo, echoDwell := dwell, snapFt := snap.getD 0, bp0Pos := (b0.getD (0, 0)).1,
      bp0Age := (b0.getD (0, 0)).2, bp1Pos := (b1.getD (0, 0)).1, bp1Age := (b1.getD (0, 0)).2, rsv := 0, crc := 0 }

/-- SYNC_FRAME_SEND (R162). -/
def execSyncFrameSend (t : Nat) (p : Fin 2) (s : State) : Host.Outcome State Fault Refusal :=
  let s := s.begin t
  if s.sync.passive then .next s
  else
    .next ((s.emit (.sync p.val (s.syncFrame p).bytes)).updSync fun y => { y with seq := vupd y.seq p fun n => (n + 1) % 256 })

/-- The board position that a frame on a port must announce to continue the line (R34). -/
def State.neighbour (s : State) (p : Fin 2) : Option Nat :=
  if p = 0 then (if s.bpos = 0 then none else some (s.bpos - 1)) else if s.bpos = 7 then none else some (s.bpos + 1)

/-- A conflict of board position `j` (R166): received on both ports, or sourced here and received. -/
def State.bpClash (s : State) (j : Fin 2) : Bool :=
  let a := match s.sync.rx[(0 : Fin 2)] with | some r => (r.bp j).isSome | none => false
  let b := match s.sync.rx[(1 : Fin 2)] with | some r => (r.bp j).isSome | none => false
  (a && b) || ((a || b) && (s.bpSource j).isSome)

/-- Take board position `j` of the frame just received on port `p` (R166). -/
def State.takeBp (s : State) (p j : Fin 2) (valid : Bool) (pos : Int) (age tx : Nat) : State :=
  let clash := s.bpClash j
  let s :=
    if clash ∧ ¬ s.sync.bpConflict[j] then s.event 0x5812 (s.loc 11 (8 + p.val)) [(8, p.val), (8, j.val)] else s
  let s := s.updSync fun y => { y with bpConflict := vupd y.bpConflict j fun _ => clash }
  let old := s.sync.bp[j]
  if !valid then
    if old.port = p.val then s.updSync fun y => { y with bp := vupd y.bp j fun b => { b with valid := false } } else s
  else
    -- the pair as the sender has it; the link delay turns its stamp into the block's own time
    let sent : Int := (tx : Int) - age
    let fresh := decide (age ≠ 0xFFFF) && (!old.valid || old.pos != pos || old.stamp != sent || old.port != p.val)
    let stamp := (sent - s.sync.delays[p]).toNat
    let s := s.updSync fun y => { y with bp := vupd y.bp j fun b =>
      { valid := true, pos := if age = 0xFFFF then b.pos else pos, stamp := if fresh then sent else b.stamp, port := p.val } }
    if fresh && !clash && s.boardTime then
      ((fins 8).filter fun z => s.zc z 0x50 == 8 + j.val).foldl (fun s z => s.onCount z (pos : Rat) stamp) s
    else s

/-- A peer has been seen on SY0 (R35). -/
def State.sawPeer (s : State) (p : Fin 2) : State := if p = 0 then s.updSync fun y => { y with seen := true } else s

/-- The sync ports go passive (R34). -/
def State.goPassive (s : State) (p : Fin 2) (seen : Nat) : State :=
  let s := s.updSync fun y => { y with passive := true, align := 4, stepDue := false }
  (s.event 0x5812 (s.loc 11 (8 + p.val)) [(8, p.val), (8, seen)]).checkSources

/-- SYNC_FRAME_RECEIVE (R34, R162–R168). -/
def execSyncFrameReceive (t : Nat) (p : Fin 2) (f : SyncFrame) (s : State) : Host.Outcome State Fault Refusal :=
  let s := s.begin t
  if !f.ok then .next (s.updSync fun y => { y with discards := y.discards + 1 })
  else if s.sync.passive then .next (s.sawPeer p)
  else if s.neighbour p ≠ some f.srcPos then .next ((s.sawPeer p).goPassive p f.srcPos)
  else
    let s := s.sawPeer p
    let s := if f.echoFt = 0 then s else s.updSync fun y => { y with delays := vupd y.delays p fun _ => syncDelay f s.ft }
    let s := if p = 0 ∧ s.bpos ≠ 0 then s.align f else s
    let now := s.ft
    let rx : SyncRx :=
      { txFt := f.txFt, at_ := now, fault := f.fault, snap := f.snap, snapFt := f.snapFt,
        bp0 := if f.bp0Valid then some (f.bp0Pos, f.bp0Age) else none,
        bp1 := if f.bp1Valid then some (f.bp1Pos, f.bp1Age) else none }
    let s := s.updSync fun y => { y with rx := vupd y.rx p fun _ => some rx }
    let s :=
      if f.snap ∧ now < f.snapFt ∧ s.sync.snap ≠ some f.snapFt then
        (s.schedule f.snapFt true).updSync fun y => { y with snap := some f.snapFt }
      else s
    let s := s.takeBp p 0 f.bp0Valid f.bp0Pos f.bp0Age f.txFt
    let s := s.takeBp p 1 f.bp1Valid f.bp1Pos f.bp1Age f.txFt
    .next s.checkSources.updateLine

/-- FIRE_TIMER_STEP (R164). -/
def execFireTimerStep (t : Nat) (s : State) : Host.Outcome State Fault Refusal :=
  let s := s.begin t
  if s.sync.stepDue ∧ s.allIdle ∧ ¬ s.sync.passive then
    .next ((s.stepTimer s.sync.offset).updSync fun y => { y with stepDue := false, stepped := true, inTol := 0 })
  else .next s

/-- SYNC_HOLDOVER (R165): no valid frame on SY0 for 100 µs. -/
def execSyncHoldover (t : Nat) (s : State) : Host.Outcome State Fault Refusal :=
  let s := s.begin t
  let stopped := waited (s.sync.rx[(0 : Fin 2)].map (·.at_)) 125000 s.ft
  if s.bpos ≠ 0 ∧ stopped = true ∧ s.sync.align ≤ 2 then
    let s := s.updSync fun y =>
      { y with align := 3, inTol := 0, rx := vupd y.rx 0 fun r => r.map fun x => { x with bp0 := none, bp1 := none },
               bp := y.bp.map fun b => { b with valid := false } }
    .next (s.checkSources.updateLine)
  else .next s

/-- SYNC_STARTUP_END (R35). -/
def execSyncStartupEnd (t : Nat) (s : State) : Host.Outcome State Fault Refusal :=
  let s := s.begin t
  if !s.sync.startup then .next s
  else
    let s := s.updSync fun y => { y with startup := false }
    if s.bpos ≠ 0 ∧ ¬ s.sync.seen then
      .next ((s.updSync fun y => { y with late := true }).faultEvent 11 (s.loc 11 8) 0xA800 0x02 0 0)
    else .next s

/-- BOARD_FAULT_ASSERT (R168). -/
def execBoardFaultAssert (t : Nat) (k : Kop) (v : Nat) (s : State) : Host.Outcome State Fault Refusal :=
  .next ((s.begin t).write (.boardFaultAssert t k v) k 0xA800 0x09 v fun s _ =>
    (((s.oapply 0xA800 0x09 v).updSync fun y => { y with ownFault := v == 1 }).updateLine, 0))

end Sys2Proof.Machine
end

