-- ==== Sys2Proof/Machine/Sessions.lean ====
section
/-! DEFINITION. Host ports, precision time, handshakes, the end of a session, transfer acknowledgements and zone ownership
(chapter 12). -/

namespace Sys2Proof.Machine

/-! ### Precision time (R323, R324)

The manual takes the procedures of IEEE 1588 over by name; what stands here is PRESUMED from that standard. -/

/-- Fire-timer tick in ns. -/
def ftNs (t : Nat) : Int := (t : Int) * 4 / 5

/-- The active PTP port is the lowest-numbered one that is up and enabled for PTP; the logic enters LISTENING on a new one. -/
def State.selectPtp (s : State) : State :=
  let want := if s.oget 0x1F48 0x01 = 0 then none
    else (fins 4).find? fun p => s.hports[p].link == 1 && bitOf (s.oget 0x1F48 0x03) p.val
  if want.map (·.val) = s.ptp.port then s
  else { s with ptp := { s.ptp with port := want.map (·.val), state := if want.isSome then 1 else 0, grand := none, sync := none } }

/-- PTP time of the clock at a tick: that of the pair, carried on at its rate against the fire timer (R324). -/
def Ptp.at_ (x : Ptp) (t : Nat) : Int :=
  (x.pair.2 : Int) + (((t : Rat) - (x.pair.1 : Rat)) * 4 / 5 * (1 + x.rate)).floor

/-- The rate that a new pair gives, by the master's time since the last one. -/
def Ptp.rateTo (x : Ptp) (rx m : Nat) : Rat :=
  if x.synced = 0 ∨ rx ≤ x.pair.1 then x.rate else ((m : Rat) - x.pair.2) / (((rx : Rat) - x.pair.1) * 4 / 5) - 1

/-- A Sync message and its origin: the offset from the master, the rate, the pair, and the request for the path delay, end to end under
1588, of the peer under 802.1AS. -/
def State.ptpSync (s : State) (p : Fin 4) (rx origin : Nat) : State :=
  let x := s.ptp
  let m : Nat := origin + x.delay
  let s := { s with ptp := { x with offset := x.at_ rx - (m : Int), rate := x.rateTo rx m, pair := (rx, m), sync := none, synced := rx,
                                    state := if x.state = 2 then 3 else x.state } }
  (s.ethOut p 0).emit (.ptp p.val (if s.oget 0x1F48 0x01 = 2 then 2 else 1))

/-- Three announce intervals, of 2 s under 1588 and 1 s under 802.1AS: a master that has announced itself in none of them is no master
any more. -/
def State.ptpFresh (s : State) : State :=
  let x := s.ptp
  match x.grand with
  | some g =>
    if g.2.2 + secFt (if s.oget 0x1F48 0x01 = 2 then 3 else 6) ≤ s.ft then
      { s with ptp := { x with grand := none, sync := none, state := if x.state = 0 then 0 else 1 } }
    else s
  | none => s

/-- An announce message (R323): the better quality is the lower; the master in use is followed as it changes. -/
def State.ptpAnnounce (s : State) (m : PtpMsg) : State :=
  let x := s.ptp
  let now := s.ft
  let take := fun (state : Nat) =>
    { s with ptp := { x with grand := some (m.quality, m.master, now), utcOffset := m.utcOffset, utcValid := m.utcValid, state } }
  match x.grand with
  | none => take (if x.state = 1 then 2 else x.state)
  | some g =>
    if g.2.1 = m.master then take x.state
    else if m.quality < g.1 then take (if x.state = 3 then 2 else x.state)
    else s

/-- The path delay that a response gives: the mean of the two one-way times, by the clock's own time; under 802.1AS half the round trip
less the time that the other end took. -/
def State.ptpDelay (s : State) (m : PtpMsg) : Nat :=
  let x := s.ptp
  if s.oget 0x1F48 0x01 = 2 then ((ftNs m.arrival - ftNs m.rx - (m.turnNs : Int)) / 2).toNat
  else
    let there := ftNs x.pair.1 - ((x.pair.2 : Int) - x.delay)
    let back := (m.originNs : Int) - ftNs m.rx
    ((there + back) / 2).toNat

/-- PTP_MESSAGE (R323): `rx` is the time-stamp of the message; of a delay response, that of the request it answers. Sync messages and
their companions count from the master in use alone. A path-delay request is answered in two steps. -/
def execPtpMessage (t : Nat) (p : Fin 4) (m : PtpMsg) (s : State) : Host.Outcome State Fault Refusal :=
  let (ok, s) := (s.begin t).frameIn p.val true m.eth
  let s := s.ptpFresh
  let x := s.ptp
  let as_ := s.oget 0x1F48 0x01 == 2
  let domain := if as_ then 0 else s.oget 0x1F48 0x02
  let ours := (x.state == 2 || x.state == 3) && match x.grand with | some g => g.2.1 == m.master | none => false
  if !ok ∨ x.port ≠ some p.val ∨ m.domain ≠ domain then .next s
  else
    match m.kind with
    | 0 => .next (s.ptpAnnounce m)
    | 1 => if ours then .next (s.ptpSync p m.rx m.originNs) else .next s
    | 2 => if ours then .next { s with ptp := { x with sync := some (m.seqId, m.rx) } } else .next s
    | 3 =>
      match x.sync with
      | some (q, rx) => if q = m.seqId ∧ ours then .next (s.ptpSync p rx m.originNs) else .next s
      | none => .next s
    | 4 => if ours ∨ as_ then .next { s with ptp := { x with delay := s.ptpDelay m } } else .next s
    | 5 => if as_ then .next ((((s.ethOut p 0).emit (.ptp p.val 5)).ethOut p 0).emit (.ptp p.val 6)) else .next s
    | _ => .next s

/-! ### Ports (R321) -/

/-- The PCS holds what a link needs (R321): block lock and, with RS-FEC, alignment lock. -/
def State.pcsLocked (s : State) (x : PcsReport) : Bool := x.block && (!s.fecOn x.port || x.align)

/-- HOST_LINK_UP (R321): lock, and no fault signalled for 10 ms. Messages that waited while the link was down go out (R347). -/
def execHostLinkUp (t : Nat) (x : PcsReport) (s : State) : Host.Outcome State Fault Refusal :=
  let s := s.begin t
  let p := x.port
  if s.hports[p].link = 0 ∧ s.pcsLocked x ∧ msFt 10 ≤ x.quiet then
    let s := { s with hports := vupd s.hports p fun x => { x with link := 1 },
                      power := { s.power with pll := s.power.pll.set (16 + p.val) true } }
    .next ((fins 32).foldl (fun (s : State) i =>
      if s.sessions[i].isOpen ∧ s.sessions[i].port = p.val then s.flushTx i else s) s.selectPtp)
  else .next s

/-- HOST_LINK_DOWN (R321, R323, R347): no lock, or a fault signalled, for 1 ms. Messages wait from here on, since the path of their
session is down. -/
def execHostLinkDown (t : Nat) (x : PcsReport) (s : State) : Host.Outcome State Fault Refusal :=
  let s := s.begin t
  let p := x.port
  if s.hports[p].link = 1 ∧ (!s.pcsLocked x ∨ x.quiet = 0) ∧ msFt 1 ≤ x.failing then
    let s := { s with hports := vupd s.hports p fun x => { x with link := 0 } }
    .next s.selectPtp
  else .next s

/-! ### Outcomes that pass on (R333, R342) -/

/-- Outcome records of an OUTCOME message. -/
def outcomeRecs (m : TxMsg) : List Nat :=
  if m.kind = 0x1B then (List.range (fld m.body 0 8)).map fun k => fld m.body (32 + 320 * k) 320 else []

/-- Body of HELD after its transfer handle (R342). -/
def heldBody (z : Nat) (hs : List Nat) : Nat := packBits ([(3, z), (5, 0), (9, hs.length), (15, 0)] ++ hs.map fun h => (16, h))

/-- The session begins to act for the owner of a zone that holds outcomes: HELD names them (R342). A field network carries no
HELD (R364). -/
def State.sendHeld (s : State) (z : Fin 8) : State :=
  let hs := ((s.zoneItems z).filter fun it => it.held).map Item.handle ++ (s.heldOut.filter fun r => recZone r == z.val).map recHandle
  match s.actingSession z with
  | some i => if s.sessions[i].port < 4 ∧ hs ≠ [] then s.sendSeq i 0x1C (4 + 2 * hs.length) (heldBody z.val hs) [] z.val else s
  | none => s

/-- Outcome records that one message of a session may hold: at most 32 (R342), and a LENGTH of at most the MTU less 80 bytes (R325). -/
def State.outcomeRoom (s : State) (i : Fin 32) : Nat := min 32 ((s.oget (0x1F40 + s.sessions[i].port) 0x04 - 88) / 40)

/-- OUTCOME messages to a session (R342). -/
def State.sendOutcomes (s : State) (i : Fin 32) (z : Nat) (rs : List Nat) : State :=
  let room := s.outcomeRoom i
  (List.range (ceilDiv rs.length room)).foldl (fun (s : State) (k : Nat) =>
    let part := (rs.drop (room * k)).take room
    s.sendSeq i 0x1B (4 + 40 * part.length) (packBits ((32, part.length) :: part.map fun r => (320, r))) (part.map recHandle) z) s

/-- Hold outcomes (R64): in the ledger slots that still hold their items; of an item whose slot is free again, the record itself, which
its handle still names (DESIGN CHOICE, notes/assumptions/30). A record without a handle cannot be read. -/
def State.holdOutcomes (s : State) (rs : List Nat) : State :=
  rs.foldl (fun (s : State) (r : Nat) =>
    if (s.item? (recHandle r)).isSome then s.updItem (recHandle r) fun it => { it with held := true }
    else if recHandle r = 0xFFFF then s else { s with heldOut := s.heldOut ++ [r] }) s

/-- Records that an ended session has not acknowledged pass to the session that acts for their zone's owner, or are held
(R333, R64). -/
def State.passOutcomes (s : State) (rs : List Nat) : State :=
  (fins 8).foldl (fun (s : State) (z : Fin 8) =>
    let mine := rs.filter fun r => recZone r == z.val
    if mine.isEmpty then s
    else
      match s.actingSession z with
      | some i => if s.sessions[i].port < 4 then s.sendOutcomes i z.val mine else s.holdOutcomes mine
      | none => s.holdOutcomes mine) s

/-! ### The end of a transaction and of a session -/

/-- TXID of a slot (R371). -/
def State.txid (s : State) (y : Fin 8) : Nat :=
  let x := s.txs[y]
  if x.gen = 0 then 0 else y.val + 8 * x.sessIdx + 256 * x.gen

/-- NOTIFY (R360), if the session is open. -/
def State.notify (s : State) (y : Fin 8) (result : Nat) : State :=
  match s.sess? s.txs[y].sid with
  | some i =>
    s.sendRaw i 0x30 24 (packBits [(8, 0x89), (24, 0), (32, 0), (32, 0), (32, s.txid y), (8, 3), (8, 0), (16, 0), (32, result)])
  | none => s

/-- A transaction passes to DONE with a result (R377, R378): its staging is discarded, its locks are gone; NOTIFY follows
COMMITTING. -/
def State.endTx (s : State) (y : Fin 8) (result : Nat) : State :=
  let was := s.txs[y].state
  let s := s.updTx y fun x => { x with state := 3, result, staged := [], freedAt := s.ft, waitIdle := 0, waitItem := 0xFF }
  let s := if result = abConflict then { s with conflicts := s.conflicts + 1 } else s
  if was = 2 then s.notify y result else s

/-- Loads of a session that are still LOADING (R333, Table 3.4). -/
def State.dropLoads (s : State) (sid : Nat) : State :=
  let s := ((s.templates.filter fun a => a.st == .loading && a.sid == sid).map (·.idx)).foldl
    (fun (s : State) (i : Nat) => s.cancelLoad false i) s
  ((s.tiles.filter fun a => a.st == .loading && a.sid == sid).map (·.idx)).foldl
    (fun (s : State) (i : Nat) => s.cancelLoad true i) s

/-- Zones whose owner's J session has ended keep their owner for the hold time (R346). -/
def State.startHold (s : State) (host roles : Nat) : State :=
  (fins 8).foldl (fun (s : State) (z : Fin 8) =>
    if s.hostActs z host roles then
      let until_ := s.ft + msFt (s.zc z 0x7B)
      s.updZone z fun x => { x with lapseAt := some until_ }
    else s) s

/-- A session ends (R333): the slot is free; what is left is the outcome records that it has not acknowledged. The counts of the
slot stand. -/
def State.endSession (s : State) (i : Fin 32) (cause sess role : Nat) : State × List Nat :=
  let x := s.sessions[i]
  if x.isOpen then
    let sid := s.sid i
    let s := s.updSess i fun y => { Session.init with gen := y.gen, retx := y.retx, stale := y.stale }
    let s := { s with sessFree := s.sessFree ++ [i.val], waiting := s.waiting.filter fun w => w.sess != i, cocoon := { s.cocoon with wrapped := sdel s.cocoon.wrapped i.val } }
    let s := s.dropLoads sid
    let s := (fins 8).foldl (fun (s : State) (y : Fin 8) =>
      if s.txs[y].state = 1 ∧ s.txs[y].sid = sid then s.endTx y abSessEnded else s) s
    let s := s.startHold x.hostId x.roles
    (s.eventBy sess role 0x2015 (evClass 0x2015).2 (s.loc 4 0) [(32, sid), (8, cause), (64, x.hostId)],
     x.unacked.flatMap outcomeRecs)
  else (s, [])

/-- A session ends, and its outcome records pass on. -/
def State.closeSession (s : State) (i : Fin 32) (cause sess role : Nat) : State :=
  let (s, rs) := s.endSession i cause sess role
  s.passOutcomes rs

/-! ### Handshakes (R328–R331, R435, R436) -/

/-- Send a message outside any session. -/
def State.sendPath (s : State) (path : Path) (kind len body : Nat) : State := s.post path.port path.addr kind 0 0 0 len body

/-- REFUSE, counted. -/
def State.refuse (s : State) (path : Path) (hid reason : Nat) : State :=
  { s with refusals := s.refusals + 1 }.sendPath path 4 8 (packBits [(32, hid), (8, reason), (24, 0)])

/-- HELLO meets Table 12.5, and its certificate Table 16.8 (R435). -/
def helloForm (m : HelloMsg) : Bool :=
  m.certLen == 160 && m.bytes.length == 0x3C + m.certLen && m.rsv == 0 && (m.leaseMs == 0 || 200 ≤ m.leaseMs && m.leaseMs ≤ 60000) &&
  (m.window == 0 || 32 ≤ m.window && m.window ≤ 2048) && certForm m.cert

/-- BLANK and RETIRED accept provisioning certificates only (Table 16.1). -/
def State.provisioningOnly (s : State) : Bool := s.lifeCycle == 0 || s.lifeCycle == 4

/-- Roles that the life-cycle state lets be granted (Table 16.1). -/
def State.grantable (s : State) : Nat := if s.lifeCycle = 0 then 17 else if s.lifeCycle = 4 then 1 else 31

/-- The key that an issuer's certificates are signed with (Table 16.8). -/
def State.issuerKey (s : State) (issuer : Nat) : Nat := if issuer = 1 then Config.provisioningKey else s.cocoon.owner.getD 0

/-- The certificate is accepted (R436). -/
def State.certOk (s : State) (c : Nat) : Bool :=
  let held := s.cocoon.owner.isSome
  let now := s.calNow / 65536
  (if certIssuer c = 1 then !held else held && !s.provisioningOnly) &&
  (certSerial c == 0 || certSerial c == s.serial) && (certIssuer c == 1 || s.cocoon.minEpoch ≤ certEpoch c) &&
  (!s.calValid || (certNotBefore c ≤ now && (certNotAfter c == 0 || now ≤ certNotAfter c))) &&
  edVerify (s.issuerKey (certIssuer c)) (certSig c) (leBytes 0x60 c)

/-- Roles requested and certified; a provisioning certificate certifies at most V and K (R436). -/
def helloRoles (m : HelloMsg) : Nat := m.roles &&& certRoles m.cert &&& (if certIssuer m.cert = 1 then 17 else 31)

/-- A handshake number that no pending handshake has; which one is open. -/
def State.newHid (s : State) : Nat :=
  let c := Config.random s.free % 4294967295
  (((List.range 9).map fun k => (c + k) % 4294967295 + 1).find? fun h => s.shakes.all fun x => x.hid != h).getD (c + 1)

/-- The bytes of CHALLENGE before DEV_PROOF, and all of it (Table 12.5, R437). -/
def challengeHead (hid eph nonce serial : Nat) : Bytes :=
  leBytes 0x3C (packBits [(32, hid), (256, x25519Public eph), (128, nonce), (64, serial)])
def challenge (hid eph nonce serial : Nat) (hello : Bytes) : Bytes :=
  let head := challengeHead hid eph nonce serial
  head ++ leBytes 32 (edPublic Config.deviceKey) ++ leBytes 64 (edSign Config.deviceKey (hello ++ head))

/-- K1 serves handshakes: it runs, and the session master secret has been drawn, which it is not while a tamper source holds the cocoon
cells cleared (R427, R432; DEDUCED, notes/assumptions/34). -/
def State.handshakes (s : State) : Bool := s.running 1 && s.tamper.active == 0

/-- HELLO (R328, R436): REFUSE, or CHALLENGE and a pending handshake. A shared secret of all zeros is malformed. -/
def execHello (t : Nat) (src : Sender) (m : HelloMsg) (s : State) : Host.Outcome State Fault Refusal :=
  let path := src.path
  let (ok, s) := (s.begin t).frameIn path.port false src.eth
  if !ok then .next s
  else if !src.form 1 m.bytes.length (s.oget (0x1F40 + path.port) 0x04) then .next { s with malformed := s.malformed + 1 }
  else if !s.handshakes then .next s
  else if 8 ≤ s.shakes.length then .next (s.refuse path 0 5)
  else if !helloForm m ∨ x25519 (Config.random (s.free + 1)) m.hostEph = 0 then .next (s.refuse path 0 1)
  else if !s.certOk m.cert then .next (s.refuse path 0 2)
  else if helloRoles m = 0 then .next (s.refuse path 0 3)
  else if helloRoles m &&& s.grantable = 0 then .next (s.refuse path 0 7)
  else
    let hid := s.newHid
    let n := s.free
    let eph := Config.random (n + 1)
    let chal := challenge hid eph (Config.random (n + 2)) s.serial m.bytes
    let hs : Handshake :=
      { hid, path, roles := helloRoles m &&& s.grantable, leaseMs := if m.leaseMs = 0 then s.oget 0x1F00 0x02 else m.leaseMs,
        window := if m.window = 0 then s.oget 0x1F00 0x03 else m.window, hostId := certHostId m.cert, prov := certIssuer m.cert == 1, at_ := s.ft,
        hello := m.bytes, chal, key := certHostKey m.cert, eph }
    .next ({ s with shakes := s.shakes ++ [hs], free := n + 3 }.sendPath path 2 156 (ofBytes chal))

/-- Open a session on an index (R330, R438): its generation, its keys, wrapped in the cocoon. -/
def State.openSession (s : State) (i : Fin 32) (path : Path) (hs : Handshake) : State :=
  let g := (s.sessions[i].gen + 1) % 2 ^ 27
  let g := if i.val = 0 ∧ g = 0 then 1 else g
  let h := ofBytes hs.hello
  let keyOf := sessionKey (x25519 hs.eph (byteSlice h 0x0C 32)) (byteSlice h 0x2C 16) (byteSlice (ofBytes hs.chal) 0x24 16) (i.val + 32 * g)
  let keyIn := keyOf false
  let keyOut := keyOf true
  let s := s.updSess i fun x =>
    { Session.init with isOpen := true, gen := g, hostId := hs.hostId, roles := hs.roles, leaseMs := hs.leaseMs,
                        leaseEnd := s.ft + msFt hs.leaseMs, window := hs.window, port := path.port, addr := path.addr,
                        txCredit := hs.window - 16, retx := x.retx, stale := x.stale, keyIn, keyOut, prov := hs.prov }
  { s with sessFree := s.sessFree.filter (fun k => k ≠ i.val),
           cocoon := { s.cocoon with wrapped := sset 0 s.cocoon.wrapped i.val (Config.wrapped s.cocoon.secret (keyIn + 2 ^ 256 * keyOut)) } }

/-- Zones for whose owner a session acts, as a mask (Table 12.5). -/
def State.actsFor (s : State) (i : Fin 32) : Nat :=
  (fins 8).foldl (fun a z => a + (if s.hostActs z s.sessions[i].hostId s.sessions[i].roles then 2 ^ z.val else 0)) 0

/-- The session begins to act for its host's zones: no lapse is due, and outcomes held are named to it (R342, R346). -/
def State.beginActing (s : State) (i : Fin 32) : State :=
  (fins 8).foldl (fun (s : State) (z : Fin 8) =>
    if s.hostActs z s.sessions[i].hostId s.sessions[i].roles then
      (s.updZone z fun x => { x with lapseAt := none }).sendHeld z
    else s) s

/-- ACCEPT (Table 12.5), with SEQ 0. -/
def State.accept (s : State) (i : Fin 32) (superseded : Nat) : State :=
  let x := s.sessions[i]
  s.post x.port x.addr 5 x.keyOut (s.sid i) 0 28
    (packBits [(32, s.sid i), (5, x.roles), (27, 0), (32, x.leaseMs), (16, x.window), (16, 0), (64, x.hostId),
               (8, s.actsFor i), (8, superseded), (16, 0)])

/-- The older J session of a host whose handshake grants J again (R331). -/
def State.older (s : State) (hs : Handshake) : Option (Fin 32) :=
  if bitOf hs.roles 2 then
    (fins 32).find? fun i => s.sessions[i].isOpen && s.sessions[i].hostId == hs.hostId && bitOf s.sessions[i].roles 2
  else none

/-- Step 4 of Table 12.4 with a good signature. -/
def State.finishShake (s : State) (path : Path) (hs : Handshake) : State :=
  let old := s.older hs
  let r := match old with | some j => s.endSession j 3 0 0 | none => (s, [])
  match r.1.sessFree.head? with
  | none => (r.1.refuse path hs.hid 4).passOutcomes r.2
  | some k =>
    let i : Fin 32 := Fin.ofNat 32 k
    let s := (r.1.openSession i path hs).accept i (match old with | some j => j.val | none => 0xFF)
    (s.passOutcomes r.2).beginActing i

/-- On a field network a handshake keeps to its controller and HOST number (R368). -/
def samePath (a b : Path) : Bool := (a.port < 4 && b.port < 4) || a == b

/-- PROOF (R328–R331): signed by the certificate's key over the HELLO body and the CHALLENGE body (R329). -/
def execProof (t : Nat) (src : Sender) (hid : Nat) (sig : Nat) (s : State) : Host.Outcome State Fault Refusal :=
  let path := src.path
  let (ok, s) := (s.begin t).frameIn path.port false src.eth
  if !ok then .next s
  else if !src.form 3 68 (s.oget (0x1F40 + path.port) 0x04) then .next { s with malformed := s.malformed + 1 }
  else if !s.handshakes then .next s
  else
    match s.shakes.find? fun h => h.hid == hid && samePath h.path path with
    | none => .next s
    | some hs =>
      let s := { s with shakes := s.shakes.filter fun h => h.hid ≠ hid }
      if hs.at_ + msFt 500 < s.ft then .next s
      else if !edVerify hs.key sig (hs.hello ++ hs.chal) then .next (s.refuse path hid 6)
      else .next (s.finishShake path hs)

/-- HANDSHAKE_TIMEOUT (R328). -/
def execHandshakeTimeout (t : Nat) (hid : Nat) (s : State) : Host.Outcome State Fault Refusal :=
  let s := s.begin t
  .next { s with shakes := s.shakes.filter fun h => !(h.hid == hid && decide (h.at_ + msFt 500 < s.ft)) }

/-! ### Messages of a session (R329, R332, R333) -/

/-- HEARTBEAT (R329): answered at once with the fire timer and the ms of lease left after this renewal. -/
def execHeartbeat (t : Nat) (dg : Dgram) (s : State) : Host.Outcome State Fault Refusal :=
  match (s.begin t).datagram (dg.of 6) with
  | (none, s) => .next s
  | (some i, s) => .next (s.sendRaw i 6 12 (packBits [(64, s.ft), (32, s.sessions[i].leaseMs)]))

/-- CLOSE (R333): no reply. -/
def execClose (t : Nat) (dg : Dgram) (s : State) : Host.Outcome State Fault Refusal :=
  match (s.begin t).datagram (dg.of 7) with
  | (none, s) => .next s
  | (some i, s) => .next (s.closeSession i 1 0 0)

/-- LEASE_EXPIRY (R332): lease timers stand still while K1 restarts. -/
def execLeaseExpiry (t : Nat) (sess : Fin 32) (s : State) : Host.Outcome State Fault Refusal :=
  let s := s.begin t
  if s.sessions[sess].isOpen ∧ s.running 1 ∧ s.sessions[sess].leaseEnd ≤ s.ft then .next (s.closeSession sess 2 0 0) else .next s

/-- SESSION_EVICT (Table 12.6): CLOSE is sent first. A free slot has no session to end. -/
def execSessionEvict (t : Nat) (k : Kop) (idx : Fin 32) (s : State) : Host.Outcome State Fault Refusal :=
  .next ((s.begin t).command (.sessionEvict t k idx) k (0x1F20 + idx.val) 0x08 1 fun s w =>
    if s.sessions[idx].isOpen then ((s.sendRaw idx 7 4 4).closeSession idx 4 w.sess.val w.role, .done) else (s, .done))

/-! ### Acknowledgement (R336–R338) -/

/-- The message number nearest to `base` that a 27-bit number stands for. -/
def nearNo (base n : Nat) : Int :=
  let d := ((n : Int) - (base : Int)) % 134217728
  if d < 67108864 then (base : Int) + d else (base : Int) + d - 134217728

/-- Retransmission time in ft (R338): 1 ms before a round trip is known, then by RFC 6298, clamped to 200 µs–100 ms. -/
def Session.rto (x : Session) : Rat :=
  match x.srtt with
  | some r => clampR (r + 4 * x.rttvar) 250000 125000000
  | none => 1250000

/-- Retransmission time of a message after its retransmissions so far. -/
def Session.rtoOf (x : Session) (m : TxMsg) : Rat := min 125000000 (x.rto * (2 ^ min m.tries 30 : Nat))

/-- One round-trip sample in ft (RFC 6298). -/
def Session.sample (x : Session) (r : Rat) : Session :=
  match x.srtt with
  | none => { x with srtt := some r, rttvar := r / 2 }
  | some a => { x with srtt := some (7 / 8 * a + r / 8), rttvar := 3 / 4 * x.rttvar + absR (a - r) / 4 }

/-- Send a message again. -/
def State.resend (s : State) (i : Fin 32) (m : TxMsg) (fast : Bool) : State :=
  let now := s.ft
  let s := s.updSess i fun x =>
    { x with retx := x.retx + 1,
             unacked := x.unacked.map fun y =>
               if y.n = m.n then { y with sentAt := some now, tries := y.tries + 1, fastAt := if fast then some now else y.fastAt }
               else y }
  s.sendSequenced i m

/-- A message that this ACK shows missing behind three later ones may be sent again at once (R338). -/
def Session.fastDue (x : Session) (got : List Nat) (now : Nat) (m : TxMsg) : Bool :=
  m.sentAt.isSome && decide (3 ≤ (got.filter fun n => m.n < n).length) &&
  match m.fastAt with
  | some f => decide ((f : Rat) + x.rtoOf m ≤ now)
  | none => true

/-- An acknowledgement taken into a session: numbers below `cum` and those of `got` are received (R337, R338). -/
def State.acknowledge (s : State) (i : Fin 32) (cum credit : Nat) (got : List Nat) : State :=
  let now := s.ft
  let acked := fun (m : TxMsg) => decide (m.n < cum) || got.contains m.n
  let s := s.updSess i fun x =>
    let y := (x.unacked.filter acked).foldl (fun (y : Session) (m : TxMsg) =>
      match m.sentAt with
      | some a => if m.tries = 0 then y.sample ((now : Rat) - a) else y
      | none => y) x
    { y with unacked := x.unacked.filter fun m => !acked m, txCum := cum, txCredit := credit }
  let x := s.sessions[i]
  let s := if s.pathUp x.port then
      (x.unacked.filter (x.fastDue got now)).foldl (fun (s : State) (m : TxMsg) => s.resend i m true) s
    else s
  s.flushTx i

/-- ACK (R337, R338). A number never sent, or a CUM below the one known, changes nothing. -/
def execAck (t : Nat) (dg : Dgram) (m : AckMsg) (s : State) : Host.Outcome State Fault Refusal :=
  match (s.begin t).datagram ((dg.of 0x10).only m.ok) with
  | (none, s) => .next s
  | (some i, s) =>
    let x := s.sessions[i]
    let cum := nearNo x.txCum m.cum
    if (x.txCum : Int) ≤ cum ∧ cum ≤ x.txNext then
      .next (s.acknowledge i cum.toNat m.credit ((m.sack.map fun n => (nearNo x.txCum n).toNat).filter fun n =>
        decide (cum.toNat < n) && decide (n < x.txNext)))
    else .next s

/-- Credit that the controller gives (R336, R337): W − 16, or less while a stream ring refuses the session's lines. -/
def Session.credit (x : Session) (exceed : Bool) (n : Nat) : Nat :=
  if x.ringFull ∨ exceed then Config.credit n % (x.window - 16) else x.window - 16

/-- Body of ACK (Table 12.7). -/
def ackBody (x : Session) (credit : Nat) : Nat :=
  packBits [(27, x.rxCum), (5, 0), (16, credit), (16, 0),
            (64, ((List.range 64).filter fun k => x.rxGot.contains (x.rxCum + 1 + k)).foldl (fun a k => a + 2 ^ k) 0)]

/-- ACK_SEND (R336): an acknowledgement that is due is sent. -/
def execAckSend (t : Nat) (sess : Fin 32) (s : State) : Host.Outcome State Fault Refusal :=
  let s := s.begin t
  let x := s.sessions[sess]
  if x.isOpen ∧ (0 < x.accepted ∨ x.ackNow) then
    let n := s.free
    let s := { s with free := n + 1 }.updSess sess fun y => { y with accepted := 0, ackFrom := none, ackNow := false }
    .next (s.sendRaw sess 0x10 16 (ackBody x (x.credit s.writesExceed n)))
  else .next s

/-- RETRANSMIT (R338): not while the path is down (R347). -/
def execRetransmit (t : Nat) (sess : Fin 32) (n : Nat) (s : State) : Host.Outcome State Fault Refusal :=
  let s := s.begin t
  let x := s.sessions[sess]
  match x.unacked.find? fun m => m.n == n with
  | none => .next s
  | some m =>
    match m.sentAt with
    | none => .next (s.flushTx sess)
    | some a => if (a : Rat) + x.rtoOf m ≤ s.ft ∧ s.pathUp x.port then .next (s.resend sess m false) else .next s

/-! ### Ownership (R343–R346) -/

/-- Change the owner of a zone, with its event; the session that acts for the new owner learns of outcomes held. -/
def State.setOwner (s : State) (z : Fin 8) (owner : Option Nat) (sess role : Nat) : State :=
  let old := s.zones[z].owner
  if old = owner then s
  else
    let s := s.updZone z fun x => { x with owner, lapseAt := none }
    let s := s.eventBy sess role 0x2815 (evClass 0x2815).2 (s.loc 5 z.val)
      [(8, z.val), (64, old.getD 0), (64, owner.getD 0)]
    s.sendHeld z

/-- OWNERSHIP_CLAIM (R345). -/
def execOwnershipClaim (t : Nat) (k : Kop) (z : Fin 8) (s : State) : Host.Outcome State Fault Refusal :=
  .next ((s.begin t).command (.ownershipClaim t k z) k (zIdx z) 0x7A 1 fun s w =>
    let x := s.sessions[w.sess]
    if !bitOf x.roles 2 then (s, .refuse abRole)
    else
      match s.zones[z].owner with
      | none => (s.setOwner z (some x.hostId) w.sess.val 3, .done)
      | some h => if h = x.hostId then (s, .done) else (s, .refuse abNotOwner))

/-- OWNERSHIP_RELEASE (R345). -/
def execOwnershipRelease (t : Nat) (k : Kop) (z : Fin 8) (s : State) : Host.Outcome State Fault Refusal :=
  .next ((s.begin t).command (.ownershipRelease t k z) k (zIdx z) 0x7A 2 fun s w =>
    let x := s.sessions[w.sess]
    if bitOf x.roles 3 ∨ s.hostActs z x.hostId x.roles then (s.setOwner z none w.sess.val w.role, .done)
    else (s, .refuse abNotOwner))

/-- OWNERSHIP_TAKE (R345). -/
def execOwnershipTake (t : Nat) (k : Kop) (z : Fin 8) (s : State) : Host.Outcome State Fault Refusal :=
  .next ((s.begin t).command (.ownershipTake t k z) k (zIdx z) 0x7A 3 fun s w =>
    let x := s.sessions[w.sess]
    if bitOf x.roles 3 then (s.setOwner z (some x.hostId) w.sess.val 4, .done) else (s, .refuse abRole))

/-- OWNERSHIP_LAPSE (R346). -/
def execOwnershipLapse (t : Nat) (z : Fin 8) (s : State) : Host.Outcome State Fault Refusal :=
  let s := s.begin t
  match s.zones[z].lapseAt with
  | some u => if u ≤ s.ft then .next (s.setOwner z none 0 0) else .next s
  | none => .next s

end Sys2Proof.Machine
end

