-- ==== Sys2Proof/Machine/Memory.lean ====
section
/-! DEFINITION. Engines and their restarts, uncorrectable words, the transparent test and requested tests of the swept arrays
(chapter 15). -/

namespace Sys2Proof.Machine

/-! ### Engines (R24, R404–R407) -/

/-- Location code of an engine. -/
def State.engineLoc (s : State) (e : Fin 8) : Nat := s.loc 18 e.val

/-- What stops with the role of an engine (Table 1.4): pending handshakes, calibrations in progress. -/
def State.roleStops (s : State) (e : Fin 8) : State :=
  match e.val with
  | 1 =>
    -- a lease that has run out is renewed no more (R332)
    let now := s.ft
    { s with shakes := [], sessions := s.sessions.map fun x => { x with leaseEnd := if x.leaseEnd ≤ now then 0 else x.leaseEnd } }
  | 5 => (fins 16).foldl State.stopLaneRun ((fins 4).foldl State.abandonEnc s)
  | _ => s

/-- A stop within 10 s before tick `now`. -/
def recentStop (now t : Nat) : Bool := decide (now ≤ t + secFt 10)

/-- An engine stops (R406, R407): causes 1 watchdog, 2 invalid operation, 3 uncorrectable word. One that stops within 10 s of a
restart without patches is left in reset. -/
def State.stopEngine (s : State) (e : Fin 8) (cause : Nat) : State :=
  let x := s.engines[e]
  if x.state = 0 ∨ x.heldFrom.isSome then s
  else
    let now := s.ft
    let s := s.event 0x9016 (s.engineLoc e) [(8, e.val), (8, cause)]
    let halt := match x.bypassAt with | some b => recentStop now b | none => false
    let s := s.updEngine e fun y =>
      { y with state := if halt then 0 else 3, halted := halt, heldFrom := if halt then none else some now,
               stops := (now :: y.stops).filter (recentStop now) }
    let s := if halt then s.event 0x9015 (s.engineLoc e) [(8, e.val)] else s
    (s.dropAccesses e).roleStops e

/-- ENGINE_WATCHDOG (R406). -/
def execEngineWatchdog (t : Nat) (e : Fin 8) (s : State) : Host.Outcome State Fault Refusal :=
  .next ((s.begin t).stopEngine e 1)

/-- ENGINE_INVALID_OPERATION (R406). -/
def execEngineInvalidOperation (t : Nat) (e : Fin 8) (s : State) : Host.Outcome State Fault Refusal :=
  .next ((s.begin t).stopEngine e 2)

/-- ROM version of an engine's image. -/
def romOf (e : Fin 8) : Nat := Config.factory (objKey (0x7010 + e.val) 0x03) % 65536

/-- The image may be used by an engine that it names: its signature verifies, it is of the engine's ROM version (R405). -/
def patchUsable (x : PatchImage) (e : Fin 8) : Bool := x.sigOk && x.rom == romOf e && decide (x.len ≤ 524288)

/-- The images that name an engine, with their slots. -/
def State.patchesFor (s : State) (e : Fin 8) : List (Nat × PatchImage) :=
  (fins 2).filterMap fun k => s.patches[k].bind fun x => if bitOf x.mask e.val then some (k.val, x) else none

/-- An engine starts (R404, R405): of the images that name it, it runs the usable one with the highest version, from ROM alone if there
is none; each one that it cannot use is recorded. -/
def State.startFirmware (s : State) (e : Fin 8) : State :=
  let named := s.patchesFor e
  let best := ((named.filter fun p => patchUsable p.2 e).map fun p => p.2.version).foldl max 0
  let s := (named.filter fun p => !patchUsable p.2 e).foldl (fun (s : State) p => s.event 0x9013 (s.engineLoc e) [(8, p.1)]) s
  s.updEngine e fun y => { y with patch := best }

/-- What the verification of the two images finds at this start of an engine (R405). -/
def State.verifyPatches (s : State) (sig0 sig1 : Bool) : State :=
  { s with patches := Vector.ofFn fun (k : Fin 2) => s.patches[k].map fun x => { x with sigOk := if k = 0 then sig0 else sig1 } }

/-- ENGINE_RESTART (R406, R407): after 10 µs in reset the engine starts from ROM and the patch that it verifies; after three stops
within 10 s it ignores every patch until the next reset. Its scratchpad is cleared first. `sig0` and `sig1`: whether the signature of
the image in each slot verifies now. -/
def execEngineRestart (t : Nat) (e : Fin 8) (sig0 sig1 : Bool) (s : State) : Host.Outcome State Fault Refusal :=
  let s := s.begin t
  let x := s.engines[e]
  match x.heldFrom with
  | none => .next s
  | some f =>
    if s.ft < f + usFt 10 then .next s
    else
      let now := s.ft
      let s := (s.clearPad e).updEngine e fun y => { y with heldFrom := none, restarts := y.restarts + 1 }
      if x.bypassAt.isSome then .next s
      else if 3 ≤ x.stops.length then
        let s := s.updEngine e fun y => { y with bypassAt := some now, patch := 0 }
        .next (s.event 0x9014 (s.engineLoc e) [(8, e.val)])
      else .next ((s.verifyPatches sig0 sig1).startFirmware e)

/-- What an engine takes up again when it runs (Table 1.4, R47, R211, R303, R332). -/
def State.roleResumes (s : State) (e : Fin 8) : State :=
  let now := s.ft
  match e.val with
  | 1 =>
    { s with sessions := s.sessions.map fun x => { x with leaseEnd := if x.isOpen ∧ x.leaseEnd ≠ 0 then now + msFt x.leaseMs else x.leaseEnd } }
  | 2 => s.offerKept
  | 5 => (fins 4).foldl (fun (s : State) (c : Fin 4) => s.startEnc (encChan c)) s
  | 6 =>
    let s := { s with ports := s.ports.map fun p =>
        { p with nodes := p.nodes.map fun n => { n with ctl := n.ctl.map fun c => { c with sentAt := now } } } }
    (fins 16).foldl (fun s c => (fins 9).foldl (fun s a => s.sendCtl c a) s) s
  | _ => s

/-- ENGINE_RUNNING (R406). -/
def execEngineRunning (t : Nat) (e : Fin 8) (s : State) : Host.Outcome State Fault Refusal :=
  let s := s.begin t
  let x := s.engines[e]
  if (x.state = 1 ∨ x.state = 3) ∧ x.heldFrom.isNone then
    .next ((s.updEngine e fun y => { y with state := 2 }).roleResumes e)
  else .next s

/-! ### Uncorrectable words (R415) -/

/-- Location code of a word of an array: ES and CP in subsystem 18, LB in subsystem 10 (Table 15.1). -/
def State.arrayLoc (s : State) (array inst macro_ row column : Nat) : Nat :=
  match array with
  | 0 => locOf s.bpos 0 18 inst 1 macro_ row column
  | 1 => locOf s.bpos 0 18 (8 + inst) 1 macro_ row column
  | _ => locOf s.bpos 0 10 inst 2 macro_ row column

/-- A row-line read from the line store is not complete (R22, R415): its item is spoiled with SPOILED_BERM. -/
def State.lostWord (s : State) (h : Fin 64) (r : Fin 4) (loc : Nat) : State :=
  match s.zoneOfHead h with
  | none => s
  | some z =>
    match s.nextBuild z h r with
    | none => s
    | some (it, l) =>
      let s := s.updRow h r fun x => { x with ring := x.ring.filter fun q => !(q.handle == it.handle && q.line == l) }
      (s.spoil it.handle 9 loc (some l) 0 0).settle z

/-- The hardware clients of the common pool, from reader 8. -/
def hwClients : List Client := [.fireUnit, .ledger, .snapshotUnit, .eventBuffer]

/-- UNCORRECTABLE_WORD (R415): counted and recorded; the engine that reads it, or that started the transfer, stops; a hardware client
drops the operation and counts it. -/
def execUncorrectableWord (t : Nat) (w : MemWord) (s : State) : Host.Outcome State Fault Refusal :=
  let s := s.begin t
  let a : Fin 3 := Fin.ofNat 3 w.array
  let loc := s.arrayLoc a.val w.inst w.macro_ w.row w.column
  let s := { s with mem := { s.mem with uncorr := vupd s.mem.uncorr a (· + 1) } }
  let s := s.event 0xA012 loc [(8, a.val)]
  if a.val = 2 then .next (s.lostWord (Fin.ofNat 64 (w.reader / 4)) (Fin.ofNat 4 w.reader) loc)
  else if h : w.reader < 8 then .next (s.stopEngine ⟨w.reader, h⟩ 3)
  else
    let k : Fin 4 := Fin.ofNat 4 w.reader
    .next { s.dropOperation (hwClients.getD k.val .fireUnit) with mem := { s.mem with dropped := vupd s.mem.dropped k (· + 1) } }

/-! ### The transparent test (R416–R423) -/

/-- Array, instance and macro of a macro number counted over all arrays (Tables 15.1, 15.2). -/
def macroOf (g : Nat) : Nat × Nat × Nat :=
  if g < 256 then (0, g / 32, g % 32) else if g < 512 then (1, (g - 256) / 64, g % 64) else (2, (g - 512) / 48, (g - 512) % 48)

/-- Regions of the sweep (R416), and spare rows over all macros. -/
def regionCount : Nat := 20480
def spareRows : Nat := 5120

/-- Macro of a region, counted over all arrays, and its first row (R416). -/
def regionMacro (r : Nat) : Nat := r / 16
def regionRow (r : Nat) : Nat := 32 * r % 512

/-- A faulty row of a region: remapped to a free spare row of its macro, or left in use and recorded (R419, R420). -/
def State.repairRow (s : State) (region : Nat) (f : RowFault) : State :=
  let g := regionMacro region
  let (a, i, m) := macroOf g
  let loc := s.arrayLoc a i m f.row f.column
  let x := s.mem
  let used := sget 0 x.used g
  if regionRow region ≤ f.row ∧ f.row < regionRow region + 32 then
    if used < 4 then
      { s with arrays := { s.arrays with remap := sset 0 s.arrays.remap (g * 512 + f.row) (used + 1) },
               mem := { x with used := sset 0 x.used g (used + 1), found := x.found + 1, repaired := x.repaired + 1, lastLoc := loc } }.event 0xA010 loc [(8, f.count)]
    else
      { s with mem := { x with found := x.found + 1, unrepaired := x.unrepaired + 1,
                               lastLoc := loc } }.event 0xA011 loc [(8, f.count)]
  else s

/-- March C− at one cell, on a background `b`: (true, v) writes v, (false, v) reads and expects v. -/
def marchSteps (b : Bool) : List (Bool × Bool) :=
  [(true, b), (false, b), (true, !b), (false, !b), (true, b), (false, b), (true, !b), (false, !b), (true, b), (false, b)]

/-- What a failing cell holds after a write of `v` over `old`. -/
def cellWrite (k : CellKind) (old v : Bool) : Bool :=
  match k with
  | .stuck x => x
  | .noRise => old && v
  | .noFall => old || v
  | .disturbed => !v

/-- A cell that holds `c` shows a mismatch. -/
def marchFinds (k : CellKind) : Bool → List (Bool × Bool) → Bool
  | _, [] => false
  | c, (true, v) :: rest => marchFinds k (cellWrite k c v) rest
  | c, (false, v) :: rest => c != v || marchFinds k c rest

/-- A cell shows a mismatch with a solid and then an alternating background (R417); check columns are tested as the others. The background
alternates by columns, and a cell holds 0 at first (DESIGN CHOICE, notes/assumptions/32). -/
def cellFound (f : CellFault) : Bool :=
  marchFinds f.kind false (marchSteps false) || marchFinds f.kind false (marchSteps (f.column % 2 == 1))

/-- What the test of a region logs (Table 15.3, step 3): of every row with a mismatch the lowest faulty column and the number of them. -/
def faultyRows (r : Nat) (fs : List CellFault) : List RowFault :=
  (List.range 32).filterMap fun i =>
    let row := regionRow r + i
    let cols := ((fs.filter fun f => f.row == row && cellFound f).map (·.column)).eraseDups
    match cols with
    | [] => none
    | c :: cs => some { row, column := cs.foldl min c, count := (c :: cs).length }

/-- The faulty rows of a region are repaired (R419, R420). -/
def State.repairRegion (s : State) (r : Nat) (fs : List CellFault) : State := (faultyRows r fs).foldl (fun s f => s.repairRow r f) s

/-- The destructive test of arrays (R421): the faulty cells that it finds, each with its region; and of the buffers of the subsystems, whose
faults are recorded as those that cannot be repaired (R420). -/
def State.testArrays (s : State) (found : List (Nat × CellFault)) (buffers : List BufFault) : State :=
  let s := ((found.map (·.1)).eraseDups).foldl (fun (s : State) r => s.repairRegion r ((found.filter fun f => f.1 == r).map (·.2))) s
  buffers.foldl (fun (s : State) b =>
    let loc := locOf s.bpos 0 b.sub b.slice b.block 1023 b.row b.column
    { s with mem := { s.mem with found := s.mem.found + 1, unrepaired := s.mem.unrepaired + 1, lastLoc := loc } }.event 0xA011 loc [(8, b.count)]) s

/-- A region is locked and copied to the shadow, and is then under test (R417). -/
def State.lockRegion (s : State) (r : Nat) (requested : Bool) : State :=
  { s with arrays := s.arrays.lock r, mem := { s.mem with under := some (r, requested) } }

/-- Spare rows left (0x7000.08). -/
def MemTest.spares (x : MemTest) : Nat := spareRows - (x.used.map fun e => e.2).foldl (· + ·) 0

/-- REGION_TEST_START (R417, R422): the next region of the sweep, at the interval, while no requested test holds the shadow. -/
def execRegionTestStart (t : Nat) (s : State) : Host.Outcome State Fault Refusal :=
  let s := s.begin t
  let x := s.mem
  if s.running 7 ∧ s.oget 0x7000 0x01 = 1 ∧ ¬ x.shadowBad ∧ x.under.isNone ∧ x.req.isNone ∧
      periodic x.lastAt x.every s.ft then
    .next (State.lockRegion { s with mem := { x with lastAt := some s.ft, every := msFt (s.oget 0x7000 0x02) } } x.next false)
  else .next s

/-- REGION_TEST_COMPLETE (R417–R420), with the cells of the region that fail: the repairs are made, the shadow is written back, the region
is unlocked. Errors corrected as it was copied are counted (R415), those in words that no client has read among them: `singles` are their
numbers in the region. -/
def execRegionTestComplete (t : Nat) (faults : List CellFault) (singles : List Nat) (s : State) : Host.Outcome State Fault Refusal :=
  let s := s.begin t
  match s.mem.under with
  | none => .next s
  | some (r, requested) =>
    let a := regionArray r
    let hit := (regionWords r).filter fun w => s.arrays.weak.elem (wordKey a w) || singles.elem (w % 64)
    let s := s.repairRegion r faults
    let s := { s with arrays := { s.arrays.unlock r with single := vupd s.arrays.single (Fin.ofNat 28 a) (· + hit.length) } }
    let x := { s.mem with under := none }
    if requested then
      match x.req with
      | some (slot, []) =>
        let slot : Fin 16 := Fin.ofNat 16 slot
        .next ({ s with mem := { x with req := none } }.updReq slot fun q => { q with result := 3 })
      | _ => .next { s with mem := x }
    else
      let n := (r + 1) % regionCount
      .next { s with mem := { x with next := n, sweeps := if n = 0 then x.sweeps + 1 else x.sweeps } }

/-- MEMORY_TEST_REGION (R423): a requested test begins one region every 10 µs. -/
def execMemoryTestRegion (t : Nat) (s : State) : Host.Outcome State Fault Refusal :=
  let s := s.begin t
  let x := s.mem
  match x.req with
  | some (slot, r :: rest) =>
    if s.running 7 ∧ x.under.isNone ∧ x.reqAt + usFt 10 ≤ s.ft then
      .next (State.lockRegion { s with mem := { x with req := some (slot, rest), reqAt := s.ft } } r true)
    else .next s
  | _ => .next s

/-- TRANSPARENT_TEST_WRITE (R421, Table 14.7): a region under test is finished as usual. -/
def execTransparentTestWrite (t : Nat) (k : Kop) (v : Nat) (s : State) : Host.Outcome State Fault Refusal :=
  .next ((s.begin t).write (.transparentTestWrite t k v) k 0x7000 0x01 v fun s _ => (s.oapply 0x7000 0x01 v, 0))

/-- Regions of a target of a requested test (R423); none for a value that names no target. -/
def testRegions (target : Nat) : Option (List Nat) :=
  if target < 8 then some ((List.range 512).map (· + 512 * target))
  else if target < 12 then some ((List.range 1024).map (· + (4096 + 1024 * (target - 8))))
  else if 16 ≤ target ∧ target < 32 then some ((List.range 768).map (· + (8192 + 768 * (target - 16))))
  else if target = 0xFFFF then some (List.range regionCount)
  else none

/-- The window of a requested memory test is open (R423): a line-store bank waits for every zone with a partition in it. -/
def State.memWindow (s : State) (target : Nat) : Bool :=
  if target < 12 then true
  else if target = 0xFFFF then s.allIdle
  else (fins 64).all fun h =>
    s.heads[h].link.isNone || s.heads[h].bank != target - 16 || match s.zoneOfHead h with | some z => s.zoneIdle z | none => true

/-- A requested memory test starts if its window is open and no other holds the shadow (R317, R423). -/
def State.tryMemory (s : State) (slot : Fin 16) : State :=
  let q := s.reqs[slot]
  match testRegions q.target with
  | some rs =>
    if s.running 7 ∧ s.mem.req.isNone ∧ s.memWindow q.target then
      let s := s.updReq slot fun q => { q with result := 2 }
      { s with mem := { s.mem with req := some (slot.val, rs), reqAt := s.ft - usFt 10 } }
    else s
  | none => s

/-- REQUEST_MEMORY_TEST (R316, R423). -/
def execRequestMemoryTest (t : Nat) (k : Kop) (slot : Fin 16) (target deadline : Nat) (s : State) :
    Host.Outcome State Fault Refusal :=
  .next ((s.begin t).command (.requestMemoryTest t k slot target deadline) k (0x6010 + slot.val) 0x01 (reqValue 4 target deadline) fun s _ =>
    if s.reqBusy slot then (s, .refuse abWork)
    else if (testRegions target).isNone then (s.acceptReq slot 4 target deadline 4, .done)
    else ((s.acceptReq slot 4 target deadline 1).tryMemory slot, .done))

/-- REQUEST_WINDOW_CHECK (R317): the operation of a waiting request starts if its window is open. -/
def execRequestWindowCheck (t : Nat) (slot : Fin 16) (s : State) : Host.Outcome State Fault Refusal :=
  let s := s.begin t
  let q := s.reqs[slot]
  if q.result ≠ 1 then .next s
  else
    match q.kind with
    | 1 => .next (s.startEnc (Fin.ofNat 8 (q.target % 4)))
    | 2 => .next (s.tryLane (Fin.ofNat 16 (q.target / 16)) (q.target % 16))
    | 3 => .next (s.startScanBlock (Fin.ofNat 64 q.target))
    | 4 => .next (s.tryMemory slot)
    | _ => .next s

end Sys2Proof.Machine
end

