-- ==== Sys2Proof/Machine/Store.lean ====
section
/-! DEFINITION. The persistent store (R382–R387) and the beginning of a commanded reset (R465). -/

namespace Sys2Proof.Machine

/-- Location codes of the non-volatile store and of the recorder (Table 1.8). -/
def State.storeLoc (s : State) : Nat := s.loc 19 1
def State.recorderLoc (s : State) : Nat := s.loc 19 0

/-- An object of the persistent set (R382): RWS, and not a nozzle entry (R125). -/
def persistent (key : Nat) : Bool :=
  match objRow (key / 256) (key % 256) with
  | some r => r.acc == 4 && !(match objFam (key / 256) with | some (0x3000, _) => key % 256 == 0x4D | _ => false)
  | none => false

/-- Indices of the dictionary that hold RWS objects. -/
def objIndices : List Nat := (List.range 0xF000).filter fun i => (objFam i).isSome

/-- The persistent set with its values (R382): pending ones where the commit made one. -/
def State.persistentSet (s : State) : List (Nat × Nat) :=
  (objIndices.flatMap fun i => (List.range 256).filterMap fun sub => if persistent (objKey i sub) then some (objKey i sub) else none).map
    fun k => (k, (sfind s.restartObj k).getD (s.oget (k / 256) (k % 256)))

/-! ### Images (Table 13.14) -/

/-- Bytes of an entry. -/
def imageEntry (key v : Nat) : Bytes :=
  let n := match objRow (key / 256) (key % 256) with | some r => r.bytes | none => 0
  leBytes 8 (packBits [(16, key / 256), (8, key % 256), (8, 0), (16, n), (16, 0)]) ++ leBytes (8 * ceilDiv n 8) v

/-- Header of an image, and the trailer that agrees with it. -/
def imageHeader (count stepping : Nat) (body : Bytes) : Nat :=
  let h := packBits [(32, 0x53504B4E), (8, 1), (24, 0), (32, count), (32, body.length), (32, crc32c body), (16, stepping), (48, 0)]
  h + 2 ^ 224 * crc32c (leBytes 28 h)
def imageTrailer (header : Nat) : Nat :=
  let t := packBits [(32, 0x454E4F44), (32, fld header 64 32), (32, fld header 224 32), (128, 0)]
  t + 2 ^ 224 * crc32c (leBytes 28 t)

/-- SAVE_COUNT of a bank. -/
def Bank.count (b : Bank) : Nat := fld b.header 64 32

/-- MAGIC, FORMAT, both CRCs and the whole trailer agree (R383). -/
def Bank.valid (b : Bank) : Bool :=
  fld b.header 0 32 == 0x53504B4E && fld b.header 32 8 == 1 && fld b.header 224 32 == crc32c (leBytes 28 b.header) &&
  fld b.header 96 32 == b.body.length && fld b.header 128 32 == crc32c b.body && b.trailer == imageTrailer b.header

/-- The entries of a bank: key of the object, size, value. -/
def bodyEntries : Nat → Bytes → List (Nat × Nat × Nat)
  | 0, _ => []
  | n + 1, bs =>
    if bs.length < 8 then []
    else
      let h := ofBytes (bs.take 8)
      let size := fld h 32 16
      (objKey (fld h 0 16) (fld h 16 8), size, ofBytes ((bs.drop 8).take size)) :: bodyEntries n (bs.drop (8 + 8 * ceilDiv size 8))
def Bank.entries (b : Bank) : List (Nat × Nat × Nat) := bodyEntries (b.body.length / 8) b.body

/-- The image of a list of objects with their values. -/
def imageOf (count : Nat) (entries : List (Nat × Nat)) : Bank :=
  let body := entries.flatMap fun e => imageEntry e.1 e.2
  let header := imageHeader count (Config.factory (objKey 0x1000 0x03) % 65536) body
  { header, body, trailer := imageTrailer header }

/-- The bank that a save writes (R384): the one that is not active, A if neither is; 0 A, 1 B. -/
def State.saveTarget (s : State) : Fin 2 := if s.activeBank = 1 then 1 else 0

/-- SAVE_COUNT of the next image (Table 13.14). -/
def State.nextCount (s : State) : Nat :=
  ((((fins 2).filter fun b => s.banks[b].valid).map fun b => s.banks[b].count).foldl max 0 + 1) % 2 ^ 32

/-- A save begins (R384): the values are copied, the target is erased. -/
def State.beginSave (s : State) (entries : List (Nat × Nat)) (restart : Bool) : State :=
  let b := s.saveTarget
  { s with save := some { bank := b.val, count := s.nextCount, entries, restart },
           banks := vupd s.banks b fun _ => Bank.init, erases := vupd s.erases b (· + 1) }

/-- A bank is erased for an image (R426), as a save erases its target. -/
def State.eraseBank (s : State) (b : Fin 2) : State := { s with erases := vupd s.erases b (· + 1) }

/-- An image written and read back, its trailer last; its bank is the active one (R384). -/
def State.writeBank (s : State) (b : Fin 2) (count : Nat) (entries : List (Nat × Nat)) : State :=
  { s with banks := vupd s.banks b fun _ => imageOf count entries, activeBank := b.val + 1 }

/-- Both banks erased by the ERASE procedure (R426): a save under way is given up. -/
def State.eraseBanks (s : State) : State :=
  let s := if s.save.isSome then s.cmdEnd 0x1000 0x20 abStoreFailed else s
  let s := { s with save := none }
  let s := (s.eraseBank s.saveTarget).writeBank s.saveTarget s.nextCount []
  (s.eraseBank s.saveTarget).writeBank s.saveTarget s.nextCount []

/-- STORE_SAVE (R384). -/
def execStoreSave (t : Nat) (k : Kop) (s : State) : Host.Outcome State Fault Refusal :=
  .next ((s.begin t).command (.storeSave t k) k 0x1000 0x20 1 fun s _ =>
    if s.save.isSome then (s, .refuse abWork) else (s.beginSave s.persistentSet false, .running))

/-- STORE_SAVE_RESTART (R386): refused, before the save begins, unless every zone is idle. -/
def execStoreSaveRestart (t : Nat) (k : Kop) (s : State) : Host.Outcome State Fault Refusal :=
  .next ((s.begin t).command (.storeSaveRestart t k) k 0x1000 0x20 2 fun s _ =>
    if s.save.isSome ∨ ¬ s.allIdle then (s, .refuse abWork) else (s.beginSave s.persistentSet true, .running))

/-- STORE_ERASE (R386): the values in force do not change. -/
def execStoreErase (t : Nat) (k : Kop) (s : State) : Host.Outcome State Fault Refusal :=
  .next ((s.begin t).command (.storeErase t k) k 0x1000 0x20 3 fun s _ =>
    if s.save.isSome then (s, .refuse abWork) else (s.beginSave [] false, .running))

/-- Every chain is written OFF (R465, R426, R477). -/
def State.chainsOff (s : State) : State := (fins 16).foldl (fun s c => s.supplyOff c) s

/-- The commanded reset begins (R465): OFF is written to every chain; the reset follows when every VPH sense has fallen, or after
1 s. -/
def State.beginRestart (s : State) : State :=
  let now := s.ft
  let s := s.chainsOff
  { s with power := { s.power with resetFrom := some now } }

/-- SAVE_COMPLETE (R384, R386). -/
def execSaveComplete (t : Nat) (ok : Bool) (s : State) : Host.Outcome State Fault Refusal :=
  let s := s.begin t
  match s.save with
  | none => .next s
  | some v =>
    let b : Fin 2 := Fin.ofNat 2 v.bank
    let s := { s with save := none }
    if ok then
      let s := (s.writeBank b v.count v.entries).cmdEnd 0x1000 0x20 0
      .next (if v.restart then s.beginRestart else s)
    else .next ((s.cmdEnd 0x1000 0x20 abStoreFailed).event 0x9813 s.storeLoc [(8, b.val)])

/-- RESTART (R465, Table 14.12). -/
def execRestart (t : Nat) (k : Kop) (s : State) : Host.Outcome State Fault Refusal :=
  .next ((s.begin t).command (.restart t k) k 0xA000 0x04 1 fun s _ =>
    if s.allIdle then (s.beginRestart, .running) else (s, .refuse abWork))

end Sys2Proof.Machine
end

