-- ==== Sys2Proof/Machine/Trust.lean ====
section
/-! DEFINITION. Life cycle, cocoon, keys and tamper (chapter 16). -/

namespace Sys2Proof.Machine

/-- Location codes of the cocoon and of the tamper comparators (Table 1.8). -/
def State.cocoonLoc (s : State) : Nat := s.loc 4 1
def State.tamperLoc (s : State) : Nat := s.loc 4 2

/-- Every session ends (R434); the records that they have not acknowledged are held. -/
def State.endAll (s : State) (cause : Nat) : State :=
  let r := (fins 32).foldl (fun (a : State × List Nat) (i : Fin 32) =>
    let e := a.1.endSession i cause 0 0
    (e.1, a.2 ++ e.2)) (s, [])
  r.1.passOutcomes r.2

/-- A session master secret is drawn (R427), once no tamper source holds the cells cleared (R432). -/
def State.drawSecret (s : State) : State :=
  let n := s.free
  if s.tamper.active ≠ 0 then s else
  { s with free := n + 1, cocoon := { s.cocoon with secret := Config.random n } }

/-- The command object of a key load. -/
def keyLoadOf (c : Instr) : Option Nat :=
  match c with
  | .ownerKeyLoad .. => some 0x04
  | .headMakerListReplace .. | .headMakerListAdd .. | .headMakerListRemove .. => some 0x09
  | _ => none

/-- A key load that is being applied when the cocoon is wiped fails, with no response (R430). -/
def State.failLoads (s : State) : State :=
  s.waiting.foldl (fun (s : State) w => match keyLoadOf w.cmd with | some sub => s.cmdEnd 0x8000 sub abLifeCycle | none => s) s

/-- The cocoon is wiped (R431, R432, R434): causes of 0x8000.10. `stuck` are the rows of cells found not at zero. -/
def State.wipe (s : State) (cause : Nat) (stuck : List Nat) : State :=
  let time := s.calStamp
  let s := { s with cocoon := Cocoon.init,
                    tamper := { s.tamper with wipes := s.tamper.wipes + 1, cause, time } }.drawSecret.failLoads
  let s := stuck.foldl (fun s row => s.event 0x2011 s.cocoonLoc [(16, row)]) s
  (s.event 0x2010 s.tamperLoc [(16, s.tamper.latch), (8, cause), (48, time)]).endAll 5

/-- A tamper source trips (R431), and is active (R432) until it is found otherwise; a glitch is over when it is found (DESIGN CHOICE,
notes/assumptions/34). A source that is active already trips no second time. -/
def State.tamperTrip (s : State) (source : Fin 9) (stuck : List Nat) : State :=
  if bitOf s.tamper.active source.val then s
  else
    let active := if source.val < 7 then s.tamper.active ||| 2 ^ source.val else s.tamper.active
    { s with tamper := { s.tamper with latch := s.tamper.latch ||| 2 ^ source.val, active } }.wipe (source.val + 1) stuck

/-- The sources of a mask alone are active any more (R432): the cells are held cleared until none is, and the secret is then drawn. -/
def State.stillActive (s : State) (mask : Nat) : State :=
  let active := s.tamper.active &&& mask
  let s' := { s with tamper := { s.tamper with active } }
  if s.tamper.active ≠ 0 ∧ active = 0 then s'.drawSecret else s'

/-- A period of the reference of 5.4–7.4 ns (R431, R467). -/
def clockSteady (ps : Nat) : Bool := decide (5400 ≤ ps) && decide (ps ≤ 7400)

/-- What a source measures trips it (Table 16.7): 0–3 TMP0–TMP3 while armed at the active level, 4 mesh, 5 VBAT, 6 temperature,
7 clock glitch, 8 voltage glitch. -/
def State.trips (s : State) (source : Fin 9) (x : TamperSense) : Bool :=
  match x with
  | .level high =>
    decide (source.val < 4) && bitOf (s.oget 0x8000 0x0D) source.val && bitOf (s.oget 0x8000 0x0E) source.val != high
  | .mesh driven received whole => source.val == 4 && !(whole && driven == received)
  | .vbat mv => source.val == 5 && decide (mv < 1450)
  | .temp x => source.val == 6 && (decide (x < -500) || decide (1250 < x))
  | .refPeriod ps => source.val == 7 && !clockSteady ps
  | .rootPeriod p => source.val == 7 && (decide (p < 850) || decide (1150 < p))
  | .supply p => source.val == 8 && (decide (p < 880) || decide (1120 < p))

/-- TAMPER_DETECT (R431, R432): a source as it is found. -/
def execTamperDetect (t : Nat) (x : TamperReading) (stuck : List Nat) (s : State) : Host.Outcome State Fault Refusal :=
  let s := s.begin t
  if s.trips x.source x.sense then .next (s.tamperTrip x.source stuck) else .next (s.stillActive (511 - 2 ^ x.source.val))

/-- TAMPER_CLEAR (R432): the bits whose source is inactive at the write. -/
def execTamperClear (t : Nat) (k : Kop) (active : Nat) (s : State) : Host.Outcome State Fault Refusal :=
  .next ((s.begin t).command (.tamperClear t k active) k 0x8000 0x0C 1 fun s _ =>
    let s := s.stillActive active
    ({ s with tamper := { s.tamper with latch := s.tamper.latch &&& active } }, .done))

/-! ### Life cycle (R424–R426) -/

/-- Transitions that Table 16.1 permits. -/
def lcPermits (from_ to_ : Nat) : Bool :=
  match from_, to_ with
  | 0, 1 => true
  | 1, 2 => true | 1, 4 => true
  | 2, 3 => true | 2, 4 => true
  | 3, 2 => true | 3, 4 => true
  | _, _ => false

/-- The machine-owner key if the cocoon holds one, otherwise the Ndolon provisioning key (R425). -/
def State.ownerOrMaker (s : State) : Nat := s.cocoon.owner.getD Config.provisioningKey

/-- The checks of a life-cycle request in their order (R424, R425); 0 where it is accepted. -/
def State.lcCode (s : State) (r : LcReq) : Nat :=
  if !r.wf then abRange
  else if r.from_ ≠ s.lifeCycle ∨ ¬ lcPermits r.from_ r.to_ ∨ (r.to_ = 3 ∧ 64 ≤ s.toggles) then abLifeCycle
  else if r.serial ≠ s.serial ∨ r.toggles ≠ s.toggles ∨ ¬ edVerify s.ownerOrMaker (recordSig 256 r.body) (recordSigned 256 r.body) then abAuth
  else if r.to_ = 4 ∧ ¬ ((fins 8).all fun z => s.zones[z].state == .disabled && s.zoneIdle z) then abWork
  else 0


/-- The life-cycle state that the fuses give (R424). -/
def State.readFuses (s : State) : Nat :=
  if bitOf s.fuses 2 then 4
  else if bitOf s.fuses 1 then (if s.toggles % 2 = 0 then 2 else 3)
  else if bitOf s.fuses 0 then 1
  else 0

/-- The fuse of a transition is blown, and the state read from the fuses afresh (R424, R426). -/
def State.blowFuse (s : State) (from_ to_ : Nat) : State :=
  let s :=
    if to_ = 1 then { s with fuses := s.fuses ||| 1 }
    else if to_ = 4 then { s with fuses := s.fuses ||| 4 }
    else if from_ = 1 then { s with fuses := s.fuses ||| 2 }
    else { s with toggles := s.toggles + 1 }
  { s with lifeCycle := s.readFuses }

/-- Steps 3–5 of Table 16.3, of a transition that is pending. -/
def State.transition (s : State) : State :=
  match s.lcPending with
  | none => s
  | some r =>
    let p := [(8, r.from_), (8, r.to_), (8, r.toggles)]
    if r.fuseOk then
      let s := { s.blowFuse r.from_ r.to_ with lcPending := none }
      let s := s.eventBy r.sess 5 0x2012 (evClass 0x2012).2 (s.loc 4 0) p
      if r.to_ = 4 then s.chainsOff.eraseBanks else s
    else { s with lcPending := none }.event 0x2014 (s.loc 4 0) p

/-- LIFE_CYCLE_REQUEST (R425, R426): the transition is written as pending, the response sent, the cocoon wiped; its other steps follow by
themselves (State.tick; DESIGN CHOICE, notes/assumptions/34). -/
def execLifeCycleRequest (t : Nat) (k : Kop) (r : LcReq) (stuck : List Nat) (s : State) : Host.Outcome State Fault Refusal :=
  let s := (s.begin t).transition
  let s' := s.command (.lifeCycleRequest t k r stuck) k 0x8000 0x02 0 fun s w =>
    let code := s.lcCode r
    if code = 0 then
      ({ s with lcPending := some { from_ := r.from_, to_ := r.to_, toggles := r.toggles, fuseOk := r.fuseOk, sess := w.sess.val } }, .done)
    else (s, .refuse code)
  .next (if s.lcPending.isNone ∧ s'.lcPending.isSome then s'.wipe 10 stuck else s')

/-! ### Keys (R428–R430) -/

/-- A key record of `n` bytes is accepted under its serial, its sequence and its signature, while the tamper latch is clear
(R428–R430). -/
def State.keyAuth (s : State) (n body serial seq held key : Nat) : Bool :=
  s.tamper.latch == 0 && serial == s.serial && decide (held < seq) && edVerify key (recordSig n body) (recordSigned n body)

/-- A key load takes two steps (R430): it is refused, or accepted and reads RUNNING while it is applied; a wipe meanwhile undoes it (DESIGN
CHOICE, notes/assumptions/34). -/
def State.keyLoad (s : State) (c : Instr) (k : Kop) (sub : Nat) (act : State → Who → State × CmdRes) : State :=
  if s.resumed.isSome then s.command c k 0x8000 sub 0 act
  else
    match s.arrive c k with
    | (none, s) => s
    | (some w, s) =>
      if !k.names 2 0x8000 sub then s
      else if s.writeCode k 0x8000 sub w ≠ 0 then s.respond w (s.plainResp k (s.writeCode k 0x8000 sub w))
      else
        match (act s (s.whoFor 0x8000 sub w)).2 with
        | .refuse e => s.respond w (s.plainResp k e)
        | _ => (s.await c k w []).setStat 0x8000 sub { state := 1, code := 0 }

/-- OWNER_KEY_LOAD (R428): with no owner key held the record is signed by its own key, and comes only from a session opened with a
provisioning certificate. -/
def execOwnerKeyLoad (t : Nat) (k : Kop) (r : OwnerRec) (s : State) : Host.Outcome State Fault Refusal :=
  .next ((s.begin t).keyLoad (.ownerKeyLoad t k r) k 0x04 fun s w =>
    if !r.wf then (s, .refuse abRange)
    else if (s.cocoon.owner.isSome || s.sessions[w.sess].prov) &&
        s.keyAuth 256 r.body r.serial r.recordSeq s.cocoon.recordSeq (s.cocoon.owner.getD r.ownerKey) then
      ({ s with cocoon := { s.cocoon with owner := some r.ownerKey, minEpoch := r.minEpoch, recordSeq := r.recordSeq,
                                          clearance := if r.hasClearance then some r.clearanceKey else none } }, .done)
    else (s, .refuse abAuth))

/-- The checks of a head-maker list load of operation `op` (R429); 0 where it is accepted. -/
def State.listCode (s : State) (r : ListLoad) (op : Nat) : Nat :=
  match s.cocoon.owner with
  | none => abLifeCycle
  | some key =>
    if !r.wf op then abRange
    else if s.keyAuth 1024 r.body r.serial r.listSeq s.cocoon.listSeq key then 0
    else abAuth

/-- Store one entry: an entry of the same MAKER and KEY_ID takes the new key (R429). -/
def putKey (ks : List MakerKey) (e : MakerKey) : List MakerKey :=
  if ks.any fun x => x.maker == e.maker && x.keyId == e.keyId then
    ks.map fun x => if x.maker = e.maker ∧ x.keyId = e.keyId then e else x
  else ks ++ [e]

/-- Take an accepted list into the cocoon. -/
def State.setList (s : State) (r : ListLoad) (ks : List MakerKey) : State × CmdRes :=
  if 64 < ks.length then (s, .refuse abResource)
  else ({ s with cocoon := { s.cocoon with list := ks, listSeq := r.listSeq } }, .done)

/-- HEAD_MAKER_LIST_REPLACE (R429). -/
def execHeadMakerListReplace (t : Nat) (k : Kop) (r : ListLoad) (s : State) : Host.Outcome State Fault Refusal :=
  .next ((s.begin t).keyLoad (.headMakerListReplace t k r) k 0x09 fun s _ =>
    let code := s.listCode r 1
    if code ≠ 0 then (s, .refuse code) else s.setList r (r.entries.foldl putKey []))

/-- HEAD_MAKER_LIST_ADD (R429). -/
def execHeadMakerListAdd (t : Nat) (k : Kop) (r : ListLoad) (s : State) : Host.Outcome State Fault Refusal :=
  .next ((s.begin t).keyLoad (.headMakerListAdd t k r) k 0x09 fun s _ =>
    let code := s.listCode r 2
    if code ≠ 0 then (s, .refuse code)
    else s.setList r (r.entries.foldl putKey s.cocoon.list))

/-- HEAD_MAKER_LIST_REMOVE (R429): names not found are ignored; the key bytes must be 0. -/
def execHeadMakerListRemove (t : Nat) (k : Kop) (r : ListLoad) (s : State) : Host.Outcome State Fault Refusal :=
  .next ((s.begin t).keyLoad (.headMakerListRemove t k r) k 0x09 fun s _ =>
    let code := s.listCode r 3
    if code ≠ 0 then (s, .refuse code)
    else s.setList r (s.cocoon.list.filter fun x => !(r.entries.any fun e => e.maker == x.maker && e.keyId == x.keyId)))

/-- Cocoon state (R427, 0x8000.03): 0 EMPTY, 1 PARTIAL, 2 COMPLETE. -/
def Cocoon.code (c : Cocoon) : Nat := if c.owner.isNone then 0 else if c.clearance.isNone then 1 else 2

end Sys2Proof.Machine
end

