-- ==== Sys2Proof/Machine/Records.lean ====
section
/-! DEFINITION. Event recorder, calendar clock, counters and their snapshots (chapter 17). -/

namespace Sys2Proof.Machine

/-! ### The recorder (R441, R445–R448) -/

/-- A record as Table 17.1 lays it out, as one little-endian number of 64 bytes. -/
def Rec.word (r : Rec) : Nat :=
  let e := r.ev
  let w := packBits [(32, r.seq), (32, e.opSeconds), (32, e.powerCycles), (48, e.calendar), (16, e.code), (4, e.cls), (4, e.sev),
    (5, e.session), (3, e.role), (64, e.loc), (240, e.payload)]
  w + 2 ^ 480 * crc32c (leBytes 60 w)

/-- A sequence is held (R448). -/
def Recorder.find (x : Recorder) (seq : Nat) : Nat := match x.records.find? fun r => r.seq == seq with | some r => r.word | none => 0

/-- Records that stay once another is committed (R446): of 32,768, the newest CLEARED record stands first and is kept. -/
def keepRecords (rs : List Rec) : List Rec :=
  if rs.length < 32768 then rs else match rs with | r :: _ :: rest => r :: rest | rs => rs

/-- A record is written and read back (R447): one that does not read back is written again in the next slot, and leaves a slot whose CRC
fails. -/
def Recorder.write (x : Recorder) : Recorder :=
  if Config.slotFails x.writes then { x with writes := x.writes + 2, torn := x.torn + 1 } else { x with writes := x.writes + 1 }

/-- The check of the slots at start-up (R447): those whose CRC fails are discarded, numbering continues from the newest record. -/
def Recorder.checkSlots (x : Recorder) : Recorder :=
  { x with torn := 0, lastSeq := (x.records.getLast?.map (·.seq)).getD x.lastSeq }

/-- Commit a record: it takes the next sequence number (R445, R446). -/
def Recorder.commit (x : Recorder) (e : Event) : Recorder :=
  let x := x.write
  let seq := (x.lastSeq + 1) % 2 ^ 32
  { x with records := keepRecords x.records ++ [{ seq, ev := e }], lastSeq := seq,
           displaced := x.displaced + (if x.records.length < 32768 then 0 else 1) }

/-- Commit a CLEARED record: every record before it ceases to be held (R449). -/
def Recorder.commitClear (x : Recorder) (e : Event) : Recorder :=
  let x := x.write
  let seq := (x.lastSeq + 1) % 2 ^ 32
  { x with records := [{ seq, ev := e }], lastSeq := seq, clears := (x.clears + 1) % 2 ^ 32, clearing := none }

/-- The buffer has room again: the EVENTS_LOST record takes its place (R445). -/
def State.lostEvents (s : State) : State :=
  if s.lostRun = 0 then s
  else
    let s' := { s with lostRun := 0 }
    s'.event 0x9811 s.recorderLoc [(32, s.lostRun), (64, s.lostFirst), (64, s.lostLast)]

/-- Commit what stands first in the buffer. -/
def State.commitRecord (s : State) : State :=
  match s.recorder.clearing with
  | some e => { s with recorder := s.recorder.commitClear e }.cmdEnd 0x9000 0x07 0
  | none =>
    match s.events with
    | [] => s
    | e :: rest => { s with events := rest, recorder := s.recorder.commit e }.lostEvents

/-- RECORD_COMMIT (R445): while K7 runs. -/
def execRecordCommit (t : Nat) (s : State) : Host.Outcome State Fault Refusal :=
  let s := s.begin t
  if s.running 7 then .next s.commitRecord else .next s

/-- Oldest and newest sequence held. -/
def Recorder.oldest (x : Recorder) : Nat := (x.records.head?.map (·.seq)).getD 0
def Recorder.newest (x : Recorder) : Nat := (x.records.getLast?.map (·.seq)).getD 0

/-- A clearance token is accepted (R440). -/
def State.tokenOk (s : State) (tok : ClearTok) (host : Nat) : Bool :=
  tok.wf && s.cocoon.clearance.isSome && tok.serial == s.serial && tok.hostId == host && tok.clearCount == s.recorder.clears &&
  (tok.notAfter == 0 || (s.calValid && decide (s.calNow / 65536 ≤ tok.notAfter))) &&
  edVerify (s.cocoon.clearance.getD 0) (recordSig 256 tok.body) (recordSigned 256 tok.body)

/-- The CLEARED record of R449. -/
def State.clearedEvent (s : State) (host sess : Nat) : Event :=
  let x := s.recorder
  { tick := s.ft, opSeconds := s.opNow, powerCycles := s.powerCycles, calendar := s.calStamp, code := 0x9810, cls := 5, sev := 1,
    session := sess, role := 4, loc := s.recorderLoc,
    payload := packBits [(64, host), (32, x.oldest), (32, x.newest), (32, x.clears + 1), (32, x.records.length)] }

/-- RECORDER_CLEAR (R440, R449): the CLEARED record stands ahead of every buffered one. -/
def execRecorderClear (t : Nat) (k : Kop) (tok : ClearTok) (s : State) : Host.Outcome State Fault Refusal :=
  .next ((s.begin t).command (.recorderClear t k tok) k 0x9000 0x07 0 fun s w =>
    let host := s.sessions[w.sess].hostId
    if !s.tokenOk tok host then (s, .refuse abAuth)
    else if s.recorder.clearing.isSome ∨ ¬ s.running 7 then (s, .refuse abWork)
    else ({ s with recorder := { s.recorder with clearing := some (s.clearedEvent host w.sess.val) } }, .running))

/-- OPERATING_SECONDS_WRITE (R447): every 64 s. -/
def execOperatingSecondsWrite (t : Nat) (s : State) : Host.Outcome State Fault Refusal :=
  let s := s.begin t
  if s.opStored + 64 ≤ s.opNow then .next { s with opStored := s.opNow } else .next s

/-! ### The calendar clock (R450–R452) -/

/-- Set the calendar to a value in units of 2^-16 s, with the event of the step. -/
def State.setCalendar (s : State) (units sess role : Nat) : State :=
  let old := s.calNow / 65536
  let now := s.ft
  let s := { s with calendar := units, calAt := now, calValid := true }
  s.eventBy sess role 0x9815 (evClass 0x9815).2 (s.loc 19 2) [(48, old), (48, units / 65536)]

/-- UTC in ns since 2000-01-01 that the PTP time gives (R451). -/
def State.utcNs (s : State) : Int := s.ptp.at_ s.ft - s.ptp.utcOffset * 1000000000 - 946684800 * 1000000000

/-- The calendar in ns. -/
def State.calNs (s : State) : Rat := (s.calNow : Rat) * 1000000000 / 65536

/-- The procedure of R451. -/
def State.discipline (s : State) : State :=
  let utc := s.utcNs
  let off := s.calNs - (utc : Rat)
  let s := { s with calOff := roundR off }
  if !s.calValid ∨ 100000000 ≤ absR off then s.setCalendar (utc * 65536 / 1000000000).toNat 0 0
  else
    let freq := s.calFreq - off / 128
    let units := s.calNow
    let now := s.ft
    { s with calFreq := freq, calCorr := clampR (freq - off / 16) (-200000) 200000, calendar := units, calAt := now }

/-- CALENDAR_DISCIPLINE (R451): every 16 s. -/
def execCalendarDiscipline (t : Nat) (s : State) : Host.Outcome State Fault Refusal :=
  let s := s.begin t
  if s.oget 0x9400 0x04 = 1 ∧ s.ptp.state = 3 ∧ s.ptp.utcValid ∧ periodic s.calRun (msFt 16000) s.ft then
    .next { s.discipline with calRun := some s.ft }
  else .next s

/-- CALENDAR_SET (R452, Table 14.10). -/
def execCalendarSet (t : Nat) (k : Kop) (v : Nat) (s : State) : Host.Outcome State Fault Refusal :=
  .next ((s.begin t).command (.calendarSet t k v) k 0x9400 0x03 v fun s w =>
    if 2 ^ 48 ≤ v then (s, .refuse abRange)
    else if s.oget 0x9400 0x04 = 1 ∧ s.ptp.state = 3 then (s, .refuse abConfig)
    else (s.setCalendar (v * 65536) w.sess.val w.role, .done))

/-! ### Snapshots (R455–R458) -/

/-- SNAPSHOT (R455, Table 14.11): a write while a snapshot is scheduled joins it. -/
def execSnapshot (t : Nat) (k : Kop) (s : State) : Host.Outcome State Fault Refusal :=
  .next ((s.begin t).command (.snapshot t k) k 0x9800 0x01 1 fun s _ =>
    if s.liveDue.isEmpty then (s.schedule (multipleFrom 1250 (s.ft + 2500)) false, .done) else (s, .done))

/-- BOARD_SNAPSHOT (R167, R455): at board position 0, at least 10 µs beyond the frame that announces it. The manual leaves the
distance open beyond that: it is free. One that joins a board snapshot announces the tick of that one. -/
def execBoardSnapshot (t : Nat) (k : Kop) (s : State) : Host.Outcome State Fault Refusal :=
  .next ((s.begin t).command (.boardSnapshot t k) k 0x9800 0x03 1 fun s _ =>
    if s.bpos ≠ 0 then (s, .refuse abConfig)
    else
      let at_ := s.ft + 12500 + 1250 + Config.snapLead s.free
      let s := { s with free := s.free + 1 }
      let at_ := match s.liveDue.find? fun x => x.board && nearLatch x.at_ at_ with | some x => x.at_ | none => s.spaced at_
      ((s.schedule at_ true).updSync fun y => { y with snap := some at_ }, .done))

/-- SNAPSHOT_PERIOD (R455): at every multiple of the period. -/
def execSnapshotPeriod (t : Nat) (s : State) : Host.Outcome State Fault Refusal :=
  let s := s.begin t
  let p := s.oget 0x9800 0x02
  if p ≠ 0 ∧ s.ft % msFt p = 0 then .next (s.schedule s.ft false) else .next s

/-- SNAPSHOT_LATCH (R456): the latch tick has come: every counter has gone into the inactive buffer, as at every command that finds the tick
past (State.begin). -/
def execSnapshotLatch (t : Nat) (s : State) : Host.Outcome State Fault Refusal := .next (s.begin t)

/-- SNAPSHOT_BUFFER_SWAP (R456): the buffer becomes active, the epoch advances. -/
def execSnapshotBufferSwap (t : Nat) (s : State) : Host.Outcome State Fault Refusal :=
  let s := s.begin t
  .next { s with snap := s.snap.swap }

/-- Counter `n` of the active buffer (R457). -/
def Snap.read (x : Snap) (n : Nat) : Nat := sget 0 (if x.active then x.buf1 else x.buf0) n

end Sys2Proof.Machine
end

