-- ==== Sys2Proof/Machine/View.lean ====
section
/-! DEFINITION. What every object reads as (R351, R352, R389, R390): the value in force of RW and RWS objects, the value that the
tables of the chapters give an RO object, the status of a command object. -/

namespace Sys2Proof.Machine

/-- Value of an object that the part measures on itself. -/
def State.measured (s : State) (i sub : Nat) : Nat := Config.measured (objKey i sub) s.ft

/-- A time object that reads 0 where there is none. -/
def optNat (o : Option Nat) : Nat := o.getD 0

/-- The part is of the Extended grade (0x1000.02), and then holds a factory test summary (R9). -/
def extended : Bool := factory 0x1000 0x02 % 2 == 1

/-- Identity and store (Tables 13.15, 14.6). -/
def State.view1000 (s : State) (sub : Nat) : Nat :=
  match sub with
  | 0x04 => s.serial
  | 0x06 => ((fins 8).map fun k => s.engines[k].patch).foldl max 0
  | 0x07 => s.opNow
  | 0x08 => s.powerCycles
  | 0x0B => s.power.dramMib
  | 0x21 => s.activeBank
  | 0x22 => if s.activeBank = 0 then 0 else s.banks[Fin.ofNat 2 (s.activeBank - 1)].count
  | 0x23 => s.loadResult
  | 0x24 => s.skipped
  | 0x25 => if s.erases.toList.all (· == 0) then 0 else Config.storeWear s.erases.toList % 2 ^ 32
  | 0x01 => objDefault 0x1000 0x01
  | 0x02 | 0x0A => b2n extended
  | _ => factory 0x1000 sub

/-- Session totals and slots, host ports, precision time (Table 12.10). -/
def State.viewSession (s : State) (i : Fin 32) (sub : Nat) : Nat :=
  let x := s.sessions[i]
  match sub with
  | 0x01 => if x.isOpen then s.sid i else 0
  | 0x02 => x.hostId
  | 0x03 => x.roles
  | 0x04 => if x.isOpen then (x.leaseEnd - s.ft) / msFt 1 else 0
  | 0x05 => packBits [(16, x.port), (144, x.addr)]
  | 0x06 => x.retx
  | 0x07 => x.stale
  | _ => 0

def State.view1F00 (s : State) (sub : Nat) : Nat :=
  match sub with
  | 0x01 => ((fins 32).filter fun i => s.sessions[i].isOpen).length
  | 0x05 => s.refusals
  | 0x06 => s.authFails
  | 0x07 => s.replays
  | 0x08 => s.staleSess
  | _ => 0

def State.viewHostPort (s : State) (p : Fin 4) (sub : Nat) : Nat :=
  let x := s.hports[p]
  match sub with
  | 0x05 => factory (0x1F40 + p.val) 0x05
  | 0x0E => x.link
  | 0x0F => x.rx
  | 0x10 => x.tx
  | 0x11 => x.fecOk
  | 0x12 => x.fecBad
  | 0x13 => x.discard
  | _ => 0

def State.viewPtp (s : State) (sub : Nat) : Nat :=
  let x := s.ptp
  match sub with
  | 0x04 => x.state
  | 0x05 => toU 32 x.offset
  | 0x06 => packBits [(64, x.pair.1), (48, x.pair.2 / 1000000000), (32, x.pair.2 % 1000000000)]
  | 0x07 => x.port.getD 0xFF
  | _ => 0

def Can.view (x : Can) (sub : Nat) : Nat :=
  match sub with
  | 0x05 => x.bus
  | 0x06 => x.rx
  | 0x07 => x.tx
  | 0x08 => x.discard
  | 0x09 => x.busOffs
  | _ => 0

/-- Transactions (Table 13.12). -/
def State.viewTx (s : State) (y : Fin 8) (sub : Nat) : Nat :=
  let x := s.txs[y]
  match sub with
  | 0x01 => s.txid y
  | 0x02 => x.state
  | 0x03 => x.result
  | 0x04 => x.touched.length
  | 0x05 => packBits [(8, x.waitIdle), (8, x.waitItem)]
  | 0x06 => x.sid
  | _ => 0

def State.view1F80 (s : State) (sub : Nat) : Nat :=
  match sub with
  | 0x01 => ((fins 8).filter fun y => s.txs[y].state == 1 || s.txs[y].state == 2).length
  | 0x04 => s.conflicts
  | 0x05 => s.staleTx
  | _ => 0

/-- Zones (Tables 2.10, 3.7, 4.4, 5.5, 12.10, 14.3). -/
def State.viewZone (s : State) (z : Fin 8) (sub : Nat) : Nat :=
  let x := s.zones[z]
  if 0x80 ≤ sub ∧ sub ≤ 0x8B then x.counter (sub - 0x80)
  else
    match sub with
    | 0x04 => s.zoneReady z
    | 0x05 => ((s.zoneHeads z).filter fun h => s.heads[h].inService).length
    | 0x10 => x.state.code
    | 0x17 => x.stale
    | 0x22 => sumN (x.res.map Res.cyc)
    | 0x23 => sumN (x.res.map Res.bur)
    | 0x37 => x.maskResult
    | 0x40 => x.quality
    | 0x41 => x.unhideable
    | 0x42 => x.substituted
    | 0x43 => x.spread
    | 0x44 => x.reassigned
    | 0x45 => x.unhidden
    | 0x46 => x.guarded
    | 0x5B => x.place.code
    | 0x5C => toU 48 (roundR (s.estimate z s.ft).1)
    | 0x5D => toU 32 (roundR ((s.estimate z s.ft).2 / umsPuFt 1))
    | 0x5E => toU 48 (roundR x.hwm)
    | 0x62 => toU 16 x.traverse
    | 0x63 => x.spillway
    | 0x64 => x.withdrawn
    | 0x65 => x.faults
    | 0x66 => x.reversals
    | 0x67 => x.patternHandle
    | 0x78 => optNat x.owner
    | 0x79 => match s.actingSession z with | some i => s.sid i | none => 0
    | 0x8C => x.admitted
    | 0x8D => packBits (x.late.toList.map fun n => (64, n))
    | _ => 0

/-- The ledger, templates and tiles (Tables 2.10, 3.7); selections are those of session `w`. -/
def State.view2400 (s : State) (w : Fin 32) (sub : Nat) : Nat :=
  match sub with
  | 0x02 => s.outcomeRead (s.outcomeSelect w)
  | 0x03 => s.outcomeSelect w
  | 0x04 => s.items.length
  | 0x05 => (s.items.filter fun it => it.held).length + s.heldOut.length
  | 0x06 => s.lateReports
  | 0x07 => s.noticesSent
  | _ => 0

/-- The value of a select object of a session (R390). -/
def State.select (s : State) (w : Fin 32) (i sub : Nat) : Nat := sget (objDefault i sub) s.sessions[w].selects (objKey i sub)

/-- Objects of Table 3.7. The select value reads back; a stale template or tile handle still reads as written. HOST_TAG stands in no
row of the table, so no read returns it, and a load that is no whole number is rounded up (DESIGN CHOICE, notes/assumptions/26). -/
def State.view2800 (s : State) (w : Fin 32) (sub : Nat) : Nat :=
  let tpl := s.template? (s.select w 0x2800 0x02)
  let tile := s.tile? (s.select w 0x2800 0x06)
  let load := (fins 8).foldl (fun (a : Rat × Rat) z => let l := s.zoneLoad z s.zones[z].res; (a.1 + l.1, a.2 + l.2)) (0, 0)
  match sub with
  | 0x03 => match tpl with | some a => a.st.code | none => 0
  | 0x04 => match tpl with | some a => a.refs | none => 0
  | 0x07 => match tile with | some a => a.st.code | none => 0
  | 0x08 =>
    match tile with
    | some a => (s.items.filter fun it => it.refs && it.refTiles.contains a.tileHandle).length
    | none => 0
  | 0x0A => ceilR load.1
  | 0x0B => ceilR load.2
  | 0x0C => s.dataErrors
  | 0x0D => (s.tplEnd - s.tplBase) * 2 / mib
  | 0x0E => s.streamDiscards
  | _ => 0

/-- Nozzle entries of a head by number, as one little-endian number (R233). -/
def Head.mapBytes (x : Head) : Nat :=
  packBits ((List.range x.nozzleTotal).map fun i => (8, x.newest.entry i))

/-- Values of 16 bits per nozzle. -/
def Head.words (x : Head) (m : SMap Nat) : Nat := packBits ((List.range x.nozzleTotal).map fun i => (16, sget 0 m i))

/-- The nozzle that a session has selected. -/
def State.selNozzle (s : State) (w : Fin 32) (h : Fin 64) : Nat :=
  s.heads[h].nozzleOf (s.select w (hIdx h) 0x4C)

/-- Where a head is served (0x3000 .07). -/
def State.linkPosition (s : State) (h : Fin 64) : Nat :=
  let x := s.heads[h]
  match x.link with
  | none => 0xFFFF
  | some l => let (p, d) := s.servedBy h; packBits [(4, p.val), (4, d), (1, b2n (p != l && s.ports[l].dual == .split))]

/-- Heads (Tables 4.4, 6.9, 8.6, 14.5). -/
def State.viewHead (s : State) (w : Fin 32) (h : Fin 64) (sub : Nat) : Nat :=
  let x := s.heads[h]
  if x.idState = .absent ∧ sub ≠ 0x4D then objDefault (hIdx h) sub
  else if 0x51 ≤ sub ∧ sub ≤ 0x54 then x.rowQuality[Fin.ofNat 4 (sub - 0x51)]
  else
    match sub with
    | 0x01 => x.idState.code
    | 0x02 => fld x.maker 0 (8 * 368)
    | 0x03 => s.headReady h
    | 0x05 => x.trim
    | 0x06 => match s.zoneOfHead h with | some z => z.val | none => 0xFF
    | 0x07 => s.linkPosition h
    | 0x08 => x.linesFired
    | 0x09 => x.dropsFired
    | 0x10 => x.thermal.code
    | 0x11 => toU 16 x.temp
    | 0x16 => x.warmPeriod
    | 0x17 => x.cooldowns
    | 0x20 => if x.scanBlk.isSome then 2 else if s.scanIsDue h then 1 else 0
    | 0x28 => x.lastFull
    | 0x29 => x.aborted
    | 0x2A => x.words x.ratio
    | 0x2B => if x.baseOk then x.words x.baseline else 0
    | 0x4D => x.newest.entry (s.selNozzle w h)
    | 0x4E => x.mapBytes
    | 0x4F => x.installs
    | 0x50 => b2n x.pend.isSome
    | 0x72 => if x.blockOk then fld x.maker (8 * 0x20) 256 else 0
    | 0x73 => if x.blockOk then fld x.maker (8 * 0x40) (8 * 280) else 0
    | 0x74 => x.fMax
    | 0x75 => s.energyReady h
    | 0x76 => x.clamped
    | 0x77 => x.suppressed
    | _ => 0

/-- Links and heater supplies (Tables 6.9, 7.15). -/
def State.viewLink (s : State) (l : Fin 16) (sub : Nat) : Nat :=
  let p := s.ports[l]
  let c := s.chains[l]
  match sub with
  | 0x01 => p.state.code
  | 0x02 => ((fins 9).filter fun a => p.nodes[a].present).length
  | 0x05 => p.dual.code
  | 0x06 => p.splitPt
  | 0x08 => p.raster
  | 0x09 => p.words
  | 0x0A => s.portWords l * 342 / 100
  | 0x0B => p.laneMap
  | 0x0D => p.corrected
  | 0x0E => p.blocksLost
  | 0x0F => p.retries
  | 0x41 => c.state.code
  | 0x42 => c.trip
  | 0x4C => c.rsLearned
  | 0x4D => c.vph
  | 0x4E => toU 32 c.current
  | 0x4F => c.faults
  | _ => 0

/-- Nodes (Table 7.15); an absent one reads the defaults. -/
def State.viewNode (s : State) (l : Fin 16) (a : Fin 9) (sub : Nat) : Nat :=
  let n := s.ports[l].nodes[a]
  match sub with
  | 0x01 => if n.present then n.kind else 0
  | 0x02 => if n.present then n.identity else 0
  | 0x03 => match n.head with | some h => if n.present then h.val else 0xFF | none => 0xFF
  | 0x04 => if n.present then n.delayA else 0
  | 0x05 => if n.present then n.delayB else 0
  | 0x06 => if n.present then toU 16 n.timeErr else 0
  | 0x07 => if n.present then n.status else 0
  | _ => 0

/-- Position feedback, marks, switches, gates (Table 9.3). -/
def State.viewChan (s : State) (c : Fin 8) (sub : Nat) : Nat :=
  let x := s.chans[c]
  match sub with
  | 0x14 => x.state.code
  | 0x15 => x.cause
  | 0x18 => toU 64 x.count
  | 0x19 => toU 48 (roundR ((x.count : Rat) * (s.cc c 0x03 : Rat) / (s.cc c 0x04 : Rat)))
  | 0x1A => toU 32 x.speed
  | 0x1B => packBits [(1, b2n (x.state == .valid)), (1, b2n x.revBit), (1, b2n x.referenced), (1, b2n x.pend.isSome),
                      (1, b2n x.standstill)]
  | 0x1C => toU 64 x.obsIdx
  | 0x1D => toU 64 x.expIdx
  | 0x1E => x.reversals
  | 0x1F => x.faults
  | 0x20 => x.mismatches
  | 0x21 => x.amp
  | _ => 0

def Mark.view (x : Mark) (sub : Nat) : Nat :=
  match sub with
  | 0x07 => toU 48 x.lastPos
  | 0x08 => x.lastAt
  | 0x09 => x.accepted
  | 0x0A => x.tooClose
  | 0x0B => x.unclaimed
  | 0x0C => x.refused
  | _ => 0

def Switch.view (x : Switch) (sub : Nat) : Nat :=
  match sub with
  | 0x01 => b2n x.level
  | 0x06 => x.edges
  | 0x07 => x.lastAt
  | _ => 0

def Gate.view (x : Gate) (sub : Nat) : Nat :=
  match sub with
  | 0x06 => b2n x.asserted
  | 0x07 => x.pulses
  | 0x08 => x.late
  | 0x09 => b2n x.hold
  | 0x0B => x.overlaps
  | _ => 0

/-- Axes and groups (Table 10.6). -/
def State.viewAxis (s : State) (a : Fin 8) (sub : Nat) : Nat :=
  let x := s.axes[a]
  match sub with
  | 0x01 => x.state.code
  | 0x02 => s.axisStatus a
  | 0x03 => toU 64 (x.posAt s.ft)
  | 0x04 => toU 32 (x.speedAt s.ft)
  | 0x14 => x.vLat
  | 0x15 => x.aLat
  | 0x16 => x.dLat
  | 0x20 => x.issuedAt s.ft
  | 0x21 => x.owedAt s.ft
  | _ => 0

def State.viewGroup (s : State) (g : Fin 4) (sub : Nat) : Nat :=
  match sub with
  | 0x03 => sumN ((s.members g).map fun a => 2 ^ a.val)
  | 0x04 => s.groups[g].state
  | _ => 0

/-- Calibration and requests (Table 11.8). -/
def State.viewEnc (s : State) (c : Fin 4) (sub : Nat) : Nat :=
  let e := s.enc[c]
  let k := s.corr (encChan c)
  match sub with
  | 0x07 => roundRoot (((k.as * k.as + k.ac * k.ac : Nat) : Rat) / 2)
  | 0x08 => e.residual
  | 0x09 => e.st
  | 0x0A => e.result
  | 0x0B => toU 16 e.lastTemp
  | 0x0C => e.runs
  | 0x0D => e.rejects
  | _ => 0

def LaneCal.view (x : LaneCal) (sub : Nat) : Nat :=
  match sub with
  | 0x06 => x.eyes[0]
  | 0x07 => x.eyes[1]
  | 0x0B => x.run
  | 0x0C => x.result
  | 0x0D => x.failed
  | 0x0E => x.runs
  | 0x0F => x.rejects
  | _ => 0

def ReqSlot.status (q : ReqSlot) : Nat := packBits [(8, q.result), (8, 0), (16, q.seq)]

/-- Engines and memory test (Table 14.7). -/
def State.view7000 (s : State) (sub : Nat) : Nat :=
  let x := s.mem
  match sub with
  | 0x03 => regionCount
  | 0x04 => x.next
  | 0x05 => x.sweeps
  | 0x06 => x.found
  | 0x07 => x.repaired
  | 0x08 => x.spares
  | 0x09 => x.unrepaired
  | 0x0A => x.lastLoc
  | _ => 0

def State.viewEngine (s : State) (k : Fin 8) (sub : Nat) : Nat :=
  let e := s.engines[k]
  match sub with
  | 0x01 => e.state
  | 0x02 => e.restarts
  | 0x03 => packBits [(16, e.patch), (16, factory (0x7010 + k.val) 0x03)]
  | 0x05 => s.arrays.retries[k]
  -- permille of the cycles of the last 100 ms
  | _ => if s.ft < s.power.poweredAt + msFt 100 then 0 else s.measured (0x7010 + k.val) sub % 1001

/-- Trust (Table 14.8). -/
def State.view8000 (s : State) (w : Fin 32) (sub : Nat) : Nat :=
  match sub with
  | 0x01 => s.lifeCycle
  | 0x03 => s.cocoon.code
  | 0x05 => optNat s.cocoon.owner
  | 0x06 => s.cocoon.list.length
  | 0x08 =>
    match s.cocoon.list[s.select w 0x8000 0x07]? with
    | some e => packBits [(16, e.maker), (16, e.keyId), (256, e.key)]
    | none => 0
  | 0x0A => b2n s.cocoon.clearance.isSome
  | 0x0B => s.tamper.latch
  | 0x0F => s.tamper.wipes
  | 0x10 => s.tamper.cause
  | 0x11 => s.tamper.time
  | _ => 0

/-- Recorder, calendar, counters (Tables 14.9–14.11). -/
def State.view9000 (s : State) (w : Fin 32) (sub : Nat) : Nat :=
  let x := s.recorder
  let q := s.select w 0x9000 0x04
  match sub with
  | 0x01 => x.records.length
  | 0x02 => x.oldest
  | 0x03 => x.newest
  | 0x05 => x.find q
  | 0x06 => packBits ((List.range 16).map fun k => (512, x.find ((q + k) % 2 ^ 32)))
  | 0x08 => s.lost
  | 0x09 => x.displaced
  | _ => 0

def State.view9400 (s : State) (sub : Nat) : Nat :=
  match sub with
  | 0x01 => packBits [(48, s.calNow / 65536), (16, s.calNow)]
  | 0x02 => b2n s.calValid
  | 0x05 => toU 32 (roundR s.calCorr)
  | 0x06 => toU 32 s.calOff
  | _ => 0

def State.view9800 (s : State) (w : Fin 32) (sub : Nat) : Nat :=
  match sub with
  | 0x04 => s.snap.epoch
  | 0x05 => s.snap.tick
  | 0x07 => packBits ((List.range 128).map fun k => (64, s.snap.read (128 * s.select w 0x9800 0x06 + k)))
  | _ => 0

/-- The RTC crystal is running: an oscillator that has lost VBAT starts again within 2 s (R492), at a time that the spec leaves open. -/
def State.rtcRuns (s : State) : Bool :=
  match s.power.rtcFrom with
  | some f => decide (f + secFt 2 ≤ s.ft) || bitOf (s.measured 0xA000 0x07) 0
  | none => true

/-- Power, reset, clocks (Table 14.12). -/
def State.viewA000 (s : State) (sub : Nat) : Nat :=
  let x := s.power
  match sub with
  | 0x01 => sumN ((List.range 11).map fun d => s.domainPower d)
  | 0x02 => toU 16 x.dieTemp
  | 0x03 => x.cause
  | 0x06 => s.devState
  | 0x07 => packBits [(1, b2n x.refOk), (1, b2n x.root), (1, b2n ((List.range 4).all fun p => x.pll[Fin.ofNat 20 (16 + p)])),
                      (1, b2n ((List.range 16).all fun l => x.pll[Fin.ofNat 20 l])), (1, b2n s.rtcRuns)]
  | _ => 0

def State.viewDomain (s : State) (d : Fin 11) (sub : Nat) : Nat :=
  match sub with
  | 0x01 => s.domains[d].state
  | 0x06 => s.domains[d].wakes
  | 0x04 => s.domainPower d.val
  | 0x05 => s.domainEnergy d.val
  | _ => s.measured (0xA010 + d.val) sub

/-- Board time (Table 5.5). -/
def State.viewA800 (s : State) (sub : Nat) : Nat :=
  let x := s.sync
  match sub with
  | 0x01 => s.bpos
  | 0x02 => x.align
  | 0x03 => toU 32 x.offset
  | 0x04 => x.delays[0]
  | 0x05 => x.delays[1]
  | 0x06 => toU 32 x.rate
  | 0x0A => b2n x.line
  | 0x0B => x.discards
  | 0x10 => s.ft
  | _ => 0

/-- Vendor diagnostics (R403, Table 14.13): the summary reads zeros on a Standard part (R9), the map entry is that of the block and macro
that the session selects (R32). `n` counts the indices from 0xF000. -/
def State.viewVendor (s : State) (w : Fin 32) (n sub : Nat) : Nat :=
  match n, sub with
  | 0, 0x01 => if extended then factory 0xF000 0x01 else 0
  | 0, 0x03 => Config.factory (objKey 0xF000 0x03 + 2 ^ 24 * s.select w 0xF000 0x02)
  | _, _ => factory (0xF000 + n) sub

/-- An RO object, or an object whose row defines its read, as session `w` reads it. -/
def State.viewRo (s : State) (w : Fin 32) (fam n sub : Nat) : Nat :=
  match fam with
  | 0x1000 => s.view1000 sub
  | 0x1F00 => s.view1F00 sub
  | 0x1F20 => s.viewSession (Fin.ofNat 32 n) sub
  | 0x1F40 => s.viewHostPort (Fin.ofNat 4 n) sub
  | 0x1F48 => s.viewPtp sub
  | 0x1F50 => s.cans[Fin.ofNat 2 n].view sub
  | 0x1F80 => s.view1F80 sub
  | 0x1F88 => s.viewTx (Fin.ofNat 8 n) sub
  | 0x2000 => s.viewZone (Fin.ofNat 8 n) sub
  | 0x2400 => s.view2400 w sub
  | 0x2800 => s.view2800 w sub
  | 0x3000 => s.viewHead w (Fin.ofNat 64 n) sub
  | 0x3800 => s.viewLink (Fin.ofNat 16 n) sub
  | 0x3801 => s.viewNode (Fin.ofNat 16 (n / 16)) (Fin.ofNat 9 (n % 16)) sub
  | 0x4000 => s.viewChan (Fin.ofNat 8 n) sub
  | 0x4800 => s.marks[Fin.ofNat 8 n].view sub
  | 0x4880 => s.switches[Fin.ofNat 16 n].view sub
  | 0x4900 => s.gates[Fin.ofNat 8 n].view sub
  | 0x5000 => s.viewAxis (Fin.ofNat 8 n) sub
  | 0x5200 => s.viewGroup (Fin.ofNat 4 n) sub
  | 0x6000 => ((fins 16).filter fun q => s.reqs[q].result == 1).length
  | 0x6010 => s.reqs[Fin.ofNat 16 n].status
  | 0x6100 => s.viewEnc (Fin.ofNat 4 n) sub
  | 0x6200 => s.lanes[Fin.ofNat 16 n].view sub
  | 0x7000 => s.view7000 sub
  | 0x7010 => s.viewEngine (Fin.ofNat 8 n) sub
  | 0x8000 => s.view8000 w sub
  | 0x9000 => s.view9000 w sub
  | 0x9400 => s.view9400 sub
  | 0x9800 => s.view9800 w sub
  | 0xA000 => s.viewA000 sub
  | 0xA010 => s.viewDomain (Fin.ofNat 11 n) sub
  | 0xA800 => s.viewA800 sub
  | 0xF000 => s.viewVendor w n sub
  | _ => 0

/-- A command object whose row defines its read: the alignment pattern. -/
def readsOwn (i sub : Nat) : Bool := match objFam i, sub with | some (0x2000, _), 0x67 => true | _, _ => false

/-- A nozzle entry, staged and read through the nozzle select. -/
def isNozzle (i sub : Nat) : Bool := match objFam i, sub with | some (0x3000, _), 0x4D => true | _, _ => false

/-- What a read of an object by session `w` gives (R351, R352). -/
def State.readObj (s : State) (w : Fin 32) (i sub : Nat) : Nat :=
  match objFam i, objRow i sub with
  | some (f, n), some r =>
    (if r.acc = 0 ∨ readsOwn i sub ∨ isNozzle i sub ∨ (f = 0x2400 ∧ sub = 0x03) then s.viewRo w f n sub
    else if r.acc = 3 then
      let c := sget { state := 0, code := 0 } s.cmdStat (objKey i sub)
      packBits [(32, c.state), (32, c.code)]
    else if isSelect i sub then s.select w i sub
    else if f = 0x7000 ∧ sub = 0x01 ∧ s.mem.shadowBad then 0
    else s.oget i sub) % 2 ^ (8 * (if r.acc = 3 ∧ ¬ readsOwn i sub then 8 else r.bytes))
  | _, _ => 0

end Sys2Proof.Machine
end

