-- ==== Sys2Proof/Machine/Rules.lean ====
section
/-! DEFINITION. What a staged value must meet (R354, R390), the boundary of every object (R374), the commit rules of the chapters over
the state that a commit would leave (R375). -/

namespace Sys2Proof.Machine

/-! ### Ranges that depend on the object alone (R354) -/

/-- A value is a power of two. -/
def powerOfTwo (v : Nat) : Bool := (List.range 32).any fun k => v == 2 ^ k

/-- SSI format: T, P, E, Gray (Table 9.3). -/
def ssiFormatOk (v : Nat) : Bool :=
  let t := fld v 0 6
  let p := fld v 6 6
  let e := fld v 12 6
  8 ≤ t && t ≤ 48 && 8 ≤ p && p ≤ t && (e == 0 || (p < e && e ≤ t)) && v < 2 ^ 19

/-- Restrictions of a row beyond its bounds: reserved fields, values that depend on the instance. -/
def stageRange (i sub v : Nat) : Bool :=
  textRange i sub v &&
  match objFam i with
  | some (0x2000, _) => sub != 0x54 || v < 256
  | some (0x3000, _) =>
    if 0x40 ≤ sub ∧ sub ≤ 0x43 then fld v 28 4 == 0 && fld v 45 3 == 0 && fld v 61 3 == 0
    else if 0x44 ≤ sub ∧ sub ≤ 0x47 then v == 0xFFFF || v < 256
    else if 0x48 ≤ sub ∧ sub ≤ 0x4B then v < 2 ^ 21
    else if sub = 0x4D then v &&& 0x18 == v
    else if sub = 0x70 then (List.range 16).all fun k => 8192 ≤ classRatio v k && classRatio v k ≤ 32767
    else true
  | some (0x3800, l) => !(sub == 0x04 && v == 1 && l % 2 == 1)
  | some (0x4000, c) =>
    if sub = 0x01 then v != 3 || c ≤ 3
    else if sub = 0x0D then ssiFormatOk v
    else if sub = 0x13 then powerOfTwo v
    else true
  | some (0x5000, _) => sub != 0x19 || (!bitOf v 3 && v < 2 ^ 28)
  | _ => true

/-! ### Boundaries (R374) -/

/-- Zones whose membership, head or axis, a new value changes (Table 14.3). -/
def State.membershipZones (s : State) (n sub v : Nat) : List (Fin 8) :=
  let z : Fin 8 := Fin.ofNat 8 n
  if s.zc z sub = v then [] else [z]

/-- The zones that the boundary of an object names. -/
def State.objZones (s : State) (i sub v : Nat) : List (Fin 8) :=
  match objFam i with
  | some (0x2000, n) => if sub = 0x01 ∨ sub = 0x02 then s.membershipZones n sub v else [Fin.ofNat 8 n]
  | some (0x3000, n) => (s.zoneOfHead (Fin.ofNat 64 n)).toList
  | some (0x3800, n) => s.chainZones (Fin.ofNat 16 n)
  | some (0x4000, n) => s.zonesOfChan (Fin.ofNat 8 n)
  | some (0x4800, n) => (s.markZone (Fin.ofNat 8 n)).toList
  | some (0x4900, n) => (s.gateZone (Fin.ofNat 8 n)).toList
  | some (0x5000, n) => (s.zoneOfAxis (Fin.ofNat 8 n)).toList
  | _ => []

/-- Boundary kind of an object's row. -/
def objBound (i sub : Nat) : Nat := match objRow i sub with | some r => r.bnd | none => 0

/-- Zones that the staged values name with one boundary kind. -/
def State.boundZones (s : State) (st : List Stage) (kind : Nat) : List (Fin 8) :=
  (fins 8).filter fun z => st.any fun g =>
    objBound (g.key / 256) (g.key % 256) == kind && (s.objZones (g.key / 256) (g.key % 256) g.value).contains z

/-- What a commit waits for (R375, Table 13.12): the zones awaited idle as a mask, the zone awaited at ITEM, 0xFF none. -/
def State.waits (s : State) (st : List Stage) : Nat × Nat :=
  let idle := s.boundZones st 2
  let item := s.boundZones st 1
  let named := (fins 8).filter fun z => idle.contains z || item.contains z
  let mask := fun (zs : List (Fin 8)) => sumN (zs.map fun z => 2 ^ z.val)
  match named with
  | [] => (0, 0xFF)
  | [z] => if idle.contains z then (mask [z], 0xFF) else (0, z.val)
  | zs => (mask zs, 0xFF)

/-- boundary_met of R375. -/
def State.boundaryMet (s : State) (x : Tx) : Bool :=
  if x.waitIdle ≠ 0 then (fins 8).all fun z => !bitOf x.waitIdle z.val || s.zoneIdle z
  else if h : x.waitItem < 8 then s.itemBoundary ⟨x.waitItem, h⟩
  else true

/-! ### The state that a commit would leave -/

/-- Value that an object takes force with at the next restart (R374). -/
def State.pval (s : State) (i sub : Nat) : Nat := (sfind s.restartObj (objKey i sub)).getD (s.oget i sub)

def touches (st : List Stage) (i sub : Nat) : Bool := st.any fun g => g.key == objKey i sub
def touchesIn (st : List Stage) (i lo hi : Nat) : Bool := st.any fun g => objKey i lo ≤ g.key && g.key ≤ objKey i hi

/-- Default of scale `k` for pass count `n` (R121): bit 64 · line + column set where (column + line) mod n = k. -/
def scaleDefault (n k : Nat) : Nat :=
  if n = 0 then 0
  else packBits ((List.range 64).map fun l => (64, sumN ((List.range 64).map fun c => if (c + l) % n = k then 2 ^ c else 0)))

/-- Scales that a committed pass count sets to their defaults (R121). -/
def scaleStages (st : List Stage) : List Stage :=
  (fins 8).flatMap fun z =>
    match st.find? fun g => g.key == objKey (zIdx z) 0x30 with
    | some g =>
      ((List.range 8).filter fun k => !touches st (zIdx z) (0x38 + k)).map fun k =>
        { key := objKey (zIdx z) (0x38 + k), bind := 0, value := scaleDefault g.value k }
    | none => []

/-- Values as they would stand; nozzle entries bear on no rule. -/
def State.candidate (s : State) (st : List Stage) : State :=
  (st ++ scaleStages st).foldl (fun s g =>
    let i := g.key / 256
    let sub := g.key % 256
    if isNozzle i sub then s
    else if objBound i sub = 3 then { s with restartObj := sins s.restartObj g.key g.value }
    else s.oput i sub g.value) s

/-! ### Rules refused with CONFIGURATION -/

/-- No head, axis, mark input or reject output is in two zones (R26). -/
def State.exclusive (c : State) : Bool :=
  (fins 8).all fun y => (fins 8).all fun z =>
    y.val ≥ z.val ||
    (c.zc y 0x01 &&& c.zc z 0x01 == 0 && c.zc y 0x02 &&& c.zc z 0x02 == 0 &&
     (c.zc y 0x71 == 0xFF || c.zc y 0x71 != c.zc z 0x71) && (c.zc y 0x72 == 0xFF || c.zc y 0x72 != c.zc z 0x72))

/-- A feed axis is a member of its zone (Table 14.3). -/
def State.feedOk (c : State) (z : Fin 8) : Bool := match c.feedAxis z with | some a => bitOf (c.zc z 0x02) a.val | none => true

/-- Columns of the active nozzles of a row at traverse 0. -/
def columnsOf (e : Nat) : List Int := (activeNozzles e).map fun j => colOf 0 e j 0

/-- One row of a zone by R116. -/
def State.rowRuleOk (c : State) (z : Fin 8) (h : Fin 64) (r : Fin 4) : Bool :=
  let e := c.planeMap h r
  let x := c.heads[h]
  pmFirst e ≤ pmLast e && !(x.blockOk && x.nozzles r.val ≤ pmLast e) &&
  (spanOf e).2.1 ≤ 524287 &&
  (!x.blockOk || (List.range 7).all fun i =>
    let d := fld (c.hc h (0x48 + r.val)) (3 * i) 3
    d == 0 || x.defines d) &&
  (pmRole e != 2 ||
    match c.partnerOf h r with
    | some (h2, r2) =>
      let p := c.planeMap h2 r2
      pmRole p == 1 && c.zoneOfHead h2 == some z && pmPlane p == pmPlane e &&
      (columnsOf e).all fun k => (columnsOf p).contains k
    | none => false)

/-- The columns of a mapped plane's PRIMARY nozzles: none printed twice, no gap (R116). -/
def columnsOk (cs : List Int) : Bool :=
  match cs with
  | [] => true
  | k :: ks => decide cs.Nodup && (ks.foldl max k - ks.foldl min k + 1 == (cs.length : Int))

/-- A zone's plane maps by R116. -/
def State.planeRulesOk (c : State) (z : Fin 8) : Bool :=
  let rows := c.zoneRows z
  let n := c.zc z 0x30
  ((c.zoneHeads z).all fun h => (fins 4).all fun r => pmRole (c.planeMap h r) != 3) &&
  rows.all (fun (h, r) => c.rowRuleOk z h r) &&
  ((List.range 8).all fun p =>
    columnsOk ((rows.filter fun (h, r) => pmRole (c.planeMap h r) == 1 && pmPlane (c.planeMap h r) == p).flatMap
      fun (h, r) => columnsOf (c.planeMap h r))) &&
  rows.all (fun (h, r) =>
    pmRole (c.planeMap h r) != 1 ||
    (rows.filter fun (h2, r2) => pmRole (c.planeMap h2 r2) == 2 && c.partnerOf h2 r2 == some (h, r)).length ≤ 1) &&
  (n == 0 ||
    match rows with
    | [] => true
    | (h, r) :: _ =>
      let e := c.planeMap h r
      spanCount e % n == 0 &&
      rows.all fun (h2, r2) => pmStride (c.planeMap h2 r2) == pmStride e && spanCount (c.planeMap h2 r2) == spanCount e)

/-- Zones whose plane rules a commit checks: heads joining, pass count, an entry of a member head. -/
def State.planeTouched (c : State) (st : List Stage) (z : Fin 8) : Bool :=
  touches st (zIdx z) 0x01 || touches st (zIdx z) 0x30 || (c.zoneHeads z).any fun h => touchesIn st (hIdx h) 0x40 0x4B

/-- Number of scales set at a position, and whether the position is complementary (R120). -/
def State.scalesAt (c : State) (z : Fin 8) (n p : Nat) : Nat × Bool :=
  let on := (List.range 8).filter fun k => bitOf (c.zc z (0x38 + k)) p
  (on.length, (on.filter fun k => k < n).length == 1 && on.all fun k => k < n)

/-- Mask check result of a zone (R120): 0, or the first failing position with the number of scales set there and bit 31. -/
def State.maskCheck (c : State) (z : Fin 8) : Nat :=
  let n := c.zc z 0x30
  if n = 0 then 0
  else
    match (List.range 4096).find? fun p => !(c.scalesAt z n p).2 with
    | some p => packBits [(6, p % 64), (6, p / 64), (4, (c.scalesAt z n p).1), (15, 0), (1, 1)]
    | none => 0

def maskTouched (st : List Stage) (z : Fin 8) : Bool := touches st (zIdx z) 0x30 || touchesIn st (zIdx z) 0x38 0x3F

/-- R141. -/
def State.tolOk (c : State) (z : Fin 8) : Bool := c.zc z 0x50 == 0xFF || decide (4 * c.countSize z ≤ c.tol z)

/-- The frame lead is not below the lead floor of an enumerated member head (Table 5.5). -/
def State.leadOk (c : State) (z : Fin 8) : Bool :=
  (c.zoneHeads z).all fun h => !c.heads[h].inService || decide (c.leadFloor h ≤ c.zc z 0x55)

/-- A staged value differs from the one in force. -/
def State.changes (s : State) (st : List Stage) (i sub : Nat) : Bool :=
  st.any fun g => g.key == objKey i sub && g.value != s.oget i sub

/-- The same for a range of subindices. -/
def State.changesIn (s : State) (st : List Stage) (i lo hi : Nat) : Bool :=
  st.any fun g => decide (objKey i lo ≤ g.key) && decide (g.key ≤ objKey i hi) && g.value != s.oget i (g.key % 256)

/-- A commit changes the window of a chain, its heads (the head base, R197), or the ratios or trim of a head of it (R185). -/
def State.windowTouched (s : State) (st : List Stage) (l : Fin 16) : Bool :=
  s.changes st (lIdx l) 0x43 || s.changes st (lIdx l) 0x44 || s.changes st (lIdx l) 0x03 ||
  (fins 64).any fun h => s.heads[h].link == some l && s.changesIn st (hIdx h) 0x70 0x71

/-- The head position that a head of a chain is due under the head base that the commit leaves (R197). -/
def State.dueHead (c : State) (l : Fin 16) (h : Fin 64) : Option (Fin 64) :=
  let n := c.pval (lIdx l) 0x03 + h.val - c.lc l 0x03
  if k : n < 64 then some ⟨n, k⟩ else none

/-- No condition of R185 holds for an enumerated head of the chain, at its own position and at the one it is due. -/
def State.chainWindowOk (c : State) (l : Fin 16) : Bool :=
  decide (c.lc l 0x43 < c.lc l 0x44) &&
  (fins 64).all fun h =>
    !(c.heads[h].link == some l && c.heads[h].driveOk) ||
    (c.headWindow h &&
     match c.dueHead l h with
     | some k => windowOk c.heads[h] (c.lc l 0x43) (c.lc l 0x44) (c.hc k 0x70) (c.hc k 0x71)
     | none => true)

/-- The SSI read period holds the clocks and the monoflop time (R261): times in 10^-12 s · kHz. -/
def State.ssiOk (c : State) (f : Fin 8) : Bool :=
  let khz := c.cc f 0x0E
  decide (fld (c.cc f 0x0D) 0 6 * 1000000 + c.cc f 0x10 * 1000 * khz ≤ c.cc f 0x0F * khz)

/-- Half the step period at the axis's maximum speed holds the pulse width (R283). -/
def stepWidthOk (cfg speed : Nat) : Bool := decide ((fld cfg 4 8 + 1) * 128 * speed ≤ 10000000000)

/-- R472: no staged value gives Off after of PD-FIRE, or a timer of PD-SEC, a value other than 0. The default of Retention after of
PD-SEC is not 0 (Table 14.12): a commit that leaves a value as it is gives it none (DEDUCED, notes/assumptions/39). -/
def State.timersOk (s : State) (st : List Stage) : Bool :=
  st.all fun g => !(g.key == objKey 0xA013 0x03 || g.key == objKey 0xA019 0x02 || g.key == objKey 0xA019 0x03) || g.value == 0 ||
    g.value == s.oget (g.key / 256) (g.key % 256)

/-- Every rule refused with CONFIGURATION. -/
def State.configOk (s c : State) (st : List Stage) : Bool :=
  c.exclusive &&
  (st.all fun g => match objFam (g.key / 256) with
    | some (0x3000, _) => !(0x40 ≤ g.key % 256 && g.key % 256 ≤ 0x43) || pmRole g.value != 3
    | _ => true) &&
  ((fins 8).all fun z =>
    c.feedOk z && (!c.planeTouched st z || c.planeRulesOk z) && (!maskTouched st z || c.maskCheck z == 0) && c.tolOk z &&
    (!(touches st (zIdx z) 0x01 || touches st (zIdx z) 0x55) || c.leadOk z)) &&
  ((fins 16).all fun l => !s.windowTouched st l || c.chainWindowOk l) &&
  ((fins 8).all fun f => !touchesIn st (cIdx f) 0x0D 0x10 || c.ssiOk f) &&
  ((fins 8).all fun a => !touches st (aIdx a) 0x19 || stepWidthOk (c.ac a 0x19) (c.ac a 0x10)) &&
  s.timersOk st &&
  ((fins 64).all fun h => !touches st (hIdx h) 0x12 || !c.setTooHigh h) &&
  (c.pval 0x1F48 0x01 != 2 || c.pval 0x1F48 0x02 == 0)

/-! ### Rules refused with RESOURCE -/

/-- R75. -/
def State.regionsOk (c : State) : Bool :=
  decide (c.pval 0x2800 0x01 + sumN ((fins 8).map fun z => c.pval (zIdx z) 0x20) + 768 ≤ c.power.dramMib)

/-- A commit changes what the reservations of a zone rest on (R101). -/
def State.resTouched (c : State) (st : List Stage) (z : Fin 8) : Bool :=
  touches st (zIdx z) 0x01 || touchesIn st (zIdx z) 0x51 0x52 || touches st (zIdx z) 0x56 ||
  (c.zoneHeads z).any fun h => touchesIn st (hIdx h) 0x40 0x43

def State.resourceOk (c : State) (st : List Stage) : Bool :=
  (!(touches st 0x2800 0x01 || (fins 8).any fun z => touches st (zIdx z) 0x20) || c.regionsOk) &&
  (let zs := (fins 8).filter fun z => c.resTouched st z
   zs.isEmpty ||
   let d := zs.foldl State.recomputeRes c
   d.loadFits 0 d.zones[(0 : Fin 8)].res)

/-! ### Rules refused with WORK_IN_PROGRESS and BUSY_MOVING -/

def State.workOk (s c : State) (st : List Stage) : Bool :=
  ((fins 8).all fun z => (s.tracked z).isEmpty ||
    !(s.changes st (zIdx z) 0x50 || s.changes st (zIdx z) 0x72 ||
      (match s.zoneGate z with | some g => s.changes st (gIdx g) 0x01 || s.changes st (gIdx g) 0x05 | none => false) ||
      (match s.srcChan z with | some c => s.changesIn st (cIdx c) 0x01 0x0A || s.changesIn st (cIdx c) 0x0D 0x13 | none => false))) &&
  ((fins 16).all fun l => !touches st (lIdx l) 0x45 || s.chains[l].state == .off) &&
  ((fins 16).all fun w => !s.changes st (swIdx w) 0x04 ||
    let a := c.oget (swIdx w) 0x05
    if h : a < 8 then s.axes[(⟨a, h⟩ : Fin 8)].state.rest else true)

/-- Step output configuration while DISABLED alone (R283); a group object at rest, and out of a group while it is at rest (R290). -/
def State.movingOk (s : State) (st : List Stage) : Bool :=
  (fins 8).all fun a =>
    (!touches st (aIdx a) 0x19 || s.axes[a].state == .disabled) && 
    (!touches st (aIdx a) 0x1F || s.axes[a].state.rest) &&
    (!s.changes st (aIdx a) 0x1F || (fins 4).all fun g => s.ac a 0x1F != g.val || s.groups[g].state == 0)

/-- Abort code of the chapters' commit rules over the state that the staged values would leave; 0 if it passes. -/
def State.ruleCode (s : State) (st : List Stage) : Nat :=
  let c := s.candidate st
  if !s.configOk c st then abConfig
  else if !c.resourceOk st then abResource
  else if !s.workOk c st then abWork
  else if !s.movingOk st then abMoving
  else 0

/-- A check writes the mask check result of every zone whose scales or pass count it covers (R120). A zone that is still a web zone
after a refused pass count keeps the failing position until the next check (DESIGN CHOICE, notes/assumptions/10). -/
def State.putMaskResults (s : State) (st : List Stage) : State :=
  let c := s.candidate st
  (fins 8).foldl (fun s z => if maskTouched st z then s.updZone z fun x => { x with maskResult := c.maskCheck z } else s) s

end Sys2Proof.Machine
end

