-- ==== Sys2Proof/Machine/Transact.lean ====
section
/-! DEFINITION. Direct writes (R351) and transactions (R371–R380). -/

namespace Sys2Proof.Machine

/-! ### Direct writes (R351, R390) -/

/-- RW objects whose write is a command of its own: board fault assert, calibration values and switches, transparent test. -/
def ownWrite (i sub : Nat) : Bool :=
  match objFam i with
  | some (0xA800, _) => sub == 0x09
  | some (0x6100, _) => sub == 0x01 || sub == 0x06
  | some (0x6200, _) => sub == 0x01 || sub == 0x04 || sub == 0x05 || (8 ≤ sub && sub ≤ 0x0A)
  | some (0x7000, _) => sub == 0x01
  | _ => false

/-- The write is one of the other commands of the block: a value that a CMD object, or an object with a command of its own, takes. -/
def otherCommand (i sub v : Nat) : Bool :=
  match objRow i sub with
  | some r => (r.acc == 3 || ownWrite i sub) && rowRange r v
  | none => false

/-- Fields of a select object that are reserved (Table 4.4). -/
def selectRange (i sub v : Nat) : Bool := match objFam i with | some (0x3000, _) => sub != 0x4C || v < 2 ^ 15 | _ => true

/-- The object is RO. -/
def objRo (i sub : Nat) : Bool := match objRow i sub with | some r => r.acc == 0 | none => false

/-- The domains that a read wakes, and waits for: those on whose hardware an RO object reports (R472). -/
def readDomains (i sub : Nat) : List (Fin 11) := if objRo i sub then objDomains i sub else []

/-- Why a READ or a TX_READ is refused; 0 if it is not. -/
def State.readCode (s : State) (k : Kop) (i sub : Nat) (w : Fin 32) : Nat :=
  if (objFam i).isNone then abNoObject
  else
    match objRow i sub with
    | none => abNoSub
    | some r =>
      if r.acc = 2 then abWriteOnly
      else if ¬ r.blob ∧ k.off ≠ 0 then abMalformed
      else s.accessCode i sub r false s.sessions[w].hostId s.sessions[w].roles

/-- Size of an object as it reads: the command status has 8 bytes. -/
def readSize (i sub : Nat) : Nat :=
  match objRow i sub with | some r => if r.acc = 3 ∧ ¬ readsOwn i sub then 8 else r.bytes | none => 0

/-- What follows a read: that of 0x2400.02 has taken a held outcome (R64). -/
def State.afterRead (s : State) (w : Fin 32) (i sub : Nat) : State :=
  if i = 0x2400 ∧ sub = 0x02 then s.outcomeTaken (s.outcomeSelect w) else s

/-- READ (Table 13.6), of an object whose read has no command of its own: answered with the value and the version (R351, R355). -/
def State.kopRead (s : State) (c : Instr) (k : Kop) : State :=
  match s.arrive c k with
  | (none, s) => s
  | (some w, s) =>
    let code := s.readCode k k.index k.sub w
    if code ≠ 0 then s.respond w (s.plainResp k code)
    else if !s.domainsOn (readDomains k.index k.sub) then s.await c k w (readDomains k.index k.sub)
    else
      let r := readBlob (s.plainResp k 0) (readSize k.index k.sub) k.off k.len (s.readObj w k.index k.sub)
      let s := s.respond w r
      if r.code = 0 then s.afterRead w k.index k.sub else s

/-- The value that a direct WRITE leaves: a part of a BLOB or STR goes over the value in force. -/
def State.writtenValue (s : State) (k : Kop) (i sub v : Nat) : Nat :=
  match objRow i sub with
  | some r => if r.blob then setFld (s.oget i sub) (8 * k.off) (8 * k.len) v else v
  | none => v

/-- REGISTER_WRITE (R351, R354, R390). A request of OP READ, which has no row of its own, comes as this command too (DESIGN CHOICE,
notes/assumptions/13). -/
def execRegisterWrite (t : Nat) (k : Kop) (index sub v : Nat) (s : State) : Host.Outcome State Fault Refusal :=
  if k.op = 1 then .next ((s.begin t).kopRead (.registerWrite t k index sub v) k)
  else if requestMalformed index v ∧ sub = 0x01 then
    .next ((s.begin t).command (.registerWrite t k index sub v) k index sub v fun s _ => (s, .refuse abMalformed))
  else if otherCommand index sub v then .next (s.begin t)
  else
    .next ((s.begin t).write (.registerWrite t k index sub v) k index sub v fun s w =>
      if isSelect index sub then
        if textRange index sub v && selectRange index sub v then
          (s.updSess w.sess fun x => { x with selects := sset (objDefault index sub) x.selects (objKey index sub) v }, 0)
        else (s, abRange)
      else
        match objFam index with
        | some (0x5000, n) =>
          if sub = 0x10 ∧ ¬ stepWidthOk (s.ac (Fin.ofNat 8 n) 0x19) v then (s, abConfig) else (s.oapply index sub v, 0)
        | _ =>
          let x := s.writtenValue k index sub v
          if textRange index sub x then (s.oapply index sub x, 0) else (s, abRange))

/-! ### Transaction slots (R371, R372) -/

/-- A response in a transaction (Table 13.5): INFO is the version for TX_WRITE and TX_READ, the TXID otherwise; TX_COMMIT and TX_STATUS
carry the transaction's state and result. -/
def State.txResp (s : State) (k : Kop) (y : Fin 8) (code : Nat) : Resp :=
  let x := s.txs[y]
  let r := s.plainResp k code
  if k.op = 4 ∨ k.op = 5 then r
  else if k.op = 6 ∨ k.op = 8 then { r with info := s.txid y, state := x.state, size := x.result }
  else { r with info := s.txid y }

/-- The slot that a session's transaction ID names. -/
def State.tx? (s : State) (w : Fin 32) (txid : Nat) : Option (Fin 8) :=
  let y : Fin 8 := Fin.ofNat 8 txid
  if txid ≠ 0 ∧ s.txid y = txid ∧ s.txs[y].sid = s.sid w then some y else none

/-- A request that names a transaction (R372): it renews the lease of an OPEN one (R373), or is refused and counted. -/
def State.txRequest (s : State) (c : Instr) (k : Kop) (op i sub txid : Nat) (act : State → Fin 32 → Fin 8 → State) : State :=
  match s.arrive c k with
  | (none, s) => s
  | (some w, s) =>
    if !k.names op i sub then s else
    match s.tx? w txid with
    | none => 
      let r := s.plainResp k abTxUnknown
      State.respond { s with staleTx := s.staleTx + 1 } w (if k.op = 4 ∨ k.op = 5 then r else { r with info := txid })
    | some y =>
      let lease := s.ft + msFt (s.oget 0x1F80 0x03)
      act (s.updTx y fun x => { x with leaseEnd := lease }) w y

/-- The slot that has been FREE or DONE the longest, the lowest on a tie (R371). -/
def State.freeTx (s : State) : Option (Fin 8) :=
  match (fins 8).filter fun y => s.txs[y].state == 0 || s.txs[y].state == 3 with
  | [] => none
  | y :: ys => some (ys.foldl (fun b z => if s.txs[z].freedAt < s.txs[b].freedAt then z else b) y)

/-- Next generation of a slot: modulo 2^24, 0 skipped. -/
def nextTxGen (g : Nat) : Nat := if (g + 1) % 2 ^ 24 = 0 then 1 else (g + 1) % 2 ^ 24

/-- TX_BEGIN (R371). -/
def execTxBegin (t : Nat) (k : Kop) (s : State) : Host.Outcome State Fault Refusal :=
  match (s.begin t).arrive (.txBegin t k) k with
  | (none, s) => .next s
  | (some w, s) =>
    if !k.names 3 0 0 then .next s else
    match s.freeTx with
    | none => .next (s.respond w (s.plainResp k abTxFull))
    | some y =>
      let g := nextTxGen s.txs[y].gen
      let x := s.sessions[w]
      let tx : Tx := { Tx.init with gen := g, sessIdx := w.val, sid := s.sid w, host := x.hostId, roles := x.roles, state := 1,
                                    leaseEnd := s.ft + msFt (s.oget 0x1F80 0x03), freedAt := s.txs[y].freedAt }
      let s := s.updTx y fun _ => tx
      .next (s.respond w (s.txResp k y 0))

/-! ### Staging (R373) -/

/-- A transaction touches an object: its version is recorded the first time. `none` beyond 256 objects. -/
def State.touch (s : State) (y : Fin 8) (i sub : Nat) : Option State :=
  let x := s.txs[y]
  let key := objKey i sub
  if x.touched.any fun p => p.1 == key then some s
  else if 256 ≤ x.touched.length then none
  else
    let v := s.version i sub
    some (s.updTx y fun x => { x with touched := x.touched ++ [(key, v)] })

/-- The entry to which a staged write binds: the select value for a nozzle entry (R390). -/
def State.bindOf (s : State) (w : Fin 32) (i sub : Nat) : Nat := if isNozzle i sub then s.select w i 0x4C else 0

/-- What a transaction has staged for an object. -/
def Tx.stagedAt (x : Tx) (key bind : Nat) : Option Nat := (x.staged.find? fun g => g.key == key && g.bind == bind).map (·.value)

def stageBytes (st : List Stage) : Nat := sumN (st.map fun g => match objRow (g.key / 256) (g.key % 256) with | some r => r.bytes | none => 0)

/-- Stage a value: it replaces what was staged for the same entry. -/
def Tx.put (x : Tx) (key bind v : Nat) : Tx :=
  { x with staged := (x.staged.filter fun g => !(g.key == key && g.bind == bind)) ++ [{ key, bind, value := v }] }

/-- Why a TX_WRITE is refused before its value is looked at; 0 if it is not. -/
def State.stageCode (s : State) (k : Kop) (i sub : Nat) (w : Fin 32) : Nat :=
  if (objFam i).isNone then abNoObject
  else
    match objRow i sub with
    | none => abNoSub
    | some r =>
      if r.acc = 0 then abReadOnly
      else if r.acc ≠ 4 then abNotStageable
      else if ¬ r.blob ∧ k.off ≠ 0 then abMalformed
      else if ¬ r.blob ∧ k.len ≠ r.bytes ∨ k.len = 0 then abLength
      else if r.bytes < k.off + k.len then abOffset
      else s.accessCode i sub r true s.sessions[w].hostId s.sessions[w].roles

/-- The value that a TX_WRITE stages: a part of a BLOB or STR is put over what is staged, or else over the value in force. -/
def State.stageValue (s : State) (y : Fin 8) (k : Kop) (i sub bind v : Nat) : Nat :=
  match objRow i sub with
  | some r =>
    if r.blob then setFld ((s.txs[y].stagedAt (objKey i sub) bind).getD (s.oget i sub)) (8 * k.off) (8 * k.len) v else v
  | none => v

/-- TX_WRITE (R373). -/
def execTxWrite (t : Nat) (k : Kop) (txid index sub v : Nat) (s : State) : Host.Outcome State Fault Refusal :=
  .next ((s.begin t).txRequest (.txWrite t k txid index sub v) k 4 index sub txid fun s w y =>
    if s.txs[y].state ≠ 1 then s.respond w (s.txResp k y abTxState)
    else
      let code := s.stageCode k index sub w
      let bind := s.bindOf w index sub
      let x := s.stageValue y k index sub bind v
      let ok := match objRow index sub with | some r => v < 2 ^ (8 * k.len) && rowRange r x && stageRange index sub x | none => false
      if code ≠ 0 then s.respond w (s.txResp k y code)
      else if !ok then s.respond w (s.txResp k y abRange)
      else
        match s.touch y index sub with
        | none => s.respond w (s.txResp k y abTxLarge)
        | some s' =>
          let tx := s'.txs[y].put (objKey index sub) bind x
          if 65536 < stageBytes tx.staged then s.respond w (s.txResp k y abTxLarge)
          else (s'.updTx y fun _ => tx).respond w (s'.txResp k y 0))

/-- What TX_READ reads: the staged value, the value pending for the next restart, or the value in force. -/
def State.txValue (s : State) (w : Fin 32) (y : Fin 8) (i sub : Nat) : Nat :=
  match s.txs[y].stagedAt (objKey i sub) (s.bindOf w i sub) with
  | some v => v
  | none => (sfind s.restartObj (objKey i sub)).getD (s.readObj w i sub)

/-- TX_READ (R373); reading an RO object wakes the domain on whose hardware it reports (R472). -/
def execTxRead (t : Nat) (k : Kop) (txid index sub : Nat) (s : State) : Host.Outcome State Fault Refusal :=
  .next ((s.begin t).txRequest (.txRead t k txid index sub) k 5 index sub txid fun s w y =>
    let code := s.readCode k index sub w
    if s.txs[y].state ≠ 1 then s.respond w (s.txResp k y abTxState)
    else if code ≠ 0 then s.respond w (s.txResp k y code)
    else if !s.domainsOn (readDomains index sub) then s.await (.txRead t k txid index sub) k w (readDomains index sub)
    else
      let r := readBlob (s.txResp k y 0) (readSize index sub) k.off k.len (s.txValue w y index sub)
      if r.code ≠ 0 then s.respond w r
      else
        match s.touch y index sub with
        | none => s.respond w (s.txResp k y abTxLarge)
        | some s' => (s'.respond w r).afterRead w index sub)

/-! ### The check (R375) -/

/-- An object is locked by another transaction. -/
def State.locked (s : State) (y : Fin 8) (key : Nat) : Bool :=
  (fins 8).any fun x => x != y && s.txs[x].state == 2 && s.txs[x].touched.any fun p => p.1 == key

/-- A touched object is locked, or its version has changed. -/
def State.conflict (s : State) (y : Fin 8) : Bool :=
  s.txs[y].touched.any fun p => s.locked y p.1 || s.version (p.1 / 256) (p.1 % 256) != p.2

/-- Roles and ownership of the staged writes, for the host and the roles held at TX_BEGIN: the first code, or 0. -/
def State.stagedAccess (s : State) (x : Tx) : Nat :=
  ((x.staged.map fun g =>
    match objRow (g.key / 256) (g.key % 256) with
    | some r => s.accessCode (g.key / 256) (g.key % 256) r true x.host x.roles
    | none => abNoSub).find? fun c => c ≠ 0).getD 0

/-- check of R375: 0, or the code with which the transaction rolls back. -/
def State.txCheck (s : State) (y : Fin 8) : Nat :=
  let x := s.txs[y]
  if s.conflict y then abConflict
  else if s.stagedAccess x ≠ 0 then s.stagedAccess x
  else s.ruleCode x.staged

/-- A check that reaches the commit rules writes the mask check results (R120). -/
def State.afterCheck (s : State) (y : Fin 8) : State :=
  if s.conflict y ∨ s.stagedAccess s.txs[y] ≠ 0 then s else s.putMaskResults s.txs[y].staged

/-- TX_COMMIT (R375, R378): the first check, then COMMITTING. -/
def execTxCommit (t : Nat) (k : Kop) (txid limit : Nat) (s : State) : Host.Outcome State Fault Refusal :=
  .next ((s.begin t).txRequest (.txCommit t k txid limit) k 6 0 0 txid fun s w y =>
    if s.txs[y].state ≠ 1 then s.respond w (s.txResp k y abTxState)
    else if k.len ≠ 4 then s.respond w (s.txResp k y abLength)
    else
      let code := s.txCheck y
      let s := s.afterCheck y
      let s :=
        if code ≠ 0 then s.endTx y code
        else
          let ms := if limit = 0 then s.oget 0x1F80 0x02 else limit
          let (idle, item) := s.waits s.txs[y].staged
          let lim := s.ft + msFt ms
          let no := s.txClock
          { s with txClock := no + 1 }.updTx y fun x =>
            { x with state := 2, limitAt := lim, commitNo := no, waitIdle := idle, waitItem := item }
      s.respond w (s.txResp k y 0))

/-- TX_ABORT (R378). -/
def execTxAbort (t : Nat) (k : Kop) (txid : Nat) (s : State) : Host.Outcome State Fault Refusal :=
  .next ((s.begin t).txRequest (.txAbort t k txid) k 7 0 0 txid fun s w y =>
    if s.txs[y].state = 1 ∨ s.txs[y].state = 2 then
      let s := s.endTx y abAborted
      s.respond w (s.txResp k y 0)
    else s.respond w (s.txResp k y abTxState))

/-- TX_STATUS (R360). -/
def execTxStatus (t : Nat) (k : Kop) (txid : Nat) (s : State) : Host.Outcome State Fault Refusal :=
  .next ((s.begin t).txRequest (.txStatus t k txid) k 8 0 0 txid fun s w y => s.respond w (s.txResp k y 0))

/-! ### Application (R375) -/

/-- One staged value takes force, or becomes pending until the next restart; a nozzle entry goes into a pending generation (R126). -/
def State.applyStage (s : State) (g : Stage) : State :=
  let i := g.key / 256
  let sub := g.key % 256
  match objFam i with
  | some (f, n) =>
    if isNozzle i sub then
      (s.bump i sub).updHead (Fin.ofNat 64 n) fun x =>
        let j := x.nozzleOf g.bind
        if j ≠ 32768 then { x with pend := some (x.newest.put j ((x.newest.entry j &&& 0x27) ||| (g.value &&& 0x18))) } else x
    else if objBound i sub = 3 then
      { s with restartObj := sins s.restartObj g.key g.value }.bump i sub
    else
      let s := s.oapply i sub g.value
      if f = 0x3000 ∧ sub = 0x12 then s.updHead (Fin.ofNat 64 n) fun x => { x with setKnown := true, setFromBlock := false } else s
  | none => s

/-- An output that belongs to no zone any more is inactive (R279). -/
def State.freeGate (s : State) (g : Fin 8) : State :=
  if (s.gateZone g).isSome ∨ s.gates[g].test then s
  else
    let was := s.gates[g].asserted
    let s := s.updGate g fun x => { x with asserted := false, hold := false, handles := [] }
    if was then s.gateOut g false else s

/-- Effects of a committed mode or configuration of a channel (Table 9.2). -/
def State.chanCommitted (s : State) (c : Fin 8) (old : Nat) : State :=
  let new := s.cc c 0x01
  let s :=
    if new = old then s
    else
      let s := if h : c.val < 4 then
          let e : Fin 4 := ⟨c.val, h⟩
          (if new = 3 then s else (s.dropDue 1 c.val).abandonEnc e).updEnc c fun x => { x with seenValid := false }
        else s
      -- Table 9.2 lists OFF, and STARTING from OFF alone: from one mode to another the state stands and the inputs begin afresh
      if new = 0 then (s.setChan c .off).checkSources
      else if s.chans[c].state = .off then
        let s := s.updChan c fun x =>
          { x.shift (-x.count) with cause := 0, last := none, pend := none, obsIdx := 0, expIdx := 0,
                                    referenced := false, periods := 0, badAt := 0 }
        (s.startChan c).checkSources
      else s.updChan c fun x => { x with raw := none, phase := none, lastEdge := none, good := 0, bad := 0, ampBad := 0 }
  (s.zonesOfChan c).foldl State.presetZone s

/-- A zone takes a new position source: its tracker starts afresh at the position of that source. -/
def State.sourceCommitted (s : State) (z : Fin 8) : State :=
  let s := s.updZone z fun x => { x with place := .noSource, trk := Tracker.start, upd := none, trail := [] }
  let s := s.checkSources
  let p := s.counted z
  if s.zones[z].place = .noSource then s else s.updZone z fun x => { x with hwm := p }

/-- The zone of a head, if it accepts unverified heads. -/
def State.accepting (s : State) (h : Fin 64) : Option (Fin 8) :=
  match s.zoneOfHead h with | some z => if s.zc z 0x70 = 1 then some z else none | none => none

/-- UNVERIFIED_HEAD for each unverified head that the commit puts into a zone that accepts it (R238). -/
def State.unverifiedEvents (old s : State) : State :=
  (fins 64).foldl (fun s h =>
    if s.heads[h].idState = .unverified ∧ (s.accepting h).isSome ∧ s.accepting h ≠ old.accepting h then s.setIdentity h .unverified else s) s

/-- A staged value bears on a zone's quality figures (R134, R135). -/
def State.qualityTouched (s : State) (st : List Stage) (z : Fin 8) : Bool :=
  touches st (zIdx z) 0x01 || touchesIn st (zIdx z) 0x30 0x31 || touchesIn st (zIdx z) 0x34 0x36 ||
  (s.zoneHeads z).any fun h => touchesIn st (hIdx h) 0x40 0x47 || touches st (hIdx h) 0x4D

/-- Heads with a staged nozzle entry. -/
def stagedMaps (st : List Stage) : List (Fin 64) := (fins 64).filter fun h => touches st (hIdx h) 0x4D

/-- What the chapters attach to values that have taken force: `old` is the state before the commit. -/
def State.committed (old s : State) (st : List Stage) : State :=
  -- R127: the new generations are installed at this boundary, but while the previous one is kept for an item
  let s := (stagedMaps st).foldl (fun s h => if old.mayInstall h then s.installGen h else s) s
  -- R67: a new set of ITEM(z) values
  let s := (fins 8).foldl (fun s z =>
    if (old.boundZones st 1).contains z then
      (s.newSet z ((st.filter fun g => objBound (g.key / 256) (g.key % 256) == 1 && !isNozzle (g.key / 256) (g.key % 256)).map
        fun g => (g.key, old.oget (g.key / 256) (g.key % 256)))).discardUnstarted (s.zoneHeads z)
    else s) s
  let s := old.unverifiedEvents s
  let s := (fins 8).foldl (fun s c => if old.changesIn st (cIdx c) 0x01 0x0A ∨ old.changesIn st (cIdx c) 0x0D 0x13 then
    s.chanCommitted c (old.cc c 0x01) else s) s
  let s := (fins 8).foldl (fun s z => if old.changes st (zIdx z) 0x50 then s.sourceCommitted z else s) s
  let s := (fins 8).foldl (fun s z =>
    match old.zoneGate z with
    | some g => if old.changes st (zIdx z) 0x72 then s.freeGate g else s
    | none => s) s
  let s := (fins 16).foldl (fun s w =>
    if old.changes st (swIdx w) 0x02 then { s with switches := vupd s.switches w fun x => { x with level := !x.level } } else s) s
  -- an asserted or inactive output takes the level of its new polarity (Table 9.3)
  let s := (fins 8).foldl (fun s g => if old.changes st (gIdx g) 0x05 then s.gateOut g s.gates[g].asserted else s) s
  let s := (fins 8).foldl (fun (s : State) a => if old.changes st (aIdx a) 0x19 then { s with out := s.out ++ s.axisPins a } else s) s
  let s := (fins 8).foldl (fun s z => if s.qualityTouched st z then s.recomputeQuality z else s) s
  (fins 8).foldl (fun s z => if s.resTouched st z then s.recomputeRes z else s) s

/-- Apply every staged value of a transaction on one tick, the scales of R121 with them. -/
def State.applyTx (s : State) (st : List Stage) : State :=
  let all := st ++ scaleStages st
  s.committed (all.foldl State.applyStage s) all

/-- An earlier COMMITTING transaction meets its boundary on the same tick (R379). -/
def State.earlierDue (s : State) (y : Fin 8) : Bool :=
  (fins 8).any fun x => s.txs[x].state == 2 && s.txs[x].commitNo < s.txs[y].commitNo && s.boundaryMet s.txs[x]

/-- COMMIT_APPLY (R375, R378, R379). -/
def execCommitApply (t : Nat) (slot : Fin 8) (s : State) : Host.Outcome State Fault Refusal :=
  let s := s.begin t
  let x := s.txs[slot]
  if x.state = 2 ∧ s.boundaryMet x ∧ ¬ s.earlierDue slot then
    let code := s.txCheck slot
    let s := s.afterCheck slot
    if code ≠ 0 then .next (s.endTx slot code) else .next ((s.applyTx x.staged).endTx slot 0)
  else .next s

/-- COMMIT_TIMEOUT (R378). -/
def execCommitTimeout (t : Nat) (slot : Fin 8) (s : State) : Host.Outcome State Fault Refusal :=
  let s := s.begin t
  if s.txs[slot].state = 2 ∧ s.txs[slot].limitAt ≤ s.ft then .next (s.endTx slot abTimeout) else .next s

/-- TRANSACTION_EXPIRY (R373, R378). -/
def execTransactionExpiry (t : Nat) (slot : Fin 8) (s : State) : Host.Outcome State Fault Refusal :=
  let s := s.begin t
  if s.txs[slot].state = 1 ∧ s.txs[slot].leaseEnd ≤ s.ft then .next (s.endTx slot abExpired) else .next s

/-- TRANSACTION_SLOT_ABORT (Table 13.12). -/
def execTransactionSlotAbort (t : Nat) (k : Kop) (slot : Fin 8) (s : State) : Host.Outcome State Fault Refusal :=
  .next ((s.begin t).command (.transactionSlotAbort t k slot) k (0x1F88 + slot.val) 0x07 1 fun s _ =>
    if s.txs[slot].state = 1 ∨ s.txs[slot].state = 2 then (s.endTx slot abAborted, .done) else (s, .refuse abTxState))

end Sys2Proof.Machine
end

