-- ==== Sys2Proof/Machine/Can.lean ====
section
/-! DEFINITION. The field networks FN0 and FN1 (R362–R369): frames, reassembly, fault confinement. A message that has been
reassembled reaches the block as the command that stands for it, with port 4 or 5. -/

namespace Sys2Proof.Machine

def State.updCan (s : State) (f : Fin 2) (g : Can → Can) : State := { s with cans := vupd s.cans f g }

/-- The partial message of a sender. -/
def Can.part? (x : Can) (host : Nat) : Option Partial := x.parts.find? fun p => p.host == host

/-- Discard the partial message of a sender, counted. -/
def Can.drop (x : Can) (host : Nat) : Can := { x with parts := x.parts.filter fun p => p.host != host, discard := x.discard + 1 }

/-- Kinds that a field network carries (R364). -/
def canKind (k : Nat) : Bool := (1 ≤ k && k ≤ 7) || k == 0x30

/-- LENGTH of a message's header (Table 12.2), and its bytes: kinds 0x01–0x04 carry no tag. -/
def envelopeLength (bs : List Nat) : Nat := fld (ofBytes (bs.take 4)) 16 16
def envelopeBytes (bs : List Nat) : Nat := 16 + envelopeLength bs + (if fld (ofBytes (bs.take 4)) 8 8 ≤ 4 then 0 else 8)

/-- The bytes after LAST are no fewer than 24 + LENGTH and exceed it by less than 64, and every pad byte is 0 (R366). The rule takes one
length for every kind: a kind without a tag is padded by 8 bytes at least. -/
def canComplete (bs : List Nat) : Bool :=
  let n := 24 + envelopeLength bs
  n ≤ bs.length && bs.length < n + 64 && (bs.drop (envelopeBytes bs)).all fun b => b == 0

/-- A frame is taken into its sender's message, or the message is discarded (R366). -/
def Can.take (x : Can) (host msgno seg : Nat) (last : Bool) (data : List Nat) (now : Nat) : Can :=
  let x := match x.part? host with
    | some p => if p.next ≠ seg ∨ p.msgno ≠ msgno ∨ p.at_ + msFt 20 < now then x.drop host else x
    | none => if seg = 0 then x else x.drop host
  let cur := match x.part? host with
    | some p => some p
    | none => if seg = 0 then some { host, msgno, next := 0, bytes := [], at_ := now } else none
  match cur with
  | none => x
  | some p =>
    let bs := p.bytes ++ data
    let others := x.parts.filter fun q => q.host != host
    if last then
      if canComplete bs then { x with parts := others } else { x with parts := others, discard := x.discard + 1 }
    else { x with parts := others ++ [{ p with next := seg + 1, bytes := bs, at_ := now }] }

/-- An error on the bus (R362, fault confinement of ISO 11898-1): 8 for a transmitter, 1 for a receiver, 8 more for the one that found
it first; BUS_OFF beyond 255. -/
def Can.error (x : Can) (transmit primary : Bool) : Can :=
  let x := if transmit then { x with txErr := x.txErr + 8 } else { x with rxErr := min 255 (x.rxErr + if primary then 8 else 1) }
  if 255 < x.txErr then { x with bus := 3, busOffs := x.busOffs + 1, parts := [] } else x.confine

/-- CAN_FRAME (R362, R363, R366). A frame that carries the controller's DEV wakes PD-FLD (R471). A frame whose ISO CRC fails is an error of the receiver. One received without error lowers the receive error counter;
only an FD data frame with a 29-bit identifier is taken, any other is acknowledged and ignored (Table 13.7). -/
def execCanFrame (t : Nat) (f : Fin 2) (m : CanMsg) (s : State) : Host.Outcome State Fault Refusal :=
  let s := s.begin t
  let s := if s.oget (0x1F50 + f.val) 0x01 = 1 ∧ !bitOf m.ident 25 ∧ fld m.ident 19 6 = s.oget (0x1F50 + f.val) 0x02 then s.wake 1 else s
  let x := s.cans[f]
  if x.bus ≠ 1 ∧ x.bus ≠ 2 then .next s
  else if !m.crcOk then .next (s.updCan f fun x => x.error false false)
  else
    let s := s.updCan f fun x => { x with rxErr := if 127 < x.rxErr then 127 else x.rxErr - 1 }.confine
    if !m.fd ∨ !m.extended ∨ m.remote then .next s
    else if bitOf m.ident 25 ∨ fld m.ident 19 6 ≠ s.oget (0x1F50 + f.val) 0x02 then .next s
    else if fld m.ident 0 5 ≠ 0 then .next (s.updCan f fun x => { x with discard := x.discard + 1 })
    else
      let now := s.ft
      .next (s.updCan f fun x =>
        { x with rx := x.rx + 1 }.take (fld m.ident 13 6) (fld m.ident 11 2) (fld m.ident 5 5) (bitOf m.ident 10) m.data now)

/-- CAN_REASSEMBLY_TIMEOUT (R366). -/
def execCanReassemblyTimeout (t : Nat) (f : Fin 2) (host : Nat) (s : State) : Host.Outcome State Fault Refusal :=
  let s := s.begin t
  match s.cans[f].part? host with
  | some p => if p.at_ + msFt 20 < s.ft then .next (s.updCan f fun x => x.drop host) else .next s
  | none => .next s

/-- CAN_BUS_ERROR (R362). -/
def execCanBusError (t : Nat) (f : Fin 2) (transmit primary : Bool) (s : State) : Host.Outcome State Fault Refusal :=
  let s := s.begin t
  if s.cans[f].bus = 1 ∨ s.cans[f].bus = 2 then .next (s.updCan f fun x => x.error transmit primary) else .next s

/-- BUS_OFF_RECOVERY (R362). -/
def execBusOffRecovery (t : Nat) (f : Fin 2) (s : State) : Host.Outcome State Fault Refusal :=
  let s := s.begin t
  if s.cans[f].bus = 3 then .next (s.updCan f fun x => { x with bus := 1, txErr := 0, rxErr := 0 }) else .next s

end Sys2Proof.Machine
end

