-- ==== Sys2Proof/Machine/Power.lean ====
section
/-! DEFINITION. Resets and start-up, clocks and supplies, power domains, the orderly power-down (chapter 18). -/

namespace Sys2Proof.Machine

/-! ### What a reset leaves (R464) -/

/-- Location codes of the clock, reset and power manager (Table 1.8). -/
def State.clockLoc (s : State) : Nat := s.loc 20 0
def State.resetLoc (s : State) : Nat := s.loc 20 1
def State.powerLoc (s : State) : Nat := s.loc 20 2

/-- Reset states of Table 19.2, from the first cycle of any reset (R481). -/
def resetBalls : List Out :=
  ([(.hlTx, 16, .idle), (.hpTx, 4, .idle), (.hpTxdis, 4, .high), (.syTx, 2, .idle), (.dramReset, 2, .low), (.dramCk, 2, .off),
    (.pfCk, 8, .high), (.fnTxd, 2, .high), (.fnStby, 2, .high), (.tdo, 1, .off)] : List (Ball × Nat × Level)).flatMap fun x =>
      (List.range x.2.1).map fun n => .ball x.1 n x.2.2

/-- The outputs that take their inactive level with a reset. -/
def State.outputsOff (s : State) : List Out :=
  (((fins 8).filter fun g => s.gates[g].asserted).map fun g => Out.gate g.val (s.gc g 0x05 == 1)) ++
  (((fins 8).filter fun a => s.axes[a].en).map fun a => s.enPin a false) ++
  (((fins 16).filter fun c => s.chains[c].gate).map fun c => Out.chainGate c.val false)

/-- The state that a reset leaves: everything as in State.reset but PD-BAK, the fuses, the non-volatile store, whose slots are
checked (R447), and the content of the DRAM (R464); the fire timer starts at 0 where the reset is a power-on reset (Table 18.2). -/
def State.resetKeeping (s : State) (powerOn : Bool) : State :=
  { State.reset with
    ft := if powerOn then 0 else s.ft, pending := s.pending, free := s.free, out := s.out ++ s.outputsOff ++ resetBalls, dram := s.dram,
    banks := s.banks, erases := s.erases, recorder := { s.recorder.checkSlots with clearing := none, displaced := 0 }, patches := s.patches, opSeconds := s.opStored, opStored := s.opStored,
    opAt := if powerOn then 0 else s.ft, powerCycles := s.powerCycles + 1, calendar := s.calNow,
    calAt := if powerOn then 0 else s.ft, calValid := s.calValid, calFreq := s.calFreq, calCorr := s.calCorr,
    lifeCycle := s.readFuses, serial := s.serial, toggles := s.toggles, fuses := s.fuses, lcPending := s.lcPending,
    power := { Power.init with rtcFrom := s.power.rtcFrom }, cocoon := { s.cocoon with wrapped := [] }, tamper := s.tamper }

/-! ### Start-up, step by step (Table 18.6) -/

/-- A wipe that took place on VBAT alone, before the power came (R431): by a source of PD-BAK, a tamper input only while it was armed, as
`armed` says; its time reads 0 while the calendar was not valid. -/
def State.wipedBefore (s : State) (armed : Nat) (source : Fin 9) (at_ : Nat) : State :=
  if 7 ≤ source.val ∨ (source.val < 4 ∧ ¬ bitOf armed source.val) then s else
  let time := if s.calValid then at_ else 0
  let s := { s with cocoon := Cocoon.init,
                    tamper := { active := s.tamper.active, latch := s.tamper.latch ||| 2 ^ source.val, wipes := s.tamper.wipes + 1,
                                cause := source.val + 1, time } }
  s.event 0x2010 s.tamperLoc [(16, s.tamper.latch), (8, source.val + 1), (48, time)]

/-- Step 1 (R433): the check pattern of the backup domain is present, or its contents are lost. A supply that stayed up keeps the
calendar running by itself, and has left its sources under watch (TAMPER_DETECT). -/
def State.backupCheck (s : State) (p : PowerUp) (powerOn : Bool) (armed : Nat) : State :=
  if p.bakPresent then
    if powerOn then p.wiped.foldl (fun s w => s.wipedBefore armed w.1 w.2) { s with calendar := p.calendar } else s
  else
    let s := { s with cocoon := Cocoon.init, tamper := { active := 0, latch := 2 ^ 5, wipes := 1, cause := 6, time := 0 },
                      calendar := 0, calValid := false, calFreq := 0, calCorr := 0, power := { s.power with rtcFrom := some s.ft } }
    s.event 0x2010 s.tamperLoc [(16, 2 ^ 5), (8, 6), (48, 0)]

/-- Step 4 (R426): a transition found pending. -/
def State.lcInterrupted (s : State) (blown : Bool) : State :=
  match s.lcPending with
  | none => s
  | some r =>
    let s := if blown then s.blowFuse r.from_ r.to_ else s
    { s with lcPending := none }.event 0x2013 (s.loc 4 0) [(8, s.lifeCycle)]

/-- An entry of an image that is taken (R385): the object is defined, a host may store it, its size is the object's, its value is in
range. -/
def entryOk (e : Nat × Nat × Nat) : Bool :=
  persistent e.1 &&
  match objRow (e.1 / 256) (e.1 % 256) with
  | some r => e.2.1 == r.bytes && rowRange r e.2.2 && stageRange (e.1 / 256) (e.1 % 256) e.2.2
  | none => false

/-- The entries of an image as one commit. -/
def imageStages (b : Bank) : List Stage :=
  let st := (b.entries.filter entryOk).map fun e => ({ key := e.1, bind := 0, value := e.2.2 } : Stage)
  st ++ scaleStages st

/-- The values of an image in force. -/
def State.loadStages (s : State) (st : List Stage) : State :=
  st.foldl (fun s g => s.oput (g.key / 256) (g.key % 256) g.value) s

/-- An image passes every commit rule as one whole (R385). -/
def State.imagePasses (s : State) (b : Bank) : Bool :=
  let st := imageStages b
  let c := s.loadStages st
  s.configOk c st && c.resourceOk st

/-- Entries left out, each with its event. -/
def badEntries (b : Bank) : List (Nat × Nat × Nat) := b.entries.filter fun e => !entryOk e
def State.skipEntries (s : State) (b : Bank) : State :=
  let s := { s with skipped := (badEntries b).length }
  (badEntries b).foldl (fun (s : State) e => s.event 0x9814 s.storeLoc [(16, e.1 / 256), (8, e.1 % 256)]) s

/-- The valid banks, the one with the larger count first. -/
def State.bankOrder (s : State) : List (Fin 2) :=
  let v := (fins 2).filter fun b => s.banks[b].valid
  match v with
  | [a, b] => if s.banks[a].count < s.banks[b].count then [b, a] else [a, b]
  | v => v

/-- Load a bank (R385): its values, and the setpoints that a host gave (R508). -/
def State.takeBank (s : State) (b : Fin 2) : State :=
  let st := imageStages s.banks[b]
  let s := (s.loadStages st).putMaskResults st
  let s := (fins 64).foldl (fun s h => if touches st (hIdx h) 0x12 then (s.updHead h fun x => { x with setKnown := true }) else s) s
  let s := { s with activeBank := b.val + 1, loadResult := if s.skipped = 0 then 0 else 2 }
  (fins 8).foldl State.recomputeQuality s

/-- Try the banks in their order; `tried` names those that have failed. Load result (Table 13.15): 0 LOADED, 1 NO_IMAGE,
2 ENTRIES_SKIPPED, 3 REJECTED_DEFAULTS. -/
def State.tryBanks (s : State) (tried : Nat) : List (Fin 2) → State
  | [] => if tried = 0 then s else { s with loadResult := 3 }.event 0x9812 s.storeLoc [(8, tried)]
  | b :: bs =>
    let s := s.skipEntries s.banks[b]
    if s.imagePasses s.banks[b] then s.takeBank b else s.tryBanks (tried + 2 ^ b.val) bs

/-- The outputs of gates and axes at the inactive levels that the loaded polarities give them (R279, Table 10.6). -/
def State.inactivePins (s : State) : List Out :=
  ((fins 8).map fun g => Out.gate g.val (s.gc g 0x05 == 1)) ++ (fins 8).flatMap s.axisPins

/-- Step 5: the persistent store is loaded, the outputs take their configured inactive levels; the default of a node number follows the
board position (Table 13.11). -/
def State.loadStore (s : State) : State :=
  let s := [0x1F50, 0x1F51].foldl (fun (s : State) (i : Nat) => s.oput i 0x02 (16 + s.bpos)) s
  let s := s.tryBanks 0 s.bankOrder
  { s with out := s.out ++ s.inactivePins }

/-- Patch images that the service tool has offered (R405): one is installed in SERVICE alone, and only if its signature verifies, before
which its slot is not erased. -/
def State.installPatches (s : State) (p : PowerUp) : State :=
  if s.lifeCycle = 3 then
    (p.installs.filter fun x => x.2.sigOk).foldl (fun (s : State) x => { s with patches := vupd s.patches x.1 fun _ => some x.2 }) s
  else s

/-- Step 6: every domain is ON, its arrays tested and repaired (R421); the cocoon cells are checked, the session master secret is
drawn (R427). -/
def State.powerDomains (s : State) (p : PowerUp) : State :=
  let s : State := { s with domains := s.domains.map fun d => { d with state := 2 },
                            mem := { s.mem with shadowBad := !p.shadowOk } }
  let s := s.testArrays p.arrays p.buffers
  if p.cellsOk then s.drawSecret else s.wipe 11 []

/-- Step 7: the engines run the patches that they have verified (R405); the lanes and the HV dies are ready. The FAULT event of an absent
VHV names slice 63 of subsystem 14 and object 0xA000.06 (R474; DESIGN CHOICE, notes/assumptions/39). -/
def State.startEngines (s : State) (p : PowerUp) : State :=
  let s := { s with engines := Vector.replicate 8 { Engine.init with state := 2 } }
  let s := (fins 8).foldl State.startFirmware s
  let s := { s with power := { s.power with pll := Vector.replicate 20 true, root := true, refOk := true, die := Vector.replicate 2 p.vhv } }
  if p.vhv then s else s.faultEvent 14 (s.loc 14 63) 0xA000 0x06 0 0

/-- Channels whose mode is not OFF begin STARTING (R263). -/
def State.startChans (s : State) : State :=
  (fins 8).foldl (fun s c => if s.cc c 0x01 = 0 then s else s.startChan c) s

/-- Field networks that are enabled join the bus (R367); host ports that are not enabled stay disabled (R321). -/
def State.startPorts (s : State) : State :=
  { s with
    cans := Vector.ofFn fun (f : Fin 2) => { Can.init with bus := if s.oget (0x1F50 + f.val) 0x01 = 0 then 0 else 1 },
    hports := Vector.ofFn fun (p : Fin 4) => { HPort.init with link := if s.oget (0x1F40 + p.val) 0x01 = 0 then 2 else 0 } }

/-- Reset with a cause and start-up up to step 9 of Table 18.6; the links, host ports, sync ports and heads follow by commands of
their own. Causes: 0 POWER_ON, 1 EXTERNAL, 2 COMMANDED, 3 SUPPLY, 4 DEBUG. -/
def State.startUp (s : State) (cause : Nat) (p : PowerUp) : State :=
  let on := cause = 0
  let armed := s.oget 0x8000 0x0D
  let s := { (s.installPatches p).resetKeeping on with bpos := p.bpos % 8 }
  let s := { s with power := { s.power with cause, dramMib := p.dramMib, trained := Vector.replicate 2 true, poweredAt := s.ft } }
  let s := (s.backupCheck p on armed).lcInterrupted p.lcBlown
  let s := s.loadStore
  let s := s.event 0xA013 s.resetLoc [(8, cause)]
  (((s.powerDomains p).startEngines p).startPorts).startChans

/-- POWER_ON_RESET (R463, R474). -/
def execPowerOnReset (t : Nat) (p : PowerUp) (s : State) : Host.Outcome State Fault Refusal := .next ((s.begin t).startUp 0 p)

/-- EXTERNAL_RESET (R463). -/
def execExternalReset (t : Nat) (p : PowerUp) (s : State) : Host.Outcome State Fault Refusal := .next ((s.begin t).startUp 1 p)

/-- DEBUG_RESET (R463, Table 16.1): the test port acts in PROVISIONED and in SERVICE. -/
def execDebugReset (t : Nat) (p : PowerUp) (s : State) : Host.Outcome State Fault Refusal :=
  let s := s.begin t
  if s.lifeCycle = 1 ∨ s.lifeCycle = 3 then .next (s.startUp 4 p) else .next s

/-- Every record that stands in the buffer is committed. -/
def State.flushEvents : Nat → State → State
  | 0, s => s
  | n + 1, s => if s.events.isEmpty ∧ s.recorder.clearing.isNone then s else State.flushEvents n s.commitRecord
def State.commitAll (s : State) : State := State.flushEvents (s.events.length + 3) s

/-- The chains that are still above 2,000 mV, each recorded as a FAULT event of subsystem 14 (R465, R477). -/
def State.recordHigh (s : State) : State :=
  ((fins 16).filter fun c => decide (2000 < s.chains[c].vph)).foldl (fun s c =>
    s.faultEvent 14 (s.loc 14 c.val) (lIdx c) 0x4D 0 s.chains[c].vph) s

/-- COMMANDED_RESET_TIMEOUT (R465): every VPH sense has fallen below 2,000 mV, or 1 s has passed; what is recorded is in the store before the
reset, while K7 runs. -/
def execCommandedResetTimeout (t : Nat) (p : PowerUp) (s : State) : Host.Outcome State Fault Refusal :=
  let s := s.begin t
  if waited s.power.resetFrom (secFt 1) s.ft ∨ (s.power.resetFrom.isSome ∧ ((fins 16).all fun c => decide (s.chains[c].vph < 2000))) then
    let s := s.recordHigh
    .next ((if s.running 7 then s.commitAll else s).startUp 2 p)
  else .next s

/-! ### Supplies, clocks, temperature (R459–R468, R486) -/

/-- Recommended operating range of a supply in µV (Table 19.4): 0 VCORE, 1 VSRAM, 2 VSD09, 3 VSD12, 4 VDDQ, 5 VIO18, 6 VIO33. That of
VDDQ is PRESUMED from JESD209-5 (notes/assumptions/20). -/
def supplyRange (supply : Nat) : Nat × Nat :=
  [(727500, 772500), (824500, 875500), (873000, 927000), (1164000, 1236000), (470000, 570000), (1710000, 1890000),
   (3135000, 3465000)].getD supply (0, 0)
def inRange (supply uv : Nat) : Bool := decide ((supplyRange supply).1 ≤ uv) && decide (uv ≤ (supplyRange supply).2)

/-- SUPPLY_OUT_OF_RANGE (Tables 18.1, 18.2): VCORE or VSRAM below 85 % of nominal leads to a power-on reset; another logic supply out of
its range, to a reset with cause SUPPLY. -/
def execSupplyOutOfRange (t : Nat) (x : SupplyReading) (p : PowerUp) (s : State) : Host.Outcome State Fault Refusal :=
  let s := s.begin t
  if x.supply < 2 then
    if x.uv < (if x.supply = 0 then 637500 else 722500) then .next (s.startUp 0 p) else .next s
  else if x.supply < 7 ∧ ¬ inRange x.supply x.uv then .next (s.startUp 3 p)
  else .next s

/-- VCORE or VSRAM lies within ±12 % of nominal (R486). -/
def nearNominal (supply uv : Nat) : Bool :=
  let nom := if supply = 0 then 750000 else 850000
  decide (nom * 88 ≤ uv * 100) && decide (uv * 100 ≤ nom * 112)

/-- CORE_SUPPLY_EXCURSION (R486): VCORE or VSRAM outside its range within ±12 %; an event at its start and at its end. Beyond ±12 % the
voltage-glitch source trips (R431). -/
def execCoreSupplyExcursion (t supply : Nat) (begins : Bool) (uv : Nat) (s : State) : Host.Outcome State Fault Refusal :=
  let s := s.begin t
  if h : supply < 2 then
    let i : Fin 2 := ⟨supply, h⟩
    if ¬ nearNominal supply uv then .next (s.tamperTrip 8 [])
    else if s.power.excursion[i] = begins ∨ inRange supply uv = begins then .next s
    else
      let s := { s with power := { s.power with excursion := s.power.excursion.set i begins } }
      .next (s.faultEvent 20 s.powerLoc 0xA000 0x01 supply (uv / 1000))
  else .next s

/-- CLOCK_LOSS (R467): a reference period outside 5.4–7.4 ns, or the root PLL out of lock, is the clock-glitch source, which wipes the
cocoon; a condition that lasts 1 µs resets the block. -/
def execClockLoss (t : Nat) (x : ClockReading) (stuck : List Nat) (p : PowerUp) (s : State) : Host.Outcome State Fault Refusal :=
  let s := s.begin t
  let s := { s with power := { s.power with refOk := clockSteady x.ps, root := x.locked } }
  if clockSteady x.ps ∧ x.locked then .next s
  else
    let s := s.tamperTrip 7 stuck
    .next (if 1000 ≤ x.ns then s.startUp 0 p else s)

/-- The link of a host port goes down (R321). -/
def State.hostPortDown (s : State) (p : Fin 4) : State :=
  if s.hports[p].link = 1 then { s with hports := vupd s.hports p fun x => { x with link := 0 } }.selectPtp else s

/-- LANE_PLL_LOSS (R467): 0–15 HL0–HL15, 16–19 HP0–HP3. Nothing but the port is affected. -/
def execLanePllLoss (t : Nat) (port : Fin 20) (s : State) : Host.Outcome State Fault Refusal :=
  let s := s.begin t
  let s := { s with power := { s.power with pll := s.power.pll.set port false } }
  if h : port.val < 16 then
    let l : Fin 16 := ⟨port.val, h⟩
    match s.ports[l].state with
    | .off => .next s
    | .fault => .next s
    | _ =>
      let s := (s.setLink l .fault).updPort l fun p => { p with lockU0 := false, lockUS := false, lockSince := none }
      -- without block lock a receive run cannot go on (R310)
      let s := if s.lanes[l].run = 4 ∨ s.lanes[l].run = 5 then s.endLane l 6 else s
      .next ((s.portLost l).updPort l fun p => { p with fec := false })
  else
    .next (s.hostPortDown (Fin.ofNat 4 (port.val - 16)))

/-- DIE_TEMPERATURE_SAMPLE (R468), in 0.1 °C: one event for each excursion above 115 °C. -/
def execDieTemperatureSample (t : Nat) (temp : Int) (s : State) : Host.Outcome State Fault Refusal :=
  let s := s.begin t
  let hot := decide (1150 < temp)
  let new := hot && !s.power.dieHot
  let s := { s with power := { s.power with dieTemp := temp, dieHot := hot } }
  .next (if new then s.faultEvent 20 s.powerLoc 0xA000 0x02 0 (toU 32 temp) else s)

/-! ### READY (Table 18.6, R475, R476) -/

/-- A head holds up READY: its maker block is being read, the scan of its enumeration is due, or its trim plane is not confirmed (step 14). -/
def Head.starting (x : Head) : Bool :=
  x.inService && (x.idState == .reading || (x.blockOk && x.scanDue && x.fullRuns == 0) ||
    ((x.idState == .verified || x.idState == .unverified) && !x.trimOk && !x.trimFailed))

/-- Steps 9–16 of Table 18.6 are complete. -/
def State.startedUp (s : State) : Bool :=
  s.power.autoOn && !s.sync.startup && ((fins 64).all fun h => !s.heads[h].starting) &&
  ((fins 16).all fun c => s.chains[c].state != .ramp && !(s.chains[c].state == .armed && s.mayRamp c))

/-- Change the device state with its event (R442, R476). -/
def State.setDevice (s : State) (st : Nat) : State :=
  let old := s.devState
  { s with devState := st }.stateChanged 20 s.resetLoc 0xA000 0x06 old st

/-- DEVICE_READY (R476): the die temperature at READY is kept (R303). -/
def execDeviceReady (t : Nat) (s : State) : Host.Outcome State Fault Refusal :=
  let s := s.begin t
  if s.devState = 0 ∧ s.startedUp then
    let temp := s.power.dieTemp
    .next { s.setDevice 1 with power := { s.power with readyTemp := some temp } }
  else .next s

/-! ### Power domains (R470–R472) -/

/-- A region of ES2–ES7, which lie in PD-ENG. -/
def engRegion (d : Fin 11) (r : Nat) : Bool := d.val == 7 && decide (1024 ≤ r) && decide (r < 4096)

/-- What a domain loses with its supply (R470, R471), the repairs of its arrays among it (R421). -/
def State.domainLost (s : State) (d : Fin 11) : State :=
  match d.val with
  | 0 =>
    let s : State := { s with hports := s.hports.map fun x => { x with link := if x.link = 1 then 0 else x.link },
                              power := { s.power with pll := Vector.ofFn fun (i : Fin 20) => decide (i.val < 16) && s.power.pll[i] } }
    s.selectPtp
  | 1 => { s with cans := s.cans.map fun c => { c with bus := 0, txErr := 0, rxErr := 0, parts := [] } }
  | 4 | 5 =>
    (linkHalf d.val).foldl (fun (s : State) l =>
      { s with power := { s.power with pll := s.power.pll.set l.val false } }.updPort l fun p =>
        { p with state := .off, fec := false, lockU0 := false, lockUS := false, lockSince := none }) s
  | 6 =>
    let s := (fins 8).foldl (fun s a => s.updAxis a fun x => { Axis.flag (x.flag 0 false) 1 true with state := .disabled }) s
    { s with chans := s.chans.map fun x => { x with count := 0, referenced := false, last := none, pend := none, u1 := none, u2 := none } }
  | 7 =>
    let s := { s with mem := { s.mem with used := s.mem.used.filter fun x => !engRegion d (16 * x.1) },
                      arrays := { s.arrays with remap := s.arrays.remap.filter fun x => !engRegion d (16 * (x.1 / 512)) } }
    ([2, 3, 4, 5, 6, 7] : List (Fin 8)).foldl (fun s e =>
      (((s.updEngine e fun y => { y with state := 0, heldFrom := none }).clearPad e).dropAccesses e).roleStops e) s
  | 8 => { s with chains := s.chains.map fun x => { x with samples := [], inRun := 0, outRun := 0, overI := 0, overV := 0, leakFrom := none } }
  | _ => s

/-- Put a domain in a state. -/
def State.setDomain (s : State) (d : Fin 11) (st : Nat) : State :=
  { s with domains := vupd s.domains d fun x => { x with state := st } }

/-- A domain has been idle for a time in ms, not 0, picked from its idle timer. -/
def State.idleFor (s : State) (d : Fin 11) (pick : Nat × Nat → Nat) : Bool :=
  match s.idle[d] with
  | some (f, r, o) => s.domainIdle d && pick (r, o) != 0 && decide (f + msFt (pick (r, o)) ≤ s.ft)
  | none => false

/-- Off after is not 0 and at most Retention after: the domain passes from ON directly to OFF (R470). -/
def State.offFirst (s : State) (d : Fin 11) : Bool :=
  match s.idle[d] with
  | some (_, r, o) => o != 0 && decide (o ≤ r)
  | none => false

/-- DOMAIN_RETENTION (R470): idle for Retention after. -/
def execDomainRetention (t : Nat) (d : Fin 11) (s : State) : Host.Outcome State Fault Refusal :=
  let s := s.begin t
  if s.domains[d].state = 2 ∧ s.idleFor d Prod.fst ∧ ¬ s.offFirst d then .next (s.setDomain d 1) else .next s

/-- Domains that are never switched off: PD-FIRE (R472), PD-SEC, PD-SYS. -/
def neverOff (d : Fin 11) : Bool := d.val == 3 || d.val == 9 || d.val == 10

/-- DOMAIN_OFF (R470): idle for Off after, counted from the start of idleness. -/
def execDomainOff (t : Nat) (d : Fin 11) (s : State) : Host.Outcome State Fault Refusal :=
  let s := s.begin t
  if (s.domains[d].state = 1 ∨ s.domains[d].state = 2) ∧ s.idleFor d Prod.snd ∧ ¬ neverOff d then
    .next ((s.domainLost d).setDomain d 0)
  else .next s

/-- DOMAIN_WAKE (R470, R471): a trigger that finds the domain WAKING waits for ON. -/
def execDomainWake (t : Nat) (d : Fin 11) (s : State) : Host.Outcome State Fault Refusal :=
  .next ((s.begin t).wake d)

/-- Wake latencies in ft (Table 18.5), from RETENTION and from OFF. -/
def wakeFt (d from_ : Nat) : Nat :=
  if from_ = 1 then usFt ([20, 5, 15, 2, 1000, 1000, 5, 20, 100].getD d 0)
  else msFt ([20, 1, 38, 0, 9, 9, 9, 35, 5].getD d 0)

/-- What a domain takes up when it comes from OFF; its engines start as at a reset (R405). -/
def State.domainBack (s : State) (d : Fin 11) : State :=
  match d.val with
  | 0 => { s with power := { s.power with pll := Vector.ofFn fun (i : Fin 20) => s.power.pll[i] || decide (16 ≤ i.val) } }
  | 1 => { s with cans := Vector.ofFn fun (f : Fin 2) => { s.cans[f] with bus := if s.oget (0x1F50 + f.val) 0x01 = 0 then 0 else 1 } }
  | 4 | 5 => ((linkHalf d.val).filter fun l => s.ports[l].state == .off).foldl State.trainPort s
  | 7 =>
    (([2, 3, 4, 5, 6, 7] : List (Fin 8)).filter fun e => !s.engines[e].halted).foldl (fun s e =>
      let s := if s.engines[e].bypassAt.isSome then s else s.startFirmware e
      (s.updEngine e fun y => { y with state := 2 }).roleResumes e) s
  | _ => s

/-- DOMAIN_WAKE_COMPLETE (R470): the wake latency has elapsed. From OFF the arrays of the domain have been tested, with the
faulty rows of its regions (R421): of the switched domains, only PD-ENG has swept arrays and goes OFF. -/
def execDomainWakeComplete (t : Nat) (w : Woken) (s : State) : Host.Outcome State Fault Refusal :=
  let s := s.begin t
  let d := w.domain
  let x := s.domains[d]
  if x.state = 3 ∧ x.wakeAt + wakeFt d.val x.wakeFrom ≤ s.ft then
    let s := s.setDomain d 2
    let s := if d = 0 then { s with hports := s.hports.map fun y => { y with buffered := 0 } } else s
    if x.wakeFrom = 0 then
      .next ((s.testArrays (w.found.filter fun f => engRegion d f.1) w.buffers).domainBack d)
    else .next s
  else .next s

/-! ### Orderly power-down (R477, R478) -/

/-- ORDERLY_POWER_DOWN (Table 18.7, step 1). -/
def execOrderlyPowerDown (t : Nat) (k : Kop) (s : State) : Host.Outcome State Fault Refusal :=
  .next ((s.begin t).command (.orderlyPowerDown t k) k 0xA000 0x05 1 fun s _ =>
    if 1 ≤ s.power.step ∧ s.power.step ≤ 5 then (s, .refuse abWork)
    else
      let now := s.ft
      let s := (fins 8).foldl State.drainZone (s.setDevice 2)
      ({ s with power := { s.power with step := 1, stepAt := now } }, .running))

/-- A step of the sequence is complete. -/
def State.nextStep (s : State) (n : Nat) : State :=
  let now := s.ft
  { s with power := { s.power with step := n, stepAt := now } }

/-- Step 2: the heads stop warming, every chain is written OFF. -/
def State.downHeads (s : State) : State := ((fins 64).foldl (fun s h => s.warmTo h 0) s).chainsOff

/-- Step 3: a chain that is still above 2,000 mV is recorded; STOP goes to every axis that is not at rest. -/
def State.downChains (s : State) : State :=
  (fins 8).foldl (fun s a => s.stopAxis a) s.recordHigh

/-- Step 4: every enabled axis runs the handshake. -/
def State.downAxes (s : State) : State :=
  (fins 8).foldl (fun s a => if s.axes[a].state = .idle then s.beginRetain a else s) s

/-- Step 5: the event buffer is committed, the operating seconds are written. -/
def State.downRecords (s : State) : State :=
  let s := s.commitAll
  { s with opStored := s.opNow }

/-- Step 6: the switched domains but PD-NET, PD-FLD, PD-SEC and PD-FIRE are OFF, PD-FIRE is in RETENTION. -/
def State.downDomains (s : State) : State :=
  let s := ([2, 4, 5, 6, 7, 8] : List (Fin 11)).foldl (fun s d => (s.domainLost d).setDomain d 0) s
  (s.setDomain 3 1).cmdEnd 0xA000 0x05 0

/-- POWER_DOWN_PROGRESS (R477): the next step of Table 18.7, once its condition holds. -/
def execPowerDownProgress (t : Nat) (s : State) : Host.Outcome State Fault Refusal :=
  let s := s.begin t
  match s.power.step with
  | 1 => if (fins 8).all fun z => s.zones[z].state == .disabled then .next (s.downHeads.nextStep 2) else .next s
  | 2 =>
    if ((fins 16).all fun c => decide (s.chains[c].vph < 2000)) ∨ s.power.stepAt + secFt 1 ≤ s.ft then
      .next (s.downChains.nextStep 3)
    else .next s
  | 3 => if (fins 8).all fun a => s.axes[a].state.rest then .next (s.downAxes.nextStep 4) else .next s
  | 4 => if (fins 8).all fun a => s.axes[a].state != .retaining then .next (s.downRecords.nextStep 5) else .next s
  | 5 => .next (s.downDomains.nextStep 6)
  | _ => .next s

end Sys2Proof.Machine
end

