-- ==== Sys2Proof/Machine/Dispatch.lean ====
section
/-! DEFINITION. The meaning of each command: one direct call for each constructor of `Instr`. -/

namespace Sys2Proof.Machine

/-- The effect of a command on everything but the queue. -/
def exec (i : Instr) (s : State) : Host.Outcome State Fault Refusal :=
  match i with
  | .itemSubmit t m descs => Sys2Proof.Machine.execItemSubmit t m descs s
  | .submission t sess => Sys2Proof.Machine.execSubmission t sess s
  | .admissionEvaluation t z => Sys2Proof.Machine.execAdmissionEvaluation t z s
  | .skippedNoMark t z => Sys2Proof.Machine.execSkippedNoMark t z s
  | .fireReport t l r => Sys2Proof.Machine.execFireReport t l r s
  | .fireReportTimeout t h row => Sys2Proof.Machine.execFireReportTimeout t h row s
  | .outcomeNotice t => Sys2Proof.Machine.execOutcomeNotice t s
  | .itemOutcomeRead t k => Sys2Proof.Machine.execItemOutcomeRead t k s
  | .rejectAssert t z handle => Sys2Proof.Machine.execRejectAssert t z handle s
  | .rejectRelease t z => Sys2Proof.Machine.execRejectRelease t z s
  | .zoneEnable t k z => Sys2Proof.Machine.execZoneEnable t k z s
  | .zoneDrain t k z => Sys2Proof.Machine.execZoneDrain t k z s
  | .zoneAbort t k z => Sys2Proof.Machine.execZoneAbort t k z s
  | .zoneDrainComplete t z => Sys2Proof.Machine.execZoneDrainComplete t z s
  | .rejectHoldClear t k z => Sys2Proof.Machine.execRejectHoldClear t k z s
  | .itemAbort t k handle => Sys2Proof.Machine.execItemAbort t k handle s
  | .templateBegin t m loadId hdr => Sys2Proof.Machine.execTemplateBegin t m loadId hdr s
  | .tileBegin t m loadId hdr => Sys2Proof.Machine.execTileBegin t m loadId hdr s
  | .loadData t m loadId offset data => Sys2Proof.Machine.execLoadData t m loadId offset data s
  | .loadCancel t m loadId => Sys2Proof.Machine.execLoadCancel t m loadId s
  | .templateVerify t idx => Sys2Proof.Machine.execTemplateVerify t idx s
  | .tileVerify t idx => Sys2Proof.Machine.execTileVerify t idx s
  | .templateDelete t k handle => Sys2Proof.Machine.execTemplateDelete t k handle s
  | .tileDelete t k handle => Sys2Proof.Machine.execTileDelete t k handle s
  | .rowLineCompose t flips => Sys2Proof.Machine.execRowLineCompose t flips s
  | .dramChannelFault t ch => Sys2Proof.Machine.execDramChannelFault t ch s
  | .dramRetrainComplete t ch ok => Sys2Proof.Machine.execDramRetrainComplete t ch ok s
  | .streamLine t m part => Sys2Proof.Machine.execStreamLine t m part s
  | .generationInstall t h => Sys2Proof.Machine.execGenerationInstall t h s
  | .encoderEdge t c wire level stamp => Sys2Proof.Machine.execEncoderEdge t c wire level stamp s
  | .heldEdgeProcess t z => Sys2Proof.Machine.execHeldEdgeProcess t z s
  | .edgeTimeout t z => Sys2Proof.Machine.execEdgeTimeout t z s
  | .frameBuildEvaluation t => Sys2Proof.Machine.execFrameBuildEvaluation t s
  | .cancelSend t h row => Sys2Proof.Machine.execCancelSend t h row s
  | .traverseArm t z => Sys2Proof.Machine.execTraverseArm t z s
  | .traverseEnd t z => Sys2Proof.Machine.execTraverseEnd t z s
  | .alignmentPattern t k z cmd => Sys2Proof.Machine.execAlignmentPattern t k z cmd s
  | .syncFrameSend t p => Sys2Proof.Machine.execSyncFrameSend t p s
  | .syncFrameReceive t p f => Sys2Proof.Machine.execSyncFrameReceive t p f s
  | .fireTimerStep t => Sys2Proof.Machine.execFireTimerStep t s
  | .syncHoldover t => Sys2Proof.Machine.execSyncHoldover t s
  | .syncStartupEnd t => Sys2Proof.Machine.execSyncStartupEnd t s
  | .boardFaultAssert t k v => Sys2Proof.Machine.execBoardFaultAssert t k v s
  | .vphSample t c mv sense => Sys2Proof.Machine.execVphSample t c mv sense s
  | .vphSampleTimeout t c => Sys2Proof.Machine.execVphSampleTimeout t c s
  | .sourceResistanceEstimate t c => Sys2Proof.Machine.execSourceResistanceEstimate t c s
  | .temperatureStale t h => Sys2Proof.Machine.execTemperatureStale t h s
  | .supplyOn t k c => Sys2Proof.Machine.execSupplyOn t k c s
  | .supplyOff t k c => Sys2Proof.Machine.execSupplyOff t k c s
  | .chainSupplyReset t k c => Sys2Proof.Machine.execChainSupplyReset t k c s
  | .supplyRampStart t c => Sys2Proof.Machine.execSupplyRampStart t c s
  | .rampTimeout t c => Sys2Proof.Machine.execRampTimeout t c s
  | .inrushTimeout t c => Sys2Proof.Machine.execInrushTimeout t c s
  | .switchLeak t c => Sys2Proof.Machine.execSwitchLeak t c s
  | .hvDieLoss t die => Sys2Proof.Machine.execHvDieLoss t die s
  | .linkBringup t l => Sys2Proof.Machine.execLinkBringup t l s
  | .linkBringupRetry t l => Sys2Proof.Machine.execLinkBringupRetry t l s
  | .portAutoBringup t l => Sys2Proof.Machine.execPortAutoBringup t l s
  | .enumerate t k l => Sys2Proof.Machine.execEnumerate t k l s
  | .echoMeasurement t l a echoes lam => Sys2Proof.Machine.execEchoMeasurement t l a echoes lam s
  | .timePairSend t l => Sys2Proof.Machine.execTimePairSend t l s
  | .lineFrameTransmit t l => Sys2Proof.Machine.execLineFrameTransmit t l s
  | .statusFrame t l r => Sys2Proof.Machine.execStatusFrame t l r s
  | .lossReport t l r => Sys2Proof.Machine.execLossReport t l r s
  | .controlResponse t l r => Sys2Proof.Machine.execControlResponse t l r s
  | .controlTimeout t l a => Sys2Proof.Machine.execControlTimeout t l a s
  | .statusTimeout t l a => Sys2Proof.Machine.execStatusTimeout t l a s
  | .neighbourLockTimeout t l a => Sys2Proof.Machine.execNeighbourLockTimeout t l a s
  | .portBlockLockLoss t l => Sys2Proof.Machine.execPortBlockLockLoss t l s
  | .spareTakeoverL0 t k l => Sys2Proof.Machine.execSpareTakeoverL0 t k l s
  | .spareTakeoverL1 t k l => Sys2Proof.Machine.execSpareTakeoverL1 t k l s
  | .spareRelease t k l => Sys2Proof.Machine.execSpareRelease t k l s
  | .laneMove t l => Sys2Proof.Machine.execLaneMove t l s
  | .reverseBlock t l b content => Sys2Proof.Machine.execReverseBlock t l b content s
  | .dualLockRegained t l => Sys2Proof.Machine.execDualLockRegained t l s
  | .restore t k l => Sys2Proof.Machine.execRestore t k l s
  | .headVerification t h c => Sys2Proof.Machine.execHeadVerification t h c s
  | .trimLoad t h c => Sys2Proof.Machine.execTrimLoad t h c s
  | .scanBlockStart t h => Sys2Proof.Machine.execScanBlockStart t h s
  | .scanBlockComplete t h aborted v0 vs => Sys2Proof.Machine.execScanBlockComplete t h aborted v0 vs s
  | .scanIntervalExpiry t h => Sys2Proof.Machine.execScanIntervalExpiry t h s
  | .scanFull t k h => Sys2Proof.Machine.execScanFull t k h s
  | .scanRebaseline t k h => Sys2Proof.Machine.execScanRebaseline t k h s
  | .warmStep t h => Sys2Proof.Machine.execWarmStep t h s
  | .cooldownReturn t h => Sys2Proof.Machine.execCooldownReturn t h s
  | .wireDisagreement t c cause => Sys2Proof.Machine.execWireDisagreement t c cause s
  | .ssiRead t c stamp bits idleHigh wentLow => Sys2Proof.Machine.execSsiRead t c stamp bits idleHigh wentLow s
  | .sincosSample t c x y => Sys2Proof.Machine.execSincosSample t c x y s
  | .indexPulse t c active stamp => Sys2Proof.Machine.execIndexPulse t c active stamp s
  | .channelStarted t c => Sys2Proof.Machine.execChannelStarted t c s
  | .channelClear t k c => Sys2Proof.Machine.execChannelClear t k c s
  | .channelPreset t k c v => Sys2Proof.Machine.execChannelPreset t k c v s
  | .speedSample t c => Sys2Proof.Machine.execSpeedSample t c s
  | .markEdge t m stamp active => Sys2Proof.Machine.execMarkEdge t m stamp active s
  | .markOffer t m => Sys2Proof.Machine.execMarkOffer t m s
  | .switchEdge t sw stamp level => Sys2Proof.Machine.execSwitchEdge t sw stamp level s
  | .gateTest t k g => Sys2Proof.Machine.execGateTest t k g s
  | .axisEnable t k a retHighFor => Sys2Proof.Machine.execAxisEnable t k a retHighFor s
  | .axisDisable t k a => Sys2Proof.Machine.execAxisDisable t k a s
  | .moveAbsolute t k a v => Sys2Proof.Machine.execMoveAbsolute t k a v s
  | .moveRelative t k a v => Sys2Proof.Machine.execMoveRelative t k a v s
  | .axisStop t k a => Sys2Proof.Machine.execAxisStop t k a s
  | .axisHome t k a v => Sys2Proof.Machine.execAxisHome t k a v s
  | .followStart t k a => Sys2Proof.Machine.execFollowStart t k a s
  | .followEnd t k a => Sys2Proof.Machine.execFollowEnd t k a s
  | .axisPowerDown t k a => Sys2Proof.Machine.execAxisPowerDown t k a s
  | .retRelease t a => Sys2Proof.Machine.execRetRelease t a s
  | .retentionCheck t a retLow => Sys2Proof.Machine.execRetentionCheck t a retLow s
  | .retentionComplete t a => Sys2Proof.Machine.execRetentionComplete t a s
  | .retentionTimeout t a => Sys2Proof.Machine.execRetentionTimeout t a s
  | .axisPreset t k a v => Sys2Proof.Machine.execAxisPreset t k a v s
  | .axisClear t k a => Sys2Proof.Machine.execAxisClear t k a s
  | .groupMove t k g targets => Sys2Proof.Machine.execGroupMove t k g targets s
  | .groupStop t k g => Sys2Proof.Machine.execGroupStop t k g s
  | .moveComplete t a => Sys2Proof.Machine.execMoveComplete t a s
  | .stopComplete t a => Sys2Proof.Machine.execStopComplete t a s
  | .virtualLimitCrossed t a => Sys2Proof.Machine.execVirtualLimitCrossed t a s
  | .coarseStep t a dir => Sys2Proof.Machine.execCoarseStep t a dir s
  | .driverSupplyLoss t a => Sys2Proof.Machine.execDriverSupplyLoss t a s
  | .feedMoveStart t z => Sys2Proof.Machine.execFeedMoveStart t z s
  | .calibrationTemperatureCheck t => Sys2Proof.Machine.execCalibrationTemperatureCheck t s
  | .encoderCollectionComplete t c => Sys2Proof.Machine.execEncoderCollectionComplete t c s
  | .collectionTimeout t c => Sys2Proof.Machine.execCollectionTimeout t c s
  | .encoderComputeDone t c => Sys2Proof.Machine.execEncoderComputeDone t c s
  | .encoderVerifyDone t c => Sys2Proof.Machine.execEncoderVerifyDone t c s
  | .calibrationApply t c => Sys2Proof.Machine.execCalibrationApply t c s
  | .applyTimeout t c => Sys2Proof.Machine.execApplyTimeout t c s
  | .receiveRunStart t l lane => Sys2Proof.Machine.execReceiveRunStart t l lane s
  | .receiveRunComplete t l openOff oldEye => Sys2Proof.Machine.execReceiveRunComplete t l openOff oldEye s
  | .transmitRunStart t l lane => Sys2Proof.Machine.execTransmitRunStart t l lane s
  | .transmitLockTimeout t l => Sys2Proof.Machine.execTransmitLockTimeout t l s
  | .requestCancel t k slot => Sys2Proof.Machine.execRequestCancel t k slot s
  | .requestEncoderCal t k slot target deadline => Sys2Proof.Machine.execRequestEncoderCal t k slot target deadline s
  | .requestLaneCal t k slot target deadline => Sys2Proof.Machine.execRequestLaneCal t k slot target deadline s
  | .requestElementScan t k slot target deadline => Sys2Proof.Machine.execRequestElementScan t k slot target deadline s
  | .requestMemoryTest t k slot target deadline => Sys2Proof.Machine.execRequestMemoryTest t k slot target deadline s
  | .requestWindowCheck t slot => Sys2Proof.Machine.execRequestWindowCheck t slot s
  | .requestDeadline t slot => Sys2Proof.Machine.execRequestDeadline t slot s
  | .calibrationValueWrite t k index sub v => Sys2Proof.Machine.execCalibrationValueWrite t k index sub v s
  | .autoCalibrationWrite t k index sub v => Sys2Proof.Machine.execAutoCalibrationWrite t k index sub v s
  | .hostLinkUp t x => Sys2Proof.Machine.execHostLinkUp t x s
  | .hostLinkDown t x => Sys2Proof.Machine.execHostLinkDown t x s
  | .ptpMessage t p m => Sys2Proof.Machine.execPtpMessage t p m s
  | .hello t src m => Sys2Proof.Machine.execHello t src m s
  | .proof t src hid sig => Sys2Proof.Machine.execProof t src hid sig s
  | .handshakeTimeout t hid => Sys2Proof.Machine.execHandshakeTimeout t hid s
  | .heartbeat t dg => Sys2Proof.Machine.execHeartbeat t dg s
  | .close t dg => Sys2Proof.Machine.execClose t dg s
  | .ack t dg m => Sys2Proof.Machine.execAck t dg m s
  | .ackSend t sess => Sys2Proof.Machine.execAckSend t sess s
  | .retransmit t sess n => Sys2Proof.Machine.execRetransmit t sess n s
  | .leaseExpiry t sess => Sys2Proof.Machine.execLeaseExpiry t sess s
  | .sessionEvict t k idx => Sys2Proof.Machine.execSessionEvict t k idx s
  | .ownershipClaim t k z => Sys2Proof.Machine.execOwnershipClaim t k z s
  | .ownershipRelease t k z => Sys2Proof.Machine.execOwnershipRelease t k z s
  | .ownershipTake t k z => Sys2Proof.Machine.execOwnershipTake t k z s
  | .ownershipLapse t z => Sys2Proof.Machine.execOwnershipLapse t z s
  | .registerWrite t k index sub v => Sys2Proof.Machine.execRegisterWrite t k index sub v s
  | .txBegin t k => Sys2Proof.Machine.execTxBegin t k s
  | .txWrite t k txid index sub v => Sys2Proof.Machine.execTxWrite t k txid index sub v s
  | .txRead t k txid index sub => Sys2Proof.Machine.execTxRead t k txid index sub s
  | .txCommit t k txid limit => Sys2Proof.Machine.execTxCommit t k txid limit s
  | .txAbort t k txid => Sys2Proof.Machine.execTxAbort t k txid s
  | .txStatus t k txid => Sys2Proof.Machine.execTxStatus t k txid s
  | .commitApply t slot => Sys2Proof.Machine.execCommitApply t slot s
  | .commitTimeout t slot => Sys2Proof.Machine.execCommitTimeout t slot s
  | .transactionExpiry t slot => Sys2Proof.Machine.execTransactionExpiry t slot s
  | .transactionSlotAbort t k slot => Sys2Proof.Machine.execTransactionSlotAbort t k slot s
  | .canFrame t f m => Sys2Proof.Machine.execCanFrame t f m s
  | .canReassemblyTimeout t f host => Sys2Proof.Machine.execCanReassemblyTimeout t f host s
  | .storeSave t k => Sys2Proof.Machine.execStoreSave t k s
  | .storeSaveRestart t k => Sys2Proof.Machine.execStoreSaveRestart t k s
  | .storeErase t k => Sys2Proof.Machine.execStoreErase t k s
  | .saveComplete t ok => Sys2Proof.Machine.execSaveComplete t ok s
  | .engineWatchdog t e => Sys2Proof.Machine.execEngineWatchdog t e s
  | .engineInvalidOperation t e => Sys2Proof.Machine.execEngineInvalidOperation t e s
  | .engineRestart t e sig0 sig1 => Sys2Proof.Machine.execEngineRestart t e sig0 sig1 s
  | .uncorrectableWord t w => Sys2Proof.Machine.execUncorrectableWord t w s
  | .regionTestStart t => Sys2Proof.Machine.execRegionTestStart t s
  | .regionTestComplete t faults singles => Sys2Proof.Machine.execRegionTestComplete t faults singles s
  | .memoryTestRegion t => Sys2Proof.Machine.execMemoryTestRegion t s
  | .transparentTestWrite t k v => Sys2Proof.Machine.execTransparentTestWrite t k v s
  | .lifeCycleRequest t k r stuck => Sys2Proof.Machine.execLifeCycleRequest t k r stuck s
  | .ownerKeyLoad t k r => Sys2Proof.Machine.execOwnerKeyLoad t k r s
  | .headMakerListReplace t k r => Sys2Proof.Machine.execHeadMakerListReplace t k r s
  | .headMakerListAdd t k r => Sys2Proof.Machine.execHeadMakerListAdd t k r s
  | .headMakerListRemove t k r => Sys2Proof.Machine.execHeadMakerListRemove t k r s
  | .tamperDetect t x stuck => Sys2Proof.Machine.execTamperDetect t x stuck s
  | .tamperClear t k active => Sys2Proof.Machine.execTamperClear t k active s
  | .recordCommit t => Sys2Proof.Machine.execRecordCommit t s
  | .recorderClear t k tok => Sys2Proof.Machine.execRecorderClear t k tok s
  | .operatingSecondsWrite t => Sys2Proof.Machine.execOperatingSecondsWrite t s
  | .calendarDiscipline t => Sys2Proof.Machine.execCalendarDiscipline t s
  | .calendarSet t k v => Sys2Proof.Machine.execCalendarSet t k v s
  | .snapshot t k => Sys2Proof.Machine.execSnapshot t k s
  | .boardSnapshot t k => Sys2Proof.Machine.execBoardSnapshot t k s
  | .snapshotPeriod t => Sys2Proof.Machine.execSnapshotPeriod t s
  | .snapshotLatch t => Sys2Proof.Machine.execSnapshotLatch t s
  | .snapshotBufferSwap t => Sys2Proof.Machine.execSnapshotBufferSwap t s
  | .powerOnReset t p => Sys2Proof.Machine.execPowerOnReset t p s
  | .externalReset t p => Sys2Proof.Machine.execExternalReset t p s
  | .restart t k => Sys2Proof.Machine.execRestart t k s
  | .debugReset t p => Sys2Proof.Machine.execDebugReset t p s
  | .supplyOutOfRange t x p => Sys2Proof.Machine.execSupplyOutOfRange t x p s
  | .coreSupplyExcursion t supply begins uv => Sys2Proof.Machine.execCoreSupplyExcursion t supply begins uv s
  | .clockLoss t x stuck p => Sys2Proof.Machine.execClockLoss t x stuck p s
  | .lanePllLoss t port => Sys2Proof.Machine.execLanePllLoss t port s
  | .dieTemperatureSample t temp => Sys2Proof.Machine.execDieTemperatureSample t temp s
  | .deviceReady t => Sys2Proof.Machine.execDeviceReady t s
  | .domainRetention t d => Sys2Proof.Machine.execDomainRetention t d s
  | .domainOff t d => Sys2Proof.Machine.execDomainOff t d s
  | .domainWake t d => Sys2Proof.Machine.execDomainWake t d s
  | .domainWakeComplete t x => Sys2Proof.Machine.execDomainWakeComplete t x s
  | .orderlyPowerDown t k => Sys2Proof.Machine.execOrderlyPowerDown t k s
  | .powerDownProgress t => Sys2Proof.Machine.execPowerDownProgress t s
  | .blockLockLost t l x => Sys2Proof.Machine.execBlockLockLost t l x s
  | .blockLockGained t l x => Sys2Proof.Machine.execBlockLockGained t l x s
  | .fecModeStart t l => Sys2Proof.Machine.execFecModeStart t l s
  | .canBusError t f transmit primary => Sys2Proof.Machine.execCanBusError t f transmit primary s
  | .busOffRecovery t f => Sys2Proof.Machine.execBusOffRecovery t f s
  | .terminationCalibrationDone t l code => Sys2Proof.Machine.execTerminationCalibrationDone t l code s
  | .commandedResetTimeout t p => Sys2Proof.Machine.execCommandedResetTimeout t p s
  | .engineRunning t e => Sys2Proof.Machine.execEngineRunning t e s

end Sys2Proof.Machine
end

