-- ==== Sys2Proof/Machine/Time.lean ====
section
/-! DEFINITION. The passing of time without a command. -/

namespace Sys2Proof.Machine

/-- The first request that waits behind none of its session and whose domains are ON, and the other ones. -/
def dueOf (on : List (Fin 11) → Bool) : List (Fin 32) → List Waiting → Option (Waiting × List Waiting)
  | _, [] => none
  | before, w :: ws =>
    if w.sess ∉ before ∧ on w.domains then some (w, ws)
    else (dueOf on (w.sess :: before) ws).map fun r => (r.1, w :: r.2)

/-- The request whose turn has come (R358, R472). -/
def State.nextWaiting (s : State) : Option (Waiting × List Waiting) := dueOf s.domainsOn [] s.waiting

/-- One cycle of CLK_FT: the fire timer counts on (R137), what falls due leaves by itself (R281), the idle timers take what the last command left
(R470), a life-cycle transition that is pending is carried out (R426); on every second one CLK_ENG, of half its frequency, has a cycle
(R408). -/
def State.tick (s : State) : State :=
  let t := s.ft + 1
  let s := (s.begin t).transition
  if t % 2 = 0 then s.arrayCycle else s

end Sys2Proof.Machine
end

