-- ==== Sys2Proof/Machine/Step.lean ====
section
/-! DEFINITION. One step of the block: the command at the front of the queue, or, on an empty queue, one cycle of CLK_FT. -/

namespace Sys2Proof.Machine

/-- One step. With no command in the queue, a request whose turn has come is carried out (R358, R472); else one cycle of the fire timer
passes (R137; DESIGN CHOICE, notes/assumptions/1). -/
def step (s : State) : Host.Outcome State Fault Refusal :=
  match s.pending with
  | c :: rest => exec c { s with pending := rest }
  | [] =>
    match s.nextWaiting with
    | some (w, rest) => exec w.cmd { s with waiting := rest, resumed := some w.sess }
    | none => .next s.tick

/-- `s` with the command that a table word spells at the front of its queue: no row of the table gives bits. -/
def State.withFetchWord (s : State) (nbits w : Nat) : State :=
  match decodeTableWord nbits w with
  | some c => { s with pending := c :: s.pending }
  | none => s

end Sys2Proof.Machine
end

