-- ==== Sys2Proof/Safety.lean ====
section
/-! DEFINITION. What a safe run is (the block never stops), what is always true of its memory, and the terms in which the
statements speak of a request that is permitted. -/

namespace Sys2Proof.Safety

open Sys2Proof.Machine

/-- A command goes on from a state: it answers a next state. -/
def GoesOn (i : Sys2Proof.Instr) (s : State) : Prop := ∃ t, exec i s = .next t

/-- A step goes on from a state. -/
def StepGoesOn (s : State) : Prop := ∃ t, step s = .next t

/-- Both DRAM channels list their bytes in the one canonical form. -/
def DramCanonical (s : State) : Prop := Memory.wf s.dram[(0 : Fin 2)] ∧ Memory.wf s.dram[(1 : Fin 2)]

/-- The board's life has ended: the fuse of RETIRED is blown, the state read from the fuses is RETIRED, and no further transition
waits (Table 16.1). -/
def Retired (s : State) : Prop := bitOf s.fuses 2 = true ∧ s.lifeCycle = 4 ∧ s.lcPending = none

/-- The commands that begin a reset (Table 18.2). -/
def IsReset : Sys2Proof.Instr → Prop
  | .powerOnReset _ _ => True
  | .externalReset _ _ => True
  | .debugReset _ _ => True
  | .supplyOutOfRange _ _ _ => True
  | .clockLoss _ _ _ _ => True
  | .commandedResetTimeout _ _ => True
  | _ => False

/-- A request that need not wait (R358): one whose turn has come, or one that arrives behind no other of its session. -/
def grant (s : State) (k : Kop) : Option (Fin 32) × State :=
  match s.resumed with
  | some i => (some i, { s with resumed := none }.accessBy k i)
  | none =>
    match s.request k with
    | (some i, x) => (if (x.waitingOf i).isEmpty then some i else none, x)
    | (none, x) => (none, x)

/-- The state once the request of a command has been taken at tick `t`: the datagram is recorded with its session and nothing of the
machine beyond its sessions and ports has changed. -/
def taken (s : State) (t : Nat) (k : Kop) : State := (grant (s.begin t) k).2

/-- A WRITE of `v` to the object `i`.`sub` is taken by session `w` and permitted: the object exists and is writable, the length, the
roles, the ownership and the row's range allow it, a request word of Table 11.4 is not malformed, and the domains of the object's hardware
are ON (R315, R349–R354, R472). -/
def Admits (s : State) (t : Nat) (k : Kop) (i sub v : Nat) (w : Fin 32) : Prop :=
  (grant (s.begin t) k).1 = some w ∧ k.names 2 i sub = true ∧ (taken s t k).writeCode k i sub w = 0 ∧
  requestMalformed i v = false ∧ (taken s t k).domainsOn (objDomains i sub) = true ∧
  ∃ r, objRow i sub = some r ∧ rowRange r v = true

/-- The answer to a command whose action is done, and to one whose action goes on (R352, Table 13.3). -/
def done (s : State) (w : Fin 32) (k : Kop) (i sub : Nat) : State :=
  (s.setStat i sub { state := 2, code := 0 }).respond w (s.plainResp k 0)
def going (s : State) (w : Fin 32) (k : Kop) (i sub : Nat) : State :=
  (s.setStat i sub { state := 1, code := 0 }).respond w (s.plainResp k 0)

/-- The answer that refuses a request with an abort code. -/
def refused (s : State) (w : Fin 32) (k : Kop) (code : Nat) : State := s.respond w (s.plainResp k code)

/-- Who acts: the session, with the role that permits the write. -/
def actor (s : State) (t : Nat) (k : Kop) (i sub : Nat) (w : Fin 32) : Who := (taken s t k).whoFor i sub w

end Sys2Proof.Safety
end

