-- ==== Sys2Proof/Certificates/Slice0/Obligations.lean ====
section
/-! DEFINITION. The statements for the provers: what the commands of the block do, by the numbered rules of the spec, clause by clause,
and what holds of every state. -/

open Sys2Proof Sys2Proof.Machine

/-! ### The block as a whole -/

/-- A step with a command at the front of the queue runs that command, with the rest of the queue waiting. -/
def Obligations.StepRunsTheFrontCommand : Prop :=
  ∀ (c : Instr) (rest : List Instr) (s : State), s.pending = c :: rest → step s = exec c { s with pending := rest }

/-- A step on an empty queue carries out the request whose turn has come, or lets one cycle of CLK_FT pass: the fire timer advances by 1 ft
(R137) and every second cycle is one of CLK_ENG at the swept arrays; that this is what an idle step stands for is the model's choice
(notes/assumptions/1, 39, 44).
What a cycle does at those arrays (R409, R411–R413, R418): an access alone on a port of a scratchpad is served, its answer is the word as it was
and the word becomes what the operation makes of it, in the shadow while the region of the word is locked and in its cells otherwise; a word that
an earlier port writes makes the later port repeat its access, and a retry is counted; at most two engines and accesses of the DMA unit and one
access of the hardware clients are served by a bank; the words keep their canonical form; a port of a hardware client gets one access. -/
def Obligations.AnIdleStepIsOneCycle : Prop :=
  (∀ (s : State) (w : Waiting) (rest : List Waiting), s.pending = [] → s.nextWaiting = some (w, rest) →
    step s = exec w.cmd { s with waiting := rest, resumed := some w.sess }) ∧
  (∀ s : State, s.pending = [] → s.nextWaiting = none → (s.begin (s.ft + 1)).ft = s.ft + 1 ∧
    (s.lcPending = none → s.ft % 2 = 0 → step s = .next (s.begin (s.ft + 1))) ∧
    (s.lcPending = none → s.ft % 2 = 1 → ∃ a : Arrays, step s = .next { s.begin (s.ft + 1) with arrays := a } ∧ a.cycle = s.arrays.cycle + 1 ∧
      (smapWf 0 s.arrays.words → smapWf 0 a.words)) ∧
    (s.ft % 2 = 0 → step s = .next (s.begin (s.ft + 1)).transition)) ∧
  (∀ (x : Arrays) (k : Fin 8) (q : Access), smapWf 0 x.words → smapWf 0 x.shadow →
    x.portA k = some q ∧ x.portB k = none ∨ x.portA k = none ∧ x.portB k = some q →
    let w := x.at_ q.array q.word
    let y := x.padCycle k
    y.answers = x.answers ++ [(q, w)] ∧ y.at_ q.array q.word = wordAfter q.op w ∧
    (∀ key, x.shadowed q.array q.word = true ∨ key ≠ x.home q.array q.word → sget 0 y.words key = sget 0 x.words key) ∧
    (∀ key, x.shadowed q.array q.word = false ∨ key ≠ wordKey q.array q.word → sget 0 y.shadow key = sget 0 x.shadow key) ∧
    y.waiting = x.waiting.erase q) ∧
  (∀ (x : Arrays) (k : Fin 8) (a b : Access), smapWf 0 x.words → smapWf 0 x.shadow → x.portA k = some a → x.portB k = some b →
    a.word = b.word → a.edge ≤ b.edge → wordWrites a.op = true →
    let w := x.at_ a.array a.word
    let y := x.padCycle k
    y.answers = x.answers ++ [(a, w)] ∧ y.at_ a.array a.word = wordAfter a.op w ∧ y.waiting = x.waiting.erase a ∧
    y.retries[k] = x.retries[k] + 1) ∧
  (∀ (x : Arrays) (n : Fin 4) (q : Access) (v : Nat),
    (q, v) ∈ (x.bankCycle n).answers → (q, v) ∉ x.answers → wordWrites q.op = false → v = x.at_ q.array q.word) ∧
  (∀ (x : Arrays) (n : Fin 4), (x.waiting.filter fun q => q.array == 8 + n.val && onP2 q).length ≤ 1 →
    (x.bankCycle n).answers.length ≤ x.answers.length + 3) ∧
  (∀ (s : State) (a p : Nat), (s.issued.filter fun q => q.array == a && hwPort q == some p).length ≤ 1)

/-- The block never stops: every command, in every state, answers a next state. -/
def Obligations.EveryCommandGoesOn : Prop := ∀ (c : Instr) (s : State), Safety.GoesOn c s

/-- No command touches the queue of the commands that wait: a step takes its own command off and nothing else. -/
def Obligations.CommandsLeaveTheQueueAlone : Prop :=
  ∀ (c : Instr) (s s' : State), exec c s = .next s' → s'.pending = s.pending

/-- Every step keeps both DRAM channels in the one canonical form. -/
def Obligations.StepsKeepTheDramCanonical : Prop :=
  ∀ s s' : State, Safety.DramCanonical s → step s = .next s' → Safety.DramCanonical s'

/-- DRAM is in canonical form at reset. -/
def Obligations.ResetDramIsCanonical : Prop := Safety.DramCanonical State.reset

/-- Which commands change external DRAM: load data, the verification of a tile (its per-line table and the parity of its words) and a row-line
(spontaneous bit changes found when reading, and the corrected word written back). Every other command leaves every byte of both channels as it
is (R75, R79, R83, R108, R110). -/
def Obligations.OnlyLoadsAndReadsTouchDram : Prop :=
  ∀ (c : Instr) (s s' : State), exec c s = .next s' →
    (∀ t m loadId off data, c ≠ .loadData t m loadId off data) → (∀ t idx, c ≠ .tileVerify t idx) →
    (∀ t flips, c ≠ .rowLineCompose t flips) → ∀ ch a, dramGet s'.dram[(ch : Fin 2)] a = dramGet s.dram[ch] a

/-- Of the commands, only a life-cycle request and a reset move the life-cycle fuses, and none the serial number; the steps that follow a request
are those of a step on an empty queue (R426; notes/assumptions/34). -/
def Obligations.OnlyRequestsMoveTheLifeCycle : Prop :=
  ∀ (c : Instr) (s s' : State), exec c s = .next s' →
    s'.serial = s.serial ∧
    (¬ Safety.IsReset c → (∀ t k r stuck, c ≠ .lifeCycleRequest t k r stuck) →
      s'.lifeCycle = s.lifeCycle ∧ s'.toggles = s.toggles ∧ s'.fuses = s.fuses ∧ s'.lcPending = s.lcPending)

/-- A retired controller stays retired, whatever is commanded (Table 16.1: RETIRED has no successor). -/
def Obligations.RetiredIsForEver : Prop :=
  ∀ s s' : State, Safety.Retired s → step s = .next s' → Safety.Retired s'

/-- The recorder's records change only when a record is committed, when the recorder is cleared, or when a power-down writes what waits
(R445, R449, R477), or when a commanded reset commits what it finds uncommitted (R465); every other command keeps each of them, and, a reset apart, the number last
used. -/
def Obligations.RecordsChangeOnlyAtCommitAndClear : Prop :=
  ∀ (c : Instr) (s s' : State), exec c s = .next s' →
    (∀ t, c ≠ .recordCommit t) → (∀ t k tok, c ≠ .recorderClear t k tok) → (∀ t, c ≠ .powerDownProgress t) →
    (∀ t p, c ≠ .commandedResetTimeout t p) →
    s'.recorder.records = s.recorder.records ∧ s'.recorder.clears = s.recorder.clears ∧
    (¬ Safety.IsReset c → s'.recorder.lastSeq = s.recorder.lastSeq)

/-- The two banks of the persistent store change only by a save, an erasure, the end of a save, or a life-cycle request that wipes the store (R384–R387,
Table 16.1). -/
def Obligations.BanksChangeOnlyBySaveAndErase : Prop :=
  ∀ (c : Instr) (s s' : State), exec c s = .next s' →
    (∀ t k, c ≠ .storeSave t k) → (∀ t k, c ≠ .storeSaveRestart t k) → (∀ t k, c ≠ .storeErase t k) →
    (∀ t ok, c ≠ .saveComplete t ok) → (∀ t k r stuck, c ≠ .lifeCycleRequest t k r stuck) → s'.banks = s.banks

/-- A bit of the tamper latch, once set, falls only by a clearance or at a reset (R431–R433). -/
def Obligations.TamperLatchHolds : Prop :=
  ∀ (c : Instr) (s s' : State) (n : Fin 9), exec c s = .next s' → ¬ Safety.IsReset c → (∀ t k active, c ≠ .tamperClear t k active) →
    bitOf s.tamper.latch n.val = true → bitOf s'.tamper.latch n.val = true

/-! ### Items, outcomes, zones (chapters 2 and 9) -/

/-- ITEM_SUBMIT and SUBMISSION (R341, R506, R43, R50): a message of 1 to 64 descriptors is taken with its number and waits with its session. When
its turn has come, its item takes the slot freed longest ago with that slot's generation, and the session is answered with the item's handle and
reason 0: QUEUED. -/
def Obligations.SubmissionsAreTakenAndQueued : Prop :=
  (∀ (t : Nat) (m : Ktp) (ds : List Descriptor) (s s1 : State) (i : Fin 32) (n : Nat),
    ds ≠ [] → ds.length ≤ 64 →
    (s.begin t).sequenced 0x18 m (fun s => s.staleIn (descsZone ds)) = (some (i, n), s1) →
    exec (.itemSubmit t m ds) s =
      .next ((s1.markRx i n).updSess i fun x => { x with subs := x.subs ++ [(n, ds)] })) ∧
  (∀ (t : Nat) (i : Fin 32) (s : State) (n : Nat) (d : Descriptor) (it : Item) (slot : Fin 256) (rest : List Nat),
    s.sessions[i].subs = [(n, [d])] → n < s.sessions[i].rxCum → parseItem d = some it → s.freeSlots = slot.val :: rest →
    (s.zoneItems it.zone).length < s.zc it.zone 0x13 → (∀ x ∈ s.zoneItems it.zone, x.hostId ≠ it.hostId) →
    ∃ (s2 : State) (x : Item), exec (.submission t i) s =
        .next (s2.sendSeq i 0x19 12 (submitReply [(it.hostId, slot.val + 256 * s.gens[slot], 0)]) [] 0) ∧
      s2.freeSlots = rest ∧ s2.items.map Item.handle = s.items.map Item.handle ++ [x.handle] ∧ x ∈ s2.items ∧ x.state = .queued ∧
      x.slot = slot.val ∧ x.gen = s.gens[slot] ∧ x.zone = it.zone ∧ x.hostId = it.hostId ∧ x.sid = s.sid i ∧ s2.sessions[i].subs = [])

/-- ADMISSION_EVALUATION and SKIPPED_NO_MARK (R47, R48, R52): a head item that passes every static check and the sluice enters the polder with its
origin, which is the zone's reference from now on where it was not resolved before; the origin is the item's start itself, or counts from the zone's
reference, or from the item's mark; a MARK item whose window has passed ends as SKIPPED_NO_MARK. -/
def Obligations.TheSluiceAdmits : Prop :=
  (∀ (t : Nat) (z : Fin 8) (s : State) (it : Item) (o : Int),
    let s0 := s.begin t
    let s1 := s0.updItem it.handle fun x => { x with origin := some o }
    let s1 := if it.origin.isNone then s1.updZone z fun x => { x with refOrigin := some o } else s1
    let it1 : Item := { it with origin := some o }
    s0.running 2 = true → (s0.queue z).head? = some it → s0.staticReason it = 0 → ¬ (it.startRule = 2 ∧ it.markAt = none) → it.zone = z →
    s0.resolveOrigin it = some o →
    s1.outOfOrder z o = false → s1.sluiceOk z o = true → (it.direct = true → s1.zc z 0x20 ≠ 0 ∧ s1.streamCapacity it1 = true) →
    s1.residentVerified it1 = true → s1.headsReady z = true →
    s1.domains[(2 : Fin 11)].state = 2 → s1.loadFits z (maxRes s1.zones[z].res (s1.itemRes it1)) = true → s1.commitHolds z = false →
    exec (.admissionEvaluation t z) s = .next (s1.admitItem it1 o)) ∧
  (∀ (s : State) (it : Item), it.origin = none →
    (it.startRule = 0 → s.resolveOrigin it = some it.start) ∧
    (∀ r : Int, it.startRule = 1 → s.zones[it.zone].refOrigin = some r → s.resolveOrigin it = some (pos48 (r + it.start))) ∧
    (∀ m : Int, it.startRule = 2 → it.markAt = some m → s.resolveOrigin it = some (pos48 (m + it.start)))) ∧
  (∀ (t : Nat) (z : Fin 8) (s : State) (it : Item) (reason : Nat),
    (s.begin t).running 2 = true → ((s.begin t).queue z).head? = some it → (s.begin t).staticReason it = reason → reason ≠ 0 →
    exec (.admissionEvaluation t z) s = .next ((s.begin t).finish it.handle 11 reason)) ∧
  (∀ (t : Nat) (z : Fin 8) (s : State) (it : Item),
    ((s.begin t).queue z).head? = some it → (s.begin t).running 2 = true → it.startRule = 2 → it.markAt = none → (s.begin t).windowPast it = true →
    exec (.skippedNoMark t z) s = .next ((s.begin t).finish it.handle 10 0))

/-- What admission and an early end leave (R48, R53, Table 2.5): the item admitted is ADMITTED with its origin and holds its reservation, no line of
it is composed, its zone counts it and ends where the item's last line lies; an item that ends as REJECTED or SKIPPED_NO_MARK is final, counted
under its code, and its notice waits.
What finding a spoil cause does to an item in the polder (R55–R62): the item is SPOILED with that cause, its tick and stamps (R441) and its
location, its zone counts it, and its notice waits; its reservation is released. -/
def Obligations.AdmissionSpoilingAndEndsAreRecorded : Prop :=
  (
    (∀ (s : State) (it : Item) (o : Int), it ∈ s.items →
      (s.admitItem it o).zones[it.zone].admitted = s.zones[it.zone].admitted + 1 ∧
      (s.admitItem it o).zones[it.zone].zoneEnd = some (pos48 (o + s.lineOff it.zone (it.lineCount - 1))) ∧
      ∃ x ∈ (s.admitItem it o).items, x.handle = it.handle ∧ x.state = .admitted ∧ x.origin = some o ∧ x.reserved = true ∧
        ∀ p ∈ x.prog, p.composed = 0 ∧ p.built = 0) ∧
    (∀ (s : State) (it : Item) (code : Fin 12) (reason : Nat), s.item? it.handle = some it →
      (s.finish it.handle code.val reason).notices =
        s.notices ++ [{ handle := it.handle, zone := it.zone, hostId := it.hostId, sid := it.sid, noSlot := none }] ∧
      (s.finish it.handle code.val reason).zones[it.zone].outcomes[code] = s.zones[it.zone].outcomes[code] + 1 ∧
      ∃ x ∈ (s.finish it.handle code.val reason).items, x.handle = it.handle ∧ x.state = .final ∧
        x.outcome = some { code := code.val, reason, finalFt := s.ft, op := s.opNow, cal := s.calStamp, loc := s.loc 5 it.zone.val })) ∧ (
    ∀ (s : State) (it : Item) (code : Fin 12) (loc : Nat) (line : Option Nat) (sess role : Nat),
      s.item? it.handle = some it → it.inPolder = true →
      let s' := s.spoil it.handle code.val loc line sess role
      (∃ x ∈ s'.items, x.handle = it.handle ∧ x.state = .spoiled ∧ x.reserved = false ∧
        x.outcome = some { code := code.val, reason := 0, finalFt := s.ft, op := s.opNow, cal := s.calStamp, loc } ∧ x.bySession = sess ∧ x.byRole = role) ∧
      s'.notices = s.notices ++ [{ handle := it.handle, zone := it.zone, hostId := it.hostId, sid := it.sid, noSlot := none }] ∧
      s'.zones[it.zone].outcomes[code] = s.zones[it.zone].outcomes[code] + 1)

/-- FIRE_REPORT and FIRE_REPORT_TIMEOUT (R53, R54, R186, R221): the report that a line fired as composed takes the line off its row, counts it
with its head, in the counters and in a snapshot latched since the firing (R456), and delivers the item with the last of its reports; a report
after the item's outcome has been handed over is counted as late, that of a withdrawn line too. Of the other results a clamped line also counts as
fired, with its event, and a suppressed one as suppressed. A withdrawn line that its head fired all the same spoils its item. A line whose report
is 100 µs overdue spoils its item as a link loss, at the port and node of its head; a void line of which no report comes spoils nothing. -/
def Obligations.FireReportsCount : Prop :=
  (∀ (t : Nat) (l : Fin 16) (rep : FireRep) (s : State) (h : Fin 64) (it : Item) (y : Stamped),
    let s0 := s.begin t
    let r : Fin 4 := Fin.ofNat 4 rep.row
    s0.headAt l rep.addr = some h → rep.ok = true → rep.row < 4 → rep.result = 0 → s0.item? rep.handle = some it →
    (s0.heads[h].rows[r].stamped.find? fun y =>
      y.handle == rep.handle && y.void == rep.void && (y.line % max 1 it.lineCount == rep.line && y.fire == rep.fireFt)) = some y →
    exec (.fireReport t l rep) s = .next ((s0.reportLine h r y 0).settle it.zone)) ∧
  (∀ (s : State) (h : Fin 64) (r : Fin 4) (y : Stamped) (it : Item),
    let s0 := (s.headCounts h r y 0).updRow h r fun x =>
      { x with stamped := x.stamped.filter (fun y' => y' ≠ y), lastFire := max x.lastFire y.fire, lastEnd := max x.lastEnd y.lastSeg }
    let s1 := s0.itemFired y false
    s0.item? y.handle = some it →
    s.reportLine h r y 0 =
      if it.noticed ∨ it.held then { s1 with lateReports := s1.lateReports + 1 }
      else (s1.updItem y.handle fun x => { x with reported := x.reported + 1 }).deliver y.handle) ∧
  (∀ (s : State) (h : Fin 64) (r : Fin 4) (y : Stamped) (result : Nat),
    let m := s.mirrorOf h r y
    let s0 := s.updRow h r fun x => { x with mirror := m, lastFire := max x.lastFire y.fire, lastEnd := max x.lastEnd y.lastSeg }
    let fired := fun (z : State) (n : Nat) => (z.latchFired h y.fire y.drops).updHead h fun x =>
      { x with linesFired := x.linesFired + 1, dropsFired := wordAfter (.add64 y.drops) x.dropsFired, clamped := x.clamped + n }
    s.headCounts h r y 0 = fired s0 0 ∧ s.headCounts h r y 2 = fired (s0.clampEvent h r y) 1 ∧ s.headCounts h r y 4 = s ∧
    (result = 1 ∨ result = 3 ∨ result = 5 ∨ result = 6 →
      s.headCounts h r y result = s.updHead h fun x => { x with suppressed := x.suppressed + 1 })) ∧
  (∀ (s : State) (h : Fin 64) (r : Fin 4) (w : Withdrawn) (it : Item) (result : Nat),
    let s0 := (s.updRow h r fun x => { x with withdrawn := x.withdrawn.filter fun y => y ≠ w }).headCounts h r w.toStamped result
    s0.item? w.handle = some it →
    (it.noticed = true ∨ it.held = true → s.reportWithdrawn h r w result = { s0 with lateReports := s0.lateReports + 1 }) ∧
    (it.noticed = false → it.held = false → w.void = false → result = 0 →
      s.reportWithdrawn h r w result = s0.spoil w.handle 3 (s0.linkLoc h r) (some w.line) 0 0)) ∧
  (∀ (t : Nat) (h : Fin 64) (r : Fin 4) (s : State) (y : Stamped),
    let s0 := s.begin t
    let s1 := s0.updRow h r fun x => { x with stamped := x.stamped.map fun z => if z = y then { z with missed := true } else z }
    let s2 := s1.spoil y.handle 3 (s1.linkLoc h r) none 0 0
    (s0.heads[h].rows[r].stamped.find? fun l => !l.missed && decide (l.fire + usFt 100 ≤ s0.ft)) = some y →
    (y.void = true → exec (.fireReportTimeout t h r) s = .next s1) ∧
    (∀ it : Item, y.void = false → s2.item? y.handle = some it → exec (.fireReportTimeout t h r) s = .next (s2.settle it.zone)))

/-- OUTCOME_NOTICE and ITEM_OUTCOME_READ (R63, R64): the oldest waiting outcome leaves the queue and goes to its session, with the event of the item; a read of
the outcome of a selected, held item answers its record and lets the item go.
REJECT_ASSERT, REJECT_RELEASE and REJECT_HOLD_CLEAR (R72, R276, R277): a spoiled item whose gate position is due asserts the zone's output once; the output
falls, to the level of its polarity, when its shortest pulse and every item's extension are over, and in a scanning zone their items have left; clearing a hold counts what was not shown past the gate as gone. -/
def Obligations.OutcomesReachTheHostAndTheGate : Prop :=
  (
    (∀ (t : Nat) (s : State) (n : Notice) (rest : List Notice), s.notices = n :: rest →
      exec (.outcomeNotice t) s = .next (({ s.begin t with notices := rest } : State).handNotice n)) ∧
    (∀ (s : State) (n : Notice) (it : Item) (o : Outcome) (i : Fin 32),
      n.noSlot = none → s.item? n.handle = some it → it.outcome = some o → s.noticeSession n = some i →
      let f := s.lineFigures it
      let s1 := (s.updItem n.handle fun x => { x with handedFired := f.1, handedBad := f.2, noticed := true, held := false }).outcomeEvent
        n.zone n.handle n.hostId o f.2 f.1 it.bySession it.byRole
      let s2 := s1.sendSeq i 0x1B 44 (outcomeBody (({ it with handedFired := f.1, handedBad := f.2 } : Item).record o)) [n.handle] n.zone.val
      s.handNotice n = ({ s2 with noticesSent := s1.noticesSent + 1 } : State).settle n.zone) ∧
    (∀ (t : Nat) (k : Kop) (s : State) (w : Fin 32) (it : Item),
      let s1 := Safety.taken s t k
      let h := s1.outcomeSelect w
      let s2 := s1.respond w { s1.plainResp k 0 with size := 40, data := fld (s1.outcomeRead h) 0 320, dlen := 40 }
      (Safety.grant (s.begin t) k).1 = some w → k.names 1 0x2400 0x02 = true → s1.sessions[w].roles &&& 15 ≠ 0 → k.off = 0 → k.len = 40 →
      s2.item? h = some it → it.held = true →
      exec (.itemOutcomeRead t k) s = .next ((s2.updItem h fun x => { x with held := false, noticed := true }).settle it.zone))) ∧ (
    (∀ (t : Nat) (z : Fin 8) (handle : Nat) (s : State) (g : Fin 8) (it : Item),
      let s0 := s.begin t
      s0.zoneGate z = some g → s0.item? handle = some it → it.zone = z → it.state = .spoiled ∨ it.state = .spoiledTail →
      it.pulsed = false → it.gone = false → s0.zones[z].hold = false → s0.gateDue g it = true →
      exec (.rejectAssert t z handle) s = .next ((s0.assertGate g handle).settle z)) ∧
    (∀ (s : State) (g : Fin 8) (h : Nat),
      (s.assertGate g h).gates = vupd s.gates g (fun x =>
        { x with asserted := true, since := if s.gates[g].asserted then x.since else s.ft,
                 minEnd := max x.minEnd (s.ft + usFt (s.gc g 0x03)), handles := x.handles ++ ((s.item? h).map (s.pulseOf g)).toList,
                 pulses := x.pulses + 1 }) ∧
      (s.assertGate g h).out = if s.gates[g].asserted then s.out else s.out ++ [.gate g.val (true != (s.gc g 0x05 == 1))]) ∧
    (∀ (t : Nat) (z : Fin 8) (s : State) (g : Fin 8),
      let s0 := (s.begin t).endTests
      let s1 := s0.updGate g fun y => { y with asserted := false, handles := [], test := false }
      s0.zoneGate z = some g → s0.gates[g].asserted = true → s0.zones[z].hold = false → s0.gates[g].minEnd ≤ s0.ft →
      s0.gates[g].handles.all s0.pulseOver = true →
      exec (.rejectRelease t z) s = .next (((if s1.zc z 0x30 = 0 then s1
        else s0.gates[g].handles.foldl (fun s p => s.updItem p.handle fun it => { it with gone := true }) s1).gateOut g false).settle z)) ∧
    (∀ (t : Nat) (k : Kop) (z : Fin 8) (s : State) (w : Fin 32),
      let s1 := Safety.taken s t k
      Safety.Admits s t k (zIdx z) 0x16 1 w → s1.zones[z].hold = true →
      exec (.rejectHoldClear t k z) s =
        .next (Safety.done (((s1.lossLeft z).foldl (fun s h => s.updItem h fun it => { it with gone := true }) s1).releaseHold z (s1.lossLeft z).length)
          w k (zIdx z) 0x16)))

/-- ZONE_ENABLE, ZONE_DRAIN, ZONE_ABORT and ZONE_DRAIN_COMPLETE (R69, R70, Table 2.9).
A zone whose state changes says so: the state holds, and one STATE_CHANGED event of the scheduler's subsystem carries the old and the new state
(R442). -/
def Obligations.ZonesAreControlledAndReport : Prop :=
  (
    (∀ (t : Nat) (k : Kop) (z : Fin 8) (s : State) (w : Fin 32),
      let s1 := Safety.taken s t k
      let s2 := s1.setZoneState z .enabled
      Safety.Admits s t k (zIdx z) 0x11 1 w → s1.lifeCycle = 1 ∨ s1.lifeCycle = 2 ∨ s1.lifeCycle = 3 → s1.devState = 1 →
      s1.zones[z].state = .disabled → s1.zoneReady z = 0 →
      exec (.zoneEnable t k z) s =
        .next (Safety.done ((s2.updZone z fun x => { x with refOrigin := none, hwm := s2.counted z }).discardHeld z) w k (zIdx z) 0x11)) ∧
    (∀ (t : Nat) (k : Kop) (z : Fin 8) (s : State) (w : Fin 32),
      let s1 := Safety.taken s t k
      Safety.Admits s t k (zIdx z) 0x11 2 w → s1.zones[z].state = .enabled →
      exec (.zoneDrain t k z) s = .next (Safety.done ((s1.setZoneState z .draining).rejectQueue z) w k (zIdx z) 0x11)) ∧
    (∀ (t : Nat) (k : Kop) (z : Fin 8) (s : State) (w : Fin 32),
      let s1 := Safety.taken s t k
      let a := Safety.actor s t k (zIdx z) 0x11 w
      let s2 := (s1.setZoneState z .aborting).rejectQueue z
      Safety.Admits s t k (zIdx z) 0x11 3 w → s1.zones[z].state = .enabled ∨ s1.zones[z].state = .draining →
      exec (.zoneAbort t k z) s =
        .next (Safety.done ((((s2.zoneItems z).filter s2.unsettled).foldl (fun s it => s.spoil it.handle 5 (s.loc 5 z.val) none a.sess.val a.role) s2).settle z)
          w k (zIdx z) 0x11)) ∧
    (∀ (t : Nat) (z : Fin 8) (s : State),
      let s0 := s.begin t
      s0.zones[z].state = .draining ∨ s0.zones[z].state = .aborting → (s0.polder z).isEmpty = true →
      exec (.zoneDrainComplete t z) s = .next (s0.setZoneState z (if (s0.tracked z).isEmpty then .disabled else .tail)))) ∧ (
    ∀ (s : State) (z : Fin 8) (st : ZoneState), s.zones[z].state ≠ st →
      (s.setZoneState z st).zones = vupd s.zones z (fun x => { x with state := st }) ∧
      s.setZoneState z st = (s.updZone z fun x => { x with state := st }).event 0x2801 (s.loc 5 z.val)
        [(16, zIdx z), (8, 0x10), (8, 0), (32, s.zones[z].state.code), (32, st.code), (64, s.ft)])

/-! ### Templates, tiles, DRAM, composition (chapters 3 and 4) -/

/-- TEMPLATE_BEGIN and TILE_BEGIN (R78, R81, R83, R339): a load that the session may open, for which an index and room are free, takes the next index with its
generation into LOADING, is remembered with its session and answered ACCEPTED with its handle.
TEMPLATE_DELETE and TILE_DELETE (R86, Table 3.4): without references a RESIDENT one is FREE at once; with references it is RETIRING. -/
def Obligations.AssetsOpenAndAreDeleted : Prop :=
  (
    (∀ (t : Nat) (m : Ktp) (loadId hdr : Nat) (s s1 s3 : State) (i : Fin 32) (n idx b0 b1 : Nat),
      let s2 := s1.markRx i n
      let a := newAsset idx (sget 0 s2.tplGen idx) hdr (s2.sid i) loadId b0 b1 (tplBytes hdr 0) (tplBytes hdr 1) 0
      (s.begin t).sequenced 0x11 m State.staleNowhere = (some (i, n), s1) → s2.beginCond i loadId (tplHeaderOk hdr) = 0 →
      s2.nextTemplate = some (idx, s3) → s2.allocTemplate hdr = some (b0, b1) →
      exec (.templateBegin t m loadId hdr) s =
        .next ((({ s3 with templates := s3.templates ++ [a] } : State).updSess i fun x =>
          { x with loads := x.loads ++ [{ loadId, tile := false, idx, done := none }] }).sendLoad i loadId false 0 a.tplHandle 0)) ∧
    (∀ (t : Nat) (m : Ktp) (loadId hdr : Nat) (s s1 s3 : State) (i : Fin 32) (n idx ch b0 b1 : Nat),
      let s2 := s1.markRx i n
      let a := newAsset idx (sget 0 s2.tileGen idx) hdr (s2.sid i) loadId b0 b1 (tileLength hdr) (8 * tilePlanes hdr * tileHeight hdr) ch
      (s.begin t).sequenced 0x12 m State.staleNowhere = (some (i, n), s1) → s2.beginCond i loadId (tileHeaderOk hdr) = 0 →
      s2.nextTile = some (idx, s3) → s2.allocTile hdr = some (ch, b0, b1) →
      exec (.tileBegin t m loadId hdr) s =
        .next ((({ s3 with tiles := s3.tiles ++ [a] } : State).updSess i fun x =>
          { x with loads := x.loads ++ [{ loadId, tile := true, idx, done := none }] }).sendLoad i loadId true 0 a.tileHandle 0))) ∧ (
    (∀ (t : Nat) (k : Kop) (handle : Nat) (s : State) (w : Fin 32) (a : Asset),
      let s1 := Safety.taken s t k
      Safety.Admits s t k 0x2800 0x05 handle w → s1.template? handle = some a → a.st = .resident →
      exec (.templateDelete t k handle) s =
        .next (Safety.done (if a.refs = 0 then s1.freeTemplate a.idx else s1.updTemplate a.idx fun x => { x with st := .retiring }) w k 0x2800 0x05)) ∧
    (∀ (t : Nat) (k : Kop) (handle : Nat) (s : State) (w : Fin 32) (a : Asset),
      let s1 := Safety.taken s t k
      Safety.Admits s t k 0x2800 0x09 handle w → s1.tile? handle = some a → a.st = .resident →
      exec (.tileDelete t k handle) s =
        .next (Safety.done (if a.refs = 0 then s1.freeTile a.idx else s1.updTile a.idx fun x => { x with st := .retiring }) w k 0x2800 0x09)))

/-- LOAD_DATA and LOAD_CANCEL (R79, R340): bytes within the data that overlap none received are written where they belong and counted; a load that is cancelled
without references goes back to FREE. The checksum of the data as received grows with each piece, wherever in the data it lies (R82), and the bytes count
against the share of the DRAM that host writes have (R77).
TEMPLATE_VERIFY and TILE_VERIFY (R82, R85): complete data whose bytes as received (R340) have the CRC-32C of the header become RESIDENT; a tile whose data decodes within its
header's limits gets its line index, beside its data on the other channel. -/
def Obligations.LoadsAreReceivedAndVerified : Prop :=
  (
    (∀ (t : Nat) (m : Ktp) (loadId off : Nat) (data : Bytes) (s s1 : State) (i : Fin 32) (n : Nat) (l : Load) (a : Asset),
      let s2 := s1.markRx i n
      let s3 := (if l.tile then s2.writeTile a off data else s2.writeTemplate a off data).hostWrite data.length
      data ≠ [] → (s.begin t).sequenced 0x13 m State.staleNowhere = (some (i, n), s1) →
      (s2.sessions[i].openLoads.find? fun l => l.loadId == loadId) = some l → s2.assetAt l.tile l.idx = some a → a.st = .loading →
      off + data.length ≤ a.dataLength l.tile → piecesMeet a.pieces off data.length = false →
      exec (.loadData t m loadId off data) s =
        .next (s3.updAsset l.tile a.idx fun x =>
          { x with got := x.got + data.length, crc := x.crc ^^^ crc32cPart data (a.dataLength l.tile - off - data.length), pieces := x.pieces ++ [(off, data.length)],
                   padOk := x.padOk && (l.tile || (data.zipIdx).all fun p => padByteOk a.hdr (off + p.2) p.1) })) ∧
    (∀ (t : Nat) (m : Ktp) (loadId : Nat) (s s1 : State) (i : Fin 32) (n : Nat) (l : Load) (a : Asset),
      let s2 := s1.markRx i n
      (s.begin t).sequenced 0x14 m State.staleNowhere = (some (i, n), s1) → (s2.sessions[i].openLoads.find? fun l => l.loadId == loadId) = some l →
      s2.assetAt l.tile l.idx = some a → a.st = .loading → a.refs = 0 →
      exec (.loadCancel t m loadId) s = .next ((s2.closeLoad l.tile l.idx 4 0).freeAsset l.tile l.idx))) ∧ (
    (∀ (t idx : Nat) (s : State) (a : Asset),
      let s0 := s.begin t
      s0.assetAt false idx = some a → s0.loadDone false a = true → a.padOk = true → crc32cJoin (tplLength a.hdr) a.crc = tplCrc a.hdr →
      exec (.templateVerify t idx) s = .next ((s0.closeLoad false idx 1 0).updAsset false idx fun x => { x with st := .resident })) ∧
    (∀ (t idx : Nat) (s : State) (a : Asset) (es : List (Nat × Nat × Nat)),
      let s0 := s.begin t
      let n := tilePlanes a.hdr * tileHeight a.hdr
      s0.assetAt true idx = some a → s0.loadDone true a = true → crc32cJoin (tileLength a.hdr) a.crc = tileCrc a.hdr →
      tileLimitsOk (tileWidth a.hdr) (tilePlanes a.hdr) n 0 (s0.tileData a) = true →
      indexTile (tileWidth a.hdr) (tilePlanes a.hdr) (tileMaxOps a.hdr) (tileMaxBytes a.hdr) n 0 0 (s0.tileData a) = some es →
      exec (.tileVerify t idx) s =
        .next (((s0.chanWrite (1 - a.ch) a.base1 (indexBytes es)).closeLoad true idx 1 0).updAsset true idx fun x => { x with st := .resident })))

/-- DRAM_CHANNEL_FAULT, DRAM_RETRAIN_COMPLETE and STREAM_LINE (R103, R106, R107, R111, R469): a channel that fails leaves nothing it held, and trains
again, ready on success, given up after the third failure in a row; a part of a plane-line of a direct item is stored with its
parity. -/
def Obligations.DramFailsAndRetrains : Prop :=
  (∀ (t : Nat) (ch : Fin 2) (s : State), (s.begin t).power.trained[ch] = true →
    let s1 : State := { s.begin t with
      power := { s.power with trained := s.power.trained.set ch false, training := s.power.training.set ch true },
      dataErrors := s.dataErrors + 1, stream := [] }
    let s2 := ((s1.templates.filter fun a => a.st == .loading).map (·.idx)).foldl (fun s i => s.closeLoad false i 2 0) s1
    let s3 := ((s2.tiles.filter fun a => a.st == .loading).map (·.idx)).foldl (fun s i => s.closeLoad true i 2 0) s2
    let s4 := (s3.templates.map (·.idx)).foldl (fun s i => s.invalidate false i) s3
    let s5 := ((s4.tiles.map (·.idx)).foldl (fun s i => s.invalidate true i) s4).faultEvent 6
      (((s4.tiles.map (·.idx)).foldl (fun s i => s.invalidate true i) s4).loc 6 ch.val) 0x2800 0x0C 0 0
    exec (.dramChannelFault t ch) s = .next (s5.spoilAll s5.uncomposed 9 (s5.loc 6 ch.val))) ∧
  (∀ (t : Nat) (ch : Fin 2) (s : State), (s.begin t).power.training[ch] = true →
    exec (.dramRetrainComplete t ch true) s =
      .next (({ s.begin t with power := { s.power with trained := s.power.trained.set ch true, training := s.power.training.set ch false,
                                                       failures := s.power.failures.set ch 0 } } : State).faultEvent
        6 (s.loc 6 ch.val) 0x2800 0x0C 0 0)) ∧
  (∀ (t : Nat) (ch : Fin 2) (s : State), (s.begin t).power.training[ch] = true → (s.begin t).power.failures[ch] = 2 →
    exec (.dramRetrainComplete t ch false) s =
      .next (({ s.begin t with power := { s.power with training := s.power.training.set ch false,
                                                       failures := s.power.failures.set ch 3 } } : State).faultEvent
        6 (s.loc 6 ch.val) 0x2800 0x0C 0 0)) ∧
  (∀ (t : Nat) (m : Ktp) (p : StreamPart) (s s1 : State) (i : Fin 32) (n q : Nat) (it : Item),
    partForm p = true → (s.begin t).sequenced 0x1A m (fun s => s.countStale p.handle) = (some (i, n), s1) →
    s1.item? p.handle = some it → s1.hostActs it.zone s1.sessions[i].hostId s1.sessions[i].roles = true →
    s1.partFate it p = .store q →
    exec (.streamLine t m p) s = .next (((s1.markRx i n).storePart it q p).updSess i fun x => { x with ringFull := false }))

/-- ROW_LINE_COMPOSE and GENERATION_INSTALL (R93–R98, R126, R127, R161): the row served composes its next line into its ring, as the nozzle map in force
for the item leaves it, or, of a pattern item, as the pattern has it; a pending generation that may be installed is in force, numbered one higher, and the one before is kept for the items that started under it. -/
def Obligations.RowsComposeAndGenerationsInstall : Prop :=
  (∀ (t : Nat) (flips : List BitFlip) (s : State) (h : Fin 64) (r : Fin 4) (it : Item) (l : Nat) (m : SMap Nat),
    let s0 := flips.foldl State.flip (s.begin t)
    let cols := (activeNozzles (s0.planeMap h r)).filterMap fun j => s0.nozCol it h r j (s0.traverseOf it l)
    s0.pickRow = some (h, r, it, l) → it.pattern = 0 →
    s0.composePlane it (pmPlane (s0.planeMap h r)) (it.lineOf l) cols = .codes m →
    exec (.rowLineCompose t flips) s =
      .next (s0.writeRing it h r l (if pmRole (s0.planeMap h r) = 2 then s0.mapRedundant it h r (s0.traverseOf it l) (it.lineOf l) m
        else s0.mapPrimary it h r (s0.traverseOf it l) (it.lineOf l) m))) ∧
  (∀ (t : Nat) (flips : List BitFlip) (s : State) (h : Fin 64) (r : Fin 4) (it : Item) (l : Nat),
    let s0 := flips.foldl State.flip (s.begin t)
    s0.pickRow = some (h, r, it, l) → it.pattern ≠ 0 →
    exec (.rowLineCompose t flips) s =
      .next (s0.writeRing it h r l { codes := s0.patternCodes it h r (it.lineOf l), subst := 0, spread := 0, reass := 0, unhid := [] })) ∧
  (∀ (t : Nat) (h : Fin 64) (s : State),
    (s.begin t).heads[h].pend.isSome = true → (s.begin t).mayInstall h = true →
    let s1 := (s.begin t).installGen h
    exec (.generationInstall t h) s = .next (match s1.zoneOfHead h with | some z => s1.newSet z [] | none => s1)) ∧
  (∀ (s : State) (h : Fin 64) (p : NozMap), s.heads[h].pend = some p →
    ∃ nb ng : Nat, s.installGen h =
      (((s.updHead h fun x => { x with inst := { p with inst := x.inst.inst + 1 }, prev := some x.inst, pend := none, installs := x.installs + 1 }
        ).discardUnstarted (h :: (s.updHead h fun x =>
          { x with inst := { p with inst := x.inst.inst + 1 }, prev := some x.inst, pend := none, installs := x.installs + 1 }).partnerHeads h)).event
        0x4811 (s.loc 9 h.val) [(8, h.val), (32, nb), (32, ng)]))

/-! ### Position feedback, marks, gates (chapter 9) -/

/-- ENCODER_EDGE (R257, R258): an edge of A or B, accepted once its level has held for the filter length, counts one in the direction of A and B; the
edge of the other input at the same tick is a quadrature fault; a channel in FAULT, one that
is OFF and one of another mode only follow the levels. -/
def Obligations.EncoderEdgesCount : Prop :=
  ∀ (t : Nat) (c : Fin 8) (wire : Fin 2) (level : Bool) (stamp : Nat) (s : State),
    let s0 := s.begin t
    let x := s0.chans[c]
    let d : Int := if wire = 0 then (if level != x.levB then 1 else -1) else (if level == x.levA then 1 else -1)
    let s1 := s0.updChan c fun y => { y with levA := if wire = 0 then level else y.levA, levB := if wire = 1 then level else y.levB,
                                             lastEdge := some (stamp, wire.val) }
    (if wire = 0 then x.levA else x.levB) ≠ level → s0.filtered stamp (s0.cc c 0x05) = true →
    exec (.encoderEdge t c wire level stamp) s = .next (
      if s0.cc c 0x01 ≠ 1 ∨ x.state = .off then s1
      else if x.lastEdge.any (fun e => e.1 == stamp && e.2 != wire.val) = true then s1.chanFault c 4
      else if x.state = .fault then s1
      else s1.countTo c (x.count + s1.inverted c d) stamp)

/-- WIRE_DISAGREEMENT, SSI_READ, SINCOS_SAMPLE and INDEX_PULSE (R258–R262, R267): a disagreement that lasts is a fault; an SSI position adds its step from the last; a sample pair whose amplitude holds moves the count with its phase; the first
index of a channel takes the present count as the index count. -/
def Obligations.FeedbackIsCounted : Prop :=
  (∀ (t : Nat) (c : Fin 8) (cause : Nat) (s : State),
    (s.begin t).cc c 0x01 = 1 → cause = 1 ∨ cause = 2 ∨ cause = 4 →
    exec (.wireDisagreement t c cause) s = .next ((s.begin t).chanFault c cause)) ∧
  (∀ (t : Nat) (c : Fin 8) (stamp bits : Nat) (s : State) (r : Int),
    let s0 := s.begin t
    let x := s0.chans[c]
    let p := fld (s0.cc c 0x0D) 6 6
    let raw : Int := s0.inverted c (ssiPos (s0.cc c 0x0D) bits)
    let step : Int := sx p (toU p (raw - r))
    let s1 := s0.updChan c fun y => { y with raw := some raw, bad := 0, good := y.good + 1 }
    s0.cc c 0x01 = 2 → x.state ≠ .off → x.state.counts = true → ssiErr (s0.cc c 0x0D) bits = false → x.raw = some r →
    step.natAbs ≤ s0.cc c 0x12 →
    exec (.ssiRead t c stamp bits true true) s = .next (s1.countTo c (x.count + step) (stamp + s1.cc c 0x11))) ∧
  (∀ (t : Nat) (c : Fin 8) (x y : Int) (s : State),
    let s0 := s.begin t
    let pr := (s0.corr c).phase x y
    let s1 := s0.updChan c fun q => { q with ampBad := 0, ampOkAt := q.ampOkAt, amp := min 65535 (roundRoot (1000000 * pr.2)),
                                             smpX := x, smpY := y }
    s0.cc c 0x01 = 3 → c.val < 4 → s0.chans[c].state = .starting → s0.chans[c].phase = none → 1 / 4 ≤ pr.2 → pr.2 ≤ 9 / 4 →
    exec (.sincosSample t c x y) s = .next (s1.updChan c fun y => { y with phase := some pr.1, sampleAt := s1.ft })) ∧
  (∀ (t : Nat) (c : Fin 8) (active : Bool) (stamp : Nat) (s : State),
    let s0 := s.begin t
    let x := s0.chans[c]
    s0.cc c 0x01 = 1 → s0.cc c 0x06 ≠ 0 → active = x.dirPos.getD true → s0.filtered stamp (s0.cc c 0x05) = true → x.state = .starting → x.last = none → s0.cc c 0x08 = 0 →
    exec (.indexPulse t c active stamp) s = .next (s0.updChan c fun y =>
      { y.shift 0 with last := some (y.count + 0), obsIdx := y.count + 0, referenced := true }))

/-- CHANNEL_STARTED, CHANNEL_CLEAR, CHANNEL_PRESET and SPEED_SAMPLE (R263, R266, R271): a channel whose start conditions hold becomes VALID; the clearing of a
channel whose condition has gone for 1 ms starts it again; a preset, refused while a zone of the channel moves items, sets the count and starts the trackers
afresh; the speed is sampled on the multiples of 12,500 ft.
MARK_EDGE, MARK_OFFER and GATE_TEST (R273, R274, R279). -/
def Obligations.ChannelsStartAndMarksAreOffered : Prop :=
  (
    (∀ (t : Nat) (c : Fin 8) (s : State),
      let s0 := s.begin t
      s0.chans[c].state = .starting → s0.mayStart c = true →
      exec (.channelStarted t c) s = .next ((s0.setChan c .valid).encValid c).checkSources) ∧
    (∀ (t : Nat) (k : Kop) (c : Fin 8) (s : State) (w : Fin 32),
      let s1 := Safety.taken s t k
      Safety.Admits s t k (cIdx c) 0x16 1 w → s1.chans[c].state = .fault → s1.chans[c].badAt + msFt 1 ≤ s1.ft →
      exec (.channelClear t k c) s = .next (Safety.done ((s1.startChan c).updChan c fun y => { y with cause := 0 }) w k (cIdx c) 0x16)) ∧
    (∀ (t : Nat) (k : Kop) (c : Fin 8) (v : Nat) (s : State) (w : Fin 32),
      let s1 := Safety.taken s t k
      Safety.Admits s t k (cIdx c) 0x17 v w →
      exec (.channelPreset t k c v) s = .next (
        if (s1.zonesOfChan c).all s1.zoneIdle = true then
          Safety.done ((s1.zonesOfChan c).foldl State.presetZone
            (s1.updChan c fun x => x.shift (sx 64 v - x.count))) w k (cIdx c) 0x17
        else Safety.refused s1 w k abWork)) ∧
    (∀ (t : Nat) (c : Fin 8) (s : State),
      let s0 := s.begin t
      s0.ft % 12500 = 0 →
      exec (.speedSample t c) s = .next (s0.updChan c fun x =>
        { x with speed := (s0.speedOf c).1, revBit := x.revNew, revNew := false, standstill := (s0.speedOf c).2,
                 hist := if (s0.speedOf c).2 then 0 else x.hist, u1 := if (s0.speedOf c).2 then none else x.u1,
                 u2 := if (s0.speedOf c).2 then none else x.u2 }))) ∧ (
    (∀ (t : Nat) (m : Fin 8) (stamp : Nat) (level : Bool) (s : State) (z : Fin 8), (s.begin t).markZone m = some z →
      (s.begin t).markFiltered m stamp = true → level = ((s.begin t).oget (mIdx m) 0x01 == 0) → (s.begin t).srcValid z = true →
      exec (.markEdge t m stamp level) s = .next (((s.begin t).updMark m fun x =>
        { x with waits := x.waits ++ [{ stamp, pos := none, close := none, closePos := none }] }).recordMarks z)) ∧
    (∀ (t : Nat) (m : Fin 8) (s : State) (z : Fin 8) (w : MarkWait) (ws : List MarkWait) (p : Int),
      let s0 := s.begin t
      let s1 := s0.updMark m fun x => { x with waits := x.waits.filter fun v => v ≠ w }
      s0.markZone m = some z → s0.marks[m].waits = w :: ws → w.pos = some p → s0.oget (mIdx m) 0x05 = 0 →
      s1.markOk z m p none = true → s1.running 2 = true →
      exec (.markOffer t m) s = .next ((s1.updMark m fun x =>
        { x with accepted := x.accepted + 1, lastPos := p, lastAt := w.stamp, some_ := true }).offerMark z m p)) ∧
    (∀ (t : Nat) (k : Kop) (g : Fin 8) (s : State) (w : Fin 32),
      let s1 := Safety.taken s t k
      Safety.Admits s t k (gIdx g) 0x0A 1 w → (∀ z, s1.gateZone g = some z → s1.zoneIdle z = true) → s1.gates[g].asserted = false →
      exec (.gateTest t k g) s = .next (Safety.done ((s1.updGate g fun x =>
        { x with asserted := true, test := true, since := s1.ft, minEnd := max x.minEnd (s1.ft + usFt (s1.gc g 0x03)) }).gateOut
          g true) w k (gIdx g) 0x0A)))

/-- The speed a channel reports never exceeds its configured maximum (R271). -/
def Obligations.SpeedsStayWithinTheMaximum : Prop :=
  ∀ (s : State) (c : Fin 8), ((s.speedOf c).1.natAbs ≤ s.cc c 0x0B) ∧ ((s.speedOf c).2 = true → (s.speedOf c).1 = 0)

/-! ### Heater supplies (chapter 6) -/

/-- VPH_SAMPLE (R176, R188, Table 6.6): while PD-HV is ON, and in RETENTION a millisecond after the last one, a sample is taken into the chain's
record, its current that of the sense voltage over the shunt (R493), moves the chain by at most one transition, drives the gate and is sent on to the
heads; a chain in RAMP trips on its timeout, then on its inrush time; any live chain trips on two samples over its current, then on two over its
voltage; 200 samples in the window bring RAMP and FAULT to ON, two outside bring ON to FAULT; a chain that is not live stays as it is. That a
transition to TRIPPED comes before one to ON is the model's choice (notes/assumptions/45). -/
def Obligations.SamplesMoveChains : Prop :=
  (∀ (t : Nat) (c : Fin 16) (mv : Nat) (sense : Int) (s : State),
    let s0 := s.begin t
    let s1 := s0.takeSample c mv (roundR ((sense : Rat) / (s0.lc c 0x45 : Rat)))
    s0.domains[(8 : Fin 11)].state = 2 ∨
      (s0.domains[(8 : Fin 11)].state = 1 ∧ ∀ a, s0.chains[c].lastSample = some a → a + msFt 1 ≤ s0.ft) →
    exec (.vphSample t c mv sense) s = .next (((s1.sampleStep c).driveGate c).sendSupply c mv)) ∧
  (∀ (s : State) (c : Fin 16) (mv : Nat) (ma : Int),
    let x := s.chains[c]
    let y := (s.takeSample c mv ma).chains[c]
    y.vph = mv ∧ y.current = ma ∧ y.lastSample = some s.ft ∧ y.state = x.state ∧
    y.inRun = (if s.lc c 0x43 ≤ mv ∧ mv ≤ s.lc c 0x44 then x.inRun + 1 else 0) ∧
    y.outRun = (if s.lc c 0x43 ≤ mv ∧ mv ≤ s.lc c 0x44 then 0 else x.outRun + 1) ∧
    y.overI = (if ((100 * s.lc c 0x49 : Nat) : Int) < ma then x.overI + 1 else 0)) ∧
  ∀ (s : State) (c : Fin 16),
    let x := s.chains[c]
    (x.state = .ramp → s.rampDue c = true → s.sampleStep c = s.tripChain c 1 0) ∧
    (x.state = .ramp → s.rampDue c = false → s.inrushDue c = true → s.sampleStep c = s.tripChain c 2 0) ∧
    (x.state = .on ∨ x.state = .fault → 2 ≤ x.overI → s.sampleStep c = s.tripChain c 3 0) ∧
    (x.state = .on ∨ x.state = .fault → x.overI < 2 → 2 ≤ x.overV → s.sampleStep c = s.tripChain c 4 0) ∧
    (x.state = .ramp → s.rampDue c = false → s.inrushDue c = false → x.overI < 2 → x.overV < 2 →
      s.sampleStep c = if 200 ≤ x.inRun then s.setChain c .on else s) ∧
    (x.state = .on → x.overI < 2 → x.overV < 2 → s.sampleStep c = if 2 ≤ x.outRun then s.faultChain c else s) ∧
    (x.state = .fault → x.overI < 2 → x.overV < 2 → s.sampleStep c = if 200 ≤ x.inRun then s.setChain c .on else s) ∧
    (x.state = .off ∨ x.state = .armed ∨ x.state = .tripped → s.sampleStep c = s)

/-- SUPPLY_ON, SUPPLY_OFF, CHAIN_SUPPLY_RESET and SUPPLY_RAMP_START (R187–R190, R193): ON arms an OFF chain; OFF takes a live one down with its heads; RESET
brings a tripped chain below 2,000 mV to OFF; an armed chain whose conditions hold latches its ramp and turns its gate on.
RAMP_TIMEOUT, INRUSH_TIMEOUT, SWITCH_LEAK, HV_DIE_LOSS, VPH_SAMPLE_TIMEOUT and SOURCE_RESISTANCE_ESTIMATE (R179, R180, R188). -/
def Obligations.SuppliesAreControlledAndTrip : Prop :=
  (
    (∀ (t : Nat) (k : Kop) (c : Fin 16) (s : State) (w : Fin 32),
      let s1 := Safety.taken s t k
      Safety.Admits s t k (lIdx c) 0x40 1 w → s1.lifeCycle ≠ 0 → s1.lifeCycle ≠ 4 → s1.isSecondary c = false → s1.devState ≠ 2 →
      s1.chains[c].state = .off →
      exec (.supplyOn t k c) s = .next (Safety.done (s1.updChain c fun x => { x with state := .armed }) w k (lIdx c) 0x40)) ∧
    (∀ (t : Nat) (k : Kop) (c : Fin 16) (s : State) (w : Fin 32),
      let s1 := Safety.taken s t k
      Safety.Admits s t k (lIdx c) 0x40 0 w → s1.chains[c].state = .on →
      exec (.supplyOff t k c) s = .next (Safety.done
        (((s1.gateTo c false).updChain c fun x => { x with state := .off }).supplyDown c (s1.loc 14 c.val)) w k (lIdx c) 0x40)) ∧
    (∀ (t : Nat) (k : Kop) (c : Fin 16) (s : State) (w : Fin 32),
      let s1 := Safety.taken s t k
      Safety.Admits s t k (lIdx c) 0x40 2 w → s1.chains[c].state = .tripped →
      exec (.chainSupplyReset t k c) s =
        .next (Safety.done (if s1.chains[c].vph < 2000 then s1.setChain c .off else s1) w k (lIdx c) 0x40)) ∧
    (∀ (t : Nat) (c : Fin 16) (s : State),
      let s0 := s.begin t
      s0.chains[c].state = .armed → s0.mayRamp c = true →
      exec (.supplyRampStart t c) s = .next ((s0.updChain c fun x =>
        { x with state := .ramp, rampFrom := s0.ft, inrush := s0.lc c 0x46, rate := s0.lc c 0x47, timeout := s0.lc c 0x48,
                 inRun := 0, outRun := 0, overI := 0, overV := 0, inrushFrom := none, leakFrom := none }).gateTo c true))) ∧ (
    (∀ (t : Nat) (c : Fin 16) (s : State), (s.begin t).chains[c].state = .ramp → (s.begin t).rampDue c = true →
      exec (.rampTimeout t c) s = .next ((s.begin t).tripChain c 1 0)) ∧
    (∀ (t : Nat) (c : Fin 16) (s : State), (s.begin t).chains[c].state = .ramp → (s.begin t).inrushDue c = true →
      exec (.inrushTimeout t c) s = .next ((s.begin t).tripChain c 2 0)) ∧
    (∀ (t : Nat) (c : Fin 16) (s : State), (s.begin t).chains[c].state = .off → (s.begin t).leaks c = true →
      exec (.switchLeak t c) s = .next ((s.begin t).tripChain c 6 0)) ∧
    (∀ (t : Nat) (die : Fin 2) (s : State),
      let s0 := s.begin t
      let s1 : State := { s0 with power := { s0.power with die := s0.power.die.set die false } }
      exec (.hvDieLoss t die) s = .next (((fins 16).filter fun c => dieOf c = die).foldl (fun s c => s.tripChain c 5 (die.val + 1)) s1)) ∧
    (∀ (t : Nat) (c : Fin 16) (s : State) (a : Nat),
      let s0 := s.begin t
      s0.chains[c].state = .on → s0.chains[c].lastSample = some a → a + usFt 50 ≤ s0.ft →
      exec (.vphSampleTimeout t c) s = .next (s0.faultChain c)) ∧
    (∀ (t : Nat) (c : Fin 16) (s : State) (r : Rat),
      let s0 := s.begin t
      s0.lc c 0x4A = 0 → s0.chains[c].rsAt + msFt 10 ≤ s0.ft →
      slopeOf (s0.chains[c].samples.filter fun y => s0.ft ≤ y.tick + msFt 10) = some r → 0 ≤ r → r ≤ 500000 →
      exec (.sourceResistanceEstimate t c) s =
        .next ((s0.updChain c fun y => { y with rsAt := s0.ft }).updChain c fun y => { y with rsLearned := (roundR r).toNat })))

/-! ### Heads (chapter 8) -/

/-- TEMPERATURE_STALE, COOLDOWN_RETURN, WARM_STEP, HEAD_VERIFICATION and TRIM_LOAD (R183, R237, R245, R247, R249, R251): a head without a report for 150 µs
cools down with cause 4 and returns below its resume temperature; a maker block that reads and is well formed is taken; a trim plane is written to the
head end, and is loaded when its CRC reads back, within three attempts.
SCAN_BLOCK_START, SCAN_BLOCK_COMPLETE, SCAN_INTERVAL_EXPIRY, SCAN_FULL and SCAN_REBASELINE (R239–R244): the next nozzles of one row, at most 64, are
measured from a tick at least 20 µs ahead, which one frame names; their samples are classified, and the last block completes the scan; only role S drops a baseline. -/
def Obligations.HeadsAreKeptAndScanned : Prop :=
  (
    (∀ (t : Nat) (h : Fin 64) (s : State),
      let s0 := s.begin t
      let x := s0.heads[h]
      x.blockOk = true → x.thermal ≠ .cooldown → s0.tempStale h = true →
      exec (.temperatureStale t h) s = .next (s0.coolDown h 4)) ∧
    (∀ (t : Nat) (h : Fin 64) (s : State),
      let s0 := s.begin t
      let x := s0.heads[h]
      x.thermal = .cooldown → s0.tempStale h = false → x.temp < x.tResume → x.sensorFault = false → x.tripped = false → s0.headBoundary h = true →
      exec (.cooldownReturn t h) s =
        .next ((s0.setThermal h (if s0.tSet h - s0.band h ≤ x.temp ∨ ¬ x.warms then Thermal.normal else Thermal.cold) true).updHead h fun y =>
          { y with cooldowns := y.cooldowns + 1 })) ∧
    (∀ (t : Nat) (h : Fin 64) (s : State),
      let s0 := s.begin t
      s0.running 4 = true → s0.heads[h].blockOk = true →
      exec (.warmStep t h) s = .next ((s0.updHead h fun x => { x with integ := (s0.warmLoop h).1 }).warmTo h (s0.warmLoop h).2)) ∧
    (∀ (t : Nat) (h : Fin 64) (s : State) (c : Fin 16),
      let s0 := s.begin t
      s0.running 1 = true → s0.heads[h].link = some c → s0.heads[h].idState = .reading → s0.heads[h].rdEnd = 1 →
      makerWf (wordsNum s0.heads[h].rd) s0.ports[c].nodes[(Fin.ofNat 9 s0.heads[h].node : Fin 9)].identity = true →
      exec (.headVerification t h c) s = .next (s0.takeBlock h)) ∧
    (∀ (t : Nat) (h : Fin 64) (c : Fin 16) (s : State) (p : Nat),
      let s0 := s.begin t
      let x := s0.heads[h]
      x.link = some c → (s0.headNode h).isSome = true → x.idState = .verified → x.trimBusy = false → x.trimOk = false → x.trimFailed = false →
      s0.trimPlane h = some p →
      exec (.trimLoad t h c) s = .next ((s0.updHead h fun y => { y with trim := p, trimBusy := true }).sendTrim h)) ∧
    (∀ (s : State) (h : Fin 64) (status crc : Nat), s.heads[h].trimBusy = true →
      s.trimAnswer h status crc =
        if status = 0 ∧ crc % 2 ^ 32 = crc32c s.heads[h].trimBytes then s.updHead h fun y => { y with trimBusy := false, trimOk := true }
        else if s.heads[h].trimTries < 2 then (s.updHead h fun y => { y with trimTries := y.trimTries + 1 }).sendTrim h
        else s.updHead h fun y => { y with trimBusy := false, trimTries := y.trimTries + 1, trimFailed := true })) ∧ (
    (∀ (t : Nat) (h : Fin 64) (s : State),
      let s0 := s.begin t
      let x := s0.heads[h]
      x.scanRedo = [] → x.scanNext ≠ 0 → x.scanNext < x.nozzleTotal → x.scanBlk = none → x.scanAhead = none → x.blockOk = true →
      s0.scanIsDue h = true → ∀ (c : Fin 16) (a : Fin 9), s0.headNode h = some (c, a) →
      let l := s0.nodePort c a
      let r := (x.rowOfNozzle x.scanNext).1
      let j := (x.rowOfNozzle x.scanNext).2
      let n := min 64 (x.nozzles r - j)
      let at_ := s0.scanTick l none
      s0.ports[c].nodes[a].ctl = none → s0.ports[c].nodes[a].ctlWait = [] → s0.sends l = true → s0.lineWaits l = false →
      s0.scanWindow h at_ = true →
      exec (.scanBlockStart t h) s = .next ((s0.updHead h fun y =>
        { y with scanBlk := some { row := r, first := j, count := n, ft := at_, cur := s0.scanCurrent h, open_ := s0.hc h 0x24,
                                   short := s0.hc h 0x25, drift := s0.hc h 0x26, lead := s0.hc h 0x27 },
                 scanNext := x.nozzleBase r + j + n }).writeHeads h 0x28000018 [packBits [(13, j), (2, r), (1, 0), (6, n - 1)], at_])) ∧
    (∀ (t : Nat) (h : Fin 64) (v0 : Nat) (vs : List Nat) (s : State) (b : ScanBlock),
      let s0 := s.begin t
      let s1 := s0.takeBlockSamples h b v0 vs
      s0.heads[h].scanBlk = some b → vs.length = b.count → b.end_ ≤ s0.ft →
      exec (.scanBlockComplete t h false v0 vs) s =
        .next (if s1.heads[h].nozzleTotal ≤ s1.heads[h].scanNext ∧ s1.heads[h].scanRedo = [] ∧ s1.heads[h].scanBlk = none then s1.scanDone h
               else s1)) ∧
    (∀ (t : Nat) (h : Fin 64) (s : State),
      let s0 := s.begin t
      s0.hc h 0x21 ≠ 0 → s0.heads[h].link.isSome = true → s0.heads[h].lastFull + secFt (s0.hc h 0x21) ≤ s0.ft →
      exec (.scanIntervalExpiry t h) s = .next (s0.updHead h fun x => { x with scanDue := true })) ∧
    (∀ (t : Nat) (k : Kop) (h : Fin 64) (s : State) (w : Fin 32), Safety.Admits s t k (hIdx h) 0x22 1 w →
      exec (.scanFull t k h) s = .next (Safety.done ((Safety.taken s t k).updHead h fun x => { x with scanDue := true }) w k (hIdx h) 0x22)) ∧
    (∀ (t : Nat) (k : Kop) (h : Fin 64) (s : State) (w : Fin 32),
      let s1 := Safety.taken s t k
      let a := Safety.actor s t k (hIdx h) 0x22 w
      Safety.Admits s t k (hIdx h) 0x22 2 w →
      exec (.scanRebaseline t k h) s = .next (
        if bitOf s1.sessions[a.sess].roles 3 = true then
          Safety.done (s1.updHead h fun x => { x with baseOk := false, baseline := [] }) w k (hIdx h) 0x22
        else Safety.refused s1 w k abRole)))

/-! ### Position, stamping, traverses, board synchronisation (chapter 5) -/

/-- HELD_EDGE_PROCESS and EDGE_TIMEOUT (R140, R142): an edge held is processed from 64 ft after the last processed edge on, and waits until then; a zone
that has seen no edge for 1 ms leaves TRACKING for STANDBY and takes back what it can withdraw, and ends a FAULT in STANDBY, after the items whose instants have passed in it are spoiled (R143). -/
def Obligations.EdgesAreProcessedAndTimeOut : Prop :=
  (∀ (t : Nat) (z : Fin 8) (s : State),
    let s0 := s.begin t
    s0.zones[z].place ≠ .noSource →
    (∀ (c : Rat) (stamp : Nat), s0.zones[z].trk.held = some (c, stamp) → s0.zones[z].trk.tLast + 64 ≤ s0.ft →
      exec (.heldEdgeProcess t z) s = .next ((s0.processEdge z c stamp).afterCount z none s0.zones[z].hwm)) ∧
    (s0.zones[z].trk.held = none ∨ s0.ft < s0.zones[z].trk.tLast + 64 → exec (.heldEdgeProcess t z) s = .next s0)) ∧
  (∀ (t : Nat) (z : Fin 8) (s : State),
    let s0 := s.begin t
    s0.zones[z].trk.tLast + msFt 1 ≤ s0.ft →
    (s0.zones[z].place = .tracking →
      exec (.edgeTimeout t z) s =
        .next ((s0.updZone z fun x => { x with place := .standby, trk := x.trk.standby }).withdrawZone z)) ∧
    (s0.zones[z].place = .fault → exec (.edgeTimeout t z) s = .next (((s0.faultPasses z).endFault z .standby).toStandby z)) ∧
    (s0.zones[z].place = .standby ∨ s0.zones[z].place = .suspended ∨ s0.zones[z].place = .noSource →
      exec (.edgeTimeout t z) s = .next s0))

/-- The filter of R140 on an edge in TRACKING whose innovation lies within the tracking limit: position and speed follow the edge with the gains of the
zone, and the zone stays in TRACKING.
Whatever line is stamped (R146, R148, R150, R208): its instant is not before the prediction, keeps the head's least spacing from the row's last line and
the lead of the link, moves the drop by no more than what the tolerance leaves, its target lies beyond the zone's furthest position, its
segment delays fit their fields, and a line that is not void is complete in its ring. -/
def Obligations.TheTrackerFiltersAndStamps : Prop :=
  (
    ∀ (s : State) (z : Fin 8) (cnt : Rat) (t : Nat),
      let k := s.zones[z].trk
      let dt : Rat := (t : Rat) - (k.tLast : Rat)
      let r := wrapR (cnt - (k.pHat + k.vHat * dt))
      s.zones[z].place = .tracking → absR r ≤ s.trackLimit z → 0 < wrapR (cnt - k.lastCnt) →
      (s.processEdge z cnt t).zones = vupd s.zones z fun x => { x with trk := { x.trk with
        pHat := k.pHat + k.vHat * dt + (s.zc z 0x58 : Rat) / 65536 * r, vHat := k.vHat + (s.zc z 0x59 : Rat) / 65536 * r / dt,
        tLast := t, lastCnt := cnt, fwd := k.fwd + 1, within := k.within + 1, tGood := t, any := true, held := none } }) ∧ (
    ∀ (s : State) (it : Item) (h : Fin 64) (r : Fin 4) (l : Nat) (f f0 : Int) (void : Bool) (fire : Nat),
      s.buildNow it h r l f void = .stamp fire f0 →
      let v := (s.estimate it.zone s.ft).2
      let tol := s.tolOf it.zone (s.ogetFor it (zIdx it.zone) 0x53)
      f0 = f ∧ f ≤ fire ∧ s.heads[h].rows[r].last + s.heads[h].pMin ≤ fire ∧ s.ft + s.leadFloor h ≤ fire ∧
      0 < wrapR ((s.target it h r l : Rat) - s.zones[it.zone].hwm) ∧ s.headFires h = true ∧ segsFit (s.segDelays it h r v) = true ∧
      (((fire : Int) - f : Int) : Rat) * v ≤ tol - tol / 4 - s.countSize it.zone ∧
      (void = false → s.heads[h].rows[r].complete it.handle l = true))

/-- FRAME_BUILD_EVALUATION and CANCEL_SEND (R146, R148, R182, R221): what must be withdrawn is withdrawn first, then what passes in FAULT is spoiled, then
losses, then stamps in the order of their instants, each with the sag of all; a CANCEL that is due leaves as a block on the port of its frame, with
the line's number in its item, and is one fewer to send; with none due nothing leaves. -/
def Obligations.FramesAreBuiltAndCancelled : Prop :=
  (∀ (t : Nat) (s : State),
    let s1 := ((fins 8).foldl State.faultPasses (s.begin t).withdrawMoved).clearRings
    exec (.frameBuildEvaluation t) s = .next ((fins 8).foldl State.settle
      (((sortCands s1.candidates).foldl State.actStamp (s1.candidates.foldl State.actLoss s1)).putSags s1.stampNo))) ∧
  (∀ (t : Nat) (h : Fin 64) (row : Fin 4) (s : State) (w : Withdrawn) (x : Sent),
    let s0 := s.begin t
    let line := match s0.item? w.handle with | some it => it.lineOf w.line | none => w.line
    s0.heads[h].rows[row].withdrawn.find? s0.cancelDue = some w → w.sent = some x →
    exec (.cancelSend t h row) s =
      .next ((s0.updRow h row fun y => { y with withdrawn := y.withdrawn.map fun q =>
          if q = w then { q with cancels := q.cancels - 1, cancelAt := s0.ft } else q }).timed x.port
        [(0x78, cancelContent s0.heads[h].node row.val line w.handle)])) ∧
  (∀ (t : Nat) (h : Fin 64) (row : Fin 4) (s : State),
    (s.begin t).heads[h].rows[row].withdrawn.find? (s.begin t).cancelDue = none → exec (.cancelSend t h row) s = .next (s.begin t))

/-- TRAVERSE_ARM, TRAVERSE_END and ALIGNMENT_PATTERN (R157, R158, R160): a traverse is armed while the carriage has the sluice distance before it; when every
row has fired what it prints in it, it is over and its feed move is due; a pattern item joins the queue of its zone. -/
def Obligations.TraversesRun : Prop :=
  (∀ (t : Nat) (z : Fin 8) (s : State) (it : Item) (o : Int),
    let s0 := s.begin t
    s0.scanItem z = some it → s0.zc z 0x30 ≠ 0 → s0.zones[z].armed = false → s0.zones[z].feedDue = false → s0.zones[z].feedRun = false →
    it.origin = some o → (s0.zc z 0x12 : Rat) * s0.pitch z ≤ wrapR (((o + s0.lowestOff it : Int) : Rat) - s0.counted z) →
    exec (.traverseArm t z) s =
      .next (s0.armTraverse z it.handle (s0.traverseOf it ((it.prog.map (·.built)).foldl min (s0.totalLines it))))) ∧
  (∀ (t : Nat) (z : Fin 8) (s : State) (it : Item),
    let s0 := s.begin t
    s0.zc z 0x30 ≠ 0 → ((s0.zoneItems z).find? fun it => !it.prog.isEmpty && it.feedBase.isNone) = some it →
    s0.traverseDone it = true → s0.zones[z].armed = true → s0.unbuilt it = true → it.pattern = 0 → (s0.feedAxis z).isSome = true →
    exec (.traverseEnd t z) s =
      .next ((s0.updZone z fun y =>
        { y with armed := false, feedDue := true,
                 feedPos := match s0.feedAxis z with | some a => s0.axes[a].posAt s0.ft | none => 0 }).settle z)) ∧
  (∀ (t : Nat) (k : Kop) (z : Fin 8) (cmd : Nat) (s : State) (w : Fin 32) (it : Item) (slot : Nat) (rest : List Nat),
    let s1 := Safety.taken s t k
    let a := Safety.actor s t k (zIdx z) 0x67 w
    let x := s1.sessions[a.sess]
    Safety.Admits s t k (zIdx z) 0x67 cmd w →
    s1.patternItem z cmd (s1.sid a.sess) (if bitOf x.roles 2 then x.hostId else 0) = some it → s1.freeSlots = slot :: rest →
    (s1.zoneItems z).length < s1.zc z 0x13 →
    exec (.alignmentPattern t k z cmd) s =
      .next (Safety.done ((s1.takeSlot it slot).1.updZone z fun y => { y with patternHandle := (s1.takeSlot it slot).2.1 }) w k (zIdx z) 0x67))

/-- SYNC_FRAME_SEND, SYNC_FRAME_RECEIVE, FIRE_TIMER_STEP, SYNC_HOLDOVER, SYNC_STARTUP_END and BOARD_FAULT_ASSERT (R34, R35, R162–R168): a frame leaves as
the bytes of Table 5.4 with its CRC; one whose CRC or reserved bits are wrong is discarded and counted; one of the wrong neighbour makes the ports passive.
The alignment of a board to its neighbour (R163): the offset found on a frame that answers one of the block's own is the other's time of sending plus
the one-way delay, half the round trip, less the local time, to the nearest ft; the rate correction taken stays within ±200 ppm and turns the timer towards board time; and a stepped board is ALIGNED
only on a frame within 1 ft. -/
def Obligations.BoardsSynchroniseAndAlign : Prop :=
  (
    (∀ (t : Nat) (p : Fin 2) (s : State),
      let s0 := s.begin t
      (s0.syncFrame p).ok = true ∧ (s0.sync.passive = false →
      exec (.syncFrameSend t p) s =
        .next ((s0.emit (.sync p.val (s0.syncFrame p).bytes)).updSync fun y => { y with seq := vupd y.seq p fun n => (n + 1) % 256 }))) ∧
    (∀ (t : Nat) (p : Fin 2) (f : SyncFrame) (s : State),
      let s0 := s.begin t
      let rx : SyncRx := { txFt := f.txFt, at_ := (s0.sawPeer p).ft, fault := f.fault, snap := f.snap, snapFt := f.snapFt,
                           bp0 := if f.bp0Valid then some (f.bp0Pos, f.bp0Age) else none,
                           bp1 := if f.bp1Valid then some (f.bp1Pos, f.bp1Age) else none }
      let s1 := (s0.sawPeer p).updSync fun y => { y with rx := vupd y.rx p fun _ => some rx }
      f.ok = true → s0.sync.passive = false → s0.neighbour p = some f.srcPos → f.echoFt = 0 → f.snap = false →
      exec (.syncFrameReceive t p f) s =
        .next (((s1.takeBp p 0 f.bp0Valid f.bp0Pos f.bp0Age f.txFt).takeBp p 1 f.bp1Valid f.bp1Pos f.bp1Age f.txFt).checkSources.updateLine)) ∧
    (∀ (t : Nat) (p : Fin 2) (f : SyncFrame) (s : State), f.ok = true → (s.begin t).sync.passive = false →
      (s.begin t).neighbour p ≠ some f.srcPos →
      exec (.syncFrameReceive t p f) s = .next (((s.begin t).sawPeer p).goPassive p f.srcPos)) ∧
    (∀ (t : Nat) (p : Fin 2) (f : SyncFrame) (s : State), f.ok = false →
      exec (.syncFrameReceive t p f) s = .next ((s.begin t).updSync fun y => { y with discards := y.discards + 1 })) ∧
    (∀ (t : Nat) (s : State),
      let s0 := s.begin t
      s0.sync.stepDue = true → s0.allIdle = true → s0.sync.passive = false →
      exec (.fireTimerStep t) s =
        .next ((s0.stepTimer s0.sync.offset).updSync fun y => { y with stepDue := false, stepped := true, inTol := 0 })) ∧
    (∀ (t : Nat) (s : State),
      let s0 := s.begin t
      let s1 := s0.updSync fun y =>
        { y with align := 3, inTol := 0, rx := vupd y.rx 0 fun r => r.map fun x => { x with bp0 := none, bp1 := none },
                 bp := y.bp.map fun b => { b with valid := false } }
      s0.bpos ≠ 0 → waited (s0.sync.rx[(0 : Fin 2)].map (·.at_)) 125000 s0.ft = true → s0.sync.align ≤ 2 →
      exec (.syncHoldover t) s = .next s1.checkSources.updateLine) ∧
    (∀ (t : Nat) (s : State), (s.begin t).sync.startup = true →
      ((s.begin t).bpos = 0 ∨ (s.begin t).sync.seen = true →
        exec (.syncStartupEnd t) s = .next ((s.begin t).updSync fun y => { y with startup := false })) ∧
      ((s.begin t).bpos ≠ 0 → (s.begin t).sync.seen = false →
        exec (.syncStartupEnd t) s = .next ((((s.begin t).updSync fun y => { y with startup := false }).updSync fun y =>
          { y with late := true }).faultEvent 11 ((s.begin t).loc 11 8) 0xA800 0x02 0 0))) ∧
    (∀ (t : Nat) (k : Kop) (v : Nat) (s : State) (w : Fin 32),
      let s1 := Safety.taken s t k
      let s2 := ((s1.oapply 0xA800 0x09 v).updSync fun y => { y with ownFault := v == 1 }).updateLine
      Safety.Admits s t k 0xA800 0x09 v w →
      exec (.boardFaultAssert t k v) s = .next (s2.respond w (s2.plainResp k 0)))) ∧ (
    ∀ (s : State) (f : SyncFrame), f.echoFt ≠ 0 →
      (s.align f).sync.offset = roundR (((2 * (f.txFt : Int) + syncTrip f s.ft - 2 * s.ft : Int) : Rat) / 2) ∧
      -200000 ≤ (s.align f).sync.rate ∧ (s.align f).sync.rate ≤ 200000 ∧
      (0 < syncOffset2 f s.ft → 0 ≤ (s.align f).sync.rate) ∧ (syncOffset2 f s.ft < 0 → (s.align f).sync.rate ≤ 0) ∧
      (s.align f).free = s.free + 1 ∧
      (s.sync.stepped = true → (s.align f).sync.align = 2 → (syncOffset2 f s.ft).natAbs ≤ 2))

/-! ### Links (chapter 7) -/

/-- LINK_BRINGUP, LINK_BRINGUP_RETRY, PORT_AUTO_BRINGUP, ENUMERATE, BLOCK_LOCK_GAINED, BLOCK_LOCK_LOST and FEC_MODE_START (R199, R213, R224,
R232): a port that is OFF trains once its PLL is locked, and the ports of a dual-homed chain train together; a port trains again after 100 ms in FAULT,
after a lost node, or at a command, and in each case only while the zones of the chain are idle; a lane has lock once its last 64 sync headers are
valid, and none once 16 of them are invalid; 9 ms after its lanes left reset a port with lock begins to enumerate, and one without lock is in FAULT.
A port in training has forgotten its chain and has no lock. -/
def Obligations.LinksComeUp : Prop :=
  (∀ (t : Nat) (l : Fin 16) (s : State),
    let s0 := s.begin t
    (s0.chainOf l = l → s0.isDual l = false → s0.ports[l].state = .off → s0.power.pll[(Fin.castLE (by omega) l : Fin 20)] = true →
      exec (.linkBringup t l) s = .next (s0.trainPort l)) ∧
    exec (.linkBringup t l) s = .next (((s0.chainPorts (s0.chainOf l)).filter fun p =>
      s0.ports[p].state == .off && s0.power.pll[(Fin.castLE (by omega) p : Fin 20)]).foldl State.trainPort s0)) ∧
  (∀ (s : State) (l : Fin 16),
    let p := (s.trainPort l).ports[l]
    p.state = .training ∧ p.since = s.ft ∧ p.enumDepth = 0 ∧ p.lockU0 = false ∧ p.lockUS = false ∧ p.fec = false ∧ p.again = false ∧
    p.nodes = Vector.replicate 9 Node.init) ∧
  (∀ (t : Nat) (l : Fin 16) (s : State),
    let s0 := s.begin t
    s0.ports[l].state = .fault → s0.ports[l].since + msFt 100 ≤ s0.ft → s0.domains[linkDomain l].state = 2 →
    (s0.chainOf l ≠ l → exec (.linkBringupRetry t l) s = .next (s0.trainPort l)) ∧
    (s0.chainOf l = l → s0.chainIdle l = true → exec (.linkBringupRetry t l) s = .next (s0.bringUp l)) ∧
    (s0.chainOf l = l → s0.chainIdle l = false → exec (.linkBringupRetry t l) s = .next s0)) ∧
  (∀ (t : Nat) (l : Fin 16) (s : State),
    let s0 := s.begin t
    s0.ports[s0.chainOf l].again = true →
    (s0.chainIdle (s0.chainOf l) = true → exec (.portAutoBringup t l) s = .next (s0.bringUp (s0.chainOf l))) ∧
    (s0.chainIdle (s0.chainOf l) = false → exec (.portAutoBringup t l) s = .next s0)) ∧
  (∀ (t : Nat) (k : Kop) (l : Fin 16) (s : State) (w : Fin 32),
    let s1 := Safety.taken s t k
    Safety.Admits s t k (lIdx l) 0x10 1 w →
    (s1.chainIdle (s1.chainOf l) = true →
      exec (.enumerate t k l) s = .next (Safety.done (s1.bringUp (s1.chainOf l)) w k (lIdx l) 0x10)) ∧
    (s1.chainIdle (s1.chainOf l) = false → exec (.enumerate t k l) s = .next (Safety.refused s1 w k abWork))) ∧
  (∀ (t : Nat) (l : Fin 16) (lane : Fin 2) (hdrs : List Nat) (s : State),
    let s0 := s.begin t
    let last := hdrs.reverse.take 64
    (64 ≤ hdrs.length → (∀ x ∈ last, x = 1 ∨ x = 2) →
      exec (.blockLockGained t l { lane, hdrs }) s = .next (s0.updPort l fun p =>
        { p with lockU0 := p.lockU0 || lane == 0, lockUS := p.lockUS || lane == 1,
                 lockSince := if p.lockU0 ∨ p.lockUS then p.lockSince else some s0.ft })) ∧
    (hdrs.length < 64 ∨ (∃ x ∈ last, x ≠ 1 ∧ x ≠ 2) → exec (.blockLockGained t l { lane, hdrs }) s = .next s0)) ∧
  (∀ (t : Nat) (l : Fin 16) (lane : Fin 2) (hdrs : List Nat) (s : State),
    let s0 := s.begin t
    let wrong := ((hdrs.reverse.take 64).filter fun x => x != 1 && x != 2).length
    let s1 := s0.updPort l fun p =>
      { p with lockU0 := p.lockU0 && lane != 0, lockUS := p.lockUS && lane != 1,
               lockSince := if (p.lockU0 && lane != 0) || (p.lockUS && lane != 1) then p.lockSince else none }
    (16 ≤ wrong → s0.lanes[l].run ≠ (if lane = 0 then 5 else 4) → exec (.blockLockLost t l { lane, hdrs }) s = .next s1) ∧
    (16 ≤ wrong → s0.lanes[l].run = (if lane = 0 then 5 else 4) → exec (.blockLockLost t l { lane, hdrs }) s = .next (s1.endLane l 6)) ∧
    (wrong < 16 → exec (.blockLockLost t l { lane, hdrs }) s = .next s0)) ∧
  (∀ (t : Nat) (l : Fin 16) (s : State),
    let s0 := s.begin t
    s0.ports[l].state = .training → s0.ports[l].since + msFt 9 ≤ s0.ft →
    (s0.ports[l].lockU0 = true ∨ s0.ports[l].lockUS = true → s0.chainOf l = l →
      exec (.fecModeStart t l) s = .next ((((s0.startFec l).adapted l).setLink l .enumerating).sendEnum l 1)) ∧
    (s0.ports[l].lockU0 = false → s0.ports[l].lockUS = false → exec (.fecModeStart t l) s = .next (s0.setLink l .fault)))

/-- STATUS_TIMEOUT, NEIGHBOUR_LOCK_TIMEOUT, PORT_BLOCK_LOCK_LOSS, CONTROL_TIMEOUT, CONTROL_RESPONSE and STATUS_FRAME (R210, R211, R223, R224): a node is lost
when it has been silent for 120 µs, when its neighbour sees no lock for 2 µs, when the port has no lock upstream, or after eight attempts of a control frame;
a response that answers the outstanding frame completes it; a status frame gives the node and its head what it reports. -/
def Obligations.NodesAreWatched : Prop :=
  (∀ (t : Nat) (l : Fin 16) (a : Fin 9) (s : State) (b : Nat),
    let s0 := s.begin t
    let n := s0.ports[s0.chainOf l].nodes[a]
    n.present = true → n.lost = false → n.lastStatus = some b → b + usFt 120 ≤ s0.ft →
    exec (.statusTimeout t l a) s = .next (s0.loseNode (s0.chainOf l) a 1)) ∧
  (∀ (t : Nat) (l : Fin 16) (a : Fin 9) (s : State) (b : Nat),
    let s0 := s.begin t
    let n := s0.ports[l].nodes[(Fin.ofNat 9 (a.val - 1) : Fin 9)]
    2 ≤ a.val → s0.chainOf l = l → s0.isDual l = false → n.present = true → n.farLostAt = some b → b + usFt 2 ≤ s0.ft →
    exec (.neighbourLockTimeout t l a) s = .next (s0.loseNode l a 3)) ∧
  (∀ (t : Nat) (l : Fin 16) (s : State),
    let s0 := s.begin t
    s0.ports[l].lockU0 = false → s0.ports[l].lockUS = false →
    exec (.portBlockLockLoss t l) s = .next (
      if s0.chainOf l = l then (if s0.isDual l = true then s0 else (fins 9).foldl (fun x a => x.loseNode l a 4) s0)
      else if s0.ports[s0.chainOf l].dual = .normal ∧ s0.sends l = true then s0.setDual (s0.chainOf l) .degraded 0 else s0)) ∧
  (∀ (t : Nat) (l : Fin 16) (a : Fin 9) (s : State) (f : Ctl),
    let s0 := s.begin t
    let c := s0.chainOf l
    s0.ports[c].nodes[a].ctl = some f → f.busy = false → f.sentAt + usFt 50 ≤ s0.ft → s0.running 6 = true → f.req.op ≠ 3 →
    exec (.controlTimeout t l a) s = .next (
      if 8 ≤ f.tries then s0.loseNode c a 2
      else (((s0.updPort c fun p => { p with retries := p.retries + 1 }).updNode c a fun n =>
        { n with ctl := some { f with busy := true } }).sendCtl c a))) ∧
  (∀ (t : Nat) (l : Fin 16) (r : CtlResp) (s : State) (f : Ctl) (a : Fin 9),
    let s0 := s.begin t
    let c := s0.chainOf l
    r.addr = a.val → s0.ports[c].nodes[a].ctl = some f → r.ok = true → f.busy = false → f.cseq = r.cseq → f.req.op = r.op → f.req.reg = r.reg →
    f.req.op ≠ 3 →
    (r.status = 4 → exec (.controlResponse t l r) s =
      .next (((s0.updPort c fun p => { p with retries := p.retries + 1 }).updNode c a fun n =>
        { n with ctl := some { f with busy := true, tries := 0 } }).sendCtl c a)) ∧
    (r.status < 4 → exec (.controlResponse t l r) s = .next (
      let s1 := s0.updNode c a fun n => { n with ctl := none }
      (if f.req.op = 1 then s1.takeRead c a f.req.reg r.status r.data else s1).nextCtl c a))) ∧
  (∀ (t : Nat) (l : Fin 16) (r : CtlResp) (s : State), r.ok = false →
    exec (.controlResponse t l r) s = .next ((s.begin t).updPort l fun p => { p with discards := p.discards + 1 })) ∧
  (∀ (t : Nat) (l : Fin 16) (r : StatusRep) (s : State) (a : Fin 9) (hd : Fin 64),
    let s0 := (s.begin t).updPort l fun p => r.rx.foldl Port.takeFec p
    let c := s0.chainOf l
    let s1 := (s0.updNode c a fun n =>
      { n with lastStatus := some s0.ft, lastSeq := some r.sseq, timeErr := r.timeErr, lanes := r.lanes, timeOk := r.timeOk,
               side := r.side, status := r.body }).farSide c a r.lanes
    let p := s1.nodePort c a
    r.addr = a.val → r.ok = true → s0.ports[c].nodes[a].present = true → s0.ports[c].nodes[a].lost = false →
    s0.ports[c].nodes[a].head = some hd → s1.ports[c].state = .ready → (∀ q ∈ s1.chainPorts c, s1.lanes[q].run = 0) → s1.laneLost p 0 r.lanes = false →
    s1.laneLost p 1 r.lanes = false →
    exec (.statusFrame t l r) s = .next (s1.headReport hd r.temp r.sensorFault r.tripped))

/-- LINE_FRAME_TRANSMIT, TIME_PAIR_SEND, ECHO_MEASUREMENT and LOSS_REPORT (R216, R217, R219, R222): the line stamped first leaves on the lane that is free
first, and its frame is recorded with its blocks; a delay that the median of eight round trips changes is written to its node, that of a node
which the secondary reaches in SPLIT as the delay of its side; the items of the lines in a block that a node reports lost are spoiled.
LANE_MOVE, SPARE_TAKEOVER_L0, SPARE_TAKEOVER_L1, SPARE_RELEASE, REVERSE_BLOCK, DUAL_LOCK_REGAINED and RESTORE (R225, R229, R230). -/
def Obligations.LinksCarryLinesAndMoveLanes : Prop :=
  (
    (∀ (t : Nat) (l : Fin 16) (s : State) (h : Fin 64) (r : Fin 4) (y : Stamped),
      let s0 := s.begin t
      let q := s0.placeFrame l (s0.lineWords h r y) [(h, r, y.handle, y.line)] []
      let s1 := q.1.updRow h r fun x =>
        { x with stamped := x.stamped.map fun z =>
            if z.order = y.order then { z with sent := some { port := l, lane := q.2.1, tick := q.2.2.1, bseq := q.2.2.2, depth := y.depth } } else z }
      s0.sends l = true → s0.nextFrame l = some (h, r, y) →
      (s0.lineWords h r y).length = frameWords (s0.heads[h].nozzles r.val) ∧
      (.frame l.val q.2.1 (s0.lineWords h r y)) ∈ q.1.out ∧
      exec (.lineFrameTransmit t l) s = .next (s1.pumpCtl l)) ∧
    (∀ (t : Nat) (l : Fin 16) (s : State),
      let s0 := s.begin t
      s0.ports[l].state = .aligning ∨ s0.ports[l].state = .ready → periodic s0.ports[l].lastTime (usFt 10) s0.ft = true →
      exec (.timePairSend t l) s = .next ((s0.updPort l fun x =>
        { x with lastTime := some s0.ft, tseq := (x.tseq + 1) % 256 }).timed l (timePair s0.ft s0.ports[l].tseq))) ∧
    (∀ (t : Nat) (l : Fin 16) (a : Fin 9) (echoes : List Echo) (lam : Nat) (s : State) (rt : Rat),
      let s0 := s.begin t
      let c := s0.chainOf l
      let n := s0.ports[c].nodes[a]
      let d := toU 32 (s0.ports[c].delayAOf a rt)
      let good := goodEchoes a.val n.eseq echoes
      let s1 := (s0.timed (s0.nodePort c a) ((List.range 8).map fun i => (0x66, echoReqContent a.val ((n.eseq + i) % 256)))).updNode c a
        fun x => { x with eseq := (x.eseq + 8) % 256 }
      let s2 := (s1.updPort l fun q => { q with discards := q.discards + (echoes.length - good.length) }).updNode c a
        fun x => { x with echoAt := some s1.ft }
      s0.echoDue c a = true → medianOf (good.map fun e => (e.t4 : Int) - e.t1 - e.turn) = some rt → s0.ports[c].state = .ready →
      s0.isDual c = false → n.delayA ≠ d →
      exec (.echoMeasurement t l a echoes lam) s = .next ((s2.updNode c a fun x => { x with delayA := d }).writeReg c a 0x108 d)) ∧
    (∀ (t : Nat) (l : Fin 16) (a : Fin 9) (echoes : List Echo) (lam : Nat) (s : State) (rt : Rat),
      let s0 := s.begin t
      let c := s0.chainOf l
      let n := s0.ports[c].nodes[a]
      let d := toU 32 (s0.ports[c].delayFarOf s0.ports[c].enumDepth a.val rt)
      let good := goodEchoes a.val n.eseq echoes
      let s1 := (s0.timed (s0.nodePort c a) ((List.range 8).map fun i => (0x66, echoReqContent a.val ((n.eseq + i) % 256)))).updNode c a
        fun x => { x with eseq := (x.eseq + 8) % 256 }
      let s2 := (s1.updPort l fun q => { q with discards := q.discards + (echoes.length - good.length) }).updNode c a
        fun x => { x with echoAt := some s1.ft }
      s0.echoDue c a = true → medianOf (good.map fun e => (e.t4 : Int) - e.t1 - e.turn) = some rt → s0.ports[c].state = .ready →
      s0.ports[c].dual = .split → s0.nodePort c a ≠ c → s2.nodePort c a ≠ c → n.delayB ≠ d →
      exec (.echoMeasurement t l a echoes lam) s = .next ((s2.updNode c a fun x => { x with delayB := d }).writeReg c a 0x110 d)) ∧
    (∀ (t : Nat) (l : Fin 16) (r : LossRep) (s : State) (a : Fin 9),
      let s0 := s.begin t
      let c := s0.chainOf l
      let recs := s0.ports[l].named r.logical r.bseq s0.ft
      let s1 := s0.updPort l fun p =>
        { p with blocksLost := p.blocksLost + 1,
                 loss0 := if r.logical = 0 then (s0.ft :: p.loss0).filter fun b => s0.ft < b + msFt 1 else p.loss0,
                 loss1 := if r.logical = 1 then (s0.ft :: p.loss1).filter fun b => s0.ft < b + msFt 1 else p.loss1 }
      let mine := (recs.flatMap (·.lines)).filter fun e => s1.heads[e.1].link == some c && s1.heads[e.1].node == a.val
      let s2 := mine.eraseDups.foldl (fun x e => x.loseLine l r.logical e) s1
      r.addr = a.val → r.ok = true → r.logical ≤ 1 → (∀ x ∈ recs, x.ctls = []) →
      (if r.logical = 0 then s2.ports[l].loss0 else s2.ports[l].loss1).length ≤ 16 →
      exec (.lossReport t l r) s = .next ((fins 8).foldl State.settle s2))) ∧ (
    (∀ (t : Nat) (l : Fin 16) (s : State) (logical target reason : Nat),
      let s0 := s.begin t
      let s1 := s0.moveLane l logical target reason
      let s2 := if target = 2 then s1.event 0x6812 (s1.locBMR 13 l.val logical 1023 0xFFFF) [(8, l.val), (8, logical), (8, reason)] else s1
      s0.ports[l].move = some (logical, target, reason) → (s0.ports[l].tx[(Fin.ofNat 2 logical : Fin 2)]).free ≤ s0.ft → s2.lanes[l].run = 0 → exec (.laneMove t l) s = .next s2) ∧
    (∀ (t : Nat) (k : Kop) (l : Fin 16) (s : State) (w : Fin 32),
      let s1 := Safety.taken s t k
      Safety.Admits s t k (lIdx l) 0x0C 1 w → s1.ports[l].physical 0 ≠ 2 →
      exec (.spareTakeoverL0 t k l) s = .next (if s1.spareFree l = true then Safety.done (s1.beginMove l 0 2 2) w k (lIdx l) 0x0C
        else Safety.refused s1 w k abResource)) ∧
    (∀ (t : Nat) (k : Kop) (l : Fin 16) (s : State) (w : Fin 32),
      let s1 := Safety.taken s t k
      Safety.Admits s t k (lIdx l) 0x0C 2 w → s1.ports[l].physical 1 ≠ 2 →
      exec (.spareTakeoverL1 t k l) s = .next (if s1.spareFree l = true then Safety.done (s1.beginMove l 1 2 2) w k (lIdx l) 0x0C
        else Safety.refused s1 w k abResource)) ∧
    (∀ (t : Nat) (k : Kop) (l : Fin 16) (s : State) (w : Fin 32),
      let s1 := Safety.taken s t k
      Safety.Admits s t k (lIdx l) 0x0C 0 w →
      exec (.spareRelease t k l) s = .next (
        if s1.ports[l].physical 0 = 2 then
          (if bitOf s1.lanes[l].failed 0 = true then Safety.refused s1 w k abResource
           else Safety.done (s1.beginMove l 0 0 2) w k (lIdx l) 0x0C)
        else if s1.ports[l].physical 1 = 2 then
          (if bitOf s1.lanes[l].failed 1 = true then Safety.refused s1 w k abResource
           else Safety.done (s1.beginMove l 1 1 2) w k (lIdx l) 0x0C)
        else Safety.done (s1.updPort l fun p => { p with move := none }) w k (lIdx l) 0x0C)) ∧
    (∀ (t : Nat) (l : Fin 16) (lane : Fin 2) (node : Fin 9) (s : State),
      let s0 := s.begin t
      let c := s0.chainOf l
      let s1 := s0.updPort l fun p => { p with rxKind := vupd p.rxKind lane fun _ => 0x87 }
      c ≠ l → s0.ports[c].dual = .normal → s0.ports[c].nodes[node].present = true →
      exec (.reverseBlock t l { lane, kind := 0x87 } node.val) s =
        .next (((fins 9).foldl (fun x a => if node.val ≤ a.val then x.updNode c a fun n => { n with side := 1 } else x) s1).setDual c .split node.val)) ∧
    (∀ (t : Nat) (l : Fin 16) (lane : Fin 2) (kind content : Nat) (s : State),
      let s1 := (s.begin t).updPort l fun p => { p with rxKind := vupd p.rxKind lane fun _ => kind }
      (kind = 0x87 ∧ 64 ≤ content) ∨ (kind = 0x1E ∧ content ≠ 0) ∨ (kind = 0x33 ∧ 256 ≤ content) ∨
        (kind = 0x4C ∧ (s.begin t).ports[l].rxKind[lane] ≠ 0x4B) ∨ (kind = 0x56 ∧ (s.begin t).ports[l].rxKind[lane] ≠ 0x55) ∨
        kind ∉ ([0x1E, 0x2D, 0x33, 0x4B, 0x4C, 0x55, 0x56, 0x66, 0x67, 0x78, 0x87] : List Nat) →
      exec (.reverseBlock t l { lane, kind } content) s = .next (s1.updPort l fun p => { p with discards := p.discards + 1 })) ∧
    (∀ (t : Nat) (l : Fin 16) (s : State),
      let s0 := s.begin t
      let c := s0.chainOf l
      s0.isDual c = true → s0.ports[c].dual = .degraded → heldFor s0.ports[(Fin.ofNat 16 (c.val + 1) : Fin 16)].lockSince s0.ft = true →
      exec (.dualLockRegained t l) s = .next (s0.setDual c .normal 0)) ∧
    (∀ (t : Nat) (k : Kop) (l : Fin 16) (s : State) (w : Fin 32),
      let s1 := Safety.taken s t k
      let c := s1.chainOf l
      let far := (fins 9).reverse.filter fun a => decide (s1.ports[c].splitPt ≤ a.val) && s1.ports[c].nodes[a].present
      Safety.Admits s t k (lIdx l) 0x07 1 w → s1.ports[c].dual = .split → s1.segmentOk c = true →
      exec (.restore t k l) s = .next (
        if s1.chainIdle c = true then
          Safety.done ((far.foldl (fun x a => x.updNode c a fun n => { n with side := 0 }) (far.foldl (fun x a => x.writeReg c a 0x118 9) s1)).setDual
            c .normal 0) w k (lIdx l) 0x07
        else Safety.refused s1 w k abWork)))

/-! ### Motion (chapter 10) -/

/-- MOVE_ABSOLUTE, MOVE_RELATIVE, AXIS_HOME, FOLLOW_START, FOLLOW_END, COARSE_STEP, GROUP_MOVE and FEED_MOVE_START (R285–R287, R289, R293–R295, R299): a permitted
move latches the axis's parameters and starts its profile towards the target; a home starts towards the configured side; in FOLLOWING each coarse step owes
its microsteps, from the edge of CLK_PER at its tick, to be issued evenly over the time since the step before it (R293), and a step of the other direction
waits until the old direction is finished at the maximum speed, DIR has turned and DIR_SETUP has passed (R283); every member of a group starts on one tick with the group's parameters. -/
def Obligations.AxesMove : Prop :=
  (∀ (t : Nat) (k : Kop) (a : Fin 8) (v : Nat) (s : State) (w : Fin 32),
    let s1 := Safety.taken s t k
    let d := sx 64 v - s1.axes[a].pos
    let s2 := s1.latchAxis a
    Safety.Admits s t k (aIdx a) 0x06 v w → s1.motionCode a = 0 → s1.axes[a].referenced = true → posRange (sx 64 v) = true → d ≠ 0 →
    s1.limitBlocks a (decide (0 < d)) = false →
    exec (.moveAbsolute t k a v) s =
      .next (Safety.going (s2.startMove a .moving (decide (0 < d)) d.natAbs s2.axes[a].vLat) w k (aIdx a) 0x06)) ∧
  (∀ (t : Nat) (k : Kop) (a : Fin 8) (v : Nat) (s : State) (w : Fin 32),
    let s1 := Safety.taken s t k
    let d := s1.axes[a].pos + sx 64 v - s1.axes[a].pos
    let s2 := s1.latchAxis a
    Safety.Admits s t k (aIdx a) 0x07 v w → s1.motionCode a = 0 → posRange (s1.axes[a].pos + sx 64 v) = true → d ≠ 0 →
    s1.limitBlocks a (decide (0 < d)) = false →
    exec (.moveRelative t k a v) s =
      .next (Safety.going (s2.startMove a .moving (decide (0 < d)) d.natAbs s2.axes[a].vLat) w k (aIdx a) 0x07)) ∧
  (∀ (t : Nat) (k : Kop) (a : Fin 8) (s : State) (w : Fin 32),
    let s1 := Safety.taken s t k
    let pos := s1.ac a 0x1B == 0
    let s2 := s1.latchAxis a
    Safety.Admits s t k (aIdx a) 0x09 1 w → s1.motionCode a = 0 →
    ((fins 16).any fun w => s1.oget (swIdx w) 0x04 == 1 && s1.oget (swIdx w) 0x05 == a.val) = true → s1.limitBlocks a pos = false →
    exec (.axisHome t k a 1) s =
      .next (Safety.going ((s2.startMove a .homing pos (2 ^ 49) (s2.ac a 0x1C)).updAxis a fun x => { x with homed := false }) w k (aIdx a) 0x09)) ∧
  (∀ (t : Nat) (k : Kop) (a : Fin 8) (s : State) (w : Fin 32),
    let s1 := Safety.taken s t k
    Safety.Admits s t k (aIdx a) 0x0A 1 w → s1.motionCode a = 0 →
    exec (.followStart t k a) s = .next (Safety.done ((s1.latchAxis a).updAxis a fun x =>
      { x with state := .following, mult := s1.ac a 0x1A, lastIn := none, ending := false }) w k (aIdx a) 0x0A)) ∧
  (∀ (t : Nat) (k : Kop) (a : Fin 8) (s : State) (w : Fin 32),
    let s1 := Safety.taken s t k
    Safety.Admits s t k (aIdx a) 0x0A 0 w → s1.axes[a].state = .following →
    exec (.followEnd t k a) s = .next (
      if s1.axes[a].idleAt s1.ft = true then Safety.done (s1.comeToRest a .idle 0) w k (aIdx a) 0x0A
      else Safety.going (s1.updAxis a fun x => { x with ending := true }) w k (aIdx a) 0x0A)) ∧
  (∀ (t : Nat) (a : Fin 8) (s : State),
    let s0 := s.begin t
    let x := s0.axes[a]
    x.state = .following → x.ending = false → s0.hardLimit a x.dir = false → x.lastIn = none → x.segs = [] →
    exec (.coarseStep t a x.dir) s = .next (s0.updAxis a fun _ =>
      { x with lastIn := some (perEdge s0.ft),
               segs := [{ kind := 2, t0 := max (perEdge s0.ft) (x.enAt + usFt (10 * fld (s0.ac a 0x19) 20 8)), pos := x.dir, turn := none,
                          base := .rat 0, dist := .rat (x.mult : Nat), v0 := .rat (spread x.mult ((x.mult : Rat) / x.vLat) x.vLat), vmax := 0,
                          acc := 0, dec := 0, num := 1, den := 1, total := x.mult }] })) ∧
  (∀ (x : Axis) (p : Profile) (dir : Bool) (stamp setup ready : Nat), x.segs = [p] → p.over_ stamp = false → p.pos = !dir →
    let q := p.finish stamp x.vLat
    let u := max stamp q.endTick
    q.v0 = .rat x.vLat ∧ q.total = p.total ∧
    x.coarse dir stamp setup ready = ([], [q],
      { kind := 2, t0 := max (u + 125 * setup) ready, pos := dir, turn := some u, base := .rat 0, dist := .rat (x.mult : Nat),
        v0 := .rat (spread x.mult ((x.mult : Rat) / x.vLat) x.vLat), vmax := 0, acc := 0, dec := 0, num := 1, den := 1, total := x.mult })) ∧
  (∀ (x : Axis) (p : Profile) (stamp setup ready i : Nat),
    x.segs = [p] → p.over_ stamp = false → x.state = .following → x.lastIn = some i → stamp < i + msFt 10 →
    let owed := (p.total - p.stepsAt stamp) + x.mult
    x.coarse p.pos stamp setup ready = ([p], [],
      { kind := 2, t0 := max (max stamp p.t0) ready, pos := p.pos, turn := p.turn, base := .rat 0, dist := .rat (owed : Nat),
        v0 := .rat (spread owed (ftSec (stamp - i)) x.vLat), vmax := 0, acc := 0, dec := 0, num := 1, den := 1, total := owed })) ∧
  (∀ (t : Nat) (a : Fin 8) (dir : Bool) (s : State),
    let s0 := s.begin t
    (s0.axes[a].state ≠ .following ∨ s0.axes[a].ending = true →
      exec (.coarseStep t a dir) s = .next (s0.updAxis a fun x => { x with ignored := x.ignored + 1 })) ∧
    (s0.axes[a].state = .following → s0.axes[a].ending = false → s0.hardLimit a dir = true →
      exec (.coarseStep t a dir) s = .next (s0.hardStop a dir))) ∧
  (∀ (t : Nat) (z : Fin 8) (s : State) (a : Fin 8),
    let s0 := s.begin t
    let d := sx 32 (s0.zc z 0x60)
    let s1 := (s0.updZone z fun y => { y with feedDue := false, feedRun := true }).latchAxis a
    s0.feedAxis z = some a → s0.zones[z].feedDue = true → s0.axes[a].state = .idle → s0.running 3 = true → d ≠ 0 →
    s1.limitBlocks a (decide (0 < d)) = false → posRange (s1.axes[a].pos + d) = true →
    exec (.feedMoveStart t z) s =
      .next ((s1.startMove a .moving (decide (0 < d)) d.natAbs s1.axes[a].vLat).updAxis a fun x => { x with feed := some z })) ∧
  (∀ (t : Nat) (k : Kop) (g : Fin 4) (targets : Nat) (s : State) (w : Fin 32),
    let s1 := Safety.taken s t k
    let ms := s1.members g
    let target := fun (a : Fin 8) => sx 64 (fld targets (64 * a.val) 64)
    let ds := (fins 8).map fun a => if ms.contains a then target a - s1.axes[a].pos else 0
    let big := (ds.map Int.natAbs).foldl max 0
    let lead := ((fins 8).find? fun a => (ds.getD a.val 0).natAbs == big).getD 0
    let v := s1.groupParam ds 0x10
    let ac := s1.groupParam ds 0x11
    let dc := s1.groupParam ds 0x12
    let go := (fins 8).filter fun a => ds.getD a.val 0 != 0
    let s2 := (go.foldl State.latchAxis s1).updAxis lead fun x => { x with vLat := v.floor.toNat, aLat := ac.floor.toNat, dLat := dc.floor.toNat }
    let t0 := go.foldl (fun m a => max m (s2.originAt a (decide (0 < ds.getD a.val 0)) s2.ft)) s2.ft
    let s3 := go.foldl (fun s a => (s.turnTo a (decide (0 < ds.getD a.val 0))).updAxis a fun x =>
      { x with state := .moving, grp := some g,
               segs := [{ kind := 0, t0, pos := decide (0 < ds.getD a.val 0), turn := none, base := .rat 0, dist := .rat big, v0 := .rat 0, vmax := v, acc := ac,
                          dec := dc, num := (ds.getD a.val 0).natAbs, den := big, total := (ds.getD a.val 0).natAbs }] }) s2
    Safety.Admits s t k (grpIdx g) 0x01 targets w → ((fins 8).any fun a => !ms.contains a && target a != 0) = false → s1.running 3 = true →
    (ms.map fun a => s1.memberCode a (target a)).foldl (fun c x => if c ≠ 0 then c else x) 0 = 0 → big ≠ 0 →
    exec (.groupMove t k g targets) s =
      .next (Safety.going { s3 with groups := vupd s3.groups g fun _ => { state := 1, lead := lead.val, deltas := ds } } w k (grpIdx g) 0x01))

/-- AXIS_STOP, GROUP_STOP, MOVE_COMPLETE, STOP_COMPLETE, VIRTUAL_LIMIT_CROSSED, SWITCH_EDGE, AXIS_ENABLE, AXIS_DISABLE, AXIS_PRESET and AXIS_CLEAR (R275, R284,
R285, R288, R290–R292, R295, R296, R301): a moving axis stops on its own profile or with its group; an axis whose profile has ended comes to rest; a hard limit
in the direction of motion stops it at the stamp of its edge.
AXIS_POWER_DOWN, RET_RELEASE, RETENTION_CHECK, RETENTION_COMPLETE, RETENTION_TIMEOUT and DRIVER_SUPPLY_LOSS (R297, R298): RET is driven low for 2 µs and
released; an axis whose driver holds RET low for it and then high is RETAINED; every other end loses the phase. -/
def Obligations.AxesStopAndAreRetained : Prop :=
  (
    (∀ (t : Nat) (k : Kop) (a : Fin 8) (s : State) (w : Fin 32),
      let s1 := Safety.taken s t k
      Safety.Admits s t k (aIdx a) 0x08 1 w →
      (s1.axes[a].state = .moving → s1.axes[a].grp = none →
        exec (.axisStop t k a) s = .next (Safety.going (s1.beginStop a (s1.ac a 0x13)) w k (aIdx a) 0x08)) ∧
      (s1.axes[a].state.rest = true ∨ s1.axes[a].state = .stopping → exec (.axisStop t k a) s = .next (Safety.done s1 w k (aIdx a) 0x08))) ∧
    (∀ (t : Nat) (k : Kop) (g : Fin 4) (s : State) (w : Fin 32),
      let s1 := Safety.taken s t k
      Safety.Admits s t k (grpIdx g) 0x02 1 w →
      exec (.groupStop t k g) s = .next (if s1.groups[g].state = 1 then Safety.going (s1.stopGroup g) w k (grpIdx g) 0x02
        else Safety.done s1 w k (grpIdx g) 0x02)) ∧
    (∀ (t : Nat) (a : Fin 8) (s : State), (s.begin t).axes[a].state = .moving → (s.begin t).axes[a].idleAt (s.begin t).ft = true →
      exec (.moveComplete t a) s = .next ((s.begin t).comeToRest a .idle 0)) ∧
    (∀ (t : Nat) (a : Fin 8) (s : State),
      let s0 := s.begin t
      s0.axes[a].state = .stopping → s0.axes[a].idleAt s0.ft = true → s0.axes[a].homed = false →
      exec (.stopComplete t a) s = .next (s0.comeToRest a .idle (if s0.axes[a].atTarget = true then 0 else 1 + Config.motionCode 1))) ∧
    (∀ (t : Nat) (a : Fin 8) (s : State), (s.begin t).crossed a = true →
      exec (.virtualLimitCrossed t a) s = .next ((s.begin t).stopAxis a)) ∧
    (∀ (t : Nat) (sw : Fin 16) (stamp : Nat) (level : Bool) (s : State) (a : Fin 8) (p : Profile),
      let s0 := (s.begin t).wake 6
      let lv := level != (s0.oget (swIdx sw) 0x02 == 1)
      let s1 : State := { s0 with switches := vupd s0.switches sw fun x => { level := lv, edges := x.edges + 1, lastAt := stamp } }
      s0.switches[sw].level ≠ lv → s0.filtered stamp (usFt (s0.oget (swIdx sw) 0x03)) = true → s0.oget (swIdx sw) 0x05 = a.val → lv = true →
      (s0.oget (swIdx sw) 0x04 = 1 → exec (.switchEdge t sw stamp level) s = .next (s1.homeEdge a stamp)) ∧
      (s0.oget (swIdx sw) 0x04 = 2 → s0.axes[a].active s0.ft = some p → p.pos = true → s0.axes[a].state.rest = false →
        exec (.switchEdge t sw stamp level) s = .next (s1.hardStop a true)) ∧
      (s0.oget (swIdx sw) 0x04 = 3 → s0.axes[a].active s0.ft = some p → p.pos = false → s0.axes[a].state.rest = false →
        exec (.switchEdge t sw stamp level) s = .next (s1.hardStop a false))) ∧
    (∀ (t : Nat) (k : Kop) (a : Fin 8) (high : Nat) (s : State) (w : Fin 32),
      let s1 := Safety.taken s t k
      Safety.Admits s t k (aIdx a) 0x05 1 w → s1.axes[a].state = .disabled →
      exec (.axisEnable t k a high) s = .next (if high = 0 then Safety.refused s1 w k abMoving
        else Safety.done ((s1.driveEn a true).updAxis a fun x => { x with state := .idle }) w k (aIdx a) 0x05)) ∧
    (∀ (t : Nat) (k : Kop) (a : Fin 8) (s : State) (w : Fin 32),
      let s1 := Safety.taken s t k
      Safety.Admits s t k (aIdx a) 0x05 0 w →
      (s1.axes[a].state = .idle → exec (.axisDisable t k a) s =
        .next (Safety.done ((s1.driveEn a false).updAxis a fun x => { x with state := .disabled }) w k (aIdx a) 0x05)) ∧
      (s1.axes[a].state.rest = false → exec (.axisDisable t k a) s = .next (Safety.refused s1 w k abMoving))) ∧
    (∀ (t : Nat) (k : Kop) (a : Fin 8) (v : Nat) (s : State) (w : Fin 32),
      let s1 := Safety.taken s t k
      Safety.Admits s t k (aIdx a) 0x0C v w → s1.axes[a].state.rest = true → posRange (sx 64 v) = true →
      exec (.axisPreset t k a v) s = .next (Safety.done (s1.updAxis a fun x => { x.reference with pos := sx 64 v }) w k (aIdx a) 0x0C)) ∧
    (∀ (t : Nat) (k : Kop) (a : Fin 8) (s : State) (w : Fin 32), Safety.Admits s t k (aIdx a) 0x0D 1 w →
      exec (.axisClear t k a) s =
        .next (Safety.done ((Safety.taken s t k).updAxis a fun x => (x.flag 6 false).flag 7 false) w k (aIdx a) 0x0D))) ∧ (
    (∀ (t : Nat) (k : Kop) (a : Fin 8) (s : State) (w : Fin 32),
      let s1 := Safety.taken s t k
      Safety.Admits s t k (aIdx a) 0x0B 1 w →
      exec (.axisPowerDown t k a) s = .next (if s1.powerDownCode a = 0 then Safety.going (s1.beginRetain a) w k (aIdx a) 0x0B
        else Safety.refused s1 w k (s1.powerDownCode a))) ∧
    (∀ (t : Nat) (a : Fin 8) (s : State),
      let s0 := s.begin t
      s0.axes[a].state = .retaining → s0.axes[a].retStep = 1 → s0.axes[a].retAt + usFt 2 ≤ s0.ft →
      exec (.retRelease t a) s = .next ((s0.updAxis a fun x => { x with retStep := 2, retDriven := false }).emit (.axisPin a.val 1 1))) ∧
    (∀ (t : Nat) (a : Fin 8) (low : Bool) (s : State),
      let s0 := s.begin t
      s0.axes[a].state = .retaining → s0.axes[a].retStep = 2 → s0.axes[a].retAt + usFt 12 ≤ s0.ft →
      exec (.retentionCheck t a low) s = .next (if low = true then s0.updAxis a fun x => { x with retStep := 3 }
        else s0.phaseLost a (1 + Config.motionCode 3))) ∧
    (∀ (t : Nat) (a : Fin 8) (s : State),
      let s0 := s.begin t
      s0.axes[a].state = .retaining → s0.axes[a].retStep = 3 → s0.ft ≤ s0.axes[a].retAt + usFt 22 + s0.axes[a].retTo →
      exec (.retentionComplete t a) s =
        .next (((s0.comeToRest a .retained 0).driveEn a false).updAxis a fun x => { x with retStep := 0 })) ∧
    (∀ (t : Nat) (a : Fin 8) (s : State),
      let s0 := s.begin t
      s0.axes[a].state = .retaining → s0.axes[a].retStep = 3 → s0.axes[a].retAt + usFt 12 + s0.axes[a].retTo ≤ s0.ft →
      exec (.retentionTimeout t a) s = .next (s0.phaseLost a (1 + Config.motionCode 3))) ∧
    (∀ (t : Nat) (a : Fin 8) (s : State),
      let s0 := s.begin t
      s0.axes[a].state = .idle → s0.axes[a].grp = none →
      exec (.driverSupplyLoss t a) s = .next (s0.phaseLost a (1 + Config.motionCode 2))))

/-! ### Self-calibration (chapter 11) -/

/-- ENCODER_COLLECTION_COMPLETE, COLLECTION_TIMEOUT, ENCODER_COMPUTE_DONE, ENCODER_VERIFY_DONE, CALIBRATION_APPLY and APPLY_TIMEOUT (R305–R308): a complete
collection goes on to the computation, one channel at a time; its values are verified by a second collection, rejected by the first check that fails, and
take effect in a gap; what does not come in time ends the run.
CALIBRATION_TEMPERATURE_CHECK, RECEIVE_RUN_START, TRANSMIT_RUN_START, RECEIVE_RUN_COMPLETE, TERMINATION_CALIBRATION_DONE and TRANSMIT_LOCK_TIMEOUT (R303,
R309–R311): the lane run that is due first and whose window is open starts; a sweep whose widest eye reaches the limit takes effect and records its temperature,
and a setting that a host has written takes effect with a new version (R314, R355); a plausible code waits for lock on its lane, and one without lock for 10 ms gives way to the old code. -/
def Obligations.ChannelsAndLanesAreCalibrated : Prop :=
  (
    (∀ (t : Nat) (c : Fin 4) (s : State),
      let s0 := s.begin t
      s0.enc[c].st = 1 → s0.enc[c].ready = false → s0.chans[encChan c].state = .valid → s0.collected c = true →
      exec (.encoderCollectionComplete t c) s = .next (s0.updCal c fun e => { e with ready := true, since := s0.ft }).nextCompute) ∧
    (∀ (t : Nat) (c : Fin 4) (s : State),
      let s0 := s.begin t
      s0.enc[c].st = 1 ∨ s0.enc[c].st = 3 → s0.enc[c].ready = false → s0.chans[encChan c].state = .valid → s0.collected c = false →
      s0.enc[c].since + msFt (s0.oget (encIdx c) 0x03) ≤ s0.ft →
      exec (.collectionTimeout t c) s = .next (s0.endEnc c 7)) ∧
    (∀ (t : Nat) (c : Fin 4) (s : State),
      let s0 := s.begin t
      s0.enc[c].st = 2 →
      exec (.encoderComputeDone t c) s =
        .next (s0.updCal c fun e => { (e.collect s0.ft s0.chans[encChan c].periods) with st := 3, new := some e.compute }).nextCompute) ∧
    (∀ (t : Nat) (c : Fin 4) (s : State) (n : Corr),
      let s0 := s.begin t
      let r := s0.enc[c].residualOf
      let bad := failingCheck (s0.corr (encChan c)) n r (s0.oget (encIdx c) 0x04)
      s0.enc[c].new = some n → s0.enc[c].st = 3 → s0.chans[encChan c].state = .valid → s0.collected c = true →
      exec (.encoderVerifyDone t c) s = .next (
        if bad = 0 then s0.updCal c fun e => { e with st := 4, newResid := min r 0xFFFF, since := s0.ft }
        else (s0.endEnc c 4).event 0x9011 s0.calLoc [(8, 1), (16, c.val), (8, bad), (8, 0), (8, 0)])) ∧
    (∀ (t : Nat) (c : Fin 4) (s : State) (n : Corr),
      let s0 := s.begin t
      s0.enc[c].new = some n → s0.enc[c].st = 4 →
      exec (.calibrationApply t c) s = .next (if s0.mayApply (encChan c) n = true then s0.applyCorr c n else s0)) ∧
    (∀ (t : Nat) (c : Fin 4) (s : State),
      let s0 := s.begin t
      s0.enc[c].st = 4 → s0.enc[c].since + msFt (s0.oget (encIdx c) 0x05) ≤ s0.ft →
      exec (.applyTimeout t c) s = .next ((s0.endEnc c 8).faultEvent 18 s0.calLoc (encIdx c) 0x0A 8 0))) ∧ (
    (∀ (t : Nat) (s : State), (s.begin t).running 5 = false → exec (.calibrationTemperatureCheck t) s = .next (s.begin t)) ∧
    (∀ (t : Nat) (s : State),
      let s0 := s.begin t
      let s1 := (fins 4).foldl (fun x c =>
        if x.oget (encIdx c) 0x01 = 1 ∧ x.cc (encChan c) 0x01 = 3 ∧ ¬ (1 ≤ x.enc[c].st ∧ x.enc[c].st ≤ 4) ∧
            x.tempMoved x.enc[c].refTemp (x.oget (encIdx c) 0x02) then (x.addDue 1 c.val none true).startEnc (encChan c)
        else x) s0
      s0.running 5 = true →
      exec (.calibrationTemperatureCheck t) s = .next ((fins 16).foldl (fun x l =>
        if x.oget (lcIdx l) 0x01 = 1 then
          (x.calLanes l).foldl (fun x lane =>
            if x.lanes[l].run ≠ lane + 1 ∧ x.tempMoved (x.lanes[l].refTemps.toList.getD lane none) (x.oget (lcIdx l) 0x02) then
              x.addDue 2 (laneTarget l lane) none true
            else x) x
        else x) s1)) ∧
    (∀ (t : Nat) (l : Fin 16) (lane : Fin 2) (s : State) (d : DueRun),
      (s.begin t).firstLane l = some d → d.target = laneTarget l (3 + lane.val) →
      exec (.receiveRunStart t l lane) s = .next ((s.begin t).startLane l d)) ∧
    (∀ (t : Nat) (l : Fin 16) (lane : Fin 3) (s : State) (d : DueRun),
      (s.begin t).firstLane l = some d → d.target = laneTarget l lane.val →
      exec (.transmitRunStart t l lane) s = .next ((s.begin t).startLane l d)) ∧
    (∀ (t : Nat) (l : Fin 16) (openOff oldEye : Nat) (s : State),
      let s0 := s.begin t
      let x := s0.lanes[l]
      let k : Fin 2 := if x.run = 4 then 0 else 1
      let r := sweep openOff
      x.run = 4 ∨ x.run = 5 → x.write = none → s0.oget (lcIdx l) 0x03 ≤ r.2.2 →
      exec (.receiveRunComplete t l openOff oldEye) s =
        .next ((((((s0.oput (lcIdx l) (0x04 + k.val) (r.1 + 16 * toU 6 r.2.1)).laneRef l x.lane).updLane l fun y =>
          { y with eyes := vupd y.eyes k fun _ => r.2.2 })).endLane l 3).event 0x9010 s0.calLoc [(8, 2), (16, laneTarget l x.lane), (16, r.2.2)])) ∧
    (∀ (t : Nat) (l : Fin 16) (code : Nat) (s : State),
      let s0 := s.begin t
      let x := s0.lanes[l]
      1 ≤ x.run → x.run ≤ 3 → x.step = 2 → x.since + usFt 50 ≤ s0.ft → x.write = none → x.verdict = 3 → 8 ≤ code → code ≤ 56 →
      exec (.terminationCalibrationDone t l code) s =
        .next ((((s0.idleLanes l).updLane l fun _ =>
          { x with step := 3, lockOnce := [], lockTwice := [], write := some code }).sendAgain l x.lane).checkLocked l)) ∧
    (∀ (t : Nat) (l : Fin 16) (openOff oldEye v : Nat) (s : State),
      let s0 := s.begin t
      let x := s0.lanes[l]
      let k : Fin 2 := if x.run = 4 then 0 else 1
      x.run = 4 ∨ x.run = 5 → x.write = some v →
      exec (.receiveRunComplete t l openOff oldEye) s = .next ((s0.oapply (lcIdx l) (0x04 + k.val) v).endLane l 3)) ∧
    (∀ (t : Nat) (l : Fin 16) (s : State),
      let s0 := s.begin t
      let x := s0.lanes[l]
      1 ≤ x.run → x.run ≤ 3 → x.since + msFt 10 ≤ s0.ft →
      (x.step = 3 → exec (.transmitLockTimeout t l) s = .next (s0.updLane l fun y =>
        { y with step := 4, since := s0.ft, verdict := if y.verdict = 3 then 4 else y.verdict, write := none, lockOnce := [], lockTwice := [] })) ∧
      (x.step = 4 → exec (.transmitLockTimeout t l) s = .next (
        let s1 := (s0.updLane l fun y => { y with failed := y.failed ||| 2 ^ x.lane }).endLane l 4
        s1.event 0x6814 (s1.locBMR 13 l.val x.lane 1023 0xFFFF) [(8, l.val), (8, x.lane)]))))

/-- REQUEST_CANCEL, REQUEST_ENCODER_CAL, REQUEST_LANE_CAL, REQUEST_ELEMENT_SCAN, REQUEST_DEADLINE, CALIBRATION_VALUE_WRITE and AUTO_CALIBRATION_WRITE (R304,
R314–R317). -/
def Obligations.RequestsAreTaken : Prop :=
  (∀ (t : Nat) (k : Kop) (i : Fin 16) (s : State) (w : Fin 32),
    let s1 := Safety.taken s t k
    let q := s1.reqs[i]
    Safety.Admits s t k (0x6010 + i.val) 0x01 (reqValue 0 0 0) w →
    exec (.requestCancel t k i) s = .next (
      if q.result = 2 then Safety.refused s1 w k abWork
      else if q.result = 1 then Safety.done ((s1.updReq i fun q => { q with result := 9 }).pruneDue q.kind q.target) w k (0x6010 + i.val) 0x01
      else Safety.done s1 w k (0x6010 + i.val) 0x01)) ∧
  (∀ (t : Nat) (k : Kop) (i : Fin 16) (c : Fin 4) (deadline : Nat) (s : State) (w : Fin 32),
    let s1 := Safety.taken s t k
    Safety.Admits s t k (0x6010 + i.val) 0x01 (reqValue 1 c.val deadline) w → s1.reqBusy i = false → s1.cc (encChan c) 0x01 = 3 → s1.enc[c].st = 0 →
    exec (.requestEncoderCal t k i c.val deadline) s =
      .next (Safety.done (((s1.acceptReq i 1 c.val deadline 1).addDue 1 c.val none false).startEnc (encChan c)) w k (0x6010 + i.val) 0x01)) ∧
  (∀ (t : Nat) (k : Kop) (i : Fin 16) (target deadline : Nat) (s : State) (w : Fin 32),
    let s1 := Safety.taken s t k
    Safety.Admits s t k (0x6010 + i.val) 0x01 (reqValue 2 target deadline) w → s1.reqBusy i = false →
    exec (.requestLaneCal t k i target deadline) s = .next (Safety.done (
      if s1.laneExists target = true then
        (if s1.lanes[Fin.ofNat 16 (target / 16)].run = target % 16 + 1 then s1.acceptReq i 2 target deadline 2
         else (s1.acceptReq i 2 target deadline 1).addDue 2 target none false)
      else s1.acceptReq i 2 target deadline 4) w k (0x6010 + i.val) 0x01)) ∧
  (∀ (t : Nat) (k : Kop) (i : Fin 16) (h : Fin 64) (deadline : Nat) (s : State) (w : Fin 32),
    let s1 := Safety.taken s t k
    Safety.Admits s t k (0x6010 + i.val) 0x01 (reqValue 3 h.val deadline) w → s1.reqBusy i = false →
    exec (.requestElementScan t k i h.val deadline) s = .next (Safety.done (
      if s1.heads[h].link = none then s1.acceptReq i 3 h.val deadline 4
      else s1.acceptReq i 3 h.val deadline (if s1.heads[h].scanBlk.isSome ∨ s1.heads[h].scanNext ≠ 0 then 2 else 1)) w k (0x6010 + i.val) 0x01)) ∧
  (∀ (t : Nat) (i : Fin 16) (s : State),
    let s0 := s.begin t
    let q := s0.reqs[i]
    q.result = 1 → q.deadline ≠ 0 → q.deadline ≤ s0.ft →
    exec (.requestDeadline t i) s = .next (((s0.updReq i fun q => { q with result := 5 }).pruneDue q.kind q.target).event 0x9012 s0.calLoc
      [(8, i.val), (8, q.kind), (16, q.target)])) ∧
  (∀ (t : Nat) (k : Kop) (index sub v : Nat) (s : State) (w : Fin 32) (target : Nat),
    let s1 := Safety.taken s t k
    let l : Fin 16 := Fin.ofNat 16 (target / 16)
    let s2 := (s1.addDue 2 target (some v) false).laneRef l (target % 16)
    Safety.Admits s t k index sub v w → (∀ r, objRow index sub = some r → r.acc ≠ 4) → calTarget index sub = some (2, target) →
    s1.calBusy 2 target = false →
    exec (.calibrationValueWrite t k index sub v) s = .next (s2.respond w (s2.plainResp k 0))) ∧
  (∀ (t : Nat) (k : Kop) (c : Fin 4) (s : State) (w : Fin 32),
    let s1 := Safety.taken s t k
    let s2 := (((s1.oapply (encIdx c) 0x01 0).unAuto 1 c.val).pruneDue 1 c.val).abandonEnc c
    Safety.Admits s t k (encIdx c) 0x01 0 w →
    exec (.autoCalibrationWrite t k (encIdx c) 0x01 0) s = .next (s2.respond w (s2.plainResp k 0))) ∧
  (∀ (t : Nat) (k : Kop) (c : Fin 4) (s : State) (w : Fin 32),
    let s2 := (Safety.taken s t k).oapply (encIdx c) 0x01 1
    Safety.Admits s t k (encIdx c) 0x01 1 w →
    exec (.autoCalibrationWrite t k (encIdx c) 0x01 1) s = .next (s2.respond w (s2.plainResp k 0)))

/-! ### Host sessions (chapter 12) -/

/-- Taking a datagram (R320, R322, R325, R326, R332, R438): an authentic, well-formed datagram of an open session whose lease runs, with a SEQ neither seen
nor 1,024 or more below the highest, is taken: its SEQ is recorded, the lease renewed, the path taken over. A tag that does not verify under the session's
key, a SEQ seen, or an envelope out of form changes nothing but a count; no datagram is taken twice. A frame with a bad FCS, a second tag, a wrong VLAN ID,
another destination or an unknown UDP port is counted as discarded, and no more; one of a size out of range, PAUSE or a fragment is not even counted there;
an echo request is answered, at most 100 times in a second. -/
def Obligations.DatagramsAreTakenOnce : Prop :=
  (∀ (s s1 : State) (d : Dgram) (i : Fin 32),
    let x := s1.sessions[i]
    s.frameIn d.port false d.eth = (true, s1) → s1.sess? d.sid = some i → s1.ft < x.leaseEnd → x.port = d.port → x.addr = d.addr →
    (d.tagVerifies x.keyIn = false → s.datagram d = (none, { s1 with authFails := s1.authFails + 1 })) ∧
    (d.tagVerifies x.keyIn = true → d.seq + 1024 ≤ x.seqHi ∨ d.seq ∈ x.seqSeen ∨ d.seq = 0 →
      s.datagram d = (none, { s1 with replays := s1.replays + 1 })) ∧
    (d.tagVerifies x.keyIn = true → x.seqHi < d.seq + 1024 → d.seq ∉ x.seqSeen → d.seq ≠ 0 →
      (s1.envelopeOk d = false → s.datagram d = (none, { s1 with malformed := s1.malformed + 1 })) ∧
      (s1.envelopeOk d = true → s.datagram d = (some i, (s1.updSess i fun y =>
        { y with seqHi := max x.seqHi d.seq, seqSeen := (d.seq :: y.seqSeen).filter fun q => max x.seqHi d.seq < q + 1024,
                 leaseEnd := s1.ft + msFt y.leaseMs, port := d.port, addr := d.addr }).flushTx i)))) ∧
  (∀ (s s1 : State) (d : Dgram) (i : Fin 32), s.frameIn d.port false d.eth = (true, s1) → s1.sess? d.sid = some i →
    s1.running 1 = true → s1.sessions[i].leaseEnd ≤ s1.ft → s.datagram d = (none, { s1 with staleSess := s1.staleSess + 1 })) ∧
  (∀ (s s' : State) (d : Dgram) (i : Fin 32), s.datagram d = (some i, s') →
    s'.sessions[i].seqHi = max s.sessions[i].seqHi d.seq ∧ (d.seq ∈ s'.sessions[i].seqSeen) ∧ s'.sessions[i].leaseEnd = s.ft + msFt s.sessions[i].leaseMs ∧
    s'.sessions[i].port = d.port ∧ d.tagVerifies s.sessions[i].keyIn = true ∧ d.ver = 1 ∧ d.rsv = 0 ∧ (s'.datagram d).1 = none) ∧
  (∀ (s : State) (p : Fin 4) (e : Eth),
    let s1 := (s.updHport p fun x => { x with rx := x.rx + 1, fecOk := x.fecOk + (if s.fecOn p = true then e.fixed else 0),
                                              fecBad := x.fecBad + (if s.fecOn p = true then e.lost else 0) }).wake 0
    let recent := s1.hports[p].echoes.filter fun t => s1.ft < t + secFt 1
    s.pathUp p.val = true → s.netBuffers = false →
    (ethIgnored e = true → s.frameIn p.val false e = (false, s1)) ∧
    (ethIgnored e = false → s1.ethOk p.val false e = true → s.frameIn p.val false e = (!s1.unreachable, s1)) ∧
    (ethIgnored e = false →
      e.fcsOk = false ∨ 1 < e.tags ∨ e.vid ≠ s1.oget (0x1F40 + p.val) 0x0C ∨ e.own = false ∨ (∃ n, e.body = .udp n ∧ n ≠ s1.oget 0x1F00 0x04) →
      s.frameIn p.val false e = (false, s1.updHport p fun x => { x with discard := x.discard + 1 })) ∧
    (ethIgnored e = false → s1.ethForUs p.val false e = true → e.body = .echo → recent.length < 100 →
      s.frameIn p.val false e =
        (false, (s1.updHport p fun x => { x with echoes := recent ++ [s1.ft], tx := x.tx + 1 }).emit (.reply p.val 1 e.ip))))

/-- HELLO, PROOF, HANDSHAKE_TIMEOUT, HEARTBEAT, CLOSE, LEASE_EXPIRY, SESSION_EVICT, HOST_LINK_UP, HOST_LINK_DOWN and PTP_MESSAGE (R321, R323, R325,
R328–R333): an envelope out of form is counted and has no answer; handshakes are served while K1 runs and no tamper source is active (R432); a link comes up
with lock, with RS-FEC on alignment too, and 10 ms without a fault, and goes down after 1 ms without them; sync messages count from the master in use alone. -/
def Obligations.SessionsOpenAndEnd : Prop :=
  (∀ (t : Nat) (src : Sender) (m : HelloMsg) (s s0 : State),
    let path := src.path
    let eph := Config.random (s0.free + 1)
    let chal := challenge s0.newHid eph (Config.random (s0.free + 2)) s0.serial m.bytes
    let hs : Handshake :=
      { hid := s0.newHid, path, roles := helloRoles m &&& s0.grantable, leaseMs := if m.leaseMs = 0 then s0.oget 0x1F00 0x02 else m.leaseMs,
        window := if m.window = 0 then s0.oget 0x1F00 0x03 else m.window, hostId := certHostId m.cert,
        prov := certIssuer m.cert == 1, at_ := s0.ft, hello := m.bytes, chal, key := certHostKey m.cert, eph }
    let s1 : State := { s0 with shakes := s0.shakes ++ [hs], free := s0.free + 3 }
    (s.begin t).frameIn path.port false src.eth = (true, s0) →
    (src.form 1 m.bytes.length (s0.oget (0x1F40 + path.port) 0x04) = false →
      exec (.hello t src m) s = .next { s0 with malformed := s0.malformed + 1 }) ∧
    (src.form 1 m.bytes.length (s0.oget (0x1F40 + path.port) 0x04) = true → s0.running 1 = true → s0.tamper.active = 0 → s0.shakes.length < 8 →
      helloForm m = true →
      exec (.hello t src m) s = .next (
        if x25519 eph m.hostEph = 0 then s0.refuse path 0 1
        else if s0.certOk m.cert = false then s0.refuse path 0 2
        else if helloRoles m = 0 then s0.refuse path 0 3
        else if helloRoles m &&& s0.grantable = 0 then s0.refuse path 0 7
        else s1.sendPath path 2 156 (ofBytes chal)))) ∧
  (∀ (t : Nat) (src : Sender) (hid sig : Nat) (s s0 : State) (hs : Handshake),
    let path := src.path
    let s1 : State := { s0 with shakes := s0.shakes.filter fun h => h.hid ≠ hid }
    (s.begin t).frameIn path.port false src.eth = (true, s0) → src.form 3 68 (s0.oget (0x1F40 + path.port) 0x04) = true →
    s0.running 1 = true → s0.tamper.active = 0 → (s0.shakes.find? fun h => h.hid == hid && samePath h.path path) = some hs →
    s0.ft ≤ hs.at_ + msFt 500 →
    exec (.proof t src hid sig) s =
      .next (if edVerify hs.key sig (hs.hello ++ hs.chal) = true then s1.finishShake path hs else s1.refuse path hid 6)) ∧
  (∀ (t hid : Nat) (s : State),
    let s0 := s.begin t
    exec (.handshakeTimeout t hid) s =
      .next { s0 with shakes := s0.shakes.filter fun h => !(h.hid == hid && decide (h.at_ + msFt 500 < s0.ft)) }) ∧
  (∀ (t : Nat) (d : Dgram) (s s1 : State) (i : Fin 32),
    ((s.begin t).datagram (d.of 6) = (some i, s1) →
      exec (.heartbeat t d) s = .next (s1.sendRaw i 6 12 (packBits [(64, s1.ft), (32, s1.sessions[i].leaseMs)]))) ∧
    ((s.begin t).datagram (d.of 7) = (some i, s1) → exec (.close t d) s = .next (s1.closeSession i 1 0 0))) ∧
  (∀ (t : Nat) (i : Fin 32) (s : State),
    let s0 := s.begin t
    s0.sessions[i].isOpen = true → s0.running 1 = true → s0.sessions[i].leaseEnd ≤ s0.ft →
    exec (.leaseExpiry t i) s = .next (s0.closeSession i 2 0 0)) ∧
  (∀ (t : Nat) (k : Kop) (i : Fin 32) (s : State) (w : Fin 32),
    let s1 := Safety.taken s t k
    let a := Safety.actor s t k (0x1F20 + i.val) 0x08 w
    Safety.Admits s t k (0x1F20 + i.val) 0x08 1 w → s1.sessions[i].isOpen = true →
    exec (.sessionEvict t k i) s = .next (Safety.done ((s1.sendRaw i 7 4 4).closeSession i 4 a.sess.val a.role) w k (0x1F20 + i.val) 0x08)) ∧
  (∀ (t : Nat) (x : PcsReport) (s : State),
    let s0 := s.begin t
    let p := x.port
    let s1 : State := { s0 with hports := vupd s0.hports p fun x => { x with link := 1 },
                                power := { s0.power with pll := s0.power.pll.set (16 + p.val) true } }
    (s0.hports[p].link = 0 → x.block = true → s0.fecOn p = true → x.align = true → msFt 10 ≤ x.quiet →
      exec (.hostLinkUp t x) s = .next ((fins 32).foldl (fun y i =>
        if y.sessions[i].isOpen ∧ y.sessions[i].port = p.val then y.flushTx i else y) s1.selectPtp)) ∧
    (s0.hports[p].link = 0 → x.block = true → s0.fecOn p = false → msFt 10 ≤ x.quiet →
      exec (.hostLinkUp t x) s = .next ((fins 32).foldl (fun y i =>
        if y.sessions[i].isOpen ∧ y.sessions[i].port = p.val then y.flushTx i else y) s1.selectPtp)) ∧
    (s0.hports[p].link = 1 → x.block = false ∨ (s0.fecOn p = true ∧ x.align = false) ∨ x.quiet = 0 → msFt 1 ≤ x.failing →
      exec (.hostLinkDown t x) s = .next (State.selectPtp { s0 with hports := vupd s0.hports p fun x => { x with link := 0 } }))) ∧
  (∀ (t : Nat) (p : Fin 4) (m : PtpMsg) (s s0 : State),
    let s1 := s0.ptpFresh
    let x := s1.ptp
    (s.begin t).frameIn p.val true m.eth = (true, s0) → x.port = some p.val → m.domain = (if s1.oget 0x1F48 0x01 = 2 then 0 else s1.oget 0x1F48 0x02) →
    (m.kind = 0 → x.grand = none → exec (.ptpMessage t p m) s =
      .next { s1 with ptp := { x with grand := some (m.quality, m.master, s1.ft), utcOffset := m.utcOffset, utcValid := m.utcValid,
                                      state := if x.state = 1 then 2 else x.state } }) ∧
    (∀ (q a : Nat), x.grand = some (q, m.master, a) → x.state = 2 ∨ x.state = 3 →
      (m.kind = 1 → exec (.ptpMessage t p m) s = .next (s1.ptpSync p m.rx m.originNs)) ∧
      (m.kind = 2 → exec (.ptpMessage t p m) s = .next { s1 with ptp := { x with sync := some (m.seqId, m.rx) } })) ∧
    (∀ (q b a : Nat), x.grand = some (q, b, a) → b ≠ m.master → m.kind = 1 → exec (.ptpMessage t p m) s = .next s1) ∧
    (m.kind = 5 → s1.oget 0x1F48 0x01 = 2 →
      exec (.ptpMessage t p m) s = .next ((((s1.ethOut p 0).emit (.ptp p.val 5)).ethOut p 0).emit (.ptp p.val 6))) ∧
    (s1.ptpSync p m.rx m.originNs).ptp.pair = (m.rx, m.originNs + x.delay))

/-- ACK, ACK_SEND, RETRANSMIT, OWNERSHIP_CLAIM, OWNERSHIP_RELEASE, OWNERSHIP_TAKE and OWNERSHIP_LAPSE (R336–R338, R345, R346). -/
def Obligations.MessagesAreAcknowledgedAndZonesOwned : Prop :=
  (∀ (t : Nat) (d : Dgram) (m : AckMsg) (s s1 : State) (i : Fin 32),
    let x := s1.sessions[i]
    let cum := nearNo x.txCum m.cum
    (s.begin t).datagram ((d.of 0x10).only m.ok) = (some i, s1) → (x.txCum : Int) ≤ cum → cum ≤ x.txNext →
    exec (.ack t d m) s = .next (s1.acknowledge i cum.toNat m.credit
      ((m.sack.map fun n => (nearNo x.txCum n).toNat).filter fun n => decide (cum.toNat < n) && decide (n < x.txNext)))) ∧
  (∀ (t : Nat) (i : Fin 32) (s : State),
    let s0 := s.begin t
    let x := s0.sessions[i]
    x.isOpen = true → 0 < x.accepted ∨ x.ackNow = true →
    let s1 := ({ s0 with free := s0.free + 1 } : State).updSess i fun y => { y with accepted := 0, ackFrom := none, ackNow := false }
    exec (.ackSend t i) s = .next (s1.sendRaw i 0x10 16 (ackBody x (x.credit s1.writesExceed s0.free)))) ∧
  (∀ (t : Nat) (i : Fin 32) (n : Nat) (s : State) (m : TxMsg) (b : Nat),
    let s0 := s.begin t
    let x := s0.sessions[i]
    (x.unacked.find? fun m => m.n == n) = some m → m.sentAt = some b → (b : Rat) + x.rtoOf m ≤ s0.ft → s0.pathUp x.port = true →
    exec (.retransmit t i n) s = .next (s0.resend i m false)) ∧
  (∀ (t : Nat) (k : Kop) (z : Fin 8) (s : State) (w : Fin 32),
    let s1 := Safety.taken s t k
    let a := Safety.actor s t k (zIdx z) 0x7A w
    let x := s1.sessions[a.sess]
    Safety.Admits s t k (zIdx z) 0x7A 1 w → bitOf x.roles 2 = true →
    exec (.ownershipClaim t k z) s = .next (
      match s1.zones[z].owner with
      | none => Safety.done (s1.setOwner z (some x.hostId) a.sess.val 3) w k (zIdx z) 0x7A
      | some h => if h = x.hostId then Safety.done s1 w k (zIdx z) 0x7A else Safety.refused s1 w k abNotOwner)) ∧
  (∀ (t : Nat) (k : Kop) (z : Fin 8) (s : State) (w : Fin 32),
    let s1 := Safety.taken s t k
    let a := Safety.actor s t k (zIdx z) 0x7A w
    let x := s1.sessions[a.sess]
    Safety.Admits s t k (zIdx z) 0x7A 2 w → bitOf x.roles 3 = true →
    exec (.ownershipRelease t k z) s = .next (Safety.done (s1.setOwner z none a.sess.val a.role) w k (zIdx z) 0x7A)) ∧
  (∀ (t : Nat) (k : Kop) (z : Fin 8) (s : State) (w : Fin 32),
    let s1 := Safety.taken s t k
    let a := Safety.actor s t k (zIdx z) 0x7A w
    let x := s1.sessions[a.sess]
    Safety.Admits s t k (zIdx z) 0x7A 3 w →
    exec (.ownershipTake t k z) s = .next (if bitOf x.roles 3 = true then Safety.done (s1.setOwner z (some x.hostId) a.sess.val 4) w k (zIdx z) 0x7A
      else Safety.refused s1 w k abRole)) ∧
  (∀ (t : Nat) (z : Fin 8) (s : State) (u : Nat), (s.begin t).zones[z].lapseAt = some u → u ≤ (s.begin t).ft →
    exec (.ownershipLapse t z) s = .next ((s.begin t).setOwner z none 0 0))

/-! ### Registers and transactions (chapter 13) -/

/-- REGISTER_WRITE, TX_BEGIN, TX_WRITE, TX_READ, TX_COMMIT, TX_ABORT, TX_STATUS and TRANSACTION_SLOT_ABORT (R351, R355, R371–R373, R375, R378, R472): a
permitted write of an object that is no command takes force and answers with its version, which rises by one at most once on a tick; a permitted read answers
once the domains that the object reports on are ON; a transaction takes the slot free the longest with the next generation; what is staged is held in it; a
commit whose check fails ends it with the check's code, any other waits for its boundary.
COMMIT_APPLY, COMMIT_TIMEOUT and TRANSACTION_EXPIRY (R373, R375, R378, R379): at its boundary, once no earlier commit is due on the same tick, a
transaction is checked again and applied whole, or ends with the code of the check; a commit whose limit passes and an open one without requests end. -/
def Obligations.RegistersAndTransactionsAreServed : Prop :=
  (
    (∀ (t : Nat) (k : Kop) (index sub v : Nat) (s : State) (w : Fin 32),
      let s0 := Safety.taken s t k
      let x := s0.writtenValue k index sub v
      let s1 := s0.oapply index sub x
      Safety.Admits s t k index sub v w → (∀ r, objRow index sub = some r → r.acc ≠ 4) → otherCommand index sub v = false →
      isSelect index sub = false → (∀ n, objFam index ≠ some (0x5000, n)) → textRange index sub v = true → textRange index sub x = true →
      exec (.registerWrite t k index sub v) s = .next (s1.respond w (s1.plainResp k 0))) ∧
    (∀ (s : State) (i sub v : Nat), smapWf 1 s.ver → sget 0 s.verAt (objKey i sub) ≠ s.ft + 1 →
      (s.oapply i sub v).over i sub = (s.over i sub + 1) % 2 ^ 32 ∧
      ((s.oapply i sub v).oapply i sub v).over i sub = (s.oapply i sub v).over i sub) ∧
    (∀ (t : Nat) (k : Kop) (index sub v : Nat) (s s1 : State) (w : Fin 32),
      let r := readBlob (s1.plainResp k 0) (readSize k.index k.sub) k.off k.len (s1.readObj w k.index k.sub)
      Safety.grant (s.begin t) k = (some w, s1) → k.op = 1 →
      (s1.readCode k k.index k.sub w ≠ 0 → exec (.registerWrite t k index sub v) s =
        .next (s1.respond w (s1.plainResp k (s1.readCode k k.index k.sub w)))) ∧
      (s1.readCode k k.index k.sub w = 0 → s1.domainsOn (readDomains k.index k.sub) = true → r.code = 0 →
        exec (.registerWrite t k index sub v) s = .next ((s1.respond w r).afterRead w k.index k.sub)) ∧
      (s1.readCode k k.index k.sub w = 0 → s1.domainsOn (readDomains k.index k.sub) = false →
        exec (.registerWrite t k index sub v) s =
          .next (s1.await (.registerWrite t k index sub v) k w (readDomains k.index k.sub)))) ∧
    (∀ (t : Nat) (k : Kop) (index v : Nat) (s s1 : State) (w : Fin 32) (r : ObjRow),
      Safety.grant (s.begin t) k = (some w, s1) → k.names 2 index 0x01 = true → s1.writeCode k index 0x01 w = 0 → objRow index 0x01 = some r →
      requestMalformed index v = true →
      exec (.registerWrite t k index 0x01 v) s = .next (s1.respond w (s1.plainResp k abMalformed))) ∧
    (∀ (t : Nat) (k : Kop) (s s1 : State) (w : Fin 32) (y : Fin 8),
      let x := s1.sessions[w]
      let s2 := s1.updTx y fun z => { Tx.init with gen := nextTxGen z.gen, sessIdx := w.val, sid := s1.sid w, host := x.hostId, roles := x.roles,
                                                   state := 1, leaseEnd := s1.ft + msFt (s1.oget 0x1F80 0x03), freedAt := z.freedAt }
      Safety.grant (s.begin t) k = (some w, s1) → k.names 3 0 0 = true → s1.freeTx = some y →
      exec (.txBegin t k) s = .next (s2.respond w (s2.txResp k y 0))) ∧
    (∀ (t : Nat) (k : Kop) (txid index sub v : Nat) (s s1 s3 : State) (w : Fin 32) (y : Fin 8) (r : ObjRow),
      let s2 := s1.updTx y fun x => { x with leaseEnd := s1.ft + msFt (s1.oget 0x1F80 0x03) }
      let x := s2.stageValue y k index sub (s2.bindOf w index sub) v
      let tx := s3.txs[y].put (objKey index sub) (s2.bindOf w index sub) x
      Safety.grant (s.begin t) k = (some w, s1) → k.names 4 index sub = true → s1.tx? w txid = some y → s2.txs[y].state = 1 →
      s2.stageCode k index sub w = 0 → objRow index sub = some r → v < 2 ^ (8 * k.len) → rowRange r x = true → stageRange index sub x = true →
      s2.touch y index sub = some s3 → stageBytes tx.staged ≤ 65536 →
      exec (.txWrite t k txid index sub v) s =
        .next ((s3.updTx y fun _ => tx).respond w (s3.txResp k y 0))) ∧
    (∀ (t : Nat) (k : Kop) (txid index sub : Nat) (s s1 s3 : State) (w : Fin 32) (y : Fin 8),
      let s2 := s1.updTx y fun x => { x with leaseEnd := s1.ft + msFt (s1.oget 0x1F80 0x03) }
      let r := readBlob (s2.txResp k y 0) (readSize index sub) k.off k.len (s2.txValue w y index sub)
      Safety.grant (s.begin t) k = (some w, s1) → k.names 5 index sub = true → s1.tx? w txid = some y → s2.txs[y].state = 1 →
      s2.readCode k index sub w = 0 → s2.domainsOn (readDomains index sub) = true → r.code = 0 → s2.touch y index sub = some s3 →
      exec (.txRead t k txid index sub) s = .next ((s3.respond w r).afterRead w index sub)) ∧
    (∀ (t : Nat) (k : Kop) (txid limit : Nat) (s s1 : State) (w : Fin 32) (y : Fin 8),
      let s2 := s1.updTx y fun x => { x with leaseEnd := s1.ft + msFt (s1.oget 0x1F80 0x03) }
      let s3 := s2.afterCheck y
      let s4 := if s2.txCheck y ≠ 0 then s3.endTx y (s2.txCheck y)
        else { s3 with txClock := s3.txClock + 1 }.updTx y fun x =>
          { x with state := 2, limitAt := s3.ft + msFt (if limit = 0 then s3.oget 0x1F80 0x02 else limit), commitNo := s3.txClock,
                   waitIdle := (s3.waits s3.txs[y].staged).1, waitItem := (s3.waits s3.txs[y].staged).2 }
      Safety.grant (s.begin t) k = (some w, s1) → k.names 6 0 0 = true → s1.tx? w txid = some y → s2.txs[y].state = 1 → k.len = 4 →
      exec (.txCommit t k txid limit) s = .next (s4.respond w (s4.txResp k y 0))) ∧
    (∀ (t : Nat) (k : Kop) (txid : Nat) (s s1 : State) (w : Fin 32) (y : Fin 8),
      let s2 := s1.updTx y fun x => { x with leaseEnd := s1.ft + msFt (s1.oget 0x1F80 0x03) }
      Safety.grant (s.begin t) k = (some w, s1) → s1.tx? w txid = some y →
      (k.names 7 0 0 = true → s2.txs[y].state = 1 ∨ s2.txs[y].state = 2 → exec (.txAbort t k txid) s =
        .next ((s2.endTx y abAborted).respond w ((s2.endTx y abAborted).txResp k y 0))) ∧
      (k.names 8 0 0 = true → exec (.txStatus t k txid) s = .next (s2.respond w (s2.txResp k y 0)))) ∧
    (∀ (t : Nat) (k : Kop) (txid : Nat) (s s1 : State) (w : Fin 32),
      Safety.grant (s.begin t) k = (some w, s1) → k.names 8 0 0 = true → s1.tx? w txid = none →
      exec (.txStatus t k txid) s =
        .next (State.respond { s1 with staleTx := s1.staleTx + 1 } w { s1.plainResp k abTxUnknown with info := txid })) ∧
    (∀ (t : Nat) (k : Kop) (y : Fin 8) (s : State) (w : Fin 32),
      let s1 := Safety.taken s t k
      Safety.Admits s t k (0x1F88 + y.val) 0x07 1 w →
      exec (.transactionSlotAbort t k y) s = .next (if s1.txs[y].state = 1 ∨ s1.txs[y].state = 2 then
        Safety.done (s1.endTx y abAborted) w k (0x1F88 + y.val) 0x07 else Safety.refused s1 w k abTxState))) ∧ (
    (∀ (t : Nat) (y : Fin 8) (s : State),
      let s0 := s.begin t
      let s1 := s0.afterCheck y
      s0.txs[y].state = 2 → s0.boundaryMet s0.txs[y] = true → s0.earlierDue y = false →
      exec (.commitApply t y) s =
        .next (if s0.txCheck y = 0 then (s1.applyTx s0.txs[y].staged).endTx y 0 else s1.endTx y (s0.txCheck y))) ∧
    (∀ (t : Nat) (y : Fin 8) (s : State), (s.begin t).txs[y].state = 2 → (s.begin t).txs[y].limitAt ≤ (s.begin t).ft →
      exec (.commitTimeout t y) s = .next ((s.begin t).endTx y abTimeout)) ∧
    (∀ (t : Nat) (y : Fin 8) (s : State),
      let s0 := s.begin t
      s0.txs[y].state = 1 → s0.txs[y].leaseEnd ≤ s0.ft →
      exec (.transactionExpiry t y) s = .next (s0.endTx y abExpired)))

/-- CAN_FRAME, CAN_REASSEMBLY_TIMEOUT, CAN_BUS_ERROR and BUS_OFF_RECOVERY (R362, R363, R366, R471). On a field network that is not bus-off an FD data
frame with a 29-bit identifier that carries the controller's DEV is taken into the message of its host: SEG 0 begins one, the next SEG of the same message
within 20 ms goes on with it, LAST ends it, and what does not fit, or does not end as R366 says, is discarded and counted; any other frame without error is
received and ignored. An error raises its counter, beyond 255 the controller is bus-off, and from there it recovers with both counters at 0. -/
def Obligations.FieldNetworksReassemble : Prop :=
  (∀ (t : Nat) (f : Fin 2) (m : CanMsg) (s : State),
    let s0 := s.begin t
    let host := fld m.ident 13 6
    let msgno := fld m.ident 11 2
    let seg := fld m.ident 5 5
    let x := ({ s0.cans[f] with rxErr := if 127 < s0.cans[f].rxErr then 127 else s0.cans[f].rxErr - 1 } : Can).confine
    let others := x.parts.filter fun q => q.host != host
    let out := fun (y : Can) => (s0.wake 1).updCan f fun _ => { y with rx := y.rx + 1 }
    s0.oget (0x1F50 + f.val) 0x01 = 1 → s0.cans[f].bus = 1 ∨ s0.cans[f].bus = 2 → m.crcOk = true → m.fd = true → m.extended = true →
    m.remote = false → bitOf m.ident 25 = false → fld m.ident 19 6 = s0.oget (0x1F50 + f.val) 0x02 → fld m.ident 0 5 = 0 →
    (x.part? host = none → seg = 0 → bitOf m.ident 10 = false →
      exec (.canFrame t f m) s = .next (out { x with parts := others ++ [{ host, msgno, next := 1, bytes := m.data, at_ := s0.ft }] })) ∧
    (x.part? host = none → seg ≠ 0 → exec (.canFrame t f m) s = .next (out { x with parts := others, discard := x.discard + 1 })) ∧
    (∀ p, x.part? host = some p → p.next = seg → p.msgno = msgno → s0.ft ≤ p.at_ + msFt 20 →
      (bitOf m.ident 10 = false → exec (.canFrame t f m) s =
        .next (out { x with parts := others ++ [{ p with next := seg + 1, bytes := p.bytes ++ m.data, at_ := s0.ft }] })) ∧
      (bitOf m.ident 10 = true → exec (.canFrame t f m) s =
        .next (out (if canComplete (p.bytes ++ m.data) = true then { x with parts := others }
          else { x with parts := others, discard := x.discard + 1 }))))) ∧
  (∀ (t : Nat) (f : Fin 2) (m : CanMsg) (s : State),
    let s0 := s.begin t
    s0.cans[f].bus = 1 ∨ s0.cans[f].bus = 2 → bitOf m.ident 25 = true →
    (m.crcOk = true → exec (.canFrame t f m) s =
      .next (s0.updCan f fun x => { x with rxErr := if 127 < x.rxErr then 127 else x.rxErr - 1 }.confine)) ∧
    (m.crcOk = false → exec (.canFrame t f m) s = .next (s0.updCan f fun x => x.error false false))) ∧
  (∀ (t : Nat) (f : Fin 2) (host : Nat) (s : State),
    let s0 := s.begin t
    (s0.cans[f].part? host = none → exec (.canReassemblyTimeout t f host) s = .next s0) ∧
    (∀ p, s0.cans[f].part? host = some p → p.at_ + msFt 20 < s0.ft →
      exec (.canReassemblyTimeout t f host) s = .next (s0.updCan f fun x =>
        { x with parts := x.parts.filter fun p => p.host != host, discard := x.discard + 1 }))) ∧
  (∀ (t : Nat) (f : Fin 2) (primary : Bool) (s : State),
    let s0 := s.begin t
    let x := s0.cans[f]
    x.bus = 1 ∨ x.bus = 2 →
    (x.txErr + 8 ≤ 255 → exec (.canBusError t f true primary) s = .next (s0.updCan f fun _ => ({ x with txErr := x.txErr + 8 } : Can).confine)) ∧
    (255 < x.txErr + 8 → exec (.canBusError t f true primary) s =
      .next (s0.updCan f fun _ => { x with txErr := x.txErr + 8, bus := 3, busOffs := x.busOffs + 1, parts := [] })) ∧
    (x.txErr ≤ 255 → exec (.canBusError t f false primary) s =
      .next (s0.updCan f fun _ => ({ x with rxErr := min 255 (x.rxErr + if primary = true then 8 else 1) } : Can).confine))) ∧
  (∀ (t : Nat) (f : Fin 2) (transmit primary : Bool) (s : State), (s.begin t).cans[f].bus ≠ 1 → (s.begin t).cans[f].bus ≠ 2 →
    exec (.canBusError t f transmit primary) s = .next (s.begin t)) ∧
  (∀ (t : Nat) (f : Fin 2) (s : State),
    let s0 := s.begin t
    (s0.cans[f].bus = 3 → exec (.busOffRecovery t f) s = .next (s0.updCan f fun x => { x with bus := 1, txErr := 0, rxErr := 0 })) ∧
    (s0.cans[f].bus ≠ 3 → exec (.busOffRecovery t f) s = .next s0))

/-! ### Store and trust (chapters 13 and 16) -/

/-- STORE_SAVE, STORE_SAVE_RESTART, STORE_ERASE, SAVE_COMPLETE and RESTART (R382, R384, R386, R465): a save copies the persistent set and erases the bank that is
not active; its image, once written, is the active one, and only a good one; a second save is refused; a restart waits for every chain and needs idle zones. -/
def Obligations.TheStoreSaves : Prop :=
  (∀ (t : Nat) (k : Kop) (s : State) (w : Fin 32),
    let s1 := Safety.taken s t k
    Safety.Admits s t k 0x1000 0x20 1 w →
    exec (.storeSave t k) s = .next (if s1.save.isSome = true then Safety.refused s1 w k abWork
      else Safety.going (s1.beginSave s1.persistentSet false) w k 0x1000 0x20)) ∧
  (∀ (t : Nat) (k : Kop) (s : State) (w : Fin 32),
    let s1 := Safety.taken s t k
    Safety.Admits s t k 0x1000 0x20 2 w →
    exec (.storeSaveRestart t k) s = .next (if s1.save.isSome = true ∨ ¬ s1.allIdle = true then Safety.refused s1 w k abWork
      else Safety.going (s1.beginSave s1.persistentSet true) w k 0x1000 0x20)) ∧
  (∀ (t : Nat) (k : Kop) (s : State) (w : Fin 32),
    let s1 := Safety.taken s t k
    Safety.Admits s t k 0x1000 0x20 3 w →
    exec (.storeErase t k) s = .next (if s1.save.isSome = true then Safety.refused s1 w k abWork
      else Safety.going (s1.beginSave [] false) w k 0x1000 0x20)) ∧
  (∀ (t : Nat) (s : State) (v : Save),
    let s0 := s.begin t
    let b : Fin 2 := Fin.ofNat 2 v.bank
    let s1 : State := { s0 with save := none }
    let s2 := (s1.writeBank b v.count v.entries).cmdEnd 0x1000 0x20 0
    s0.save = some v →
    exec (.saveComplete t true) s = .next (if v.restart = true then s2.beginRestart else s2) ∧
    exec (.saveComplete t false) s = .next ((s1.cmdEnd 0x1000 0x20 abStoreFailed).event 0x9813 s0.storeLoc [(8, b.val)])) ∧
  (∀ (t : Nat) (k : Kop) (s : State) (w : Fin 32),
    let s1 := Safety.taken s t k
    Safety.Admits s t k 0xA000 0x04 1 w →
    exec (.restart t k) s = .next (if s1.allIdle = true then Safety.going s1.beginRestart w k 0xA000 0x04 else Safety.refused s1 w k abWork))

/-- TAMPER_DETECT, TAMPER_CLEAR, LIFE_CYCLE_REQUEST, OWNER_KEY_LOAD, HEAD_MAKER_LIST_REPLACE, HEAD_MAKER_LIST_ADD and HEAD_MAKER_LIST_REMOVE (R425, R426,
R428–R432): a source that trips is latched and wipes the cocoon, and the cells stay clear while one is active; a request that its checks refuse leaves the life
cycle as it is, one that they accept is pending while the cocoon is wiped, and then blows its fuse; a key load is applied after it has been accepted, and keys change
only under a record that is accepted. -/
def Obligations.TrustIsKept : Prop :=
  (∀ (t : Nat) (source : Fin 9) (sense : TamperSense) (stuck : List Nat) (s : State),
    let s0 := s.begin t
    (s0.trips source sense = true → bitOf s0.tamper.active source.val = false → source.val < 7 → exec (.tamperDetect t { source, sense } stuck) s =
      .next (State.wipe { s0 with tamper := { s0.tamper with latch := s0.tamper.latch ||| 2 ^ source.val,
                                                             active := s0.tamper.active ||| 2 ^ source.val } } (source.val + 1) stuck)) ∧
    (s0.trips source sense = true → bitOf s0.tamper.active source.val = false → 7 ≤ source.val → exec (.tamperDetect t { source, sense } stuck) s =
      .next (State.wipe { s0 with tamper := { s0.tamper with latch := s0.tamper.latch ||| 2 ^ source.val } } (source.val + 1) stuck)) ∧
    (s0.trips source sense = true → bitOf s0.tamper.active source.val = true → exec (.tamperDetect t { source, sense } stuck) s = .next s0) ∧
    (s0.trips source sense = false → s0.tamper.active = 0 → exec (.tamperDetect t { source, sense } stuck) s = .next s0)) ∧
  (∀ (s : State) (mask : Nat), s.tamper.active ≠ 0 → s.tamper.active &&& mask = 0 →
    (s.stillActive mask).tamper.active = 0 ∧ (s.stillActive mask).cocoon.secret = Config.random s.free) ∧
  (∀ (t : Nat) (k : Kop) (active : Nat) (s : State) (w : Fin 32),
    let s1 := (Safety.taken s t k).stillActive active
    Safety.Admits s t k 0x8000 0x0C 1 w →
    exec (.tamperClear t k active) s =
      .next (Safety.done { s1 with tamper := { s1.tamper with latch := s1.tamper.latch &&& active } } w k 0x8000 0x0C)) ∧
  (∀ (t : Nat) (k : Kop) (r : LcReq) (stuck : List Nat) (s : State) (w : Fin 32),
    let s1 := Safety.taken s t k
    let a := Safety.actor s t k 0x8000 0x02 w
    Safety.Admits s t k 0x8000 0x02 0 w → s.lcPending = none →
    (s1.lcCode r ≠ 0 → exec (.lifeCycleRequest t k r stuck) s = .next (Safety.refused s1 w k (s1.lcCode r))) ∧
    (s1.lcCode r = 0 → exec (.lifeCycleRequest t k r stuck) s = .next ((Safety.done { s1 with
      lcPending := some { from_ := r.from_, to_ := r.to_, toggles := r.toggles, fuseOk := r.fuseOk, sess := a.sess.val } } w k 0x8000 0x02).wipe 10 stuck))) ∧
  (∀ (s : State) (r : LcRun), s.lcPending = some r →
    s.transition.lcPending = none ∧
    (r.fuseOk = true → s.transition.fuses = (s.blowFuse r.from_ r.to_).fuses ∧ s.transition.toggles = (s.blowFuse r.from_ r.to_).toggles ∧
      s.transition.lifeCycle = (s.blowFuse r.from_ r.to_).lifeCycle) ∧
    (r.fuseOk = false → s.transition.fuses = s.fuses ∧ s.transition.toggles = s.toggles ∧ s.transition.lifeCycle = s.lifeCycle)) ∧
  (∀ (t : Nat) (k : Kop) (r : OwnerRec) (s s1 : State) (w : Fin 32),
    let a := s1.whoFor 0x8000 0x04 w
    let ok := (s1.cocoon.owner.isSome || s1.sessions[a.sess].prov) &&
      s1.keyAuth 256 r.body r.serial r.recordSeq s1.cocoon.recordSeq (s1.cocoon.owner.getD r.ownerKey)
    s.resumed = none → Safety.grant (s.begin t) k = (some w, s1) → k.names 2 0x8000 0x04 = true → s1.writeCode k 0x8000 0x04 w = 0 → r.wf = true →
    (ok = true → exec (.ownerKeyLoad t k r) s =
      .next ((s1.await (.ownerKeyLoad t k r) k w []).setStat 0x8000 0x04 { state := 1, code := 0 })) ∧
    (ok = false → exec (.ownerKeyLoad t k r) s = .next (Safety.refused s1 w k abAuth))) ∧
  (∀ (t : Nat) (k : Kop) (r : OwnerRec) (s : State) (w : Fin 32),
    let s1 := Safety.taken s t k
    let a := Safety.actor s t k 0x8000 0x04 w
    s.resumed.isSome = true → Safety.Admits s t k 0x8000 0x04 0 w → r.wf = true →
    exec (.ownerKeyLoad t k r) s = .next (
      if ((s1.cocoon.owner.isSome || s1.sessions[a.sess].prov) &&
          s1.keyAuth 256 r.body r.serial r.recordSeq s1.cocoon.recordSeq (s1.cocoon.owner.getD r.ownerKey)) = true then
        Safety.done { s1 with cocoon := { s1.cocoon with owner := some r.ownerKey, minEpoch := r.minEpoch, recordSeq := r.recordSeq,
                                                         clearance := if r.hasClearance then some r.clearanceKey else none } } w k 0x8000 0x04
      else Safety.refused s1 w k abAuth)) ∧
  (∀ (t : Nat) (k : Kop) (r : ListLoad) (s : State) (w : Fin 32),
    let s1 := Safety.taken s t k
    let out := fun (ks : List MakerKey) => if 64 < ks.length then Safety.refused s1 w k abResource
      else Safety.done { s1 with cocoon := { s1.cocoon with list := ks, listSeq := r.listSeq } } w k 0x8000 0x09
    s.resumed.isSome = true → Safety.Admits s t k 0x8000 0x09 0 w →
    exec (.headMakerListReplace t k r) s = .next (
      if s1.listCode r 1 ≠ 0 then Safety.refused s1 w k (s1.listCode r 1) else out (r.entries.foldl putKey [])) ∧
    exec (.headMakerListAdd t k r) s = .next (
      if s1.listCode r 2 ≠ 0 then Safety.refused s1 w k (s1.listCode r 2) else out (r.entries.foldl putKey s1.cocoon.list)) ∧
    exec (.headMakerListRemove t k r) s = .next (
      if s1.listCode r 3 ≠ 0 then Safety.refused s1 w k (s1.listCode r 3)
      else out (s1.cocoon.list.filter fun x => !(r.entries.any fun e => e.maker == x.maker && e.keyId == x.keyId)))) ∧
  (∀ (t : Nat) (k : Kop) (r : ListLoad) (s s1 : State) (w : Fin 32),
    let left := s1.cocoon.list.filter fun x => !(r.entries.any fun e => e.maker == x.maker && e.keyId == x.keyId)
    let ans := fun (c : Sys2Proof.Instr) (op : Nat) (ks : List MakerKey) =>
      if s1.listCode r op ≠ 0 then Safety.refused s1 w k (s1.listCode r op)
      else if 64 < ks.length then Safety.refused s1 w k abResource
      else (s1.await c k w []).setStat 0x8000 0x09 { state := 1, code := 0 }
    s.resumed = none → Safety.grant (s.begin t) k = (some w, s1) → k.names 2 0x8000 0x09 = true → s1.writeCode k 0x8000 0x09 w = 0 →
    exec (.headMakerListReplace t k r) s = .next (ans (.headMakerListReplace t k r) 1 (r.entries.foldl putKey [])) ∧
    exec (.headMakerListAdd t k r) s = .next (ans (.headMakerListAdd t k r) 2 (r.entries.foldl putKey s1.cocoon.list)) ∧
    exec (.headMakerListRemove t k r) s = .next (ans (.headMakerListRemove t k r) 3 left))

/-- A wipe of the cocoon (R430, R431, R434) leaves no key, no list and no open session, and records its cause; a key load that was being applied is FAILED with
LIFE_CYCLE. -/
def Obligations.AWipeLeavesNoKeyAndNoSession : Prop :=
  (∀ (s : State) (cause : Nat) (stuck : List Nat),
    (s.wipe cause stuck).cocoon.owner = none ∧ (s.wipe cause stuck).cocoon.clearance = none ∧ (s.wipe cause stuck).cocoon.list = [] ∧
    (s.wipe cause stuck).tamper.cause = cause ∧ (s.wipe cause stuck).tamper.wipes = s.tamper.wipes + 1 ∧
    ∀ i : Fin 32, (s.wipe cause stuck).sessions[i].isOpen = false) ∧
  (∀ (s : State) (x : Waiting) (sub : Nat), x ∈ s.waiting → keyLoadOf x.cmd = some sub →
    sget { state := 0, code := 0 } s.failLoads.cmdStat (objKey 0x8000 sub) = { state := 3, code := abLifeCycle })

/-! ### Engines, memory, records, resets, power (chapters 15, 17 and 18) -/

/-- ENGINE_WATCHDOG, ENGINE_INVALID_OPERATION, ENGINE_RESTART, ENGINE_RUNNING and UNCORRECTABLE_WORD (R404–R407, R415): an engine that stops is held for 10 µs,
starts again with the patch it verifies, without patches after three stops in 10 s, and takes its role up when it runs; an uncorrectable word is counted and
stops the engine that reads it; a hardware client drops its operation and counts it.
REGION_TEST_START, REGION_TEST_COMPLETE, MEMORY_TEST_REGION, TRANSPARENT_TEST_WRITE, REQUEST_MEMORY_TEST and REQUEST_WINDOW_CHECK (R316, R317, R417–R423), and the
ports of the arrays: port B of a scratchpad serves an engine before the DMA unit (R410); a read of a common-pool bank returns what its word held before the cycle, and
only the cells that are written change (R411–R413). A region under test disturbs no client (R417, R418): locking it changes no word that a client sees, a write then
goes to the shadow, and the cells that hold its words at the end, spares among them, take over what the shadow holds. -/
def Obligations.EnginesRestartAndMemoryIsSwept : Prop :=
  (
    (∀ (t : Nat) (e : Fin 8) (s : State),
      exec (.engineWatchdog t e) s = .next ((s.begin t).stopEngine e 1) ∧
      exec (.engineInvalidOperation t e) s = .next ((s.begin t).stopEngine e 2)) ∧
    (∀ (t : Nat) (e : Fin 8) (sig0 sig1 : Bool) (s : State) (f : Nat),
      let s0 := s.begin t
      let s1 := (s0.clearPad e).updEngine e fun y => { y with heldFrom := none, restarts := y.restarts + 1 }
      s0.engines[e].heldFrom = some f → f + usFt 10 ≤ s0.ft → s0.engines[e].bypassAt = none →
      (s0.engines[e].stops.length < 3 → exec (.engineRestart t e sig0 sig1) s = .next ((s1.verifyPatches sig0 sig1).startFirmware e)) ∧
      (3 ≤ s0.engines[e].stops.length → exec (.engineRestart t e sig0 sig1) s =
        .next ((s1.updEngine e fun y => { y with bypassAt := some s0.ft, patch := 0 }).event 0x9014 (s1.engineLoc e) [(8, e.val)]))) ∧
    (∀ (t : Nat) (e : Fin 8) (s : State),
      let s0 := s.begin t
      s0.engines[e].state = 1 ∨ s0.engines[e].state = 3 → s0.engines[e].heldFrom = none →
      exec (.engineRunning t e) s = .next ((s0.updEngine e fun y => { y with state := 2 }).roleResumes e)) ∧
    (∀ (t : Nat) (w : MemWord) (s : State) (a : Fin 3) (e : Fin 8),
      let s0 := s.begin t
      let loc := s0.arrayLoc a.val w.inst w.macro_ w.row w.column
      let s1 := State.event { s0 with mem := { s0.mem with uncorr := vupd s0.mem.uncorr a (· + 1) } } 0xA012 loc [(8, a.val)]
      Fin.ofNat 3 w.array = a →
      (a.val ≠ 2 → w.reader = e.val → exec (.uncorrectableWord t w) s = .next (s1.stopEngine e 3)) ∧
      (a.val ≠ 2 → 8 ≤ w.reader → exec (.uncorrectableWord t w) s =
        .next { s1.dropOperation (hwClients.getD (w.reader % 4) .fireUnit) with
          mem := { s1.mem with dropped := vupd s1.mem.dropped (Fin.ofNat 4 w.reader) (· + 1) } }) ∧
      (a.val = 2 → exec (.uncorrectableWord t w) s = .next (s1.lostWord (Fin.ofNat 64 (w.reader / 4)) (Fin.ofNat 4 w.reader) loc)))) ∧ (
    (∀ (t : Nat) (s : State),
      let s0 := s.begin t
      s0.running 7 = true → s0.oget 0x7000 0x01 = 1 → s0.mem.shadowBad = false → s0.mem.under = none → s0.mem.req = none →
      periodic s0.mem.lastAt s0.mem.every s0.ft = true →
      exec (.regionTestStart t) s = .next
        (State.lockRegion { s0 with mem := { s0.mem with lastAt := some s0.ft, every := msFt (s0.oget 0x7000 0x02) } } s0.mem.next false)) ∧
    (∀ (t : Nat) (faults : List CellFault) (singles : List Nat) (s : State) (r : Nat),
      let s0 := s.begin t
      let a := regionArray r
      let hit := (regionWords r).filter fun w => s0.arrays.weak.elem (wordKey a w) || singles.elem (w % 64)
      let s1 := s0.repairRegion r faults
      let x := s1.arrays.unlock r
      let n := (r + 1) % 20480
      s0.mem.under = some (r, false) →
      exec (.regionTestComplete t faults singles) s = .next { s1 with
        arrays := { x with single := vupd s1.arrays.single (Fin.ofNat 28 a) (· + hit.length) },
        mem := { s1.mem with under := none, next := n, sweeps := if n = 0 then s1.mem.sweeps + 1 else s1.mem.sweeps } }) ∧
    (∀ (t : Nat) (s : State) (slot r : Nat) (rest : List Nat),
      let s0 := s.begin t
      s0.mem.req = some (slot, r :: rest) → s0.running 7 = true → s0.mem.under = none → s0.mem.reqAt + usFt 10 ≤ s0.ft →
      exec (.memoryTestRegion t) s = .next
        (State.lockRegion { s0 with mem := { s0.mem with req := some (slot, rest), reqAt := s0.ft } } r true)) ∧
    (∀ (t : Nat) (k : Kop) (v : Nat) (s : State) (w : Fin 32),
      let s2 := (Safety.taken s t k).oapply 0x7000 0x01 v
      Safety.Admits s t k 0x7000 0x01 v w →
      exec (.transparentTestWrite t k v) s = .next (s2.respond w (s2.plainResp k 0))) ∧
    (∀ (t : Nat) (k : Kop) (i : Fin 16) (target deadline : Nat) (s : State) (w : Fin 32),
      let s1 := Safety.taken s t k
      Safety.Admits s t k (0x6010 + i.val) 0x01 (reqValue 4 target deadline) w → s1.reqBusy i = false →
      exec (.requestMemoryTest t k i target deadline) s = .next (Safety.done (
        if (testRegions target).isNone = true then s1.acceptReq i 4 target deadline 4
        else (s1.acceptReq i 4 target deadline 1).tryMemory i) w k (0x6010 + i.val) 0x01)) ∧
    (∀ (t : Nat) (i : Fin 16) (s : State),
      let s0 := s.begin t
      s0.reqs[i].result = 1 → s0.reqs[i].kind = 4 → exec (.requestWindowCheck t i) s = .next (s0.tryMemory i)) ∧
    (∀ (x : Arrays) (k : Fin 8) (q : Access), x.portB k = some q →
      (∃ y ∈ x.waiting, y.array = k.val ∧ onPortA y = false ∧ (engineOf y).isSome = true) → (engineOf q).isSome = true) ∧
    (∀ (x : Arrays) (n : Fin 4) (q : Access), q ∈ x.bankServed n → wordWrites q.op = false →
      (q, x.at_ q.array q.word) ∈ (x.bankCycle n).answers) ∧
    (∀ (x : Arrays) (n : Fin 4) (key : Nat),
      ((∀ q ∈ x.bankServed n, wordWrites q.op = true → x.home q.array q.word ≠ key) →
        sget 0 (x.bankCycle n).words key = sget 0 x.words key) ∧
      ((∀ q ∈ x.bankServed n, wordWrites q.op = true → wordKey q.array q.word ≠ key) →
        sget 0 (x.bankCycle n).shadow key = sget 0 x.shadow key)) ∧
    (∀ (x : Arrays) (r w : Nat), r < 20480 → w ∈ regionWords r →
      let a := regionArray r
      (x.lock r).at_ a w = x.at_ a w ∧
      (x.locked = some r → ∀ v : Nat, (x.put a w v).words = x.words ∧ (x.put a w v).shadow = sset 0 x.shadow (wordKey a w) v) ∧
      (x.locked = some r → smapWf 0 x.words → (∀ u ∈ regionWords r, ∀ v ∈ regionWords r, x.home a u = x.home a v → u = v) →
        (x.unlock r).at_ a w = x.at_ a w)))

/-- RECORD_COMMIT, RECORDER_CLEAR and OPERATING_SECONDS_WRITE (R440, R445–R447, R449); CALENDAR_DISCIPLINE and CALENDAR_SET (R451, R452); SNAPSHOT, BOARD_SNAPSHOT,
SNAPSHOT_PERIOD, SNAPSHOT_LATCH and SNAPSHOT_BUFFER_SWAP (R455, R456). -/
def Obligations.RecordsAndCountersAreKept : Prop :=
  (∀ (t : Nat) (s : State) (e : Event) (rest : List Event),
    let s0 := s.begin t
    s0.running 7 = true → s0.recorder.clearing = none → s0.events = e :: rest →
    exec (.recordCommit t) s = .next (State.lostEvents { s0 with events := rest, recorder := s0.recorder.commit e })) ∧
  (∀ (t : Nat) (k : Kop) (tok : ClearTok) (s : State) (w : Fin 32),
    let s1 := Safety.taken s t k
    let a := Safety.actor s t k 0x9000 0x07 w
    let host := s1.sessions[a.sess].hostId
    Safety.Admits s t k 0x9000 0x07 0 w → s1.recorder.clearing = none → s1.running 7 = true →
    exec (.recorderClear t k tok) s = .next (if s1.tokenOk tok host = true then
      Safety.going { s1 with recorder := { s1.recorder with clearing := some (s1.clearedEvent host a.sess.val) } } w k 0x9000 0x07
      else Safety.refused s1 w k abAuth)) ∧
  (∀ (t : Nat) (s : State), (s.begin t).opStored + 64 ≤ (s.begin t).opNow →
    exec (.operatingSecondsWrite t) s = .next { s.begin t with opStored := (s.begin t).opNow }) ∧
  (∀ (t : Nat) (s : State), (s.begin t).oget 0x9400 0x04 = 1 → (s.begin t).ptp.state = 3 → (s.begin t).ptp.utcValid = true →
    periodic (s.begin t).calRun (msFt 16000) (s.begin t).ft = true →
    exec (.calendarDiscipline t) s = .next { (s.begin t).discipline with calRun := some (s.begin t).ft }) ∧
  (∀ (t : Nat) (k : Kop) (v : Nat) (s : State) (w : Fin 32),
    let s1 := Safety.taken s t k
    let a := Safety.actor s t k 0x9400 0x03 w
    Safety.Admits s t k 0x9400 0x03 v w → v < 2 ^ 48 →
    exec (.calendarSet t k v) s = .next (if s1.oget 0x9400 0x04 = 1 ∧ s1.ptp.state = 3 then Safety.refused s1 w k abConfig
      else Safety.done (s1.setCalendar (v * 65536) a.sess.val a.role) w k 0x9400 0x03)) ∧
  (∀ (t : Nat) (k : Kop) (s : State) (w : Fin 32),
    let s1 := Safety.taken s t k
    Safety.Admits s t k 0x9800 0x01 1 w → s1.liveDue = [] →
    exec (.snapshot t k) s = .next (Safety.done (s1.schedule (multipleFrom 1250 (s1.ft + 2500)) false) w k 0x9800 0x01)) ∧
  (∀ (t : Nat) (k : Kop) (s : State) (w : Fin 32),
    let s1 := Safety.taken s t k
    let free := s1.ft + 12500 + 1250 + Config.snapLead s1.free
    let at_ := match s1.liveDue.find? fun x => x.board && nearLatch x.at_ free with | some x => x.at_ | none => s1.spaced free
    Safety.Admits s t k 0x9800 0x03 1 w → s1.bpos = 0 →
    exec (.boardSnapshot t k) s = .next (Safety.done
      ((State.schedule { s1 with free := s1.free + 1 } at_ true).updSync fun y => { y with snap := some at_ }) w k 0x9800 0x03)) ∧
  (∀ (t : Nat) (s : State),
    let s0 := s.begin t
    s0.oget 0x9800 0x02 ≠ 0 → s0.ft % msFt (s0.oget 0x9800 0x02) = 0 →
    exec (.snapshotPeriod t) s = .next (s0.schedule s0.ft false)) ∧
  (∀ (t : Nat) (s : State) (l : Latch),
    let x := (s.begin t).snap
    exec (.snapshotLatch t) s = .next (s.begin t) ∧
    (s.snap.due = [l] → l.period = false → l.at_ ≤ max s.ft t → s.snap.latched = none →
      x.due = [] ∧ x.latched = some l.at_ ∧ x.active = s.snap.active ∧ x.epoch = s.snap.epoch ∧
      (s.snap.active = true → x.buf0 = s.countersAt l.at_ ∧ x.buf1 = s.snap.buf1) ∧
      (s.snap.active = false → x.buf1 = s.countersAt l.at_ ∧ x.buf0 = s.snap.buf0))) ∧
  (∀ (s : State) (tick : Nat) (board : Bool) (l : Latch), l ∈ s.scheduled → l.board = true → nearLatch l.at_ tick = true →
    (s.schedule tick board).snap.due = s.scheduled) ∧
  (∀ (t : Nat) (s : State) (d : Nat),
    let s0 := s.begin t
    s0.snap.latched = some d →
    exec (.snapshotBufferSwap t) s = .next { s0 with snap := { s0.snap with
      active := !s0.snap.active, latched := none, epoch := (s0.snap.epoch + 1) % 2 ^ 32, tick := d } })

/-- POWER_ON_RESET, EXTERNAL_RESET, DEBUG_RESET, COMMANDED_RESET_TIMEOUT, SUPPLY_OUT_OF_RANGE and CLOCK_LOSS (R463–R465, R467, Tables 18.1 and 18.2): each reset starts
the block up with its cause; what it leaves is the state after reset with the backup domain, the fuses, the store and the DRAM as they were, and with the
fire timer at 0 only after a power-on reset. -/
def Obligations.ResetsStartTheBlock : Prop :=
  (∀ (t : Nat) (p : PowerUp) (s : State),
    exec (.powerOnReset t p) s = .next ((s.begin t).startUp 0 p) ∧ exec (.externalReset t p) s = .next ((s.begin t).startUp 1 p)) ∧
  (∀ (t : Nat) (p : PowerUp) (s : State),
    exec (.debugReset t p) s = .next (if s.lifeCycle = 1 ∨ s.lifeCycle = 3 then (s.begin t).startUp 4 p else s.begin t)) ∧
  (∀ (t : Nat) (p : PowerUp) (s : State) (f : Nat),
    let s0 := s.begin t
    let s1 := s0.recordHigh
    s0.power.resetFrom = some f →
    ((∀ c : Fin 16, s0.chains[c].vph < 2000) →
      exec (.commandedResetTimeout t p) s = .next ((if s0.running 7 = true then s0.commitAll else s0).startUp 2 p)) ∧
    (f + secFt 1 ≤ s0.ft →
      exec (.commandedResetTimeout t p) s = .next ((if s1.running 7 = true then s1.commitAll else s1).startUp 2 p))) ∧
  (∀ (t supply uv : Nat) (p : PowerUp) (s : State),
    (supply < 2 → uv < (if supply = 0 then 637500 else 722500) →
      exec (.supplyOutOfRange t { supply, uv } p) s = .next ((s.begin t).startUp 0 p)) ∧
    (2 ≤ supply → supply < 7 → inRange supply uv = false →
      exec (.supplyOutOfRange t { supply, uv } p) s = .next ((s.begin t).startUp 3 p))) ∧
  (∀ (t ps : Nat) (locked : Bool) (ns : Nat) (stuck : List Nat) (p : PowerUp) (s : State),
    let s0 := s.begin t
    let s1 := State.tamperTrip { s0 with power := { s0.power with refOk := decide (5400 ≤ ps) && decide (ps ≤ 7400), root := locked } } 7 stuck
    ¬ (5400 ≤ ps ∧ ps ≤ 7400 ∧ locked = true) →
    exec (.clockLoss t { ps, locked, ns } stuck p) s = .next (if 1000 ≤ ns then s1.startUp 0 p else s1)) ∧
  (∀ (s : State) (on : Bool),
    let r := s.resetKeeping on
    r.pending = s.pending ∧ r.dram = s.dram ∧ r.banks = s.banks ∧ r.recorder.records = s.recorder.records ∧ r.recorder.torn = 0 ∧ r.recorder.displaced = 0 ∧
    r.patches = s.patches ∧ r.lcPending = s.lcPending ∧ r.fuses = s.fuses ∧
    r.toggles = s.toggles ∧ r.lifeCycle = s.readFuses ∧ r.tamper = s.tamper ∧ r.cocoon.owner = s.cocoon.owner ∧ r.cocoon.list = s.cocoon.list ∧ r.cocoon.wrapped = [] ∧
    r.ft = (if on = true then 0 else s.ft) ∧ r.powerCycles = s.powerCycles + 1 ∧ r.obj = [] ∧ r.items = [] ∧ r.opSeconds = s.opStored ∧
    (∀ i : Fin 32, r.sessions[i].isOpen = false) ∧ (∀ c : Fin 16, r.chains[c].state = .off))

/-- CORE_SUPPLY_EXCURSION, LANE_PLL_LOSS, DIE_TEMPERATURE_SAMPLE, DEVICE_READY, DOMAIN_RETENTION, DOMAIN_OFF, DOMAIN_WAKE, DOMAIN_WAKE_COMPLETE,
ORDERLY_POWER_DOWN and POWER_DOWN_PROGRESS (R467, R468, R470–R472, R476, R477, R486). -/
def Obligations.PowerIsManaged : Prop :=
  (∀ (t : Nat) (i : Fin 2) (begins : Bool) (uv : Nat) (s : State),
    let s0 := s.begin t
    let s1 : State := { s0 with power := { s0.power with excursion := s0.power.excursion.set i begins } }
    (nearNominal i.val uv = true → s0.power.excursion[i] ≠ begins → inRange i.val uv ≠ begins →
      exec (.coreSupplyExcursion t i.val begins uv) s = .next (s1.faultEvent 20 s1.powerLoc 0xA000 0x01 i.val (uv / 1000))) ∧
    (nearNominal i.val uv = false → exec (.coreSupplyExcursion t i.val begins uv) s = .next (s0.tamperTrip 8 []))) ∧
  (∀ (t : Nat) (port : Fin 20) (s : State) (l : Fin 16),
    let s0 := s.begin t
    let s1 : State := { s0 with power := { s0.power with pll := s0.power.pll.set port false } }
    let s2 := (s1.setLink l .fault).updPort l fun p => { p with lockU0 := false, lockUS := false, lockSince := none }
    let s3 := if s2.lanes[l].run = 4 ∨ s2.lanes[l].run = 5 then s2.endLane l 6 else s2
    l.val = port.val → s0.ports[l].state = .ready →
    exec (.lanePllLoss t port) s = .next ((s3.portLost l).updPort l fun p => { p with fec := false })) ∧
  (∀ (t : Nat) (temp : Int) (s : State),
    let s0 := s.begin t
    let s1 : State := { s0 with power := { s0.power with dieTemp := temp, dieHot := decide (1150 < temp) } }
    exec (.dieTemperatureSample t temp) s = .next (
      if 1150 < temp ∧ s0.power.dieHot = false then s1.faultEvent 20 s1.powerLoc 0xA000 0x02 0 (toU 32 temp) else s1)) ∧
  (∀ (t : Nat) (s : State),
    let s0 := s.begin t
    let s1 := s0.setDevice 1
    s0.devState = 0 → s0.startedUp = true →
    exec (.deviceReady t) s = .next { s1 with power := { s0.power with readyTemp := some s0.power.dieTemp } }) ∧
  (∀ (t : Nat) (d : Fin 11) (s : State),
    let s0 := s.begin t
    (s0.domains[d].state = 2 → s0.idleFor d Prod.fst = true → s0.offFirst d = false →
      exec (.domainRetention t d) s = .next (s0.setDomain d 1)) ∧
    (s0.domains[d].state = 1 ∨ s0.domains[d].state = 2 → s0.idleFor d Prod.snd = true → neverOff d = false →
      exec (.domainOff t d) s = .next ((s0.domainLost d).setDomain d 0))) ∧
  (∀ (t : Nat) (d : Fin 11) (found : List (Nat × CellFault)) (buffers : List BufFault) (s : State),
    let s0 := s.begin t
    let s1 := s0.setDomain d 2
    let s2 := if d = 0 then { s1 with hports := s1.hports.map fun y => { y with buffered := 0 } } else s1
    (s0.domains[d].state < 2 → exec (.domainWake t d) s =
      .next { s0 with domains := vupd s0.domains d fun x => { state := 3, wakes := x.wakes + 1, wakeAt := s0.ft, wakeFrom := x.state } }) ∧
    (s0.domains[d].state = 3 → s0.domains[d].wakeAt + wakeFt d.val s0.domains[d].wakeFrom ≤ s0.ft →
      exec (.domainWakeComplete t { domain := d, found, buffers }) s = .next (if s0.domains[d].wakeFrom = 0 then
        (s2.testArrays (found.filter fun f => engRegion d f.1) buffers).domainBack d else s2))) ∧
  (∀ (t : Nat) (k : Kop) (s : State) (w : Fin 32),
    let s1 := Safety.taken s t k
    let s2 := (fins 8).foldl State.drainZone (s1.setDevice 2)
    Safety.Admits s t k 0xA000 0x05 1 w → s1.power.step = 0 →
    exec (.orderlyPowerDown t k) s =
      .next (Safety.going { s2 with power := { s2.power with step := 1, stepAt := s1.ft } } w k 0xA000 0x05)) ∧
  (∀ (t : Nat) (s : State),
    let s0 := s.begin t
    (s0.power.step = 1 → exec (.powerDownProgress t) s =
      .next (if ((fins 8).all fun z => s0.zones[z].state == .disabled) = true then s0.downHeads.nextStep 2 else s0)) ∧
    (s0.power.step = 2 → ((fins 16).all fun c => decide (s0.chains[c].vph < 2000)) = true →
      exec (.powerDownProgress t) s = .next (s0.downChains.nextStep 3)) ∧
    (s0.power.step = 3 → exec (.powerDownProgress t) s =
      .next (if ((fins 8).all fun a => s0.axes[a].state.rest) = true then s0.downAxes.nextStep 4 else s0)) ∧
    (s0.power.step = 4 → exec (.powerDownProgress t) s =
      .next (if ((fins 8).all fun a => s0.axes[a].state != .retaining) = true then s0.downRecords.nextStep 5 else s0)) ∧
    (s0.power.step = 5 → exec (.powerDownProgress t) s = .next (s0.downDomains.nextStep 6)))

/-- The block right after reset: every zone DISABLED without items, every chain, link and channel OFF, every axis DISABLED, no session, no transaction, no template and
no tile, nothing waiting, and every object at its reset value. -/
def Obligations.ResetLeavesTheBlockEmpty : Prop :=
  let s := State.reset
  s.pending = [] ∧ s.items = [] ∧ s.templates = [] ∧ s.tiles = [] ∧ s.stream = [] ∧ s.shakes = [] ∧
  (∀ z : Fin 8, s.zones[z].state = .disabled ∧ s.zones[z].owner = none ∧ s.zones[z].place = .noSource) ∧
  (∀ c : Fin 16, s.chains[c].state = .off ∧ s.chains[c].gate = false ∧ s.ports[c].state = .off) ∧ (∀ c : Fin 8, s.chans[c].state = .off) ∧
  (∀ a : Fin 8, s.axes[a].state = .disabled ∧ s.axes[a].en = false) ∧ (∀ i : Fin 32, s.sessions[i].isOpen = false) ∧
  (∀ y : Fin 8, s.txs[y].state = 0) ∧ (∀ g : Fin 8, s.gates[g].asserted = false) ∧ (∀ h : Fin 64, s.heads[h].idState = .absent) ∧
  (∀ i sub : Nat, s.oget i sub = objDefault i sub)

/-! ### Single rules, each stated whole -/

/-- R119: the bit of scale `k` for a pixel, in the bytes of the scale's object (its value read little-endian, byte `b` at bits 8·b). -/
def Obligations.ScaleBitsLieWhereTheRuleSays : Prop :=
  ∀ (s : State) (it : Item) (k c n : Nat),
    s.scaleBit it k c n =
      bitOf (fld (s.ogetFor it (zIdx it.zone) (0x38 + k)) (8 * (8 * (n % 64) + c % 64 / 8)) 8) (c % 64 % 8)

/-- R124: when a nozzle is defective, and that a SHORT or OPEN nozzle stays defective whatever value a host writes to its entry (a host's write reaches
MARKED and ACCEPT_DRIFT only). -/
def Obligations.DefectiveNozzlesAreClassed : Prop :=
  (∀ e : Nat, bitOf (mkEntry e) 5 = true ↔
    fld e 0 3 = 1 ∨ fld e 0 3 = 2 ∨ fld e 0 3 = 4 ∨ (fld e 0 3 = 3 ∧ bitOf e 4 = false) ∨ bitOf e 3 = true) ∧
  (∀ e v : Nat, fld e 0 3 = 1 ∨ fld e 0 3 = 2 → bitOf (mkEntry ((e &&& 0x27) ||| (v &&& 0x18))) 5 = true)

/-- R452: a calendar set takes effect on the tick of the write (the calendar then reads the value set, with nothing elapsed), makes it valid, records one
CALENDAR_STEP event with the value before and the value set, and leaves freq and the correction as they are. -/
def Obligations.CalendarSetTakesEffectAtOnce : Prop :=
  ∀ (t : Nat) (k : Kop) (v : Nat) (s : State) (w : Fin 32),
    let s1 := Safety.taken s t k
    let a := Safety.actor s t k 0x9400 0x03 w
    let s2 : State := { s1 with calendar := v * 65536, calAt := s1.ft, calValid := true }
    let s3 := s2.eventBy a.sess.val a.role 0x9815 0 (s1.loc 19 2) [(48, s1.calNow / 65536), (48, v)]
    Safety.Admits s t k 0x9400 0x03 v w → v < 2 ^ 48 → s1.oget 0x9400 0x04 ≠ 1 ∨ s1.ptp.state ≠ 3 →
    exec (.calendarSet t k v) s = .next (Safety.done s3 w k 0x9400 0x03) ∧
    s3.calNow = v * 65536 ∧ s3.calValid = true ∧ s3.calFreq = s1.calFreq ∧ s3.calCorr = s1.calCorr

/-- R73: an abort of a single item ends a QUEUED item as REJECTED with WITHDRAWN (19), spoils one that is ADMITTED or PRINTING with SPOILED_ABORT (5), and is
refused with the outcome-final abort code, without effect, for any other. -/
def Obligations.AnAbortActsOnItsItem : Prop :=
  ∀ (t : Nat) (k : Kop) (h : Nat) (s : State) (w : Fin 32) (it : Item),
    let s1 := Safety.taken s t k
    let a := Safety.actor s t k 0x2400 0x01 w
    Safety.Admits s t k 0x2400 0x01 h w → s1.item? h = some it → s1.jobOnly it.zone a.sess = false →
    (it.state = .queued → exec (.itemAbort t k h) s = .next (Safety.done (s1.finish h 11 19) w k 0x2400 0x01)) ∧
    (it.state = .admitted ∨ it.state = .printing →
      exec (.itemAbort t k h) s =
        .next (Safety.done ((s1.spoil h 5 (s1.loc 5 it.zone.val) none a.sess.val a.role).settle it.zone) w k 0x2400 0x01)) ∧
    (it.state ≠ .queued → it.state ≠ .admitted → it.state ≠ .printing →
      exec (.itemAbort t k h) s = .next (Safety.refused s1 w k 0x00050003))

/-- R50: a descriptor that finds no free slot, or its zone at its slot cap, is rejected with QUEUE_FULL (7); its notice carries the handle 0xFFFF, and it takes no
slot and advances no generation. -/
def Obligations.SubmissionsWithoutASlotAreRejected : Prop :=
  ∀ (s : State) (i : Fin 32) (d : Descriptor) (it : Item), parseItem d = some it →
    s.freeSlots = [] ∨ s.zc (Fin.ofNat 8 (fld d.hdr 8 3)) 0x13 ≤ (s.zoneItems (Fin.ofNat 8 (fld d.hdr 8 3))).length →
    (s.submit i d).2 = (0xFFFF, 7) ∧
    (s.submit i d).1.notices = s.notices ++
      [{ handle := 0xFFFF, zone := Fin.ofNat 8 (fld d.hdr 8 3), hostId := fld d.hdr 32 32, sid := s.sid i,
         noSlot := some { code := 11, reason := 7, finalFt := s.ft, op := s.opNow, cal := s.calStamp, loc := s.loc 5 (Fin.ofNat 8 (fld d.hdr 8 3) : Fin 8).val } }] ∧
    (s.submit i d).1.gens = s.gens ∧ (s.submit i d).1.freeSlots = s.freeSlots ∧ (s.submit i d).1.items = s.items

/-- R377: a rollback changes no object and no version, discards the staging and the locks of its slot, holds admission of a zone no longer unless another
waiting transaction does, and leaves the slot DONE with the result. -/
def Obligations.RollbacksApplyNothing : Prop :=
  ∀ (s : State) (y : Fin 8) (result : Nat),
    let s' := s.endTx y result
    s'.obj = s.obj ∧ s'.ver = s.ver ∧ s'.restartObj = s.restartObj ∧ s'.txs[y].staged = [] ∧ s'.txs[y].state = 3 ∧ s'.txs[y].result = result ∧
    (∀ x : Fin 8, x ≠ y → s'.txs[x] = s.txs[x]) ∧
    (∀ z : Fin 8, s'.commitHolds z = ((fins 8).any fun x => decide (x ≠ y) && (s.txs[x].state == 2 && bitOf s.txs[x].waitIdle z.val)))
end

