-- ==== Sys2Proof/Laws/State.lean ====
section
/-! SUPPORT. What each elementary update does to each field of the state: one lemma per field and update, by definition. -/

namespace Sys2Proof.Machine


/-! `begin` -/

@[simp] theorem State.begin_ft (s : State) (t : Nat) : (s.begin t).ft = max s.ft t := rfl
@[simp] theorem State.begin_pending (s : State) (t : Nat) : (s.begin t).pending = s.pending := rfl
@[simp] theorem State.begin_origin (s : State) (t : Nat) : (s.begin t).origin = (0, 0) := rfl
@[simp] theorem State.begin_waiting (s : State) (t : Nat) : (s.begin t).waiting = s.waiting := rfl
@[simp] theorem State.begin_resumed (s : State) (t : Nat) : (s.begin t).resumed = s.resumed := rfl
@[simp] theorem State.begin_free (s : State) (t : Nat) : (s.begin t).free = s.free := rfl
@[simp] theorem State.begin_out (s : State) (t : Nat) : (s.begin t).out = s.stepPulses (max s.ft t) := rfl
@[simp] theorem State.begin_obj (s : State) (t : Nat) : (s.begin t).obj = s.obj := rfl
@[simp] theorem State.begin_ver (s : State) (t : Nat) : (s.begin t).ver = s.ver := rfl
@[simp] theorem State.begin_verAt (s : State) (t : Nat) : (s.begin t).verAt = s.verAt := rfl
@[simp] theorem State.begin_restartObj (s : State) (t : Nat) : (s.begin t).restartObj = s.restartObj := rfl
@[simp] theorem State.begin_items (s : State) (t : Nat) : (s.begin t).items = s.items := rfl
@[simp] theorem State.begin_gens (s : State) (t : Nat) : (s.begin t).gens = s.gens := rfl
@[simp] theorem State.begin_freeSlots (s : State) (t : Nat) : (s.begin t).freeSlots = s.freeSlots := rfl
@[simp] theorem State.begin_slotZone (s : State) (t : Nat) : (s.begin t).slotZone = s.slotZone := rfl
@[simp] theorem State.begin_notices (s : State) (t : Nat) : (s.begin t).notices = s.notices := rfl
@[simp] theorem State.begin_noticesSent (s : State) (t : Nat) : (s.begin t).noticesSent = s.noticesSent := rfl
@[simp] theorem State.begin_heldOut (s : State) (t : Nat) : (s.begin t).heldOut = s.heldOut := rfl
@[simp] theorem State.begin_lateReports (s : State) (t : Nat) : (s.begin t).lateReports = s.lateReports := rfl
@[simp] theorem State.begin_zones (s : State) (t : Nat) : (s.begin t).zones = s.zones := rfl
@[simp] theorem State.begin_templates (s : State) (t : Nat) : (s.begin t).templates = s.templates := rfl
@[simp] theorem State.begin_tiles (s : State) (t : Nat) : (s.begin t).tiles = s.tiles := rfl
@[simp] theorem State.begin_tplGen (s : State) (t : Nat) : (s.begin t).tplGen = s.tplGen := rfl
@[simp] theorem State.begin_tplFree (s : State) (t : Nat) : (s.begin t).tplFree = s.tplFree := rfl
@[simp] theorem State.begin_tplNext (s : State) (t : Nat) : (s.begin t).tplNext = s.tplNext := rfl
@[simp] theorem State.begin_tileGen (s : State) (t : Nat) : (s.begin t).tileGen = s.tileGen := rfl
@[simp] theorem State.begin_tileFree (s : State) (t : Nat) : (s.begin t).tileFree = s.tileFree := rfl
@[simp] theorem State.begin_tileNext (s : State) (t : Nat) : (s.begin t).tileNext = s.tileNext := rfl
@[simp] theorem State.begin_dram (s : State) (t : Nat) : (s.begin t).dram = s.dram := rfl
@[simp] theorem State.begin_stream (s : State) (t : Nat) : (s.begin t).stream = s.stream := rfl
@[simp] theorem State.begin_writeLoad (s : State) (t : Nat) : (s.begin t).writeLoad = s.writeLoad := rfl
@[simp] theorem State.begin_writeAt (s : State) (t : Nat) : (s.begin t).writeAt = s.writeAt := rfl
@[simp] theorem State.begin_dataErrors (s : State) (t : Nat) : (s.begin t).dataErrors = s.dataErrors := rfl
@[simp] theorem State.begin_streamDiscards (s : State) (t : Nat) : (s.begin t).streamDiscards = s.streamDiscards := rfl
@[simp] theorem State.begin_heads (s : State) (t : Nat) : (s.begin t).heads = s.heads := rfl
@[simp] theorem State.begin_stampNo (s : State) (t : Nat) : (s.begin t).stampNo = s.stampNo := rfl
@[simp] theorem State.begin_chains (s : State) (t : Nat) : (s.begin t).chains = s.chains := rfl
@[simp] theorem State.begin_ports (s : State) (t : Nat) : (s.begin t).ports = s.ports := rfl
@[simp] theorem State.begin_events (s : State) (t : Nat) : (s.begin t).events = s.events := rfl
@[simp] theorem State.begin_lost (s : State) (t : Nat) : (s.begin t).lost = s.lost := rfl
@[simp] theorem State.begin_lostRun (s : State) (t : Nat) : (s.begin t).lostRun = s.lostRun := rfl
@[simp] theorem State.begin_lostFirst (s : State) (t : Nat) : (s.begin t).lostFirst = s.lostFirst := rfl
@[simp] theorem State.begin_lostLast (s : State) (t : Nat) : (s.begin t).lostLast = s.lostLast := rfl
@[simp] theorem State.begin_opSeconds (s : State) (t : Nat) : (s.begin t).opSeconds = s.opSeconds := rfl
@[simp] theorem State.begin_powerCycles (s : State) (t : Nat) : (s.begin t).powerCycles = s.powerCycles := rfl
@[simp] theorem State.begin_calendar (s : State) (t : Nat) : (s.begin t).calendar = s.calendar := rfl
@[simp] theorem State.begin_calValid (s : State) (t : Nat) : (s.begin t).calValid = s.calValid := rfl
@[simp] theorem State.begin_opAt (s : State) (t : Nat) : (s.begin t).opAt = s.opAt := rfl
@[simp] theorem State.begin_opStored (s : State) (t : Nat) : (s.begin t).opStored = s.opStored := rfl
@[simp] theorem State.begin_calAt (s : State) (t : Nat) : (s.begin t).calAt = s.calAt := rfl
@[simp] theorem State.begin_calFreq (s : State) (t : Nat) : (s.begin t).calFreq = s.calFreq := rfl
@[simp] theorem State.begin_calCorr (s : State) (t : Nat) : (s.begin t).calCorr = s.calCorr := rfl
@[simp] theorem State.begin_calOff (s : State) (t : Nat) : (s.begin t).calOff = s.calOff := rfl
@[simp] theorem State.begin_calRun (s : State) (t : Nat) : (s.begin t).calRun = s.calRun := rfl
@[simp] theorem State.begin_cmdStat (s : State) (t : Nat) : (s.begin t).cmdStat = s.cmdStat := rfl
@[simp] theorem State.begin_sessions (s : State) (t : Nat) : (s.begin t).sessions = s.sessions := rfl
@[simp] theorem State.begin_sessFree (s : State) (t : Nat) : (s.begin t).sessFree = s.sessFree := rfl
@[simp] theorem State.begin_shakes (s : State) (t : Nat) : (s.begin t).shakes = s.shakes := rfl
@[simp] theorem State.begin_refusals (s : State) (t : Nat) : (s.begin t).refusals = s.refusals := rfl
@[simp] theorem State.begin_authFails (s : State) (t : Nat) : (s.begin t).authFails = s.authFails := rfl
@[simp] theorem State.begin_replays (s : State) (t : Nat) : (s.begin t).replays = s.replays := rfl
@[simp] theorem State.begin_staleSess (s : State) (t : Nat) : (s.begin t).staleSess = s.staleSess := rfl
@[simp] theorem State.begin_malformed (s : State) (t : Nat) : (s.begin t).malformed = s.malformed := rfl
@[simp] theorem State.begin_hports (s : State) (t : Nat) : (s.begin t).hports = s.hports := rfl
@[simp] theorem State.begin_ptp (s : State) (t : Nat) : (s.begin t).ptp = s.ptp := rfl
@[simp] theorem State.begin_txs (s : State) (t : Nat) : (s.begin t).txs = s.txs := rfl
@[simp] theorem State.begin_txClock (s : State) (t : Nat) : (s.begin t).txClock = s.txClock := rfl
@[simp] theorem State.begin_conflicts (s : State) (t : Nat) : (s.begin t).conflicts = s.conflicts := rfl
@[simp] theorem State.begin_staleTx (s : State) (t : Nat) : (s.begin t).staleTx = s.staleTx := rfl
@[simp] theorem State.begin_cans (s : State) (t : Nat) : (s.begin t).cans = s.cans := rfl
@[simp] theorem State.begin_banks (s : State) (t : Nat) : (s.begin t).banks = s.banks := rfl
@[simp] theorem State.begin_erases (s : State) (t : Nat) : (s.begin t).erases = s.erases := rfl
@[simp] theorem State.begin_activeBank (s : State) (t : Nat) : (s.begin t).activeBank = s.activeBank := rfl
@[simp] theorem State.begin_save (s : State) (t : Nat) : (s.begin t).save = s.save := rfl
@[simp] theorem State.begin_loadResult (s : State) (t : Nat) : (s.begin t).loadResult = s.loadResult := rfl
@[simp] theorem State.begin_skipped (s : State) (t : Nat) : (s.begin t).skipped = s.skipped := rfl
@[simp] theorem State.begin_engines (s : State) (t : Nat) : (s.begin t).engines = s.engines := rfl
@[simp] theorem State.begin_patches (s : State) (t : Nat) : (s.begin t).patches = s.patches := rfl
@[simp] theorem State.begin_arrays (s : State) (t : Nat) : (s.begin t).arrays = s.arrays := rfl
@[simp] theorem State.begin_idle (s : State) (t : Nat) : (s.begin t).idle = s.idleTimers := rfl
@[simp] theorem State.begin_chans (s : State) (t : Nat) : (s.begin t).chans = s.chans := rfl
@[simp] theorem State.begin_marks (s : State) (t : Nat) : (s.begin t).marks = s.marks := rfl
@[simp] theorem State.begin_switches (s : State) (t : Nat) : (s.begin t).switches = s.switches := rfl
@[simp] theorem State.begin_gates (s : State) (t : Nat) : (s.begin t).gates = s.gates := rfl
@[simp] theorem State.begin_axes (s : State) (t : Nat) : (s.begin t).axes = s.axes := rfl
@[simp] theorem State.begin_groups (s : State) (t : Nat) : (s.begin t).groups = s.groups := rfl
@[simp] theorem State.begin_sync (s : State) (t : Nat) : (s.begin t).sync = s.sync := rfl
@[simp] theorem State.begin_bpos (s : State) (t : Nat) : (s.begin t).bpos = s.bpos := rfl
@[simp] theorem State.begin_devState (s : State) (t : Nat) : (s.begin t).devState = s.devState := rfl
@[simp] theorem State.begin_lifeCycle (s : State) (t : Nat) : (s.begin t).lifeCycle = s.lifeCycle := rfl
@[simp] theorem State.begin_serial (s : State) (t : Nat) : (s.begin t).serial = s.serial := rfl
@[simp] theorem State.begin_toggles (s : State) (t : Nat) : (s.begin t).toggles = s.toggles := rfl
@[simp] theorem State.begin_fuses (s : State) (t : Nat) : (s.begin t).fuses = s.fuses := rfl
@[simp] theorem State.begin_lcPending (s : State) (t : Nat) : (s.begin t).lcPending = s.lcPending := rfl
@[simp] theorem State.begin_cocoon (s : State) (t : Nat) : (s.begin t).cocoon = s.cocoon := rfl
@[simp] theorem State.begin_tamper (s : State) (t : Nat) : (s.begin t).tamper = s.tamper := rfl
@[simp] theorem State.begin_enc (s : State) (t : Nat) : (s.begin t).enc = s.enc := rfl
@[simp] theorem State.begin_lanes (s : State) (t : Nat) : (s.begin t).lanes = s.lanes := rfl
@[simp] theorem State.begin_due (s : State) (t : Nat) : (s.begin t).due = s.due := rfl
@[simp] theorem State.begin_reqs (s : State) (t : Nat) : (s.begin t).reqs = s.reqs := rfl
@[simp] theorem State.begin_mem (s : State) (t : Nat) : (s.begin t).mem = s.mem := rfl
@[simp] theorem State.begin_recorder (s : State) (t : Nat) : (s.begin t).recorder = s.recorder := rfl
@[simp] theorem State.begin_snap (s : State) (t : Nat) : (s.begin t).snap = s.latched (max s.ft t) := rfl
@[simp] theorem State.begin_domains (s : State) (t : Nat) : (s.begin t).domains = s.selfWoken := rfl
@[simp] theorem State.begin_power (s : State) (t : Nat) : (s.begin t).power = s.power := rfl

/-! `emit` -/

@[simp] theorem State.emit_ft (s : State) (o : Out) : (s.emit o).ft = s.ft := rfl
@[simp] theorem State.emit_pending (s : State) (o : Out) : (s.emit o).pending = s.pending := rfl
@[simp] theorem State.emit_origin (s : State) (o : Out) : (s.emit o).origin = s.origin := rfl
@[simp] theorem State.emit_waiting (s : State) (o : Out) : (s.emit o).waiting = s.waiting := rfl
@[simp] theorem State.emit_resumed (s : State) (o : Out) : (s.emit o).resumed = s.resumed := rfl
@[simp] theorem State.emit_free (s : State) (o : Out) : (s.emit o).free = s.free := rfl
@[simp] theorem State.emit_out (s : State) (o : Out) : (s.emit o).out = s.out ++ [o] := rfl
@[simp] theorem State.emit_obj (s : State) (o : Out) : (s.emit o).obj = s.obj := rfl
@[simp] theorem State.emit_ver (s : State) (o : Out) : (s.emit o).ver = s.ver := rfl
@[simp] theorem State.emit_verAt (s : State) (o : Out) : (s.emit o).verAt = s.verAt := rfl
@[simp] theorem State.emit_restartObj (s : State) (o : Out) : (s.emit o).restartObj = s.restartObj := rfl
@[simp] theorem State.emit_items (s : State) (o : Out) : (s.emit o).items = s.items := rfl
@[simp] theorem State.emit_gens (s : State) (o : Out) : (s.emit o).gens = s.gens := rfl
@[simp] theorem State.emit_freeSlots (s : State) (o : Out) : (s.emit o).freeSlots = s.freeSlots := rfl
@[simp] theorem State.emit_slotZone (s : State) (o : Out) : (s.emit o).slotZone = s.slotZone := rfl
@[simp] theorem State.emit_notices (s : State) (o : Out) : (s.emit o).notices = s.notices := rfl
@[simp] theorem State.emit_noticesSent (s : State) (o : Out) : (s.emit o).noticesSent = s.noticesSent := rfl
@[simp] theorem State.emit_heldOut (s : State) (o : Out) : (s.emit o).heldOut = s.heldOut := rfl
@[simp] theorem State.emit_lateReports (s : State) (o : Out) : (s.emit o).lateReports = s.lateReports := rfl
@[simp] theorem State.emit_zones (s : State) (o : Out) : (s.emit o).zones = s.zones := rfl
@[simp] theorem State.emit_templates (s : State) (o : Out) : (s.emit o).templates = s.templates := rfl
@[simp] theorem State.emit_tiles (s : State) (o : Out) : (s.emit o).tiles = s.tiles := rfl
@[simp] theorem State.emit_tplGen (s : State) (o : Out) : (s.emit o).tplGen = s.tplGen := rfl
@[simp] theorem State.emit_tplFree (s : State) (o : Out) : (s.emit o).tplFree = s.tplFree := rfl
@[simp] theorem State.emit_tplNext (s : State) (o : Out) : (s.emit o).tplNext = s.tplNext := rfl
@[simp] theorem State.emit_tileGen (s : State) (o : Out) : (s.emit o).tileGen = s.tileGen := rfl
@[simp] theorem State.emit_tileFree (s : State) (o : Out) : (s.emit o).tileFree = s.tileFree := rfl
@[simp] theorem State.emit_tileNext (s : State) (o : Out) : (s.emit o).tileNext = s.tileNext := rfl
@[simp] theorem State.emit_dram (s : State) (o : Out) : (s.emit o).dram = s.dram := rfl
@[simp] theorem State.emit_stream (s : State) (o : Out) : (s.emit o).stream = s.stream := rfl
@[simp] theorem State.emit_writeLoad (s : State) (o : Out) : (s.emit o).writeLoad = s.writeLoad := rfl
@[simp] theorem State.emit_writeAt (s : State) (o : Out) : (s.emit o).writeAt = s.writeAt := rfl
@[simp] theorem State.emit_dataErrors (s : State) (o : Out) : (s.emit o).dataErrors = s.dataErrors := rfl
@[simp] theorem State.emit_streamDiscards (s : State) (o : Out) : (s.emit o).streamDiscards = s.streamDiscards := rfl
@[simp] theorem State.emit_heads (s : State) (o : Out) : (s.emit o).heads = s.heads := rfl
@[simp] theorem State.emit_stampNo (s : State) (o : Out) : (s.emit o).stampNo = s.stampNo := rfl
@[simp] theorem State.emit_chains (s : State) (o : Out) : (s.emit o).chains = s.chains := rfl
@[simp] theorem State.emit_ports (s : State) (o : Out) : (s.emit o).ports = s.ports := rfl
@[simp] theorem State.emit_events (s : State) (o : Out) : (s.emit o).events = s.events := rfl
@[simp] theorem State.emit_lost (s : State) (o : Out) : (s.emit o).lost = s.lost := rfl
@[simp] theorem State.emit_lostRun (s : State) (o : Out) : (s.emit o).lostRun = s.lostRun := rfl
@[simp] theorem State.emit_lostFirst (s : State) (o : Out) : (s.emit o).lostFirst = s.lostFirst := rfl
@[simp] theorem State.emit_lostLast (s : State) (o : Out) : (s.emit o).lostLast = s.lostLast := rfl
@[simp] theorem State.emit_opSeconds (s : State) (o : Out) : (s.emit o).opSeconds = s.opSeconds := rfl
@[simp] theorem State.emit_powerCycles (s : State) (o : Out) : (s.emit o).powerCycles = s.powerCycles := rfl
@[simp] theorem State.emit_calendar (s : State) (o : Out) : (s.emit o).calendar = s.calendar := rfl
@[simp] theorem State.emit_calValid (s : State) (o : Out) : (s.emit o).calValid = s.calValid := rfl
@[simp] theorem State.emit_opAt (s : State) (o : Out) : (s.emit o).opAt = s.opAt := rfl
@[simp] theorem State.emit_opStored (s : State) (o : Out) : (s.emit o).opStored = s.opStored := rfl
@[simp] theorem State.emit_calAt (s : State) (o : Out) : (s.emit o).calAt = s.calAt := rfl
@[simp] theorem State.emit_calFreq (s : State) (o : Out) : (s.emit o).calFreq = s.calFreq := rfl
@[simp] theorem State.emit_calCorr (s : State) (o : Out) : (s.emit o).calCorr = s.calCorr := rfl
@[simp] theorem State.emit_calOff (s : State) (o : Out) : (s.emit o).calOff = s.calOff := rfl
@[simp] theorem State.emit_calRun (s : State) (o : Out) : (s.emit o).calRun = s.calRun := rfl
@[simp] theorem State.emit_cmdStat (s : State) (o : Out) : (s.emit o).cmdStat = s.cmdStat := rfl
@[simp] theorem State.emit_sessions (s : State) (o : Out) : (s.emit o).sessions = s.sessions := rfl
@[simp] theorem State.emit_sessFree (s : State) (o : Out) : (s.emit o).sessFree = s.sessFree := rfl
@[simp] theorem State.emit_shakes (s : State) (o : Out) : (s.emit o).shakes = s.shakes := rfl
@[simp] theorem State.emit_refusals (s : State) (o : Out) : (s.emit o).refusals = s.refusals := rfl
@[simp] theorem State.emit_authFails (s : State) (o : Out) : (s.emit o).authFails = s.authFails := rfl
@[simp] theorem State.emit_replays (s : State) (o : Out) : (s.emit o).replays = s.replays := rfl
@[simp] theorem State.emit_staleSess (s : State) (o : Out) : (s.emit o).staleSess = s.staleSess := rfl
@[simp] theorem State.emit_malformed (s : State) (o : Out) : (s.emit o).malformed = s.malformed := rfl
@[simp] theorem State.emit_hports (s : State) (o : Out) : (s.emit o).hports = s.hports := rfl
@[simp] theorem State.emit_ptp (s : State) (o : Out) : (s.emit o).ptp = s.ptp := rfl
@[simp] theorem State.emit_txs (s : State) (o : Out) : (s.emit o).txs = s.txs := rfl
@[simp] theorem State.emit_txClock (s : State) (o : Out) : (s.emit o).txClock = s.txClock := rfl
@[simp] theorem State.emit_conflicts (s : State) (o : Out) : (s.emit o).conflicts = s.conflicts := rfl
@[simp] theorem State.emit_staleTx (s : State) (o : Out) : (s.emit o).staleTx = s.staleTx := rfl
@[simp] theorem State.emit_cans (s : State) (o : Out) : (s.emit o).cans = s.cans := rfl
@[simp] theorem State.emit_banks (s : State) (o : Out) : (s.emit o).banks = s.banks := rfl
@[simp] theorem State.emit_erases (s : State) (o : Out) : (s.emit o).erases = s.erases := rfl
@[simp] theorem State.emit_activeBank (s : State) (o : Out) : (s.emit o).activeBank = s.activeBank := rfl
@[simp] theorem State.emit_save (s : State) (o : Out) : (s.emit o).save = s.save := rfl
@[simp] theorem State.emit_loadResult (s : State) (o : Out) : (s.emit o).loadResult = s.loadResult := rfl
@[simp] theorem State.emit_skipped (s : State) (o : Out) : (s.emit o).skipped = s.skipped := rfl
@[simp] theorem State.emit_engines (s : State) (o : Out) : (s.emit o).engines = s.engines := rfl
@[simp] theorem State.emit_patches (s : State) (o : Out) : (s.emit o).patches = s.patches := rfl
@[simp] theorem State.emit_arrays (s : State) (o : Out) : (s.emit o).arrays = s.arrays := rfl
@[simp] theorem State.emit_idle (s : State) (o : Out) : (s.emit o).idle = s.idle := rfl
@[simp] theorem State.emit_chans (s : State) (o : Out) : (s.emit o).chans = s.chans := rfl
@[simp] theorem State.emit_marks (s : State) (o : Out) : (s.emit o).marks = s.marks := rfl
@[simp] theorem State.emit_switches (s : State) (o : Out) : (s.emit o).switches = s.switches := rfl
@[simp] theorem State.emit_gates (s : State) (o : Out) : (s.emit o).gates = s.gates := rfl
@[simp] theorem State.emit_axes (s : State) (o : Out) : (s.emit o).axes = s.axes := rfl
@[simp] theorem State.emit_groups (s : State) (o : Out) : (s.emit o).groups = s.groups := rfl
@[simp] theorem State.emit_sync (s : State) (o : Out) : (s.emit o).sync = s.sync := rfl
@[simp] theorem State.emit_bpos (s : State) (o : Out) : (s.emit o).bpos = s.bpos := rfl
@[simp] theorem State.emit_devState (s : State) (o : Out) : (s.emit o).devState = s.devState := rfl
@[simp] theorem State.emit_lifeCycle (s : State) (o : Out) : (s.emit o).lifeCycle = s.lifeCycle := rfl
@[simp] theorem State.emit_serial (s : State) (o : Out) : (s.emit o).serial = s.serial := rfl
@[simp] theorem State.emit_toggles (s : State) (o : Out) : (s.emit o).toggles = s.toggles := rfl
@[simp] theorem State.emit_fuses (s : State) (o : Out) : (s.emit o).fuses = s.fuses := rfl
@[simp] theorem State.emit_lcPending (s : State) (o : Out) : (s.emit o).lcPending = s.lcPending := rfl
@[simp] theorem State.emit_cocoon (s : State) (o : Out) : (s.emit o).cocoon = s.cocoon := rfl
@[simp] theorem State.emit_tamper (s : State) (o : Out) : (s.emit o).tamper = s.tamper := rfl
@[simp] theorem State.emit_enc (s : State) (o : Out) : (s.emit o).enc = s.enc := rfl
@[simp] theorem State.emit_lanes (s : State) (o : Out) : (s.emit o).lanes = s.lanes := rfl
@[simp] theorem State.emit_due (s : State) (o : Out) : (s.emit o).due = s.due := rfl
@[simp] theorem State.emit_reqs (s : State) (o : Out) : (s.emit o).reqs = s.reqs := rfl
@[simp] theorem State.emit_mem (s : State) (o : Out) : (s.emit o).mem = s.mem := rfl
@[simp] theorem State.emit_recorder (s : State) (o : Out) : (s.emit o).recorder = s.recorder := rfl
@[simp] theorem State.emit_snap (s : State) (o : Out) : (s.emit o).snap = s.snap := rfl
@[simp] theorem State.emit_domains (s : State) (o : Out) : (s.emit o).domains = s.domains := rfl
@[simp] theorem State.emit_power (s : State) (o : Out) : (s.emit o).power = s.power := rfl

/-! `updZone` -/

@[simp] theorem State.updZone_ft (s : State) (z : Fin 8) (f : Zone → Zone) : (s.updZone z f).ft = s.ft := rfl
@[simp] theorem State.updZone_pending (s : State) (z : Fin 8) (f : Zone → Zone) : (s.updZone z f).pending = s.pending := rfl
@[simp] theorem State.updZone_origin (s : State) (z : Fin 8) (f : Zone → Zone) : (s.updZone z f).origin = s.origin := rfl
@[simp] theorem State.updZone_waiting (s : State) (z : Fin 8) (f : Zone → Zone) : (s.updZone z f).waiting = s.waiting := rfl
@[simp] theorem State.updZone_resumed (s : State) (z : Fin 8) (f : Zone → Zone) : (s.updZone z f).resumed = s.resumed := rfl
@[simp] theorem State.updZone_free (s : State) (z : Fin 8) (f : Zone → Zone) : (s.updZone z f).free = s.free := rfl
@[simp] theorem State.updZone_out (s : State) (z : Fin 8) (f : Zone → Zone) : (s.updZone z f).out = s.out := rfl
@[simp] theorem State.updZone_obj (s : State) (z : Fin 8) (f : Zone → Zone) : (s.updZone z f).obj = s.obj := rfl
@[simp] theorem State.updZone_ver (s : State) (z : Fin 8) (f : Zone → Zone) : (s.updZone z f).ver = s.ver := rfl
@[simp] theorem State.updZone_verAt (s : State) (z : Fin 8) (f : Zone → Zone) : (s.updZone z f).verAt = s.verAt := rfl
@[simp] theorem State.updZone_restartObj (s : State) (z : Fin 8) (f : Zone → Zone) : (s.updZone z f).restartObj = s.restartObj := rfl
@[simp] theorem State.updZone_items (s : State) (z : Fin 8) (f : Zone → Zone) : (s.updZone z f).items = s.items := rfl
@[simp] theorem State.updZone_gens (s : State) (z : Fin 8) (f : Zone → Zone) : (s.updZone z f).gens = s.gens := rfl
@[simp] theorem State.updZone_freeSlots (s : State) (z : Fin 8) (f : Zone → Zone) : (s.updZone z f).freeSlots = s.freeSlots := rfl
@[simp] theorem State.updZone_slotZone (s : State) (z : Fin 8) (f : Zone → Zone) : (s.updZone z f).slotZone = s.slotZone := rfl
@[simp] theorem State.updZone_notices (s : State) (z : Fin 8) (f : Zone → Zone) : (s.updZone z f).notices = s.notices := rfl
@[simp] theorem State.updZone_noticesSent (s : State) (z : Fin 8) (f : Zone → Zone) : (s.updZone z f).noticesSent = s.noticesSent := rfl
@[simp] theorem State.updZone_heldOut (s : State) (z : Fin 8) (f : Zone → Zone) : (s.updZone z f).heldOut = s.heldOut := rfl
@[simp] theorem State.updZone_lateReports (s : State) (z : Fin 8) (f : Zone → Zone) : (s.updZone z f).lateReports = s.lateReports := rfl
@[simp] theorem State.updZone_zones (s : State) (z : Fin 8) (f : Zone → Zone) : (s.updZone z f).zones = vupd s.zones z f := rfl
@[simp] theorem State.updZone_templates (s : State) (z : Fin 8) (f : Zone → Zone) : (s.updZone z f).templates = s.templates := rfl
@[simp] theorem State.updZone_tiles (s : State) (z : Fin 8) (f : Zone → Zone) : (s.updZone z f).tiles = s.tiles := rfl
@[simp] theorem State.updZone_tplGen (s : State) (z : Fin 8) (f : Zone → Zone) : (s.updZone z f).tplGen = s.tplGen := rfl
@[simp] theorem State.updZone_tplFree (s : State) (z : Fin 8) (f : Zone → Zone) : (s.updZone z f).tplFree = s.tplFree := rfl
@[simp] theorem State.updZone_tplNext (s : State) (z : Fin 8) (f : Zone → Zone) : (s.updZone z f).tplNext = s.tplNext := rfl
@[simp] theorem State.updZone_tileGen (s : State) (z : Fin 8) (f : Zone → Zone) : (s.updZone z f).tileGen = s.tileGen := rfl
@[simp] theorem State.updZone_tileFree (s : State) (z : Fin 8) (f : Zone → Zone) : (s.updZone z f).tileFree = s.tileFree := rfl
@[simp] theorem State.updZone_tileNext (s : State) (z : Fin 8) (f : Zone → Zone) : (s.updZone z f).tileNext = s.tileNext := rfl
@[simp] theorem State.updZone_dram (s : State) (z : Fin 8) (f : Zone → Zone) : (s.updZone z f).dram = s.dram := rfl
@[simp] theorem State.updZone_stream (s : State) (z : Fin 8) (f : Zone → Zone) : (s.updZone z f).stream = s.stream := rfl
@[simp] theorem State.updZone_writeLoad (s : State) (z : Fin 8) (f : Zone → Zone) : (s.updZone z f).writeLoad = s.writeLoad := rfl
@[simp] theorem State.updZone_writeAt (s : State) (z : Fin 8) (f : Zone → Zone) : (s.updZone z f).writeAt = s.writeAt := rfl
@[simp] theorem State.updZone_dataErrors (s : State) (z : Fin 8) (f : Zone → Zone) : (s.updZone z f).dataErrors = s.dataErrors := rfl
@[simp] theorem State.updZone_streamDiscards (s : State) (z : Fin 8) (f : Zone → Zone) : (s.updZone z f).streamDiscards = s.streamDiscards := rfl
@[simp] theorem State.updZone_heads (s : State) (z : Fin 8) (f : Zone → Zone) : (s.updZone z f).heads = s.heads := rfl
@[simp] theorem State.updZone_stampNo (s : State) (z : Fin 8) (f : Zone → Zone) : (s.updZone z f).stampNo = s.stampNo := rfl
@[simp] theorem State.updZone_chains (s : State) (z : Fin 8) (f : Zone → Zone) : (s.updZone z f).chains = s.chains := rfl
@[simp] theorem State.updZone_ports (s : State) (z : Fin 8) (f : Zone → Zone) : (s.updZone z f).ports = s.ports := rfl
@[simp] theorem State.updZone_events (s : State) (z : Fin 8) (f : Zone → Zone) : (s.updZone z f).events = s.events := rfl
@[simp] theorem State.updZone_lost (s : State) (z : Fin 8) (f : Zone → Zone) : (s.updZone z f).lost = s.lost := rfl
@[simp] theorem State.updZone_lostRun (s : State) (z : Fin 8) (f : Zone → Zone) : (s.updZone z f).lostRun = s.lostRun := rfl
@[simp] theorem State.updZone_lostFirst (s : State) (z : Fin 8) (f : Zone → Zone) : (s.updZone z f).lostFirst = s.lostFirst := rfl
@[simp] theorem State.updZone_lostLast (s : State) (z : Fin 8) (f : Zone → Zone) : (s.updZone z f).lostLast = s.lostLast := rfl
@[simp] theorem State.updZone_opSeconds (s : State) (z : Fin 8) (f : Zone → Zone) : (s.updZone z f).opSeconds = s.opSeconds := rfl
@[simp] theorem State.updZone_powerCycles (s : State) (z : Fin 8) (f : Zone → Zone) : (s.updZone z f).powerCycles = s.powerCycles := rfl
@[simp] theorem State.updZone_calendar (s : State) (z : Fin 8) (f : Zone → Zone) : (s.updZone z f).calendar = s.calendar := rfl
@[simp] theorem State.updZone_calValid (s : State) (z : Fin 8) (f : Zone → Zone) : (s.updZone z f).calValid = s.calValid := rfl
@[simp] theorem State.updZone_opAt (s : State) (z : Fin 8) (f : Zone → Zone) : (s.updZone z f).opAt = s.opAt := rfl
@[simp] theorem State.updZone_opStored (s : State) (z : Fin 8) (f : Zone → Zone) : (s.updZone z f).opStored = s.opStored := rfl
@[simp] theorem State.updZone_calAt (s : State) (z : Fin 8) (f : Zone → Zone) : (s.updZone z f).calAt = s.calAt := rfl
@[simp] theorem State.updZone_calFreq (s : State) (z : Fin 8) (f : Zone → Zone) : (s.updZone z f).calFreq = s.calFreq := rfl
@[simp] theorem State.updZone_calCorr (s : State) (z : Fin 8) (f : Zone → Zone) : (s.updZone z f).calCorr = s.calCorr := rfl
@[simp] theorem State.updZone_calOff (s : State) (z : Fin 8) (f : Zone → Zone) : (s.updZone z f).calOff = s.calOff := rfl
@[simp] theorem State.updZone_calRun (s : State) (z : Fin 8) (f : Zone → Zone) : (s.updZone z f).calRun = s.calRun := rfl
@[simp] theorem State.updZone_cmdStat (s : State) (z : Fin 8) (f : Zone → Zone) : (s.updZone z f).cmdStat = s.cmdStat := rfl
@[simp] theorem State.updZone_sessions (s : State) (z : Fin 8) (f : Zone → Zone) : (s.updZone z f).sessions = s.sessions := rfl
@[simp] theorem State.updZone_sessFree (s : State) (z : Fin 8) (f : Zone → Zone) : (s.updZone z f).sessFree = s.sessFree := rfl
@[simp] theorem State.updZone_shakes (s : State) (z : Fin 8) (f : Zone → Zone) : (s.updZone z f).shakes = s.shakes := rfl
@[simp] theorem State.updZone_refusals (s : State) (z : Fin 8) (f : Zone → Zone) : (s.updZone z f).refusals = s.refusals := rfl
@[simp] theorem State.updZone_authFails (s : State) (z : Fin 8) (f : Zone → Zone) : (s.updZone z f).authFails = s.authFails := rfl
@[simp] theorem State.updZone_replays (s : State) (z : Fin 8) (f : Zone → Zone) : (s.updZone z f).replays = s.replays := rfl
@[simp] theorem State.updZone_staleSess (s : State) (z : Fin 8) (f : Zone → Zone) : (s.updZone z f).staleSess = s.staleSess := rfl
@[simp] theorem State.updZone_malformed (s : State) (z : Fin 8) (f : Zone → Zone) : (s.updZone z f).malformed = s.malformed := rfl
@[simp] theorem State.updZone_hports (s : State) (z : Fin 8) (f : Zone → Zone) : (s.updZone z f).hports = s.hports := rfl
@[simp] theorem State.updZone_ptp (s : State) (z : Fin 8) (f : Zone → Zone) : (s.updZone z f).ptp = s.ptp := rfl
@[simp] theorem State.updZone_txs (s : State) (z : Fin 8) (f : Zone → Zone) : (s.updZone z f).txs = s.txs := rfl
@[simp] theorem State.updZone_txClock (s : State) (z : Fin 8) (f : Zone → Zone) : (s.updZone z f).txClock = s.txClock := rfl
@[simp] theorem State.updZone_conflicts (s : State) (z : Fin 8) (f : Zone → Zone) : (s.updZone z f).conflicts = s.conflicts := rfl
@[simp] theorem State.updZone_staleTx (s : State) (z : Fin 8) (f : Zone → Zone) : (s.updZone z f).staleTx = s.staleTx := rfl
@[simp] theorem State.updZone_cans (s : State) (z : Fin 8) (f : Zone → Zone) : (s.updZone z f).cans = s.cans := rfl
@[simp] theorem State.updZone_banks (s : State) (z : Fin 8) (f : Zone → Zone) : (s.updZone z f).banks = s.banks := rfl
@[simp] theorem State.updZone_erases (s : State) (z : Fin 8) (f : Zone → Zone) : (s.updZone z f).erases = s.erases := rfl
@[simp] theorem State.updZone_activeBank (s : State) (z : Fin 8) (f : Zone → Zone) : (s.updZone z f).activeBank = s.activeBank := rfl
@[simp] theorem State.updZone_save (s : State) (z : Fin 8) (f : Zone → Zone) : (s.updZone z f).save = s.save := rfl
@[simp] theorem State.updZone_loadResult (s : State) (z : Fin 8) (f : Zone → Zone) : (s.updZone z f).loadResult = s.loadResult := rfl
@[simp] theorem State.updZone_skipped (s : State) (z : Fin 8) (f : Zone → Zone) : (s.updZone z f).skipped = s.skipped := rfl
@[simp] theorem State.updZone_engines (s : State) (z : Fin 8) (f : Zone → Zone) : (s.updZone z f).engines = s.engines := rfl
@[simp] theorem State.updZone_patches (s : State) (z : Fin 8) (f : Zone → Zone) : (s.updZone z f).patches = s.patches := rfl
@[simp] theorem State.updZone_arrays (s : State) (z : Fin 8) (f : Zone → Zone) : (s.updZone z f).arrays = s.arrays := rfl
@[simp] theorem State.updZone_idle (s : State) (z : Fin 8) (f : Zone → Zone) : (s.updZone z f).idle = s.idle := rfl
@[simp] theorem State.updZone_chans (s : State) (z : Fin 8) (f : Zone → Zone) : (s.updZone z f).chans = s.chans := rfl
@[simp] theorem State.updZone_marks (s : State) (z : Fin 8) (f : Zone → Zone) : (s.updZone z f).marks = s.marks := rfl
@[simp] theorem State.updZone_switches (s : State) (z : Fin 8) (f : Zone → Zone) : (s.updZone z f).switches = s.switches := rfl
@[simp] theorem State.updZone_gates (s : State) (z : Fin 8) (f : Zone → Zone) : (s.updZone z f).gates = s.gates := rfl
@[simp] theorem State.updZone_axes (s : State) (z : Fin 8) (f : Zone → Zone) : (s.updZone z f).axes = s.axes := rfl
@[simp] theorem State.updZone_groups (s : State) (z : Fin 8) (f : Zone → Zone) : (s.updZone z f).groups = s.groups := rfl
@[simp] theorem State.updZone_sync (s : State) (z : Fin 8) (f : Zone → Zone) : (s.updZone z f).sync = s.sync := rfl
@[simp] theorem State.updZone_bpos (s : State) (z : Fin 8) (f : Zone → Zone) : (s.updZone z f).bpos = s.bpos := rfl
@[simp] theorem State.updZone_devState (s : State) (z : Fin 8) (f : Zone → Zone) : (s.updZone z f).devState = s.devState := rfl
@[simp] theorem State.updZone_lifeCycle (s : State) (z : Fin 8) (f : Zone → Zone) : (s.updZone z f).lifeCycle = s.lifeCycle := rfl
@[simp] theorem State.updZone_serial (s : State) (z : Fin 8) (f : Zone → Zone) : (s.updZone z f).serial = s.serial := rfl
@[simp] theorem State.updZone_toggles (s : State) (z : Fin 8) (f : Zone → Zone) : (s.updZone z f).toggles = s.toggles := rfl
@[simp] theorem State.updZone_fuses (s : State) (z : Fin 8) (f : Zone → Zone) : (s.updZone z f).fuses = s.fuses := rfl
@[simp] theorem State.updZone_lcPending (s : State) (z : Fin 8) (f : Zone → Zone) : (s.updZone z f).lcPending = s.lcPending := rfl
@[simp] theorem State.updZone_cocoon (s : State) (z : Fin 8) (f : Zone → Zone) : (s.updZone z f).cocoon = s.cocoon := rfl
@[simp] theorem State.updZone_tamper (s : State) (z : Fin 8) (f : Zone → Zone) : (s.updZone z f).tamper = s.tamper := rfl
@[simp] theorem State.updZone_enc (s : State) (z : Fin 8) (f : Zone → Zone) : (s.updZone z f).enc = s.enc := rfl
@[simp] theorem State.updZone_lanes (s : State) (z : Fin 8) (f : Zone → Zone) : (s.updZone z f).lanes = s.lanes := rfl
@[simp] theorem State.updZone_due (s : State) (z : Fin 8) (f : Zone → Zone) : (s.updZone z f).due = s.due := rfl
@[simp] theorem State.updZone_reqs (s : State) (z : Fin 8) (f : Zone → Zone) : (s.updZone z f).reqs = s.reqs := rfl
@[simp] theorem State.updZone_mem (s : State) (z : Fin 8) (f : Zone → Zone) : (s.updZone z f).mem = s.mem := rfl
@[simp] theorem State.updZone_recorder (s : State) (z : Fin 8) (f : Zone → Zone) : (s.updZone z f).recorder = s.recorder := rfl
@[simp] theorem State.updZone_snap (s : State) (z : Fin 8) (f : Zone → Zone) : (s.updZone z f).snap = s.snap := rfl
@[simp] theorem State.updZone_domains (s : State) (z : Fin 8) (f : Zone → Zone) : (s.updZone z f).domains = s.domains := rfl
@[simp] theorem State.updZone_power (s : State) (z : Fin 8) (f : Zone → Zone) : (s.updZone z f).power = s.power := rfl

/-! `updHead` -/

@[simp] theorem State.updHead_ft (s : State) (h : Fin 64) (f : Head → Head) : (s.updHead h f).ft = s.ft := rfl
@[simp] theorem State.updHead_pending (s : State) (h : Fin 64) (f : Head → Head) : (s.updHead h f).pending = s.pending := rfl
@[simp] theorem State.updHead_origin (s : State) (h : Fin 64) (f : Head → Head) : (s.updHead h f).origin = s.origin := rfl
@[simp] theorem State.updHead_waiting (s : State) (h : Fin 64) (f : Head → Head) : (s.updHead h f).waiting = s.waiting := rfl
@[simp] theorem State.updHead_resumed (s : State) (h : Fin 64) (f : Head → Head) : (s.updHead h f).resumed = s.resumed := rfl
@[simp] theorem State.updHead_free (s : State) (h : Fin 64) (f : Head → Head) : (s.updHead h f).free = s.free := rfl
@[simp] theorem State.updHead_out (s : State) (h : Fin 64) (f : Head → Head) : (s.updHead h f).out = s.out := rfl
@[simp] theorem State.updHead_obj (s : State) (h : Fin 64) (f : Head → Head) : (s.updHead h f).obj = s.obj := rfl
@[simp] theorem State.updHead_ver (s : State) (h : Fin 64) (f : Head → Head) : (s.updHead h f).ver = s.ver := rfl
@[simp] theorem State.updHead_verAt (s : State) (h : Fin 64) (f : Head → Head) : (s.updHead h f).verAt = s.verAt := rfl
@[simp] theorem State.updHead_restartObj (s : State) (h : Fin 64) (f : Head → Head) : (s.updHead h f).restartObj = s.restartObj := rfl
@[simp] theorem State.updHead_items (s : State) (h : Fin 64) (f : Head → Head) : (s.updHead h f).items = s.items := rfl
@[simp] theorem State.updHead_gens (s : State) (h : Fin 64) (f : Head → Head) : (s.updHead h f).gens = s.gens := rfl
@[simp] theorem State.updHead_freeSlots (s : State) (h : Fin 64) (f : Head → Head) : (s.updHead h f).freeSlots = s.freeSlots := rfl
@[simp] theorem State.updHead_slotZone (s : State) (h : Fin 64) (f : Head → Head) : (s.updHead h f).slotZone = s.slotZone := rfl
@[simp] theorem State.updHead_notices (s : State) (h : Fin 64) (f : Head → Head) : (s.updHead h f).notices = s.notices := rfl
@[simp] theorem State.updHead_noticesSent (s : State) (h : Fin 64) (f : Head → Head) : (s.updHead h f).noticesSent = s.noticesSent := rfl
@[simp] theorem State.updHead_heldOut (s : State) (h : Fin 64) (f : Head → Head) : (s.updHead h f).heldOut = s.heldOut := rfl
@[simp] theorem State.updHead_lateReports (s : State) (h : Fin 64) (f : Head → Head) : (s.updHead h f).lateReports = s.lateReports := rfl
@[simp] theorem State.updHead_zones (s : State) (h : Fin 64) (f : Head → Head) : (s.updHead h f).zones = s.zones := rfl
@[simp] theorem State.updHead_templates (s : State) (h : Fin 64) (f : Head → Head) : (s.updHead h f).templates = s.templates := rfl
@[simp] theorem State.updHead_tiles (s : State) (h : Fin 64) (f : Head → Head) : (s.updHead h f).tiles = s.tiles := rfl
@[simp] theorem State.updHead_tplGen (s : State) (h : Fin 64) (f : Head → Head) : (s.updHead h f).tplGen = s.tplGen := rfl
@[simp] theorem State.updHead_tplFree (s : State) (h : Fin 64) (f : Head → Head) : (s.updHead h f).tplFree = s.tplFree := rfl
@[simp] theorem State.updHead_tplNext (s : State) (h : Fin 64) (f : Head → Head) : (s.updHead h f).tplNext = s.tplNext := rfl
@[simp] theorem State.updHead_tileGen (s : State) (h : Fin 64) (f : Head → Head) : (s.updHead h f).tileGen = s.tileGen := rfl
@[simp] theorem State.updHead_tileFree (s : State) (h : Fin 64) (f : Head → Head) : (s.updHead h f).tileFree = s.tileFree := rfl
@[simp] theorem State.updHead_tileNext (s : State) (h : Fin 64) (f : Head → Head) : (s.updHead h f).tileNext = s.tileNext := rfl
@[simp] theorem State.updHead_dram (s : State) (h : Fin 64) (f : Head → Head) : (s.updHead h f).dram = s.dram := rfl
@[simp] theorem State.updHead_stream (s : State) (h : Fin 64) (f : Head → Head) : (s.updHead h f).stream = s.stream := rfl
@[simp] theorem State.updHead_writeLoad (s : State) (h : Fin 64) (f : Head → Head) : (s.updHead h f).writeLoad = s.writeLoad := rfl
@[simp] theorem State.updHead_writeAt (s : State) (h : Fin 64) (f : Head → Head) : (s.updHead h f).writeAt = s.writeAt := rfl
@[simp] theorem State.updHead_dataErrors (s : State) (h : Fin 64) (f : Head → Head) : (s.updHead h f).dataErrors = s.dataErrors := rfl
@[simp] theorem State.updHead_streamDiscards (s : State) (h : Fin 64) (f : Head → Head) : (s.updHead h f).streamDiscards = s.streamDiscards := rfl
@[simp] theorem State.updHead_heads (s : State) (h : Fin 64) (f : Head → Head) : (s.updHead h f).heads = vupd s.heads h f := rfl
@[simp] theorem State.updHead_stampNo (s : State) (h : Fin 64) (f : Head → Head) : (s.updHead h f).stampNo = s.stampNo := rfl
@[simp] theorem State.updHead_chains (s : State) (h : Fin 64) (f : Head → Head) : (s.updHead h f).chains = s.chains := rfl
@[simp] theorem State.updHead_ports (s : State) (h : Fin 64) (f : Head → Head) : (s.updHead h f).ports = s.ports := rfl
@[simp] theorem State.updHead_events (s : State) (h : Fin 64) (f : Head → Head) : (s.updHead h f).events = s.events := rfl
@[simp] theorem State.updHead_lost (s : State) (h : Fin 64) (f : Head → Head) : (s.updHead h f).lost = s.lost := rfl
@[simp] theorem State.updHead_lostRun (s : State) (h : Fin 64) (f : Head → Head) : (s.updHead h f).lostRun = s.lostRun := rfl
@[simp] theorem State.updHead_lostFirst (s : State) (h : Fin 64) (f : Head → Head) : (s.updHead h f).lostFirst = s.lostFirst := rfl
@[simp] theorem State.updHead_lostLast (s : State) (h : Fin 64) (f : Head → Head) : (s.updHead h f).lostLast = s.lostLast := rfl
@[simp] theorem State.updHead_opSeconds (s : State) (h : Fin 64) (f : Head → Head) : (s.updHead h f).opSeconds = s.opSeconds := rfl
@[simp] theorem State.updHead_powerCycles (s : State) (h : Fin 64) (f : Head → Head) : (s.updHead h f).powerCycles = s.powerCycles := rfl
@[simp] theorem State.updHead_calendar (s : State) (h : Fin 64) (f : Head → Head) : (s.updHead h f).calendar = s.calendar := rfl
@[simp] theorem State.updHead_calValid (s : State) (h : Fin 64) (f : Head → Head) : (s.updHead h f).calValid = s.calValid := rfl
@[simp] theorem State.updHead_opAt (s : State) (h : Fin 64) (f : Head → Head) : (s.updHead h f).opAt = s.opAt := rfl
@[simp] theorem State.updHead_opStored (s : State) (h : Fin 64) (f : Head → Head) : (s.updHead h f).opStored = s.opStored := rfl
@[simp] theorem State.updHead_calAt (s : State) (h : Fin 64) (f : Head → Head) : (s.updHead h f).calAt = s.calAt := rfl
@[simp] theorem State.updHead_calFreq (s : State) (h : Fin 64) (f : Head → Head) : (s.updHead h f).calFreq = s.calFreq := rfl
@[simp] theorem State.updHead_calCorr (s : State) (h : Fin 64) (f : Head → Head) : (s.updHead h f).calCorr = s.calCorr := rfl
@[simp] theorem State.updHead_calOff (s : State) (h : Fin 64) (f : Head → Head) : (s.updHead h f).calOff = s.calOff := rfl
@[simp] theorem State.updHead_calRun (s : State) (h : Fin 64) (f : Head → Head) : (s.updHead h f).calRun = s.calRun := rfl
@[simp] theorem State.updHead_cmdStat (s : State) (h : Fin 64) (f : Head → Head) : (s.updHead h f).cmdStat = s.cmdStat := rfl
@[simp] theorem State.updHead_sessions (s : State) (h : Fin 64) (f : Head → Head) : (s.updHead h f).sessions = s.sessions := rfl
@[simp] theorem State.updHead_sessFree (s : State) (h : Fin 64) (f : Head → Head) : (s.updHead h f).sessFree = s.sessFree := rfl
@[simp] theorem State.updHead_shakes (s : State) (h : Fin 64) (f : Head → Head) : (s.updHead h f).shakes = s.shakes := rfl
@[simp] theorem State.updHead_refusals (s : State) (h : Fin 64) (f : Head → Head) : (s.updHead h f).refusals = s.refusals := rfl
@[simp] theorem State.updHead_authFails (s : State) (h : Fin 64) (f : Head → Head) : (s.updHead h f).authFails = s.authFails := rfl
@[simp] theorem State.updHead_replays (s : State) (h : Fin 64) (f : Head → Head) : (s.updHead h f).replays = s.replays := rfl
@[simp] theorem State.updHead_staleSess (s : State) (h : Fin 64) (f : Head → Head) : (s.updHead h f).staleSess = s.staleSess := rfl
@[simp] theorem State.updHead_malformed (s : State) (h : Fin 64) (f : Head → Head) : (s.updHead h f).malformed = s.malformed := rfl
@[simp] theorem State.updHead_hports (s : State) (h : Fin 64) (f : Head → Head) : (s.updHead h f).hports = s.hports := rfl
@[simp] theorem State.updHead_ptp (s : State) (h : Fin 64) (f : Head → Head) : (s.updHead h f).ptp = s.ptp := rfl
@[simp] theorem State.updHead_txs (s : State) (h : Fin 64) (f : Head → Head) : (s.updHead h f).txs = s.txs := rfl
@[simp] theorem State.updHead_txClock (s : State) (h : Fin 64) (f : Head → Head) : (s.updHead h f).txClock = s.txClock := rfl
@[simp] theorem State.updHead_conflicts (s : State) (h : Fin 64) (f : Head → Head) : (s.updHead h f).conflicts = s.conflicts := rfl
@[simp] theorem State.updHead_staleTx (s : State) (h : Fin 64) (f : Head → Head) : (s.updHead h f).staleTx = s.staleTx := rfl
@[simp] theorem State.updHead_cans (s : State) (h : Fin 64) (f : Head → Head) : (s.updHead h f).cans = s.cans := rfl
@[simp] theorem State.updHead_banks (s : State) (h : Fin 64) (f : Head → Head) : (s.updHead h f).banks = s.banks := rfl
@[simp] theorem State.updHead_erases (s : State) (h : Fin 64) (f : Head → Head) : (s.updHead h f).erases = s.erases := rfl
@[simp] theorem State.updHead_activeBank (s : State) (h : Fin 64) (f : Head → Head) : (s.updHead h f).activeBank = s.activeBank := rfl
@[simp] theorem State.updHead_save (s : State) (h : Fin 64) (f : Head → Head) : (s.updHead h f).save = s.save := rfl
@[simp] theorem State.updHead_loadResult (s : State) (h : Fin 64) (f : Head → Head) : (s.updHead h f).loadResult = s.loadResult := rfl
@[simp] theorem State.updHead_skipped (s : State) (h : Fin 64) (f : Head → Head) : (s.updHead h f).skipped = s.skipped := rfl
@[simp] theorem State.updHead_engines (s : State) (h : Fin 64) (f : Head → Head) : (s.updHead h f).engines = s.engines := rfl
@[simp] theorem State.updHead_patches (s : State) (h : Fin 64) (f : Head → Head) : (s.updHead h f).patches = s.patches := rfl
@[simp] theorem State.updHead_arrays (s : State) (h : Fin 64) (f : Head → Head) : (s.updHead h f).arrays = s.arrays := rfl
@[simp] theorem State.updHead_idle (s : State) (h : Fin 64) (f : Head → Head) : (s.updHead h f).idle = s.idle := rfl
@[simp] theorem State.updHead_chans (s : State) (h : Fin 64) (f : Head → Head) : (s.updHead h f).chans = s.chans := rfl
@[simp] theorem State.updHead_marks (s : State) (h : Fin 64) (f : Head → Head) : (s.updHead h f).marks = s.marks := rfl
@[simp] theorem State.updHead_switches (s : State) (h : Fin 64) (f : Head → Head) : (s.updHead h f).switches = s.switches := rfl
@[simp] theorem State.updHead_gates (s : State) (h : Fin 64) (f : Head → Head) : (s.updHead h f).gates = s.gates := rfl
@[simp] theorem State.updHead_axes (s : State) (h : Fin 64) (f : Head → Head) : (s.updHead h f).axes = s.axes := rfl
@[simp] theorem State.updHead_groups (s : State) (h : Fin 64) (f : Head → Head) : (s.updHead h f).groups = s.groups := rfl
@[simp] theorem State.updHead_sync (s : State) (h : Fin 64) (f : Head → Head) : (s.updHead h f).sync = s.sync := rfl
@[simp] theorem State.updHead_bpos (s : State) (h : Fin 64) (f : Head → Head) : (s.updHead h f).bpos = s.bpos := rfl
@[simp] theorem State.updHead_devState (s : State) (h : Fin 64) (f : Head → Head) : (s.updHead h f).devState = s.devState := rfl
@[simp] theorem State.updHead_lifeCycle (s : State) (h : Fin 64) (f : Head → Head) : (s.updHead h f).lifeCycle = s.lifeCycle := rfl
@[simp] theorem State.updHead_serial (s : State) (h : Fin 64) (f : Head → Head) : (s.updHead h f).serial = s.serial := rfl
@[simp] theorem State.updHead_toggles (s : State) (h : Fin 64) (f : Head → Head) : (s.updHead h f).toggles = s.toggles := rfl
@[simp] theorem State.updHead_fuses (s : State) (h : Fin 64) (f : Head → Head) : (s.updHead h f).fuses = s.fuses := rfl
@[simp] theorem State.updHead_lcPending (s : State) (h : Fin 64) (f : Head → Head) : (s.updHead h f).lcPending = s.lcPending := rfl
@[simp] theorem State.updHead_cocoon (s : State) (h : Fin 64) (f : Head → Head) : (s.updHead h f).cocoon = s.cocoon := rfl
@[simp] theorem State.updHead_tamper (s : State) (h : Fin 64) (f : Head → Head) : (s.updHead h f).tamper = s.tamper := rfl
@[simp] theorem State.updHead_enc (s : State) (h : Fin 64) (f : Head → Head) : (s.updHead h f).enc = s.enc := rfl
@[simp] theorem State.updHead_lanes (s : State) (h : Fin 64) (f : Head → Head) : (s.updHead h f).lanes = s.lanes := rfl
@[simp] theorem State.updHead_due (s : State) (h : Fin 64) (f : Head → Head) : (s.updHead h f).due = s.due := rfl
@[simp] theorem State.updHead_reqs (s : State) (h : Fin 64) (f : Head → Head) : (s.updHead h f).reqs = s.reqs := rfl
@[simp] theorem State.updHead_mem (s : State) (h : Fin 64) (f : Head → Head) : (s.updHead h f).mem = s.mem := rfl
@[simp] theorem State.updHead_recorder (s : State) (h : Fin 64) (f : Head → Head) : (s.updHead h f).recorder = s.recorder := rfl
@[simp] theorem State.updHead_snap (s : State) (h : Fin 64) (f : Head → Head) : (s.updHead h f).snap = s.snap := rfl
@[simp] theorem State.updHead_domains (s : State) (h : Fin 64) (f : Head → Head) : (s.updHead h f).domains = s.domains := rfl
@[simp] theorem State.updHead_power (s : State) (h : Fin 64) (f : Head → Head) : (s.updHead h f).power = s.power := rfl

/-! `updRow` -/

@[simp] theorem State.updRow_ft (s : State) (h : Fin 64) (r : Fin 4) (f : HRow → HRow) : (s.updRow h r f).ft = s.ft := rfl
@[simp] theorem State.updRow_pending (s : State) (h : Fin 64) (r : Fin 4) (f : HRow → HRow) : (s.updRow h r f).pending = s.pending := rfl
@[simp] theorem State.updRow_origin (s : State) (h : Fin 64) (r : Fin 4) (f : HRow → HRow) : (s.updRow h r f).origin = s.origin := rfl
@[simp] theorem State.updRow_waiting (s : State) (h : Fin 64) (r : Fin 4) (f : HRow → HRow) : (s.updRow h r f).waiting = s.waiting := rfl
@[simp] theorem State.updRow_resumed (s : State) (h : Fin 64) (r : Fin 4) (f : HRow → HRow) : (s.updRow h r f).resumed = s.resumed := rfl
@[simp] theorem State.updRow_free (s : State) (h : Fin 64) (r : Fin 4) (f : HRow → HRow) : (s.updRow h r f).free = s.free := rfl
@[simp] theorem State.updRow_out (s : State) (h : Fin 64) (r : Fin 4) (f : HRow → HRow) : (s.updRow h r f).out = s.out := rfl
@[simp] theorem State.updRow_obj (s : State) (h : Fin 64) (r : Fin 4) (f : HRow → HRow) : (s.updRow h r f).obj = s.obj := rfl
@[simp] theorem State.updRow_ver (s : State) (h : Fin 64) (r : Fin 4) (f : HRow → HRow) : (s.updRow h r f).ver = s.ver := rfl
@[simp] theorem State.updRow_verAt (s : State) (h : Fin 64) (r : Fin 4) (f : HRow → HRow) : (s.updRow h r f).verAt = s.verAt := rfl
@[simp] theorem State.updRow_restartObj (s : State) (h : Fin 64) (r : Fin 4) (f : HRow → HRow) : (s.updRow h r f).restartObj = s.restartObj := rfl
@[simp] theorem State.updRow_items (s : State) (h : Fin 64) (r : Fin 4) (f : HRow → HRow) : (s.updRow h r f).items = s.items := rfl
@[simp] theorem State.updRow_gens (s : State) (h : Fin 64) (r : Fin 4) (f : HRow → HRow) : (s.updRow h r f).gens = s.gens := rfl
@[simp] theorem State.updRow_freeSlots (s : State) (h : Fin 64) (r : Fin 4) (f : HRow → HRow) : (s.updRow h r f).freeSlots = s.freeSlots := rfl
@[simp] theorem State.updRow_slotZone (s : State) (h : Fin 64) (r : Fin 4) (f : HRow → HRow) : (s.updRow h r f).slotZone = s.slotZone := rfl
@[simp] theorem State.updRow_notices (s : State) (h : Fin 64) (r : Fin 4) (f : HRow → HRow) : (s.updRow h r f).notices = s.notices := rfl
@[simp] theorem State.updRow_noticesSent (s : State) (h : Fin 64) (r : Fin 4) (f : HRow → HRow) : (s.updRow h r f).noticesSent = s.noticesSent := rfl
@[simp] theorem State.updRow_heldOut (s : State) (h : Fin 64) (r : Fin 4) (f : HRow → HRow) : (s.updRow h r f).heldOut = s.heldOut := rfl
@[simp] theorem State.updRow_lateReports (s : State) (h : Fin 64) (r : Fin 4) (f : HRow → HRow) : (s.updRow h r f).lateReports = s.lateReports := rfl
@[simp] theorem State.updRow_zones (s : State) (h : Fin 64) (r : Fin 4) (f : HRow → HRow) : (s.updRow h r f).zones = s.zones := rfl
@[simp] theorem State.updRow_templates (s : State) (h : Fin 64) (r : Fin 4) (f : HRow → HRow) : (s.updRow h r f).templates = s.templates := rfl
@[simp] theorem State.updRow_tiles (s : State) (h : Fin 64) (r : Fin 4) (f : HRow → HRow) : (s.updRow h r f).tiles = s.tiles := rfl
@[simp] theorem State.updRow_tplGen (s : State) (h : Fin 64) (r : Fin 4) (f : HRow → HRow) : (s.updRow h r f).tplGen = s.tplGen := rfl
@[simp] theorem State.updRow_tplFree (s : State) (h : Fin 64) (r : Fin 4) (f : HRow → HRow) : (s.updRow h r f).tplFree = s.tplFree := rfl
@[simp] theorem State.updRow_tplNext (s : State) (h : Fin 64) (r : Fin 4) (f : HRow → HRow) : (s.updRow h r f).tplNext = s.tplNext := rfl
@[simp] theorem State.updRow_tileGen (s : State) (h : Fin 64) (r : Fin 4) (f : HRow → HRow) : (s.updRow h r f).tileGen = s.tileGen := rfl
@[simp] theorem State.updRow_tileFree (s : State) (h : Fin 64) (r : Fin 4) (f : HRow → HRow) : (s.updRow h r f).tileFree = s.tileFree := rfl
@[simp] theorem State.updRow_tileNext (s : State) (h : Fin 64) (r : Fin 4) (f : HRow → HRow) : (s.updRow h r f).tileNext = s.tileNext := rfl
@[simp] theorem State.updRow_dram (s : State) (h : Fin 64) (r : Fin 4) (f : HRow → HRow) : (s.updRow h r f).dram = s.dram := rfl
@[simp] theorem State.updRow_stream (s : State) (h : Fin 64) (r : Fin 4) (f : HRow → HRow) : (s.updRow h r f).stream = s.stream := rfl
@[simp] theorem State.updRow_writeLoad (s : State) (h : Fin 64) (r : Fin 4) (f : HRow → HRow) : (s.updRow h r f).writeLoad = s.writeLoad := rfl
@[simp] theorem State.updRow_writeAt (s : State) (h : Fin 64) (r : Fin 4) (f : HRow → HRow) : (s.updRow h r f).writeAt = s.writeAt := rfl
@[simp] theorem State.updRow_dataErrors (s : State) (h : Fin 64) (r : Fin 4) (f : HRow → HRow) : (s.updRow h r f).dataErrors = s.dataErrors := rfl
@[simp] theorem State.updRow_streamDiscards (s : State) (h : Fin 64) (r : Fin 4) (f : HRow → HRow) : (s.updRow h r f).streamDiscards = s.streamDiscards := rfl
@[simp] theorem State.updRow_heads (s : State) (h : Fin 64) (r : Fin 4) (f : HRow → HRow) : (s.updRow h r f).heads = vupd s.heads h fun x => { x with rows := vupd x.rows r f } := rfl
@[simp] theorem State.updRow_stampNo (s : State) (h : Fin 64) (r : Fin 4) (f : HRow → HRow) : (s.updRow h r f).stampNo = s.stampNo := rfl
@[simp] theorem State.updRow_chains (s : State) (h : Fin 64) (r : Fin 4) (f : HRow → HRow) : (s.updRow h r f).chains = s.chains := rfl
@[simp] theorem State.updRow_ports (s : State) (h : Fin 64) (r : Fin 4) (f : HRow → HRow) : (s.updRow h r f).ports = s.ports := rfl
@[simp] theorem State.updRow_events (s : State) (h : Fin 64) (r : Fin 4) (f : HRow → HRow) : (s.updRow h r f).events = s.events := rfl
@[simp] theorem State.updRow_lost (s : State) (h : Fin 64) (r : Fin 4) (f : HRow → HRow) : (s.updRow h r f).lost = s.lost := rfl
@[simp] theorem State.updRow_lostRun (s : State) (h : Fin 64) (r : Fin 4) (f : HRow → HRow) : (s.updRow h r f).lostRun = s.lostRun := rfl
@[simp] theorem State.updRow_lostFirst (s : State) (h : Fin 64) (r : Fin 4) (f : HRow → HRow) : (s.updRow h r f).lostFirst = s.lostFirst := rfl
@[simp] theorem State.updRow_lostLast (s : State) (h : Fin 64) (r : Fin 4) (f : HRow → HRow) : (s.updRow h r f).lostLast = s.lostLast := rfl
@[simp] theorem State.updRow_opSeconds (s : State) (h : Fin 64) (r : Fin 4) (f : HRow → HRow) : (s.updRow h r f).opSeconds = s.opSeconds := rfl
@[simp] theorem State.updRow_powerCycles (s : State) (h : Fin 64) (r : Fin 4) (f : HRow → HRow) : (s.updRow h r f).powerCycles = s.powerCycles := rfl
@[simp] theorem State.updRow_calendar (s : State) (h : Fin 64) (r : Fin 4) (f : HRow → HRow) : (s.updRow h r f).calendar = s.calendar := rfl
@[simp] theorem State.updRow_calValid (s : State) (h : Fin 64) (r : Fin 4) (f : HRow → HRow) : (s.updRow h r f).calValid = s.calValid := rfl
@[simp] theorem State.updRow_opAt (s : State) (h : Fin 64) (r : Fin 4) (f : HRow → HRow) : (s.updRow h r f).opAt = s.opAt := rfl
@[simp] theorem State.updRow_opStored (s : State) (h : Fin 64) (r : Fin 4) (f : HRow → HRow) : (s.updRow h r f).opStored = s.opStored := rfl
@[simp] theorem State.updRow_calAt (s : State) (h : Fin 64) (r : Fin 4) (f : HRow → HRow) : (s.updRow h r f).calAt = s.calAt := rfl
@[simp] theorem State.updRow_calFreq (s : State) (h : Fin 64) (r : Fin 4) (f : HRow → HRow) : (s.updRow h r f).calFreq = s.calFreq := rfl
@[simp] theorem State.updRow_calCorr (s : State) (h : Fin 64) (r : Fin 4) (f : HRow → HRow) : (s.updRow h r f).calCorr = s.calCorr := rfl
@[simp] theorem State.updRow_calOff (s : State) (h : Fin 64) (r : Fin 4) (f : HRow → HRow) : (s.updRow h r f).calOff = s.calOff := rfl
@[simp] theorem State.updRow_calRun (s : State) (h : Fin 64) (r : Fin 4) (f : HRow → HRow) : (s.updRow h r f).calRun = s.calRun := rfl
@[simp] theorem State.updRow_cmdStat (s : State) (h : Fin 64) (r : Fin 4) (f : HRow → HRow) : (s.updRow h r f).cmdStat = s.cmdStat := rfl
@[simp] theorem State.updRow_sessions (s : State) (h : Fin 64) (r : Fin 4) (f : HRow → HRow) : (s.updRow h r f).sessions = s.sessions := rfl
@[simp] theorem State.updRow_sessFree (s : State) (h : Fin 64) (r : Fin 4) (f : HRow → HRow) : (s.updRow h r f).sessFree = s.sessFree := rfl
@[simp] theorem State.updRow_shakes (s : State) (h : Fin 64) (r : Fin 4) (f : HRow → HRow) : (s.updRow h r f).shakes = s.shakes := rfl
@[simp] theorem State.updRow_refusals (s : State) (h : Fin 64) (r : Fin 4) (f : HRow → HRow) : (s.updRow h r f).refusals = s.refusals := rfl
@[simp] theorem State.updRow_authFails (s : State) (h : Fin 64) (r : Fin 4) (f : HRow → HRow) : (s.updRow h r f).authFails = s.authFails := rfl
@[simp] theorem State.updRow_replays (s : State) (h : Fin 64) (r : Fin 4) (f : HRow → HRow) : (s.updRow h r f).replays = s.replays := rfl
@[simp] theorem State.updRow_staleSess (s : State) (h : Fin 64) (r : Fin 4) (f : HRow → HRow) : (s.updRow h r f).staleSess = s.staleSess := rfl
@[simp] theorem State.updRow_malformed (s : State) (h : Fin 64) (r : Fin 4) (f : HRow → HRow) : (s.updRow h r f).malformed = s.malformed := rfl
@[simp] theorem State.updRow_hports (s : State) (h : Fin 64) (r : Fin 4) (f : HRow → HRow) : (s.updRow h r f).hports = s.hports := rfl
@[simp] theorem State.updRow_ptp (s : State) (h : Fin 64) (r : Fin 4) (f : HRow → HRow) : (s.updRow h r f).ptp = s.ptp := rfl
@[simp] theorem State.updRow_txs (s : State) (h : Fin 64) (r : Fin 4) (f : HRow → HRow) : (s.updRow h r f).txs = s.txs := rfl
@[simp] theorem State.updRow_txClock (s : State) (h : Fin 64) (r : Fin 4) (f : HRow → HRow) : (s.updRow h r f).txClock = s.txClock := rfl
@[simp] theorem State.updRow_conflicts (s : State) (h : Fin 64) (r : Fin 4) (f : HRow → HRow) : (s.updRow h r f).conflicts = s.conflicts := rfl
@[simp] theorem State.updRow_staleTx (s : State) (h : Fin 64) (r : Fin 4) (f : HRow → HRow) : (s.updRow h r f).staleTx = s.staleTx := rfl
@[simp] theorem State.updRow_cans (s : State) (h : Fin 64) (r : Fin 4) (f : HRow → HRow) : (s.updRow h r f).cans = s.cans := rfl
@[simp] theorem State.updRow_banks (s : State) (h : Fin 64) (r : Fin 4) (f : HRow → HRow) : (s.updRow h r f).banks = s.banks := rfl
@[simp] theorem State.updRow_erases (s : State) (h : Fin 64) (r : Fin 4) (f : HRow → HRow) : (s.updRow h r f).erases = s.erases := rfl
@[simp] theorem State.updRow_activeBank (s : State) (h : Fin 64) (r : Fin 4) (f : HRow → HRow) : (s.updRow h r f).activeBank = s.activeBank := rfl
@[simp] theorem State.updRow_save (s : State) (h : Fin 64) (r : Fin 4) (f : HRow → HRow) : (s.updRow h r f).save = s.save := rfl
@[simp] theorem State.updRow_loadResult (s : State) (h : Fin 64) (r : Fin 4) (f : HRow → HRow) : (s.updRow h r f).loadResult = s.loadResult := rfl
@[simp] theorem State.updRow_skipped (s : State) (h : Fin 64) (r : Fin 4) (f : HRow → HRow) : (s.updRow h r f).skipped = s.skipped := rfl
@[simp] theorem State.updRow_engines (s : State) (h : Fin 64) (r : Fin 4) (f : HRow → HRow) : (s.updRow h r f).engines = s.engines := rfl
@[simp] theorem State.updRow_patches (s : State) (h : Fin 64) (r : Fin 4) (f : HRow → HRow) : (s.updRow h r f).patches = s.patches := rfl
@[simp] theorem State.updRow_arrays (s : State) (h : Fin 64) (r : Fin 4) (f : HRow → HRow) : (s.updRow h r f).arrays = s.arrays := rfl
@[simp] theorem State.updRow_idle (s : State) (h : Fin 64) (r : Fin 4) (f : HRow → HRow) : (s.updRow h r f).idle = s.idle := rfl
@[simp] theorem State.updRow_chans (s : State) (h : Fin 64) (r : Fin 4) (f : HRow → HRow) : (s.updRow h r f).chans = s.chans := rfl
@[simp] theorem State.updRow_marks (s : State) (h : Fin 64) (r : Fin 4) (f : HRow → HRow) : (s.updRow h r f).marks = s.marks := rfl
@[simp] theorem State.updRow_switches (s : State) (h : Fin 64) (r : Fin 4) (f : HRow → HRow) : (s.updRow h r f).switches = s.switches := rfl
@[simp] theorem State.updRow_gates (s : State) (h : Fin 64) (r : Fin 4) (f : HRow → HRow) : (s.updRow h r f).gates = s.gates := rfl
@[simp] theorem State.updRow_axes (s : State) (h : Fin 64) (r : Fin 4) (f : HRow → HRow) : (s.updRow h r f).axes = s.axes := rfl
@[simp] theorem State.updRow_groups (s : State) (h : Fin 64) (r : Fin 4) (f : HRow → HRow) : (s.updRow h r f).groups = s.groups := rfl
@[simp] theorem State.updRow_sync (s : State) (h : Fin 64) (r : Fin 4) (f : HRow → HRow) : (s.updRow h r f).sync = s.sync := rfl
@[simp] theorem State.updRow_bpos (s : State) (h : Fin 64) (r : Fin 4) (f : HRow → HRow) : (s.updRow h r f).bpos = s.bpos := rfl
@[simp] theorem State.updRow_devState (s : State) (h : Fin 64) (r : Fin 4) (f : HRow → HRow) : (s.updRow h r f).devState = s.devState := rfl
@[simp] theorem State.updRow_lifeCycle (s : State) (h : Fin 64) (r : Fin 4) (f : HRow → HRow) : (s.updRow h r f).lifeCycle = s.lifeCycle := rfl
@[simp] theorem State.updRow_serial (s : State) (h : Fin 64) (r : Fin 4) (f : HRow → HRow) : (s.updRow h r f).serial = s.serial := rfl
@[simp] theorem State.updRow_toggles (s : State) (h : Fin 64) (r : Fin 4) (f : HRow → HRow) : (s.updRow h r f).toggles = s.toggles := rfl
@[simp] theorem State.updRow_fuses (s : State) (h : Fin 64) (r : Fin 4) (f : HRow → HRow) : (s.updRow h r f).fuses = s.fuses := rfl
@[simp] theorem State.updRow_lcPending (s : State) (h : Fin 64) (r : Fin 4) (f : HRow → HRow) : (s.updRow h r f).lcPending = s.lcPending := rfl
@[simp] theorem State.updRow_cocoon (s : State) (h : Fin 64) (r : Fin 4) (f : HRow → HRow) : (s.updRow h r f).cocoon = s.cocoon := rfl
@[simp] theorem State.updRow_tamper (s : State) (h : Fin 64) (r : Fin 4) (f : HRow → HRow) : (s.updRow h r f).tamper = s.tamper := rfl
@[simp] theorem State.updRow_enc (s : State) (h : Fin 64) (r : Fin 4) (f : HRow → HRow) : (s.updRow h r f).enc = s.enc := rfl
@[simp] theorem State.updRow_lanes (s : State) (h : Fin 64) (r : Fin 4) (f : HRow → HRow) : (s.updRow h r f).lanes = s.lanes := rfl
@[simp] theorem State.updRow_due (s : State) (h : Fin 64) (r : Fin 4) (f : HRow → HRow) : (s.updRow h r f).due = s.due := rfl
@[simp] theorem State.updRow_reqs (s : State) (h : Fin 64) (r : Fin 4) (f : HRow → HRow) : (s.updRow h r f).reqs = s.reqs := rfl
@[simp] theorem State.updRow_mem (s : State) (h : Fin 64) (r : Fin 4) (f : HRow → HRow) : (s.updRow h r f).mem = s.mem := rfl
@[simp] theorem State.updRow_recorder (s : State) (h : Fin 64) (r : Fin 4) (f : HRow → HRow) : (s.updRow h r f).recorder = s.recorder := rfl
@[simp] theorem State.updRow_snap (s : State) (h : Fin 64) (r : Fin 4) (f : HRow → HRow) : (s.updRow h r f).snap = s.snap := rfl
@[simp] theorem State.updRow_domains (s : State) (h : Fin 64) (r : Fin 4) (f : HRow → HRow) : (s.updRow h r f).domains = s.domains := rfl
@[simp] theorem State.updRow_power (s : State) (h : Fin 64) (r : Fin 4) (f : HRow → HRow) : (s.updRow h r f).power = s.power := rfl

/-! `updChain` -/

@[simp] theorem State.updChain_ft (s : State) (c : Fin 16) (f : Chain → Chain) : (s.updChain c f).ft = s.ft := rfl
@[simp] theorem State.updChain_pending (s : State) (c : Fin 16) (f : Chain → Chain) : (s.updChain c f).pending = s.pending := rfl
@[simp] theorem State.updChain_origin (s : State) (c : Fin 16) (f : Chain → Chain) : (s.updChain c f).origin = s.origin := rfl
@[simp] theorem State.updChain_waiting (s : State) (c : Fin 16) (f : Chain → Chain) : (s.updChain c f).waiting = s.waiting := rfl
@[simp] theorem State.updChain_resumed (s : State) (c : Fin 16) (f : Chain → Chain) : (s.updChain c f).resumed = s.resumed := rfl
@[simp] theorem State.updChain_free (s : State) (c : Fin 16) (f : Chain → Chain) : (s.updChain c f).free = s.free := rfl
@[simp] theorem State.updChain_out (s : State) (c : Fin 16) (f : Chain → Chain) : (s.updChain c f).out = s.out := rfl
@[simp] theorem State.updChain_obj (s : State) (c : Fin 16) (f : Chain → Chain) : (s.updChain c f).obj = s.obj := rfl
@[simp] theorem State.updChain_ver (s : State) (c : Fin 16) (f : Chain → Chain) : (s.updChain c f).ver = s.ver := rfl
@[simp] theorem State.updChain_verAt (s : State) (c : Fin 16) (f : Chain → Chain) : (s.updChain c f).verAt = s.verAt := rfl
@[simp] theorem State.updChain_restartObj (s : State) (c : Fin 16) (f : Chain → Chain) : (s.updChain c f).restartObj = s.restartObj := rfl
@[simp] theorem State.updChain_items (s : State) (c : Fin 16) (f : Chain → Chain) : (s.updChain c f).items = s.items := rfl
@[simp] theorem State.updChain_gens (s : State) (c : Fin 16) (f : Chain → Chain) : (s.updChain c f).gens = s.gens := rfl
@[simp] theorem State.updChain_freeSlots (s : State) (c : Fin 16) (f : Chain → Chain) : (s.updChain c f).freeSlots = s.freeSlots := rfl
@[simp] theorem State.updChain_slotZone (s : State) (c : Fin 16) (f : Chain → Chain) : (s.updChain c f).slotZone = s.slotZone := rfl
@[simp] theorem State.updChain_notices (s : State) (c : Fin 16) (f : Chain → Chain) : (s.updChain c f).notices = s.notices := rfl
@[simp] theorem State.updChain_noticesSent (s : State) (c : Fin 16) (f : Chain → Chain) : (s.updChain c f).noticesSent = s.noticesSent := rfl
@[simp] theorem State.updChain_heldOut (s : State) (c : Fin 16) (f : Chain → Chain) : (s.updChain c f).heldOut = s.heldOut := rfl
@[simp] theorem State.updChain_lateReports (s : State) (c : Fin 16) (f : Chain → Chain) : (s.updChain c f).lateReports = s.lateReports := rfl
@[simp] theorem State.updChain_zones (s : State) (c : Fin 16) (f : Chain → Chain) : (s.updChain c f).zones = s.zones := rfl
@[simp] theorem State.updChain_templates (s : State) (c : Fin 16) (f : Chain → Chain) : (s.updChain c f).templates = s.templates := rfl
@[simp] theorem State.updChain_tiles (s : State) (c : Fin 16) (f : Chain → Chain) : (s.updChain c f).tiles = s.tiles := rfl
@[simp] theorem State.updChain_tplGen (s : State) (c : Fin 16) (f : Chain → Chain) : (s.updChain c f).tplGen = s.tplGen := rfl
@[simp] theorem State.updChain_tplFree (s : State) (c : Fin 16) (f : Chain → Chain) : (s.updChain c f).tplFree = s.tplFree := rfl
@[simp] theorem State.updChain_tplNext (s : State) (c : Fin 16) (f : Chain → Chain) : (s.updChain c f).tplNext = s.tplNext := rfl
@[simp] theorem State.updChain_tileGen (s : State) (c : Fin 16) (f : Chain → Chain) : (s.updChain c f).tileGen = s.tileGen := rfl
@[simp] theorem State.updChain_tileFree (s : State) (c : Fin 16) (f : Chain → Chain) : (s.updChain c f).tileFree = s.tileFree := rfl
@[simp] theorem State.updChain_tileNext (s : State) (c : Fin 16) (f : Chain → Chain) : (s.updChain c f).tileNext = s.tileNext := rfl
@[simp] theorem State.updChain_dram (s : State) (c : Fin 16) (f : Chain → Chain) : (s.updChain c f).dram = s.dram := rfl
@[simp] theorem State.updChain_stream (s : State) (c : Fin 16) (f : Chain → Chain) : (s.updChain c f).stream = s.stream := rfl
@[simp] theorem State.updChain_writeLoad (s : State) (c : Fin 16) (f : Chain → Chain) : (s.updChain c f).writeLoad = s.writeLoad := rfl
@[simp] theorem State.updChain_writeAt (s : State) (c : Fin 16) (f : Chain → Chain) : (s.updChain c f).writeAt = s.writeAt := rfl
@[simp] theorem State.updChain_dataErrors (s : State) (c : Fin 16) (f : Chain → Chain) : (s.updChain c f).dataErrors = s.dataErrors := rfl
@[simp] theorem State.updChain_streamDiscards (s : State) (c : Fin 16) (f : Chain → Chain) : (s.updChain c f).streamDiscards = s.streamDiscards := rfl
@[simp] theorem State.updChain_heads (s : State) (c : Fin 16) (f : Chain → Chain) : (s.updChain c f).heads = s.heads := rfl
@[simp] theorem State.updChain_stampNo (s : State) (c : Fin 16) (f : Chain → Chain) : (s.updChain c f).stampNo = s.stampNo := rfl
@[simp] theorem State.updChain_chains (s : State) (c : Fin 16) (f : Chain → Chain) : (s.updChain c f).chains = vupd s.chains c f := rfl
@[simp] theorem State.updChain_ports (s : State) (c : Fin 16) (f : Chain → Chain) : (s.updChain c f).ports = s.ports := rfl
@[simp] theorem State.updChain_events (s : State) (c : Fin 16) (f : Chain → Chain) : (s.updChain c f).events = s.events := rfl
@[simp] theorem State.updChain_lost (s : State) (c : Fin 16) (f : Chain → Chain) : (s.updChain c f).lost = s.lost := rfl
@[simp] theorem State.updChain_lostRun (s : State) (c : Fin 16) (f : Chain → Chain) : (s.updChain c f).lostRun = s.lostRun := rfl
@[simp] theorem State.updChain_lostFirst (s : State) (c : Fin 16) (f : Chain → Chain) : (s.updChain c f).lostFirst = s.lostFirst := rfl
@[simp] theorem State.updChain_lostLast (s : State) (c : Fin 16) (f : Chain → Chain) : (s.updChain c f).lostLast = s.lostLast := rfl
@[simp] theorem State.updChain_opSeconds (s : State) (c : Fin 16) (f : Chain → Chain) : (s.updChain c f).opSeconds = s.opSeconds := rfl
@[simp] theorem State.updChain_powerCycles (s : State) (c : Fin 16) (f : Chain → Chain) : (s.updChain c f).powerCycles = s.powerCycles := rfl
@[simp] theorem State.updChain_calendar (s : State) (c : Fin 16) (f : Chain → Chain) : (s.updChain c f).calendar = s.calendar := rfl
@[simp] theorem State.updChain_calValid (s : State) (c : Fin 16) (f : Chain → Chain) : (s.updChain c f).calValid = s.calValid := rfl
@[simp] theorem State.updChain_opAt (s : State) (c : Fin 16) (f : Chain → Chain) : (s.updChain c f).opAt = s.opAt := rfl
@[simp] theorem State.updChain_opStored (s : State) (c : Fin 16) (f : Chain → Chain) : (s.updChain c f).opStored = s.opStored := rfl
@[simp] theorem State.updChain_calAt (s : State) (c : Fin 16) (f : Chain → Chain) : (s.updChain c f).calAt = s.calAt := rfl
@[simp] theorem State.updChain_calFreq (s : State) (c : Fin 16) (f : Chain → Chain) : (s.updChain c f).calFreq = s.calFreq := rfl
@[simp] theorem State.updChain_calCorr (s : State) (c : Fin 16) (f : Chain → Chain) : (s.updChain c f).calCorr = s.calCorr := rfl
@[simp] theorem State.updChain_calOff (s : State) (c : Fin 16) (f : Chain → Chain) : (s.updChain c f).calOff = s.calOff := rfl
@[simp] theorem State.updChain_calRun (s : State) (c : Fin 16) (f : Chain → Chain) : (s.updChain c f).calRun = s.calRun := rfl
@[simp] theorem State.updChain_cmdStat (s : State) (c : Fin 16) (f : Chain → Chain) : (s.updChain c f).cmdStat = s.cmdStat := rfl
@[simp] theorem State.updChain_sessions (s : State) (c : Fin 16) (f : Chain → Chain) : (s.updChain c f).sessions = s.sessions := rfl
@[simp] theorem State.updChain_sessFree (s : State) (c : Fin 16) (f : Chain → Chain) : (s.updChain c f).sessFree = s.sessFree := rfl
@[simp] theorem State.updChain_shakes (s : State) (c : Fin 16) (f : Chain → Chain) : (s.updChain c f).shakes = s.shakes := rfl
@[simp] theorem State.updChain_refusals (s : State) (c : Fin 16) (f : Chain → Chain) : (s.updChain c f).refusals = s.refusals := rfl
@[simp] theorem State.updChain_authFails (s : State) (c : Fin 16) (f : Chain → Chain) : (s.updChain c f).authFails = s.authFails := rfl
@[simp] theorem State.updChain_replays (s : State) (c : Fin 16) (f : Chain → Chain) : (s.updChain c f).replays = s.replays := rfl
@[simp] theorem State.updChain_staleSess (s : State) (c : Fin 16) (f : Chain → Chain) : (s.updChain c f).staleSess = s.staleSess := rfl
@[simp] theorem State.updChain_malformed (s : State) (c : Fin 16) (f : Chain → Chain) : (s.updChain c f).malformed = s.malformed := rfl
@[simp] theorem State.updChain_hports (s : State) (c : Fin 16) (f : Chain → Chain) : (s.updChain c f).hports = s.hports := rfl
@[simp] theorem State.updChain_ptp (s : State) (c : Fin 16) (f : Chain → Chain) : (s.updChain c f).ptp = s.ptp := rfl
@[simp] theorem State.updChain_txs (s : State) (c : Fin 16) (f : Chain → Chain) : (s.updChain c f).txs = s.txs := rfl
@[simp] theorem State.updChain_txClock (s : State) (c : Fin 16) (f : Chain → Chain) : (s.updChain c f).txClock = s.txClock := rfl
@[simp] theorem State.updChain_conflicts (s : State) (c : Fin 16) (f : Chain → Chain) : (s.updChain c f).conflicts = s.conflicts := rfl
@[simp] theorem State.updChain_staleTx (s : State) (c : Fin 16) (f : Chain → Chain) : (s.updChain c f).staleTx = s.staleTx := rfl
@[simp] theorem State.updChain_cans (s : State) (c : Fin 16) (f : Chain → Chain) : (s.updChain c f).cans = s.cans := rfl
@[simp] theorem State.updChain_banks (s : State) (c : Fin 16) (f : Chain → Chain) : (s.updChain c f).banks = s.banks := rfl
@[simp] theorem State.updChain_erases (s : State) (c : Fin 16) (f : Chain → Chain) : (s.updChain c f).erases = s.erases := rfl
@[simp] theorem State.updChain_activeBank (s : State) (c : Fin 16) (f : Chain → Chain) : (s.updChain c f).activeBank = s.activeBank := rfl
@[simp] theorem State.updChain_save (s : State) (c : Fin 16) (f : Chain → Chain) : (s.updChain c f).save = s.save := rfl
@[simp] theorem State.updChain_loadResult (s : State) (c : Fin 16) (f : Chain → Chain) : (s.updChain c f).loadResult = s.loadResult := rfl
@[simp] theorem State.updChain_skipped (s : State) (c : Fin 16) (f : Chain → Chain) : (s.updChain c f).skipped = s.skipped := rfl
@[simp] theorem State.updChain_engines (s : State) (c : Fin 16) (f : Chain → Chain) : (s.updChain c f).engines = s.engines := rfl
@[simp] theorem State.updChain_patches (s : State) (c : Fin 16) (f : Chain → Chain) : (s.updChain c f).patches = s.patches := rfl
@[simp] theorem State.updChain_arrays (s : State) (c : Fin 16) (f : Chain → Chain) : (s.updChain c f).arrays = s.arrays := rfl
@[simp] theorem State.updChain_idle (s : State) (c : Fin 16) (f : Chain → Chain) : (s.updChain c f).idle = s.idle := rfl
@[simp] theorem State.updChain_chans (s : State) (c : Fin 16) (f : Chain → Chain) : (s.updChain c f).chans = s.chans := rfl
@[simp] theorem State.updChain_marks (s : State) (c : Fin 16) (f : Chain → Chain) : (s.updChain c f).marks = s.marks := rfl
@[simp] theorem State.updChain_switches (s : State) (c : Fin 16) (f : Chain → Chain) : (s.updChain c f).switches = s.switches := rfl
@[simp] theorem State.updChain_gates (s : State) (c : Fin 16) (f : Chain → Chain) : (s.updChain c f).gates = s.gates := rfl
@[simp] theorem State.updChain_axes (s : State) (c : Fin 16) (f : Chain → Chain) : (s.updChain c f).axes = s.axes := rfl
@[simp] theorem State.updChain_groups (s : State) (c : Fin 16) (f : Chain → Chain) : (s.updChain c f).groups = s.groups := rfl
@[simp] theorem State.updChain_sync (s : State) (c : Fin 16) (f : Chain → Chain) : (s.updChain c f).sync = s.sync := rfl
@[simp] theorem State.updChain_bpos (s : State) (c : Fin 16) (f : Chain → Chain) : (s.updChain c f).bpos = s.bpos := rfl
@[simp] theorem State.updChain_devState (s : State) (c : Fin 16) (f : Chain → Chain) : (s.updChain c f).devState = s.devState := rfl
@[simp] theorem State.updChain_lifeCycle (s : State) (c : Fin 16) (f : Chain → Chain) : (s.updChain c f).lifeCycle = s.lifeCycle := rfl
@[simp] theorem State.updChain_serial (s : State) (c : Fin 16) (f : Chain → Chain) : (s.updChain c f).serial = s.serial := rfl
@[simp] theorem State.updChain_toggles (s : State) (c : Fin 16) (f : Chain → Chain) : (s.updChain c f).toggles = s.toggles := rfl
@[simp] theorem State.updChain_fuses (s : State) (c : Fin 16) (f : Chain → Chain) : (s.updChain c f).fuses = s.fuses := rfl
@[simp] theorem State.updChain_lcPending (s : State) (c : Fin 16) (f : Chain → Chain) : (s.updChain c f).lcPending = s.lcPending := rfl
@[simp] theorem State.updChain_cocoon (s : State) (c : Fin 16) (f : Chain → Chain) : (s.updChain c f).cocoon = s.cocoon := rfl
@[simp] theorem State.updChain_tamper (s : State) (c : Fin 16) (f : Chain → Chain) : (s.updChain c f).tamper = s.tamper := rfl
@[simp] theorem State.updChain_enc (s : State) (c : Fin 16) (f : Chain → Chain) : (s.updChain c f).enc = s.enc := rfl
@[simp] theorem State.updChain_lanes (s : State) (c : Fin 16) (f : Chain → Chain) : (s.updChain c f).lanes = s.lanes := rfl
@[simp] theorem State.updChain_due (s : State) (c : Fin 16) (f : Chain → Chain) : (s.updChain c f).due = s.due := rfl
@[simp] theorem State.updChain_reqs (s : State) (c : Fin 16) (f : Chain → Chain) : (s.updChain c f).reqs = s.reqs := rfl
@[simp] theorem State.updChain_mem (s : State) (c : Fin 16) (f : Chain → Chain) : (s.updChain c f).mem = s.mem := rfl
@[simp] theorem State.updChain_recorder (s : State) (c : Fin 16) (f : Chain → Chain) : (s.updChain c f).recorder = s.recorder := rfl
@[simp] theorem State.updChain_snap (s : State) (c : Fin 16) (f : Chain → Chain) : (s.updChain c f).snap = s.snap := rfl
@[simp] theorem State.updChain_domains (s : State) (c : Fin 16) (f : Chain → Chain) : (s.updChain c f).domains = s.domains := rfl
@[simp] theorem State.updChain_power (s : State) (c : Fin 16) (f : Chain → Chain) : (s.updChain c f).power = s.power := rfl

/-! `updPort` -/

@[simp] theorem State.updPort_ft (s : State) (l : Fin 16) (f : Port → Port) : (s.updPort l f).ft = s.ft := rfl
@[simp] theorem State.updPort_pending (s : State) (l : Fin 16) (f : Port → Port) : (s.updPort l f).pending = s.pending := rfl
@[simp] theorem State.updPort_origin (s : State) (l : Fin 16) (f : Port → Port) : (s.updPort l f).origin = s.origin := rfl
@[simp] theorem State.updPort_waiting (s : State) (l : Fin 16) (f : Port → Port) : (s.updPort l f).waiting = s.waiting := rfl
@[simp] theorem State.updPort_resumed (s : State) (l : Fin 16) (f : Port → Port) : (s.updPort l f).resumed = s.resumed := rfl
@[simp] theorem State.updPort_free (s : State) (l : Fin 16) (f : Port → Port) : (s.updPort l f).free = s.free := rfl
@[simp] theorem State.updPort_out (s : State) (l : Fin 16) (f : Port → Port) : (s.updPort l f).out = s.out := rfl
@[simp] theorem State.updPort_obj (s : State) (l : Fin 16) (f : Port → Port) : (s.updPort l f).obj = s.obj := rfl
@[simp] theorem State.updPort_ver (s : State) (l : Fin 16) (f : Port → Port) : (s.updPort l f).ver = s.ver := rfl
@[simp] theorem State.updPort_verAt (s : State) (l : Fin 16) (f : Port → Port) : (s.updPort l f).verAt = s.verAt := rfl
@[simp] theorem State.updPort_restartObj (s : State) (l : Fin 16) (f : Port → Port) : (s.updPort l f).restartObj = s.restartObj := rfl
@[simp] theorem State.updPort_items (s : State) (l : Fin 16) (f : Port → Port) : (s.updPort l f).items = s.items := rfl
@[simp] theorem State.updPort_gens (s : State) (l : Fin 16) (f : Port → Port) : (s.updPort l f).gens = s.gens := rfl
@[simp] theorem State.updPort_freeSlots (s : State) (l : Fin 16) (f : Port → Port) : (s.updPort l f).freeSlots = s.freeSlots := rfl
@[simp] theorem State.updPort_slotZone (s : State) (l : Fin 16) (f : Port → Port) : (s.updPort l f).slotZone = s.slotZone := rfl
@[simp] theorem State.updPort_notices (s : State) (l : Fin 16) (f : Port → Port) : (s.updPort l f).notices = s.notices := rfl
@[simp] theorem State.updPort_noticesSent (s : State) (l : Fin 16) (f : Port → Port) : (s.updPort l f).noticesSent = s.noticesSent := rfl
@[simp] theorem State.updPort_heldOut (s : State) (l : Fin 16) (f : Port → Port) : (s.updPort l f).heldOut = s.heldOut := rfl
@[simp] theorem State.updPort_lateReports (s : State) (l : Fin 16) (f : Port → Port) : (s.updPort l f).lateReports = s.lateReports := rfl
@[simp] theorem State.updPort_zones (s : State) (l : Fin 16) (f : Port → Port) : (s.updPort l f).zones = s.zones := rfl
@[simp] theorem State.updPort_templates (s : State) (l : Fin 16) (f : Port → Port) : (s.updPort l f).templates = s.templates := rfl
@[simp] theorem State.updPort_tiles (s : State) (l : Fin 16) (f : Port → Port) : (s.updPort l f).tiles = s.tiles := rfl
@[simp] theorem State.updPort_tplGen (s : State) (l : Fin 16) (f : Port → Port) : (s.updPort l f).tplGen = s.tplGen := rfl
@[simp] theorem State.updPort_tplFree (s : State) (l : Fin 16) (f : Port → Port) : (s.updPort l f).tplFree = s.tplFree := rfl
@[simp] theorem State.updPort_tplNext (s : State) (l : Fin 16) (f : Port → Port) : (s.updPort l f).tplNext = s.tplNext := rfl
@[simp] theorem State.updPort_tileGen (s : State) (l : Fin 16) (f : Port → Port) : (s.updPort l f).tileGen = s.tileGen := rfl
@[simp] theorem State.updPort_tileFree (s : State) (l : Fin 16) (f : Port → Port) : (s.updPort l f).tileFree = s.tileFree := rfl
@[simp] theorem State.updPort_tileNext (s : State) (l : Fin 16) (f : Port → Port) : (s.updPort l f).tileNext = s.tileNext := rfl
@[simp] theorem State.updPort_dram (s : State) (l : Fin 16) (f : Port → Port) : (s.updPort l f).dram = s.dram := rfl
@[simp] theorem State.updPort_stream (s : State) (l : Fin 16) (f : Port → Port) : (s.updPort l f).stream = s.stream := rfl
@[simp] theorem State.updPort_writeLoad (s : State) (l : Fin 16) (f : Port → Port) : (s.updPort l f).writeLoad = s.writeLoad := rfl
@[simp] theorem State.updPort_writeAt (s : State) (l : Fin 16) (f : Port → Port) : (s.updPort l f).writeAt = s.writeAt := rfl
@[simp] theorem State.updPort_dataErrors (s : State) (l : Fin 16) (f : Port → Port) : (s.updPort l f).dataErrors = s.dataErrors := rfl
@[simp] theorem State.updPort_streamDiscards (s : State) (l : Fin 16) (f : Port → Port) : (s.updPort l f).streamDiscards = s.streamDiscards := rfl
@[simp] theorem State.updPort_heads (s : State) (l : Fin 16) (f : Port → Port) : (s.updPort l f).heads = s.heads := rfl
@[simp] theorem State.updPort_stampNo (s : State) (l : Fin 16) (f : Port → Port) : (s.updPort l f).stampNo = s.stampNo := rfl
@[simp] theorem State.updPort_chains (s : State) (l : Fin 16) (f : Port → Port) : (s.updPort l f).chains = s.chains := rfl
@[simp] theorem State.updPort_ports (s : State) (l : Fin 16) (f : Port → Port) : (s.updPort l f).ports = vupd s.ports l f := rfl
@[simp] theorem State.updPort_events (s : State) (l : Fin 16) (f : Port → Port) : (s.updPort l f).events = s.events := rfl
@[simp] theorem State.updPort_lost (s : State) (l : Fin 16) (f : Port → Port) : (s.updPort l f).lost = s.lost := rfl
@[simp] theorem State.updPort_lostRun (s : State) (l : Fin 16) (f : Port → Port) : (s.updPort l f).lostRun = s.lostRun := rfl
@[simp] theorem State.updPort_lostFirst (s : State) (l : Fin 16) (f : Port → Port) : (s.updPort l f).lostFirst = s.lostFirst := rfl
@[simp] theorem State.updPort_lostLast (s : State) (l : Fin 16) (f : Port → Port) : (s.updPort l f).lostLast = s.lostLast := rfl
@[simp] theorem State.updPort_opSeconds (s : State) (l : Fin 16) (f : Port → Port) : (s.updPort l f).opSeconds = s.opSeconds := rfl
@[simp] theorem State.updPort_powerCycles (s : State) (l : Fin 16) (f : Port → Port) : (s.updPort l f).powerCycles = s.powerCycles := rfl
@[simp] theorem State.updPort_calendar (s : State) (l : Fin 16) (f : Port → Port) : (s.updPort l f).calendar = s.calendar := rfl
@[simp] theorem State.updPort_calValid (s : State) (l : Fin 16) (f : Port → Port) : (s.updPort l f).calValid = s.calValid := rfl
@[simp] theorem State.updPort_opAt (s : State) (l : Fin 16) (f : Port → Port) : (s.updPort l f).opAt = s.opAt := rfl
@[simp] theorem State.updPort_opStored (s : State) (l : Fin 16) (f : Port → Port) : (s.updPort l f).opStored = s.opStored := rfl
@[simp] theorem State.updPort_calAt (s : State) (l : Fin 16) (f : Port → Port) : (s.updPort l f).calAt = s.calAt := rfl
@[simp] theorem State.updPort_calFreq (s : State) (l : Fin 16) (f : Port → Port) : (s.updPort l f).calFreq = s.calFreq := rfl
@[simp] theorem State.updPort_calCorr (s : State) (l : Fin 16) (f : Port → Port) : (s.updPort l f).calCorr = s.calCorr := rfl
@[simp] theorem State.updPort_calOff (s : State) (l : Fin 16) (f : Port → Port) : (s.updPort l f).calOff = s.calOff := rfl
@[simp] theorem State.updPort_calRun (s : State) (l : Fin 16) (f : Port → Port) : (s.updPort l f).calRun = s.calRun := rfl
@[simp] theorem State.updPort_cmdStat (s : State) (l : Fin 16) (f : Port → Port) : (s.updPort l f).cmdStat = s.cmdStat := rfl
@[simp] theorem State.updPort_sessions (s : State) (l : Fin 16) (f : Port → Port) : (s.updPort l f).sessions = s.sessions := rfl
@[simp] theorem State.updPort_sessFree (s : State) (l : Fin 16) (f : Port → Port) : (s.updPort l f).sessFree = s.sessFree := rfl
@[simp] theorem State.updPort_shakes (s : State) (l : Fin 16) (f : Port → Port) : (s.updPort l f).shakes = s.shakes := rfl
@[simp] theorem State.updPort_refusals (s : State) (l : Fin 16) (f : Port → Port) : (s.updPort l f).refusals = s.refusals := rfl
@[simp] theorem State.updPort_authFails (s : State) (l : Fin 16) (f : Port → Port) : (s.updPort l f).authFails = s.authFails := rfl
@[simp] theorem State.updPort_replays (s : State) (l : Fin 16) (f : Port → Port) : (s.updPort l f).replays = s.replays := rfl
@[simp] theorem State.updPort_staleSess (s : State) (l : Fin 16) (f : Port → Port) : (s.updPort l f).staleSess = s.staleSess := rfl
@[simp] theorem State.updPort_malformed (s : State) (l : Fin 16) (f : Port → Port) : (s.updPort l f).malformed = s.malformed := rfl
@[simp] theorem State.updPort_hports (s : State) (l : Fin 16) (f : Port → Port) : (s.updPort l f).hports = s.hports := rfl
@[simp] theorem State.updPort_ptp (s : State) (l : Fin 16) (f : Port → Port) : (s.updPort l f).ptp = s.ptp := rfl
@[simp] theorem State.updPort_txs (s : State) (l : Fin 16) (f : Port → Port) : (s.updPort l f).txs = s.txs := rfl
@[simp] theorem State.updPort_txClock (s : State) (l : Fin 16) (f : Port → Port) : (s.updPort l f).txClock = s.txClock := rfl
@[simp] theorem State.updPort_conflicts (s : State) (l : Fin 16) (f : Port → Port) : (s.updPort l f).conflicts = s.conflicts := rfl
@[simp] theorem State.updPort_staleTx (s : State) (l : Fin 16) (f : Port → Port) : (s.updPort l f).staleTx = s.staleTx := rfl
@[simp] theorem State.updPort_cans (s : State) (l : Fin 16) (f : Port → Port) : (s.updPort l f).cans = s.cans := rfl
@[simp] theorem State.updPort_banks (s : State) (l : Fin 16) (f : Port → Port) : (s.updPort l f).banks = s.banks := rfl
@[simp] theorem State.updPort_erases (s : State) (l : Fin 16) (f : Port → Port) : (s.updPort l f).erases = s.erases := rfl
@[simp] theorem State.updPort_activeBank (s : State) (l : Fin 16) (f : Port → Port) : (s.updPort l f).activeBank = s.activeBank := rfl
@[simp] theorem State.updPort_save (s : State) (l : Fin 16) (f : Port → Port) : (s.updPort l f).save = s.save := rfl
@[simp] theorem State.updPort_loadResult (s : State) (l : Fin 16) (f : Port → Port) : (s.updPort l f).loadResult = s.loadResult := rfl
@[simp] theorem State.updPort_skipped (s : State) (l : Fin 16) (f : Port → Port) : (s.updPort l f).skipped = s.skipped := rfl
@[simp] theorem State.updPort_engines (s : State) (l : Fin 16) (f : Port → Port) : (s.updPort l f).engines = s.engines := rfl
@[simp] theorem State.updPort_patches (s : State) (l : Fin 16) (f : Port → Port) : (s.updPort l f).patches = s.patches := rfl
@[simp] theorem State.updPort_arrays (s : State) (l : Fin 16) (f : Port → Port) : (s.updPort l f).arrays = s.arrays := rfl
@[simp] theorem State.updPort_idle (s : State) (l : Fin 16) (f : Port → Port) : (s.updPort l f).idle = s.idle := rfl
@[simp] theorem State.updPort_chans (s : State) (l : Fin 16) (f : Port → Port) : (s.updPort l f).chans = s.chans := rfl
@[simp] theorem State.updPort_marks (s : State) (l : Fin 16) (f : Port → Port) : (s.updPort l f).marks = s.marks := rfl
@[simp] theorem State.updPort_switches (s : State) (l : Fin 16) (f : Port → Port) : (s.updPort l f).switches = s.switches := rfl
@[simp] theorem State.updPort_gates (s : State) (l : Fin 16) (f : Port → Port) : (s.updPort l f).gates = s.gates := rfl
@[simp] theorem State.updPort_axes (s : State) (l : Fin 16) (f : Port → Port) : (s.updPort l f).axes = s.axes := rfl
@[simp] theorem State.updPort_groups (s : State) (l : Fin 16) (f : Port → Port) : (s.updPort l f).groups = s.groups := rfl
@[simp] theorem State.updPort_sync (s : State) (l : Fin 16) (f : Port → Port) : (s.updPort l f).sync = s.sync := rfl
@[simp] theorem State.updPort_bpos (s : State) (l : Fin 16) (f : Port → Port) : (s.updPort l f).bpos = s.bpos := rfl
@[simp] theorem State.updPort_devState (s : State) (l : Fin 16) (f : Port → Port) : (s.updPort l f).devState = s.devState := rfl
@[simp] theorem State.updPort_lifeCycle (s : State) (l : Fin 16) (f : Port → Port) : (s.updPort l f).lifeCycle = s.lifeCycle := rfl
@[simp] theorem State.updPort_serial (s : State) (l : Fin 16) (f : Port → Port) : (s.updPort l f).serial = s.serial := rfl
@[simp] theorem State.updPort_toggles (s : State) (l : Fin 16) (f : Port → Port) : (s.updPort l f).toggles = s.toggles := rfl
@[simp] theorem State.updPort_fuses (s : State) (l : Fin 16) (f : Port → Port) : (s.updPort l f).fuses = s.fuses := rfl
@[simp] theorem State.updPort_lcPending (s : State) (l : Fin 16) (f : Port → Port) : (s.updPort l f).lcPending = s.lcPending := rfl
@[simp] theorem State.updPort_cocoon (s : State) (l : Fin 16) (f : Port → Port) : (s.updPort l f).cocoon = s.cocoon := rfl
@[simp] theorem State.updPort_tamper (s : State) (l : Fin 16) (f : Port → Port) : (s.updPort l f).tamper = s.tamper := rfl
@[simp] theorem State.updPort_enc (s : State) (l : Fin 16) (f : Port → Port) : (s.updPort l f).enc = s.enc := rfl
@[simp] theorem State.updPort_lanes (s : State) (l : Fin 16) (f : Port → Port) : (s.updPort l f).lanes = s.lanes := rfl
@[simp] theorem State.updPort_due (s : State) (l : Fin 16) (f : Port → Port) : (s.updPort l f).due = s.due := rfl
@[simp] theorem State.updPort_reqs (s : State) (l : Fin 16) (f : Port → Port) : (s.updPort l f).reqs = s.reqs := rfl
@[simp] theorem State.updPort_mem (s : State) (l : Fin 16) (f : Port → Port) : (s.updPort l f).mem = s.mem := rfl
@[simp] theorem State.updPort_recorder (s : State) (l : Fin 16) (f : Port → Port) : (s.updPort l f).recorder = s.recorder := rfl
@[simp] theorem State.updPort_snap (s : State) (l : Fin 16) (f : Port → Port) : (s.updPort l f).snap = s.snap := rfl
@[simp] theorem State.updPort_domains (s : State) (l : Fin 16) (f : Port → Port) : (s.updPort l f).domains = s.domains := rfl
@[simp] theorem State.updPort_power (s : State) (l : Fin 16) (f : Port → Port) : (s.updPort l f).power = s.power := rfl

/-! `updNode` -/

@[simp] theorem State.updNode_ft (s : State) (l : Fin 16) (a : Fin 9) (f : Node → Node) : (s.updNode l a f).ft = s.ft := rfl
@[simp] theorem State.updNode_pending (s : State) (l : Fin 16) (a : Fin 9) (f : Node → Node) : (s.updNode l a f).pending = s.pending := rfl
@[simp] theorem State.updNode_origin (s : State) (l : Fin 16) (a : Fin 9) (f : Node → Node) : (s.updNode l a f).origin = s.origin := rfl
@[simp] theorem State.updNode_waiting (s : State) (l : Fin 16) (a : Fin 9) (f : Node → Node) : (s.updNode l a f).waiting = s.waiting := rfl
@[simp] theorem State.updNode_resumed (s : State) (l : Fin 16) (a : Fin 9) (f : Node → Node) : (s.updNode l a f).resumed = s.resumed := rfl
@[simp] theorem State.updNode_free (s : State) (l : Fin 16) (a : Fin 9) (f : Node → Node) : (s.updNode l a f).free = s.free := rfl
@[simp] theorem State.updNode_out (s : State) (l : Fin 16) (a : Fin 9) (f : Node → Node) : (s.updNode l a f).out = s.out := rfl
@[simp] theorem State.updNode_obj (s : State) (l : Fin 16) (a : Fin 9) (f : Node → Node) : (s.updNode l a f).obj = s.obj := rfl
@[simp] theorem State.updNode_ver (s : State) (l : Fin 16) (a : Fin 9) (f : Node → Node) : (s.updNode l a f).ver = s.ver := rfl
@[simp] theorem State.updNode_verAt (s : State) (l : Fin 16) (a : Fin 9) (f : Node → Node) : (s.updNode l a f).verAt = s.verAt := rfl
@[simp] theorem State.updNode_restartObj (s : State) (l : Fin 16) (a : Fin 9) (f : Node → Node) : (s.updNode l a f).restartObj = s.restartObj := rfl
@[simp] theorem State.updNode_items (s : State) (l : Fin 16) (a : Fin 9) (f : Node → Node) : (s.updNode l a f).items = s.items := rfl
@[simp] theorem State.updNode_gens (s : State) (l : Fin 16) (a : Fin 9) (f : Node → Node) : (s.updNode l a f).gens = s.gens := rfl
@[simp] theorem State.updNode_freeSlots (s : State) (l : Fin 16) (a : Fin 9) (f : Node → Node) : (s.updNode l a f).freeSlots = s.freeSlots := rfl
@[simp] theorem State.updNode_slotZone (s : State) (l : Fin 16) (a : Fin 9) (f : Node → Node) : (s.updNode l a f).slotZone = s.slotZone := rfl
@[simp] theorem State.updNode_notices (s : State) (l : Fin 16) (a : Fin 9) (f : Node → Node) : (s.updNode l a f).notices = s.notices := rfl
@[simp] theorem State.updNode_noticesSent (s : State) (l : Fin 16) (a : Fin 9) (f : Node → Node) : (s.updNode l a f).noticesSent = s.noticesSent := rfl
@[simp] theorem State.updNode_heldOut (s : State) (l : Fin 16) (a : Fin 9) (f : Node → Node) : (s.updNode l a f).heldOut = s.heldOut := rfl
@[simp] theorem State.updNode_lateReports (s : State) (l : Fin 16) (a : Fin 9) (f : Node → Node) : (s.updNode l a f).lateReports = s.lateReports := rfl
@[simp] theorem State.updNode_zones (s : State) (l : Fin 16) (a : Fin 9) (f : Node → Node) : (s.updNode l a f).zones = s.zones := rfl
@[simp] theorem State.updNode_templates (s : State) (l : Fin 16) (a : Fin 9) (f : Node → Node) : (s.updNode l a f).templates = s.templates := rfl
@[simp] theorem State.updNode_tiles (s : State) (l : Fin 16) (a : Fin 9) (f : Node → Node) : (s.updNode l a f).tiles = s.tiles := rfl
@[simp] theorem State.updNode_tplGen (s : State) (l : Fin 16) (a : Fin 9) (f : Node → Node) : (s.updNode l a f).tplGen = s.tplGen := rfl
@[simp] theorem State.updNode_tplFree (s : State) (l : Fin 16) (a : Fin 9) (f : Node → Node) : (s.updNode l a f).tplFree = s.tplFree := rfl
@[simp] theorem State.updNode_tplNext (s : State) (l : Fin 16) (a : Fin 9) (f : Node → Node) : (s.updNode l a f).tplNext = s.tplNext := rfl
@[simp] theorem State.updNode_tileGen (s : State) (l : Fin 16) (a : Fin 9) (f : Node → Node) : (s.updNode l a f).tileGen = s.tileGen := rfl
@[simp] theorem State.updNode_tileFree (s : State) (l : Fin 16) (a : Fin 9) (f : Node → Node) : (s.updNode l a f).tileFree = s.tileFree := rfl
@[simp] theorem State.updNode_tileNext (s : State) (l : Fin 16) (a : Fin 9) (f : Node → Node) : (s.updNode l a f).tileNext = s.tileNext := rfl
@[simp] theorem State.updNode_dram (s : State) (l : Fin 16) (a : Fin 9) (f : Node → Node) : (s.updNode l a f).dram = s.dram := rfl
@[simp] theorem State.updNode_stream (s : State) (l : Fin 16) (a : Fin 9) (f : Node → Node) : (s.updNode l a f).stream = s.stream := rfl
@[simp] theorem State.updNode_writeLoad (s : State) (l : Fin 16) (a : Fin 9) (f : Node → Node) : (s.updNode l a f).writeLoad = s.writeLoad := rfl
@[simp] theorem State.updNode_writeAt (s : State) (l : Fin 16) (a : Fin 9) (f : Node → Node) : (s.updNode l a f).writeAt = s.writeAt := rfl
@[simp] theorem State.updNode_dataErrors (s : State) (l : Fin 16) (a : Fin 9) (f : Node → Node) : (s.updNode l a f).dataErrors = s.dataErrors := rfl
@[simp] theorem State.updNode_streamDiscards (s : State) (l : Fin 16) (a : Fin 9) (f : Node → Node) : (s.updNode l a f).streamDiscards = s.streamDiscards := rfl
@[simp] theorem State.updNode_heads (s : State) (l : Fin 16) (a : Fin 9) (f : Node → Node) : (s.updNode l a f).heads = s.heads := rfl
@[simp] theorem State.updNode_stampNo (s : State) (l : Fin 16) (a : Fin 9) (f : Node → Node) : (s.updNode l a f).stampNo = s.stampNo := rfl
@[simp] theorem State.updNode_chains (s : State) (l : Fin 16) (a : Fin 9) (f : Node → Node) : (s.updNode l a f).chains = s.chains := rfl
@[simp] theorem State.updNode_ports (s : State) (l : Fin 16) (a : Fin 9) (f : Node → Node) : (s.updNode l a f).ports = vupd s.ports l fun p => { p with nodes := vupd p.nodes a f } := rfl
@[simp] theorem State.updNode_events (s : State) (l : Fin 16) (a : Fin 9) (f : Node → Node) : (s.updNode l a f).events = s.events := rfl
@[simp] theorem State.updNode_lost (s : State) (l : Fin 16) (a : Fin 9) (f : Node → Node) : (s.updNode l a f).lost = s.lost := rfl
@[simp] theorem State.updNode_lostRun (s : State) (l : Fin 16) (a : Fin 9) (f : Node → Node) : (s.updNode l a f).lostRun = s.lostRun := rfl
@[simp] theorem State.updNode_lostFirst (s : State) (l : Fin 16) (a : Fin 9) (f : Node → Node) : (s.updNode l a f).lostFirst = s.lostFirst := rfl
@[simp] theorem State.updNode_lostLast (s : State) (l : Fin 16) (a : Fin 9) (f : Node → Node) : (s.updNode l a f).lostLast = s.lostLast := rfl
@[simp] theorem State.updNode_opSeconds (s : State) (l : Fin 16) (a : Fin 9) (f : Node → Node) : (s.updNode l a f).opSeconds = s.opSeconds := rfl
@[simp] theorem State.updNode_powerCycles (s : State) (l : Fin 16) (a : Fin 9) (f : Node → Node) : (s.updNode l a f).powerCycles = s.powerCycles := rfl
@[simp] theorem State.updNode_calendar (s : State) (l : Fin 16) (a : Fin 9) (f : Node → Node) : (s.updNode l a f).calendar = s.calendar := rfl
@[simp] theorem State.updNode_calValid (s : State) (l : Fin 16) (a : Fin 9) (f : Node → Node) : (s.updNode l a f).calValid = s.calValid := rfl
@[simp] theorem State.updNode_opAt (s : State) (l : Fin 16) (a : Fin 9) (f : Node → Node) : (s.updNode l a f).opAt = s.opAt := rfl
@[simp] theorem State.updNode_opStored (s : State) (l : Fin 16) (a : Fin 9) (f : Node → Node) : (s.updNode l a f).opStored = s.opStored := rfl
@[simp] theorem State.updNode_calAt (s : State) (l : Fin 16) (a : Fin 9) (f : Node → Node) : (s.updNode l a f).calAt = s.calAt := rfl
@[simp] theorem State.updNode_calFreq (s : State) (l : Fin 16) (a : Fin 9) (f : Node → Node) : (s.updNode l a f).calFreq = s.calFreq := rfl
@[simp] theorem State.updNode_calCorr (s : State) (l : Fin 16) (a : Fin 9) (f : Node → Node) : (s.updNode l a f).calCorr = s.calCorr := rfl
@[simp] theorem State.updNode_calOff (s : State) (l : Fin 16) (a : Fin 9) (f : Node → Node) : (s.updNode l a f).calOff = s.calOff := rfl
@[simp] theorem State.updNode_calRun (s : State) (l : Fin 16) (a : Fin 9) (f : Node → Node) : (s.updNode l a f).calRun = s.calRun := rfl
@[simp] theorem State.updNode_cmdStat (s : State) (l : Fin 16) (a : Fin 9) (f : Node → Node) : (s.updNode l a f).cmdStat = s.cmdStat := rfl
@[simp] theorem State.updNode_sessions (s : State) (l : Fin 16) (a : Fin 9) (f : Node → Node) : (s.updNode l a f).sessions = s.sessions := rfl
@[simp] theorem State.updNode_sessFree (s : State) (l : Fin 16) (a : Fin 9) (f : Node → Node) : (s.updNode l a f).sessFree = s.sessFree := rfl
@[simp] theorem State.updNode_shakes (s : State) (l : Fin 16) (a : Fin 9) (f : Node → Node) : (s.updNode l a f).shakes = s.shakes := rfl
@[simp] theorem State.updNode_refusals (s : State) (l : Fin 16) (a : Fin 9) (f : Node → Node) : (s.updNode l a f).refusals = s.refusals := rfl
@[simp] theorem State.updNode_authFails (s : State) (l : Fin 16) (a : Fin 9) (f : Node → Node) : (s.updNode l a f).authFails = s.authFails := rfl
@[simp] theorem State.updNode_replays (s : State) (l : Fin 16) (a : Fin 9) (f : Node → Node) : (s.updNode l a f).replays = s.replays := rfl
@[simp] theorem State.updNode_staleSess (s : State) (l : Fin 16) (a : Fin 9) (f : Node → Node) : (s.updNode l a f).staleSess = s.staleSess := rfl
@[simp] theorem State.updNode_malformed (s : State) (l : Fin 16) (a : Fin 9) (f : Node → Node) : (s.updNode l a f).malformed = s.malformed := rfl
@[simp] theorem State.updNode_hports (s : State) (l : Fin 16) (a : Fin 9) (f : Node → Node) : (s.updNode l a f).hports = s.hports := rfl
@[simp] theorem State.updNode_ptp (s : State) (l : Fin 16) (a : Fin 9) (f : Node → Node) : (s.updNode l a f).ptp = s.ptp := rfl
@[simp] theorem State.updNode_txs (s : State) (l : Fin 16) (a : Fin 9) (f : Node → Node) : (s.updNode l a f).txs = s.txs := rfl
@[simp] theorem State.updNode_txClock (s : State) (l : Fin 16) (a : Fin 9) (f : Node → Node) : (s.updNode l a f).txClock = s.txClock := rfl
@[simp] theorem State.updNode_conflicts (s : State) (l : Fin 16) (a : Fin 9) (f : Node → Node) : (s.updNode l a f).conflicts = s.conflicts := rfl
@[simp] theorem State.updNode_staleTx (s : State) (l : Fin 16) (a : Fin 9) (f : Node → Node) : (s.updNode l a f).staleTx = s.staleTx := rfl
@[simp] theorem State.updNode_cans (s : State) (l : Fin 16) (a : Fin 9) (f : Node → Node) : (s.updNode l a f).cans = s.cans := rfl
@[simp] theorem State.updNode_banks (s : State) (l : Fin 16) (a : Fin 9) (f : Node → Node) : (s.updNode l a f).banks = s.banks := rfl
@[simp] theorem State.updNode_erases (s : State) (l : Fin 16) (a : Fin 9) (f : Node → Node) : (s.updNode l a f).erases = s.erases := rfl
@[simp] theorem State.updNode_activeBank (s : State) (l : Fin 16) (a : Fin 9) (f : Node → Node) : (s.updNode l a f).activeBank = s.activeBank := rfl
@[simp] theorem State.updNode_save (s : State) (l : Fin 16) (a : Fin 9) (f : Node → Node) : (s.updNode l a f).save = s.save := rfl
@[simp] theorem State.updNode_loadResult (s : State) (l : Fin 16) (a : Fin 9) (f : Node → Node) : (s.updNode l a f).loadResult = s.loadResult := rfl
@[simp] theorem State.updNode_skipped (s : State) (l : Fin 16) (a : Fin 9) (f : Node → Node) : (s.updNode l a f).skipped = s.skipped := rfl
@[simp] theorem State.updNode_engines (s : State) (l : Fin 16) (a : Fin 9) (f : Node → Node) : (s.updNode l a f).engines = s.engines := rfl
@[simp] theorem State.updNode_patches (s : State) (l : Fin 16) (a : Fin 9) (f : Node → Node) : (s.updNode l a f).patches = s.patches := rfl
@[simp] theorem State.updNode_arrays (s : State) (l : Fin 16) (a : Fin 9) (f : Node → Node) : (s.updNode l a f).arrays = s.arrays := rfl
@[simp] theorem State.updNode_idle (s : State) (l : Fin 16) (a : Fin 9) (f : Node → Node) : (s.updNode l a f).idle = s.idle := rfl
@[simp] theorem State.updNode_chans (s : State) (l : Fin 16) (a : Fin 9) (f : Node → Node) : (s.updNode l a f).chans = s.chans := rfl
@[simp] theorem State.updNode_marks (s : State) (l : Fin 16) (a : Fin 9) (f : Node → Node) : (s.updNode l a f).marks = s.marks := rfl
@[simp] theorem State.updNode_switches (s : State) (l : Fin 16) (a : Fin 9) (f : Node → Node) : (s.updNode l a f).switches = s.switches := rfl
@[simp] theorem State.updNode_gates (s : State) (l : Fin 16) (a : Fin 9) (f : Node → Node) : (s.updNode l a f).gates = s.gates := rfl
@[simp] theorem State.updNode_axes (s : State) (l : Fin 16) (a : Fin 9) (f : Node → Node) : (s.updNode l a f).axes = s.axes := rfl
@[simp] theorem State.updNode_groups (s : State) (l : Fin 16) (a : Fin 9) (f : Node → Node) : (s.updNode l a f).groups = s.groups := rfl
@[simp] theorem State.updNode_sync (s : State) (l : Fin 16) (a : Fin 9) (f : Node → Node) : (s.updNode l a f).sync = s.sync := rfl
@[simp] theorem State.updNode_bpos (s : State) (l : Fin 16) (a : Fin 9) (f : Node → Node) : (s.updNode l a f).bpos = s.bpos := rfl
@[simp] theorem State.updNode_devState (s : State) (l : Fin 16) (a : Fin 9) (f : Node → Node) : (s.updNode l a f).devState = s.devState := rfl
@[simp] theorem State.updNode_lifeCycle (s : State) (l : Fin 16) (a : Fin 9) (f : Node → Node) : (s.updNode l a f).lifeCycle = s.lifeCycle := rfl
@[simp] theorem State.updNode_serial (s : State) (l : Fin 16) (a : Fin 9) (f : Node → Node) : (s.updNode l a f).serial = s.serial := rfl
@[simp] theorem State.updNode_toggles (s : State) (l : Fin 16) (a : Fin 9) (f : Node → Node) : (s.updNode l a f).toggles = s.toggles := rfl
@[simp] theorem State.updNode_fuses (s : State) (l : Fin 16) (a : Fin 9) (f : Node → Node) : (s.updNode l a f).fuses = s.fuses := rfl
@[simp] theorem State.updNode_lcPending (s : State) (l : Fin 16) (a : Fin 9) (f : Node → Node) : (s.updNode l a f).lcPending = s.lcPending := rfl
@[simp] theorem State.updNode_cocoon (s : State) (l : Fin 16) (a : Fin 9) (f : Node → Node) : (s.updNode l a f).cocoon = s.cocoon := rfl
@[simp] theorem State.updNode_tamper (s : State) (l : Fin 16) (a : Fin 9) (f : Node → Node) : (s.updNode l a f).tamper = s.tamper := rfl
@[simp] theorem State.updNode_enc (s : State) (l : Fin 16) (a : Fin 9) (f : Node → Node) : (s.updNode l a f).enc = s.enc := rfl
@[simp] theorem State.updNode_lanes (s : State) (l : Fin 16) (a : Fin 9) (f : Node → Node) : (s.updNode l a f).lanes = s.lanes := rfl
@[simp] theorem State.updNode_due (s : State) (l : Fin 16) (a : Fin 9) (f : Node → Node) : (s.updNode l a f).due = s.due := rfl
@[simp] theorem State.updNode_reqs (s : State) (l : Fin 16) (a : Fin 9) (f : Node → Node) : (s.updNode l a f).reqs = s.reqs := rfl
@[simp] theorem State.updNode_mem (s : State) (l : Fin 16) (a : Fin 9) (f : Node → Node) : (s.updNode l a f).mem = s.mem := rfl
@[simp] theorem State.updNode_recorder (s : State) (l : Fin 16) (a : Fin 9) (f : Node → Node) : (s.updNode l a f).recorder = s.recorder := rfl
@[simp] theorem State.updNode_snap (s : State) (l : Fin 16) (a : Fin 9) (f : Node → Node) : (s.updNode l a f).snap = s.snap := rfl
@[simp] theorem State.updNode_domains (s : State) (l : Fin 16) (a : Fin 9) (f : Node → Node) : (s.updNode l a f).domains = s.domains := rfl
@[simp] theorem State.updNode_power (s : State) (l : Fin 16) (a : Fin 9) (f : Node → Node) : (s.updNode l a f).power = s.power := rfl

/-! `updSess` -/

@[simp] theorem State.updSess_ft (s : State) (i : Fin 32) (f : Session → Session) : (s.updSess i f).ft = s.ft := rfl
@[simp] theorem State.updSess_pending (s : State) (i : Fin 32) (f : Session → Session) : (s.updSess i f).pending = s.pending := rfl
@[simp] theorem State.updSess_origin (s : State) (i : Fin 32) (f : Session → Session) : (s.updSess i f).origin = s.origin := rfl
@[simp] theorem State.updSess_waiting (s : State) (i : Fin 32) (f : Session → Session) : (s.updSess i f).waiting = s.waiting := rfl
@[simp] theorem State.updSess_resumed (s : State) (i : Fin 32) (f : Session → Session) : (s.updSess i f).resumed = s.resumed := rfl
@[simp] theorem State.updSess_free (s : State) (i : Fin 32) (f : Session → Session) : (s.updSess i f).free = s.free := rfl
@[simp] theorem State.updSess_out (s : State) (i : Fin 32) (f : Session → Session) : (s.updSess i f).out = s.out := rfl
@[simp] theorem State.updSess_obj (s : State) (i : Fin 32) (f : Session → Session) : (s.updSess i f).obj = s.obj := rfl
@[simp] theorem State.updSess_ver (s : State) (i : Fin 32) (f : Session → Session) : (s.updSess i f).ver = s.ver := rfl
@[simp] theorem State.updSess_verAt (s : State) (i : Fin 32) (f : Session → Session) : (s.updSess i f).verAt = s.verAt := rfl
@[simp] theorem State.updSess_restartObj (s : State) (i : Fin 32) (f : Session → Session) : (s.updSess i f).restartObj = s.restartObj := rfl
@[simp] theorem State.updSess_items (s : State) (i : Fin 32) (f : Session → Session) : (s.updSess i f).items = s.items := rfl
@[simp] theorem State.updSess_gens (s : State) (i : Fin 32) (f : Session → Session) : (s.updSess i f).gens = s.gens := rfl
@[simp] theorem State.updSess_freeSlots (s : State) (i : Fin 32) (f : Session → Session) : (s.updSess i f).freeSlots = s.freeSlots := rfl
@[simp] theorem State.updSess_slotZone (s : State) (i : Fin 32) (f : Session → Session) : (s.updSess i f).slotZone = s.slotZone := rfl
@[simp] theorem State.updSess_notices (s : State) (i : Fin 32) (f : Session → Session) : (s.updSess i f).notices = s.notices := rfl
@[simp] theorem State.updSess_noticesSent (s : State) (i : Fin 32) (f : Session → Session) : (s.updSess i f).noticesSent = s.noticesSent := rfl
@[simp] theorem State.updSess_heldOut (s : State) (i : Fin 32) (f : Session → Session) : (s.updSess i f).heldOut = s.heldOut := rfl
@[simp] theorem State.updSess_lateReports (s : State) (i : Fin 32) (f : Session → Session) : (s.updSess i f).lateReports = s.lateReports := rfl
@[simp] theorem State.updSess_zones (s : State) (i : Fin 32) (f : Session → Session) : (s.updSess i f).zones = s.zones := rfl
@[simp] theorem State.updSess_templates (s : State) (i : Fin 32) (f : Session → Session) : (s.updSess i f).templates = s.templates := rfl
@[simp] theorem State.updSess_tiles (s : State) (i : Fin 32) (f : Session → Session) : (s.updSess i f).tiles = s.tiles := rfl
@[simp] theorem State.updSess_tplGen (s : State) (i : Fin 32) (f : Session → Session) : (s.updSess i f).tplGen = s.tplGen := rfl
@[simp] theorem State.updSess_tplFree (s : State) (i : Fin 32) (f : Session → Session) : (s.updSess i f).tplFree = s.tplFree := rfl
@[simp] theorem State.updSess_tplNext (s : State) (i : Fin 32) (f : Session → Session) : (s.updSess i f).tplNext = s.tplNext := rfl
@[simp] theorem State.updSess_tileGen (s : State) (i : Fin 32) (f : Session → Session) : (s.updSess i f).tileGen = s.tileGen := rfl
@[simp] theorem State.updSess_tileFree (s : State) (i : Fin 32) (f : Session → Session) : (s.updSess i f).tileFree = s.tileFree := rfl
@[simp] theorem State.updSess_tileNext (s : State) (i : Fin 32) (f : Session → Session) : (s.updSess i f).tileNext = s.tileNext := rfl
@[simp] theorem State.updSess_dram (s : State) (i : Fin 32) (f : Session → Session) : (s.updSess i f).dram = s.dram := rfl
@[simp] theorem State.updSess_stream (s : State) (i : Fin 32) (f : Session → Session) : (s.updSess i f).stream = s.stream := rfl
@[simp] theorem State.updSess_writeLoad (s : State) (i : Fin 32) (f : Session → Session) : (s.updSess i f).writeLoad = s.writeLoad := rfl
@[simp] theorem State.updSess_writeAt (s : State) (i : Fin 32) (f : Session → Session) : (s.updSess i f).writeAt = s.writeAt := rfl
@[simp] theorem State.updSess_dataErrors (s : State) (i : Fin 32) (f : Session → Session) : (s.updSess i f).dataErrors = s.dataErrors := rfl
@[simp] theorem State.updSess_streamDiscards (s : State) (i : Fin 32) (f : Session → Session) : (s.updSess i f).streamDiscards = s.streamDiscards := rfl
@[simp] theorem State.updSess_heads (s : State) (i : Fin 32) (f : Session → Session) : (s.updSess i f).heads = s.heads := rfl
@[simp] theorem State.updSess_stampNo (s : State) (i : Fin 32) (f : Session → Session) : (s.updSess i f).stampNo = s.stampNo := rfl
@[simp] theorem State.updSess_chains (s : State) (i : Fin 32) (f : Session → Session) : (s.updSess i f).chains = s.chains := rfl
@[simp] theorem State.updSess_ports (s : State) (i : Fin 32) (f : Session → Session) : (s.updSess i f).ports = s.ports := rfl
@[simp] theorem State.updSess_events (s : State) (i : Fin 32) (f : Session → Session) : (s.updSess i f).events = s.events := rfl
@[simp] theorem State.updSess_lost (s : State) (i : Fin 32) (f : Session → Session) : (s.updSess i f).lost = s.lost := rfl
@[simp] theorem State.updSess_lostRun (s : State) (i : Fin 32) (f : Session → Session) : (s.updSess i f).lostRun = s.lostRun := rfl
@[simp] theorem State.updSess_lostFirst (s : State) (i : Fin 32) (f : Session → Session) : (s.updSess i f).lostFirst = s.lostFirst := rfl
@[simp] theorem State.updSess_lostLast (s : State) (i : Fin 32) (f : Session → Session) : (s.updSess i f).lostLast = s.lostLast := rfl
@[simp] theorem State.updSess_opSeconds (s : State) (i : Fin 32) (f : Session → Session) : (s.updSess i f).opSeconds = s.opSeconds := rfl
@[simp] theorem State.updSess_powerCycles (s : State) (i : Fin 32) (f : Session → Session) : (s.updSess i f).powerCycles = s.powerCycles := rfl
@[simp] theorem State.updSess_calendar (s : State) (i : Fin 32) (f : Session → Session) : (s.updSess i f).calendar = s.calendar := rfl
@[simp] theorem State.updSess_calValid (s : State) (i : Fin 32) (f : Session → Session) : (s.updSess i f).calValid = s.calValid := rfl
@[simp] theorem State.updSess_opAt (s : State) (i : Fin 32) (f : Session → Session) : (s.updSess i f).opAt = s.opAt := rfl
@[simp] theorem State.updSess_opStored (s : State) (i : Fin 32) (f : Session → Session) : (s.updSess i f).opStored = s.opStored := rfl
@[simp] theorem State.updSess_calAt (s : State) (i : Fin 32) (f : Session → Session) : (s.updSess i f).calAt = s.calAt := rfl
@[simp] theorem State.updSess_calFreq (s : State) (i : Fin 32) (f : Session → Session) : (s.updSess i f).calFreq = s.calFreq := rfl
@[simp] theorem State.updSess_calCorr (s : State) (i : Fin 32) (f : Session → Session) : (s.updSess i f).calCorr = s.calCorr := rfl
@[simp] theorem State.updSess_calOff (s : State) (i : Fin 32) (f : Session → Session) : (s.updSess i f).calOff = s.calOff := rfl
@[simp] theorem State.updSess_calRun (s : State) (i : Fin 32) (f : Session → Session) : (s.updSess i f).calRun = s.calRun := rfl
@[simp] theorem State.updSess_cmdStat (s : State) (i : Fin 32) (f : Session → Session) : (s.updSess i f).cmdStat = s.cmdStat := rfl
@[simp] theorem State.updSess_sessions (s : State) (i : Fin 32) (f : Session → Session) : (s.updSess i f).sessions = vupd s.sessions i f := rfl
@[simp] theorem State.updSess_sessFree (s : State) (i : Fin 32) (f : Session → Session) : (s.updSess i f).sessFree = s.sessFree := rfl
@[simp] theorem State.updSess_shakes (s : State) (i : Fin 32) (f : Session → Session) : (s.updSess i f).shakes = s.shakes := rfl
@[simp] theorem State.updSess_refusals (s : State) (i : Fin 32) (f : Session → Session) : (s.updSess i f).refusals = s.refusals := rfl
@[simp] theorem State.updSess_authFails (s : State) (i : Fin 32) (f : Session → Session) : (s.updSess i f).authFails = s.authFails := rfl
@[simp] theorem State.updSess_replays (s : State) (i : Fin 32) (f : Session → Session) : (s.updSess i f).replays = s.replays := rfl
@[simp] theorem State.updSess_staleSess (s : State) (i : Fin 32) (f : Session → Session) : (s.updSess i f).staleSess = s.staleSess := rfl
@[simp] theorem State.updSess_malformed (s : State) (i : Fin 32) (f : Session → Session) : (s.updSess i f).malformed = s.malformed := rfl
@[simp] theorem State.updSess_hports (s : State) (i : Fin 32) (f : Session → Session) : (s.updSess i f).hports = s.hports := rfl
@[simp] theorem State.updSess_ptp (s : State) (i : Fin 32) (f : Session → Session) : (s.updSess i f).ptp = s.ptp := rfl
@[simp] theorem State.updSess_txs (s : State) (i : Fin 32) (f : Session → Session) : (s.updSess i f).txs = s.txs := rfl
@[simp] theorem State.updSess_txClock (s : State) (i : Fin 32) (f : Session → Session) : (s.updSess i f).txClock = s.txClock := rfl
@[simp] theorem State.updSess_conflicts (s : State) (i : Fin 32) (f : Session → Session) : (s.updSess i f).conflicts = s.conflicts := rfl
@[simp] theorem State.updSess_staleTx (s : State) (i : Fin 32) (f : Session → Session) : (s.updSess i f).staleTx = s.staleTx := rfl
@[simp] theorem State.updSess_cans (s : State) (i : Fin 32) (f : Session → Session) : (s.updSess i f).cans = s.cans := rfl
@[simp] theorem State.updSess_banks (s : State) (i : Fin 32) (f : Session → Session) : (s.updSess i f).banks = s.banks := rfl
@[simp] theorem State.updSess_erases (s : State) (i : Fin 32) (f : Session → Session) : (s.updSess i f).erases = s.erases := rfl
@[simp] theorem State.updSess_activeBank (s : State) (i : Fin 32) (f : Session → Session) : (s.updSess i f).activeBank = s.activeBank := rfl
@[simp] theorem State.updSess_save (s : State) (i : Fin 32) (f : Session → Session) : (s.updSess i f).save = s.save := rfl
@[simp] theorem State.updSess_loadResult (s : State) (i : Fin 32) (f : Session → Session) : (s.updSess i f).loadResult = s.loadResult := rfl
@[simp] theorem State.updSess_skipped (s : State) (i : Fin 32) (f : Session → Session) : (s.updSess i f).skipped = s.skipped := rfl
@[simp] theorem State.updSess_engines (s : State) (i : Fin 32) (f : Session → Session) : (s.updSess i f).engines = s.engines := rfl
@[simp] theorem State.updSess_patches (s : State) (i : Fin 32) (f : Session → Session) : (s.updSess i f).patches = s.patches := rfl
@[simp] theorem State.updSess_arrays (s : State) (i : Fin 32) (f : Session → Session) : (s.updSess i f).arrays = s.arrays := rfl
@[simp] theorem State.updSess_idle (s : State) (i : Fin 32) (f : Session → Session) : (s.updSess i f).idle = s.idle := rfl
@[simp] theorem State.updSess_chans (s : State) (i : Fin 32) (f : Session → Session) : (s.updSess i f).chans = s.chans := rfl
@[simp] theorem State.updSess_marks (s : State) (i : Fin 32) (f : Session → Session) : (s.updSess i f).marks = s.marks := rfl
@[simp] theorem State.updSess_switches (s : State) (i : Fin 32) (f : Session → Session) : (s.updSess i f).switches = s.switches := rfl
@[simp] theorem State.updSess_gates (s : State) (i : Fin 32) (f : Session → Session) : (s.updSess i f).gates = s.gates := rfl
@[simp] theorem State.updSess_axes (s : State) (i : Fin 32) (f : Session → Session) : (s.updSess i f).axes = s.axes := rfl
@[simp] theorem State.updSess_groups (s : State) (i : Fin 32) (f : Session → Session) : (s.updSess i f).groups = s.groups := rfl
@[simp] theorem State.updSess_sync (s : State) (i : Fin 32) (f : Session → Session) : (s.updSess i f).sync = s.sync := rfl
@[simp] theorem State.updSess_bpos (s : State) (i : Fin 32) (f : Session → Session) : (s.updSess i f).bpos = s.bpos := rfl
@[simp] theorem State.updSess_devState (s : State) (i : Fin 32) (f : Session → Session) : (s.updSess i f).devState = s.devState := rfl
@[simp] theorem State.updSess_lifeCycle (s : State) (i : Fin 32) (f : Session → Session) : (s.updSess i f).lifeCycle = s.lifeCycle := rfl
@[simp] theorem State.updSess_serial (s : State) (i : Fin 32) (f : Session → Session) : (s.updSess i f).serial = s.serial := rfl
@[simp] theorem State.updSess_toggles (s : State) (i : Fin 32) (f : Session → Session) : (s.updSess i f).toggles = s.toggles := rfl
@[simp] theorem State.updSess_fuses (s : State) (i : Fin 32) (f : Session → Session) : (s.updSess i f).fuses = s.fuses := rfl
@[simp] theorem State.updSess_lcPending (s : State) (i : Fin 32) (f : Session → Session) : (s.updSess i f).lcPending = s.lcPending := rfl
@[simp] theorem State.updSess_cocoon (s : State) (i : Fin 32) (f : Session → Session) : (s.updSess i f).cocoon = s.cocoon := rfl
@[simp] theorem State.updSess_tamper (s : State) (i : Fin 32) (f : Session → Session) : (s.updSess i f).tamper = s.tamper := rfl
@[simp] theorem State.updSess_enc (s : State) (i : Fin 32) (f : Session → Session) : (s.updSess i f).enc = s.enc := rfl
@[simp] theorem State.updSess_lanes (s : State) (i : Fin 32) (f : Session → Session) : (s.updSess i f).lanes = s.lanes := rfl
@[simp] theorem State.updSess_due (s : State) (i : Fin 32) (f : Session → Session) : (s.updSess i f).due = s.due := rfl
@[simp] theorem State.updSess_reqs (s : State) (i : Fin 32) (f : Session → Session) : (s.updSess i f).reqs = s.reqs := rfl
@[simp] theorem State.updSess_mem (s : State) (i : Fin 32) (f : Session → Session) : (s.updSess i f).mem = s.mem := rfl
@[simp] theorem State.updSess_recorder (s : State) (i : Fin 32) (f : Session → Session) : (s.updSess i f).recorder = s.recorder := rfl
@[simp] theorem State.updSess_snap (s : State) (i : Fin 32) (f : Session → Session) : (s.updSess i f).snap = s.snap := rfl
@[simp] theorem State.updSess_domains (s : State) (i : Fin 32) (f : Session → Session) : (s.updSess i f).domains = s.domains := rfl
@[simp] theorem State.updSess_power (s : State) (i : Fin 32) (f : Session → Session) : (s.updSess i f).power = s.power := rfl

/-! `updChan` -/

@[simp] theorem State.updChan_ft (s : State) (c : Fin 8) (f : Chan → Chan) : (s.updChan c f).ft = s.ft := rfl
@[simp] theorem State.updChan_pending (s : State) (c : Fin 8) (f : Chan → Chan) : (s.updChan c f).pending = s.pending := rfl
@[simp] theorem State.updChan_origin (s : State) (c : Fin 8) (f : Chan → Chan) : (s.updChan c f).origin = s.origin := rfl
@[simp] theorem State.updChan_waiting (s : State) (c : Fin 8) (f : Chan → Chan) : (s.updChan c f).waiting = s.waiting := rfl
@[simp] theorem State.updChan_resumed (s : State) (c : Fin 8) (f : Chan → Chan) : (s.updChan c f).resumed = s.resumed := rfl
@[simp] theorem State.updChan_free (s : State) (c : Fin 8) (f : Chan → Chan) : (s.updChan c f).free = s.free := rfl
@[simp] theorem State.updChan_out (s : State) (c : Fin 8) (f : Chan → Chan) : (s.updChan c f).out = s.out := rfl
@[simp] theorem State.updChan_obj (s : State) (c : Fin 8) (f : Chan → Chan) : (s.updChan c f).obj = s.obj := rfl
@[simp] theorem State.updChan_ver (s : State) (c : Fin 8) (f : Chan → Chan) : (s.updChan c f).ver = s.ver := rfl
@[simp] theorem State.updChan_verAt (s : State) (c : Fin 8) (f : Chan → Chan) : (s.updChan c f).verAt = s.verAt := rfl
@[simp] theorem State.updChan_restartObj (s : State) (c : Fin 8) (f : Chan → Chan) : (s.updChan c f).restartObj = s.restartObj := rfl
@[simp] theorem State.updChan_items (s : State) (c : Fin 8) (f : Chan → Chan) : (s.updChan c f).items = s.items := rfl
@[simp] theorem State.updChan_gens (s : State) (c : Fin 8) (f : Chan → Chan) : (s.updChan c f).gens = s.gens := rfl
@[simp] theorem State.updChan_freeSlots (s : State) (c : Fin 8) (f : Chan → Chan) : (s.updChan c f).freeSlots = s.freeSlots := rfl
@[simp] theorem State.updChan_slotZone (s : State) (c : Fin 8) (f : Chan → Chan) : (s.updChan c f).slotZone = s.slotZone := rfl
@[simp] theorem State.updChan_notices (s : State) (c : Fin 8) (f : Chan → Chan) : (s.updChan c f).notices = s.notices := rfl
@[simp] theorem State.updChan_noticesSent (s : State) (c : Fin 8) (f : Chan → Chan) : (s.updChan c f).noticesSent = s.noticesSent := rfl
@[simp] theorem State.updChan_heldOut (s : State) (c : Fin 8) (f : Chan → Chan) : (s.updChan c f).heldOut = s.heldOut := rfl
@[simp] theorem State.updChan_lateReports (s : State) (c : Fin 8) (f : Chan → Chan) : (s.updChan c f).lateReports = s.lateReports := rfl
@[simp] theorem State.updChan_zones (s : State) (c : Fin 8) (f : Chan → Chan) : (s.updChan c f).zones = s.zones := rfl
@[simp] theorem State.updChan_templates (s : State) (c : Fin 8) (f : Chan → Chan) : (s.updChan c f).templates = s.templates := rfl
@[simp] theorem State.updChan_tiles (s : State) (c : Fin 8) (f : Chan → Chan) : (s.updChan c f).tiles = s.tiles := rfl
@[simp] theorem State.updChan_tplGen (s : State) (c : Fin 8) (f : Chan → Chan) : (s.updChan c f).tplGen = s.tplGen := rfl
@[simp] theorem State.updChan_tplFree (s : State) (c : Fin 8) (f : Chan → Chan) : (s.updChan c f).tplFree = s.tplFree := rfl
@[simp] theorem State.updChan_tplNext (s : State) (c : Fin 8) (f : Chan → Chan) : (s.updChan c f).tplNext = s.tplNext := rfl
@[simp] theorem State.updChan_tileGen (s : State) (c : Fin 8) (f : Chan → Chan) : (s.updChan c f).tileGen = s.tileGen := rfl
@[simp] theorem State.updChan_tileFree (s : State) (c : Fin 8) (f : Chan → Chan) : (s.updChan c f).tileFree = s.tileFree := rfl
@[simp] theorem State.updChan_tileNext (s : State) (c : Fin 8) (f : Chan → Chan) : (s.updChan c f).tileNext = s.tileNext := rfl
@[simp] theorem State.updChan_dram (s : State) (c : Fin 8) (f : Chan → Chan) : (s.updChan c f).dram = s.dram := rfl
@[simp] theorem State.updChan_stream (s : State) (c : Fin 8) (f : Chan → Chan) : (s.updChan c f).stream = s.stream := rfl
@[simp] theorem State.updChan_writeLoad (s : State) (c : Fin 8) (f : Chan → Chan) : (s.updChan c f).writeLoad = s.writeLoad := rfl
@[simp] theorem State.updChan_writeAt (s : State) (c : Fin 8) (f : Chan → Chan) : (s.updChan c f).writeAt = s.writeAt := rfl
@[simp] theorem State.updChan_dataErrors (s : State) (c : Fin 8) (f : Chan → Chan) : (s.updChan c f).dataErrors = s.dataErrors := rfl
@[simp] theorem State.updChan_streamDiscards (s : State) (c : Fin 8) (f : Chan → Chan) : (s.updChan c f).streamDiscards = s.streamDiscards := rfl
@[simp] theorem State.updChan_heads (s : State) (c : Fin 8) (f : Chan → Chan) : (s.updChan c f).heads = s.heads := rfl
@[simp] theorem State.updChan_stampNo (s : State) (c : Fin 8) (f : Chan → Chan) : (s.updChan c f).stampNo = s.stampNo := rfl
@[simp] theorem State.updChan_chains (s : State) (c : Fin 8) (f : Chan → Chan) : (s.updChan c f).chains = s.chains := rfl
@[simp] theorem State.updChan_ports (s : State) (c : Fin 8) (f : Chan → Chan) : (s.updChan c f).ports = s.ports := rfl
@[simp] theorem State.updChan_events (s : State) (c : Fin 8) (f : Chan → Chan) : (s.updChan c f).events = s.events := rfl
@[simp] theorem State.updChan_lost (s : State) (c : Fin 8) (f : Chan → Chan) : (s.updChan c f).lost = s.lost := rfl
@[simp] theorem State.updChan_lostRun (s : State) (c : Fin 8) (f : Chan → Chan) : (s.updChan c f).lostRun = s.lostRun := rfl
@[simp] theorem State.updChan_lostFirst (s : State) (c : Fin 8) (f : Chan → Chan) : (s.updChan c f).lostFirst = s.lostFirst := rfl
@[simp] theorem State.updChan_lostLast (s : State) (c : Fin 8) (f : Chan → Chan) : (s.updChan c f).lostLast = s.lostLast := rfl
@[simp] theorem State.updChan_opSeconds (s : State) (c : Fin 8) (f : Chan → Chan) : (s.updChan c f).opSeconds = s.opSeconds := rfl
@[simp] theorem State.updChan_powerCycles (s : State) (c : Fin 8) (f : Chan → Chan) : (s.updChan c f).powerCycles = s.powerCycles := rfl
@[simp] theorem State.updChan_calendar (s : State) (c : Fin 8) (f : Chan → Chan) : (s.updChan c f).calendar = s.calendar := rfl
@[simp] theorem State.updChan_calValid (s : State) (c : Fin 8) (f : Chan → Chan) : (s.updChan c f).calValid = s.calValid := rfl
@[simp] theorem State.updChan_opAt (s : State) (c : Fin 8) (f : Chan → Chan) : (s.updChan c f).opAt = s.opAt := rfl
@[simp] theorem State.updChan_opStored (s : State) (c : Fin 8) (f : Chan → Chan) : (s.updChan c f).opStored = s.opStored := rfl
@[simp] theorem State.updChan_calAt (s : State) (c : Fin 8) (f : Chan → Chan) : (s.updChan c f).calAt = s.calAt := rfl
@[simp] theorem State.updChan_calFreq (s : State) (c : Fin 8) (f : Chan → Chan) : (s.updChan c f).calFreq = s.calFreq := rfl
@[simp] theorem State.updChan_calCorr (s : State) (c : Fin 8) (f : Chan → Chan) : (s.updChan c f).calCorr = s.calCorr := rfl
@[simp] theorem State.updChan_calOff (s : State) (c : Fin 8) (f : Chan → Chan) : (s.updChan c f).calOff = s.calOff := rfl
@[simp] theorem State.updChan_calRun (s : State) (c : Fin 8) (f : Chan → Chan) : (s.updChan c f).calRun = s.calRun := rfl
@[simp] theorem State.updChan_cmdStat (s : State) (c : Fin 8) (f : Chan → Chan) : (s.updChan c f).cmdStat = s.cmdStat := rfl
@[simp] theorem State.updChan_sessions (s : State) (c : Fin 8) (f : Chan → Chan) : (s.updChan c f).sessions = s.sessions := rfl
@[simp] theorem State.updChan_sessFree (s : State) (c : Fin 8) (f : Chan → Chan) : (s.updChan c f).sessFree = s.sessFree := rfl
@[simp] theorem State.updChan_shakes (s : State) (c : Fin 8) (f : Chan → Chan) : (s.updChan c f).shakes = s.shakes := rfl
@[simp] theorem State.updChan_refusals (s : State) (c : Fin 8) (f : Chan → Chan) : (s.updChan c f).refusals = s.refusals := rfl
@[simp] theorem State.updChan_authFails (s : State) (c : Fin 8) (f : Chan → Chan) : (s.updChan c f).authFails = s.authFails := rfl
@[simp] theorem State.updChan_replays (s : State) (c : Fin 8) (f : Chan → Chan) : (s.updChan c f).replays = s.replays := rfl
@[simp] theorem State.updChan_staleSess (s : State) (c : Fin 8) (f : Chan → Chan) : (s.updChan c f).staleSess = s.staleSess := rfl
@[simp] theorem State.updChan_malformed (s : State) (c : Fin 8) (f : Chan → Chan) : (s.updChan c f).malformed = s.malformed := rfl
@[simp] theorem State.updChan_hports (s : State) (c : Fin 8) (f : Chan → Chan) : (s.updChan c f).hports = s.hports := rfl
@[simp] theorem State.updChan_ptp (s : State) (c : Fin 8) (f : Chan → Chan) : (s.updChan c f).ptp = s.ptp := rfl
@[simp] theorem State.updChan_txs (s : State) (c : Fin 8) (f : Chan → Chan) : (s.updChan c f).txs = s.txs := rfl
@[simp] theorem State.updChan_txClock (s : State) (c : Fin 8) (f : Chan → Chan) : (s.updChan c f).txClock = s.txClock := rfl
@[simp] theorem State.updChan_conflicts (s : State) (c : Fin 8) (f : Chan → Chan) : (s.updChan c f).conflicts = s.conflicts := rfl
@[simp] theorem State.updChan_staleTx (s : State) (c : Fin 8) (f : Chan → Chan) : (s.updChan c f).staleTx = s.staleTx := rfl
@[simp] theorem State.updChan_cans (s : State) (c : Fin 8) (f : Chan → Chan) : (s.updChan c f).cans = s.cans := rfl
@[simp] theorem State.updChan_banks (s : State) (c : Fin 8) (f : Chan → Chan) : (s.updChan c f).banks = s.banks := rfl
@[simp] theorem State.updChan_erases (s : State) (c : Fin 8) (f : Chan → Chan) : (s.updChan c f).erases = s.erases := rfl
@[simp] theorem State.updChan_activeBank (s : State) (c : Fin 8) (f : Chan → Chan) : (s.updChan c f).activeBank = s.activeBank := rfl
@[simp] theorem State.updChan_save (s : State) (c : Fin 8) (f : Chan → Chan) : (s.updChan c f).save = s.save := rfl
@[simp] theorem State.updChan_loadResult (s : State) (c : Fin 8) (f : Chan → Chan) : (s.updChan c f).loadResult = s.loadResult := rfl
@[simp] theorem State.updChan_skipped (s : State) (c : Fin 8) (f : Chan → Chan) : (s.updChan c f).skipped = s.skipped := rfl
@[simp] theorem State.updChan_engines (s : State) (c : Fin 8) (f : Chan → Chan) : (s.updChan c f).engines = s.engines := rfl
@[simp] theorem State.updChan_patches (s : State) (c : Fin 8) (f : Chan → Chan) : (s.updChan c f).patches = s.patches := rfl
@[simp] theorem State.updChan_arrays (s : State) (c : Fin 8) (f : Chan → Chan) : (s.updChan c f).arrays = s.arrays := rfl
@[simp] theorem State.updChan_idle (s : State) (c : Fin 8) (f : Chan → Chan) : (s.updChan c f).idle = s.idle := rfl
@[simp] theorem State.updChan_chans (s : State) (c : Fin 8) (f : Chan → Chan) : (s.updChan c f).chans = vupd s.chans c f := rfl
@[simp] theorem State.updChan_marks (s : State) (c : Fin 8) (f : Chan → Chan) : (s.updChan c f).marks = s.marks := rfl
@[simp] theorem State.updChan_switches (s : State) (c : Fin 8) (f : Chan → Chan) : (s.updChan c f).switches = s.switches := rfl
@[simp] theorem State.updChan_gates (s : State) (c : Fin 8) (f : Chan → Chan) : (s.updChan c f).gates = s.gates := rfl
@[simp] theorem State.updChan_axes (s : State) (c : Fin 8) (f : Chan → Chan) : (s.updChan c f).axes = s.axes := rfl
@[simp] theorem State.updChan_groups (s : State) (c : Fin 8) (f : Chan → Chan) : (s.updChan c f).groups = s.groups := rfl
@[simp] theorem State.updChan_sync (s : State) (c : Fin 8) (f : Chan → Chan) : (s.updChan c f).sync = s.sync := rfl
@[simp] theorem State.updChan_bpos (s : State) (c : Fin 8) (f : Chan → Chan) : (s.updChan c f).bpos = s.bpos := rfl
@[simp] theorem State.updChan_devState (s : State) (c : Fin 8) (f : Chan → Chan) : (s.updChan c f).devState = s.devState := rfl
@[simp] theorem State.updChan_lifeCycle (s : State) (c : Fin 8) (f : Chan → Chan) : (s.updChan c f).lifeCycle = s.lifeCycle := rfl
@[simp] theorem State.updChan_serial (s : State) (c : Fin 8) (f : Chan → Chan) : (s.updChan c f).serial = s.serial := rfl
@[simp] theorem State.updChan_toggles (s : State) (c : Fin 8) (f : Chan → Chan) : (s.updChan c f).toggles = s.toggles := rfl
@[simp] theorem State.updChan_fuses (s : State) (c : Fin 8) (f : Chan → Chan) : (s.updChan c f).fuses = s.fuses := rfl
@[simp] theorem State.updChan_lcPending (s : State) (c : Fin 8) (f : Chan → Chan) : (s.updChan c f).lcPending = s.lcPending := rfl
@[simp] theorem State.updChan_cocoon (s : State) (c : Fin 8) (f : Chan → Chan) : (s.updChan c f).cocoon = s.cocoon := rfl
@[simp] theorem State.updChan_tamper (s : State) (c : Fin 8) (f : Chan → Chan) : (s.updChan c f).tamper = s.tamper := rfl
@[simp] theorem State.updChan_enc (s : State) (c : Fin 8) (f : Chan → Chan) : (s.updChan c f).enc = s.enc := rfl
@[simp] theorem State.updChan_lanes (s : State) (c : Fin 8) (f : Chan → Chan) : (s.updChan c f).lanes = s.lanes := rfl
@[simp] theorem State.updChan_due (s : State) (c : Fin 8) (f : Chan → Chan) : (s.updChan c f).due = s.due := rfl
@[simp] theorem State.updChan_reqs (s : State) (c : Fin 8) (f : Chan → Chan) : (s.updChan c f).reqs = s.reqs := rfl
@[simp] theorem State.updChan_mem (s : State) (c : Fin 8) (f : Chan → Chan) : (s.updChan c f).mem = s.mem := rfl
@[simp] theorem State.updChan_recorder (s : State) (c : Fin 8) (f : Chan → Chan) : (s.updChan c f).recorder = s.recorder := rfl
@[simp] theorem State.updChan_snap (s : State) (c : Fin 8) (f : Chan → Chan) : (s.updChan c f).snap = s.snap := rfl
@[simp] theorem State.updChan_domains (s : State) (c : Fin 8) (f : Chan → Chan) : (s.updChan c f).domains = s.domains := rfl
@[simp] theorem State.updChan_power (s : State) (c : Fin 8) (f : Chan → Chan) : (s.updChan c f).power = s.power := rfl

/-! `updMark` -/

@[simp] theorem State.updMark_ft (s : State) (c : Fin 8) (f : Mark → Mark) : (s.updMark c f).ft = s.ft := rfl
@[simp] theorem State.updMark_pending (s : State) (c : Fin 8) (f : Mark → Mark) : (s.updMark c f).pending = s.pending := rfl
@[simp] theorem State.updMark_origin (s : State) (c : Fin 8) (f : Mark → Mark) : (s.updMark c f).origin = s.origin := rfl
@[simp] theorem State.updMark_waiting (s : State) (c : Fin 8) (f : Mark → Mark) : (s.updMark c f).waiting = s.waiting := rfl
@[simp] theorem State.updMark_resumed (s : State) (c : Fin 8) (f : Mark → Mark) : (s.updMark c f).resumed = s.resumed := rfl
@[simp] theorem State.updMark_free (s : State) (c : Fin 8) (f : Mark → Mark) : (s.updMark c f).free = s.free := rfl
@[simp] theorem State.updMark_out (s : State) (c : Fin 8) (f : Mark → Mark) : (s.updMark c f).out = s.out := rfl
@[simp] theorem State.updMark_obj (s : State) (c : Fin 8) (f : Mark → Mark) : (s.updMark c f).obj = s.obj := rfl
@[simp] theorem State.updMark_ver (s : State) (c : Fin 8) (f : Mark → Mark) : (s.updMark c f).ver = s.ver := rfl
@[simp] theorem State.updMark_verAt (s : State) (c : Fin 8) (f : Mark → Mark) : (s.updMark c f).verAt = s.verAt := rfl
@[simp] theorem State.updMark_restartObj (s : State) (c : Fin 8) (f : Mark → Mark) : (s.updMark c f).restartObj = s.restartObj := rfl
@[simp] theorem State.updMark_items (s : State) (c : Fin 8) (f : Mark → Mark) : (s.updMark c f).items = s.items := rfl
@[simp] theorem State.updMark_gens (s : State) (c : Fin 8) (f : Mark → Mark) : (s.updMark c f).gens = s.gens := rfl
@[simp] theorem State.updMark_freeSlots (s : State) (c : Fin 8) (f : Mark → Mark) : (s.updMark c f).freeSlots = s.freeSlots := rfl
@[simp] theorem State.updMark_slotZone (s : State) (c : Fin 8) (f : Mark → Mark) : (s.updMark c f).slotZone = s.slotZone := rfl
@[simp] theorem State.updMark_notices (s : State) (c : Fin 8) (f : Mark → Mark) : (s.updMark c f).notices = s.notices := rfl
@[simp] theorem State.updMark_noticesSent (s : State) (c : Fin 8) (f : Mark → Mark) : (s.updMark c f).noticesSent = s.noticesSent := rfl
@[simp] theorem State.updMark_heldOut (s : State) (c : Fin 8) (f : Mark → Mark) : (s.updMark c f).heldOut = s.heldOut := rfl
@[simp] theorem State.updMark_lateReports (s : State) (c : Fin 8) (f : Mark → Mark) : (s.updMark c f).lateReports = s.lateReports := rfl
@[simp] theorem State.updMark_zones (s : State) (c : Fin 8) (f : Mark → Mark) : (s.updMark c f).zones = s.zones := rfl
@[simp] theorem State.updMark_templates (s : State) (c : Fin 8) (f : Mark → Mark) : (s.updMark c f).templates = s.templates := rfl
@[simp] theorem State.updMark_tiles (s : State) (c : Fin 8) (f : Mark → Mark) : (s.updMark c f).tiles = s.tiles := rfl
@[simp] theorem State.updMark_tplGen (s : State) (c : Fin 8) (f : Mark → Mark) : (s.updMark c f).tplGen = s.tplGen := rfl
@[simp] theorem State.updMark_tplFree (s : State) (c : Fin 8) (f : Mark → Mark) : (s.updMark c f).tplFree = s.tplFree := rfl
@[simp] theorem State.updMark_tplNext (s : State) (c : Fin 8) (f : Mark → Mark) : (s.updMark c f).tplNext = s.tplNext := rfl
@[simp] theorem State.updMark_tileGen (s : State) (c : Fin 8) (f : Mark → Mark) : (s.updMark c f).tileGen = s.tileGen := rfl
@[simp] theorem State.updMark_tileFree (s : State) (c : Fin 8) (f : Mark → Mark) : (s.updMark c f).tileFree = s.tileFree := rfl
@[simp] theorem State.updMark_tileNext (s : State) (c : Fin 8) (f : Mark → Mark) : (s.updMark c f).tileNext = s.tileNext := rfl
@[simp] theorem State.updMark_dram (s : State) (c : Fin 8) (f : Mark → Mark) : (s.updMark c f).dram = s.dram := rfl
@[simp] theorem State.updMark_stream (s : State) (c : Fin 8) (f : Mark → Mark) : (s.updMark c f).stream = s.stream := rfl
@[simp] theorem State.updMark_writeLoad (s : State) (c : Fin 8) (f : Mark → Mark) : (s.updMark c f).writeLoad = s.writeLoad := rfl
@[simp] theorem State.updMark_writeAt (s : State) (c : Fin 8) (f : Mark → Mark) : (s.updMark c f).writeAt = s.writeAt := rfl
@[simp] theorem State.updMark_dataErrors (s : State) (c : Fin 8) (f : Mark → Mark) : (s.updMark c f).dataErrors = s.dataErrors := rfl
@[simp] theorem State.updMark_streamDiscards (s : State) (c : Fin 8) (f : Mark → Mark) : (s.updMark c f).streamDiscards = s.streamDiscards := rfl
@[simp] theorem State.updMark_heads (s : State) (c : Fin 8) (f : Mark → Mark) : (s.updMark c f).heads = s.heads := rfl
@[simp] theorem State.updMark_stampNo (s : State) (c : Fin 8) (f : Mark → Mark) : (s.updMark c f).stampNo = s.stampNo := rfl
@[simp] theorem State.updMark_chains (s : State) (c : Fin 8) (f : Mark → Mark) : (s.updMark c f).chains = s.chains := rfl
@[simp] theorem State.updMark_ports (s : State) (c : Fin 8) (f : Mark → Mark) : (s.updMark c f).ports = s.ports := rfl
@[simp] theorem State.updMark_events (s : State) (c : Fin 8) (f : Mark → Mark) : (s.updMark c f).events = s.events := rfl
@[simp] theorem State.updMark_lost (s : State) (c : Fin 8) (f : Mark → Mark) : (s.updMark c f).lost = s.lost := rfl
@[simp] theorem State.updMark_lostRun (s : State) (c : Fin 8) (f : Mark → Mark) : (s.updMark c f).lostRun = s.lostRun := rfl
@[simp] theorem State.updMark_lostFirst (s : State) (c : Fin 8) (f : Mark → Mark) : (s.updMark c f).lostFirst = s.lostFirst := rfl
@[simp] theorem State.updMark_lostLast (s : State) (c : Fin 8) (f : Mark → Mark) : (s.updMark c f).lostLast = s.lostLast := rfl
@[simp] theorem State.updMark_opSeconds (s : State) (c : Fin 8) (f : Mark → Mark) : (s.updMark c f).opSeconds = s.opSeconds := rfl
@[simp] theorem State.updMark_powerCycles (s : State) (c : Fin 8) (f : Mark → Mark) : (s.updMark c f).powerCycles = s.powerCycles := rfl
@[simp] theorem State.updMark_calendar (s : State) (c : Fin 8) (f : Mark → Mark) : (s.updMark c f).calendar = s.calendar := rfl
@[simp] theorem State.updMark_calValid (s : State) (c : Fin 8) (f : Mark → Mark) : (s.updMark c f).calValid = s.calValid := rfl
@[simp] theorem State.updMark_opAt (s : State) (c : Fin 8) (f : Mark → Mark) : (s.updMark c f).opAt = s.opAt := rfl
@[simp] theorem State.updMark_opStored (s : State) (c : Fin 8) (f : Mark → Mark) : (s.updMark c f).opStored = s.opStored := rfl
@[simp] theorem State.updMark_calAt (s : State) (c : Fin 8) (f : Mark → Mark) : (s.updMark c f).calAt = s.calAt := rfl
@[simp] theorem State.updMark_calFreq (s : State) (c : Fin 8) (f : Mark → Mark) : (s.updMark c f).calFreq = s.calFreq := rfl
@[simp] theorem State.updMark_calCorr (s : State) (c : Fin 8) (f : Mark → Mark) : (s.updMark c f).calCorr = s.calCorr := rfl
@[simp] theorem State.updMark_calOff (s : State) (c : Fin 8) (f : Mark → Mark) : (s.updMark c f).calOff = s.calOff := rfl
@[simp] theorem State.updMark_calRun (s : State) (c : Fin 8) (f : Mark → Mark) : (s.updMark c f).calRun = s.calRun := rfl
@[simp] theorem State.updMark_cmdStat (s : State) (c : Fin 8) (f : Mark → Mark) : (s.updMark c f).cmdStat = s.cmdStat := rfl
@[simp] theorem State.updMark_sessions (s : State) (c : Fin 8) (f : Mark → Mark) : (s.updMark c f).sessions = s.sessions := rfl
@[simp] theorem State.updMark_sessFree (s : State) (c : Fin 8) (f : Mark → Mark) : (s.updMark c f).sessFree = s.sessFree := rfl
@[simp] theorem State.updMark_shakes (s : State) (c : Fin 8) (f : Mark → Mark) : (s.updMark c f).shakes = s.shakes := rfl
@[simp] theorem State.updMark_refusals (s : State) (c : Fin 8) (f : Mark → Mark) : (s.updMark c f).refusals = s.refusals := rfl
@[simp] theorem State.updMark_authFails (s : State) (c : Fin 8) (f : Mark → Mark) : (s.updMark c f).authFails = s.authFails := rfl
@[simp] theorem State.updMark_replays (s : State) (c : Fin 8) (f : Mark → Mark) : (s.updMark c f).replays = s.replays := rfl
@[simp] theorem State.updMark_staleSess (s : State) (c : Fin 8) (f : Mark → Mark) : (s.updMark c f).staleSess = s.staleSess := rfl
@[simp] theorem State.updMark_malformed (s : State) (c : Fin 8) (f : Mark → Mark) : (s.updMark c f).malformed = s.malformed := rfl
@[simp] theorem State.updMark_hports (s : State) (c : Fin 8) (f : Mark → Mark) : (s.updMark c f).hports = s.hports := rfl
@[simp] theorem State.updMark_ptp (s : State) (c : Fin 8) (f : Mark → Mark) : (s.updMark c f).ptp = s.ptp := rfl
@[simp] theorem State.updMark_txs (s : State) (c : Fin 8) (f : Mark → Mark) : (s.updMark c f).txs = s.txs := rfl
@[simp] theorem State.updMark_txClock (s : State) (c : Fin 8) (f : Mark → Mark) : (s.updMark c f).txClock = s.txClock := rfl
@[simp] theorem State.updMark_conflicts (s : State) (c : Fin 8) (f : Mark → Mark) : (s.updMark c f).conflicts = s.conflicts := rfl
@[simp] theorem State.updMark_staleTx (s : State) (c : Fin 8) (f : Mark → Mark) : (s.updMark c f).staleTx = s.staleTx := rfl
@[simp] theorem State.updMark_cans (s : State) (c : Fin 8) (f : Mark → Mark) : (s.updMark c f).cans = s.cans := rfl
@[simp] theorem State.updMark_banks (s : State) (c : Fin 8) (f : Mark → Mark) : (s.updMark c f).banks = s.banks := rfl
@[simp] theorem State.updMark_erases (s : State) (c : Fin 8) (f : Mark → Mark) : (s.updMark c f).erases = s.erases := rfl
@[simp] theorem State.updMark_activeBank (s : State) (c : Fin 8) (f : Mark → Mark) : (s.updMark c f).activeBank = s.activeBank := rfl
@[simp] theorem State.updMark_save (s : State) (c : Fin 8) (f : Mark → Mark) : (s.updMark c f).save = s.save := rfl
@[simp] theorem State.updMark_loadResult (s : State) (c : Fin 8) (f : Mark → Mark) : (s.updMark c f).loadResult = s.loadResult := rfl
@[simp] theorem State.updMark_skipped (s : State) (c : Fin 8) (f : Mark → Mark) : (s.updMark c f).skipped = s.skipped := rfl
@[simp] theorem State.updMark_engines (s : State) (c : Fin 8) (f : Mark → Mark) : (s.updMark c f).engines = s.engines := rfl
@[simp] theorem State.updMark_patches (s : State) (c : Fin 8) (f : Mark → Mark) : (s.updMark c f).patches = s.patches := rfl
@[simp] theorem State.updMark_arrays (s : State) (c : Fin 8) (f : Mark → Mark) : (s.updMark c f).arrays = s.arrays := rfl
@[simp] theorem State.updMark_idle (s : State) (c : Fin 8) (f : Mark → Mark) : (s.updMark c f).idle = s.idle := rfl
@[simp] theorem State.updMark_chans (s : State) (c : Fin 8) (f : Mark → Mark) : (s.updMark c f).chans = s.chans := rfl
@[simp] theorem State.updMark_marks (s : State) (c : Fin 8) (f : Mark → Mark) : (s.updMark c f).marks = vupd s.marks c f := rfl
@[simp] theorem State.updMark_switches (s : State) (c : Fin 8) (f : Mark → Mark) : (s.updMark c f).switches = s.switches := rfl
@[simp] theorem State.updMark_gates (s : State) (c : Fin 8) (f : Mark → Mark) : (s.updMark c f).gates = s.gates := rfl
@[simp] theorem State.updMark_axes (s : State) (c : Fin 8) (f : Mark → Mark) : (s.updMark c f).axes = s.axes := rfl
@[simp] theorem State.updMark_groups (s : State) (c : Fin 8) (f : Mark → Mark) : (s.updMark c f).groups = s.groups := rfl
@[simp] theorem State.updMark_sync (s : State) (c : Fin 8) (f : Mark → Mark) : (s.updMark c f).sync = s.sync := rfl
@[simp] theorem State.updMark_bpos (s : State) (c : Fin 8) (f : Mark → Mark) : (s.updMark c f).bpos = s.bpos := rfl
@[simp] theorem State.updMark_devState (s : State) (c : Fin 8) (f : Mark → Mark) : (s.updMark c f).devState = s.devState := rfl
@[simp] theorem State.updMark_lifeCycle (s : State) (c : Fin 8) (f : Mark → Mark) : (s.updMark c f).lifeCycle = s.lifeCycle := rfl
@[simp] theorem State.updMark_serial (s : State) (c : Fin 8) (f : Mark → Mark) : (s.updMark c f).serial = s.serial := rfl
@[simp] theorem State.updMark_toggles (s : State) (c : Fin 8) (f : Mark → Mark) : (s.updMark c f).toggles = s.toggles := rfl
@[simp] theorem State.updMark_fuses (s : State) (c : Fin 8) (f : Mark → Mark) : (s.updMark c f).fuses = s.fuses := rfl
@[simp] theorem State.updMark_lcPending (s : State) (c : Fin 8) (f : Mark → Mark) : (s.updMark c f).lcPending = s.lcPending := rfl
@[simp] theorem State.updMark_cocoon (s : State) (c : Fin 8) (f : Mark → Mark) : (s.updMark c f).cocoon = s.cocoon := rfl
@[simp] theorem State.updMark_tamper (s : State) (c : Fin 8) (f : Mark → Mark) : (s.updMark c f).tamper = s.tamper := rfl
@[simp] theorem State.updMark_enc (s : State) (c : Fin 8) (f : Mark → Mark) : (s.updMark c f).enc = s.enc := rfl
@[simp] theorem State.updMark_lanes (s : State) (c : Fin 8) (f : Mark → Mark) : (s.updMark c f).lanes = s.lanes := rfl
@[simp] theorem State.updMark_due (s : State) (c : Fin 8) (f : Mark → Mark) : (s.updMark c f).due = s.due := rfl
@[simp] theorem State.updMark_reqs (s : State) (c : Fin 8) (f : Mark → Mark) : (s.updMark c f).reqs = s.reqs := rfl
@[simp] theorem State.updMark_mem (s : State) (c : Fin 8) (f : Mark → Mark) : (s.updMark c f).mem = s.mem := rfl
@[simp] theorem State.updMark_recorder (s : State) (c : Fin 8) (f : Mark → Mark) : (s.updMark c f).recorder = s.recorder := rfl
@[simp] theorem State.updMark_snap (s : State) (c : Fin 8) (f : Mark → Mark) : (s.updMark c f).snap = s.snap := rfl
@[simp] theorem State.updMark_domains (s : State) (c : Fin 8) (f : Mark → Mark) : (s.updMark c f).domains = s.domains := rfl
@[simp] theorem State.updMark_power (s : State) (c : Fin 8) (f : Mark → Mark) : (s.updMark c f).power = s.power := rfl

/-! `updGate` -/

@[simp] theorem State.updGate_ft (s : State) (g : Fin 8) (f : Gate → Gate) : (s.updGate g f).ft = s.ft := rfl
@[simp] theorem State.updGate_pending (s : State) (g : Fin 8) (f : Gate → Gate) : (s.updGate g f).pending = s.pending := rfl
@[simp] theorem State.updGate_origin (s : State) (g : Fin 8) (f : Gate → Gate) : (s.updGate g f).origin = s.origin := rfl
@[simp] theorem State.updGate_waiting (s : State) (g : Fin 8) (f : Gate → Gate) : (s.updGate g f).waiting = s.waiting := rfl
@[simp] theorem State.updGate_resumed (s : State) (g : Fin 8) (f : Gate → Gate) : (s.updGate g f).resumed = s.resumed := rfl
@[simp] theorem State.updGate_free (s : State) (g : Fin 8) (f : Gate → Gate) : (s.updGate g f).free = s.free := rfl
@[simp] theorem State.updGate_out (s : State) (g : Fin 8) (f : Gate → Gate) : (s.updGate g f).out = s.out := rfl
@[simp] theorem State.updGate_obj (s : State) (g : Fin 8) (f : Gate → Gate) : (s.updGate g f).obj = s.obj := rfl
@[simp] theorem State.updGate_ver (s : State) (g : Fin 8) (f : Gate → Gate) : (s.updGate g f).ver = s.ver := rfl
@[simp] theorem State.updGate_verAt (s : State) (g : Fin 8) (f : Gate → Gate) : (s.updGate g f).verAt = s.verAt := rfl
@[simp] theorem State.updGate_restartObj (s : State) (g : Fin 8) (f : Gate → Gate) : (s.updGate g f).restartObj = s.restartObj := rfl
@[simp] theorem State.updGate_items (s : State) (g : Fin 8) (f : Gate → Gate) : (s.updGate g f).items = s.items := rfl
@[simp] theorem State.updGate_gens (s : State) (g : Fin 8) (f : Gate → Gate) : (s.updGate g f).gens = s.gens := rfl
@[simp] theorem State.updGate_freeSlots (s : State) (g : Fin 8) (f : Gate → Gate) : (s.updGate g f).freeSlots = s.freeSlots := rfl
@[simp] theorem State.updGate_slotZone (s : State) (g : Fin 8) (f : Gate → Gate) : (s.updGate g f).slotZone = s.slotZone := rfl
@[simp] theorem State.updGate_notices (s : State) (g : Fin 8) (f : Gate → Gate) : (s.updGate g f).notices = s.notices := rfl
@[simp] theorem State.updGate_noticesSent (s : State) (g : Fin 8) (f : Gate → Gate) : (s.updGate g f).noticesSent = s.noticesSent := rfl
@[simp] theorem State.updGate_heldOut (s : State) (g : Fin 8) (f : Gate → Gate) : (s.updGate g f).heldOut = s.heldOut := rfl
@[simp] theorem State.updGate_lateReports (s : State) (g : Fin 8) (f : Gate → Gate) : (s.updGate g f).lateReports = s.lateReports := rfl
@[simp] theorem State.updGate_zones (s : State) (g : Fin 8) (f : Gate → Gate) : (s.updGate g f).zones = s.zones := rfl
@[simp] theorem State.updGate_templates (s : State) (g : Fin 8) (f : Gate → Gate) : (s.updGate g f).templates = s.templates := rfl
@[simp] theorem State.updGate_tiles (s : State) (g : Fin 8) (f : Gate → Gate) : (s.updGate g f).tiles = s.tiles := rfl
@[simp] theorem State.updGate_tplGen (s : State) (g : Fin 8) (f : Gate → Gate) : (s.updGate g f).tplGen = s.tplGen := rfl
@[simp] theorem State.updGate_tplFree (s : State) (g : Fin 8) (f : Gate → Gate) : (s.updGate g f).tplFree = s.tplFree := rfl
@[simp] theorem State.updGate_tplNext (s : State) (g : Fin 8) (f : Gate → Gate) : (s.updGate g f).tplNext = s.tplNext := rfl
@[simp] theorem State.updGate_tileGen (s : State) (g : Fin 8) (f : Gate → Gate) : (s.updGate g f).tileGen = s.tileGen := rfl
@[simp] theorem State.updGate_tileFree (s : State) (g : Fin 8) (f : Gate → Gate) : (s.updGate g f).tileFree = s.tileFree := rfl
@[simp] theorem State.updGate_tileNext (s : State) (g : Fin 8) (f : Gate → Gate) : (s.updGate g f).tileNext = s.tileNext := rfl
@[simp] theorem State.updGate_dram (s : State) (g : Fin 8) (f : Gate → Gate) : (s.updGate g f).dram = s.dram := rfl
@[simp] theorem State.updGate_stream (s : State) (g : Fin 8) (f : Gate → Gate) : (s.updGate g f).stream = s.stream := rfl
@[simp] theorem State.updGate_writeLoad (s : State) (g : Fin 8) (f : Gate → Gate) : (s.updGate g f).writeLoad = s.writeLoad := rfl
@[simp] theorem State.updGate_writeAt (s : State) (g : Fin 8) (f : Gate → Gate) : (s.updGate g f).writeAt = s.writeAt := rfl
@[simp] theorem State.updGate_dataErrors (s : State) (g : Fin 8) (f : Gate → Gate) : (s.updGate g f).dataErrors = s.dataErrors := rfl
@[simp] theorem State.updGate_streamDiscards (s : State) (g : Fin 8) (f : Gate → Gate) : (s.updGate g f).streamDiscards = s.streamDiscards := rfl
@[simp] theorem State.updGate_heads (s : State) (g : Fin 8) (f : Gate → Gate) : (s.updGate g f).heads = s.heads := rfl
@[simp] theorem State.updGate_stampNo (s : State) (g : Fin 8) (f : Gate → Gate) : (s.updGate g f).stampNo = s.stampNo := rfl
@[simp] theorem State.updGate_chains (s : State) (g : Fin 8) (f : Gate → Gate) : (s.updGate g f).chains = s.chains := rfl
@[simp] theorem State.updGate_ports (s : State) (g : Fin 8) (f : Gate → Gate) : (s.updGate g f).ports = s.ports := rfl
@[simp] theorem State.updGate_events (s : State) (g : Fin 8) (f : Gate → Gate) : (s.updGate g f).events = s.events := rfl
@[simp] theorem State.updGate_lost (s : State) (g : Fin 8) (f : Gate → Gate) : (s.updGate g f).lost = s.lost := rfl
@[simp] theorem State.updGate_lostRun (s : State) (g : Fin 8) (f : Gate → Gate) : (s.updGate g f).lostRun = s.lostRun := rfl
@[simp] theorem State.updGate_lostFirst (s : State) (g : Fin 8) (f : Gate → Gate) : (s.updGate g f).lostFirst = s.lostFirst := rfl
@[simp] theorem State.updGate_lostLast (s : State) (g : Fin 8) (f : Gate → Gate) : (s.updGate g f).lostLast = s.lostLast := rfl
@[simp] theorem State.updGate_opSeconds (s : State) (g : Fin 8) (f : Gate → Gate) : (s.updGate g f).opSeconds = s.opSeconds := rfl
@[simp] theorem State.updGate_powerCycles (s : State) (g : Fin 8) (f : Gate → Gate) : (s.updGate g f).powerCycles = s.powerCycles := rfl
@[simp] theorem State.updGate_calendar (s : State) (g : Fin 8) (f : Gate → Gate) : (s.updGate g f).calendar = s.calendar := rfl
@[simp] theorem State.updGate_calValid (s : State) (g : Fin 8) (f : Gate → Gate) : (s.updGate g f).calValid = s.calValid := rfl
@[simp] theorem State.updGate_opAt (s : State) (g : Fin 8) (f : Gate → Gate) : (s.updGate g f).opAt = s.opAt := rfl
@[simp] theorem State.updGate_opStored (s : State) (g : Fin 8) (f : Gate → Gate) : (s.updGate g f).opStored = s.opStored := rfl
@[simp] theorem State.updGate_calAt (s : State) (g : Fin 8) (f : Gate → Gate) : (s.updGate g f).calAt = s.calAt := rfl
@[simp] theorem State.updGate_calFreq (s : State) (g : Fin 8) (f : Gate → Gate) : (s.updGate g f).calFreq = s.calFreq := rfl
@[simp] theorem State.updGate_calCorr (s : State) (g : Fin 8) (f : Gate → Gate) : (s.updGate g f).calCorr = s.calCorr := rfl
@[simp] theorem State.updGate_calOff (s : State) (g : Fin 8) (f : Gate → Gate) : (s.updGate g f).calOff = s.calOff := rfl
@[simp] theorem State.updGate_calRun (s : State) (g : Fin 8) (f : Gate → Gate) : (s.updGate g f).calRun = s.calRun := rfl
@[simp] theorem State.updGate_cmdStat (s : State) (g : Fin 8) (f : Gate → Gate) : (s.updGate g f).cmdStat = s.cmdStat := rfl
@[simp] theorem State.updGate_sessions (s : State) (g : Fin 8) (f : Gate → Gate) : (s.updGate g f).sessions = s.sessions := rfl
@[simp] theorem State.updGate_sessFree (s : State) (g : Fin 8) (f : Gate → Gate) : (s.updGate g f).sessFree = s.sessFree := rfl
@[simp] theorem State.updGate_shakes (s : State) (g : Fin 8) (f : Gate → Gate) : (s.updGate g f).shakes = s.shakes := rfl
@[simp] theorem State.updGate_refusals (s : State) (g : Fin 8) (f : Gate → Gate) : (s.updGate g f).refusals = s.refusals := rfl
@[simp] theorem State.updGate_authFails (s : State) (g : Fin 8) (f : Gate → Gate) : (s.updGate g f).authFails = s.authFails := rfl
@[simp] theorem State.updGate_replays (s : State) (g : Fin 8) (f : Gate → Gate) : (s.updGate g f).replays = s.replays := rfl
@[simp] theorem State.updGate_staleSess (s : State) (g : Fin 8) (f : Gate → Gate) : (s.updGate g f).staleSess = s.staleSess := rfl
@[simp] theorem State.updGate_malformed (s : State) (g : Fin 8) (f : Gate → Gate) : (s.updGate g f).malformed = s.malformed := rfl
@[simp] theorem State.updGate_hports (s : State) (g : Fin 8) (f : Gate → Gate) : (s.updGate g f).hports = s.hports := rfl
@[simp] theorem State.updGate_ptp (s : State) (g : Fin 8) (f : Gate → Gate) : (s.updGate g f).ptp = s.ptp := rfl
@[simp] theorem State.updGate_txs (s : State) (g : Fin 8) (f : Gate → Gate) : (s.updGate g f).txs = s.txs := rfl
@[simp] theorem State.updGate_txClock (s : State) (g : Fin 8) (f : Gate → Gate) : (s.updGate g f).txClock = s.txClock := rfl
@[simp] theorem State.updGate_conflicts (s : State) (g : Fin 8) (f : Gate → Gate) : (s.updGate g f).conflicts = s.conflicts := rfl
@[simp] theorem State.updGate_staleTx (s : State) (g : Fin 8) (f : Gate → Gate) : (s.updGate g f).staleTx = s.staleTx := rfl
@[simp] theorem State.updGate_cans (s : State) (g : Fin 8) (f : Gate → Gate) : (s.updGate g f).cans = s.cans := rfl
@[simp] theorem State.updGate_banks (s : State) (g : Fin 8) (f : Gate → Gate) : (s.updGate g f).banks = s.banks := rfl
@[simp] theorem State.updGate_erases (s : State) (g : Fin 8) (f : Gate → Gate) : (s.updGate g f).erases = s.erases := rfl
@[simp] theorem State.updGate_activeBank (s : State) (g : Fin 8) (f : Gate → Gate) : (s.updGate g f).activeBank = s.activeBank := rfl
@[simp] theorem State.updGate_save (s : State) (g : Fin 8) (f : Gate → Gate) : (s.updGate g f).save = s.save := rfl
@[simp] theorem State.updGate_loadResult (s : State) (g : Fin 8) (f : Gate → Gate) : (s.updGate g f).loadResult = s.loadResult := rfl
@[simp] theorem State.updGate_skipped (s : State) (g : Fin 8) (f : Gate → Gate) : (s.updGate g f).skipped = s.skipped := rfl
@[simp] theorem State.updGate_engines (s : State) (g : Fin 8) (f : Gate → Gate) : (s.updGate g f).engines = s.engines := rfl
@[simp] theorem State.updGate_patches (s : State) (g : Fin 8) (f : Gate → Gate) : (s.updGate g f).patches = s.patches := rfl
@[simp] theorem State.updGate_arrays (s : State) (g : Fin 8) (f : Gate → Gate) : (s.updGate g f).arrays = s.arrays := rfl
@[simp] theorem State.updGate_idle (s : State) (g : Fin 8) (f : Gate → Gate) : (s.updGate g f).idle = s.idle := rfl
@[simp] theorem State.updGate_chans (s : State) (g : Fin 8) (f : Gate → Gate) : (s.updGate g f).chans = s.chans := rfl
@[simp] theorem State.updGate_marks (s : State) (g : Fin 8) (f : Gate → Gate) : (s.updGate g f).marks = s.marks := rfl
@[simp] theorem State.updGate_switches (s : State) (g : Fin 8) (f : Gate → Gate) : (s.updGate g f).switches = s.switches := rfl
@[simp] theorem State.updGate_gates (s : State) (g : Fin 8) (f : Gate → Gate) : (s.updGate g f).gates = vupd s.gates g f := rfl
@[simp] theorem State.updGate_axes (s : State) (g : Fin 8) (f : Gate → Gate) : (s.updGate g f).axes = s.axes := rfl
@[simp] theorem State.updGate_groups (s : State) (g : Fin 8) (f : Gate → Gate) : (s.updGate g f).groups = s.groups := rfl
@[simp] theorem State.updGate_sync (s : State) (g : Fin 8) (f : Gate → Gate) : (s.updGate g f).sync = s.sync := rfl
@[simp] theorem State.updGate_bpos (s : State) (g : Fin 8) (f : Gate → Gate) : (s.updGate g f).bpos = s.bpos := rfl
@[simp] theorem State.updGate_devState (s : State) (g : Fin 8) (f : Gate → Gate) : (s.updGate g f).devState = s.devState := rfl
@[simp] theorem State.updGate_lifeCycle (s : State) (g : Fin 8) (f : Gate → Gate) : (s.updGate g f).lifeCycle = s.lifeCycle := rfl
@[simp] theorem State.updGate_serial (s : State) (g : Fin 8) (f : Gate → Gate) : (s.updGate g f).serial = s.serial := rfl
@[simp] theorem State.updGate_toggles (s : State) (g : Fin 8) (f : Gate → Gate) : (s.updGate g f).toggles = s.toggles := rfl
@[simp] theorem State.updGate_fuses (s : State) (g : Fin 8) (f : Gate → Gate) : (s.updGate g f).fuses = s.fuses := rfl
@[simp] theorem State.updGate_lcPending (s : State) (g : Fin 8) (f : Gate → Gate) : (s.updGate g f).lcPending = s.lcPending := rfl
@[simp] theorem State.updGate_cocoon (s : State) (g : Fin 8) (f : Gate → Gate) : (s.updGate g f).cocoon = s.cocoon := rfl
@[simp] theorem State.updGate_tamper (s : State) (g : Fin 8) (f : Gate → Gate) : (s.updGate g f).tamper = s.tamper := rfl
@[simp] theorem State.updGate_enc (s : State) (g : Fin 8) (f : Gate → Gate) : (s.updGate g f).enc = s.enc := rfl
@[simp] theorem State.updGate_lanes (s : State) (g : Fin 8) (f : Gate → Gate) : (s.updGate g f).lanes = s.lanes := rfl
@[simp] theorem State.updGate_due (s : State) (g : Fin 8) (f : Gate → Gate) : (s.updGate g f).due = s.due := rfl
@[simp] theorem State.updGate_reqs (s : State) (g : Fin 8) (f : Gate → Gate) : (s.updGate g f).reqs = s.reqs := rfl
@[simp] theorem State.updGate_mem (s : State) (g : Fin 8) (f : Gate → Gate) : (s.updGate g f).mem = s.mem := rfl
@[simp] theorem State.updGate_recorder (s : State) (g : Fin 8) (f : Gate → Gate) : (s.updGate g f).recorder = s.recorder := rfl
@[simp] theorem State.updGate_snap (s : State) (g : Fin 8) (f : Gate → Gate) : (s.updGate g f).snap = s.snap := rfl
@[simp] theorem State.updGate_domains (s : State) (g : Fin 8) (f : Gate → Gate) : (s.updGate g f).domains = s.domains := rfl
@[simp] theorem State.updGate_power (s : State) (g : Fin 8) (f : Gate → Gate) : (s.updGate g f).power = s.power := rfl

/-! `updAxis` -/

@[simp] theorem State.updAxis_ft (s : State) (a : Fin 8) (f : Axis → Axis) : (s.updAxis a f).ft = s.ft := rfl
@[simp] theorem State.updAxis_pending (s : State) (a : Fin 8) (f : Axis → Axis) : (s.updAxis a f).pending = s.pending := rfl
@[simp] theorem State.updAxis_origin (s : State) (a : Fin 8) (f : Axis → Axis) : (s.updAxis a f).origin = s.origin := rfl
@[simp] theorem State.updAxis_waiting (s : State) (a : Fin 8) (f : Axis → Axis) : (s.updAxis a f).waiting = s.waiting := rfl
@[simp] theorem State.updAxis_resumed (s : State) (a : Fin 8) (f : Axis → Axis) : (s.updAxis a f).resumed = s.resumed := rfl
@[simp] theorem State.updAxis_free (s : State) (a : Fin 8) (f : Axis → Axis) : (s.updAxis a f).free = s.free := rfl
@[simp] theorem State.updAxis_out (s : State) (a : Fin 8) (f : Axis → Axis) : (s.updAxis a f).out = s.out := rfl
@[simp] theorem State.updAxis_obj (s : State) (a : Fin 8) (f : Axis → Axis) : (s.updAxis a f).obj = s.obj := rfl
@[simp] theorem State.updAxis_ver (s : State) (a : Fin 8) (f : Axis → Axis) : (s.updAxis a f).ver = s.ver := rfl
@[simp] theorem State.updAxis_verAt (s : State) (a : Fin 8) (f : Axis → Axis) : (s.updAxis a f).verAt = s.verAt := rfl
@[simp] theorem State.updAxis_restartObj (s : State) (a : Fin 8) (f : Axis → Axis) : (s.updAxis a f).restartObj = s.restartObj := rfl
@[simp] theorem State.updAxis_items (s : State) (a : Fin 8) (f : Axis → Axis) : (s.updAxis a f).items = s.items := rfl
@[simp] theorem State.updAxis_gens (s : State) (a : Fin 8) (f : Axis → Axis) : (s.updAxis a f).gens = s.gens := rfl
@[simp] theorem State.updAxis_freeSlots (s : State) (a : Fin 8) (f : Axis → Axis) : (s.updAxis a f).freeSlots = s.freeSlots := rfl
@[simp] theorem State.updAxis_slotZone (s : State) (a : Fin 8) (f : Axis → Axis) : (s.updAxis a f).slotZone = s.slotZone := rfl
@[simp] theorem State.updAxis_notices (s : State) (a : Fin 8) (f : Axis → Axis) : (s.updAxis a f).notices = s.notices := rfl
@[simp] theorem State.updAxis_noticesSent (s : State) (a : Fin 8) (f : Axis → Axis) : (s.updAxis a f).noticesSent = s.noticesSent := rfl
@[simp] theorem State.updAxis_heldOut (s : State) (a : Fin 8) (f : Axis → Axis) : (s.updAxis a f).heldOut = s.heldOut := rfl
@[simp] theorem State.updAxis_lateReports (s : State) (a : Fin 8) (f : Axis → Axis) : (s.updAxis a f).lateReports = s.lateReports := rfl
@[simp] theorem State.updAxis_zones (s : State) (a : Fin 8) (f : Axis → Axis) : (s.updAxis a f).zones = s.zones := rfl
@[simp] theorem State.updAxis_templates (s : State) (a : Fin 8) (f : Axis → Axis) : (s.updAxis a f).templates = s.templates := rfl
@[simp] theorem State.updAxis_tiles (s : State) (a : Fin 8) (f : Axis → Axis) : (s.updAxis a f).tiles = s.tiles := rfl
@[simp] theorem State.updAxis_tplGen (s : State) (a : Fin 8) (f : Axis → Axis) : (s.updAxis a f).tplGen = s.tplGen := rfl
@[simp] theorem State.updAxis_tplFree (s : State) (a : Fin 8) (f : Axis → Axis) : (s.updAxis a f).tplFree = s.tplFree := rfl
@[simp] theorem State.updAxis_tplNext (s : State) (a : Fin 8) (f : Axis → Axis) : (s.updAxis a f).tplNext = s.tplNext := rfl
@[simp] theorem State.updAxis_tileGen (s : State) (a : Fin 8) (f : Axis → Axis) : (s.updAxis a f).tileGen = s.tileGen := rfl
@[simp] theorem State.updAxis_tileFree (s : State) (a : Fin 8) (f : Axis → Axis) : (s.updAxis a f).tileFree = s.tileFree := rfl
@[simp] theorem State.updAxis_tileNext (s : State) (a : Fin 8) (f : Axis → Axis) : (s.updAxis a f).tileNext = s.tileNext := rfl
@[simp] theorem State.updAxis_dram (s : State) (a : Fin 8) (f : Axis → Axis) : (s.updAxis a f).dram = s.dram := rfl
@[simp] theorem State.updAxis_stream (s : State) (a : Fin 8) (f : Axis → Axis) : (s.updAxis a f).stream = s.stream := rfl
@[simp] theorem State.updAxis_writeLoad (s : State) (a : Fin 8) (f : Axis → Axis) : (s.updAxis a f).writeLoad = s.writeLoad := rfl
@[simp] theorem State.updAxis_writeAt (s : State) (a : Fin 8) (f : Axis → Axis) : (s.updAxis a f).writeAt = s.writeAt := rfl
@[simp] theorem State.updAxis_dataErrors (s : State) (a : Fin 8) (f : Axis → Axis) : (s.updAxis a f).dataErrors = s.dataErrors := rfl
@[simp] theorem State.updAxis_streamDiscards (s : State) (a : Fin 8) (f : Axis → Axis) : (s.updAxis a f).streamDiscards = s.streamDiscards := rfl
@[simp] theorem State.updAxis_heads (s : State) (a : Fin 8) (f : Axis → Axis) : (s.updAxis a f).heads = s.heads := rfl
@[simp] theorem State.updAxis_stampNo (s : State) (a : Fin 8) (f : Axis → Axis) : (s.updAxis a f).stampNo = s.stampNo := rfl
@[simp] theorem State.updAxis_chains (s : State) (a : Fin 8) (f : Axis → Axis) : (s.updAxis a f).chains = s.chains := rfl
@[simp] theorem State.updAxis_ports (s : State) (a : Fin 8) (f : Axis → Axis) : (s.updAxis a f).ports = s.ports := rfl
@[simp] theorem State.updAxis_events (s : State) (a : Fin 8) (f : Axis → Axis) : (s.updAxis a f).events = s.events := rfl
@[simp] theorem State.updAxis_lost (s : State) (a : Fin 8) (f : Axis → Axis) : (s.updAxis a f).lost = s.lost := rfl
@[simp] theorem State.updAxis_lostRun (s : State) (a : Fin 8) (f : Axis → Axis) : (s.updAxis a f).lostRun = s.lostRun := rfl
@[simp] theorem State.updAxis_lostFirst (s : State) (a : Fin 8) (f : Axis → Axis) : (s.updAxis a f).lostFirst = s.lostFirst := rfl
@[simp] theorem State.updAxis_lostLast (s : State) (a : Fin 8) (f : Axis → Axis) : (s.updAxis a f).lostLast = s.lostLast := rfl
@[simp] theorem State.updAxis_opSeconds (s : State) (a : Fin 8) (f : Axis → Axis) : (s.updAxis a f).opSeconds = s.opSeconds := rfl
@[simp] theorem State.updAxis_powerCycles (s : State) (a : Fin 8) (f : Axis → Axis) : (s.updAxis a f).powerCycles = s.powerCycles := rfl
@[simp] theorem State.updAxis_calendar (s : State) (a : Fin 8) (f : Axis → Axis) : (s.updAxis a f).calendar = s.calendar := rfl
@[simp] theorem State.updAxis_calValid (s : State) (a : Fin 8) (f : Axis → Axis) : (s.updAxis a f).calValid = s.calValid := rfl
@[simp] theorem State.updAxis_opAt (s : State) (a : Fin 8) (f : Axis → Axis) : (s.updAxis a f).opAt = s.opAt := rfl
@[simp] theorem State.updAxis_opStored (s : State) (a : Fin 8) (f : Axis → Axis) : (s.updAxis a f).opStored = s.opStored := rfl
@[simp] theorem State.updAxis_calAt (s : State) (a : Fin 8) (f : Axis → Axis) : (s.updAxis a f).calAt = s.calAt := rfl
@[simp] theorem State.updAxis_calFreq (s : State) (a : Fin 8) (f : Axis → Axis) : (s.updAxis a f).calFreq = s.calFreq := rfl
@[simp] theorem State.updAxis_calCorr (s : State) (a : Fin 8) (f : Axis → Axis) : (s.updAxis a f).calCorr = s.calCorr := rfl
@[simp] theorem State.updAxis_calOff (s : State) (a : Fin 8) (f : Axis → Axis) : (s.updAxis a f).calOff = s.calOff := rfl
@[simp] theorem State.updAxis_calRun (s : State) (a : Fin 8) (f : Axis → Axis) : (s.updAxis a f).calRun = s.calRun := rfl
@[simp] theorem State.updAxis_cmdStat (s : State) (a : Fin 8) (f : Axis → Axis) : (s.updAxis a f).cmdStat = s.cmdStat := rfl
@[simp] theorem State.updAxis_sessions (s : State) (a : Fin 8) (f : Axis → Axis) : (s.updAxis a f).sessions = s.sessions := rfl
@[simp] theorem State.updAxis_sessFree (s : State) (a : Fin 8) (f : Axis → Axis) : (s.updAxis a f).sessFree = s.sessFree := rfl
@[simp] theorem State.updAxis_shakes (s : State) (a : Fin 8) (f : Axis → Axis) : (s.updAxis a f).shakes = s.shakes := rfl
@[simp] theorem State.updAxis_refusals (s : State) (a : Fin 8) (f : Axis → Axis) : (s.updAxis a f).refusals = s.refusals := rfl
@[simp] theorem State.updAxis_authFails (s : State) (a : Fin 8) (f : Axis → Axis) : (s.updAxis a f).authFails = s.authFails := rfl
@[simp] theorem State.updAxis_replays (s : State) (a : Fin 8) (f : Axis → Axis) : (s.updAxis a f).replays = s.replays := rfl
@[simp] theorem State.updAxis_staleSess (s : State) (a : Fin 8) (f : Axis → Axis) : (s.updAxis a f).staleSess = s.staleSess := rfl
@[simp] theorem State.updAxis_malformed (s : State) (a : Fin 8) (f : Axis → Axis) : (s.updAxis a f).malformed = s.malformed := rfl
@[simp] theorem State.updAxis_hports (s : State) (a : Fin 8) (f : Axis → Axis) : (s.updAxis a f).hports = s.hports := rfl
@[simp] theorem State.updAxis_ptp (s : State) (a : Fin 8) (f : Axis → Axis) : (s.updAxis a f).ptp = s.ptp := rfl
@[simp] theorem State.updAxis_txs (s : State) (a : Fin 8) (f : Axis → Axis) : (s.updAxis a f).txs = s.txs := rfl
@[simp] theorem State.updAxis_txClock (s : State) (a : Fin 8) (f : Axis → Axis) : (s.updAxis a f).txClock = s.txClock := rfl
@[simp] theorem State.updAxis_conflicts (s : State) (a : Fin 8) (f : Axis → Axis) : (s.updAxis a f).conflicts = s.conflicts := rfl
@[simp] theorem State.updAxis_staleTx (s : State) (a : Fin 8) (f : Axis → Axis) : (s.updAxis a f).staleTx = s.staleTx := rfl
@[simp] theorem State.updAxis_cans (s : State) (a : Fin 8) (f : Axis → Axis) : (s.updAxis a f).cans = s.cans := rfl
@[simp] theorem State.updAxis_banks (s : State) (a : Fin 8) (f : Axis → Axis) : (s.updAxis a f).banks = s.banks := rfl
@[simp] theorem State.updAxis_erases (s : State) (a : Fin 8) (f : Axis → Axis) : (s.updAxis a f).erases = s.erases := rfl
@[simp] theorem State.updAxis_activeBank (s : State) (a : Fin 8) (f : Axis → Axis) : (s.updAxis a f).activeBank = s.activeBank := rfl
@[simp] theorem State.updAxis_save (s : State) (a : Fin 8) (f : Axis → Axis) : (s.updAxis a f).save = s.save := rfl
@[simp] theorem State.updAxis_loadResult (s : State) (a : Fin 8) (f : Axis → Axis) : (s.updAxis a f).loadResult = s.loadResult := rfl
@[simp] theorem State.updAxis_skipped (s : State) (a : Fin 8) (f : Axis → Axis) : (s.updAxis a f).skipped = s.skipped := rfl
@[simp] theorem State.updAxis_engines (s : State) (a : Fin 8) (f : Axis → Axis) : (s.updAxis a f).engines = s.engines := rfl
@[simp] theorem State.updAxis_patches (s : State) (a : Fin 8) (f : Axis → Axis) : (s.updAxis a f).patches = s.patches := rfl
@[simp] theorem State.updAxis_arrays (s : State) (a : Fin 8) (f : Axis → Axis) : (s.updAxis a f).arrays = s.arrays := rfl
@[simp] theorem State.updAxis_idle (s : State) (a : Fin 8) (f : Axis → Axis) : (s.updAxis a f).idle = s.idle := rfl
@[simp] theorem State.updAxis_chans (s : State) (a : Fin 8) (f : Axis → Axis) : (s.updAxis a f).chans = s.chans := rfl
@[simp] theorem State.updAxis_marks (s : State) (a : Fin 8) (f : Axis → Axis) : (s.updAxis a f).marks = s.marks := rfl
@[simp] theorem State.updAxis_switches (s : State) (a : Fin 8) (f : Axis → Axis) : (s.updAxis a f).switches = s.switches := rfl
@[simp] theorem State.updAxis_gates (s : State) (a : Fin 8) (f : Axis → Axis) : (s.updAxis a f).gates = s.gates := rfl
@[simp] theorem State.updAxis_axes (s : State) (a : Fin 8) (f : Axis → Axis) : (s.updAxis a f).axes = vupd s.axes a f := rfl
@[simp] theorem State.updAxis_groups (s : State) (a : Fin 8) (f : Axis → Axis) : (s.updAxis a f).groups = s.groups := rfl
@[simp] theorem State.updAxis_sync (s : State) (a : Fin 8) (f : Axis → Axis) : (s.updAxis a f).sync = s.sync := rfl
@[simp] theorem State.updAxis_bpos (s : State) (a : Fin 8) (f : Axis → Axis) : (s.updAxis a f).bpos = s.bpos := rfl
@[simp] theorem State.updAxis_devState (s : State) (a : Fin 8) (f : Axis → Axis) : (s.updAxis a f).devState = s.devState := rfl
@[simp] theorem State.updAxis_lifeCycle (s : State) (a : Fin 8) (f : Axis → Axis) : (s.updAxis a f).lifeCycle = s.lifeCycle := rfl
@[simp] theorem State.updAxis_serial (s : State) (a : Fin 8) (f : Axis → Axis) : (s.updAxis a f).serial = s.serial := rfl
@[simp] theorem State.updAxis_toggles (s : State) (a : Fin 8) (f : Axis → Axis) : (s.updAxis a f).toggles = s.toggles := rfl
@[simp] theorem State.updAxis_fuses (s : State) (a : Fin 8) (f : Axis → Axis) : (s.updAxis a f).fuses = s.fuses := rfl
@[simp] theorem State.updAxis_lcPending (s : State) (a : Fin 8) (f : Axis → Axis) : (s.updAxis a f).lcPending = s.lcPending := rfl
@[simp] theorem State.updAxis_cocoon (s : State) (a : Fin 8) (f : Axis → Axis) : (s.updAxis a f).cocoon = s.cocoon := rfl
@[simp] theorem State.updAxis_tamper (s : State) (a : Fin 8) (f : Axis → Axis) : (s.updAxis a f).tamper = s.tamper := rfl
@[simp] theorem State.updAxis_enc (s : State) (a : Fin 8) (f : Axis → Axis) : (s.updAxis a f).enc = s.enc := rfl
@[simp] theorem State.updAxis_lanes (s : State) (a : Fin 8) (f : Axis → Axis) : (s.updAxis a f).lanes = s.lanes := rfl
@[simp] theorem State.updAxis_due (s : State) (a : Fin 8) (f : Axis → Axis) : (s.updAxis a f).due = s.due := rfl
@[simp] theorem State.updAxis_reqs (s : State) (a : Fin 8) (f : Axis → Axis) : (s.updAxis a f).reqs = s.reqs := rfl
@[simp] theorem State.updAxis_mem (s : State) (a : Fin 8) (f : Axis → Axis) : (s.updAxis a f).mem = s.mem := rfl
@[simp] theorem State.updAxis_recorder (s : State) (a : Fin 8) (f : Axis → Axis) : (s.updAxis a f).recorder = s.recorder := rfl
@[simp] theorem State.updAxis_snap (s : State) (a : Fin 8) (f : Axis → Axis) : (s.updAxis a f).snap = s.snap := rfl
@[simp] theorem State.updAxis_domains (s : State) (a : Fin 8) (f : Axis → Axis) : (s.updAxis a f).domains = s.domains := rfl
@[simp] theorem State.updAxis_power (s : State) (a : Fin 8) (f : Axis → Axis) : (s.updAxis a f).power = s.power := rfl

/-! `updTx` -/

@[simp] theorem State.updTx_ft (s : State) (i : Fin 8) (f : Tx → Tx) : (s.updTx i f).ft = s.ft := rfl
@[simp] theorem State.updTx_pending (s : State) (i : Fin 8) (f : Tx → Tx) : (s.updTx i f).pending = s.pending := rfl
@[simp] theorem State.updTx_origin (s : State) (i : Fin 8) (f : Tx → Tx) : (s.updTx i f).origin = s.origin := rfl
@[simp] theorem State.updTx_waiting (s : State) (i : Fin 8) (f : Tx → Tx) : (s.updTx i f).waiting = s.waiting := rfl
@[simp] theorem State.updTx_resumed (s : State) (i : Fin 8) (f : Tx → Tx) : (s.updTx i f).resumed = s.resumed := rfl
@[simp] theorem State.updTx_free (s : State) (i : Fin 8) (f : Tx → Tx) : (s.updTx i f).free = s.free := rfl
@[simp] theorem State.updTx_out (s : State) (i : Fin 8) (f : Tx → Tx) : (s.updTx i f).out = s.out := rfl
@[simp] theorem State.updTx_obj (s : State) (i : Fin 8) (f : Tx → Tx) : (s.updTx i f).obj = s.obj := rfl
@[simp] theorem State.updTx_ver (s : State) (i : Fin 8) (f : Tx → Tx) : (s.updTx i f).ver = s.ver := rfl
@[simp] theorem State.updTx_verAt (s : State) (i : Fin 8) (f : Tx → Tx) : (s.updTx i f).verAt = s.verAt := rfl
@[simp] theorem State.updTx_restartObj (s : State) (i : Fin 8) (f : Tx → Tx) : (s.updTx i f).restartObj = s.restartObj := rfl
@[simp] theorem State.updTx_items (s : State) (i : Fin 8) (f : Tx → Tx) : (s.updTx i f).items = s.items := rfl
@[simp] theorem State.updTx_gens (s : State) (i : Fin 8) (f : Tx → Tx) : (s.updTx i f).gens = s.gens := rfl
@[simp] theorem State.updTx_freeSlots (s : State) (i : Fin 8) (f : Tx → Tx) : (s.updTx i f).freeSlots = s.freeSlots := rfl
@[simp] theorem State.updTx_slotZone (s : State) (i : Fin 8) (f : Tx → Tx) : (s.updTx i f).slotZone = s.slotZone := rfl
@[simp] theorem State.updTx_notices (s : State) (i : Fin 8) (f : Tx → Tx) : (s.updTx i f).notices = s.notices := rfl
@[simp] theorem State.updTx_noticesSent (s : State) (i : Fin 8) (f : Tx → Tx) : (s.updTx i f).noticesSent = s.noticesSent := rfl
@[simp] theorem State.updTx_heldOut (s : State) (i : Fin 8) (f : Tx → Tx) : (s.updTx i f).heldOut = s.heldOut := rfl
@[simp] theorem State.updTx_lateReports (s : State) (i : Fin 8) (f : Tx → Tx) : (s.updTx i f).lateReports = s.lateReports := rfl
@[simp] theorem State.updTx_zones (s : State) (i : Fin 8) (f : Tx → Tx) : (s.updTx i f).zones = s.zones := rfl
@[simp] theorem State.updTx_templates (s : State) (i : Fin 8) (f : Tx → Tx) : (s.updTx i f).templates = s.templates := rfl
@[simp] theorem State.updTx_tiles (s : State) (i : Fin 8) (f : Tx → Tx) : (s.updTx i f).tiles = s.tiles := rfl
@[simp] theorem State.updTx_tplGen (s : State) (i : Fin 8) (f : Tx → Tx) : (s.updTx i f).tplGen = s.tplGen := rfl
@[simp] theorem State.updTx_tplFree (s : State) (i : Fin 8) (f : Tx → Tx) : (s.updTx i f).tplFree = s.tplFree := rfl
@[simp] theorem State.updTx_tplNext (s : State) (i : Fin 8) (f : Tx → Tx) : (s.updTx i f).tplNext = s.tplNext := rfl
@[simp] theorem State.updTx_tileGen (s : State) (i : Fin 8) (f : Tx → Tx) : (s.updTx i f).tileGen = s.tileGen := rfl
@[simp] theorem State.updTx_tileFree (s : State) (i : Fin 8) (f : Tx → Tx) : (s.updTx i f).tileFree = s.tileFree := rfl
@[simp] theorem State.updTx_tileNext (s : State) (i : Fin 8) (f : Tx → Tx) : (s.updTx i f).tileNext = s.tileNext := rfl
@[simp] theorem State.updTx_dram (s : State) (i : Fin 8) (f : Tx → Tx) : (s.updTx i f).dram = s.dram := rfl
@[simp] theorem State.updTx_stream (s : State) (i : Fin 8) (f : Tx → Tx) : (s.updTx i f).stream = s.stream := rfl
@[simp] theorem State.updTx_writeLoad (s : State) (i : Fin 8) (f : Tx → Tx) : (s.updTx i f).writeLoad = s.writeLoad := rfl
@[simp] theorem State.updTx_writeAt (s : State) (i : Fin 8) (f : Tx → Tx) : (s.updTx i f).writeAt = s.writeAt := rfl
@[simp] theorem State.updTx_dataErrors (s : State) (i : Fin 8) (f : Tx → Tx) : (s.updTx i f).dataErrors = s.dataErrors := rfl
@[simp] theorem State.updTx_streamDiscards (s : State) (i : Fin 8) (f : Tx → Tx) : (s.updTx i f).streamDiscards = s.streamDiscards := rfl
@[simp] theorem State.updTx_heads (s : State) (i : Fin 8) (f : Tx → Tx) : (s.updTx i f).heads = s.heads := rfl
@[simp] theorem State.updTx_stampNo (s : State) (i : Fin 8) (f : Tx → Tx) : (s.updTx i f).stampNo = s.stampNo := rfl
@[simp] theorem State.updTx_chains (s : State) (i : Fin 8) (f : Tx → Tx) : (s.updTx i f).chains = s.chains := rfl
@[simp] theorem State.updTx_ports (s : State) (i : Fin 8) (f : Tx → Tx) : (s.updTx i f).ports = s.ports := rfl
@[simp] theorem State.updTx_events (s : State) (i : Fin 8) (f : Tx → Tx) : (s.updTx i f).events = s.events := rfl
@[simp] theorem State.updTx_lost (s : State) (i : Fin 8) (f : Tx → Tx) : (s.updTx i f).lost = s.lost := rfl
@[simp] theorem State.updTx_lostRun (s : State) (i : Fin 8) (f : Tx → Tx) : (s.updTx i f).lostRun = s.lostRun := rfl
@[simp] theorem State.updTx_lostFirst (s : State) (i : Fin 8) (f : Tx → Tx) : (s.updTx i f).lostFirst = s.lostFirst := rfl
@[simp] theorem State.updTx_lostLast (s : State) (i : Fin 8) (f : Tx → Tx) : (s.updTx i f).lostLast = s.lostLast := rfl
@[simp] theorem State.updTx_opSeconds (s : State) (i : Fin 8) (f : Tx → Tx) : (s.updTx i f).opSeconds = s.opSeconds := rfl
@[simp] theorem State.updTx_powerCycles (s : State) (i : Fin 8) (f : Tx → Tx) : (s.updTx i f).powerCycles = s.powerCycles := rfl
@[simp] theorem State.updTx_calendar (s : State) (i : Fin 8) (f : Tx → Tx) : (s.updTx i f).calendar = s.calendar := rfl
@[simp] theorem State.updTx_calValid (s : State) (i : Fin 8) (f : Tx → Tx) : (s.updTx i f).calValid = s.calValid := rfl
@[simp] theorem State.updTx_opAt (s : State) (i : Fin 8) (f : Tx → Tx) : (s.updTx i f).opAt = s.opAt := rfl
@[simp] theorem State.updTx_opStored (s : State) (i : Fin 8) (f : Tx → Tx) : (s.updTx i f).opStored = s.opStored := rfl
@[simp] theorem State.updTx_calAt (s : State) (i : Fin 8) (f : Tx → Tx) : (s.updTx i f).calAt = s.calAt := rfl
@[simp] theorem State.updTx_calFreq (s : State) (i : Fin 8) (f : Tx → Tx) : (s.updTx i f).calFreq = s.calFreq := rfl
@[simp] theorem State.updTx_calCorr (s : State) (i : Fin 8) (f : Tx → Tx) : (s.updTx i f).calCorr = s.calCorr := rfl
@[simp] theorem State.updTx_calOff (s : State) (i : Fin 8) (f : Tx → Tx) : (s.updTx i f).calOff = s.calOff := rfl
@[simp] theorem State.updTx_calRun (s : State) (i : Fin 8) (f : Tx → Tx) : (s.updTx i f).calRun = s.calRun := rfl
@[simp] theorem State.updTx_cmdStat (s : State) (i : Fin 8) (f : Tx → Tx) : (s.updTx i f).cmdStat = s.cmdStat := rfl
@[simp] theorem State.updTx_sessions (s : State) (i : Fin 8) (f : Tx → Tx) : (s.updTx i f).sessions = s.sessions := rfl
@[simp] theorem State.updTx_sessFree (s : State) (i : Fin 8) (f : Tx → Tx) : (s.updTx i f).sessFree = s.sessFree := rfl
@[simp] theorem State.updTx_shakes (s : State) (i : Fin 8) (f : Tx → Tx) : (s.updTx i f).shakes = s.shakes := rfl
@[simp] theorem State.updTx_refusals (s : State) (i : Fin 8) (f : Tx → Tx) : (s.updTx i f).refusals = s.refusals := rfl
@[simp] theorem State.updTx_authFails (s : State) (i : Fin 8) (f : Tx → Tx) : (s.updTx i f).authFails = s.authFails := rfl
@[simp] theorem State.updTx_replays (s : State) (i : Fin 8) (f : Tx → Tx) : (s.updTx i f).replays = s.replays := rfl
@[simp] theorem State.updTx_staleSess (s : State) (i : Fin 8) (f : Tx → Tx) : (s.updTx i f).staleSess = s.staleSess := rfl
@[simp] theorem State.updTx_malformed (s : State) (i : Fin 8) (f : Tx → Tx) : (s.updTx i f).malformed = s.malformed := rfl
@[simp] theorem State.updTx_hports (s : State) (i : Fin 8) (f : Tx → Tx) : (s.updTx i f).hports = s.hports := rfl
@[simp] theorem State.updTx_ptp (s : State) (i : Fin 8) (f : Tx → Tx) : (s.updTx i f).ptp = s.ptp := rfl
@[simp] theorem State.updTx_txs (s : State) (i : Fin 8) (f : Tx → Tx) : (s.updTx i f).txs = vupd s.txs i f := rfl
@[simp] theorem State.updTx_txClock (s : State) (i : Fin 8) (f : Tx → Tx) : (s.updTx i f).txClock = s.txClock := rfl
@[simp] theorem State.updTx_conflicts (s : State) (i : Fin 8) (f : Tx → Tx) : (s.updTx i f).conflicts = s.conflicts := rfl
@[simp] theorem State.updTx_staleTx (s : State) (i : Fin 8) (f : Tx → Tx) : (s.updTx i f).staleTx = s.staleTx := rfl
@[simp] theorem State.updTx_cans (s : State) (i : Fin 8) (f : Tx → Tx) : (s.updTx i f).cans = s.cans := rfl
@[simp] theorem State.updTx_banks (s : State) (i : Fin 8) (f : Tx → Tx) : (s.updTx i f).banks = s.banks := rfl
@[simp] theorem State.updTx_erases (s : State) (i : Fin 8) (f : Tx → Tx) : (s.updTx i f).erases = s.erases := rfl
@[simp] theorem State.updTx_activeBank (s : State) (i : Fin 8) (f : Tx → Tx) : (s.updTx i f).activeBank = s.activeBank := rfl
@[simp] theorem State.updTx_save (s : State) (i : Fin 8) (f : Tx → Tx) : (s.updTx i f).save = s.save := rfl
@[simp] theorem State.updTx_loadResult (s : State) (i : Fin 8) (f : Tx → Tx) : (s.updTx i f).loadResult = s.loadResult := rfl
@[simp] theorem State.updTx_skipped (s : State) (i : Fin 8) (f : Tx → Tx) : (s.updTx i f).skipped = s.skipped := rfl
@[simp] theorem State.updTx_engines (s : State) (i : Fin 8) (f : Tx → Tx) : (s.updTx i f).engines = s.engines := rfl
@[simp] theorem State.updTx_patches (s : State) (i : Fin 8) (f : Tx → Tx) : (s.updTx i f).patches = s.patches := rfl
@[simp] theorem State.updTx_arrays (s : State) (i : Fin 8) (f : Tx → Tx) : (s.updTx i f).arrays = s.arrays := rfl
@[simp] theorem State.updTx_idle (s : State) (i : Fin 8) (f : Tx → Tx) : (s.updTx i f).idle = s.idle := rfl
@[simp] theorem State.updTx_chans (s : State) (i : Fin 8) (f : Tx → Tx) : (s.updTx i f).chans = s.chans := rfl
@[simp] theorem State.updTx_marks (s : State) (i : Fin 8) (f : Tx → Tx) : (s.updTx i f).marks = s.marks := rfl
@[simp] theorem State.updTx_switches (s : State) (i : Fin 8) (f : Tx → Tx) : (s.updTx i f).switches = s.switches := rfl
@[simp] theorem State.updTx_gates (s : State) (i : Fin 8) (f : Tx → Tx) : (s.updTx i f).gates = s.gates := rfl
@[simp] theorem State.updTx_axes (s : State) (i : Fin 8) (f : Tx → Tx) : (s.updTx i f).axes = s.axes := rfl
@[simp] theorem State.updTx_groups (s : State) (i : Fin 8) (f : Tx → Tx) : (s.updTx i f).groups = s.groups := rfl
@[simp] theorem State.updTx_sync (s : State) (i : Fin 8) (f : Tx → Tx) : (s.updTx i f).sync = s.sync := rfl
@[simp] theorem State.updTx_bpos (s : State) (i : Fin 8) (f : Tx → Tx) : (s.updTx i f).bpos = s.bpos := rfl
@[simp] theorem State.updTx_devState (s : State) (i : Fin 8) (f : Tx → Tx) : (s.updTx i f).devState = s.devState := rfl
@[simp] theorem State.updTx_lifeCycle (s : State) (i : Fin 8) (f : Tx → Tx) : (s.updTx i f).lifeCycle = s.lifeCycle := rfl
@[simp] theorem State.updTx_serial (s : State) (i : Fin 8) (f : Tx → Tx) : (s.updTx i f).serial = s.serial := rfl
@[simp] theorem State.updTx_toggles (s : State) (i : Fin 8) (f : Tx → Tx) : (s.updTx i f).toggles = s.toggles := rfl
@[simp] theorem State.updTx_fuses (s : State) (i : Fin 8) (f : Tx → Tx) : (s.updTx i f).fuses = s.fuses := rfl
@[simp] theorem State.updTx_lcPending (s : State) (i : Fin 8) (f : Tx → Tx) : (s.updTx i f).lcPending = s.lcPending := rfl
@[simp] theorem State.updTx_cocoon (s : State) (i : Fin 8) (f : Tx → Tx) : (s.updTx i f).cocoon = s.cocoon := rfl
@[simp] theorem State.updTx_tamper (s : State) (i : Fin 8) (f : Tx → Tx) : (s.updTx i f).tamper = s.tamper := rfl
@[simp] theorem State.updTx_enc (s : State) (i : Fin 8) (f : Tx → Tx) : (s.updTx i f).enc = s.enc := rfl
@[simp] theorem State.updTx_lanes (s : State) (i : Fin 8) (f : Tx → Tx) : (s.updTx i f).lanes = s.lanes := rfl
@[simp] theorem State.updTx_due (s : State) (i : Fin 8) (f : Tx → Tx) : (s.updTx i f).due = s.due := rfl
@[simp] theorem State.updTx_reqs (s : State) (i : Fin 8) (f : Tx → Tx) : (s.updTx i f).reqs = s.reqs := rfl
@[simp] theorem State.updTx_mem (s : State) (i : Fin 8) (f : Tx → Tx) : (s.updTx i f).mem = s.mem := rfl
@[simp] theorem State.updTx_recorder (s : State) (i : Fin 8) (f : Tx → Tx) : (s.updTx i f).recorder = s.recorder := rfl
@[simp] theorem State.updTx_snap (s : State) (i : Fin 8) (f : Tx → Tx) : (s.updTx i f).snap = s.snap := rfl
@[simp] theorem State.updTx_domains (s : State) (i : Fin 8) (f : Tx → Tx) : (s.updTx i f).domains = s.domains := rfl
@[simp] theorem State.updTx_power (s : State) (i : Fin 8) (f : Tx → Tx) : (s.updTx i f).power = s.power := rfl

/-! `updEngine` -/

@[simp] theorem State.updEngine_ft (s : State) (k : Fin 8) (f : Engine → Engine) : (s.updEngine k f).ft = s.ft := rfl
@[simp] theorem State.updEngine_pending (s : State) (k : Fin 8) (f : Engine → Engine) : (s.updEngine k f).pending = s.pending := rfl
@[simp] theorem State.updEngine_origin (s : State) (k : Fin 8) (f : Engine → Engine) : (s.updEngine k f).origin = s.origin := rfl
@[simp] theorem State.updEngine_waiting (s : State) (k : Fin 8) (f : Engine → Engine) : (s.updEngine k f).waiting = s.waiting := rfl
@[simp] theorem State.updEngine_resumed (s : State) (k : Fin 8) (f : Engine → Engine) : (s.updEngine k f).resumed = s.resumed := rfl
@[simp] theorem State.updEngine_free (s : State) (k : Fin 8) (f : Engine → Engine) : (s.updEngine k f).free = s.free := rfl
@[simp] theorem State.updEngine_out (s : State) (k : Fin 8) (f : Engine → Engine) : (s.updEngine k f).out = s.out := rfl
@[simp] theorem State.updEngine_obj (s : State) (k : Fin 8) (f : Engine → Engine) : (s.updEngine k f).obj = s.obj := rfl
@[simp] theorem State.updEngine_ver (s : State) (k : Fin 8) (f : Engine → Engine) : (s.updEngine k f).ver = s.ver := rfl
@[simp] theorem State.updEngine_verAt (s : State) (k : Fin 8) (f : Engine → Engine) : (s.updEngine k f).verAt = s.verAt := rfl
@[simp] theorem State.updEngine_restartObj (s : State) (k : Fin 8) (f : Engine → Engine) : (s.updEngine k f).restartObj = s.restartObj := rfl
@[simp] theorem State.updEngine_items (s : State) (k : Fin 8) (f : Engine → Engine) : (s.updEngine k f).items = s.items := rfl
@[simp] theorem State.updEngine_gens (s : State) (k : Fin 8) (f : Engine → Engine) : (s.updEngine k f).gens = s.gens := rfl
@[simp] theorem State.updEngine_freeSlots (s : State) (k : Fin 8) (f : Engine → Engine) : (s.updEngine k f).freeSlots = s.freeSlots := rfl
@[simp] theorem State.updEngine_slotZone (s : State) (k : Fin 8) (f : Engine → Engine) : (s.updEngine k f).slotZone = s.slotZone := rfl
@[simp] theorem State.updEngine_notices (s : State) (k : Fin 8) (f : Engine → Engine) : (s.updEngine k f).notices = s.notices := rfl
@[simp] theorem State.updEngine_noticesSent (s : State) (k : Fin 8) (f : Engine → Engine) : (s.updEngine k f).noticesSent = s.noticesSent := rfl
@[simp] theorem State.updEngine_heldOut (s : State) (k : Fin 8) (f : Engine → Engine) : (s.updEngine k f).heldOut = s.heldOut := rfl
@[simp] theorem State.updEngine_lateReports (s : State) (k : Fin 8) (f : Engine → Engine) : (s.updEngine k f).lateReports = s.lateReports := rfl
@[simp] theorem State.updEngine_zones (s : State) (k : Fin 8) (f : Engine → Engine) : (s.updEngine k f).zones = s.zones := rfl
@[simp] theorem State.updEngine_templates (s : State) (k : Fin 8) (f : Engine → Engine) : (s.updEngine k f).templates = s.templates := rfl
@[simp] theorem State.updEngine_tiles (s : State) (k : Fin 8) (f : Engine → Engine) : (s.updEngine k f).tiles = s.tiles := rfl
@[simp] theorem State.updEngine_tplGen (s : State) (k : Fin 8) (f : Engine → Engine) : (s.updEngine k f).tplGen = s.tplGen := rfl
@[simp] theorem State.updEngine_tplFree (s : State) (k : Fin 8) (f : Engine → Engine) : (s.updEngine k f).tplFree = s.tplFree := rfl
@[simp] theorem State.updEngine_tplNext (s : State) (k : Fin 8) (f : Engine → Engine) : (s.updEngine k f).tplNext = s.tplNext := rfl
@[simp] theorem State.updEngine_tileGen (s : State) (k : Fin 8) (f : Engine → Engine) : (s.updEngine k f).tileGen = s.tileGen := rfl
@[simp] theorem State.updEngine_tileFree (s : State) (k : Fin 8) (f : Engine → Engine) : (s.updEngine k f).tileFree = s.tileFree := rfl
@[simp] theorem State.updEngine_tileNext (s : State) (k : Fin 8) (f : Engine → Engine) : (s.updEngine k f).tileNext = s.tileNext := rfl
@[simp] theorem State.updEngine_dram (s : State) (k : Fin 8) (f : Engine → Engine) : (s.updEngine k f).dram = s.dram := rfl
@[simp] theorem State.updEngine_stream (s : State) (k : Fin 8) (f : Engine → Engine) : (s.updEngine k f).stream = s.stream := rfl
@[simp] theorem State.updEngine_writeLoad (s : State) (k : Fin 8) (f : Engine → Engine) : (s.updEngine k f).writeLoad = s.writeLoad := rfl
@[simp] theorem State.updEngine_writeAt (s : State) (k : Fin 8) (f : Engine → Engine) : (s.updEngine k f).writeAt = s.writeAt := rfl
@[simp] theorem State.updEngine_dataErrors (s : State) (k : Fin 8) (f : Engine → Engine) : (s.updEngine k f).dataErrors = s.dataErrors := rfl
@[simp] theorem State.updEngine_streamDiscards (s : State) (k : Fin 8) (f : Engine → Engine) : (s.updEngine k f).streamDiscards = s.streamDiscards := rfl
@[simp] theorem State.updEngine_heads (s : State) (k : Fin 8) (f : Engine → Engine) : (s.updEngine k f).heads = s.heads := rfl
@[simp] theorem State.updEngine_stampNo (s : State) (k : Fin 8) (f : Engine → Engine) : (s.updEngine k f).stampNo = s.stampNo := rfl
@[simp] theorem State.updEngine_chains (s : State) (k : Fin 8) (f : Engine → Engine) : (s.updEngine k f).chains = s.chains := rfl
@[simp] theorem State.updEngine_ports (s : State) (k : Fin 8) (f : Engine → Engine) : (s.updEngine k f).ports = s.ports := rfl
@[simp] theorem State.updEngine_events (s : State) (k : Fin 8) (f : Engine → Engine) : (s.updEngine k f).events = s.events := rfl
@[simp] theorem State.updEngine_lost (s : State) (k : Fin 8) (f : Engine → Engine) : (s.updEngine k f).lost = s.lost := rfl
@[simp] theorem State.updEngine_lostRun (s : State) (k : Fin 8) (f : Engine → Engine) : (s.updEngine k f).lostRun = s.lostRun := rfl
@[simp] theorem State.updEngine_lostFirst (s : State) (k : Fin 8) (f : Engine → Engine) : (s.updEngine k f).lostFirst = s.lostFirst := rfl
@[simp] theorem State.updEngine_lostLast (s : State) (k : Fin 8) (f : Engine → Engine) : (s.updEngine k f).lostLast = s.lostLast := rfl
@[simp] theorem State.updEngine_opSeconds (s : State) (k : Fin 8) (f : Engine → Engine) : (s.updEngine k f).opSeconds = s.opSeconds := rfl
@[simp] theorem State.updEngine_powerCycles (s : State) (k : Fin 8) (f : Engine → Engine) : (s.updEngine k f).powerCycles = s.powerCycles := rfl
@[simp] theorem State.updEngine_calendar (s : State) (k : Fin 8) (f : Engine → Engine) : (s.updEngine k f).calendar = s.calendar := rfl
@[simp] theorem State.updEngine_calValid (s : State) (k : Fin 8) (f : Engine → Engine) : (s.updEngine k f).calValid = s.calValid := rfl
@[simp] theorem State.updEngine_opAt (s : State) (k : Fin 8) (f : Engine → Engine) : (s.updEngine k f).opAt = s.opAt := rfl
@[simp] theorem State.updEngine_opStored (s : State) (k : Fin 8) (f : Engine → Engine) : (s.updEngine k f).opStored = s.opStored := rfl
@[simp] theorem State.updEngine_calAt (s : State) (k : Fin 8) (f : Engine → Engine) : (s.updEngine k f).calAt = s.calAt := rfl
@[simp] theorem State.updEngine_calFreq (s : State) (k : Fin 8) (f : Engine → Engine) : (s.updEngine k f).calFreq = s.calFreq := rfl
@[simp] theorem State.updEngine_calCorr (s : State) (k : Fin 8) (f : Engine → Engine) : (s.updEngine k f).calCorr = s.calCorr := rfl
@[simp] theorem State.updEngine_calOff (s : State) (k : Fin 8) (f : Engine → Engine) : (s.updEngine k f).calOff = s.calOff := rfl
@[simp] theorem State.updEngine_calRun (s : State) (k : Fin 8) (f : Engine → Engine) : (s.updEngine k f).calRun = s.calRun := rfl
@[simp] theorem State.updEngine_cmdStat (s : State) (k : Fin 8) (f : Engine → Engine) : (s.updEngine k f).cmdStat = s.cmdStat := rfl
@[simp] theorem State.updEngine_sessions (s : State) (k : Fin 8) (f : Engine → Engine) : (s.updEngine k f).sessions = s.sessions := rfl
@[simp] theorem State.updEngine_sessFree (s : State) (k : Fin 8) (f : Engine → Engine) : (s.updEngine k f).sessFree = s.sessFree := rfl
@[simp] theorem State.updEngine_shakes (s : State) (k : Fin 8) (f : Engine → Engine) : (s.updEngine k f).shakes = s.shakes := rfl
@[simp] theorem State.updEngine_refusals (s : State) (k : Fin 8) (f : Engine → Engine) : (s.updEngine k f).refusals = s.refusals := rfl
@[simp] theorem State.updEngine_authFails (s : State) (k : Fin 8) (f : Engine → Engine) : (s.updEngine k f).authFails = s.authFails := rfl
@[simp] theorem State.updEngine_replays (s : State) (k : Fin 8) (f : Engine → Engine) : (s.updEngine k f).replays = s.replays := rfl
@[simp] theorem State.updEngine_staleSess (s : State) (k : Fin 8) (f : Engine → Engine) : (s.updEngine k f).staleSess = s.staleSess := rfl
@[simp] theorem State.updEngine_malformed (s : State) (k : Fin 8) (f : Engine → Engine) : (s.updEngine k f).malformed = s.malformed := rfl
@[simp] theorem State.updEngine_hports (s : State) (k : Fin 8) (f : Engine → Engine) : (s.updEngine k f).hports = s.hports := rfl
@[simp] theorem State.updEngine_ptp (s : State) (k : Fin 8) (f : Engine → Engine) : (s.updEngine k f).ptp = s.ptp := rfl
@[simp] theorem State.updEngine_txs (s : State) (k : Fin 8) (f : Engine → Engine) : (s.updEngine k f).txs = s.txs := rfl
@[simp] theorem State.updEngine_txClock (s : State) (k : Fin 8) (f : Engine → Engine) : (s.updEngine k f).txClock = s.txClock := rfl
@[simp] theorem State.updEngine_conflicts (s : State) (k : Fin 8) (f : Engine → Engine) : (s.updEngine k f).conflicts = s.conflicts := rfl
@[simp] theorem State.updEngine_staleTx (s : State) (k : Fin 8) (f : Engine → Engine) : (s.updEngine k f).staleTx = s.staleTx := rfl
@[simp] theorem State.updEngine_cans (s : State) (k : Fin 8) (f : Engine → Engine) : (s.updEngine k f).cans = s.cans := rfl
@[simp] theorem State.updEngine_banks (s : State) (k : Fin 8) (f : Engine → Engine) : (s.updEngine k f).banks = s.banks := rfl
@[simp] theorem State.updEngine_erases (s : State) (k : Fin 8) (f : Engine → Engine) : (s.updEngine k f).erases = s.erases := rfl
@[simp] theorem State.updEngine_activeBank (s : State) (k : Fin 8) (f : Engine → Engine) : (s.updEngine k f).activeBank = s.activeBank := rfl
@[simp] theorem State.updEngine_save (s : State) (k : Fin 8) (f : Engine → Engine) : (s.updEngine k f).save = s.save := rfl
@[simp] theorem State.updEngine_loadResult (s : State) (k : Fin 8) (f : Engine → Engine) : (s.updEngine k f).loadResult = s.loadResult := rfl
@[simp] theorem State.updEngine_skipped (s : State) (k : Fin 8) (f : Engine → Engine) : (s.updEngine k f).skipped = s.skipped := rfl
@[simp] theorem State.updEngine_engines (s : State) (k : Fin 8) (f : Engine → Engine) : (s.updEngine k f).engines = vupd s.engines k f := rfl
@[simp] theorem State.updEngine_patches (s : State) (k : Fin 8) (f : Engine → Engine) : (s.updEngine k f).patches = s.patches := rfl
@[simp] theorem State.updEngine_arrays (s : State) (k : Fin 8) (f : Engine → Engine) : (s.updEngine k f).arrays = s.arrays := rfl
@[simp] theorem State.updEngine_idle (s : State) (k : Fin 8) (f : Engine → Engine) : (s.updEngine k f).idle = s.idle := rfl
@[simp] theorem State.updEngine_chans (s : State) (k : Fin 8) (f : Engine → Engine) : (s.updEngine k f).chans = s.chans := rfl
@[simp] theorem State.updEngine_marks (s : State) (k : Fin 8) (f : Engine → Engine) : (s.updEngine k f).marks = s.marks := rfl
@[simp] theorem State.updEngine_switches (s : State) (k : Fin 8) (f : Engine → Engine) : (s.updEngine k f).switches = s.switches := rfl
@[simp] theorem State.updEngine_gates (s : State) (k : Fin 8) (f : Engine → Engine) : (s.updEngine k f).gates = s.gates := rfl
@[simp] theorem State.updEngine_axes (s : State) (k : Fin 8) (f : Engine → Engine) : (s.updEngine k f).axes = s.axes := rfl
@[simp] theorem State.updEngine_groups (s : State) (k : Fin 8) (f : Engine → Engine) : (s.updEngine k f).groups = s.groups := rfl
@[simp] theorem State.updEngine_sync (s : State) (k : Fin 8) (f : Engine → Engine) : (s.updEngine k f).sync = s.sync := rfl
@[simp] theorem State.updEngine_bpos (s : State) (k : Fin 8) (f : Engine → Engine) : (s.updEngine k f).bpos = s.bpos := rfl
@[simp] theorem State.updEngine_devState (s : State) (k : Fin 8) (f : Engine → Engine) : (s.updEngine k f).devState = s.devState := rfl
@[simp] theorem State.updEngine_lifeCycle (s : State) (k : Fin 8) (f : Engine → Engine) : (s.updEngine k f).lifeCycle = s.lifeCycle := rfl
@[simp] theorem State.updEngine_serial (s : State) (k : Fin 8) (f : Engine → Engine) : (s.updEngine k f).serial = s.serial := rfl
@[simp] theorem State.updEngine_toggles (s : State) (k : Fin 8) (f : Engine → Engine) : (s.updEngine k f).toggles = s.toggles := rfl
@[simp] theorem State.updEngine_fuses (s : State) (k : Fin 8) (f : Engine → Engine) : (s.updEngine k f).fuses = s.fuses := rfl
@[simp] theorem State.updEngine_lcPending (s : State) (k : Fin 8) (f : Engine → Engine) : (s.updEngine k f).lcPending = s.lcPending := rfl
@[simp] theorem State.updEngine_cocoon (s : State) (k : Fin 8) (f : Engine → Engine) : (s.updEngine k f).cocoon = s.cocoon := rfl
@[simp] theorem State.updEngine_tamper (s : State) (k : Fin 8) (f : Engine → Engine) : (s.updEngine k f).tamper = s.tamper := rfl
@[simp] theorem State.updEngine_enc (s : State) (k : Fin 8) (f : Engine → Engine) : (s.updEngine k f).enc = s.enc := rfl
@[simp] theorem State.updEngine_lanes (s : State) (k : Fin 8) (f : Engine → Engine) : (s.updEngine k f).lanes = s.lanes := rfl
@[simp] theorem State.updEngine_due (s : State) (k : Fin 8) (f : Engine → Engine) : (s.updEngine k f).due = s.due := rfl
@[simp] theorem State.updEngine_reqs (s : State) (k : Fin 8) (f : Engine → Engine) : (s.updEngine k f).reqs = s.reqs := rfl
@[simp] theorem State.updEngine_mem (s : State) (k : Fin 8) (f : Engine → Engine) : (s.updEngine k f).mem = s.mem := rfl
@[simp] theorem State.updEngine_recorder (s : State) (k : Fin 8) (f : Engine → Engine) : (s.updEngine k f).recorder = s.recorder := rfl
@[simp] theorem State.updEngine_snap (s : State) (k : Fin 8) (f : Engine → Engine) : (s.updEngine k f).snap = s.snap := rfl
@[simp] theorem State.updEngine_domains (s : State) (k : Fin 8) (f : Engine → Engine) : (s.updEngine k f).domains = s.domains := rfl
@[simp] theorem State.updEngine_power (s : State) (k : Fin 8) (f : Engine → Engine) : (s.updEngine k f).power = s.power := rfl

/-! `updCal` -/

@[simp] theorem State.updCal_ft (s : State) (c : Fin 4) (f : EncCal → EncCal) : (s.updCal c f).ft = s.ft := rfl
@[simp] theorem State.updCal_pending (s : State) (c : Fin 4) (f : EncCal → EncCal) : (s.updCal c f).pending = s.pending := rfl
@[simp] theorem State.updCal_origin (s : State) (c : Fin 4) (f : EncCal → EncCal) : (s.updCal c f).origin = s.origin := rfl
@[simp] theorem State.updCal_waiting (s : State) (c : Fin 4) (f : EncCal → EncCal) : (s.updCal c f).waiting = s.waiting := rfl
@[simp] theorem State.updCal_resumed (s : State) (c : Fin 4) (f : EncCal → EncCal) : (s.updCal c f).resumed = s.resumed := rfl
@[simp] theorem State.updCal_free (s : State) (c : Fin 4) (f : EncCal → EncCal) : (s.updCal c f).free = s.free := rfl
@[simp] theorem State.updCal_out (s : State) (c : Fin 4) (f : EncCal → EncCal) : (s.updCal c f).out = s.out := rfl
@[simp] theorem State.updCal_obj (s : State) (c : Fin 4) (f : EncCal → EncCal) : (s.updCal c f).obj = s.obj := rfl
@[simp] theorem State.updCal_ver (s : State) (c : Fin 4) (f : EncCal → EncCal) : (s.updCal c f).ver = s.ver := rfl
@[simp] theorem State.updCal_verAt (s : State) (c : Fin 4) (f : EncCal → EncCal) : (s.updCal c f).verAt = s.verAt := rfl
@[simp] theorem State.updCal_restartObj (s : State) (c : Fin 4) (f : EncCal → EncCal) : (s.updCal c f).restartObj = s.restartObj := rfl
@[simp] theorem State.updCal_items (s : State) (c : Fin 4) (f : EncCal → EncCal) : (s.updCal c f).items = s.items := rfl
@[simp] theorem State.updCal_gens (s : State) (c : Fin 4) (f : EncCal → EncCal) : (s.updCal c f).gens = s.gens := rfl
@[simp] theorem State.updCal_freeSlots (s : State) (c : Fin 4) (f : EncCal → EncCal) : (s.updCal c f).freeSlots = s.freeSlots := rfl
@[simp] theorem State.updCal_slotZone (s : State) (c : Fin 4) (f : EncCal → EncCal) : (s.updCal c f).slotZone = s.slotZone := rfl
@[simp] theorem State.updCal_notices (s : State) (c : Fin 4) (f : EncCal → EncCal) : (s.updCal c f).notices = s.notices := rfl
@[simp] theorem State.updCal_noticesSent (s : State) (c : Fin 4) (f : EncCal → EncCal) : (s.updCal c f).noticesSent = s.noticesSent := rfl
@[simp] theorem State.updCal_heldOut (s : State) (c : Fin 4) (f : EncCal → EncCal) : (s.updCal c f).heldOut = s.heldOut := rfl
@[simp] theorem State.updCal_lateReports (s : State) (c : Fin 4) (f : EncCal → EncCal) : (s.updCal c f).lateReports = s.lateReports := rfl
@[simp] theorem State.updCal_zones (s : State) (c : Fin 4) (f : EncCal → EncCal) : (s.updCal c f).zones = s.zones := rfl
@[simp] theorem State.updCal_templates (s : State) (c : Fin 4) (f : EncCal → EncCal) : (s.updCal c f).templates = s.templates := rfl
@[simp] theorem State.updCal_tiles (s : State) (c : Fin 4) (f : EncCal → EncCal) : (s.updCal c f).tiles = s.tiles := rfl
@[simp] theorem State.updCal_tplGen (s : State) (c : Fin 4) (f : EncCal → EncCal) : (s.updCal c f).tplGen = s.tplGen := rfl
@[simp] theorem State.updCal_tplFree (s : State) (c : Fin 4) (f : EncCal → EncCal) : (s.updCal c f).tplFree = s.tplFree := rfl
@[simp] theorem State.updCal_tplNext (s : State) (c : Fin 4) (f : EncCal → EncCal) : (s.updCal c f).tplNext = s.tplNext := rfl
@[simp] theorem State.updCal_tileGen (s : State) (c : Fin 4) (f : EncCal → EncCal) : (s.updCal c f).tileGen = s.tileGen := rfl
@[simp] theorem State.updCal_tileFree (s : State) (c : Fin 4) (f : EncCal → EncCal) : (s.updCal c f).tileFree = s.tileFree := rfl
@[simp] theorem State.updCal_tileNext (s : State) (c : Fin 4) (f : EncCal → EncCal) : (s.updCal c f).tileNext = s.tileNext := rfl
@[simp] theorem State.updCal_dram (s : State) (c : Fin 4) (f : EncCal → EncCal) : (s.updCal c f).dram = s.dram := rfl
@[simp] theorem State.updCal_stream (s : State) (c : Fin 4) (f : EncCal → EncCal) : (s.updCal c f).stream = s.stream := rfl
@[simp] theorem State.updCal_writeLoad (s : State) (c : Fin 4) (f : EncCal → EncCal) : (s.updCal c f).writeLoad = s.writeLoad := rfl
@[simp] theorem State.updCal_writeAt (s : State) (c : Fin 4) (f : EncCal → EncCal) : (s.updCal c f).writeAt = s.writeAt := rfl
@[simp] theorem State.updCal_dataErrors (s : State) (c : Fin 4) (f : EncCal → EncCal) : (s.updCal c f).dataErrors = s.dataErrors := rfl
@[simp] theorem State.updCal_streamDiscards (s : State) (c : Fin 4) (f : EncCal → EncCal) : (s.updCal c f).streamDiscards = s.streamDiscards := rfl
@[simp] theorem State.updCal_heads (s : State) (c : Fin 4) (f : EncCal → EncCal) : (s.updCal c f).heads = s.heads := rfl
@[simp] theorem State.updCal_stampNo (s : State) (c : Fin 4) (f : EncCal → EncCal) : (s.updCal c f).stampNo = s.stampNo := rfl
@[simp] theorem State.updCal_chains (s : State) (c : Fin 4) (f : EncCal → EncCal) : (s.updCal c f).chains = s.chains := rfl
@[simp] theorem State.updCal_ports (s : State) (c : Fin 4) (f : EncCal → EncCal) : (s.updCal c f).ports = s.ports := rfl
@[simp] theorem State.updCal_events (s : State) (c : Fin 4) (f : EncCal → EncCal) : (s.updCal c f).events = s.events := rfl
@[simp] theorem State.updCal_lost (s : State) (c : Fin 4) (f : EncCal → EncCal) : (s.updCal c f).lost = s.lost := rfl
@[simp] theorem State.updCal_lostRun (s : State) (c : Fin 4) (f : EncCal → EncCal) : (s.updCal c f).lostRun = s.lostRun := rfl
@[simp] theorem State.updCal_lostFirst (s : State) (c : Fin 4) (f : EncCal → EncCal) : (s.updCal c f).lostFirst = s.lostFirst := rfl
@[simp] theorem State.updCal_lostLast (s : State) (c : Fin 4) (f : EncCal → EncCal) : (s.updCal c f).lostLast = s.lostLast := rfl
@[simp] theorem State.updCal_opSeconds (s : State) (c : Fin 4) (f : EncCal → EncCal) : (s.updCal c f).opSeconds = s.opSeconds := rfl
@[simp] theorem State.updCal_powerCycles (s : State) (c : Fin 4) (f : EncCal → EncCal) : (s.updCal c f).powerCycles = s.powerCycles := rfl
@[simp] theorem State.updCal_calendar (s : State) (c : Fin 4) (f : EncCal → EncCal) : (s.updCal c f).calendar = s.calendar := rfl
@[simp] theorem State.updCal_calValid (s : State) (c : Fin 4) (f : EncCal → EncCal) : (s.updCal c f).calValid = s.calValid := rfl
@[simp] theorem State.updCal_opAt (s : State) (c : Fin 4) (f : EncCal → EncCal) : (s.updCal c f).opAt = s.opAt := rfl
@[simp] theorem State.updCal_opStored (s : State) (c : Fin 4) (f : EncCal → EncCal) : (s.updCal c f).opStored = s.opStored := rfl
@[simp] theorem State.updCal_calAt (s : State) (c : Fin 4) (f : EncCal → EncCal) : (s.updCal c f).calAt = s.calAt := rfl
@[simp] theorem State.updCal_calFreq (s : State) (c : Fin 4) (f : EncCal → EncCal) : (s.updCal c f).calFreq = s.calFreq := rfl
@[simp] theorem State.updCal_calCorr (s : State) (c : Fin 4) (f : EncCal → EncCal) : (s.updCal c f).calCorr = s.calCorr := rfl
@[simp] theorem State.updCal_calOff (s : State) (c : Fin 4) (f : EncCal → EncCal) : (s.updCal c f).calOff = s.calOff := rfl
@[simp] theorem State.updCal_calRun (s : State) (c : Fin 4) (f : EncCal → EncCal) : (s.updCal c f).calRun = s.calRun := rfl
@[simp] theorem State.updCal_cmdStat (s : State) (c : Fin 4) (f : EncCal → EncCal) : (s.updCal c f).cmdStat = s.cmdStat := rfl
@[simp] theorem State.updCal_sessions (s : State) (c : Fin 4) (f : EncCal → EncCal) : (s.updCal c f).sessions = s.sessions := rfl
@[simp] theorem State.updCal_sessFree (s : State) (c : Fin 4) (f : EncCal → EncCal) : (s.updCal c f).sessFree = s.sessFree := rfl
@[simp] theorem State.updCal_shakes (s : State) (c : Fin 4) (f : EncCal → EncCal) : (s.updCal c f).shakes = s.shakes := rfl
@[simp] theorem State.updCal_refusals (s : State) (c : Fin 4) (f : EncCal → EncCal) : (s.updCal c f).refusals = s.refusals := rfl
@[simp] theorem State.updCal_authFails (s : State) (c : Fin 4) (f : EncCal → EncCal) : (s.updCal c f).authFails = s.authFails := rfl
@[simp] theorem State.updCal_replays (s : State) (c : Fin 4) (f : EncCal → EncCal) : (s.updCal c f).replays = s.replays := rfl
@[simp] theorem State.updCal_staleSess (s : State) (c : Fin 4) (f : EncCal → EncCal) : (s.updCal c f).staleSess = s.staleSess := rfl
@[simp] theorem State.updCal_malformed (s : State) (c : Fin 4) (f : EncCal → EncCal) : (s.updCal c f).malformed = s.malformed := rfl
@[simp] theorem State.updCal_hports (s : State) (c : Fin 4) (f : EncCal → EncCal) : (s.updCal c f).hports = s.hports := rfl
@[simp] theorem State.updCal_ptp (s : State) (c : Fin 4) (f : EncCal → EncCal) : (s.updCal c f).ptp = s.ptp := rfl
@[simp] theorem State.updCal_txs (s : State) (c : Fin 4) (f : EncCal → EncCal) : (s.updCal c f).txs = s.txs := rfl
@[simp] theorem State.updCal_txClock (s : State) (c : Fin 4) (f : EncCal → EncCal) : (s.updCal c f).txClock = s.txClock := rfl
@[simp] theorem State.updCal_conflicts (s : State) (c : Fin 4) (f : EncCal → EncCal) : (s.updCal c f).conflicts = s.conflicts := rfl
@[simp] theorem State.updCal_staleTx (s : State) (c : Fin 4) (f : EncCal → EncCal) : (s.updCal c f).staleTx = s.staleTx := rfl
@[simp] theorem State.updCal_cans (s : State) (c : Fin 4) (f : EncCal → EncCal) : (s.updCal c f).cans = s.cans := rfl
@[simp] theorem State.updCal_banks (s : State) (c : Fin 4) (f : EncCal → EncCal) : (s.updCal c f).banks = s.banks := rfl
@[simp] theorem State.updCal_erases (s : State) (c : Fin 4) (f : EncCal → EncCal) : (s.updCal c f).erases = s.erases := rfl
@[simp] theorem State.updCal_activeBank (s : State) (c : Fin 4) (f : EncCal → EncCal) : (s.updCal c f).activeBank = s.activeBank := rfl
@[simp] theorem State.updCal_save (s : State) (c : Fin 4) (f : EncCal → EncCal) : (s.updCal c f).save = s.save := rfl
@[simp] theorem State.updCal_loadResult (s : State) (c : Fin 4) (f : EncCal → EncCal) : (s.updCal c f).loadResult = s.loadResult := rfl
@[simp] theorem State.updCal_skipped (s : State) (c : Fin 4) (f : EncCal → EncCal) : (s.updCal c f).skipped = s.skipped := rfl
@[simp] theorem State.updCal_engines (s : State) (c : Fin 4) (f : EncCal → EncCal) : (s.updCal c f).engines = s.engines := rfl
@[simp] theorem State.updCal_patches (s : State) (c : Fin 4) (f : EncCal → EncCal) : (s.updCal c f).patches = s.patches := rfl
@[simp] theorem State.updCal_arrays (s : State) (c : Fin 4) (f : EncCal → EncCal) : (s.updCal c f).arrays = s.arrays := rfl
@[simp] theorem State.updCal_idle (s : State) (c : Fin 4) (f : EncCal → EncCal) : (s.updCal c f).idle = s.idle := rfl
@[simp] theorem State.updCal_chans (s : State) (c : Fin 4) (f : EncCal → EncCal) : (s.updCal c f).chans = s.chans := rfl
@[simp] theorem State.updCal_marks (s : State) (c : Fin 4) (f : EncCal → EncCal) : (s.updCal c f).marks = s.marks := rfl
@[simp] theorem State.updCal_switches (s : State) (c : Fin 4) (f : EncCal → EncCal) : (s.updCal c f).switches = s.switches := rfl
@[simp] theorem State.updCal_gates (s : State) (c : Fin 4) (f : EncCal → EncCal) : (s.updCal c f).gates = s.gates := rfl
@[simp] theorem State.updCal_axes (s : State) (c : Fin 4) (f : EncCal → EncCal) : (s.updCal c f).axes = s.axes := rfl
@[simp] theorem State.updCal_groups (s : State) (c : Fin 4) (f : EncCal → EncCal) : (s.updCal c f).groups = s.groups := rfl
@[simp] theorem State.updCal_sync (s : State) (c : Fin 4) (f : EncCal → EncCal) : (s.updCal c f).sync = s.sync := rfl
@[simp] theorem State.updCal_bpos (s : State) (c : Fin 4) (f : EncCal → EncCal) : (s.updCal c f).bpos = s.bpos := rfl
@[simp] theorem State.updCal_devState (s : State) (c : Fin 4) (f : EncCal → EncCal) : (s.updCal c f).devState = s.devState := rfl
@[simp] theorem State.updCal_lifeCycle (s : State) (c : Fin 4) (f : EncCal → EncCal) : (s.updCal c f).lifeCycle = s.lifeCycle := rfl
@[simp] theorem State.updCal_serial (s : State) (c : Fin 4) (f : EncCal → EncCal) : (s.updCal c f).serial = s.serial := rfl
@[simp] theorem State.updCal_toggles (s : State) (c : Fin 4) (f : EncCal → EncCal) : (s.updCal c f).toggles = s.toggles := rfl
@[simp] theorem State.updCal_fuses (s : State) (c : Fin 4) (f : EncCal → EncCal) : (s.updCal c f).fuses = s.fuses := rfl
@[simp] theorem State.updCal_lcPending (s : State) (c : Fin 4) (f : EncCal → EncCal) : (s.updCal c f).lcPending = s.lcPending := rfl
@[simp] theorem State.updCal_cocoon (s : State) (c : Fin 4) (f : EncCal → EncCal) : (s.updCal c f).cocoon = s.cocoon := rfl
@[simp] theorem State.updCal_tamper (s : State) (c : Fin 4) (f : EncCal → EncCal) : (s.updCal c f).tamper = s.tamper := rfl
@[simp] theorem State.updCal_enc (s : State) (c : Fin 4) (f : EncCal → EncCal) : (s.updCal c f).enc = vupd s.enc c f := rfl
@[simp] theorem State.updCal_lanes (s : State) (c : Fin 4) (f : EncCal → EncCal) : (s.updCal c f).lanes = s.lanes := rfl
@[simp] theorem State.updCal_due (s : State) (c : Fin 4) (f : EncCal → EncCal) : (s.updCal c f).due = s.due := rfl
@[simp] theorem State.updCal_reqs (s : State) (c : Fin 4) (f : EncCal → EncCal) : (s.updCal c f).reqs = s.reqs := rfl
@[simp] theorem State.updCal_mem (s : State) (c : Fin 4) (f : EncCal → EncCal) : (s.updCal c f).mem = s.mem := rfl
@[simp] theorem State.updCal_recorder (s : State) (c : Fin 4) (f : EncCal → EncCal) : (s.updCal c f).recorder = s.recorder := rfl
@[simp] theorem State.updCal_snap (s : State) (c : Fin 4) (f : EncCal → EncCal) : (s.updCal c f).snap = s.snap := rfl
@[simp] theorem State.updCal_domains (s : State) (c : Fin 4) (f : EncCal → EncCal) : (s.updCal c f).domains = s.domains := rfl
@[simp] theorem State.updCal_power (s : State) (c : Fin 4) (f : EncCal → EncCal) : (s.updCal c f).power = s.power := rfl

/-! `updLane` -/

@[simp] theorem State.updLane_ft (s : State) (l : Fin 16) (f : LaneCal → LaneCal) : (s.updLane l f).ft = s.ft := rfl
@[simp] theorem State.updLane_pending (s : State) (l : Fin 16) (f : LaneCal → LaneCal) : (s.updLane l f).pending = s.pending := rfl
@[simp] theorem State.updLane_origin (s : State) (l : Fin 16) (f : LaneCal → LaneCal) : (s.updLane l f).origin = s.origin := rfl
@[simp] theorem State.updLane_waiting (s : State) (l : Fin 16) (f : LaneCal → LaneCal) : (s.updLane l f).waiting = s.waiting := rfl
@[simp] theorem State.updLane_resumed (s : State) (l : Fin 16) (f : LaneCal → LaneCal) : (s.updLane l f).resumed = s.resumed := rfl
@[simp] theorem State.updLane_free (s : State) (l : Fin 16) (f : LaneCal → LaneCal) : (s.updLane l f).free = s.free := rfl
@[simp] theorem State.updLane_out (s : State) (l : Fin 16) (f : LaneCal → LaneCal) : (s.updLane l f).out = s.out := rfl
@[simp] theorem State.updLane_obj (s : State) (l : Fin 16) (f : LaneCal → LaneCal) : (s.updLane l f).obj = s.obj := rfl
@[simp] theorem State.updLane_ver (s : State) (l : Fin 16) (f : LaneCal → LaneCal) : (s.updLane l f).ver = s.ver := rfl
@[simp] theorem State.updLane_verAt (s : State) (l : Fin 16) (f : LaneCal → LaneCal) : (s.updLane l f).verAt = s.verAt := rfl
@[simp] theorem State.updLane_restartObj (s : State) (l : Fin 16) (f : LaneCal → LaneCal) : (s.updLane l f).restartObj = s.restartObj := rfl
@[simp] theorem State.updLane_items (s : State) (l : Fin 16) (f : LaneCal → LaneCal) : (s.updLane l f).items = s.items := rfl
@[simp] theorem State.updLane_gens (s : State) (l : Fin 16) (f : LaneCal → LaneCal) : (s.updLane l f).gens = s.gens := rfl
@[simp] theorem State.updLane_freeSlots (s : State) (l : Fin 16) (f : LaneCal → LaneCal) : (s.updLane l f).freeSlots = s.freeSlots := rfl
@[simp] theorem State.updLane_slotZone (s : State) (l : Fin 16) (f : LaneCal → LaneCal) : (s.updLane l f).slotZone = s.slotZone := rfl
@[simp] theorem State.updLane_notices (s : State) (l : Fin 16) (f : LaneCal → LaneCal) : (s.updLane l f).notices = s.notices := rfl
@[simp] theorem State.updLane_noticesSent (s : State) (l : Fin 16) (f : LaneCal → LaneCal) : (s.updLane l f).noticesSent = s.noticesSent := rfl
@[simp] theorem State.updLane_heldOut (s : State) (l : Fin 16) (f : LaneCal → LaneCal) : (s.updLane l f).heldOut = s.heldOut := rfl
@[simp] theorem State.updLane_lateReports (s : State) (l : Fin 16) (f : LaneCal → LaneCal) : (s.updLane l f).lateReports = s.lateReports := rfl
@[simp] theorem State.updLane_zones (s : State) (l : Fin 16) (f : LaneCal → LaneCal) : (s.updLane l f).zones = s.zones := rfl
@[simp] theorem State.updLane_templates (s : State) (l : Fin 16) (f : LaneCal → LaneCal) : (s.updLane l f).templates = s.templates := rfl
@[simp] theorem State.updLane_tiles (s : State) (l : Fin 16) (f : LaneCal → LaneCal) : (s.updLane l f).tiles = s.tiles := rfl
@[simp] theorem State.updLane_tplGen (s : State) (l : Fin 16) (f : LaneCal → LaneCal) : (s.updLane l f).tplGen = s.tplGen := rfl
@[simp] theorem State.updLane_tplFree (s : State) (l : Fin 16) (f : LaneCal → LaneCal) : (s.updLane l f).tplFree = s.tplFree := rfl
@[simp] theorem State.updLane_tplNext (s : State) (l : Fin 16) (f : LaneCal → LaneCal) : (s.updLane l f).tplNext = s.tplNext := rfl
@[simp] theorem State.updLane_tileGen (s : State) (l : Fin 16) (f : LaneCal → LaneCal) : (s.updLane l f).tileGen = s.tileGen := rfl
@[simp] theorem State.updLane_tileFree (s : State) (l : Fin 16) (f : LaneCal → LaneCal) : (s.updLane l f).tileFree = s.tileFree := rfl
@[simp] theorem State.updLane_tileNext (s : State) (l : Fin 16) (f : LaneCal → LaneCal) : (s.updLane l f).tileNext = s.tileNext := rfl
@[simp] theorem State.updLane_dram (s : State) (l : Fin 16) (f : LaneCal → LaneCal) : (s.updLane l f).dram = s.dram := rfl
@[simp] theorem State.updLane_stream (s : State) (l : Fin 16) (f : LaneCal → LaneCal) : (s.updLane l f).stream = s.stream := rfl
@[simp] theorem State.updLane_writeLoad (s : State) (l : Fin 16) (f : LaneCal → LaneCal) : (s.updLane l f).writeLoad = s.writeLoad := rfl
@[simp] theorem State.updLane_writeAt (s : State) (l : Fin 16) (f : LaneCal → LaneCal) : (s.updLane l f).writeAt = s.writeAt := rfl
@[simp] theorem State.updLane_dataErrors (s : State) (l : Fin 16) (f : LaneCal → LaneCal) : (s.updLane l f).dataErrors = s.dataErrors := rfl
@[simp] theorem State.updLane_streamDiscards (s : State) (l : Fin 16) (f : LaneCal → LaneCal) : (s.updLane l f).streamDiscards = s.streamDiscards := rfl
@[simp] theorem State.updLane_heads (s : State) (l : Fin 16) (f : LaneCal → LaneCal) : (s.updLane l f).heads = s.heads := rfl
@[simp] theorem State.updLane_stampNo (s : State) (l : Fin 16) (f : LaneCal → LaneCal) : (s.updLane l f).stampNo = s.stampNo := rfl
@[simp] theorem State.updLane_chains (s : State) (l : Fin 16) (f : LaneCal → LaneCal) : (s.updLane l f).chains = s.chains := rfl
@[simp] theorem State.updLane_ports (s : State) (l : Fin 16) (f : LaneCal → LaneCal) : (s.updLane l f).ports = s.ports := rfl
@[simp] theorem State.updLane_events (s : State) (l : Fin 16) (f : LaneCal → LaneCal) : (s.updLane l f).events = s.events := rfl
@[simp] theorem State.updLane_lost (s : State) (l : Fin 16) (f : LaneCal → LaneCal) : (s.updLane l f).lost = s.lost := rfl
@[simp] theorem State.updLane_lostRun (s : State) (l : Fin 16) (f : LaneCal → LaneCal) : (s.updLane l f).lostRun = s.lostRun := rfl
@[simp] theorem State.updLane_lostFirst (s : State) (l : Fin 16) (f : LaneCal → LaneCal) : (s.updLane l f).lostFirst = s.lostFirst := rfl
@[simp] theorem State.updLane_lostLast (s : State) (l : Fin 16) (f : LaneCal → LaneCal) : (s.updLane l f).lostLast = s.lostLast := rfl
@[simp] theorem State.updLane_opSeconds (s : State) (l : Fin 16) (f : LaneCal → LaneCal) : (s.updLane l f).opSeconds = s.opSeconds := rfl
@[simp] theorem State.updLane_powerCycles (s : State) (l : Fin 16) (f : LaneCal → LaneCal) : (s.updLane l f).powerCycles = s.powerCycles := rfl
@[simp] theorem State.updLane_calendar (s : State) (l : Fin 16) (f : LaneCal → LaneCal) : (s.updLane l f).calendar = s.calendar := rfl
@[simp] theorem State.updLane_calValid (s : State) (l : Fin 16) (f : LaneCal → LaneCal) : (s.updLane l f).calValid = s.calValid := rfl
@[simp] theorem State.updLane_opAt (s : State) (l : Fin 16) (f : LaneCal → LaneCal) : (s.updLane l f).opAt = s.opAt := rfl
@[simp] theorem State.updLane_opStored (s : State) (l : Fin 16) (f : LaneCal → LaneCal) : (s.updLane l f).opStored = s.opStored := rfl
@[simp] theorem State.updLane_calAt (s : State) (l : Fin 16) (f : LaneCal → LaneCal) : (s.updLane l f).calAt = s.calAt := rfl
@[simp] theorem State.updLane_calFreq (s : State) (l : Fin 16) (f : LaneCal → LaneCal) : (s.updLane l f).calFreq = s.calFreq := rfl
@[simp] theorem State.updLane_calCorr (s : State) (l : Fin 16) (f : LaneCal → LaneCal) : (s.updLane l f).calCorr = s.calCorr := rfl
@[simp] theorem State.updLane_calOff (s : State) (l : Fin 16) (f : LaneCal → LaneCal) : (s.updLane l f).calOff = s.calOff := rfl
@[simp] theorem State.updLane_calRun (s : State) (l : Fin 16) (f : LaneCal → LaneCal) : (s.updLane l f).calRun = s.calRun := rfl
@[simp] theorem State.updLane_cmdStat (s : State) (l : Fin 16) (f : LaneCal → LaneCal) : (s.updLane l f).cmdStat = s.cmdStat := rfl
@[simp] theorem State.updLane_sessions (s : State) (l : Fin 16) (f : LaneCal → LaneCal) : (s.updLane l f).sessions = s.sessions := rfl
@[simp] theorem State.updLane_sessFree (s : State) (l : Fin 16) (f : LaneCal → LaneCal) : (s.updLane l f).sessFree = s.sessFree := rfl
@[simp] theorem State.updLane_shakes (s : State) (l : Fin 16) (f : LaneCal → LaneCal) : (s.updLane l f).shakes = s.shakes := rfl
@[simp] theorem State.updLane_refusals (s : State) (l : Fin 16) (f : LaneCal → LaneCal) : (s.updLane l f).refusals = s.refusals := rfl
@[simp] theorem State.updLane_authFails (s : State) (l : Fin 16) (f : LaneCal → LaneCal) : (s.updLane l f).authFails = s.authFails := rfl
@[simp] theorem State.updLane_replays (s : State) (l : Fin 16) (f : LaneCal → LaneCal) : (s.updLane l f).replays = s.replays := rfl
@[simp] theorem State.updLane_staleSess (s : State) (l : Fin 16) (f : LaneCal → LaneCal) : (s.updLane l f).staleSess = s.staleSess := rfl
@[simp] theorem State.updLane_malformed (s : State) (l : Fin 16) (f : LaneCal → LaneCal) : (s.updLane l f).malformed = s.malformed := rfl
@[simp] theorem State.updLane_hports (s : State) (l : Fin 16) (f : LaneCal → LaneCal) : (s.updLane l f).hports = s.hports := rfl
@[simp] theorem State.updLane_ptp (s : State) (l : Fin 16) (f : LaneCal → LaneCal) : (s.updLane l f).ptp = s.ptp := rfl
@[simp] theorem State.updLane_txs (s : State) (l : Fin 16) (f : LaneCal → LaneCal) : (s.updLane l f).txs = s.txs := rfl
@[simp] theorem State.updLane_txClock (s : State) (l : Fin 16) (f : LaneCal → LaneCal) : (s.updLane l f).txClock = s.txClock := rfl
@[simp] theorem State.updLane_conflicts (s : State) (l : Fin 16) (f : LaneCal → LaneCal) : (s.updLane l f).conflicts = s.conflicts := rfl
@[simp] theorem State.updLane_staleTx (s : State) (l : Fin 16) (f : LaneCal → LaneCal) : (s.updLane l f).staleTx = s.staleTx := rfl
@[simp] theorem State.updLane_cans (s : State) (l : Fin 16) (f : LaneCal → LaneCal) : (s.updLane l f).cans = s.cans := rfl
@[simp] theorem State.updLane_banks (s : State) (l : Fin 16) (f : LaneCal → LaneCal) : (s.updLane l f).banks = s.banks := rfl
@[simp] theorem State.updLane_erases (s : State) (l : Fin 16) (f : LaneCal → LaneCal) : (s.updLane l f).erases = s.erases := rfl
@[simp] theorem State.updLane_activeBank (s : State) (l : Fin 16) (f : LaneCal → LaneCal) : (s.updLane l f).activeBank = s.activeBank := rfl
@[simp] theorem State.updLane_save (s : State) (l : Fin 16) (f : LaneCal → LaneCal) : (s.updLane l f).save = s.save := rfl
@[simp] theorem State.updLane_loadResult (s : State) (l : Fin 16) (f : LaneCal → LaneCal) : (s.updLane l f).loadResult = s.loadResult := rfl
@[simp] theorem State.updLane_skipped (s : State) (l : Fin 16) (f : LaneCal → LaneCal) : (s.updLane l f).skipped = s.skipped := rfl
@[simp] theorem State.updLane_engines (s : State) (l : Fin 16) (f : LaneCal → LaneCal) : (s.updLane l f).engines = s.engines := rfl
@[simp] theorem State.updLane_patches (s : State) (l : Fin 16) (f : LaneCal → LaneCal) : (s.updLane l f).patches = s.patches := rfl
@[simp] theorem State.updLane_arrays (s : State) (l : Fin 16) (f : LaneCal → LaneCal) : (s.updLane l f).arrays = s.arrays := rfl
@[simp] theorem State.updLane_idle (s : State) (l : Fin 16) (f : LaneCal → LaneCal) : (s.updLane l f).idle = s.idle := rfl
@[simp] theorem State.updLane_chans (s : State) (l : Fin 16) (f : LaneCal → LaneCal) : (s.updLane l f).chans = s.chans := rfl
@[simp] theorem State.updLane_marks (s : State) (l : Fin 16) (f : LaneCal → LaneCal) : (s.updLane l f).marks = s.marks := rfl
@[simp] theorem State.updLane_switches (s : State) (l : Fin 16) (f : LaneCal → LaneCal) : (s.updLane l f).switches = s.switches := rfl
@[simp] theorem State.updLane_gates (s : State) (l : Fin 16) (f : LaneCal → LaneCal) : (s.updLane l f).gates = s.gates := rfl
@[simp] theorem State.updLane_axes (s : State) (l : Fin 16) (f : LaneCal → LaneCal) : (s.updLane l f).axes = s.axes := rfl
@[simp] theorem State.updLane_groups (s : State) (l : Fin 16) (f : LaneCal → LaneCal) : (s.updLane l f).groups = s.groups := rfl
@[simp] theorem State.updLane_sync (s : State) (l : Fin 16) (f : LaneCal → LaneCal) : (s.updLane l f).sync = s.sync := rfl
@[simp] theorem State.updLane_bpos (s : State) (l : Fin 16) (f : LaneCal → LaneCal) : (s.updLane l f).bpos = s.bpos := rfl
@[simp] theorem State.updLane_devState (s : State) (l : Fin 16) (f : LaneCal → LaneCal) : (s.updLane l f).devState = s.devState := rfl
@[simp] theorem State.updLane_lifeCycle (s : State) (l : Fin 16) (f : LaneCal → LaneCal) : (s.updLane l f).lifeCycle = s.lifeCycle := rfl
@[simp] theorem State.updLane_serial (s : State) (l : Fin 16) (f : LaneCal → LaneCal) : (s.updLane l f).serial = s.serial := rfl
@[simp] theorem State.updLane_toggles (s : State) (l : Fin 16) (f : LaneCal → LaneCal) : (s.updLane l f).toggles = s.toggles := rfl
@[simp] theorem State.updLane_fuses (s : State) (l : Fin 16) (f : LaneCal → LaneCal) : (s.updLane l f).fuses = s.fuses := rfl
@[simp] theorem State.updLane_lcPending (s : State) (l : Fin 16) (f : LaneCal → LaneCal) : (s.updLane l f).lcPending = s.lcPending := rfl
@[simp] theorem State.updLane_cocoon (s : State) (l : Fin 16) (f : LaneCal → LaneCal) : (s.updLane l f).cocoon = s.cocoon := rfl
@[simp] theorem State.updLane_tamper (s : State) (l : Fin 16) (f : LaneCal → LaneCal) : (s.updLane l f).tamper = s.tamper := rfl
@[simp] theorem State.updLane_enc (s : State) (l : Fin 16) (f : LaneCal → LaneCal) : (s.updLane l f).enc = s.enc := rfl
@[simp] theorem State.updLane_lanes (s : State) (l : Fin 16) (f : LaneCal → LaneCal) : (s.updLane l f).lanes = vupd s.lanes l f := rfl
@[simp] theorem State.updLane_due (s : State) (l : Fin 16) (f : LaneCal → LaneCal) : (s.updLane l f).due = s.due := rfl
@[simp] theorem State.updLane_reqs (s : State) (l : Fin 16) (f : LaneCal → LaneCal) : (s.updLane l f).reqs = s.reqs := rfl
@[simp] theorem State.updLane_mem (s : State) (l : Fin 16) (f : LaneCal → LaneCal) : (s.updLane l f).mem = s.mem := rfl
@[simp] theorem State.updLane_recorder (s : State) (l : Fin 16) (f : LaneCal → LaneCal) : (s.updLane l f).recorder = s.recorder := rfl
@[simp] theorem State.updLane_snap (s : State) (l : Fin 16) (f : LaneCal → LaneCal) : (s.updLane l f).snap = s.snap := rfl
@[simp] theorem State.updLane_domains (s : State) (l : Fin 16) (f : LaneCal → LaneCal) : (s.updLane l f).domains = s.domains := rfl
@[simp] theorem State.updLane_power (s : State) (l : Fin 16) (f : LaneCal → LaneCal) : (s.updLane l f).power = s.power := rfl

/-! `updReq` -/

@[simp] theorem State.updReq_ft (s : State) (i : Fin 16) (f : ReqSlot → ReqSlot) : (s.updReq i f).ft = s.ft := rfl
@[simp] theorem State.updReq_pending (s : State) (i : Fin 16) (f : ReqSlot → ReqSlot) : (s.updReq i f).pending = s.pending := rfl
@[simp] theorem State.updReq_origin (s : State) (i : Fin 16) (f : ReqSlot → ReqSlot) : (s.updReq i f).origin = s.origin := rfl
@[simp] theorem State.updReq_waiting (s : State) (i : Fin 16) (f : ReqSlot → ReqSlot) : (s.updReq i f).waiting = s.waiting := rfl
@[simp] theorem State.updReq_resumed (s : State) (i : Fin 16) (f : ReqSlot → ReqSlot) : (s.updReq i f).resumed = s.resumed := rfl
@[simp] theorem State.updReq_free (s : State) (i : Fin 16) (f : ReqSlot → ReqSlot) : (s.updReq i f).free = s.free := rfl
@[simp] theorem State.updReq_out (s : State) (i : Fin 16) (f : ReqSlot → ReqSlot) : (s.updReq i f).out = s.out := rfl
@[simp] theorem State.updReq_obj (s : State) (i : Fin 16) (f : ReqSlot → ReqSlot) : (s.updReq i f).obj = s.obj := rfl
@[simp] theorem State.updReq_ver (s : State) (i : Fin 16) (f : ReqSlot → ReqSlot) : (s.updReq i f).ver = s.ver := rfl
@[simp] theorem State.updReq_verAt (s : State) (i : Fin 16) (f : ReqSlot → ReqSlot) : (s.updReq i f).verAt = s.verAt := rfl
@[simp] theorem State.updReq_restartObj (s : State) (i : Fin 16) (f : ReqSlot → ReqSlot) : (s.updReq i f).restartObj = s.restartObj := rfl
@[simp] theorem State.updReq_items (s : State) (i : Fin 16) (f : ReqSlot → ReqSlot) : (s.updReq i f).items = s.items := rfl
@[simp] theorem State.updReq_gens (s : State) (i : Fin 16) (f : ReqSlot → ReqSlot) : (s.updReq i f).gens = s.gens := rfl
@[simp] theorem State.updReq_freeSlots (s : State) (i : Fin 16) (f : ReqSlot → ReqSlot) : (s.updReq i f).freeSlots = s.freeSlots := rfl
@[simp] theorem State.updReq_slotZone (s : State) (i : Fin 16) (f : ReqSlot → ReqSlot) : (s.updReq i f).slotZone = s.slotZone := rfl
@[simp] theorem State.updReq_notices (s : State) (i : Fin 16) (f : ReqSlot → ReqSlot) : (s.updReq i f).notices = s.notices := rfl
@[simp] theorem State.updReq_noticesSent (s : State) (i : Fin 16) (f : ReqSlot → ReqSlot) : (s.updReq i f).noticesSent = s.noticesSent := rfl
@[simp] theorem State.updReq_heldOut (s : State) (i : Fin 16) (f : ReqSlot → ReqSlot) : (s.updReq i f).heldOut = s.heldOut := rfl
@[simp] theorem State.updReq_lateReports (s : State) (i : Fin 16) (f : ReqSlot → ReqSlot) : (s.updReq i f).lateReports = s.lateReports := rfl
@[simp] theorem State.updReq_zones (s : State) (i : Fin 16) (f : ReqSlot → ReqSlot) : (s.updReq i f).zones = s.zones := rfl
@[simp] theorem State.updReq_templates (s : State) (i : Fin 16) (f : ReqSlot → ReqSlot) : (s.updReq i f).templates = s.templates := rfl
@[simp] theorem State.updReq_tiles (s : State) (i : Fin 16) (f : ReqSlot → ReqSlot) : (s.updReq i f).tiles = s.tiles := rfl
@[simp] theorem State.updReq_tplGen (s : State) (i : Fin 16) (f : ReqSlot → ReqSlot) : (s.updReq i f).tplGen = s.tplGen := rfl
@[simp] theorem State.updReq_tplFree (s : State) (i : Fin 16) (f : ReqSlot → ReqSlot) : (s.updReq i f).tplFree = s.tplFree := rfl
@[simp] theorem State.updReq_tplNext (s : State) (i : Fin 16) (f : ReqSlot → ReqSlot) : (s.updReq i f).tplNext = s.tplNext := rfl
@[simp] theorem State.updReq_tileGen (s : State) (i : Fin 16) (f : ReqSlot → ReqSlot) : (s.updReq i f).tileGen = s.tileGen := rfl
@[simp] theorem State.updReq_tileFree (s : State) (i : Fin 16) (f : ReqSlot → ReqSlot) : (s.updReq i f).tileFree = s.tileFree := rfl
@[simp] theorem State.updReq_tileNext (s : State) (i : Fin 16) (f : ReqSlot → ReqSlot) : (s.updReq i f).tileNext = s.tileNext := rfl
@[simp] theorem State.updReq_dram (s : State) (i : Fin 16) (f : ReqSlot → ReqSlot) : (s.updReq i f).dram = s.dram := rfl
@[simp] theorem State.updReq_stream (s : State) (i : Fin 16) (f : ReqSlot → ReqSlot) : (s.updReq i f).stream = s.stream := rfl
@[simp] theorem State.updReq_writeLoad (s : State) (i : Fin 16) (f : ReqSlot → ReqSlot) : (s.updReq i f).writeLoad = s.writeLoad := rfl
@[simp] theorem State.updReq_writeAt (s : State) (i : Fin 16) (f : ReqSlot → ReqSlot) : (s.updReq i f).writeAt = s.writeAt := rfl
@[simp] theorem State.updReq_dataErrors (s : State) (i : Fin 16) (f : ReqSlot → ReqSlot) : (s.updReq i f).dataErrors = s.dataErrors := rfl
@[simp] theorem State.updReq_streamDiscards (s : State) (i : Fin 16) (f : ReqSlot → ReqSlot) : (s.updReq i f).streamDiscards = s.streamDiscards := rfl
@[simp] theorem State.updReq_heads (s : State) (i : Fin 16) (f : ReqSlot → ReqSlot) : (s.updReq i f).heads = s.heads := rfl
@[simp] theorem State.updReq_stampNo (s : State) (i : Fin 16) (f : ReqSlot → ReqSlot) : (s.updReq i f).stampNo = s.stampNo := rfl
@[simp] theorem State.updReq_chains (s : State) (i : Fin 16) (f : ReqSlot → ReqSlot) : (s.updReq i f).chains = s.chains := rfl
@[simp] theorem State.updReq_ports (s : State) (i : Fin 16) (f : ReqSlot → ReqSlot) : (s.updReq i f).ports = s.ports := rfl
@[simp] theorem State.updReq_events (s : State) (i : Fin 16) (f : ReqSlot → ReqSlot) : (s.updReq i f).events = s.events := rfl
@[simp] theorem State.updReq_lost (s : State) (i : Fin 16) (f : ReqSlot → ReqSlot) : (s.updReq i f).lost = s.lost := rfl
@[simp] theorem State.updReq_lostRun (s : State) (i : Fin 16) (f : ReqSlot → ReqSlot) : (s.updReq i f).lostRun = s.lostRun := rfl
@[simp] theorem State.updReq_lostFirst (s : State) (i : Fin 16) (f : ReqSlot → ReqSlot) : (s.updReq i f).lostFirst = s.lostFirst := rfl
@[simp] theorem State.updReq_lostLast (s : State) (i : Fin 16) (f : ReqSlot → ReqSlot) : (s.updReq i f).lostLast = s.lostLast := rfl
@[simp] theorem State.updReq_opSeconds (s : State) (i : Fin 16) (f : ReqSlot → ReqSlot) : (s.updReq i f).opSeconds = s.opSeconds := rfl
@[simp] theorem State.updReq_powerCycles (s : State) (i : Fin 16) (f : ReqSlot → ReqSlot) : (s.updReq i f).powerCycles = s.powerCycles := rfl
@[simp] theorem State.updReq_calendar (s : State) (i : Fin 16) (f : ReqSlot → ReqSlot) : (s.updReq i f).calendar = s.calendar := rfl
@[simp] theorem State.updReq_calValid (s : State) (i : Fin 16) (f : ReqSlot → ReqSlot) : (s.updReq i f).calValid = s.calValid := rfl
@[simp] theorem State.updReq_opAt (s : State) (i : Fin 16) (f : ReqSlot → ReqSlot) : (s.updReq i f).opAt = s.opAt := rfl
@[simp] theorem State.updReq_opStored (s : State) (i : Fin 16) (f : ReqSlot → ReqSlot) : (s.updReq i f).opStored = s.opStored := rfl
@[simp] theorem State.updReq_calAt (s : State) (i : Fin 16) (f : ReqSlot → ReqSlot) : (s.updReq i f).calAt = s.calAt := rfl
@[simp] theorem State.updReq_calFreq (s : State) (i : Fin 16) (f : ReqSlot → ReqSlot) : (s.updReq i f).calFreq = s.calFreq := rfl
@[simp] theorem State.updReq_calCorr (s : State) (i : Fin 16) (f : ReqSlot → ReqSlot) : (s.updReq i f).calCorr = s.calCorr := rfl
@[simp] theorem State.updReq_calOff (s : State) (i : Fin 16) (f : ReqSlot → ReqSlot) : (s.updReq i f).calOff = s.calOff := rfl
@[simp] theorem State.updReq_calRun (s : State) (i : Fin 16) (f : ReqSlot → ReqSlot) : (s.updReq i f).calRun = s.calRun := rfl
@[simp] theorem State.updReq_cmdStat (s : State) (i : Fin 16) (f : ReqSlot → ReqSlot) : (s.updReq i f).cmdStat = s.cmdStat := rfl
@[simp] theorem State.updReq_sessions (s : State) (i : Fin 16) (f : ReqSlot → ReqSlot) : (s.updReq i f).sessions = s.sessions := rfl
@[simp] theorem State.updReq_sessFree (s : State) (i : Fin 16) (f : ReqSlot → ReqSlot) : (s.updReq i f).sessFree = s.sessFree := rfl
@[simp] theorem State.updReq_shakes (s : State) (i : Fin 16) (f : ReqSlot → ReqSlot) : (s.updReq i f).shakes = s.shakes := rfl
@[simp] theorem State.updReq_refusals (s : State) (i : Fin 16) (f : ReqSlot → ReqSlot) : (s.updReq i f).refusals = s.refusals := rfl
@[simp] theorem State.updReq_authFails (s : State) (i : Fin 16) (f : ReqSlot → ReqSlot) : (s.updReq i f).authFails = s.authFails := rfl
@[simp] theorem State.updReq_replays (s : State) (i : Fin 16) (f : ReqSlot → ReqSlot) : (s.updReq i f).replays = s.replays := rfl
@[simp] theorem State.updReq_staleSess (s : State) (i : Fin 16) (f : ReqSlot → ReqSlot) : (s.updReq i f).staleSess = s.staleSess := rfl
@[simp] theorem State.updReq_malformed (s : State) (i : Fin 16) (f : ReqSlot → ReqSlot) : (s.updReq i f).malformed = s.malformed := rfl
@[simp] theorem State.updReq_hports (s : State) (i : Fin 16) (f : ReqSlot → ReqSlot) : (s.updReq i f).hports = s.hports := rfl
@[simp] theorem State.updReq_ptp (s : State) (i : Fin 16) (f : ReqSlot → ReqSlot) : (s.updReq i f).ptp = s.ptp := rfl
@[simp] theorem State.updReq_txs (s : State) (i : Fin 16) (f : ReqSlot → ReqSlot) : (s.updReq i f).txs = s.txs := rfl
@[simp] theorem State.updReq_txClock (s : State) (i : Fin 16) (f : ReqSlot → ReqSlot) : (s.updReq i f).txClock = s.txClock := rfl
@[simp] theorem State.updReq_conflicts (s : State) (i : Fin 16) (f : ReqSlot → ReqSlot) : (s.updReq i f).conflicts = s.conflicts := rfl
@[simp] theorem State.updReq_staleTx (s : State) (i : Fin 16) (f : ReqSlot → ReqSlot) : (s.updReq i f).staleTx = s.staleTx := rfl
@[simp] theorem State.updReq_cans (s : State) (i : Fin 16) (f : ReqSlot → ReqSlot) : (s.updReq i f).cans = s.cans := rfl
@[simp] theorem State.updReq_banks (s : State) (i : Fin 16) (f : ReqSlot → ReqSlot) : (s.updReq i f).banks = s.banks := rfl
@[simp] theorem State.updReq_erases (s : State) (i : Fin 16) (f : ReqSlot → ReqSlot) : (s.updReq i f).erases = s.erases := rfl
@[simp] theorem State.updReq_activeBank (s : State) (i : Fin 16) (f : ReqSlot → ReqSlot) : (s.updReq i f).activeBank = s.activeBank := rfl
@[simp] theorem State.updReq_save (s : State) (i : Fin 16) (f : ReqSlot → ReqSlot) : (s.updReq i f).save = s.save := rfl
@[simp] theorem State.updReq_loadResult (s : State) (i : Fin 16) (f : ReqSlot → ReqSlot) : (s.updReq i f).loadResult = s.loadResult := rfl
@[simp] theorem State.updReq_skipped (s : State) (i : Fin 16) (f : ReqSlot → ReqSlot) : (s.updReq i f).skipped = s.skipped := rfl
@[simp] theorem State.updReq_engines (s : State) (i : Fin 16) (f : ReqSlot → ReqSlot) : (s.updReq i f).engines = s.engines := rfl
@[simp] theorem State.updReq_patches (s : State) (i : Fin 16) (f : ReqSlot → ReqSlot) : (s.updReq i f).patches = s.patches := rfl
@[simp] theorem State.updReq_arrays (s : State) (i : Fin 16) (f : ReqSlot → ReqSlot) : (s.updReq i f).arrays = s.arrays := rfl
@[simp] theorem State.updReq_idle (s : State) (i : Fin 16) (f : ReqSlot → ReqSlot) : (s.updReq i f).idle = s.idle := rfl
@[simp] theorem State.updReq_chans (s : State) (i : Fin 16) (f : ReqSlot → ReqSlot) : (s.updReq i f).chans = s.chans := rfl
@[simp] theorem State.updReq_marks (s : State) (i : Fin 16) (f : ReqSlot → ReqSlot) : (s.updReq i f).marks = s.marks := rfl
@[simp] theorem State.updReq_switches (s : State) (i : Fin 16) (f : ReqSlot → ReqSlot) : (s.updReq i f).switches = s.switches := rfl
@[simp] theorem State.updReq_gates (s : State) (i : Fin 16) (f : ReqSlot → ReqSlot) : (s.updReq i f).gates = s.gates := rfl
@[simp] theorem State.updReq_axes (s : State) (i : Fin 16) (f : ReqSlot → ReqSlot) : (s.updReq i f).axes = s.axes := rfl
@[simp] theorem State.updReq_groups (s : State) (i : Fin 16) (f : ReqSlot → ReqSlot) : (s.updReq i f).groups = s.groups := rfl
@[simp] theorem State.updReq_sync (s : State) (i : Fin 16) (f : ReqSlot → ReqSlot) : (s.updReq i f).sync = s.sync := rfl
@[simp] theorem State.updReq_bpos (s : State) (i : Fin 16) (f : ReqSlot → ReqSlot) : (s.updReq i f).bpos = s.bpos := rfl
@[simp] theorem State.updReq_devState (s : State) (i : Fin 16) (f : ReqSlot → ReqSlot) : (s.updReq i f).devState = s.devState := rfl
@[simp] theorem State.updReq_lifeCycle (s : State) (i : Fin 16) (f : ReqSlot → ReqSlot) : (s.updReq i f).lifeCycle = s.lifeCycle := rfl
@[simp] theorem State.updReq_serial (s : State) (i : Fin 16) (f : ReqSlot → ReqSlot) : (s.updReq i f).serial = s.serial := rfl
@[simp] theorem State.updReq_toggles (s : State) (i : Fin 16) (f : ReqSlot → ReqSlot) : (s.updReq i f).toggles = s.toggles := rfl
@[simp] theorem State.updReq_fuses (s : State) (i : Fin 16) (f : ReqSlot → ReqSlot) : (s.updReq i f).fuses = s.fuses := rfl
@[simp] theorem State.updReq_lcPending (s : State) (i : Fin 16) (f : ReqSlot → ReqSlot) : (s.updReq i f).lcPending = s.lcPending := rfl
@[simp] theorem State.updReq_cocoon (s : State) (i : Fin 16) (f : ReqSlot → ReqSlot) : (s.updReq i f).cocoon = s.cocoon := rfl
@[simp] theorem State.updReq_tamper (s : State) (i : Fin 16) (f : ReqSlot → ReqSlot) : (s.updReq i f).tamper = s.tamper := rfl
@[simp] theorem State.updReq_enc (s : State) (i : Fin 16) (f : ReqSlot → ReqSlot) : (s.updReq i f).enc = s.enc := rfl
@[simp] theorem State.updReq_lanes (s : State) (i : Fin 16) (f : ReqSlot → ReqSlot) : (s.updReq i f).lanes = s.lanes := rfl
@[simp] theorem State.updReq_due (s : State) (i : Fin 16) (f : ReqSlot → ReqSlot) : (s.updReq i f).due = s.due := rfl
@[simp] theorem State.updReq_reqs (s : State) (i : Fin 16) (f : ReqSlot → ReqSlot) : (s.updReq i f).reqs = vupd s.reqs i f := rfl
@[simp] theorem State.updReq_mem (s : State) (i : Fin 16) (f : ReqSlot → ReqSlot) : (s.updReq i f).mem = s.mem := rfl
@[simp] theorem State.updReq_recorder (s : State) (i : Fin 16) (f : ReqSlot → ReqSlot) : (s.updReq i f).recorder = s.recorder := rfl
@[simp] theorem State.updReq_snap (s : State) (i : Fin 16) (f : ReqSlot → ReqSlot) : (s.updReq i f).snap = s.snap := rfl
@[simp] theorem State.updReq_domains (s : State) (i : Fin 16) (f : ReqSlot → ReqSlot) : (s.updReq i f).domains = s.domains := rfl
@[simp] theorem State.updReq_power (s : State) (i : Fin 16) (f : ReqSlot → ReqSlot) : (s.updReq i f).power = s.power := rfl

/-! `updCan` -/

@[simp] theorem State.updCan_ft (s : State) (c : Fin 2) (f : Can → Can) : (s.updCan c f).ft = s.ft := rfl
@[simp] theorem State.updCan_pending (s : State) (c : Fin 2) (f : Can → Can) : (s.updCan c f).pending = s.pending := rfl
@[simp] theorem State.updCan_origin (s : State) (c : Fin 2) (f : Can → Can) : (s.updCan c f).origin = s.origin := rfl
@[simp] theorem State.updCan_waiting (s : State) (c : Fin 2) (f : Can → Can) : (s.updCan c f).waiting = s.waiting := rfl
@[simp] theorem State.updCan_resumed (s : State) (c : Fin 2) (f : Can → Can) : (s.updCan c f).resumed = s.resumed := rfl
@[simp] theorem State.updCan_free (s : State) (c : Fin 2) (f : Can → Can) : (s.updCan c f).free = s.free := rfl
@[simp] theorem State.updCan_out (s : State) (c : Fin 2) (f : Can → Can) : (s.updCan c f).out = s.out := rfl
@[simp] theorem State.updCan_obj (s : State) (c : Fin 2) (f : Can → Can) : (s.updCan c f).obj = s.obj := rfl
@[simp] theorem State.updCan_ver (s : State) (c : Fin 2) (f : Can → Can) : (s.updCan c f).ver = s.ver := rfl
@[simp] theorem State.updCan_verAt (s : State) (c : Fin 2) (f : Can → Can) : (s.updCan c f).verAt = s.verAt := rfl
@[simp] theorem State.updCan_restartObj (s : State) (c : Fin 2) (f : Can → Can) : (s.updCan c f).restartObj = s.restartObj := rfl
@[simp] theorem State.updCan_items (s : State) (c : Fin 2) (f : Can → Can) : (s.updCan c f).items = s.items := rfl
@[simp] theorem State.updCan_gens (s : State) (c : Fin 2) (f : Can → Can) : (s.updCan c f).gens = s.gens := rfl
@[simp] theorem State.updCan_freeSlots (s : State) (c : Fin 2) (f : Can → Can) : (s.updCan c f).freeSlots = s.freeSlots := rfl
@[simp] theorem State.updCan_slotZone (s : State) (c : Fin 2) (f : Can → Can) : (s.updCan c f).slotZone = s.slotZone := rfl
@[simp] theorem State.updCan_notices (s : State) (c : Fin 2) (f : Can → Can) : (s.updCan c f).notices = s.notices := rfl
@[simp] theorem State.updCan_noticesSent (s : State) (c : Fin 2) (f : Can → Can) : (s.updCan c f).noticesSent = s.noticesSent := rfl
@[simp] theorem State.updCan_heldOut (s : State) (c : Fin 2) (f : Can → Can) : (s.updCan c f).heldOut = s.heldOut := rfl
@[simp] theorem State.updCan_lateReports (s : State) (c : Fin 2) (f : Can → Can) : (s.updCan c f).lateReports = s.lateReports := rfl
@[simp] theorem State.updCan_zones (s : State) (c : Fin 2) (f : Can → Can) : (s.updCan c f).zones = s.zones := rfl
@[simp] theorem State.updCan_templates (s : State) (c : Fin 2) (f : Can → Can) : (s.updCan c f).templates = s.templates := rfl
@[simp] theorem State.updCan_tiles (s : State) (c : Fin 2) (f : Can → Can) : (s.updCan c f).tiles = s.tiles := rfl
@[simp] theorem State.updCan_tplGen (s : State) (c : Fin 2) (f : Can → Can) : (s.updCan c f).tplGen = s.tplGen := rfl
@[simp] theorem State.updCan_tplFree (s : State) (c : Fin 2) (f : Can → Can) : (s.updCan c f).tplFree = s.tplFree := rfl
@[simp] theorem State.updCan_tplNext (s : State) (c : Fin 2) (f : Can → Can) : (s.updCan c f).tplNext = s.tplNext := rfl
@[simp] theorem State.updCan_tileGen (s : State) (c : Fin 2) (f : Can → Can) : (s.updCan c f).tileGen = s.tileGen := rfl
@[simp] theorem State.updCan_tileFree (s : State) (c : Fin 2) (f : Can → Can) : (s.updCan c f).tileFree = s.tileFree := rfl
@[simp] theorem State.updCan_tileNext (s : State) (c : Fin 2) (f : Can → Can) : (s.updCan c f).tileNext = s.tileNext := rfl
@[simp] theorem State.updCan_dram (s : State) (c : Fin 2) (f : Can → Can) : (s.updCan c f).dram = s.dram := rfl
@[simp] theorem State.updCan_stream (s : State) (c : Fin 2) (f : Can → Can) : (s.updCan c f).stream = s.stream := rfl
@[simp] theorem State.updCan_writeLoad (s : State) (c : Fin 2) (f : Can → Can) : (s.updCan c f).writeLoad = s.writeLoad := rfl
@[simp] theorem State.updCan_writeAt (s : State) (c : Fin 2) (f : Can → Can) : (s.updCan c f).writeAt = s.writeAt := rfl
@[simp] theorem State.updCan_dataErrors (s : State) (c : Fin 2) (f : Can → Can) : (s.updCan c f).dataErrors = s.dataErrors := rfl
@[simp] theorem State.updCan_streamDiscards (s : State) (c : Fin 2) (f : Can → Can) : (s.updCan c f).streamDiscards = s.streamDiscards := rfl
@[simp] theorem State.updCan_heads (s : State) (c : Fin 2) (f : Can → Can) : (s.updCan c f).heads = s.heads := rfl
@[simp] theorem State.updCan_stampNo (s : State) (c : Fin 2) (f : Can → Can) : (s.updCan c f).stampNo = s.stampNo := rfl
@[simp] theorem State.updCan_chains (s : State) (c : Fin 2) (f : Can → Can) : (s.updCan c f).chains = s.chains := rfl
@[simp] theorem State.updCan_ports (s : State) (c : Fin 2) (f : Can → Can) : (s.updCan c f).ports = s.ports := rfl
@[simp] theorem State.updCan_events (s : State) (c : Fin 2) (f : Can → Can) : (s.updCan c f).events = s.events := rfl
@[simp] theorem State.updCan_lost (s : State) (c : Fin 2) (f : Can → Can) : (s.updCan c f).lost = s.lost := rfl
@[simp] theorem State.updCan_lostRun (s : State) (c : Fin 2) (f : Can → Can) : (s.updCan c f).lostRun = s.lostRun := rfl
@[simp] theorem State.updCan_lostFirst (s : State) (c : Fin 2) (f : Can → Can) : (s.updCan c f).lostFirst = s.lostFirst := rfl
@[simp] theorem State.updCan_lostLast (s : State) (c : Fin 2) (f : Can → Can) : (s.updCan c f).lostLast = s.lostLast := rfl
@[simp] theorem State.updCan_opSeconds (s : State) (c : Fin 2) (f : Can → Can) : (s.updCan c f).opSeconds = s.opSeconds := rfl
@[simp] theorem State.updCan_powerCycles (s : State) (c : Fin 2) (f : Can → Can) : (s.updCan c f).powerCycles = s.powerCycles := rfl
@[simp] theorem State.updCan_calendar (s : State) (c : Fin 2) (f : Can → Can) : (s.updCan c f).calendar = s.calendar := rfl
@[simp] theorem State.updCan_calValid (s : State) (c : Fin 2) (f : Can → Can) : (s.updCan c f).calValid = s.calValid := rfl
@[simp] theorem State.updCan_opAt (s : State) (c : Fin 2) (f : Can → Can) : (s.updCan c f).opAt = s.opAt := rfl
@[simp] theorem State.updCan_opStored (s : State) (c : Fin 2) (f : Can → Can) : (s.updCan c f).opStored = s.opStored := rfl
@[simp] theorem State.updCan_calAt (s : State) (c : Fin 2) (f : Can → Can) : (s.updCan c f).calAt = s.calAt := rfl
@[simp] theorem State.updCan_calFreq (s : State) (c : Fin 2) (f : Can → Can) : (s.updCan c f).calFreq = s.calFreq := rfl
@[simp] theorem State.updCan_calCorr (s : State) (c : Fin 2) (f : Can → Can) : (s.updCan c f).calCorr = s.calCorr := rfl
@[simp] theorem State.updCan_calOff (s : State) (c : Fin 2) (f : Can → Can) : (s.updCan c f).calOff = s.calOff := rfl
@[simp] theorem State.updCan_calRun (s : State) (c : Fin 2) (f : Can → Can) : (s.updCan c f).calRun = s.calRun := rfl
@[simp] theorem State.updCan_cmdStat (s : State) (c : Fin 2) (f : Can → Can) : (s.updCan c f).cmdStat = s.cmdStat := rfl
@[simp] theorem State.updCan_sessions (s : State) (c : Fin 2) (f : Can → Can) : (s.updCan c f).sessions = s.sessions := rfl
@[simp] theorem State.updCan_sessFree (s : State) (c : Fin 2) (f : Can → Can) : (s.updCan c f).sessFree = s.sessFree := rfl
@[simp] theorem State.updCan_shakes (s : State) (c : Fin 2) (f : Can → Can) : (s.updCan c f).shakes = s.shakes := rfl
@[simp] theorem State.updCan_refusals (s : State) (c : Fin 2) (f : Can → Can) : (s.updCan c f).refusals = s.refusals := rfl
@[simp] theorem State.updCan_authFails (s : State) (c : Fin 2) (f : Can → Can) : (s.updCan c f).authFails = s.authFails := rfl
@[simp] theorem State.updCan_replays (s : State) (c : Fin 2) (f : Can → Can) : (s.updCan c f).replays = s.replays := rfl
@[simp] theorem State.updCan_staleSess (s : State) (c : Fin 2) (f : Can → Can) : (s.updCan c f).staleSess = s.staleSess := rfl
@[simp] theorem State.updCan_malformed (s : State) (c : Fin 2) (f : Can → Can) : (s.updCan c f).malformed = s.malformed := rfl
@[simp] theorem State.updCan_hports (s : State) (c : Fin 2) (f : Can → Can) : (s.updCan c f).hports = s.hports := rfl
@[simp] theorem State.updCan_ptp (s : State) (c : Fin 2) (f : Can → Can) : (s.updCan c f).ptp = s.ptp := rfl
@[simp] theorem State.updCan_txs (s : State) (c : Fin 2) (f : Can → Can) : (s.updCan c f).txs = s.txs := rfl
@[simp] theorem State.updCan_txClock (s : State) (c : Fin 2) (f : Can → Can) : (s.updCan c f).txClock = s.txClock := rfl
@[simp] theorem State.updCan_conflicts (s : State) (c : Fin 2) (f : Can → Can) : (s.updCan c f).conflicts = s.conflicts := rfl
@[simp] theorem State.updCan_staleTx (s : State) (c : Fin 2) (f : Can → Can) : (s.updCan c f).staleTx = s.staleTx := rfl
@[simp] theorem State.updCan_cans (s : State) (c : Fin 2) (f : Can → Can) : (s.updCan c f).cans = vupd s.cans c f := rfl
@[simp] theorem State.updCan_banks (s : State) (c : Fin 2) (f : Can → Can) : (s.updCan c f).banks = s.banks := rfl
@[simp] theorem State.updCan_erases (s : State) (c : Fin 2) (f : Can → Can) : (s.updCan c f).erases = s.erases := rfl
@[simp] theorem State.updCan_activeBank (s : State) (c : Fin 2) (f : Can → Can) : (s.updCan c f).activeBank = s.activeBank := rfl
@[simp] theorem State.updCan_save (s : State) (c : Fin 2) (f : Can → Can) : (s.updCan c f).save = s.save := rfl
@[simp] theorem State.updCan_loadResult (s : State) (c : Fin 2) (f : Can → Can) : (s.updCan c f).loadResult = s.loadResult := rfl
@[simp] theorem State.updCan_skipped (s : State) (c : Fin 2) (f : Can → Can) : (s.updCan c f).skipped = s.skipped := rfl
@[simp] theorem State.updCan_engines (s : State) (c : Fin 2) (f : Can → Can) : (s.updCan c f).engines = s.engines := rfl
@[simp] theorem State.updCan_patches (s : State) (c : Fin 2) (f : Can → Can) : (s.updCan c f).patches = s.patches := rfl
@[simp] theorem State.updCan_arrays (s : State) (c : Fin 2) (f : Can → Can) : (s.updCan c f).arrays = s.arrays := rfl
@[simp] theorem State.updCan_idle (s : State) (c : Fin 2) (f : Can → Can) : (s.updCan c f).idle = s.idle := rfl
@[simp] theorem State.updCan_chans (s : State) (c : Fin 2) (f : Can → Can) : (s.updCan c f).chans = s.chans := rfl
@[simp] theorem State.updCan_marks (s : State) (c : Fin 2) (f : Can → Can) : (s.updCan c f).marks = s.marks := rfl
@[simp] theorem State.updCan_switches (s : State) (c : Fin 2) (f : Can → Can) : (s.updCan c f).switches = s.switches := rfl
@[simp] theorem State.updCan_gates (s : State) (c : Fin 2) (f : Can → Can) : (s.updCan c f).gates = s.gates := rfl
@[simp] theorem State.updCan_axes (s : State) (c : Fin 2) (f : Can → Can) : (s.updCan c f).axes = s.axes := rfl
@[simp] theorem State.updCan_groups (s : State) (c : Fin 2) (f : Can → Can) : (s.updCan c f).groups = s.groups := rfl
@[simp] theorem State.updCan_sync (s : State) (c : Fin 2) (f : Can → Can) : (s.updCan c f).sync = s.sync := rfl
@[simp] theorem State.updCan_bpos (s : State) (c : Fin 2) (f : Can → Can) : (s.updCan c f).bpos = s.bpos := rfl
@[simp] theorem State.updCan_devState (s : State) (c : Fin 2) (f : Can → Can) : (s.updCan c f).devState = s.devState := rfl
@[simp] theorem State.updCan_lifeCycle (s : State) (c : Fin 2) (f : Can → Can) : (s.updCan c f).lifeCycle = s.lifeCycle := rfl
@[simp] theorem State.updCan_serial (s : State) (c : Fin 2) (f : Can → Can) : (s.updCan c f).serial = s.serial := rfl
@[simp] theorem State.updCan_toggles (s : State) (c : Fin 2) (f : Can → Can) : (s.updCan c f).toggles = s.toggles := rfl
@[simp] theorem State.updCan_fuses (s : State) (c : Fin 2) (f : Can → Can) : (s.updCan c f).fuses = s.fuses := rfl
@[simp] theorem State.updCan_lcPending (s : State) (c : Fin 2) (f : Can → Can) : (s.updCan c f).lcPending = s.lcPending := rfl
@[simp] theorem State.updCan_cocoon (s : State) (c : Fin 2) (f : Can → Can) : (s.updCan c f).cocoon = s.cocoon := rfl
@[simp] theorem State.updCan_tamper (s : State) (c : Fin 2) (f : Can → Can) : (s.updCan c f).tamper = s.tamper := rfl
@[simp] theorem State.updCan_enc (s : State) (c : Fin 2) (f : Can → Can) : (s.updCan c f).enc = s.enc := rfl
@[simp] theorem State.updCan_lanes (s : State) (c : Fin 2) (f : Can → Can) : (s.updCan c f).lanes = s.lanes := rfl
@[simp] theorem State.updCan_due (s : State) (c : Fin 2) (f : Can → Can) : (s.updCan c f).due = s.due := rfl
@[simp] theorem State.updCan_reqs (s : State) (c : Fin 2) (f : Can → Can) : (s.updCan c f).reqs = s.reqs := rfl
@[simp] theorem State.updCan_mem (s : State) (c : Fin 2) (f : Can → Can) : (s.updCan c f).mem = s.mem := rfl
@[simp] theorem State.updCan_recorder (s : State) (c : Fin 2) (f : Can → Can) : (s.updCan c f).recorder = s.recorder := rfl
@[simp] theorem State.updCan_snap (s : State) (c : Fin 2) (f : Can → Can) : (s.updCan c f).snap = s.snap := rfl
@[simp] theorem State.updCan_domains (s : State) (c : Fin 2) (f : Can → Can) : (s.updCan c f).domains = s.domains := rfl
@[simp] theorem State.updCan_power (s : State) (c : Fin 2) (f : Can → Can) : (s.updCan c f).power = s.power := rfl

/-! `updSync` -/

@[simp] theorem State.updSync_ft (s : State) (f : Sync → Sync) : (s.updSync f).ft = s.ft := rfl
@[simp] theorem State.updSync_pending (s : State) (f : Sync → Sync) : (s.updSync f).pending = s.pending := rfl
@[simp] theorem State.updSync_origin (s : State) (f : Sync → Sync) : (s.updSync f).origin = s.origin := rfl
@[simp] theorem State.updSync_waiting (s : State) (f : Sync → Sync) : (s.updSync f).waiting = s.waiting := rfl
@[simp] theorem State.updSync_resumed (s : State) (f : Sync → Sync) : (s.updSync f).resumed = s.resumed := rfl
@[simp] theorem State.updSync_free (s : State) (f : Sync → Sync) : (s.updSync f).free = s.free := rfl
@[simp] theorem State.updSync_out (s : State) (f : Sync → Sync) : (s.updSync f).out = s.out := rfl
@[simp] theorem State.updSync_obj (s : State) (f : Sync → Sync) : (s.updSync f).obj = s.obj := rfl
@[simp] theorem State.updSync_ver (s : State) (f : Sync → Sync) : (s.updSync f).ver = s.ver := rfl
@[simp] theorem State.updSync_verAt (s : State) (f : Sync → Sync) : (s.updSync f).verAt = s.verAt := rfl
@[simp] theorem State.updSync_restartObj (s : State) (f : Sync → Sync) : (s.updSync f).restartObj = s.restartObj := rfl
@[simp] theorem State.updSync_items (s : State) (f : Sync → Sync) : (s.updSync f).items = s.items := rfl
@[simp] theorem State.updSync_gens (s : State) (f : Sync → Sync) : (s.updSync f).gens = s.gens := rfl
@[simp] theorem State.updSync_freeSlots (s : State) (f : Sync → Sync) : (s.updSync f).freeSlots = s.freeSlots := rfl
@[simp] theorem State.updSync_slotZone (s : State) (f : Sync → Sync) : (s.updSync f).slotZone = s.slotZone := rfl
@[simp] theorem State.updSync_notices (s : State) (f : Sync → Sync) : (s.updSync f).notices = s.notices := rfl
@[simp] theorem State.updSync_noticesSent (s : State) (f : Sync → Sync) : (s.updSync f).noticesSent = s.noticesSent := rfl
@[simp] theorem State.updSync_heldOut (s : State) (f : Sync → Sync) : (s.updSync f).heldOut = s.heldOut := rfl
@[simp] theorem State.updSync_lateReports (s : State) (f : Sync → Sync) : (s.updSync f).lateReports = s.lateReports := rfl
@[simp] theorem State.updSync_zones (s : State) (f : Sync → Sync) : (s.updSync f).zones = s.zones := rfl
@[simp] theorem State.updSync_templates (s : State) (f : Sync → Sync) : (s.updSync f).templates = s.templates := rfl
@[simp] theorem State.updSync_tiles (s : State) (f : Sync → Sync) : (s.updSync f).tiles = s.tiles := rfl
@[simp] theorem State.updSync_tplGen (s : State) (f : Sync → Sync) : (s.updSync f).tplGen = s.tplGen := rfl
@[simp] theorem State.updSync_tplFree (s : State) (f : Sync → Sync) : (s.updSync f).tplFree = s.tplFree := rfl
@[simp] theorem State.updSync_tplNext (s : State) (f : Sync → Sync) : (s.updSync f).tplNext = s.tplNext := rfl
@[simp] theorem State.updSync_tileGen (s : State) (f : Sync → Sync) : (s.updSync f).tileGen = s.tileGen := rfl
@[simp] theorem State.updSync_tileFree (s : State) (f : Sync → Sync) : (s.updSync f).tileFree = s.tileFree := rfl
@[simp] theorem State.updSync_tileNext (s : State) (f : Sync → Sync) : (s.updSync f).tileNext = s.tileNext := rfl
@[simp] theorem State.updSync_dram (s : State) (f : Sync → Sync) : (s.updSync f).dram = s.dram := rfl
@[simp] theorem State.updSync_stream (s : State) (f : Sync → Sync) : (s.updSync f).stream = s.stream := rfl
@[simp] theorem State.updSync_writeLoad (s : State) (f : Sync → Sync) : (s.updSync f).writeLoad = s.writeLoad := rfl
@[simp] theorem State.updSync_writeAt (s : State) (f : Sync → Sync) : (s.updSync f).writeAt = s.writeAt := rfl
@[simp] theorem State.updSync_dataErrors (s : State) (f : Sync → Sync) : (s.updSync f).dataErrors = s.dataErrors := rfl
@[simp] theorem State.updSync_streamDiscards (s : State) (f : Sync → Sync) : (s.updSync f).streamDiscards = s.streamDiscards := rfl
@[simp] theorem State.updSync_heads (s : State) (f : Sync → Sync) : (s.updSync f).heads = s.heads := rfl
@[simp] theorem State.updSync_stampNo (s : State) (f : Sync → Sync) : (s.updSync f).stampNo = s.stampNo := rfl
@[simp] theorem State.updSync_chains (s : State) (f : Sync → Sync) : (s.updSync f).chains = s.chains := rfl
@[simp] theorem State.updSync_ports (s : State) (f : Sync → Sync) : (s.updSync f).ports = s.ports := rfl
@[simp] theorem State.updSync_events (s : State) (f : Sync → Sync) : (s.updSync f).events = s.events := rfl
@[simp] theorem State.updSync_lost (s : State) (f : Sync → Sync) : (s.updSync f).lost = s.lost := rfl
@[simp] theorem State.updSync_lostRun (s : State) (f : Sync → Sync) : (s.updSync f).lostRun = s.lostRun := rfl
@[simp] theorem State.updSync_lostFirst (s : State) (f : Sync → Sync) : (s.updSync f).lostFirst = s.lostFirst := rfl
@[simp] theorem State.updSync_lostLast (s : State) (f : Sync → Sync) : (s.updSync f).lostLast = s.lostLast := rfl
@[simp] theorem State.updSync_opSeconds (s : State) (f : Sync → Sync) : (s.updSync f).opSeconds = s.opSeconds := rfl
@[simp] theorem State.updSync_powerCycles (s : State) (f : Sync → Sync) : (s.updSync f).powerCycles = s.powerCycles := rfl
@[simp] theorem State.updSync_calendar (s : State) (f : Sync → Sync) : (s.updSync f).calendar = s.calendar := rfl
@[simp] theorem State.updSync_calValid (s : State) (f : Sync → Sync) : (s.updSync f).calValid = s.calValid := rfl
@[simp] theorem State.updSync_opAt (s : State) (f : Sync → Sync) : (s.updSync f).opAt = s.opAt := rfl
@[simp] theorem State.updSync_opStored (s : State) (f : Sync → Sync) : (s.updSync f).opStored = s.opStored := rfl
@[simp] theorem State.updSync_calAt (s : State) (f : Sync → Sync) : (s.updSync f).calAt = s.calAt := rfl
@[simp] theorem State.updSync_calFreq (s : State) (f : Sync → Sync) : (s.updSync f).calFreq = s.calFreq := rfl
@[simp] theorem State.updSync_calCorr (s : State) (f : Sync → Sync) : (s.updSync f).calCorr = s.calCorr := rfl
@[simp] theorem State.updSync_calOff (s : State) (f : Sync → Sync) : (s.updSync f).calOff = s.calOff := rfl
@[simp] theorem State.updSync_calRun (s : State) (f : Sync → Sync) : (s.updSync f).calRun = s.calRun := rfl
@[simp] theorem State.updSync_cmdStat (s : State) (f : Sync → Sync) : (s.updSync f).cmdStat = s.cmdStat := rfl
@[simp] theorem State.updSync_sessions (s : State) (f : Sync → Sync) : (s.updSync f).sessions = s.sessions := rfl
@[simp] theorem State.updSync_sessFree (s : State) (f : Sync → Sync) : (s.updSync f).sessFree = s.sessFree := rfl
@[simp] theorem State.updSync_shakes (s : State) (f : Sync → Sync) : (s.updSync f).shakes = s.shakes := rfl
@[simp] theorem State.updSync_refusals (s : State) (f : Sync → Sync) : (s.updSync f).refusals = s.refusals := rfl
@[simp] theorem State.updSync_authFails (s : State) (f : Sync → Sync) : (s.updSync f).authFails = s.authFails := rfl
@[simp] theorem State.updSync_replays (s : State) (f : Sync → Sync) : (s.updSync f).replays = s.replays := rfl
@[simp] theorem State.updSync_staleSess (s : State) (f : Sync → Sync) : (s.updSync f).staleSess = s.staleSess := rfl
@[simp] theorem State.updSync_malformed (s : State) (f : Sync → Sync) : (s.updSync f).malformed = s.malformed := rfl
@[simp] theorem State.updSync_hports (s : State) (f : Sync → Sync) : (s.updSync f).hports = s.hports := rfl
@[simp] theorem State.updSync_ptp (s : State) (f : Sync → Sync) : (s.updSync f).ptp = s.ptp := rfl
@[simp] theorem State.updSync_txs (s : State) (f : Sync → Sync) : (s.updSync f).txs = s.txs := rfl
@[simp] theorem State.updSync_txClock (s : State) (f : Sync → Sync) : (s.updSync f).txClock = s.txClock := rfl
@[simp] theorem State.updSync_conflicts (s : State) (f : Sync → Sync) : (s.updSync f).conflicts = s.conflicts := rfl
@[simp] theorem State.updSync_staleTx (s : State) (f : Sync → Sync) : (s.updSync f).staleTx = s.staleTx := rfl
@[simp] theorem State.updSync_cans (s : State) (f : Sync → Sync) : (s.updSync f).cans = s.cans := rfl
@[simp] theorem State.updSync_banks (s : State) (f : Sync → Sync) : (s.updSync f).banks = s.banks := rfl
@[simp] theorem State.updSync_erases (s : State) (f : Sync → Sync) : (s.updSync f).erases = s.erases := rfl
@[simp] theorem State.updSync_activeBank (s : State) (f : Sync → Sync) : (s.updSync f).activeBank = s.activeBank := rfl
@[simp] theorem State.updSync_save (s : State) (f : Sync → Sync) : (s.updSync f).save = s.save := rfl
@[simp] theorem State.updSync_loadResult (s : State) (f : Sync → Sync) : (s.updSync f).loadResult = s.loadResult := rfl
@[simp] theorem State.updSync_skipped (s : State) (f : Sync → Sync) : (s.updSync f).skipped = s.skipped := rfl
@[simp] theorem State.updSync_engines (s : State) (f : Sync → Sync) : (s.updSync f).engines = s.engines := rfl
@[simp] theorem State.updSync_patches (s : State) (f : Sync → Sync) : (s.updSync f).patches = s.patches := rfl
@[simp] theorem State.updSync_arrays (s : State) (f : Sync → Sync) : (s.updSync f).arrays = s.arrays := rfl
@[simp] theorem State.updSync_idle (s : State) (f : Sync → Sync) : (s.updSync f).idle = s.idle := rfl
@[simp] theorem State.updSync_chans (s : State) (f : Sync → Sync) : (s.updSync f).chans = s.chans := rfl
@[simp] theorem State.updSync_marks (s : State) (f : Sync → Sync) : (s.updSync f).marks = s.marks := rfl
@[simp] theorem State.updSync_switches (s : State) (f : Sync → Sync) : (s.updSync f).switches = s.switches := rfl
@[simp] theorem State.updSync_gates (s : State) (f : Sync → Sync) : (s.updSync f).gates = s.gates := rfl
@[simp] theorem State.updSync_axes (s : State) (f : Sync → Sync) : (s.updSync f).axes = s.axes := rfl
@[simp] theorem State.updSync_groups (s : State) (f : Sync → Sync) : (s.updSync f).groups = s.groups := rfl
@[simp] theorem State.updSync_sync (s : State) (f : Sync → Sync) : (s.updSync f).sync = f s.sync := rfl
@[simp] theorem State.updSync_bpos (s : State) (f : Sync → Sync) : (s.updSync f).bpos = s.bpos := rfl
@[simp] theorem State.updSync_devState (s : State) (f : Sync → Sync) : (s.updSync f).devState = s.devState := rfl
@[simp] theorem State.updSync_lifeCycle (s : State) (f : Sync → Sync) : (s.updSync f).lifeCycle = s.lifeCycle := rfl
@[simp] theorem State.updSync_serial (s : State) (f : Sync → Sync) : (s.updSync f).serial = s.serial := rfl
@[simp] theorem State.updSync_toggles (s : State) (f : Sync → Sync) : (s.updSync f).toggles = s.toggles := rfl
@[simp] theorem State.updSync_fuses (s : State) (f : Sync → Sync) : (s.updSync f).fuses = s.fuses := rfl
@[simp] theorem State.updSync_lcPending (s : State) (f : Sync → Sync) : (s.updSync f).lcPending = s.lcPending := rfl
@[simp] theorem State.updSync_cocoon (s : State) (f : Sync → Sync) : (s.updSync f).cocoon = s.cocoon := rfl
@[simp] theorem State.updSync_tamper (s : State) (f : Sync → Sync) : (s.updSync f).tamper = s.tamper := rfl
@[simp] theorem State.updSync_enc (s : State) (f : Sync → Sync) : (s.updSync f).enc = s.enc := rfl
@[simp] theorem State.updSync_lanes (s : State) (f : Sync → Sync) : (s.updSync f).lanes = s.lanes := rfl
@[simp] theorem State.updSync_due (s : State) (f : Sync → Sync) : (s.updSync f).due = s.due := rfl
@[simp] theorem State.updSync_reqs (s : State) (f : Sync → Sync) : (s.updSync f).reqs = s.reqs := rfl
@[simp] theorem State.updSync_mem (s : State) (f : Sync → Sync) : (s.updSync f).mem = s.mem := rfl
@[simp] theorem State.updSync_recorder (s : State) (f : Sync → Sync) : (s.updSync f).recorder = s.recorder := rfl
@[simp] theorem State.updSync_snap (s : State) (f : Sync → Sync) : (s.updSync f).snap = s.snap := rfl
@[simp] theorem State.updSync_domains (s : State) (f : Sync → Sync) : (s.updSync f).domains = s.domains := rfl
@[simp] theorem State.updSync_power (s : State) (f : Sync → Sync) : (s.updSync f).power = s.power := rfl

/-! `setDomain` -/

@[simp] theorem State.setDomain_ft (s : State) (d : Fin 11) (st : Nat) : (s.setDomain d st).ft = s.ft := rfl
@[simp] theorem State.setDomain_pending (s : State) (d : Fin 11) (st : Nat) : (s.setDomain d st).pending = s.pending := rfl
@[simp] theorem State.setDomain_origin (s : State) (d : Fin 11) (st : Nat) : (s.setDomain d st).origin = s.origin := rfl
@[simp] theorem State.setDomain_waiting (s : State) (d : Fin 11) (st : Nat) : (s.setDomain d st).waiting = s.waiting := rfl
@[simp] theorem State.setDomain_resumed (s : State) (d : Fin 11) (st : Nat) : (s.setDomain d st).resumed = s.resumed := rfl
@[simp] theorem State.setDomain_free (s : State) (d : Fin 11) (st : Nat) : (s.setDomain d st).free = s.free := rfl
@[simp] theorem State.setDomain_out (s : State) (d : Fin 11) (st : Nat) : (s.setDomain d st).out = s.out := rfl
@[simp] theorem State.setDomain_obj (s : State) (d : Fin 11) (st : Nat) : (s.setDomain d st).obj = s.obj := rfl
@[simp] theorem State.setDomain_ver (s : State) (d : Fin 11) (st : Nat) : (s.setDomain d st).ver = s.ver := rfl
@[simp] theorem State.setDomain_verAt (s : State) (d : Fin 11) (st : Nat) : (s.setDomain d st).verAt = s.verAt := rfl
@[simp] theorem State.setDomain_restartObj (s : State) (d : Fin 11) (st : Nat) : (s.setDomain d st).restartObj = s.restartObj := rfl
@[simp] theorem State.setDomain_items (s : State) (d : Fin 11) (st : Nat) : (s.setDomain d st).items = s.items := rfl
@[simp] theorem State.setDomain_gens (s : State) (d : Fin 11) (st : Nat) : (s.setDomain d st).gens = s.gens := rfl
@[simp] theorem State.setDomain_freeSlots (s : State) (d : Fin 11) (st : Nat) : (s.setDomain d st).freeSlots = s.freeSlots := rfl
@[simp] theorem State.setDomain_slotZone (s : State) (d : Fin 11) (st : Nat) : (s.setDomain d st).slotZone = s.slotZone := rfl
@[simp] theorem State.setDomain_notices (s : State) (d : Fin 11) (st : Nat) : (s.setDomain d st).notices = s.notices := rfl
@[simp] theorem State.setDomain_noticesSent (s : State) (d : Fin 11) (st : Nat) : (s.setDomain d st).noticesSent = s.noticesSent := rfl
@[simp] theorem State.setDomain_heldOut (s : State) (d : Fin 11) (st : Nat) : (s.setDomain d st).heldOut = s.heldOut := rfl
@[simp] theorem State.setDomain_lateReports (s : State) (d : Fin 11) (st : Nat) : (s.setDomain d st).lateReports = s.lateReports := rfl
@[simp] theorem State.setDomain_zones (s : State) (d : Fin 11) (st : Nat) : (s.setDomain d st).zones = s.zones := rfl
@[simp] theorem State.setDomain_templates (s : State) (d : Fin 11) (st : Nat) : (s.setDomain d st).templates = s.templates := rfl
@[simp] theorem State.setDomain_tiles (s : State) (d : Fin 11) (st : Nat) : (s.setDomain d st).tiles = s.tiles := rfl
@[simp] theorem State.setDomain_tplGen (s : State) (d : Fin 11) (st : Nat) : (s.setDomain d st).tplGen = s.tplGen := rfl
@[simp] theorem State.setDomain_tplFree (s : State) (d : Fin 11) (st : Nat) : (s.setDomain d st).tplFree = s.tplFree := rfl
@[simp] theorem State.setDomain_tplNext (s : State) (d : Fin 11) (st : Nat) : (s.setDomain d st).tplNext = s.tplNext := rfl
@[simp] theorem State.setDomain_tileGen (s : State) (d : Fin 11) (st : Nat) : (s.setDomain d st).tileGen = s.tileGen := rfl
@[simp] theorem State.setDomain_tileFree (s : State) (d : Fin 11) (st : Nat) : (s.setDomain d st).tileFree = s.tileFree := rfl
@[simp] theorem State.setDomain_tileNext (s : State) (d : Fin 11) (st : Nat) : (s.setDomain d st).tileNext = s.tileNext := rfl
@[simp] theorem State.setDomain_dram (s : State) (d : Fin 11) (st : Nat) : (s.setDomain d st).dram = s.dram := rfl
@[simp] theorem State.setDomain_stream (s : State) (d : Fin 11) (st : Nat) : (s.setDomain d st).stream = s.stream := rfl
@[simp] theorem State.setDomain_writeLoad (s : State) (d : Fin 11) (st : Nat) : (s.setDomain d st).writeLoad = s.writeLoad := rfl
@[simp] theorem State.setDomain_writeAt (s : State) (d : Fin 11) (st : Nat) : (s.setDomain d st).writeAt = s.writeAt := rfl
@[simp] theorem State.setDomain_dataErrors (s : State) (d : Fin 11) (st : Nat) : (s.setDomain d st).dataErrors = s.dataErrors := rfl
@[simp] theorem State.setDomain_streamDiscards (s : State) (d : Fin 11) (st : Nat) : (s.setDomain d st).streamDiscards = s.streamDiscards := rfl
@[simp] theorem State.setDomain_heads (s : State) (d : Fin 11) (st : Nat) : (s.setDomain d st).heads = s.heads := rfl
@[simp] theorem State.setDomain_stampNo (s : State) (d : Fin 11) (st : Nat) : (s.setDomain d st).stampNo = s.stampNo := rfl
@[simp] theorem State.setDomain_chains (s : State) (d : Fin 11) (st : Nat) : (s.setDomain d st).chains = s.chains := rfl
@[simp] theorem State.setDomain_ports (s : State) (d : Fin 11) (st : Nat) : (s.setDomain d st).ports = s.ports := rfl
@[simp] theorem State.setDomain_events (s : State) (d : Fin 11) (st : Nat) : (s.setDomain d st).events = s.events := rfl
@[simp] theorem State.setDomain_lost (s : State) (d : Fin 11) (st : Nat) : (s.setDomain d st).lost = s.lost := rfl
@[simp] theorem State.setDomain_lostRun (s : State) (d : Fin 11) (st : Nat) : (s.setDomain d st).lostRun = s.lostRun := rfl
@[simp] theorem State.setDomain_lostFirst (s : State) (d : Fin 11) (st : Nat) : (s.setDomain d st).lostFirst = s.lostFirst := rfl
@[simp] theorem State.setDomain_lostLast (s : State) (d : Fin 11) (st : Nat) : (s.setDomain d st).lostLast = s.lostLast := rfl
@[simp] theorem State.setDomain_opSeconds (s : State) (d : Fin 11) (st : Nat) : (s.setDomain d st).opSeconds = s.opSeconds := rfl
@[simp] theorem State.setDomain_powerCycles (s : State) (d : Fin 11) (st : Nat) : (s.setDomain d st).powerCycles = s.powerCycles := rfl
@[simp] theorem State.setDomain_calendar (s : State) (d : Fin 11) (st : Nat) : (s.setDomain d st).calendar = s.calendar := rfl
@[simp] theorem State.setDomain_calValid (s : State) (d : Fin 11) (st : Nat) : (s.setDomain d st).calValid = s.calValid := rfl
@[simp] theorem State.setDomain_opAt (s : State) (d : Fin 11) (st : Nat) : (s.setDomain d st).opAt = s.opAt := rfl
@[simp] theorem State.setDomain_opStored (s : State) (d : Fin 11) (st : Nat) : (s.setDomain d st).opStored = s.opStored := rfl
@[simp] theorem State.setDomain_calAt (s : State) (d : Fin 11) (st : Nat) : (s.setDomain d st).calAt = s.calAt := rfl
@[simp] theorem State.setDomain_calFreq (s : State) (d : Fin 11) (st : Nat) : (s.setDomain d st).calFreq = s.calFreq := rfl
@[simp] theorem State.setDomain_calCorr (s : State) (d : Fin 11) (st : Nat) : (s.setDomain d st).calCorr = s.calCorr := rfl
@[simp] theorem State.setDomain_calOff (s : State) (d : Fin 11) (st : Nat) : (s.setDomain d st).calOff = s.calOff := rfl
@[simp] theorem State.setDomain_calRun (s : State) (d : Fin 11) (st : Nat) : (s.setDomain d st).calRun = s.calRun := rfl
@[simp] theorem State.setDomain_cmdStat (s : State) (d : Fin 11) (st : Nat) : (s.setDomain d st).cmdStat = s.cmdStat := rfl
@[simp] theorem State.setDomain_sessions (s : State) (d : Fin 11) (st : Nat) : (s.setDomain d st).sessions = s.sessions := rfl
@[simp] theorem State.setDomain_sessFree (s : State) (d : Fin 11) (st : Nat) : (s.setDomain d st).sessFree = s.sessFree := rfl
@[simp] theorem State.setDomain_shakes (s : State) (d : Fin 11) (st : Nat) : (s.setDomain d st).shakes = s.shakes := rfl
@[simp] theorem State.setDomain_refusals (s : State) (d : Fin 11) (st : Nat) : (s.setDomain d st).refusals = s.refusals := rfl
@[simp] theorem State.setDomain_authFails (s : State) (d : Fin 11) (st : Nat) : (s.setDomain d st).authFails = s.authFails := rfl
@[simp] theorem State.setDomain_replays (s : State) (d : Fin 11) (st : Nat) : (s.setDomain d st).replays = s.replays := rfl
@[simp] theorem State.setDomain_staleSess (s : State) (d : Fin 11) (st : Nat) : (s.setDomain d st).staleSess = s.staleSess := rfl
@[simp] theorem State.setDomain_malformed (s : State) (d : Fin 11) (st : Nat) : (s.setDomain d st).malformed = s.malformed := rfl
@[simp] theorem State.setDomain_hports (s : State) (d : Fin 11) (st : Nat) : (s.setDomain d st).hports = s.hports := rfl
@[simp] theorem State.setDomain_ptp (s : State) (d : Fin 11) (st : Nat) : (s.setDomain d st).ptp = s.ptp := rfl
@[simp] theorem State.setDomain_txs (s : State) (d : Fin 11) (st : Nat) : (s.setDomain d st).txs = s.txs := rfl
@[simp] theorem State.setDomain_txClock (s : State) (d : Fin 11) (st : Nat) : (s.setDomain d st).txClock = s.txClock := rfl
@[simp] theorem State.setDomain_conflicts (s : State) (d : Fin 11) (st : Nat) : (s.setDomain d st).conflicts = s.conflicts := rfl
@[simp] theorem State.setDomain_staleTx (s : State) (d : Fin 11) (st : Nat) : (s.setDomain d st).staleTx = s.staleTx := rfl
@[simp] theorem State.setDomain_cans (s : State) (d : Fin 11) (st : Nat) : (s.setDomain d st).cans = s.cans := rfl
@[simp] theorem State.setDomain_banks (s : State) (d : Fin 11) (st : Nat) : (s.setDomain d st).banks = s.banks := rfl
@[simp] theorem State.setDomain_erases (s : State) (d : Fin 11) (st : Nat) : (s.setDomain d st).erases = s.erases := rfl
@[simp] theorem State.setDomain_activeBank (s : State) (d : Fin 11) (st : Nat) : (s.setDomain d st).activeBank = s.activeBank := rfl
@[simp] theorem State.setDomain_save (s : State) (d : Fin 11) (st : Nat) : (s.setDomain d st).save = s.save := rfl
@[simp] theorem State.setDomain_loadResult (s : State) (d : Fin 11) (st : Nat) : (s.setDomain d st).loadResult = s.loadResult := rfl
@[simp] theorem State.setDomain_skipped (s : State) (d : Fin 11) (st : Nat) : (s.setDomain d st).skipped = s.skipped := rfl
@[simp] theorem State.setDomain_engines (s : State) (d : Fin 11) (st : Nat) : (s.setDomain d st).engines = s.engines := rfl
@[simp] theorem State.setDomain_patches (s : State) (d : Fin 11) (st : Nat) : (s.setDomain d st).patches = s.patches := rfl
@[simp] theorem State.setDomain_arrays (s : State) (d : Fin 11) (st : Nat) : (s.setDomain d st).arrays = s.arrays := rfl
@[simp] theorem State.setDomain_idle (s : State) (d : Fin 11) (st : Nat) : (s.setDomain d st).idle = s.idle := rfl
@[simp] theorem State.setDomain_chans (s : State) (d : Fin 11) (st : Nat) : (s.setDomain d st).chans = s.chans := rfl
@[simp] theorem State.setDomain_marks (s : State) (d : Fin 11) (st : Nat) : (s.setDomain d st).marks = s.marks := rfl
@[simp] theorem State.setDomain_switches (s : State) (d : Fin 11) (st : Nat) : (s.setDomain d st).switches = s.switches := rfl
@[simp] theorem State.setDomain_gates (s : State) (d : Fin 11) (st : Nat) : (s.setDomain d st).gates = s.gates := rfl
@[simp] theorem State.setDomain_axes (s : State) (d : Fin 11) (st : Nat) : (s.setDomain d st).axes = s.axes := rfl
@[simp] theorem State.setDomain_groups (s : State) (d : Fin 11) (st : Nat) : (s.setDomain d st).groups = s.groups := rfl
@[simp] theorem State.setDomain_sync (s : State) (d : Fin 11) (st : Nat) : (s.setDomain d st).sync = s.sync := rfl
@[simp] theorem State.setDomain_bpos (s : State) (d : Fin 11) (st : Nat) : (s.setDomain d st).bpos = s.bpos := rfl
@[simp] theorem State.setDomain_devState (s : State) (d : Fin 11) (st : Nat) : (s.setDomain d st).devState = s.devState := rfl
@[simp] theorem State.setDomain_lifeCycle (s : State) (d : Fin 11) (st : Nat) : (s.setDomain d st).lifeCycle = s.lifeCycle := rfl
@[simp] theorem State.setDomain_serial (s : State) (d : Fin 11) (st : Nat) : (s.setDomain d st).serial = s.serial := rfl
@[simp] theorem State.setDomain_toggles (s : State) (d : Fin 11) (st : Nat) : (s.setDomain d st).toggles = s.toggles := rfl
@[simp] theorem State.setDomain_fuses (s : State) (d : Fin 11) (st : Nat) : (s.setDomain d st).fuses = s.fuses := rfl
@[simp] theorem State.setDomain_lcPending (s : State) (d : Fin 11) (st : Nat) : (s.setDomain d st).lcPending = s.lcPending := rfl
@[simp] theorem State.setDomain_cocoon (s : State) (d : Fin 11) (st : Nat) : (s.setDomain d st).cocoon = s.cocoon := rfl
@[simp] theorem State.setDomain_tamper (s : State) (d : Fin 11) (st : Nat) : (s.setDomain d st).tamper = s.tamper := rfl
@[simp] theorem State.setDomain_enc (s : State) (d : Fin 11) (st : Nat) : (s.setDomain d st).enc = s.enc := rfl
@[simp] theorem State.setDomain_lanes (s : State) (d : Fin 11) (st : Nat) : (s.setDomain d st).lanes = s.lanes := rfl
@[simp] theorem State.setDomain_due (s : State) (d : Fin 11) (st : Nat) : (s.setDomain d st).due = s.due := rfl
@[simp] theorem State.setDomain_reqs (s : State) (d : Fin 11) (st : Nat) : (s.setDomain d st).reqs = s.reqs := rfl
@[simp] theorem State.setDomain_mem (s : State) (d : Fin 11) (st : Nat) : (s.setDomain d st).mem = s.mem := rfl
@[simp] theorem State.setDomain_recorder (s : State) (d : Fin 11) (st : Nat) : (s.setDomain d st).recorder = s.recorder := rfl
@[simp] theorem State.setDomain_snap (s : State) (d : Fin 11) (st : Nat) : (s.setDomain d st).snap = s.snap := rfl
@[simp] theorem State.setDomain_domains (s : State) (d : Fin 11) (st : Nat) : (s.setDomain d st).domains = vupd s.domains d fun x => { x with state := st } := rfl
@[simp] theorem State.setDomain_power (s : State) (d : Fin 11) (st : Nat) : (s.setDomain d st).power = s.power := rfl

/-! `oput` -/

@[simp] theorem State.oput_ft (s : State) (i sub v : Nat) : (s.oput i sub v).ft = s.ft := rfl
@[simp] theorem State.oput_pending (s : State) (i sub v : Nat) : (s.oput i sub v).pending = s.pending := rfl
@[simp] theorem State.oput_origin (s : State) (i sub v : Nat) : (s.oput i sub v).origin = s.origin := rfl
@[simp] theorem State.oput_waiting (s : State) (i sub v : Nat) : (s.oput i sub v).waiting = s.waiting := rfl
@[simp] theorem State.oput_resumed (s : State) (i sub v : Nat) : (s.oput i sub v).resumed = s.resumed := rfl
@[simp] theorem State.oput_free (s : State) (i sub v : Nat) : (s.oput i sub v).free = s.free := rfl
@[simp] theorem State.oput_out (s : State) (i sub v : Nat) : (s.oput i sub v).out = s.out := rfl
@[simp] theorem State.oput_obj (s : State) (i sub v : Nat) : (s.oput i sub v).obj = sset (objDefault i sub) s.obj (objKey i sub) v := rfl
@[simp] theorem State.oput_ver (s : State) (i sub v : Nat) : (s.oput i sub v).ver = s.ver := rfl
@[simp] theorem State.oput_verAt (s : State) (i sub v : Nat) : (s.oput i sub v).verAt = s.verAt := rfl
@[simp] theorem State.oput_restartObj (s : State) (i sub v : Nat) : (s.oput i sub v).restartObj = s.restartObj := rfl
@[simp] theorem State.oput_items (s : State) (i sub v : Nat) : (s.oput i sub v).items = s.items := rfl
@[simp] theorem State.oput_gens (s : State) (i sub v : Nat) : (s.oput i sub v).gens = s.gens := rfl
@[simp] theorem State.oput_freeSlots (s : State) (i sub v : Nat) : (s.oput i sub v).freeSlots = s.freeSlots := rfl
@[simp] theorem State.oput_slotZone (s : State) (i sub v : Nat) : (s.oput i sub v).slotZone = s.slotZone := rfl
@[simp] theorem State.oput_notices (s : State) (i sub v : Nat) : (s.oput i sub v).notices = s.notices := rfl
@[simp] theorem State.oput_noticesSent (s : State) (i sub v : Nat) : (s.oput i sub v).noticesSent = s.noticesSent := rfl
@[simp] theorem State.oput_heldOut (s : State) (i sub v : Nat) : (s.oput i sub v).heldOut = s.heldOut := rfl
@[simp] theorem State.oput_lateReports (s : State) (i sub v : Nat) : (s.oput i sub v).lateReports = s.lateReports := rfl
@[simp] theorem State.oput_zones (s : State) (i sub v : Nat) : (s.oput i sub v).zones = s.zones := rfl
@[simp] theorem State.oput_templates (s : State) (i sub v : Nat) : (s.oput i sub v).templates = s.templates := rfl
@[simp] theorem State.oput_tiles (s : State) (i sub v : Nat) : (s.oput i sub v).tiles = s.tiles := rfl
@[simp] theorem State.oput_tplGen (s : State) (i sub v : Nat) : (s.oput i sub v).tplGen = s.tplGen := rfl
@[simp] theorem State.oput_tplFree (s : State) (i sub v : Nat) : (s.oput i sub v).tplFree = s.tplFree := rfl
@[simp] theorem State.oput_tplNext (s : State) (i sub v : Nat) : (s.oput i sub v).tplNext = s.tplNext := rfl
@[simp] theorem State.oput_tileGen (s : State) (i sub v : Nat) : (s.oput i sub v).tileGen = s.tileGen := rfl
@[simp] theorem State.oput_tileFree (s : State) (i sub v : Nat) : (s.oput i sub v).tileFree = s.tileFree := rfl
@[simp] theorem State.oput_tileNext (s : State) (i sub v : Nat) : (s.oput i sub v).tileNext = s.tileNext := rfl
@[simp] theorem State.oput_dram (s : State) (i sub v : Nat) : (s.oput i sub v).dram = s.dram := rfl
@[simp] theorem State.oput_stream (s : State) (i sub v : Nat) : (s.oput i sub v).stream = s.stream := rfl
@[simp] theorem State.oput_writeLoad (s : State) (i sub v : Nat) : (s.oput i sub v).writeLoad = s.writeLoad := rfl
@[simp] theorem State.oput_writeAt (s : State) (i sub v : Nat) : (s.oput i sub v).writeAt = s.writeAt := rfl
@[simp] theorem State.oput_dataErrors (s : State) (i sub v : Nat) : (s.oput i sub v).dataErrors = s.dataErrors := rfl
@[simp] theorem State.oput_streamDiscards (s : State) (i sub v : Nat) : (s.oput i sub v).streamDiscards = s.streamDiscards := rfl
@[simp] theorem State.oput_heads (s : State) (i sub v : Nat) : (s.oput i sub v).heads = s.heads := rfl
@[simp] theorem State.oput_stampNo (s : State) (i sub v : Nat) : (s.oput i sub v).stampNo = s.stampNo := rfl
@[simp] theorem State.oput_chains (s : State) (i sub v : Nat) : (s.oput i sub v).chains = s.chains := rfl
@[simp] theorem State.oput_ports (s : State) (i sub v : Nat) : (s.oput i sub v).ports = s.ports := rfl
@[simp] theorem State.oput_events (s : State) (i sub v : Nat) : (s.oput i sub v).events = s.events := rfl
@[simp] theorem State.oput_lost (s : State) (i sub v : Nat) : (s.oput i sub v).lost = s.lost := rfl
@[simp] theorem State.oput_lostRun (s : State) (i sub v : Nat) : (s.oput i sub v).lostRun = s.lostRun := rfl
@[simp] theorem State.oput_lostFirst (s : State) (i sub v : Nat) : (s.oput i sub v).lostFirst = s.lostFirst := rfl
@[simp] theorem State.oput_lostLast (s : State) (i sub v : Nat) : (s.oput i sub v).lostLast = s.lostLast := rfl
@[simp] theorem State.oput_opSeconds (s : State) (i sub v : Nat) : (s.oput i sub v).opSeconds = s.opSeconds := rfl
@[simp] theorem State.oput_powerCycles (s : State) (i sub v : Nat) : (s.oput i sub v).powerCycles = s.powerCycles := rfl
@[simp] theorem State.oput_calendar (s : State) (i sub v : Nat) : (s.oput i sub v).calendar = s.calendar := rfl
@[simp] theorem State.oput_calValid (s : State) (i sub v : Nat) : (s.oput i sub v).calValid = s.calValid := rfl
@[simp] theorem State.oput_opAt (s : State) (i sub v : Nat) : (s.oput i sub v).opAt = s.opAt := rfl
@[simp] theorem State.oput_opStored (s : State) (i sub v : Nat) : (s.oput i sub v).opStored = s.opStored := rfl
@[simp] theorem State.oput_calAt (s : State) (i sub v : Nat) : (s.oput i sub v).calAt = s.calAt := rfl
@[simp] theorem State.oput_calFreq (s : State) (i sub v : Nat) : (s.oput i sub v).calFreq = s.calFreq := rfl
@[simp] theorem State.oput_calCorr (s : State) (i sub v : Nat) : (s.oput i sub v).calCorr = s.calCorr := rfl
@[simp] theorem State.oput_calOff (s : State) (i sub v : Nat) : (s.oput i sub v).calOff = s.calOff := rfl
@[simp] theorem State.oput_calRun (s : State) (i sub v : Nat) : (s.oput i sub v).calRun = s.calRun := rfl
@[simp] theorem State.oput_cmdStat (s : State) (i sub v : Nat) : (s.oput i sub v).cmdStat = s.cmdStat := rfl
@[simp] theorem State.oput_sessions (s : State) (i sub v : Nat) : (s.oput i sub v).sessions = s.sessions := rfl
@[simp] theorem State.oput_sessFree (s : State) (i sub v : Nat) : (s.oput i sub v).sessFree = s.sessFree := rfl
@[simp] theorem State.oput_shakes (s : State) (i sub v : Nat) : (s.oput i sub v).shakes = s.shakes := rfl
@[simp] theorem State.oput_refusals (s : State) (i sub v : Nat) : (s.oput i sub v).refusals = s.refusals := rfl
@[simp] theorem State.oput_authFails (s : State) (i sub v : Nat) : (s.oput i sub v).authFails = s.authFails := rfl
@[simp] theorem State.oput_replays (s : State) (i sub v : Nat) : (s.oput i sub v).replays = s.replays := rfl
@[simp] theorem State.oput_staleSess (s : State) (i sub v : Nat) : (s.oput i sub v).staleSess = s.staleSess := rfl
@[simp] theorem State.oput_malformed (s : State) (i sub v : Nat) : (s.oput i sub v).malformed = s.malformed := rfl
@[simp] theorem State.oput_hports (s : State) (i sub v : Nat) : (s.oput i sub v).hports = s.hports := rfl
@[simp] theorem State.oput_ptp (s : State) (i sub v : Nat) : (s.oput i sub v).ptp = s.ptp := rfl
@[simp] theorem State.oput_txs (s : State) (i sub v : Nat) : (s.oput i sub v).txs = s.txs := rfl
@[simp] theorem State.oput_txClock (s : State) (i sub v : Nat) : (s.oput i sub v).txClock = s.txClock := rfl
@[simp] theorem State.oput_conflicts (s : State) (i sub v : Nat) : (s.oput i sub v).conflicts = s.conflicts := rfl
@[simp] theorem State.oput_staleTx (s : State) (i sub v : Nat) : (s.oput i sub v).staleTx = s.staleTx := rfl
@[simp] theorem State.oput_cans (s : State) (i sub v : Nat) : (s.oput i sub v).cans = s.cans := rfl
@[simp] theorem State.oput_banks (s : State) (i sub v : Nat) : (s.oput i sub v).banks = s.banks := rfl
@[simp] theorem State.oput_erases (s : State) (i sub v : Nat) : (s.oput i sub v).erases = s.erases := rfl
@[simp] theorem State.oput_activeBank (s : State) (i sub v : Nat) : (s.oput i sub v).activeBank = s.activeBank := rfl
@[simp] theorem State.oput_save (s : State) (i sub v : Nat) : (s.oput i sub v).save = s.save := rfl
@[simp] theorem State.oput_loadResult (s : State) (i sub v : Nat) : (s.oput i sub v).loadResult = s.loadResult := rfl
@[simp] theorem State.oput_skipped (s : State) (i sub v : Nat) : (s.oput i sub v).skipped = s.skipped := rfl
@[simp] theorem State.oput_engines (s : State) (i sub v : Nat) : (s.oput i sub v).engines = s.engines := rfl
@[simp] theorem State.oput_patches (s : State) (i sub v : Nat) : (s.oput i sub v).patches = s.patches := rfl
@[simp] theorem State.oput_arrays (s : State) (i sub v : Nat) : (s.oput i sub v).arrays = s.arrays := rfl
@[simp] theorem State.oput_idle (s : State) (i sub v : Nat) : (s.oput i sub v).idle = s.idle := rfl
@[simp] theorem State.oput_chans (s : State) (i sub v : Nat) : (s.oput i sub v).chans = s.chans := rfl
@[simp] theorem State.oput_marks (s : State) (i sub v : Nat) : (s.oput i sub v).marks = s.marks := rfl
@[simp] theorem State.oput_switches (s : State) (i sub v : Nat) : (s.oput i sub v).switches = s.switches := rfl
@[simp] theorem State.oput_gates (s : State) (i sub v : Nat) : (s.oput i sub v).gates = s.gates := rfl
@[simp] theorem State.oput_axes (s : State) (i sub v : Nat) : (s.oput i sub v).axes = s.axes := rfl
@[simp] theorem State.oput_groups (s : State) (i sub v : Nat) : (s.oput i sub v).groups = s.groups := rfl
@[simp] theorem State.oput_sync (s : State) (i sub v : Nat) : (s.oput i sub v).sync = s.sync := rfl
@[simp] theorem State.oput_bpos (s : State) (i sub v : Nat) : (s.oput i sub v).bpos = s.bpos := rfl
@[simp] theorem State.oput_devState (s : State) (i sub v : Nat) : (s.oput i sub v).devState = s.devState := rfl
@[simp] theorem State.oput_lifeCycle (s : State) (i sub v : Nat) : (s.oput i sub v).lifeCycle = s.lifeCycle := rfl
@[simp] theorem State.oput_serial (s : State) (i sub v : Nat) : (s.oput i sub v).serial = s.serial := rfl
@[simp] theorem State.oput_toggles (s : State) (i sub v : Nat) : (s.oput i sub v).toggles = s.toggles := rfl
@[simp] theorem State.oput_fuses (s : State) (i sub v : Nat) : (s.oput i sub v).fuses = s.fuses := rfl
@[simp] theorem State.oput_lcPending (s : State) (i sub v : Nat) : (s.oput i sub v).lcPending = s.lcPending := rfl
@[simp] theorem State.oput_cocoon (s : State) (i sub v : Nat) : (s.oput i sub v).cocoon = s.cocoon := rfl
@[simp] theorem State.oput_tamper (s : State) (i sub v : Nat) : (s.oput i sub v).tamper = s.tamper := rfl
@[simp] theorem State.oput_enc (s : State) (i sub v : Nat) : (s.oput i sub v).enc = s.enc := rfl
@[simp] theorem State.oput_lanes (s : State) (i sub v : Nat) : (s.oput i sub v).lanes = s.lanes := rfl
@[simp] theorem State.oput_due (s : State) (i sub v : Nat) : (s.oput i sub v).due = s.due := rfl
@[simp] theorem State.oput_reqs (s : State) (i sub v : Nat) : (s.oput i sub v).reqs = s.reqs := rfl
@[simp] theorem State.oput_mem (s : State) (i sub v : Nat) : (s.oput i sub v).mem = s.mem := rfl
@[simp] theorem State.oput_recorder (s : State) (i sub v : Nat) : (s.oput i sub v).recorder = s.recorder := rfl
@[simp] theorem State.oput_snap (s : State) (i sub v : Nat) : (s.oput i sub v).snap = s.snap := rfl
@[simp] theorem State.oput_domains (s : State) (i sub v : Nat) : (s.oput i sub v).domains = s.domains := rfl
@[simp] theorem State.oput_power (s : State) (i sub v : Nat) : (s.oput i sub v).power = s.power := rfl

/-! `setStat` -/

@[simp] theorem State.setStat_ft (s : State) (i sub : Nat) (c : CmdStat) : (s.setStat i sub c).ft = s.ft := rfl
@[simp] theorem State.setStat_pending (s : State) (i sub : Nat) (c : CmdStat) : (s.setStat i sub c).pending = s.pending := rfl
@[simp] theorem State.setStat_origin (s : State) (i sub : Nat) (c : CmdStat) : (s.setStat i sub c).origin = s.origin := rfl
@[simp] theorem State.setStat_waiting (s : State) (i sub : Nat) (c : CmdStat) : (s.setStat i sub c).waiting = s.waiting := rfl
@[simp] theorem State.setStat_resumed (s : State) (i sub : Nat) (c : CmdStat) : (s.setStat i sub c).resumed = s.resumed := rfl
@[simp] theorem State.setStat_free (s : State) (i sub : Nat) (c : CmdStat) : (s.setStat i sub c).free = s.free := rfl
@[simp] theorem State.setStat_out (s : State) (i sub : Nat) (c : CmdStat) : (s.setStat i sub c).out = s.out := rfl
@[simp] theorem State.setStat_obj (s : State) (i sub : Nat) (c : CmdStat) : (s.setStat i sub c).obj = s.obj := rfl
@[simp] theorem State.setStat_ver (s : State) (i sub : Nat) (c : CmdStat) : (s.setStat i sub c).ver = s.ver := rfl
@[simp] theorem State.setStat_verAt (s : State) (i sub : Nat) (c : CmdStat) : (s.setStat i sub c).verAt = s.verAt := rfl
@[simp] theorem State.setStat_restartObj (s : State) (i sub : Nat) (c : CmdStat) : (s.setStat i sub c).restartObj = s.restartObj := rfl
@[simp] theorem State.setStat_items (s : State) (i sub : Nat) (c : CmdStat) : (s.setStat i sub c).items = s.items := rfl
@[simp] theorem State.setStat_gens (s : State) (i sub : Nat) (c : CmdStat) : (s.setStat i sub c).gens = s.gens := rfl
@[simp] theorem State.setStat_freeSlots (s : State) (i sub : Nat) (c : CmdStat) : (s.setStat i sub c).freeSlots = s.freeSlots := rfl
@[simp] theorem State.setStat_slotZone (s : State) (i sub : Nat) (c : CmdStat) : (s.setStat i sub c).slotZone = s.slotZone := rfl
@[simp] theorem State.setStat_notices (s : State) (i sub : Nat) (c : CmdStat) : (s.setStat i sub c).notices = s.notices := rfl
@[simp] theorem State.setStat_noticesSent (s : State) (i sub : Nat) (c : CmdStat) : (s.setStat i sub c).noticesSent = s.noticesSent := rfl
@[simp] theorem State.setStat_heldOut (s : State) (i sub : Nat) (c : CmdStat) : (s.setStat i sub c).heldOut = s.heldOut := rfl
@[simp] theorem State.setStat_lateReports (s : State) (i sub : Nat) (c : CmdStat) : (s.setStat i sub c).lateReports = s.lateReports := rfl
@[simp] theorem State.setStat_zones (s : State) (i sub : Nat) (c : CmdStat) : (s.setStat i sub c).zones = s.zones := rfl
@[simp] theorem State.setStat_templates (s : State) (i sub : Nat) (c : CmdStat) : (s.setStat i sub c).templates = s.templates := rfl
@[simp] theorem State.setStat_tiles (s : State) (i sub : Nat) (c : CmdStat) : (s.setStat i sub c).tiles = s.tiles := rfl
@[simp] theorem State.setStat_tplGen (s : State) (i sub : Nat) (c : CmdStat) : (s.setStat i sub c).tplGen = s.tplGen := rfl
@[simp] theorem State.setStat_tplFree (s : State) (i sub : Nat) (c : CmdStat) : (s.setStat i sub c).tplFree = s.tplFree := rfl
@[simp] theorem State.setStat_tplNext (s : State) (i sub : Nat) (c : CmdStat) : (s.setStat i sub c).tplNext = s.tplNext := rfl
@[simp] theorem State.setStat_tileGen (s : State) (i sub : Nat) (c : CmdStat) : (s.setStat i sub c).tileGen = s.tileGen := rfl
@[simp] theorem State.setStat_tileFree (s : State) (i sub : Nat) (c : CmdStat) : (s.setStat i sub c).tileFree = s.tileFree := rfl
@[simp] theorem State.setStat_tileNext (s : State) (i sub : Nat) (c : CmdStat) : (s.setStat i sub c).tileNext = s.tileNext := rfl
@[simp] theorem State.setStat_dram (s : State) (i sub : Nat) (c : CmdStat) : (s.setStat i sub c).dram = s.dram := rfl
@[simp] theorem State.setStat_stream (s : State) (i sub : Nat) (c : CmdStat) : (s.setStat i sub c).stream = s.stream := rfl
@[simp] theorem State.setStat_writeLoad (s : State) (i sub : Nat) (c : CmdStat) : (s.setStat i sub c).writeLoad = s.writeLoad := rfl
@[simp] theorem State.setStat_writeAt (s : State) (i sub : Nat) (c : CmdStat) : (s.setStat i sub c).writeAt = s.writeAt := rfl
@[simp] theorem State.setStat_dataErrors (s : State) (i sub : Nat) (c : CmdStat) : (s.setStat i sub c).dataErrors = s.dataErrors := rfl
@[simp] theorem State.setStat_streamDiscards (s : State) (i sub : Nat) (c : CmdStat) : (s.setStat i sub c).streamDiscards = s.streamDiscards := rfl
@[simp] theorem State.setStat_heads (s : State) (i sub : Nat) (c : CmdStat) : (s.setStat i sub c).heads = s.heads := rfl
@[simp] theorem State.setStat_stampNo (s : State) (i sub : Nat) (c : CmdStat) : (s.setStat i sub c).stampNo = s.stampNo := rfl
@[simp] theorem State.setStat_chains (s : State) (i sub : Nat) (c : CmdStat) : (s.setStat i sub c).chains = s.chains := rfl
@[simp] theorem State.setStat_ports (s : State) (i sub : Nat) (c : CmdStat) : (s.setStat i sub c).ports = s.ports := rfl
@[simp] theorem State.setStat_events (s : State) (i sub : Nat) (c : CmdStat) : (s.setStat i sub c).events = s.events := rfl
@[simp] theorem State.setStat_lost (s : State) (i sub : Nat) (c : CmdStat) : (s.setStat i sub c).lost = s.lost := rfl
@[simp] theorem State.setStat_lostRun (s : State) (i sub : Nat) (c : CmdStat) : (s.setStat i sub c).lostRun = s.lostRun := rfl
@[simp] theorem State.setStat_lostFirst (s : State) (i sub : Nat) (c : CmdStat) : (s.setStat i sub c).lostFirst = s.lostFirst := rfl
@[simp] theorem State.setStat_lostLast (s : State) (i sub : Nat) (c : CmdStat) : (s.setStat i sub c).lostLast = s.lostLast := rfl
@[simp] theorem State.setStat_opSeconds (s : State) (i sub : Nat) (c : CmdStat) : (s.setStat i sub c).opSeconds = s.opSeconds := rfl
@[simp] theorem State.setStat_powerCycles (s : State) (i sub : Nat) (c : CmdStat) : (s.setStat i sub c).powerCycles = s.powerCycles := rfl
@[simp] theorem State.setStat_calendar (s : State) (i sub : Nat) (c : CmdStat) : (s.setStat i sub c).calendar = s.calendar := rfl
@[simp] theorem State.setStat_calValid (s : State) (i sub : Nat) (c : CmdStat) : (s.setStat i sub c).calValid = s.calValid := rfl
@[simp] theorem State.setStat_opAt (s : State) (i sub : Nat) (c : CmdStat) : (s.setStat i sub c).opAt = s.opAt := rfl
@[simp] theorem State.setStat_opStored (s : State) (i sub : Nat) (c : CmdStat) : (s.setStat i sub c).opStored = s.opStored := rfl
@[simp] theorem State.setStat_calAt (s : State) (i sub : Nat) (c : CmdStat) : (s.setStat i sub c).calAt = s.calAt := rfl
@[simp] theorem State.setStat_calFreq (s : State) (i sub : Nat) (c : CmdStat) : (s.setStat i sub c).calFreq = s.calFreq := rfl
@[simp] theorem State.setStat_calCorr (s : State) (i sub : Nat) (c : CmdStat) : (s.setStat i sub c).calCorr = s.calCorr := rfl
@[simp] theorem State.setStat_calOff (s : State) (i sub : Nat) (c : CmdStat) : (s.setStat i sub c).calOff = s.calOff := rfl
@[simp] theorem State.setStat_calRun (s : State) (i sub : Nat) (c : CmdStat) : (s.setStat i sub c).calRun = s.calRun := rfl
@[simp] theorem State.setStat_cmdStat (s : State) (i sub : Nat) (c : CmdStat) : (s.setStat i sub c).cmdStat = sset { state := 0, code := 0 } s.cmdStat (objKey i sub) c := rfl
@[simp] theorem State.setStat_sessions (s : State) (i sub : Nat) (c : CmdStat) : (s.setStat i sub c).sessions = s.sessions := rfl
@[simp] theorem State.setStat_sessFree (s : State) (i sub : Nat) (c : CmdStat) : (s.setStat i sub c).sessFree = s.sessFree := rfl
@[simp] theorem State.setStat_shakes (s : State) (i sub : Nat) (c : CmdStat) : (s.setStat i sub c).shakes = s.shakes := rfl
@[simp] theorem State.setStat_refusals (s : State) (i sub : Nat) (c : CmdStat) : (s.setStat i sub c).refusals = s.refusals := rfl
@[simp] theorem State.setStat_authFails (s : State) (i sub : Nat) (c : CmdStat) : (s.setStat i sub c).authFails = s.authFails := rfl
@[simp] theorem State.setStat_replays (s : State) (i sub : Nat) (c : CmdStat) : (s.setStat i sub c).replays = s.replays := rfl
@[simp] theorem State.setStat_staleSess (s : State) (i sub : Nat) (c : CmdStat) : (s.setStat i sub c).staleSess = s.staleSess := rfl
@[simp] theorem State.setStat_malformed (s : State) (i sub : Nat) (c : CmdStat) : (s.setStat i sub c).malformed = s.malformed := rfl
@[simp] theorem State.setStat_hports (s : State) (i sub : Nat) (c : CmdStat) : (s.setStat i sub c).hports = s.hports := rfl
@[simp] theorem State.setStat_ptp (s : State) (i sub : Nat) (c : CmdStat) : (s.setStat i sub c).ptp = s.ptp := rfl
@[simp] theorem State.setStat_txs (s : State) (i sub : Nat) (c : CmdStat) : (s.setStat i sub c).txs = s.txs := rfl
@[simp] theorem State.setStat_txClock (s : State) (i sub : Nat) (c : CmdStat) : (s.setStat i sub c).txClock = s.txClock := rfl
@[simp] theorem State.setStat_conflicts (s : State) (i sub : Nat) (c : CmdStat) : (s.setStat i sub c).conflicts = s.conflicts := rfl
@[simp] theorem State.setStat_staleTx (s : State) (i sub : Nat) (c : CmdStat) : (s.setStat i sub c).staleTx = s.staleTx := rfl
@[simp] theorem State.setStat_cans (s : State) (i sub : Nat) (c : CmdStat) : (s.setStat i sub c).cans = s.cans := rfl
@[simp] theorem State.setStat_banks (s : State) (i sub : Nat) (c : CmdStat) : (s.setStat i sub c).banks = s.banks := rfl
@[simp] theorem State.setStat_erases (s : State) (i sub : Nat) (c : CmdStat) : (s.setStat i sub c).erases = s.erases := rfl
@[simp] theorem State.setStat_activeBank (s : State) (i sub : Nat) (c : CmdStat) : (s.setStat i sub c).activeBank = s.activeBank := rfl
@[simp] theorem State.setStat_save (s : State) (i sub : Nat) (c : CmdStat) : (s.setStat i sub c).save = s.save := rfl
@[simp] theorem State.setStat_loadResult (s : State) (i sub : Nat) (c : CmdStat) : (s.setStat i sub c).loadResult = s.loadResult := rfl
@[simp] theorem State.setStat_skipped (s : State) (i sub : Nat) (c : CmdStat) : (s.setStat i sub c).skipped = s.skipped := rfl
@[simp] theorem State.setStat_engines (s : State) (i sub : Nat) (c : CmdStat) : (s.setStat i sub c).engines = s.engines := rfl
@[simp] theorem State.setStat_patches (s : State) (i sub : Nat) (c : CmdStat) : (s.setStat i sub c).patches = s.patches := rfl
@[simp] theorem State.setStat_arrays (s : State) (i sub : Nat) (c : CmdStat) : (s.setStat i sub c).arrays = s.arrays := rfl
@[simp] theorem State.setStat_idle (s : State) (i sub : Nat) (c : CmdStat) : (s.setStat i sub c).idle = s.idle := rfl
@[simp] theorem State.setStat_chans (s : State) (i sub : Nat) (c : CmdStat) : (s.setStat i sub c).chans = s.chans := rfl
@[simp] theorem State.setStat_marks (s : State) (i sub : Nat) (c : CmdStat) : (s.setStat i sub c).marks = s.marks := rfl
@[simp] theorem State.setStat_switches (s : State) (i sub : Nat) (c : CmdStat) : (s.setStat i sub c).switches = s.switches := rfl
@[simp] theorem State.setStat_gates (s : State) (i sub : Nat) (c : CmdStat) : (s.setStat i sub c).gates = s.gates := rfl
@[simp] theorem State.setStat_axes (s : State) (i sub : Nat) (c : CmdStat) : (s.setStat i sub c).axes = s.axes := rfl
@[simp] theorem State.setStat_groups (s : State) (i sub : Nat) (c : CmdStat) : (s.setStat i sub c).groups = s.groups := rfl
@[simp] theorem State.setStat_sync (s : State) (i sub : Nat) (c : CmdStat) : (s.setStat i sub c).sync = s.sync := rfl
@[simp] theorem State.setStat_bpos (s : State) (i sub : Nat) (c : CmdStat) : (s.setStat i sub c).bpos = s.bpos := rfl
@[simp] theorem State.setStat_devState (s : State) (i sub : Nat) (c : CmdStat) : (s.setStat i sub c).devState = s.devState := rfl
@[simp] theorem State.setStat_lifeCycle (s : State) (i sub : Nat) (c : CmdStat) : (s.setStat i sub c).lifeCycle = s.lifeCycle := rfl
@[simp] theorem State.setStat_serial (s : State) (i sub : Nat) (c : CmdStat) : (s.setStat i sub c).serial = s.serial := rfl
@[simp] theorem State.setStat_toggles (s : State) (i sub : Nat) (c : CmdStat) : (s.setStat i sub c).toggles = s.toggles := rfl
@[simp] theorem State.setStat_fuses (s : State) (i sub : Nat) (c : CmdStat) : (s.setStat i sub c).fuses = s.fuses := rfl
@[simp] theorem State.setStat_lcPending (s : State) (i sub : Nat) (c : CmdStat) : (s.setStat i sub c).lcPending = s.lcPending := rfl
@[simp] theorem State.setStat_cocoon (s : State) (i sub : Nat) (c : CmdStat) : (s.setStat i sub c).cocoon = s.cocoon := rfl
@[simp] theorem State.setStat_tamper (s : State) (i sub : Nat) (c : CmdStat) : (s.setStat i sub c).tamper = s.tamper := rfl
@[simp] theorem State.setStat_enc (s : State) (i sub : Nat) (c : CmdStat) : (s.setStat i sub c).enc = s.enc := rfl
@[simp] theorem State.setStat_lanes (s : State) (i sub : Nat) (c : CmdStat) : (s.setStat i sub c).lanes = s.lanes := rfl
@[simp] theorem State.setStat_due (s : State) (i sub : Nat) (c : CmdStat) : (s.setStat i sub c).due = s.due := rfl
@[simp] theorem State.setStat_reqs (s : State) (i sub : Nat) (c : CmdStat) : (s.setStat i sub c).reqs = s.reqs := rfl
@[simp] theorem State.setStat_mem (s : State) (i sub : Nat) (c : CmdStat) : (s.setStat i sub c).mem = s.mem := rfl
@[simp] theorem State.setStat_recorder (s : State) (i sub : Nat) (c : CmdStat) : (s.setStat i sub c).recorder = s.recorder := rfl
@[simp] theorem State.setStat_snap (s : State) (i sub : Nat) (c : CmdStat) : (s.setStat i sub c).snap = s.snap := rfl
@[simp] theorem State.setStat_domains (s : State) (i sub : Nat) (c : CmdStat) : (s.setStat i sub c).domains = s.domains := rfl
@[simp] theorem State.setStat_power (s : State) (i sub : Nat) (c : CmdStat) : (s.setStat i sub c).power = s.power := rfl

/-! `updItem` -/

@[simp] theorem State.updItem_ft (s : State) (h : Nat) (f : Item → Item) : (s.updItem h f).ft = s.ft := rfl
@[simp] theorem State.updItem_pending (s : State) (h : Nat) (f : Item → Item) : (s.updItem h f).pending = s.pending := rfl
@[simp] theorem State.updItem_origin (s : State) (h : Nat) (f : Item → Item) : (s.updItem h f).origin = s.origin := rfl
@[simp] theorem State.updItem_waiting (s : State) (h : Nat) (f : Item → Item) : (s.updItem h f).waiting = s.waiting := rfl
@[simp] theorem State.updItem_resumed (s : State) (h : Nat) (f : Item → Item) : (s.updItem h f).resumed = s.resumed := rfl
@[simp] theorem State.updItem_free (s : State) (h : Nat) (f : Item → Item) : (s.updItem h f).free = s.free := rfl
@[simp] theorem State.updItem_out (s : State) (h : Nat) (f : Item → Item) : (s.updItem h f).out = s.out := rfl
@[simp] theorem State.updItem_obj (s : State) (h : Nat) (f : Item → Item) : (s.updItem h f).obj = s.obj := rfl
@[simp] theorem State.updItem_ver (s : State) (h : Nat) (f : Item → Item) : (s.updItem h f).ver = s.ver := rfl
@[simp] theorem State.updItem_verAt (s : State) (h : Nat) (f : Item → Item) : (s.updItem h f).verAt = s.verAt := rfl
@[simp] theorem State.updItem_restartObj (s : State) (h : Nat) (f : Item → Item) : (s.updItem h f).restartObj = s.restartObj := rfl
@[simp] theorem State.updItem_gens (s : State) (h : Nat) (f : Item → Item) : (s.updItem h f).gens = s.gens := rfl
@[simp] theorem State.updItem_freeSlots (s : State) (h : Nat) (f : Item → Item) : (s.updItem h f).freeSlots = s.freeSlots := rfl
@[simp] theorem State.updItem_slotZone (s : State) (h : Nat) (f : Item → Item) : (s.updItem h f).slotZone = s.slotZone := rfl
@[simp] theorem State.updItem_notices (s : State) (h : Nat) (f : Item → Item) : (s.updItem h f).notices = s.notices := rfl
@[simp] theorem State.updItem_noticesSent (s : State) (h : Nat) (f : Item → Item) : (s.updItem h f).noticesSent = s.noticesSent := rfl
@[simp] theorem State.updItem_heldOut (s : State) (h : Nat) (f : Item → Item) : (s.updItem h f).heldOut = s.heldOut := rfl
@[simp] theorem State.updItem_lateReports (s : State) (h : Nat) (f : Item → Item) : (s.updItem h f).lateReports = s.lateReports := rfl
@[simp] theorem State.updItem_zones (s : State) (h : Nat) (f : Item → Item) : (s.updItem h f).zones = s.zones := rfl
@[simp] theorem State.updItem_templates (s : State) (h : Nat) (f : Item → Item) : (s.updItem h f).templates = s.templates := rfl
@[simp] theorem State.updItem_tiles (s : State) (h : Nat) (f : Item → Item) : (s.updItem h f).tiles = s.tiles := rfl
@[simp] theorem State.updItem_tplGen (s : State) (h : Nat) (f : Item → Item) : (s.updItem h f).tplGen = s.tplGen := rfl
@[simp] theorem State.updItem_tplFree (s : State) (h : Nat) (f : Item → Item) : (s.updItem h f).tplFree = s.tplFree := rfl
@[simp] theorem State.updItem_tplNext (s : State) (h : Nat) (f : Item → Item) : (s.updItem h f).tplNext = s.tplNext := rfl
@[simp] theorem State.updItem_tileGen (s : State) (h : Nat) (f : Item → Item) : (s.updItem h f).tileGen = s.tileGen := rfl
@[simp] theorem State.updItem_tileFree (s : State) (h : Nat) (f : Item → Item) : (s.updItem h f).tileFree = s.tileFree := rfl
@[simp] theorem State.updItem_tileNext (s : State) (h : Nat) (f : Item → Item) : (s.updItem h f).tileNext = s.tileNext := rfl
@[simp] theorem State.updItem_dram (s : State) (h : Nat) (f : Item → Item) : (s.updItem h f).dram = s.dram := rfl
@[simp] theorem State.updItem_stream (s : State) (h : Nat) (f : Item → Item) : (s.updItem h f).stream = s.stream := rfl
@[simp] theorem State.updItem_writeLoad (s : State) (h : Nat) (f : Item → Item) : (s.updItem h f).writeLoad = s.writeLoad := rfl
@[simp] theorem State.updItem_writeAt (s : State) (h : Nat) (f : Item → Item) : (s.updItem h f).writeAt = s.writeAt := rfl
@[simp] theorem State.updItem_dataErrors (s : State) (h : Nat) (f : Item → Item) : (s.updItem h f).dataErrors = s.dataErrors := rfl
@[simp] theorem State.updItem_streamDiscards (s : State) (h : Nat) (f : Item → Item) : (s.updItem h f).streamDiscards = s.streamDiscards := rfl
@[simp] theorem State.updItem_heads (s : State) (h : Nat) (f : Item → Item) : (s.updItem h f).heads = s.heads := rfl
@[simp] theorem State.updItem_stampNo (s : State) (h : Nat) (f : Item → Item) : (s.updItem h f).stampNo = s.stampNo := rfl
@[simp] theorem State.updItem_chains (s : State) (h : Nat) (f : Item → Item) : (s.updItem h f).chains = s.chains := rfl
@[simp] theorem State.updItem_ports (s : State) (h : Nat) (f : Item → Item) : (s.updItem h f).ports = s.ports := rfl
@[simp] theorem State.updItem_events (s : State) (h : Nat) (f : Item → Item) : (s.updItem h f).events = s.events := rfl
@[simp] theorem State.updItem_lost (s : State) (h : Nat) (f : Item → Item) : (s.updItem h f).lost = s.lost := rfl
@[simp] theorem State.updItem_lostRun (s : State) (h : Nat) (f : Item → Item) : (s.updItem h f).lostRun = s.lostRun := rfl
@[simp] theorem State.updItem_lostFirst (s : State) (h : Nat) (f : Item → Item) : (s.updItem h f).lostFirst = s.lostFirst := rfl
@[simp] theorem State.updItem_lostLast (s : State) (h : Nat) (f : Item → Item) : (s.updItem h f).lostLast = s.lostLast := rfl
@[simp] theorem State.updItem_opSeconds (s : State) (h : Nat) (f : Item → Item) : (s.updItem h f).opSeconds = s.opSeconds := rfl
@[simp] theorem State.updItem_powerCycles (s : State) (h : Nat) (f : Item → Item) : (s.updItem h f).powerCycles = s.powerCycles := rfl
@[simp] theorem State.updItem_calendar (s : State) (h : Nat) (f : Item → Item) : (s.updItem h f).calendar = s.calendar := rfl
@[simp] theorem State.updItem_calValid (s : State) (h : Nat) (f : Item → Item) : (s.updItem h f).calValid = s.calValid := rfl
@[simp] theorem State.updItem_opAt (s : State) (h : Nat) (f : Item → Item) : (s.updItem h f).opAt = s.opAt := rfl
@[simp] theorem State.updItem_opStored (s : State) (h : Nat) (f : Item → Item) : (s.updItem h f).opStored = s.opStored := rfl
@[simp] theorem State.updItem_calAt (s : State) (h : Nat) (f : Item → Item) : (s.updItem h f).calAt = s.calAt := rfl
@[simp] theorem State.updItem_calFreq (s : State) (h : Nat) (f : Item → Item) : (s.updItem h f).calFreq = s.calFreq := rfl
@[simp] theorem State.updItem_calCorr (s : State) (h : Nat) (f : Item → Item) : (s.updItem h f).calCorr = s.calCorr := rfl
@[simp] theorem State.updItem_calOff (s : State) (h : Nat) (f : Item → Item) : (s.updItem h f).calOff = s.calOff := rfl
@[simp] theorem State.updItem_calRun (s : State) (h : Nat) (f : Item → Item) : (s.updItem h f).calRun = s.calRun := rfl
@[simp] theorem State.updItem_cmdStat (s : State) (h : Nat) (f : Item → Item) : (s.updItem h f).cmdStat = s.cmdStat := rfl
@[simp] theorem State.updItem_sessions (s : State) (h : Nat) (f : Item → Item) : (s.updItem h f).sessions = s.sessions := rfl
@[simp] theorem State.updItem_sessFree (s : State) (h : Nat) (f : Item → Item) : (s.updItem h f).sessFree = s.sessFree := rfl
@[simp] theorem State.updItem_shakes (s : State) (h : Nat) (f : Item → Item) : (s.updItem h f).shakes = s.shakes := rfl
@[simp] theorem State.updItem_refusals (s : State) (h : Nat) (f : Item → Item) : (s.updItem h f).refusals = s.refusals := rfl
@[simp] theorem State.updItem_authFails (s : State) (h : Nat) (f : Item → Item) : (s.updItem h f).authFails = s.authFails := rfl
@[simp] theorem State.updItem_replays (s : State) (h : Nat) (f : Item → Item) : (s.updItem h f).replays = s.replays := rfl
@[simp] theorem State.updItem_staleSess (s : State) (h : Nat) (f : Item → Item) : (s.updItem h f).staleSess = s.staleSess := rfl
@[simp] theorem State.updItem_malformed (s : State) (h : Nat) (f : Item → Item) : (s.updItem h f).malformed = s.malformed := rfl
@[simp] theorem State.updItem_hports (s : State) (h : Nat) (f : Item → Item) : (s.updItem h f).hports = s.hports := rfl
@[simp] theorem State.updItem_ptp (s : State) (h : Nat) (f : Item → Item) : (s.updItem h f).ptp = s.ptp := rfl
@[simp] theorem State.updItem_txs (s : State) (h : Nat) (f : Item → Item) : (s.updItem h f).txs = s.txs := rfl
@[simp] theorem State.updItem_txClock (s : State) (h : Nat) (f : Item → Item) : (s.updItem h f).txClock = s.txClock := rfl
@[simp] theorem State.updItem_conflicts (s : State) (h : Nat) (f : Item → Item) : (s.updItem h f).conflicts = s.conflicts := rfl
@[simp] theorem State.updItem_staleTx (s : State) (h : Nat) (f : Item → Item) : (s.updItem h f).staleTx = s.staleTx := rfl
@[simp] theorem State.updItem_cans (s : State) (h : Nat) (f : Item → Item) : (s.updItem h f).cans = s.cans := rfl
@[simp] theorem State.updItem_banks (s : State) (h : Nat) (f : Item → Item) : (s.updItem h f).banks = s.banks := rfl
@[simp] theorem State.updItem_erases (s : State) (h : Nat) (f : Item → Item) : (s.updItem h f).erases = s.erases := rfl
@[simp] theorem State.updItem_activeBank (s : State) (h : Nat) (f : Item → Item) : (s.updItem h f).activeBank = s.activeBank := rfl
@[simp] theorem State.updItem_save (s : State) (h : Nat) (f : Item → Item) : (s.updItem h f).save = s.save := rfl
@[simp] theorem State.updItem_loadResult (s : State) (h : Nat) (f : Item → Item) : (s.updItem h f).loadResult = s.loadResult := rfl
@[simp] theorem State.updItem_skipped (s : State) (h : Nat) (f : Item → Item) : (s.updItem h f).skipped = s.skipped := rfl
@[simp] theorem State.updItem_engines (s : State) (h : Nat) (f : Item → Item) : (s.updItem h f).engines = s.engines := rfl
@[simp] theorem State.updItem_patches (s : State) (h : Nat) (f : Item → Item) : (s.updItem h f).patches = s.patches := rfl
@[simp] theorem State.updItem_arrays (s : State) (h : Nat) (f : Item → Item) : (s.updItem h f).arrays = s.arrays := rfl
@[simp] theorem State.updItem_idle (s : State) (h : Nat) (f : Item → Item) : (s.updItem h f).idle = s.idle := rfl
@[simp] theorem State.updItem_chans (s : State) (h : Nat) (f : Item → Item) : (s.updItem h f).chans = s.chans := rfl
@[simp] theorem State.updItem_marks (s : State) (h : Nat) (f : Item → Item) : (s.updItem h f).marks = s.marks := rfl
@[simp] theorem State.updItem_switches (s : State) (h : Nat) (f : Item → Item) : (s.updItem h f).switches = s.switches := rfl
@[simp] theorem State.updItem_gates (s : State) (h : Nat) (f : Item → Item) : (s.updItem h f).gates = s.gates := rfl
@[simp] theorem State.updItem_axes (s : State) (h : Nat) (f : Item → Item) : (s.updItem h f).axes = s.axes := rfl
@[simp] theorem State.updItem_groups (s : State) (h : Nat) (f : Item → Item) : (s.updItem h f).groups = s.groups := rfl
@[simp] theorem State.updItem_sync (s : State) (h : Nat) (f : Item → Item) : (s.updItem h f).sync = s.sync := rfl
@[simp] theorem State.updItem_bpos (s : State) (h : Nat) (f : Item → Item) : (s.updItem h f).bpos = s.bpos := rfl
@[simp] theorem State.updItem_devState (s : State) (h : Nat) (f : Item → Item) : (s.updItem h f).devState = s.devState := rfl
@[simp] theorem State.updItem_lifeCycle (s : State) (h : Nat) (f : Item → Item) : (s.updItem h f).lifeCycle = s.lifeCycle := rfl
@[simp] theorem State.updItem_serial (s : State) (h : Nat) (f : Item → Item) : (s.updItem h f).serial = s.serial := rfl
@[simp] theorem State.updItem_toggles (s : State) (h : Nat) (f : Item → Item) : (s.updItem h f).toggles = s.toggles := rfl
@[simp] theorem State.updItem_fuses (s : State) (h : Nat) (f : Item → Item) : (s.updItem h f).fuses = s.fuses := rfl
@[simp] theorem State.updItem_lcPending (s : State) (h : Nat) (f : Item → Item) : (s.updItem h f).lcPending = s.lcPending := rfl
@[simp] theorem State.updItem_cocoon (s : State) (h : Nat) (f : Item → Item) : (s.updItem h f).cocoon = s.cocoon := rfl
@[simp] theorem State.updItem_tamper (s : State) (h : Nat) (f : Item → Item) : (s.updItem h f).tamper = s.tamper := rfl
@[simp] theorem State.updItem_enc (s : State) (h : Nat) (f : Item → Item) : (s.updItem h f).enc = s.enc := rfl
@[simp] theorem State.updItem_lanes (s : State) (h : Nat) (f : Item → Item) : (s.updItem h f).lanes = s.lanes := rfl
@[simp] theorem State.updItem_due (s : State) (h : Nat) (f : Item → Item) : (s.updItem h f).due = s.due := rfl
@[simp] theorem State.updItem_reqs (s : State) (h : Nat) (f : Item → Item) : (s.updItem h f).reqs = s.reqs := rfl
@[simp] theorem State.updItem_mem (s : State) (h : Nat) (f : Item → Item) : (s.updItem h f).mem = s.mem := rfl
@[simp] theorem State.updItem_recorder (s : State) (h : Nat) (f : Item → Item) : (s.updItem h f).recorder = s.recorder := rfl
@[simp] theorem State.updItem_snap (s : State) (h : Nat) (f : Item → Item) : (s.updItem h f).snap = s.snap := rfl
@[simp] theorem State.updItem_domains (s : State) (h : Nat) (f : Item → Item) : (s.updItem h f).domains = s.domains := rfl
@[simp] theorem State.updItem_power (s : State) (h : Nat) (f : Item → Item) : (s.updItem h f).power = s.power := rfl

/-! `updTemplate` -/

@[simp] theorem State.updTemplate_ft (s : State) (i : Nat) (f : Asset → Asset) : (s.updTemplate i f).ft = s.ft := rfl
@[simp] theorem State.updTemplate_pending (s : State) (i : Nat) (f : Asset → Asset) : (s.updTemplate i f).pending = s.pending := rfl
@[simp] theorem State.updTemplate_origin (s : State) (i : Nat) (f : Asset → Asset) : (s.updTemplate i f).origin = s.origin := rfl
@[simp] theorem State.updTemplate_waiting (s : State) (i : Nat) (f : Asset → Asset) : (s.updTemplate i f).waiting = s.waiting := rfl
@[simp] theorem State.updTemplate_resumed (s : State) (i : Nat) (f : Asset → Asset) : (s.updTemplate i f).resumed = s.resumed := rfl
@[simp] theorem State.updTemplate_free (s : State) (i : Nat) (f : Asset → Asset) : (s.updTemplate i f).free = s.free := rfl
@[simp] theorem State.updTemplate_out (s : State) (i : Nat) (f : Asset → Asset) : (s.updTemplate i f).out = s.out := rfl
@[simp] theorem State.updTemplate_obj (s : State) (i : Nat) (f : Asset → Asset) : (s.updTemplate i f).obj = s.obj := rfl
@[simp] theorem State.updTemplate_ver (s : State) (i : Nat) (f : Asset → Asset) : (s.updTemplate i f).ver = s.ver := rfl
@[simp] theorem State.updTemplate_verAt (s : State) (i : Nat) (f : Asset → Asset) : (s.updTemplate i f).verAt = s.verAt := rfl
@[simp] theorem State.updTemplate_restartObj (s : State) (i : Nat) (f : Asset → Asset) : (s.updTemplate i f).restartObj = s.restartObj := rfl
@[simp] theorem State.updTemplate_items (s : State) (i : Nat) (f : Asset → Asset) : (s.updTemplate i f).items = s.items := rfl
@[simp] theorem State.updTemplate_gens (s : State) (i : Nat) (f : Asset → Asset) : (s.updTemplate i f).gens = s.gens := rfl
@[simp] theorem State.updTemplate_freeSlots (s : State) (i : Nat) (f : Asset → Asset) : (s.updTemplate i f).freeSlots = s.freeSlots := rfl
@[simp] theorem State.updTemplate_slotZone (s : State) (i : Nat) (f : Asset → Asset) : (s.updTemplate i f).slotZone = s.slotZone := rfl
@[simp] theorem State.updTemplate_notices (s : State) (i : Nat) (f : Asset → Asset) : (s.updTemplate i f).notices = s.notices := rfl
@[simp] theorem State.updTemplate_noticesSent (s : State) (i : Nat) (f : Asset → Asset) : (s.updTemplate i f).noticesSent = s.noticesSent := rfl
@[simp] theorem State.updTemplate_heldOut (s : State) (i : Nat) (f : Asset → Asset) : (s.updTemplate i f).heldOut = s.heldOut := rfl
@[simp] theorem State.updTemplate_lateReports (s : State) (i : Nat) (f : Asset → Asset) : (s.updTemplate i f).lateReports = s.lateReports := rfl
@[simp] theorem State.updTemplate_zones (s : State) (i : Nat) (f : Asset → Asset) : (s.updTemplate i f).zones = s.zones := rfl
@[simp] theorem State.updTemplate_tiles (s : State) (i : Nat) (f : Asset → Asset) : (s.updTemplate i f).tiles = s.tiles := rfl
@[simp] theorem State.updTemplate_tplGen (s : State) (i : Nat) (f : Asset → Asset) : (s.updTemplate i f).tplGen = s.tplGen := rfl
@[simp] theorem State.updTemplate_tplFree (s : State) (i : Nat) (f : Asset → Asset) : (s.updTemplate i f).tplFree = s.tplFree := rfl
@[simp] theorem State.updTemplate_tplNext (s : State) (i : Nat) (f : Asset → Asset) : (s.updTemplate i f).tplNext = s.tplNext := rfl
@[simp] theorem State.updTemplate_tileGen (s : State) (i : Nat) (f : Asset → Asset) : (s.updTemplate i f).tileGen = s.tileGen := rfl
@[simp] theorem State.updTemplate_tileFree (s : State) (i : Nat) (f : Asset → Asset) : (s.updTemplate i f).tileFree = s.tileFree := rfl
@[simp] theorem State.updTemplate_tileNext (s : State) (i : Nat) (f : Asset → Asset) : (s.updTemplate i f).tileNext = s.tileNext := rfl
@[simp] theorem State.updTemplate_dram (s : State) (i : Nat) (f : Asset → Asset) : (s.updTemplate i f).dram = s.dram := rfl
@[simp] theorem State.updTemplate_stream (s : State) (i : Nat) (f : Asset → Asset) : (s.updTemplate i f).stream = s.stream := rfl
@[simp] theorem State.updTemplate_writeLoad (s : State) (i : Nat) (f : Asset → Asset) : (s.updTemplate i f).writeLoad = s.writeLoad := rfl
@[simp] theorem State.updTemplate_writeAt (s : State) (i : Nat) (f : Asset → Asset) : (s.updTemplate i f).writeAt = s.writeAt := rfl
@[simp] theorem State.updTemplate_dataErrors (s : State) (i : Nat) (f : Asset → Asset) : (s.updTemplate i f).dataErrors = s.dataErrors := rfl
@[simp] theorem State.updTemplate_streamDiscards (s : State) (i : Nat) (f : Asset → Asset) : (s.updTemplate i f).streamDiscards = s.streamDiscards := rfl
@[simp] theorem State.updTemplate_heads (s : State) (i : Nat) (f : Asset → Asset) : (s.updTemplate i f).heads = s.heads := rfl
@[simp] theorem State.updTemplate_stampNo (s : State) (i : Nat) (f : Asset → Asset) : (s.updTemplate i f).stampNo = s.stampNo := rfl
@[simp] theorem State.updTemplate_chains (s : State) (i : Nat) (f : Asset → Asset) : (s.updTemplate i f).chains = s.chains := rfl
@[simp] theorem State.updTemplate_ports (s : State) (i : Nat) (f : Asset → Asset) : (s.updTemplate i f).ports = s.ports := rfl
@[simp] theorem State.updTemplate_events (s : State) (i : Nat) (f : Asset → Asset) : (s.updTemplate i f).events = s.events := rfl
@[simp] theorem State.updTemplate_lost (s : State) (i : Nat) (f : Asset → Asset) : (s.updTemplate i f).lost = s.lost := rfl
@[simp] theorem State.updTemplate_lostRun (s : State) (i : Nat) (f : Asset → Asset) : (s.updTemplate i f).lostRun = s.lostRun := rfl
@[simp] theorem State.updTemplate_lostFirst (s : State) (i : Nat) (f : Asset → Asset) : (s.updTemplate i f).lostFirst = s.lostFirst := rfl
@[simp] theorem State.updTemplate_lostLast (s : State) (i : Nat) (f : Asset → Asset) : (s.updTemplate i f).lostLast = s.lostLast := rfl
@[simp] theorem State.updTemplate_opSeconds (s : State) (i : Nat) (f : Asset → Asset) : (s.updTemplate i f).opSeconds = s.opSeconds := rfl
@[simp] theorem State.updTemplate_powerCycles (s : State) (i : Nat) (f : Asset → Asset) : (s.updTemplate i f).powerCycles = s.powerCycles := rfl
@[simp] theorem State.updTemplate_calendar (s : State) (i : Nat) (f : Asset → Asset) : (s.updTemplate i f).calendar = s.calendar := rfl
@[simp] theorem State.updTemplate_calValid (s : State) (i : Nat) (f : Asset → Asset) : (s.updTemplate i f).calValid = s.calValid := rfl
@[simp] theorem State.updTemplate_opAt (s : State) (i : Nat) (f : Asset → Asset) : (s.updTemplate i f).opAt = s.opAt := rfl
@[simp] theorem State.updTemplate_opStored (s : State) (i : Nat) (f : Asset → Asset) : (s.updTemplate i f).opStored = s.opStored := rfl
@[simp] theorem State.updTemplate_calAt (s : State) (i : Nat) (f : Asset → Asset) : (s.updTemplate i f).calAt = s.calAt := rfl
@[simp] theorem State.updTemplate_calFreq (s : State) (i : Nat) (f : Asset → Asset) : (s.updTemplate i f).calFreq = s.calFreq := rfl
@[simp] theorem State.updTemplate_calCorr (s : State) (i : Nat) (f : Asset → Asset) : (s.updTemplate i f).calCorr = s.calCorr := rfl
@[simp] theorem State.updTemplate_calOff (s : State) (i : Nat) (f : Asset → Asset) : (s.updTemplate i f).calOff = s.calOff := rfl
@[simp] theorem State.updTemplate_calRun (s : State) (i : Nat) (f : Asset → Asset) : (s.updTemplate i f).calRun = s.calRun := rfl
@[simp] theorem State.updTemplate_cmdStat (s : State) (i : Nat) (f : Asset → Asset) : (s.updTemplate i f).cmdStat = s.cmdStat := rfl
@[simp] theorem State.updTemplate_sessions (s : State) (i : Nat) (f : Asset → Asset) : (s.updTemplate i f).sessions = s.sessions := rfl
@[simp] theorem State.updTemplate_sessFree (s : State) (i : Nat) (f : Asset → Asset) : (s.updTemplate i f).sessFree = s.sessFree := rfl
@[simp] theorem State.updTemplate_shakes (s : State) (i : Nat) (f : Asset → Asset) : (s.updTemplate i f).shakes = s.shakes := rfl
@[simp] theorem State.updTemplate_refusals (s : State) (i : Nat) (f : Asset → Asset) : (s.updTemplate i f).refusals = s.refusals := rfl
@[simp] theorem State.updTemplate_authFails (s : State) (i : Nat) (f : Asset → Asset) : (s.updTemplate i f).authFails = s.authFails := rfl
@[simp] theorem State.updTemplate_replays (s : State) (i : Nat) (f : Asset → Asset) : (s.updTemplate i f).replays = s.replays := rfl
@[simp] theorem State.updTemplate_staleSess (s : State) (i : Nat) (f : Asset → Asset) : (s.updTemplate i f).staleSess = s.staleSess := rfl
@[simp] theorem State.updTemplate_malformed (s : State) (i : Nat) (f : Asset → Asset) : (s.updTemplate i f).malformed = s.malformed := rfl
@[simp] theorem State.updTemplate_hports (s : State) (i : Nat) (f : Asset → Asset) : (s.updTemplate i f).hports = s.hports := rfl
@[simp] theorem State.updTemplate_ptp (s : State) (i : Nat) (f : Asset → Asset) : (s.updTemplate i f).ptp = s.ptp := rfl
@[simp] theorem State.updTemplate_txs (s : State) (i : Nat) (f : Asset → Asset) : (s.updTemplate i f).txs = s.txs := rfl
@[simp] theorem State.updTemplate_txClock (s : State) (i : Nat) (f : Asset → Asset) : (s.updTemplate i f).txClock = s.txClock := rfl
@[simp] theorem State.updTemplate_conflicts (s : State) (i : Nat) (f : Asset → Asset) : (s.updTemplate i f).conflicts = s.conflicts := rfl
@[simp] theorem State.updTemplate_staleTx (s : State) (i : Nat) (f : Asset → Asset) : (s.updTemplate i f).staleTx = s.staleTx := rfl
@[simp] theorem State.updTemplate_cans (s : State) (i : Nat) (f : Asset → Asset) : (s.updTemplate i f).cans = s.cans := rfl
@[simp] theorem State.updTemplate_banks (s : State) (i : Nat) (f : Asset → Asset) : (s.updTemplate i f).banks = s.banks := rfl
@[simp] theorem State.updTemplate_erases (s : State) (i : Nat) (f : Asset → Asset) : (s.updTemplate i f).erases = s.erases := rfl
@[simp] theorem State.updTemplate_activeBank (s : State) (i : Nat) (f : Asset → Asset) : (s.updTemplate i f).activeBank = s.activeBank := rfl
@[simp] theorem State.updTemplate_save (s : State) (i : Nat) (f : Asset → Asset) : (s.updTemplate i f).save = s.save := rfl
@[simp] theorem State.updTemplate_loadResult (s : State) (i : Nat) (f : Asset → Asset) : (s.updTemplate i f).loadResult = s.loadResult := rfl
@[simp] theorem State.updTemplate_skipped (s : State) (i : Nat) (f : Asset → Asset) : (s.updTemplate i f).skipped = s.skipped := rfl
@[simp] theorem State.updTemplate_engines (s : State) (i : Nat) (f : Asset → Asset) : (s.updTemplate i f).engines = s.engines := rfl
@[simp] theorem State.updTemplate_patches (s : State) (i : Nat) (f : Asset → Asset) : (s.updTemplate i f).patches = s.patches := rfl
@[simp] theorem State.updTemplate_arrays (s : State) (i : Nat) (f : Asset → Asset) : (s.updTemplate i f).arrays = s.arrays := rfl
@[simp] theorem State.updTemplate_idle (s : State) (i : Nat) (f : Asset → Asset) : (s.updTemplate i f).idle = s.idle := rfl
@[simp] theorem State.updTemplate_chans (s : State) (i : Nat) (f : Asset → Asset) : (s.updTemplate i f).chans = s.chans := rfl
@[simp] theorem State.updTemplate_marks (s : State) (i : Nat) (f : Asset → Asset) : (s.updTemplate i f).marks = s.marks := rfl
@[simp] theorem State.updTemplate_switches (s : State) (i : Nat) (f : Asset → Asset) : (s.updTemplate i f).switches = s.switches := rfl
@[simp] theorem State.updTemplate_gates (s : State) (i : Nat) (f : Asset → Asset) : (s.updTemplate i f).gates = s.gates := rfl
@[simp] theorem State.updTemplate_axes (s : State) (i : Nat) (f : Asset → Asset) : (s.updTemplate i f).axes = s.axes := rfl
@[simp] theorem State.updTemplate_groups (s : State) (i : Nat) (f : Asset → Asset) : (s.updTemplate i f).groups = s.groups := rfl
@[simp] theorem State.updTemplate_sync (s : State) (i : Nat) (f : Asset → Asset) : (s.updTemplate i f).sync = s.sync := rfl
@[simp] theorem State.updTemplate_bpos (s : State) (i : Nat) (f : Asset → Asset) : (s.updTemplate i f).bpos = s.bpos := rfl
@[simp] theorem State.updTemplate_devState (s : State) (i : Nat) (f : Asset → Asset) : (s.updTemplate i f).devState = s.devState := rfl
@[simp] theorem State.updTemplate_lifeCycle (s : State) (i : Nat) (f : Asset → Asset) : (s.updTemplate i f).lifeCycle = s.lifeCycle := rfl
@[simp] theorem State.updTemplate_serial (s : State) (i : Nat) (f : Asset → Asset) : (s.updTemplate i f).serial = s.serial := rfl
@[simp] theorem State.updTemplate_toggles (s : State) (i : Nat) (f : Asset → Asset) : (s.updTemplate i f).toggles = s.toggles := rfl
@[simp] theorem State.updTemplate_fuses (s : State) (i : Nat) (f : Asset → Asset) : (s.updTemplate i f).fuses = s.fuses := rfl
@[simp] theorem State.updTemplate_lcPending (s : State) (i : Nat) (f : Asset → Asset) : (s.updTemplate i f).lcPending = s.lcPending := rfl
@[simp] theorem State.updTemplate_cocoon (s : State) (i : Nat) (f : Asset → Asset) : (s.updTemplate i f).cocoon = s.cocoon := rfl
@[simp] theorem State.updTemplate_tamper (s : State) (i : Nat) (f : Asset → Asset) : (s.updTemplate i f).tamper = s.tamper := rfl
@[simp] theorem State.updTemplate_enc (s : State) (i : Nat) (f : Asset → Asset) : (s.updTemplate i f).enc = s.enc := rfl
@[simp] theorem State.updTemplate_lanes (s : State) (i : Nat) (f : Asset → Asset) : (s.updTemplate i f).lanes = s.lanes := rfl
@[simp] theorem State.updTemplate_due (s : State) (i : Nat) (f : Asset → Asset) : (s.updTemplate i f).due = s.due := rfl
@[simp] theorem State.updTemplate_reqs (s : State) (i : Nat) (f : Asset → Asset) : (s.updTemplate i f).reqs = s.reqs := rfl
@[simp] theorem State.updTemplate_mem (s : State) (i : Nat) (f : Asset → Asset) : (s.updTemplate i f).mem = s.mem := rfl
@[simp] theorem State.updTemplate_recorder (s : State) (i : Nat) (f : Asset → Asset) : (s.updTemplate i f).recorder = s.recorder := rfl
@[simp] theorem State.updTemplate_snap (s : State) (i : Nat) (f : Asset → Asset) : (s.updTemplate i f).snap = s.snap := rfl
@[simp] theorem State.updTemplate_domains (s : State) (i : Nat) (f : Asset → Asset) : (s.updTemplate i f).domains = s.domains := rfl
@[simp] theorem State.updTemplate_power (s : State) (i : Nat) (f : Asset → Asset) : (s.updTemplate i f).power = s.power := rfl

/-! `updTile` -/

@[simp] theorem State.updTile_ft (s : State) (i : Nat) (f : Asset → Asset) : (s.updTile i f).ft = s.ft := rfl
@[simp] theorem State.updTile_pending (s : State) (i : Nat) (f : Asset → Asset) : (s.updTile i f).pending = s.pending := rfl
@[simp] theorem State.updTile_origin (s : State) (i : Nat) (f : Asset → Asset) : (s.updTile i f).origin = s.origin := rfl
@[simp] theorem State.updTile_waiting (s : State) (i : Nat) (f : Asset → Asset) : (s.updTile i f).waiting = s.waiting := rfl
@[simp] theorem State.updTile_resumed (s : State) (i : Nat) (f : Asset → Asset) : (s.updTile i f).resumed = s.resumed := rfl
@[simp] theorem State.updTile_free (s : State) (i : Nat) (f : Asset → Asset) : (s.updTile i f).free = s.free := rfl
@[simp] theorem State.updTile_out (s : State) (i : Nat) (f : Asset → Asset) : (s.updTile i f).out = s.out := rfl
@[simp] theorem State.updTile_obj (s : State) (i : Nat) (f : Asset → Asset) : (s.updTile i f).obj = s.obj := rfl
@[simp] theorem State.updTile_ver (s : State) (i : Nat) (f : Asset → Asset) : (s.updTile i f).ver = s.ver := rfl
@[simp] theorem State.updTile_verAt (s : State) (i : Nat) (f : Asset → Asset) : (s.updTile i f).verAt = s.verAt := rfl
@[simp] theorem State.updTile_restartObj (s : State) (i : Nat) (f : Asset → Asset) : (s.updTile i f).restartObj = s.restartObj := rfl
@[simp] theorem State.updTile_items (s : State) (i : Nat) (f : Asset → Asset) : (s.updTile i f).items = s.items := rfl
@[simp] theorem State.updTile_gens (s : State) (i : Nat) (f : Asset → Asset) : (s.updTile i f).gens = s.gens := rfl
@[simp] theorem State.updTile_freeSlots (s : State) (i : Nat) (f : Asset → Asset) : (s.updTile i f).freeSlots = s.freeSlots := rfl
@[simp] theorem State.updTile_slotZone (s : State) (i : Nat) (f : Asset → Asset) : (s.updTile i f).slotZone = s.slotZone := rfl
@[simp] theorem State.updTile_notices (s : State) (i : Nat) (f : Asset → Asset) : (s.updTile i f).notices = s.notices := rfl
@[simp] theorem State.updTile_noticesSent (s : State) (i : Nat) (f : Asset → Asset) : (s.updTile i f).noticesSent = s.noticesSent := rfl
@[simp] theorem State.updTile_heldOut (s : State) (i : Nat) (f : Asset → Asset) : (s.updTile i f).heldOut = s.heldOut := rfl
@[simp] theorem State.updTile_lateReports (s : State) (i : Nat) (f : Asset → Asset) : (s.updTile i f).lateReports = s.lateReports := rfl
@[simp] theorem State.updTile_zones (s : State) (i : Nat) (f : Asset → Asset) : (s.updTile i f).zones = s.zones := rfl
@[simp] theorem State.updTile_templates (s : State) (i : Nat) (f : Asset → Asset) : (s.updTile i f).templates = s.templates := rfl
@[simp] theorem State.updTile_tplGen (s : State) (i : Nat) (f : Asset → Asset) : (s.updTile i f).tplGen = s.tplGen := rfl
@[simp] theorem State.updTile_tplFree (s : State) (i : Nat) (f : Asset → Asset) : (s.updTile i f).tplFree = s.tplFree := rfl
@[simp] theorem State.updTile_tplNext (s : State) (i : Nat) (f : Asset → Asset) : (s.updTile i f).tplNext = s.tplNext := rfl
@[simp] theorem State.updTile_tileGen (s : State) (i : Nat) (f : Asset → Asset) : (s.updTile i f).tileGen = s.tileGen := rfl
@[simp] theorem State.updTile_tileFree (s : State) (i : Nat) (f : Asset → Asset) : (s.updTile i f).tileFree = s.tileFree := rfl
@[simp] theorem State.updTile_tileNext (s : State) (i : Nat) (f : Asset → Asset) : (s.updTile i f).tileNext = s.tileNext := rfl
@[simp] theorem State.updTile_dram (s : State) (i : Nat) (f : Asset → Asset) : (s.updTile i f).dram = s.dram := rfl
@[simp] theorem State.updTile_stream (s : State) (i : Nat) (f : Asset → Asset) : (s.updTile i f).stream = s.stream := rfl
@[simp] theorem State.updTile_writeLoad (s : State) (i : Nat) (f : Asset → Asset) : (s.updTile i f).writeLoad = s.writeLoad := rfl
@[simp] theorem State.updTile_writeAt (s : State) (i : Nat) (f : Asset → Asset) : (s.updTile i f).writeAt = s.writeAt := rfl
@[simp] theorem State.updTile_dataErrors (s : State) (i : Nat) (f : Asset → Asset) : (s.updTile i f).dataErrors = s.dataErrors := rfl
@[simp] theorem State.updTile_streamDiscards (s : State) (i : Nat) (f : Asset → Asset) : (s.updTile i f).streamDiscards = s.streamDiscards := rfl
@[simp] theorem State.updTile_heads (s : State) (i : Nat) (f : Asset → Asset) : (s.updTile i f).heads = s.heads := rfl
@[simp] theorem State.updTile_stampNo (s : State) (i : Nat) (f : Asset → Asset) : (s.updTile i f).stampNo = s.stampNo := rfl
@[simp] theorem State.updTile_chains (s : State) (i : Nat) (f : Asset → Asset) : (s.updTile i f).chains = s.chains := rfl
@[simp] theorem State.updTile_ports (s : State) (i : Nat) (f : Asset → Asset) : (s.updTile i f).ports = s.ports := rfl
@[simp] theorem State.updTile_events (s : State) (i : Nat) (f : Asset → Asset) : (s.updTile i f).events = s.events := rfl
@[simp] theorem State.updTile_lost (s : State) (i : Nat) (f : Asset → Asset) : (s.updTile i f).lost = s.lost := rfl
@[simp] theorem State.updTile_lostRun (s : State) (i : Nat) (f : Asset → Asset) : (s.updTile i f).lostRun = s.lostRun := rfl
@[simp] theorem State.updTile_lostFirst (s : State) (i : Nat) (f : Asset → Asset) : (s.updTile i f).lostFirst = s.lostFirst := rfl
@[simp] theorem State.updTile_lostLast (s : State) (i : Nat) (f : Asset → Asset) : (s.updTile i f).lostLast = s.lostLast := rfl
@[simp] theorem State.updTile_opSeconds (s : State) (i : Nat) (f : Asset → Asset) : (s.updTile i f).opSeconds = s.opSeconds := rfl
@[simp] theorem State.updTile_powerCycles (s : State) (i : Nat) (f : Asset → Asset) : (s.updTile i f).powerCycles = s.powerCycles := rfl
@[simp] theorem State.updTile_calendar (s : State) (i : Nat) (f : Asset → Asset) : (s.updTile i f).calendar = s.calendar := rfl
@[simp] theorem State.updTile_calValid (s : State) (i : Nat) (f : Asset → Asset) : (s.updTile i f).calValid = s.calValid := rfl
@[simp] theorem State.updTile_opAt (s : State) (i : Nat) (f : Asset → Asset) : (s.updTile i f).opAt = s.opAt := rfl
@[simp] theorem State.updTile_opStored (s : State) (i : Nat) (f : Asset → Asset) : (s.updTile i f).opStored = s.opStored := rfl
@[simp] theorem State.updTile_calAt (s : State) (i : Nat) (f : Asset → Asset) : (s.updTile i f).calAt = s.calAt := rfl
@[simp] theorem State.updTile_calFreq (s : State) (i : Nat) (f : Asset → Asset) : (s.updTile i f).calFreq = s.calFreq := rfl
@[simp] theorem State.updTile_calCorr (s : State) (i : Nat) (f : Asset → Asset) : (s.updTile i f).calCorr = s.calCorr := rfl
@[simp] theorem State.updTile_calOff (s : State) (i : Nat) (f : Asset → Asset) : (s.updTile i f).calOff = s.calOff := rfl
@[simp] theorem State.updTile_calRun (s : State) (i : Nat) (f : Asset → Asset) : (s.updTile i f).calRun = s.calRun := rfl
@[simp] theorem State.updTile_cmdStat (s : State) (i : Nat) (f : Asset → Asset) : (s.updTile i f).cmdStat = s.cmdStat := rfl
@[simp] theorem State.updTile_sessions (s : State) (i : Nat) (f : Asset → Asset) : (s.updTile i f).sessions = s.sessions := rfl
@[simp] theorem State.updTile_sessFree (s : State) (i : Nat) (f : Asset → Asset) : (s.updTile i f).sessFree = s.sessFree := rfl
@[simp] theorem State.updTile_shakes (s : State) (i : Nat) (f : Asset → Asset) : (s.updTile i f).shakes = s.shakes := rfl
@[simp] theorem State.updTile_refusals (s : State) (i : Nat) (f : Asset → Asset) : (s.updTile i f).refusals = s.refusals := rfl
@[simp] theorem State.updTile_authFails (s : State) (i : Nat) (f : Asset → Asset) : (s.updTile i f).authFails = s.authFails := rfl
@[simp] theorem State.updTile_replays (s : State) (i : Nat) (f : Asset → Asset) : (s.updTile i f).replays = s.replays := rfl
@[simp] theorem State.updTile_staleSess (s : State) (i : Nat) (f : Asset → Asset) : (s.updTile i f).staleSess = s.staleSess := rfl
@[simp] theorem State.updTile_malformed (s : State) (i : Nat) (f : Asset → Asset) : (s.updTile i f).malformed = s.malformed := rfl
@[simp] theorem State.updTile_hports (s : State) (i : Nat) (f : Asset → Asset) : (s.updTile i f).hports = s.hports := rfl
@[simp] theorem State.updTile_ptp (s : State) (i : Nat) (f : Asset → Asset) : (s.updTile i f).ptp = s.ptp := rfl
@[simp] theorem State.updTile_txs (s : State) (i : Nat) (f : Asset → Asset) : (s.updTile i f).txs = s.txs := rfl
@[simp] theorem State.updTile_txClock (s : State) (i : Nat) (f : Asset → Asset) : (s.updTile i f).txClock = s.txClock := rfl
@[simp] theorem State.updTile_conflicts (s : State) (i : Nat) (f : Asset → Asset) : (s.updTile i f).conflicts = s.conflicts := rfl
@[simp] theorem State.updTile_staleTx (s : State) (i : Nat) (f : Asset → Asset) : (s.updTile i f).staleTx = s.staleTx := rfl
@[simp] theorem State.updTile_cans (s : State) (i : Nat) (f : Asset → Asset) : (s.updTile i f).cans = s.cans := rfl
@[simp] theorem State.updTile_banks (s : State) (i : Nat) (f : Asset → Asset) : (s.updTile i f).banks = s.banks := rfl
@[simp] theorem State.updTile_erases (s : State) (i : Nat) (f : Asset → Asset) : (s.updTile i f).erases = s.erases := rfl
@[simp] theorem State.updTile_activeBank (s : State) (i : Nat) (f : Asset → Asset) : (s.updTile i f).activeBank = s.activeBank := rfl
@[simp] theorem State.updTile_save (s : State) (i : Nat) (f : Asset → Asset) : (s.updTile i f).save = s.save := rfl
@[simp] theorem State.updTile_loadResult (s : State) (i : Nat) (f : Asset → Asset) : (s.updTile i f).loadResult = s.loadResult := rfl
@[simp] theorem State.updTile_skipped (s : State) (i : Nat) (f : Asset → Asset) : (s.updTile i f).skipped = s.skipped := rfl
@[simp] theorem State.updTile_engines (s : State) (i : Nat) (f : Asset → Asset) : (s.updTile i f).engines = s.engines := rfl
@[simp] theorem State.updTile_patches (s : State) (i : Nat) (f : Asset → Asset) : (s.updTile i f).patches = s.patches := rfl
@[simp] theorem State.updTile_arrays (s : State) (i : Nat) (f : Asset → Asset) : (s.updTile i f).arrays = s.arrays := rfl
@[simp] theorem State.updTile_idle (s : State) (i : Nat) (f : Asset → Asset) : (s.updTile i f).idle = s.idle := rfl
@[simp] theorem State.updTile_chans (s : State) (i : Nat) (f : Asset → Asset) : (s.updTile i f).chans = s.chans := rfl
@[simp] theorem State.updTile_marks (s : State) (i : Nat) (f : Asset → Asset) : (s.updTile i f).marks = s.marks := rfl
@[simp] theorem State.updTile_switches (s : State) (i : Nat) (f : Asset → Asset) : (s.updTile i f).switches = s.switches := rfl
@[simp] theorem State.updTile_gates (s : State) (i : Nat) (f : Asset → Asset) : (s.updTile i f).gates = s.gates := rfl
@[simp] theorem State.updTile_axes (s : State) (i : Nat) (f : Asset → Asset) : (s.updTile i f).axes = s.axes := rfl
@[simp] theorem State.updTile_groups (s : State) (i : Nat) (f : Asset → Asset) : (s.updTile i f).groups = s.groups := rfl
@[simp] theorem State.updTile_sync (s : State) (i : Nat) (f : Asset → Asset) : (s.updTile i f).sync = s.sync := rfl
@[simp] theorem State.updTile_bpos (s : State) (i : Nat) (f : Asset → Asset) : (s.updTile i f).bpos = s.bpos := rfl
@[simp] theorem State.updTile_devState (s : State) (i : Nat) (f : Asset → Asset) : (s.updTile i f).devState = s.devState := rfl
@[simp] theorem State.updTile_lifeCycle (s : State) (i : Nat) (f : Asset → Asset) : (s.updTile i f).lifeCycle = s.lifeCycle := rfl
@[simp] theorem State.updTile_serial (s : State) (i : Nat) (f : Asset → Asset) : (s.updTile i f).serial = s.serial := rfl
@[simp] theorem State.updTile_toggles (s : State) (i : Nat) (f : Asset → Asset) : (s.updTile i f).toggles = s.toggles := rfl
@[simp] theorem State.updTile_fuses (s : State) (i : Nat) (f : Asset → Asset) : (s.updTile i f).fuses = s.fuses := rfl
@[simp] theorem State.updTile_lcPending (s : State) (i : Nat) (f : Asset → Asset) : (s.updTile i f).lcPending = s.lcPending := rfl
@[simp] theorem State.updTile_cocoon (s : State) (i : Nat) (f : Asset → Asset) : (s.updTile i f).cocoon = s.cocoon := rfl
@[simp] theorem State.updTile_tamper (s : State) (i : Nat) (f : Asset → Asset) : (s.updTile i f).tamper = s.tamper := rfl
@[simp] theorem State.updTile_enc (s : State) (i : Nat) (f : Asset → Asset) : (s.updTile i f).enc = s.enc := rfl
@[simp] theorem State.updTile_lanes (s : State) (i : Nat) (f : Asset → Asset) : (s.updTile i f).lanes = s.lanes := rfl
@[simp] theorem State.updTile_due (s : State) (i : Nat) (f : Asset → Asset) : (s.updTile i f).due = s.due := rfl
@[simp] theorem State.updTile_reqs (s : State) (i : Nat) (f : Asset → Asset) : (s.updTile i f).reqs = s.reqs := rfl
@[simp] theorem State.updTile_mem (s : State) (i : Nat) (f : Asset → Asset) : (s.updTile i f).mem = s.mem := rfl
@[simp] theorem State.updTile_recorder (s : State) (i : Nat) (f : Asset → Asset) : (s.updTile i f).recorder = s.recorder := rfl
@[simp] theorem State.updTile_snap (s : State) (i : Nat) (f : Asset → Asset) : (s.updTile i f).snap = s.snap := rfl
@[simp] theorem State.updTile_domains (s : State) (i : Nat) (f : Asset → Asset) : (s.updTile i f).domains = s.domains := rfl
@[simp] theorem State.updTile_power (s : State) (i : Nat) (f : Asset → Asset) : (s.updTile i f).power = s.power := rfl

end Sys2Proof.Machine
end

