-- ==== Sys2Proof/Laws/Kept.lean ====
section
/-! SUPPORT. What stays as it is: the queue of waiting commands, the external DRAM, the fuses, the recorder, the banks of the
persistent store and the tamper latch are changed by few operations. For every other operation and command one lemma says that
all of them stay; for those few, one lemma for each of them that stays. -/

set_option linter.unusedTactic false
set_option linter.unreachableTactic false

namespace Sys2Proof.Machine

/-- What holds of the state that an outcome answers. -/
def Lands (P : State → Prop) (o : Host.Outcome State Fault Refusal) : Prop := ∀ t, o = .next t → P t

theorem Lands.next {P : State → Prop} {x : State} (h : P x) : Lands P (.next x) := fun t e => by cases e; exact h

theorem Lands.ite {P : State → Prop} {c : Prop} [Decidable c] {x y : Host.Outcome State Fault Refusal} (hx : Lands P x) (hy : Lands P y) :
    Lands P (if c then x else y) := by split <;> assumption

theorem Lands.dite {P : State → Prop} {c : Prop} [Decidable c] {x : c → Host.Outcome State Fault Refusal}
    {y : ¬ c → Host.Outcome State Fault Refusal} (hx : ∀ h, Lands P (x h)) (hy : ∀ h, Lands P (y h)) :
    Lands P (if h : c then x h else y h) := by split <;> apply_assumption

/-- The fields that few operations change. -/
abbrev Kept : Type := List Instr × Vector (List Host.Cell) 2 × Nat × Nat × Nat × Nat × Option LcRun × Recorder × Vector Bank 2 × Tamper
abbrev State.kept (s : State) : Kept :=
  (s.pending, s.dram, s.serial, s.lifeCycle, s.toggles, s.fuses, s.lcPending, s.recorder, s.banks, s.tamper)

theorem State.pending_of {a b : State} (h : a.kept = b.kept) : a.pending = b.pending := by
  simp only [State.kept, Prod.mk.injEq] at h; simp only [h]
theorem State.dram_of {a b : State} (h : a.kept = b.kept) : a.dram = b.dram := by
  simp only [State.kept, Prod.mk.injEq] at h; simp only [h]
theorem State.serial_of {a b : State} (h : a.kept = b.kept) : a.serial = b.serial := by
  simp only [State.kept, Prod.mk.injEq] at h; simp only [h]
theorem State.lifeCycle_of {a b : State} (h : a.kept = b.kept) : a.lifeCycle = b.lifeCycle := by
  simp only [State.kept, Prod.mk.injEq] at h; simp only [h]
theorem State.toggles_of {a b : State} (h : a.kept = b.kept) : a.toggles = b.toggles := by
  simp only [State.kept, Prod.mk.injEq] at h; simp only [h]
theorem State.fuses_of {a b : State} (h : a.kept = b.kept) : a.fuses = b.fuses := by
  simp only [State.kept, Prod.mk.injEq] at h; simp only [h]
theorem State.lcPending_of {a b : State} (h : a.kept = b.kept) : a.lcPending = b.lcPending := by
  simp only [State.kept, Prod.mk.injEq] at h; simp only [h]
theorem State.recorder_of {a b : State} (h : a.kept = b.kept) : a.recorder = b.recorder := by
  simp only [State.kept, Prod.mk.injEq] at h; simp only [h]
theorem State.banks_of {a b : State} (h : a.kept = b.kept) : a.banks = b.banks := by
  simp only [State.kept, Prod.mk.injEq] at h; simp only [h]
theorem State.tamper_of {a b : State} (h : a.kept = b.kept) : a.tamper = b.tamper := by
  simp only [State.kept, Prod.mk.injEq] at h; simp only [h]


/-! ### The field `kept` -/

theorem State.ite_kept {c : Prop} [Decidable c] {v_ : Kept} {x y : State} (hx : x.kept = v_) (hy : y.kept = v_) :
    (if c then x else y).kept = v_ := by split <;> assumption
theorem State.dite_kept {c : Prop} [Decidable c] {v_ : Kept} {x : c → State} {y : ¬ c → State} (hx : ∀ h, (x h).kept = v_) (hy : ∀ h, (y h).kept = v_) :
    (if h : c then x h else y h).kept = v_ := by split <;> simp only [*]
theorem State.id_kept {v_ : Kept} {x : State} (hx : x.kept = v_) : (id x).kept = v_ := hx
theorem State.ite1_kept {β : Type} {c : Prop} [Decidable c] {v_ : Kept} {x y : State × β} (hx : x.1.kept = v_) (hy : y.1.kept = v_) :
    (if c then x else y).1.kept = v_ := by split <;> assumption
theorem State.ite2_kept {β : Type} {c : Prop} [Decidable c] {v_ : Kept} {x y : β × State} (hx : x.2.kept = v_) (hy : y.2.kept = v_) :
    (if c then x else y).2.kept = v_ := by split <;> assumption
theorem State.foldl_kept {α : Type} {v_ : Kept} {g : State → α → State} {l : List α} {s : State}
    (h : ∀ s x, s.kept = v_ → (g s x).kept = v_) (hs : s.kept = v_) : (l.foldl g s).kept = v_ := by
  induction l generalizing s with
  | nil => exact hs
  | cons x l ih => exact ih (h s x hs)

theorem State.withFt_kept {v_ : Kept} {s : State} {x : Nat} (h_ : s.kept = v_) : ({ s with ft := x } : State).kept = v_ := h_
theorem State.atTick_kept {v_ : Kept} {s : State} {f : Nat} {act : State → State} (hact : ∀ s, s.kept = v_ → (act s).kept = v_) (h_ : s.kept = v_) :
    (s.atTick f act).kept = v_ := by
  unfold State.atTick
  exact State.withFt_kept (hact _ (State.withFt_kept h_))

theorem State.emit_kkept {v_ : Kept} {s : State} {o : Out} (h_ : s.kept = v_) : (s.emit o).kept = v_ := h_

theorem State.emitAll_kept {v_ : Kept} {s : State} {os : List Out} (h_ : s.kept = v_) : (State.emitAll s os).kept = v_ := by
  unfold State.emitAll
  repeat' first
    | with_reducible assumption | with_reducible apply State.ite_kept | dsimp only [State.kept] | split

theorem State.updZone_kkept {v_ : Kept} {s : State} {z : Fin 8} {f : Zone → Zone} (h_ : s.kept = v_) : (s.updZone z f).kept = v_ := h_

theorem State.updHead_kkept {v_ : Kept} {s : State} {h : Fin 64} {f : Head → Head} (h_ : s.kept = v_) : (s.updHead h f).kept = v_ := h_

theorem State.updRow_kkept {v_ : Kept} {s : State} {h : Fin 64} {r : Fin 4} {f : HRow → HRow} (h_ : s.kept = v_) : (s.updRow h r f).kept = v_ := h_

theorem State.updChain_kkept {v_ : Kept} {s : State} {c : Fin 16} {f : Chain → Chain} (h_ : s.kept = v_) : (s.updChain c f).kept = v_ := h_

theorem State.updPort_kkept {v_ : Kept} {s : State} {l : Fin 16} {f : Port → Port} (h_ : s.kept = v_) : (s.updPort l f).kept = v_ := h_

theorem State.updNode_kkept {v_ : Kept} {s : State} {l : Fin 16} {a : Fin 9} {f : Node → Node} (h_ : s.kept = v_) : (s.updNode l a f).kept = v_ := h_

theorem State.updSess_kkept {v_ : Kept} {s : State} {i : Fin 32} {f : Session → Session} (h_ : s.kept = v_) : (s.updSess i f).kept = v_ := h_

theorem State.updChan_kkept {v_ : Kept} {s : State} {c : Fin 8} {f : Chan → Chan} (h_ : s.kept = v_) : (s.updChan c f).kept = v_ := h_

theorem State.updGate_kkept {v_ : Kept} {s : State} {g : Fin 8} {f : Gate → Gate} (h_ : s.kept = v_) : (s.updGate g f).kept = v_ := h_

theorem State.updAxis_kkept {v_ : Kept} {s : State} {a : Fin 8} {f : Axis → Axis} (h_ : s.kept = v_) : (s.updAxis a f).kept = v_ := h_

theorem State.updTx_kkept {v_ : Kept} {s : State} {i : Fin 8} {f : Tx → Tx} (h_ : s.kept = v_) : (s.updTx i f).kept = v_ := h_

theorem State.updEngine_kkept {v_ : Kept} {s : State} {k : Fin 8} {f : Engine → Engine} (h_ : s.kept = v_) : (s.updEngine k f).kept = v_ := h_

theorem State.oput_kkept {v_ : Kept} {s : State} {i sub v : Nat} (h_ : s.kept = v_) : (s.oput i sub v).kept = v_ := h_

theorem State.bump_kept {v_ : Kept} {s : State} {i sub : Nat} (h_ : s.kept = v_) : (State.bump s i sub).kept = v_ := by
  unfold State.bump
  repeat' first
    | with_reducible assumption | with_reducible apply State.ite_kept | dsimp only [State.kept] | split

theorem State.oapply_kept {v_ : Kept} {s : State} {i sub v : Nat} (h_ : s.kept = v_) : (State.oapply s i sub v).kept = v_ := by
  unfold State.oapply
  repeat' first
    | with_reducible assumption | with_reducible apply State.oput_kkept | with_reducible apply State.bump_kept
    | with_reducible apply State.ite_kept | dsimp only [State.kept] | split

theorem State.addEvent_kept {v_ : Kept} {s : State} {e : Event} (h_ : s.kept = v_) : (State.addEvent s e).kept = v_ := by
  unfold State.addEvent
  repeat' first
    | with_reducible assumption | with_reducible apply State.ite_kept | dsimp only [State.kept] | split

theorem State.eventBy_kept {v_ : Kept} {s : State} {sess role code sev loc : Nat} {payload : List (Nat × Nat)} (h_ : s.kept = v_) : (State.eventBy s sess role code sev loc payload).kept = v_ := by
  unfold State.eventBy
  repeat' first
    | with_reducible assumption | with_reducible apply State.addEvent_kept | with_reducible apply State.ite_kept
    | with_reducible apply State.ite1_kept | with_reducible apply State.ite2_kept | dsimp only [State.kept] | split

theorem State.event_kept {v_ : Kept} {s : State} {code loc : Nat} {payload : List (Nat × Nat)} (h_ : s.kept = v_) : (State.event s code loc payload).kept = v_ := by
  unfold State.event
  repeat' first
    | with_reducible assumption | with_reducible apply State.eventBy_kept | with_reducible apply State.ite_kept
    | with_reducible apply State.ite1_kept | with_reducible apply State.ite2_kept | dsimp only [State.kept] | split

theorem State.stateChanged_kept {v_ : Kept} {s : State} {sub loc index subidx old new : Nat} (h_ : s.kept = v_) : (State.stateChanged s sub loc index subidx old new).kept = v_ := by
  unfold State.stateChanged
  repeat' first
    | with_reducible assumption | with_reducible apply State.event_kept | with_reducible apply State.ite_kept
    | with_reducible refine State.dite_kept (fun _ => ?_) (fun _ => ?_) | with_reducible apply State.id_kept
    | dsimp only [State.kept] | split

theorem State.faultEvent_kept {v_ : Kept} {s : State} {sub loc index subidx cause value : Nat} (h_ : s.kept = v_) : (State.faultEvent s sub loc index subidx cause value).kept = v_ := by
  unfold State.faultEvent
  repeat' first
    | with_reducible assumption | with_reducible apply State.event_kept | with_reducible apply State.ite_kept
    | with_reducible refine State.dite_kept (fun _ => ?_) (fun _ => ?_) | with_reducible apply State.id_kept
    | dsimp only [State.kept] | split

theorem State.setZoneState_kept {v_ : Kept} {s : State} {z : Fin 8} {st : ZoneState} (h_ : s.kept = v_) : (State.setZoneState s z st).kept = v_ := by
  unfold State.setZoneState
  repeat' first
    | with_reducible assumption | with_reducible apply State.updZone_kkept | with_reducible apply State.stateChanged_kept
    | with_reducible apply State.ite_kept | dsimp only [State.kept] | split

theorem State.updItem_kkept {v_ : Kept} {s : State} {h : Nat} {f : Item → Item} (h_ : s.kept = v_) : (s.updItem h f).kept = v_ := h_

theorem State.checkOverlap_kept {v_ : Kept} {s : State} {z : Fin 8} (h_ : s.kept = v_) : (State.checkOverlap s z).kept = v_ := by
  unfold State.checkOverlap
  repeat' first
    | with_reducible assumption | with_reducible apply State.updItem_kkept | with_reducible apply State.updGate_kkept
    | with_reducible apply State.event_kept | with_reducible apply State.ite_kept
    | with_reducible refine State.foldl_kept (fun s x h => ?_) ?_ | dsimp only [State.kept] | split

theorem State.updTemplate_kkept {v_ : Kept} {s : State} {i : Nat} {f : Asset → Asset} (h_ : s.kept = v_) : (s.updTemplate i f).kept = v_ := h_

theorem State.updTile_kkept {v_ : Kept} {s : State} {i : Nat} {f : Asset → Asset} (h_ : s.kept = v_) : (s.updTile i f).kept = v_ := h_

theorem State.freeTemplate_kept {v_ : Kept} {s : State} {i : Nat} (h_ : s.kept = v_) : (State.freeTemplate s i).kept = v_ := by
  unfold State.freeTemplate
  repeat' first
    | with_reducible assumption | with_reducible apply State.ite_kept
    | with_reducible refine State.dite_kept (fun _ => ?_) (fun _ => ?_) | with_reducible apply State.id_kept
    | dsimp only [State.kept] | split

theorem State.freeTile_kept {v_ : Kept} {s : State} {i : Nat} (h_ : s.kept = v_) : (State.freeTile s i).kept = v_ := by
  unfold State.freeTile
  repeat' first
    | with_reducible assumption | with_reducible apply State.ite_kept
    | with_reducible refine State.dite_kept (fun _ => ?_) (fun _ => ?_) | with_reducible apply State.id_kept
    | dsimp only [State.kept] | split

theorem State.refTemplate_kept {v_ : Kept} {s : State} {h : Nat} (h_ : s.kept = v_) : (State.refTemplate s h).kept = v_ := by
  unfold State.refTemplate
  repeat' first
    | with_reducible assumption | with_reducible apply State.updTemplate_kkept | with_reducible apply State.ite_kept
    | with_reducible refine State.dite_kept (fun _ => ?_) (fun _ => ?_) | with_reducible apply State.id_kept
    | dsimp only [State.kept] | split

theorem State.refTile_kept {v_ : Kept} {s : State} {h : Nat} (h_ : s.kept = v_) : (State.refTile s h).kept = v_ := by
  unfold State.refTile
  repeat' first
    | with_reducible assumption | with_reducible apply State.updTile_kkept | with_reducible apply State.ite_kept
    | with_reducible refine State.dite_kept (fun _ => ?_) (fun _ => ?_) | with_reducible apply State.id_kept
    | dsimp only [State.kept] | split

theorem State.unrefTemplate_kept {v_ : Kept} {s : State} {h : Nat} (h_ : s.kept = v_) : (State.unrefTemplate s h).kept = v_ := by
  unfold State.unrefTemplate
  repeat' first
    | with_reducible assumption | with_reducible apply State.updTemplate_kkept | with_reducible apply State.freeTemplate_kept
    | with_reducible apply State.ite_kept | with_reducible refine State.dite_kept (fun _ => ?_) (fun _ => ?_)
    | with_reducible apply State.id_kept | dsimp only [State.kept] | split

theorem State.unrefTile_kept {v_ : Kept} {s : State} {h : Nat} (h_ : s.kept = v_) : (State.unrefTile s h).kept = v_ := by
  unfold State.unrefTile
  repeat' first
    | with_reducible assumption | with_reducible apply State.updTile_kkept | with_reducible apply State.freeTile_kept
    | with_reducible apply State.ite_kept | with_reducible refine State.dite_kept (fun _ => ?_) (fun _ => ?_)
    | with_reducible apply State.id_kept | dsimp only [State.kept] | split

theorem State.takeRefs_kept {v_ : Kept} {s : State} {it : Item} (h_ : s.kept = v_) : (State.takeRefs s it).kept = v_ := by
  unfold State.takeRefs
  repeat' first
    | with_reducible assumption | with_reducible apply State.refTile_kept | with_reducible apply State.refTemplate_kept
    | with_reducible apply State.ite_kept | with_reducible refine State.foldl_kept (fun s x h => ?_) ?_
    | dsimp only [State.kept] | split

theorem State.releaseSlot_kept {v_ : Kept} {s : State} {h : Nat} (h_ : s.kept = v_) : (State.releaseSlot s h).kept = v_ := by
  unfold State.releaseSlot
  repeat' first
    | with_reducible assumption | with_reducible apply State.updRow_kkept | with_reducible apply State.unrefTemplate_kept
    | with_reducible apply State.unrefTile_kept | with_reducible apply State.ite_kept
    | with_reducible refine State.foldl_kept (fun s x h => ?_) ?_
    | with_reducible refine State.dite_kept (fun _ => ?_) (fun _ => ?_) | with_reducible apply State.id_kept
    | dsimp only [State.kept] | split

theorem State.recomputeRes_kept {v_ : Kept} {s : State} {z : Fin 8} (h_ : s.kept = v_) : (State.recomputeRes s z).kept = v_ := by
  unfold State.recomputeRes
  repeat' first
    | with_reducible assumption | with_reducible apply State.updZone_kkept | with_reducible apply State.ite_kept
    | with_reducible refine State.foldl_kept (fun s x h => ?_) ?_ | dsimp only [State.kept] | split

theorem State.withdrawRow_kept {v_ : Kept} {s : State} {h : Fin 64} {r : Fin 4} {p : Stamped → Bool} (h_ : s.kept = v_) : (State.withdrawRow s h r p).kept = v_ := by
  unfold State.withdrawRow
  repeat' first
    | with_reducible assumption | with_reducible apply State.updRow_kkept | with_reducible apply State.updItem_kkept
    | with_reducible apply State.updZone_kkept | with_reducible apply State.ite_kept
    | with_reducible refine State.foldl_kept (fun s x h => ?_) ?_
    | with_reducible refine State.dite_kept (fun _ => ?_) (fun _ => ?_) | with_reducible apply State.id_kept
    | dsimp only [State.kept] | split

theorem State.withdrawHead_kept {v_ : Kept} {s : State} {h : Fin 64} (h_ : s.kept = v_) : (State.withdrawHead s h).kept = v_ := by
  unfold State.withdrawHead
  repeat' first
    | with_reducible assumption | with_reducible apply State.withdrawRow_kept | with_reducible apply State.ite_kept
    | with_reducible refine State.foldl_kept (fun s x h => ?_) ?_ | dsimp only [State.kept] | split

theorem State.withdrawZone_kept {v_ : Kept} {s : State} {z : Fin 8} (h_ : s.kept = v_) : (State.withdrawZone s z).kept = v_ := by
  unfold State.withdrawZone
  repeat' first
    | with_reducible assumption | with_reducible apply State.withdrawHead_kept | with_reducible apply State.ite_kept
    | with_reducible refine State.foldl_kept (fun s x h => ?_) ?_ | dsimp only [State.kept] | split

theorem State.dropItem_kept {v_ : Kept} {s : State} {h : Nat} (h_ : s.kept = v_) : (State.dropItem s h).kept = v_ := by
  unfold State.dropItem
  repeat' first
    | with_reducible assumption | with_reducible apply State.updRow_kkept | with_reducible apply State.updItem_kkept
    | with_reducible apply State.ite_kept | with_reducible refine State.foldl_kept (fun s x h => ?_) ?_
    | dsimp only [State.kept] | split

theorem State.pushNotice_kept {v_ : Kept} {s : State} {it : Item} (h_ : s.kept = v_) : (State.pushNotice s it).kept = v_ := by
  unfold State.pushNotice
  repeat' first
    | with_reducible assumption | with_reducible apply State.ite_kept
    | with_reducible refine State.dite_kept (fun _ => ?_) (fun _ => ?_) | with_reducible apply State.id_kept
    | dsimp only [State.kept] | split

theorem State.countOutcome_kept {v_ : Kept} {s : State} {z : Fin 8} {code : Nat} {up : Bool} (h_ : s.kept = v_) : (State.countOutcome s z code up).kept = v_ := by
  unfold State.countOutcome
  repeat' first
    | with_reducible assumption | with_reducible apply State.updZone_kkept | with_reducible apply State.ite_kept
    | with_reducible refine State.dite_kept (fun _ => ?_) (fun _ => ?_) | with_reducible apply State.id_kept
    | dsimp only [State.kept] | split

theorem State.gateOut_kept {v_ : Kept} {s : State} {g : Fin 8} {on : Bool} (h_ : s.kept = v_) : (State.gateOut s g on).kept = v_ := by
  unfold State.gateOut
  repeat' first
    | with_reducible assumption | with_reducible apply State.emit_kkept | with_reducible apply State.ite_kept
    | dsimp only [State.kept] | split

theorem State.assertGate_kept {v_ : Kept} {s : State} {g : Fin 8} {h : Nat} (h_ : s.kept = v_) : (State.assertGate s g h).kept = v_ := by
  unfold State.assertGate
  repeat' first
    | with_reducible assumption | with_reducible apply State.updGate_kkept | with_reducible apply State.updItem_kkept
    | with_reducible apply State.gateOut_kept | with_reducible apply State.ite_kept | dsimp only [State.kept] | split

theorem State.lateReject_kept {v_ : Kept} {s : State} {h code loc : Nat} (h_ : s.kept = v_) : (State.lateReject s h code loc).kept = v_ := by
  unfold State.lateReject
  repeat' first
    | with_reducible assumption | with_reducible apply State.assertGate_kept | with_reducible apply State.updGate_kkept
    | with_reducible apply State.event_kept | with_reducible apply State.ite_kept | dsimp only [State.kept] | split

theorem State.laterCause_kept {v_ : Kept} {s : State} {it : Item} {o : Outcome} {code loc sess role : Nat} (h_ : s.kept = v_) : (State.laterCause s it o code loc sess role).kept = v_ := by
  unfold State.laterCause
  repeat' first
    | with_reducible assumption | with_reducible apply State.updItem_kkept | with_reducible apply State.countOutcome_kept
    | with_reducible apply State.dropItem_kept | with_reducible apply State.updZone_kkept | with_reducible apply State.event_kept
    | with_reducible apply State.ite_kept | with_reducible refine State.dite_kept (fun _ => ?_) (fun _ => ?_)
    | with_reducible apply State.id_kept | dsimp only [State.kept] | split

theorem State.spoil_kept {v_ : Kept} {s : State} {h code loc : Nat} {line : Option Nat} {sess role : Nat} (h_ : s.kept = v_) : (State.spoil s h code loc line sess role).kept = v_ := by
  unfold State.spoil
  repeat' first
    | with_reducible assumption | with_reducible apply State.updItem_kkept | with_reducible apply State.countOutcome_kept
    | with_reducible apply State.recomputeRes_kept | with_reducible apply State.withdrawRow_kept
    | with_reducible apply State.dropItem_kept | with_reducible apply State.pushNotice_kept
    | with_reducible apply State.lateReject_kept | with_reducible apply State.laterCause_kept
    | with_reducible apply State.ite_kept | with_reducible refine State.foldl_kept (fun s x h => ?_) ?_
    | dsimp only [State.kept] | split

theorem State.spoilZone_kept {v_ : Kept} {s : State} {z : Fin 8} {p : Item → Bool} {code loc : Nat} (h_ : s.kept = v_) : (State.spoilZone s z p code loc).kept = v_ := by
  unfold State.spoilZone
  repeat' first
    | with_reducible assumption | with_reducible apply State.spoil_kept | with_reducible apply State.ite_kept
    | with_reducible refine State.foldl_kept (fun s x h => ?_) ?_ | dsimp only [State.kept] | split

theorem State.spoilHeads_kept {v_ : Kept} {s : State} {hs : List (Fin 64)} {code loc : Nat} (h_ : s.kept = v_) : (State.spoilHeads s hs code loc).kept = v_ := by
  unfold State.spoilHeads
  repeat' first
    | with_reducible assumption | with_reducible apply State.spoil_kept | with_reducible apply State.ite_kept
    | with_reducible refine State.foldl_kept (fun s x h => ?_) ?_ | dsimp only [State.kept] | split

theorem State.countStale_kept {v_ : Kept} {s : State} {h : Nat} (h_ : s.kept = v_) : (State.countStale s h).kept = v_ := by
  unfold State.countStale
  repeat' first
    | with_reducible assumption | with_reducible apply State.updZone_kkept | with_reducible apply State.ite_kept
    | with_reducible refine State.dite_kept (fun _ => ?_) (fun _ => ?_) | with_reducible apply State.id_kept
    | dsimp only [State.kept] | split

theorem State.setHead_kept {v_ : Kept} {s : State} {z : Fin 8} (h_ : s.kept = v_) : (State.setHead s z).kept = v_ := by
  unfold State.setHead
  repeat' first
    | with_reducible assumption | with_reducible apply State.updItem_kkept | with_reducible apply State.ite_kept
    | dsimp only [State.kept] | split

theorem State.finish_kept {v_ : Kept} {s : State} {h code reason : Nat} (h_ : s.kept = v_) : (State.finish s h code reason).kept = v_ := by
  unfold State.finish
  repeat' first
    | with_reducible assumption | with_reducible apply State.updItem_kkept | with_reducible apply State.countOutcome_kept
    | with_reducible apply State.pushNotice_kept | with_reducible apply State.setHead_kept | with_reducible apply State.ite_kept
    | dsimp only [State.kept] | split

theorem State.passGate_kept {v_ : Kept} {s : State} {z : Fin 8} (h_ : s.kept = v_) : (State.passGate s z).kept = v_ := by
  unfold State.passGate
  repeat' first
    | with_reducible assumption | with_reducible apply State.updItem_kkept | with_reducible apply State.assertGate_kept
    | with_reducible apply State.ite_kept | with_reducible refine State.foldl_kept (fun s x h => ?_) ?_
    | dsimp only [State.kept] | split

theorem State.endPassages_kept {v_ : Kept} {s : State} {z : Fin 8} (h_ : s.kept = v_) : (State.endPassages s z).kept = v_ := by
  unfold State.endPassages
  repeat' first
    | with_reducible assumption | with_reducible apply State.updItem_kkept | with_reducible apply State.ite_kept
    | with_reducible refine State.foldl_kept (fun s x h => ?_) ?_ | dsimp only [State.kept] | split

theorem State.settle_kept {v_ : Kept} {s : State} {z : Fin 8} (h_ : s.kept = v_) : (State.settle s z).kept = v_ := by
  unfold State.settle
  repeat' first
    | with_reducible assumption | with_reducible apply State.passGate_kept | with_reducible apply State.checkOverlap_kept
    | with_reducible apply State.endPassages_kept | with_reducible apply State.updItem_kkept
    | with_reducible apply State.releaseSlot_kept | with_reducible apply State.setZoneState_kept
    | with_reducible apply State.ite_kept | with_reducible refine State.foldl_kept (fun s x h => ?_) ?_
    | dsimp only [State.kept] | split

theorem State.begin_kkept {v_ : Kept} {s : State} {t : Nat} (h_ : s.kept = v_) : (s.begin t).kept = v_ := h_

theorem State.arrayCycle_kept {v_ : Kept} {s : State} (h_ : s.kept = v_) : (State.arrayCycle s).kept = v_ := by
  unfold State.arrayCycle
  repeat' first
    | with_reducible assumption | with_reducible apply State.ite_kept
    | with_reducible refine State.foldl_kept (fun s x h => ?_) ?_ | dsimp only [State.kept] | split

theorem State.dropAccesses_kept {v_ : Kept} {s : State} {k : Fin 8} (h_ : s.kept = v_) : (State.dropAccesses s k).kept = v_ := by
  unfold State.dropAccesses
  repeat' first
    | with_reducible assumption | with_reducible apply State.ite_kept | dsimp only [State.kept] | split

theorem State.clearPad_kept {v_ : Kept} {s : State} {k : Fin 8} (h_ : s.kept = v_) : (State.clearPad s k).kept = v_ := by
  unfold State.clearPad
  repeat' first
    | with_reducible assumption | with_reducible apply State.ite_kept | with_reducible apply State.ite1_kept
    | with_reducible apply State.ite2_kept | dsimp only [State.kept] | split

theorem State.dropOperation_kept {v_ : Kept} {s : State} {c : Client} (h_ : s.kept = v_) : (State.dropOperation s c).kept = v_ := by
  unfold State.dropOperation
  repeat' first
    | with_reducible assumption | with_reducible apply State.ite_kept | dsimp only [State.kept] | split

theorem State.send_kept {v_ : Kept} {s : State} {l : Fin 16} {lane : Nat} {os : List Out} (h_ : s.kept = v_) : (State.send s l lane os).kept = v_ := by
  unfold State.send
  repeat' first
    | with_reducible assumption | with_reducible apply State.updPort_kkept | with_reducible apply State.emitAll_kept
    | with_reducible apply State.ite_kept | with_reducible apply State.ite1_kept | with_reducible apply State.ite2_kept
    | dsimp only [State.kept] | split

theorem State.idleLane_kept {v_ : Kept} {s : State} {l : Fin 16} {i : Fin 2} (h_ : s.kept = v_) : (State.idleLane s l i).kept = v_ := by
  unfold State.idleLane
  repeat' first
    | with_reducible assumption | with_reducible apply State.updPort_kkept | with_reducible apply State.send_kept
    | with_reducible apply State.ite_kept | with_reducible apply State.ite1_kept | with_reducible apply State.ite2_kept
    | with_reducible refine State.dite_kept (fun _ => ?_) (fun _ => ?_) | with_reducible apply State.id_kept
    | dsimp only [State.kept] | split

theorem State.idleFree_kept {v_ : Kept} {s : State} {l : Fin 16} (h_ : s.kept = v_) : (State.idleFree s l).kept = v_ := by
  unfold State.idleFree
  repeat' first
    | with_reducible assumption | with_reducible apply State.updPort_kkept | with_reducible apply State.send_kept
    | with_reducible apply State.ite_kept | with_reducible apply State.ite1_kept | with_reducible apply State.ite2_kept
    | with_reducible refine State.dite_kept (fun _ => ?_) (fun _ => ?_) | with_reducible apply State.id_kept
    | dsimp only [State.kept] | split

theorem State.idleLanes_kept {v_ : Kept} {s : State} {l : Fin 16} (h_ : s.kept = v_) : (State.idleLanes s l).kept = v_ := by
  unfold State.idleLanes
  repeat' first
    | with_reducible assumption | with_reducible apply State.idleLane_kept | with_reducible apply State.idleFree_kept
    | with_reducible apply State.ite_kept | with_reducible refine State.dite_kept (fun _ => ?_) (fun _ => ?_)
    | with_reducible apply State.id_kept | dsimp only [State.kept] | split

theorem State.openFree_kept {v_ : Kept} {s : State} {l : Fin 16} (h_ : s.kept = v_) : (State.openFree s l).kept = v_ := by
  unfold State.openFree
  repeat' first
    | with_reducible assumption | with_reducible apply State.updPort_kkept | with_reducible apply State.send_kept
    | with_reducible apply State.ite_kept | dsimp only [State.kept] | split

theorem State.timed_kept {v_ : Kept} {s : State} {l : Fin 16} {bs : List (Nat × Nat)} (h_ : s.kept = v_) : (State.timed s l bs).kept = v_ := by
  unfold State.timed
  repeat' first
    | with_reducible assumption | with_reducible apply State.idleLanes_kept | with_reducible apply State.send_kept
    | with_reducible apply State.ite_kept | with_reducible refine State.foldl_kept (fun s x h => ?_) ?_
    | with_reducible apply State.ite1_kept | with_reducible apply State.ite2_kept
    | with_reducible refine State.dite_kept (fun _ => ?_) (fun _ => ?_) | with_reducible apply State.id_kept
    | dsimp only [State.kept] | split

theorem State.wake_kept {v_ : Kept} {s : State} {d : Fin 11} (h_ : s.kept = v_) : (State.wake s d).kept = v_ := by
  unfold State.wake
  repeat' first
    | with_reducible assumption | with_reducible apply State.ite_kept | dsimp only [State.kept] | split

theorem State.updHport_kept {v_ : Kept} {s : State} {p : Fin 4} {f : HPort → HPort} (h_ : s.kept = v_) : (State.updHport s p f).kept = v_ := by
  unfold State.updHport
  repeat' first
    | with_reducible assumption | with_reducible apply State.ite_kept | dsimp only [State.kept] | split

theorem State.answerFrame_kept {v_ : Kept} {s : State} {p : Fin 4} {e : Eth} (h_ : s.kept = v_) : (State.answerFrame s p e).kept = v_ := by
  unfold State.answerFrame
  repeat' first
    | with_reducible assumption | with_reducible apply State.updHport_kept | with_reducible apply State.emit_kkept
    | with_reducible apply State.ite_kept | dsimp only [State.kept] | split

theorem State.portFrame_kept {v_ : Kept} {s : State} {p : Fin 4} {ptp : Bool} {e : Eth} (h_ : s.kept = v_) : (State.portFrame s p ptp e).2.kept = v_ := by
  unfold State.portFrame
  repeat' first
    | with_reducible assumption | with_reducible apply State.updHport_kept | with_reducible apply State.wake_kept
    | with_reducible apply State.answerFrame_kept | with_reducible apply State.ite_kept | with_reducible apply State.ite1_kept
    | with_reducible apply State.ite2_kept | with_reducible refine State.dite_kept (fun _ => ?_) (fun _ => ?_)
    | with_reducible apply State.id_kept | dsimp only [State.kept] | split
theorem State.portFrame_to_kept {v_ : Kept} {s : State} {p : Fin 4} {ptp : Bool} {e : Eth} {r_ : Bool × State} (e_ : State.portFrame s p ptp e = r_) (h_ : s.kept = v_) : r_.2.kept = v_ := by
  rw [← e_]; exact State.portFrame_kept h_

theorem State.frameIn_kept {v_ : Kept} {s : State} {port : Nat} {ptp : Bool} {e : Eth} (h_ : s.kept = v_) : (State.frameIn s port ptp e).2.kept = v_ := by
  unfold State.frameIn
  repeat' first
    | with_reducible assumption | with_reducible apply State.portFrame_kept | with_reducible apply State.ite_kept
    | with_reducible apply State.ite1_kept | with_reducible apply State.ite2_kept
    | (refine State.portFrame_to_kept (by with_reducible assumption) ?_)
    | with_reducible refine State.dite_kept (fun _ => ?_) (fun _ => ?_) | with_reducible apply State.id_kept
    | dsimp only [State.kept] | split
theorem State.frameIn_to_kept {v_ : Kept} {s : State} {port : Nat} {ptp : Bool} {e : Eth} {r_ : Bool × State} (e_ : State.frameIn s port ptp e = r_) (h_ : s.kept = v_) : r_.2.kept = v_ := by
  rw [← e_]; exact State.frameIn_kept h_

theorem State.canSend_kept {v_ : Kept} {s : State} {f : Fin 2} {host prio len : Nat} {bytes : Bytes} (h_ : s.kept = v_) : (State.canSend s f host prio len bytes).kept = v_ := by
  unfold State.canSend
  repeat' first
    | with_reducible assumption | with_reducible apply State.emit_kkept | with_reducible apply State.ite_kept
    | with_reducible refine State.foldl_kept (fun s x h => ?_) ?_ | dsimp only [State.kept] | split

theorem State.ethOut_kept {v_ : Kept} {s : State} {p : Fin 4} {kind : Nat} (h_ : s.kept = v_) : (State.ethOut s p kind).kept = v_ := by
  unfold State.ethOut
  repeat' first
    | with_reducible assumption | with_reducible apply State.emit_kkept | with_reducible apply State.ite_kept
    | dsimp only [State.kept] | split

theorem State.post_kept {v_ : Kept} {s : State} {port addr kind key sid seq len body : Nat} (h_ : s.kept = v_) : (State.post s port addr kind key sid seq len body).kept = v_ := by
  unfold State.post
  repeat' first
    | with_reducible assumption | with_reducible apply State.emit_kkept | with_reducible apply State.ethOut_kept
    | with_reducible apply State.datagram_kept | with_reducible apply State.canSend_kept | with_reducible apply State.ite_kept
    | (refine State.datagram_to_kept (by with_reducible assumption) ?_)
    | with_reducible refine State.dite_kept (fun _ => ?_) (fun _ => ?_) | with_reducible apply State.id_kept
    | dsimp only [State.kept] | split

theorem State.sendDatagram_kept {v_ : Kept} {s : State} {i : Fin 32} {kind len body : Nat} (h_ : s.kept = v_) : (State.sendDatagram s i kind len body).kept = v_ := by
  unfold State.sendDatagram
  repeat' first
    | with_reducible assumption | with_reducible apply State.updSess_kkept | with_reducible apply State.post_kept
    | with_reducible apply State.ite_kept | with_reducible refine State.dite_kept (fun _ => ?_) (fun _ => ?_)
    | with_reducible apply State.id_kept | dsimp only [State.kept] | split

theorem State.sendRaw_kept {v_ : Kept} {s : State} {i : Fin 32} {kind len body : Nat} (h_ : s.kept = v_) : (State.sendRaw s i kind len body).kept = v_ := by
  unfold State.sendRaw
  repeat' first
    | with_reducible assumption | with_reducible apply State.sendDatagram_kept | with_reducible apply State.updSess_kkept
    | with_reducible apply State.ite_kept | dsimp only [State.kept] | split

theorem State.sendSequenced_kept {v_ : Kept} {s : State} {i : Fin 32} {m : TxMsg} (h_ : s.kept = v_) : (State.sendSequenced s i m).kept = v_ := by
  unfold State.sendSequenced
  repeat' first
    | with_reducible assumption | with_reducible apply State.sendDatagram_kept | with_reducible apply State.ite_kept
    | dsimp only [State.kept] | split

theorem State.flushTx_kept {v_ : Kept} {s : State} {i : Fin 32} (h_ : s.kept = v_) : (State.flushTx s i).kept = v_ := by
  unfold State.flushTx
  repeat' first
    | with_reducible assumption | with_reducible apply State.updSess_kkept | with_reducible apply State.sendDatagram_kept
    | with_reducible apply State.sendSequenced_kept | with_reducible apply State.ite_kept
    | with_reducible refine State.foldl_kept (fun s x h => ?_) ?_ | with_reducible apply State.ite1_kept
    | with_reducible apply State.ite2_kept | dsimp only [State.kept] | split

theorem State.datagram_kept {v_ : Kept} {s : State} {d : Dgram} (h_ : s.kept = v_) : (State.datagram s d).2.kept = v_ := by
  unfold State.datagram
  repeat' first
    | with_reducible assumption | with_reducible apply State.frameIn_kept | with_reducible apply State.updSess_kkept
    | with_reducible apply State.flushTx_kept | with_reducible apply State.ite_kept | with_reducible apply State.ite1_kept
    | with_reducible apply State.ite2_kept | (refine State.frameIn_to_kept (by with_reducible assumption) ?_)
    | with_reducible refine State.dite_kept (fun _ => ?_) (fun _ => ?_) | with_reducible apply State.id_kept
    | dsimp only [State.kept] | split
theorem State.datagram_to_kept {v_ : Kept} {s : State} {d : Dgram} {r_ : Option (Fin 32) × State} (e_ : State.datagram s d = r_) (h_ : s.kept = v_) : r_.2.kept = v_ := by
  rw [← e_]; exact State.datagram_kept h_

theorem State.sendSeq_kept {v_ : Kept} {s : State} {i : Fin 32} {kind len body : Nat} {items : List Nat} {zone : Nat} (h_ : s.kept = v_) : (State.sendSeq s i kind len body items zone).kept = v_ := by
  unfold State.sendSeq
  repeat' first
    | with_reducible assumption | with_reducible apply State.updSess_kkept | with_reducible apply State.flushTx_kept
    | with_reducible apply State.ite_kept | dsimp only [State.kept] | split

theorem State.markRx_kept {v_ : Kept} {s : State} {i : Fin 32} {n : Nat} (h_ : s.kept = v_) : (State.markRx s i n).kept = v_ := by
  unfold State.markRx
  repeat' first
    | with_reducible assumption | with_reducible apply State.updSess_kkept | with_reducible apply State.ite_kept
    | dsimp only [State.kept] | split

theorem State.takeSeq_kept {v_ : Kept} {s : State} {i : Fin 32} {c : SeqClass} {stale : State → State} (hst : ∀ s, s.kept = v_ → (stale s).kept = v_) (h_ : s.kept = v_) :
    (s.takeSeq i c stale).2.kept = v_ := by
  cases c with
  | accept n => exact h_
  | duplicate => exact State.updSess_kkept h_
  | stale => exact hst _ (State.updSess_kkept h_)

theorem State.sequenced_kept {v_ : Kept} {s : State} {kind : Nat} {m : Ktp} {stale : State → State} (hst : ∀ s, s.kept = v_ → (stale s).kept = v_) (h_ : s.kept = v_) :
    (s.sequenced kind m stale).2.kept = v_ := by
  unfold State.sequenced
  split
  · exact State.datagram_to_kept (by assumption) h_
  · refine State.takeSeq_kept hst ?_
    exact State.datagram_to_kept (by assumption) h_
theorem State.sequenced_to_kept {v_ : Kept} {s : State} {kind : Nat} {m : Ktp} {stale : State → State} {r_ : Option (Fin 32 × Nat) × State}
    (e_ : s.sequenced kind m stale = r_) (hst : ∀ s, s.kept = v_ → (stale s).kept = v_) (h_ : s.kept = v_) : r_.2.kept = v_ := by
  rw [← e_]; exact State.sequenced_kept hst h_

theorem State.staleNowhere_kept {v_ : Kept} {s : State} (h_ : s.kept = v_) : (State.staleNowhere s).kept = v_ := by
  unfold State.staleNowhere
  repeat' first
    | with_reducible assumption | with_reducible apply State.updZone_kkept | with_reducible apply State.ite_kept
    | dsimp only [State.kept] | split

theorem State.respond_kept {v_ : Kept} {s : State} {i : Fin 32} {r : Resp} (h_ : s.kept = v_) : (State.respond s i r).kept = v_ := by
  unfold State.respond
  repeat' first
    | with_reducible assumption | with_reducible apply State.updSess_kkept | with_reducible apply State.sendRaw_kept
    | with_reducible apply State.ite_kept | dsimp only [State.kept] | split

theorem State.accessBy_kept {v_ : Kept} {s : State} {k : Kop} {i : Fin 32} (h_ : s.kept = v_) : (State.accessBy s k i).kept = v_ := by
  unfold State.accessBy
  repeat' first
    | with_reducible assumption | with_reducible apply State.ite_kept | dsimp only [State.kept] | split

theorem State.request_kept {v_ : Kept} {s : State} {k : Kop} (h_ : s.kept = v_) : (State.request s k).2.kept = v_ := by
  unfold State.request
  repeat' first
    | with_reducible assumption | with_reducible apply State.datagram_kept | with_reducible apply State.sendRaw_kept
    | with_reducible apply State.respond_kept | with_reducible apply State.accessBy_kept | with_reducible apply State.ite_kept
    | with_reducible apply State.ite1_kept | with_reducible apply State.ite2_kept
    | (refine State.datagram_to_kept (by with_reducible assumption) ?_) | dsimp only [State.kept] | split
theorem State.request_to_kept {v_ : Kept} {s : State} {k : Kop} {r_ : Option (Fin 32) × State} (e_ : State.request s k = r_) (h_ : s.kept = v_) : r_.2.kept = v_ := by
  rw [← e_]; exact State.request_kept h_

theorem State.await_kept {v_ : Kept} {s : State} {c : Instr} {k : Kop} {i : Fin 32} {ds : List (Fin 11)} (h_ : s.kept = v_) : (State.await s c k i ds).kept = v_ := by
  unfold State.await
  repeat' first
    | with_reducible assumption | with_reducible apply State.wake_kept | with_reducible apply State.ite_kept
    | with_reducible refine State.foldl_kept (fun s x h => ?_) ?_ | dsimp only [State.kept] | split

theorem State.arrive_kept {v_ : Kept} {s : State} {c : Instr} {k : Kop} (h_ : s.kept = v_) : (State.arrive s c k).2.kept = v_ := by
  unfold State.arrive
  repeat' first
    | with_reducible assumption | with_reducible apply State.accessBy_kept | with_reducible apply State.request_kept
    | with_reducible apply State.await_kept | with_reducible apply State.ite_kept | with_reducible apply State.ite1_kept
    | with_reducible apply State.ite2_kept | (refine State.request_to_kept (by with_reducible assumption) ?_)
    | dsimp only [State.kept] | split
theorem State.arrive_to_kept {v_ : Kept} {s : State} {c : Instr} {k : Kop} {r_ : Option (Fin 32) × State} (e_ : State.arrive s c k = r_) (h_ : s.kept = v_) : r_.2.kept = v_ := by
  rw [← e_]; exact State.arrive_kept h_

theorem State.write_kept {v_ : Kept} {s : State} {c : Instr} {k : Kop} {i sub v : Nat} {act : State → Who → State × Nat}
    (hact : ∀ s w, s.kept = v_ → (act s w).1.kept = v_) (h_ : s.kept = v_) : (s.write c k i sub v act).kept = v_ := by
  unfold State.write
  split
  · exact State.arrive_to_kept (by assumption) h_
  · have := State.arrive_to_kept (by assumption) h_
    exact State.ite_kept this (State.ite_kept (State.respond_kept this) (State.respond_kept (hact _ _ this)))

theorem State.setStat_kkept {v_ : Kept} {s : State} {i sub : Nat} {c : CmdStat} (h_ : s.kept = v_) : (s.setStat i sub c).kept = v_ := h_

theorem State.command_kept {v_ : Kept} {s : State} {c : Instr} {k : Kop} {i sub v : Nat} {act : State → Who → State × CmdRes}
    (hact : ∀ s w, s.kept = v_ → (act s w).1.kept = v_) (h_ : s.kept = v_) : (s.command c k i sub v act).kept = v_ := by
  unfold State.command
  split
  · exact State.arrive_to_kept (by assumption) h_
  · have := State.arrive_to_kept (by assumption) h_
    refine State.ite_kept this (State.ite_kept (State.respond_kept this) (State.ite_kept (State.await_kept this) ?_))
    split
    rename_i s' res e
    have h' : s'.kept = v_ := (congrArg (fun r => State.kept r.1) e).symm.trans (hact _ _ this)
    split <;> exact State.respond_kept h'

theorem State.cmdEnd_kept {v_ : Kept} {s : State} {i sub code : Nat} (h_ : s.kept = v_) : (State.cmdEnd s i sub code).kept = v_ := by
  unfold State.cmdEnd
  repeat' first
    | with_reducible assumption | with_reducible apply State.setStat_kkept | with_reducible apply State.ite_kept
    | dsimp only [State.kept] | split

theorem State.recomputeQuality_kept {v_ : Kept} {s : State} {z : Fin 8} (h_ : s.kept = v_) : (State.recomputeQuality s z).kept = v_ := by
  unfold State.recomputeQuality
  repeat' first
    | with_reducible assumption | with_reducible apply State.updHead_kkept | with_reducible apply State.updZone_kkept
    | with_reducible apply State.event_kept | with_reducible apply State.ite_kept
    | with_reducible refine State.foldl_kept (fun s x h => ?_) ?_ | with_reducible apply State.ite1_kept
    | with_reducible apply State.ite2_kept | with_reducible refine State.dite_kept (fun _ => ?_) (fun _ => ?_)
    | with_reducible apply State.id_kept | dsimp only [State.kept] | split

theorem State.refuseSlot_kept {v_ : Kept} {s : State} {z : Fin 8} {hostId sid reason : Nat} (h_ : s.kept = v_) : (State.refuseSlot s z hostId sid reason).kept = v_ := by
  unfold State.refuseSlot
  repeat' first
    | with_reducible assumption | with_reducible apply State.countOutcome_kept | with_reducible apply State.ite_kept
    | with_reducible refine State.dite_kept (fun _ => ?_) (fun _ => ?_) | with_reducible apply State.id_kept
    | dsimp only [State.kept] | split

theorem State.takeSlot_kept {v_ : Kept} {s : State} {it : Item} {slot : Nat} (h_ : s.kept = v_) : (State.takeSlot s it slot).1.kept = v_ := by
  unfold State.takeSlot
  repeat' first
    | with_reducible assumption | with_reducible apply State.finish_kept | with_reducible apply State.takeRefs_kept
    | with_reducible apply State.setHead_kept | with_reducible apply State.ite_kept | with_reducible apply State.ite1_kept
    | with_reducible apply State.ite2_kept | with_reducible refine State.dite_kept (fun _ => ?_) (fun _ => ?_)
    | with_reducible apply State.id_kept | dsimp only [State.kept] | split
theorem State.takeSlot_to_kept {v_ : Kept} {s : State} {it : Item} {slot : Nat} {r_ : State × Nat × Nat} (e_ : State.takeSlot s it slot = r_) (h_ : s.kept = v_) : r_.1.kept = v_ := by
  rw [← e_]; exact State.takeSlot_kept h_

theorem State.submit_kept {v_ : Kept} {s : State} {i : Fin 32} {d : Descriptor} (h_ : s.kept = v_) : (State.submit s i d).1.kept = v_ := by
  unfold State.submit
  repeat' first
    | with_reducible assumption | with_reducible apply State.refuseSlot_kept | with_reducible apply State.takeSlot_kept
    | with_reducible apply State.ite_kept | with_reducible apply State.ite1_kept | with_reducible apply State.ite2_kept
    | (refine State.takeSlot_to_kept (by with_reducible assumption) ?_)
    | with_reducible refine State.dite_kept (fun _ => ?_) (fun _ => ?_) | with_reducible apply State.id_kept
    | dsimp only [State.kept] | split
theorem State.submit_to_kept {v_ : Kept} {s : State} {i : Fin 32} {d : Descriptor} {r_ : State × Nat × Nat} (e_ : State.submit s i d = r_) (h_ : s.kept = v_) : r_.1.kept = v_ := by
  rw [← e_]; exact State.submit_kept h_

theorem execSubmission_kept {v_ : Kept} {t : Nat} {i : Fin 32} {s : State} (h_ : s.kept = v_) :
    Lands (fun x => x.kept = v_) (execSubmission t i s) := by
  unfold execSubmission
  dsimp only
  split
  · exact Lands.next h_
  · refine Lands.next (State.sendSeq_kept ?_)
    have : ∀ (l : List Descriptor) (a : State × List (Nat × Nat × Nat)), a.1.kept = v_ →
        (l.foldl (fun (a : State × List (Nat × Nat × Nat)) d =>
          ((a.1.submit i d).1, a.2 ++ [(fld d.hdr 32 32, (a.1.submit i d).2.1, (a.1.submit i d).2.2)])) a).1.kept = v_ := by
      intro l
      induction l with
      | nil => intro a ha; exact ha
      | cons x l ih => intro a ha; exact ih _ (State.submit_kept ha)
    exact this _ _ h_

theorem State.staleIn_kept {v_ : Kept} {s : State} {z : Option (Fin 8)} (h_ : s.kept = v_) : (State.staleIn s z).kept = v_ := by
  unfold State.staleIn
  repeat' first
    | with_reducible assumption | with_reducible apply State.updZone_kkept | with_reducible apply State.ite_kept
    | dsimp only [State.kept] | split

theorem execItemSubmit_kept {v_ : Kept} {t : Nat} {m : Ktp} {ds : List Descriptor} {s : State} (h_ : s.kept = v_) :
    Lands (fun x => x.kept = v_) (execItemSubmit t m ds s) := by
  unfold execItemSubmit
  repeat' first
    | with_reducible apply Lands.next | with_reducible apply Lands.ite | with_reducible assumption
    | (refine State.sequenced_to_kept (by with_reducible assumption) (fun s h => ?_) ?_) | with_reducible apply State.begin_kkept
    | with_reducible apply State.staleIn_kept | with_reducible apply State.markRx_kept | with_reducible apply State.updSess_kkept
    | with_reducible apply State.ite_kept | with_reducible apply State.ite1_kept | with_reducible apply State.ite2_kept
    | with_reducible refine State.dite_kept (fun _ => ?_) (fun _ => ?_) | with_reducible apply State.id_kept
    | with_reducible refine Lands.dite (fun _ => ?_) (fun _ => ?_) | dsimp only [State.kept] | split

theorem State.armTraverse_kept {v_ : Kept} {s : State} {z : Fin 8} {h : Nat} {t : Int} (h_ : s.kept = v_) : (State.armTraverse s z h t).kept = v_ := by
  unfold State.armTraverse
  repeat' first
    | with_reducible assumption | with_reducible apply State.updZone_kkept | with_reducible apply State.ite_kept
    | dsimp only [State.kept] | split

theorem State.admitItem_kept {v_ : Kept} {s : State} {it : Item} {origin : Int} (h_ : s.kept = v_) : (State.admitItem s it origin).kept = v_ := by
  unfold State.admitItem
  repeat' first
    | with_reducible assumption | with_reducible apply State.updItem_kkept | with_reducible apply State.updZone_kkept
    | with_reducible apply State.armTraverse_kept | with_reducible apply State.setHead_kept
    | with_reducible apply State.ite_kept | with_reducible apply State.ite1_kept | with_reducible apply State.ite2_kept
    | dsimp only [State.kept] | split

theorem State.waitItem_kept {v_ : Kept} {s : State} {it : Item} {reason : Nat} (h_ : s.kept = v_) : (State.waitItem s it reason).kept = v_ := by
  unfold State.waitItem
  repeat' first
    | with_reducible assumption | with_reducible apply State.updItem_kkept | with_reducible apply State.ite_kept
    | dsimp only [State.kept] | split

theorem State.sluice_kept {v_ : Kept} {s : State} {it : Item} {o : Int} (h_ : s.kept = v_) : (State.sluice s it o).kept = v_ := by
  unfold State.sluice
  repeat' first
    | with_reducible assumption | with_reducible apply State.finish_kept | with_reducible apply State.waitItem_kept
    | with_reducible apply State.admitItem_kept | with_reducible apply State.ite_kept
    | with_reducible refine State.dite_kept (fun _ => ?_) (fun _ => ?_) | with_reducible apply State.id_kept
    | dsimp only [State.kept] | split

theorem State.evaluate_kept {v_ : Kept} {s : State} {z : Fin 8} (h_ : s.kept = v_) : (State.evaluate s z).kept = v_ := by
  unfold State.evaluate
  repeat' first
    | with_reducible assumption | with_reducible apply State.finish_kept | with_reducible apply State.updItem_kkept
    | with_reducible apply State.updZone_kkept | with_reducible apply State.sluice_kept | with_reducible apply State.ite_kept
    | dsimp only [State.kept] | split

theorem execAdmissionEvaluation_kept {v_ : Kept} {t : Nat} {z : Fin 8} {s : State} (h_ : s.kept = v_) :
    Lands (fun x => x.kept = v_) (execAdmissionEvaluation t z s) := by
  unfold execAdmissionEvaluation
  repeat' first
    | with_reducible apply Lands.next | with_reducible apply Lands.ite | with_reducible assumption
    | with_reducible apply State.begin_kkept | with_reducible apply State.evaluate_kept | with_reducible apply State.ite_kept
    | with_reducible apply State.ite1_kept | with_reducible apply State.ite2_kept
    | with_reducible refine Lands.dite (fun _ => ?_) (fun _ => ?_) | dsimp only [State.kept] | split

theorem execSkippedNoMark_kept {v_ : Kept} {t : Nat} {z : Fin 8} {s : State} (h_ : s.kept = v_) :
    Lands (fun x => x.kept = v_) (execSkippedNoMark t z s) := by
  unfold execSkippedNoMark
  repeat' first
    | with_reducible apply Lands.next | with_reducible apply Lands.ite | with_reducible assumption
    | with_reducible apply State.begin_kkept | with_reducible apply State.finish_kept | with_reducible apply State.ite_kept
    | with_reducible apply State.ite1_kept | with_reducible apply State.ite2_kept
    | with_reducible refine Lands.dite (fun _ => ?_) (fun _ => ?_) | dsimp only [State.kept] | split

theorem State.lineBad_kept {v_ : Kept} {s : State} {h : Nat} {line : Nat} (h_ : s.kept = v_) : (State.lineBad s h line).kept = v_ := by
  unfold State.lineBad
  repeat' first
    | with_reducible assumption | with_reducible apply State.updItem_kkept | with_reducible apply State.ite_kept
    | dsimp only [State.kept] | split

theorem State.latchFired_kept {v_ : Kept} {s : State} {h : Fin 64} {fire drops : Nat} (h_ : s.kept = v_) : (State.latchFired s h fire drops).kept = v_ := by
  unfold State.latchFired
  repeat' first
    | with_reducible assumption | with_reducible apply State.ite_kept | dsimp only [State.kept] | split

theorem State.itemFired_kept {v_ : Kept} {s : State} {l : Stamped} {clamped : Bool} (h_ : s.kept = v_) : (State.itemFired s l clamped).kept = v_ := by
  unfold State.itemFired
  repeat' first
    | with_reducible assumption | with_reducible apply State.updItem_kkept | with_reducible apply State.spoil_kept
    | with_reducible apply State.ite_kept | with_reducible refine State.dite_kept (fun _ => ?_) (fun _ => ?_)
    | with_reducible apply State.id_kept | dsimp only [State.kept] | split

theorem State.deliver_kept {v_ : Kept} {s : State} {h : Nat} (h_ : s.kept = v_) : (State.deliver s h).kept = v_ := by
  unfold State.deliver
  repeat' first
    | with_reducible assumption | with_reducible apply State.updItem_kkept | with_reducible apply State.countOutcome_kept
    | with_reducible apply State.recomputeRes_kept | with_reducible apply State.pushNotice_kept
    | with_reducible apply State.ite_kept | dsimp only [State.kept] | split

theorem State.reportCause_kept {v_ : Kept} {s : State} {h : Fin 64} {r : Fin 4} {l : Stamped} {result : Nat} (h_ : s.kept = v_) : (State.reportCause s h r l result).kept = v_ := by
  unfold State.reportCause
  repeat' first
    | with_reducible assumption | with_reducible apply State.spoil_kept | with_reducible apply State.ite_kept
    | dsimp only [State.kept] | split

theorem State.clampEvent_kept {v_ : Kept} {s : State} {h : Fin 64} {r : Fin 4} {l : Stamped} (h_ : s.kept = v_) : (State.clampEvent s h r l).kept = v_ := by
  unfold State.clampEvent
  repeat' first
    | with_reducible assumption | with_reducible apply State.faultEvent_kept | with_reducible apply State.ite_kept
    | dsimp only [State.kept] | split

theorem State.headCounts_kept {v_ : Kept} {s : State} {h : Fin 64} {r : Fin 4} {l : Stamped} {result : Nat} (h_ : s.kept = v_) : (State.headCounts s h r l result).kept = v_ := by
  unfold State.headCounts
  repeat' first
    | with_reducible assumption | with_reducible apply State.updRow_kkept | with_reducible apply State.clampEvent_kept
    | with_reducible apply State.latchFired_kept | with_reducible apply State.updHead_kkept | with_reducible apply State.ite_kept
    | dsimp only [State.kept] | split

theorem State.reportLine_kept {v_ : Kept} {s : State} {h : Fin 64} {r : Fin 4} {l : Stamped} {result : Nat} (h_ : s.kept = v_) : (State.reportLine s h r l result).kept = v_ := by
  unfold State.reportLine
  repeat' first
    | with_reducible assumption | with_reducible apply State.headCounts_kept | with_reducible apply State.updRow_kkept
    | with_reducible apply State.itemFired_kept | with_reducible apply State.updItem_kkept
    | with_reducible apply State.lineBad_kept | with_reducible apply State.reportCause_kept
    | with_reducible apply State.deliver_kept | with_reducible apply State.ite_kept
    | with_reducible refine State.dite_kept (fun _ => ?_) (fun _ => ?_) | with_reducible apply State.id_kept
    | dsimp only [State.kept] | split

theorem State.reportWithdrawn_kept {v_ : Kept} {s : State} {h : Fin 64} {r : Fin 4} {w : Withdrawn} {result : Nat} (h_ : s.kept = v_) : (State.reportWithdrawn s h r w result).kept = v_ := by
  unfold State.reportWithdrawn
  repeat' first
    | with_reducible assumption | with_reducible apply State.updRow_kkept | with_reducible apply State.headCounts_kept
    | with_reducible apply State.spoil_kept | with_reducible apply State.ite_kept
    | with_reducible refine State.dite_kept (fun _ => ?_) (fun _ => ?_) | with_reducible apply State.id_kept
    | dsimp only [State.kept] | split

theorem execFireReport_kept {v_ : Kept} {t : Nat} {l : Fin 16} {rep : FireRep} {s : State} (h_ : s.kept = v_) :
    Lands (fun x => x.kept = v_) (execFireReport t l rep s) := by
  unfold execFireReport
  repeat' first
    | with_reducible apply Lands.next | with_reducible apply Lands.ite | with_reducible assumption
    | with_reducible apply State.begin_kkept | with_reducible apply State.updPort_kkept
    | with_reducible apply State.countStale_kept | with_reducible apply State.reportLine_kept
    | with_reducible apply State.reportWithdrawn_kept | with_reducible apply State.settle_kept
    | with_reducible apply State.ite_kept | with_reducible apply State.ite1_kept | with_reducible apply State.ite2_kept
    | with_reducible refine State.dite_kept (fun _ => ?_) (fun _ => ?_) | with_reducible apply State.id_kept
    | with_reducible refine Lands.dite (fun _ => ?_) (fun _ => ?_) | dsimp only [State.kept] | split

theorem execFireReportTimeout_kept {v_ : Kept} {t : Nat} {h : Fin 64} {r : Fin 4} {s : State} (h_ : s.kept = v_) :
    Lands (fun x => x.kept = v_) (execFireReportTimeout t h r s) := by
  unfold execFireReportTimeout
  repeat' first
    | with_reducible apply Lands.next | with_reducible apply Lands.ite | with_reducible assumption
    | with_reducible apply State.begin_kkept | with_reducible apply State.updRow_kkept | with_reducible apply State.spoil_kept
    | with_reducible apply State.settle_kept | with_reducible apply State.ite_kept | with_reducible apply State.ite1_kept
    | with_reducible apply State.ite2_kept | with_reducible refine State.dite_kept (fun _ => ?_) (fun _ => ?_)
    | with_reducible apply State.id_kept | with_reducible refine Lands.dite (fun _ => ?_) (fun _ => ?_)
    | dsimp only [State.kept] | split

theorem State.outcomeEvent_kept {v_ : Kept} {s : State} {z : Fin 8} {h hostId : Nat} {o : Outcome} {bad fired sess role : Nat} (h_ : s.kept = v_) : (State.outcomeEvent s z h hostId o bad fired sess role).kept = v_ := by
  unfold State.outcomeEvent
  repeat' first
    | with_reducible assumption | with_reducible apply State.addEvent_kept | with_reducible apply State.ite_kept
    | with_reducible apply State.ite1_kept | with_reducible apply State.ite2_kept | dsimp only [State.kept] | split

theorem State.handNotice_kept {v_ : Kept} {s : State} {n : Notice} (h_ : s.kept = v_) : (State.handNotice s n).kept = v_ := by
  unfold State.handNotice
  repeat' first
    | with_reducible assumption | with_reducible apply State.outcomeEvent_kept | with_reducible apply State.sendSeq_kept
    | with_reducible apply State.updItem_kkept | with_reducible apply State.settle_kept | with_reducible apply State.ite_kept
    | dsimp only [State.kept] | split

theorem execOutcomeNotice_kept {v_ : Kept} {t : Nat} {s : State} (h_ : s.kept = v_) :
    Lands (fun x => x.kept = v_) (execOutcomeNotice t s) := by
  unfold execOutcomeNotice
  repeat' first
    | with_reducible apply Lands.next | with_reducible apply Lands.ite | with_reducible assumption
    | with_reducible apply State.begin_kkept | with_reducible apply State.handNotice_kept | with_reducible apply State.ite_kept
    | with_reducible apply State.ite1_kept | with_reducible apply State.ite2_kept
    | with_reducible refine Lands.dite (fun _ => ?_) (fun _ => ?_) | dsimp only [State.kept] | split

theorem State.outcomeTaken_kept {v_ : Kept} {s : State} {h : Nat} (h_ : s.kept = v_) : (State.outcomeTaken s h).kept = v_ := by
  unfold State.outcomeTaken
  repeat' first
    | with_reducible assumption | with_reducible apply State.updItem_kkept | with_reducible apply State.settle_kept
    | with_reducible apply State.ite_kept | dsimp only [State.kept] | split

theorem execItemOutcomeRead_kept {v_ : Kept} {t : Nat} {k : Kop} {s : State} (h_ : s.kept = v_) :
    Lands (fun x => x.kept = v_) (execItemOutcomeRead t k s) := by
  unfold execItemOutcomeRead
  repeat' first
    | with_reducible apply Lands.next | with_reducible apply Lands.ite | with_reducible assumption
    | with_reducible apply State.begin_kkept | with_reducible apply State.arrive_kept | with_reducible apply State.respond_kept
    | with_reducible apply State.outcomeTaken_kept | with_reducible apply State.ite_kept | with_reducible apply State.ite1_kept
    | with_reducible apply State.ite2_kept | (refine State.arrive_to_kept (by with_reducible assumption) ?_)
    | with_reducible refine Lands.dite (fun _ => ?_) (fun _ => ?_) | dsimp only [State.kept] | split

theorem execRejectAssert_kept {v_ : Kept} {t : Nat} {z : Fin 8} {handle : Nat} {s : State} (h_ : s.kept = v_) :
    Lands (fun x => x.kept = v_) (execRejectAssert t z handle s) := by
  unfold execRejectAssert
  repeat' first
    | with_reducible apply Lands.next | with_reducible apply Lands.ite | with_reducible assumption
    | with_reducible apply State.begin_kkept | with_reducible apply State.assertGate_kept
    | with_reducible apply State.settle_kept | with_reducible apply State.ite_kept | with_reducible apply State.ite1_kept
    | with_reducible apply State.ite2_kept | with_reducible refine Lands.dite (fun _ => ?_) (fun _ => ?_)
    | dsimp only [State.kept] | split

theorem State.endTests_kept {v_ : Kept} {s : State} (h_ : s.kept = v_) : (State.endTests s).kept = v_ := by
  unfold State.endTests
  repeat' first
    | with_reducible assumption | with_reducible apply State.updGate_kkept | with_reducible apply State.gateOut_kept
    | with_reducible apply State.ite_kept | with_reducible refine State.foldl_kept (fun s x h => ?_) ?_
    | with_reducible refine State.dite_kept (fun _ => ?_) (fun _ => ?_) | with_reducible apply State.id_kept
    | dsimp only [State.kept] | split

theorem execRejectRelease_kept {v_ : Kept} {t : Nat} {z : Fin 8} {s : State} (h_ : s.kept = v_) :
    Lands (fun x => x.kept = v_) (execRejectRelease t z s) := by
  unfold execRejectRelease
  repeat' first
    | with_reducible apply Lands.next | with_reducible apply Lands.ite | with_reducible assumption
    | with_reducible apply State.begin_kkept | with_reducible apply State.endTests_kept | with_reducible apply State.updGate_kkept
    | with_reducible apply State.updItem_kkept | with_reducible apply State.gateOut_kept | with_reducible apply State.settle_kept
    | with_reducible apply State.ite_kept | with_reducible refine State.foldl_kept (fun s x h => ?_) ?_
    | with_reducible apply State.ite1_kept | with_reducible apply State.ite2_kept
    | with_reducible refine Lands.dite (fun _ => ?_) (fun _ => ?_) | dsimp only [State.kept] | split

theorem State.rejectQueue_kept {v_ : Kept} {s : State} {z : Fin 8} (h_ : s.kept = v_) : (State.rejectQueue s z).kept = v_ := by
  unfold State.rejectQueue
  repeat' first
    | with_reducible assumption | with_reducible apply State.finish_kept | with_reducible apply State.ite_kept
    | with_reducible refine State.foldl_kept (fun s x h => ?_) ?_ | dsimp only [State.kept] | split

theorem State.discardHeld_kept {v_ : Kept} {s : State} {z : Fin 8} (h_ : s.kept = v_) : (State.discardHeld s z).kept = v_ := by
  unfold State.discardHeld
  repeat' first
    | with_reducible assumption | with_reducible apply State.releaseSlot_kept | with_reducible apply State.settle_kept
    | with_reducible apply State.ite_kept | with_reducible refine State.foldl_kept (fun s x h => ?_) ?_
    | dsimp only [State.kept] | split

theorem State.enableZone_kept {v_ : Kept} {s : State} {z : Fin 8} (h_ : s.kept = v_) : (State.enableZone s z).1.kept = v_ := by
  unfold State.enableZone
  repeat' first
    | with_reducible assumption | with_reducible apply State.refuse_kept | with_reducible apply State.setZoneState_kept
    | with_reducible apply State.updZone_kkept | with_reducible apply State.discardHeld_kept
    | with_reducible apply State.ite_kept | with_reducible apply State.ite1_kept | with_reducible apply State.ite2_kept
    | dsimp only [State.kept] | split
theorem State.enableZone_to_kept {v_ : Kept} {s : State} {z : Fin 8} {r_ : State × CmdRes} (e_ : State.enableZone s z = r_) (h_ : s.kept = v_) : r_.1.kept = v_ := by
  rw [← e_]; exact State.enableZone_kept h_

theorem State.drainZone_kept {v_ : Kept} {s : State} {z : Fin 8} (h_ : s.kept = v_) : (State.drainZone s z).kept = v_ := by
  unfold State.drainZone
  repeat' first
    | with_reducible assumption | with_reducible apply State.setZoneState_kept | with_reducible apply State.rejectQueue_kept
    | with_reducible apply State.ite_kept | dsimp only [State.kept] | split

theorem State.abortZone_kept {v_ : Kept} {s : State} {z : Fin 8} {who : Who} (h_ : s.kept = v_) : (State.abortZone s z who).kept = v_ := by
  unfold State.abortZone
  repeat' first
    | with_reducible assumption | with_reducible apply State.setZoneState_kept | with_reducible apply State.rejectQueue_kept
    | with_reducible apply State.spoil_kept | with_reducible apply State.settle_kept | with_reducible apply State.ite_kept
    | with_reducible refine State.foldl_kept (fun s x h => ?_) ?_ | dsimp only [State.kept] | split

theorem execZoneEnable_kept {v_ : Kept} {t : Nat} {k : Kop} {z : Fin 8} {s : State} (h_ : s.kept = v_) :
    Lands (fun x => x.kept = v_) (execZoneEnable t k z s) := by
  unfold execZoneEnable
  repeat' first
    | with_reducible apply Lands.next | with_reducible apply Lands.ite | with_reducible assumption
    | (with_reducible refine State.command_kept (fun s w h => ?_) ?_) | with_reducible apply State.begin_kkept
    | with_reducible apply State.enableZone_kept | with_reducible apply State.ite_kept | with_reducible apply State.ite1_kept
    | with_reducible apply State.ite2_kept | (refine State.enableZone_to_kept (by with_reducible assumption) ?_)
    | with_reducible refine Lands.dite (fun _ => ?_) (fun _ => ?_) | dsimp only [State.kept] | split

theorem execZoneDrain_kept {v_ : Kept} {t : Nat} {k : Kop} {z : Fin 8} {s : State} (h_ : s.kept = v_) :
    Lands (fun x => x.kept = v_) (execZoneDrain t k z s) := by
  unfold execZoneDrain
  repeat' first
    | with_reducible apply Lands.next | with_reducible apply Lands.ite | with_reducible assumption
    | (with_reducible refine State.command_kept (fun s w h => ?_) ?_) | with_reducible apply State.begin_kkept
    | with_reducible apply State.drainZone_kept | with_reducible apply State.ite_kept | with_reducible apply State.ite1_kept
    | with_reducible apply State.ite2_kept | with_reducible refine Lands.dite (fun _ => ?_) (fun _ => ?_)
    | dsimp only [State.kept] | split

theorem execZoneAbort_kept {v_ : Kept} {t : Nat} {k : Kop} {z : Fin 8} {s : State} (h_ : s.kept = v_) :
    Lands (fun x => x.kept = v_) (execZoneAbort t k z s) := by
  unfold execZoneAbort
  repeat' first
    | with_reducible apply Lands.next | with_reducible apply Lands.ite | with_reducible assumption
    | (with_reducible refine State.command_kept (fun s w h => ?_) ?_) | with_reducible apply State.begin_kkept
    | with_reducible apply State.abortZone_kept | with_reducible apply State.ite_kept | with_reducible apply State.ite1_kept
    | with_reducible apply State.ite2_kept | with_reducible refine Lands.dite (fun _ => ?_) (fun _ => ?_)
    | dsimp only [State.kept] | split

theorem execZoneDrainComplete_kept {v_ : Kept} {t : Nat} {z : Fin 8} {s : State} (h_ : s.kept = v_) :
    Lands (fun x => x.kept = v_) (execZoneDrainComplete t z s) := by
  unfold execZoneDrainComplete
  repeat' first
    | with_reducible apply Lands.next | with_reducible apply Lands.ite | with_reducible assumption
    | with_reducible apply State.begin_kkept | with_reducible apply State.setZoneState_kept | with_reducible apply State.ite_kept
    | with_reducible apply State.ite1_kept | with_reducible apply State.ite2_kept
    | with_reducible refine Lands.dite (fun _ => ?_) (fun _ => ?_) | dsimp only [State.kept] | split

theorem State.releaseHold_kept {v_ : Kept} {s : State} {z : Fin 8} {taken : Nat} (h_ : s.kept = v_) : (State.releaseHold s z taken).kept = v_ := by
  unfold State.releaseHold
  repeat' first
    | with_reducible assumption | with_reducible apply State.updZone_kkept | with_reducible apply State.passGate_kept
    | with_reducible apply State.updGate_kkept | with_reducible apply State.gateOut_kept | with_reducible apply State.event_kept
    | with_reducible apply State.settle_kept | with_reducible apply State.ite_kept
    | with_reducible refine State.dite_kept (fun _ => ?_) (fun _ => ?_) | with_reducible apply State.id_kept
    | dsimp only [State.kept] | split

theorem execRejectHoldClear_kept {v_ : Kept} {t : Nat} {k : Kop} {z : Fin 8} {s : State} (h_ : s.kept = v_) :
    Lands (fun x => x.kept = v_) (execRejectHoldClear t k z s) := by
  unfold execRejectHoldClear
  repeat' first
    | with_reducible apply Lands.next | with_reducible apply Lands.ite | with_reducible assumption
    | (with_reducible refine State.command_kept (fun s w h => ?_) ?_) | with_reducible apply State.begin_kkept
    | with_reducible apply State.updItem_kkept | with_reducible apply State.releaseHold_kept
    | with_reducible apply State.ite_kept | with_reducible refine State.foldl_kept (fun s x h => ?_) ?_
    | with_reducible apply State.ite1_kept | with_reducible apply State.ite2_kept
    | with_reducible refine Lands.dite (fun _ => ?_) (fun _ => ?_) | dsimp only [State.kept] | split

theorem State.abortItem_kept {v_ : Kept} {s : State} {h : Nat} {w : Who} (h_ : s.kept = v_) : (State.abortItem s h w).1.kept = v_ := by
  unfold State.abortItem
  repeat' first
    | with_reducible assumption | with_reducible apply State.countStale_kept | with_reducible apply State.refuse_kept
    | with_reducible apply State.finish_kept | with_reducible apply State.spoil_kept | with_reducible apply State.settle_kept
    | with_reducible apply State.ite_kept | with_reducible apply State.ite1_kept | with_reducible apply State.ite2_kept
    | dsimp only [State.kept] | split
theorem State.abortItem_to_kept {v_ : Kept} {s : State} {h : Nat} {w : Who} {r_ : State × CmdRes} (e_ : State.abortItem s h w = r_) (h_ : s.kept = v_) : r_.1.kept = v_ := by
  rw [← e_]; exact State.abortItem_kept h_

theorem execItemAbort_kept {v_ : Kept} {t : Nat} {k : Kop} {h : Nat} {s : State} (h_ : s.kept = v_) :
    Lands (fun x => x.kept = v_) (execItemAbort t k h s) := by
  unfold execItemAbort
  repeat' first
    | with_reducible apply Lands.next | with_reducible apply Lands.ite | with_reducible assumption
    | (with_reducible refine State.command_kept (fun s w h => ?_) ?_) | with_reducible apply State.begin_kkept
    | with_reducible apply State.abortItem_kept | with_reducible apply State.ite_kept | with_reducible apply State.ite1_kept
    | with_reducible apply State.ite2_kept | (refine State.abortItem_to_kept (by with_reducible assumption) ?_)
    | with_reducible refine Lands.dite (fun _ => ?_) (fun _ => ?_) | dsimp only [State.kept] | split

theorem State.sendLoad_kept {v_ : Kept} {s : State} {i : Fin 32} {loadId : Nat} {tile : Bool} {status handle cond : Nat} (h_ : s.kept = v_) : (State.sendLoad s i loadId tile status handle cond).kept = v_ := by
  unfold State.sendLoad
  repeat' first
    | with_reducible assumption | with_reducible apply State.sendSeq_kept | with_reducible apply State.ite_kept
    | dsimp only [State.kept] | split

theorem State.updAsset_kept {v_ : Kept} {s : State} {tile : Bool} {idx : Nat} {f : Asset → Asset} (h_ : s.kept = v_) : (State.updAsset s tile idx f).kept = v_ := by
  unfold State.updAsset
  repeat' first
    | with_reducible assumption | with_reducible apply State.updTile_kkept | with_reducible apply State.updTemplate_kkept
    | with_reducible apply State.ite_kept | with_reducible refine State.dite_kept (fun _ => ?_) (fun _ => ?_)
    | with_reducible apply State.id_kept | dsimp only [State.kept] | split

theorem State.freeAsset_kept {v_ : Kept} {s : State} {tile : Bool} {idx : Nat} (h_ : s.kept = v_) : (State.freeAsset s tile idx).kept = v_ := by
  unfold State.freeAsset
  repeat' first
    | with_reducible assumption | with_reducible apply State.freeTile_kept | with_reducible apply State.freeTemplate_kept
    | with_reducible apply State.ite_kept | with_reducible refine State.dite_kept (fun _ => ?_) (fun _ => ?_)
    | with_reducible apply State.id_kept | dsimp only [State.kept] | split

theorem State.invalidate_kept {v_ : Kept} {s : State} {tile : Bool} {idx : Nat} (h_ : s.kept = v_) : (State.invalidate s tile idx).kept = v_ := by
  unfold State.invalidate
  repeat' first
    | with_reducible assumption | with_reducible apply State.updAsset_kept | with_reducible apply State.stateChanged_kept
    | with_reducible apply State.ite_kept | with_reducible refine State.dite_kept (fun _ => ?_) (fun _ => ?_)
    | with_reducible apply State.id_kept | dsimp only [State.kept] | split

theorem State.closeLoad_kept {v_ : Kept} {s : State} {tile : Bool} {idx status cond : Nat} (h_ : s.kept = v_) : (State.closeLoad s tile idx status cond).kept = v_ := by
  unfold State.closeLoad
  repeat' first
    | with_reducible assumption | with_reducible apply State.updSess_kkept | with_reducible apply State.sendLoad_kept
    | with_reducible apply State.ite_kept | with_reducible refine State.dite_kept (fun _ => ?_) (fun _ => ?_)
    | with_reducible apply State.id_kept | dsimp only [State.kept] | split

theorem State.cancelLoad_kept {v_ : Kept} {s : State} {tile : Bool} {idx : Nat} (h_ : s.kept = v_) : (State.cancelLoad s tile idx).kept = v_ := by
  unfold State.cancelLoad
  repeat' first
    | with_reducible assumption | with_reducible apply State.closeLoad_kept | with_reducible apply State.freeAsset_kept
    | with_reducible apply State.invalidate_kept | with_reducible apply State.ite_kept
    | with_reducible refine State.dite_kept (fun _ => ?_) (fun _ => ?_) | with_reducible apply State.id_kept
    | dsimp only [State.kept] | split

theorem State.failLoad_kept {v_ : Kept} {s : State} {tile : Bool} {idx cond : Nat} (h_ : s.kept = v_) : (State.failLoad s tile idx cond).kept = v_ := by
  unfold State.failLoad
  repeat' first
    | with_reducible assumption | with_reducible apply State.closeLoad_kept | with_reducible apply State.invalidate_kept
    | with_reducible apply State.ite_kept | with_reducible refine State.dite_kept (fun _ => ?_) (fun _ => ?_)
    | with_reducible apply State.id_kept | dsimp only [State.kept] | split

theorem State.nextTemplate_kept {v_ : Kept} {s s' : State} {i : Nat} (e_ : s.nextTemplate = some (i, s')) (h_ : s.kept = v_) : s'.kept = v_ := by
  unfold State.nextTemplate at e_
  split at e_
  · cases e_; exact h_
  · split at e_ <;> cases e_; exact h_

theorem State.nextTile_kept {v_ : Kept} {s s' : State} {i : Nat} (e_ : s.nextTile = some (i, s')) (h_ : s.kept = v_) : s'.kept = v_ := by
  unfold State.nextTile at e_
  split at e_
  · cases e_; exact h_
  · split at e_ <;> cases e_; exact h_

theorem State.withTemplates_kept {v_ : Kept} {s : State} {x : List Asset} (h_ : s.kept = v_) : ({ s with templates := x } : State).kept = v_ := h_
theorem State.takeTemplate_kept {v_ : Kept} {s s' : State} {idx : Nat} {i : Fin 32} {loadId hdr : Nat} {room : Option (Nat × Nat)} (h_ : s.kept = v_) (h' : s'.kept = v_) :
    (State.takeTemplate s s' idx i loadId hdr room).kept = v_ := by
  unfold State.takeTemplate
  cases room with
  | none => exact State.sendLoad_kept h_
  | some b =>
    obtain ⟨b0, b1⟩ := b
    dsimp only
    exact State.sendLoad_kept (State.updSess_kkept (State.withTemplates_kept h'))

theorem State.openTemplate_kept {v_ : Kept} {s : State} {i : Fin 32} {loadId hdr : Nat} (h_ : s.kept = v_) : (s.openTemplate i loadId hdr).kept = v_ := by
  unfold State.openTemplate
  refine State.ite_kept (State.sendLoad_kept h_) ?_
  generalize e : s.nextTemplate = r
  cases r with
  | none => exact State.sendLoad_kept h_
  | some r => exact State.takeTemplate_kept h_ (State.nextTemplate_kept e h_)

theorem State.withTiles_kept {v_ : Kept} {s : State} {x : List Asset} (h_ : s.kept = v_) : ({ s with tiles := x } : State).kept = v_ := h_
theorem State.takeTile_kept {v_ : Kept} {s s' : State} {idx : Nat} {i : Fin 32} {loadId hdr : Nat} {room : Option (Nat × Nat × Nat)} (h_ : s.kept = v_) (h' : s'.kept = v_) :
    (State.takeTile s s' idx i loadId hdr room).kept = v_ := by
  unfold State.takeTile
  cases room with
  | none => exact State.sendLoad_kept h_
  | some b =>
    obtain ⟨ch, b0, b1⟩ := b
    dsimp only
    exact State.sendLoad_kept (State.updSess_kkept (State.withTiles_kept h'))

theorem State.openTile_kept {v_ : Kept} {s : State} {i : Fin 32} {loadId hdr : Nat} (h_ : s.kept = v_) : (s.openTile i loadId hdr).kept = v_ := by
  unfold State.openTile
  refine State.ite_kept (State.sendLoad_kept h_) ?_
  generalize e : s.nextTile = r
  cases r with
  | none => exact State.sendLoad_kept h_
  | some r => exact State.takeTile_kept h_ (State.nextTile_kept e h_)

theorem execTemplateBegin_kept {v_ : Kept} {t : Nat} {m : Ktp} {loadId hdr : Nat} {s : State} (h_ : s.kept = v_) :
    Lands (fun x => x.kept = v_) (execTemplateBegin t m loadId hdr s) := by
  unfold execTemplateBegin
  repeat' first
    | with_reducible apply Lands.next | with_reducible apply Lands.ite | with_reducible assumption
    | (refine State.sequenced_to_kept (by with_reducible assumption) (fun s h => ?_) ?_) | with_reducible apply State.begin_kkept
    | with_reducible apply State.staleNowhere_kept | with_reducible apply State.markRx_kept
    | with_reducible apply State.openTemplate_kept | with_reducible apply State.ite_kept | with_reducible apply State.ite1_kept
    | with_reducible apply State.ite2_kept | with_reducible refine Lands.dite (fun _ => ?_) (fun _ => ?_)
    | dsimp only [State.kept] | split

theorem execTileBegin_kept {v_ : Kept} {t : Nat} {m : Ktp} {loadId hdr : Nat} {s : State} (h_ : s.kept = v_) :
    Lands (fun x => x.kept = v_) (execTileBegin t m loadId hdr s) := by
  unfold execTileBegin
  repeat' first
    | with_reducible apply Lands.next | with_reducible apply Lands.ite | with_reducible assumption
    | (refine State.sequenced_to_kept (by with_reducible assumption) (fun s h => ?_) ?_) | with_reducible apply State.begin_kkept
    | with_reducible apply State.staleNowhere_kept | with_reducible apply State.markRx_kept
    | with_reducible apply State.openTile_kept | with_reducible apply State.ite_kept | with_reducible apply State.ite1_kept
    | with_reducible apply State.ite2_kept | with_reducible refine Lands.dite (fun _ => ?_) (fun _ => ?_)
    | dsimp only [State.kept] | split

theorem State.hostWrite_kept {v_ : Kept} {s : State} {n : Nat} (h_ : s.kept = v_) : (State.hostWrite s n).kept = v_ := by
  unfold State.hostWrite
  repeat' first
    | with_reducible assumption | with_reducible apply State.ite_kept | dsimp only [State.kept] | split

theorem execLoadCancel_kept {v_ : Kept} {t : Nat} {m : Ktp} {loadId : Nat} {s : State} (h_ : s.kept = v_) :
    Lands (fun x => x.kept = v_) (execLoadCancel t m loadId s) := by
  unfold execLoadCancel
  repeat' first
    | with_reducible apply Lands.next | with_reducible apply Lands.ite | with_reducible assumption
    | (refine State.sequenced_to_kept (by with_reducible assumption) (fun s h => ?_) ?_) | with_reducible apply State.begin_kkept
    | with_reducible apply State.staleNowhere_kept | with_reducible apply State.markRx_kept
    | with_reducible apply State.cancelLoad_kept | with_reducible apply State.ite_kept | with_reducible apply State.ite1_kept
    | with_reducible apply State.ite2_kept | with_reducible refine State.dite_kept (fun _ => ?_) (fun _ => ?_)
    | with_reducible apply State.id_kept | with_reducible refine Lands.dite (fun _ => ?_) (fun _ => ?_)
    | dsimp only [State.kept] | split

theorem execTemplateVerify_kept {v_ : Kept} {t : Nat} {idx : Nat} {s : State} (h_ : s.kept = v_) :
    Lands (fun x => x.kept = v_) (execTemplateVerify t idx s) := by
  unfold execTemplateVerify
  repeat' first
    | with_reducible apply Lands.next | with_reducible apply Lands.ite | with_reducible assumption
    | with_reducible apply State.begin_kkept | with_reducible apply State.failLoad_kept
    | with_reducible apply State.closeLoad_kept | with_reducible apply State.updAsset_kept | with_reducible apply State.ite_kept
    | with_reducible apply State.ite1_kept | with_reducible apply State.ite2_kept
    | with_reducible refine State.dite_kept (fun _ => ?_) (fun _ => ?_) | with_reducible apply State.id_kept
    | with_reducible refine Lands.dite (fun _ => ?_) (fun _ => ?_) | dsimp only [State.kept] | split

theorem State.deleteAsset_kept {v_ : Kept} {s : State} {tile : Bool} {h : Nat} (h_ : s.kept = v_) : (State.deleteAsset s tile h).1.kept = v_ := by
  unfold State.deleteAsset
  repeat' first
    | with_reducible assumption | with_reducible apply State.refuse_kept | with_reducible apply State.cancelLoad_kept
    | with_reducible apply State.freeAsset_kept | with_reducible apply State.updAsset_kept | with_reducible apply State.ite_kept
    | with_reducible apply State.ite1_kept | with_reducible apply State.ite2_kept
    | with_reducible refine State.dite_kept (fun _ => ?_) (fun _ => ?_) | with_reducible apply State.id_kept
    | dsimp only [State.kept] | split
theorem State.deleteAsset_to_kept {v_ : Kept} {s : State} {tile : Bool} {h : Nat} {r_ : State × CmdRes} (e_ : State.deleteAsset s tile h = r_) (h_ : s.kept = v_) : r_.1.kept = v_ := by
  rw [← e_]; exact State.deleteAsset_kept h_

theorem execTemplateDelete_kept {v_ : Kept} {t : Nat} {k : Kop} {handle : Nat} {s : State} (h_ : s.kept = v_) :
    Lands (fun x => x.kept = v_) (execTemplateDelete t k handle s) := by
  unfold execTemplateDelete
  repeat' first
    | with_reducible apply Lands.next | with_reducible apply Lands.ite | with_reducible assumption
    | (with_reducible refine State.command_kept (fun s w h => ?_) ?_) | with_reducible apply State.begin_kkept
    | with_reducible apply State.deleteAsset_kept | with_reducible apply State.ite_kept | with_reducible apply State.ite1_kept
    | with_reducible apply State.ite2_kept | (refine State.deleteAsset_to_kept (by with_reducible assumption) ?_)
    | with_reducible refine Lands.dite (fun _ => ?_) (fun _ => ?_) | dsimp only [State.kept] | split

theorem execTileDelete_kept {v_ : Kept} {t : Nat} {k : Kop} {handle : Nat} {s : State} (h_ : s.kept = v_) :
    Lands (fun x => x.kept = v_) (execTileDelete t k handle s) := by
  unfold execTileDelete
  repeat' first
    | with_reducible apply Lands.next | with_reducible apply Lands.ite | with_reducible assumption
    | (with_reducible refine State.command_kept (fun s w h => ?_) ?_) | with_reducible apply State.begin_kkept
    | with_reducible apply State.deleteAsset_kept | with_reducible apply State.ite_kept | with_reducible apply State.ite1_kept
    | with_reducible apply State.ite2_kept | (refine State.deleteAsset_to_kept (by with_reducible assumption) ?_)
    | with_reducible refine Lands.dite (fun _ => ?_) (fun _ => ?_) | dsimp only [State.kept] | split

theorem State.spoilAll_kept {v_ : Kept} {s : State} {p : Item → Bool} {code loc : Nat} (h_ : s.kept = v_) : (State.spoilAll s p code loc).kept = v_ := by
  unfold State.spoilAll
  repeat' first
    | with_reducible assumption | with_reducible apply State.spoil_kept | with_reducible apply State.settle_kept
    | with_reducible apply State.ite_kept | with_reducible refine State.foldl_kept (fun s x h => ?_) ?_
    | dsimp only [State.kept] | split

theorem execDramChannelFault_kept {v_ : Kept} {t : Nat} {ch : Fin 2} {s : State} (h_ : s.kept = v_) :
    Lands (fun x => x.kept = v_) (execDramChannelFault t ch s) := by
  unfold execDramChannelFault
  repeat' first
    | with_reducible apply Lands.next | with_reducible apply Lands.ite | with_reducible assumption
    | with_reducible apply State.begin_kkept | with_reducible apply State.closeLoad_kept
    | with_reducible apply State.invalidate_kept | with_reducible apply State.faultEvent_kept
    | with_reducible apply State.spoilAll_kept | with_reducible apply State.ite_kept
    | with_reducible refine State.foldl_kept (fun s x h => ?_) ?_ | with_reducible apply State.ite1_kept
    | with_reducible apply State.ite2_kept | with_reducible refine State.dite_kept (fun _ => ?_) (fun _ => ?_)
    | with_reducible apply State.id_kept | with_reducible refine Lands.dite (fun _ => ?_) (fun _ => ?_)
    | dsimp only [State.kept] | split

theorem execDramRetrainComplete_kept {v_ : Kept} {t : Nat} {ch : Fin 2} {ok : Bool} {s : State} (h_ : s.kept = v_) :
    Lands (fun x => x.kept = v_) (execDramRetrainComplete t ch ok s) := by
  unfold execDramRetrainComplete
  repeat' first
    | with_reducible apply Lands.next | with_reducible apply Lands.ite | with_reducible assumption
    | with_reducible apply State.begin_kkept | with_reducible apply State.faultEvent_kept | with_reducible apply State.ite_kept
    | with_reducible apply State.ite1_kept | with_reducible apply State.ite2_kept
    | with_reducible refine State.dite_kept (fun _ => ?_) (fun _ => ?_) | with_reducible apply State.id_kept
    | with_reducible refine Lands.dite (fun _ => ?_) (fun _ => ?_) | dsimp only [State.kept] | split

theorem State.dropStream_kept {v_ : Kept} {s : State} (h_ : s.kept = v_) : (State.dropStream s).kept = v_ := by
  unfold State.dropStream
  repeat' first
    | with_reducible assumption | with_reducible apply State.ite_kept | dsimp only [State.kept] | split

theorem State.storePart_kept {v_ : Kept} {s : State} {it : Item} {q : Nat} {p : StreamPart} (h_ : s.kept = v_) : (State.storePart s it q p).kept = v_ := by
  unfold State.storePart
  repeat' first
    | with_reducible assumption | with_reducible apply State.hostWrite_kept | with_reducible apply State.ite_kept
    | dsimp only [State.kept] | split

theorem execStreamLine_kept {v_ : Kept} {t : Nat} {m : Ktp} {part : StreamPart} {s : State} (h_ : s.kept = v_) :
    Lands (fun x => x.kept = v_) (execStreamLine t m part s) := by
  unfold execStreamLine
  repeat' first
    | with_reducible apply Lands.next | with_reducible apply Lands.ite | with_reducible assumption
    | (refine State.sequenced_to_kept (by with_reducible assumption) (fun s h => ?_) ?_) | with_reducible apply State.begin_kkept
    | with_reducible apply State.countStale_kept | with_reducible apply State.markRx_kept
    | with_reducible apply State.dropStream_kept | with_reducible apply State.updSess_kkept
    | with_reducible apply State.storePart_kept | with_reducible apply State.ite_kept | with_reducible apply State.ite1_kept
    | with_reducible apply State.ite2_kept | with_reducible refine Lands.dite (fun _ => ?_) (fun _ => ?_)
    | dsimp only [State.kept] | split

theorem State.updProg_kept {v_ : Kept} {s : State} {handle : Nat} {h : Fin 64} {r : Fin 4} {f : RowProg → RowProg} (h_ : s.kept = v_) : (State.updProg s handle h r f).kept = v_ := by
  unfold State.updProg
  repeat' first
    | with_reducible assumption | with_reducible apply State.updItem_kkept | with_reducible apply State.ite_kept
    | dsimp only [State.kept] | split

theorem State.discardUnstarted_kept {v_ : Kept} {s : State} {hs : List (Fin 64)} (h_ : s.kept = v_) : (State.discardUnstarted s hs).kept = v_ := by
  unfold State.discardUnstarted
  repeat' first
    | with_reducible assumption | with_reducible apply State.updRow_kkept | with_reducible apply State.updItem_kkept
    | with_reducible apply State.ite_kept | with_reducible refine State.foldl_kept (fun s x h => ?_) ?_
    | dsimp only [State.kept] | split

theorem State.newSet_kept {v_ : Kept} {s : State} {z : Fin 8} {old : List (Nat × Nat)} (h_ : s.kept = v_) : (State.newSet s z old).kept = v_ := by
  unfold State.newSet
  repeat' first
    | with_reducible assumption | with_reducible apply State.updZone_kkept | with_reducible apply State.ite_kept
    | with_reducible apply State.ite1_kept | with_reducible apply State.ite2_kept | dsimp only [State.kept] | split

theorem State.parityError_kept {v_ : Kept} {s : State} {it : Item} {ch q n w : Nat} (h_ : s.kept = v_) : (State.parityError s it ch q n w).kept = v_ := by
  unfold State.parityError
  repeat' first
    | with_reducible assumption | with_reducible apply State.spoilAll_kept | with_reducible apply State.invalidate_kept
    | with_reducible apply State.ite_kept | with_reducible refine State.dite_kept (fun _ => ?_) (fun _ => ?_)
    | with_reducible apply State.id_kept | dsimp only [State.kept] | split

theorem State.tileError_kept {v_ : Kept} {s : State} {it : Item} {handle : Nat} (h_ : s.kept = v_) : (State.tileError s it handle).kept = v_ := by
  unfold State.tileError
  repeat' first
    | with_reducible assumption | with_reducible apply State.spoilAll_kept | with_reducible apply State.invalidate_kept
    | with_reducible apply State.ite_kept | with_reducible refine State.dite_kept (fun _ => ?_) (fun _ => ?_)
    | with_reducible apply State.id_kept | dsimp only [State.kept] | split

theorem State.freeStream_kept {v_ : Kept} {s : State} {h : Nat} (h_ : s.kept = v_) : (State.freeStream s h).kept = v_ := by
  unfold State.freeStream
  repeat' first
    | with_reducible assumption | with_reducible apply State.ite_kept
    | with_reducible refine State.dite_kept (fun _ => ?_) (fun _ => ?_) | with_reducible apply State.id_kept
    | dsimp only [State.kept] | split

theorem State.writeRing_kept {v_ : Kept} {s : State} {it : Item} {h : Fin 64} {r : Fin 4} {l : Nat} {m : Mapped} (h_ : s.kept = v_) : (State.writeRing s it h r l m).kept = v_ := by
  unfold State.writeRing
  repeat' first
    | with_reducible assumption | with_reducible apply State.updRow_kkept | with_reducible apply State.updProg_kept
    | with_reducible apply State.updZone_kkept | with_reducible apply State.freeStream_kept
    | with_reducible apply State.spoil_kept | with_reducible apply State.settle_kept | with_reducible apply State.ite_kept
    | with_reducible refine State.dite_kept (fun _ => ?_) (fun _ => ?_) | with_reducible apply State.id_kept
    | dsimp only [State.kept] | split

theorem State.composeRow_kept {v_ : Kept} {s : State} {h : Fin 64} {r : Fin 4} {it : Item} {l : Nat} (h_ : s.kept = v_) : (State.composeRow s h r it l).kept = v_ := by
  unfold State.composeRow
  repeat' first
    | with_reducible assumption | with_reducible apply State.writeRing_kept | with_reducible apply State.parityError_kept
    | with_reducible apply State.tileError_kept | with_reducible apply State.updProg_kept | with_reducible apply State.ite_kept
    | with_reducible refine State.dite_kept (fun _ => ?_) (fun _ => ?_) | with_reducible apply State.id_kept
    | dsimp only [State.kept] | split

theorem State.installGen_kept {v_ : Kept} {s : State} {h : Fin 64} (h_ : s.kept = v_) : (State.installGen s h).kept = v_ := by
  unfold State.installGen
  repeat' first
    | with_reducible assumption | with_reducible apply State.updHead_kkept | with_reducible apply State.discardUnstarted_kept
    | with_reducible apply State.event_kept | with_reducible apply State.ite_kept | dsimp only [State.kept] | split

theorem execGenerationInstall_kept {v_ : Kept} {t : Nat} {h : Fin 64} {s : State} (h_ : s.kept = v_) :
    Lands (fun x => x.kept = v_) (execGenerationInstall t h s) := by
  unfold execGenerationInstall
  repeat' first
    | with_reducible apply Lands.next | with_reducible apply Lands.ite | with_reducible assumption
    | with_reducible apply State.begin_kkept | with_reducible apply State.installGen_kept
    | with_reducible apply State.newSet_kept | with_reducible apply State.ite_kept | with_reducible apply State.ite1_kept
    | with_reducible apply State.ite2_kept | with_reducible refine Lands.dite (fun _ => ?_) (fun _ => ?_)
    | dsimp only [State.kept] | split

theorem State.updateLine_kept {v_ : Kept} {s : State} (h_ : s.kept = v_) : (State.updateLine s).kept = v_ := by
  unfold State.updateLine
  repeat' first
    | with_reducible assumption | with_reducible apply State.event_kept | with_reducible apply State.ite_kept
    | dsimp only [State.kept] | split

theorem State.toStandby_kept {v_ : Kept} {s : State} {z : Fin 8} (h_ : s.kept = v_) : (State.toStandby s z).kept = v_ := by
  unfold State.toStandby
  repeat' first
    | with_reducible assumption | with_reducible apply State.updZone_kkept | with_reducible apply State.ite_kept
    | dsimp only [State.kept] | split

theorem State.endFault_kept {v_ : Kept} {s : State} {z : Fin 8} {to_ : Place} (h_ : s.kept = v_) : (State.endFault s z to_).kept = v_ := by
  unfold State.endFault
  repeat' first
    | with_reducible assumption | with_reducible apply State.updZone_kkept | with_reducible apply State.stateChanged_kept
    | with_reducible apply State.updateLine_kept | with_reducible apply State.ite_kept | dsimp only [State.kept] | split

theorem State.toTracking_kept {v_ : Kept} {s : State} {z : Fin 8} (h_ : s.kept = v_) : (State.toTracking s z).kept = v_ := by
  unfold State.toTracking
  repeat' first
    | with_reducible assumption | with_reducible apply State.endFault_kept | with_reducible apply State.updZone_kkept
    | with_reducible apply State.ite_kept | dsimp only [State.kept] | split

theorem State.enterFault_kept {v_ : Kept} {s : State} {z : Fin 8} {tf : Nat} (h_ : s.kept = v_) : (State.enterFault s z tf).kept = v_ := by
  unfold State.enterFault
  repeat' first
    | with_reducible assumption | with_reducible apply State.updZone_kkept | with_reducible apply State.event_kept
    | with_reducible apply State.withdrawZone_kept | with_reducible apply State.spoil_kept
    | with_reducible apply State.updateLine_kept | with_reducible apply State.ite_kept
    | with_reducible refine State.foldl_kept (fun s x h => ?_) ?_ | dsimp only [State.kept] | split

theorem State.faultPasses_kept {v_ : Kept} {s : State} {z : Fin 8} (h_ : s.kept = v_) : (State.faultPasses s z).kept = v_ := by
  unfold State.faultPasses
  repeat' first
    | with_reducible assumption | (with_reducible refine State.atTick_kept (fun s h => ?_) ?_)
    | with_reducible apply State.spoil_kept | with_reducible apply State.ite_kept
    | with_reducible refine State.foldl_kept (fun s x h => ?_) ?_ | dsimp only [State.kept] | split

theorem State.suspend_kept {v_ : Kept} {s : State} {z : Fin 8} (h_ : s.kept = v_) : (State.suspend s z).kept = v_ := by
  unfold State.suspend
  repeat' first
    | with_reducible assumption | with_reducible apply State.updZone_kkept | with_reducible apply State.event_kept
    | with_reducible apply State.withdrawZone_kept | with_reducible apply State.updItem_kkept
    | with_reducible apply State.spoilZone_kept | with_reducible apply State.ite_kept
    | with_reducible refine State.foldl_kept (fun s x h => ?_) ?_ | dsimp only [State.kept] | split

theorem State.edgesAllow_kept {v_ : Kept} {s : State} {z : Fin 8} (h_ : s.kept = v_) : (State.edgesAllow s z).kept = v_ := by
  unfold State.edgesAllow
  repeat' first
    | with_reducible assumption | with_reducible apply State.toTracking_kept | with_reducible apply State.ite_kept
    | dsimp only [State.kept] | split

theorem State.processEdge_kept {v_ : Kept} {s : State} {z : Fin 8} {cnt : Rat} {t : Nat} (h_ : s.kept = v_) : (State.processEdge s z cnt t).kept = v_ := by
  unfold State.processEdge
  repeat' first
    | with_reducible assumption | with_reducible apply State.faultPasses_kept | with_reducible apply State.updZone_kkept
    | with_reducible apply State.edgesAllow_kept | with_reducible apply State.enterFault_kept
    | with_reducible apply State.ite_kept | with_reducible refine State.dite_kept (fun _ => ?_) (fun _ => ?_)
    | with_reducible apply State.id_kept | dsimp only [State.kept] | split

theorem State.processHeld_kept {v_ : Kept} {s : State} {z : Fin 8} {now : Nat} (h_ : s.kept = v_) : (State.processHeld s z now).kept = v_ := by
  unfold State.processHeld
  repeat' first
    | with_reducible assumption | with_reducible apply State.processEdge_kept | with_reducible apply State.ite_kept
    | dsimp only [State.kept] | split

theorem State.edge_kept {v_ : Kept} {s : State} {z : Fin 8} {cnt : Rat} {t : Nat} (h_ : s.kept = v_) : (State.edge s z cnt t).kept = v_ := by
  unfold State.edge
  repeat' first
    | with_reducible assumption | with_reducible apply State.processHeld_kept | with_reducible apply State.updZone_kkept
    | with_reducible apply State.processEdge_kept | with_reducible apply State.ite_kept | dsimp only [State.kept] | split

theorem State.carriage_kept {v_ : Kept} {s : State} {z : Fin 8} {was : Option Rat} (h_ : s.kept = v_) : (State.carriage s z was).kept = v_ := by
  unfold State.carriage
  repeat' first
    | with_reducible assumption | with_reducible apply State.spoil_kept | with_reducible apply State.ite_kept
    | dsimp only [State.kept] | split

theorem State.holdRelease_kept {v_ : Kept} {s : State} {z : Fin 8} (h_ : s.kept = v_) : (State.holdRelease s z).kept = v_ := by
  unfold State.holdRelease
  repeat' first
    | with_reducible assumption | with_reducible apply State.releaseHold_kept | with_reducible apply State.ite_kept
    | dsimp only [State.kept] | split

theorem State.afterCount_kept {v_ : Kept} {s : State} {z : Fin 8} {was : Option Rat} {oldH : Rat} (h_ : s.kept = v_) : (State.afterCount s z was oldH).kept = v_ := by
  unfold State.afterCount
  repeat' first
    | with_reducible assumption | with_reducible apply State.suspend_kept | with_reducible apply State.toTracking_kept
    | with_reducible apply State.carriage_kept | with_reducible apply State.holdRelease_kept
    | with_reducible apply State.settle_kept | with_reducible apply State.ite_kept | dsimp only [State.kept] | split

theorem State.recordMarks_kept {v_ : Kept} {s : State} {z : Fin 8} (h_ : s.kept = v_) : (State.recordMarks s z).kept = v_ := by
  unfold State.recordMarks
  repeat' first
    | with_reducible assumption | with_reducible apply State.ite_kept
    | with_reducible refine State.dite_kept (fun _ => ?_) (fun _ => ?_) | with_reducible apply State.id_kept
    | dsimp only [State.kept] | split

theorem State.onCount_kept {v_ : Kept} {s : State} {z : Fin 8} {pos : Rat} {stamp : Nat} (h_ : s.kept = v_) : (State.onCount s z pos stamp).kept = v_ := by
  unfold State.onCount
  repeat' first
    | with_reducible assumption | with_reducible apply State.updZone_kkept | with_reducible apply State.recordMarks_kept
    | with_reducible apply State.settle_kept | with_reducible apply State.edge_kept | with_reducible apply State.afterCount_kept
    | with_reducible apply State.ite_kept | dsimp only [State.kept] | split

theorem State.beginHold_kept {v_ : Kept} {s : State} {z : Fin 8} {items : List Nat} (h_ : s.kept = v_) : (State.beginHold s z items).kept = v_ := by
  unfold State.beginHold
  repeat' first
    | with_reducible assumption | with_reducible apply State.updZone_kkept | with_reducible apply State.updGate_kkept
    | with_reducible apply State.gateOut_kept | with_reducible apply State.event_kept | with_reducible apply State.ite_kept
    | dsimp only [State.kept] | split

theorem State.loseSource_kept {v_ : Kept} {s : State} {z : Fin 8} {loc : Nat} (h_ : s.kept = v_) : (State.loseSource s z loc).kept = v_ := by
  unfold State.loseSource
  repeat' first
    | with_reducible assumption | with_reducible apply State.faultPasses_kept | with_reducible apply State.updZone_kkept
    | with_reducible apply State.withdrawZone_kept | with_reducible apply State.spoilZone_kept
    | with_reducible apply State.updateLine_kept | with_reducible apply State.beginHold_kept
    | with_reducible apply State.settle_kept | with_reducible apply State.ite_kept | dsimp only [State.kept] | split

theorem State.gainSource_kept {v_ : Kept} {s : State} {z : Fin 8} (h_ : s.kept = v_) : (State.gainSource s z).kept = v_ := by
  unfold State.gainSource
  repeat' first
    | with_reducible assumption | with_reducible apply State.updZone_kkept | with_reducible apply State.holdRelease_kept
    | with_reducible apply State.settle_kept | with_reducible apply State.ite_kept | dsimp only [State.kept] | split

theorem State.endLate_kept {v_ : Kept} {s : State} (h_ : s.kept = v_) : (State.endLate s).kept = v_ := by
  unfold State.endLate
  repeat' first
    | with_reducible assumption | with_reducible apply State.ite_kept | dsimp only [State.kept] | split

theorem State.checkSources_kept {v_ : Kept} {s : State} (h_ : s.kept = v_) : (State.checkSources s).kept = v_ := by
  unfold State.checkSources
  repeat' first
    | with_reducible assumption | with_reducible apply State.gainSource_kept | with_reducible apply State.loseSource_kept
    | with_reducible apply State.endLate_kept | with_reducible apply State.ite_kept
    | with_reducible refine State.foldl_kept (fun s x h => ?_) ?_
    | with_reducible refine State.dite_kept (fun _ => ?_) (fun _ => ?_) | with_reducible apply State.id_kept
    | dsimp only [State.kept] | split

theorem State.chanUpdate_kept {v_ : Kept} {s : State} {c : Fin 8} {stamp : Nat} (h_ : s.kept = v_) : (State.chanUpdate s c stamp).kept = v_ := by
  unfold State.chanUpdate
  repeat' first
    | with_reducible assumption | with_reducible apply State.onCount_kept | with_reducible apply State.ite_kept
    | with_reducible refine State.foldl_kept (fun s x h => ?_) ?_
    | with_reducible refine State.dite_kept (fun _ => ?_) (fun _ => ?_) | with_reducible apply State.id_kept
    | dsimp only [State.kept] | split

theorem execHeldEdgeProcess_kept {v_ : Kept} {t : Nat} {z : Fin 8} {s : State} (h_ : s.kept = v_) :
    Lands (fun x => x.kept = v_) (execHeldEdgeProcess t z s) := by
  unfold execHeldEdgeProcess
  repeat' first
    | with_reducible apply Lands.next | with_reducible apply Lands.ite | with_reducible assumption
    | with_reducible apply State.begin_kkept | with_reducible apply State.processHeld_kept
    | with_reducible apply State.afterCount_kept | with_reducible apply State.ite_kept | with_reducible apply State.ite1_kept
    | with_reducible apply State.ite2_kept | with_reducible refine Lands.dite (fun _ => ?_) (fun _ => ?_)
    | dsimp only [State.kept] | split

theorem execEdgeTimeout_kept {v_ : Kept} {t : Nat} {z : Fin 8} {s : State} (h_ : s.kept = v_) :
    Lands (fun x => x.kept = v_) (execEdgeTimeout t z s) := by
  unfold execEdgeTimeout
  repeat' first
    | with_reducible apply Lands.next | with_reducible apply Lands.ite | with_reducible assumption
    | with_reducible apply State.begin_kkept | with_reducible apply State.toStandby_kept
    | with_reducible apply State.withdrawZone_kept | with_reducible apply State.faultPasses_kept
    | with_reducible apply State.endFault_kept | with_reducible apply State.ite_kept | with_reducible apply State.ite1_kept
    | with_reducible apply State.ite2_kept | with_reducible refine Lands.dite (fun _ => ?_) (fun _ => ?_)
    | dsimp only [State.kept] | split

theorem State.passLine_kept {v_ : Kept} {s : State} {it : Item} {h : Fin 64} {r : Fin 4} {rest : Bool} (h_ : s.kept = v_) : (State.passLine s it h r rest).kept = v_ := by
  unfold State.passLine
  repeat' first
    | with_reducible assumption | with_reducible apply State.updItem_kkept | with_reducible apply State.updRow_kkept
    | with_reducible apply State.updProg_kept | with_reducible apply State.ite_kept
    | with_reducible refine State.dite_kept (fun _ => ?_) (fun _ => ?_) | with_reducible apply State.id_kept
    | dsimp only [State.kept] | split

theorem State.bermLoss_kept {v_ : Kept} {s : State} {it : Item} {h : Fin 64} {r : Fin 4} {l : Nat} (h_ : s.kept = v_) : (State.bermLoss s it h r l).kept = v_ := by
  unfold State.bermLoss
  repeat' first
    | with_reducible assumption | with_reducible apply State.spoil_kept | with_reducible apply State.passLine_kept
    | with_reducible apply State.ite_kept | dsimp only [State.kept] | split

theorem State.countSpill_kept {v_ : Kept} {s : State} {before after : Option Outcome} {z : Fin 8} (h_ : s.kept = v_) : (State.countSpill s before after z).kept = v_ := by
  unfold State.countSpill
  repeat' first
    | with_reducible assumption | with_reducible apply State.updZone_kkept | with_reducible apply State.ite_kept
    | dsimp only [State.kept] | split

theorem State.spillLine_kept {v_ : Kept} {s : State} {it : Item} {h : Fin 64} {r : Fin 4} {l : Nat} (h_ : s.kept = v_) : (State.spillLine s it h r l).kept = v_ := by
  unfold State.spillLine
  repeat' first
    | with_reducible assumption | with_reducible apply State.passLine_kept | with_reducible apply State.spoil_kept
    | with_reducible apply State.countSpill_kept | with_reducible apply State.ite_kept
    | with_reducible refine State.dite_kept (fun _ => ?_) (fun _ => ?_) | with_reducible apply State.id_kept
    | dsimp only [State.kept] | split

theorem State.startItem_kept {v_ : Kept} {s : State} {it : Item} (h_ : s.kept = v_) : (State.startItem s it).kept = v_ := by
  unfold State.startItem
  repeat' first
    | with_reducible assumption | with_reducible apply State.updItem_kkept | with_reducible apply State.freeStream_kept
    | with_reducible apply State.ite_kept | dsimp only [State.kept] | split

theorem State.stampLine_kept {v_ : Kept} {s : State} {it : Item} {h : Fin 64} {r : Fin 4} {l fire : Nat} {f : Int} (h_ : s.kept = v_) : (State.stampLine s it h r l fire f).kept = v_ := by
  unfold State.stampLine
  repeat' first
    | with_reducible assumption | with_reducible apply State.startItem_kept | with_reducible apply State.updZone_kkept
    | with_reducible apply State.updRow_kkept | with_reducible apply State.updProg_kept | with_reducible apply State.updItem_kkept
    | with_reducible apply State.spoil_kept | with_reducible apply State.ite_kept
    | with_reducible refine State.dite_kept (fun _ => ?_) (fun _ => ?_) | with_reducible apply State.id_kept
    | dsimp only [State.kept] | split

theorem State.withdrawMoved_kept {v_ : Kept} {s : State} (h_ : s.kept = v_) : (State.withdrawMoved s).kept = v_ := by
  unfold State.withdrawMoved
  repeat' first
    | with_reducible assumption | with_reducible apply State.withdrawRow_kept | with_reducible apply State.ite_kept
    | with_reducible refine State.foldl_kept (fun s x h => ?_) ?_ | dsimp only [State.kept] | split

theorem State.actLoss_kept {v_ : Kept} {s : State} {c : Cand} (h_ : s.kept = v_) : (State.actLoss s c).kept = v_ := by
  unfold State.actLoss
  repeat' first
    | with_reducible assumption | with_reducible apply State.bermLoss_kept | with_reducible apply State.spillLine_kept
    | with_reducible apply State.passLine_kept | with_reducible apply State.ite_kept | dsimp only [State.kept] | split

theorem State.actStamp_kept {v_ : Kept} {s : State} {c : Cand} (h_ : s.kept = v_) : (State.actStamp s c).kept = v_ := by
  unfold State.actStamp
  repeat' first
    | with_reducible assumption | with_reducible apply State.stampLine_kept | with_reducible apply State.ite_kept
    | dsimp only [State.kept] | split

theorem State.putSags_kept {v_ : Kept} {s : State} {n : Nat} (h_ : s.kept = v_) : (State.putSags s n).kept = v_ := by
  unfold State.putSags
  repeat' first
    | with_reducible assumption | with_reducible apply State.updRow_kkept | with_reducible apply State.ite_kept
    | with_reducible refine State.foldl_kept (fun s x h => ?_) ?_ | dsimp only [State.kept] | split

theorem State.clearRings_kept {v_ : Kept} {s : State} (h_ : s.kept = v_) : (State.clearRings s).kept = v_ := by
  unfold State.clearRings
  repeat' first
    | with_reducible assumption | with_reducible apply State.updRow_kkept | with_reducible apply State.ite_kept
    | with_reducible refine State.foldl_kept (fun s x h => ?_) ?_
    | with_reducible refine State.dite_kept (fun _ => ?_) (fun _ => ?_) | with_reducible apply State.id_kept
    | dsimp only [State.kept] | split

theorem execFrameBuildEvaluation_kept {v_ : Kept} {t : Nat} {s : State} (h_ : s.kept = v_) :
    Lands (fun x => x.kept = v_) (execFrameBuildEvaluation t s) := by
  unfold execFrameBuildEvaluation
  repeat' first
    | with_reducible apply Lands.next | with_reducible apply Lands.ite | with_reducible assumption
    | with_reducible apply State.begin_kkept | with_reducible apply State.withdrawMoved_kept
    | with_reducible apply State.faultPasses_kept | with_reducible apply State.clearRings_kept
    | with_reducible apply State.actLoss_kept | with_reducible apply State.actStamp_kept
    | with_reducible apply State.putSags_kept | with_reducible apply State.settle_kept | with_reducible apply State.ite_kept
    | with_reducible refine State.foldl_kept (fun s x h => ?_) ?_ | with_reducible apply State.ite1_kept
    | with_reducible apply State.ite2_kept | with_reducible refine State.dite_kept (fun _ => ?_) (fun _ => ?_)
    | with_reducible apply State.id_kept | with_reducible refine Lands.dite (fun _ => ?_) (fun _ => ?_)
    | dsimp only [State.kept] | split

theorem execCancelSend_kept {v_ : Kept} {t : Nat} {h : Fin 64} {row : Fin 4} {s : State} (h_ : s.kept = v_) :
    Lands (fun x => x.kept = v_) (execCancelSend t h row s) := by
  unfold execCancelSend
  repeat' first
    | with_reducible apply Lands.next | with_reducible apply Lands.ite | with_reducible assumption
    | with_reducible apply State.begin_kkept | with_reducible apply State.updRow_kkept | with_reducible apply State.timed_kept
    | with_reducible apply State.ite_kept | with_reducible apply State.ite1_kept | with_reducible apply State.ite2_kept
    | with_reducible refine Lands.dite (fun _ => ?_) (fun _ => ?_) | dsimp only [State.kept] | split

theorem execTraverseArm_kept {v_ : Kept} {t : Nat} {z : Fin 8} {s : State} (h_ : s.kept = v_) :
    Lands (fun x => x.kept = v_) (execTraverseArm t z s) := by
  unfold execTraverseArm
  repeat' first
    | with_reducible apply Lands.next | with_reducible apply Lands.ite | with_reducible assumption
    | with_reducible apply State.begin_kkept | with_reducible apply State.armTraverse_kept | with_reducible apply State.ite_kept
    | with_reducible refine State.foldl_kept (fun s x h => ?_) ?_ | with_reducible apply State.ite1_kept
    | with_reducible apply State.ite2_kept | with_reducible refine Lands.dite (fun _ => ?_) (fun _ => ?_)
    | dsimp only [State.kept] | split

theorem execTraverseEnd_kept {v_ : Kept} {t : Nat} {z : Fin 8} {s : State} (h_ : s.kept = v_) :
    Lands (fun x => x.kept = v_) (execTraverseEnd t z s) := by
  unfold execTraverseEnd
  repeat' first
    | with_reducible apply Lands.next | with_reducible apply Lands.ite | with_reducible assumption
    | with_reducible apply State.begin_kkept | with_reducible apply State.updItem_kkept | with_reducible apply State.updZone_kkept
    | with_reducible apply State.settle_kept | with_reducible apply State.ite_kept | with_reducible apply State.ite1_kept
    | with_reducible apply State.ite2_kept | with_reducible refine Lands.dite (fun _ => ?_) (fun _ => ?_)
    | dsimp only [State.kept] | split

theorem execAlignmentPattern_kept {v_ : Kept} {t : Nat} {k : Kop} {z : Fin 8} {cmd : Nat} {s : State} (h_ : s.kept = v_) :
    Lands (fun x => x.kept = v_) (execAlignmentPattern t k z cmd s) := by
  unfold execAlignmentPattern
  repeat' first
    | with_reducible apply Lands.next | with_reducible apply Lands.ite | with_reducible assumption
    | (with_reducible refine State.command_kept (fun s w h => ?_) ?_) | with_reducible apply State.begin_kkept
    | with_reducible apply State.refuse_kept | with_reducible apply State.refuseSlot_kept
    | with_reducible apply State.updZone_kkept | with_reducible apply State.takeSlot_kept | with_reducible apply State.ite_kept
    | with_reducible apply State.ite1_kept | with_reducible apply State.ite2_kept
    | (refine State.takeSlot_to_kept (by with_reducible assumption) ?_)
    | with_reducible refine State.dite_kept (fun _ => ?_) (fun _ => ?_) | with_reducible apply State.id_kept
    | with_reducible refine Lands.dite (fun _ => ?_) (fun _ => ?_) | dsimp only [State.kept] | split

theorem State.setChain_kept {v_ : Kept} {s : State} {c : Fin 16} {st : ChainState} (h_ : s.kept = v_) : (State.setChain s c st).kept = v_ := by
  unfold State.setChain
  repeat' first
    | with_reducible assumption | with_reducible apply State.updChain_kkept | with_reducible apply State.stateChanged_kept
    | with_reducible apply State.ite_kept | dsimp only [State.kept] | split

theorem State.gateTo_kept {v_ : Kept} {s : State} {c : Fin 16} {on : Bool} (h_ : s.kept = v_) : (State.gateTo s c on).kept = v_ := by
  unfold State.gateTo
  repeat' first
    | with_reducible assumption | with_reducible apply State.updChain_kkept | with_reducible apply State.emit_kkept
    | with_reducible apply State.ite_kept | dsimp only [State.kept] | split

theorem State.supplyDown_kept {v_ : Kept} {s : State} {c : Fin 16} {loc : Nat} (h_ : s.kept = v_) : (State.supplyDown s c loc).kept = v_ := by
  unfold State.supplyDown
  repeat' first
    | with_reducible assumption | with_reducible apply State.withdrawHead_kept | with_reducible apply State.spoilHeads_kept
    | with_reducible apply State.settle_kept | with_reducible apply State.ite_kept
    | with_reducible refine State.foldl_kept (fun s x h => ?_) ?_ | dsimp only [State.kept] | split

theorem State.tripChain_kept {v_ : Kept} {s : State} {c : Fin 16} {cause die : Nat} (h_ : s.kept = v_) : (State.tripChain s c cause die).kept = v_ := by
  unfold State.tripChain
  repeat' first
    | with_reducible assumption | with_reducible apply State.gateTo_kept | with_reducible apply State.updChain_kkept
    | with_reducible apply State.event_kept | with_reducible apply State.supplyDown_kept | with_reducible apply State.ite_kept
    | dsimp only [State.kept] | split

theorem State.faultChain_kept {v_ : Kept} {s : State} {c : Fin 16} (h_ : s.kept = v_) : (State.faultChain s c).kept = v_ := by
  unfold State.faultChain
  repeat' first
    | with_reducible assumption | with_reducible apply State.updChain_kkept | with_reducible apply State.faultEvent_kept
    | with_reducible apply State.supplyDown_kept | with_reducible apply State.ite_kept | dsimp only [State.kept] | split

theorem State.takeSample_kept {v_ : Kept} {s : State} {c : Fin 16} {mv : Nat} {ma : Int} (h_ : s.kept = v_) : (State.takeSample s c mv ma).kept = v_ := by
  unfold State.takeSample
  repeat' first
    | with_reducible assumption | with_reducible apply State.updChain_kkept | with_reducible apply State.ite_kept
    | with_reducible refine State.dite_kept (fun _ => ?_) (fun _ => ?_) | with_reducible apply State.id_kept
    | dsimp only [State.kept] | split

theorem State.driveGate_kept {v_ : Kept} {s : State} {c : Fin 16} (h_ : s.kept = v_) : (State.driveGate s c).kept = v_ := by
  unfold State.driveGate
  repeat' first
    | with_reducible assumption | with_reducible apply State.updChain_kkept | with_reducible apply State.emit_kkept
    | with_reducible apply State.ite_kept | dsimp only [State.kept] | split

theorem State.sampleStep_kept {v_ : Kept} {s : State} {c : Fin 16} (h_ : s.kept = v_) : (State.sampleStep s c).kept = v_ := by
  unfold State.sampleStep
  repeat' first
    | with_reducible assumption | with_reducible apply State.tripChain_kept | with_reducible apply State.setChain_kept
    | with_reducible apply State.faultChain_kept | with_reducible apply State.ite_kept | dsimp only [State.kept] | split

theorem State.sendSupply_kept {v_ : Kept} {s : State} {c : Fin 16} {mv : Nat} (h_ : s.kept = v_) : (State.sendSupply s c mv).kept = v_ := by
  unfold State.sendSupply
  repeat' first
    | with_reducible assumption | with_reducible apply State.updChain_kkept | with_reducible apply State.timed_kept
    | with_reducible apply State.ite_kept | with_reducible apply State.ite1_kept | with_reducible apply State.ite2_kept
    | with_reducible refine State.dite_kept (fun _ => ?_) (fun _ => ?_) | with_reducible apply State.id_kept
    | dsimp only [State.kept] | split

theorem execVphSample_kept {v_ : Kept} {t : Nat} {c : Fin 16} {mv : Nat} {sense : Int} {s : State} (h_ : s.kept = v_) :
    Lands (fun x => x.kept = v_) (execVphSample t c mv sense s) := by
  unfold execVphSample
  repeat' first
    | with_reducible apply Lands.next | with_reducible apply Lands.ite | with_reducible assumption
    | with_reducible apply State.begin_kkept | with_reducible apply State.takeSample_kept
    | with_reducible apply State.sampleStep_kept | with_reducible apply State.driveGate_kept
    | with_reducible apply State.sendSupply_kept | with_reducible apply State.ite_kept | with_reducible apply State.ite1_kept
    | with_reducible apply State.ite2_kept | with_reducible refine Lands.dite (fun _ => ?_) (fun _ => ?_)
    | dsimp only [State.kept] | split

theorem execVphSampleTimeout_kept {v_ : Kept} {t : Nat} {c : Fin 16} {s : State} (h_ : s.kept = v_) :
    Lands (fun x => x.kept = v_) (execVphSampleTimeout t c s) := by
  unfold execVphSampleTimeout
  repeat' first
    | with_reducible apply Lands.next | with_reducible apply Lands.ite | with_reducible assumption
    | with_reducible apply State.begin_kkept | with_reducible apply State.faultChain_kept | with_reducible apply State.ite_kept
    | with_reducible apply State.ite1_kept | with_reducible apply State.ite2_kept
    | with_reducible refine Lands.dite (fun _ => ?_) (fun _ => ?_) | dsimp only [State.kept] | split

theorem execSourceResistanceEstimate_kept {v_ : Kept} {t : Nat} {c : Fin 16} {s : State} (h_ : s.kept = v_) :
    Lands (fun x => x.kept = v_) (execSourceResistanceEstimate t c s) := by
  unfold execSourceResistanceEstimate
  repeat' first
    | with_reducible apply Lands.next | with_reducible apply Lands.ite | with_reducible assumption
    | with_reducible apply State.begin_kkept | with_reducible apply State.updChain_kkept
    | with_reducible apply State.faultEvent_kept | with_reducible apply State.ite_kept | with_reducible apply State.ite1_kept
    | with_reducible apply State.ite2_kept | with_reducible refine Lands.dite (fun _ => ?_) (fun _ => ?_)
    | dsimp only [State.kept] | split

theorem State.supplyOn_kept {v_ : Kept} {s : State} {c : Fin 16} (h_ : s.kept = v_) : (State.supplyOn s c).1.kept = v_ := by
  unfold State.supplyOn
  repeat' first
    | with_reducible assumption | with_reducible apply State.refuse_kept | with_reducible apply State.updChain_kkept
    | with_reducible apply State.ite_kept | with_reducible apply State.ite1_kept | with_reducible apply State.ite2_kept
    | dsimp only [State.kept] | split
theorem State.supplyOn_to_kept {v_ : Kept} {s : State} {c : Fin 16} {r_ : State × CmdRes} (e_ : State.supplyOn s c = r_) (h_ : s.kept = v_) : r_.1.kept = v_ := by
  rw [← e_]; exact State.supplyOn_kept h_

theorem State.supplyOff_kept {v_ : Kept} {s : State} {c : Fin 16} (h_ : s.kept = v_) : (State.supplyOff s c).kept = v_ := by
  unfold State.supplyOff
  repeat' first
    | with_reducible assumption | with_reducible apply State.updChain_kkept | with_reducible apply State.gateTo_kept
    | with_reducible apply State.supplyDown_kept | with_reducible apply State.ite_kept | dsimp only [State.kept] | split

theorem State.supplyReset_kept {v_ : Kept} {s : State} {c : Fin 16} (h_ : s.kept = v_) : (State.supplyReset s c).kept = v_ := by
  unfold State.supplyReset
  repeat' first
    | with_reducible assumption | with_reducible apply State.setChain_kept | with_reducible apply State.ite_kept
    | dsimp only [State.kept] | split

theorem execSupplyOn_kept {v_ : Kept} {t : Nat} {k : Kop} {c : Fin 16} {s : State} (h_ : s.kept = v_) :
    Lands (fun x => x.kept = v_) (execSupplyOn t k c s) := by
  unfold execSupplyOn
  repeat' first
    | with_reducible apply Lands.next | with_reducible apply Lands.ite | with_reducible assumption
    | (with_reducible refine State.command_kept (fun s w h => ?_) ?_) | with_reducible apply State.begin_kkept
    | with_reducible apply State.supplyOn_kept | with_reducible apply State.ite_kept | with_reducible apply State.ite1_kept
    | with_reducible apply State.ite2_kept | (refine State.supplyOn_to_kept (by with_reducible assumption) ?_)
    | with_reducible refine Lands.dite (fun _ => ?_) (fun _ => ?_) | dsimp only [State.kept] | split

theorem execSupplyOff_kept {v_ : Kept} {t : Nat} {k : Kop} {c : Fin 16} {s : State} (h_ : s.kept = v_) :
    Lands (fun x => x.kept = v_) (execSupplyOff t k c s) := by
  unfold execSupplyOff
  repeat' first
    | with_reducible apply Lands.next | with_reducible apply Lands.ite | with_reducible assumption
    | (with_reducible refine State.command_kept (fun s w h => ?_) ?_) | with_reducible apply State.begin_kkept
    | with_reducible apply State.supplyOff_kept | with_reducible apply State.ite_kept | with_reducible apply State.ite1_kept
    | with_reducible apply State.ite2_kept | with_reducible refine Lands.dite (fun _ => ?_) (fun _ => ?_)
    | dsimp only [State.kept] | split

theorem execChainSupplyReset_kept {v_ : Kept} {t : Nat} {k : Kop} {c : Fin 16} {s : State} (h_ : s.kept = v_) :
    Lands (fun x => x.kept = v_) (execChainSupplyReset t k c s) := by
  unfold execChainSupplyReset
  repeat' first
    | with_reducible apply Lands.next | with_reducible apply Lands.ite | with_reducible assumption
    | (with_reducible refine State.command_kept (fun s w h => ?_) ?_) | with_reducible apply State.begin_kkept
    | with_reducible apply State.supplyReset_kept | with_reducible apply State.ite_kept | with_reducible apply State.ite1_kept
    | with_reducible apply State.ite2_kept | with_reducible refine Lands.dite (fun _ => ?_) (fun _ => ?_)
    | dsimp only [State.kept] | split

theorem execSupplyRampStart_kept {v_ : Kept} {t : Nat} {c : Fin 16} {s : State} (h_ : s.kept = v_) :
    Lands (fun x => x.kept = v_) (execSupplyRampStart t c s) := by
  unfold execSupplyRampStart
  repeat' first
    | with_reducible apply Lands.next | with_reducible apply Lands.ite | with_reducible assumption
    | with_reducible apply State.begin_kkept | with_reducible apply State.updChain_kkept | with_reducible apply State.gateTo_kept
    | with_reducible apply State.ite_kept | with_reducible apply State.ite1_kept | with_reducible apply State.ite2_kept
    | with_reducible refine Lands.dite (fun _ => ?_) (fun _ => ?_) | dsimp only [State.kept] | split

theorem execRampTimeout_kept {v_ : Kept} {t : Nat} {c : Fin 16} {s : State} (h_ : s.kept = v_) :
    Lands (fun x => x.kept = v_) (execRampTimeout t c s) := by
  unfold execRampTimeout
  repeat' first
    | with_reducible apply Lands.next | with_reducible apply Lands.ite | with_reducible assumption
    | with_reducible apply State.begin_kkept | with_reducible apply State.tripChain_kept | with_reducible apply State.ite_kept
    | with_reducible apply State.ite1_kept | with_reducible apply State.ite2_kept
    | with_reducible refine Lands.dite (fun _ => ?_) (fun _ => ?_) | dsimp only [State.kept] | split

theorem execInrushTimeout_kept {v_ : Kept} {t : Nat} {c : Fin 16} {s : State} (h_ : s.kept = v_) :
    Lands (fun x => x.kept = v_) (execInrushTimeout t c s) := by
  unfold execInrushTimeout
  repeat' first
    | with_reducible apply Lands.next | with_reducible apply Lands.ite | with_reducible assumption
    | with_reducible apply State.begin_kkept | with_reducible apply State.tripChain_kept | with_reducible apply State.ite_kept
    | with_reducible apply State.ite1_kept | with_reducible apply State.ite2_kept
    | with_reducible refine Lands.dite (fun _ => ?_) (fun _ => ?_) | dsimp only [State.kept] | split

theorem execSwitchLeak_kept {v_ : Kept} {t : Nat} {c : Fin 16} {s : State} (h_ : s.kept = v_) :
    Lands (fun x => x.kept = v_) (execSwitchLeak t c s) := by
  unfold execSwitchLeak
  repeat' first
    | with_reducible apply Lands.next | with_reducible apply Lands.ite | with_reducible assumption
    | with_reducible apply State.begin_kkept | with_reducible apply State.tripChain_kept | with_reducible apply State.ite_kept
    | with_reducible apply State.ite1_kept | with_reducible apply State.ite2_kept
    | with_reducible refine Lands.dite (fun _ => ?_) (fun _ => ?_) | dsimp only [State.kept] | split

theorem execHvDieLoss_kept {v_ : Kept} {t : Nat} {die : Fin 2} {s : State} (h_ : s.kept = v_) :
    Lands (fun x => x.kept = v_) (execHvDieLoss t die s) := by
  unfold execHvDieLoss
  repeat' first
    | with_reducible apply Lands.next | with_reducible apply Lands.ite | with_reducible assumption
    | with_reducible apply State.begin_kkept | with_reducible apply State.tripChain_kept | with_reducible apply State.ite_kept
    | with_reducible refine State.foldl_kept (fun s x h => ?_) ?_ | with_reducible apply State.ite1_kept
    | with_reducible apply State.ite2_kept | with_reducible refine Lands.dite (fun _ => ?_) (fun _ => ?_)
    | dsimp only [State.kept] | split

theorem State.updLane_kkept {v_ : Kept} {s : State} {l : Fin 16} {f : LaneCal → LaneCal} (h_ : s.kept = v_) : (s.updLane l f).kept = v_ := h_

theorem State.markReqs_kept {v_ : Kept} {s : State} {kind target : Nat} {result : Nat} (h_ : s.kept = v_) : (State.markReqs s kind target result).kept = v_ := by
  unfold State.markReqs
  repeat' first
    | with_reducible assumption | with_reducible apply State.ite_kept | dsimp only [State.kept] | split

theorem State.addDue_kept {v_ : Kept} {s : State} {kind target : Nat} {write : Option Nat} {auto : Bool} (h_ : s.kept = v_) : (State.addDue s kind target write auto).kept = v_ := by
  unfold State.addDue
  repeat' first
    | with_reducible assumption | with_reducible apply State.ite_kept | dsimp only [State.kept] | split

theorem State.dropDue_kept {v_ : Kept} {s : State} {kind target : Nat} (h_ : s.kept = v_) : (State.dropDue s kind target).kept = v_ := by
  unfold State.dropDue
  repeat' first
    | with_reducible assumption | with_reducible apply State.ite_kept | dsimp only [State.kept] | split

theorem State.unAuto_kept {v_ : Kept} {s : State} {kind target : Nat} (h_ : s.kept = v_) : (State.unAuto s kind target).kept = v_ := by
  unfold State.unAuto
  repeat' first
    | with_reducible assumption | with_reducible apply State.ite_kept | dsimp only [State.kept] | split

theorem State.pruneDue_kept {v_ : Kept} {s : State} {kind target : Nat} (h_ : s.kept = v_) : (State.pruneDue s kind target).kept = v_ := by
  unfold State.pruneDue
  repeat' first
    | with_reducible assumption | (with_reducible refine State.write_kept (fun s w h => ?_) ?_)
    | with_reducible apply State.ite_kept | dsimp only [State.kept] | split

theorem State.endLane_kept {v_ : Kept} {s : State} {l : Fin 16} {result : Nat} (h_ : s.kept = v_) : (State.endLane s l result).kept = v_ := by
  unfold State.endLane
  repeat' first
    | with_reducible assumption | with_reducible apply State.idleFree_kept | with_reducible apply State.updLane_kkept
    | with_reducible apply State.markReqs_kept | with_reducible apply State.openFree_kept | with_reducible apply State.ite_kept
    | with_reducible refine State.dite_kept (fun _ => ?_) (fun _ => ?_) | with_reducible apply State.id_kept
    | dsimp only [State.kept] | split

theorem State.abandonLane_kept {v_ : Kept} {s : State} {l : Fin 16} (h_ : s.kept = v_) : (State.abandonLane s l).kept = v_ := by
  unfold State.abandonLane
  repeat' first
    | with_reducible assumption | with_reducible apply State.endLane_kept | with_reducible apply State.ite_kept
    | dsimp only [State.kept] | split

theorem State.disturbRun_kept {v_ : Kept} {s : State} {l : Fin 16} {logical : Nat} (h_ : s.kept = v_) : (State.disturbRun s l logical).kept = v_ := by
  unfold State.disturbRun
  repeat' first
    | with_reducible assumption | with_reducible apply State.updLane_kkept | with_reducible apply State.ite_kept
    | dsimp only [State.kept] | split

theorem State.adapted_kept {v_ : Kept} {s : State} {l : Fin 16} (h_ : s.kept = v_) : (State.adapted s l).kept = v_ := by
  unfold State.adapted
  repeat' first
    | with_reducible assumption | with_reducible apply State.oput_kkept | with_reducible apply State.updLane_kkept
    | with_reducible apply State.ite_kept | dsimp only [State.kept] | split

theorem State.placeFrame_kept {v_ : Kept} {s : State} {l : Fin 16} {ws : List Nat} {line : List (Fin 64 × Fin 4 × Nat × Nat)} {ctl : List Nat} (h_ : s.kept = v_) : (State.placeFrame s l ws line ctl).1.kept = v_ := by
  unfold State.placeFrame
  repeat' first
    | with_reducible assumption | with_reducible apply State.idleLane_kept | with_reducible apply State.updPort_kkept
    | with_reducible apply State.emit_kkept | with_reducible apply State.send_kept | with_reducible apply State.ite_kept
    | with_reducible apply State.ite1_kept | with_reducible apply State.ite2_kept
    | with_reducible refine State.dite_kept (fun _ => ?_) (fun _ => ?_) | with_reducible apply State.id_kept
    | dsimp only [State.kept] | split
theorem State.placeFrame_to_kept {v_ : Kept} {s : State} {l : Fin 16} {ws : List Nat} {line : List (Fin 64 × Fin 4 × Nat × Nat)} {ctl : List Nat} {r_ : State × Nat × Nat × Nat} (e_ : State.placeFrame s l ws line ctl = r_) (h_ : s.kept = v_) : r_.1.kept = v_ := by
  rw [← e_]; exact State.placeFrame_kept h_

theorem State.sendCtl_kept {v_ : Kept} {s : State} {c : Fin 16} {a : Fin 9} (h_ : s.kept = v_) : (State.sendCtl s c a).kept = v_ := by
  unfold State.sendCtl
  repeat' first
    | with_reducible assumption | with_reducible apply State.placeFrame_kept | with_reducible apply State.updNode_kkept
    | with_reducible apply State.ite_kept | (refine State.placeFrame_to_kept (by with_reducible assumption) ?_)
    | dsimp only [State.kept] | split

theorem State.nextCtl_kept {v_ : Kept} {s : State} {c : Fin 16} {a : Fin 9} (h_ : s.kept = v_) : (State.nextCtl s c a).kept = v_ := by
  unfold State.nextCtl
  repeat' first
    | with_reducible assumption | with_reducible apply State.updNode_kkept | with_reducible apply State.sendCtl_kept
    | with_reducible apply State.ite_kept | dsimp only [State.kept] | split

theorem State.control_kept {v_ : Kept} {s : State} {c : Fin 16} {a : Fin 9} {req : CtlReq} (h_ : s.kept = v_) : (State.control s c a req).kept = v_ := by
  unfold State.control
  repeat' first
    | with_reducible assumption | with_reducible apply State.updNode_kkept | with_reducible apply State.nextCtl_kept
    | with_reducible apply State.ite_kept | dsimp only [State.kept] | split

theorem State.writeRegs_kept {v_ : Kept} {s : State} {c : Fin 16} {a : Fin 9} {reg : Nat} {vs : List Nat} (h_ : s.kept = v_) : (State.writeRegs s c a reg vs).kept = v_ := by
  unfold State.writeRegs
  repeat' first
    | with_reducible assumption | with_reducible apply State.control_kept | with_reducible apply State.ite_kept
    | dsimp only [State.kept] | split

theorem State.writeReg_kept {v_ : Kept} {s : State} {c : Fin 16} {a : Fin 9} {reg v : Nat} (h_ : s.kept = v_) : (State.writeReg s c a reg v).kept = v_ := by
  unfold State.writeReg
  repeat' first
    | with_reducible assumption | with_reducible apply State.writeRegs_kept | with_reducible apply State.ite_kept
    | dsimp only [State.kept] | split

theorem State.readRegs_kept {v_ : Kept} {s : State} {c : Fin 16} {a : Fin 9} {reg n : Nat} (h_ : s.kept = v_) : (State.readRegs s c a reg n).kept = v_ := by
  unfold State.readRegs
  repeat' first
    | with_reducible assumption | with_reducible apply State.control_kept | with_reducible apply State.ite_kept
    | dsimp only [State.kept] | split

theorem State.writeHeads_kept {v_ : Kept} {s : State} {h : Fin 64} {reg : Nat} {vs : List Nat} (h_ : s.kept = v_) : (State.writeHeads s h reg vs).kept = v_ := by
  unfold State.writeHeads
  repeat' first
    | with_reducible assumption | with_reducible apply State.writeRegs_kept | with_reducible apply State.ite_kept
    | dsimp only [State.kept] | split

theorem State.writeHead_kept {v_ : Kept} {s : State} {h : Fin 64} {reg v : Nat} (h_ : s.kept = v_) : (State.writeHead s h reg v).kept = v_ := by
  unfold State.writeHead
  repeat' first
    | with_reducible assumption | with_reducible apply State.writeHeads_kept | with_reducible apply State.ite_kept
    | dsimp only [State.kept] | split

theorem State.pumpCtl_kept {v_ : Kept} {s : State} {l : Fin 16} (h_ : s.kept = v_) : (State.pumpCtl s l).kept = v_ := by
  unfold State.pumpCtl
  repeat' first
    | with_reducible assumption | with_reducible apply State.sendCtl_kept | with_reducible apply State.ite_kept
    | with_reducible refine State.foldl_kept (fun s x h => ?_) ?_ | dsimp only [State.kept] | split

theorem execLineFrameTransmit_kept {v_ : Kept} {t : Nat} {l : Fin 16} {s : State} (h_ : s.kept = v_) :
    Lands (fun x => x.kept = v_) (execLineFrameTransmit t l s) := by
  unfold execLineFrameTransmit
  repeat' first
    | with_reducible apply Lands.next | with_reducible apply Lands.ite | with_reducible assumption
    | with_reducible apply State.begin_kkept | with_reducible apply State.pumpCtl_kept
    | with_reducible apply State.placeFrame_kept | with_reducible apply State.updRow_kkept | with_reducible apply State.ite_kept
    | with_reducible apply State.ite1_kept | with_reducible apply State.ite2_kept
    | (refine State.placeFrame_to_kept (by with_reducible assumption) ?_)
    | with_reducible refine Lands.dite (fun _ => ?_) (fun _ => ?_) | dsimp only [State.kept] | split

theorem execTimePairSend_kept {v_ : Kept} {t : Nat} {l : Fin 16} {s : State} (h_ : s.kept = v_) :
    Lands (fun x => x.kept = v_) (execTimePairSend t l s) := by
  unfold execTimePairSend
  repeat' first
    | with_reducible apply Lands.next | with_reducible apply Lands.ite | with_reducible assumption
    | with_reducible apply State.begin_kkept | with_reducible apply State.updPort_kkept | with_reducible apply State.timed_kept
    | with_reducible apply State.ite_kept | with_reducible apply State.ite1_kept | with_reducible apply State.ite2_kept
    | with_reducible refine Lands.dite (fun _ => ?_) (fun _ => ?_) | dsimp only [State.kept] | split

theorem State.tryAutoOn_kept {v_ : Kept} {s : State} (h_ : s.kept = v_) : (State.tryAutoOn s).kept = v_ := by
  unfold State.tryAutoOn
  repeat' first
    | with_reducible assumption | with_reducible apply State.supplyOn_kept | with_reducible apply State.ite_kept
    | with_reducible refine State.foldl_kept (fun s x h => ?_) ?_ | with_reducible apply State.ite1_kept
    | with_reducible apply State.ite2_kept | (refine State.supplyOn_to_kept (by with_reducible assumption) ?_)
    | dsimp only [State.kept] | split

theorem State.setLink_kept {v_ : Kept} {s : State} {l : Fin 16} {st : LinkState} (h_ : s.kept = v_) : (State.setLink s l st).kept = v_ := by
  unfold State.setLink
  repeat' first
    | with_reducible assumption | with_reducible apply State.updPort_kkept | with_reducible apply State.stateChanged_kept
    | with_reducible apply State.tryAutoOn_kept | with_reducible apply State.ite_kept | dsimp only [State.kept] | split

theorem State.setChainLink_kept {v_ : Kept} {s : State} {c : Fin 16} {st : LinkState} (h_ : s.kept = v_) : (State.setChainLink s c st).kept = v_ := by
  unfold State.setChainLink
  repeat' first
    | with_reducible assumption | with_reducible apply State.setLink_kept | with_reducible apply State.ite_kept
    | dsimp only [State.kept] | split

theorem State.setDual_kept {v_ : Kept} {s : State} {c : Fin 16} {d : Dual} {split : Nat} (h_ : s.kept = v_) : (State.setDual s c d split).kept = v_ := by
  unfold State.setDual
  repeat' first
    | with_reducible assumption | with_reducible apply State.updPort_kkept | with_reducible apply State.event_kept
    | with_reducible apply State.ite_kept | dsimp only [State.kept] | split

theorem State.trainPort_kept {v_ : Kept} {s : State} {l : Fin 16} (h_ : s.kept = v_) : (State.trainPort s l).kept = v_ := by
  unfold State.trainPort
  repeat' first
    | with_reducible assumption | with_reducible apply State.updHead_kkept | with_reducible apply State.abandonLane_kept
    | with_reducible apply State.updLane_kkept | with_reducible apply State.updPort_kkept | with_reducible apply State.send_kept
    | with_reducible apply State.ite_kept | with_reducible refine State.foldl_kept (fun s x h => ?_) ?_
    | dsimp only [State.kept] | split

theorem State.bringUp_kept {v_ : Kept} {s : State} {c : Fin 16} (h_ : s.kept = v_) : (State.bringUp s c).kept = v_ := by
  unfold State.bringUp
  repeat' first
    | with_reducible assumption | with_reducible apply State.trainPort_kept | with_reducible apply State.ite_kept
    | with_reducible refine State.foldl_kept (fun s x h => ?_) ?_ | dsimp only [State.kept] | split

theorem execLinkBringup_kept {v_ : Kept} {t : Nat} {l : Fin 16} {s : State} (h_ : s.kept = v_) :
    Lands (fun x => x.kept = v_) (execLinkBringup t l s) := by
  unfold execLinkBringup
  repeat' first
    | with_reducible apply Lands.next | with_reducible apply Lands.ite | with_reducible assumption
    | with_reducible apply State.begin_kkept | with_reducible apply State.trainPort_kept | with_reducible apply State.ite_kept
    | with_reducible refine State.foldl_kept (fun s x h => ?_) ?_ | with_reducible apply State.ite1_kept
    | with_reducible apply State.ite2_kept | with_reducible refine Lands.dite (fun _ => ?_) (fun _ => ?_)
    | dsimp only [State.kept] | split

theorem execLinkBringupRetry_kept {v_ : Kept} {t : Nat} {l : Fin 16} {s : State} (h_ : s.kept = v_) :
    Lands (fun x => x.kept = v_) (execLinkBringupRetry t l s) := by
  unfold execLinkBringupRetry
  repeat' first
    | with_reducible apply Lands.next | with_reducible apply Lands.ite | with_reducible assumption
    | with_reducible apply State.begin_kkept | with_reducible apply State.trainPort_kept
    | with_reducible apply State.bringUp_kept | with_reducible apply State.ite_kept | with_reducible apply State.ite1_kept
    | with_reducible apply State.ite2_kept | with_reducible refine Lands.dite (fun _ => ?_) (fun _ => ?_)
    | dsimp only [State.kept] | split

theorem execPortAutoBringup_kept {v_ : Kept} {t : Nat} {l : Fin 16} {s : State} (h_ : s.kept = v_) :
    Lands (fun x => x.kept = v_) (execPortAutoBringup t l s) := by
  unfold execPortAutoBringup
  repeat' first
    | with_reducible apply Lands.next | with_reducible apply Lands.ite | with_reducible assumption
    | with_reducible apply State.begin_kkept | with_reducible apply State.bringUp_kept | with_reducible apply State.ite_kept
    | with_reducible apply State.ite1_kept | with_reducible apply State.ite2_kept
    | with_reducible refine Lands.dite (fun _ => ?_) (fun _ => ?_) | dsimp only [State.kept] | split

theorem execEnumerate_kept {v_ : Kept} {t : Nat} {k : Kop} {l : Fin 16} {s : State} (h_ : s.kept = v_) :
    Lands (fun x => x.kept = v_) (execEnumerate t k l s) := by
  unfold execEnumerate
  repeat' first
    | with_reducible apply Lands.next | with_reducible apply Lands.ite | with_reducible assumption
    | (with_reducible refine State.command_kept (fun s w h => ?_) ?_) | with_reducible apply State.begin_kkept
    | with_reducible apply State.bringUp_kept | with_reducible apply State.refuse_kept | with_reducible apply State.ite_kept
    | with_reducible apply State.ite1_kept | with_reducible apply State.ite2_kept
    | with_reducible refine Lands.dite (fun _ => ?_) (fun _ => ?_) | dsimp only [State.kept] | split

theorem execBlockLockGained_kept {v_ : Kept} {t : Nat} {l : Fin 16} {x : LaneHeaders} {s : State} (h_ : s.kept = v_) :
    Lands (fun x => x.kept = v_) (execBlockLockGained t l x s) := by
  unfold execBlockLockGained
  repeat' first
    | with_reducible apply Lands.next | with_reducible apply Lands.ite | with_reducible assumption
    | with_reducible apply State.begin_kkept | with_reducible apply State.updPort_kkept | with_reducible apply State.ite_kept
    | with_reducible apply State.ite1_kept | with_reducible apply State.ite2_kept
    | with_reducible refine Lands.dite (fun _ => ?_) (fun _ => ?_) | dsimp only [State.kept] | split

theorem State.sendEnum_kept {v_ : Kept} {s : State} {c : Fin 16} {a : Fin 9} (h_ : s.kept = v_) : (State.sendEnum s c a).kept = v_ := by
  unfold State.sendEnum
  repeat' first
    | with_reducible assumption | with_reducible apply State.control_kept | with_reducible apply State.ite_kept
    | dsimp only [State.kept] | split

theorem State.clearBank_kept {v_ : Kept} {s : State} {c : Fin 16} (h_ : s.kept = v_) : (State.clearBank s c).kept = v_ := by
  unfold State.clearBank
  repeat' first
    | with_reducible assumption | with_reducible apply State.updHead_kkept | with_reducible apply State.ite_kept
    | dsimp only [State.kept] | split

theorem State.leaveOut_kept {v_ : Kept} {s : State} {c : Fin 16} {a : Fin 9} {sub : Nat} (h_ : s.kept = v_) : (State.leaveOut s c a sub).kept = v_ := by
  unfold State.leaveOut
  repeat' first
    | with_reducible assumption | with_reducible apply State.updNode_kkept | with_reducible apply State.faultEvent_kept
    | with_reducible apply State.ite_kept | dsimp only [State.kept] | split

theorem State.newIdentity_kept {v_ : Kept} {s : State} {h : Fin 64} {id : Nat × Nat × Nat} (h_ : s.kept = v_) : (State.newIdentity s h id).kept = v_ := by
  unfold State.newIdentity
  repeat' first
    | with_reducible assumption | with_reducible apply State.updHead_kkept | with_reducible apply State.event_kept
    | with_reducible apply State.recomputeQuality_kept | with_reducible apply State.ite_kept
    | with_reducible apply State.ite1_kept | with_reducible apply State.ite2_kept
    | with_reducible refine State.dite_kept (fun _ => ?_) (fun _ => ?_) | with_reducible apply State.id_kept
    | dsimp only [State.kept] | split

theorem State.enumHead_kept {v_ : Kept} {s : State} {c : Fin 16} {a : Fin 9} {h : Fin 64} (h_ : s.kept = v_) : (State.enumHead s c a h).kept = v_ := by
  unfold State.enumHead
  repeat' first
    | with_reducible assumption | with_reducible apply State.clearBank_kept | with_reducible apply State.newIdentity_kept
    | with_reducible apply State.updNode_kkept | with_reducible apply State.updHead_kkept | with_reducible apply State.ite_kept
    | with_reducible refine State.dite_kept (fun _ => ?_) (fun _ => ?_) | with_reducible apply State.id_kept
    | dsimp only [State.kept] | split

theorem State.yieldNumber_kept {v_ : Kept} {s : State} {h : Fin 64} (h_ : s.kept = v_) : (State.yieldNumber s h).kept = v_ := by
  unfold State.yieldNumber
  repeat' first
    | with_reducible assumption | with_reducible apply State.withdrawHead_kept | with_reducible apply State.spoilHeads_kept
    | with_reducible apply State.updNode_kkept | with_reducible apply State.leaveOut_kept | with_reducible apply State.ite_kept
    | dsimp only [State.kept] | split

theorem State.numberNode_kept {v_ : Kept} {s : State} {c : Fin 16} {a : Fin 9} {k : Nat} (h_ : s.kept = v_) : (State.numberNode s c a k).kept = v_ := by
  unfold State.numberNode
  repeat' first
    | with_reducible assumption | with_reducible apply State.leaveOut_kept | with_reducible apply State.yieldNumber_kept
    | with_reducible apply State.enumHead_kept | with_reducible apply State.ite_kept
    | with_reducible refine State.dite_kept (fun _ => ?_) (fun _ => ?_) | with_reducible apply State.id_kept
    | dsimp only [State.kept] | split

theorem State.chainLoad_kept {v_ : Kept} {s : State} {c : Fin 16} (h_ : s.kept = v_) : (State.chainLoad s c).kept = v_ := by
  unfold State.chainLoad
  repeat' first
    | with_reducible assumption | with_reducible apply State.updPort_kkept | with_reducible apply State.ite_kept
    | with_reducible apply State.ite1_kept | with_reducible apply State.ite2_kept | dsimp only [State.kept] | split

theorem State.loadCheck_kept {v_ : Kept} {s : State} {c : Fin 16} (h_ : s.kept = v_) : (State.loadCheck s c).kept = v_ := by
  unfold State.loadCheck
  repeat' first
    | with_reducible assumption | with_reducible apply State.updHead_kkept | with_reducible apply State.leaveOut_kept
    | with_reducible apply State.chainLoad_kept | with_reducible apply State.ite_kept
    | with_reducible refine State.foldl_kept (fun s x h => ?_) ?_ | dsimp only [State.kept] | split

theorem State.endEnum_kept {v_ : Kept} {s : State} {c : Fin 16} (h_ : s.kept = v_) : (State.endEnum s c).kept = v_ := by
  unfold State.endEnum
  repeat' first
    | with_reducible assumption | with_reducible apply State.updPort_kkept | with_reducible apply State.numberNode_kept
    | with_reducible apply State.loadCheck_kept | with_reducible apply State.writeReg_kept
    | with_reducible apply State.setChainLink_kept | with_reducible apply State.ite_kept
    | with_reducible refine State.foldl_kept (fun s x h => ?_) ?_ | with_reducible apply State.ite1_kept
    | with_reducible apply State.ite2_kept | dsimp only [State.kept] | split

theorem State.enumAnswer_kept {v_ : Kept} {s : State} {c : Fin 16} {a : Fin 9} {ident : Nat} (h_ : s.kept = v_) : (State.enumAnswer s c a ident).kept = v_ := by
  unfold State.enumAnswer
  repeat' first
    | with_reducible assumption | with_reducible apply State.updNode_kkept | with_reducible apply State.leaveOut_kept
    | with_reducible apply State.sendEnum_kept | with_reducible apply State.endEnum_kept | with_reducible apply State.ite_kept
    | with_reducible refine State.dite_kept (fun _ => ?_) (fun _ => ?_) | with_reducible apply State.id_kept
    | dsimp only [State.kept] | split

theorem State.startFec_kept {v_ : Kept} {s : State} {l : Fin 16} (h_ : s.kept = v_) : (State.startFec s l).kept = v_ := by
  unfold State.startFec
  repeat' first
    | with_reducible assumption | with_reducible apply State.updPort_kkept | with_reducible apply State.send_kept
    | with_reducible apply State.openFree_kept | with_reducible apply State.ite_kept
    | with_reducible refine State.foldl_kept (fun s x h => ?_) ?_ | dsimp only [State.kept] | split

theorem execFecModeStart_kept {v_ : Kept} {t : Nat} {l : Fin 16} {s : State} (h_ : s.kept = v_) :
    Lands (fun x => x.kept = v_) (execFecModeStart t l s) := by
  unfold execFecModeStart
  repeat' first
    | with_reducible apply Lands.next | with_reducible apply Lands.ite | with_reducible assumption
    | with_reducible apply State.begin_kkept | with_reducible apply State.startFec_kept | with_reducible apply State.adapted_kept
    | with_reducible apply State.setLink_kept | with_reducible apply State.sendEnum_kept | with_reducible apply State.ite_kept
    | with_reducible apply State.ite1_kept | with_reducible apply State.ite2_kept
    | with_reducible refine Lands.dite (fun _ => ?_) (fun _ => ?_) | dsimp only [State.kept] | split

theorem State.chainTooLong_kept {v_ : Kept} {s : State} {c : Fin 16} (h_ : s.kept = v_) : (State.chainTooLong s c).kept = v_ := by
  unfold State.chainTooLong
  repeat' first
    | with_reducible assumption | with_reducible apply State.updPort_kkept | with_reducible apply State.event_kept
    | with_reducible apply State.ite_kept | dsimp only [State.kept] | split

theorem State.dropNode_kept {v_ : Kept} {s : State} {c : Fin 16} {a : Fin 9} {trigger : Nat} (h_ : s.kept = v_) : (State.dropNode s c a trigger).kept = v_ := by
  unfold State.dropNode
  repeat' first
    | with_reducible assumption | with_reducible apply State.withdrawHead_kept | with_reducible apply State.spoilHeads_kept
    | with_reducible apply State.updHead_kkept | with_reducible apply State.updNode_kkept
    | with_reducible apply State.updPort_kkept | with_reducible apply State.event_kept | with_reducible apply State.ite_kept
    | dsimp only [State.kept] | split

theorem State.loseNode_kept {v_ : Kept} {s : State} {c : Fin 16} {a : Fin 9} {trigger : Nat} (h_ : s.kept = v_) : (State.loseNode s c a trigger).kept = v_ := by
  unfold State.loseNode
  repeat' first
    | with_reducible assumption | with_reducible apply State.dropNode_kept | with_reducible apply State.updPort_kkept
    | with_reducible apply State.settle_kept | with_reducible apply State.ite_kept
    | with_reducible refine State.foldl_kept (fun s x h => ?_) ?_ | dsimp only [State.kept] | split

theorem execStatusTimeout_kept {v_ : Kept} {t : Nat} {l : Fin 16} {a : Fin 9} {s : State} (h_ : s.kept = v_) :
    Lands (fun x => x.kept = v_) (execStatusTimeout t l a s) := by
  unfold execStatusTimeout
  repeat' first
    | with_reducible apply Lands.next | with_reducible apply Lands.ite | with_reducible assumption
    | with_reducible apply State.begin_kkept | with_reducible apply State.loseNode_kept | with_reducible apply State.ite_kept
    | with_reducible apply State.ite1_kept | with_reducible apply State.ite2_kept
    | with_reducible refine Lands.dite (fun _ => ?_) (fun _ => ?_) | dsimp only [State.kept] | split

theorem execNeighbourLockTimeout_kept {v_ : Kept} {t : Nat} {l : Fin 16} {a : Fin 9} {s : State} (h_ : s.kept = v_) :
    Lands (fun x => x.kept = v_) (execNeighbourLockTimeout t l a s) := by
  unfold execNeighbourLockTimeout
  repeat' first
    | with_reducible apply Lands.next | with_reducible apply Lands.ite | with_reducible assumption
    | with_reducible apply State.begin_kkept | with_reducible apply State.loseNode_kept | with_reducible apply State.ite_kept
    | with_reducible apply State.ite1_kept | with_reducible apply State.ite2_kept
    | with_reducible refine Lands.dite (fun _ => ?_) (fun _ => ?_) | dsimp only [State.kept] | split

theorem State.portLost_kept {v_ : Kept} {s : State} {l : Fin 16} (h_ : s.kept = v_) : (State.portLost s l).kept = v_ := by
  unfold State.portLost
  repeat' first
    | with_reducible assumption | with_reducible apply State.setDual_kept | with_reducible apply State.loseNode_kept
    | with_reducible apply State.ite_kept | with_reducible refine State.foldl_kept (fun s x h => ?_) ?_
    | dsimp only [State.kept] | split

theorem execPortBlockLockLoss_kept {v_ : Kept} {t : Nat} {l : Fin 16} {s : State} (h_ : s.kept = v_) :
    Lands (fun x => x.kept = v_) (execPortBlockLockLoss t l s) := by
  unfold execPortBlockLockLoss
  repeat' first
    | with_reducible apply Lands.next | with_reducible apply Lands.ite | with_reducible assumption
    | with_reducible apply State.begin_kkept | with_reducible apply State.portLost_kept | with_reducible apply State.ite_kept
    | with_reducible apply State.ite1_kept | with_reducible apply State.ite2_kept
    | with_reducible refine Lands.dite (fun _ => ?_) (fun _ => ?_) | dsimp only [State.kept] | split

theorem execControlTimeout_kept {v_ : Kept} {t : Nat} {l : Fin 16} {a : Fin 9} {s : State} (h_ : s.kept = v_) :
    Lands (fun x => x.kept = v_) (execControlTimeout t l a s) := by
  unfold execControlTimeout
  repeat' first
    | with_reducible apply Lands.next | with_reducible apply Lands.ite | with_reducible assumption
    | with_reducible apply State.begin_kkept | with_reducible apply State.updNode_kkept | with_reducible apply State.endEnum_kept
    | with_reducible apply State.loseNode_kept | with_reducible apply State.updPort_kkept
    | with_reducible apply State.sendCtl_kept | with_reducible apply State.ite_kept | with_reducible apply State.ite1_kept
    | with_reducible apply State.ite2_kept | with_reducible refine Lands.dite (fun _ => ?_) (fun _ => ?_)
    | dsimp only [State.kept] | split

theorem State.writeBlock_kept {v_ : Kept} {s : State} {h : Fin 64} {reg : Nat} {bs : List Nat} (h_ : s.kept = v_) : (State.writeBlock s h reg bs).kept = v_ := by
  unfold State.writeBlock
  repeat' first
    | with_reducible assumption | with_reducible apply State.writeHeads_kept | with_reducible apply State.ite_kept
    | with_reducible refine State.foldl_kept (fun s x h => ?_) ?_ | dsimp only [State.kept] | split

theorem State.sendTrim_kept {v_ : Kept} {s : State} {h : Fin 64} (h_ : s.kept = v_) : (State.sendTrim s h).kept = v_ := by
  unfold State.sendTrim
  repeat' first
    | with_reducible assumption | with_reducible apply State.writeBlock_kept | with_reducible apply State.readRegs_kept
    | with_reducible apply State.ite_kept | dsimp only [State.kept] | split

theorem State.trimAnswer_kept {v_ : Kept} {s : State} {h : Fin 64} {status crc : Nat} (h_ : s.kept = v_) : (State.trimAnswer s h status crc).kept = v_ := by
  unfold State.trimAnswer
  repeat' first
    | with_reducible assumption | with_reducible apply State.updHead_kkept | with_reducible apply State.sendTrim_kept
    | with_reducible apply State.ite_kept | dsimp only [State.kept] | split

theorem State.readNext_kept {v_ : Kept} {s : State} {h : Fin 64} (h_ : s.kept = v_) : (State.readNext s h).kept = v_ := by
  unfold State.readNext
  repeat' first
    | with_reducible assumption | with_reducible apply State.readRegs_kept | with_reducible apply State.updHead_kkept
    | with_reducible apply State.ite_kept | dsimp only [State.kept] | split

theorem State.takeRead_kept {v_ : Kept} {s : State} {c : Fin 16} {a : Fin 9} {reg status : Nat} {data : List Nat} (h_ : s.kept = v_) : (State.takeRead s c a reg status data).kept = v_ := by
  unfold State.takeRead
  repeat' first
    | with_reducible assumption | with_reducible apply State.trimAnswer_kept | with_reducible apply State.updHead_kkept
    | with_reducible apply State.readNext_kept | with_reducible apply State.ite_kept
    | with_reducible refine State.dite_kept (fun _ => ?_) (fun _ => ?_) | with_reducible apply State.id_kept
    | dsimp only [State.kept] | split

theorem State.startReads_kept {v_ : Kept} {s : State} {c : Fin 16} (h_ : s.kept = v_) : (State.startReads s c).kept = v_ := by
  unfold State.startReads
  repeat' first
    | with_reducible assumption | with_reducible apply State.readNext_kept | with_reducible apply State.ite_kept
    | with_reducible refine State.foldl_kept (fun s x h => ?_) ?_
    | with_reducible refine State.dite_kept (fun _ => ?_) (fun _ => ?_) | with_reducible apply State.id_kept
    | dsimp only [State.kept] | split

theorem execControlResponse_kept {v_ : Kept} {t : Nat} {l : Fin 16} {r : CtlResp} {s : State} (h_ : s.kept = v_) :
    Lands (fun x => x.kept = v_) (execControlResponse t l r s) := by
  unfold execControlResponse
  repeat' first
    | with_reducible apply Lands.next | with_reducible apply Lands.ite | with_reducible assumption
    | with_reducible apply State.begin_kkept | with_reducible apply State.updPort_kkept | with_reducible apply State.updNode_kkept
    | with_reducible apply State.sendCtl_kept | with_reducible apply State.enumAnswer_kept
    | with_reducible apply State.endEnum_kept | with_reducible apply State.takeRead_kept
    | with_reducible apply State.nextCtl_kept | with_reducible apply State.ite_kept | with_reducible apply State.ite1_kept
    | with_reducible apply State.ite2_kept | with_reducible refine State.dite_kept (fun _ => ?_) (fun _ => ?_)
    | with_reducible apply State.id_kept | with_reducible refine Lands.dite (fun _ => ?_) (fun _ => ?_)
    | dsimp only [State.kept] | split

theorem State.writeDelayB_kept {v_ : Kept} {s : State} {c : Fin 16} {lam : Nat} (h_ : s.kept = v_) : (State.writeDelayB s c lam).kept = v_ := by
  unfold State.writeDelayB
  repeat' first
    | with_reducible assumption | with_reducible apply State.updPort_kkept | with_reducible apply State.updNode_kkept
    | with_reducible apply State.writeReg_kept | with_reducible apply State.ite_kept
    | with_reducible refine State.foldl_kept (fun s x h => ?_) ?_ | dsimp only [State.kept] | split

theorem execEchoMeasurement_kept {v_ : Kept} {t : Nat} {l : Fin 16} {a : Fin 9} {echoes : List Echo} {lam : Nat} {s : State} (h_ : s.kept = v_) :
    Lands (fun x => x.kept = v_) (execEchoMeasurement t l a echoes lam s) := by
  unfold execEchoMeasurement
  repeat' first
    | with_reducible apply Lands.next | with_reducible apply Lands.ite | with_reducible assumption
    | with_reducible apply State.begin_kkept | with_reducible apply State.timed_kept | with_reducible apply State.updNode_kkept
    | with_reducible apply State.updPort_kkept | with_reducible apply State.writeReg_kept
    | with_reducible apply State.writeDelayB_kept | with_reducible apply State.ite_kept | with_reducible apply State.ite1_kept
    | with_reducible apply State.ite2_kept | with_reducible refine Lands.dite (fun _ => ?_) (fun _ => ?_)
    | dsimp only [State.kept] | split

theorem State.beginMove_kept {v_ : Kept} {s : State} {l : Fin 16} {logical target reason : Nat} (h_ : s.kept = v_) : (State.beginMove s l logical target reason).kept = v_ := by
  unfold State.beginMove
  repeat' first
    | with_reducible assumption | with_reducible apply State.updPort_kkept | with_reducible apply State.ite_kept
    | dsimp only [State.kept] | split

theorem State.laneFail_kept {v_ : Kept} {s : State} {l : Fin 16} {logical : Nat} (h_ : s.kept = v_) : (State.laneFail s l logical).kept = v_ := by
  unfold State.laneFail
  repeat' first
    | with_reducible assumption | with_reducible apply State.disturbRun_kept | with_reducible apply State.beginMove_kept
    | with_reducible apply State.spoilHeads_kept | with_reducible apply State.updHead_kkept
    | with_reducible apply State.settle_kept | with_reducible apply State.setLink_kept | with_reducible apply State.ite_kept
    | with_reducible refine State.foldl_kept (fun s x h => ?_) ?_ | with_reducible apply State.ite1_kept
    | with_reducible apply State.ite2_kept | dsimp only [State.kept] | split

theorem State.takeOver_kept {v_ : Kept} {s : State} {l : Fin 16} {logical : Nat} (h_ : s.kept = v_) : (State.takeOver s l logical).1.kept = v_ := by
  unfold State.takeOver
  repeat' first
    | with_reducible assumption | with_reducible apply State.beginMove_kept | with_reducible apply State.refuse_kept
    | with_reducible apply State.ite_kept | with_reducible apply State.ite1_kept | with_reducible apply State.ite2_kept
    | dsimp only [State.kept] | split
theorem State.takeOver_to_kept {v_ : Kept} {s : State} {l : Fin 16} {logical : Nat} {r_ : State × CmdRes} (e_ : State.takeOver s l logical = r_) (h_ : s.kept = v_) : r_.1.kept = v_ := by
  rw [← e_]; exact State.takeOver_kept h_

theorem execSpareTakeoverL0_kept {v_ : Kept} {t : Nat} {k : Kop} {l : Fin 16} {s : State} (h_ : s.kept = v_) :
    Lands (fun x => x.kept = v_) (execSpareTakeoverL0 t k l s) := by
  unfold execSpareTakeoverL0
  repeat' first
    | with_reducible apply Lands.next | with_reducible apply Lands.ite | with_reducible assumption
    | (with_reducible refine State.command_kept (fun s w h => ?_) ?_) | with_reducible apply State.begin_kkept
    | with_reducible apply State.takeOver_kept | with_reducible apply State.ite_kept | with_reducible apply State.ite1_kept
    | with_reducible apply State.ite2_kept | (refine State.takeOver_to_kept (by with_reducible assumption) ?_)
    | with_reducible refine Lands.dite (fun _ => ?_) (fun _ => ?_) | dsimp only [State.kept] | split

theorem execSpareTakeoverL1_kept {v_ : Kept} {t : Nat} {k : Kop} {l : Fin 16} {s : State} (h_ : s.kept = v_) :
    Lands (fun x => x.kept = v_) (execSpareTakeoverL1 t k l s) := by
  unfold execSpareTakeoverL1
  repeat' first
    | with_reducible apply Lands.next | with_reducible apply Lands.ite | with_reducible assumption
    | (with_reducible refine State.command_kept (fun s w h => ?_) ?_) | with_reducible apply State.begin_kkept
    | with_reducible apply State.takeOver_kept | with_reducible apply State.ite_kept | with_reducible apply State.ite1_kept
    | with_reducible apply State.ite2_kept | (refine State.takeOver_to_kept (by with_reducible assumption) ?_)
    | with_reducible refine Lands.dite (fun _ => ?_) (fun _ => ?_) | dsimp only [State.kept] | split

theorem State.giveBack_kept {v_ : Kept} {s : State} {l : Fin 16} {logical : Nat} (h_ : s.kept = v_) : (State.giveBack s l logical).1.kept = v_ := by
  unfold State.giveBack
  repeat' first
    | with_reducible assumption | with_reducible apply State.refuse_kept | with_reducible apply State.beginMove_kept
    | with_reducible apply State.ite_kept | with_reducible apply State.ite1_kept | with_reducible apply State.ite2_kept
    | dsimp only [State.kept] | split
theorem State.giveBack_to_kept {v_ : Kept} {s : State} {l : Fin 16} {logical : Nat} {r_ : State × CmdRes} (e_ : State.giveBack s l logical = r_) (h_ : s.kept = v_) : r_.1.kept = v_ := by
  rw [← e_]; exact State.giveBack_kept h_

theorem execSpareRelease_kept {v_ : Kept} {t : Nat} {k : Kop} {l : Fin 16} {s : State} (h_ : s.kept = v_) :
    Lands (fun x => x.kept = v_) (execSpareRelease t k l s) := by
  unfold execSpareRelease
  repeat' first
    | with_reducible apply Lands.next | with_reducible apply Lands.ite | with_reducible assumption
    | (with_reducible refine State.command_kept (fun s w h => ?_) ?_) | with_reducible apply State.begin_kkept
    | with_reducible apply State.giveBack_kept | with_reducible apply State.updPort_kkept | with_reducible apply State.ite_kept
    | with_reducible apply State.ite1_kept | with_reducible apply State.ite2_kept
    | (refine State.giveBack_to_kept (by with_reducible assumption) ?_)
    | with_reducible refine Lands.dite (fun _ => ?_) (fun _ => ?_) | dsimp only [State.kept] | split

theorem State.loseLine_kept {v_ : Kept} {s : State} {l : Fin 16} {logical : Nat} {e : Fin 64 × Fin 4 × Nat × Nat} (h_ : s.kept = v_) : (State.loseLine s l logical e).kept = v_ := by
  unfold State.loseLine
  repeat' first
    | with_reducible assumption | with_reducible apply State.lineBad_kept | with_reducible apply State.spoil_kept
    | with_reducible apply State.ite_kept | with_reducible apply State.ite1_kept | with_reducible apply State.ite2_kept
    | with_reducible refine State.dite_kept (fun _ => ?_) (fun _ => ?_) | with_reducible apply State.id_kept
    | dsimp only [State.kept] | split

theorem State.retryCtl_kept {v_ : Kept} {s : State} {c : Fin 16} {a : Fin 9} (h_ : s.kept = v_) : (State.retryCtl s c a).kept = v_ := by
  unfold State.retryCtl
  repeat' first
    | with_reducible assumption | with_reducible apply State.updPort_kkept | with_reducible apply State.updNode_kkept
    | with_reducible apply State.sendCtl_kept | with_reducible apply State.ite_kept | dsimp only [State.kept] | split

theorem execLossReport_kept {v_ : Kept} {t : Nat} {l : Fin 16} {r : LossRep} {s : State} (h_ : s.kept = v_) :
    Lands (fun x => x.kept = v_) (execLossReport t l r s) := by
  unfold execLossReport
  repeat' first
    | with_reducible apply Lands.next | with_reducible apply Lands.ite | with_reducible assumption
    | with_reducible apply State.begin_kkept | with_reducible apply State.updPort_kkept | with_reducible apply State.loseLine_kept
    | with_reducible apply State.retryCtl_kept | with_reducible apply State.laneFail_kept
    | with_reducible apply State.settle_kept | with_reducible apply State.ite_kept
    | with_reducible refine State.foldl_kept (fun s x h => ?_) ?_ | with_reducible apply State.ite1_kept
    | with_reducible apply State.ite2_kept | with_reducible refine State.dite_kept (fun _ => ?_) (fun _ => ?_)
    | with_reducible apply State.id_kept | with_reducible refine Lands.dite (fun _ => ?_) (fun _ => ?_)
    | dsimp only [State.kept] | split

theorem execReverseBlock_kept {v_ : Kept} {t : Nat} {l : Fin 16} {b : LaneBlock} {content : Nat} {s : State} (h_ : s.kept = v_) :
    Lands (fun x => x.kept = v_) (execReverseBlock t l b content s) := by
  unfold execReverseBlock
  repeat' first
    | with_reducible apply Lands.next | with_reducible apply Lands.ite | with_reducible assumption
    | with_reducible apply State.begin_kkept | with_reducible apply State.updPort_kkept
    | with_reducible apply State.chainTooLong_kept | with_reducible apply State.updNode_kkept
    | with_reducible apply State.setDual_kept | with_reducible apply State.ite_kept
    | with_reducible refine State.foldl_kept (fun s x h => ?_) ?_ | with_reducible apply State.ite1_kept
    | with_reducible apply State.ite2_kept | with_reducible refine State.dite_kept (fun _ => ?_) (fun _ => ?_)
    | with_reducible apply State.id_kept | with_reducible refine Lands.dite (fun _ => ?_) (fun _ => ?_)
    | dsimp only [State.kept] | split

theorem execDualLockRegained_kept {v_ : Kept} {t : Nat} {l : Fin 16} {s : State} (h_ : s.kept = v_) :
    Lands (fun x => x.kept = v_) (execDualLockRegained t l s) := by
  unfold execDualLockRegained
  repeat' first
    | with_reducible apply Lands.next | with_reducible apply Lands.ite | with_reducible assumption
    | with_reducible apply State.begin_kkept | with_reducible apply State.setDual_kept | with_reducible apply State.ite_kept
    | with_reducible apply State.ite1_kept | with_reducible apply State.ite2_kept
    | with_reducible refine Lands.dite (fun _ => ?_) (fun _ => ?_) | dsimp only [State.kept] | split

theorem execRestore_kept {v_ : Kept} {t : Nat} {k : Kop} {l : Fin 16} {s : State} (h_ : s.kept = v_) :
    Lands (fun x => x.kept = v_) (execRestore t k l s) := by
  unfold execRestore
  repeat' first
    | with_reducible apply Lands.next | with_reducible apply Lands.ite | with_reducible assumption
    | (with_reducible refine State.command_kept (fun s w h => ?_) ?_) | with_reducible apply State.begin_kkept
    | with_reducible apply State.refuse_kept | with_reducible apply State.writeReg_kept
    | with_reducible apply State.updNode_kkept | with_reducible apply State.setDual_kept | with_reducible apply State.ite_kept
    | with_reducible refine State.foldl_kept (fun s x h => ?_) ?_ | with_reducible apply State.ite1_kept
    | with_reducible apply State.ite2_kept | with_reducible refine State.dite_kept (fun _ => ?_) (fun _ => ?_)
    | with_reducible apply State.id_kept | with_reducible refine Lands.dite (fun _ => ?_) (fun _ => ?_)
    | dsimp only [State.kept] | split

theorem State.setThermal_kept {v_ : Kept} {s : State} {h : Fin 64} {st : Thermal} {ev : Bool} (h_ : s.kept = v_) : (State.setThermal s h st ev).kept = v_ := by
  unfold State.setThermal
  repeat' first
    | with_reducible assumption | with_reducible apply State.updHead_kkept | with_reducible apply State.stateChanged_kept
    | with_reducible apply State.ite_kept | dsimp only [State.kept] | split

theorem State.warmTo_kept {v_ : Kept} {s : State} {h : Fin 64} {v : Nat} (h_ : s.kept = v_) : (State.warmTo s h v).kept = v_ := by
  unfold State.warmTo
  repeat' first
    | with_reducible assumption | with_reducible apply State.updHead_kkept | with_reducible apply State.writeHead_kept
    | with_reducible apply State.ite_kept | dsimp only [State.kept] | split

theorem State.coolDown_kept {v_ : Kept} {s : State} {h : Fin 64} {cause : Nat} (h_ : s.kept = v_) : (State.coolDown s h cause).kept = v_ := by
  unfold State.coolDown
  repeat' first
    | with_reducible assumption | with_reducible apply State.setThermal_kept | with_reducible apply State.warmTo_kept
    | with_reducible apply State.withdrawHead_kept | with_reducible apply State.spoil_kept
    | with_reducible apply State.event_kept | with_reducible apply State.settle_kept | with_reducible apply State.ite_kept
    | with_reducible refine State.foldl_kept (fun s x h => ?_) ?_ | dsimp only [State.kept] | split

theorem optIte_kept {v_ : Kept} {c : Prop} [Decidable c] {a b : Option State} (ha : ∀ x, a = some x → x.kept = v_) (hb : ∀ x, b = some x → x.kept = v_) :
    ∀ x, (if c then a else b) = some x → x.kept = v_ := by split <;> assumption
theorem optSome_kept {v_ : Kept} {y : State} (h : y.kept = v_) : ∀ x, some y = some x → x.kept = v_ := fun x e => by cases e; exact h
theorem optNone_kept {v_ : Kept} : ∀ x : State, none = some x → x.kept = v_ := fun x e => by cases e
theorem State.thermalStep_kept {v_ : Kept} {s s' : State} {h : Fin 64} (e_ : s.thermalStep h = some s') (h_ : s.kept = v_) : s'.kept = v_ := by
  revert s' e_
  unfold State.thermalStep
  dsimp only
  split
  all_goals repeat' first
    | with_reducible apply optIte_kept | with_reducible apply optNone_kept | with_reducible refine optSome_kept (State.setThermal_kept h_)
    | with_reducible refine optSome_kept (State.coolDown_kept h_) | with_reducible refine optSome_kept (State.warmTo_kept (State.setThermal_kept h_))

theorem State.thermalRun_kept {v_ : Kept} {n : Nat} {s : State} {h : Fin 64} (h_ : s.kept = v_) : (State.thermalRun n s h).kept = v_ := by
  induction n generalizing s with
  | zero => exact h_
  | succ n ih =>
    unfold State.thermalRun
    split
    · exact ih (State.thermalStep_kept (by assumption) h_)
    · exact h_

theorem State.headReport_kept {v_ : Kept} {s : State} {h : Fin 64} {temp : Int} {fault trip : Bool} (h_ : s.kept = v_) : (s.headReport h temp fault trip).kept = v_ := by
  unfold State.headReport
  exact State.ite_kept (State.thermalRun_kept h_) h_

theorem execTemperatureStale_kept {v_ : Kept} {t : Nat} {h : Fin 64} {s : State} (h_ : s.kept = v_) :
    Lands (fun x => x.kept = v_) (execTemperatureStale t h s) := by
  unfold execTemperatureStale
  repeat' first
    | with_reducible apply Lands.next | with_reducible apply Lands.ite | with_reducible assumption
    | with_reducible apply State.begin_kkept | with_reducible apply State.coolDown_kept | with_reducible apply State.ite_kept
    | with_reducible apply State.ite1_kept | with_reducible apply State.ite2_kept
    | with_reducible refine Lands.dite (fun _ => ?_) (fun _ => ?_) | dsimp only [State.kept] | split

theorem execCooldownReturn_kept {v_ : Kept} {t : Nat} {h : Fin 64} {s : State} (h_ : s.kept = v_) :
    Lands (fun x => x.kept = v_) (execCooldownReturn t h s) := by
  unfold execCooldownReturn
  repeat' first
    | with_reducible apply Lands.next | with_reducible apply Lands.ite | with_reducible assumption
    | with_reducible apply State.begin_kkept | with_reducible apply State.setThermal_kept
    | with_reducible apply State.updHead_kkept | with_reducible apply State.ite_kept | with_reducible apply State.ite1_kept
    | with_reducible apply State.ite2_kept | with_reducible refine Lands.dite (fun _ => ?_) (fun _ => ?_)
    | dsimp only [State.kept] | split

theorem execWarmStep_kept {v_ : Kept} {t : Nat} {h : Fin 64} {s : State} (h_ : s.kept = v_) :
    Lands (fun x => x.kept = v_) (execWarmStep t h s) := by
  unfold execWarmStep
  repeat' first
    | with_reducible apply Lands.next | with_reducible apply Lands.ite | with_reducible assumption
    | with_reducible apply State.begin_kkept | with_reducible apply State.updHead_kkept | with_reducible apply State.warmTo_kept
    | with_reducible apply State.ite_kept | with_reducible apply State.ite1_kept | with_reducible apply State.ite2_kept
    | with_reducible refine Lands.dite (fun _ => ?_) (fun _ => ?_) | dsimp only [State.kept] | split

theorem State.setpointFromBlock_kept {v_ : Kept} {s : State} {h : Fin 64} (h_ : s.kept = v_) : (State.setpointFromBlock s h).kept = v_ := by
  unfold State.setpointFromBlock
  repeat' first
    | with_reducible assumption | with_reducible apply State.oapply_kept | with_reducible apply State.updHead_kkept
    | with_reducible apply State.ite_kept | dsimp only [State.kept] | split

theorem State.headSetup_kept {v_ : Kept} {s : State} {h : Fin 64} (h_ : s.kept = v_) : (State.headSetup s h).kept = v_ := by
  unfold State.headSetup
  repeat' first
    | with_reducible assumption | with_reducible apply State.writeHead_kept | with_reducible apply State.ite_kept
    | dsimp only [State.kept] | split

theorem State.mismatchEvents_kept {v_ : Kept} {s : State} {h : Fin 64} (h_ : s.kept = v_) : (State.mismatchEvents s h).kept = v_ := by
  unfold State.mismatchEvents
  repeat' first
    | with_reducible assumption | with_reducible apply State.event_kept | with_reducible apply State.ite_kept
    | with_reducible refine State.foldl_kept (fun s x h => ?_) ?_ | dsimp only [State.kept] | split

theorem State.setIdentity_kept {v_ : Kept} {s : State} {h : Fin 64} {st : IdState} (h_ : s.kept = v_) : (State.setIdentity s h st).kept = v_ := by
  unfold State.setIdentity
  repeat' first
    | with_reducible assumption | with_reducible apply State.updHead_kkept | with_reducible apply State.event_kept
    | with_reducible apply State.stateChanged_kept | with_reducible apply State.ite_kept
    | with_reducible refine State.dite_kept (fun _ => ?_) (fun _ => ?_) | with_reducible apply State.id_kept
    | dsimp only [State.kept] | split

theorem State.takeBlock_kept {v_ : Kept} {s : State} {h : Fin 64} (h_ : s.kept = v_) : (State.takeBlock s h).kept = v_ := by
  unfold State.takeBlock
  repeat' first
    | with_reducible assumption | with_reducible apply State.updHead_kkept | with_reducible apply State.setIdentity_kept
    | with_reducible apply State.setpointFromBlock_kept | with_reducible apply State.headSetup_kept
    | with_reducible apply State.mismatchEvents_kept | with_reducible apply State.loadCheck_kept
    | with_reducible apply State.recomputeQuality_kept | with_reducible apply State.ite_kept
    | with_reducible refine State.foldl_kept (fun s x h => ?_) ?_ | dsimp only [State.kept] | split

theorem execHeadVerification_kept {v_ : Kept} {t : Nat} {h : Fin 64} {c : Fin 16} {s : State} (h_ : s.kept = v_) :
    Lands (fun x => x.kept = v_) (execHeadVerification t h c s) := by
  unfold execHeadVerification
  repeat' first
    | with_reducible apply Lands.next | with_reducible apply Lands.ite | with_reducible assumption
    | with_reducible apply State.begin_kkept | with_reducible apply State.takeBlock_kept
    | with_reducible apply State.setIdentity_kept | with_reducible apply State.updHead_kkept
    | with_reducible apply State.updNode_kkept | with_reducible apply State.ite_kept | with_reducible apply State.ite1_kept
    | with_reducible apply State.ite2_kept | with_reducible refine State.dite_kept (fun _ => ?_) (fun _ => ?_)
    | with_reducible apply State.id_kept | with_reducible refine Lands.dite (fun _ => ?_) (fun _ => ?_)
    | dsimp only [State.kept] | split

theorem execTrimLoad_kept {v_ : Kept} {t : Nat} {h : Fin 64} {c : Fin 16} {s : State} (h_ : s.kept = v_) :
    Lands (fun x => x.kept = v_) (execTrimLoad t h c s) := by
  unfold execTrimLoad
  repeat' first
    | with_reducible apply Lands.next | with_reducible apply Lands.ite | with_reducible assumption
    | with_reducible apply State.begin_kkept | with_reducible apply State.updHead_kkept | with_reducible apply State.sendTrim_kept
    | with_reducible apply State.ite_kept | with_reducible apply State.ite1_kept | with_reducible apply State.ite2_kept
    | with_reducible refine State.dite_kept (fun _ => ?_) (fun _ => ?_) | with_reducible apply State.id_kept
    | with_reducible refine Lands.dite (fun _ => ?_) (fun _ => ?_) | dsimp only [State.kept] | split

theorem State.startScanBlock_kept {v_ : Kept} {s : State} {h : Fin 64} (h_ : s.kept = v_) : (State.startScanBlock s h).kept = v_ := by
  unfold State.startScanBlock
  repeat' first
    | with_reducible assumption | with_reducible apply State.markReqs_kept | with_reducible apply State.updHead_kkept
    | with_reducible apply State.writeHeads_kept | with_reducible apply State.ite_kept | dsimp only [State.kept] | split

theorem execScanBlockStart_kept {v_ : Kept} {t : Nat} {h : Fin 64} {s : State} (h_ : s.kept = v_) :
    Lands (fun x => x.kept = v_) (execScanBlockStart t h s) := by
  unfold execScanBlockStart
  repeat' first
    | with_reducible apply Lands.next | with_reducible apply Lands.ite | with_reducible assumption
    | with_reducible apply State.begin_kkept | with_reducible apply State.startScanBlock_kept
    | with_reducible apply State.ite_kept | with_reducible apply State.ite1_kept | with_reducible apply State.ite2_kept
    | with_reducible refine Lands.dite (fun _ => ?_) (fun _ => ?_) | dsimp only [State.kept] | split

theorem State.setBaseline_kept {v_ : Kept} {s : State} {h : Fin 64} (h_ : s.kept = v_) : (State.setBaseline s h).kept = v_ := by
  unfold State.setBaseline
  repeat' first
    | with_reducible assumption | with_reducible apply State.updHead_kkept | with_reducible apply State.writeBlock_kept
    | with_reducible apply State.ite_kept | with_reducible refine State.foldl_kept (fun s x h => ?_) ?_
    | dsimp only [State.kept] | split

theorem State.scanDone_kept {v_ : Kept} {s : State} {h : Fin 64} (h_ : s.kept = v_) : (State.scanDone s h).kept = v_ := by
  unfold State.scanDone
  repeat' first
    | with_reducible assumption | with_reducible apply State.updHead_kkept | with_reducible apply State.setBaseline_kept
    | with_reducible apply State.markReqs_kept | with_reducible apply State.ite_kept | dsimp only [State.kept] | split

theorem State.takeBlockSamples_kept {v_ : Kept} {s : State} {h : Fin 64} {b : ScanBlock} {v0 : Nat} {vs : List Nat} (h_ : s.kept = v_) : (State.takeBlockSamples s h b v0 vs).kept = v_ := by
  unfold State.takeBlockSamples
  repeat' first
    | with_reducible assumption | with_reducible apply State.updHead_kkept | with_reducible apply State.recomputeQuality_kept
    | with_reducible apply State.ite_kept | with_reducible refine State.foldl_kept (fun s x h => ?_) ?_
    | with_reducible apply State.ite1_kept | with_reducible apply State.ite2_kept | dsimp only [State.kept] | split

theorem execScanBlockComplete_kept {v_ : Kept} {t : Nat} {h : Fin 64} {aborted : Bool} {v0 : Nat} {vs : List Nat} {s : State} (h_ : s.kept = v_) :
    Lands (fun x => x.kept = v_) (execScanBlockComplete t h aborted v0 vs s) := by
  unfold execScanBlockComplete
  repeat' first
    | with_reducible apply Lands.next | with_reducible apply Lands.ite | with_reducible assumption
    | with_reducible apply State.begin_kkept | with_reducible apply State.updHead_kkept
    | with_reducible apply State.takeBlockSamples_kept | with_reducible apply State.scanDone_kept
    | with_reducible apply State.ite_kept | with_reducible apply State.ite1_kept | with_reducible apply State.ite2_kept
    | with_reducible refine Lands.dite (fun _ => ?_) (fun _ => ?_) | dsimp only [State.kept] | split

theorem State.scanNow_kept {v_ : Kept} {s : State} {h : Fin 64} (h_ : s.kept = v_) : (State.scanNow s h).kept = v_ := by
  unfold State.scanNow
  repeat' first
    | with_reducible assumption | with_reducible apply State.updHead_kkept | with_reducible apply State.ite_kept
    | dsimp only [State.kept] | split

theorem execScanIntervalExpiry_kept {v_ : Kept} {t : Nat} {h : Fin 64} {s : State} (h_ : s.kept = v_) :
    Lands (fun x => x.kept = v_) (execScanIntervalExpiry t h s) := by
  unfold execScanIntervalExpiry
  repeat' first
    | with_reducible apply Lands.next | with_reducible apply Lands.ite | with_reducible assumption
    | with_reducible apply State.begin_kkept | with_reducible apply State.scanNow_kept | with_reducible apply State.ite_kept
    | with_reducible apply State.ite1_kept | with_reducible apply State.ite2_kept
    | with_reducible refine Lands.dite (fun _ => ?_) (fun _ => ?_) | dsimp only [State.kept] | split

theorem execScanFull_kept {v_ : Kept} {t : Nat} {k : Kop} {h : Fin 64} {s : State} (h_ : s.kept = v_) :
    Lands (fun x => x.kept = v_) (execScanFull t k h s) := by
  unfold execScanFull
  repeat' first
    | with_reducible apply Lands.next | with_reducible apply Lands.ite | with_reducible assumption
    | (with_reducible refine State.command_kept (fun s w h => ?_) ?_) | with_reducible apply State.begin_kkept
    | with_reducible apply State.scanNow_kept | with_reducible apply State.ite_kept | with_reducible apply State.ite1_kept
    | with_reducible apply State.ite2_kept | with_reducible refine Lands.dite (fun _ => ?_) (fun _ => ?_)
    | dsimp only [State.kept] | split

theorem execScanRebaseline_kept {v_ : Kept} {t : Nat} {k : Kop} {h : Fin 64} {s : State} (h_ : s.kept = v_) :
    Lands (fun x => x.kept = v_) (execScanRebaseline t k h s) := by
  unfold execScanRebaseline
  repeat' first
    | with_reducible apply Lands.next | with_reducible apply Lands.ite | with_reducible assumption
    | (with_reducible refine State.command_kept (fun s w h => ?_) ?_) | with_reducible apply State.begin_kkept
    | with_reducible apply State.refuse_kept | with_reducible apply State.updHead_kkept | with_reducible apply State.ite_kept
    | with_reducible apply State.ite1_kept | with_reducible apply State.ite2_kept
    | with_reducible refine Lands.dite (fun _ => ?_) (fun _ => ?_) | dsimp only [State.kept] | split

theorem State.updEnc_kept {v_ : Kept} {s : State} {c : Fin 8} {f : EncCal → EncCal} (h_ : s.kept = v_) : (State.updEnc s c f).kept = v_ := by
  unfold State.updEnc
  repeat' first
    | with_reducible assumption | with_reducible apply State.ite_kept
    | with_reducible refine State.dite_kept (fun _ => ?_) (fun _ => ?_) | with_reducible apply State.id_kept
    | dsimp only [State.kept] | split

theorem State.setChan_kept {v_ : Kept} {s : State} {c : Fin 8} {st : ChanState} (h_ : s.kept = v_) : (State.setChan s c st).kept = v_ := by
  unfold State.setChan
  repeat' first
    | with_reducible assumption | with_reducible apply State.updChan_kkept | with_reducible apply State.stateChanged_kept
    | with_reducible apply State.ite_kept | with_reducible refine State.dite_kept (fun _ => ?_) (fun _ => ?_)
    | with_reducible apply State.id_kept | dsimp only [State.kept] | split

theorem State.startChan_kept {v_ : Kept} {s : State} {c : Fin 8} (h_ : s.kept = v_) : (State.startChan s c).kept = v_ := by
  unfold State.startChan
  repeat' first
    | with_reducible assumption | with_reducible apply State.setChan_kept | with_reducible apply State.updChan_kkept
    | with_reducible apply State.ite_kept | dsimp only [State.kept] | split

theorem State.chanFault_kept {v_ : Kept} {s : State} {c : Fin 8} {cause : Nat} (h_ : s.kept = v_) : (State.chanFault s c cause).kept = v_ := by
  unfold State.chanFault
  repeat' first
    | with_reducible assumption | with_reducible apply State.updChan_kkept | with_reducible apply State.setChan_kept
    | with_reducible apply State.faultEvent_kept | with_reducible apply State.checkSources_kept
    | with_reducible apply State.ite_kept | with_reducible refine State.dite_kept (fun _ => ?_) (fun _ => ?_)
    | with_reducible apply State.id_kept | dsimp only [State.kept] | split

theorem State.countTo_kept {v_ : Kept} {s : State} {c : Fin 8} {count : Int} {stamp : Nat} (h_ : s.kept = v_) : (State.countTo s c count stamp).kept = v_ := by
  unfold State.countTo
  repeat' first
    | with_reducible assumption | with_reducible apply State.updChan_kkept | with_reducible apply State.chanUpdate_kept
    | with_reducible apply State.ite_kept | with_reducible refine State.dite_kept (fun _ => ?_) (fun _ => ?_)
    | with_reducible apply State.id_kept | dsimp only [State.kept] | split

theorem execEncoderEdge_kept {v_ : Kept} {t : Nat} {c : Fin 8} {wire : Fin 2} {level : Bool} {stamp : Nat} {s : State} (h_ : s.kept = v_) :
    Lands (fun x => x.kept = v_) (execEncoderEdge t c wire level stamp s) := by
  unfold execEncoderEdge
  repeat' first
    | with_reducible apply Lands.next | with_reducible apply Lands.ite | with_reducible assumption
    | with_reducible apply State.begin_kkept | with_reducible apply State.updChan_kkept
    | with_reducible apply State.chanFault_kept | with_reducible apply State.countTo_kept | with_reducible apply State.ite_kept
    | with_reducible apply State.ite1_kept | with_reducible apply State.ite2_kept
    | with_reducible refine Lands.dite (fun _ => ?_) (fun _ => ?_) | dsimp only [State.kept] | split

theorem execWireDisagreement_kept {v_ : Kept} {t : Nat} {c : Fin 8} {cause : Nat} {s : State} (h_ : s.kept = v_) :
    Lands (fun x => x.kept = v_) (execWireDisagreement t c cause s) := by
  unfold execWireDisagreement
  repeat' first
    | with_reducible apply Lands.next | with_reducible apply Lands.ite | with_reducible assumption
    | with_reducible apply State.begin_kkept | with_reducible apply State.chanFault_kept | with_reducible apply State.ite_kept
    | with_reducible apply State.ite1_kept | with_reducible apply State.ite2_kept
    | with_reducible refine Lands.dite (fun _ => ?_) (fun _ => ?_) | dsimp only [State.kept] | split

theorem State.ssiBad_kept {v_ : Kept} {s : State} {c : Fin 8} {err : Bool} (h_ : s.kept = v_) : (State.ssiBad s c err).kept = v_ := by
  unfold State.ssiBad
  repeat' first
    | with_reducible assumption | with_reducible apply State.updChan_kkept | with_reducible apply State.chanFault_kept
    | with_reducible apply State.ite_kept | dsimp only [State.kept] | split

theorem execSsiRead_kept {v_ : Kept} {t : Nat} {c : Fin 8} {stamp bits : Nat} {idleHigh wentLow : Bool} {s : State} (h_ : s.kept = v_) :
    Lands (fun x => x.kept = v_) (execSsiRead t c stamp bits idleHigh wentLow s) := by
  unfold execSsiRead
  repeat' first
    | with_reducible apply Lands.next | with_reducible apply Lands.ite | with_reducible assumption
    | with_reducible apply State.begin_kkept | with_reducible apply State.ssiBad_kept | with_reducible apply State.updChan_kkept
    | with_reducible apply State.chanFault_kept | with_reducible apply State.countTo_kept | with_reducible apply State.ite_kept
    | with_reducible apply State.ite1_kept | with_reducible apply State.ite2_kept
    | with_reducible refine State.dite_kept (fun _ => ?_) (fun _ => ?_) | with_reducible apply State.id_kept
    | with_reducible refine Lands.dite (fun _ => ?_) (fun _ => ?_) | dsimp only [State.kept] | split

theorem State.sinCount_kept {v_ : Kept} {s : State} {c : Fin 8} {phase : Nat} {t : Nat} (h_ : s.kept = v_) : (State.sinCount s c phase t).kept = v_ := by
  unfold State.sinCount
  repeat' first
    | with_reducible assumption | with_reducible apply State.updChan_kkept | with_reducible apply State.countTo_kept
    | with_reducible apply State.ite_kept | dsimp only [State.kept] | split

theorem execSincosSample_kept {v_ : Kept} {t : Nat} {c : Fin 8} {x y : Int} {s : State} (h_ : s.kept = v_) :
    Lands (fun x => x.kept = v_) (execSincosSample t c x y s) := by
  unfold execSincosSample
  repeat' first
    | with_reducible apply Lands.next | with_reducible apply Lands.ite | with_reducible assumption
    | with_reducible apply State.begin_kkept | with_reducible apply State.updChan_kkept
    | with_reducible apply State.chanFault_kept | with_reducible apply State.sinCount_kept
    | with_reducible apply State.updEnc_kept | with_reducible apply State.ite_kept | with_reducible apply State.ite1_kept
    | with_reducible apply State.ite2_kept | with_reducible refine State.dite_kept (fun _ => ?_) (fun _ => ?_)
    | with_reducible apply State.id_kept | with_reducible refine Lands.dite (fun _ => ?_) (fun _ => ?_)
    | dsimp only [State.kept] | split

theorem State.applyStep_kept {v_ : Kept} {s : State} {z : Fin 8} {step : Rat} {stamp : Nat} (h_ : s.kept = v_) : (State.applyStep s z step stamp).kept = v_ := by
  unfold State.applyStep
  repeat' first
    | with_reducible assumption | with_reducible apply State.onCount_kept | with_reducible apply State.enterFault_kept
    | with_reducible apply State.updZone_kkept | with_reducible apply State.settle_kept | with_reducible apply State.ite_kept
    | dsimp only [State.kept] | split

theorem State.onIndex_kept {v_ : Kept} {s : State} {c : Fin 8} {obs last : Int} {stamp : Nat} (h_ : s.kept = v_) : (State.onIndex s c obs last stamp).kept = v_ := by
  unfold State.onIndex
  repeat' first
    | with_reducible assumption | with_reducible apply State.event_kept | with_reducible apply State.updChan_kkept
    | with_reducible apply State.setChan_kept | with_reducible apply State.checkSources_kept
    | with_reducible apply State.applyStep_kept | with_reducible apply State.ite_kept
    | with_reducible refine State.foldl_kept (fun s x h => ?_) ?_
    | with_reducible refine State.dite_kept (fun _ => ?_) (fun _ => ?_) | with_reducible apply State.id_kept
    | dsimp only [State.kept] | split

theorem execIndexPulse_kept {v_ : Kept} {t : Nat} {c : Fin 8} {active : Bool} {stamp : Nat} {s : State} (h_ : s.kept = v_) :
    Lands (fun x => x.kept = v_) (execIndexPulse t c active stamp s) := by
  unfold execIndexPulse
  repeat' first
    | with_reducible apply Lands.next | with_reducible apply Lands.ite | with_reducible assumption
    | with_reducible apply State.begin_kkept | with_reducible apply State.updChan_kkept | with_reducible apply State.onIndex_kept
    | with_reducible apply State.ite_kept | with_reducible apply State.ite1_kept | with_reducible apply State.ite2_kept
    | with_reducible refine State.dite_kept (fun _ => ?_) (fun _ => ?_) | with_reducible apply State.id_kept
    | with_reducible refine Lands.dite (fun _ => ?_) (fun _ => ?_) | dsimp only [State.kept] | split

theorem State.startEnc_kept {v_ : Kept} {s : State} {c : Fin 8} (h_ : s.kept = v_) : (State.startEnc s c).kept = v_ := by
  unfold State.startEnc
  repeat' first
    | with_reducible assumption | with_reducible apply State.dropDue_kept | with_reducible apply State.updEnc_kept
    | with_reducible apply State.markReqs_kept | with_reducible apply State.ite_kept
    | with_reducible refine State.dite_kept (fun _ => ?_) (fun _ => ?_) | with_reducible apply State.id_kept
    | dsimp only [State.kept] | split

theorem State.encValid_kept {v_ : Kept} {s : State} {c : Fin 8} (h_ : s.kept = v_) : (State.encValid s c).kept = v_ := by
  unfold State.encValid
  repeat' first
    | with_reducible assumption | with_reducible apply State.updEnc_kept | with_reducible apply State.addDue_kept
    | with_reducible apply State.startEnc_kept | with_reducible apply State.ite_kept
    | with_reducible refine State.dite_kept (fun _ => ?_) (fun _ => ?_) | with_reducible apply State.id_kept
    | dsimp only [State.kept] | split

theorem execChannelStarted_kept {v_ : Kept} {t : Nat} {c : Fin 8} {s : State} (h_ : s.kept = v_) :
    Lands (fun x => x.kept = v_) (execChannelStarted t c s) := by
  unfold execChannelStarted
  repeat' first
    | with_reducible apply Lands.next | with_reducible apply Lands.ite | with_reducible assumption
    | with_reducible apply State.begin_kkept | with_reducible apply State.setChan_kept | with_reducible apply State.encValid_kept
    | with_reducible apply State.checkSources_kept | with_reducible apply State.ite_kept | with_reducible apply State.ite1_kept
    | with_reducible apply State.ite2_kept | with_reducible refine State.dite_kept (fun _ => ?_) (fun _ => ?_)
    | with_reducible apply State.id_kept | with_reducible refine Lands.dite (fun _ => ?_) (fun _ => ?_)
    | dsimp only [State.kept] | split

theorem execChannelClear_kept {v_ : Kept} {t : Nat} {k : Kop} {c : Fin 8} {s : State} (h_ : s.kept = v_) :
    Lands (fun x => x.kept = v_) (execChannelClear t k c s) := by
  unfold execChannelClear
  repeat' first
    | with_reducible apply Lands.next | with_reducible apply Lands.ite | with_reducible assumption
    | (with_reducible refine State.command_kept (fun s w h => ?_) ?_) | with_reducible apply State.begin_kkept
    | with_reducible apply State.startChan_kept | with_reducible apply State.updChan_kkept
    | with_reducible apply State.encValid_kept | with_reducible apply State.checkSources_kept
    | with_reducible apply State.ite_kept | with_reducible apply State.ite1_kept | with_reducible apply State.ite2_kept
    | with_reducible refine State.dite_kept (fun _ => ?_) (fun _ => ?_) | with_reducible apply State.id_kept
    | with_reducible refine Lands.dite (fun _ => ?_) (fun _ => ?_) | dsimp only [State.kept] | split

theorem State.presetZone_kept {v_ : Kept} {s : State} {z : Fin 8} (h_ : s.kept = v_) : (State.presetZone s z).kept = v_ := by
  unfold State.presetZone
  repeat' first
    | with_reducible assumption | with_reducible apply State.endFault_kept | with_reducible apply State.toStandby_kept
    | with_reducible apply State.updZone_kkept | with_reducible apply State.settle_kept | with_reducible apply State.ite_kept
    | dsimp only [State.kept] | split

theorem execChannelPreset_kept {v_ : Kept} {t : Nat} {k : Kop} {c : Fin 8} {v : Nat} {s : State} (h_ : s.kept = v_) :
    Lands (fun x => x.kept = v_) (execChannelPreset t k c v s) := by
  unfold execChannelPreset
  repeat' first
    | with_reducible apply Lands.next | with_reducible apply Lands.ite | with_reducible assumption
    | (with_reducible refine State.command_kept (fun s w h => ?_) ?_) | with_reducible apply State.begin_kkept
    | with_reducible apply State.refuse_kept | with_reducible apply State.updChan_kkept
    | with_reducible apply State.presetZone_kept | with_reducible apply State.ite_kept
    | with_reducible refine State.foldl_kept (fun s x h => ?_) ?_ | with_reducible apply State.ite1_kept
    | with_reducible apply State.ite2_kept | with_reducible refine Lands.dite (fun _ => ?_) (fun _ => ?_)
    | dsimp only [State.kept] | split

theorem execSpeedSample_kept {v_ : Kept} {t : Nat} {c : Fin 8} {s : State} (h_ : s.kept = v_) :
    Lands (fun x => x.kept = v_) (execSpeedSample t c s) := by
  unfold execSpeedSample
  repeat' first
    | with_reducible apply Lands.next | with_reducible apply Lands.ite | with_reducible assumption
    | with_reducible apply State.begin_kkept | with_reducible apply State.updChan_kkept | with_reducible apply State.ite_kept
    | with_reducible apply State.ite1_kept | with_reducible apply State.ite2_kept
    | with_reducible refine Lands.dite (fun _ => ?_) (fun _ => ?_) | dsimp only [State.kept] | split

theorem State.updMark_kkept {v_ : Kept} {s : State} {m : Fin 8} {f : Mark → Mark} (h_ : s.kept = v_) : (s.updMark m f).kept = v_ := h_

theorem execMarkEdge_kept {v_ : Kept} {t : Nat} {m : Fin 8} {stamp : Nat} {level : Bool} {s : State} (h_ : s.kept = v_) :
    Lands (fun x => x.kept = v_) (execMarkEdge t m stamp level s) := by
  unfold execMarkEdge
  repeat' first
    | with_reducible apply Lands.next | with_reducible apply Lands.ite | with_reducible assumption
    | with_reducible apply State.begin_kkept | with_reducible apply State.updMark_kkept
    | with_reducible apply State.recordMarks_kept | with_reducible apply State.ite_kept | with_reducible apply State.ite1_kept
    | with_reducible apply State.ite2_kept | with_reducible refine State.dite_kept (fun _ => ?_) (fun _ => ?_)
    | with_reducible apply State.id_kept | with_reducible refine Lands.dite (fun _ => ?_) (fun _ => ?_)
    | dsimp only [State.kept] | split

theorem State.offerMark_kept {v_ : Kept} {s : State} {z m : Fin 8} {pos : Int} (h_ : s.kept = v_) : (State.offerMark s z m pos).kept = v_ := by
  unfold State.offerMark
  repeat' first
    | with_reducible assumption | with_reducible apply State.updItem_kkept | with_reducible apply State.evaluate_kept
    | with_reducible apply State.updMark_kkept | with_reducible apply State.event_kept | with_reducible apply State.ite_kept
    | dsimp only [State.kept] | split

theorem State.decideMark_kept {v_ : Kept} {s : State} {z m : Fin 8} {w : MarkWait} {pos : Int} {close : Option Int} (h_ : s.kept = v_) : (State.decideMark s z m w pos close).kept = v_ := by
  unfold State.decideMark
  repeat' first
    | with_reducible assumption | with_reducible apply State.updMark_kkept | with_reducible apply State.offerMark_kept
    | with_reducible apply State.ite_kept | dsimp only [State.kept] | split

theorem execMarkOffer_kept {v_ : Kept} {t : Nat} {m : Fin 8} {s : State} (h_ : s.kept = v_) :
    Lands (fun x => x.kept = v_) (execMarkOffer t m s) := by
  unfold execMarkOffer
  repeat' first
    | with_reducible apply Lands.next | with_reducible apply Lands.ite | with_reducible assumption
    | with_reducible apply State.begin_kkept | with_reducible apply State.decideMark_kept | with_reducible apply State.ite_kept
    | with_reducible apply State.ite1_kept | with_reducible apply State.ite2_kept
    | with_reducible refine State.dite_kept (fun _ => ?_) (fun _ => ?_) | with_reducible apply State.id_kept
    | with_reducible refine Lands.dite (fun _ => ?_) (fun _ => ?_) | dsimp only [State.kept] | split

theorem State.offerKept_kept {v_ : Kept} {s : State} (h_ : s.kept = v_) : (State.offerKept s).kept = v_ := by
  unfold State.offerKept
  repeat' first
    | with_reducible assumption | with_reducible apply State.updMark_kkept | with_reducible apply State.offerMark_kept
    | with_reducible apply State.ite_kept | with_reducible refine State.foldl_kept (fun s x h => ?_) ?_
    | dsimp only [State.kept] | split

theorem execGateTest_kept {v_ : Kept} {t : Nat} {k : Kop} {g : Fin 8} {s : State} (h_ : s.kept = v_) :
    Lands (fun x => x.kept = v_) (execGateTest t k g s) := by
  unfold execGateTest
  repeat' first
    | with_reducible apply Lands.next | with_reducible apply Lands.ite | with_reducible assumption
    | (with_reducible refine State.command_kept (fun s w h => ?_) ?_) | with_reducible apply State.begin_kkept
    | with_reducible apply State.refuse_kept | with_reducible apply State.updGate_kkept | with_reducible apply State.gateOut_kept
    | with_reducible apply State.ite_kept | with_reducible apply State.ite1_kept | with_reducible apply State.ite2_kept
    | with_reducible refine Lands.dite (fun _ => ?_) (fun _ => ?_) | dsimp only [State.kept] | split

theorem State.settleFeed_kept {v_ : Kept} {s : State} {a : Fin 8} (h_ : s.kept = v_) : (State.settleFeed s a).kept = v_ := by
  unfold State.settleFeed
  repeat' first
    | with_reducible assumption | with_reducible apply State.settle_kept | with_reducible apply State.ite_kept
    | dsimp only [State.kept] | split

theorem State.endAxisCmds_kept {v_ : Kept} {s : State} {a : Fin 8} {code : Nat} (h_ : s.kept = v_) : (State.endAxisCmds s a code).kept = v_ := by
  unfold State.endAxisCmds
  repeat' first
    | with_reducible assumption | with_reducible apply State.cmdEnd_kept | with_reducible apply State.ite_kept
    | with_reducible refine State.foldl_kept (fun s x h => ?_) ?_ | dsimp only [State.kept] | split

theorem State.endStopCmd_kept {v_ : Kept} {s : State} {i sub : Nat} (h_ : s.kept = v_) : (State.endStopCmd s i sub).kept = v_ := by
  unfold State.endStopCmd
  repeat' first
    | with_reducible assumption | with_reducible apply State.cmdEnd_kept | with_reducible apply State.ite_kept
    | dsimp only [State.kept] | split

theorem State.endGroup_kept {v_ : Kept} {s : State} {g : Fin 4} {code : Nat} (h_ : s.kept = v_) : (State.endGroup s g code).kept = v_ := by
  unfold State.endGroup
  repeat' first
    | with_reducible assumption | with_reducible apply State.cmdEnd_kept | with_reducible apply State.endStopCmd_kept
    | with_reducible apply State.ite_kept | dsimp only [State.kept] | split

theorem State.feedFailed_kept {v_ : Kept} {s : State} {a : Fin 8} {z : Fin 8} (h_ : s.kept = v_) : (State.feedFailed s a z).kept = v_ := by
  unfold State.feedFailed
  repeat' first
    | with_reducible assumption | with_reducible apply State.updZone_kkept | with_reducible apply State.spoil_kept
    | with_reducible apply State.dropItem_kept | with_reducible apply State.updItem_kkept
    | with_reducible apply State.settle_kept | with_reducible apply State.ite_kept | dsimp only [State.kept] | split

theorem State.comeToRest_kept {v_ : Kept} {s : State} {a : Fin 8} {st : AxisState} {code : Nat} (h_ : s.kept = v_) : (State.comeToRest s a st code).kept = v_ := by
  unfold State.comeToRest
  repeat' first
    | with_reducible assumption | with_reducible apply State.updAxis_kkept | with_reducible apply State.endAxisCmds_kept
    | with_reducible apply State.endStopCmd_kept | with_reducible apply State.endGroup_kept
    | with_reducible apply State.updZone_kkept | with_reducible apply State.feedFailed_kept
    | with_reducible apply State.settleFeed_kept | with_reducible apply State.ite_kept | dsimp only [State.kept] | split

theorem State.turnTo_kept {v_ : Kept} {s : State} {a : Fin 8} {pos : Bool} (h_ : s.kept = v_) : (State.turnTo s a pos).kept = v_ := by
  unfold State.turnTo
  repeat' first
    | with_reducible assumption | with_reducible apply State.updAxis_kkept | with_reducible apply State.emit_kkept
    | with_reducible apply State.ite_kept | dsimp only [State.kept] | split

theorem State.latchAxis_kept {v_ : Kept} {s : State} {a : Fin 8} (h_ : s.kept = v_) : (State.latchAxis s a).kept = v_ := by
  unfold State.latchAxis
  repeat' first
    | with_reducible assumption | with_reducible apply State.updAxis_kkept | with_reducible apply State.ite_kept
    | dsimp only [State.kept] | split

theorem State.startMove_kept {v_ : Kept} {s : State} {a : Fin 8} {st : AxisState} {pos : Bool} {d : Nat} {v : Nat} (h_ : s.kept = v_) : (State.startMove s a st pos d v).kept = v_ := by
  unfold State.startMove
  repeat' first
    | with_reducible assumption | with_reducible apply State.turnTo_kept | with_reducible apply State.updAxis_kkept
    | with_reducible apply State.ite_kept | dsimp only [State.kept] | split

theorem State.moveTo_kept {v_ : Kept} {s : State} {a : Fin 8} {target : Int} (h_ : s.kept = v_) : (State.moveTo s a target).1.kept = v_ := by
  unfold State.moveTo
  repeat' first
    | with_reducible assumption | with_reducible apply State.refuse_kept | with_reducible apply State.latchAxis_kept
    | with_reducible apply State.startMove_kept | with_reducible apply State.ite_kept | with_reducible apply State.ite1_kept
    | with_reducible apply State.ite2_kept | with_reducible refine State.dite_kept (fun _ => ?_) (fun _ => ?_)
    | with_reducible apply State.id_kept | dsimp only [State.kept] | split
theorem State.moveTo_to_kept {v_ : Kept} {s : State} {a : Fin 8} {target : Int} {r_ : State × CmdRes} (e_ : State.moveTo s a target = r_) (h_ : s.kept = v_) : r_.1.kept = v_ := by
  rw [← e_]; exact State.moveTo_kept h_

theorem execMoveAbsolute_kept {v_ : Kept} {t : Nat} {k : Kop} {a : Fin 8} {v : Nat} {s : State} (h_ : s.kept = v_) :
    Lands (fun x => x.kept = v_) (execMoveAbsolute t k a v s) := by
  unfold execMoveAbsolute
  repeat' first
    | with_reducible apply Lands.next | with_reducible apply Lands.ite | with_reducible assumption
    | (with_reducible refine State.command_kept (fun s w h => ?_) ?_) | with_reducible apply State.begin_kkept
    | with_reducible apply State.refuse_kept | with_reducible apply State.moveTo_kept | with_reducible apply State.ite_kept
    | with_reducible apply State.ite1_kept | with_reducible apply State.ite2_kept
    | (refine State.moveTo_to_kept (by with_reducible assumption) ?_)
    | with_reducible refine Lands.dite (fun _ => ?_) (fun _ => ?_) | dsimp only [State.kept] | split

theorem execMoveRelative_kept {v_ : Kept} {t : Nat} {k : Kop} {a : Fin 8} {v : Nat} {s : State} (h_ : s.kept = v_) :
    Lands (fun x => x.kept = v_) (execMoveRelative t k a v s) := by
  unfold execMoveRelative
  repeat' first
    | with_reducible apply Lands.next | with_reducible apply Lands.ite | with_reducible assumption
    | (with_reducible refine State.command_kept (fun s w h => ?_) ?_) | with_reducible apply State.begin_kkept
    | with_reducible apply State.refuse_kept | with_reducible apply State.moveTo_kept | with_reducible apply State.ite_kept
    | with_reducible apply State.ite1_kept | with_reducible apply State.ite2_kept
    | (refine State.moveTo_to_kept (by with_reducible assumption) ?_)
    | with_reducible refine Lands.dite (fun _ => ?_) (fun _ => ?_) | dsimp only [State.kept] | split

theorem State.beginStop_kept {v_ : Kept} {s : State} {a : Fin 8} {b : Rat} (h_ : s.kept = v_) : (State.beginStop s a b).kept = v_ := by
  unfold State.beginStop
  repeat' first
    | with_reducible assumption | with_reducible apply State.updAxis_kkept | with_reducible apply State.ite_kept
    | with_reducible refine State.dite_kept (fun _ => ?_) (fun _ => ?_) | with_reducible apply State.id_kept
    | dsimp only [State.kept] | split

theorem State.stopGroup_kept {v_ : Kept} {s : State} {g : Fin 4} (h_ : s.kept = v_) : (State.stopGroup s g).kept = v_ := by
  unfold State.stopGroup
  repeat' first
    | with_reducible assumption | with_reducible apply State.beginStop_kept | with_reducible apply State.ite_kept
    | with_reducible refine State.foldl_kept (fun s x h => ?_) ?_ | dsimp only [State.kept] | split

theorem State.stopAxis_kept {v_ : Kept} {s : State} {a : Fin 8} (h_ : s.kept = v_) : (State.stopAxis s a).kept = v_ := by
  unfold State.stopAxis
  repeat' first
    | with_reducible assumption | with_reducible apply State.stopGroup_kept | with_reducible apply State.beginStop_kept
    | with_reducible apply State.ite_kept | dsimp only [State.kept] | split

theorem execAxisStop_kept {v_ : Kept} {t : Nat} {k : Kop} {a : Fin 8} {s : State} (h_ : s.kept = v_) :
    Lands (fun x => x.kept = v_) (execAxisStop t k a s) := by
  unfold execAxisStop
  repeat' first
    | with_reducible apply Lands.next | with_reducible apply Lands.ite | with_reducible assumption
    | (with_reducible refine State.command_kept (fun s w h => ?_) ?_) | with_reducible apply State.begin_kkept
    | with_reducible apply State.stopAxis_kept | with_reducible apply State.ite_kept | with_reducible apply State.ite1_kept
    | with_reducible apply State.ite2_kept | with_reducible refine Lands.dite (fun _ => ?_) (fun _ => ?_)
    | dsimp only [State.kept] | split

theorem execGroupStop_kept {v_ : Kept} {t : Nat} {k : Kop} {g : Fin 4} {s : State} (h_ : s.kept = v_) :
    Lands (fun x => x.kept = v_) (execGroupStop t k g s) := by
  unfold execGroupStop
  repeat' first
    | with_reducible apply Lands.next | with_reducible apply Lands.ite | with_reducible assumption
    | (with_reducible refine State.command_kept (fun s w h => ?_) ?_) | with_reducible apply State.begin_kkept
    | with_reducible apply State.stopGroup_kept | with_reducible apply State.ite_kept | with_reducible apply State.ite1_kept
    | with_reducible apply State.ite2_kept | with_reducible refine Lands.dite (fun _ => ?_) (fun _ => ?_)
    | dsimp only [State.kept] | split

theorem execMoveComplete_kept {v_ : Kept} {t : Nat} {a : Fin 8} {s : State} (h_ : s.kept = v_) :
    Lands (fun x => x.kept = v_) (execMoveComplete t a s) := by
  unfold execMoveComplete
  repeat' first
    | with_reducible apply Lands.next | with_reducible apply Lands.ite | with_reducible assumption
    | with_reducible apply State.begin_kkept | with_reducible apply State.comeToRest_kept | with_reducible apply State.ite_kept
    | with_reducible apply State.ite1_kept | with_reducible apply State.ite2_kept
    | with_reducible refine State.dite_kept (fun _ => ?_) (fun _ => ?_) | with_reducible apply State.id_kept
    | with_reducible refine Lands.dite (fun _ => ?_) (fun _ => ?_) | dsimp only [State.kept] | split

theorem execStopComplete_kept {v_ : Kept} {t : Nat} {a : Fin 8} {s : State} (h_ : s.kept = v_) :
    Lands (fun x => x.kept = v_) (execStopComplete t a s) := by
  unfold execStopComplete
  repeat' first
    | with_reducible apply Lands.next | with_reducible apply Lands.ite | with_reducible assumption
    | with_reducible apply State.begin_kkept | with_reducible apply State.comeToRest_kept | with_reducible apply State.ite_kept
    | with_reducible apply State.ite1_kept | with_reducible apply State.ite2_kept
    | with_reducible refine State.dite_kept (fun _ => ?_) (fun _ => ?_) | with_reducible apply State.id_kept
    | with_reducible refine Lands.dite (fun _ => ?_) (fun _ => ?_) | dsimp only [State.kept] | split

theorem execVirtualLimitCrossed_kept {v_ : Kept} {t : Nat} {a : Fin 8} {s : State} (h_ : s.kept = v_) :
    Lands (fun x => x.kept = v_) (execVirtualLimitCrossed t a s) := by
  unfold execVirtualLimitCrossed
  repeat' first
    | with_reducible apply Lands.next | with_reducible apply Lands.ite | with_reducible assumption
    | with_reducible apply State.begin_kkept | with_reducible apply State.stopAxis_kept | with_reducible apply State.ite_kept
    | with_reducible apply State.ite1_kept | with_reducible apply State.ite2_kept
    | with_reducible refine Lands.dite (fun _ => ?_) (fun _ => ?_) | dsimp only [State.kept] | split

theorem State.driveEn_kept {v_ : Kept} {s : State} {a : Fin 8} {on : Bool} (h_ : s.kept = v_) : (State.driveEn s a on).kept = v_ := by
  unfold State.driveEn
  repeat' first
    | with_reducible assumption | with_reducible apply State.updAxis_kkept | with_reducible apply State.emit_kkept
    | with_reducible apply State.ite_kept | dsimp only [State.kept] | split

theorem execAxisEnable_kept {v_ : Kept} {t : Nat} {k : Kop} {a : Fin 8} {retHighFor : Nat} {s : State} (h_ : s.kept = v_) :
    Lands (fun x => x.kept = v_) (execAxisEnable t k a retHighFor s) := by
  unfold execAxisEnable
  repeat' first
    | with_reducible apply Lands.next | with_reducible apply Lands.ite | with_reducible assumption
    | (with_reducible refine State.command_kept (fun s w h => ?_) ?_) | with_reducible apply State.begin_kkept
    | with_reducible apply State.refuse_kept | with_reducible apply State.driveEn_kept | with_reducible apply State.updAxis_kkept
    | with_reducible apply State.ite_kept | with_reducible apply State.ite1_kept | with_reducible apply State.ite2_kept
    | with_reducible refine State.dite_kept (fun _ => ?_) (fun _ => ?_) | with_reducible apply State.id_kept
    | with_reducible refine Lands.dite (fun _ => ?_) (fun _ => ?_) | dsimp only [State.kept] | split

theorem execAxisDisable_kept {v_ : Kept} {t : Nat} {k : Kop} {a : Fin 8} {s : State} (h_ : s.kept = v_) :
    Lands (fun x => x.kept = v_) (execAxisDisable t k a s) := by
  unfold execAxisDisable
  repeat' first
    | with_reducible apply Lands.next | with_reducible apply Lands.ite | with_reducible assumption
    | (with_reducible refine State.command_kept (fun s w h => ?_) ?_) | with_reducible apply State.begin_kkept
    | with_reducible apply State.refuse_kept | with_reducible apply State.driveEn_kept | with_reducible apply State.updAxis_kkept
    | with_reducible apply State.ite_kept | with_reducible apply State.ite1_kept | with_reducible apply State.ite2_kept
    | with_reducible refine State.dite_kept (fun _ => ?_) (fun _ => ?_) | with_reducible apply State.id_kept
    | with_reducible refine Lands.dite (fun _ => ?_) (fun _ => ?_) | dsimp only [State.kept] | split

theorem execAxisPreset_kept {v_ : Kept} {t : Nat} {k : Kop} {a : Fin 8} {v : Nat} {s : State} (h_ : s.kept = v_) :
    Lands (fun x => x.kept = v_) (execAxisPreset t k a v s) := by
  unfold execAxisPreset
  repeat' first
    | with_reducible apply Lands.next | with_reducible apply Lands.ite | with_reducible assumption
    | (with_reducible refine State.command_kept (fun s w h => ?_) ?_) | with_reducible apply State.begin_kkept
    | with_reducible apply State.refuse_kept | with_reducible apply State.updAxis_kkept | with_reducible apply State.ite_kept
    | with_reducible apply State.ite1_kept | with_reducible apply State.ite2_kept
    | with_reducible refine Lands.dite (fun _ => ?_) (fun _ => ?_) | dsimp only [State.kept] | split

theorem execAxisClear_kept {v_ : Kept} {t : Nat} {k : Kop} {a : Fin 8} {s : State} (h_ : s.kept = v_) :
    Lands (fun x => x.kept = v_) (execAxisClear t k a s) := by
  unfold execAxisClear
  repeat' first
    | with_reducible apply Lands.next | with_reducible apply Lands.ite | with_reducible assumption
    | (with_reducible refine State.command_kept (fun s w h => ?_) ?_) | with_reducible apply State.begin_kkept
    | with_reducible apply State.updAxis_kkept | with_reducible apply State.ite_kept | with_reducible apply State.ite1_kept
    | with_reducible apply State.ite2_kept | with_reducible refine Lands.dite (fun _ => ?_) (fun _ => ?_)
    | dsimp only [State.kept] | split

theorem execAxisHome_kept {v_ : Kept} {t : Nat} {k : Kop} {a : Fin 8} {v : Nat} {s : State} (h_ : s.kept = v_) :
    Lands (fun x => x.kept = v_) (execAxisHome t k a v s) := by
  unfold execAxisHome
  repeat' first
    | with_reducible apply Lands.next | with_reducible apply Lands.ite | with_reducible assumption
    | (with_reducible refine State.command_kept (fun s w h => ?_) ?_) | with_reducible apply State.begin_kkept
    | with_reducible apply State.refuse_kept | with_reducible apply State.latchAxis_kept
    | with_reducible apply State.startMove_kept | with_reducible apply State.updAxis_kkept | with_reducible apply State.ite_kept
    | with_reducible apply State.ite1_kept | with_reducible apply State.ite2_kept
    | with_reducible refine Lands.dite (fun _ => ?_) (fun _ => ?_) | dsimp only [State.kept] | split

theorem State.homeEdge_kept {v_ : Kept} {s : State} {a : Fin 8} {stamp : Nat} (h_ : s.kept = v_) : (State.homeEdge s a stamp).kept = v_ := by
  unfold State.homeEdge
  repeat' first
    | with_reducible assumption | with_reducible apply State.updAxis_kkept | with_reducible apply State.beginStop_kept
    | with_reducible apply State.ite_kept | dsimp only [State.kept] | split

theorem State.hardStop_kept {v_ : Kept} {s : State} {a : Fin 8} {pos : Bool} (h_ : s.kept = v_) : (State.hardStop s a pos).kept = v_ := by
  unfold State.hardStop
  repeat' first
    | with_reducible assumption | with_reducible apply State.updAxis_kkept | with_reducible apply State.event_kept
    | with_reducible apply State.comeToRest_kept | with_reducible apply State.stateChanged_kept
    | with_reducible apply State.ite_kept | with_reducible refine State.foldl_kept (fun s x h => ?_) ?_
    | with_reducible refine State.dite_kept (fun _ => ?_) (fun _ => ?_) | with_reducible apply State.id_kept
    | dsimp only [State.kept] | split

theorem execSwitchEdge_kept {v_ : Kept} {t : Nat} {sw : Fin 16} {stamp : Nat} {level : Bool} {s : State} (h_ : s.kept = v_) :
    Lands (fun x => x.kept = v_) (execSwitchEdge t sw stamp level s) := by
  unfold execSwitchEdge
  repeat' first
    | with_reducible apply Lands.next | with_reducible apply Lands.ite | with_reducible assumption
    | with_reducible apply State.begin_kkept | with_reducible apply State.wake_kept | with_reducible apply State.homeEdge_kept
    | with_reducible apply State.hardStop_kept | with_reducible apply State.updAxis_kkept | with_reducible apply State.ite_kept
    | with_reducible apply State.ite1_kept | with_reducible apply State.ite2_kept
    | with_reducible refine State.dite_kept (fun _ => ?_) (fun _ => ?_) | with_reducible apply State.id_kept
    | with_reducible refine Lands.dite (fun _ => ?_) (fun _ => ?_) | dsimp only [State.kept] | split

theorem execFollowStart_kept {v_ : Kept} {t : Nat} {k : Kop} {a : Fin 8} {s : State} (h_ : s.kept = v_) :
    Lands (fun x => x.kept = v_) (execFollowStart t k a s) := by
  unfold execFollowStart
  repeat' first
    | with_reducible apply Lands.next | with_reducible apply Lands.ite | with_reducible assumption
    | (with_reducible refine State.command_kept (fun s w h => ?_) ?_) | with_reducible apply State.begin_kkept
    | with_reducible apply State.refuse_kept | with_reducible apply State.latchAxis_kept
    | with_reducible apply State.updAxis_kkept | with_reducible apply State.ite_kept | with_reducible apply State.ite1_kept
    | with_reducible apply State.ite2_kept | with_reducible refine Lands.dite (fun _ => ?_) (fun _ => ?_)
    | dsimp only [State.kept] | split

theorem execFollowEnd_kept {v_ : Kept} {t : Nat} {k : Kop} {a : Fin 8} {s : State} (h_ : s.kept = v_) :
    Lands (fun x => x.kept = v_) (execFollowEnd t k a s) := by
  unfold execFollowEnd
  repeat' first
    | with_reducible apply Lands.next | with_reducible apply Lands.ite | with_reducible assumption
    | (with_reducible refine State.command_kept (fun s w h => ?_) ?_) | with_reducible apply State.begin_kkept
    | with_reducible apply State.comeToRest_kept | with_reducible apply State.updAxis_kkept | with_reducible apply State.ite_kept
    | with_reducible apply State.ite1_kept | with_reducible apply State.ite2_kept
    | with_reducible refine State.dite_kept (fun _ => ?_) (fun _ => ?_) | with_reducible apply State.id_kept
    | with_reducible refine Lands.dite (fun _ => ?_) (fun _ => ?_) | dsimp only [State.kept] | split

theorem execCoarseStep_kept {v_ : Kept} {t : Nat} {a : Fin 8} {dir : Bool} {s : State} (h_ : s.kept = v_) :
    Lands (fun x => x.kept = v_) (execCoarseStep t a dir s) := by
  unfold execCoarseStep
  repeat' first
    | with_reducible apply Lands.next | with_reducible apply Lands.ite | with_reducible assumption
    | with_reducible apply State.begin_kkept | with_reducible apply State.updAxis_kkept | with_reducible apply State.hardStop_kept
    | with_reducible apply State.emit_kkept | with_reducible apply State.stopAxis_kept | with_reducible apply State.ite_kept
    | with_reducible apply State.ite1_kept | with_reducible apply State.ite2_kept
    | with_reducible refine Lands.dite (fun _ => ?_) (fun _ => ?_) | dsimp only [State.kept] | split

theorem execGroupMove_kept {v_ : Kept} {t : Nat} {k : Kop} {g : Fin 4} {targets : Nat} {s : State} (h_ : s.kept = v_) :
    Lands (fun x => x.kept = v_) (execGroupMove t k g targets s) := by
  unfold execGroupMove
  repeat' first
    | with_reducible apply Lands.next | with_reducible apply Lands.ite | with_reducible assumption
    | (with_reducible refine State.command_kept (fun s w h => ?_) ?_) | with_reducible apply State.begin_kkept
    | with_reducible apply State.refuse_kept | with_reducible apply State.latchAxis_kept
    | with_reducible apply State.updAxis_kkept | with_reducible apply State.turnTo_kept | with_reducible apply State.ite_kept
    | with_reducible refine State.foldl_kept (fun s x h => ?_) ?_ | with_reducible apply State.ite1_kept
    | with_reducible apply State.ite2_kept | with_reducible refine State.dite_kept (fun _ => ?_) (fun _ => ?_)
    | with_reducible apply State.id_kept | with_reducible refine Lands.dite (fun _ => ?_) (fun _ => ?_)
    | dsimp only [State.kept] | split

theorem State.phaseLost_kept {v_ : Kept} {s : State} {a : Fin 8} {code : Nat} (h_ : s.kept = v_) : (State.phaseLost s a code).kept = v_ := by
  unfold State.phaseLost
  repeat' first
    | with_reducible assumption | with_reducible apply State.comeToRest_kept | with_reducible apply State.driveEn_kept
    | with_reducible apply State.updAxis_kkept | with_reducible apply State.event_kept | with_reducible apply State.ite_kept
    | dsimp only [State.kept] | split

theorem State.beginRetain_kept {v_ : Kept} {s : State} {a : Fin 8} (h_ : s.kept = v_) : (State.beginRetain s a).kept = v_ := by
  unfold State.beginRetain
  repeat' first
    | with_reducible assumption | with_reducible apply State.updAxis_kkept | with_reducible apply State.emit_kkept
    | with_reducible apply State.ite_kept | dsimp only [State.kept] | split

theorem execAxisPowerDown_kept {v_ : Kept} {t : Nat} {k : Kop} {a : Fin 8} {s : State} (h_ : s.kept = v_) :
    Lands (fun x => x.kept = v_) (execAxisPowerDown t k a s) := by
  unfold execAxisPowerDown
  repeat' first
    | with_reducible apply Lands.next | with_reducible apply Lands.ite | with_reducible assumption
    | (with_reducible refine State.command_kept (fun s w h => ?_) ?_) | with_reducible apply State.begin_kkept
    | with_reducible apply State.refuse_kept | with_reducible apply State.beginRetain_kept | with_reducible apply State.ite_kept
    | with_reducible apply State.ite1_kept | with_reducible apply State.ite2_kept
    | with_reducible refine Lands.dite (fun _ => ?_) (fun _ => ?_) | dsimp only [State.kept] | split

theorem execRetRelease_kept {v_ : Kept} {t : Nat} {a : Fin 8} {s : State} (h_ : s.kept = v_) :
    Lands (fun x => x.kept = v_) (execRetRelease t a s) := by
  unfold execRetRelease
  repeat' first
    | with_reducible apply Lands.next | with_reducible apply Lands.ite | with_reducible assumption
    | with_reducible apply State.begin_kkept | with_reducible apply State.updAxis_kkept | with_reducible apply State.emit_kkept
    | with_reducible apply State.ite_kept | with_reducible apply State.ite1_kept | with_reducible apply State.ite2_kept
    | with_reducible refine Lands.dite (fun _ => ?_) (fun _ => ?_) | dsimp only [State.kept] | split

theorem execRetentionCheck_kept {v_ : Kept} {t : Nat} {a : Fin 8} {retLow : Bool} {s : State} (h_ : s.kept = v_) :
    Lands (fun x => x.kept = v_) (execRetentionCheck t a retLow s) := by
  unfold execRetentionCheck
  repeat' first
    | with_reducible apply Lands.next | with_reducible apply Lands.ite | with_reducible assumption
    | with_reducible apply State.begin_kkept | with_reducible apply State.updAxis_kkept
    | with_reducible apply State.phaseLost_kept | with_reducible apply State.ite_kept | with_reducible apply State.ite1_kept
    | with_reducible apply State.ite2_kept | with_reducible refine Lands.dite (fun _ => ?_) (fun _ => ?_)
    | dsimp only [State.kept] | split

theorem execRetentionComplete_kept {v_ : Kept} {t : Nat} {a : Fin 8} {s : State} (h_ : s.kept = v_) :
    Lands (fun x => x.kept = v_) (execRetentionComplete t a s) := by
  unfold execRetentionComplete
  repeat' first
    | with_reducible apply Lands.next | with_reducible apply Lands.ite | with_reducible assumption
    | with_reducible apply State.begin_kkept | with_reducible apply State.comeToRest_kept
    | with_reducible apply State.driveEn_kept | with_reducible apply State.updAxis_kkept | with_reducible apply State.ite_kept
    | with_reducible apply State.ite1_kept | with_reducible apply State.ite2_kept
    | with_reducible refine Lands.dite (fun _ => ?_) (fun _ => ?_) | dsimp only [State.kept] | split

theorem execRetentionTimeout_kept {v_ : Kept} {t : Nat} {a : Fin 8} {s : State} (h_ : s.kept = v_) :
    Lands (fun x => x.kept = v_) (execRetentionTimeout t a s) := by
  unfold execRetentionTimeout
  repeat' first
    | with_reducible apply Lands.next | with_reducible apply Lands.ite | with_reducible assumption
    | with_reducible apply State.begin_kkept | with_reducible apply State.phaseLost_kept | with_reducible apply State.ite_kept
    | with_reducible apply State.ite1_kept | with_reducible apply State.ite2_kept
    | with_reducible refine Lands.dite (fun _ => ?_) (fun _ => ?_) | dsimp only [State.kept] | split

theorem execDriverSupplyLoss_kept {v_ : Kept} {t : Nat} {a : Fin 8} {s : State} (h_ : s.kept = v_) :
    Lands (fun x => x.kept = v_) (execDriverSupplyLoss t a s) := by
  unfold execDriverSupplyLoss
  repeat' first
    | with_reducible apply Lands.next | with_reducible apply Lands.ite | with_reducible assumption
    | with_reducible apply State.begin_kkept | with_reducible apply State.stopGroup_kept
    | with_reducible apply State.phaseLost_kept | with_reducible apply State.ite_kept | with_reducible apply State.ite1_kept
    | with_reducible apply State.ite2_kept | with_reducible refine Lands.dite (fun _ => ?_) (fun _ => ?_)
    | dsimp only [State.kept] | split

theorem execFeedMoveStart_kept {v_ : Kept} {t : Nat} {z : Fin 8} {s : State} (h_ : s.kept = v_) :
    Lands (fun x => x.kept = v_) (execFeedMoveStart t z s) := by
  unfold execFeedMoveStart
  repeat' first
    | with_reducible apply Lands.next | with_reducible apply Lands.ite | with_reducible assumption
    | with_reducible apply State.begin_kkept | with_reducible apply State.updZone_kkept
    | with_reducible apply State.latchAxis_kept | with_reducible apply State.settleFeed_kept
    | with_reducible apply State.feedFailed_kept | with_reducible apply State.startMove_kept
    | with_reducible apply State.updAxis_kkept | with_reducible apply State.ite_kept | with_reducible apply State.ite1_kept
    | with_reducible apply State.ite2_kept | with_reducible refine State.dite_kept (fun _ => ?_) (fun _ => ?_)
    | with_reducible apply State.id_kept | with_reducible refine Lands.dite (fun _ => ?_) (fun _ => ?_)
    | dsimp only [State.kept] | split

theorem State.updCal_kkept {v_ : Kept} {s : State} {c : Fin 4} {f : EncCal → EncCal} (h_ : s.kept = v_) : (s.updCal c f).kept = v_ := h_

theorem State.nextCompute_kept {v_ : Kept} {s : State} (h_ : s.kept = v_) : (State.nextCompute s).kept = v_ := by
  unfold State.nextCompute
  repeat' first
    | with_reducible assumption | with_reducible apply State.updCal_kkept | with_reducible apply State.ite_kept
    | with_reducible refine State.foldl_kept (fun s x h => ?_) ?_ | dsimp only [State.kept] | split

theorem State.endEnc_kept {v_ : Kept} {s : State} {c : Fin 4} {result : Nat} (h_ : s.kept = v_) : (State.endEnc s c result).kept = v_ := by
  unfold State.endEnc
  repeat' first
    | with_reducible assumption | with_reducible apply State.updCal_kkept | with_reducible apply State.markReqs_kept
    | with_reducible apply State.nextCompute_kept | with_reducible apply State.startEnc_kept
    | with_reducible apply State.ite_kept | dsimp only [State.kept] | split

theorem State.abandonEnc_kept {v_ : Kept} {s : State} {c : Fin 4} (h_ : s.kept = v_) : (State.abandonEnc s c).kept = v_ := by
  unfold State.abandonEnc
  repeat' first
    | with_reducible assumption | with_reducible apply State.endEnc_kept | with_reducible apply State.ite_kept
    | dsimp only [State.kept] | split

theorem execCalibrationTemperatureCheck_kept {v_ : Kept} {t : Nat} {s : State} (h_ : s.kept = v_) :
    Lands (fun x => x.kept = v_) (execCalibrationTemperatureCheck t s) := by
  unfold execCalibrationTemperatureCheck
  repeat' first
    | with_reducible apply Lands.next | with_reducible apply Lands.ite | with_reducible assumption
    | with_reducible apply State.begin_kkept | with_reducible apply State.addDue_kept | with_reducible apply State.startEnc_kept
    | with_reducible apply State.ite_kept | with_reducible refine State.foldl_kept (fun s x h => ?_) ?_
    | with_reducible apply State.ite1_kept | with_reducible apply State.ite2_kept
    | with_reducible refine Lands.dite (fun _ => ?_) (fun _ => ?_) | dsimp only [State.kept] | split

theorem execEncoderCollectionComplete_kept {v_ : Kept} {t : Nat} {c : Fin 4} {s : State} (h_ : s.kept = v_) :
    Lands (fun x => x.kept = v_) (execEncoderCollectionComplete t c s) := by
  unfold execEncoderCollectionComplete
  repeat' first
    | with_reducible apply Lands.next | with_reducible apply Lands.ite | with_reducible assumption
    | with_reducible apply State.begin_kkept | with_reducible apply State.updCal_kkept
    | with_reducible apply State.nextCompute_kept | with_reducible apply State.ite_kept | with_reducible apply State.ite1_kept
    | with_reducible apply State.ite2_kept | with_reducible refine State.dite_kept (fun _ => ?_) (fun _ => ?_)
    | with_reducible apply State.id_kept | with_reducible refine Lands.dite (fun _ => ?_) (fun _ => ?_)
    | dsimp only [State.kept] | split

theorem execCollectionTimeout_kept {v_ : Kept} {t : Nat} {c : Fin 4} {s : State} (h_ : s.kept = v_) :
    Lands (fun x => x.kept = v_) (execCollectionTimeout t c s) := by
  unfold execCollectionTimeout
  repeat' first
    | with_reducible apply Lands.next | with_reducible apply Lands.ite | with_reducible assumption
    | with_reducible apply State.begin_kkept | with_reducible apply State.endEnc_kept | with_reducible apply State.ite_kept
    | with_reducible apply State.ite1_kept | with_reducible apply State.ite2_kept
    | with_reducible refine State.dite_kept (fun _ => ?_) (fun _ => ?_) | with_reducible apply State.id_kept
    | with_reducible refine Lands.dite (fun _ => ?_) (fun _ => ?_) | dsimp only [State.kept] | split

theorem execEncoderComputeDone_kept {v_ : Kept} {t : Nat} {c : Fin 4} {s : State} (h_ : s.kept = v_) :
    Lands (fun x => x.kept = v_) (execEncoderComputeDone t c s) := by
  unfold execEncoderComputeDone
  repeat' first
    | with_reducible apply Lands.next | with_reducible apply Lands.ite | with_reducible assumption
    | with_reducible apply State.begin_kkept | with_reducible apply State.updCal_kkept
    | with_reducible apply State.nextCompute_kept | with_reducible apply State.ite_kept | with_reducible apply State.ite1_kept
    | with_reducible apply State.ite2_kept | with_reducible refine Lands.dite (fun _ => ?_) (fun _ => ?_)
    | dsimp only [State.kept] | split

theorem execEncoderVerifyDone_kept {v_ : Kept} {t : Nat} {c : Fin 4} {s : State} (h_ : s.kept = v_) :
    Lands (fun x => x.kept = v_) (execEncoderVerifyDone t c s) := by
  unfold execEncoderVerifyDone
  repeat' first
    | with_reducible apply Lands.next | with_reducible apply Lands.ite | with_reducible assumption
    | with_reducible apply State.begin_kkept | with_reducible apply State.updCal_kkept | with_reducible apply State.endEnc_kept
    | with_reducible apply State.event_kept | with_reducible apply State.ite_kept | with_reducible apply State.ite1_kept
    | with_reducible apply State.ite2_kept | with_reducible refine State.dite_kept (fun _ => ?_) (fun _ => ?_)
    | with_reducible apply State.id_kept | with_reducible refine Lands.dite (fun _ => ?_) (fun _ => ?_)
    | dsimp only [State.kept] | split

theorem State.applyCorr_kept {v_ : Kept} {s : State} {c : Fin 4} {n : Corr} (h_ : s.kept = v_) : (State.applyCorr s c n).kept = v_ := by
  unfold State.applyCorr
  repeat' first
    | with_reducible assumption | with_reducible apply State.oapply_kept | with_reducible apply State.oput_kkept
    | with_reducible apply State.updChan_kkept | with_reducible apply State.countTo_kept | with_reducible apply State.updCal_kkept
    | with_reducible apply State.endEnc_kept | with_reducible apply State.event_kept | with_reducible apply State.ite_kept
    | with_reducible apply State.ite1_kept | with_reducible apply State.ite2_kept
    | with_reducible refine State.dite_kept (fun _ => ?_) (fun _ => ?_) | with_reducible apply State.id_kept
    | dsimp only [State.kept] | split

theorem execCalibrationApply_kept {v_ : Kept} {t : Nat} {c : Fin 4} {s : State} (h_ : s.kept = v_) :
    Lands (fun x => x.kept = v_) (execCalibrationApply t c s) := by
  unfold execCalibrationApply
  repeat' first
    | with_reducible apply Lands.next | with_reducible apply Lands.ite | with_reducible assumption
    | with_reducible apply State.begin_kkept | with_reducible apply State.applyCorr_kept | with_reducible apply State.ite_kept
    | with_reducible apply State.ite1_kept | with_reducible apply State.ite2_kept
    | with_reducible refine Lands.dite (fun _ => ?_) (fun _ => ?_) | dsimp only [State.kept] | split

theorem execApplyTimeout_kept {v_ : Kept} {t : Nat} {c : Fin 4} {s : State} (h_ : s.kept = v_) :
    Lands (fun x => x.kept = v_) (execApplyTimeout t c s) := by
  unfold execApplyTimeout
  repeat' first
    | with_reducible apply Lands.next | with_reducible apply Lands.ite | with_reducible assumption
    | with_reducible apply State.begin_kkept | with_reducible apply State.endEnc_kept
    | with_reducible apply State.faultEvent_kept | with_reducible apply State.ite_kept | with_reducible apply State.ite1_kept
    | with_reducible apply State.ite2_kept | with_reducible refine Lands.dite (fun _ => ?_) (fun _ => ?_)
    | dsimp only [State.kept] | split

theorem State.startLane_kept {v_ : Kept} {s : State} {l : Fin 16} {d : DueRun} (h_ : s.kept = v_) : (State.startLane s l d).kept = v_ := by
  unfold State.startLane
  repeat' first
    | with_reducible assumption | (with_reducible refine State.write_kept (fun s w h => ?_) ?_)
    | with_reducible apply State.dropDue_kept | with_reducible apply State.markReqs_kept
    | with_reducible apply State.updLane_kkept | with_reducible apply State.beginMove_kept | with_reducible apply State.ite_kept
    | with_reducible refine State.dite_kept (fun _ => ?_) (fun _ => ?_) | with_reducible apply State.id_kept
    | dsimp only [State.kept] | split

theorem State.tryLane_kept {v_ : Kept} {s : State} {l : Fin 16} {lane : Nat} (h_ : s.kept = v_) : (State.tryLane s l lane).kept = v_ := by
  unfold State.tryLane
  repeat' first
    | with_reducible assumption | with_reducible apply State.startLane_kept | with_reducible apply State.ite_kept
    | dsimp only [State.kept] | split

theorem execReceiveRunStart_kept {v_ : Kept} {t : Nat} {l : Fin 16} {lane : Fin 2} {s : State} (h_ : s.kept = v_) :
    Lands (fun x => x.kept = v_) (execReceiveRunStart t l lane s) := by
  unfold execReceiveRunStart
  repeat' first
    | with_reducible apply Lands.next | with_reducible apply Lands.ite | with_reducible assumption
    | with_reducible apply State.begin_kkept | with_reducible apply State.tryLane_kept | with_reducible apply State.ite_kept
    | with_reducible apply State.ite1_kept | with_reducible apply State.ite2_kept
    | with_reducible refine Lands.dite (fun _ => ?_) (fun _ => ?_) | dsimp only [State.kept] | split

theorem execTransmitRunStart_kept {v_ : Kept} {t : Nat} {l : Fin 16} {lane : Fin 3} {s : State} (h_ : s.kept = v_) :
    Lands (fun x => x.kept = v_) (execTransmitRunStart t l lane s) := by
  unfold execTransmitRunStart
  repeat' first
    | with_reducible apply Lands.next | with_reducible apply Lands.ite | with_reducible assumption
    | with_reducible apply State.begin_kkept | with_reducible apply State.tryLane_kept | with_reducible apply State.ite_kept
    | with_reducible apply State.ite1_kept | with_reducible apply State.ite2_kept
    | with_reducible refine Lands.dite (fun _ => ?_) (fun _ => ?_) | dsimp only [State.kept] | split

theorem State.laneRef_kept {v_ : Kept} {s : State} {l : Fin 16} {lane : Nat} (h_ : s.kept = v_) : (State.laneRef s l lane).kept = v_ := by
  unfold State.laneRef
  repeat' first
    | with_reducible assumption | with_reducible apply State.updLane_kkept | with_reducible apply State.ite_kept
    | dsimp only [State.kept] | split

theorem execReceiveRunComplete_kept {v_ : Kept} {t : Nat} {l : Fin 16} {openOff oldEye : Nat} {s : State} (h_ : s.kept = v_) :
    Lands (fun x => x.kept = v_) (execReceiveRunComplete t l openOff oldEye s) := by
  unfold execReceiveRunComplete
  repeat' first
    | with_reducible apply Lands.next | with_reducible apply Lands.ite | with_reducible assumption
    | (with_reducible refine State.write_kept (fun s w h => ?_) ?_) | with_reducible apply State.begin_kkept
    | with_reducible apply State.oapply_kept | with_reducible apply State.endLane_kept | with_reducible apply State.oput_kkept
    | with_reducible apply State.laneRef_kept | with_reducible apply State.updLane_kkept | with_reducible apply State.event_kept
    | with_reducible apply State.ite_kept | with_reducible apply State.ite1_kept | with_reducible apply State.ite2_kept
    | with_reducible refine Lands.dite (fun _ => ?_) (fun _ => ?_) | dsimp only [State.kept] | split

theorem execBlockLockLost_kept {v_ : Kept} {t : Nat} {l : Fin 16} {x : LaneHeaders} {s : State} (h_ : s.kept = v_) :
    Lands (fun x => x.kept = v_) (execBlockLockLost t l x s) := by
  unfold execBlockLockLost
  repeat' first
    | with_reducible apply Lands.next | with_reducible apply Lands.ite | with_reducible assumption
    | with_reducible apply State.begin_kkept | with_reducible apply State.updPort_kkept | with_reducible apply State.endLane_kept
    | with_reducible apply State.ite_kept | with_reducible apply State.ite1_kept | with_reducible apply State.ite2_kept
    | with_reducible refine Lands.dite (fun _ => ?_) (fun _ => ?_) | dsimp only [State.kept] | split

theorem State.endTransmit_kept {v_ : Kept} {s : State} {l : Fin 16} (h_ : s.kept = v_) : (State.endTransmit s l).kept = v_ := by
  unfold State.endTransmit
  repeat' first
    | with_reducible assumption | (with_reducible refine State.write_kept (fun s w h => ?_) ?_)
    | with_reducible apply State.oapply_kept | with_reducible apply State.oput_kkept | with_reducible apply State.laneRef_kept
    | with_reducible apply State.endLane_kept | with_reducible apply State.event_kept | with_reducible apply State.ite_kept
    | dsimp only [State.kept] | split

theorem State.checkLocked_kept {v_ : Kept} {s : State} {l : Fin 16} (h_ : s.kept = v_) : (State.checkLocked s l).kept = v_ := by
  unfold State.checkLocked
  repeat' first
    | with_reducible assumption | with_reducible apply State.updLane_kkept | with_reducible apply State.beginMove_kept
    | with_reducible apply State.endTransmit_kept | with_reducible apply State.ite_kept | dsimp only [State.kept] | split

theorem State.sendAgain_kept {v_ : Kept} {s : State} {l : Fin 16} {lane : Nat} (h_ : s.kept = v_) : (State.sendAgain s l lane).kept = v_ := by
  unfold State.sendAgain
  repeat' first
    | with_reducible assumption | with_reducible apply State.openFree_kept | with_reducible apply State.send_kept
    | with_reducible apply State.ite_kept | dsimp only [State.kept] | split

theorem execTerminationCalibrationDone_kept {v_ : Kept} {t : Nat} {l : Fin 16} {code : Nat} {s : State} (h_ : s.kept = v_) :
    Lands (fun x => x.kept = v_) (execTerminationCalibrationDone t l code s) := by
  unfold execTerminationCalibrationDone
  repeat' first
    | with_reducible apply Lands.next | with_reducible apply Lands.ite | with_reducible assumption
    | (with_reducible refine State.write_kept (fun s w h => ?_) ?_) | with_reducible apply State.begin_kkept
    | with_reducible apply State.idleLanes_kept | with_reducible apply State.updLane_kkept
    | with_reducible apply State.sendAgain_kept | with_reducible apply State.checkLocked_kept
    | with_reducible apply State.ite_kept | with_reducible apply State.ite1_kept | with_reducible apply State.ite2_kept
    | with_reducible refine State.dite_kept (fun _ => ?_) (fun _ => ?_) | with_reducible apply State.id_kept
    | with_reducible refine Lands.dite (fun _ => ?_) (fun _ => ?_) | dsimp only [State.kept] | split

theorem execTransmitLockTimeout_kept {v_ : Kept} {t : Nat} {l : Fin 16} {s : State} (h_ : s.kept = v_) :
    Lands (fun x => x.kept = v_) (execTransmitLockTimeout t l s) := by
  unfold execTransmitLockTimeout
  repeat' first
    | with_reducible apply Lands.next | with_reducible apply Lands.ite | with_reducible assumption
    | with_reducible apply State.begin_kkept | with_reducible apply State.updLane_kkept | with_reducible apply State.endLane_kept
    | with_reducible apply State.event_kept | with_reducible apply State.ite_kept | with_reducible apply State.ite1_kept
    | with_reducible apply State.ite2_kept | with_reducible refine Lands.dite (fun _ => ?_) (fun _ => ?_)
    | dsimp only [State.kept] | split

theorem State.stopLaneRun_kept {v_ : Kept} {s : State} {l : Fin 16} (h_ : s.kept = v_) : (State.stopLaneRun s l).kept = v_ := by
  unfold State.stopLaneRun
  repeat' first
    | with_reducible assumption | with_reducible apply State.endLane_kept | with_reducible apply State.updPort_kkept
    | with_reducible apply State.beginMove_kept | with_reducible apply State.ite_kept | dsimp only [State.kept] | split

theorem State.moveLane_kept {v_ : Kept} {s : State} {l : Fin 16} {logical target reason : Nat} (h_ : s.kept = v_) : (State.moveLane s l logical target reason).kept = v_ := by
  unfold State.moveLane
  repeat' first
    | with_reducible assumption | with_reducible apply State.idleLanes_kept | with_reducible apply State.send_kept
    | with_reducible apply State.updPort_kkept | with_reducible apply State.openFree_kept | with_reducible apply State.ite_kept
    | with_reducible apply State.ite1_kept | with_reducible apply State.ite2_kept
    | with_reducible refine State.dite_kept (fun _ => ?_) (fun _ => ?_) | with_reducible apply State.id_kept
    | dsimp only [State.kept] | split

theorem execLaneMove_kept {v_ : Kept} {t : Nat} {l : Fin 16} {s : State} (h_ : s.kept = v_) :
    Lands (fun x => x.kept = v_) (execLaneMove t l s) := by
  unfold execLaneMove
  repeat' first
    | with_reducible apply Lands.next | with_reducible apply Lands.ite | with_reducible assumption
    | with_reducible apply State.begin_kkept | with_reducible apply State.moveLane_kept | with_reducible apply State.event_kept
    | with_reducible apply State.updLane_kkept | with_reducible apply State.endTransmit_kept
    | with_reducible apply State.ite_kept | with_reducible apply State.ite1_kept | with_reducible apply State.ite2_kept
    | with_reducible refine Lands.dite (fun _ => ?_) (fun _ => ?_) | dsimp only [State.kept] | split

theorem State.countLock_kept {v_ : Kept} {s : State} {l : Fin 16} {a : Fin 9} {lanes : Nat} (h_ : s.kept = v_) : (State.countLock s l a lanes).kept = v_ := by
  unfold State.countLock
  repeat' first
    | with_reducible assumption | with_reducible apply State.updLane_kkept | with_reducible apply State.checkLocked_kept
    | with_reducible apply State.ite_kept | dsimp only [State.kept] | split

theorem State.farSide_kept {v_ : Kept} {s : State} {c : Fin 16} {a : Fin 9} {lanes : Nat} (h_ : s.kept = v_) : (State.farSide s c a lanes).kept = v_ := by
  unfold State.farSide
  repeat' first
    | with_reducible assumption | with_reducible apply State.updNode_kkept | with_reducible apply State.chainTooLong_kept
    | with_reducible apply State.ite_kept | dsimp only [State.kept] | split

theorem execStatusFrame_kept {v_ : Kept} {t : Nat} {l : Fin 16} {r : StatusRep} {s : State} (h_ : s.kept = v_) :
    Lands (fun x => x.kept = v_) (execStatusFrame t l r s) := by
  unfold execStatusFrame
  repeat' first
    | with_reducible apply Lands.next | with_reducible apply Lands.ite | with_reducible assumption
    | with_reducible apply State.begin_kkept | with_reducible apply State.updPort_kkept | with_reducible apply State.updNode_kkept
    | with_reducible apply State.farSide_kept | with_reducible apply State.setChainLink_kept
    | with_reducible apply State.startReads_kept | with_reducible apply State.countLock_kept
    | with_reducible apply State.laneFail_kept | with_reducible apply State.headReport_kept
    | with_reducible apply State.ite_kept | with_reducible refine State.foldl_kept (fun s x h => ?_) ?_
    | with_reducible apply State.ite1_kept | with_reducible apply State.ite2_kept
    | with_reducible refine State.dite_kept (fun _ => ?_) (fun _ => ?_) | with_reducible apply State.id_kept
    | with_reducible refine Lands.dite (fun _ => ?_) (fun _ => ?_) | dsimp only [State.kept] | split

theorem State.updReq_kkept {v_ : Kept} {s : State} {i : Fin 16} {f : ReqSlot → ReqSlot} (h_ : s.kept = v_) : (s.updReq i f).kept = v_ := h_

theorem State.acceptReq_kept {v_ : Kept} {s : State} {i : Fin 16} {kind target deadline result : Nat} (h_ : s.kept = v_) : (State.acceptReq s i kind target deadline result).kept = v_ := by
  unfold State.acceptReq
  repeat' first
    | with_reducible assumption | with_reducible apply State.updReq_kkept | with_reducible apply State.ite_kept
    | dsimp only [State.kept] | split

theorem execRequestCancel_kept {v_ : Kept} {t : Nat} {k : Kop} {slot : Fin 16} {s : State} (h_ : s.kept = v_) :
    Lands (fun x => x.kept = v_) (execRequestCancel t k slot s) := by
  unfold execRequestCancel
  repeat' first
    | with_reducible apply Lands.next | with_reducible apply Lands.ite | with_reducible assumption
    | (with_reducible refine State.command_kept (fun s w h => ?_) ?_) | with_reducible apply State.begin_kkept
    | with_reducible apply State.refuse_kept | with_reducible apply State.updReq_kkept | with_reducible apply State.pruneDue_kept
    | with_reducible apply State.ite_kept | with_reducible apply State.ite1_kept | with_reducible apply State.ite2_kept
    | with_reducible refine Lands.dite (fun _ => ?_) (fun _ => ?_) | dsimp only [State.kept] | split

theorem execRequestEncoderCal_kept {v_ : Kept} {t : Nat} {k : Kop} {slot : Fin 16} {target deadline : Nat} {s : State} (h_ : s.kept = v_) :
    Lands (fun x => x.kept = v_) (execRequestEncoderCal t k slot target deadline s) := by
  unfold execRequestEncoderCal
  repeat' first
    | with_reducible apply Lands.next | with_reducible apply Lands.ite | with_reducible assumption
    | (with_reducible refine State.command_kept (fun s w h => ?_) ?_) | with_reducible apply State.begin_kkept
    | with_reducible apply State.refuse_kept | with_reducible apply State.acceptReq_kept
    | with_reducible apply State.addDue_kept | with_reducible apply State.startEnc_kept | with_reducible apply State.ite_kept
    | with_reducible apply State.ite1_kept | with_reducible apply State.ite2_kept
    | with_reducible refine State.dite_kept (fun _ => ?_) (fun _ => ?_) | with_reducible apply State.id_kept
    | with_reducible refine Lands.dite (fun _ => ?_) (fun _ => ?_) | dsimp only [State.kept] | split

theorem execRequestLaneCal_kept {v_ : Kept} {t : Nat} {k : Kop} {slot : Fin 16} {target deadline : Nat} {s : State} (h_ : s.kept = v_) :
    Lands (fun x => x.kept = v_) (execRequestLaneCal t k slot target deadline s) := by
  unfold execRequestLaneCal
  repeat' first
    | with_reducible apply Lands.next | with_reducible apply Lands.ite | with_reducible assumption
    | (with_reducible refine State.command_kept (fun s w h => ?_) ?_) | with_reducible apply State.begin_kkept
    | with_reducible apply State.refuse_kept | with_reducible apply State.acceptReq_kept
    | with_reducible apply State.addDue_kept | with_reducible apply State.ite_kept | with_reducible apply State.ite1_kept
    | with_reducible apply State.ite2_kept | with_reducible refine Lands.dite (fun _ => ?_) (fun _ => ?_)
    | dsimp only [State.kept] | split

theorem execRequestElementScan_kept {v_ : Kept} {t : Nat} {k : Kop} {slot : Fin 16} {target deadline : Nat} {s : State} (h_ : s.kept = v_) :
    Lands (fun x => x.kept = v_) (execRequestElementScan t k slot target deadline s) := by
  unfold execRequestElementScan
  repeat' first
    | with_reducible apply Lands.next | with_reducible apply Lands.ite | with_reducible assumption
    | (with_reducible refine State.command_kept (fun s w h => ?_) ?_) | with_reducible apply State.begin_kkept
    | with_reducible apply State.refuse_kept | with_reducible apply State.acceptReq_kept | with_reducible apply State.ite_kept
    | with_reducible apply State.ite1_kept | with_reducible apply State.ite2_kept
    | with_reducible refine State.dite_kept (fun _ => ?_) (fun _ => ?_) | with_reducible apply State.id_kept
    | with_reducible refine Lands.dite (fun _ => ?_) (fun _ => ?_) | dsimp only [State.kept] | split

theorem execRequestDeadline_kept {v_ : Kept} {t : Nat} {slot : Fin 16} {s : State} (h_ : s.kept = v_) :
    Lands (fun x => x.kept = v_) (execRequestDeadline t slot s) := by
  unfold execRequestDeadline
  repeat' first
    | with_reducible apply Lands.next | with_reducible apply Lands.ite | with_reducible assumption
    | with_reducible apply State.begin_kkept | with_reducible apply State.updReq_kkept | with_reducible apply State.pruneDue_kept
    | with_reducible apply State.event_kept | with_reducible apply State.ite_kept | with_reducible apply State.ite1_kept
    | with_reducible apply State.ite2_kept | with_reducible refine Lands.dite (fun _ => ?_) (fun _ => ?_)
    | dsimp only [State.kept] | split

theorem execCalibrationValueWrite_kept {v_ : Kept} {t : Nat} {k : Kop} {index sub v : Nat} {s : State} (h_ : s.kept = v_) :
    Lands (fun x => x.kept = v_) (execCalibrationValueWrite t k index sub v s) := by
  unfold execCalibrationValueWrite
  repeat' first
    | with_reducible apply Lands.next | with_reducible apply Lands.ite | with_reducible assumption
    | (with_reducible refine State.write_kept (fun s w h => ?_) ?_) | with_reducible apply State.begin_kkept
    | with_reducible apply State.updCal_kkept | with_reducible apply State.applyCorr_kept
    | with_reducible apply State.addDue_kept | with_reducible apply State.laneRef_kept | with_reducible apply State.ite_kept
    | with_reducible apply State.ite1_kept | with_reducible apply State.ite2_kept
    | with_reducible refine Lands.dite (fun _ => ?_) (fun _ => ?_) | dsimp only [State.kept] | split

theorem execAutoCalibrationWrite_kept {v_ : Kept} {t : Nat} {k : Kop} {index sub v : Nat} {s : State} (h_ : s.kept = v_) :
    Lands (fun x => x.kept = v_) (execAutoCalibrationWrite t k index sub v s) := by
  unfold execAutoCalibrationWrite
  repeat' first
    | with_reducible apply Lands.next | with_reducible apply Lands.ite | with_reducible assumption
    | (with_reducible refine State.write_kept (fun s w h => ?_) ?_) | with_reducible apply State.begin_kkept
    | with_reducible apply State.oapply_kept | with_reducible apply State.unAuto_kept | with_reducible apply State.pruneDue_kept
    | with_reducible apply State.abandonEnc_kept | with_reducible apply State.stopLaneRun_kept
    | with_reducible apply State.ite_kept | with_reducible refine State.foldl_kept (fun s x h => ?_) ?_
    | with_reducible apply State.ite1_kept | with_reducible apply State.ite2_kept
    | with_reducible refine Lands.dite (fun _ => ?_) (fun _ => ?_) | dsimp only [State.kept] | split

theorem State.schedule_kept {v_ : Kept} {s : State} {tick : Nat} {board : Bool} (h_ : s.kept = v_) : (State.schedule s tick board).kept = v_ := by
  unfold State.schedule
  repeat' first
    | with_reducible assumption | with_reducible apply State.ite_kept | dsimp only [State.kept] | split

theorem State.stepTimer_kept {v_ : Kept} {s : State} {d : Int} (h_ : s.kept = v_) : (State.stepTimer s d).kept = v_ := by
  unfold State.stepTimer
  repeat' first
    | with_reducible assumption | with_reducible apply State.ite_kept | dsimp only [State.kept] | split

theorem State.updSync_kkept {v_ : Kept} {s : State} {f : Sync → Sync} (h_ : s.kept = v_) : (s.updSync f).kept = v_ := h_

theorem State.align_kept {v_ : Kept} {s : State} {f : SyncFrame} (h_ : s.kept = v_) : (State.align s f).kept = v_ := by
  unfold State.align
  repeat' first
    | with_reducible assumption | with_reducible apply State.updSync_kkept | with_reducible apply State.stepTimer_kept
    | with_reducible apply State.ite_kept | with_reducible refine State.dite_kept (fun _ => ?_) (fun _ => ?_)
    | with_reducible apply State.id_kept | dsimp only [State.kept] | split

theorem execSyncFrameSend_kept {v_ : Kept} {t : Nat} {p : Fin 2} {s : State} (h_ : s.kept = v_) :
    Lands (fun x => x.kept = v_) (execSyncFrameSend t p s) := by
  unfold execSyncFrameSend
  repeat' first
    | with_reducible apply Lands.next | with_reducible apply Lands.ite | with_reducible assumption
    | with_reducible apply State.begin_kkept | with_reducible apply State.emit_kkept | with_reducible apply State.updSync_kkept
    | with_reducible apply State.ite_kept | with_reducible apply State.ite1_kept | with_reducible apply State.ite2_kept
    | with_reducible refine Lands.dite (fun _ => ?_) (fun _ => ?_) | dsimp only [State.kept] | split

theorem State.takeBp_kept {v_ : Kept} {s : State} {p j : Fin 2} {valid : Bool} {pos : Int} {age tx : Nat} (h_ : s.kept = v_) : (State.takeBp s p j valid pos age tx).kept = v_ := by
  unfold State.takeBp
  repeat' first
    | with_reducible assumption | with_reducible apply State.event_kept | with_reducible apply State.updSync_kkept
    | with_reducible apply State.onCount_kept | with_reducible apply State.ite_kept
    | with_reducible refine State.foldl_kept (fun s x h => ?_) ?_
    | with_reducible refine State.dite_kept (fun _ => ?_) (fun _ => ?_) | with_reducible apply State.id_kept
    | dsimp only [State.kept] | split

theorem State.sawPeer_kept {v_ : Kept} {s : State} {p : Fin 2} (h_ : s.kept = v_) : (State.sawPeer s p).kept = v_ := by
  unfold State.sawPeer
  repeat' first
    | with_reducible assumption | with_reducible apply State.updSync_kkept | with_reducible apply State.ite_kept
    | dsimp only [State.kept] | split

theorem State.goPassive_kept {v_ : Kept} {s : State} {p : Fin 2} {seen : Nat} (h_ : s.kept = v_) : (State.goPassive s p seen).kept = v_ := by
  unfold State.goPassive
  repeat' first
    | with_reducible assumption | with_reducible apply State.updSync_kkept | with_reducible apply State.event_kept
    | with_reducible apply State.checkSources_kept | with_reducible apply State.ite_kept | dsimp only [State.kept] | split

theorem execSyncFrameReceive_kept {v_ : Kept} {t : Nat} {p : Fin 2} {f : SyncFrame} {s : State} (h_ : s.kept = v_) :
    Lands (fun x => x.kept = v_) (execSyncFrameReceive t p f s) := by
  unfold execSyncFrameReceive
  repeat' first
    | with_reducible apply Lands.next | with_reducible apply Lands.ite | with_reducible assumption
    | with_reducible apply State.begin_kkept | with_reducible apply State.updSync_kkept | with_reducible apply State.sawPeer_kept
    | with_reducible apply State.goPassive_kept | with_reducible apply State.align_kept
    | with_reducible apply State.schedule_kept | with_reducible apply State.takeBp_kept
    | with_reducible apply State.checkSources_kept | with_reducible apply State.updateLine_kept
    | with_reducible apply State.ite_kept | with_reducible apply State.ite1_kept | with_reducible apply State.ite2_kept
    | with_reducible refine State.dite_kept (fun _ => ?_) (fun _ => ?_) | with_reducible apply State.id_kept
    | with_reducible refine Lands.dite (fun _ => ?_) (fun _ => ?_) | dsimp only [State.kept] | split

theorem execFireTimerStep_kept {v_ : Kept} {t : Nat} {s : State} (h_ : s.kept = v_) :
    Lands (fun x => x.kept = v_) (execFireTimerStep t s) := by
  unfold execFireTimerStep
  repeat' first
    | with_reducible apply Lands.next | with_reducible apply Lands.ite | with_reducible assumption
    | with_reducible apply State.begin_kkept | with_reducible apply State.stepTimer_kept
    | with_reducible apply State.updSync_kkept | with_reducible apply State.ite_kept | with_reducible apply State.ite1_kept
    | with_reducible apply State.ite2_kept | with_reducible refine Lands.dite (fun _ => ?_) (fun _ => ?_)
    | dsimp only [State.kept] | split

theorem execSyncHoldover_kept {v_ : Kept} {t : Nat} {s : State} (h_ : s.kept = v_) :
    Lands (fun x => x.kept = v_) (execSyncHoldover t s) := by
  unfold execSyncHoldover
  repeat' first
    | with_reducible apply Lands.next | with_reducible apply Lands.ite | with_reducible assumption
    | with_reducible apply State.begin_kkept | with_reducible apply State.align_kept | with_reducible apply State.updSync_kkept
    | with_reducible apply State.checkSources_kept | with_reducible apply State.updateLine_kept
    | with_reducible apply State.ite_kept | with_reducible apply State.ite1_kept | with_reducible apply State.ite2_kept
    | with_reducible refine State.dite_kept (fun _ => ?_) (fun _ => ?_) | with_reducible apply State.id_kept
    | with_reducible refine Lands.dite (fun _ => ?_) (fun _ => ?_) | dsimp only [State.kept] | split

theorem execSyncStartupEnd_kept {v_ : Kept} {t : Nat} {s : State} (h_ : s.kept = v_) :
    Lands (fun x => x.kept = v_) (execSyncStartupEnd t s) := by
  unfold execSyncStartupEnd
  repeat' first
    | with_reducible apply Lands.next | with_reducible apply Lands.ite | with_reducible assumption
    | with_reducible apply State.begin_kkept | with_reducible apply State.updSync_kkept
    | with_reducible apply State.faultEvent_kept | with_reducible apply State.ite_kept | with_reducible apply State.ite1_kept
    | with_reducible apply State.ite2_kept | with_reducible refine Lands.dite (fun _ => ?_) (fun _ => ?_)
    | dsimp only [State.kept] | split

theorem execBoardFaultAssert_kept {v_ : Kept} {t : Nat} {k : Kop} {v : Nat} {s : State} (h_ : s.kept = v_) :
    Lands (fun x => x.kept = v_) (execBoardFaultAssert t k v s) := by
  unfold execBoardFaultAssert
  repeat' first
    | with_reducible apply Lands.next | with_reducible apply Lands.ite | with_reducible assumption
    | (with_reducible refine State.write_kept (fun s w h => ?_) ?_) | with_reducible apply State.begin_kkept
    | with_reducible apply State.oapply_kept | with_reducible apply State.updSync_kkept
    | with_reducible apply State.updateLine_kept | with_reducible apply State.ite_kept | with_reducible apply State.ite1_kept
    | with_reducible apply State.ite2_kept | with_reducible refine Lands.dite (fun _ => ?_) (fun _ => ?_)
    | dsimp only [State.kept] | split

theorem State.selectPtp_kept {v_ : Kept} {s : State} (h_ : s.kept = v_) : (State.selectPtp s).kept = v_ := by
  unfold State.selectPtp
  repeat' first
    | with_reducible assumption | with_reducible apply State.ite_kept | dsimp only [State.kept] | split

theorem State.ptpSync_kept {v_ : Kept} {s : State} {p : Fin 4} {rx origin : Nat} (h_ : s.kept = v_) : (State.ptpSync s p rx origin).kept = v_ := by
  unfold State.ptpSync
  repeat' first
    | with_reducible assumption | with_reducible apply State.ethOut_kept | with_reducible apply State.emit_kkept
    | with_reducible apply State.ite_kept | dsimp only [State.kept] | split

theorem State.ptpFresh_kept {v_ : Kept} {s : State} (h_ : s.kept = v_) : (State.ptpFresh s).kept = v_ := by
  unfold State.ptpFresh
  repeat' first
    | with_reducible assumption | with_reducible apply State.ite_kept | dsimp only [State.kept] | split

theorem State.ptpAnnounce_kept {v_ : Kept} {s : State} {m : PtpMsg} (h_ : s.kept = v_) : (State.ptpAnnounce s m).kept = v_ := by
  unfold State.ptpAnnounce
  repeat' first
    | with_reducible assumption | with_reducible apply State.ite_kept | with_reducible apply State.ite1_kept
    | with_reducible apply State.ite2_kept | with_reducible refine State.dite_kept (fun _ => ?_) (fun _ => ?_)
    | with_reducible apply State.id_kept | dsimp only [State.kept] | split

theorem execPtpMessage_kept {v_ : Kept} {t : Nat} {p : Fin 4} {m : PtpMsg} {s : State} (h_ : s.kept = v_) :
    Lands (fun x => x.kept = v_) (execPtpMessage t p m s) := by
  unfold execPtpMessage
  repeat' first
    | with_reducible apply Lands.next | with_reducible apply Lands.ite | with_reducible assumption
    | with_reducible apply State.begin_kkept | with_reducible apply State.frameIn_kept | with_reducible apply State.ptpFresh_kept
    | with_reducible apply State.ptpAnnounce_kept | with_reducible apply State.ptpSync_kept
    | with_reducible apply State.ethOut_kept | with_reducible apply State.emit_kkept | with_reducible apply State.ite_kept
    | with_reducible apply State.ite1_kept | with_reducible apply State.ite2_kept
    | (refine State.frameIn_to_kept (by with_reducible assumption) ?_)
    | with_reducible refine Lands.dite (fun _ => ?_) (fun _ => ?_) | dsimp only [State.kept] | split

theorem execHostLinkUp_kept {v_ : Kept} {t : Nat} {x : PcsReport} {s : State} (h_ : s.kept = v_) :
    Lands (fun x => x.kept = v_) (execHostLinkUp t x s) := by
  unfold execHostLinkUp
  repeat' first
    | with_reducible apply Lands.next | with_reducible apply Lands.ite | with_reducible assumption
    | with_reducible apply State.begin_kkept | with_reducible apply State.flushTx_kept
    | with_reducible apply State.selectPtp_kept | with_reducible apply State.ite_kept
    | with_reducible refine State.foldl_kept (fun s x h => ?_) ?_ | with_reducible apply State.ite1_kept
    | with_reducible apply State.ite2_kept | with_reducible refine Lands.dite (fun _ => ?_) (fun _ => ?_)
    | dsimp only [State.kept] | split

theorem execHostLinkDown_kept {v_ : Kept} {t : Nat} {x : PcsReport} {s : State} (h_ : s.kept = v_) :
    Lands (fun x => x.kept = v_) (execHostLinkDown t x s) := by
  unfold execHostLinkDown
  repeat' first
    | with_reducible apply Lands.next | with_reducible apply Lands.ite | with_reducible assumption
    | with_reducible apply State.begin_kkept | with_reducible apply State.selectPtp_kept | with_reducible apply State.ite_kept
    | with_reducible apply State.ite1_kept | with_reducible apply State.ite2_kept
    | with_reducible refine Lands.dite (fun _ => ?_) (fun _ => ?_) | dsimp only [State.kept] | split

theorem State.sendHeld_kept {v_ : Kept} {s : State} {z : Fin 8} (h_ : s.kept = v_) : (State.sendHeld s z).kept = v_ := by
  unfold State.sendHeld
  repeat' first
    | with_reducible assumption | with_reducible apply State.sendSeq_kept | with_reducible apply State.ite_kept
    | dsimp only [State.kept] | split

theorem State.sendOutcomes_kept {v_ : Kept} {s : State} {i : Fin 32} {z : Nat} {rs : List Nat} (h_ : s.kept = v_) : (State.sendOutcomes s i z rs).kept = v_ := by
  unfold State.sendOutcomes
  repeat' first
    | with_reducible assumption | with_reducible apply State.sendSeq_kept | with_reducible apply State.ite_kept
    | with_reducible refine State.foldl_kept (fun s x h => ?_) ?_ | dsimp only [State.kept] | split

theorem State.holdOutcomes_kept {v_ : Kept} {s : State} {rs : List Nat} (h_ : s.kept = v_) : (State.holdOutcomes s rs).kept = v_ := by
  unfold State.holdOutcomes
  repeat' first
    | with_reducible assumption | with_reducible apply State.updItem_kkept | with_reducible apply State.ite_kept
    | with_reducible refine State.foldl_kept (fun s x h => ?_) ?_ | dsimp only [State.kept] | split

theorem State.passOutcomes_kept {v_ : Kept} {s : State} {rs : List Nat} (h_ : s.kept = v_) : (State.passOutcomes s rs).kept = v_ := by
  unfold State.passOutcomes
  repeat' first
    | with_reducible assumption | with_reducible apply State.sendOutcomes_kept | with_reducible apply State.holdOutcomes_kept
    | with_reducible apply State.ite_kept | with_reducible refine State.foldl_kept (fun s x h => ?_) ?_
    | dsimp only [State.kept] | split

theorem State.notify_kept {v_ : Kept} {s : State} {y : Fin 8} {result : Nat} (h_ : s.kept = v_) : (State.notify s y result).kept = v_ := by
  unfold State.notify
  repeat' first
    | with_reducible assumption | with_reducible apply State.sendRaw_kept | with_reducible apply State.ite_kept
    | with_reducible refine State.dite_kept (fun _ => ?_) (fun _ => ?_) | with_reducible apply State.id_kept
    | dsimp only [State.kept] | split

theorem State.endTx_kept {v_ : Kept} {s : State} {y : Fin 8} {result : Nat} (h_ : s.kept = v_) : (State.endTx s y result).kept = v_ := by
  unfold State.endTx
  repeat' first
    | with_reducible assumption | with_reducible apply State.updTx_kkept | with_reducible apply State.notify_kept
    | with_reducible apply State.ite_kept | dsimp only [State.kept] | split

theorem State.dropLoads_kept {v_ : Kept} {s : State} {sid : Nat} (h_ : s.kept = v_) : (State.dropLoads s sid).kept = v_ := by
  unfold State.dropLoads
  repeat' first
    | with_reducible assumption | with_reducible apply State.cancelLoad_kept | with_reducible apply State.ite_kept
    | with_reducible refine State.foldl_kept (fun s x h => ?_) ?_
    | with_reducible refine State.dite_kept (fun _ => ?_) (fun _ => ?_) | with_reducible apply State.id_kept
    | dsimp only [State.kept] | split

theorem State.startHold_kept {v_ : Kept} {s : State} {host roles : Nat} (h_ : s.kept = v_) : (State.startHold s host roles).kept = v_ := by
  unfold State.startHold
  repeat' first
    | with_reducible assumption | with_reducible apply State.updZone_kkept | with_reducible apply State.ite_kept
    | with_reducible refine State.foldl_kept (fun s x h => ?_) ?_ | dsimp only [State.kept] | split

theorem State.endSession_kept {v_ : Kept} {s : State} {i : Fin 32} {cause sess role : Nat} (h_ : s.kept = v_) : (State.endSession s i cause sess role).1.kept = v_ := by
  unfold State.endSession
  repeat' first
    | with_reducible assumption | with_reducible apply State.updSess_kkept | with_reducible apply State.dropLoads_kept
    | with_reducible apply State.endTx_kept | with_reducible apply State.startHold_kept
    | with_reducible apply State.eventBy_kept | with_reducible apply State.ite_kept
    | with_reducible refine State.foldl_kept (fun s x h => ?_) ?_ | with_reducible apply State.ite1_kept
    | with_reducible apply State.ite2_kept | with_reducible refine State.dite_kept (fun _ => ?_) (fun _ => ?_)
    | with_reducible apply State.id_kept | dsimp only [State.kept] | split
theorem State.endSession_to_kept {v_ : Kept} {s : State} {i : Fin 32} {cause sess role : Nat} {r_ : State × List Nat} (e_ : State.endSession s i cause sess role = r_) (h_ : s.kept = v_) : r_.1.kept = v_ := by
  rw [← e_]; exact State.endSession_kept h_

theorem State.closeSession_kept {v_ : Kept} {s : State} {i : Fin 32} {cause sess role : Nat} (h_ : s.kept = v_) : (State.closeSession s i cause sess role).kept = v_ := by
  unfold State.closeSession
  repeat' first
    | with_reducible assumption | with_reducible apply State.endSession_kept | with_reducible apply State.passOutcomes_kept
    | with_reducible apply State.ite_kept | (refine State.endSession_to_kept (by with_reducible assumption) ?_)
    | dsimp only [State.kept] | split

theorem State.sendPath_kept {v_ : Kept} {s : State} {path : Path} {kind len body : Nat} (h_ : s.kept = v_) : (State.sendPath s path kind len body).kept = v_ := by
  unfold State.sendPath
  repeat' first
    | with_reducible assumption | with_reducible apply State.post_kept | with_reducible apply State.ite_kept
    | dsimp only [State.kept] | split

theorem State.refuse_kept {v_ : Kept} {s : State} {path : Path} {hid reason : Nat} (h_ : s.kept = v_) : (State.refuse s path hid reason).kept = v_ := by
  unfold State.refuse
  repeat' first
    | with_reducible assumption | with_reducible apply State.sendPath_kept | with_reducible apply State.ite_kept
    | with_reducible refine State.dite_kept (fun _ => ?_) (fun _ => ?_) | with_reducible apply State.id_kept
    | dsimp only [State.kept] | split

theorem execHello_kept {v_ : Kept} {t : Nat} {src : Sender} {m : HelloMsg} {s : State} (h_ : s.kept = v_) :
    Lands (fun x => x.kept = v_) (execHello t src m s) := by
  unfold execHello
  repeat' first
    | with_reducible apply Lands.next | with_reducible apply Lands.ite | with_reducible assumption
    | with_reducible apply State.begin_kkept | with_reducible apply State.frameIn_kept | with_reducible apply State.refuse_kept
    | with_reducible apply State.sendPath_kept | with_reducible apply State.ite_kept | with_reducible apply State.ite1_kept
    | with_reducible apply State.ite2_kept | (refine State.frameIn_to_kept (by with_reducible assumption) ?_)
    | with_reducible refine State.dite_kept (fun _ => ?_) (fun _ => ?_) | with_reducible apply State.id_kept
    | with_reducible refine Lands.dite (fun _ => ?_) (fun _ => ?_) | dsimp only [State.kept] | split

theorem State.openSession_kept {v_ : Kept} {s : State} {i : Fin 32} {path : Path} {hs : Handshake} (h_ : s.kept = v_) : (State.openSession s i path hs).kept = v_ := by
  unfold State.openSession
  repeat' first
    | with_reducible assumption | with_reducible apply State.updSess_kkept | with_reducible apply State.ite_kept
    | dsimp only [State.kept] | split

theorem State.beginActing_kept {v_ : Kept} {s : State} {i : Fin 32} (h_ : s.kept = v_) : (State.beginActing s i).kept = v_ := by
  unfold State.beginActing
  repeat' first
    | with_reducible assumption | with_reducible apply State.updZone_kkept | with_reducible apply State.sendHeld_kept
    | with_reducible apply State.ite_kept | with_reducible refine State.foldl_kept (fun s x h => ?_) ?_
    | dsimp only [State.kept] | split

theorem State.accept_kept {v_ : Kept} {s : State} {i : Fin 32} {superseded : Nat} (h_ : s.kept = v_) : (State.accept s i superseded).kept = v_ := by
  unfold State.accept
  repeat' first
    | with_reducible assumption | with_reducible apply State.post_kept | with_reducible apply State.ite_kept
    | with_reducible refine State.dite_kept (fun _ => ?_) (fun _ => ?_) | with_reducible apply State.id_kept
    | dsimp only [State.kept] | split

theorem State.finishShake_kept {v_ : Kept} {s : State} {path : Path} {hs : Handshake} (h_ : s.kept = v_) : (State.finishShake s path hs).kept = v_ := by
  unfold State.finishShake
  repeat' first
    | with_reducible assumption | with_reducible apply State.endSession_kept | with_reducible apply State.refuse_kept
    | with_reducible apply State.passOutcomes_kept | with_reducible apply State.openSession_kept
    | with_reducible apply State.accept_kept | with_reducible apply State.beginActing_kept | with_reducible apply State.ite_kept
    | with_reducible apply State.ite1_kept | with_reducible apply State.ite2_kept
    | (refine State.endSession_to_kept (by with_reducible assumption) ?_)
    | with_reducible refine State.dite_kept (fun _ => ?_) (fun _ => ?_) | with_reducible apply State.id_kept
    | dsimp only [State.kept] | split

theorem execProof_kept {v_ : Kept} {t : Nat} {src : Sender} {hid : Nat} {sig : Nat} {s : State} (h_ : s.kept = v_) :
    Lands (fun x => x.kept = v_) (execProof t src hid sig s) := by
  unfold execProof
  repeat' first
    | with_reducible apply Lands.next | with_reducible apply Lands.ite | with_reducible assumption
    | with_reducible apply State.begin_kkept | with_reducible apply State.frameIn_kept | with_reducible apply State.refuse_kept
    | with_reducible apply State.finishShake_kept | with_reducible apply State.ite_kept | with_reducible apply State.ite1_kept
    | with_reducible apply State.ite2_kept | (refine State.frameIn_to_kept (by with_reducible assumption) ?_)
    | with_reducible refine State.dite_kept (fun _ => ?_) (fun _ => ?_) | with_reducible apply State.id_kept
    | with_reducible refine Lands.dite (fun _ => ?_) (fun _ => ?_) | dsimp only [State.kept] | split

theorem execHandshakeTimeout_kept {v_ : Kept} {t : Nat} {hid : Nat} {s : State} (h_ : s.kept = v_) :
    Lands (fun x => x.kept = v_) (execHandshakeTimeout t hid s) := by
  unfold execHandshakeTimeout
  repeat' first
    | with_reducible apply Lands.next | with_reducible apply Lands.ite | with_reducible assumption
    | with_reducible apply State.begin_kkept | with_reducible apply State.ite_kept | with_reducible apply State.ite1_kept
    | with_reducible apply State.ite2_kept | with_reducible refine State.dite_kept (fun _ => ?_) (fun _ => ?_)
    | with_reducible apply State.id_kept | with_reducible refine Lands.dite (fun _ => ?_) (fun _ => ?_)
    | dsimp only [State.kept] | split

theorem execHeartbeat_kept {v_ : Kept} {t : Nat} {dg : Dgram} {s : State} (h_ : s.kept = v_) :
    Lands (fun x => x.kept = v_) (execHeartbeat t dg s) := by
  unfold execHeartbeat
  repeat' first
    | with_reducible apply Lands.next | with_reducible apply Lands.ite | with_reducible assumption
    | with_reducible apply State.begin_kkept | with_reducible apply State.datagram_kept | with_reducible apply State.sendRaw_kept
    | with_reducible apply State.ite_kept | with_reducible apply State.ite1_kept | with_reducible apply State.ite2_kept
    | (refine State.datagram_to_kept (by with_reducible assumption) ?_)
    | with_reducible refine Lands.dite (fun _ => ?_) (fun _ => ?_) | dsimp only [State.kept] | split

theorem execClose_kept {v_ : Kept} {t : Nat} {dg : Dgram} {s : State} (h_ : s.kept = v_) :
    Lands (fun x => x.kept = v_) (execClose t dg s) := by
  unfold execClose
  repeat' first
    | with_reducible apply Lands.next | with_reducible apply Lands.ite | with_reducible assumption
    | with_reducible apply State.begin_kkept | with_reducible apply State.datagram_kept
    | with_reducible apply State.closeSession_kept | with_reducible apply State.ite_kept | with_reducible apply State.ite1_kept
    | with_reducible apply State.ite2_kept | (refine State.datagram_to_kept (by with_reducible assumption) ?_)
    | with_reducible refine Lands.dite (fun _ => ?_) (fun _ => ?_) | dsimp only [State.kept] | split

theorem execLeaseExpiry_kept {v_ : Kept} {t : Nat} {sess : Fin 32} {s : State} (h_ : s.kept = v_) :
    Lands (fun x => x.kept = v_) (execLeaseExpiry t sess s) := by
  unfold execLeaseExpiry
  repeat' first
    | with_reducible apply Lands.next | with_reducible apply Lands.ite | with_reducible assumption
    | with_reducible apply State.begin_kkept | with_reducible apply State.closeSession_kept | with_reducible apply State.ite_kept
    | with_reducible apply State.ite1_kept | with_reducible apply State.ite2_kept
    | with_reducible refine Lands.dite (fun _ => ?_) (fun _ => ?_) | dsimp only [State.kept] | split

theorem execSessionEvict_kept {v_ : Kept} {t : Nat} {k : Kop} {idx : Fin 32} {s : State} (h_ : s.kept = v_) :
    Lands (fun x => x.kept = v_) (execSessionEvict t k idx s) := by
  unfold execSessionEvict
  repeat' first
    | with_reducible apply Lands.next | with_reducible apply Lands.ite | with_reducible assumption
    | (with_reducible refine State.command_kept (fun s w h => ?_) ?_) | with_reducible apply State.begin_kkept
    | with_reducible apply State.sendRaw_kept | with_reducible apply State.closeSession_kept
    | with_reducible apply State.ite_kept | with_reducible apply State.ite1_kept | with_reducible apply State.ite2_kept
    | with_reducible refine State.dite_kept (fun _ => ?_) (fun _ => ?_) | with_reducible apply State.id_kept
    | with_reducible refine Lands.dite (fun _ => ?_) (fun _ => ?_) | dsimp only [State.kept] | split

theorem State.resend_kept {v_ : Kept} {s : State} {i : Fin 32} {m : TxMsg} {fast : Bool} (h_ : s.kept = v_) : (State.resend s i m fast).kept = v_ := by
  unfold State.resend
  repeat' first
    | with_reducible assumption | with_reducible apply State.updSess_kkept | with_reducible apply State.sendSequenced_kept
    | with_reducible apply State.ite_kept | dsimp only [State.kept] | split

theorem State.acknowledge_kept {v_ : Kept} {s : State} {i : Fin 32} {cum credit : Nat} {got : List Nat} (h_ : s.kept = v_) : (State.acknowledge s i cum credit got).kept = v_ := by
  unfold State.acknowledge
  repeat' first
    | with_reducible assumption | with_reducible apply State.updSess_kkept | with_reducible apply State.resend_kept
    | with_reducible apply State.flushTx_kept | with_reducible apply State.ite_kept
    | with_reducible refine State.foldl_kept (fun s x h => ?_) ?_
    | with_reducible refine State.dite_kept (fun _ => ?_) (fun _ => ?_) | with_reducible apply State.id_kept
    | dsimp only [State.kept] | split

theorem execAck_kept {v_ : Kept} {t : Nat} {dg : Dgram} {m : AckMsg} {s : State} (h_ : s.kept = v_) :
    Lands (fun x => x.kept = v_) (execAck t dg m s) := by
  unfold execAck
  repeat' first
    | with_reducible apply Lands.next | with_reducible apply Lands.ite | with_reducible assumption
    | with_reducible apply State.begin_kkept | with_reducible apply State.datagram_kept
    | with_reducible apply State.acknowledge_kept | with_reducible apply State.ite_kept | with_reducible apply State.ite1_kept
    | with_reducible apply State.ite2_kept | (refine State.datagram_to_kept (by with_reducible assumption) ?_)
    | with_reducible refine State.dite_kept (fun _ => ?_) (fun _ => ?_) | with_reducible apply State.id_kept
    | with_reducible refine Lands.dite (fun _ => ?_) (fun _ => ?_) | dsimp only [State.kept] | split

theorem execAckSend_kept {v_ : Kept} {t : Nat} {sess : Fin 32} {s : State} (h_ : s.kept = v_) :
    Lands (fun x => x.kept = v_) (execAckSend t sess s) := by
  unfold execAckSend
  repeat' first
    | with_reducible apply Lands.next | with_reducible apply Lands.ite | with_reducible assumption
    | with_reducible apply State.begin_kkept | with_reducible apply State.updSess_kkept | with_reducible apply State.sendRaw_kept
    | with_reducible apply State.ite_kept | with_reducible apply State.ite1_kept | with_reducible apply State.ite2_kept
    | with_reducible refine Lands.dite (fun _ => ?_) (fun _ => ?_) | dsimp only [State.kept] | split

theorem execRetransmit_kept {v_ : Kept} {t : Nat} {sess : Fin 32} {n : Nat} {s : State} (h_ : s.kept = v_) :
    Lands (fun x => x.kept = v_) (execRetransmit t sess n s) := by
  unfold execRetransmit
  repeat' first
    | with_reducible apply Lands.next | with_reducible apply Lands.ite | with_reducible assumption
    | with_reducible apply State.begin_kkept | with_reducible apply State.flushTx_kept | with_reducible apply State.resend_kept
    | with_reducible apply State.ite_kept | with_reducible apply State.ite1_kept | with_reducible apply State.ite2_kept
    | with_reducible refine Lands.dite (fun _ => ?_) (fun _ => ?_) | dsimp only [State.kept] | split

theorem State.setOwner_kept {v_ : Kept} {s : State} {z : Fin 8} {owner : Option Nat} {sess role : Nat} (h_ : s.kept = v_) : (State.setOwner s z owner sess role).kept = v_ := by
  unfold State.setOwner
  repeat' first
    | with_reducible assumption | with_reducible apply State.updZone_kkept | with_reducible apply State.eventBy_kept
    | with_reducible apply State.sendHeld_kept | with_reducible apply State.ite_kept | dsimp only [State.kept] | split

theorem execOwnershipClaim_kept {v_ : Kept} {t : Nat} {k : Kop} {z : Fin 8} {s : State} (h_ : s.kept = v_) :
    Lands (fun x => x.kept = v_) (execOwnershipClaim t k z s) := by
  unfold execOwnershipClaim
  repeat' first
    | with_reducible apply Lands.next | with_reducible apply Lands.ite | with_reducible assumption
    | (with_reducible refine State.command_kept (fun s w h => ?_) ?_) | with_reducible apply State.begin_kkept
    | with_reducible apply State.refuse_kept | with_reducible apply State.setOwner_kept | with_reducible apply State.ite_kept
    | with_reducible apply State.ite1_kept | with_reducible apply State.ite2_kept
    | with_reducible refine State.dite_kept (fun _ => ?_) (fun _ => ?_) | with_reducible apply State.id_kept
    | with_reducible refine Lands.dite (fun _ => ?_) (fun _ => ?_) | dsimp only [State.kept] | split

theorem execOwnershipRelease_kept {v_ : Kept} {t : Nat} {k : Kop} {z : Fin 8} {s : State} (h_ : s.kept = v_) :
    Lands (fun x => x.kept = v_) (execOwnershipRelease t k z s) := by
  unfold execOwnershipRelease
  repeat' first
    | with_reducible apply Lands.next | with_reducible apply Lands.ite | with_reducible assumption
    | (with_reducible refine State.command_kept (fun s w h => ?_) ?_) | with_reducible apply State.begin_kkept
    | with_reducible apply State.setOwner_kept | with_reducible apply State.refuse_kept | with_reducible apply State.ite_kept
    | with_reducible apply State.ite1_kept | with_reducible apply State.ite2_kept
    | with_reducible refine Lands.dite (fun _ => ?_) (fun _ => ?_) | dsimp only [State.kept] | split

theorem execOwnershipTake_kept {v_ : Kept} {t : Nat} {k : Kop} {z : Fin 8} {s : State} (h_ : s.kept = v_) :
    Lands (fun x => x.kept = v_) (execOwnershipTake t k z s) := by
  unfold execOwnershipTake
  repeat' first
    | with_reducible apply Lands.next | with_reducible apply Lands.ite | with_reducible assumption
    | (with_reducible refine State.command_kept (fun s w h => ?_) ?_) | with_reducible apply State.begin_kkept
    | with_reducible apply State.setOwner_kept | with_reducible apply State.refuse_kept | with_reducible apply State.ite_kept
    | with_reducible apply State.ite1_kept | with_reducible apply State.ite2_kept
    | with_reducible refine Lands.dite (fun _ => ?_) (fun _ => ?_) | dsimp only [State.kept] | split

theorem execOwnershipLapse_kept {v_ : Kept} {t : Nat} {z : Fin 8} {s : State} (h_ : s.kept = v_) :
    Lands (fun x => x.kept = v_) (execOwnershipLapse t z s) := by
  unfold execOwnershipLapse
  repeat' first
    | with_reducible apply Lands.next | with_reducible apply Lands.ite | with_reducible assumption
    | with_reducible apply State.begin_kkept | with_reducible apply State.setOwner_kept | with_reducible apply State.ite_kept
    | with_reducible apply State.ite1_kept | with_reducible apply State.ite2_kept
    | with_reducible refine Lands.dite (fun _ => ?_) (fun _ => ?_) | dsimp only [State.kept] | split

theorem State.roleStops_kept {v_ : Kept} {s : State} {e : Fin 8} (h_ : s.kept = v_) : (State.roleStops s e).kept = v_ := by
  unfold State.roleStops
  repeat' first
    | with_reducible assumption | with_reducible apply State.stopLaneRun_kept | with_reducible apply State.abandonEnc_kept
    | with_reducible apply State.ite_kept | with_reducible refine State.foldl_kept (fun s x h => ?_) ?_
    | dsimp only [State.kept] | split

theorem State.stopEngine_kept {v_ : Kept} {s : State} {e : Fin 8} {cause : Nat} (h_ : s.kept = v_) : (State.stopEngine s e cause).kept = v_ := by
  unfold State.stopEngine
  repeat' first
    | with_reducible assumption | with_reducible apply State.event_kept | with_reducible apply State.updEngine_kkept
    | with_reducible apply State.dropAccesses_kept | with_reducible apply State.roleStops_kept
    | with_reducible apply State.ite_kept | with_reducible refine State.dite_kept (fun _ => ?_) (fun _ => ?_)
    | with_reducible apply State.id_kept | dsimp only [State.kept] | split

theorem execEngineWatchdog_kept {v_ : Kept} {t : Nat} {e : Fin 8} {s : State} (h_ : s.kept = v_) :
    Lands (fun x => x.kept = v_) (execEngineWatchdog t e s) := by
  unfold execEngineWatchdog
  repeat' first
    | with_reducible apply Lands.next | with_reducible apply Lands.ite | with_reducible assumption
    | with_reducible apply State.begin_kkept | with_reducible apply State.stopEngine_kept | with_reducible apply State.ite_kept
    | with_reducible apply State.ite1_kept | with_reducible apply State.ite2_kept
    | with_reducible refine Lands.dite (fun _ => ?_) (fun _ => ?_) | dsimp only [State.kept] | split

theorem execEngineInvalidOperation_kept {v_ : Kept} {t : Nat} {e : Fin 8} {s : State} (h_ : s.kept = v_) :
    Lands (fun x => x.kept = v_) (execEngineInvalidOperation t e s) := by
  unfold execEngineInvalidOperation
  repeat' first
    | with_reducible apply Lands.next | with_reducible apply Lands.ite | with_reducible assumption
    | with_reducible apply State.begin_kkept | with_reducible apply State.stopEngine_kept | with_reducible apply State.ite_kept
    | with_reducible apply State.ite1_kept | with_reducible apply State.ite2_kept
    | with_reducible refine Lands.dite (fun _ => ?_) (fun _ => ?_) | dsimp only [State.kept] | split

theorem State.startFirmware_kept {v_ : Kept} {s : State} {e : Fin 8} (h_ : s.kept = v_) : (State.startFirmware s e).kept = v_ := by
  unfold State.startFirmware
  repeat' first
    | with_reducible assumption | with_reducible apply State.event_kept | with_reducible apply State.updEngine_kkept
    | with_reducible apply State.ite_kept | with_reducible refine State.foldl_kept (fun s x h => ?_) ?_
    | with_reducible apply State.ite1_kept | with_reducible apply State.ite2_kept | dsimp only [State.kept] | split

theorem State.verifyPatches_kept {v_ : Kept} {s : State} {sig0 sig1 : Bool} (h_ : s.kept = v_) : (State.verifyPatches s sig0 sig1).kept = v_ := by
  unfold State.verifyPatches
  repeat' first
    | with_reducible assumption | with_reducible apply State.ite_kept | dsimp only [State.kept] | split

theorem execEngineRestart_kept {v_ : Kept} {t : Nat} {e : Fin 8} {sig0 sig1 : Bool} {s : State} (h_ : s.kept = v_) :
    Lands (fun x => x.kept = v_) (execEngineRestart t e sig0 sig1 s) := by
  unfold execEngineRestart
  repeat' first
    | with_reducible apply Lands.next | with_reducible apply Lands.ite | with_reducible assumption
    | with_reducible apply State.begin_kkept | with_reducible apply State.clearPad_kept
    | with_reducible apply State.updEngine_kkept | with_reducible apply State.event_kept
    | with_reducible apply State.verifyPatches_kept | with_reducible apply State.startFirmware_kept
    | with_reducible apply State.ite_kept | with_reducible apply State.ite1_kept | with_reducible apply State.ite2_kept
    | with_reducible refine Lands.dite (fun _ => ?_) (fun _ => ?_) | dsimp only [State.kept] | split

theorem State.roleResumes_kept {v_ : Kept} {s : State} {e : Fin 8} (h_ : s.kept = v_) : (State.roleResumes s e).kept = v_ := by
  unfold State.roleResumes
  repeat' first
    | with_reducible assumption | with_reducible apply State.offerKept_kept | with_reducible apply State.startEnc_kept
    | with_reducible apply State.sendCtl_kept | with_reducible apply State.ite_kept
    | with_reducible refine State.foldl_kept (fun s x h => ?_) ?_ | dsimp only [State.kept] | split

theorem execEngineRunning_kept {v_ : Kept} {t : Nat} {e : Fin 8} {s : State} (h_ : s.kept = v_) :
    Lands (fun x => x.kept = v_) (execEngineRunning t e s) := by
  unfold execEngineRunning
  repeat' first
    | with_reducible apply Lands.next | with_reducible apply Lands.ite | with_reducible assumption
    | with_reducible apply State.begin_kkept | with_reducible apply State.updEngine_kkept
    | with_reducible apply State.roleResumes_kept | with_reducible apply State.ite_kept | with_reducible apply State.ite1_kept
    | with_reducible apply State.ite2_kept | with_reducible refine Lands.dite (fun _ => ?_) (fun _ => ?_)
    | dsimp only [State.kept] | split

theorem State.lostWord_kept {v_ : Kept} {s : State} {h : Fin 64} {r : Fin 4} {loc : Nat} (h_ : s.kept = v_) : (State.lostWord s h r loc).kept = v_ := by
  unfold State.lostWord
  repeat' first
    | with_reducible assumption | with_reducible apply State.updRow_kkept | with_reducible apply State.spoil_kept
    | with_reducible apply State.settle_kept | with_reducible apply State.ite_kept | dsimp only [State.kept] | split

theorem execUncorrectableWord_kept {v_ : Kept} {t : Nat} {w : MemWord} {s : State} (h_ : s.kept = v_) :
    Lands (fun x => x.kept = v_) (execUncorrectableWord t w s) := by
  unfold execUncorrectableWord
  repeat' first
    | with_reducible apply Lands.next | with_reducible apply Lands.ite | with_reducible assumption
    | with_reducible apply State.begin_kkept | with_reducible apply State.event_kept | with_reducible apply State.lostWord_kept
    | with_reducible apply State.stopEngine_kept | with_reducible apply State.dropOperation_kept
    | with_reducible apply State.ite_kept | with_reducible apply State.ite1_kept | with_reducible apply State.ite2_kept
    | with_reducible refine State.dite_kept (fun _ => ?_) (fun _ => ?_) | with_reducible apply State.id_kept
    | with_reducible refine Lands.dite (fun _ => ?_) (fun _ => ?_) | dsimp only [State.kept] | split

theorem State.repairRow_kept {v_ : Kept} {s : State} {region : Nat} {f : RowFault} (h_ : s.kept = v_) : (State.repairRow s region f).kept = v_ := by
  unfold State.repairRow
  repeat' first
    | with_reducible assumption | with_reducible apply State.event_kept | with_reducible apply State.ite_kept
    | dsimp only [State.kept] | split

theorem State.repairRegion_kept {v_ : Kept} {s : State} {r : Nat} {fs : List CellFault} (h_ : s.kept = v_) : (State.repairRegion s r fs).kept = v_ := by
  unfold State.repairRegion
  repeat' first
    | with_reducible assumption | with_reducible apply State.repairRow_kept | with_reducible apply State.ite_kept
    | with_reducible refine State.foldl_kept (fun s x h => ?_) ?_ | dsimp only [State.kept] | split

theorem State.testArrays_kept {v_ : Kept} {s : State} {found : List (Nat × CellFault)} {buffers : List BufFault} (h_ : s.kept = v_) : (State.testArrays s found buffers).kept = v_ := by
  unfold State.testArrays
  repeat' first
    | with_reducible assumption | with_reducible apply State.repairRegion_kept | with_reducible apply State.event_kept
    | with_reducible apply State.ite_kept | with_reducible refine State.foldl_kept (fun s x h => ?_) ?_
    | with_reducible apply State.ite1_kept | with_reducible apply State.ite2_kept | dsimp only [State.kept] | split

theorem State.lockRegion_kept {v_ : Kept} {s : State} {r : Nat} {requested : Bool} (h_ : s.kept = v_) : (State.lockRegion s r requested).kept = v_ := by
  unfold State.lockRegion
  repeat' first
    | with_reducible assumption | with_reducible apply State.ite_kept | dsimp only [State.kept] | split

theorem execRegionTestStart_kept {v_ : Kept} {t : Nat} {s : State} (h_ : s.kept = v_) :
    Lands (fun x => x.kept = v_) (execRegionTestStart t s) := by
  unfold execRegionTestStart
  repeat' first
    | with_reducible apply Lands.next | with_reducible apply Lands.ite | with_reducible assumption
    | with_reducible apply State.begin_kkept | with_reducible apply State.lockRegion_kept | with_reducible apply State.ite_kept
    | with_reducible apply State.ite1_kept | with_reducible apply State.ite2_kept
    | with_reducible refine Lands.dite (fun _ => ?_) (fun _ => ?_) | dsimp only [State.kept] | split

theorem execRegionTestComplete_kept {v_ : Kept} {t : Nat} {faults : List CellFault} {singles : List Nat} {s : State} (h_ : s.kept = v_) :
    Lands (fun x => x.kept = v_) (execRegionTestComplete t faults singles s) := by
  unfold execRegionTestComplete
  repeat' first
    | with_reducible apply Lands.next | with_reducible apply Lands.ite | with_reducible assumption
    | with_reducible apply State.begin_kkept | with_reducible apply State.repairRegion_kept
    | with_reducible apply State.updReq_kkept | with_reducible apply State.ite_kept | with_reducible apply State.ite1_kept
    | with_reducible apply State.ite2_kept | with_reducible refine Lands.dite (fun _ => ?_) (fun _ => ?_)
    | dsimp only [State.kept] | split

theorem execMemoryTestRegion_kept {v_ : Kept} {t : Nat} {s : State} (h_ : s.kept = v_) :
    Lands (fun x => x.kept = v_) (execMemoryTestRegion t s) := by
  unfold execMemoryTestRegion
  repeat' first
    | with_reducible apply Lands.next | with_reducible apply Lands.ite | with_reducible assumption
    | with_reducible apply State.begin_kkept | with_reducible apply State.lockRegion_kept | with_reducible apply State.ite_kept
    | with_reducible apply State.ite1_kept | with_reducible apply State.ite2_kept
    | with_reducible refine Lands.dite (fun _ => ?_) (fun _ => ?_) | dsimp only [State.kept] | split

theorem execTransparentTestWrite_kept {v_ : Kept} {t : Nat} {k : Kop} {v : Nat} {s : State} (h_ : s.kept = v_) :
    Lands (fun x => x.kept = v_) (execTransparentTestWrite t k v s) := by
  unfold execTransparentTestWrite
  repeat' first
    | with_reducible apply Lands.next | with_reducible apply Lands.ite | with_reducible assumption
    | (with_reducible refine State.write_kept (fun s w h => ?_) ?_) | with_reducible apply State.begin_kkept
    | with_reducible apply State.oapply_kept | with_reducible apply State.ite_kept | with_reducible apply State.ite1_kept
    | with_reducible apply State.ite2_kept | with_reducible refine Lands.dite (fun _ => ?_) (fun _ => ?_)
    | dsimp only [State.kept] | split

theorem State.tryMemory_kept {v_ : Kept} {s : State} {slot : Fin 16} (h_ : s.kept = v_) : (State.tryMemory s slot).kept = v_ := by
  unfold State.tryMemory
  repeat' first
    | with_reducible assumption | with_reducible apply State.updReq_kkept | with_reducible apply State.ite_kept
    | dsimp only [State.kept] | split

theorem execRequestMemoryTest_kept {v_ : Kept} {t : Nat} {k : Kop} {slot : Fin 16} {target deadline : Nat} {s : State} (h_ : s.kept = v_) :
    Lands (fun x => x.kept = v_) (execRequestMemoryTest t k slot target deadline s) := by
  unfold execRequestMemoryTest
  repeat' first
    | with_reducible apply Lands.next | with_reducible apply Lands.ite | with_reducible assumption
    | (with_reducible refine State.command_kept (fun s w h => ?_) ?_) | with_reducible apply State.begin_kkept
    | with_reducible apply State.refuse_kept | with_reducible apply State.acceptReq_kept
    | with_reducible apply State.tryMemory_kept | with_reducible apply State.ite_kept | with_reducible apply State.ite1_kept
    | with_reducible apply State.ite2_kept | with_reducible refine Lands.dite (fun _ => ?_) (fun _ => ?_)
    | dsimp only [State.kept] | split

theorem execRequestWindowCheck_kept {v_ : Kept} {t : Nat} {slot : Fin 16} {s : State} (h_ : s.kept = v_) :
    Lands (fun x => x.kept = v_) (execRequestWindowCheck t slot s) := by
  unfold execRequestWindowCheck
  repeat' first
    | with_reducible apply Lands.next | with_reducible apply Lands.ite | with_reducible assumption
    | with_reducible apply State.begin_kkept | with_reducible apply State.startEnc_kept | with_reducible apply State.tryLane_kept
    | with_reducible apply State.startScanBlock_kept | with_reducible apply State.tryMemory_kept
    | with_reducible apply State.ite_kept | with_reducible apply State.ite1_kept | with_reducible apply State.ite2_kept
    | with_reducible refine Lands.dite (fun _ => ?_) (fun _ => ?_) | dsimp only [State.kept] | split

theorem State.eraseBank_kept {v_ : Kept} {s : State} {b : Fin 2} (h_ : s.kept = v_) : (State.eraseBank s b).kept = v_ := by
  unfold State.eraseBank
  repeat' first
    | with_reducible assumption | with_reducible apply State.ite_kept | dsimp only [State.kept] | split

theorem State.chainsOff_kept {v_ : Kept} {s : State} (h_ : s.kept = v_) : (State.chainsOff s).kept = v_ := by
  unfold State.chainsOff
  repeat' first
    | with_reducible assumption | with_reducible apply State.supplyOff_kept | with_reducible apply State.ite_kept
    | with_reducible refine State.foldl_kept (fun s x h => ?_) ?_ | dsimp only [State.kept] | split

theorem State.beginRestart_kept {v_ : Kept} {s : State} (h_ : s.kept = v_) : (State.beginRestart s).kept = v_ := by
  unfold State.beginRestart
  repeat' first
    | with_reducible assumption | with_reducible apply State.chainsOff_kept | with_reducible apply State.ite_kept
    | dsimp only [State.kept] | split

theorem execRestart_kept {v_ : Kept} {t : Nat} {k : Kop} {s : State} (h_ : s.kept = v_) :
    Lands (fun x => x.kept = v_) (execRestart t k s) := by
  unfold execRestart
  repeat' first
    | with_reducible apply Lands.next | with_reducible apply Lands.ite | with_reducible assumption
    | (with_reducible refine State.command_kept (fun s w h => ?_) ?_) | with_reducible apply State.begin_kkept
    | with_reducible apply State.beginRestart_kept | with_reducible apply State.refuse_kept
    | with_reducible apply State.ite_kept | with_reducible apply State.ite1_kept | with_reducible apply State.ite2_kept
    | with_reducible refine Lands.dite (fun _ => ?_) (fun _ => ?_) | dsimp only [State.kept] | split

theorem State.endAll_kept {v_ : Kept} {s : State} {cause : Nat} (h_ : s.kept = v_) : (s.endAll cause).kept = v_ := by
  unfold State.endAll
  dsimp only
  apply State.passOutcomes_kept
  have : ∀ (l : List (Fin 32)) (a : State × List Nat), a.1.kept = v_ →
      (l.foldl (fun (a : State × List Nat) (i : Fin 32) =>
        ((a.1.endSession i cause 0 0).1, a.2 ++ (a.1.endSession i cause 0 0).2)) a).1.kept = v_ := by
    intro l
    induction l with
    | nil => intro a ha; exact ha
    | cons x l ih => intro a ha; exact ih _ (State.endSession_kept ha)
  generalize fins 32 = l
  exact this l (s, []) h_

theorem State.drawSecret_kept {v_ : Kept} {s : State} (h_ : s.kept = v_) : (State.drawSecret s).kept = v_ := by
  unfold State.drawSecret
  repeat' first
    | with_reducible assumption | with_reducible apply State.ite_kept | dsimp only [State.kept] | split

theorem State.failLoads_kept {v_ : Kept} {s : State} (h_ : s.kept = v_) : (State.failLoads s).kept = v_ := by
  unfold State.failLoads
  repeat' first
    | with_reducible assumption | with_reducible apply State.cmdEnd_kept | with_reducible apply State.ite_kept
    | with_reducible refine State.foldl_kept (fun s x h => ?_) ?_ | dsimp only [State.kept] | split

theorem State.keyLoad_kept {v_ : Kept} {s : State} {c : Instr} {k : Kop} {sub : Nat} {act : State → Who → State × CmdRes}
    (hact : ∀ s w, s.kept = v_ → (act s w).1.kept = v_) (h_ : s.kept = v_) : (s.keyLoad c k sub act).kept = v_ := by
  unfold State.keyLoad
  refine State.ite_kept (State.command_kept hact h_) ?_
  split
  · exact State.arrive_to_kept (by assumption) h_
  · have := State.arrive_to_kept (by assumption) h_
    refine State.ite_kept this (State.ite_kept (State.respond_kept this) ?_)
    split
    · exact State.respond_kept this
    · exact State.setStat_kkept (State.await_kept this)

theorem execOwnerKeyLoad_kept {v_ : Kept} {t : Nat} {k : Kop} {r : OwnerRec} {s : State} (h_ : s.kept = v_) :
    Lands (fun x => x.kept = v_) (execOwnerKeyLoad t k r s) := by
  unfold execOwnerKeyLoad
  repeat' first
    | with_reducible apply Lands.next | with_reducible apply Lands.ite | with_reducible assumption
    | (with_reducible refine State.keyLoad_kept (fun s w h => ?_) ?_) | with_reducible apply State.begin_kkept
    | with_reducible apply State.refuse_kept | with_reducible apply State.ite_kept | with_reducible apply State.ite1_kept
    | with_reducible apply State.ite2_kept | with_reducible refine Lands.dite (fun _ => ?_) (fun _ => ?_)
    | dsimp only [State.kept] | split

theorem State.setList_kept {v_ : Kept} {s : State} {r : ListLoad} {ks : List MakerKey} (h_ : s.kept = v_) : (State.setList s r ks).1.kept = v_ := by
  unfold State.setList
  repeat' first
    | with_reducible assumption | with_reducible apply State.refuse_kept | with_reducible apply State.ite_kept
    | with_reducible apply State.ite1_kept | with_reducible apply State.ite2_kept | dsimp only [State.kept] | split
theorem State.setList_to_kept {v_ : Kept} {s : State} {r : ListLoad} {ks : List MakerKey} {r_ : State × CmdRes} (e_ : State.setList s r ks = r_) (h_ : s.kept = v_) : r_.1.kept = v_ := by
  rw [← e_]; exact State.setList_kept h_

theorem execHeadMakerListReplace_kept {v_ : Kept} {t : Nat} {k : Kop} {r : ListLoad} {s : State} (h_ : s.kept = v_) :
    Lands (fun x => x.kept = v_) (execHeadMakerListReplace t k r s) := by
  unfold execHeadMakerListReplace
  repeat' first
    | with_reducible apply Lands.next | with_reducible apply Lands.ite | with_reducible assumption
    | (with_reducible refine State.keyLoad_kept (fun s w h => ?_) ?_) | with_reducible apply State.begin_kkept
    | with_reducible apply State.refuse_kept | with_reducible apply State.setList_kept | with_reducible apply State.ite_kept
    | with_reducible refine State.foldl_kept (fun s x h => ?_) ?_ | with_reducible apply State.ite1_kept
    | with_reducible apply State.ite2_kept | (refine State.setList_to_kept (by with_reducible assumption) ?_)
    | with_reducible refine Lands.dite (fun _ => ?_) (fun _ => ?_) | dsimp only [State.kept] | split

theorem execHeadMakerListAdd_kept {v_ : Kept} {t : Nat} {k : Kop} {r : ListLoad} {s : State} (h_ : s.kept = v_) :
    Lands (fun x => x.kept = v_) (execHeadMakerListAdd t k r s) := by
  unfold execHeadMakerListAdd
  repeat' first
    | with_reducible apply Lands.next | with_reducible apply Lands.ite | with_reducible assumption
    | (with_reducible refine State.keyLoad_kept (fun s w h => ?_) ?_) | with_reducible apply State.begin_kkept
    | with_reducible apply State.refuse_kept | with_reducible apply State.setList_kept | with_reducible apply State.ite_kept
    | with_reducible refine State.foldl_kept (fun s x h => ?_) ?_ | with_reducible apply State.ite1_kept
    | with_reducible apply State.ite2_kept | (refine State.setList_to_kept (by with_reducible assumption) ?_)
    | with_reducible refine Lands.dite (fun _ => ?_) (fun _ => ?_) | dsimp only [State.kept] | split

theorem execHeadMakerListRemove_kept {v_ : Kept} {t : Nat} {k : Kop} {r : ListLoad} {s : State} (h_ : s.kept = v_) :
    Lands (fun x => x.kept = v_) (execHeadMakerListRemove t k r s) := by
  unfold execHeadMakerListRemove
  repeat' first
    | with_reducible apply Lands.next | with_reducible apply Lands.ite | with_reducible assumption
    | (with_reducible refine State.keyLoad_kept (fun s w h => ?_) ?_) | with_reducible apply State.begin_kkept
    | with_reducible apply State.refuse_kept | with_reducible apply State.setList_kept | with_reducible apply State.ite_kept
    | with_reducible apply State.ite1_kept | with_reducible apply State.ite2_kept
    | (refine State.setList_to_kept (by with_reducible assumption) ?_)
    | with_reducible refine Lands.dite (fun _ => ?_) (fun _ => ?_) | dsimp only [State.kept] | split

theorem State.lostEvents_kept {v_ : Kept} {s : State} (h_ : s.kept = v_) : (State.lostEvents s).kept = v_ := by
  unfold State.lostEvents
  repeat' first
    | with_reducible assumption | with_reducible apply State.event_kept | with_reducible apply State.ite_kept
    | dsimp only [State.kept] | split

theorem execOperatingSecondsWrite_kept {v_ : Kept} {t : Nat} {s : State} (h_ : s.kept = v_) :
    Lands (fun x => x.kept = v_) (execOperatingSecondsWrite t s) := by
  unfold execOperatingSecondsWrite
  repeat' first
    | with_reducible apply Lands.next | with_reducible apply Lands.ite | with_reducible assumption
    | with_reducible apply State.begin_kkept | with_reducible apply State.ite_kept | with_reducible apply State.ite1_kept
    | with_reducible apply State.ite2_kept | with_reducible refine Lands.dite (fun _ => ?_) (fun _ => ?_)
    | dsimp only [State.kept] | split

theorem State.setCalendar_kept {v_ : Kept} {s : State} {units sess role : Nat} (h_ : s.kept = v_) : (State.setCalendar s units sess role).kept = v_ := by
  unfold State.setCalendar
  repeat' first
    | with_reducible assumption | with_reducible apply State.eventBy_kept | with_reducible apply State.ite_kept
    | with_reducible refine State.dite_kept (fun _ => ?_) (fun _ => ?_) | with_reducible apply State.id_kept
    | dsimp only [State.kept] | split

theorem State.discipline_kept {v_ : Kept} {s : State} (h_ : s.kept = v_) : (State.discipline s).kept = v_ := by
  unfold State.discipline
  repeat' first
    | with_reducible assumption | with_reducible apply State.setCalendar_kept | with_reducible apply State.ite_kept
    | with_reducible refine State.dite_kept (fun _ => ?_) (fun _ => ?_) | with_reducible apply State.id_kept
    | dsimp only [State.kept] | split

theorem execCalendarDiscipline_kept {v_ : Kept} {t : Nat} {s : State} (h_ : s.kept = v_) :
    Lands (fun x => x.kept = v_) (execCalendarDiscipline t s) := by
  unfold execCalendarDiscipline
  repeat' first
    | with_reducible apply Lands.next | with_reducible apply Lands.ite | with_reducible assumption
    | with_reducible apply State.begin_kkept | with_reducible apply State.discipline_kept | with_reducible apply State.ite_kept
    | with_reducible apply State.ite1_kept | with_reducible apply State.ite2_kept
    | with_reducible refine State.dite_kept (fun _ => ?_) (fun _ => ?_) | with_reducible apply State.id_kept
    | with_reducible refine Lands.dite (fun _ => ?_) (fun _ => ?_) | dsimp only [State.kept] | split

theorem execCalendarSet_kept {v_ : Kept} {t : Nat} {k : Kop} {v : Nat} {s : State} (h_ : s.kept = v_) :
    Lands (fun x => x.kept = v_) (execCalendarSet t k v s) := by
  unfold execCalendarSet
  repeat' first
    | with_reducible apply Lands.next | with_reducible apply Lands.ite | with_reducible assumption
    | (with_reducible refine State.command_kept (fun s w h => ?_) ?_) | with_reducible apply State.begin_kkept
    | with_reducible apply State.refuse_kept | with_reducible apply State.setCalendar_kept | with_reducible apply State.ite_kept
    | with_reducible apply State.ite1_kept | with_reducible apply State.ite2_kept
    | with_reducible refine Lands.dite (fun _ => ?_) (fun _ => ?_) | dsimp only [State.kept] | split

theorem execSnapshot_kept {v_ : Kept} {t : Nat} {k : Kop} {s : State} (h_ : s.kept = v_) :
    Lands (fun x => x.kept = v_) (execSnapshot t k s) := by
  unfold execSnapshot
  repeat' first
    | with_reducible apply Lands.next | with_reducible apply Lands.ite | with_reducible assumption
    | (with_reducible refine State.command_kept (fun s w h => ?_) ?_) | with_reducible apply State.begin_kkept
    | with_reducible apply State.schedule_kept | with_reducible apply State.ite_kept | with_reducible apply State.ite1_kept
    | with_reducible apply State.ite2_kept | with_reducible refine Lands.dite (fun _ => ?_) (fun _ => ?_)
    | dsimp only [State.kept] | split

theorem execBoardSnapshot_kept {v_ : Kept} {t : Nat} {k : Kop} {s : State} (h_ : s.kept = v_) :
    Lands (fun x => x.kept = v_) (execBoardSnapshot t k s) := by
  unfold execBoardSnapshot
  repeat' first
    | with_reducible apply Lands.next | with_reducible apply Lands.ite | with_reducible assumption
    | (with_reducible refine State.command_kept (fun s w h => ?_) ?_) | with_reducible apply State.begin_kkept
    | with_reducible apply State.refuse_kept | with_reducible apply State.schedule_kept
    | with_reducible apply State.updSync_kkept | with_reducible apply State.ite_kept | with_reducible apply State.ite1_kept
    | with_reducible apply State.ite2_kept | with_reducible refine Lands.dite (fun _ => ?_) (fun _ => ?_)
    | dsimp only [State.kept] | split

theorem execSnapshotPeriod_kept {v_ : Kept} {t : Nat} {s : State} (h_ : s.kept = v_) :
    Lands (fun x => x.kept = v_) (execSnapshotPeriod t s) := by
  unfold execSnapshotPeriod
  repeat' first
    | with_reducible apply Lands.next | with_reducible apply Lands.ite | with_reducible assumption
    | with_reducible apply State.begin_kkept | with_reducible apply State.schedule_kept | with_reducible apply State.ite_kept
    | with_reducible apply State.ite1_kept | with_reducible apply State.ite2_kept
    | with_reducible refine Lands.dite (fun _ => ?_) (fun _ => ?_) | dsimp only [State.kept] | split

theorem execSnapshotLatch_kept {v_ : Kept} {t : Nat} {s : State} (h_ : s.kept = v_) :
    Lands (fun x => x.kept = v_) (execSnapshotLatch t s) := by
  unfold execSnapshotLatch
  repeat' first
    | with_reducible apply Lands.next | with_reducible apply Lands.ite | with_reducible assumption
    | with_reducible apply State.begin_kkept | with_reducible apply State.ite_kept | with_reducible apply State.ite1_kept
    | with_reducible apply State.ite2_kept | with_reducible refine Lands.dite (fun _ => ?_) (fun _ => ?_)
    | dsimp only [State.kept] | split

theorem execSnapshotBufferSwap_kept {v_ : Kept} {t : Nat} {s : State} (h_ : s.kept = v_) :
    Lands (fun x => x.kept = v_) (execSnapshotBufferSwap t s) := by
  unfold execSnapshotBufferSwap
  repeat' first
    | with_reducible apply Lands.next | with_reducible apply Lands.ite | with_reducible assumption
    | with_reducible apply State.begin_kkept | with_reducible apply State.ite_kept | with_reducible apply State.ite1_kept
    | with_reducible apply State.ite2_kept | with_reducible refine Lands.dite (fun _ => ?_) (fun _ => ?_)
    | dsimp only [State.kept] | split

theorem State.candidate_kept {v_ : Kept} {s : State} {st : List Stage} (h_ : s.kept = v_) : (State.candidate s st).kept = v_ := by
  unfold State.candidate
  repeat' first
    | with_reducible assumption | with_reducible apply State.oput_kkept | with_reducible apply State.ite_kept
    | with_reducible refine State.foldl_kept (fun s x h => ?_) ?_ | dsimp only [State.kept] | split

theorem State.putMaskResults_kept {v_ : Kept} {s : State} {st : List Stage} (h_ : s.kept = v_) : (State.putMaskResults s st).kept = v_ := by
  unfold State.putMaskResults
  repeat' first
    | with_reducible assumption | with_reducible apply State.candidate_kept | with_reducible apply State.updZone_kkept
    | with_reducible apply State.ite_kept | with_reducible refine State.foldl_kept (fun s x h => ?_) ?_
    | with_reducible refine State.dite_kept (fun _ => ?_) (fun _ => ?_) | with_reducible apply State.id_kept
    | dsimp only [State.kept] | split

theorem State.afterRead_kept {v_ : Kept} {s : State} {w : Fin 32} {i sub : Nat} (h_ : s.kept = v_) : (State.afterRead s w i sub).kept = v_ := by
  unfold State.afterRead
  repeat' first
    | with_reducible assumption | with_reducible apply State.outcomeTaken_kept | with_reducible apply State.ite_kept
    | dsimp only [State.kept] | split

theorem State.kopRead_kept {v_ : Kept} {s : State} {c : Instr} {k : Kop} (h_ : s.kept = v_) : (State.kopRead s c k).kept = v_ := by
  unfold State.kopRead
  repeat' first
    | with_reducible assumption | with_reducible apply State.arrive_kept | with_reducible apply State.respond_kept
    | with_reducible apply State.await_kept | with_reducible apply State.afterRead_kept | with_reducible apply State.ite_kept
    | (refine State.arrive_to_kept (by with_reducible assumption) ?_) | dsimp only [State.kept] | split

theorem execRegisterWrite_kept {v_ : Kept} {t : Nat} {k : Kop} {index sub v : Nat} {s : State} (h_ : s.kept = v_) :
    Lands (fun x => x.kept = v_) (execRegisterWrite t k index sub v s) := by
  unfold execRegisterWrite
  repeat' first
    | with_reducible apply Lands.next | with_reducible apply Lands.ite | with_reducible assumption
    | (with_reducible refine State.command_kept (fun s w h => ?_) ?_)
    | (with_reducible refine State.write_kept (fun s w h => ?_) ?_) | with_reducible apply State.begin_kkept
    | with_reducible apply State.kopRead_kept | with_reducible apply State.refuse_kept | with_reducible apply State.updSess_kkept
    | with_reducible apply State.oapply_kept | with_reducible apply State.ite_kept | with_reducible apply State.ite1_kept
    | with_reducible apply State.ite2_kept | with_reducible refine State.dite_kept (fun _ => ?_) (fun _ => ?_)
    | with_reducible apply State.id_kept | with_reducible refine Lands.dite (fun _ => ?_) (fun _ => ?_)
    | dsimp only [State.kept] | split

theorem State.txRequest_kept {v_ : Kept} {s : State} {c : Instr} {k : Kop} {op i sub txid : Nat} {act : State → Fin 32 → Fin 8 → State}
    (hact : ∀ s w y, s.kept = v_ → (act s w y).kept = v_) (h_ : s.kept = v_) : (s.txRequest c k op i sub txid act).kept = v_ := by
  unfold State.txRequest
  split
  · exact State.arrive_to_kept (by assumption) h_
  · have := State.arrive_to_kept (by assumption) h_
    refine State.ite_kept this ?_
    split
    · exact State.respond_kept this
    · exact hact _ _ _ this

theorem execTxBegin_kept {v_ : Kept} {t : Nat} {k : Kop} {s : State} (h_ : s.kept = v_) :
    Lands (fun x => x.kept = v_) (execTxBegin t k s) := by
  unfold execTxBegin
  repeat' first
    | with_reducible apply Lands.next | with_reducible apply Lands.ite | with_reducible assumption
    | with_reducible apply State.begin_kkept | with_reducible apply State.arrive_kept | with_reducible apply State.respond_kept
    | with_reducible apply State.updTx_kkept | with_reducible apply State.ite_kept | with_reducible apply State.ite1_kept
    | with_reducible apply State.ite2_kept | (refine State.arrive_to_kept (by with_reducible assumption) ?_)
    | with_reducible refine State.dite_kept (fun _ => ?_) (fun _ => ?_) | with_reducible apply State.id_kept
    | with_reducible refine Lands.dite (fun _ => ?_) (fun _ => ?_) | dsimp only [State.kept] | split

theorem State.touch_kept {v_ : Kept} {s s' : State} {y : Fin 8} {i sub : Nat} (e_ : s.touch y i sub = some s') (h_ : s.kept = v_) : s'.kept = v_ := by
  unfold State.touch at e_
  dsimp only at e_
  repeat' split at e_
  all_goals first | (simp at e_; done) | (injection e_ with e_; subst e_; exact h_)

theorem execTxWrite_kept {v_ : Kept} {t : Nat} {k : Kop} {txid index sub v : Nat} {s : State} (h_ : s.kept = v_) :
    Lands (fun x => x.kept = v_) (execTxWrite t k txid index sub v s) := by
  unfold execTxWrite
  repeat' first
    | with_reducible apply Lands.next | with_reducible apply Lands.ite | with_reducible assumption
    | (with_reducible refine State.txRequest_kept (fun s w y h => ?_) ?_)
    | (refine State.touch_kept (by with_reducible assumption) ?_) | with_reducible apply State.begin_kkept
    | with_reducible apply State.respond_kept | with_reducible apply State.updTx_kkept | with_reducible apply State.ite_kept
    | with_reducible apply State.ite1_kept | with_reducible apply State.ite2_kept
    | with_reducible refine State.dite_kept (fun _ => ?_) (fun _ => ?_) | with_reducible apply State.id_kept
    | with_reducible refine Lands.dite (fun _ => ?_) (fun _ => ?_) | dsimp only [State.kept] | split

theorem execTxRead_kept {v_ : Kept} {t : Nat} {k : Kop} {txid index sub : Nat} {s : State} (h_ : s.kept = v_) :
    Lands (fun x => x.kept = v_) (execTxRead t k txid index sub s) := by
  unfold execTxRead
  repeat' first
    | with_reducible apply Lands.next | with_reducible apply Lands.ite | with_reducible assumption
    | (with_reducible refine State.txRequest_kept (fun s w y h => ?_) ?_)
    | (refine State.touch_kept (by with_reducible assumption) ?_) | with_reducible apply State.begin_kkept
    | with_reducible apply State.respond_kept | with_reducible apply State.await_kept
    | with_reducible apply State.afterRead_kept | with_reducible apply State.ite_kept | with_reducible apply State.ite1_kept
    | with_reducible apply State.ite2_kept | with_reducible refine State.dite_kept (fun _ => ?_) (fun _ => ?_)
    | with_reducible apply State.id_kept | with_reducible refine Lands.dite (fun _ => ?_) (fun _ => ?_)
    | dsimp only [State.kept] | split

theorem State.afterCheck_kept {v_ : Kept} {s : State} {y : Fin 8} (h_ : s.kept = v_) : (State.afterCheck s y).kept = v_ := by
  unfold State.afterCheck
  repeat' first
    | with_reducible assumption | with_reducible apply State.putMaskResults_kept | with_reducible apply State.ite_kept
    | dsimp only [State.kept] | split

theorem execTxCommit_kept {v_ : Kept} {t : Nat} {k : Kop} {txid limit : Nat} {s : State} (h_ : s.kept = v_) :
    Lands (fun x => x.kept = v_) (execTxCommit t k txid limit s) := by
  unfold execTxCommit
  repeat' first
    | with_reducible apply Lands.next | with_reducible apply Lands.ite | with_reducible assumption
    | (with_reducible refine State.txRequest_kept (fun s w y h => ?_) ?_) | with_reducible apply State.begin_kkept
    | with_reducible apply State.respond_kept | with_reducible apply State.afterCheck_kept
    | with_reducible apply State.endTx_kept | with_reducible apply State.updTx_kkept | with_reducible apply State.ite_kept
    | with_reducible apply State.ite1_kept | with_reducible apply State.ite2_kept
    | with_reducible refine State.dite_kept (fun _ => ?_) (fun _ => ?_) | with_reducible apply State.id_kept
    | with_reducible refine Lands.dite (fun _ => ?_) (fun _ => ?_) | dsimp only [State.kept] | split

theorem execTxAbort_kept {v_ : Kept} {t : Nat} {k : Kop} {txid : Nat} {s : State} (h_ : s.kept = v_) :
    Lands (fun x => x.kept = v_) (execTxAbort t k txid s) := by
  unfold execTxAbort
  repeat' first
    | with_reducible apply Lands.next | with_reducible apply Lands.ite | with_reducible assumption
    | (with_reducible refine State.txRequest_kept (fun s w y h => ?_) ?_) | with_reducible apply State.begin_kkept
    | with_reducible apply State.endTx_kept | with_reducible apply State.respond_kept | with_reducible apply State.ite_kept
    | with_reducible apply State.ite1_kept | with_reducible apply State.ite2_kept
    | with_reducible refine State.dite_kept (fun _ => ?_) (fun _ => ?_) | with_reducible apply State.id_kept
    | with_reducible refine Lands.dite (fun _ => ?_) (fun _ => ?_) | dsimp only [State.kept] | split

theorem execTxStatus_kept {v_ : Kept} {t : Nat} {k : Kop} {txid : Nat} {s : State} (h_ : s.kept = v_) :
    Lands (fun x => x.kept = v_) (execTxStatus t k txid s) := by
  unfold execTxStatus
  repeat' first
    | with_reducible apply Lands.next | with_reducible apply Lands.ite | with_reducible assumption
    | (with_reducible refine State.txRequest_kept (fun s w y h => ?_) ?_) | with_reducible apply State.begin_kkept
    | with_reducible apply State.respond_kept | with_reducible apply State.ite_kept | with_reducible apply State.ite1_kept
    | with_reducible apply State.ite2_kept | with_reducible refine State.dite_kept (fun _ => ?_) (fun _ => ?_)
    | with_reducible apply State.id_kept | with_reducible refine Lands.dite (fun _ => ?_) (fun _ => ?_)
    | dsimp only [State.kept] | split

theorem State.applyStage_kept {v_ : Kept} {s : State} {g : Stage} (h_ : s.kept = v_) : (State.applyStage s g).kept = v_ := by
  unfold State.applyStage
  repeat' first
    | with_reducible assumption | with_reducible apply State.bump_kept | with_reducible apply State.updHead_kkept
    | with_reducible apply State.oapply_kept | with_reducible apply State.ite_kept | dsimp only [State.kept] | split

theorem State.freeGate_kept {v_ : Kept} {s : State} {g : Fin 8} (h_ : s.kept = v_) : (State.freeGate s g).kept = v_ := by
  unfold State.freeGate
  repeat' first
    | with_reducible assumption | with_reducible apply State.updGate_kkept | with_reducible apply State.gateOut_kept
    | with_reducible apply State.ite_kept | dsimp only [State.kept] | split

theorem State.chanCommitted_kept {v_ : Kept} {s : State} {c : Fin 8} {old : Nat} (h_ : s.kept = v_) : (State.chanCommitted s c old).kept = v_ := by
  unfold State.chanCommitted
  repeat' first
    | with_reducible assumption | with_reducible apply State.dropDue_kept | with_reducible apply State.abandonEnc_kept
    | with_reducible apply State.updEnc_kept | with_reducible apply State.setChan_kept
    | with_reducible apply State.checkSources_kept | with_reducible apply State.updChan_kkept
    | with_reducible apply State.startChan_kept | with_reducible apply State.presetZone_kept
    | with_reducible apply State.ite_kept | with_reducible refine State.foldl_kept (fun s x h => ?_) ?_
    | with_reducible refine State.dite_kept (fun _ => ?_) (fun _ => ?_) | with_reducible apply State.id_kept
    | dsimp only [State.kept] | split

theorem State.sourceCommitted_kept {v_ : Kept} {s : State} {z : Fin 8} (h_ : s.kept = v_) : (State.sourceCommitted s z).kept = v_ := by
  unfold State.sourceCommitted
  repeat' first
    | with_reducible assumption | with_reducible apply State.updZone_kkept | with_reducible apply State.checkSources_kept
    | with_reducible apply State.ite_kept | dsimp only [State.kept] | split

theorem State.unverifiedEvents_kept {v_ : Kept} {old s : State} (h_ : s.kept = v_) : (State.unverifiedEvents old s).kept = v_ := by
  unfold State.unverifiedEvents
  exact State.foldl_kept (fun s x h => State.ite_kept (State.setIdentity_kept h) h) h_

theorem State.committed_kept {v_ : Kept} {old s : State} {st : List Stage} (h_ : s.kept = v_) : (State.committed old s st).kept = v_ := by
  unfold State.committed
  repeat' first
    | with_reducible assumption | with_reducible apply State.installGen_kept | with_reducible apply State.newSet_kept
    | with_reducible apply State.discardUnstarted_kept | with_reducible apply State.unverifiedEvents_kept
    | with_reducible apply State.chanCommitted_kept | with_reducible apply State.sourceCommitted_kept
    | with_reducible apply State.freeGate_kept | with_reducible apply State.gateOut_kept
    | with_reducible apply State.recomputeQuality_kept | with_reducible apply State.recomputeRes_kept
    | with_reducible apply State.ite_kept | with_reducible refine State.foldl_kept (fun s x h => ?_) ?_
    | dsimp only [State.kept] | split

theorem State.applyTx_kept {v_ : Kept} {s : State} {st : List Stage} (h_ : s.kept = v_) : (State.applyTx s st).kept = v_ := by
  unfold State.applyTx
  repeat' first
    | with_reducible assumption | with_reducible apply State.committed_kept | with_reducible apply State.applyStage_kept
    | with_reducible apply State.ite_kept | with_reducible refine State.foldl_kept (fun s x h => ?_) ?_
    | dsimp only [State.kept] | split

theorem execCommitApply_kept {v_ : Kept} {t : Nat} {slot : Fin 8} {s : State} (h_ : s.kept = v_) :
    Lands (fun x => x.kept = v_) (execCommitApply t slot s) := by
  unfold execCommitApply
  repeat' first
    | with_reducible apply Lands.next | with_reducible apply Lands.ite | with_reducible assumption
    | with_reducible apply State.begin_kkept | with_reducible apply State.afterCheck_kept | with_reducible apply State.endTx_kept
    | with_reducible apply State.applyTx_kept | with_reducible apply State.ite_kept | with_reducible apply State.ite1_kept
    | with_reducible apply State.ite2_kept | with_reducible refine Lands.dite (fun _ => ?_) (fun _ => ?_)
    | dsimp only [State.kept] | split

theorem execCommitTimeout_kept {v_ : Kept} {t : Nat} {slot : Fin 8} {s : State} (h_ : s.kept = v_) :
    Lands (fun x => x.kept = v_) (execCommitTimeout t slot s) := by
  unfold execCommitTimeout
  repeat' first
    | with_reducible apply Lands.next | with_reducible apply Lands.ite | with_reducible assumption
    | with_reducible apply State.begin_kkept | with_reducible apply State.endTx_kept | with_reducible apply State.ite_kept
    | with_reducible apply State.ite1_kept | with_reducible apply State.ite2_kept
    | with_reducible refine Lands.dite (fun _ => ?_) (fun _ => ?_) | dsimp only [State.kept] | split

theorem execTransactionExpiry_kept {v_ : Kept} {t : Nat} {slot : Fin 8} {s : State} (h_ : s.kept = v_) :
    Lands (fun x => x.kept = v_) (execTransactionExpiry t slot s) := by
  unfold execTransactionExpiry
  repeat' first
    | with_reducible apply Lands.next | with_reducible apply Lands.ite | with_reducible assumption
    | with_reducible apply State.begin_kkept | with_reducible apply State.endTx_kept | with_reducible apply State.ite_kept
    | with_reducible apply State.ite1_kept | with_reducible apply State.ite2_kept
    | with_reducible refine Lands.dite (fun _ => ?_) (fun _ => ?_) | dsimp only [State.kept] | split

theorem execTransactionSlotAbort_kept {v_ : Kept} {t : Nat} {k : Kop} {slot : Fin 8} {s : State} (h_ : s.kept = v_) :
    Lands (fun x => x.kept = v_) (execTransactionSlotAbort t k slot s) := by
  unfold execTransactionSlotAbort
  repeat' first
    | with_reducible apply Lands.next | with_reducible apply Lands.ite | with_reducible assumption
    | (with_reducible refine State.command_kept (fun s w h => ?_) ?_) | with_reducible apply State.begin_kkept
    | with_reducible apply State.endTx_kept | with_reducible apply State.refuse_kept | with_reducible apply State.ite_kept
    | with_reducible apply State.ite1_kept | with_reducible apply State.ite2_kept
    | with_reducible refine Lands.dite (fun _ => ?_) (fun _ => ?_) | dsimp only [State.kept] | split

theorem State.updCan_kkept {v_ : Kept} {s : State} {f : Fin 2} {g : Can → Can} (h_ : s.kept = v_) : (s.updCan f g).kept = v_ := h_

theorem execCanFrame_kept {v_ : Kept} {t : Nat} {f : Fin 2} {m : CanMsg} {s : State} (h_ : s.kept = v_) :
    Lands (fun x => x.kept = v_) (execCanFrame t f m s) := by
  unfold execCanFrame
  repeat' first
    | with_reducible apply Lands.next | with_reducible apply Lands.ite | with_reducible assumption
    | with_reducible apply State.begin_kkept | with_reducible apply State.wake_kept | with_reducible apply State.updCan_kkept
    | with_reducible apply State.ite_kept | with_reducible apply State.ite1_kept | with_reducible apply State.ite2_kept
    | with_reducible refine State.dite_kept (fun _ => ?_) (fun _ => ?_) | with_reducible apply State.id_kept
    | with_reducible refine Lands.dite (fun _ => ?_) (fun _ => ?_) | dsimp only [State.kept] | split

theorem execCanReassemblyTimeout_kept {v_ : Kept} {t : Nat} {f : Fin 2} {host : Nat} {s : State} (h_ : s.kept = v_) :
    Lands (fun x => x.kept = v_) (execCanReassemblyTimeout t f host s) := by
  unfold execCanReassemblyTimeout
  repeat' first
    | with_reducible apply Lands.next | with_reducible apply Lands.ite | with_reducible assumption
    | with_reducible apply State.begin_kkept | with_reducible apply State.updCan_kkept | with_reducible apply State.ite_kept
    | with_reducible apply State.ite1_kept | with_reducible apply State.ite2_kept
    | with_reducible refine Lands.dite (fun _ => ?_) (fun _ => ?_) | dsimp only [State.kept] | split

theorem execCanBusError_kept {v_ : Kept} {t : Nat} {f : Fin 2} {transmit primary : Bool} {s : State} (h_ : s.kept = v_) :
    Lands (fun x => x.kept = v_) (execCanBusError t f transmit primary s) := by
  unfold execCanBusError
  repeat' first
    | with_reducible apply Lands.next | with_reducible apply Lands.ite | with_reducible assumption
    | with_reducible apply State.begin_kkept | with_reducible apply State.updCan_kkept | with_reducible apply State.ite_kept
    | with_reducible apply State.ite1_kept | with_reducible apply State.ite2_kept
    | with_reducible refine Lands.dite (fun _ => ?_) (fun _ => ?_) | dsimp only [State.kept] | split

theorem execBusOffRecovery_kept {v_ : Kept} {t : Nat} {f : Fin 2} {s : State} (h_ : s.kept = v_) :
    Lands (fun x => x.kept = v_) (execBusOffRecovery t f s) := by
  unfold execBusOffRecovery
  repeat' first
    | with_reducible apply Lands.next | with_reducible apply Lands.ite | with_reducible assumption
    | with_reducible apply State.begin_kkept | with_reducible apply State.updCan_kkept | with_reducible apply State.ite_kept
    | with_reducible apply State.ite1_kept | with_reducible apply State.ite2_kept
    | with_reducible refine Lands.dite (fun _ => ?_) (fun _ => ?_) | dsimp only [State.kept] | split

theorem State.loadStages_kept {v_ : Kept} {s : State} {st : List Stage} (h_ : s.kept = v_) : (State.loadStages s st).kept = v_ := by
  unfold State.loadStages
  repeat' first
    | with_reducible assumption | with_reducible apply State.oput_kkept | with_reducible apply State.ite_kept
    | with_reducible refine State.foldl_kept (fun s x h => ?_) ?_ | dsimp only [State.kept] | split

theorem State.skipEntries_kept {v_ : Kept} {s : State} {b : Bank} (h_ : s.kept = v_) : (State.skipEntries s b).kept = v_ := by
  unfold State.skipEntries
  repeat' first
    | with_reducible assumption | with_reducible apply State.event_kept | with_reducible apply State.ite_kept
    | with_reducible refine State.foldl_kept (fun s x h => ?_) ?_ | with_reducible apply State.ite1_kept
    | with_reducible apply State.ite2_kept | dsimp only [State.kept] | split

theorem State.takeBank_kept {v_ : Kept} {s : State} {b : Fin 2} (h_ : s.kept = v_) : (State.takeBank s b).kept = v_ := by
  unfold State.takeBank
  repeat' first
    | with_reducible assumption | with_reducible apply State.loadStages_kept | with_reducible apply State.putMaskResults_kept
    | with_reducible apply State.updHead_kkept | with_reducible apply State.recomputeQuality_kept
    | with_reducible apply State.ite_kept | with_reducible refine State.foldl_kept (fun s x h => ?_) ?_
    | dsimp only [State.kept] | split

theorem State.tryBanks_kept {v_ : Kept} {l : List (Fin 2)} {s : State} {tried : Nat} (h_ : s.kept = v_) : (s.tryBanks tried l).kept = v_ := by
  induction l generalizing s tried with
  | nil => exact State.ite_kept h_ (State.event_kept h_)
  | cons b l ih =>
    unfold State.tryBanks
    exact State.ite_kept (State.takeBank_kept (State.skipEntries_kept h_)) (ih (State.skipEntries_kept h_))

theorem State.loadStore_kept {v_ : Kept} {s : State} (h_ : s.kept = v_) : s.loadStore.kept = v_ := by
  unfold State.loadStore
  exact State.tryBanks_kept (State.foldl_kept (fun s x h => h) h_)

theorem State.installPatches_kept {v_ : Kept} {s : State} {p : PowerUp} (h_ : s.kept = v_) : (State.installPatches s p).kept = v_ := by
  unfold State.installPatches
  repeat' first
    | with_reducible assumption | with_reducible apply State.ite_kept
    | with_reducible refine State.foldl_kept (fun s x h => ?_) ?_ | with_reducible apply State.ite1_kept
    | with_reducible apply State.ite2_kept | dsimp only [State.kept] | split

theorem State.startEngines_kept {v_ : Kept} {s : State} {p : PowerUp} (h_ : s.kept = v_) : (State.startEngines s p).kept = v_ := by
  unfold State.startEngines
  repeat' first
    | with_reducible assumption | with_reducible apply State.startFirmware_kept | with_reducible apply State.faultEvent_kept
    | with_reducible apply State.ite_kept | with_reducible refine State.foldl_kept (fun s x h => ?_) ?_
    | dsimp only [State.kept] | split

theorem State.startChans_kept {v_ : Kept} {s : State} (h_ : s.kept = v_) : (State.startChans s).kept = v_ := by
  unfold State.startChans
  repeat' first
    | with_reducible assumption | with_reducible apply State.startChan_kept | with_reducible apply State.ite_kept
    | with_reducible refine State.foldl_kept (fun s x h => ?_) ?_ | dsimp only [State.kept] | split

theorem State.startPorts_kept {v_ : Kept} {s : State} (h_ : s.kept = v_) : (State.startPorts s).kept = v_ := by
  unfold State.startPorts
  repeat' first
    | with_reducible assumption | with_reducible apply State.ite_kept | dsimp only [State.kept] | split

theorem State.recordHigh_kept {v_ : Kept} {s : State} (h_ : s.kept = v_) : (State.recordHigh s).kept = v_ := by
  unfold State.recordHigh
  repeat' first
    | with_reducible assumption | with_reducible apply State.faultEvent_kept | with_reducible apply State.ite_kept
    | with_reducible refine State.foldl_kept (fun s x h => ?_) ?_
    | with_reducible refine State.dite_kept (fun _ => ?_) (fun _ => ?_) | with_reducible apply State.id_kept
    | dsimp only [State.kept] | split

theorem State.hostPortDown_kept {v_ : Kept} {s : State} {p : Fin 4} (h_ : s.kept = v_) : (State.hostPortDown s p).kept = v_ := by
  unfold State.hostPortDown
  repeat' first
    | with_reducible assumption | with_reducible apply State.selectPtp_kept | with_reducible apply State.ite_kept
    | dsimp only [State.kept] | split

theorem execLanePllLoss_kept {v_ : Kept} {t : Nat} {port : Fin 20} {s : State} (h_ : s.kept = v_) :
    Lands (fun x => x.kept = v_) (execLanePllLoss t port s) := by
  unfold execLanePllLoss
  repeat' first
    | with_reducible apply Lands.next | with_reducible apply Lands.ite | with_reducible assumption
    | with_reducible apply State.begin_kkept | with_reducible apply State.setLink_kept | with_reducible apply State.updPort_kkept
    | with_reducible apply State.endLane_kept | with_reducible apply State.portLost_kept
    | with_reducible apply State.hostPortDown_kept | with_reducible apply State.ite_kept | with_reducible apply State.ite1_kept
    | with_reducible apply State.ite2_kept | with_reducible refine State.dite_kept (fun _ => ?_) (fun _ => ?_)
    | with_reducible apply State.id_kept | with_reducible refine Lands.dite (fun _ => ?_) (fun _ => ?_)
    | dsimp only [State.kept] | split

theorem execDieTemperatureSample_kept {v_ : Kept} {t : Nat} {temp : Int} {s : State} (h_ : s.kept = v_) :
    Lands (fun x => x.kept = v_) (execDieTemperatureSample t temp s) := by
  unfold execDieTemperatureSample
  repeat' first
    | with_reducible apply Lands.next | with_reducible apply Lands.ite | with_reducible assumption
    | with_reducible apply State.begin_kkept | with_reducible apply State.faultEvent_kept | with_reducible apply State.ite_kept
    | with_reducible apply State.ite1_kept | with_reducible apply State.ite2_kept
    | with_reducible refine State.dite_kept (fun _ => ?_) (fun _ => ?_) | with_reducible apply State.id_kept
    | with_reducible refine Lands.dite (fun _ => ?_) (fun _ => ?_) | dsimp only [State.kept] | split

theorem State.setDevice_kept {v_ : Kept} {s : State} {st : Nat} (h_ : s.kept = v_) : (State.setDevice s st).kept = v_ := by
  unfold State.setDevice
  repeat' first
    | with_reducible assumption | with_reducible apply State.stateChanged_kept | with_reducible apply State.ite_kept
    | dsimp only [State.kept] | split

theorem execDeviceReady_kept {v_ : Kept} {t : Nat} {s : State} (h_ : s.kept = v_) :
    Lands (fun x => x.kept = v_) (execDeviceReady t s) := by
  unfold execDeviceReady
  repeat' first
    | with_reducible apply Lands.next | with_reducible apply Lands.ite | with_reducible assumption
    | with_reducible apply State.begin_kkept | with_reducible apply State.setDevice_kept | with_reducible apply State.ite_kept
    | with_reducible apply State.ite1_kept | with_reducible apply State.ite2_kept
    | with_reducible refine Lands.dite (fun _ => ?_) (fun _ => ?_) | dsimp only [State.kept] | split

theorem State.domainLost_kept {v_ : Kept} {s : State} {d : Fin 11} (h_ : s.kept = v_) : (State.domainLost s d).kept = v_ := by
  unfold State.domainLost
  repeat' first
    | with_reducible assumption | with_reducible apply State.selectPtp_kept | with_reducible apply State.updPort_kkept
    | with_reducible apply State.updAxis_kkept | with_reducible apply State.updEngine_kkept
    | with_reducible apply State.clearPad_kept | with_reducible apply State.dropAccesses_kept
    | with_reducible apply State.roleStops_kept | with_reducible apply State.ite_kept
    | with_reducible refine State.foldl_kept (fun s x h => ?_) ?_ | with_reducible apply State.ite1_kept
    | with_reducible apply State.ite2_kept | with_reducible refine State.dite_kept (fun _ => ?_) (fun _ => ?_)
    | with_reducible apply State.id_kept | dsimp only [State.kept] | split

theorem State.setDomain_kkept {v_ : Kept} {s : State} {d : Fin 11} {st : Nat} (h_ : s.kept = v_) : (s.setDomain d st).kept = v_ := h_

theorem execDomainRetention_kept {v_ : Kept} {t : Nat} {d : Fin 11} {s : State} (h_ : s.kept = v_) :
    Lands (fun x => x.kept = v_) (execDomainRetention t d s) := by
  unfold execDomainRetention
  repeat' first
    | with_reducible apply Lands.next | with_reducible apply Lands.ite | with_reducible assumption
    | with_reducible apply State.begin_kkept | with_reducible apply State.setDomain_kkept | with_reducible apply State.ite_kept
    | with_reducible apply State.ite1_kept | with_reducible apply State.ite2_kept
    | with_reducible refine State.dite_kept (fun _ => ?_) (fun _ => ?_) | with_reducible apply State.id_kept
    | with_reducible refine Lands.dite (fun _ => ?_) (fun _ => ?_) | dsimp only [State.kept] | split

theorem execDomainOff_kept {v_ : Kept} {t : Nat} {d : Fin 11} {s : State} (h_ : s.kept = v_) :
    Lands (fun x => x.kept = v_) (execDomainOff t d s) := by
  unfold execDomainOff
  repeat' first
    | with_reducible apply Lands.next | with_reducible apply Lands.ite | with_reducible assumption
    | with_reducible apply State.begin_kkept | with_reducible apply State.domainLost_kept
    | with_reducible apply State.setDomain_kkept | with_reducible apply State.ite_kept | with_reducible apply State.ite1_kept
    | with_reducible apply State.ite2_kept | with_reducible refine State.dite_kept (fun _ => ?_) (fun _ => ?_)
    | with_reducible apply State.id_kept | with_reducible refine Lands.dite (fun _ => ?_) (fun _ => ?_)
    | dsimp only [State.kept] | split

theorem execDomainWake_kept {v_ : Kept} {t : Nat} {d : Fin 11} {s : State} (h_ : s.kept = v_) :
    Lands (fun x => x.kept = v_) (execDomainWake t d s) := by
  unfold execDomainWake
  repeat' first
    | with_reducible apply Lands.next | with_reducible apply Lands.ite | with_reducible assumption
    | with_reducible apply State.begin_kkept | with_reducible apply State.wake_kept | with_reducible apply State.ite_kept
    | with_reducible apply State.ite1_kept | with_reducible apply State.ite2_kept
    | with_reducible refine Lands.dite (fun _ => ?_) (fun _ => ?_) | dsimp only [State.kept] | split

theorem State.domainBack_kept {v_ : Kept} {s : State} {d : Fin 11} (h_ : s.kept = v_) : (State.domainBack s d).kept = v_ := by
  unfold State.domainBack
  repeat' first
    | with_reducible assumption | with_reducible apply State.trainPort_kept | with_reducible apply State.startFirmware_kept
    | with_reducible apply State.updEngine_kkept | with_reducible apply State.roleResumes_kept
    | with_reducible apply State.ite_kept | with_reducible refine State.foldl_kept (fun s x h => ?_) ?_
    | with_reducible refine State.dite_kept (fun _ => ?_) (fun _ => ?_) | with_reducible apply State.id_kept
    | dsimp only [State.kept] | split

theorem execDomainWakeComplete_kept {v_ : Kept} {t : Nat} {w : Woken} {s : State} (h_ : s.kept = v_) :
    Lands (fun x => x.kept = v_) (execDomainWakeComplete t w s) := by
  unfold execDomainWakeComplete
  repeat' first
    | with_reducible apply Lands.next | with_reducible apply Lands.ite | with_reducible assumption
    | with_reducible apply State.begin_kkept | with_reducible apply State.setDomain_kkept
    | with_reducible apply State.testArrays_kept | with_reducible apply State.domainBack_kept
    | with_reducible apply State.ite_kept | with_reducible apply State.ite1_kept | with_reducible apply State.ite2_kept
    | with_reducible refine Lands.dite (fun _ => ?_) (fun _ => ?_) | dsimp only [State.kept] | split

theorem execOrderlyPowerDown_kept {v_ : Kept} {t : Nat} {k : Kop} {s : State} (h_ : s.kept = v_) :
    Lands (fun x => x.kept = v_) (execOrderlyPowerDown t k s) := by
  unfold execOrderlyPowerDown
  repeat' first
    | with_reducible apply Lands.next | with_reducible apply Lands.ite | with_reducible assumption
    | (with_reducible refine State.command_kept (fun s w h => ?_) ?_) | with_reducible apply State.begin_kkept
    | with_reducible apply State.refuse_kept | with_reducible apply State.drainZone_kept
    | with_reducible apply State.setDevice_kept | with_reducible apply State.ite_kept
    | with_reducible refine State.foldl_kept (fun s x h => ?_) ?_ | with_reducible apply State.ite1_kept
    | with_reducible apply State.ite2_kept | with_reducible refine Lands.dite (fun _ => ?_) (fun _ => ?_)
    | dsimp only [State.kept] | split

theorem State.nextStep_kept {v_ : Kept} {s : State} {n : Nat} (h_ : s.kept = v_) : (State.nextStep s n).kept = v_ := by
  unfold State.nextStep
  repeat' first
    | with_reducible assumption | with_reducible apply State.ite_kept | dsimp only [State.kept] | split

theorem State.downHeads_kept {v_ : Kept} {s : State} (h_ : s.kept = v_) : (State.downHeads s).kept = v_ := by
  unfold State.downHeads
  repeat' first
    | with_reducible assumption | with_reducible apply State.warmTo_kept | with_reducible apply State.chainsOff_kept
    | with_reducible apply State.ite_kept | with_reducible refine State.foldl_kept (fun s x h => ?_) ?_
    | dsimp only [State.kept] | split

theorem State.downChains_kept {v_ : Kept} {s : State} (h_ : s.kept = v_) : (State.downChains s).kept = v_ := by
  unfold State.downChains
  repeat' first
    | with_reducible assumption | with_reducible apply State.stopAxis_kept | with_reducible apply State.recordHigh_kept
    | with_reducible apply State.ite_kept | with_reducible refine State.foldl_kept (fun s x h => ?_) ?_
    | dsimp only [State.kept] | split

theorem State.downAxes_kept {v_ : Kept} {s : State} (h_ : s.kept = v_) : (State.downAxes s).kept = v_ := by
  unfold State.downAxes
  repeat' first
    | with_reducible assumption | with_reducible apply State.beginRetain_kept | with_reducible apply State.ite_kept
    | with_reducible refine State.foldl_kept (fun s x h => ?_) ?_
    | with_reducible refine State.dite_kept (fun _ => ?_) (fun _ => ?_) | with_reducible apply State.id_kept
    | dsimp only [State.kept] | split

theorem State.downDomains_kept {v_ : Kept} {s : State} (h_ : s.kept = v_) : (State.downDomains s).kept = v_ := by
  unfold State.downDomains
  repeat' first
    | with_reducible assumption | with_reducible apply State.domainLost_kept | with_reducible apply State.setDomain_kkept
    | with_reducible apply State.cmdEnd_kept | with_reducible apply State.ite_kept
    | with_reducible refine State.foldl_kept (fun s x h => ?_) ?_ | dsimp only [State.kept] | split

end Sys2Proof.Machine
end

