-- ==== Sys2Proof/Laws/Changes.lean ====
section
/-! SUPPORT. The operations and commands that change the external DRAM, the fuses, the recorder, the banks of the persistent
store or the tamper latch: which of these each of them leaves as it is. -/

set_option linter.unusedTactic false
set_option linter.unreachableTactic false

namespace Sys2Proof.Machine


/-! ### The field `pending` -/

theorem State.ite_pending {c : Prop} [Decidable c] {v_ : List Instr} {x y : State} (hx : x.pending = v_) (hy : y.pending = v_) :
    (if c then x else y).pending = v_ := by split <;> assumption
theorem State.dite_pending {c : Prop} [Decidable c] {v_ : List Instr} {x : c → State} {y : ¬ c → State} (hx : ∀ h, (x h).pending = v_) (hy : ∀ h, (y h).pending = v_) :
    (if h : c then x h else y h).pending = v_ := by split <;> simp only [*]
theorem State.id_pending {v_ : List Instr} {x : State} (hx : x.pending = v_) : (id x).pending = v_ := hx
theorem State.ite1_pending {β : Type} {c : Prop} [Decidable c] {v_ : List Instr} {x y : State × β} (hx : x.1.pending = v_) (hy : y.1.pending = v_) :
    (if c then x else y).1.pending = v_ := by split <;> assumption
theorem State.ite2_pending {β : Type} {c : Prop} [Decidable c] {v_ : List Instr} {x y : β × State} (hx : x.2.pending = v_) (hy : y.2.pending = v_) :
    (if c then x else y).2.pending = v_ := by split <;> assumption
theorem State.foldl_pending {α : Type} {v_ : List Instr} {g : State → α → State} {l : List α} {s : State}
    (h : ∀ s x, s.pending = v_ → (g s x).pending = v_) (hs : s.pending = v_) : (l.foldl g s).pending = v_ := by
  induction l generalizing s with
  | nil => exact hs
  | cons x l ih => exact ih (h s x hs)

theorem State.respond_pending {v_ : List Instr} {s : State} {i : Fin 32} {r : Resp} (h_ : s.pending = v_) : (s.respond i r).pending = v_ :=
  (State.pending_of (State.respond_kept rfl)).trans h_
theorem State.arrive_to_pending {v_ : List Instr} {s : State} {c : Instr} {k : Kop} {r_ : Option (Fin 32) × State} (e_ : s.arrive c k = r_) (h_ : s.pending = v_) :
    r_.2.pending = v_ := (State.pending_of (State.arrive_to_kept e_ rfl)).trans h_
theorem State.await_pending {v_ : List Instr} {s : State} {c : Instr} {k : Kop} {i : Fin 32} {ds : List (Fin 11)} (h_ : s.pending = v_) : (s.await c k i ds).pending = v_ :=
  (State.pending_of (State.await_kept rfl)).trans h_

theorem State.datagram_pending {v_ : List Instr} {s : State} {d : Dgram} (h_ : s.pending = v_) : (s.datagram d).2.pending = v_ :=
  (State.pending_of (State.datagram_kept rfl)).trans h_
theorem State.datagram_to_pending {v_ : List Instr} {s : State} {d : Dgram} {r_ : Option (Fin 32) × State} (e_ : s.datagram d = r_) (h_ : s.pending = v_) :
    r_.2.pending = v_ := (State.pending_of (State.datagram_to_kept e_ rfl)).trans h_
theorem State.updSess_kpending {v_ : List Instr} {s : State} {i : Fin 32} {f : Session → Session} (h_ : s.pending = v_) : (s.updSess i f).pending = v_ := h_

theorem State.command_pending {v_ : List Instr} {s : State} {c : Instr} {k : Kop} {i sub v : Nat} {act : State → Who → State × CmdRes}
    (hact : ∀ s w, s.pending = v_ → (act s w).1.pending = v_) (h_ : s.pending = v_) : (s.command c k i sub v act).pending = v_ := by
  unfold State.command
  split
  · exact State.arrive_to_pending (by assumption) h_
  · have := State.arrive_to_pending (by assumption) h_
    refine State.ite_pending this (State.ite_pending (State.respond_pending this) (State.ite_pending (State.await_pending this) ?_))
    split
    rename_i s' res e
    have h' : s'.pending = v_ := (congrArg (fun r => State.pending r.1) e).symm.trans (hact _ _ this)
    split <;> exact State.respond_pending h'

theorem State.takeSeq_pending {v_ : List Instr} {s : State} {i : Fin 32} {c : SeqClass} {stale : State → State} (hst : ∀ s, s.pending = v_ → (stale s).pending = v_) (h_ : s.pending = v_) :
    (s.takeSeq i c stale).2.pending = v_ := by
  cases c with
  | accept n => exact h_
  | duplicate => exact State.updSess_kpending h_
  | stale => exact hst _ (State.updSess_kpending h_)

theorem State.sequenced_pending {v_ : List Instr} {s : State} {kind : Nat} {m : Ktp} {stale : State → State} (hst : ∀ s, s.pending = v_ → (stale s).pending = v_) (h_ : s.pending = v_) :
    (s.sequenced kind m stale).2.pending = v_ := by
  unfold State.sequenced
  split
  · exact State.datagram_to_pending (by assumption) h_
  · refine State.takeSeq_pending hst ?_
    exact State.datagram_to_pending (by assumption) h_
theorem State.sequenced_to_pending {v_ : List Instr} {s : State} {kind : Nat} {m : Ktp} {stale : State → State} {r_ : Option (Fin 32 × Nat) × State}
    (e_ : s.sequenced kind m stale = r_) (hst : ∀ s, s.pending = v_ → (stale s).pending = v_) (h_ : s.pending = v_) : r_.2.pending = v_ := by
  rw [← e_]; exact State.sequenced_pending hst h_

theorem State.chanWrite_pending {v_ : List Instr} {s : State} {ch a : Nat} {bs : List Nat} (h_ : s.pending = v_) : (State.chanWrite s ch a bs).pending = v_ := by
  unfold State.chanWrite
  repeat' first
    | with_reducible assumption | with_reducible apply State.ite_pending
    | with_reducible refine State.dite_pending (fun _ => ?_) (fun _ => ?_) | with_reducible apply State.id_pending | dsimp only
    | split

theorem State.parityAt_pending {v_ : List Instr} {s : State} {ch a : Nat} (h_ : s.pending = v_) : (State.parityAt s ch a).pending = v_ := by
  unfold State.parityAt
  repeat' first
    | with_reducible assumption | with_reducible apply State.chanWrite_pending | with_reducible apply State.ite_pending
    | with_reducible refine State.dite_pending (fun _ => ?_) (fun _ => ?_) | with_reducible apply State.id_pending | dsimp only
    | split

theorem State.flip_pending {v_ : List Instr} {s : State} {f : BitFlip} (h_ : s.pending = v_) : (State.flip s f).pending = v_ := by
  unfold State.flip
  repeat' first
    | with_reducible assumption | with_reducible apply State.chanWrite_pending | with_reducible apply State.ite_pending
    | with_reducible refine State.dite_pending (fun _ => ?_) (fun _ => ?_) | with_reducible apply State.ite1_pending
    | with_reducible apply State.ite2_pending | with_reducible apply State.id_pending | dsimp only | split

theorem State.writeTemplate_pending {v_ : List Instr} {s : State} {a : Asset} {off : Nat} {bs : Bytes} (h_ : s.pending = v_) : (State.writeTemplate s a off bs).pending = v_ := by
  unfold State.writeTemplate
  repeat' first
    | with_reducible assumption | with_reducible apply State.chanWrite_pending | with_reducible apply State.parityAt_pending
    | with_reducible apply State.ite_pending | with_reducible refine State.dite_pending (fun _ => ?_) (fun _ => ?_)
    | with_reducible refine State.foldl_pending (fun s x h => ?_) ?_ | with_reducible apply State.ite1_pending
    | with_reducible apply State.ite2_pending | with_reducible apply State.id_pending | dsimp only | split

theorem State.writeTile_pending {v_ : List Instr} {s : State} {a : Asset} {off : Nat} {bs : Bytes} (h_ : s.pending = v_) : (State.writeTile s a off bs).pending = v_ := by
  unfold State.writeTile
  repeat' first
    | with_reducible assumption | with_reducible apply State.chanWrite_pending | with_reducible apply State.ite_pending
    | with_reducible refine State.dite_pending (fun _ => ?_) (fun _ => ?_) | with_reducible apply State.id_pending | dsimp only
    | split

theorem State.loadPiece_pending {v_ : List Instr} {s : State} {tile : Bool} {a : Asset} {off : Nat} {bs : Bytes} (h_ : s.pending = v_) : (State.loadPiece s tile a off bs).pending = v_ := by
  unfold State.loadPiece
  repeat' first
    | with_reducible assumption | with_reducible refine (State.pending_of (State.failLoad_kept rfl)).trans ?_
    | with_reducible apply State.writeTile_pending | with_reducible apply State.writeTemplate_pending
    | with_reducible refine (State.pending_of (State.hostWrite_kept rfl)).trans ?_
    | with_reducible refine (State.pending_of (State.updAsset_kept rfl)).trans ?_ | with_reducible apply State.ite_pending
    | with_reducible refine State.dite_pending (fun _ => ?_) (fun _ => ?_) | with_reducible apply State.ite1_pending
    | with_reducible apply State.ite2_pending | with_reducible apply State.id_pending | dsimp only | split

theorem execLoadData_pending {v_ : List Instr} {t : Nat} {m : Ktp} {loadId offset : Nat} {data : Bytes} {s : State} (h_ : s.pending = v_) :
    Lands (fun x => x.pending = v_) (execLoadData t m loadId offset data s) := by
  unfold execLoadData
  repeat' first
    | with_reducible apply Lands.next | with_reducible apply Lands.ite | with_reducible assumption
    | with_reducible refine (State.pending_of (State.begin_kkept rfl)).trans ?_
    | (refine State.sequenced_to_pending (by with_reducible assumption) (fun s h => ?_) ?_)
    | with_reducible refine (State.pending_of (State.staleNowhere_kept rfl)).trans ?_
    | with_reducible refine (State.pending_of (State.markRx_kept rfl)).trans ?_ | with_reducible apply State.loadPiece_pending
    | with_reducible refine Lands.dite (fun _ => ?_) (fun _ => ?_) | with_reducible apply State.ite_pending
    | with_reducible refine State.dite_pending (fun _ => ?_) (fun _ => ?_) | with_reducible apply State.ite1_pending
    | with_reducible apply State.ite2_pending | with_reducible apply State.id_pending | dsimp only | split

theorem execTileVerify_pending {v_ : List Instr} {t : Nat} {idx : Nat} {s : State} (h_ : s.pending = v_) :
    Lands (fun x => x.pending = v_) (execTileVerify t idx s) := by
  unfold execTileVerify
  repeat' first
    | with_reducible apply Lands.next | with_reducible apply Lands.ite | with_reducible assumption
    | with_reducible refine (State.pending_of (State.begin_kkept rfl)).trans ?_
    | with_reducible refine (State.pending_of (State.failLoad_kept rfl)).trans ?_ | with_reducible apply State.chanWrite_pending
    | with_reducible refine (State.pending_of (State.closeLoad_kept rfl)).trans ?_
    | with_reducible refine (State.pending_of (State.updAsset_kept rfl)).trans ?_
    | with_reducible refine Lands.dite (fun _ => ?_) (fun _ => ?_) | with_reducible apply State.ite_pending
    | with_reducible refine State.dite_pending (fun _ => ?_) (fun _ => ?_) | with_reducible apply State.ite1_pending
    | with_reducible apply State.ite2_pending | with_reducible apply State.id_pending | dsimp only | split

theorem execRowLineCompose_pending {v_ : List Instr} {t : Nat} {flips : List BitFlip} {s : State} (h_ : s.pending = v_) :
    Lands (fun x => x.pending = v_) (execRowLineCompose t flips s) := by
  unfold execRowLineCompose
  repeat' first
    | with_reducible apply Lands.next | with_reducible apply Lands.ite | with_reducible assumption
    | with_reducible apply State.flip_pending | with_reducible refine (State.pending_of (State.begin_kkept rfl)).trans ?_
    | with_reducible refine (State.pending_of (State.composeRow_kept rfl)).trans ?_
    | with_reducible refine Lands.dite (fun _ => ?_) (fun _ => ?_) | with_reducible apply State.ite_pending
    | with_reducible refine State.dite_pending (fun _ => ?_) (fun _ => ?_)
    | with_reducible refine State.foldl_pending (fun s x h => ?_) ?_ | with_reducible apply State.ite1_pending
    | with_reducible apply State.ite2_pending | with_reducible apply State.id_pending | dsimp only | split

theorem State.beginSave_pending {v_ : List Instr} {s : State} {entries : List (Nat × Nat)} {restart : Bool} (h_ : s.pending = v_) : (State.beginSave s entries restart).pending = v_ := by
  unfold State.beginSave
  repeat' first
    | with_reducible assumption | with_reducible apply State.ite_pending
    | with_reducible refine State.dite_pending (fun _ => ?_) (fun _ => ?_) | with_reducible apply State.id_pending | dsimp only
    | split

theorem State.writeBank_pending {v_ : List Instr} {s : State} {b : Fin 2} {count : Nat} {entries : List (Nat × Nat)} (h_ : s.pending = v_) : (State.writeBank s b count entries).pending = v_ := by
  unfold State.writeBank
  repeat' first
    | with_reducible assumption | with_reducible apply State.ite_pending
    | with_reducible refine State.dite_pending (fun _ => ?_) (fun _ => ?_) | with_reducible apply State.id_pending | dsimp only
    | split

theorem State.eraseBanks_pending {v_ : List Instr} {s : State} (h_ : s.pending = v_) : (State.eraseBanks s).pending = v_ := by
  unfold State.eraseBanks
  repeat' first
    | with_reducible assumption | with_reducible refine (State.pending_of (State.cmdEnd_kept rfl)).trans ?_
    | with_reducible refine (State.pending_of (State.eraseBank_kept rfl)).trans ?_
    | with_reducible apply State.writeBank_pending | with_reducible apply State.ite_pending
    | with_reducible refine State.dite_pending (fun _ => ?_) (fun _ => ?_) | with_reducible apply State.id_pending | dsimp only
    | split

theorem execStoreSave_pending {v_ : List Instr} {t : Nat} {k : Kop} {s : State} (h_ : s.pending = v_) :
    Lands (fun x => x.pending = v_) (execStoreSave t k s) := by
  unfold execStoreSave
  repeat' first
    | with_reducible apply Lands.next | with_reducible apply Lands.ite | with_reducible assumption
    | with_reducible refine (State.pending_of (State.begin_kkept rfl)).trans ?_
    | (with_reducible refine State.command_pending (fun s w h => ?_) ?_)
    | with_reducible refine (State.pending_of (State.refuse_kept rfl)).trans ?_ | with_reducible apply State.beginSave_pending
    | with_reducible refine Lands.dite (fun _ => ?_) (fun _ => ?_) | with_reducible apply State.ite_pending
    | with_reducible refine State.dite_pending (fun _ => ?_) (fun _ => ?_) | with_reducible apply State.ite1_pending
    | with_reducible apply State.ite2_pending | with_reducible apply State.id_pending | dsimp only | split

theorem execStoreSaveRestart_pending {v_ : List Instr} {t : Nat} {k : Kop} {s : State} (h_ : s.pending = v_) :
    Lands (fun x => x.pending = v_) (execStoreSaveRestart t k s) := by
  unfold execStoreSaveRestart
  repeat' first
    | with_reducible apply Lands.next | with_reducible apply Lands.ite | with_reducible assumption
    | with_reducible refine (State.pending_of (State.begin_kkept rfl)).trans ?_
    | (with_reducible refine State.command_pending (fun s w h => ?_) ?_)
    | with_reducible refine (State.pending_of (State.refuse_kept rfl)).trans ?_ | with_reducible apply State.beginSave_pending
    | with_reducible refine Lands.dite (fun _ => ?_) (fun _ => ?_) | with_reducible apply State.ite_pending
    | with_reducible refine State.dite_pending (fun _ => ?_) (fun _ => ?_) | with_reducible apply State.ite1_pending
    | with_reducible apply State.ite2_pending | with_reducible apply State.id_pending | dsimp only | split

theorem execStoreErase_pending {v_ : List Instr} {t : Nat} {k : Kop} {s : State} (h_ : s.pending = v_) :
    Lands (fun x => x.pending = v_) (execStoreErase t k s) := by
  unfold execStoreErase
  repeat' first
    | with_reducible apply Lands.next | with_reducible apply Lands.ite | with_reducible assumption
    | with_reducible refine (State.pending_of (State.begin_kkept rfl)).trans ?_
    | (with_reducible refine State.command_pending (fun s w h => ?_) ?_)
    | with_reducible refine (State.pending_of (State.refuse_kept rfl)).trans ?_ | with_reducible apply State.beginSave_pending
    | with_reducible refine Lands.dite (fun _ => ?_) (fun _ => ?_) | with_reducible apply State.ite_pending
    | with_reducible refine State.dite_pending (fun _ => ?_) (fun _ => ?_) | with_reducible apply State.ite1_pending
    | with_reducible apply State.ite2_pending | with_reducible apply State.id_pending | dsimp only | split

theorem execSaveComplete_pending {v_ : List Instr} {t : Nat} {ok : Bool} {s : State} (h_ : s.pending = v_) :
    Lands (fun x => x.pending = v_) (execSaveComplete t ok s) := by
  unfold execSaveComplete
  repeat' first
    | with_reducible apply Lands.next | with_reducible apply Lands.ite | with_reducible assumption
    | with_reducible refine (State.pending_of (State.begin_kkept rfl)).trans ?_ | with_reducible apply State.writeBank_pending
    | with_reducible refine (State.pending_of (State.cmdEnd_kept rfl)).trans ?_
    | with_reducible refine (State.pending_of (State.beginRestart_kept rfl)).trans ?_
    | with_reducible refine (State.pending_of (State.event_kept rfl)).trans ?_
    | with_reducible refine Lands.dite (fun _ => ?_) (fun _ => ?_) | with_reducible apply State.ite_pending
    | with_reducible refine State.dite_pending (fun _ => ?_) (fun _ => ?_) | with_reducible apply State.ite1_pending
    | with_reducible apply State.ite2_pending | with_reducible apply State.id_pending | dsimp only | split

theorem State.wipe_pending {v_ : List Instr} {s : State} {cause : Nat} {stuck : List Nat} (h_ : s.pending = v_) : (State.wipe s cause stuck).pending = v_ := by
  unfold State.wipe
  repeat' first
    | with_reducible assumption | with_reducible refine (State.pending_of (State.drawSecret_kept rfl)).trans ?_
    | with_reducible refine (State.pending_of (State.failLoads_kept rfl)).trans ?_
    | with_reducible refine (State.pending_of (State.event_kept rfl)).trans ?_
    | with_reducible refine (State.pending_of (State.endAll_kept rfl)).trans ?_ | with_reducible apply State.ite_pending
    | with_reducible refine State.dite_pending (fun _ => ?_) (fun _ => ?_)
    | with_reducible refine State.foldl_pending (fun s x h => ?_) ?_ | with_reducible apply State.id_pending | dsimp only
    | split

theorem State.tamperTrip_pending {v_ : List Instr} {s : State} {source : Fin 9} {stuck : List Nat} (h_ : s.pending = v_) : (State.tamperTrip s source stuck).pending = v_ := by
  unfold State.tamperTrip
  repeat' first
    | with_reducible assumption | with_reducible apply State.wipe_pending | with_reducible apply State.ite_pending
    | with_reducible refine State.dite_pending (fun _ => ?_) (fun _ => ?_) | with_reducible apply State.id_pending | dsimp only
    | split

theorem State.stillActive_pending {v_ : List Instr} {s : State} {mask : Nat} (h_ : s.pending = v_) : (State.stillActive s mask).pending = v_ := by
  unfold State.stillActive
  repeat' first
    | with_reducible assumption | with_reducible refine (State.pending_of (State.drawSecret_kept rfl)).trans ?_
    | with_reducible apply State.ite_pending | with_reducible refine State.dite_pending (fun _ => ?_) (fun _ => ?_)
    | with_reducible apply State.id_pending | dsimp only | split

theorem execTamperDetect_pending {v_ : List Instr} {t : Nat} {x : TamperReading} {stuck : List Nat} {s : State} (h_ : s.pending = v_) :
    Lands (fun x => x.pending = v_) (execTamperDetect t x stuck s) := by
  unfold execTamperDetect
  repeat' first
    | with_reducible apply Lands.next | with_reducible apply Lands.ite | with_reducible assumption
    | with_reducible refine (State.pending_of (State.begin_kkept rfl)).trans ?_ | with_reducible apply State.tamperTrip_pending
    | with_reducible apply State.stillActive_pending | with_reducible refine Lands.dite (fun _ => ?_) (fun _ => ?_)
    | with_reducible apply State.ite_pending | with_reducible refine State.dite_pending (fun _ => ?_) (fun _ => ?_)
    | with_reducible apply State.ite1_pending | with_reducible apply State.ite2_pending | with_reducible apply State.id_pending
    | dsimp only | split

theorem execTamperClear_pending {v_ : List Instr} {t : Nat} {k : Kop} {active : Nat} {s : State} (h_ : s.pending = v_) :
    Lands (fun x => x.pending = v_) (execTamperClear t k active s) := by
  unfold execTamperClear
  repeat' first
    | with_reducible apply Lands.next | with_reducible apply Lands.ite | with_reducible assumption
    | with_reducible refine (State.pending_of (State.begin_kkept rfl)).trans ?_
    | (with_reducible refine State.command_pending (fun s w h => ?_) ?_) | with_reducible apply State.stillActive_pending
    | with_reducible refine Lands.dite (fun _ => ?_) (fun _ => ?_) | with_reducible apply State.ite_pending
    | with_reducible refine State.dite_pending (fun _ => ?_) (fun _ => ?_) | with_reducible apply State.ite1_pending
    | with_reducible apply State.ite2_pending | with_reducible apply State.id_pending | dsimp only | split

theorem State.blowFuse_pending {v_ : List Instr} {s : State} {from_ to_ : Nat} (h_ : s.pending = v_) : (State.blowFuse s from_ to_).pending = v_ := by
  unfold State.blowFuse
  repeat' first
    | with_reducible assumption | with_reducible apply State.ite_pending
    | with_reducible refine State.dite_pending (fun _ => ?_) (fun _ => ?_) | with_reducible apply State.id_pending | dsimp only
    | split

theorem State.transition_pending {v_ : List Instr} {s : State} (h_ : s.pending = v_) : (State.transition s).pending = v_ := by
  unfold State.transition
  repeat' first
    | with_reducible assumption | with_reducible apply State.blowFuse_pending
    | with_reducible refine (State.pending_of (State.eventBy_kept rfl)).trans ?_
    | with_reducible refine (State.pending_of (State.chainsOff_kept rfl)).trans ?_
    | with_reducible apply State.eraseBanks_pending | with_reducible refine (State.pending_of (State.event_kept rfl)).trans ?_
    | with_reducible apply State.ite_pending | with_reducible refine State.dite_pending (fun _ => ?_) (fun _ => ?_)
    | with_reducible apply State.id_pending | dsimp only | split

theorem execLifeCycleRequest_pending {v_ : List Instr} {t : Nat} {k : Kop} {r : LcReq} {stuck : List Nat} {s : State} (h_ : s.pending = v_) :
    Lands (fun x => x.pending = v_) (execLifeCycleRequest t k r stuck s) := by
  unfold execLifeCycleRequest
  repeat' first
    | with_reducible apply Lands.next | with_reducible apply Lands.ite | with_reducible assumption
    | with_reducible refine (State.pending_of (State.begin_kkept rfl)).trans ?_ | with_reducible apply State.transition_pending
    | (with_reducible refine State.command_pending (fun s w h => ?_) ?_)
    | with_reducible refine (State.pending_of (State.refuse_kept rfl)).trans ?_ | with_reducible apply State.wipe_pending
    | with_reducible refine Lands.dite (fun _ => ?_) (fun _ => ?_) | with_reducible apply State.ite_pending
    | with_reducible refine State.dite_pending (fun _ => ?_) (fun _ => ?_) | with_reducible apply State.ite1_pending
    | with_reducible apply State.ite2_pending | with_reducible apply State.id_pending | dsimp only | split

theorem State.commitRecord_pending {v_ : List Instr} {s : State} (h_ : s.pending = v_) : (State.commitRecord s).pending = v_ := by
  unfold State.commitRecord
  repeat' first
    | with_reducible assumption | with_reducible refine (State.pending_of (State.cmdEnd_kept rfl)).trans ?_
    | with_reducible refine (State.pending_of (State.lostEvents_kept rfl)).trans ?_ | with_reducible apply State.ite_pending
    | with_reducible refine State.dite_pending (fun _ => ?_) (fun _ => ?_) | with_reducible apply State.id_pending | dsimp only
    | split

theorem execRecordCommit_pending {v_ : List Instr} {t : Nat} {s : State} (h_ : s.pending = v_) :
    Lands (fun x => x.pending = v_) (execRecordCommit t s) := by
  unfold execRecordCommit
  repeat' first
    | with_reducible apply Lands.next | with_reducible apply Lands.ite | with_reducible assumption
    | with_reducible refine (State.pending_of (State.begin_kkept rfl)).trans ?_
    | with_reducible apply State.commitRecord_pending | with_reducible refine Lands.dite (fun _ => ?_) (fun _ => ?_)
    | with_reducible apply State.ite_pending | with_reducible refine State.dite_pending (fun _ => ?_) (fun _ => ?_)
    | with_reducible apply State.ite1_pending | with_reducible apply State.ite2_pending | with_reducible apply State.id_pending
    | dsimp only | split

theorem execRecorderClear_pending {v_ : List Instr} {t : Nat} {k : Kop} {tok : ClearTok} {s : State} (h_ : s.pending = v_) :
    Lands (fun x => x.pending = v_) (execRecorderClear t k tok s) := by
  unfold execRecorderClear
  repeat' first
    | with_reducible apply Lands.next | with_reducible apply Lands.ite | with_reducible assumption
    | with_reducible refine (State.pending_of (State.begin_kkept rfl)).trans ?_
    | (with_reducible refine State.command_pending (fun s w h => ?_) ?_)
    | with_reducible refine (State.pending_of (State.refuse_kept rfl)).trans ?_
    | with_reducible refine Lands.dite (fun _ => ?_) (fun _ => ?_) | with_reducible apply State.ite_pending
    | with_reducible refine State.dite_pending (fun _ => ?_) (fun _ => ?_) | with_reducible apply State.ite1_pending
    | with_reducible apply State.ite2_pending | with_reducible apply State.id_pending | dsimp only | split

theorem State.resetKeeping_pending {v_ : List Instr} {s : State} {powerOn : Bool} (h_ : s.pending = v_) : (State.resetKeeping s powerOn).pending = v_ := by
  unfold State.resetKeeping
  repeat' first
    | with_reducible assumption | with_reducible apply State.ite_pending
    | with_reducible refine State.dite_pending (fun _ => ?_) (fun _ => ?_) | with_reducible apply State.id_pending | dsimp only
    | split

theorem State.wipedBefore_pending {v_ : List Instr} {s : State} {armed : Nat} {source : Fin 9} {at_ : Nat} (h_ : s.pending = v_) : (State.wipedBefore s armed source at_).pending = v_ := by
  unfold State.wipedBefore
  repeat' first
    | with_reducible assumption | with_reducible refine (State.pending_of (State.event_kept rfl)).trans ?_
    | with_reducible apply State.ite_pending | with_reducible refine State.dite_pending (fun _ => ?_) (fun _ => ?_)
    | with_reducible apply State.id_pending | dsimp only | split

theorem State.backupCheck_pending {v_ : List Instr} {s : State} {p : PowerUp} {powerOn : Bool} {armed : Nat} (h_ : s.pending = v_) : (State.backupCheck s p powerOn armed).pending = v_ := by
  unfold State.backupCheck
  repeat' first
    | with_reducible assumption | with_reducible apply State.wipedBefore_pending
    | with_reducible refine (State.pending_of (State.event_kept rfl)).trans ?_ | with_reducible apply State.ite_pending
    | with_reducible refine State.dite_pending (fun _ => ?_) (fun _ => ?_)
    | with_reducible refine State.foldl_pending (fun s x h => ?_) ?_ | with_reducible apply State.ite1_pending
    | with_reducible apply State.ite2_pending | with_reducible apply State.id_pending | dsimp only | split

theorem State.lcInterrupted_pending {v_ : List Instr} {s : State} {blown : Bool} (h_ : s.pending = v_) : (State.lcInterrupted s blown).pending = v_ := by
  unfold State.lcInterrupted
  repeat' first
    | with_reducible assumption | with_reducible apply State.blowFuse_pending
    | with_reducible refine (State.pending_of (State.event_kept rfl)).trans ?_ | with_reducible apply State.ite_pending
    | with_reducible refine State.dite_pending (fun _ => ?_) (fun _ => ?_) | with_reducible apply State.id_pending | dsimp only
    | split

theorem State.powerDomains_pending {v_ : List Instr} {s : State} {p : PowerUp} (h_ : s.pending = v_) : (State.powerDomains s p).pending = v_ := by
  unfold State.powerDomains
  repeat' first
    | with_reducible assumption | with_reducible refine (State.pending_of (State.testArrays_kept rfl)).trans ?_
    | with_reducible refine (State.pending_of (State.drawSecret_kept rfl)).trans ?_ | with_reducible apply State.wipe_pending
    | with_reducible apply State.ite_pending | with_reducible refine State.dite_pending (fun _ => ?_) (fun _ => ?_)
    | with_reducible apply State.id_pending | dsimp only | split

theorem State.startUp_pending {v_ : List Instr} {s : State} {cause : Nat} {p : PowerUp} (h_ : s.pending = v_) : (State.startUp s cause p).pending = v_ := by
  unfold State.startUp
  repeat' first
    | with_reducible assumption | with_reducible refine (State.pending_of (State.installPatches_kept rfl)).trans ?_
    | with_reducible apply State.resetKeeping_pending | with_reducible apply State.backupCheck_pending
    | with_reducible apply State.lcInterrupted_pending
    | with_reducible refine (State.pending_of (State.loadStore_kept rfl)).trans ?_
    | with_reducible refine (State.pending_of (State.event_kept rfl)).trans ?_ | with_reducible apply State.powerDomains_pending
    | with_reducible refine (State.pending_of (State.startEngines_kept rfl)).trans ?_
    | with_reducible refine (State.pending_of (State.startPorts_kept rfl)).trans ?_
    | with_reducible refine (State.pending_of (State.startChans_kept rfl)).trans ?_ | with_reducible apply State.ite_pending
    | with_reducible refine State.dite_pending (fun _ => ?_) (fun _ => ?_) | with_reducible apply State.id_pending | dsimp only
    | split

theorem execPowerOnReset_pending {v_ : List Instr} {t : Nat} {p : PowerUp} {s : State} (h_ : s.pending = v_) :
    Lands (fun x => x.pending = v_) (execPowerOnReset t p s) := by
  unfold execPowerOnReset
  repeat' first
    | with_reducible apply Lands.next | with_reducible apply Lands.ite | with_reducible assumption
    | with_reducible refine (State.pending_of (State.begin_kkept rfl)).trans ?_ | with_reducible apply State.startUp_pending
    | with_reducible refine Lands.dite (fun _ => ?_) (fun _ => ?_) | with_reducible apply State.ite_pending
    | with_reducible refine State.dite_pending (fun _ => ?_) (fun _ => ?_) | with_reducible apply State.ite1_pending
    | with_reducible apply State.ite2_pending | with_reducible apply State.id_pending | dsimp only | split

theorem execExternalReset_pending {v_ : List Instr} {t : Nat} {p : PowerUp} {s : State} (h_ : s.pending = v_) :
    Lands (fun x => x.pending = v_) (execExternalReset t p s) := by
  unfold execExternalReset
  repeat' first
    | with_reducible apply Lands.next | with_reducible apply Lands.ite | with_reducible assumption
    | with_reducible refine (State.pending_of (State.begin_kkept rfl)).trans ?_ | with_reducible apply State.startUp_pending
    | with_reducible refine Lands.dite (fun _ => ?_) (fun _ => ?_) | with_reducible apply State.ite_pending
    | with_reducible refine State.dite_pending (fun _ => ?_) (fun _ => ?_) | with_reducible apply State.ite1_pending
    | with_reducible apply State.ite2_pending | with_reducible apply State.id_pending | dsimp only | split

theorem execDebugReset_pending {v_ : List Instr} {t : Nat} {p : PowerUp} {s : State} (h_ : s.pending = v_) :
    Lands (fun x => x.pending = v_) (execDebugReset t p s) := by
  unfold execDebugReset
  repeat' first
    | with_reducible apply Lands.next | with_reducible apply Lands.ite | with_reducible assumption
    | with_reducible refine (State.pending_of (State.begin_kkept rfl)).trans ?_ | with_reducible apply State.startUp_pending
    | with_reducible refine Lands.dite (fun _ => ?_) (fun _ => ?_) | with_reducible apply State.ite_pending
    | with_reducible refine State.dite_pending (fun _ => ?_) (fun _ => ?_) | with_reducible apply State.ite1_pending
    | with_reducible apply State.ite2_pending | with_reducible apply State.id_pending | dsimp only | split

theorem State.flushEvents_pending {v_ : List Instr} {n : Nat} {s : State} (h_ : s.pending = v_) : (State.flushEvents n s).pending = v_ := by
  induction n generalizing s with
  | zero => exact h_
  | succ n ih =>
    unfold State.flushEvents
    exact State.ite_pending h_ (ih (State.commitRecord_pending h_))

theorem State.commitAll_pending {v_ : List Instr} {s : State} (h_ : s.pending = v_) : s.commitAll.pending = v_ :=
  State.flushEvents_pending (n := s.events.length + 3) h_

theorem execCommandedResetTimeout_pending {v_ : List Instr} {t : Nat} {p : PowerUp} {s : State} (h_ : s.pending = v_) :
    Lands (fun x => x.pending = v_) (execCommandedResetTimeout t p s) := by
  unfold execCommandedResetTimeout
  repeat' first
    | with_reducible apply Lands.next | with_reducible apply Lands.ite | with_reducible assumption
    | with_reducible refine (State.pending_of (State.begin_kkept rfl)).trans ?_
    | with_reducible refine (State.pending_of (State.recordHigh_kept rfl)).trans ?_
    | with_reducible apply State.commitAll_pending | with_reducible apply State.startUp_pending
    | with_reducible refine Lands.dite (fun _ => ?_) (fun _ => ?_) | with_reducible apply State.ite_pending
    | with_reducible refine State.dite_pending (fun _ => ?_) (fun _ => ?_) | with_reducible apply State.ite1_pending
    | with_reducible apply State.ite2_pending | with_reducible apply State.id_pending | dsimp only | split

theorem execSupplyOutOfRange_pending {v_ : List Instr} {t : Nat} {x : SupplyReading} {p : PowerUp} {s : State} (h_ : s.pending = v_) :
    Lands (fun x => x.pending = v_) (execSupplyOutOfRange t x p s) := by
  unfold execSupplyOutOfRange
  repeat' first
    | with_reducible apply Lands.next | with_reducible apply Lands.ite | with_reducible assumption
    | with_reducible refine (State.pending_of (State.begin_kkept rfl)).trans ?_ | with_reducible apply State.startUp_pending
    | with_reducible refine Lands.dite (fun _ => ?_) (fun _ => ?_) | with_reducible apply State.ite_pending
    | with_reducible refine State.dite_pending (fun _ => ?_) (fun _ => ?_) | with_reducible apply State.ite1_pending
    | with_reducible apply State.ite2_pending | with_reducible apply State.id_pending | dsimp only | split

theorem execCoreSupplyExcursion_pending {v_ : List Instr} {t supply : Nat} {begins : Bool} {uv : Nat} {s : State} (h_ : s.pending = v_) :
    Lands (fun x => x.pending = v_) (execCoreSupplyExcursion t supply begins uv s) := by
  unfold execCoreSupplyExcursion
  repeat' first
    | with_reducible apply Lands.next | with_reducible apply Lands.ite | with_reducible assumption
    | with_reducible refine (State.pending_of (State.begin_kkept rfl)).trans ?_ | with_reducible apply State.tamperTrip_pending
    | with_reducible refine (State.pending_of (State.faultEvent_kept rfl)).trans ?_
    | with_reducible refine Lands.dite (fun _ => ?_) (fun _ => ?_) | with_reducible apply State.ite_pending
    | with_reducible refine State.dite_pending (fun _ => ?_) (fun _ => ?_) | with_reducible apply State.ite1_pending
    | with_reducible apply State.ite2_pending | with_reducible apply State.id_pending | dsimp only | split

theorem execClockLoss_pending {v_ : List Instr} {t : Nat} {x : ClockReading} {stuck : List Nat} {p : PowerUp} {s : State} (h_ : s.pending = v_) :
    Lands (fun x => x.pending = v_) (execClockLoss t x stuck p s) := by
  unfold execClockLoss
  repeat' first
    | with_reducible apply Lands.next | with_reducible apply Lands.ite | with_reducible assumption
    | with_reducible refine (State.pending_of (State.begin_kkept rfl)).trans ?_ | with_reducible apply State.tamperTrip_pending
    | with_reducible apply State.startUp_pending | with_reducible refine Lands.dite (fun _ => ?_) (fun _ => ?_)
    | with_reducible apply State.ite_pending | with_reducible refine State.dite_pending (fun _ => ?_) (fun _ => ?_)
    | with_reducible apply State.ite1_pending | with_reducible apply State.ite2_pending | with_reducible apply State.id_pending
    | dsimp only | split

theorem State.downRecords_pending {v_ : List Instr} {s : State} (h_ : s.pending = v_) : s.downRecords.pending = v_ :=
  State.commitAll_pending h_

theorem execPowerDownProgress_pending {v_ : List Instr} {t : Nat} {s : State} (h_ : s.pending = v_) :
    Lands (fun x => x.pending = v_) (execPowerDownProgress t s) := by
  unfold execPowerDownProgress
  repeat' first
    | with_reducible apply Lands.next | with_reducible apply Lands.ite | with_reducible assumption
    | with_reducible refine (State.pending_of (State.begin_kkept rfl)).trans ?_
    | with_reducible refine (State.pending_of (State.downHeads_kept rfl)).trans ?_
    | with_reducible refine (State.pending_of (State.nextStep_kept rfl)).trans ?_
    | with_reducible refine (State.pending_of (State.downChains_kept rfl)).trans ?_
    | with_reducible refine (State.pending_of (State.downAxes_kept rfl)).trans ?_
    | with_reducible apply State.downRecords_pending
    | with_reducible refine (State.pending_of (State.downDomains_kept rfl)).trans ?_
    | with_reducible refine Lands.dite (fun _ => ?_) (fun _ => ?_) | with_reducible apply State.ite_pending
    | with_reducible refine State.dite_pending (fun _ => ?_) (fun _ => ?_) | with_reducible apply State.ite1_pending
    | with_reducible apply State.ite2_pending | with_reducible apply State.id_pending | dsimp only | split

theorem State.tick_pending {v_ : List Instr} {s : State} (h_ : s.pending = v_) : (State.tick s).pending = v_ := by
  unfold State.tick
  repeat' first
    | with_reducible assumption | with_reducible refine (State.pending_of (State.begin_kkept rfl)).trans ?_
    | with_reducible apply State.transition_pending
    | with_reducible refine (State.pending_of (State.arrayCycle_kept rfl)).trans ?_ | with_reducible apply State.ite_pending
    | with_reducible refine State.dite_pending (fun _ => ?_) (fun _ => ?_) | with_reducible apply State.id_pending | dsimp only
    | split


/-! ### The field `dram` -/

theorem State.ite_dram {c : Prop} [Decidable c] {v_ : Vector (List Host.Cell) 2} {x y : State} (hx : x.dram = v_) (hy : y.dram = v_) :
    (if c then x else y).dram = v_ := by split <;> assumption
theorem State.dite_dram {c : Prop} [Decidable c] {v_ : Vector (List Host.Cell) 2} {x : c → State} {y : ¬ c → State} (hx : ∀ h, (x h).dram = v_) (hy : ∀ h, (y h).dram = v_) :
    (if h : c then x h else y h).dram = v_ := by split <;> simp only [*]
theorem State.id_dram {v_ : Vector (List Host.Cell) 2} {x : State} (hx : x.dram = v_) : (id x).dram = v_ := hx
theorem State.ite1_dram {β : Type} {c : Prop} [Decidable c] {v_ : Vector (List Host.Cell) 2} {x y : State × β} (hx : x.1.dram = v_) (hy : y.1.dram = v_) :
    (if c then x else y).1.dram = v_ := by split <;> assumption
theorem State.ite2_dram {β : Type} {c : Prop} [Decidable c] {v_ : Vector (List Host.Cell) 2} {x y : β × State} (hx : x.2.dram = v_) (hy : y.2.dram = v_) :
    (if c then x else y).2.dram = v_ := by split <;> assumption
theorem State.foldl_dram {α : Type} {v_ : Vector (List Host.Cell) 2} {g : State → α → State} {l : List α} {s : State}
    (h : ∀ s x, s.dram = v_ → (g s x).dram = v_) (hs : s.dram = v_) : (l.foldl g s).dram = v_ := by
  induction l generalizing s with
  | nil => exact hs
  | cons x l ih => exact ih (h s x hs)

theorem State.respond_dram {v_ : Vector (List Host.Cell) 2} {s : State} {i : Fin 32} {r : Resp} (h_ : s.dram = v_) : (s.respond i r).dram = v_ :=
  (State.dram_of (State.respond_kept rfl)).trans h_
theorem State.arrive_to_dram {v_ : Vector (List Host.Cell) 2} {s : State} {c : Instr} {k : Kop} {r_ : Option (Fin 32) × State} (e_ : s.arrive c k = r_) (h_ : s.dram = v_) :
    r_.2.dram = v_ := (State.dram_of (State.arrive_to_kept e_ rfl)).trans h_
theorem State.await_dram {v_ : Vector (List Host.Cell) 2} {s : State} {c : Instr} {k : Kop} {i : Fin 32} {ds : List (Fin 11)} (h_ : s.dram = v_) : (s.await c k i ds).dram = v_ :=
  (State.dram_of (State.await_kept rfl)).trans h_

theorem State.datagram_dram {v_ : Vector (List Host.Cell) 2} {s : State} {d : Dgram} (h_ : s.dram = v_) : (s.datagram d).2.dram = v_ :=
  (State.dram_of (State.datagram_kept rfl)).trans h_
theorem State.datagram_to_dram {v_ : Vector (List Host.Cell) 2} {s : State} {d : Dgram} {r_ : Option (Fin 32) × State} (e_ : s.datagram d = r_) (h_ : s.dram = v_) :
    r_.2.dram = v_ := (State.dram_of (State.datagram_to_kept e_ rfl)).trans h_
theorem State.updSess_kdram {v_ : Vector (List Host.Cell) 2} {s : State} {i : Fin 32} {f : Session → Session} (h_ : s.dram = v_) : (s.updSess i f).dram = v_ := h_

theorem State.command_dram {v_ : Vector (List Host.Cell) 2} {s : State} {c : Instr} {k : Kop} {i sub v : Nat} {act : State → Who → State × CmdRes}
    (hact : ∀ s w, s.dram = v_ → (act s w).1.dram = v_) (h_ : s.dram = v_) : (s.command c k i sub v act).dram = v_ := by
  unfold State.command
  split
  · exact State.arrive_to_dram (by assumption) h_
  · have := State.arrive_to_dram (by assumption) h_
    refine State.ite_dram this (State.ite_dram (State.respond_dram this) (State.ite_dram (State.await_dram this) ?_))
    split
    rename_i s' res e
    have h' : s'.dram = v_ := (congrArg (fun r => State.dram r.1) e).symm.trans (hact _ _ this)
    split <;> exact State.respond_dram h'

theorem State.takeSeq_dram {v_ : Vector (List Host.Cell) 2} {s : State} {i : Fin 32} {c : SeqClass} {stale : State → State} (hst : ∀ s, s.dram = v_ → (stale s).dram = v_) (h_ : s.dram = v_) :
    (s.takeSeq i c stale).2.dram = v_ := by
  cases c with
  | accept n => exact h_
  | duplicate => exact State.updSess_kdram h_
  | stale => exact hst _ (State.updSess_kdram h_)

theorem State.sequenced_dram {v_ : Vector (List Host.Cell) 2} {s : State} {kind : Nat} {m : Ktp} {stale : State → State} (hst : ∀ s, s.dram = v_ → (stale s).dram = v_) (h_ : s.dram = v_) :
    (s.sequenced kind m stale).2.dram = v_ := by
  unfold State.sequenced
  split
  · exact State.datagram_to_dram (by assumption) h_
  · refine State.takeSeq_dram hst ?_
    exact State.datagram_to_dram (by assumption) h_
theorem State.sequenced_to_dram {v_ : Vector (List Host.Cell) 2} {s : State} {kind : Nat} {m : Ktp} {stale : State → State} {r_ : Option (Fin 32 × Nat) × State}
    (e_ : s.sequenced kind m stale = r_) (hst : ∀ s, s.dram = v_ → (stale s).dram = v_) (h_ : s.dram = v_) : r_.2.dram = v_ := by
  rw [← e_]; exact State.sequenced_dram hst h_

theorem State.beginSave_dram {v_ : Vector (List Host.Cell) 2} {s : State} {entries : List (Nat × Nat)} {restart : Bool} (h_ : s.dram = v_) : (State.beginSave s entries restart).dram = v_ := by
  unfold State.beginSave
  repeat' first
    | with_reducible assumption | with_reducible apply State.ite_dram
    | with_reducible refine State.dite_dram (fun _ => ?_) (fun _ => ?_) | with_reducible apply State.id_dram | dsimp only
    | split

theorem State.writeBank_dram {v_ : Vector (List Host.Cell) 2} {s : State} {b : Fin 2} {count : Nat} {entries : List (Nat × Nat)} (h_ : s.dram = v_) : (State.writeBank s b count entries).dram = v_ := by
  unfold State.writeBank
  repeat' first
    | with_reducible assumption | with_reducible apply State.ite_dram
    | with_reducible refine State.dite_dram (fun _ => ?_) (fun _ => ?_) | with_reducible apply State.id_dram | dsimp only
    | split

theorem State.eraseBanks_dram {v_ : Vector (List Host.Cell) 2} {s : State} (h_ : s.dram = v_) : (State.eraseBanks s).dram = v_ := by
  unfold State.eraseBanks
  repeat' first
    | with_reducible assumption | with_reducible refine (State.dram_of (State.cmdEnd_kept rfl)).trans ?_
    | with_reducible refine (State.dram_of (State.eraseBank_kept rfl)).trans ?_ | with_reducible apply State.writeBank_dram
    | with_reducible apply State.ite_dram | with_reducible refine State.dite_dram (fun _ => ?_) (fun _ => ?_)
    | with_reducible apply State.id_dram | dsimp only | split

theorem execStoreSave_dram {v_ : Vector (List Host.Cell) 2} {t : Nat} {k : Kop} {s : State} (h_ : s.dram = v_) :
    Lands (fun x => x.dram = v_) (execStoreSave t k s) := by
  unfold execStoreSave
  repeat' first
    | with_reducible apply Lands.next | with_reducible apply Lands.ite | with_reducible assumption
    | with_reducible refine (State.dram_of (State.begin_kkept rfl)).trans ?_
    | (with_reducible refine State.command_dram (fun s w h => ?_) ?_)
    | with_reducible refine (State.dram_of (State.refuse_kept rfl)).trans ?_ | with_reducible apply State.beginSave_dram
    | with_reducible refine Lands.dite (fun _ => ?_) (fun _ => ?_) | with_reducible apply State.ite_dram
    | with_reducible refine State.dite_dram (fun _ => ?_) (fun _ => ?_) | with_reducible apply State.ite1_dram
    | with_reducible apply State.ite2_dram | with_reducible apply State.id_dram | dsimp only | split

theorem execStoreSaveRestart_dram {v_ : Vector (List Host.Cell) 2} {t : Nat} {k : Kop} {s : State} (h_ : s.dram = v_) :
    Lands (fun x => x.dram = v_) (execStoreSaveRestart t k s) := by
  unfold execStoreSaveRestart
  repeat' first
    | with_reducible apply Lands.next | with_reducible apply Lands.ite | with_reducible assumption
    | with_reducible refine (State.dram_of (State.begin_kkept rfl)).trans ?_
    | (with_reducible refine State.command_dram (fun s w h => ?_) ?_)
    | with_reducible refine (State.dram_of (State.refuse_kept rfl)).trans ?_ | with_reducible apply State.beginSave_dram
    | with_reducible refine Lands.dite (fun _ => ?_) (fun _ => ?_) | with_reducible apply State.ite_dram
    | with_reducible refine State.dite_dram (fun _ => ?_) (fun _ => ?_) | with_reducible apply State.ite1_dram
    | with_reducible apply State.ite2_dram | with_reducible apply State.id_dram | dsimp only | split

theorem execStoreErase_dram {v_ : Vector (List Host.Cell) 2} {t : Nat} {k : Kop} {s : State} (h_ : s.dram = v_) :
    Lands (fun x => x.dram = v_) (execStoreErase t k s) := by
  unfold execStoreErase
  repeat' first
    | with_reducible apply Lands.next | with_reducible apply Lands.ite | with_reducible assumption
    | with_reducible refine (State.dram_of (State.begin_kkept rfl)).trans ?_
    | (with_reducible refine State.command_dram (fun s w h => ?_) ?_)
    | with_reducible refine (State.dram_of (State.refuse_kept rfl)).trans ?_ | with_reducible apply State.beginSave_dram
    | with_reducible refine Lands.dite (fun _ => ?_) (fun _ => ?_) | with_reducible apply State.ite_dram
    | with_reducible refine State.dite_dram (fun _ => ?_) (fun _ => ?_) | with_reducible apply State.ite1_dram
    | with_reducible apply State.ite2_dram | with_reducible apply State.id_dram | dsimp only | split

theorem execSaveComplete_dram {v_ : Vector (List Host.Cell) 2} {t : Nat} {ok : Bool} {s : State} (h_ : s.dram = v_) :
    Lands (fun x => x.dram = v_) (execSaveComplete t ok s) := by
  unfold execSaveComplete
  repeat' first
    | with_reducible apply Lands.next | with_reducible apply Lands.ite | with_reducible assumption
    | with_reducible refine (State.dram_of (State.begin_kkept rfl)).trans ?_ | with_reducible apply State.writeBank_dram
    | with_reducible refine (State.dram_of (State.cmdEnd_kept rfl)).trans ?_
    | with_reducible refine (State.dram_of (State.beginRestart_kept rfl)).trans ?_
    | with_reducible refine (State.dram_of (State.event_kept rfl)).trans ?_
    | with_reducible refine Lands.dite (fun _ => ?_) (fun _ => ?_) | with_reducible apply State.ite_dram
    | with_reducible refine State.dite_dram (fun _ => ?_) (fun _ => ?_) | with_reducible apply State.ite1_dram
    | with_reducible apply State.ite2_dram | with_reducible apply State.id_dram | dsimp only | split

theorem State.wipe_dram {v_ : Vector (List Host.Cell) 2} {s : State} {cause : Nat} {stuck : List Nat} (h_ : s.dram = v_) : (State.wipe s cause stuck).dram = v_ := by
  unfold State.wipe
  repeat' first
    | with_reducible assumption | with_reducible refine (State.dram_of (State.drawSecret_kept rfl)).trans ?_
    | with_reducible refine (State.dram_of (State.failLoads_kept rfl)).trans ?_
    | with_reducible refine (State.dram_of (State.event_kept rfl)).trans ?_
    | with_reducible refine (State.dram_of (State.endAll_kept rfl)).trans ?_ | with_reducible apply State.ite_dram
    | with_reducible refine State.dite_dram (fun _ => ?_) (fun _ => ?_)
    | with_reducible refine State.foldl_dram (fun s x h => ?_) ?_ | with_reducible apply State.id_dram | dsimp only | split

theorem State.tamperTrip_dram {v_ : Vector (List Host.Cell) 2} {s : State} {source : Fin 9} {stuck : List Nat} (h_ : s.dram = v_) : (State.tamperTrip s source stuck).dram = v_ := by
  unfold State.tamperTrip
  repeat' first
    | with_reducible assumption | with_reducible apply State.wipe_dram | with_reducible apply State.ite_dram
    | with_reducible refine State.dite_dram (fun _ => ?_) (fun _ => ?_) | with_reducible apply State.id_dram | dsimp only
    | split

theorem State.stillActive_dram {v_ : Vector (List Host.Cell) 2} {s : State} {mask : Nat} (h_ : s.dram = v_) : (State.stillActive s mask).dram = v_ := by
  unfold State.stillActive
  repeat' first
    | with_reducible assumption | with_reducible refine (State.dram_of (State.drawSecret_kept rfl)).trans ?_
    | with_reducible apply State.ite_dram | with_reducible refine State.dite_dram (fun _ => ?_) (fun _ => ?_)
    | with_reducible apply State.id_dram | dsimp only | split

theorem execTamperDetect_dram {v_ : Vector (List Host.Cell) 2} {t : Nat} {x : TamperReading} {stuck : List Nat} {s : State} (h_ : s.dram = v_) :
    Lands (fun x => x.dram = v_) (execTamperDetect t x stuck s) := by
  unfold execTamperDetect
  repeat' first
    | with_reducible apply Lands.next | with_reducible apply Lands.ite | with_reducible assumption
    | with_reducible refine (State.dram_of (State.begin_kkept rfl)).trans ?_ | with_reducible apply State.tamperTrip_dram
    | with_reducible apply State.stillActive_dram | with_reducible refine Lands.dite (fun _ => ?_) (fun _ => ?_)
    | with_reducible apply State.ite_dram | with_reducible refine State.dite_dram (fun _ => ?_) (fun _ => ?_)
    | with_reducible apply State.ite1_dram | with_reducible apply State.ite2_dram | with_reducible apply State.id_dram
    | dsimp only | split

theorem execTamperClear_dram {v_ : Vector (List Host.Cell) 2} {t : Nat} {k : Kop} {active : Nat} {s : State} (h_ : s.dram = v_) :
    Lands (fun x => x.dram = v_) (execTamperClear t k active s) := by
  unfold execTamperClear
  repeat' first
    | with_reducible apply Lands.next | with_reducible apply Lands.ite | with_reducible assumption
    | with_reducible refine (State.dram_of (State.begin_kkept rfl)).trans ?_
    | (with_reducible refine State.command_dram (fun s w h => ?_) ?_) | with_reducible apply State.stillActive_dram
    | with_reducible refine Lands.dite (fun _ => ?_) (fun _ => ?_) | with_reducible apply State.ite_dram
    | with_reducible refine State.dite_dram (fun _ => ?_) (fun _ => ?_) | with_reducible apply State.ite1_dram
    | with_reducible apply State.ite2_dram | with_reducible apply State.id_dram | dsimp only | split

theorem State.blowFuse_dram {v_ : Vector (List Host.Cell) 2} {s : State} {from_ to_ : Nat} (h_ : s.dram = v_) : (State.blowFuse s from_ to_).dram = v_ := by
  unfold State.blowFuse
  repeat' first
    | with_reducible assumption | with_reducible apply State.ite_dram
    | with_reducible refine State.dite_dram (fun _ => ?_) (fun _ => ?_) | with_reducible apply State.id_dram | dsimp only
    | split

theorem State.transition_dram {v_ : Vector (List Host.Cell) 2} {s : State} (h_ : s.dram = v_) : (State.transition s).dram = v_ := by
  unfold State.transition
  repeat' first
    | with_reducible assumption | with_reducible apply State.blowFuse_dram
    | with_reducible refine (State.dram_of (State.eventBy_kept rfl)).trans ?_
    | with_reducible refine (State.dram_of (State.chainsOff_kept rfl)).trans ?_ | with_reducible apply State.eraseBanks_dram
    | with_reducible refine (State.dram_of (State.event_kept rfl)).trans ?_ | with_reducible apply State.ite_dram
    | with_reducible refine State.dite_dram (fun _ => ?_) (fun _ => ?_) | with_reducible apply State.id_dram | dsimp only
    | split

theorem execLifeCycleRequest_dram {v_ : Vector (List Host.Cell) 2} {t : Nat} {k : Kop} {r : LcReq} {stuck : List Nat} {s : State} (h_ : s.dram = v_) :
    Lands (fun x => x.dram = v_) (execLifeCycleRequest t k r stuck s) := by
  unfold execLifeCycleRequest
  repeat' first
    | with_reducible apply Lands.next | with_reducible apply Lands.ite | with_reducible assumption
    | with_reducible refine (State.dram_of (State.begin_kkept rfl)).trans ?_ | with_reducible apply State.transition_dram
    | (with_reducible refine State.command_dram (fun s w h => ?_) ?_)
    | with_reducible refine (State.dram_of (State.refuse_kept rfl)).trans ?_ | with_reducible apply State.wipe_dram
    | with_reducible refine Lands.dite (fun _ => ?_) (fun _ => ?_) | with_reducible apply State.ite_dram
    | with_reducible refine State.dite_dram (fun _ => ?_) (fun _ => ?_) | with_reducible apply State.ite1_dram
    | with_reducible apply State.ite2_dram | with_reducible apply State.id_dram | dsimp only | split

theorem State.commitRecord_dram {v_ : Vector (List Host.Cell) 2} {s : State} (h_ : s.dram = v_) : (State.commitRecord s).dram = v_ := by
  unfold State.commitRecord
  repeat' first
    | with_reducible assumption | with_reducible refine (State.dram_of (State.cmdEnd_kept rfl)).trans ?_
    | with_reducible refine (State.dram_of (State.lostEvents_kept rfl)).trans ?_ | with_reducible apply State.ite_dram
    | with_reducible refine State.dite_dram (fun _ => ?_) (fun _ => ?_) | with_reducible apply State.id_dram | dsimp only
    | split

theorem execRecordCommit_dram {v_ : Vector (List Host.Cell) 2} {t : Nat} {s : State} (h_ : s.dram = v_) :
    Lands (fun x => x.dram = v_) (execRecordCommit t s) := by
  unfold execRecordCommit
  repeat' first
    | with_reducible apply Lands.next | with_reducible apply Lands.ite | with_reducible assumption
    | with_reducible refine (State.dram_of (State.begin_kkept rfl)).trans ?_ | with_reducible apply State.commitRecord_dram
    | with_reducible refine Lands.dite (fun _ => ?_) (fun _ => ?_) | with_reducible apply State.ite_dram
    | with_reducible refine State.dite_dram (fun _ => ?_) (fun _ => ?_) | with_reducible apply State.ite1_dram
    | with_reducible apply State.ite2_dram | with_reducible apply State.id_dram | dsimp only | split

theorem execRecorderClear_dram {v_ : Vector (List Host.Cell) 2} {t : Nat} {k : Kop} {tok : ClearTok} {s : State} (h_ : s.dram = v_) :
    Lands (fun x => x.dram = v_) (execRecorderClear t k tok s) := by
  unfold execRecorderClear
  repeat' first
    | with_reducible apply Lands.next | with_reducible apply Lands.ite | with_reducible assumption
    | with_reducible refine (State.dram_of (State.begin_kkept rfl)).trans ?_
    | (with_reducible refine State.command_dram (fun s w h => ?_) ?_)
    | with_reducible refine (State.dram_of (State.refuse_kept rfl)).trans ?_
    | with_reducible refine Lands.dite (fun _ => ?_) (fun _ => ?_) | with_reducible apply State.ite_dram
    | with_reducible refine State.dite_dram (fun _ => ?_) (fun _ => ?_) | with_reducible apply State.ite1_dram
    | with_reducible apply State.ite2_dram | with_reducible apply State.id_dram | dsimp only | split

theorem State.resetKeeping_dram {v_ : Vector (List Host.Cell) 2} {s : State} {powerOn : Bool} (h_ : s.dram = v_) : (State.resetKeeping s powerOn).dram = v_ := by
  unfold State.resetKeeping
  repeat' first
    | with_reducible assumption | with_reducible apply State.ite_dram
    | with_reducible refine State.dite_dram (fun _ => ?_) (fun _ => ?_) | with_reducible apply State.id_dram | dsimp only
    | split

theorem State.wipedBefore_dram {v_ : Vector (List Host.Cell) 2} {s : State} {armed : Nat} {source : Fin 9} {at_ : Nat} (h_ : s.dram = v_) : (State.wipedBefore s armed source at_).dram = v_ := by
  unfold State.wipedBefore
  repeat' first
    | with_reducible assumption | with_reducible refine (State.dram_of (State.event_kept rfl)).trans ?_
    | with_reducible apply State.ite_dram | with_reducible refine State.dite_dram (fun _ => ?_) (fun _ => ?_)
    | with_reducible apply State.id_dram | dsimp only | split

theorem State.backupCheck_dram {v_ : Vector (List Host.Cell) 2} {s : State} {p : PowerUp} {powerOn : Bool} {armed : Nat} (h_ : s.dram = v_) : (State.backupCheck s p powerOn armed).dram = v_ := by
  unfold State.backupCheck
  repeat' first
    | with_reducible assumption | with_reducible apply State.wipedBefore_dram
    | with_reducible refine (State.dram_of (State.event_kept rfl)).trans ?_ | with_reducible apply State.ite_dram
    | with_reducible refine State.dite_dram (fun _ => ?_) (fun _ => ?_)
    | with_reducible refine State.foldl_dram (fun s x h => ?_) ?_ | with_reducible apply State.ite1_dram
    | with_reducible apply State.ite2_dram | with_reducible apply State.id_dram | dsimp only | split

theorem State.lcInterrupted_dram {v_ : Vector (List Host.Cell) 2} {s : State} {blown : Bool} (h_ : s.dram = v_) : (State.lcInterrupted s blown).dram = v_ := by
  unfold State.lcInterrupted
  repeat' first
    | with_reducible assumption | with_reducible apply State.blowFuse_dram
    | with_reducible refine (State.dram_of (State.event_kept rfl)).trans ?_ | with_reducible apply State.ite_dram
    | with_reducible refine State.dite_dram (fun _ => ?_) (fun _ => ?_) | with_reducible apply State.id_dram | dsimp only
    | split

theorem State.powerDomains_dram {v_ : Vector (List Host.Cell) 2} {s : State} {p : PowerUp} (h_ : s.dram = v_) : (State.powerDomains s p).dram = v_ := by
  unfold State.powerDomains
  repeat' first
    | with_reducible assumption | with_reducible refine (State.dram_of (State.testArrays_kept rfl)).trans ?_
    | with_reducible refine (State.dram_of (State.drawSecret_kept rfl)).trans ?_ | with_reducible apply State.wipe_dram
    | with_reducible apply State.ite_dram | with_reducible refine State.dite_dram (fun _ => ?_) (fun _ => ?_)
    | with_reducible apply State.id_dram | dsimp only | split

theorem State.startUp_dram {v_ : Vector (List Host.Cell) 2} {s : State} {cause : Nat} {p : PowerUp} (h_ : s.dram = v_) : (State.startUp s cause p).dram = v_ := by
  unfold State.startUp
  repeat' first
    | with_reducible assumption | with_reducible refine (State.dram_of (State.installPatches_kept rfl)).trans ?_
    | with_reducible apply State.resetKeeping_dram | with_reducible apply State.backupCheck_dram
    | with_reducible apply State.lcInterrupted_dram | with_reducible refine (State.dram_of (State.loadStore_kept rfl)).trans ?_
    | with_reducible refine (State.dram_of (State.event_kept rfl)).trans ?_ | with_reducible apply State.powerDomains_dram
    | with_reducible refine (State.dram_of (State.startEngines_kept rfl)).trans ?_
    | with_reducible refine (State.dram_of (State.startPorts_kept rfl)).trans ?_
    | with_reducible refine (State.dram_of (State.startChans_kept rfl)).trans ?_ | with_reducible apply State.ite_dram
    | with_reducible refine State.dite_dram (fun _ => ?_) (fun _ => ?_) | with_reducible apply State.id_dram | dsimp only
    | split

theorem execPowerOnReset_dram {v_ : Vector (List Host.Cell) 2} {t : Nat} {p : PowerUp} {s : State} (h_ : s.dram = v_) :
    Lands (fun x => x.dram = v_) (execPowerOnReset t p s) := by
  unfold execPowerOnReset
  repeat' first
    | with_reducible apply Lands.next | with_reducible apply Lands.ite | with_reducible assumption
    | with_reducible refine (State.dram_of (State.begin_kkept rfl)).trans ?_ | with_reducible apply State.startUp_dram
    | with_reducible refine Lands.dite (fun _ => ?_) (fun _ => ?_) | with_reducible apply State.ite_dram
    | with_reducible refine State.dite_dram (fun _ => ?_) (fun _ => ?_) | with_reducible apply State.ite1_dram
    | with_reducible apply State.ite2_dram | with_reducible apply State.id_dram | dsimp only | split

theorem execExternalReset_dram {v_ : Vector (List Host.Cell) 2} {t : Nat} {p : PowerUp} {s : State} (h_ : s.dram = v_) :
    Lands (fun x => x.dram = v_) (execExternalReset t p s) := by
  unfold execExternalReset
  repeat' first
    | with_reducible apply Lands.next | with_reducible apply Lands.ite | with_reducible assumption
    | with_reducible refine (State.dram_of (State.begin_kkept rfl)).trans ?_ | with_reducible apply State.startUp_dram
    | with_reducible refine Lands.dite (fun _ => ?_) (fun _ => ?_) | with_reducible apply State.ite_dram
    | with_reducible refine State.dite_dram (fun _ => ?_) (fun _ => ?_) | with_reducible apply State.ite1_dram
    | with_reducible apply State.ite2_dram | with_reducible apply State.id_dram | dsimp only | split

theorem execDebugReset_dram {v_ : Vector (List Host.Cell) 2} {t : Nat} {p : PowerUp} {s : State} (h_ : s.dram = v_) :
    Lands (fun x => x.dram = v_) (execDebugReset t p s) := by
  unfold execDebugReset
  repeat' first
    | with_reducible apply Lands.next | with_reducible apply Lands.ite | with_reducible assumption
    | with_reducible refine (State.dram_of (State.begin_kkept rfl)).trans ?_ | with_reducible apply State.startUp_dram
    | with_reducible refine Lands.dite (fun _ => ?_) (fun _ => ?_) | with_reducible apply State.ite_dram
    | with_reducible refine State.dite_dram (fun _ => ?_) (fun _ => ?_) | with_reducible apply State.ite1_dram
    | with_reducible apply State.ite2_dram | with_reducible apply State.id_dram | dsimp only | split

theorem State.flushEvents_dram {v_ : Vector (List Host.Cell) 2} {n : Nat} {s : State} (h_ : s.dram = v_) : (State.flushEvents n s).dram = v_ := by
  induction n generalizing s with
  | zero => exact h_
  | succ n ih =>
    unfold State.flushEvents
    exact State.ite_dram h_ (ih (State.commitRecord_dram h_))

theorem State.commitAll_dram {v_ : Vector (List Host.Cell) 2} {s : State} (h_ : s.dram = v_) : s.commitAll.dram = v_ :=
  State.flushEvents_dram (n := s.events.length + 3) h_

theorem execCommandedResetTimeout_dram {v_ : Vector (List Host.Cell) 2} {t : Nat} {p : PowerUp} {s : State} (h_ : s.dram = v_) :
    Lands (fun x => x.dram = v_) (execCommandedResetTimeout t p s) := by
  unfold execCommandedResetTimeout
  repeat' first
    | with_reducible apply Lands.next | with_reducible apply Lands.ite | with_reducible assumption
    | with_reducible refine (State.dram_of (State.begin_kkept rfl)).trans ?_
    | with_reducible refine (State.dram_of (State.recordHigh_kept rfl)).trans ?_ | with_reducible apply State.commitAll_dram
    | with_reducible apply State.startUp_dram | with_reducible refine Lands.dite (fun _ => ?_) (fun _ => ?_)
    | with_reducible apply State.ite_dram | with_reducible refine State.dite_dram (fun _ => ?_) (fun _ => ?_)
    | with_reducible apply State.ite1_dram | with_reducible apply State.ite2_dram | with_reducible apply State.id_dram
    | dsimp only | split

theorem execSupplyOutOfRange_dram {v_ : Vector (List Host.Cell) 2} {t : Nat} {x : SupplyReading} {p : PowerUp} {s : State} (h_ : s.dram = v_) :
    Lands (fun x => x.dram = v_) (execSupplyOutOfRange t x p s) := by
  unfold execSupplyOutOfRange
  repeat' first
    | with_reducible apply Lands.next | with_reducible apply Lands.ite | with_reducible assumption
    | with_reducible refine (State.dram_of (State.begin_kkept rfl)).trans ?_ | with_reducible apply State.startUp_dram
    | with_reducible refine Lands.dite (fun _ => ?_) (fun _ => ?_) | with_reducible apply State.ite_dram
    | with_reducible refine State.dite_dram (fun _ => ?_) (fun _ => ?_) | with_reducible apply State.ite1_dram
    | with_reducible apply State.ite2_dram | with_reducible apply State.id_dram | dsimp only | split

theorem execCoreSupplyExcursion_dram {v_ : Vector (List Host.Cell) 2} {t supply : Nat} {begins : Bool} {uv : Nat} {s : State} (h_ : s.dram = v_) :
    Lands (fun x => x.dram = v_) (execCoreSupplyExcursion t supply begins uv s) := by
  unfold execCoreSupplyExcursion
  repeat' first
    | with_reducible apply Lands.next | with_reducible apply Lands.ite | with_reducible assumption
    | with_reducible refine (State.dram_of (State.begin_kkept rfl)).trans ?_ | with_reducible apply State.tamperTrip_dram
    | with_reducible refine (State.dram_of (State.faultEvent_kept rfl)).trans ?_
    | with_reducible refine Lands.dite (fun _ => ?_) (fun _ => ?_) | with_reducible apply State.ite_dram
    | with_reducible refine State.dite_dram (fun _ => ?_) (fun _ => ?_) | with_reducible apply State.ite1_dram
    | with_reducible apply State.ite2_dram | with_reducible apply State.id_dram | dsimp only | split

theorem execClockLoss_dram {v_ : Vector (List Host.Cell) 2} {t : Nat} {x : ClockReading} {stuck : List Nat} {p : PowerUp} {s : State} (h_ : s.dram = v_) :
    Lands (fun x => x.dram = v_) (execClockLoss t x stuck p s) := by
  unfold execClockLoss
  repeat' first
    | with_reducible apply Lands.next | with_reducible apply Lands.ite | with_reducible assumption
    | with_reducible refine (State.dram_of (State.begin_kkept rfl)).trans ?_ | with_reducible apply State.tamperTrip_dram
    | with_reducible apply State.startUp_dram | with_reducible refine Lands.dite (fun _ => ?_) (fun _ => ?_)
    | with_reducible apply State.ite_dram | with_reducible refine State.dite_dram (fun _ => ?_) (fun _ => ?_)
    | with_reducible apply State.ite1_dram | with_reducible apply State.ite2_dram | with_reducible apply State.id_dram
    | dsimp only | split

theorem State.downRecords_dram {v_ : Vector (List Host.Cell) 2} {s : State} (h_ : s.dram = v_) : s.downRecords.dram = v_ :=
  State.commitAll_dram h_

theorem execPowerDownProgress_dram {v_ : Vector (List Host.Cell) 2} {t : Nat} {s : State} (h_ : s.dram = v_) :
    Lands (fun x => x.dram = v_) (execPowerDownProgress t s) := by
  unfold execPowerDownProgress
  repeat' first
    | with_reducible apply Lands.next | with_reducible apply Lands.ite | with_reducible assumption
    | with_reducible refine (State.dram_of (State.begin_kkept rfl)).trans ?_
    | with_reducible refine (State.dram_of (State.downHeads_kept rfl)).trans ?_
    | with_reducible refine (State.dram_of (State.nextStep_kept rfl)).trans ?_
    | with_reducible refine (State.dram_of (State.downChains_kept rfl)).trans ?_
    | with_reducible refine (State.dram_of (State.downAxes_kept rfl)).trans ?_ | with_reducible apply State.downRecords_dram
    | with_reducible refine (State.dram_of (State.downDomains_kept rfl)).trans ?_
    | with_reducible refine Lands.dite (fun _ => ?_) (fun _ => ?_) | with_reducible apply State.ite_dram
    | with_reducible refine State.dite_dram (fun _ => ?_) (fun _ => ?_) | with_reducible apply State.ite1_dram
    | with_reducible apply State.ite2_dram | with_reducible apply State.id_dram | dsimp only | split

theorem State.tick_dram {v_ : Vector (List Host.Cell) 2} {s : State} (h_ : s.dram = v_) : (State.tick s).dram = v_ := by
  unfold State.tick
  repeat' first
    | with_reducible assumption | with_reducible refine (State.dram_of (State.begin_kkept rfl)).trans ?_
    | with_reducible apply State.transition_dram | with_reducible refine (State.dram_of (State.arrayCycle_kept rfl)).trans ?_
    | with_reducible apply State.ite_dram | with_reducible refine State.dite_dram (fun _ => ?_) (fun _ => ?_)
    | with_reducible apply State.id_dram | dsimp only | split


/-! ### The field `serial` -/

theorem State.ite_serial {c : Prop} [Decidable c] {v_ : Nat} {x y : State} (hx : x.serial = v_) (hy : y.serial = v_) :
    (if c then x else y).serial = v_ := by split <;> assumption
theorem State.dite_serial {c : Prop} [Decidable c] {v_ : Nat} {x : c → State} {y : ¬ c → State} (hx : ∀ h, (x h).serial = v_) (hy : ∀ h, (y h).serial = v_) :
    (if h : c then x h else y h).serial = v_ := by split <;> simp only [*]
theorem State.id_serial {v_ : Nat} {x : State} (hx : x.serial = v_) : (id x).serial = v_ := hx
theorem State.ite1_serial {β : Type} {c : Prop} [Decidable c] {v_ : Nat} {x y : State × β} (hx : x.1.serial = v_) (hy : y.1.serial = v_) :
    (if c then x else y).1.serial = v_ := by split <;> assumption
theorem State.ite2_serial {β : Type} {c : Prop} [Decidable c] {v_ : Nat} {x y : β × State} (hx : x.2.serial = v_) (hy : y.2.serial = v_) :
    (if c then x else y).2.serial = v_ := by split <;> assumption
theorem State.foldl_serial {α : Type} {v_ : Nat} {g : State → α → State} {l : List α} {s : State}
    (h : ∀ s x, s.serial = v_ → (g s x).serial = v_) (hs : s.serial = v_) : (l.foldl g s).serial = v_ := by
  induction l generalizing s with
  | nil => exact hs
  | cons x l ih => exact ih (h s x hs)

theorem State.respond_serial {v_ : Nat} {s : State} {i : Fin 32} {r : Resp} (h_ : s.serial = v_) : (s.respond i r).serial = v_ :=
  (State.serial_of (State.respond_kept rfl)).trans h_
theorem State.arrive_to_serial {v_ : Nat} {s : State} {c : Instr} {k : Kop} {r_ : Option (Fin 32) × State} (e_ : s.arrive c k = r_) (h_ : s.serial = v_) :
    r_.2.serial = v_ := (State.serial_of (State.arrive_to_kept e_ rfl)).trans h_
theorem State.await_serial {v_ : Nat} {s : State} {c : Instr} {k : Kop} {i : Fin 32} {ds : List (Fin 11)} (h_ : s.serial = v_) : (s.await c k i ds).serial = v_ :=
  (State.serial_of (State.await_kept rfl)).trans h_

theorem State.datagram_serial {v_ : Nat} {s : State} {d : Dgram} (h_ : s.serial = v_) : (s.datagram d).2.serial = v_ :=
  (State.serial_of (State.datagram_kept rfl)).trans h_
theorem State.datagram_to_serial {v_ : Nat} {s : State} {d : Dgram} {r_ : Option (Fin 32) × State} (e_ : s.datagram d = r_) (h_ : s.serial = v_) :
    r_.2.serial = v_ := (State.serial_of (State.datagram_to_kept e_ rfl)).trans h_
theorem State.updSess_kserial {v_ : Nat} {s : State} {i : Fin 32} {f : Session → Session} (h_ : s.serial = v_) : (s.updSess i f).serial = v_ := h_

theorem State.command_serial {v_ : Nat} {s : State} {c : Instr} {k : Kop} {i sub v : Nat} {act : State → Who → State × CmdRes}
    (hact : ∀ s w, s.serial = v_ → (act s w).1.serial = v_) (h_ : s.serial = v_) : (s.command c k i sub v act).serial = v_ := by
  unfold State.command
  split
  · exact State.arrive_to_serial (by assumption) h_
  · have := State.arrive_to_serial (by assumption) h_
    refine State.ite_serial this (State.ite_serial (State.respond_serial this) (State.ite_serial (State.await_serial this) ?_))
    split
    rename_i s' res e
    have h' : s'.serial = v_ := (congrArg (fun r => State.serial r.1) e).symm.trans (hact _ _ this)
    split <;> exact State.respond_serial h'

theorem State.takeSeq_serial {v_ : Nat} {s : State} {i : Fin 32} {c : SeqClass} {stale : State → State} (hst : ∀ s, s.serial = v_ → (stale s).serial = v_) (h_ : s.serial = v_) :
    (s.takeSeq i c stale).2.serial = v_ := by
  cases c with
  | accept n => exact h_
  | duplicate => exact State.updSess_kserial h_
  | stale => exact hst _ (State.updSess_kserial h_)

theorem State.sequenced_serial {v_ : Nat} {s : State} {kind : Nat} {m : Ktp} {stale : State → State} (hst : ∀ s, s.serial = v_ → (stale s).serial = v_) (h_ : s.serial = v_) :
    (s.sequenced kind m stale).2.serial = v_ := by
  unfold State.sequenced
  split
  · exact State.datagram_to_serial (by assumption) h_
  · refine State.takeSeq_serial hst ?_
    exact State.datagram_to_serial (by assumption) h_
theorem State.sequenced_to_serial {v_ : Nat} {s : State} {kind : Nat} {m : Ktp} {stale : State → State} {r_ : Option (Fin 32 × Nat) × State}
    (e_ : s.sequenced kind m stale = r_) (hst : ∀ s, s.serial = v_ → (stale s).serial = v_) (h_ : s.serial = v_) : r_.2.serial = v_ := by
  rw [← e_]; exact State.sequenced_serial hst h_

theorem State.chanWrite_serial {v_ : Nat} {s : State} {ch a : Nat} {bs : List Nat} (h_ : s.serial = v_) : (State.chanWrite s ch a bs).serial = v_ := by
  unfold State.chanWrite
  repeat' first
    | with_reducible assumption | with_reducible apply State.ite_serial
    | with_reducible refine State.dite_serial (fun _ => ?_) (fun _ => ?_) | with_reducible apply State.id_serial | dsimp only
    | split

theorem State.parityAt_serial {v_ : Nat} {s : State} {ch a : Nat} (h_ : s.serial = v_) : (State.parityAt s ch a).serial = v_ := by
  unfold State.parityAt
  repeat' first
    | with_reducible assumption | with_reducible apply State.chanWrite_serial | with_reducible apply State.ite_serial
    | with_reducible refine State.dite_serial (fun _ => ?_) (fun _ => ?_) | with_reducible apply State.id_serial | dsimp only
    | split

theorem State.flip_serial {v_ : Nat} {s : State} {f : BitFlip} (h_ : s.serial = v_) : (State.flip s f).serial = v_ := by
  unfold State.flip
  repeat' first
    | with_reducible assumption | with_reducible apply State.chanWrite_serial | with_reducible apply State.ite_serial
    | with_reducible refine State.dite_serial (fun _ => ?_) (fun _ => ?_) | with_reducible apply State.ite1_serial
    | with_reducible apply State.ite2_serial | with_reducible apply State.id_serial | dsimp only | split

theorem State.writeTemplate_serial {v_ : Nat} {s : State} {a : Asset} {off : Nat} {bs : Bytes} (h_ : s.serial = v_) : (State.writeTemplate s a off bs).serial = v_ := by
  unfold State.writeTemplate
  repeat' first
    | with_reducible assumption | with_reducible apply State.chanWrite_serial | with_reducible apply State.parityAt_serial
    | with_reducible apply State.ite_serial | with_reducible refine State.dite_serial (fun _ => ?_) (fun _ => ?_)
    | with_reducible refine State.foldl_serial (fun s x h => ?_) ?_ | with_reducible apply State.ite1_serial
    | with_reducible apply State.ite2_serial | with_reducible apply State.id_serial | dsimp only | split

theorem State.writeTile_serial {v_ : Nat} {s : State} {a : Asset} {off : Nat} {bs : Bytes} (h_ : s.serial = v_) : (State.writeTile s a off bs).serial = v_ := by
  unfold State.writeTile
  repeat' first
    | with_reducible assumption | with_reducible apply State.chanWrite_serial | with_reducible apply State.ite_serial
    | with_reducible refine State.dite_serial (fun _ => ?_) (fun _ => ?_) | with_reducible apply State.id_serial | dsimp only
    | split

theorem State.loadPiece_serial {v_ : Nat} {s : State} {tile : Bool} {a : Asset} {off : Nat} {bs : Bytes} (h_ : s.serial = v_) : (State.loadPiece s tile a off bs).serial = v_ := by
  unfold State.loadPiece
  repeat' first
    | with_reducible assumption | with_reducible refine (State.serial_of (State.failLoad_kept rfl)).trans ?_
    | with_reducible apply State.writeTile_serial | with_reducible apply State.writeTemplate_serial
    | with_reducible refine (State.serial_of (State.hostWrite_kept rfl)).trans ?_
    | with_reducible refine (State.serial_of (State.updAsset_kept rfl)).trans ?_ | with_reducible apply State.ite_serial
    | with_reducible refine State.dite_serial (fun _ => ?_) (fun _ => ?_) | with_reducible apply State.ite1_serial
    | with_reducible apply State.ite2_serial | with_reducible apply State.id_serial | dsimp only | split

theorem execLoadData_serial {v_ : Nat} {t : Nat} {m : Ktp} {loadId offset : Nat} {data : Bytes} {s : State} (h_ : s.serial = v_) :
    Lands (fun x => x.serial = v_) (execLoadData t m loadId offset data s) := by
  unfold execLoadData
  repeat' first
    | with_reducible apply Lands.next | with_reducible apply Lands.ite | with_reducible assumption
    | with_reducible refine (State.serial_of (State.begin_kkept rfl)).trans ?_
    | (refine State.sequenced_to_serial (by with_reducible assumption) (fun s h => ?_) ?_)
    | with_reducible refine (State.serial_of (State.staleNowhere_kept rfl)).trans ?_
    | with_reducible refine (State.serial_of (State.markRx_kept rfl)).trans ?_ | with_reducible apply State.loadPiece_serial
    | with_reducible refine Lands.dite (fun _ => ?_) (fun _ => ?_) | with_reducible apply State.ite_serial
    | with_reducible refine State.dite_serial (fun _ => ?_) (fun _ => ?_) | with_reducible apply State.ite1_serial
    | with_reducible apply State.ite2_serial | with_reducible apply State.id_serial | dsimp only | split

theorem execTileVerify_serial {v_ : Nat} {t : Nat} {idx : Nat} {s : State} (h_ : s.serial = v_) :
    Lands (fun x => x.serial = v_) (execTileVerify t idx s) := by
  unfold execTileVerify
  repeat' first
    | with_reducible apply Lands.next | with_reducible apply Lands.ite | with_reducible assumption
    | with_reducible refine (State.serial_of (State.begin_kkept rfl)).trans ?_
    | with_reducible refine (State.serial_of (State.failLoad_kept rfl)).trans ?_ | with_reducible apply State.chanWrite_serial
    | with_reducible refine (State.serial_of (State.closeLoad_kept rfl)).trans ?_
    | with_reducible refine (State.serial_of (State.updAsset_kept rfl)).trans ?_
    | with_reducible refine Lands.dite (fun _ => ?_) (fun _ => ?_) | with_reducible apply State.ite_serial
    | with_reducible refine State.dite_serial (fun _ => ?_) (fun _ => ?_) | with_reducible apply State.ite1_serial
    | with_reducible apply State.ite2_serial | with_reducible apply State.id_serial | dsimp only | split

theorem execRowLineCompose_serial {v_ : Nat} {t : Nat} {flips : List BitFlip} {s : State} (h_ : s.serial = v_) :
    Lands (fun x => x.serial = v_) (execRowLineCompose t flips s) := by
  unfold execRowLineCompose
  repeat' first
    | with_reducible apply Lands.next | with_reducible apply Lands.ite | with_reducible assumption
    | with_reducible apply State.flip_serial | with_reducible refine (State.serial_of (State.begin_kkept rfl)).trans ?_
    | with_reducible refine (State.serial_of (State.composeRow_kept rfl)).trans ?_
    | with_reducible refine Lands.dite (fun _ => ?_) (fun _ => ?_) | with_reducible apply State.ite_serial
    | with_reducible refine State.dite_serial (fun _ => ?_) (fun _ => ?_)
    | with_reducible refine State.foldl_serial (fun s x h => ?_) ?_ | with_reducible apply State.ite1_serial
    | with_reducible apply State.ite2_serial | with_reducible apply State.id_serial | dsimp only | split

theorem State.beginSave_serial {v_ : Nat} {s : State} {entries : List (Nat × Nat)} {restart : Bool} (h_ : s.serial = v_) : (State.beginSave s entries restart).serial = v_ := by
  unfold State.beginSave
  repeat' first
    | with_reducible assumption | with_reducible apply State.ite_serial
    | with_reducible refine State.dite_serial (fun _ => ?_) (fun _ => ?_) | with_reducible apply State.id_serial | dsimp only
    | split

theorem State.writeBank_serial {v_ : Nat} {s : State} {b : Fin 2} {count : Nat} {entries : List (Nat × Nat)} (h_ : s.serial = v_) : (State.writeBank s b count entries).serial = v_ := by
  unfold State.writeBank
  repeat' first
    | with_reducible assumption | with_reducible apply State.ite_serial
    | with_reducible refine State.dite_serial (fun _ => ?_) (fun _ => ?_) | with_reducible apply State.id_serial | dsimp only
    | split

theorem State.eraseBanks_serial {v_ : Nat} {s : State} (h_ : s.serial = v_) : (State.eraseBanks s).serial = v_ := by
  unfold State.eraseBanks
  repeat' first
    | with_reducible assumption | with_reducible refine (State.serial_of (State.cmdEnd_kept rfl)).trans ?_
    | with_reducible refine (State.serial_of (State.eraseBank_kept rfl)).trans ?_ | with_reducible apply State.writeBank_serial
    | with_reducible apply State.ite_serial | with_reducible refine State.dite_serial (fun _ => ?_) (fun _ => ?_)
    | with_reducible apply State.id_serial | dsimp only | split

theorem execStoreSave_serial {v_ : Nat} {t : Nat} {k : Kop} {s : State} (h_ : s.serial = v_) :
    Lands (fun x => x.serial = v_) (execStoreSave t k s) := by
  unfold execStoreSave
  repeat' first
    | with_reducible apply Lands.next | with_reducible apply Lands.ite | with_reducible assumption
    | with_reducible refine (State.serial_of (State.begin_kkept rfl)).trans ?_
    | (with_reducible refine State.command_serial (fun s w h => ?_) ?_)
    | with_reducible refine (State.serial_of (State.refuse_kept rfl)).trans ?_ | with_reducible apply State.beginSave_serial
    | with_reducible refine Lands.dite (fun _ => ?_) (fun _ => ?_) | with_reducible apply State.ite_serial
    | with_reducible refine State.dite_serial (fun _ => ?_) (fun _ => ?_) | with_reducible apply State.ite1_serial
    | with_reducible apply State.ite2_serial | with_reducible apply State.id_serial | dsimp only | split

theorem execStoreSaveRestart_serial {v_ : Nat} {t : Nat} {k : Kop} {s : State} (h_ : s.serial = v_) :
    Lands (fun x => x.serial = v_) (execStoreSaveRestart t k s) := by
  unfold execStoreSaveRestart
  repeat' first
    | with_reducible apply Lands.next | with_reducible apply Lands.ite | with_reducible assumption
    | with_reducible refine (State.serial_of (State.begin_kkept rfl)).trans ?_
    | (with_reducible refine State.command_serial (fun s w h => ?_) ?_)
    | with_reducible refine (State.serial_of (State.refuse_kept rfl)).trans ?_ | with_reducible apply State.beginSave_serial
    | with_reducible refine Lands.dite (fun _ => ?_) (fun _ => ?_) | with_reducible apply State.ite_serial
    | with_reducible refine State.dite_serial (fun _ => ?_) (fun _ => ?_) | with_reducible apply State.ite1_serial
    | with_reducible apply State.ite2_serial | with_reducible apply State.id_serial | dsimp only | split

theorem execStoreErase_serial {v_ : Nat} {t : Nat} {k : Kop} {s : State} (h_ : s.serial = v_) :
    Lands (fun x => x.serial = v_) (execStoreErase t k s) := by
  unfold execStoreErase
  repeat' first
    | with_reducible apply Lands.next | with_reducible apply Lands.ite | with_reducible assumption
    | with_reducible refine (State.serial_of (State.begin_kkept rfl)).trans ?_
    | (with_reducible refine State.command_serial (fun s w h => ?_) ?_)
    | with_reducible refine (State.serial_of (State.refuse_kept rfl)).trans ?_ | with_reducible apply State.beginSave_serial
    | with_reducible refine Lands.dite (fun _ => ?_) (fun _ => ?_) | with_reducible apply State.ite_serial
    | with_reducible refine State.dite_serial (fun _ => ?_) (fun _ => ?_) | with_reducible apply State.ite1_serial
    | with_reducible apply State.ite2_serial | with_reducible apply State.id_serial | dsimp only | split

theorem execSaveComplete_serial {v_ : Nat} {t : Nat} {ok : Bool} {s : State} (h_ : s.serial = v_) :
    Lands (fun x => x.serial = v_) (execSaveComplete t ok s) := by
  unfold execSaveComplete
  repeat' first
    | with_reducible apply Lands.next | with_reducible apply Lands.ite | with_reducible assumption
    | with_reducible refine (State.serial_of (State.begin_kkept rfl)).trans ?_ | with_reducible apply State.writeBank_serial
    | with_reducible refine (State.serial_of (State.cmdEnd_kept rfl)).trans ?_
    | with_reducible refine (State.serial_of (State.beginRestart_kept rfl)).trans ?_
    | with_reducible refine (State.serial_of (State.event_kept rfl)).trans ?_
    | with_reducible refine Lands.dite (fun _ => ?_) (fun _ => ?_) | with_reducible apply State.ite_serial
    | with_reducible refine State.dite_serial (fun _ => ?_) (fun _ => ?_) | with_reducible apply State.ite1_serial
    | with_reducible apply State.ite2_serial | with_reducible apply State.id_serial | dsimp only | split

theorem State.wipe_serial {v_ : Nat} {s : State} {cause : Nat} {stuck : List Nat} (h_ : s.serial = v_) : (State.wipe s cause stuck).serial = v_ := by
  unfold State.wipe
  repeat' first
    | with_reducible assumption | with_reducible refine (State.serial_of (State.drawSecret_kept rfl)).trans ?_
    | with_reducible refine (State.serial_of (State.failLoads_kept rfl)).trans ?_
    | with_reducible refine (State.serial_of (State.event_kept rfl)).trans ?_
    | with_reducible refine (State.serial_of (State.endAll_kept rfl)).trans ?_ | with_reducible apply State.ite_serial
    | with_reducible refine State.dite_serial (fun _ => ?_) (fun _ => ?_)
    | with_reducible refine State.foldl_serial (fun s x h => ?_) ?_ | with_reducible apply State.id_serial | dsimp only | split

theorem State.tamperTrip_serial {v_ : Nat} {s : State} {source : Fin 9} {stuck : List Nat} (h_ : s.serial = v_) : (State.tamperTrip s source stuck).serial = v_ := by
  unfold State.tamperTrip
  repeat' first
    | with_reducible assumption | with_reducible apply State.wipe_serial | with_reducible apply State.ite_serial
    | with_reducible refine State.dite_serial (fun _ => ?_) (fun _ => ?_) | with_reducible apply State.id_serial | dsimp only
    | split

theorem State.stillActive_serial {v_ : Nat} {s : State} {mask : Nat} (h_ : s.serial = v_) : (State.stillActive s mask).serial = v_ := by
  unfold State.stillActive
  repeat' first
    | with_reducible assumption | with_reducible refine (State.serial_of (State.drawSecret_kept rfl)).trans ?_
    | with_reducible apply State.ite_serial | with_reducible refine State.dite_serial (fun _ => ?_) (fun _ => ?_)
    | with_reducible apply State.id_serial | dsimp only | split

theorem execTamperDetect_serial {v_ : Nat} {t : Nat} {x : TamperReading} {stuck : List Nat} {s : State} (h_ : s.serial = v_) :
    Lands (fun x => x.serial = v_) (execTamperDetect t x stuck s) := by
  unfold execTamperDetect
  repeat' first
    | with_reducible apply Lands.next | with_reducible apply Lands.ite | with_reducible assumption
    | with_reducible refine (State.serial_of (State.begin_kkept rfl)).trans ?_ | with_reducible apply State.tamperTrip_serial
    | with_reducible apply State.stillActive_serial | with_reducible refine Lands.dite (fun _ => ?_) (fun _ => ?_)
    | with_reducible apply State.ite_serial | with_reducible refine State.dite_serial (fun _ => ?_) (fun _ => ?_)
    | with_reducible apply State.ite1_serial | with_reducible apply State.ite2_serial | with_reducible apply State.id_serial
    | dsimp only | split

theorem execTamperClear_serial {v_ : Nat} {t : Nat} {k : Kop} {active : Nat} {s : State} (h_ : s.serial = v_) :
    Lands (fun x => x.serial = v_) (execTamperClear t k active s) := by
  unfold execTamperClear
  repeat' first
    | with_reducible apply Lands.next | with_reducible apply Lands.ite | with_reducible assumption
    | with_reducible refine (State.serial_of (State.begin_kkept rfl)).trans ?_
    | (with_reducible refine State.command_serial (fun s w h => ?_) ?_) | with_reducible apply State.stillActive_serial
    | with_reducible refine Lands.dite (fun _ => ?_) (fun _ => ?_) | with_reducible apply State.ite_serial
    | with_reducible refine State.dite_serial (fun _ => ?_) (fun _ => ?_) | with_reducible apply State.ite1_serial
    | with_reducible apply State.ite2_serial | with_reducible apply State.id_serial | dsimp only | split

theorem State.blowFuse_serial {v_ : Nat} {s : State} {from_ to_ : Nat} (h_ : s.serial = v_) : (State.blowFuse s from_ to_).serial = v_ := by
  unfold State.blowFuse
  repeat' first
    | with_reducible assumption | with_reducible apply State.ite_serial
    | with_reducible refine State.dite_serial (fun _ => ?_) (fun _ => ?_) | with_reducible apply State.id_serial | dsimp only
    | split

theorem State.transition_serial {v_ : Nat} {s : State} (h_ : s.serial = v_) : (State.transition s).serial = v_ := by
  unfold State.transition
  repeat' first
    | with_reducible assumption | with_reducible apply State.blowFuse_serial
    | with_reducible refine (State.serial_of (State.eventBy_kept rfl)).trans ?_
    | with_reducible refine (State.serial_of (State.chainsOff_kept rfl)).trans ?_ | with_reducible apply State.eraseBanks_serial
    | with_reducible refine (State.serial_of (State.event_kept rfl)).trans ?_ | with_reducible apply State.ite_serial
    | with_reducible refine State.dite_serial (fun _ => ?_) (fun _ => ?_) | with_reducible apply State.id_serial | dsimp only
    | split

theorem execLifeCycleRequest_serial {v_ : Nat} {t : Nat} {k : Kop} {r : LcReq} {stuck : List Nat} {s : State} (h_ : s.serial = v_) :
    Lands (fun x => x.serial = v_) (execLifeCycleRequest t k r stuck s) := by
  unfold execLifeCycleRequest
  repeat' first
    | with_reducible apply Lands.next | with_reducible apply Lands.ite | with_reducible assumption
    | with_reducible refine (State.serial_of (State.begin_kkept rfl)).trans ?_ | with_reducible apply State.transition_serial
    | (with_reducible refine State.command_serial (fun s w h => ?_) ?_)
    | with_reducible refine (State.serial_of (State.refuse_kept rfl)).trans ?_ | with_reducible apply State.wipe_serial
    | with_reducible refine Lands.dite (fun _ => ?_) (fun _ => ?_) | with_reducible apply State.ite_serial
    | with_reducible refine State.dite_serial (fun _ => ?_) (fun _ => ?_) | with_reducible apply State.ite1_serial
    | with_reducible apply State.ite2_serial | with_reducible apply State.id_serial | dsimp only | split

theorem State.commitRecord_serial {v_ : Nat} {s : State} (h_ : s.serial = v_) : (State.commitRecord s).serial = v_ := by
  unfold State.commitRecord
  repeat' first
    | with_reducible assumption | with_reducible refine (State.serial_of (State.cmdEnd_kept rfl)).trans ?_
    | with_reducible refine (State.serial_of (State.lostEvents_kept rfl)).trans ?_ | with_reducible apply State.ite_serial
    | with_reducible refine State.dite_serial (fun _ => ?_) (fun _ => ?_) | with_reducible apply State.id_serial | dsimp only
    | split

theorem execRecordCommit_serial {v_ : Nat} {t : Nat} {s : State} (h_ : s.serial = v_) :
    Lands (fun x => x.serial = v_) (execRecordCommit t s) := by
  unfold execRecordCommit
  repeat' first
    | with_reducible apply Lands.next | with_reducible apply Lands.ite | with_reducible assumption
    | with_reducible refine (State.serial_of (State.begin_kkept rfl)).trans ?_ | with_reducible apply State.commitRecord_serial
    | with_reducible refine Lands.dite (fun _ => ?_) (fun _ => ?_) | with_reducible apply State.ite_serial
    | with_reducible refine State.dite_serial (fun _ => ?_) (fun _ => ?_) | with_reducible apply State.ite1_serial
    | with_reducible apply State.ite2_serial | with_reducible apply State.id_serial | dsimp only | split

theorem execRecorderClear_serial {v_ : Nat} {t : Nat} {k : Kop} {tok : ClearTok} {s : State} (h_ : s.serial = v_) :
    Lands (fun x => x.serial = v_) (execRecorderClear t k tok s) := by
  unfold execRecorderClear
  repeat' first
    | with_reducible apply Lands.next | with_reducible apply Lands.ite | with_reducible assumption
    | with_reducible refine (State.serial_of (State.begin_kkept rfl)).trans ?_
    | (with_reducible refine State.command_serial (fun s w h => ?_) ?_)
    | with_reducible refine (State.serial_of (State.refuse_kept rfl)).trans ?_
    | with_reducible refine Lands.dite (fun _ => ?_) (fun _ => ?_) | with_reducible apply State.ite_serial
    | with_reducible refine State.dite_serial (fun _ => ?_) (fun _ => ?_) | with_reducible apply State.ite1_serial
    | with_reducible apply State.ite2_serial | with_reducible apply State.id_serial | dsimp only | split

theorem State.resetKeeping_serial {v_ : Nat} {s : State} {powerOn : Bool} (h_ : s.serial = v_) : (State.resetKeeping s powerOn).serial = v_ := by
  unfold State.resetKeeping
  repeat' first
    | with_reducible assumption | with_reducible apply State.ite_serial
    | with_reducible refine State.dite_serial (fun _ => ?_) (fun _ => ?_) | with_reducible apply State.id_serial | dsimp only
    | split

theorem State.wipedBefore_serial {v_ : Nat} {s : State} {armed : Nat} {source : Fin 9} {at_ : Nat} (h_ : s.serial = v_) : (State.wipedBefore s armed source at_).serial = v_ := by
  unfold State.wipedBefore
  repeat' first
    | with_reducible assumption | with_reducible refine (State.serial_of (State.event_kept rfl)).trans ?_
    | with_reducible apply State.ite_serial | with_reducible refine State.dite_serial (fun _ => ?_) (fun _ => ?_)
    | with_reducible apply State.id_serial | dsimp only | split

theorem State.backupCheck_serial {v_ : Nat} {s : State} {p : PowerUp} {powerOn : Bool} {armed : Nat} (h_ : s.serial = v_) : (State.backupCheck s p powerOn armed).serial = v_ := by
  unfold State.backupCheck
  repeat' first
    | with_reducible assumption | with_reducible apply State.wipedBefore_serial
    | with_reducible refine (State.serial_of (State.event_kept rfl)).trans ?_ | with_reducible apply State.ite_serial
    | with_reducible refine State.dite_serial (fun _ => ?_) (fun _ => ?_)
    | with_reducible refine State.foldl_serial (fun s x h => ?_) ?_ | with_reducible apply State.ite1_serial
    | with_reducible apply State.ite2_serial | with_reducible apply State.id_serial | dsimp only | split

theorem State.lcInterrupted_serial {v_ : Nat} {s : State} {blown : Bool} (h_ : s.serial = v_) : (State.lcInterrupted s blown).serial = v_ := by
  unfold State.lcInterrupted
  repeat' first
    | with_reducible assumption | with_reducible apply State.blowFuse_serial
    | with_reducible refine (State.serial_of (State.event_kept rfl)).trans ?_ | with_reducible apply State.ite_serial
    | with_reducible refine State.dite_serial (fun _ => ?_) (fun _ => ?_) | with_reducible apply State.id_serial | dsimp only
    | split

theorem State.powerDomains_serial {v_ : Nat} {s : State} {p : PowerUp} (h_ : s.serial = v_) : (State.powerDomains s p).serial = v_ := by
  unfold State.powerDomains
  repeat' first
    | with_reducible assumption | with_reducible refine (State.serial_of (State.testArrays_kept rfl)).trans ?_
    | with_reducible refine (State.serial_of (State.drawSecret_kept rfl)).trans ?_ | with_reducible apply State.wipe_serial
    | with_reducible apply State.ite_serial | with_reducible refine State.dite_serial (fun _ => ?_) (fun _ => ?_)
    | with_reducible apply State.id_serial | dsimp only | split

theorem State.startUp_serial {v_ : Nat} {s : State} {cause : Nat} {p : PowerUp} (h_ : s.serial = v_) : (State.startUp s cause p).serial = v_ := by
  unfold State.startUp
  repeat' first
    | with_reducible assumption | with_reducible refine (State.serial_of (State.installPatches_kept rfl)).trans ?_
    | with_reducible apply State.resetKeeping_serial | with_reducible apply State.backupCheck_serial
    | with_reducible apply State.lcInterrupted_serial
    | with_reducible refine (State.serial_of (State.loadStore_kept rfl)).trans ?_
    | with_reducible refine (State.serial_of (State.event_kept rfl)).trans ?_ | with_reducible apply State.powerDomains_serial
    | with_reducible refine (State.serial_of (State.startEngines_kept rfl)).trans ?_
    | with_reducible refine (State.serial_of (State.startPorts_kept rfl)).trans ?_
    | with_reducible refine (State.serial_of (State.startChans_kept rfl)).trans ?_ | with_reducible apply State.ite_serial
    | with_reducible refine State.dite_serial (fun _ => ?_) (fun _ => ?_) | with_reducible apply State.id_serial | dsimp only
    | split

theorem execPowerOnReset_serial {v_ : Nat} {t : Nat} {p : PowerUp} {s : State} (h_ : s.serial = v_) :
    Lands (fun x => x.serial = v_) (execPowerOnReset t p s) := by
  unfold execPowerOnReset
  repeat' first
    | with_reducible apply Lands.next | with_reducible apply Lands.ite | with_reducible assumption
    | with_reducible refine (State.serial_of (State.begin_kkept rfl)).trans ?_ | with_reducible apply State.startUp_serial
    | with_reducible refine Lands.dite (fun _ => ?_) (fun _ => ?_) | with_reducible apply State.ite_serial
    | with_reducible refine State.dite_serial (fun _ => ?_) (fun _ => ?_) | with_reducible apply State.ite1_serial
    | with_reducible apply State.ite2_serial | with_reducible apply State.id_serial | dsimp only | split

theorem execExternalReset_serial {v_ : Nat} {t : Nat} {p : PowerUp} {s : State} (h_ : s.serial = v_) :
    Lands (fun x => x.serial = v_) (execExternalReset t p s) := by
  unfold execExternalReset
  repeat' first
    | with_reducible apply Lands.next | with_reducible apply Lands.ite | with_reducible assumption
    | with_reducible refine (State.serial_of (State.begin_kkept rfl)).trans ?_ | with_reducible apply State.startUp_serial
    | with_reducible refine Lands.dite (fun _ => ?_) (fun _ => ?_) | with_reducible apply State.ite_serial
    | with_reducible refine State.dite_serial (fun _ => ?_) (fun _ => ?_) | with_reducible apply State.ite1_serial
    | with_reducible apply State.ite2_serial | with_reducible apply State.id_serial | dsimp only | split

theorem execDebugReset_serial {v_ : Nat} {t : Nat} {p : PowerUp} {s : State} (h_ : s.serial = v_) :
    Lands (fun x => x.serial = v_) (execDebugReset t p s) := by
  unfold execDebugReset
  repeat' first
    | with_reducible apply Lands.next | with_reducible apply Lands.ite | with_reducible assumption
    | with_reducible refine (State.serial_of (State.begin_kkept rfl)).trans ?_ | with_reducible apply State.startUp_serial
    | with_reducible refine Lands.dite (fun _ => ?_) (fun _ => ?_) | with_reducible apply State.ite_serial
    | with_reducible refine State.dite_serial (fun _ => ?_) (fun _ => ?_) | with_reducible apply State.ite1_serial
    | with_reducible apply State.ite2_serial | with_reducible apply State.id_serial | dsimp only | split

theorem State.flushEvents_serial {v_ : Nat} {n : Nat} {s : State} (h_ : s.serial = v_) : (State.flushEvents n s).serial = v_ := by
  induction n generalizing s with
  | zero => exact h_
  | succ n ih =>
    unfold State.flushEvents
    exact State.ite_serial h_ (ih (State.commitRecord_serial h_))

theorem State.commitAll_serial {v_ : Nat} {s : State} (h_ : s.serial = v_) : s.commitAll.serial = v_ :=
  State.flushEvents_serial (n := s.events.length + 3) h_

theorem execCommandedResetTimeout_serial {v_ : Nat} {t : Nat} {p : PowerUp} {s : State} (h_ : s.serial = v_) :
    Lands (fun x => x.serial = v_) (execCommandedResetTimeout t p s) := by
  unfold execCommandedResetTimeout
  repeat' first
    | with_reducible apply Lands.next | with_reducible apply Lands.ite | with_reducible assumption
    | with_reducible refine (State.serial_of (State.begin_kkept rfl)).trans ?_
    | with_reducible refine (State.serial_of (State.recordHigh_kept rfl)).trans ?_ | with_reducible apply State.commitAll_serial
    | with_reducible apply State.startUp_serial | with_reducible refine Lands.dite (fun _ => ?_) (fun _ => ?_)
    | with_reducible apply State.ite_serial | with_reducible refine State.dite_serial (fun _ => ?_) (fun _ => ?_)
    | with_reducible apply State.ite1_serial | with_reducible apply State.ite2_serial | with_reducible apply State.id_serial
    | dsimp only | split

theorem execSupplyOutOfRange_serial {v_ : Nat} {t : Nat} {x : SupplyReading} {p : PowerUp} {s : State} (h_ : s.serial = v_) :
    Lands (fun x => x.serial = v_) (execSupplyOutOfRange t x p s) := by
  unfold execSupplyOutOfRange
  repeat' first
    | with_reducible apply Lands.next | with_reducible apply Lands.ite | with_reducible assumption
    | with_reducible refine (State.serial_of (State.begin_kkept rfl)).trans ?_ | with_reducible apply State.startUp_serial
    | with_reducible refine Lands.dite (fun _ => ?_) (fun _ => ?_) | with_reducible apply State.ite_serial
    | with_reducible refine State.dite_serial (fun _ => ?_) (fun _ => ?_) | with_reducible apply State.ite1_serial
    | with_reducible apply State.ite2_serial | with_reducible apply State.id_serial | dsimp only | split

theorem execCoreSupplyExcursion_serial {v_ : Nat} {t supply : Nat} {begins : Bool} {uv : Nat} {s : State} (h_ : s.serial = v_) :
    Lands (fun x => x.serial = v_) (execCoreSupplyExcursion t supply begins uv s) := by
  unfold execCoreSupplyExcursion
  repeat' first
    | with_reducible apply Lands.next | with_reducible apply Lands.ite | with_reducible assumption
    | with_reducible refine (State.serial_of (State.begin_kkept rfl)).trans ?_ | with_reducible apply State.tamperTrip_serial
    | with_reducible refine (State.serial_of (State.faultEvent_kept rfl)).trans ?_
    | with_reducible refine Lands.dite (fun _ => ?_) (fun _ => ?_) | with_reducible apply State.ite_serial
    | with_reducible refine State.dite_serial (fun _ => ?_) (fun _ => ?_) | with_reducible apply State.ite1_serial
    | with_reducible apply State.ite2_serial | with_reducible apply State.id_serial | dsimp only | split

theorem execClockLoss_serial {v_ : Nat} {t : Nat} {x : ClockReading} {stuck : List Nat} {p : PowerUp} {s : State} (h_ : s.serial = v_) :
    Lands (fun x => x.serial = v_) (execClockLoss t x stuck p s) := by
  unfold execClockLoss
  repeat' first
    | with_reducible apply Lands.next | with_reducible apply Lands.ite | with_reducible assumption
    | with_reducible refine (State.serial_of (State.begin_kkept rfl)).trans ?_ | with_reducible apply State.tamperTrip_serial
    | with_reducible apply State.startUp_serial | with_reducible refine Lands.dite (fun _ => ?_) (fun _ => ?_)
    | with_reducible apply State.ite_serial | with_reducible refine State.dite_serial (fun _ => ?_) (fun _ => ?_)
    | with_reducible apply State.ite1_serial | with_reducible apply State.ite2_serial | with_reducible apply State.id_serial
    | dsimp only | split

theorem State.downRecords_serial {v_ : Nat} {s : State} (h_ : s.serial = v_) : s.downRecords.serial = v_ :=
  State.commitAll_serial h_

theorem execPowerDownProgress_serial {v_ : Nat} {t : Nat} {s : State} (h_ : s.serial = v_) :
    Lands (fun x => x.serial = v_) (execPowerDownProgress t s) := by
  unfold execPowerDownProgress
  repeat' first
    | with_reducible apply Lands.next | with_reducible apply Lands.ite | with_reducible assumption
    | with_reducible refine (State.serial_of (State.begin_kkept rfl)).trans ?_
    | with_reducible refine (State.serial_of (State.downHeads_kept rfl)).trans ?_
    | with_reducible refine (State.serial_of (State.nextStep_kept rfl)).trans ?_
    | with_reducible refine (State.serial_of (State.downChains_kept rfl)).trans ?_
    | with_reducible refine (State.serial_of (State.downAxes_kept rfl)).trans ?_ | with_reducible apply State.downRecords_serial
    | with_reducible refine (State.serial_of (State.downDomains_kept rfl)).trans ?_
    | with_reducible refine Lands.dite (fun _ => ?_) (fun _ => ?_) | with_reducible apply State.ite_serial
    | with_reducible refine State.dite_serial (fun _ => ?_) (fun _ => ?_) | with_reducible apply State.ite1_serial
    | with_reducible apply State.ite2_serial | with_reducible apply State.id_serial | dsimp only | split

theorem State.tick_serial {v_ : Nat} {s : State} (h_ : s.serial = v_) : (State.tick s).serial = v_ := by
  unfold State.tick
  repeat' first
    | with_reducible assumption | with_reducible refine (State.serial_of (State.begin_kkept rfl)).trans ?_
    | with_reducible apply State.transition_serial
    | with_reducible refine (State.serial_of (State.arrayCycle_kept rfl)).trans ?_ | with_reducible apply State.ite_serial
    | with_reducible refine State.dite_serial (fun _ => ?_) (fun _ => ?_) | with_reducible apply State.id_serial | dsimp only
    | split


/-! ### The field `lifeCycle` -/

theorem State.ite_lifeCycle {c : Prop} [Decidable c] {v_ : Nat} {x y : State} (hx : x.lifeCycle = v_) (hy : y.lifeCycle = v_) :
    (if c then x else y).lifeCycle = v_ := by split <;> assumption
theorem State.dite_lifeCycle {c : Prop} [Decidable c] {v_ : Nat} {x : c → State} {y : ¬ c → State} (hx : ∀ h, (x h).lifeCycle = v_) (hy : ∀ h, (y h).lifeCycle = v_) :
    (if h : c then x h else y h).lifeCycle = v_ := by split <;> simp only [*]
theorem State.id_lifeCycle {v_ : Nat} {x : State} (hx : x.lifeCycle = v_) : (id x).lifeCycle = v_ := hx
theorem State.ite1_lifeCycle {β : Type} {c : Prop} [Decidable c] {v_ : Nat} {x y : State × β} (hx : x.1.lifeCycle = v_) (hy : y.1.lifeCycle = v_) :
    (if c then x else y).1.lifeCycle = v_ := by split <;> assumption
theorem State.ite2_lifeCycle {β : Type} {c : Prop} [Decidable c] {v_ : Nat} {x y : β × State} (hx : x.2.lifeCycle = v_) (hy : y.2.lifeCycle = v_) :
    (if c then x else y).2.lifeCycle = v_ := by split <;> assumption
theorem State.foldl_lifeCycle {α : Type} {v_ : Nat} {g : State → α → State} {l : List α} {s : State}
    (h : ∀ s x, s.lifeCycle = v_ → (g s x).lifeCycle = v_) (hs : s.lifeCycle = v_) : (l.foldl g s).lifeCycle = v_ := by
  induction l generalizing s with
  | nil => exact hs
  | cons x l ih => exact ih (h s x hs)

theorem State.respond_lifeCycle {v_ : Nat} {s : State} {i : Fin 32} {r : Resp} (h_ : s.lifeCycle = v_) : (s.respond i r).lifeCycle = v_ :=
  (State.lifeCycle_of (State.respond_kept rfl)).trans h_
theorem State.arrive_to_lifeCycle {v_ : Nat} {s : State} {c : Instr} {k : Kop} {r_ : Option (Fin 32) × State} (e_ : s.arrive c k = r_) (h_ : s.lifeCycle = v_) :
    r_.2.lifeCycle = v_ := (State.lifeCycle_of (State.arrive_to_kept e_ rfl)).trans h_
theorem State.await_lifeCycle {v_ : Nat} {s : State} {c : Instr} {k : Kop} {i : Fin 32} {ds : List (Fin 11)} (h_ : s.lifeCycle = v_) : (s.await c k i ds).lifeCycle = v_ :=
  (State.lifeCycle_of (State.await_kept rfl)).trans h_

theorem State.datagram_lifeCycle {v_ : Nat} {s : State} {d : Dgram} (h_ : s.lifeCycle = v_) : (s.datagram d).2.lifeCycle = v_ :=
  (State.lifeCycle_of (State.datagram_kept rfl)).trans h_
theorem State.datagram_to_lifeCycle {v_ : Nat} {s : State} {d : Dgram} {r_ : Option (Fin 32) × State} (e_ : s.datagram d = r_) (h_ : s.lifeCycle = v_) :
    r_.2.lifeCycle = v_ := (State.lifeCycle_of (State.datagram_to_kept e_ rfl)).trans h_
theorem State.updSess_klifeCycle {v_ : Nat} {s : State} {i : Fin 32} {f : Session → Session} (h_ : s.lifeCycle = v_) : (s.updSess i f).lifeCycle = v_ := h_

theorem State.command_lifeCycle {v_ : Nat} {s : State} {c : Instr} {k : Kop} {i sub v : Nat} {act : State → Who → State × CmdRes}
    (hact : ∀ s w, s.lifeCycle = v_ → (act s w).1.lifeCycle = v_) (h_ : s.lifeCycle = v_) : (s.command c k i sub v act).lifeCycle = v_ := by
  unfold State.command
  split
  · exact State.arrive_to_lifeCycle (by assumption) h_
  · have := State.arrive_to_lifeCycle (by assumption) h_
    refine State.ite_lifeCycle this (State.ite_lifeCycle (State.respond_lifeCycle this) (State.ite_lifeCycle (State.await_lifeCycle this) ?_))
    split
    rename_i s' res e
    have h' : s'.lifeCycle = v_ := (congrArg (fun r => State.lifeCycle r.1) e).symm.trans (hact _ _ this)
    split <;> exact State.respond_lifeCycle h'

theorem State.takeSeq_lifeCycle {v_ : Nat} {s : State} {i : Fin 32} {c : SeqClass} {stale : State → State} (hst : ∀ s, s.lifeCycle = v_ → (stale s).lifeCycle = v_) (h_ : s.lifeCycle = v_) :
    (s.takeSeq i c stale).2.lifeCycle = v_ := by
  cases c with
  | accept n => exact h_
  | duplicate => exact State.updSess_klifeCycle h_
  | stale => exact hst _ (State.updSess_klifeCycle h_)

theorem State.sequenced_lifeCycle {v_ : Nat} {s : State} {kind : Nat} {m : Ktp} {stale : State → State} (hst : ∀ s, s.lifeCycle = v_ → (stale s).lifeCycle = v_) (h_ : s.lifeCycle = v_) :
    (s.sequenced kind m stale).2.lifeCycle = v_ := by
  unfold State.sequenced
  split
  · exact State.datagram_to_lifeCycle (by assumption) h_
  · refine State.takeSeq_lifeCycle hst ?_
    exact State.datagram_to_lifeCycle (by assumption) h_
theorem State.sequenced_to_lifeCycle {v_ : Nat} {s : State} {kind : Nat} {m : Ktp} {stale : State → State} {r_ : Option (Fin 32 × Nat) × State}
    (e_ : s.sequenced kind m stale = r_) (hst : ∀ s, s.lifeCycle = v_ → (stale s).lifeCycle = v_) (h_ : s.lifeCycle = v_) : r_.2.lifeCycle = v_ := by
  rw [← e_]; exact State.sequenced_lifeCycle hst h_

theorem State.chanWrite_lifeCycle {v_ : Nat} {s : State} {ch a : Nat} {bs : List Nat} (h_ : s.lifeCycle = v_) : (State.chanWrite s ch a bs).lifeCycle = v_ := by
  unfold State.chanWrite
  repeat' first
    | with_reducible assumption | with_reducible apply State.ite_lifeCycle
    | with_reducible refine State.dite_lifeCycle (fun _ => ?_) (fun _ => ?_) | with_reducible apply State.id_lifeCycle
    | dsimp only | split

theorem State.parityAt_lifeCycle {v_ : Nat} {s : State} {ch a : Nat} (h_ : s.lifeCycle = v_) : (State.parityAt s ch a).lifeCycle = v_ := by
  unfold State.parityAt
  repeat' first
    | with_reducible assumption | with_reducible apply State.chanWrite_lifeCycle | with_reducible apply State.ite_lifeCycle
    | with_reducible refine State.dite_lifeCycle (fun _ => ?_) (fun _ => ?_) | with_reducible apply State.id_lifeCycle
    | dsimp only | split

theorem State.flip_lifeCycle {v_ : Nat} {s : State} {f : BitFlip} (h_ : s.lifeCycle = v_) : (State.flip s f).lifeCycle = v_ := by
  unfold State.flip
  repeat' first
    | with_reducible assumption | with_reducible apply State.chanWrite_lifeCycle | with_reducible apply State.ite_lifeCycle
    | with_reducible refine State.dite_lifeCycle (fun _ => ?_) (fun _ => ?_) | with_reducible apply State.ite1_lifeCycle
    | with_reducible apply State.ite2_lifeCycle | with_reducible apply State.id_lifeCycle | dsimp only | split

theorem State.writeTemplate_lifeCycle {v_ : Nat} {s : State} {a : Asset} {off : Nat} {bs : Bytes} (h_ : s.lifeCycle = v_) : (State.writeTemplate s a off bs).lifeCycle = v_ := by
  unfold State.writeTemplate
  repeat' first
    | with_reducible assumption | with_reducible apply State.chanWrite_lifeCycle | with_reducible apply State.parityAt_lifeCycle
    | with_reducible apply State.ite_lifeCycle | with_reducible refine State.dite_lifeCycle (fun _ => ?_) (fun _ => ?_)
    | with_reducible refine State.foldl_lifeCycle (fun s x h => ?_) ?_ | with_reducible apply State.ite1_lifeCycle
    | with_reducible apply State.ite2_lifeCycle | with_reducible apply State.id_lifeCycle | dsimp only | split

theorem State.writeTile_lifeCycle {v_ : Nat} {s : State} {a : Asset} {off : Nat} {bs : Bytes} (h_ : s.lifeCycle = v_) : (State.writeTile s a off bs).lifeCycle = v_ := by
  unfold State.writeTile
  repeat' first
    | with_reducible assumption | with_reducible apply State.chanWrite_lifeCycle | with_reducible apply State.ite_lifeCycle
    | with_reducible refine State.dite_lifeCycle (fun _ => ?_) (fun _ => ?_) | with_reducible apply State.id_lifeCycle
    | dsimp only | split

theorem State.loadPiece_lifeCycle {v_ : Nat} {s : State} {tile : Bool} {a : Asset} {off : Nat} {bs : Bytes} (h_ : s.lifeCycle = v_) : (State.loadPiece s tile a off bs).lifeCycle = v_ := by
  unfold State.loadPiece
  repeat' first
    | with_reducible assumption | with_reducible refine (State.lifeCycle_of (State.failLoad_kept rfl)).trans ?_
    | with_reducible apply State.writeTile_lifeCycle | with_reducible apply State.writeTemplate_lifeCycle
    | with_reducible refine (State.lifeCycle_of (State.hostWrite_kept rfl)).trans ?_
    | with_reducible refine (State.lifeCycle_of (State.updAsset_kept rfl)).trans ?_ | with_reducible apply State.ite_lifeCycle
    | with_reducible refine State.dite_lifeCycle (fun _ => ?_) (fun _ => ?_) | with_reducible apply State.ite1_lifeCycle
    | with_reducible apply State.ite2_lifeCycle | with_reducible apply State.id_lifeCycle | dsimp only | split

theorem execLoadData_lifeCycle {v_ : Nat} {t : Nat} {m : Ktp} {loadId offset : Nat} {data : Bytes} {s : State} (h_ : s.lifeCycle = v_) :
    Lands (fun x => x.lifeCycle = v_) (execLoadData t m loadId offset data s) := by
  unfold execLoadData
  repeat' first
    | with_reducible apply Lands.next | with_reducible apply Lands.ite | with_reducible assumption
    | with_reducible refine (State.lifeCycle_of (State.begin_kkept rfl)).trans ?_
    | (refine State.sequenced_to_lifeCycle (by with_reducible assumption) (fun s h => ?_) ?_)
    | with_reducible refine (State.lifeCycle_of (State.staleNowhere_kept rfl)).trans ?_
    | with_reducible refine (State.lifeCycle_of (State.markRx_kept rfl)).trans ?_
    | with_reducible apply State.loadPiece_lifeCycle | with_reducible refine Lands.dite (fun _ => ?_) (fun _ => ?_)
    | with_reducible apply State.ite_lifeCycle | with_reducible refine State.dite_lifeCycle (fun _ => ?_) (fun _ => ?_)
    | with_reducible apply State.ite1_lifeCycle | with_reducible apply State.ite2_lifeCycle
    | with_reducible apply State.id_lifeCycle | dsimp only | split

theorem execTileVerify_lifeCycle {v_ : Nat} {t : Nat} {idx : Nat} {s : State} (h_ : s.lifeCycle = v_) :
    Lands (fun x => x.lifeCycle = v_) (execTileVerify t idx s) := by
  unfold execTileVerify
  repeat' first
    | with_reducible apply Lands.next | with_reducible apply Lands.ite | with_reducible assumption
    | with_reducible refine (State.lifeCycle_of (State.begin_kkept rfl)).trans ?_
    | with_reducible refine (State.lifeCycle_of (State.failLoad_kept rfl)).trans ?_
    | with_reducible apply State.chanWrite_lifeCycle
    | with_reducible refine (State.lifeCycle_of (State.closeLoad_kept rfl)).trans ?_
    | with_reducible refine (State.lifeCycle_of (State.updAsset_kept rfl)).trans ?_
    | with_reducible refine Lands.dite (fun _ => ?_) (fun _ => ?_) | with_reducible apply State.ite_lifeCycle
    | with_reducible refine State.dite_lifeCycle (fun _ => ?_) (fun _ => ?_) | with_reducible apply State.ite1_lifeCycle
    | with_reducible apply State.ite2_lifeCycle | with_reducible apply State.id_lifeCycle | dsimp only | split

theorem execRowLineCompose_lifeCycle {v_ : Nat} {t : Nat} {flips : List BitFlip} {s : State} (h_ : s.lifeCycle = v_) :
    Lands (fun x => x.lifeCycle = v_) (execRowLineCompose t flips s) := by
  unfold execRowLineCompose
  repeat' first
    | with_reducible apply Lands.next | with_reducible apply Lands.ite | with_reducible assumption
    | with_reducible apply State.flip_lifeCycle | with_reducible refine (State.lifeCycle_of (State.begin_kkept rfl)).trans ?_
    | with_reducible refine (State.lifeCycle_of (State.composeRow_kept rfl)).trans ?_
    | with_reducible refine Lands.dite (fun _ => ?_) (fun _ => ?_) | with_reducible apply State.ite_lifeCycle
    | with_reducible refine State.dite_lifeCycle (fun _ => ?_) (fun _ => ?_)
    | with_reducible refine State.foldl_lifeCycle (fun s x h => ?_) ?_ | with_reducible apply State.ite1_lifeCycle
    | with_reducible apply State.ite2_lifeCycle | with_reducible apply State.id_lifeCycle | dsimp only | split

theorem State.beginSave_lifeCycle {v_ : Nat} {s : State} {entries : List (Nat × Nat)} {restart : Bool} (h_ : s.lifeCycle = v_) : (State.beginSave s entries restart).lifeCycle = v_ := by
  unfold State.beginSave
  repeat' first
    | with_reducible assumption | with_reducible apply State.ite_lifeCycle
    | with_reducible refine State.dite_lifeCycle (fun _ => ?_) (fun _ => ?_) | with_reducible apply State.id_lifeCycle
    | dsimp only | split

theorem State.writeBank_lifeCycle {v_ : Nat} {s : State} {b : Fin 2} {count : Nat} {entries : List (Nat × Nat)} (h_ : s.lifeCycle = v_) : (State.writeBank s b count entries).lifeCycle = v_ := by
  unfold State.writeBank
  repeat' first
    | with_reducible assumption | with_reducible apply State.ite_lifeCycle
    | with_reducible refine State.dite_lifeCycle (fun _ => ?_) (fun _ => ?_) | with_reducible apply State.id_lifeCycle
    | dsimp only | split

theorem State.eraseBanks_lifeCycle {v_ : Nat} {s : State} (h_ : s.lifeCycle = v_) : (State.eraseBanks s).lifeCycle = v_ := by
  unfold State.eraseBanks
  repeat' first
    | with_reducible assumption | with_reducible refine (State.lifeCycle_of (State.cmdEnd_kept rfl)).trans ?_
    | with_reducible refine (State.lifeCycle_of (State.eraseBank_kept rfl)).trans ?_
    | with_reducible apply State.writeBank_lifeCycle | with_reducible apply State.ite_lifeCycle
    | with_reducible refine State.dite_lifeCycle (fun _ => ?_) (fun _ => ?_) | with_reducible apply State.id_lifeCycle
    | dsimp only | split

theorem execStoreSave_lifeCycle {v_ : Nat} {t : Nat} {k : Kop} {s : State} (h_ : s.lifeCycle = v_) :
    Lands (fun x => x.lifeCycle = v_) (execStoreSave t k s) := by
  unfold execStoreSave
  repeat' first
    | with_reducible apply Lands.next | with_reducible apply Lands.ite | with_reducible assumption
    | with_reducible refine (State.lifeCycle_of (State.begin_kkept rfl)).trans ?_
    | (with_reducible refine State.command_lifeCycle (fun s w h => ?_) ?_)
    | with_reducible refine (State.lifeCycle_of (State.refuse_kept rfl)).trans ?_
    | with_reducible apply State.beginSave_lifeCycle | with_reducible refine Lands.dite (fun _ => ?_) (fun _ => ?_)
    | with_reducible apply State.ite_lifeCycle | with_reducible refine State.dite_lifeCycle (fun _ => ?_) (fun _ => ?_)
    | with_reducible apply State.ite1_lifeCycle | with_reducible apply State.ite2_lifeCycle
    | with_reducible apply State.id_lifeCycle | dsimp only | split

theorem execStoreSaveRestart_lifeCycle {v_ : Nat} {t : Nat} {k : Kop} {s : State} (h_ : s.lifeCycle = v_) :
    Lands (fun x => x.lifeCycle = v_) (execStoreSaveRestart t k s) := by
  unfold execStoreSaveRestart
  repeat' first
    | with_reducible apply Lands.next | with_reducible apply Lands.ite | with_reducible assumption
    | with_reducible refine (State.lifeCycle_of (State.begin_kkept rfl)).trans ?_
    | (with_reducible refine State.command_lifeCycle (fun s w h => ?_) ?_)
    | with_reducible refine (State.lifeCycle_of (State.refuse_kept rfl)).trans ?_
    | with_reducible apply State.beginSave_lifeCycle | with_reducible refine Lands.dite (fun _ => ?_) (fun _ => ?_)
    | with_reducible apply State.ite_lifeCycle | with_reducible refine State.dite_lifeCycle (fun _ => ?_) (fun _ => ?_)
    | with_reducible apply State.ite1_lifeCycle | with_reducible apply State.ite2_lifeCycle
    | with_reducible apply State.id_lifeCycle | dsimp only | split

theorem execStoreErase_lifeCycle {v_ : Nat} {t : Nat} {k : Kop} {s : State} (h_ : s.lifeCycle = v_) :
    Lands (fun x => x.lifeCycle = v_) (execStoreErase t k s) := by
  unfold execStoreErase
  repeat' first
    | with_reducible apply Lands.next | with_reducible apply Lands.ite | with_reducible assumption
    | with_reducible refine (State.lifeCycle_of (State.begin_kkept rfl)).trans ?_
    | (with_reducible refine State.command_lifeCycle (fun s w h => ?_) ?_)
    | with_reducible refine (State.lifeCycle_of (State.refuse_kept rfl)).trans ?_
    | with_reducible apply State.beginSave_lifeCycle | with_reducible refine Lands.dite (fun _ => ?_) (fun _ => ?_)
    | with_reducible apply State.ite_lifeCycle | with_reducible refine State.dite_lifeCycle (fun _ => ?_) (fun _ => ?_)
    | with_reducible apply State.ite1_lifeCycle | with_reducible apply State.ite2_lifeCycle
    | with_reducible apply State.id_lifeCycle | dsimp only | split

theorem execSaveComplete_lifeCycle {v_ : Nat} {t : Nat} {ok : Bool} {s : State} (h_ : s.lifeCycle = v_) :
    Lands (fun x => x.lifeCycle = v_) (execSaveComplete t ok s) := by
  unfold execSaveComplete
  repeat' first
    | with_reducible apply Lands.next | with_reducible apply Lands.ite | with_reducible assumption
    | with_reducible refine (State.lifeCycle_of (State.begin_kkept rfl)).trans ?_
    | with_reducible apply State.writeBank_lifeCycle
    | with_reducible refine (State.lifeCycle_of (State.cmdEnd_kept rfl)).trans ?_
    | with_reducible refine (State.lifeCycle_of (State.beginRestart_kept rfl)).trans ?_
    | with_reducible refine (State.lifeCycle_of (State.event_kept rfl)).trans ?_
    | with_reducible refine Lands.dite (fun _ => ?_) (fun _ => ?_) | with_reducible apply State.ite_lifeCycle
    | with_reducible refine State.dite_lifeCycle (fun _ => ?_) (fun _ => ?_) | with_reducible apply State.ite1_lifeCycle
    | with_reducible apply State.ite2_lifeCycle | with_reducible apply State.id_lifeCycle | dsimp only | split

theorem State.wipe_lifeCycle {v_ : Nat} {s : State} {cause : Nat} {stuck : List Nat} (h_ : s.lifeCycle = v_) : (State.wipe s cause stuck).lifeCycle = v_ := by
  unfold State.wipe
  repeat' first
    | with_reducible assumption | with_reducible refine (State.lifeCycle_of (State.drawSecret_kept rfl)).trans ?_
    | with_reducible refine (State.lifeCycle_of (State.failLoads_kept rfl)).trans ?_
    | with_reducible refine (State.lifeCycle_of (State.event_kept rfl)).trans ?_
    | with_reducible refine (State.lifeCycle_of (State.endAll_kept rfl)).trans ?_ | with_reducible apply State.ite_lifeCycle
    | with_reducible refine State.dite_lifeCycle (fun _ => ?_) (fun _ => ?_)
    | with_reducible refine State.foldl_lifeCycle (fun s x h => ?_) ?_ | with_reducible apply State.id_lifeCycle | dsimp only
    | split

theorem State.tamperTrip_lifeCycle {v_ : Nat} {s : State} {source : Fin 9} {stuck : List Nat} (h_ : s.lifeCycle = v_) : (State.tamperTrip s source stuck).lifeCycle = v_ := by
  unfold State.tamperTrip
  repeat' first
    | with_reducible assumption | with_reducible apply State.wipe_lifeCycle | with_reducible apply State.ite_lifeCycle
    | with_reducible refine State.dite_lifeCycle (fun _ => ?_) (fun _ => ?_) | with_reducible apply State.id_lifeCycle
    | dsimp only | split

theorem State.stillActive_lifeCycle {v_ : Nat} {s : State} {mask : Nat} (h_ : s.lifeCycle = v_) : (State.stillActive s mask).lifeCycle = v_ := by
  unfold State.stillActive
  repeat' first
    | with_reducible assumption | with_reducible refine (State.lifeCycle_of (State.drawSecret_kept rfl)).trans ?_
    | with_reducible apply State.ite_lifeCycle | with_reducible refine State.dite_lifeCycle (fun _ => ?_) (fun _ => ?_)
    | with_reducible apply State.id_lifeCycle | dsimp only | split

theorem execTamperDetect_lifeCycle {v_ : Nat} {t : Nat} {x : TamperReading} {stuck : List Nat} {s : State} (h_ : s.lifeCycle = v_) :
    Lands (fun x => x.lifeCycle = v_) (execTamperDetect t x stuck s) := by
  unfold execTamperDetect
  repeat' first
    | with_reducible apply Lands.next | with_reducible apply Lands.ite | with_reducible assumption
    | with_reducible refine (State.lifeCycle_of (State.begin_kkept rfl)).trans ?_
    | with_reducible apply State.tamperTrip_lifeCycle | with_reducible apply State.stillActive_lifeCycle
    | with_reducible refine Lands.dite (fun _ => ?_) (fun _ => ?_) | with_reducible apply State.ite_lifeCycle
    | with_reducible refine State.dite_lifeCycle (fun _ => ?_) (fun _ => ?_) | with_reducible apply State.ite1_lifeCycle
    | with_reducible apply State.ite2_lifeCycle | with_reducible apply State.id_lifeCycle | dsimp only | split

theorem execTamperClear_lifeCycle {v_ : Nat} {t : Nat} {k : Kop} {active : Nat} {s : State} (h_ : s.lifeCycle = v_) :
    Lands (fun x => x.lifeCycle = v_) (execTamperClear t k active s) := by
  unfold execTamperClear
  repeat' first
    | with_reducible apply Lands.next | with_reducible apply Lands.ite | with_reducible assumption
    | with_reducible refine (State.lifeCycle_of (State.begin_kkept rfl)).trans ?_
    | (with_reducible refine State.command_lifeCycle (fun s w h => ?_) ?_) | with_reducible apply State.stillActive_lifeCycle
    | with_reducible refine Lands.dite (fun _ => ?_) (fun _ => ?_) | with_reducible apply State.ite_lifeCycle
    | with_reducible refine State.dite_lifeCycle (fun _ => ?_) (fun _ => ?_) | with_reducible apply State.ite1_lifeCycle
    | with_reducible apply State.ite2_lifeCycle | with_reducible apply State.id_lifeCycle | dsimp only | split

theorem State.commitRecord_lifeCycle {v_ : Nat} {s : State} (h_ : s.lifeCycle = v_) : (State.commitRecord s).lifeCycle = v_ := by
  unfold State.commitRecord
  repeat' first
    | with_reducible assumption | with_reducible refine (State.lifeCycle_of (State.cmdEnd_kept rfl)).trans ?_
    | with_reducible refine (State.lifeCycle_of (State.lostEvents_kept rfl)).trans ?_ | with_reducible apply State.ite_lifeCycle
    | with_reducible refine State.dite_lifeCycle (fun _ => ?_) (fun _ => ?_) | with_reducible apply State.id_lifeCycle
    | dsimp only | split

theorem execRecordCommit_lifeCycle {v_ : Nat} {t : Nat} {s : State} (h_ : s.lifeCycle = v_) :
    Lands (fun x => x.lifeCycle = v_) (execRecordCommit t s) := by
  unfold execRecordCommit
  repeat' first
    | with_reducible apply Lands.next | with_reducible apply Lands.ite | with_reducible assumption
    | with_reducible refine (State.lifeCycle_of (State.begin_kkept rfl)).trans ?_
    | with_reducible apply State.commitRecord_lifeCycle | with_reducible refine Lands.dite (fun _ => ?_) (fun _ => ?_)
    | with_reducible apply State.ite_lifeCycle | with_reducible refine State.dite_lifeCycle (fun _ => ?_) (fun _ => ?_)
    | with_reducible apply State.ite1_lifeCycle | with_reducible apply State.ite2_lifeCycle
    | with_reducible apply State.id_lifeCycle | dsimp only | split

theorem execRecorderClear_lifeCycle {v_ : Nat} {t : Nat} {k : Kop} {tok : ClearTok} {s : State} (h_ : s.lifeCycle = v_) :
    Lands (fun x => x.lifeCycle = v_) (execRecorderClear t k tok s) := by
  unfold execRecorderClear
  repeat' first
    | with_reducible apply Lands.next | with_reducible apply Lands.ite | with_reducible assumption
    | with_reducible refine (State.lifeCycle_of (State.begin_kkept rfl)).trans ?_
    | (with_reducible refine State.command_lifeCycle (fun s w h => ?_) ?_)
    | with_reducible refine (State.lifeCycle_of (State.refuse_kept rfl)).trans ?_
    | with_reducible refine Lands.dite (fun _ => ?_) (fun _ => ?_) | with_reducible apply State.ite_lifeCycle
    | with_reducible refine State.dite_lifeCycle (fun _ => ?_) (fun _ => ?_) | with_reducible apply State.ite1_lifeCycle
    | with_reducible apply State.ite2_lifeCycle | with_reducible apply State.id_lifeCycle | dsimp only | split

theorem State.wipedBefore_lifeCycle {v_ : Nat} {s : State} {armed : Nat} {source : Fin 9} {at_ : Nat} (h_ : s.lifeCycle = v_) : (State.wipedBefore s armed source at_).lifeCycle = v_ := by
  unfold State.wipedBefore
  repeat' first
    | with_reducible assumption | with_reducible refine (State.lifeCycle_of (State.event_kept rfl)).trans ?_
    | with_reducible apply State.ite_lifeCycle | with_reducible refine State.dite_lifeCycle (fun _ => ?_) (fun _ => ?_)
    | with_reducible apply State.id_lifeCycle | dsimp only | split

theorem State.backupCheck_lifeCycle {v_ : Nat} {s : State} {p : PowerUp} {powerOn : Bool} {armed : Nat} (h_ : s.lifeCycle = v_) : (State.backupCheck s p powerOn armed).lifeCycle = v_ := by
  unfold State.backupCheck
  repeat' first
    | with_reducible assumption | with_reducible apply State.wipedBefore_lifeCycle
    | with_reducible refine (State.lifeCycle_of (State.event_kept rfl)).trans ?_ | with_reducible apply State.ite_lifeCycle
    | with_reducible refine State.dite_lifeCycle (fun _ => ?_) (fun _ => ?_)
    | with_reducible refine State.foldl_lifeCycle (fun s x h => ?_) ?_ | with_reducible apply State.ite1_lifeCycle
    | with_reducible apply State.ite2_lifeCycle | with_reducible apply State.id_lifeCycle | dsimp only | split

theorem State.powerDomains_lifeCycle {v_ : Nat} {s : State} {p : PowerUp} (h_ : s.lifeCycle = v_) : (State.powerDomains s p).lifeCycle = v_ := by
  unfold State.powerDomains
  repeat' first
    | with_reducible assumption | with_reducible refine (State.lifeCycle_of (State.testArrays_kept rfl)).trans ?_
    | with_reducible refine (State.lifeCycle_of (State.drawSecret_kept rfl)).trans ?_
    | with_reducible apply State.wipe_lifeCycle | with_reducible apply State.ite_lifeCycle
    | with_reducible refine State.dite_lifeCycle (fun _ => ?_) (fun _ => ?_) | with_reducible apply State.id_lifeCycle
    | dsimp only | split

theorem State.flushEvents_lifeCycle {v_ : Nat} {n : Nat} {s : State} (h_ : s.lifeCycle = v_) : (State.flushEvents n s).lifeCycle = v_ := by
  induction n generalizing s with
  | zero => exact h_
  | succ n ih =>
    unfold State.flushEvents
    exact State.ite_lifeCycle h_ (ih (State.commitRecord_lifeCycle h_))

theorem State.commitAll_lifeCycle {v_ : Nat} {s : State} (h_ : s.lifeCycle = v_) : s.commitAll.lifeCycle = v_ :=
  State.flushEvents_lifeCycle (n := s.events.length + 3) h_

theorem execCoreSupplyExcursion_lifeCycle {v_ : Nat} {t supply : Nat} {begins : Bool} {uv : Nat} {s : State} (h_ : s.lifeCycle = v_) :
    Lands (fun x => x.lifeCycle = v_) (execCoreSupplyExcursion t supply begins uv s) := by
  unfold execCoreSupplyExcursion
  repeat' first
    | with_reducible apply Lands.next | with_reducible apply Lands.ite | with_reducible assumption
    | with_reducible refine (State.lifeCycle_of (State.begin_kkept rfl)).trans ?_
    | with_reducible apply State.tamperTrip_lifeCycle
    | with_reducible refine (State.lifeCycle_of (State.faultEvent_kept rfl)).trans ?_
    | with_reducible refine Lands.dite (fun _ => ?_) (fun _ => ?_) | with_reducible apply State.ite_lifeCycle
    | with_reducible refine State.dite_lifeCycle (fun _ => ?_) (fun _ => ?_) | with_reducible apply State.ite1_lifeCycle
    | with_reducible apply State.ite2_lifeCycle | with_reducible apply State.id_lifeCycle | dsimp only | split

theorem State.downRecords_lifeCycle {v_ : Nat} {s : State} (h_ : s.lifeCycle = v_) : s.downRecords.lifeCycle = v_ :=
  State.commitAll_lifeCycle h_

theorem execPowerDownProgress_lifeCycle {v_ : Nat} {t : Nat} {s : State} (h_ : s.lifeCycle = v_) :
    Lands (fun x => x.lifeCycle = v_) (execPowerDownProgress t s) := by
  unfold execPowerDownProgress
  repeat' first
    | with_reducible apply Lands.next | with_reducible apply Lands.ite | with_reducible assumption
    | with_reducible refine (State.lifeCycle_of (State.begin_kkept rfl)).trans ?_
    | with_reducible refine (State.lifeCycle_of (State.downHeads_kept rfl)).trans ?_
    | with_reducible refine (State.lifeCycle_of (State.nextStep_kept rfl)).trans ?_
    | with_reducible refine (State.lifeCycle_of (State.downChains_kept rfl)).trans ?_
    | with_reducible refine (State.lifeCycle_of (State.downAxes_kept rfl)).trans ?_
    | with_reducible apply State.downRecords_lifeCycle
    | with_reducible refine (State.lifeCycle_of (State.downDomains_kept rfl)).trans ?_
    | with_reducible refine Lands.dite (fun _ => ?_) (fun _ => ?_) | with_reducible apply State.ite_lifeCycle
    | with_reducible refine State.dite_lifeCycle (fun _ => ?_) (fun _ => ?_) | with_reducible apply State.ite1_lifeCycle
    | with_reducible apply State.ite2_lifeCycle | with_reducible apply State.id_lifeCycle | dsimp only | split


/-! ### The field `toggles` -/

theorem State.ite_toggles {c : Prop} [Decidable c] {v_ : Nat} {x y : State} (hx : x.toggles = v_) (hy : y.toggles = v_) :
    (if c then x else y).toggles = v_ := by split <;> assumption
theorem State.dite_toggles {c : Prop} [Decidable c] {v_ : Nat} {x : c → State} {y : ¬ c → State} (hx : ∀ h, (x h).toggles = v_) (hy : ∀ h, (y h).toggles = v_) :
    (if h : c then x h else y h).toggles = v_ := by split <;> simp only [*]
theorem State.id_toggles {v_ : Nat} {x : State} (hx : x.toggles = v_) : (id x).toggles = v_ := hx
theorem State.ite1_toggles {β : Type} {c : Prop} [Decidable c] {v_ : Nat} {x y : State × β} (hx : x.1.toggles = v_) (hy : y.1.toggles = v_) :
    (if c then x else y).1.toggles = v_ := by split <;> assumption
theorem State.ite2_toggles {β : Type} {c : Prop} [Decidable c] {v_ : Nat} {x y : β × State} (hx : x.2.toggles = v_) (hy : y.2.toggles = v_) :
    (if c then x else y).2.toggles = v_ := by split <;> assumption
theorem State.foldl_toggles {α : Type} {v_ : Nat} {g : State → α → State} {l : List α} {s : State}
    (h : ∀ s x, s.toggles = v_ → (g s x).toggles = v_) (hs : s.toggles = v_) : (l.foldl g s).toggles = v_ := by
  induction l generalizing s with
  | nil => exact hs
  | cons x l ih => exact ih (h s x hs)

theorem State.respond_toggles {v_ : Nat} {s : State} {i : Fin 32} {r : Resp} (h_ : s.toggles = v_) : (s.respond i r).toggles = v_ :=
  (State.toggles_of (State.respond_kept rfl)).trans h_
theorem State.arrive_to_toggles {v_ : Nat} {s : State} {c : Instr} {k : Kop} {r_ : Option (Fin 32) × State} (e_ : s.arrive c k = r_) (h_ : s.toggles = v_) :
    r_.2.toggles = v_ := (State.toggles_of (State.arrive_to_kept e_ rfl)).trans h_
theorem State.await_toggles {v_ : Nat} {s : State} {c : Instr} {k : Kop} {i : Fin 32} {ds : List (Fin 11)} (h_ : s.toggles = v_) : (s.await c k i ds).toggles = v_ :=
  (State.toggles_of (State.await_kept rfl)).trans h_

theorem State.datagram_toggles {v_ : Nat} {s : State} {d : Dgram} (h_ : s.toggles = v_) : (s.datagram d).2.toggles = v_ :=
  (State.toggles_of (State.datagram_kept rfl)).trans h_
theorem State.datagram_to_toggles {v_ : Nat} {s : State} {d : Dgram} {r_ : Option (Fin 32) × State} (e_ : s.datagram d = r_) (h_ : s.toggles = v_) :
    r_.2.toggles = v_ := (State.toggles_of (State.datagram_to_kept e_ rfl)).trans h_
theorem State.updSess_ktoggles {v_ : Nat} {s : State} {i : Fin 32} {f : Session → Session} (h_ : s.toggles = v_) : (s.updSess i f).toggles = v_ := h_

theorem State.command_toggles {v_ : Nat} {s : State} {c : Instr} {k : Kop} {i sub v : Nat} {act : State → Who → State × CmdRes}
    (hact : ∀ s w, s.toggles = v_ → (act s w).1.toggles = v_) (h_ : s.toggles = v_) : (s.command c k i sub v act).toggles = v_ := by
  unfold State.command
  split
  · exact State.arrive_to_toggles (by assumption) h_
  · have := State.arrive_to_toggles (by assumption) h_
    refine State.ite_toggles this (State.ite_toggles (State.respond_toggles this) (State.ite_toggles (State.await_toggles this) ?_))
    split
    rename_i s' res e
    have h' : s'.toggles = v_ := (congrArg (fun r => State.toggles r.1) e).symm.trans (hact _ _ this)
    split <;> exact State.respond_toggles h'

theorem State.takeSeq_toggles {v_ : Nat} {s : State} {i : Fin 32} {c : SeqClass} {stale : State → State} (hst : ∀ s, s.toggles = v_ → (stale s).toggles = v_) (h_ : s.toggles = v_) :
    (s.takeSeq i c stale).2.toggles = v_ := by
  cases c with
  | accept n => exact h_
  | duplicate => exact State.updSess_ktoggles h_
  | stale => exact hst _ (State.updSess_ktoggles h_)

theorem State.sequenced_toggles {v_ : Nat} {s : State} {kind : Nat} {m : Ktp} {stale : State → State} (hst : ∀ s, s.toggles = v_ → (stale s).toggles = v_) (h_ : s.toggles = v_) :
    (s.sequenced kind m stale).2.toggles = v_ := by
  unfold State.sequenced
  split
  · exact State.datagram_to_toggles (by assumption) h_
  · refine State.takeSeq_toggles hst ?_
    exact State.datagram_to_toggles (by assumption) h_
theorem State.sequenced_to_toggles {v_ : Nat} {s : State} {kind : Nat} {m : Ktp} {stale : State → State} {r_ : Option (Fin 32 × Nat) × State}
    (e_ : s.sequenced kind m stale = r_) (hst : ∀ s, s.toggles = v_ → (stale s).toggles = v_) (h_ : s.toggles = v_) : r_.2.toggles = v_ := by
  rw [← e_]; exact State.sequenced_toggles hst h_

theorem State.chanWrite_toggles {v_ : Nat} {s : State} {ch a : Nat} {bs : List Nat} (h_ : s.toggles = v_) : (State.chanWrite s ch a bs).toggles = v_ := by
  unfold State.chanWrite
  repeat' first
    | with_reducible assumption | with_reducible apply State.ite_toggles
    | with_reducible refine State.dite_toggles (fun _ => ?_) (fun _ => ?_) | with_reducible apply State.id_toggles | dsimp only
    | split

theorem State.parityAt_toggles {v_ : Nat} {s : State} {ch a : Nat} (h_ : s.toggles = v_) : (State.parityAt s ch a).toggles = v_ := by
  unfold State.parityAt
  repeat' first
    | with_reducible assumption | with_reducible apply State.chanWrite_toggles | with_reducible apply State.ite_toggles
    | with_reducible refine State.dite_toggles (fun _ => ?_) (fun _ => ?_) | with_reducible apply State.id_toggles | dsimp only
    | split

theorem State.flip_toggles {v_ : Nat} {s : State} {f : BitFlip} (h_ : s.toggles = v_) : (State.flip s f).toggles = v_ := by
  unfold State.flip
  repeat' first
    | with_reducible assumption | with_reducible apply State.chanWrite_toggles | with_reducible apply State.ite_toggles
    | with_reducible refine State.dite_toggles (fun _ => ?_) (fun _ => ?_) | with_reducible apply State.ite1_toggles
    | with_reducible apply State.ite2_toggles | with_reducible apply State.id_toggles | dsimp only | split

theorem State.writeTemplate_toggles {v_ : Nat} {s : State} {a : Asset} {off : Nat} {bs : Bytes} (h_ : s.toggles = v_) : (State.writeTemplate s a off bs).toggles = v_ := by
  unfold State.writeTemplate
  repeat' first
    | with_reducible assumption | with_reducible apply State.chanWrite_toggles | with_reducible apply State.parityAt_toggles
    | with_reducible apply State.ite_toggles | with_reducible refine State.dite_toggles (fun _ => ?_) (fun _ => ?_)
    | with_reducible refine State.foldl_toggles (fun s x h => ?_) ?_ | with_reducible apply State.ite1_toggles
    | with_reducible apply State.ite2_toggles | with_reducible apply State.id_toggles | dsimp only | split

theorem State.writeTile_toggles {v_ : Nat} {s : State} {a : Asset} {off : Nat} {bs : Bytes} (h_ : s.toggles = v_) : (State.writeTile s a off bs).toggles = v_ := by
  unfold State.writeTile
  repeat' first
    | with_reducible assumption | with_reducible apply State.chanWrite_toggles | with_reducible apply State.ite_toggles
    | with_reducible refine State.dite_toggles (fun _ => ?_) (fun _ => ?_) | with_reducible apply State.id_toggles | dsimp only
    | split

theorem State.loadPiece_toggles {v_ : Nat} {s : State} {tile : Bool} {a : Asset} {off : Nat} {bs : Bytes} (h_ : s.toggles = v_) : (State.loadPiece s tile a off bs).toggles = v_ := by
  unfold State.loadPiece
  repeat' first
    | with_reducible assumption | with_reducible refine (State.toggles_of (State.failLoad_kept rfl)).trans ?_
    | with_reducible apply State.writeTile_toggles | with_reducible apply State.writeTemplate_toggles
    | with_reducible refine (State.toggles_of (State.hostWrite_kept rfl)).trans ?_
    | with_reducible refine (State.toggles_of (State.updAsset_kept rfl)).trans ?_ | with_reducible apply State.ite_toggles
    | with_reducible refine State.dite_toggles (fun _ => ?_) (fun _ => ?_) | with_reducible apply State.ite1_toggles
    | with_reducible apply State.ite2_toggles | with_reducible apply State.id_toggles | dsimp only | split

theorem execLoadData_toggles {v_ : Nat} {t : Nat} {m : Ktp} {loadId offset : Nat} {data : Bytes} {s : State} (h_ : s.toggles = v_) :
    Lands (fun x => x.toggles = v_) (execLoadData t m loadId offset data s) := by
  unfold execLoadData
  repeat' first
    | with_reducible apply Lands.next | with_reducible apply Lands.ite | with_reducible assumption
    | with_reducible refine (State.toggles_of (State.begin_kkept rfl)).trans ?_
    | (refine State.sequenced_to_toggles (by with_reducible assumption) (fun s h => ?_) ?_)
    | with_reducible refine (State.toggles_of (State.staleNowhere_kept rfl)).trans ?_
    | with_reducible refine (State.toggles_of (State.markRx_kept rfl)).trans ?_ | with_reducible apply State.loadPiece_toggles
    | with_reducible refine Lands.dite (fun _ => ?_) (fun _ => ?_) | with_reducible apply State.ite_toggles
    | with_reducible refine State.dite_toggles (fun _ => ?_) (fun _ => ?_) | with_reducible apply State.ite1_toggles
    | with_reducible apply State.ite2_toggles | with_reducible apply State.id_toggles | dsimp only | split

theorem execTileVerify_toggles {v_ : Nat} {t : Nat} {idx : Nat} {s : State} (h_ : s.toggles = v_) :
    Lands (fun x => x.toggles = v_) (execTileVerify t idx s) := by
  unfold execTileVerify
  repeat' first
    | with_reducible apply Lands.next | with_reducible apply Lands.ite | with_reducible assumption
    | with_reducible refine (State.toggles_of (State.begin_kkept rfl)).trans ?_
    | with_reducible refine (State.toggles_of (State.failLoad_kept rfl)).trans ?_ | with_reducible apply State.chanWrite_toggles
    | with_reducible refine (State.toggles_of (State.closeLoad_kept rfl)).trans ?_
    | with_reducible refine (State.toggles_of (State.updAsset_kept rfl)).trans ?_
    | with_reducible refine Lands.dite (fun _ => ?_) (fun _ => ?_) | with_reducible apply State.ite_toggles
    | with_reducible refine State.dite_toggles (fun _ => ?_) (fun _ => ?_) | with_reducible apply State.ite1_toggles
    | with_reducible apply State.ite2_toggles | with_reducible apply State.id_toggles | dsimp only | split

theorem execRowLineCompose_toggles {v_ : Nat} {t : Nat} {flips : List BitFlip} {s : State} (h_ : s.toggles = v_) :
    Lands (fun x => x.toggles = v_) (execRowLineCompose t flips s) := by
  unfold execRowLineCompose
  repeat' first
    | with_reducible apply Lands.next | with_reducible apply Lands.ite | with_reducible assumption
    | with_reducible apply State.flip_toggles | with_reducible refine (State.toggles_of (State.begin_kkept rfl)).trans ?_
    | with_reducible refine (State.toggles_of (State.composeRow_kept rfl)).trans ?_
    | with_reducible refine Lands.dite (fun _ => ?_) (fun _ => ?_) | with_reducible apply State.ite_toggles
    | with_reducible refine State.dite_toggles (fun _ => ?_) (fun _ => ?_)
    | with_reducible refine State.foldl_toggles (fun s x h => ?_) ?_ | with_reducible apply State.ite1_toggles
    | with_reducible apply State.ite2_toggles | with_reducible apply State.id_toggles | dsimp only | split

theorem State.beginSave_toggles {v_ : Nat} {s : State} {entries : List (Nat × Nat)} {restart : Bool} (h_ : s.toggles = v_) : (State.beginSave s entries restart).toggles = v_ := by
  unfold State.beginSave
  repeat' first
    | with_reducible assumption | with_reducible apply State.ite_toggles
    | with_reducible refine State.dite_toggles (fun _ => ?_) (fun _ => ?_) | with_reducible apply State.id_toggles | dsimp only
    | split

theorem State.writeBank_toggles {v_ : Nat} {s : State} {b : Fin 2} {count : Nat} {entries : List (Nat × Nat)} (h_ : s.toggles = v_) : (State.writeBank s b count entries).toggles = v_ := by
  unfold State.writeBank
  repeat' first
    | with_reducible assumption | with_reducible apply State.ite_toggles
    | with_reducible refine State.dite_toggles (fun _ => ?_) (fun _ => ?_) | with_reducible apply State.id_toggles | dsimp only
    | split

theorem State.eraseBanks_toggles {v_ : Nat} {s : State} (h_ : s.toggles = v_) : (State.eraseBanks s).toggles = v_ := by
  unfold State.eraseBanks
  repeat' first
    | with_reducible assumption | with_reducible refine (State.toggles_of (State.cmdEnd_kept rfl)).trans ?_
    | with_reducible refine (State.toggles_of (State.eraseBank_kept rfl)).trans ?_
    | with_reducible apply State.writeBank_toggles | with_reducible apply State.ite_toggles
    | with_reducible refine State.dite_toggles (fun _ => ?_) (fun _ => ?_) | with_reducible apply State.id_toggles | dsimp only
    | split

theorem execStoreSave_toggles {v_ : Nat} {t : Nat} {k : Kop} {s : State} (h_ : s.toggles = v_) :
    Lands (fun x => x.toggles = v_) (execStoreSave t k s) := by
  unfold execStoreSave
  repeat' first
    | with_reducible apply Lands.next | with_reducible apply Lands.ite | with_reducible assumption
    | with_reducible refine (State.toggles_of (State.begin_kkept rfl)).trans ?_
    | (with_reducible refine State.command_toggles (fun s w h => ?_) ?_)
    | with_reducible refine (State.toggles_of (State.refuse_kept rfl)).trans ?_ | with_reducible apply State.beginSave_toggles
    | with_reducible refine Lands.dite (fun _ => ?_) (fun _ => ?_) | with_reducible apply State.ite_toggles
    | with_reducible refine State.dite_toggles (fun _ => ?_) (fun _ => ?_) | with_reducible apply State.ite1_toggles
    | with_reducible apply State.ite2_toggles | with_reducible apply State.id_toggles | dsimp only | split

theorem execStoreSaveRestart_toggles {v_ : Nat} {t : Nat} {k : Kop} {s : State} (h_ : s.toggles = v_) :
    Lands (fun x => x.toggles = v_) (execStoreSaveRestart t k s) := by
  unfold execStoreSaveRestart
  repeat' first
    | with_reducible apply Lands.next | with_reducible apply Lands.ite | with_reducible assumption
    | with_reducible refine (State.toggles_of (State.begin_kkept rfl)).trans ?_
    | (with_reducible refine State.command_toggles (fun s w h => ?_) ?_)
    | with_reducible refine (State.toggles_of (State.refuse_kept rfl)).trans ?_ | with_reducible apply State.beginSave_toggles
    | with_reducible refine Lands.dite (fun _ => ?_) (fun _ => ?_) | with_reducible apply State.ite_toggles
    | with_reducible refine State.dite_toggles (fun _ => ?_) (fun _ => ?_) | with_reducible apply State.ite1_toggles
    | with_reducible apply State.ite2_toggles | with_reducible apply State.id_toggles | dsimp only | split

theorem execStoreErase_toggles {v_ : Nat} {t : Nat} {k : Kop} {s : State} (h_ : s.toggles = v_) :
    Lands (fun x => x.toggles = v_) (execStoreErase t k s) := by
  unfold execStoreErase
  repeat' first
    | with_reducible apply Lands.next | with_reducible apply Lands.ite | with_reducible assumption
    | with_reducible refine (State.toggles_of (State.begin_kkept rfl)).trans ?_
    | (with_reducible refine State.command_toggles (fun s w h => ?_) ?_)
    | with_reducible refine (State.toggles_of (State.refuse_kept rfl)).trans ?_ | with_reducible apply State.beginSave_toggles
    | with_reducible refine Lands.dite (fun _ => ?_) (fun _ => ?_) | with_reducible apply State.ite_toggles
    | with_reducible refine State.dite_toggles (fun _ => ?_) (fun _ => ?_) | with_reducible apply State.ite1_toggles
    | with_reducible apply State.ite2_toggles | with_reducible apply State.id_toggles | dsimp only | split

theorem execSaveComplete_toggles {v_ : Nat} {t : Nat} {ok : Bool} {s : State} (h_ : s.toggles = v_) :
    Lands (fun x => x.toggles = v_) (execSaveComplete t ok s) := by
  unfold execSaveComplete
  repeat' first
    | with_reducible apply Lands.next | with_reducible apply Lands.ite | with_reducible assumption
    | with_reducible refine (State.toggles_of (State.begin_kkept rfl)).trans ?_ | with_reducible apply State.writeBank_toggles
    | with_reducible refine (State.toggles_of (State.cmdEnd_kept rfl)).trans ?_
    | with_reducible refine (State.toggles_of (State.beginRestart_kept rfl)).trans ?_
    | with_reducible refine (State.toggles_of (State.event_kept rfl)).trans ?_
    | with_reducible refine Lands.dite (fun _ => ?_) (fun _ => ?_) | with_reducible apply State.ite_toggles
    | with_reducible refine State.dite_toggles (fun _ => ?_) (fun _ => ?_) | with_reducible apply State.ite1_toggles
    | with_reducible apply State.ite2_toggles | with_reducible apply State.id_toggles | dsimp only | split

theorem State.wipe_toggles {v_ : Nat} {s : State} {cause : Nat} {stuck : List Nat} (h_ : s.toggles = v_) : (State.wipe s cause stuck).toggles = v_ := by
  unfold State.wipe
  repeat' first
    | with_reducible assumption | with_reducible refine (State.toggles_of (State.drawSecret_kept rfl)).trans ?_
    | with_reducible refine (State.toggles_of (State.failLoads_kept rfl)).trans ?_
    | with_reducible refine (State.toggles_of (State.event_kept rfl)).trans ?_
    | with_reducible refine (State.toggles_of (State.endAll_kept rfl)).trans ?_ | with_reducible apply State.ite_toggles
    | with_reducible refine State.dite_toggles (fun _ => ?_) (fun _ => ?_)
    | with_reducible refine State.foldl_toggles (fun s x h => ?_) ?_ | with_reducible apply State.id_toggles | dsimp only
    | split

theorem State.tamperTrip_toggles {v_ : Nat} {s : State} {source : Fin 9} {stuck : List Nat} (h_ : s.toggles = v_) : (State.tamperTrip s source stuck).toggles = v_ := by
  unfold State.tamperTrip
  repeat' first
    | with_reducible assumption | with_reducible apply State.wipe_toggles | with_reducible apply State.ite_toggles
    | with_reducible refine State.dite_toggles (fun _ => ?_) (fun _ => ?_) | with_reducible apply State.id_toggles | dsimp only
    | split

theorem State.stillActive_toggles {v_ : Nat} {s : State} {mask : Nat} (h_ : s.toggles = v_) : (State.stillActive s mask).toggles = v_ := by
  unfold State.stillActive
  repeat' first
    | with_reducible assumption | with_reducible refine (State.toggles_of (State.drawSecret_kept rfl)).trans ?_
    | with_reducible apply State.ite_toggles | with_reducible refine State.dite_toggles (fun _ => ?_) (fun _ => ?_)
    | with_reducible apply State.id_toggles | dsimp only | split

theorem execTamperDetect_toggles {v_ : Nat} {t : Nat} {x : TamperReading} {stuck : List Nat} {s : State} (h_ : s.toggles = v_) :
    Lands (fun x => x.toggles = v_) (execTamperDetect t x stuck s) := by
  unfold execTamperDetect
  repeat' first
    | with_reducible apply Lands.next | with_reducible apply Lands.ite | with_reducible assumption
    | with_reducible refine (State.toggles_of (State.begin_kkept rfl)).trans ?_ | with_reducible apply State.tamperTrip_toggles
    | with_reducible apply State.stillActive_toggles | with_reducible refine Lands.dite (fun _ => ?_) (fun _ => ?_)
    | with_reducible apply State.ite_toggles | with_reducible refine State.dite_toggles (fun _ => ?_) (fun _ => ?_)
    | with_reducible apply State.ite1_toggles | with_reducible apply State.ite2_toggles | with_reducible apply State.id_toggles
    | dsimp only | split

theorem execTamperClear_toggles {v_ : Nat} {t : Nat} {k : Kop} {active : Nat} {s : State} (h_ : s.toggles = v_) :
    Lands (fun x => x.toggles = v_) (execTamperClear t k active s) := by
  unfold execTamperClear
  repeat' first
    | with_reducible apply Lands.next | with_reducible apply Lands.ite | with_reducible assumption
    | with_reducible refine (State.toggles_of (State.begin_kkept rfl)).trans ?_
    | (with_reducible refine State.command_toggles (fun s w h => ?_) ?_) | with_reducible apply State.stillActive_toggles
    | with_reducible refine Lands.dite (fun _ => ?_) (fun _ => ?_) | with_reducible apply State.ite_toggles
    | with_reducible refine State.dite_toggles (fun _ => ?_) (fun _ => ?_) | with_reducible apply State.ite1_toggles
    | with_reducible apply State.ite2_toggles | with_reducible apply State.id_toggles | dsimp only | split

theorem State.commitRecord_toggles {v_ : Nat} {s : State} (h_ : s.toggles = v_) : (State.commitRecord s).toggles = v_ := by
  unfold State.commitRecord
  repeat' first
    | with_reducible assumption | with_reducible refine (State.toggles_of (State.cmdEnd_kept rfl)).trans ?_
    | with_reducible refine (State.toggles_of (State.lostEvents_kept rfl)).trans ?_ | with_reducible apply State.ite_toggles
    | with_reducible refine State.dite_toggles (fun _ => ?_) (fun _ => ?_) | with_reducible apply State.id_toggles | dsimp only
    | split

theorem execRecordCommit_toggles {v_ : Nat} {t : Nat} {s : State} (h_ : s.toggles = v_) :
    Lands (fun x => x.toggles = v_) (execRecordCommit t s) := by
  unfold execRecordCommit
  repeat' first
    | with_reducible apply Lands.next | with_reducible apply Lands.ite | with_reducible assumption
    | with_reducible refine (State.toggles_of (State.begin_kkept rfl)).trans ?_
    | with_reducible apply State.commitRecord_toggles | with_reducible refine Lands.dite (fun _ => ?_) (fun _ => ?_)
    | with_reducible apply State.ite_toggles | with_reducible refine State.dite_toggles (fun _ => ?_) (fun _ => ?_)
    | with_reducible apply State.ite1_toggles | with_reducible apply State.ite2_toggles | with_reducible apply State.id_toggles
    | dsimp only | split

theorem execRecorderClear_toggles {v_ : Nat} {t : Nat} {k : Kop} {tok : ClearTok} {s : State} (h_ : s.toggles = v_) :
    Lands (fun x => x.toggles = v_) (execRecorderClear t k tok s) := by
  unfold execRecorderClear
  repeat' first
    | with_reducible apply Lands.next | with_reducible apply Lands.ite | with_reducible assumption
    | with_reducible refine (State.toggles_of (State.begin_kkept rfl)).trans ?_
    | (with_reducible refine State.command_toggles (fun s w h => ?_) ?_)
    | with_reducible refine (State.toggles_of (State.refuse_kept rfl)).trans ?_
    | with_reducible refine Lands.dite (fun _ => ?_) (fun _ => ?_) | with_reducible apply State.ite_toggles
    | with_reducible refine State.dite_toggles (fun _ => ?_) (fun _ => ?_) | with_reducible apply State.ite1_toggles
    | with_reducible apply State.ite2_toggles | with_reducible apply State.id_toggles | dsimp only | split

theorem State.resetKeeping_toggles {v_ : Nat} {s : State} {powerOn : Bool} (h_ : s.toggles = v_) : (State.resetKeeping s powerOn).toggles = v_ := by
  unfold State.resetKeeping
  repeat' first
    | with_reducible assumption | with_reducible apply State.ite_toggles
    | with_reducible refine State.dite_toggles (fun _ => ?_) (fun _ => ?_) | with_reducible apply State.id_toggles | dsimp only
    | split

theorem State.wipedBefore_toggles {v_ : Nat} {s : State} {armed : Nat} {source : Fin 9} {at_ : Nat} (h_ : s.toggles = v_) : (State.wipedBefore s armed source at_).toggles = v_ := by
  unfold State.wipedBefore
  repeat' first
    | with_reducible assumption | with_reducible refine (State.toggles_of (State.event_kept rfl)).trans ?_
    | with_reducible apply State.ite_toggles | with_reducible refine State.dite_toggles (fun _ => ?_) (fun _ => ?_)
    | with_reducible apply State.id_toggles | dsimp only | split

theorem State.backupCheck_toggles {v_ : Nat} {s : State} {p : PowerUp} {powerOn : Bool} {armed : Nat} (h_ : s.toggles = v_) : (State.backupCheck s p powerOn armed).toggles = v_ := by
  unfold State.backupCheck
  repeat' first
    | with_reducible assumption | with_reducible apply State.wipedBefore_toggles
    | with_reducible refine (State.toggles_of (State.event_kept rfl)).trans ?_ | with_reducible apply State.ite_toggles
    | with_reducible refine State.dite_toggles (fun _ => ?_) (fun _ => ?_)
    | with_reducible refine State.foldl_toggles (fun s x h => ?_) ?_ | with_reducible apply State.ite1_toggles
    | with_reducible apply State.ite2_toggles | with_reducible apply State.id_toggles | dsimp only | split

theorem State.powerDomains_toggles {v_ : Nat} {s : State} {p : PowerUp} (h_ : s.toggles = v_) : (State.powerDomains s p).toggles = v_ := by
  unfold State.powerDomains
  repeat' first
    | with_reducible assumption | with_reducible refine (State.toggles_of (State.testArrays_kept rfl)).trans ?_
    | with_reducible refine (State.toggles_of (State.drawSecret_kept rfl)).trans ?_ | with_reducible apply State.wipe_toggles
    | with_reducible apply State.ite_toggles | with_reducible refine State.dite_toggles (fun _ => ?_) (fun _ => ?_)
    | with_reducible apply State.id_toggles | dsimp only | split

theorem State.flushEvents_toggles {v_ : Nat} {n : Nat} {s : State} (h_ : s.toggles = v_) : (State.flushEvents n s).toggles = v_ := by
  induction n generalizing s with
  | zero => exact h_
  | succ n ih =>
    unfold State.flushEvents
    exact State.ite_toggles h_ (ih (State.commitRecord_toggles h_))

theorem State.commitAll_toggles {v_ : Nat} {s : State} (h_ : s.toggles = v_) : s.commitAll.toggles = v_ :=
  State.flushEvents_toggles (n := s.events.length + 3) h_

theorem execCoreSupplyExcursion_toggles {v_ : Nat} {t supply : Nat} {begins : Bool} {uv : Nat} {s : State} (h_ : s.toggles = v_) :
    Lands (fun x => x.toggles = v_) (execCoreSupplyExcursion t supply begins uv s) := by
  unfold execCoreSupplyExcursion
  repeat' first
    | with_reducible apply Lands.next | with_reducible apply Lands.ite | with_reducible assumption
    | with_reducible refine (State.toggles_of (State.begin_kkept rfl)).trans ?_ | with_reducible apply State.tamperTrip_toggles
    | with_reducible refine (State.toggles_of (State.faultEvent_kept rfl)).trans ?_
    | with_reducible refine Lands.dite (fun _ => ?_) (fun _ => ?_) | with_reducible apply State.ite_toggles
    | with_reducible refine State.dite_toggles (fun _ => ?_) (fun _ => ?_) | with_reducible apply State.ite1_toggles
    | with_reducible apply State.ite2_toggles | with_reducible apply State.id_toggles | dsimp only | split

theorem State.downRecords_toggles {v_ : Nat} {s : State} (h_ : s.toggles = v_) : s.downRecords.toggles = v_ :=
  State.commitAll_toggles h_

theorem execPowerDownProgress_toggles {v_ : Nat} {t : Nat} {s : State} (h_ : s.toggles = v_) :
    Lands (fun x => x.toggles = v_) (execPowerDownProgress t s) := by
  unfold execPowerDownProgress
  repeat' first
    | with_reducible apply Lands.next | with_reducible apply Lands.ite | with_reducible assumption
    | with_reducible refine (State.toggles_of (State.begin_kkept rfl)).trans ?_
    | with_reducible refine (State.toggles_of (State.downHeads_kept rfl)).trans ?_
    | with_reducible refine (State.toggles_of (State.nextStep_kept rfl)).trans ?_
    | with_reducible refine (State.toggles_of (State.downChains_kept rfl)).trans ?_
    | with_reducible refine (State.toggles_of (State.downAxes_kept rfl)).trans ?_
    | with_reducible apply State.downRecords_toggles
    | with_reducible refine (State.toggles_of (State.downDomains_kept rfl)).trans ?_
    | with_reducible refine Lands.dite (fun _ => ?_) (fun _ => ?_) | with_reducible apply State.ite_toggles
    | with_reducible refine State.dite_toggles (fun _ => ?_) (fun _ => ?_) | with_reducible apply State.ite1_toggles
    | with_reducible apply State.ite2_toggles | with_reducible apply State.id_toggles | dsimp only | split


/-! ### The field `fuses` -/

theorem State.ite_fuses {c : Prop} [Decidable c] {v_ : Nat} {x y : State} (hx : x.fuses = v_) (hy : y.fuses = v_) :
    (if c then x else y).fuses = v_ := by split <;> assumption
theorem State.dite_fuses {c : Prop} [Decidable c] {v_ : Nat} {x : c → State} {y : ¬ c → State} (hx : ∀ h, (x h).fuses = v_) (hy : ∀ h, (y h).fuses = v_) :
    (if h : c then x h else y h).fuses = v_ := by split <;> simp only [*]
theorem State.id_fuses {v_ : Nat} {x : State} (hx : x.fuses = v_) : (id x).fuses = v_ := hx
theorem State.ite1_fuses {β : Type} {c : Prop} [Decidable c] {v_ : Nat} {x y : State × β} (hx : x.1.fuses = v_) (hy : y.1.fuses = v_) :
    (if c then x else y).1.fuses = v_ := by split <;> assumption
theorem State.ite2_fuses {β : Type} {c : Prop} [Decidable c] {v_ : Nat} {x y : β × State} (hx : x.2.fuses = v_) (hy : y.2.fuses = v_) :
    (if c then x else y).2.fuses = v_ := by split <;> assumption
theorem State.foldl_fuses {α : Type} {v_ : Nat} {g : State → α → State} {l : List α} {s : State}
    (h : ∀ s x, s.fuses = v_ → (g s x).fuses = v_) (hs : s.fuses = v_) : (l.foldl g s).fuses = v_ := by
  induction l generalizing s with
  | nil => exact hs
  | cons x l ih => exact ih (h s x hs)

theorem State.respond_fuses {v_ : Nat} {s : State} {i : Fin 32} {r : Resp} (h_ : s.fuses = v_) : (s.respond i r).fuses = v_ :=
  (State.fuses_of (State.respond_kept rfl)).trans h_
theorem State.arrive_to_fuses {v_ : Nat} {s : State} {c : Instr} {k : Kop} {r_ : Option (Fin 32) × State} (e_ : s.arrive c k = r_) (h_ : s.fuses = v_) :
    r_.2.fuses = v_ := (State.fuses_of (State.arrive_to_kept e_ rfl)).trans h_
theorem State.await_fuses {v_ : Nat} {s : State} {c : Instr} {k : Kop} {i : Fin 32} {ds : List (Fin 11)} (h_ : s.fuses = v_) : (s.await c k i ds).fuses = v_ :=
  (State.fuses_of (State.await_kept rfl)).trans h_

theorem State.datagram_fuses {v_ : Nat} {s : State} {d : Dgram} (h_ : s.fuses = v_) : (s.datagram d).2.fuses = v_ :=
  (State.fuses_of (State.datagram_kept rfl)).trans h_
theorem State.datagram_to_fuses {v_ : Nat} {s : State} {d : Dgram} {r_ : Option (Fin 32) × State} (e_ : s.datagram d = r_) (h_ : s.fuses = v_) :
    r_.2.fuses = v_ := (State.fuses_of (State.datagram_to_kept e_ rfl)).trans h_
theorem State.updSess_kfuses {v_ : Nat} {s : State} {i : Fin 32} {f : Session → Session} (h_ : s.fuses = v_) : (s.updSess i f).fuses = v_ := h_

theorem State.command_fuses {v_ : Nat} {s : State} {c : Instr} {k : Kop} {i sub v : Nat} {act : State → Who → State × CmdRes}
    (hact : ∀ s w, s.fuses = v_ → (act s w).1.fuses = v_) (h_ : s.fuses = v_) : (s.command c k i sub v act).fuses = v_ := by
  unfold State.command
  split
  · exact State.arrive_to_fuses (by assumption) h_
  · have := State.arrive_to_fuses (by assumption) h_
    refine State.ite_fuses this (State.ite_fuses (State.respond_fuses this) (State.ite_fuses (State.await_fuses this) ?_))
    split
    rename_i s' res e
    have h' : s'.fuses = v_ := (congrArg (fun r => State.fuses r.1) e).symm.trans (hact _ _ this)
    split <;> exact State.respond_fuses h'

theorem State.takeSeq_fuses {v_ : Nat} {s : State} {i : Fin 32} {c : SeqClass} {stale : State → State} (hst : ∀ s, s.fuses = v_ → (stale s).fuses = v_) (h_ : s.fuses = v_) :
    (s.takeSeq i c stale).2.fuses = v_ := by
  cases c with
  | accept n => exact h_
  | duplicate => exact State.updSess_kfuses h_
  | stale => exact hst _ (State.updSess_kfuses h_)

theorem State.sequenced_fuses {v_ : Nat} {s : State} {kind : Nat} {m : Ktp} {stale : State → State} (hst : ∀ s, s.fuses = v_ → (stale s).fuses = v_) (h_ : s.fuses = v_) :
    (s.sequenced kind m stale).2.fuses = v_ := by
  unfold State.sequenced
  split
  · exact State.datagram_to_fuses (by assumption) h_
  · refine State.takeSeq_fuses hst ?_
    exact State.datagram_to_fuses (by assumption) h_
theorem State.sequenced_to_fuses {v_ : Nat} {s : State} {kind : Nat} {m : Ktp} {stale : State → State} {r_ : Option (Fin 32 × Nat) × State}
    (e_ : s.sequenced kind m stale = r_) (hst : ∀ s, s.fuses = v_ → (stale s).fuses = v_) (h_ : s.fuses = v_) : r_.2.fuses = v_ := by
  rw [← e_]; exact State.sequenced_fuses hst h_

theorem State.chanWrite_fuses {v_ : Nat} {s : State} {ch a : Nat} {bs : List Nat} (h_ : s.fuses = v_) : (State.chanWrite s ch a bs).fuses = v_ := by
  unfold State.chanWrite
  repeat' first
    | with_reducible assumption | with_reducible apply State.ite_fuses
    | with_reducible refine State.dite_fuses (fun _ => ?_) (fun _ => ?_) | with_reducible apply State.id_fuses | dsimp only
    | split

theorem State.parityAt_fuses {v_ : Nat} {s : State} {ch a : Nat} (h_ : s.fuses = v_) : (State.parityAt s ch a).fuses = v_ := by
  unfold State.parityAt
  repeat' first
    | with_reducible assumption | with_reducible apply State.chanWrite_fuses | with_reducible apply State.ite_fuses
    | with_reducible refine State.dite_fuses (fun _ => ?_) (fun _ => ?_) | with_reducible apply State.id_fuses | dsimp only
    | split

theorem State.flip_fuses {v_ : Nat} {s : State} {f : BitFlip} (h_ : s.fuses = v_) : (State.flip s f).fuses = v_ := by
  unfold State.flip
  repeat' first
    | with_reducible assumption | with_reducible apply State.chanWrite_fuses | with_reducible apply State.ite_fuses
    | with_reducible refine State.dite_fuses (fun _ => ?_) (fun _ => ?_) | with_reducible apply State.ite1_fuses
    | with_reducible apply State.ite2_fuses | with_reducible apply State.id_fuses | dsimp only | split

theorem State.writeTemplate_fuses {v_ : Nat} {s : State} {a : Asset} {off : Nat} {bs : Bytes} (h_ : s.fuses = v_) : (State.writeTemplate s a off bs).fuses = v_ := by
  unfold State.writeTemplate
  repeat' first
    | with_reducible assumption | with_reducible apply State.chanWrite_fuses | with_reducible apply State.parityAt_fuses
    | with_reducible apply State.ite_fuses | with_reducible refine State.dite_fuses (fun _ => ?_) (fun _ => ?_)
    | with_reducible refine State.foldl_fuses (fun s x h => ?_) ?_ | with_reducible apply State.ite1_fuses
    | with_reducible apply State.ite2_fuses | with_reducible apply State.id_fuses | dsimp only | split

theorem State.writeTile_fuses {v_ : Nat} {s : State} {a : Asset} {off : Nat} {bs : Bytes} (h_ : s.fuses = v_) : (State.writeTile s a off bs).fuses = v_ := by
  unfold State.writeTile
  repeat' first
    | with_reducible assumption | with_reducible apply State.chanWrite_fuses | with_reducible apply State.ite_fuses
    | with_reducible refine State.dite_fuses (fun _ => ?_) (fun _ => ?_) | with_reducible apply State.id_fuses | dsimp only
    | split

theorem State.loadPiece_fuses {v_ : Nat} {s : State} {tile : Bool} {a : Asset} {off : Nat} {bs : Bytes} (h_ : s.fuses = v_) : (State.loadPiece s tile a off bs).fuses = v_ := by
  unfold State.loadPiece
  repeat' first
    | with_reducible assumption | with_reducible refine (State.fuses_of (State.failLoad_kept rfl)).trans ?_
    | with_reducible apply State.writeTile_fuses | with_reducible apply State.writeTemplate_fuses
    | with_reducible refine (State.fuses_of (State.hostWrite_kept rfl)).trans ?_
    | with_reducible refine (State.fuses_of (State.updAsset_kept rfl)).trans ?_ | with_reducible apply State.ite_fuses
    | with_reducible refine State.dite_fuses (fun _ => ?_) (fun _ => ?_) | with_reducible apply State.ite1_fuses
    | with_reducible apply State.ite2_fuses | with_reducible apply State.id_fuses | dsimp only | split

theorem execLoadData_fuses {v_ : Nat} {t : Nat} {m : Ktp} {loadId offset : Nat} {data : Bytes} {s : State} (h_ : s.fuses = v_) :
    Lands (fun x => x.fuses = v_) (execLoadData t m loadId offset data s) := by
  unfold execLoadData
  repeat' first
    | with_reducible apply Lands.next | with_reducible apply Lands.ite | with_reducible assumption
    | with_reducible refine (State.fuses_of (State.begin_kkept rfl)).trans ?_
    | (refine State.sequenced_to_fuses (by with_reducible assumption) (fun s h => ?_) ?_)
    | with_reducible refine (State.fuses_of (State.staleNowhere_kept rfl)).trans ?_
    | with_reducible refine (State.fuses_of (State.markRx_kept rfl)).trans ?_ | with_reducible apply State.loadPiece_fuses
    | with_reducible refine Lands.dite (fun _ => ?_) (fun _ => ?_) | with_reducible apply State.ite_fuses
    | with_reducible refine State.dite_fuses (fun _ => ?_) (fun _ => ?_) | with_reducible apply State.ite1_fuses
    | with_reducible apply State.ite2_fuses | with_reducible apply State.id_fuses | dsimp only | split

theorem execTileVerify_fuses {v_ : Nat} {t : Nat} {idx : Nat} {s : State} (h_ : s.fuses = v_) :
    Lands (fun x => x.fuses = v_) (execTileVerify t idx s) := by
  unfold execTileVerify
  repeat' first
    | with_reducible apply Lands.next | with_reducible apply Lands.ite | with_reducible assumption
    | with_reducible refine (State.fuses_of (State.begin_kkept rfl)).trans ?_
    | with_reducible refine (State.fuses_of (State.failLoad_kept rfl)).trans ?_ | with_reducible apply State.chanWrite_fuses
    | with_reducible refine (State.fuses_of (State.closeLoad_kept rfl)).trans ?_
    | with_reducible refine (State.fuses_of (State.updAsset_kept rfl)).trans ?_
    | with_reducible refine Lands.dite (fun _ => ?_) (fun _ => ?_) | with_reducible apply State.ite_fuses
    | with_reducible refine State.dite_fuses (fun _ => ?_) (fun _ => ?_) | with_reducible apply State.ite1_fuses
    | with_reducible apply State.ite2_fuses | with_reducible apply State.id_fuses | dsimp only | split

theorem execRowLineCompose_fuses {v_ : Nat} {t : Nat} {flips : List BitFlip} {s : State} (h_ : s.fuses = v_) :
    Lands (fun x => x.fuses = v_) (execRowLineCompose t flips s) := by
  unfold execRowLineCompose
  repeat' first
    | with_reducible apply Lands.next | with_reducible apply Lands.ite | with_reducible assumption
    | with_reducible apply State.flip_fuses | with_reducible refine (State.fuses_of (State.begin_kkept rfl)).trans ?_
    | with_reducible refine (State.fuses_of (State.composeRow_kept rfl)).trans ?_
    | with_reducible refine Lands.dite (fun _ => ?_) (fun _ => ?_) | with_reducible apply State.ite_fuses
    | with_reducible refine State.dite_fuses (fun _ => ?_) (fun _ => ?_)
    | with_reducible refine State.foldl_fuses (fun s x h => ?_) ?_ | with_reducible apply State.ite1_fuses
    | with_reducible apply State.ite2_fuses | with_reducible apply State.id_fuses | dsimp only | split

theorem State.beginSave_fuses {v_ : Nat} {s : State} {entries : List (Nat × Nat)} {restart : Bool} (h_ : s.fuses = v_) : (State.beginSave s entries restart).fuses = v_ := by
  unfold State.beginSave
  repeat' first
    | with_reducible assumption | with_reducible apply State.ite_fuses
    | with_reducible refine State.dite_fuses (fun _ => ?_) (fun _ => ?_) | with_reducible apply State.id_fuses | dsimp only
    | split

theorem State.writeBank_fuses {v_ : Nat} {s : State} {b : Fin 2} {count : Nat} {entries : List (Nat × Nat)} (h_ : s.fuses = v_) : (State.writeBank s b count entries).fuses = v_ := by
  unfold State.writeBank
  repeat' first
    | with_reducible assumption | with_reducible apply State.ite_fuses
    | with_reducible refine State.dite_fuses (fun _ => ?_) (fun _ => ?_) | with_reducible apply State.id_fuses | dsimp only
    | split

theorem State.eraseBanks_fuses {v_ : Nat} {s : State} (h_ : s.fuses = v_) : (State.eraseBanks s).fuses = v_ := by
  unfold State.eraseBanks
  repeat' first
    | with_reducible assumption | with_reducible refine (State.fuses_of (State.cmdEnd_kept rfl)).trans ?_
    | with_reducible refine (State.fuses_of (State.eraseBank_kept rfl)).trans ?_ | with_reducible apply State.writeBank_fuses
    | with_reducible apply State.ite_fuses | with_reducible refine State.dite_fuses (fun _ => ?_) (fun _ => ?_)
    | with_reducible apply State.id_fuses | dsimp only | split

theorem execStoreSave_fuses {v_ : Nat} {t : Nat} {k : Kop} {s : State} (h_ : s.fuses = v_) :
    Lands (fun x => x.fuses = v_) (execStoreSave t k s) := by
  unfold execStoreSave
  repeat' first
    | with_reducible apply Lands.next | with_reducible apply Lands.ite | with_reducible assumption
    | with_reducible refine (State.fuses_of (State.begin_kkept rfl)).trans ?_
    | (with_reducible refine State.command_fuses (fun s w h => ?_) ?_)
    | with_reducible refine (State.fuses_of (State.refuse_kept rfl)).trans ?_ | with_reducible apply State.beginSave_fuses
    | with_reducible refine Lands.dite (fun _ => ?_) (fun _ => ?_) | with_reducible apply State.ite_fuses
    | with_reducible refine State.dite_fuses (fun _ => ?_) (fun _ => ?_) | with_reducible apply State.ite1_fuses
    | with_reducible apply State.ite2_fuses | with_reducible apply State.id_fuses | dsimp only | split

theorem execStoreSaveRestart_fuses {v_ : Nat} {t : Nat} {k : Kop} {s : State} (h_ : s.fuses = v_) :
    Lands (fun x => x.fuses = v_) (execStoreSaveRestart t k s) := by
  unfold execStoreSaveRestart
  repeat' first
    | with_reducible apply Lands.next | with_reducible apply Lands.ite | with_reducible assumption
    | with_reducible refine (State.fuses_of (State.begin_kkept rfl)).trans ?_
    | (with_reducible refine State.command_fuses (fun s w h => ?_) ?_)
    | with_reducible refine (State.fuses_of (State.refuse_kept rfl)).trans ?_ | with_reducible apply State.beginSave_fuses
    | with_reducible refine Lands.dite (fun _ => ?_) (fun _ => ?_) | with_reducible apply State.ite_fuses
    | with_reducible refine State.dite_fuses (fun _ => ?_) (fun _ => ?_) | with_reducible apply State.ite1_fuses
    | with_reducible apply State.ite2_fuses | with_reducible apply State.id_fuses | dsimp only | split

theorem execStoreErase_fuses {v_ : Nat} {t : Nat} {k : Kop} {s : State} (h_ : s.fuses = v_) :
    Lands (fun x => x.fuses = v_) (execStoreErase t k s) := by
  unfold execStoreErase
  repeat' first
    | with_reducible apply Lands.next | with_reducible apply Lands.ite | with_reducible assumption
    | with_reducible refine (State.fuses_of (State.begin_kkept rfl)).trans ?_
    | (with_reducible refine State.command_fuses (fun s w h => ?_) ?_)
    | with_reducible refine (State.fuses_of (State.refuse_kept rfl)).trans ?_ | with_reducible apply State.beginSave_fuses
    | with_reducible refine Lands.dite (fun _ => ?_) (fun _ => ?_) | with_reducible apply State.ite_fuses
    | with_reducible refine State.dite_fuses (fun _ => ?_) (fun _ => ?_) | with_reducible apply State.ite1_fuses
    | with_reducible apply State.ite2_fuses | with_reducible apply State.id_fuses | dsimp only | split

theorem execSaveComplete_fuses {v_ : Nat} {t : Nat} {ok : Bool} {s : State} (h_ : s.fuses = v_) :
    Lands (fun x => x.fuses = v_) (execSaveComplete t ok s) := by
  unfold execSaveComplete
  repeat' first
    | with_reducible apply Lands.next | with_reducible apply Lands.ite | with_reducible assumption
    | with_reducible refine (State.fuses_of (State.begin_kkept rfl)).trans ?_ | with_reducible apply State.writeBank_fuses
    | with_reducible refine (State.fuses_of (State.cmdEnd_kept rfl)).trans ?_
    | with_reducible refine (State.fuses_of (State.beginRestart_kept rfl)).trans ?_
    | with_reducible refine (State.fuses_of (State.event_kept rfl)).trans ?_
    | with_reducible refine Lands.dite (fun _ => ?_) (fun _ => ?_) | with_reducible apply State.ite_fuses
    | with_reducible refine State.dite_fuses (fun _ => ?_) (fun _ => ?_) | with_reducible apply State.ite1_fuses
    | with_reducible apply State.ite2_fuses | with_reducible apply State.id_fuses | dsimp only | split

theorem State.wipe_fuses {v_ : Nat} {s : State} {cause : Nat} {stuck : List Nat} (h_ : s.fuses = v_) : (State.wipe s cause stuck).fuses = v_ := by
  unfold State.wipe
  repeat' first
    | with_reducible assumption | with_reducible refine (State.fuses_of (State.drawSecret_kept rfl)).trans ?_
    | with_reducible refine (State.fuses_of (State.failLoads_kept rfl)).trans ?_
    | with_reducible refine (State.fuses_of (State.event_kept rfl)).trans ?_
    | with_reducible refine (State.fuses_of (State.endAll_kept rfl)).trans ?_ | with_reducible apply State.ite_fuses
    | with_reducible refine State.dite_fuses (fun _ => ?_) (fun _ => ?_)
    | with_reducible refine State.foldl_fuses (fun s x h => ?_) ?_ | with_reducible apply State.id_fuses | dsimp only | split

theorem State.tamperTrip_fuses {v_ : Nat} {s : State} {source : Fin 9} {stuck : List Nat} (h_ : s.fuses = v_) : (State.tamperTrip s source stuck).fuses = v_ := by
  unfold State.tamperTrip
  repeat' first
    | with_reducible assumption | with_reducible apply State.wipe_fuses | with_reducible apply State.ite_fuses
    | with_reducible refine State.dite_fuses (fun _ => ?_) (fun _ => ?_) | with_reducible apply State.id_fuses | dsimp only
    | split

theorem State.stillActive_fuses {v_ : Nat} {s : State} {mask : Nat} (h_ : s.fuses = v_) : (State.stillActive s mask).fuses = v_ := by
  unfold State.stillActive
  repeat' first
    | with_reducible assumption | with_reducible refine (State.fuses_of (State.drawSecret_kept rfl)).trans ?_
    | with_reducible apply State.ite_fuses | with_reducible refine State.dite_fuses (fun _ => ?_) (fun _ => ?_)
    | with_reducible apply State.id_fuses | dsimp only | split

theorem execTamperDetect_fuses {v_ : Nat} {t : Nat} {x : TamperReading} {stuck : List Nat} {s : State} (h_ : s.fuses = v_) :
    Lands (fun x => x.fuses = v_) (execTamperDetect t x stuck s) := by
  unfold execTamperDetect
  repeat' first
    | with_reducible apply Lands.next | with_reducible apply Lands.ite | with_reducible assumption
    | with_reducible refine (State.fuses_of (State.begin_kkept rfl)).trans ?_ | with_reducible apply State.tamperTrip_fuses
    | with_reducible apply State.stillActive_fuses | with_reducible refine Lands.dite (fun _ => ?_) (fun _ => ?_)
    | with_reducible apply State.ite_fuses | with_reducible refine State.dite_fuses (fun _ => ?_) (fun _ => ?_)
    | with_reducible apply State.ite1_fuses | with_reducible apply State.ite2_fuses | with_reducible apply State.id_fuses
    | dsimp only | split

theorem execTamperClear_fuses {v_ : Nat} {t : Nat} {k : Kop} {active : Nat} {s : State} (h_ : s.fuses = v_) :
    Lands (fun x => x.fuses = v_) (execTamperClear t k active s) := by
  unfold execTamperClear
  repeat' first
    | with_reducible apply Lands.next | with_reducible apply Lands.ite | with_reducible assumption
    | with_reducible refine (State.fuses_of (State.begin_kkept rfl)).trans ?_
    | (with_reducible refine State.command_fuses (fun s w h => ?_) ?_) | with_reducible apply State.stillActive_fuses
    | with_reducible refine Lands.dite (fun _ => ?_) (fun _ => ?_) | with_reducible apply State.ite_fuses
    | with_reducible refine State.dite_fuses (fun _ => ?_) (fun _ => ?_) | with_reducible apply State.ite1_fuses
    | with_reducible apply State.ite2_fuses | with_reducible apply State.id_fuses | dsimp only | split

theorem State.commitRecord_fuses {v_ : Nat} {s : State} (h_ : s.fuses = v_) : (State.commitRecord s).fuses = v_ := by
  unfold State.commitRecord
  repeat' first
    | with_reducible assumption | with_reducible refine (State.fuses_of (State.cmdEnd_kept rfl)).trans ?_
    | with_reducible refine (State.fuses_of (State.lostEvents_kept rfl)).trans ?_ | with_reducible apply State.ite_fuses
    | with_reducible refine State.dite_fuses (fun _ => ?_) (fun _ => ?_) | with_reducible apply State.id_fuses | dsimp only
    | split

theorem execRecordCommit_fuses {v_ : Nat} {t : Nat} {s : State} (h_ : s.fuses = v_) :
    Lands (fun x => x.fuses = v_) (execRecordCommit t s) := by
  unfold execRecordCommit
  repeat' first
    | with_reducible apply Lands.next | with_reducible apply Lands.ite | with_reducible assumption
    | with_reducible refine (State.fuses_of (State.begin_kkept rfl)).trans ?_ | with_reducible apply State.commitRecord_fuses
    | with_reducible refine Lands.dite (fun _ => ?_) (fun _ => ?_) | with_reducible apply State.ite_fuses
    | with_reducible refine State.dite_fuses (fun _ => ?_) (fun _ => ?_) | with_reducible apply State.ite1_fuses
    | with_reducible apply State.ite2_fuses | with_reducible apply State.id_fuses | dsimp only | split

theorem execRecorderClear_fuses {v_ : Nat} {t : Nat} {k : Kop} {tok : ClearTok} {s : State} (h_ : s.fuses = v_) :
    Lands (fun x => x.fuses = v_) (execRecorderClear t k tok s) := by
  unfold execRecorderClear
  repeat' first
    | with_reducible apply Lands.next | with_reducible apply Lands.ite | with_reducible assumption
    | with_reducible refine (State.fuses_of (State.begin_kkept rfl)).trans ?_
    | (with_reducible refine State.command_fuses (fun s w h => ?_) ?_)
    | with_reducible refine (State.fuses_of (State.refuse_kept rfl)).trans ?_
    | with_reducible refine Lands.dite (fun _ => ?_) (fun _ => ?_) | with_reducible apply State.ite_fuses
    | with_reducible refine State.dite_fuses (fun _ => ?_) (fun _ => ?_) | with_reducible apply State.ite1_fuses
    | with_reducible apply State.ite2_fuses | with_reducible apply State.id_fuses | dsimp only | split

theorem State.resetKeeping_fuses {v_ : Nat} {s : State} {powerOn : Bool} (h_ : s.fuses = v_) : (State.resetKeeping s powerOn).fuses = v_ := by
  unfold State.resetKeeping
  repeat' first
    | with_reducible assumption | with_reducible apply State.ite_fuses
    | with_reducible refine State.dite_fuses (fun _ => ?_) (fun _ => ?_) | with_reducible apply State.id_fuses | dsimp only
    | split

theorem State.wipedBefore_fuses {v_ : Nat} {s : State} {armed : Nat} {source : Fin 9} {at_ : Nat} (h_ : s.fuses = v_) : (State.wipedBefore s armed source at_).fuses = v_ := by
  unfold State.wipedBefore
  repeat' first
    | with_reducible assumption | with_reducible refine (State.fuses_of (State.event_kept rfl)).trans ?_
    | with_reducible apply State.ite_fuses | with_reducible refine State.dite_fuses (fun _ => ?_) (fun _ => ?_)
    | with_reducible apply State.id_fuses | dsimp only | split

theorem State.backupCheck_fuses {v_ : Nat} {s : State} {p : PowerUp} {powerOn : Bool} {armed : Nat} (h_ : s.fuses = v_) : (State.backupCheck s p powerOn armed).fuses = v_ := by
  unfold State.backupCheck
  repeat' first
    | with_reducible assumption | with_reducible apply State.wipedBefore_fuses
    | with_reducible refine (State.fuses_of (State.event_kept rfl)).trans ?_ | with_reducible apply State.ite_fuses
    | with_reducible refine State.dite_fuses (fun _ => ?_) (fun _ => ?_)
    | with_reducible refine State.foldl_fuses (fun s x h => ?_) ?_ | with_reducible apply State.ite1_fuses
    | with_reducible apply State.ite2_fuses | with_reducible apply State.id_fuses | dsimp only | split

theorem State.powerDomains_fuses {v_ : Nat} {s : State} {p : PowerUp} (h_ : s.fuses = v_) : (State.powerDomains s p).fuses = v_ := by
  unfold State.powerDomains
  repeat' first
    | with_reducible assumption | with_reducible refine (State.fuses_of (State.testArrays_kept rfl)).trans ?_
    | with_reducible refine (State.fuses_of (State.drawSecret_kept rfl)).trans ?_ | with_reducible apply State.wipe_fuses
    | with_reducible apply State.ite_fuses | with_reducible refine State.dite_fuses (fun _ => ?_) (fun _ => ?_)
    | with_reducible apply State.id_fuses | dsimp only | split

theorem State.flushEvents_fuses {v_ : Nat} {n : Nat} {s : State} (h_ : s.fuses = v_) : (State.flushEvents n s).fuses = v_ := by
  induction n generalizing s with
  | zero => exact h_
  | succ n ih =>
    unfold State.flushEvents
    exact State.ite_fuses h_ (ih (State.commitRecord_fuses h_))

theorem State.commitAll_fuses {v_ : Nat} {s : State} (h_ : s.fuses = v_) : s.commitAll.fuses = v_ :=
  State.flushEvents_fuses (n := s.events.length + 3) h_

theorem execCoreSupplyExcursion_fuses {v_ : Nat} {t supply : Nat} {begins : Bool} {uv : Nat} {s : State} (h_ : s.fuses = v_) :
    Lands (fun x => x.fuses = v_) (execCoreSupplyExcursion t supply begins uv s) := by
  unfold execCoreSupplyExcursion
  repeat' first
    | with_reducible apply Lands.next | with_reducible apply Lands.ite | with_reducible assumption
    | with_reducible refine (State.fuses_of (State.begin_kkept rfl)).trans ?_ | with_reducible apply State.tamperTrip_fuses
    | with_reducible refine (State.fuses_of (State.faultEvent_kept rfl)).trans ?_
    | with_reducible refine Lands.dite (fun _ => ?_) (fun _ => ?_) | with_reducible apply State.ite_fuses
    | with_reducible refine State.dite_fuses (fun _ => ?_) (fun _ => ?_) | with_reducible apply State.ite1_fuses
    | with_reducible apply State.ite2_fuses | with_reducible apply State.id_fuses | dsimp only | split

theorem State.downRecords_fuses {v_ : Nat} {s : State} (h_ : s.fuses = v_) : s.downRecords.fuses = v_ :=
  State.commitAll_fuses h_

theorem execPowerDownProgress_fuses {v_ : Nat} {t : Nat} {s : State} (h_ : s.fuses = v_) :
    Lands (fun x => x.fuses = v_) (execPowerDownProgress t s) := by
  unfold execPowerDownProgress
  repeat' first
    | with_reducible apply Lands.next | with_reducible apply Lands.ite | with_reducible assumption
    | with_reducible refine (State.fuses_of (State.begin_kkept rfl)).trans ?_
    | with_reducible refine (State.fuses_of (State.downHeads_kept rfl)).trans ?_
    | with_reducible refine (State.fuses_of (State.nextStep_kept rfl)).trans ?_
    | with_reducible refine (State.fuses_of (State.downChains_kept rfl)).trans ?_
    | with_reducible refine (State.fuses_of (State.downAxes_kept rfl)).trans ?_ | with_reducible apply State.downRecords_fuses
    | with_reducible refine (State.fuses_of (State.downDomains_kept rfl)).trans ?_
    | with_reducible refine Lands.dite (fun _ => ?_) (fun _ => ?_) | with_reducible apply State.ite_fuses
    | with_reducible refine State.dite_fuses (fun _ => ?_) (fun _ => ?_) | with_reducible apply State.ite1_fuses
    | with_reducible apply State.ite2_fuses | with_reducible apply State.id_fuses | dsimp only | split


/-! ### The field `lcPending` -/

theorem State.ite_lcPending {c : Prop} [Decidable c] {v_ : Option LcRun} {x y : State} (hx : x.lcPending = v_) (hy : y.lcPending = v_) :
    (if c then x else y).lcPending = v_ := by split <;> assumption
theorem State.dite_lcPending {c : Prop} [Decidable c] {v_ : Option LcRun} {x : c → State} {y : ¬ c → State} (hx : ∀ h, (x h).lcPending = v_) (hy : ∀ h, (y h).lcPending = v_) :
    (if h : c then x h else y h).lcPending = v_ := by split <;> simp only [*]
theorem State.id_lcPending {v_ : Option LcRun} {x : State} (hx : x.lcPending = v_) : (id x).lcPending = v_ := hx
theorem State.ite1_lcPending {β : Type} {c : Prop} [Decidable c] {v_ : Option LcRun} {x y : State × β} (hx : x.1.lcPending = v_) (hy : y.1.lcPending = v_) :
    (if c then x else y).1.lcPending = v_ := by split <;> assumption
theorem State.ite2_lcPending {β : Type} {c : Prop} [Decidable c] {v_ : Option LcRun} {x y : β × State} (hx : x.2.lcPending = v_) (hy : y.2.lcPending = v_) :
    (if c then x else y).2.lcPending = v_ := by split <;> assumption
theorem State.foldl_lcPending {α : Type} {v_ : Option LcRun} {g : State → α → State} {l : List α} {s : State}
    (h : ∀ s x, s.lcPending = v_ → (g s x).lcPending = v_) (hs : s.lcPending = v_) : (l.foldl g s).lcPending = v_ := by
  induction l generalizing s with
  | nil => exact hs
  | cons x l ih => exact ih (h s x hs)

theorem State.respond_lcPending {v_ : Option LcRun} {s : State} {i : Fin 32} {r : Resp} (h_ : s.lcPending = v_) : (s.respond i r).lcPending = v_ :=
  (State.lcPending_of (State.respond_kept rfl)).trans h_
theorem State.arrive_to_lcPending {v_ : Option LcRun} {s : State} {c : Instr} {k : Kop} {r_ : Option (Fin 32) × State} (e_ : s.arrive c k = r_) (h_ : s.lcPending = v_) :
    r_.2.lcPending = v_ := (State.lcPending_of (State.arrive_to_kept e_ rfl)).trans h_
theorem State.await_lcPending {v_ : Option LcRun} {s : State} {c : Instr} {k : Kop} {i : Fin 32} {ds : List (Fin 11)} (h_ : s.lcPending = v_) : (s.await c k i ds).lcPending = v_ :=
  (State.lcPending_of (State.await_kept rfl)).trans h_

theorem State.datagram_lcPending {v_ : Option LcRun} {s : State} {d : Dgram} (h_ : s.lcPending = v_) : (s.datagram d).2.lcPending = v_ :=
  (State.lcPending_of (State.datagram_kept rfl)).trans h_
theorem State.datagram_to_lcPending {v_ : Option LcRun} {s : State} {d : Dgram} {r_ : Option (Fin 32) × State} (e_ : s.datagram d = r_) (h_ : s.lcPending = v_) :
    r_.2.lcPending = v_ := (State.lcPending_of (State.datagram_to_kept e_ rfl)).trans h_
theorem State.updSess_klcPending {v_ : Option LcRun} {s : State} {i : Fin 32} {f : Session → Session} (h_ : s.lcPending = v_) : (s.updSess i f).lcPending = v_ := h_

theorem State.command_lcPending {v_ : Option LcRun} {s : State} {c : Instr} {k : Kop} {i sub v : Nat} {act : State → Who → State × CmdRes}
    (hact : ∀ s w, s.lcPending = v_ → (act s w).1.lcPending = v_) (h_ : s.lcPending = v_) : (s.command c k i sub v act).lcPending = v_ := by
  unfold State.command
  split
  · exact State.arrive_to_lcPending (by assumption) h_
  · have := State.arrive_to_lcPending (by assumption) h_
    refine State.ite_lcPending this (State.ite_lcPending (State.respond_lcPending this) (State.ite_lcPending (State.await_lcPending this) ?_))
    split
    rename_i s' res e
    have h' : s'.lcPending = v_ := (congrArg (fun r => State.lcPending r.1) e).symm.trans (hact _ _ this)
    split <;> exact State.respond_lcPending h'

theorem State.takeSeq_lcPending {v_ : Option LcRun} {s : State} {i : Fin 32} {c : SeqClass} {stale : State → State} (hst : ∀ s, s.lcPending = v_ → (stale s).lcPending = v_) (h_ : s.lcPending = v_) :
    (s.takeSeq i c stale).2.lcPending = v_ := by
  cases c with
  | accept n => exact h_
  | duplicate => exact State.updSess_klcPending h_
  | stale => exact hst _ (State.updSess_klcPending h_)

theorem State.sequenced_lcPending {v_ : Option LcRun} {s : State} {kind : Nat} {m : Ktp} {stale : State → State} (hst : ∀ s, s.lcPending = v_ → (stale s).lcPending = v_) (h_ : s.lcPending = v_) :
    (s.sequenced kind m stale).2.lcPending = v_ := by
  unfold State.sequenced
  split
  · exact State.datagram_to_lcPending (by assumption) h_
  · refine State.takeSeq_lcPending hst ?_
    exact State.datagram_to_lcPending (by assumption) h_
theorem State.sequenced_to_lcPending {v_ : Option LcRun} {s : State} {kind : Nat} {m : Ktp} {stale : State → State} {r_ : Option (Fin 32 × Nat) × State}
    (e_ : s.sequenced kind m stale = r_) (hst : ∀ s, s.lcPending = v_ → (stale s).lcPending = v_) (h_ : s.lcPending = v_) : r_.2.lcPending = v_ := by
  rw [← e_]; exact State.sequenced_lcPending hst h_

theorem State.chanWrite_lcPending {v_ : Option LcRun} {s : State} {ch a : Nat} {bs : List Nat} (h_ : s.lcPending = v_) : (State.chanWrite s ch a bs).lcPending = v_ := by
  unfold State.chanWrite
  repeat' first
    | with_reducible assumption | with_reducible apply State.ite_lcPending
    | with_reducible refine State.dite_lcPending (fun _ => ?_) (fun _ => ?_) | with_reducible apply State.id_lcPending
    | dsimp only | split

theorem State.parityAt_lcPending {v_ : Option LcRun} {s : State} {ch a : Nat} (h_ : s.lcPending = v_) : (State.parityAt s ch a).lcPending = v_ := by
  unfold State.parityAt
  repeat' first
    | with_reducible assumption | with_reducible apply State.chanWrite_lcPending | with_reducible apply State.ite_lcPending
    | with_reducible refine State.dite_lcPending (fun _ => ?_) (fun _ => ?_) | with_reducible apply State.id_lcPending
    | dsimp only | split

theorem State.flip_lcPending {v_ : Option LcRun} {s : State} {f : BitFlip} (h_ : s.lcPending = v_) : (State.flip s f).lcPending = v_ := by
  unfold State.flip
  repeat' first
    | with_reducible assumption | with_reducible apply State.chanWrite_lcPending | with_reducible apply State.ite_lcPending
    | with_reducible refine State.dite_lcPending (fun _ => ?_) (fun _ => ?_) | with_reducible apply State.ite1_lcPending
    | with_reducible apply State.ite2_lcPending | with_reducible apply State.id_lcPending | dsimp only | split

theorem State.writeTemplate_lcPending {v_ : Option LcRun} {s : State} {a : Asset} {off : Nat} {bs : Bytes} (h_ : s.lcPending = v_) : (State.writeTemplate s a off bs).lcPending = v_ := by
  unfold State.writeTemplate
  repeat' first
    | with_reducible assumption | with_reducible apply State.chanWrite_lcPending | with_reducible apply State.parityAt_lcPending
    | with_reducible apply State.ite_lcPending | with_reducible refine State.dite_lcPending (fun _ => ?_) (fun _ => ?_)
    | with_reducible refine State.foldl_lcPending (fun s x h => ?_) ?_ | with_reducible apply State.ite1_lcPending
    | with_reducible apply State.ite2_lcPending | with_reducible apply State.id_lcPending | dsimp only | split

theorem State.writeTile_lcPending {v_ : Option LcRun} {s : State} {a : Asset} {off : Nat} {bs : Bytes} (h_ : s.lcPending = v_) : (State.writeTile s a off bs).lcPending = v_ := by
  unfold State.writeTile
  repeat' first
    | with_reducible assumption | with_reducible apply State.chanWrite_lcPending | with_reducible apply State.ite_lcPending
    | with_reducible refine State.dite_lcPending (fun _ => ?_) (fun _ => ?_) | with_reducible apply State.id_lcPending
    | dsimp only | split

theorem State.loadPiece_lcPending {v_ : Option LcRun} {s : State} {tile : Bool} {a : Asset} {off : Nat} {bs : Bytes} (h_ : s.lcPending = v_) : (State.loadPiece s tile a off bs).lcPending = v_ := by
  unfold State.loadPiece
  repeat' first
    | with_reducible assumption | with_reducible refine (State.lcPending_of (State.failLoad_kept rfl)).trans ?_
    | with_reducible apply State.writeTile_lcPending | with_reducible apply State.writeTemplate_lcPending
    | with_reducible refine (State.lcPending_of (State.hostWrite_kept rfl)).trans ?_
    | with_reducible refine (State.lcPending_of (State.updAsset_kept rfl)).trans ?_ | with_reducible apply State.ite_lcPending
    | with_reducible refine State.dite_lcPending (fun _ => ?_) (fun _ => ?_) | with_reducible apply State.ite1_lcPending
    | with_reducible apply State.ite2_lcPending | with_reducible apply State.id_lcPending | dsimp only | split

theorem execLoadData_lcPending {v_ : Option LcRun} {t : Nat} {m : Ktp} {loadId offset : Nat} {data : Bytes} {s : State} (h_ : s.lcPending = v_) :
    Lands (fun x => x.lcPending = v_) (execLoadData t m loadId offset data s) := by
  unfold execLoadData
  repeat' first
    | with_reducible apply Lands.next | with_reducible apply Lands.ite | with_reducible assumption
    | with_reducible refine (State.lcPending_of (State.begin_kkept rfl)).trans ?_
    | (refine State.sequenced_to_lcPending (by with_reducible assumption) (fun s h => ?_) ?_)
    | with_reducible refine (State.lcPending_of (State.staleNowhere_kept rfl)).trans ?_
    | with_reducible refine (State.lcPending_of (State.markRx_kept rfl)).trans ?_
    | with_reducible apply State.loadPiece_lcPending | with_reducible refine Lands.dite (fun _ => ?_) (fun _ => ?_)
    | with_reducible apply State.ite_lcPending | with_reducible refine State.dite_lcPending (fun _ => ?_) (fun _ => ?_)
    | with_reducible apply State.ite1_lcPending | with_reducible apply State.ite2_lcPending
    | with_reducible apply State.id_lcPending | dsimp only | split

theorem execTileVerify_lcPending {v_ : Option LcRun} {t : Nat} {idx : Nat} {s : State} (h_ : s.lcPending = v_) :
    Lands (fun x => x.lcPending = v_) (execTileVerify t idx s) := by
  unfold execTileVerify
  repeat' first
    | with_reducible apply Lands.next | with_reducible apply Lands.ite | with_reducible assumption
    | with_reducible refine (State.lcPending_of (State.begin_kkept rfl)).trans ?_
    | with_reducible refine (State.lcPending_of (State.failLoad_kept rfl)).trans ?_
    | with_reducible apply State.chanWrite_lcPending
    | with_reducible refine (State.lcPending_of (State.closeLoad_kept rfl)).trans ?_
    | with_reducible refine (State.lcPending_of (State.updAsset_kept rfl)).trans ?_
    | with_reducible refine Lands.dite (fun _ => ?_) (fun _ => ?_) | with_reducible apply State.ite_lcPending
    | with_reducible refine State.dite_lcPending (fun _ => ?_) (fun _ => ?_) | with_reducible apply State.ite1_lcPending
    | with_reducible apply State.ite2_lcPending | with_reducible apply State.id_lcPending | dsimp only | split

theorem execRowLineCompose_lcPending {v_ : Option LcRun} {t : Nat} {flips : List BitFlip} {s : State} (h_ : s.lcPending = v_) :
    Lands (fun x => x.lcPending = v_) (execRowLineCompose t flips s) := by
  unfold execRowLineCompose
  repeat' first
    | with_reducible apply Lands.next | with_reducible apply Lands.ite | with_reducible assumption
    | with_reducible apply State.flip_lcPending | with_reducible refine (State.lcPending_of (State.begin_kkept rfl)).trans ?_
    | with_reducible refine (State.lcPending_of (State.composeRow_kept rfl)).trans ?_
    | with_reducible refine Lands.dite (fun _ => ?_) (fun _ => ?_) | with_reducible apply State.ite_lcPending
    | with_reducible refine State.dite_lcPending (fun _ => ?_) (fun _ => ?_)
    | with_reducible refine State.foldl_lcPending (fun s x h => ?_) ?_ | with_reducible apply State.ite1_lcPending
    | with_reducible apply State.ite2_lcPending | with_reducible apply State.id_lcPending | dsimp only | split

theorem State.beginSave_lcPending {v_ : Option LcRun} {s : State} {entries : List (Nat × Nat)} {restart : Bool} (h_ : s.lcPending = v_) : (State.beginSave s entries restart).lcPending = v_ := by
  unfold State.beginSave
  repeat' first
    | with_reducible assumption | with_reducible apply State.ite_lcPending
    | with_reducible refine State.dite_lcPending (fun _ => ?_) (fun _ => ?_) | with_reducible apply State.id_lcPending
    | dsimp only | split

theorem State.writeBank_lcPending {v_ : Option LcRun} {s : State} {b : Fin 2} {count : Nat} {entries : List (Nat × Nat)} (h_ : s.lcPending = v_) : (State.writeBank s b count entries).lcPending = v_ := by
  unfold State.writeBank
  repeat' first
    | with_reducible assumption | with_reducible apply State.ite_lcPending
    | with_reducible refine State.dite_lcPending (fun _ => ?_) (fun _ => ?_) | with_reducible apply State.id_lcPending
    | dsimp only | split

theorem State.eraseBanks_lcPending {v_ : Option LcRun} {s : State} (h_ : s.lcPending = v_) : (State.eraseBanks s).lcPending = v_ := by
  unfold State.eraseBanks
  repeat' first
    | with_reducible assumption | with_reducible refine (State.lcPending_of (State.cmdEnd_kept rfl)).trans ?_
    | with_reducible refine (State.lcPending_of (State.eraseBank_kept rfl)).trans ?_
    | with_reducible apply State.writeBank_lcPending | with_reducible apply State.ite_lcPending
    | with_reducible refine State.dite_lcPending (fun _ => ?_) (fun _ => ?_) | with_reducible apply State.id_lcPending
    | dsimp only | split

theorem execStoreSave_lcPending {v_ : Option LcRun} {t : Nat} {k : Kop} {s : State} (h_ : s.lcPending = v_) :
    Lands (fun x => x.lcPending = v_) (execStoreSave t k s) := by
  unfold execStoreSave
  repeat' first
    | with_reducible apply Lands.next | with_reducible apply Lands.ite | with_reducible assumption
    | with_reducible refine (State.lcPending_of (State.begin_kkept rfl)).trans ?_
    | (with_reducible refine State.command_lcPending (fun s w h => ?_) ?_)
    | with_reducible refine (State.lcPending_of (State.refuse_kept rfl)).trans ?_
    | with_reducible apply State.beginSave_lcPending | with_reducible refine Lands.dite (fun _ => ?_) (fun _ => ?_)
    | with_reducible apply State.ite_lcPending | with_reducible refine State.dite_lcPending (fun _ => ?_) (fun _ => ?_)
    | with_reducible apply State.ite1_lcPending | with_reducible apply State.ite2_lcPending
    | with_reducible apply State.id_lcPending | dsimp only | split

theorem execStoreSaveRestart_lcPending {v_ : Option LcRun} {t : Nat} {k : Kop} {s : State} (h_ : s.lcPending = v_) :
    Lands (fun x => x.lcPending = v_) (execStoreSaveRestart t k s) := by
  unfold execStoreSaveRestart
  repeat' first
    | with_reducible apply Lands.next | with_reducible apply Lands.ite | with_reducible assumption
    | with_reducible refine (State.lcPending_of (State.begin_kkept rfl)).trans ?_
    | (with_reducible refine State.command_lcPending (fun s w h => ?_) ?_)
    | with_reducible refine (State.lcPending_of (State.refuse_kept rfl)).trans ?_
    | with_reducible apply State.beginSave_lcPending | with_reducible refine Lands.dite (fun _ => ?_) (fun _ => ?_)
    | with_reducible apply State.ite_lcPending | with_reducible refine State.dite_lcPending (fun _ => ?_) (fun _ => ?_)
    | with_reducible apply State.ite1_lcPending | with_reducible apply State.ite2_lcPending
    | with_reducible apply State.id_lcPending | dsimp only | split

theorem execStoreErase_lcPending {v_ : Option LcRun} {t : Nat} {k : Kop} {s : State} (h_ : s.lcPending = v_) :
    Lands (fun x => x.lcPending = v_) (execStoreErase t k s) := by
  unfold execStoreErase
  repeat' first
    | with_reducible apply Lands.next | with_reducible apply Lands.ite | with_reducible assumption
    | with_reducible refine (State.lcPending_of (State.begin_kkept rfl)).trans ?_
    | (with_reducible refine State.command_lcPending (fun s w h => ?_) ?_)
    | with_reducible refine (State.lcPending_of (State.refuse_kept rfl)).trans ?_
    | with_reducible apply State.beginSave_lcPending | with_reducible refine Lands.dite (fun _ => ?_) (fun _ => ?_)
    | with_reducible apply State.ite_lcPending | with_reducible refine State.dite_lcPending (fun _ => ?_) (fun _ => ?_)
    | with_reducible apply State.ite1_lcPending | with_reducible apply State.ite2_lcPending
    | with_reducible apply State.id_lcPending | dsimp only | split

theorem execSaveComplete_lcPending {v_ : Option LcRun} {t : Nat} {ok : Bool} {s : State} (h_ : s.lcPending = v_) :
    Lands (fun x => x.lcPending = v_) (execSaveComplete t ok s) := by
  unfold execSaveComplete
  repeat' first
    | with_reducible apply Lands.next | with_reducible apply Lands.ite | with_reducible assumption
    | with_reducible refine (State.lcPending_of (State.begin_kkept rfl)).trans ?_
    | with_reducible apply State.writeBank_lcPending
    | with_reducible refine (State.lcPending_of (State.cmdEnd_kept rfl)).trans ?_
    | with_reducible refine (State.lcPending_of (State.beginRestart_kept rfl)).trans ?_
    | with_reducible refine (State.lcPending_of (State.event_kept rfl)).trans ?_
    | with_reducible refine Lands.dite (fun _ => ?_) (fun _ => ?_) | with_reducible apply State.ite_lcPending
    | with_reducible refine State.dite_lcPending (fun _ => ?_) (fun _ => ?_) | with_reducible apply State.ite1_lcPending
    | with_reducible apply State.ite2_lcPending | with_reducible apply State.id_lcPending | dsimp only | split

theorem State.wipe_lcPending {v_ : Option LcRun} {s : State} {cause : Nat} {stuck : List Nat} (h_ : s.lcPending = v_) : (State.wipe s cause stuck).lcPending = v_ := by
  unfold State.wipe
  repeat' first
    | with_reducible assumption | with_reducible refine (State.lcPending_of (State.drawSecret_kept rfl)).trans ?_
    | with_reducible refine (State.lcPending_of (State.failLoads_kept rfl)).trans ?_
    | with_reducible refine (State.lcPending_of (State.event_kept rfl)).trans ?_
    | with_reducible refine (State.lcPending_of (State.endAll_kept rfl)).trans ?_ | with_reducible apply State.ite_lcPending
    | with_reducible refine State.dite_lcPending (fun _ => ?_) (fun _ => ?_)
    | with_reducible refine State.foldl_lcPending (fun s x h => ?_) ?_ | with_reducible apply State.id_lcPending | dsimp only
    | split

theorem State.tamperTrip_lcPending {v_ : Option LcRun} {s : State} {source : Fin 9} {stuck : List Nat} (h_ : s.lcPending = v_) : (State.tamperTrip s source stuck).lcPending = v_ := by
  unfold State.tamperTrip
  repeat' first
    | with_reducible assumption | with_reducible apply State.wipe_lcPending | with_reducible apply State.ite_lcPending
    | with_reducible refine State.dite_lcPending (fun _ => ?_) (fun _ => ?_) | with_reducible apply State.id_lcPending
    | dsimp only | split

theorem State.stillActive_lcPending {v_ : Option LcRun} {s : State} {mask : Nat} (h_ : s.lcPending = v_) : (State.stillActive s mask).lcPending = v_ := by
  unfold State.stillActive
  repeat' first
    | with_reducible assumption | with_reducible refine (State.lcPending_of (State.drawSecret_kept rfl)).trans ?_
    | with_reducible apply State.ite_lcPending | with_reducible refine State.dite_lcPending (fun _ => ?_) (fun _ => ?_)
    | with_reducible apply State.id_lcPending | dsimp only | split

theorem execTamperDetect_lcPending {v_ : Option LcRun} {t : Nat} {x : TamperReading} {stuck : List Nat} {s : State} (h_ : s.lcPending = v_) :
    Lands (fun x => x.lcPending = v_) (execTamperDetect t x stuck s) := by
  unfold execTamperDetect
  repeat' first
    | with_reducible apply Lands.next | with_reducible apply Lands.ite | with_reducible assumption
    | with_reducible refine (State.lcPending_of (State.begin_kkept rfl)).trans ?_
    | with_reducible apply State.tamperTrip_lcPending | with_reducible apply State.stillActive_lcPending
    | with_reducible refine Lands.dite (fun _ => ?_) (fun _ => ?_) | with_reducible apply State.ite_lcPending
    | with_reducible refine State.dite_lcPending (fun _ => ?_) (fun _ => ?_) | with_reducible apply State.ite1_lcPending
    | with_reducible apply State.ite2_lcPending | with_reducible apply State.id_lcPending | dsimp only | split

theorem execTamperClear_lcPending {v_ : Option LcRun} {t : Nat} {k : Kop} {active : Nat} {s : State} (h_ : s.lcPending = v_) :
    Lands (fun x => x.lcPending = v_) (execTamperClear t k active s) := by
  unfold execTamperClear
  repeat' first
    | with_reducible apply Lands.next | with_reducible apply Lands.ite | with_reducible assumption
    | with_reducible refine (State.lcPending_of (State.begin_kkept rfl)).trans ?_
    | (with_reducible refine State.command_lcPending (fun s w h => ?_) ?_) | with_reducible apply State.stillActive_lcPending
    | with_reducible refine Lands.dite (fun _ => ?_) (fun _ => ?_) | with_reducible apply State.ite_lcPending
    | with_reducible refine State.dite_lcPending (fun _ => ?_) (fun _ => ?_) | with_reducible apply State.ite1_lcPending
    | with_reducible apply State.ite2_lcPending | with_reducible apply State.id_lcPending | dsimp only | split

theorem State.blowFuse_lcPending {v_ : Option LcRun} {s : State} {from_ to_ : Nat} (h_ : s.lcPending = v_) : (State.blowFuse s from_ to_).lcPending = v_ := by
  unfold State.blowFuse
  repeat' first
    | with_reducible assumption | with_reducible apply State.ite_lcPending
    | with_reducible refine State.dite_lcPending (fun _ => ?_) (fun _ => ?_) | with_reducible apply State.id_lcPending
    | dsimp only | split

theorem State.commitRecord_lcPending {v_ : Option LcRun} {s : State} (h_ : s.lcPending = v_) : (State.commitRecord s).lcPending = v_ := by
  unfold State.commitRecord
  repeat' first
    | with_reducible assumption | with_reducible refine (State.lcPending_of (State.cmdEnd_kept rfl)).trans ?_
    | with_reducible refine (State.lcPending_of (State.lostEvents_kept rfl)).trans ?_ | with_reducible apply State.ite_lcPending
    | with_reducible refine State.dite_lcPending (fun _ => ?_) (fun _ => ?_) | with_reducible apply State.id_lcPending
    | dsimp only | split

theorem execRecordCommit_lcPending {v_ : Option LcRun} {t : Nat} {s : State} (h_ : s.lcPending = v_) :
    Lands (fun x => x.lcPending = v_) (execRecordCommit t s) := by
  unfold execRecordCommit
  repeat' first
    | with_reducible apply Lands.next | with_reducible apply Lands.ite | with_reducible assumption
    | with_reducible refine (State.lcPending_of (State.begin_kkept rfl)).trans ?_
    | with_reducible apply State.commitRecord_lcPending | with_reducible refine Lands.dite (fun _ => ?_) (fun _ => ?_)
    | with_reducible apply State.ite_lcPending | with_reducible refine State.dite_lcPending (fun _ => ?_) (fun _ => ?_)
    | with_reducible apply State.ite1_lcPending | with_reducible apply State.ite2_lcPending
    | with_reducible apply State.id_lcPending | dsimp only | split

theorem execRecorderClear_lcPending {v_ : Option LcRun} {t : Nat} {k : Kop} {tok : ClearTok} {s : State} (h_ : s.lcPending = v_) :
    Lands (fun x => x.lcPending = v_) (execRecorderClear t k tok s) := by
  unfold execRecorderClear
  repeat' first
    | with_reducible apply Lands.next | with_reducible apply Lands.ite | with_reducible assumption
    | with_reducible refine (State.lcPending_of (State.begin_kkept rfl)).trans ?_
    | (with_reducible refine State.command_lcPending (fun s w h => ?_) ?_)
    | with_reducible refine (State.lcPending_of (State.refuse_kept rfl)).trans ?_
    | with_reducible refine Lands.dite (fun _ => ?_) (fun _ => ?_) | with_reducible apply State.ite_lcPending
    | with_reducible refine State.dite_lcPending (fun _ => ?_) (fun _ => ?_) | with_reducible apply State.ite1_lcPending
    | with_reducible apply State.ite2_lcPending | with_reducible apply State.id_lcPending | dsimp only | split

theorem State.resetKeeping_lcPending {v_ : Option LcRun} {s : State} {powerOn : Bool} (h_ : s.lcPending = v_) : (State.resetKeeping s powerOn).lcPending = v_ := by
  unfold State.resetKeeping
  repeat' first
    | with_reducible assumption | with_reducible apply State.ite_lcPending
    | with_reducible refine State.dite_lcPending (fun _ => ?_) (fun _ => ?_) | with_reducible apply State.id_lcPending
    | dsimp only | split

theorem State.wipedBefore_lcPending {v_ : Option LcRun} {s : State} {armed : Nat} {source : Fin 9} {at_ : Nat} (h_ : s.lcPending = v_) : (State.wipedBefore s armed source at_).lcPending = v_ := by
  unfold State.wipedBefore
  repeat' first
    | with_reducible assumption | with_reducible refine (State.lcPending_of (State.event_kept rfl)).trans ?_
    | with_reducible apply State.ite_lcPending | with_reducible refine State.dite_lcPending (fun _ => ?_) (fun _ => ?_)
    | with_reducible apply State.id_lcPending | dsimp only | split

theorem State.backupCheck_lcPending {v_ : Option LcRun} {s : State} {p : PowerUp} {powerOn : Bool} {armed : Nat} (h_ : s.lcPending = v_) : (State.backupCheck s p powerOn armed).lcPending = v_ := by
  unfold State.backupCheck
  repeat' first
    | with_reducible assumption | with_reducible apply State.wipedBefore_lcPending
    | with_reducible refine (State.lcPending_of (State.event_kept rfl)).trans ?_ | with_reducible apply State.ite_lcPending
    | with_reducible refine State.dite_lcPending (fun _ => ?_) (fun _ => ?_)
    | with_reducible refine State.foldl_lcPending (fun s x h => ?_) ?_ | with_reducible apply State.ite1_lcPending
    | with_reducible apply State.ite2_lcPending | with_reducible apply State.id_lcPending | dsimp only | split

theorem State.powerDomains_lcPending {v_ : Option LcRun} {s : State} {p : PowerUp} (h_ : s.lcPending = v_) : (State.powerDomains s p).lcPending = v_ := by
  unfold State.powerDomains
  repeat' first
    | with_reducible assumption | with_reducible refine (State.lcPending_of (State.testArrays_kept rfl)).trans ?_
    | with_reducible refine (State.lcPending_of (State.drawSecret_kept rfl)).trans ?_
    | with_reducible apply State.wipe_lcPending | with_reducible apply State.ite_lcPending
    | with_reducible refine State.dite_lcPending (fun _ => ?_) (fun _ => ?_) | with_reducible apply State.id_lcPending
    | dsimp only | split

theorem State.flushEvents_lcPending {v_ : Option LcRun} {n : Nat} {s : State} (h_ : s.lcPending = v_) : (State.flushEvents n s).lcPending = v_ := by
  induction n generalizing s with
  | zero => exact h_
  | succ n ih =>
    unfold State.flushEvents
    exact State.ite_lcPending h_ (ih (State.commitRecord_lcPending h_))

theorem State.commitAll_lcPending {v_ : Option LcRun} {s : State} (h_ : s.lcPending = v_) : s.commitAll.lcPending = v_ :=
  State.flushEvents_lcPending (n := s.events.length + 3) h_

theorem execCoreSupplyExcursion_lcPending {v_ : Option LcRun} {t supply : Nat} {begins : Bool} {uv : Nat} {s : State} (h_ : s.lcPending = v_) :
    Lands (fun x => x.lcPending = v_) (execCoreSupplyExcursion t supply begins uv s) := by
  unfold execCoreSupplyExcursion
  repeat' first
    | with_reducible apply Lands.next | with_reducible apply Lands.ite | with_reducible assumption
    | with_reducible refine (State.lcPending_of (State.begin_kkept rfl)).trans ?_
    | with_reducible apply State.tamperTrip_lcPending
    | with_reducible refine (State.lcPending_of (State.faultEvent_kept rfl)).trans ?_
    | with_reducible refine Lands.dite (fun _ => ?_) (fun _ => ?_) | with_reducible apply State.ite_lcPending
    | with_reducible refine State.dite_lcPending (fun _ => ?_) (fun _ => ?_) | with_reducible apply State.ite1_lcPending
    | with_reducible apply State.ite2_lcPending | with_reducible apply State.id_lcPending | dsimp only | split

theorem State.downRecords_lcPending {v_ : Option LcRun} {s : State} (h_ : s.lcPending = v_) : s.downRecords.lcPending = v_ :=
  State.commitAll_lcPending h_

theorem execPowerDownProgress_lcPending {v_ : Option LcRun} {t : Nat} {s : State} (h_ : s.lcPending = v_) :
    Lands (fun x => x.lcPending = v_) (execPowerDownProgress t s) := by
  unfold execPowerDownProgress
  repeat' first
    | with_reducible apply Lands.next | with_reducible apply Lands.ite | with_reducible assumption
    | with_reducible refine (State.lcPending_of (State.begin_kkept rfl)).trans ?_
    | with_reducible refine (State.lcPending_of (State.downHeads_kept rfl)).trans ?_
    | with_reducible refine (State.lcPending_of (State.nextStep_kept rfl)).trans ?_
    | with_reducible refine (State.lcPending_of (State.downChains_kept rfl)).trans ?_
    | with_reducible refine (State.lcPending_of (State.downAxes_kept rfl)).trans ?_
    | with_reducible apply State.downRecords_lcPending
    | with_reducible refine (State.lcPending_of (State.downDomains_kept rfl)).trans ?_
    | with_reducible refine Lands.dite (fun _ => ?_) (fun _ => ?_) | with_reducible apply State.ite_lcPending
    | with_reducible refine State.dite_lcPending (fun _ => ?_) (fun _ => ?_) | with_reducible apply State.ite1_lcPending
    | with_reducible apply State.ite2_lcPending | with_reducible apply State.id_lcPending | dsimp only | split


/-! ### The field `recorder` -/

theorem State.ite_recorder {c : Prop} [Decidable c] {v_ : Recorder} {x y : State} (hx : x.recorder = v_) (hy : y.recorder = v_) :
    (if c then x else y).recorder = v_ := by split <;> assumption
theorem State.dite_recorder {c : Prop} [Decidable c] {v_ : Recorder} {x : c → State} {y : ¬ c → State} (hx : ∀ h, (x h).recorder = v_) (hy : ∀ h, (y h).recorder = v_) :
    (if h : c then x h else y h).recorder = v_ := by split <;> simp only [*]
theorem State.id_recorder {v_ : Recorder} {x : State} (hx : x.recorder = v_) : (id x).recorder = v_ := hx
theorem State.ite1_recorder {β : Type} {c : Prop} [Decidable c] {v_ : Recorder} {x y : State × β} (hx : x.1.recorder = v_) (hy : y.1.recorder = v_) :
    (if c then x else y).1.recorder = v_ := by split <;> assumption
theorem State.ite2_recorder {β : Type} {c : Prop} [Decidable c] {v_ : Recorder} {x y : β × State} (hx : x.2.recorder = v_) (hy : y.2.recorder = v_) :
    (if c then x else y).2.recorder = v_ := by split <;> assumption
theorem State.foldl_recorder {α : Type} {v_ : Recorder} {g : State → α → State} {l : List α} {s : State}
    (h : ∀ s x, s.recorder = v_ → (g s x).recorder = v_) (hs : s.recorder = v_) : (l.foldl g s).recorder = v_ := by
  induction l generalizing s with
  | nil => exact hs
  | cons x l ih => exact ih (h s x hs)

theorem State.respond_recorder {v_ : Recorder} {s : State} {i : Fin 32} {r : Resp} (h_ : s.recorder = v_) : (s.respond i r).recorder = v_ :=
  (State.recorder_of (State.respond_kept rfl)).trans h_
theorem State.arrive_to_recorder {v_ : Recorder} {s : State} {c : Instr} {k : Kop} {r_ : Option (Fin 32) × State} (e_ : s.arrive c k = r_) (h_ : s.recorder = v_) :
    r_.2.recorder = v_ := (State.recorder_of (State.arrive_to_kept e_ rfl)).trans h_
theorem State.await_recorder {v_ : Recorder} {s : State} {c : Instr} {k : Kop} {i : Fin 32} {ds : List (Fin 11)} (h_ : s.recorder = v_) : (s.await c k i ds).recorder = v_ :=
  (State.recorder_of (State.await_kept rfl)).trans h_

theorem State.datagram_recorder {v_ : Recorder} {s : State} {d : Dgram} (h_ : s.recorder = v_) : (s.datagram d).2.recorder = v_ :=
  (State.recorder_of (State.datagram_kept rfl)).trans h_
theorem State.datagram_to_recorder {v_ : Recorder} {s : State} {d : Dgram} {r_ : Option (Fin 32) × State} (e_ : s.datagram d = r_) (h_ : s.recorder = v_) :
    r_.2.recorder = v_ := (State.recorder_of (State.datagram_to_kept e_ rfl)).trans h_
theorem State.updSess_krecorder {v_ : Recorder} {s : State} {i : Fin 32} {f : Session → Session} (h_ : s.recorder = v_) : (s.updSess i f).recorder = v_ := h_

theorem State.command_recorder {v_ : Recorder} {s : State} {c : Instr} {k : Kop} {i sub v : Nat} {act : State → Who → State × CmdRes}
    (hact : ∀ s w, s.recorder = v_ → (act s w).1.recorder = v_) (h_ : s.recorder = v_) : (s.command c k i sub v act).recorder = v_ := by
  unfold State.command
  split
  · exact State.arrive_to_recorder (by assumption) h_
  · have := State.arrive_to_recorder (by assumption) h_
    refine State.ite_recorder this (State.ite_recorder (State.respond_recorder this) (State.ite_recorder (State.await_recorder this) ?_))
    split
    rename_i s' res e
    have h' : s'.recorder = v_ := (congrArg (fun r => State.recorder r.1) e).symm.trans (hact _ _ this)
    split <;> exact State.respond_recorder h'

theorem State.takeSeq_recorder {v_ : Recorder} {s : State} {i : Fin 32} {c : SeqClass} {stale : State → State} (hst : ∀ s, s.recorder = v_ → (stale s).recorder = v_) (h_ : s.recorder = v_) :
    (s.takeSeq i c stale).2.recorder = v_ := by
  cases c with
  | accept n => exact h_
  | duplicate => exact State.updSess_krecorder h_
  | stale => exact hst _ (State.updSess_krecorder h_)

theorem State.sequenced_recorder {v_ : Recorder} {s : State} {kind : Nat} {m : Ktp} {stale : State → State} (hst : ∀ s, s.recorder = v_ → (stale s).recorder = v_) (h_ : s.recorder = v_) :
    (s.sequenced kind m stale).2.recorder = v_ := by
  unfold State.sequenced
  split
  · exact State.datagram_to_recorder (by assumption) h_
  · refine State.takeSeq_recorder hst ?_
    exact State.datagram_to_recorder (by assumption) h_
theorem State.sequenced_to_recorder {v_ : Recorder} {s : State} {kind : Nat} {m : Ktp} {stale : State → State} {r_ : Option (Fin 32 × Nat) × State}
    (e_ : s.sequenced kind m stale = r_) (hst : ∀ s, s.recorder = v_ → (stale s).recorder = v_) (h_ : s.recorder = v_) : r_.2.recorder = v_ := by
  rw [← e_]; exact State.sequenced_recorder hst h_

theorem State.chanWrite_recorder {v_ : Recorder} {s : State} {ch a : Nat} {bs : List Nat} (h_ : s.recorder = v_) : (State.chanWrite s ch a bs).recorder = v_ := by
  unfold State.chanWrite
  repeat' first
    | with_reducible assumption | with_reducible apply State.ite_recorder
    | with_reducible refine State.dite_recorder (fun _ => ?_) (fun _ => ?_) | with_reducible apply State.id_recorder
    | dsimp only | split

theorem State.parityAt_recorder {v_ : Recorder} {s : State} {ch a : Nat} (h_ : s.recorder = v_) : (State.parityAt s ch a).recorder = v_ := by
  unfold State.parityAt
  repeat' first
    | with_reducible assumption | with_reducible apply State.chanWrite_recorder | with_reducible apply State.ite_recorder
    | with_reducible refine State.dite_recorder (fun _ => ?_) (fun _ => ?_) | with_reducible apply State.id_recorder
    | dsimp only | split

theorem State.flip_recorder {v_ : Recorder} {s : State} {f : BitFlip} (h_ : s.recorder = v_) : (State.flip s f).recorder = v_ := by
  unfold State.flip
  repeat' first
    | with_reducible assumption | with_reducible apply State.chanWrite_recorder | with_reducible apply State.ite_recorder
    | with_reducible refine State.dite_recorder (fun _ => ?_) (fun _ => ?_) | with_reducible apply State.ite1_recorder
    | with_reducible apply State.ite2_recorder | with_reducible apply State.id_recorder | dsimp only | split

theorem State.writeTemplate_recorder {v_ : Recorder} {s : State} {a : Asset} {off : Nat} {bs : Bytes} (h_ : s.recorder = v_) : (State.writeTemplate s a off bs).recorder = v_ := by
  unfold State.writeTemplate
  repeat' first
    | with_reducible assumption | with_reducible apply State.chanWrite_recorder | with_reducible apply State.parityAt_recorder
    | with_reducible apply State.ite_recorder | with_reducible refine State.dite_recorder (fun _ => ?_) (fun _ => ?_)
    | with_reducible refine State.foldl_recorder (fun s x h => ?_) ?_ | with_reducible apply State.ite1_recorder
    | with_reducible apply State.ite2_recorder | with_reducible apply State.id_recorder | dsimp only | split

theorem State.writeTile_recorder {v_ : Recorder} {s : State} {a : Asset} {off : Nat} {bs : Bytes} (h_ : s.recorder = v_) : (State.writeTile s a off bs).recorder = v_ := by
  unfold State.writeTile
  repeat' first
    | with_reducible assumption | with_reducible apply State.chanWrite_recorder | with_reducible apply State.ite_recorder
    | with_reducible refine State.dite_recorder (fun _ => ?_) (fun _ => ?_) | with_reducible apply State.id_recorder
    | dsimp only | split

theorem State.loadPiece_recorder {v_ : Recorder} {s : State} {tile : Bool} {a : Asset} {off : Nat} {bs : Bytes} (h_ : s.recorder = v_) : (State.loadPiece s tile a off bs).recorder = v_ := by
  unfold State.loadPiece
  repeat' first
    | with_reducible assumption | with_reducible refine (State.recorder_of (State.failLoad_kept rfl)).trans ?_
    | with_reducible apply State.writeTile_recorder | with_reducible apply State.writeTemplate_recorder
    | with_reducible refine (State.recorder_of (State.hostWrite_kept rfl)).trans ?_
    | with_reducible refine (State.recorder_of (State.updAsset_kept rfl)).trans ?_ | with_reducible apply State.ite_recorder
    | with_reducible refine State.dite_recorder (fun _ => ?_) (fun _ => ?_) | with_reducible apply State.ite1_recorder
    | with_reducible apply State.ite2_recorder | with_reducible apply State.id_recorder | dsimp only | split

theorem execLoadData_recorder {v_ : Recorder} {t : Nat} {m : Ktp} {loadId offset : Nat} {data : Bytes} {s : State} (h_ : s.recorder = v_) :
    Lands (fun x => x.recorder = v_) (execLoadData t m loadId offset data s) := by
  unfold execLoadData
  repeat' first
    | with_reducible apply Lands.next | with_reducible apply Lands.ite | with_reducible assumption
    | with_reducible refine (State.recorder_of (State.begin_kkept rfl)).trans ?_
    | (refine State.sequenced_to_recorder (by with_reducible assumption) (fun s h => ?_) ?_)
    | with_reducible refine (State.recorder_of (State.staleNowhere_kept rfl)).trans ?_
    | with_reducible refine (State.recorder_of (State.markRx_kept rfl)).trans ?_ | with_reducible apply State.loadPiece_recorder
    | with_reducible refine Lands.dite (fun _ => ?_) (fun _ => ?_) | with_reducible apply State.ite_recorder
    | with_reducible refine State.dite_recorder (fun _ => ?_) (fun _ => ?_) | with_reducible apply State.ite1_recorder
    | with_reducible apply State.ite2_recorder | with_reducible apply State.id_recorder | dsimp only | split

theorem execTileVerify_recorder {v_ : Recorder} {t : Nat} {idx : Nat} {s : State} (h_ : s.recorder = v_) :
    Lands (fun x => x.recorder = v_) (execTileVerify t idx s) := by
  unfold execTileVerify
  repeat' first
    | with_reducible apply Lands.next | with_reducible apply Lands.ite | with_reducible assumption
    | with_reducible refine (State.recorder_of (State.begin_kkept rfl)).trans ?_
    | with_reducible refine (State.recorder_of (State.failLoad_kept rfl)).trans ?_
    | with_reducible apply State.chanWrite_recorder
    | with_reducible refine (State.recorder_of (State.closeLoad_kept rfl)).trans ?_
    | with_reducible refine (State.recorder_of (State.updAsset_kept rfl)).trans ?_
    | with_reducible refine Lands.dite (fun _ => ?_) (fun _ => ?_) | with_reducible apply State.ite_recorder
    | with_reducible refine State.dite_recorder (fun _ => ?_) (fun _ => ?_) | with_reducible apply State.ite1_recorder
    | with_reducible apply State.ite2_recorder | with_reducible apply State.id_recorder | dsimp only | split

theorem execRowLineCompose_recorder {v_ : Recorder} {t : Nat} {flips : List BitFlip} {s : State} (h_ : s.recorder = v_) :
    Lands (fun x => x.recorder = v_) (execRowLineCompose t flips s) := by
  unfold execRowLineCompose
  repeat' first
    | with_reducible apply Lands.next | with_reducible apply Lands.ite | with_reducible assumption
    | with_reducible apply State.flip_recorder | with_reducible refine (State.recorder_of (State.begin_kkept rfl)).trans ?_
    | with_reducible refine (State.recorder_of (State.composeRow_kept rfl)).trans ?_
    | with_reducible refine Lands.dite (fun _ => ?_) (fun _ => ?_) | with_reducible apply State.ite_recorder
    | with_reducible refine State.dite_recorder (fun _ => ?_) (fun _ => ?_)
    | with_reducible refine State.foldl_recorder (fun s x h => ?_) ?_ | with_reducible apply State.ite1_recorder
    | with_reducible apply State.ite2_recorder | with_reducible apply State.id_recorder | dsimp only | split

theorem State.beginSave_recorder {v_ : Recorder} {s : State} {entries : List (Nat × Nat)} {restart : Bool} (h_ : s.recorder = v_) : (State.beginSave s entries restart).recorder = v_ := by
  unfold State.beginSave
  repeat' first
    | with_reducible assumption | with_reducible apply State.ite_recorder
    | with_reducible refine State.dite_recorder (fun _ => ?_) (fun _ => ?_) | with_reducible apply State.id_recorder
    | dsimp only | split

theorem State.writeBank_recorder {v_ : Recorder} {s : State} {b : Fin 2} {count : Nat} {entries : List (Nat × Nat)} (h_ : s.recorder = v_) : (State.writeBank s b count entries).recorder = v_ := by
  unfold State.writeBank
  repeat' first
    | with_reducible assumption | with_reducible apply State.ite_recorder
    | with_reducible refine State.dite_recorder (fun _ => ?_) (fun _ => ?_) | with_reducible apply State.id_recorder
    | dsimp only | split

theorem State.eraseBanks_recorder {v_ : Recorder} {s : State} (h_ : s.recorder = v_) : (State.eraseBanks s).recorder = v_ := by
  unfold State.eraseBanks
  repeat' first
    | with_reducible assumption | with_reducible refine (State.recorder_of (State.cmdEnd_kept rfl)).trans ?_
    | with_reducible refine (State.recorder_of (State.eraseBank_kept rfl)).trans ?_
    | with_reducible apply State.writeBank_recorder | with_reducible apply State.ite_recorder
    | with_reducible refine State.dite_recorder (fun _ => ?_) (fun _ => ?_) | with_reducible apply State.id_recorder
    | dsimp only | split

theorem execStoreSave_recorder {v_ : Recorder} {t : Nat} {k : Kop} {s : State} (h_ : s.recorder = v_) :
    Lands (fun x => x.recorder = v_) (execStoreSave t k s) := by
  unfold execStoreSave
  repeat' first
    | with_reducible apply Lands.next | with_reducible apply Lands.ite | with_reducible assumption
    | with_reducible refine (State.recorder_of (State.begin_kkept rfl)).trans ?_
    | (with_reducible refine State.command_recorder (fun s w h => ?_) ?_)
    | with_reducible refine (State.recorder_of (State.refuse_kept rfl)).trans ?_ | with_reducible apply State.beginSave_recorder
    | with_reducible refine Lands.dite (fun _ => ?_) (fun _ => ?_) | with_reducible apply State.ite_recorder
    | with_reducible refine State.dite_recorder (fun _ => ?_) (fun _ => ?_) | with_reducible apply State.ite1_recorder
    | with_reducible apply State.ite2_recorder | with_reducible apply State.id_recorder | dsimp only | split

theorem execStoreSaveRestart_recorder {v_ : Recorder} {t : Nat} {k : Kop} {s : State} (h_ : s.recorder = v_) :
    Lands (fun x => x.recorder = v_) (execStoreSaveRestart t k s) := by
  unfold execStoreSaveRestart
  repeat' first
    | with_reducible apply Lands.next | with_reducible apply Lands.ite | with_reducible assumption
    | with_reducible refine (State.recorder_of (State.begin_kkept rfl)).trans ?_
    | (with_reducible refine State.command_recorder (fun s w h => ?_) ?_)
    | with_reducible refine (State.recorder_of (State.refuse_kept rfl)).trans ?_ | with_reducible apply State.beginSave_recorder
    | with_reducible refine Lands.dite (fun _ => ?_) (fun _ => ?_) | with_reducible apply State.ite_recorder
    | with_reducible refine State.dite_recorder (fun _ => ?_) (fun _ => ?_) | with_reducible apply State.ite1_recorder
    | with_reducible apply State.ite2_recorder | with_reducible apply State.id_recorder | dsimp only | split

theorem execStoreErase_recorder {v_ : Recorder} {t : Nat} {k : Kop} {s : State} (h_ : s.recorder = v_) :
    Lands (fun x => x.recorder = v_) (execStoreErase t k s) := by
  unfold execStoreErase
  repeat' first
    | with_reducible apply Lands.next | with_reducible apply Lands.ite | with_reducible assumption
    | with_reducible refine (State.recorder_of (State.begin_kkept rfl)).trans ?_
    | (with_reducible refine State.command_recorder (fun s w h => ?_) ?_)
    | with_reducible refine (State.recorder_of (State.refuse_kept rfl)).trans ?_ | with_reducible apply State.beginSave_recorder
    | with_reducible refine Lands.dite (fun _ => ?_) (fun _ => ?_) | with_reducible apply State.ite_recorder
    | with_reducible refine State.dite_recorder (fun _ => ?_) (fun _ => ?_) | with_reducible apply State.ite1_recorder
    | with_reducible apply State.ite2_recorder | with_reducible apply State.id_recorder | dsimp only | split

theorem execSaveComplete_recorder {v_ : Recorder} {t : Nat} {ok : Bool} {s : State} (h_ : s.recorder = v_) :
    Lands (fun x => x.recorder = v_) (execSaveComplete t ok s) := by
  unfold execSaveComplete
  repeat' first
    | with_reducible apply Lands.next | with_reducible apply Lands.ite | with_reducible assumption
    | with_reducible refine (State.recorder_of (State.begin_kkept rfl)).trans ?_ | with_reducible apply State.writeBank_recorder
    | with_reducible refine (State.recorder_of (State.cmdEnd_kept rfl)).trans ?_
    | with_reducible refine (State.recorder_of (State.beginRestart_kept rfl)).trans ?_
    | with_reducible refine (State.recorder_of (State.event_kept rfl)).trans ?_
    | with_reducible refine Lands.dite (fun _ => ?_) (fun _ => ?_) | with_reducible apply State.ite_recorder
    | with_reducible refine State.dite_recorder (fun _ => ?_) (fun _ => ?_) | with_reducible apply State.ite1_recorder
    | with_reducible apply State.ite2_recorder | with_reducible apply State.id_recorder | dsimp only | split

theorem State.wipe_recorder {v_ : Recorder} {s : State} {cause : Nat} {stuck : List Nat} (h_ : s.recorder = v_) : (State.wipe s cause stuck).recorder = v_ := by
  unfold State.wipe
  repeat' first
    | with_reducible assumption | with_reducible refine (State.recorder_of (State.drawSecret_kept rfl)).trans ?_
    | with_reducible refine (State.recorder_of (State.failLoads_kept rfl)).trans ?_
    | with_reducible refine (State.recorder_of (State.event_kept rfl)).trans ?_
    | with_reducible refine (State.recorder_of (State.endAll_kept rfl)).trans ?_ | with_reducible apply State.ite_recorder
    | with_reducible refine State.dite_recorder (fun _ => ?_) (fun _ => ?_)
    | with_reducible refine State.foldl_recorder (fun s x h => ?_) ?_ | with_reducible apply State.id_recorder | dsimp only
    | split

theorem State.tamperTrip_recorder {v_ : Recorder} {s : State} {source : Fin 9} {stuck : List Nat} (h_ : s.recorder = v_) : (State.tamperTrip s source stuck).recorder = v_ := by
  unfold State.tamperTrip
  repeat' first
    | with_reducible assumption | with_reducible apply State.wipe_recorder | with_reducible apply State.ite_recorder
    | with_reducible refine State.dite_recorder (fun _ => ?_) (fun _ => ?_) | with_reducible apply State.id_recorder
    | dsimp only | split

theorem State.stillActive_recorder {v_ : Recorder} {s : State} {mask : Nat} (h_ : s.recorder = v_) : (State.stillActive s mask).recorder = v_ := by
  unfold State.stillActive
  repeat' first
    | with_reducible assumption | with_reducible refine (State.recorder_of (State.drawSecret_kept rfl)).trans ?_
    | with_reducible apply State.ite_recorder | with_reducible refine State.dite_recorder (fun _ => ?_) (fun _ => ?_)
    | with_reducible apply State.id_recorder | dsimp only | split

theorem execTamperDetect_recorder {v_ : Recorder} {t : Nat} {x : TamperReading} {stuck : List Nat} {s : State} (h_ : s.recorder = v_) :
    Lands (fun x => x.recorder = v_) (execTamperDetect t x stuck s) := by
  unfold execTamperDetect
  repeat' first
    | with_reducible apply Lands.next | with_reducible apply Lands.ite | with_reducible assumption
    | with_reducible refine (State.recorder_of (State.begin_kkept rfl)).trans ?_
    | with_reducible apply State.tamperTrip_recorder | with_reducible apply State.stillActive_recorder
    | with_reducible refine Lands.dite (fun _ => ?_) (fun _ => ?_) | with_reducible apply State.ite_recorder
    | with_reducible refine State.dite_recorder (fun _ => ?_) (fun _ => ?_) | with_reducible apply State.ite1_recorder
    | with_reducible apply State.ite2_recorder | with_reducible apply State.id_recorder | dsimp only | split

theorem execTamperClear_recorder {v_ : Recorder} {t : Nat} {k : Kop} {active : Nat} {s : State} (h_ : s.recorder = v_) :
    Lands (fun x => x.recorder = v_) (execTamperClear t k active s) := by
  unfold execTamperClear
  repeat' first
    | with_reducible apply Lands.next | with_reducible apply Lands.ite | with_reducible assumption
    | with_reducible refine (State.recorder_of (State.begin_kkept rfl)).trans ?_
    | (with_reducible refine State.command_recorder (fun s w h => ?_) ?_) | with_reducible apply State.stillActive_recorder
    | with_reducible refine Lands.dite (fun _ => ?_) (fun _ => ?_) | with_reducible apply State.ite_recorder
    | with_reducible refine State.dite_recorder (fun _ => ?_) (fun _ => ?_) | with_reducible apply State.ite1_recorder
    | with_reducible apply State.ite2_recorder | with_reducible apply State.id_recorder | dsimp only | split

theorem State.blowFuse_recorder {v_ : Recorder} {s : State} {from_ to_ : Nat} (h_ : s.recorder = v_) : (State.blowFuse s from_ to_).recorder = v_ := by
  unfold State.blowFuse
  repeat' first
    | with_reducible assumption | with_reducible apply State.ite_recorder
    | with_reducible refine State.dite_recorder (fun _ => ?_) (fun _ => ?_) | with_reducible apply State.id_recorder
    | dsimp only | split

theorem State.transition_recorder {v_ : Recorder} {s : State} (h_ : s.recorder = v_) : (State.transition s).recorder = v_ := by
  unfold State.transition
  repeat' first
    | with_reducible assumption | with_reducible apply State.blowFuse_recorder
    | with_reducible refine (State.recorder_of (State.eventBy_kept rfl)).trans ?_
    | with_reducible refine (State.recorder_of (State.chainsOff_kept rfl)).trans ?_
    | with_reducible apply State.eraseBanks_recorder | with_reducible refine (State.recorder_of (State.event_kept rfl)).trans ?_
    | with_reducible apply State.ite_recorder | with_reducible refine State.dite_recorder (fun _ => ?_) (fun _ => ?_)
    | with_reducible apply State.id_recorder | dsimp only | split

theorem execLifeCycleRequest_recorder {v_ : Recorder} {t : Nat} {k : Kop} {r : LcReq} {stuck : List Nat} {s : State} (h_ : s.recorder = v_) :
    Lands (fun x => x.recorder = v_) (execLifeCycleRequest t k r stuck s) := by
  unfold execLifeCycleRequest
  repeat' first
    | with_reducible apply Lands.next | with_reducible apply Lands.ite | with_reducible assumption
    | with_reducible refine (State.recorder_of (State.begin_kkept rfl)).trans ?_
    | with_reducible apply State.transition_recorder | (with_reducible refine State.command_recorder (fun s w h => ?_) ?_)
    | with_reducible refine (State.recorder_of (State.refuse_kept rfl)).trans ?_ | with_reducible apply State.wipe_recorder
    | with_reducible refine Lands.dite (fun _ => ?_) (fun _ => ?_) | with_reducible apply State.ite_recorder
    | with_reducible refine State.dite_recorder (fun _ => ?_) (fun _ => ?_) | with_reducible apply State.ite1_recorder
    | with_reducible apply State.ite2_recorder | with_reducible apply State.id_recorder | dsimp only | split

theorem State.wipedBefore_recorder {v_ : Recorder} {s : State} {armed : Nat} {source : Fin 9} {at_ : Nat} (h_ : s.recorder = v_) : (State.wipedBefore s armed source at_).recorder = v_ := by
  unfold State.wipedBefore
  repeat' first
    | with_reducible assumption | with_reducible refine (State.recorder_of (State.event_kept rfl)).trans ?_
    | with_reducible apply State.ite_recorder | with_reducible refine State.dite_recorder (fun _ => ?_) (fun _ => ?_)
    | with_reducible apply State.id_recorder | dsimp only | split

theorem State.backupCheck_recorder {v_ : Recorder} {s : State} {p : PowerUp} {powerOn : Bool} {armed : Nat} (h_ : s.recorder = v_) : (State.backupCheck s p powerOn armed).recorder = v_ := by
  unfold State.backupCheck
  repeat' first
    | with_reducible assumption | with_reducible apply State.wipedBefore_recorder
    | with_reducible refine (State.recorder_of (State.event_kept rfl)).trans ?_ | with_reducible apply State.ite_recorder
    | with_reducible refine State.dite_recorder (fun _ => ?_) (fun _ => ?_)
    | with_reducible refine State.foldl_recorder (fun s x h => ?_) ?_ | with_reducible apply State.ite1_recorder
    | with_reducible apply State.ite2_recorder | with_reducible apply State.id_recorder | dsimp only | split

theorem State.lcInterrupted_recorder {v_ : Recorder} {s : State} {blown : Bool} (h_ : s.recorder = v_) : (State.lcInterrupted s blown).recorder = v_ := by
  unfold State.lcInterrupted
  repeat' first
    | with_reducible assumption | with_reducible apply State.blowFuse_recorder
    | with_reducible refine (State.recorder_of (State.event_kept rfl)).trans ?_ | with_reducible apply State.ite_recorder
    | with_reducible refine State.dite_recorder (fun _ => ?_) (fun _ => ?_) | with_reducible apply State.id_recorder
    | dsimp only | split

theorem State.powerDomains_recorder {v_ : Recorder} {s : State} {p : PowerUp} (h_ : s.recorder = v_) : (State.powerDomains s p).recorder = v_ := by
  unfold State.powerDomains
  repeat' first
    | with_reducible assumption | with_reducible refine (State.recorder_of (State.testArrays_kept rfl)).trans ?_
    | with_reducible refine (State.recorder_of (State.drawSecret_kept rfl)).trans ?_ | with_reducible apply State.wipe_recorder
    | with_reducible apply State.ite_recorder | with_reducible refine State.dite_recorder (fun _ => ?_) (fun _ => ?_)
    | with_reducible apply State.id_recorder | dsimp only | split

theorem execCoreSupplyExcursion_recorder {v_ : Recorder} {t supply : Nat} {begins : Bool} {uv : Nat} {s : State} (h_ : s.recorder = v_) :
    Lands (fun x => x.recorder = v_) (execCoreSupplyExcursion t supply begins uv s) := by
  unfold execCoreSupplyExcursion
  repeat' first
    | with_reducible apply Lands.next | with_reducible apply Lands.ite | with_reducible assumption
    | with_reducible refine (State.recorder_of (State.begin_kkept rfl)).trans ?_
    | with_reducible apply State.tamperTrip_recorder
    | with_reducible refine (State.recorder_of (State.faultEvent_kept rfl)).trans ?_
    | with_reducible refine Lands.dite (fun _ => ?_) (fun _ => ?_) | with_reducible apply State.ite_recorder
    | with_reducible refine State.dite_recorder (fun _ => ?_) (fun _ => ?_) | with_reducible apply State.ite1_recorder
    | with_reducible apply State.ite2_recorder | with_reducible apply State.id_recorder | dsimp only | split

theorem State.tick_recorder {v_ : Recorder} {s : State} (h_ : s.recorder = v_) : (State.tick s).recorder = v_ := by
  unfold State.tick
  repeat' first
    | with_reducible assumption | with_reducible refine (State.recorder_of (State.begin_kkept rfl)).trans ?_
    | with_reducible apply State.transition_recorder
    | with_reducible refine (State.recorder_of (State.arrayCycle_kept rfl)).trans ?_ | with_reducible apply State.ite_recorder
    | with_reducible refine State.dite_recorder (fun _ => ?_) (fun _ => ?_) | with_reducible apply State.id_recorder
    | dsimp only | split


/-! ### The field `banks` -/

theorem State.ite_banks {c : Prop} [Decidable c] {v_ : Vector Bank 2} {x y : State} (hx : x.banks = v_) (hy : y.banks = v_) :
    (if c then x else y).banks = v_ := by split <;> assumption
theorem State.dite_banks {c : Prop} [Decidable c] {v_ : Vector Bank 2} {x : c → State} {y : ¬ c → State} (hx : ∀ h, (x h).banks = v_) (hy : ∀ h, (y h).banks = v_) :
    (if h : c then x h else y h).banks = v_ := by split <;> simp only [*]
theorem State.id_banks {v_ : Vector Bank 2} {x : State} (hx : x.banks = v_) : (id x).banks = v_ := hx
theorem State.ite1_banks {β : Type} {c : Prop} [Decidable c] {v_ : Vector Bank 2} {x y : State × β} (hx : x.1.banks = v_) (hy : y.1.banks = v_) :
    (if c then x else y).1.banks = v_ := by split <;> assumption
theorem State.ite2_banks {β : Type} {c : Prop} [Decidable c] {v_ : Vector Bank 2} {x y : β × State} (hx : x.2.banks = v_) (hy : y.2.banks = v_) :
    (if c then x else y).2.banks = v_ := by split <;> assumption
theorem State.foldl_banks {α : Type} {v_ : Vector Bank 2} {g : State → α → State} {l : List α} {s : State}
    (h : ∀ s x, s.banks = v_ → (g s x).banks = v_) (hs : s.banks = v_) : (l.foldl g s).banks = v_ := by
  induction l generalizing s with
  | nil => exact hs
  | cons x l ih => exact ih (h s x hs)

theorem State.respond_banks {v_ : Vector Bank 2} {s : State} {i : Fin 32} {r : Resp} (h_ : s.banks = v_) : (s.respond i r).banks = v_ :=
  (State.banks_of (State.respond_kept rfl)).trans h_
theorem State.arrive_to_banks {v_ : Vector Bank 2} {s : State} {c : Instr} {k : Kop} {r_ : Option (Fin 32) × State} (e_ : s.arrive c k = r_) (h_ : s.banks = v_) :
    r_.2.banks = v_ := (State.banks_of (State.arrive_to_kept e_ rfl)).trans h_
theorem State.await_banks {v_ : Vector Bank 2} {s : State} {c : Instr} {k : Kop} {i : Fin 32} {ds : List (Fin 11)} (h_ : s.banks = v_) : (s.await c k i ds).banks = v_ :=
  (State.banks_of (State.await_kept rfl)).trans h_

theorem State.datagram_banks {v_ : Vector Bank 2} {s : State} {d : Dgram} (h_ : s.banks = v_) : (s.datagram d).2.banks = v_ :=
  (State.banks_of (State.datagram_kept rfl)).trans h_
theorem State.datagram_to_banks {v_ : Vector Bank 2} {s : State} {d : Dgram} {r_ : Option (Fin 32) × State} (e_ : s.datagram d = r_) (h_ : s.banks = v_) :
    r_.2.banks = v_ := (State.banks_of (State.datagram_to_kept e_ rfl)).trans h_
theorem State.updSess_kbanks {v_ : Vector Bank 2} {s : State} {i : Fin 32} {f : Session → Session} (h_ : s.banks = v_) : (s.updSess i f).banks = v_ := h_

theorem State.command_banks {v_ : Vector Bank 2} {s : State} {c : Instr} {k : Kop} {i sub v : Nat} {act : State → Who → State × CmdRes}
    (hact : ∀ s w, s.banks = v_ → (act s w).1.banks = v_) (h_ : s.banks = v_) : (s.command c k i sub v act).banks = v_ := by
  unfold State.command
  split
  · exact State.arrive_to_banks (by assumption) h_
  · have := State.arrive_to_banks (by assumption) h_
    refine State.ite_banks this (State.ite_banks (State.respond_banks this) (State.ite_banks (State.await_banks this) ?_))
    split
    rename_i s' res e
    have h' : s'.banks = v_ := (congrArg (fun r => State.banks r.1) e).symm.trans (hact _ _ this)
    split <;> exact State.respond_banks h'

theorem State.takeSeq_banks {v_ : Vector Bank 2} {s : State} {i : Fin 32} {c : SeqClass} {stale : State → State} (hst : ∀ s, s.banks = v_ → (stale s).banks = v_) (h_ : s.banks = v_) :
    (s.takeSeq i c stale).2.banks = v_ := by
  cases c with
  | accept n => exact h_
  | duplicate => exact State.updSess_kbanks h_
  | stale => exact hst _ (State.updSess_kbanks h_)

theorem State.sequenced_banks {v_ : Vector Bank 2} {s : State} {kind : Nat} {m : Ktp} {stale : State → State} (hst : ∀ s, s.banks = v_ → (stale s).banks = v_) (h_ : s.banks = v_) :
    (s.sequenced kind m stale).2.banks = v_ := by
  unfold State.sequenced
  split
  · exact State.datagram_to_banks (by assumption) h_
  · refine State.takeSeq_banks hst ?_
    exact State.datagram_to_banks (by assumption) h_
theorem State.sequenced_to_banks {v_ : Vector Bank 2} {s : State} {kind : Nat} {m : Ktp} {stale : State → State} {r_ : Option (Fin 32 × Nat) × State}
    (e_ : s.sequenced kind m stale = r_) (hst : ∀ s, s.banks = v_ → (stale s).banks = v_) (h_ : s.banks = v_) : r_.2.banks = v_ := by
  rw [← e_]; exact State.sequenced_banks hst h_

theorem State.chanWrite_banks {v_ : Vector Bank 2} {s : State} {ch a : Nat} {bs : List Nat} (h_ : s.banks = v_) : (State.chanWrite s ch a bs).banks = v_ := by
  unfold State.chanWrite
  repeat' first
    | with_reducible assumption | with_reducible apply State.ite_banks
    | with_reducible refine State.dite_banks (fun _ => ?_) (fun _ => ?_) | with_reducible apply State.id_banks | dsimp only
    | split

theorem State.parityAt_banks {v_ : Vector Bank 2} {s : State} {ch a : Nat} (h_ : s.banks = v_) : (State.parityAt s ch a).banks = v_ := by
  unfold State.parityAt
  repeat' first
    | with_reducible assumption | with_reducible apply State.chanWrite_banks | with_reducible apply State.ite_banks
    | with_reducible refine State.dite_banks (fun _ => ?_) (fun _ => ?_) | with_reducible apply State.id_banks | dsimp only
    | split

theorem State.flip_banks {v_ : Vector Bank 2} {s : State} {f : BitFlip} (h_ : s.banks = v_) : (State.flip s f).banks = v_ := by
  unfold State.flip
  repeat' first
    | with_reducible assumption | with_reducible apply State.chanWrite_banks | with_reducible apply State.ite_banks
    | with_reducible refine State.dite_banks (fun _ => ?_) (fun _ => ?_) | with_reducible apply State.ite1_banks
    | with_reducible apply State.ite2_banks | with_reducible apply State.id_banks | dsimp only | split

theorem State.writeTemplate_banks {v_ : Vector Bank 2} {s : State} {a : Asset} {off : Nat} {bs : Bytes} (h_ : s.banks = v_) : (State.writeTemplate s a off bs).banks = v_ := by
  unfold State.writeTemplate
  repeat' first
    | with_reducible assumption | with_reducible apply State.chanWrite_banks | with_reducible apply State.parityAt_banks
    | with_reducible apply State.ite_banks | with_reducible refine State.dite_banks (fun _ => ?_) (fun _ => ?_)
    | with_reducible refine State.foldl_banks (fun s x h => ?_) ?_ | with_reducible apply State.ite1_banks
    | with_reducible apply State.ite2_banks | with_reducible apply State.id_banks | dsimp only | split

theorem State.writeTile_banks {v_ : Vector Bank 2} {s : State} {a : Asset} {off : Nat} {bs : Bytes} (h_ : s.banks = v_) : (State.writeTile s a off bs).banks = v_ := by
  unfold State.writeTile
  repeat' first
    | with_reducible assumption | with_reducible apply State.chanWrite_banks | with_reducible apply State.ite_banks
    | with_reducible refine State.dite_banks (fun _ => ?_) (fun _ => ?_) | with_reducible apply State.id_banks | dsimp only
    | split

theorem State.loadPiece_banks {v_ : Vector Bank 2} {s : State} {tile : Bool} {a : Asset} {off : Nat} {bs : Bytes} (h_ : s.banks = v_) : (State.loadPiece s tile a off bs).banks = v_ := by
  unfold State.loadPiece
  repeat' first
    | with_reducible assumption | with_reducible refine (State.banks_of (State.failLoad_kept rfl)).trans ?_
    | with_reducible apply State.writeTile_banks | with_reducible apply State.writeTemplate_banks
    | with_reducible refine (State.banks_of (State.hostWrite_kept rfl)).trans ?_
    | with_reducible refine (State.banks_of (State.updAsset_kept rfl)).trans ?_ | with_reducible apply State.ite_banks
    | with_reducible refine State.dite_banks (fun _ => ?_) (fun _ => ?_) | with_reducible apply State.ite1_banks
    | with_reducible apply State.ite2_banks | with_reducible apply State.id_banks | dsimp only | split

theorem execLoadData_banks {v_ : Vector Bank 2} {t : Nat} {m : Ktp} {loadId offset : Nat} {data : Bytes} {s : State} (h_ : s.banks = v_) :
    Lands (fun x => x.banks = v_) (execLoadData t m loadId offset data s) := by
  unfold execLoadData
  repeat' first
    | with_reducible apply Lands.next | with_reducible apply Lands.ite | with_reducible assumption
    | with_reducible refine (State.banks_of (State.begin_kkept rfl)).trans ?_
    | (refine State.sequenced_to_banks (by with_reducible assumption) (fun s h => ?_) ?_)
    | with_reducible refine (State.banks_of (State.staleNowhere_kept rfl)).trans ?_
    | with_reducible refine (State.banks_of (State.markRx_kept rfl)).trans ?_ | with_reducible apply State.loadPiece_banks
    | with_reducible refine Lands.dite (fun _ => ?_) (fun _ => ?_) | with_reducible apply State.ite_banks
    | with_reducible refine State.dite_banks (fun _ => ?_) (fun _ => ?_) | with_reducible apply State.ite1_banks
    | with_reducible apply State.ite2_banks | with_reducible apply State.id_banks | dsimp only | split

theorem execTileVerify_banks {v_ : Vector Bank 2} {t : Nat} {idx : Nat} {s : State} (h_ : s.banks = v_) :
    Lands (fun x => x.banks = v_) (execTileVerify t idx s) := by
  unfold execTileVerify
  repeat' first
    | with_reducible apply Lands.next | with_reducible apply Lands.ite | with_reducible assumption
    | with_reducible refine (State.banks_of (State.begin_kkept rfl)).trans ?_
    | with_reducible refine (State.banks_of (State.failLoad_kept rfl)).trans ?_ | with_reducible apply State.chanWrite_banks
    | with_reducible refine (State.banks_of (State.closeLoad_kept rfl)).trans ?_
    | with_reducible refine (State.banks_of (State.updAsset_kept rfl)).trans ?_
    | with_reducible refine Lands.dite (fun _ => ?_) (fun _ => ?_) | with_reducible apply State.ite_banks
    | with_reducible refine State.dite_banks (fun _ => ?_) (fun _ => ?_) | with_reducible apply State.ite1_banks
    | with_reducible apply State.ite2_banks | with_reducible apply State.id_banks | dsimp only | split

theorem execRowLineCompose_banks {v_ : Vector Bank 2} {t : Nat} {flips : List BitFlip} {s : State} (h_ : s.banks = v_) :
    Lands (fun x => x.banks = v_) (execRowLineCompose t flips s) := by
  unfold execRowLineCompose
  repeat' first
    | with_reducible apply Lands.next | with_reducible apply Lands.ite | with_reducible assumption
    | with_reducible apply State.flip_banks | with_reducible refine (State.banks_of (State.begin_kkept rfl)).trans ?_
    | with_reducible refine (State.banks_of (State.composeRow_kept rfl)).trans ?_
    | with_reducible refine Lands.dite (fun _ => ?_) (fun _ => ?_) | with_reducible apply State.ite_banks
    | with_reducible refine State.dite_banks (fun _ => ?_) (fun _ => ?_)
    | with_reducible refine State.foldl_banks (fun s x h => ?_) ?_ | with_reducible apply State.ite1_banks
    | with_reducible apply State.ite2_banks | with_reducible apply State.id_banks | dsimp only | split

theorem State.wipe_banks {v_ : Vector Bank 2} {s : State} {cause : Nat} {stuck : List Nat} (h_ : s.banks = v_) : (State.wipe s cause stuck).banks = v_ := by
  unfold State.wipe
  repeat' first
    | with_reducible assumption | with_reducible refine (State.banks_of (State.drawSecret_kept rfl)).trans ?_
    | with_reducible refine (State.banks_of (State.failLoads_kept rfl)).trans ?_
    | with_reducible refine (State.banks_of (State.event_kept rfl)).trans ?_
    | with_reducible refine (State.banks_of (State.endAll_kept rfl)).trans ?_ | with_reducible apply State.ite_banks
    | with_reducible refine State.dite_banks (fun _ => ?_) (fun _ => ?_)
    | with_reducible refine State.foldl_banks (fun s x h => ?_) ?_ | with_reducible apply State.id_banks | dsimp only | split

theorem State.tamperTrip_banks {v_ : Vector Bank 2} {s : State} {source : Fin 9} {stuck : List Nat} (h_ : s.banks = v_) : (State.tamperTrip s source stuck).banks = v_ := by
  unfold State.tamperTrip
  repeat' first
    | with_reducible assumption | with_reducible apply State.wipe_banks | with_reducible apply State.ite_banks
    | with_reducible refine State.dite_banks (fun _ => ?_) (fun _ => ?_) | with_reducible apply State.id_banks | dsimp only
    | split

theorem State.stillActive_banks {v_ : Vector Bank 2} {s : State} {mask : Nat} (h_ : s.banks = v_) : (State.stillActive s mask).banks = v_ := by
  unfold State.stillActive
  repeat' first
    | with_reducible assumption | with_reducible refine (State.banks_of (State.drawSecret_kept rfl)).trans ?_
    | with_reducible apply State.ite_banks | with_reducible refine State.dite_banks (fun _ => ?_) (fun _ => ?_)
    | with_reducible apply State.id_banks | dsimp only | split

theorem execTamperDetect_banks {v_ : Vector Bank 2} {t : Nat} {x : TamperReading} {stuck : List Nat} {s : State} (h_ : s.banks = v_) :
    Lands (fun x => x.banks = v_) (execTamperDetect t x stuck s) := by
  unfold execTamperDetect
  repeat' first
    | with_reducible apply Lands.next | with_reducible apply Lands.ite | with_reducible assumption
    | with_reducible refine (State.banks_of (State.begin_kkept rfl)).trans ?_ | with_reducible apply State.tamperTrip_banks
    | with_reducible apply State.stillActive_banks | with_reducible refine Lands.dite (fun _ => ?_) (fun _ => ?_)
    | with_reducible apply State.ite_banks | with_reducible refine State.dite_banks (fun _ => ?_) (fun _ => ?_)
    | with_reducible apply State.ite1_banks | with_reducible apply State.ite2_banks | with_reducible apply State.id_banks
    | dsimp only | split

theorem execTamperClear_banks {v_ : Vector Bank 2} {t : Nat} {k : Kop} {active : Nat} {s : State} (h_ : s.banks = v_) :
    Lands (fun x => x.banks = v_) (execTamperClear t k active s) := by
  unfold execTamperClear
  repeat' first
    | with_reducible apply Lands.next | with_reducible apply Lands.ite | with_reducible assumption
    | with_reducible refine (State.banks_of (State.begin_kkept rfl)).trans ?_
    | (with_reducible refine State.command_banks (fun s w h => ?_) ?_) | with_reducible apply State.stillActive_banks
    | with_reducible refine Lands.dite (fun _ => ?_) (fun _ => ?_) | with_reducible apply State.ite_banks
    | with_reducible refine State.dite_banks (fun _ => ?_) (fun _ => ?_) | with_reducible apply State.ite1_banks
    | with_reducible apply State.ite2_banks | with_reducible apply State.id_banks | dsimp only | split

theorem State.blowFuse_banks {v_ : Vector Bank 2} {s : State} {from_ to_ : Nat} (h_ : s.banks = v_) : (State.blowFuse s from_ to_).banks = v_ := by
  unfold State.blowFuse
  repeat' first
    | with_reducible assumption | with_reducible apply State.ite_banks
    | with_reducible refine State.dite_banks (fun _ => ?_) (fun _ => ?_) | with_reducible apply State.id_banks | dsimp only
    | split

theorem State.commitRecord_banks {v_ : Vector Bank 2} {s : State} (h_ : s.banks = v_) : (State.commitRecord s).banks = v_ := by
  unfold State.commitRecord
  repeat' first
    | with_reducible assumption | with_reducible refine (State.banks_of (State.cmdEnd_kept rfl)).trans ?_
    | with_reducible refine (State.banks_of (State.lostEvents_kept rfl)).trans ?_ | with_reducible apply State.ite_banks
    | with_reducible refine State.dite_banks (fun _ => ?_) (fun _ => ?_) | with_reducible apply State.id_banks | dsimp only
    | split

theorem execRecordCommit_banks {v_ : Vector Bank 2} {t : Nat} {s : State} (h_ : s.banks = v_) :
    Lands (fun x => x.banks = v_) (execRecordCommit t s) := by
  unfold execRecordCommit
  repeat' first
    | with_reducible apply Lands.next | with_reducible apply Lands.ite | with_reducible assumption
    | with_reducible refine (State.banks_of (State.begin_kkept rfl)).trans ?_ | with_reducible apply State.commitRecord_banks
    | with_reducible refine Lands.dite (fun _ => ?_) (fun _ => ?_) | with_reducible apply State.ite_banks
    | with_reducible refine State.dite_banks (fun _ => ?_) (fun _ => ?_) | with_reducible apply State.ite1_banks
    | with_reducible apply State.ite2_banks | with_reducible apply State.id_banks | dsimp only | split

theorem execRecorderClear_banks {v_ : Vector Bank 2} {t : Nat} {k : Kop} {tok : ClearTok} {s : State} (h_ : s.banks = v_) :
    Lands (fun x => x.banks = v_) (execRecorderClear t k tok s) := by
  unfold execRecorderClear
  repeat' first
    | with_reducible apply Lands.next | with_reducible apply Lands.ite | with_reducible assumption
    | with_reducible refine (State.banks_of (State.begin_kkept rfl)).trans ?_
    | (with_reducible refine State.command_banks (fun s w h => ?_) ?_)
    | with_reducible refine (State.banks_of (State.refuse_kept rfl)).trans ?_
    | with_reducible refine Lands.dite (fun _ => ?_) (fun _ => ?_) | with_reducible apply State.ite_banks
    | with_reducible refine State.dite_banks (fun _ => ?_) (fun _ => ?_) | with_reducible apply State.ite1_banks
    | with_reducible apply State.ite2_banks | with_reducible apply State.id_banks | dsimp only | split

theorem State.resetKeeping_banks {v_ : Vector Bank 2} {s : State} {powerOn : Bool} (h_ : s.banks = v_) : (State.resetKeeping s powerOn).banks = v_ := by
  unfold State.resetKeeping
  repeat' first
    | with_reducible assumption | with_reducible apply State.ite_banks
    | with_reducible refine State.dite_banks (fun _ => ?_) (fun _ => ?_) | with_reducible apply State.id_banks | dsimp only
    | split

theorem State.wipedBefore_banks {v_ : Vector Bank 2} {s : State} {armed : Nat} {source : Fin 9} {at_ : Nat} (h_ : s.banks = v_) : (State.wipedBefore s armed source at_).banks = v_ := by
  unfold State.wipedBefore
  repeat' first
    | with_reducible assumption | with_reducible refine (State.banks_of (State.event_kept rfl)).trans ?_
    | with_reducible apply State.ite_banks | with_reducible refine State.dite_banks (fun _ => ?_) (fun _ => ?_)
    | with_reducible apply State.id_banks | dsimp only | split

theorem State.backupCheck_banks {v_ : Vector Bank 2} {s : State} {p : PowerUp} {powerOn : Bool} {armed : Nat} (h_ : s.banks = v_) : (State.backupCheck s p powerOn armed).banks = v_ := by
  unfold State.backupCheck
  repeat' first
    | with_reducible assumption | with_reducible apply State.wipedBefore_banks
    | with_reducible refine (State.banks_of (State.event_kept rfl)).trans ?_ | with_reducible apply State.ite_banks
    | with_reducible refine State.dite_banks (fun _ => ?_) (fun _ => ?_)
    | with_reducible refine State.foldl_banks (fun s x h => ?_) ?_ | with_reducible apply State.ite1_banks
    | with_reducible apply State.ite2_banks | with_reducible apply State.id_banks | dsimp only | split

theorem State.lcInterrupted_banks {v_ : Vector Bank 2} {s : State} {blown : Bool} (h_ : s.banks = v_) : (State.lcInterrupted s blown).banks = v_ := by
  unfold State.lcInterrupted
  repeat' first
    | with_reducible assumption | with_reducible apply State.blowFuse_banks
    | with_reducible refine (State.banks_of (State.event_kept rfl)).trans ?_ | with_reducible apply State.ite_banks
    | with_reducible refine State.dite_banks (fun _ => ?_) (fun _ => ?_) | with_reducible apply State.id_banks | dsimp only
    | split

theorem State.powerDomains_banks {v_ : Vector Bank 2} {s : State} {p : PowerUp} (h_ : s.banks = v_) : (State.powerDomains s p).banks = v_ := by
  unfold State.powerDomains
  repeat' first
    | with_reducible assumption | with_reducible refine (State.banks_of (State.testArrays_kept rfl)).trans ?_
    | with_reducible refine (State.banks_of (State.drawSecret_kept rfl)).trans ?_ | with_reducible apply State.wipe_banks
    | with_reducible apply State.ite_banks | with_reducible refine State.dite_banks (fun _ => ?_) (fun _ => ?_)
    | with_reducible apply State.id_banks | dsimp only | split

theorem State.startUp_banks {v_ : Vector Bank 2} {s : State} {cause : Nat} {p : PowerUp} (h_ : s.banks = v_) : (State.startUp s cause p).banks = v_ := by
  unfold State.startUp
  repeat' first
    | with_reducible assumption | with_reducible refine (State.banks_of (State.installPatches_kept rfl)).trans ?_
    | with_reducible apply State.resetKeeping_banks | with_reducible apply State.backupCheck_banks
    | with_reducible apply State.lcInterrupted_banks
    | with_reducible refine (State.banks_of (State.loadStore_kept rfl)).trans ?_
    | with_reducible refine (State.banks_of (State.event_kept rfl)).trans ?_ | with_reducible apply State.powerDomains_banks
    | with_reducible refine (State.banks_of (State.startEngines_kept rfl)).trans ?_
    | with_reducible refine (State.banks_of (State.startPorts_kept rfl)).trans ?_
    | with_reducible refine (State.banks_of (State.startChans_kept rfl)).trans ?_ | with_reducible apply State.ite_banks
    | with_reducible refine State.dite_banks (fun _ => ?_) (fun _ => ?_) | with_reducible apply State.id_banks | dsimp only
    | split

theorem execPowerOnReset_banks {v_ : Vector Bank 2} {t : Nat} {p : PowerUp} {s : State} (h_ : s.banks = v_) :
    Lands (fun x => x.banks = v_) (execPowerOnReset t p s) := by
  unfold execPowerOnReset
  repeat' first
    | with_reducible apply Lands.next | with_reducible apply Lands.ite | with_reducible assumption
    | with_reducible refine (State.banks_of (State.begin_kkept rfl)).trans ?_ | with_reducible apply State.startUp_banks
    | with_reducible refine Lands.dite (fun _ => ?_) (fun _ => ?_) | with_reducible apply State.ite_banks
    | with_reducible refine State.dite_banks (fun _ => ?_) (fun _ => ?_) | with_reducible apply State.ite1_banks
    | with_reducible apply State.ite2_banks | with_reducible apply State.id_banks | dsimp only | split

theorem execExternalReset_banks {v_ : Vector Bank 2} {t : Nat} {p : PowerUp} {s : State} (h_ : s.banks = v_) :
    Lands (fun x => x.banks = v_) (execExternalReset t p s) := by
  unfold execExternalReset
  repeat' first
    | with_reducible apply Lands.next | with_reducible apply Lands.ite | with_reducible assumption
    | with_reducible refine (State.banks_of (State.begin_kkept rfl)).trans ?_ | with_reducible apply State.startUp_banks
    | with_reducible refine Lands.dite (fun _ => ?_) (fun _ => ?_) | with_reducible apply State.ite_banks
    | with_reducible refine State.dite_banks (fun _ => ?_) (fun _ => ?_) | with_reducible apply State.ite1_banks
    | with_reducible apply State.ite2_banks | with_reducible apply State.id_banks | dsimp only | split

theorem execDebugReset_banks {v_ : Vector Bank 2} {t : Nat} {p : PowerUp} {s : State} (h_ : s.banks = v_) :
    Lands (fun x => x.banks = v_) (execDebugReset t p s) := by
  unfold execDebugReset
  repeat' first
    | with_reducible apply Lands.next | with_reducible apply Lands.ite | with_reducible assumption
    | with_reducible refine (State.banks_of (State.begin_kkept rfl)).trans ?_ | with_reducible apply State.startUp_banks
    | with_reducible refine Lands.dite (fun _ => ?_) (fun _ => ?_) | with_reducible apply State.ite_banks
    | with_reducible refine State.dite_banks (fun _ => ?_) (fun _ => ?_) | with_reducible apply State.ite1_banks
    | with_reducible apply State.ite2_banks | with_reducible apply State.id_banks | dsimp only | split

theorem State.flushEvents_banks {v_ : Vector Bank 2} {n : Nat} {s : State} (h_ : s.banks = v_) : (State.flushEvents n s).banks = v_ := by
  induction n generalizing s with
  | zero => exact h_
  | succ n ih =>
    unfold State.flushEvents
    exact State.ite_banks h_ (ih (State.commitRecord_banks h_))

theorem State.commitAll_banks {v_ : Vector Bank 2} {s : State} (h_ : s.banks = v_) : s.commitAll.banks = v_ :=
  State.flushEvents_banks (n := s.events.length + 3) h_

theorem execCommandedResetTimeout_banks {v_ : Vector Bank 2} {t : Nat} {p : PowerUp} {s : State} (h_ : s.banks = v_) :
    Lands (fun x => x.banks = v_) (execCommandedResetTimeout t p s) := by
  unfold execCommandedResetTimeout
  repeat' first
    | with_reducible apply Lands.next | with_reducible apply Lands.ite | with_reducible assumption
    | with_reducible refine (State.banks_of (State.begin_kkept rfl)).trans ?_
    | with_reducible refine (State.banks_of (State.recordHigh_kept rfl)).trans ?_ | with_reducible apply State.commitAll_banks
    | with_reducible apply State.startUp_banks | with_reducible refine Lands.dite (fun _ => ?_) (fun _ => ?_)
    | with_reducible apply State.ite_banks | with_reducible refine State.dite_banks (fun _ => ?_) (fun _ => ?_)
    | with_reducible apply State.ite1_banks | with_reducible apply State.ite2_banks | with_reducible apply State.id_banks
    | dsimp only | split

theorem execSupplyOutOfRange_banks {v_ : Vector Bank 2} {t : Nat} {x : SupplyReading} {p : PowerUp} {s : State} (h_ : s.banks = v_) :
    Lands (fun x => x.banks = v_) (execSupplyOutOfRange t x p s) := by
  unfold execSupplyOutOfRange
  repeat' first
    | with_reducible apply Lands.next | with_reducible apply Lands.ite | with_reducible assumption
    | with_reducible refine (State.banks_of (State.begin_kkept rfl)).trans ?_ | with_reducible apply State.startUp_banks
    | with_reducible refine Lands.dite (fun _ => ?_) (fun _ => ?_) | with_reducible apply State.ite_banks
    | with_reducible refine State.dite_banks (fun _ => ?_) (fun _ => ?_) | with_reducible apply State.ite1_banks
    | with_reducible apply State.ite2_banks | with_reducible apply State.id_banks | dsimp only | split

theorem execCoreSupplyExcursion_banks {v_ : Vector Bank 2} {t supply : Nat} {begins : Bool} {uv : Nat} {s : State} (h_ : s.banks = v_) :
    Lands (fun x => x.banks = v_) (execCoreSupplyExcursion t supply begins uv s) := by
  unfold execCoreSupplyExcursion
  repeat' first
    | with_reducible apply Lands.next | with_reducible apply Lands.ite | with_reducible assumption
    | with_reducible refine (State.banks_of (State.begin_kkept rfl)).trans ?_ | with_reducible apply State.tamperTrip_banks
    | with_reducible refine (State.banks_of (State.faultEvent_kept rfl)).trans ?_
    | with_reducible refine Lands.dite (fun _ => ?_) (fun _ => ?_) | with_reducible apply State.ite_banks
    | with_reducible refine State.dite_banks (fun _ => ?_) (fun _ => ?_) | with_reducible apply State.ite1_banks
    | with_reducible apply State.ite2_banks | with_reducible apply State.id_banks | dsimp only | split

theorem execClockLoss_banks {v_ : Vector Bank 2} {t : Nat} {x : ClockReading} {stuck : List Nat} {p : PowerUp} {s : State} (h_ : s.banks = v_) :
    Lands (fun x => x.banks = v_) (execClockLoss t x stuck p s) := by
  unfold execClockLoss
  repeat' first
    | with_reducible apply Lands.next | with_reducible apply Lands.ite | with_reducible assumption
    | with_reducible refine (State.banks_of (State.begin_kkept rfl)).trans ?_ | with_reducible apply State.tamperTrip_banks
    | with_reducible apply State.startUp_banks | with_reducible refine Lands.dite (fun _ => ?_) (fun _ => ?_)
    | with_reducible apply State.ite_banks | with_reducible refine State.dite_banks (fun _ => ?_) (fun _ => ?_)
    | with_reducible apply State.ite1_banks | with_reducible apply State.ite2_banks | with_reducible apply State.id_banks
    | dsimp only | split

theorem State.downRecords_banks {v_ : Vector Bank 2} {s : State} (h_ : s.banks = v_) : s.downRecords.banks = v_ :=
  State.commitAll_banks h_

theorem execPowerDownProgress_banks {v_ : Vector Bank 2} {t : Nat} {s : State} (h_ : s.banks = v_) :
    Lands (fun x => x.banks = v_) (execPowerDownProgress t s) := by
  unfold execPowerDownProgress
  repeat' first
    | with_reducible apply Lands.next | with_reducible apply Lands.ite | with_reducible assumption
    | with_reducible refine (State.banks_of (State.begin_kkept rfl)).trans ?_
    | with_reducible refine (State.banks_of (State.downHeads_kept rfl)).trans ?_
    | with_reducible refine (State.banks_of (State.nextStep_kept rfl)).trans ?_
    | with_reducible refine (State.banks_of (State.downChains_kept rfl)).trans ?_
    | with_reducible refine (State.banks_of (State.downAxes_kept rfl)).trans ?_ | with_reducible apply State.downRecords_banks
    | with_reducible refine (State.banks_of (State.downDomains_kept rfl)).trans ?_
    | with_reducible refine Lands.dite (fun _ => ?_) (fun _ => ?_) | with_reducible apply State.ite_banks
    | with_reducible refine State.dite_banks (fun _ => ?_) (fun _ => ?_) | with_reducible apply State.ite1_banks
    | with_reducible apply State.ite2_banks | with_reducible apply State.id_banks | dsimp only | split


/-! ### The field `tamper` -/

theorem State.ite_tamper {c : Prop} [Decidable c] {v_ : Tamper} {x y : State} (hx : x.tamper = v_) (hy : y.tamper = v_) :
    (if c then x else y).tamper = v_ := by split <;> assumption
theorem State.dite_tamper {c : Prop} [Decidable c] {v_ : Tamper} {x : c → State} {y : ¬ c → State} (hx : ∀ h, (x h).tamper = v_) (hy : ∀ h, (y h).tamper = v_) :
    (if h : c then x h else y h).tamper = v_ := by split <;> simp only [*]
theorem State.id_tamper {v_ : Tamper} {x : State} (hx : x.tamper = v_) : (id x).tamper = v_ := hx
theorem State.ite1_tamper {β : Type} {c : Prop} [Decidable c] {v_ : Tamper} {x y : State × β} (hx : x.1.tamper = v_) (hy : y.1.tamper = v_) :
    (if c then x else y).1.tamper = v_ := by split <;> assumption
theorem State.ite2_tamper {β : Type} {c : Prop} [Decidable c] {v_ : Tamper} {x y : β × State} (hx : x.2.tamper = v_) (hy : y.2.tamper = v_) :
    (if c then x else y).2.tamper = v_ := by split <;> assumption
theorem State.foldl_tamper {α : Type} {v_ : Tamper} {g : State → α → State} {l : List α} {s : State}
    (h : ∀ s x, s.tamper = v_ → (g s x).tamper = v_) (hs : s.tamper = v_) : (l.foldl g s).tamper = v_ := by
  induction l generalizing s with
  | nil => exact hs
  | cons x l ih => exact ih (h s x hs)

theorem State.respond_tamper {v_ : Tamper} {s : State} {i : Fin 32} {r : Resp} (h_ : s.tamper = v_) : (s.respond i r).tamper = v_ :=
  (State.tamper_of (State.respond_kept rfl)).trans h_
theorem State.arrive_to_tamper {v_ : Tamper} {s : State} {c : Instr} {k : Kop} {r_ : Option (Fin 32) × State} (e_ : s.arrive c k = r_) (h_ : s.tamper = v_) :
    r_.2.tamper = v_ := (State.tamper_of (State.arrive_to_kept e_ rfl)).trans h_
theorem State.await_tamper {v_ : Tamper} {s : State} {c : Instr} {k : Kop} {i : Fin 32} {ds : List (Fin 11)} (h_ : s.tamper = v_) : (s.await c k i ds).tamper = v_ :=
  (State.tamper_of (State.await_kept rfl)).trans h_

theorem State.datagram_tamper {v_ : Tamper} {s : State} {d : Dgram} (h_ : s.tamper = v_) : (s.datagram d).2.tamper = v_ :=
  (State.tamper_of (State.datagram_kept rfl)).trans h_
theorem State.datagram_to_tamper {v_ : Tamper} {s : State} {d : Dgram} {r_ : Option (Fin 32) × State} (e_ : s.datagram d = r_) (h_ : s.tamper = v_) :
    r_.2.tamper = v_ := (State.tamper_of (State.datagram_to_kept e_ rfl)).trans h_
theorem State.updSess_ktamper {v_ : Tamper} {s : State} {i : Fin 32} {f : Session → Session} (h_ : s.tamper = v_) : (s.updSess i f).tamper = v_ := h_

theorem State.command_tamper {v_ : Tamper} {s : State} {c : Instr} {k : Kop} {i sub v : Nat} {act : State → Who → State × CmdRes}
    (hact : ∀ s w, s.tamper = v_ → (act s w).1.tamper = v_) (h_ : s.tamper = v_) : (s.command c k i sub v act).tamper = v_ := by
  unfold State.command
  split
  · exact State.arrive_to_tamper (by assumption) h_
  · have := State.arrive_to_tamper (by assumption) h_
    refine State.ite_tamper this (State.ite_tamper (State.respond_tamper this) (State.ite_tamper (State.await_tamper this) ?_))
    split
    rename_i s' res e
    have h' : s'.tamper = v_ := (congrArg (fun r => State.tamper r.1) e).symm.trans (hact _ _ this)
    split <;> exact State.respond_tamper h'

theorem State.takeSeq_tamper {v_ : Tamper} {s : State} {i : Fin 32} {c : SeqClass} {stale : State → State} (hst : ∀ s, s.tamper = v_ → (stale s).tamper = v_) (h_ : s.tamper = v_) :
    (s.takeSeq i c stale).2.tamper = v_ := by
  cases c with
  | accept n => exact h_
  | duplicate => exact State.updSess_ktamper h_
  | stale => exact hst _ (State.updSess_ktamper h_)

theorem State.sequenced_tamper {v_ : Tamper} {s : State} {kind : Nat} {m : Ktp} {stale : State → State} (hst : ∀ s, s.tamper = v_ → (stale s).tamper = v_) (h_ : s.tamper = v_) :
    (s.sequenced kind m stale).2.tamper = v_ := by
  unfold State.sequenced
  split
  · exact State.datagram_to_tamper (by assumption) h_
  · refine State.takeSeq_tamper hst ?_
    exact State.datagram_to_tamper (by assumption) h_
theorem State.sequenced_to_tamper {v_ : Tamper} {s : State} {kind : Nat} {m : Ktp} {stale : State → State} {r_ : Option (Fin 32 × Nat) × State}
    (e_ : s.sequenced kind m stale = r_) (hst : ∀ s, s.tamper = v_ → (stale s).tamper = v_) (h_ : s.tamper = v_) : r_.2.tamper = v_ := by
  rw [← e_]; exact State.sequenced_tamper hst h_

theorem State.chanWrite_tamper {v_ : Tamper} {s : State} {ch a : Nat} {bs : List Nat} (h_ : s.tamper = v_) : (State.chanWrite s ch a bs).tamper = v_ := by
  unfold State.chanWrite
  repeat' first
    | with_reducible assumption | with_reducible apply State.ite_tamper
    | with_reducible refine State.dite_tamper (fun _ => ?_) (fun _ => ?_) | with_reducible apply State.id_tamper | dsimp only
    | split

theorem State.parityAt_tamper {v_ : Tamper} {s : State} {ch a : Nat} (h_ : s.tamper = v_) : (State.parityAt s ch a).tamper = v_ := by
  unfold State.parityAt
  repeat' first
    | with_reducible assumption | with_reducible apply State.chanWrite_tamper | with_reducible apply State.ite_tamper
    | with_reducible refine State.dite_tamper (fun _ => ?_) (fun _ => ?_) | with_reducible apply State.id_tamper | dsimp only
    | split

theorem State.flip_tamper {v_ : Tamper} {s : State} {f : BitFlip} (h_ : s.tamper = v_) : (State.flip s f).tamper = v_ := by
  unfold State.flip
  repeat' first
    | with_reducible assumption | with_reducible apply State.chanWrite_tamper | with_reducible apply State.ite_tamper
    | with_reducible refine State.dite_tamper (fun _ => ?_) (fun _ => ?_) | with_reducible apply State.ite1_tamper
    | with_reducible apply State.ite2_tamper | with_reducible apply State.id_tamper | dsimp only | split

theorem State.writeTemplate_tamper {v_ : Tamper} {s : State} {a : Asset} {off : Nat} {bs : Bytes} (h_ : s.tamper = v_) : (State.writeTemplate s a off bs).tamper = v_ := by
  unfold State.writeTemplate
  repeat' first
    | with_reducible assumption | with_reducible apply State.chanWrite_tamper | with_reducible apply State.parityAt_tamper
    | with_reducible apply State.ite_tamper | with_reducible refine State.dite_tamper (fun _ => ?_) (fun _ => ?_)
    | with_reducible refine State.foldl_tamper (fun s x h => ?_) ?_ | with_reducible apply State.ite1_tamper
    | with_reducible apply State.ite2_tamper | with_reducible apply State.id_tamper | dsimp only | split

theorem State.writeTile_tamper {v_ : Tamper} {s : State} {a : Asset} {off : Nat} {bs : Bytes} (h_ : s.tamper = v_) : (State.writeTile s a off bs).tamper = v_ := by
  unfold State.writeTile
  repeat' first
    | with_reducible assumption | with_reducible apply State.chanWrite_tamper | with_reducible apply State.ite_tamper
    | with_reducible refine State.dite_tamper (fun _ => ?_) (fun _ => ?_) | with_reducible apply State.id_tamper | dsimp only
    | split

theorem State.loadPiece_tamper {v_ : Tamper} {s : State} {tile : Bool} {a : Asset} {off : Nat} {bs : Bytes} (h_ : s.tamper = v_) : (State.loadPiece s tile a off bs).tamper = v_ := by
  unfold State.loadPiece
  repeat' first
    | with_reducible assumption | with_reducible refine (State.tamper_of (State.failLoad_kept rfl)).trans ?_
    | with_reducible apply State.writeTile_tamper | with_reducible apply State.writeTemplate_tamper
    | with_reducible refine (State.tamper_of (State.hostWrite_kept rfl)).trans ?_
    | with_reducible refine (State.tamper_of (State.updAsset_kept rfl)).trans ?_ | with_reducible apply State.ite_tamper
    | with_reducible refine State.dite_tamper (fun _ => ?_) (fun _ => ?_) | with_reducible apply State.ite1_tamper
    | with_reducible apply State.ite2_tamper | with_reducible apply State.id_tamper | dsimp only | split

theorem execLoadData_tamper {v_ : Tamper} {t : Nat} {m : Ktp} {loadId offset : Nat} {data : Bytes} {s : State} (h_ : s.tamper = v_) :
    Lands (fun x => x.tamper = v_) (execLoadData t m loadId offset data s) := by
  unfold execLoadData
  repeat' first
    | with_reducible apply Lands.next | with_reducible apply Lands.ite | with_reducible assumption
    | with_reducible refine (State.tamper_of (State.begin_kkept rfl)).trans ?_
    | (refine State.sequenced_to_tamper (by with_reducible assumption) (fun s h => ?_) ?_)
    | with_reducible refine (State.tamper_of (State.staleNowhere_kept rfl)).trans ?_
    | with_reducible refine (State.tamper_of (State.markRx_kept rfl)).trans ?_ | with_reducible apply State.loadPiece_tamper
    | with_reducible refine Lands.dite (fun _ => ?_) (fun _ => ?_) | with_reducible apply State.ite_tamper
    | with_reducible refine State.dite_tamper (fun _ => ?_) (fun _ => ?_) | with_reducible apply State.ite1_tamper
    | with_reducible apply State.ite2_tamper | with_reducible apply State.id_tamper | dsimp only | split

theorem execTileVerify_tamper {v_ : Tamper} {t : Nat} {idx : Nat} {s : State} (h_ : s.tamper = v_) :
    Lands (fun x => x.tamper = v_) (execTileVerify t idx s) := by
  unfold execTileVerify
  repeat' first
    | with_reducible apply Lands.next | with_reducible apply Lands.ite | with_reducible assumption
    | with_reducible refine (State.tamper_of (State.begin_kkept rfl)).trans ?_
    | with_reducible refine (State.tamper_of (State.failLoad_kept rfl)).trans ?_ | with_reducible apply State.chanWrite_tamper
    | with_reducible refine (State.tamper_of (State.closeLoad_kept rfl)).trans ?_
    | with_reducible refine (State.tamper_of (State.updAsset_kept rfl)).trans ?_
    | with_reducible refine Lands.dite (fun _ => ?_) (fun _ => ?_) | with_reducible apply State.ite_tamper
    | with_reducible refine State.dite_tamper (fun _ => ?_) (fun _ => ?_) | with_reducible apply State.ite1_tamper
    | with_reducible apply State.ite2_tamper | with_reducible apply State.id_tamper | dsimp only | split

theorem execRowLineCompose_tamper {v_ : Tamper} {t : Nat} {flips : List BitFlip} {s : State} (h_ : s.tamper = v_) :
    Lands (fun x => x.tamper = v_) (execRowLineCompose t flips s) := by
  unfold execRowLineCompose
  repeat' first
    | with_reducible apply Lands.next | with_reducible apply Lands.ite | with_reducible assumption
    | with_reducible apply State.flip_tamper | with_reducible refine (State.tamper_of (State.begin_kkept rfl)).trans ?_
    | with_reducible refine (State.tamper_of (State.composeRow_kept rfl)).trans ?_
    | with_reducible refine Lands.dite (fun _ => ?_) (fun _ => ?_) | with_reducible apply State.ite_tamper
    | with_reducible refine State.dite_tamper (fun _ => ?_) (fun _ => ?_)
    | with_reducible refine State.foldl_tamper (fun s x h => ?_) ?_ | with_reducible apply State.ite1_tamper
    | with_reducible apply State.ite2_tamper | with_reducible apply State.id_tamper | dsimp only | split

theorem State.beginSave_tamper {v_ : Tamper} {s : State} {entries : List (Nat × Nat)} {restart : Bool} (h_ : s.tamper = v_) : (State.beginSave s entries restart).tamper = v_ := by
  unfold State.beginSave
  repeat' first
    | with_reducible assumption | with_reducible apply State.ite_tamper
    | with_reducible refine State.dite_tamper (fun _ => ?_) (fun _ => ?_) | with_reducible apply State.id_tamper | dsimp only
    | split

theorem State.writeBank_tamper {v_ : Tamper} {s : State} {b : Fin 2} {count : Nat} {entries : List (Nat × Nat)} (h_ : s.tamper = v_) : (State.writeBank s b count entries).tamper = v_ := by
  unfold State.writeBank
  repeat' first
    | with_reducible assumption | with_reducible apply State.ite_tamper
    | with_reducible refine State.dite_tamper (fun _ => ?_) (fun _ => ?_) | with_reducible apply State.id_tamper | dsimp only
    | split

theorem State.eraseBanks_tamper {v_ : Tamper} {s : State} (h_ : s.tamper = v_) : (State.eraseBanks s).tamper = v_ := by
  unfold State.eraseBanks
  repeat' first
    | with_reducible assumption | with_reducible refine (State.tamper_of (State.cmdEnd_kept rfl)).trans ?_
    | with_reducible refine (State.tamper_of (State.eraseBank_kept rfl)).trans ?_ | with_reducible apply State.writeBank_tamper
    | with_reducible apply State.ite_tamper | with_reducible refine State.dite_tamper (fun _ => ?_) (fun _ => ?_)
    | with_reducible apply State.id_tamper | dsimp only | split

theorem execStoreSave_tamper {v_ : Tamper} {t : Nat} {k : Kop} {s : State} (h_ : s.tamper = v_) :
    Lands (fun x => x.tamper = v_) (execStoreSave t k s) := by
  unfold execStoreSave
  repeat' first
    | with_reducible apply Lands.next | with_reducible apply Lands.ite | with_reducible assumption
    | with_reducible refine (State.tamper_of (State.begin_kkept rfl)).trans ?_
    | (with_reducible refine State.command_tamper (fun s w h => ?_) ?_)
    | with_reducible refine (State.tamper_of (State.refuse_kept rfl)).trans ?_ | with_reducible apply State.beginSave_tamper
    | with_reducible refine Lands.dite (fun _ => ?_) (fun _ => ?_) | with_reducible apply State.ite_tamper
    | with_reducible refine State.dite_tamper (fun _ => ?_) (fun _ => ?_) | with_reducible apply State.ite1_tamper
    | with_reducible apply State.ite2_tamper | with_reducible apply State.id_tamper | dsimp only | split

theorem execStoreSaveRestart_tamper {v_ : Tamper} {t : Nat} {k : Kop} {s : State} (h_ : s.tamper = v_) :
    Lands (fun x => x.tamper = v_) (execStoreSaveRestart t k s) := by
  unfold execStoreSaveRestart
  repeat' first
    | with_reducible apply Lands.next | with_reducible apply Lands.ite | with_reducible assumption
    | with_reducible refine (State.tamper_of (State.begin_kkept rfl)).trans ?_
    | (with_reducible refine State.command_tamper (fun s w h => ?_) ?_)
    | with_reducible refine (State.tamper_of (State.refuse_kept rfl)).trans ?_ | with_reducible apply State.beginSave_tamper
    | with_reducible refine Lands.dite (fun _ => ?_) (fun _ => ?_) | with_reducible apply State.ite_tamper
    | with_reducible refine State.dite_tamper (fun _ => ?_) (fun _ => ?_) | with_reducible apply State.ite1_tamper
    | with_reducible apply State.ite2_tamper | with_reducible apply State.id_tamper | dsimp only | split

theorem execStoreErase_tamper {v_ : Tamper} {t : Nat} {k : Kop} {s : State} (h_ : s.tamper = v_) :
    Lands (fun x => x.tamper = v_) (execStoreErase t k s) := by
  unfold execStoreErase
  repeat' first
    | with_reducible apply Lands.next | with_reducible apply Lands.ite | with_reducible assumption
    | with_reducible refine (State.tamper_of (State.begin_kkept rfl)).trans ?_
    | (with_reducible refine State.command_tamper (fun s w h => ?_) ?_)
    | with_reducible refine (State.tamper_of (State.refuse_kept rfl)).trans ?_ | with_reducible apply State.beginSave_tamper
    | with_reducible refine Lands.dite (fun _ => ?_) (fun _ => ?_) | with_reducible apply State.ite_tamper
    | with_reducible refine State.dite_tamper (fun _ => ?_) (fun _ => ?_) | with_reducible apply State.ite1_tamper
    | with_reducible apply State.ite2_tamper | with_reducible apply State.id_tamper | dsimp only | split

theorem execSaveComplete_tamper {v_ : Tamper} {t : Nat} {ok : Bool} {s : State} (h_ : s.tamper = v_) :
    Lands (fun x => x.tamper = v_) (execSaveComplete t ok s) := by
  unfold execSaveComplete
  repeat' first
    | with_reducible apply Lands.next | with_reducible apply Lands.ite | with_reducible assumption
    | with_reducible refine (State.tamper_of (State.begin_kkept rfl)).trans ?_ | with_reducible apply State.writeBank_tamper
    | with_reducible refine (State.tamper_of (State.cmdEnd_kept rfl)).trans ?_
    | with_reducible refine (State.tamper_of (State.beginRestart_kept rfl)).trans ?_
    | with_reducible refine (State.tamper_of (State.event_kept rfl)).trans ?_
    | with_reducible refine Lands.dite (fun _ => ?_) (fun _ => ?_) | with_reducible apply State.ite_tamper
    | with_reducible refine State.dite_tamper (fun _ => ?_) (fun _ => ?_) | with_reducible apply State.ite1_tamper
    | with_reducible apply State.ite2_tamper | with_reducible apply State.id_tamper | dsimp only | split

theorem State.blowFuse_tamper {v_ : Tamper} {s : State} {from_ to_ : Nat} (h_ : s.tamper = v_) : (State.blowFuse s from_ to_).tamper = v_ := by
  unfold State.blowFuse
  repeat' first
    | with_reducible assumption | with_reducible apply State.ite_tamper
    | with_reducible refine State.dite_tamper (fun _ => ?_) (fun _ => ?_) | with_reducible apply State.id_tamper | dsimp only
    | split

theorem State.transition_tamper {v_ : Tamper} {s : State} (h_ : s.tamper = v_) : (State.transition s).tamper = v_ := by
  unfold State.transition
  repeat' first
    | with_reducible assumption | with_reducible apply State.blowFuse_tamper
    | with_reducible refine (State.tamper_of (State.eventBy_kept rfl)).trans ?_
    | with_reducible refine (State.tamper_of (State.chainsOff_kept rfl)).trans ?_ | with_reducible apply State.eraseBanks_tamper
    | with_reducible refine (State.tamper_of (State.event_kept rfl)).trans ?_ | with_reducible apply State.ite_tamper
    | with_reducible refine State.dite_tamper (fun _ => ?_) (fun _ => ?_) | with_reducible apply State.id_tamper | dsimp only
    | split

theorem State.commitRecord_tamper {v_ : Tamper} {s : State} (h_ : s.tamper = v_) : (State.commitRecord s).tamper = v_ := by
  unfold State.commitRecord
  repeat' first
    | with_reducible assumption | with_reducible refine (State.tamper_of (State.cmdEnd_kept rfl)).trans ?_
    | with_reducible refine (State.tamper_of (State.lostEvents_kept rfl)).trans ?_ | with_reducible apply State.ite_tamper
    | with_reducible refine State.dite_tamper (fun _ => ?_) (fun _ => ?_) | with_reducible apply State.id_tamper | dsimp only
    | split

theorem execRecordCommit_tamper {v_ : Tamper} {t : Nat} {s : State} (h_ : s.tamper = v_) :
    Lands (fun x => x.tamper = v_) (execRecordCommit t s) := by
  unfold execRecordCommit
  repeat' first
    | with_reducible apply Lands.next | with_reducible apply Lands.ite | with_reducible assumption
    | with_reducible refine (State.tamper_of (State.begin_kkept rfl)).trans ?_ | with_reducible apply State.commitRecord_tamper
    | with_reducible refine Lands.dite (fun _ => ?_) (fun _ => ?_) | with_reducible apply State.ite_tamper
    | with_reducible refine State.dite_tamper (fun _ => ?_) (fun _ => ?_) | with_reducible apply State.ite1_tamper
    | with_reducible apply State.ite2_tamper | with_reducible apply State.id_tamper | dsimp only | split

theorem execRecorderClear_tamper {v_ : Tamper} {t : Nat} {k : Kop} {tok : ClearTok} {s : State} (h_ : s.tamper = v_) :
    Lands (fun x => x.tamper = v_) (execRecorderClear t k tok s) := by
  unfold execRecorderClear
  repeat' first
    | with_reducible apply Lands.next | with_reducible apply Lands.ite | with_reducible assumption
    | with_reducible refine (State.tamper_of (State.begin_kkept rfl)).trans ?_
    | (with_reducible refine State.command_tamper (fun s w h => ?_) ?_)
    | with_reducible refine (State.tamper_of (State.refuse_kept rfl)).trans ?_
    | with_reducible refine Lands.dite (fun _ => ?_) (fun _ => ?_) | with_reducible apply State.ite_tamper
    | with_reducible refine State.dite_tamper (fun _ => ?_) (fun _ => ?_) | with_reducible apply State.ite1_tamper
    | with_reducible apply State.ite2_tamper | with_reducible apply State.id_tamper | dsimp only | split

theorem State.resetKeeping_tamper {v_ : Tamper} {s : State} {powerOn : Bool} (h_ : s.tamper = v_) : (State.resetKeeping s powerOn).tamper = v_ := by
  unfold State.resetKeeping
  repeat' first
    | with_reducible assumption | with_reducible apply State.ite_tamper
    | with_reducible refine State.dite_tamper (fun _ => ?_) (fun _ => ?_) | with_reducible apply State.id_tamper | dsimp only
    | split

theorem State.lcInterrupted_tamper {v_ : Tamper} {s : State} {blown : Bool} (h_ : s.tamper = v_) : (State.lcInterrupted s blown).tamper = v_ := by
  unfold State.lcInterrupted
  repeat' first
    | with_reducible assumption | with_reducible apply State.blowFuse_tamper
    | with_reducible refine (State.tamper_of (State.event_kept rfl)).trans ?_ | with_reducible apply State.ite_tamper
    | with_reducible refine State.dite_tamper (fun _ => ?_) (fun _ => ?_) | with_reducible apply State.id_tamper | dsimp only
    | split

theorem State.flushEvents_tamper {v_ : Tamper} {n : Nat} {s : State} (h_ : s.tamper = v_) : (State.flushEvents n s).tamper = v_ := by
  induction n generalizing s with
  | zero => exact h_
  | succ n ih =>
    unfold State.flushEvents
    exact State.ite_tamper h_ (ih (State.commitRecord_tamper h_))

theorem State.commitAll_tamper {v_ : Tamper} {s : State} (h_ : s.tamper = v_) : s.commitAll.tamper = v_ :=
  State.flushEvents_tamper (n := s.events.length + 3) h_

theorem State.downRecords_tamper {v_ : Tamper} {s : State} (h_ : s.tamper = v_) : s.downRecords.tamper = v_ :=
  State.commitAll_tamper h_

theorem execPowerDownProgress_tamper {v_ : Tamper} {t : Nat} {s : State} (h_ : s.tamper = v_) :
    Lands (fun x => x.tamper = v_) (execPowerDownProgress t s) := by
  unfold execPowerDownProgress
  repeat' first
    | with_reducible apply Lands.next | with_reducible apply Lands.ite | with_reducible assumption
    | with_reducible refine (State.tamper_of (State.begin_kkept rfl)).trans ?_
    | with_reducible refine (State.tamper_of (State.downHeads_kept rfl)).trans ?_
    | with_reducible refine (State.tamper_of (State.nextStep_kept rfl)).trans ?_
    | with_reducible refine (State.tamper_of (State.downChains_kept rfl)).trans ?_
    | with_reducible refine (State.tamper_of (State.downAxes_kept rfl)).trans ?_ | with_reducible apply State.downRecords_tamper
    | with_reducible refine (State.tamper_of (State.downDomains_kept rfl)).trans ?_
    | with_reducible refine Lands.dite (fun _ => ?_) (fun _ => ?_) | with_reducible apply State.ite_tamper
    | with_reducible refine State.dite_tamper (fun _ => ?_) (fun _ => ?_) | with_reducible apply State.ite1_tamper
    | with_reducible apply State.ite2_tamper | with_reducible apply State.id_tamper | dsimp only | split

theorem State.tick_tamper {v_ : Tamper} {s : State} (h_ : s.tamper = v_) : (State.tick s).tamper = v_ := by
  unfold State.tick
  repeat' first
    | with_reducible assumption | with_reducible refine (State.tamper_of (State.begin_kkept rfl)).trans ?_
    | with_reducible apply State.transition_tamper
    | with_reducible refine (State.tamper_of (State.arrayCycle_kept rfl)).trans ?_ | with_reducible apply State.ite_tamper
    | with_reducible refine State.dite_tamper (fun _ => ?_) (fun _ => ?_) | with_reducible apply State.id_tamper | dsimp only
    | split

end Sys2Proof.Machine
end

