-- ==== Sys2Proof/Laws/Memory.lean ====
section
/-! SUPPORT. The laws of sparse maps and of external DRAM: a read after a write, what a write leaves alone, and that every operation
on memory keeps the one canonical form. -/

namespace Sys2Proof.Machine

/-! ### Sparse maps -/

section SparseMaps

variable {α : Type} {d : α} {m : SMap α} {a b : Nat} {x : α}

theorem mem_sdel {p : Nat × α} (h : p ∈ sdel m a) : p ∈ m := by
  induction m with
  | nil => exact h
  | cons q m ih =>
    simp only [sdel] at h
    split at h
    · exact List.mem_cons_of_mem _ h
    · rcases List.mem_cons.mp h with h | h
      · exact h ▸ List.mem_cons_self
      · exact List.mem_cons_of_mem _ (ih h)

theorem mem_sins {p : Nat × α} (h : p ∈ sins m a x) : p = (a, x) ∨ p ∈ m := by
  induction m with
  | nil => simpa [sins] using h
  | cons q m ih =>
    simp only [sins] at h
    split at h
    · simpa using h
    · split at h
      · rcases List.mem_cons.mp h with h | h
        · exact .inl h
        · exact .inr (List.mem_cons_of_mem _ h)
      · rcases List.mem_cons.mp h with h | h
        · exact .inr (h ▸ List.mem_cons_self)
        · rcases ih h with h | h
          · exact .inl h
          · exact .inr (List.mem_cons_of_mem _ h)

/-- Below every key listed, a map reads its default. -/
theorem sget_of_lt (h : ∀ p ∈ m, a < p.1) : sget d m a = d := by
  induction m with
  | nil => rfl
  | cons q m ih =>
    have h1 := h q List.mem_cons_self
    simp only [sget]
    rw [if_neg (by omega)]
    exact ih fun p hp => h p (List.mem_cons_of_mem _ hp)

theorem sget_sdel_ne (h : b ≠ a) : sget d (sdel m a) b = sget d m b := by
  induction m with
  | nil => rfl
  | cons q m ih =>
    simp only [sdel]
    split
    · rename_i e; simp only [sget]; rw [if_neg (by omega)]
    · simp only [sget, ih]

theorem sget_sdel_same (h : m.Pairwise fun x y => x.1 < y.1) : sget d (sdel m a) a = d := by
  induction m with
  | nil => rfl
  | cons q m ih =>
    have h := List.pairwise_cons.mp h
    simp only [sdel]
    split
    · rename_i e; exact sget_of_lt fun p hp => e ▸ h.1 p hp
    · rename_i e; simp only [sget]; rw [if_neg e]; exact ih h.2

theorem sget_sins_same : sget d (sins m a x) a = x := by
  induction m with
  | nil => simp [sins, sget]
  | cons q m ih =>
    simp only [sins]
    split
    · simp [sget]
    · split
      · simp [sget]
      · simp only [sget]; rw [if_neg (by omega)]; exact ih

theorem sget_sins_ne (h : b ≠ a) : sget d (sins m a x) b = sget d m b := by
  induction m with
  | nil => simp [sins, sget, h.symm]
  | cons q m ih =>
    simp only [sins]
    split
    · simp [sget, h.symm]
    · split
      · rename_i e; simp only [sget]; rw [if_neg h.symm, if_neg (by omega)]
      · simp only [sget, ih]

variable [DecidableEq α]

/-- A read at another key gives what it gave before the write. -/
theorem sget_sset_ne (h : b ≠ a) : sget d (sset d m a x) b = sget d m b := by
  unfold sset; split
  · exact sget_sdel_ne h
  · exact sget_sins_ne h

/-- A read at the key of a write gives the value written, in a canonical map. -/
theorem sget_sset_same (h : smapWf d m) : sget d (sset d m a x) a = x := by
  unfold sset; split
  · rename_i e; rw [sget_sdel_same h.1, e]
  · exact sget_sins_same

theorem sdel_wf (h : smapWf d m) : smapWf d (sdel m a) := by
  refine ⟨?_, fun p hp => h.2 p (mem_sdel hp)⟩
  have hp := h.1
  clear h
  induction m with
  | nil => exact List.Pairwise.nil
  | cons q m ih =>
    have hq := List.pairwise_cons.mp hp
    simp only [sdel]
    split
    · exact hq.2
    · exact List.pairwise_cons.mpr ⟨fun p h => hq.1 p (mem_sdel h), ih hq.2⟩

theorem sins_wf (h : smapWf d m) (hx : x ≠ d) : smapWf d (sins m a x) := by
  constructor
  · have hp := h.1
    clear h
    induction m with
    | nil => simp [sins]
    | cons q m ih =>
      have hq := List.pairwise_cons.mp hp
      simp only [sins]
      split
      · rename_i e
        refine List.pairwise_cons.mpr ⟨fun p h => ?_, hp⟩
        rcases List.mem_cons.mp h with h | h
        · rw [h]; exact e
        · exact Nat.lt_trans e (hq.1 p h)
      · split
        · rename_i e; exact List.pairwise_cons.mpr ⟨fun p h => e ▸ hq.1 p h, hq.2⟩
        · refine List.pairwise_cons.mpr ⟨fun p h => ?_, ih hq.2⟩
          rcases mem_sins h with h | h
          · rw [h]; show q.1 < a; omega
          · exact hq.1 p h
  · intro p hp
    rcases mem_sins hp with e | hp
    · rw [e]; exact hx
    · exact h.2 p hp

/-- A write keeps the canonical form. -/
theorem sset_wf (h : smapWf d m) : smapWf d (sset d m a x) := by
  unfold sset; split
  · exact sdel_wf h
  · rename_i e; exact sins_wf h e

end SparseMaps

/-! ### Vectors by index -/

section Vectors

variable {α : Type} {n : Nat} {v : Vector α n} {i j : Fin n} {f : α → α}

@[simp] theorem vupd_get_same : (vupd v i f)[i] = f v[i] := by simp [vupd]

theorem vupd_get_ne (h : j ≠ i) : (vupd v i f)[j] = v[j] := by
  have h' : (i : Nat) ≠ (j : Nat) := fun e => h (Fin.ext e.symm)
  simp [vupd, Vector.getElem_set_ne, h']

end Vectors

/-! ### External DRAM -/

section Dram

variable {m : List Host.Cell} {a c b : Nat} {bs : List Nat}

theorem dramPut_wf (h : Memory.wf m) : Memory.wf (dramPut m a b) := sset_wf h

theorem dramWrite_wf (h : Memory.wf m) : Memory.wf (dramWrite m a bs) := by
  induction bs generalizing m a with
  | nil => exact h
  | cons b bs ih => exact ih (dramPut_wf h)

/-- The byte written is the byte read. -/
theorem dramGet_dramPut_same (h : Memory.wf m) : dramGet (dramPut m a b) a = b % 256 := by
  unfold dramGet dramPut
  rw [sget_sset_same (d := (0 : BitVec 8)) h, BitVec.toNat_ofNat]

/-- A write leaves every other byte alone. -/
theorem dramGet_dramPut_ne (h : c ≠ a) : dramGet (dramPut m a b) c = dramGet m c := by
  simp [dramGet, dramPut, sget_sset_ne h]

/-- A string written leaves every byte outside it alone. -/
theorem dramGet_dramWrite_ne (h : c < a ∨ a + bs.length ≤ c) : dramGet (dramWrite m a bs) c = dramGet m c := by
  induction bs generalizing m a with
  | nil => rfl
  | cons b bs ih =>
    simp only [List.length_cons] at h
    rw [dramWrite, ih (by omega), dramGet_dramPut_ne (by omega)]

/-- A string written is read back. -/
theorem dramGet_dramWrite (h : Memory.wf m) {k : Nat} (hk : k < bs.length) :
    dramGet (dramWrite m a bs) (a + k) = bs[k] % 256 := by
  induction bs generalizing m a k with
  | nil => simp at hk
  | cons b bs ih =>
    cases k with
    | zero => rw [dramWrite, dramGet_dramWrite_ne (by omega)]; simpa using dramGet_dramPut_same h
    | succ k =>
      have := ih (m := dramPut m a b) (a := a + 1) (dramPut_wf h) (k := k) (by simpa using hk)
      simpa [dramWrite, Nat.add_assoc, Nat.add_comm 1 k] using this

end Dram

/-! ### The operations that write DRAM keep the canonical form -/

theorem canonical_of_dram {s s' : State} (h : s'.dram = s.dram) (hc : Safety.DramCanonical s) : Safety.DramCanonical s' := by
  unfold Safety.DramCanonical at *; rw [h]; exact hc

theorem canonical_get {s : State} (h : Safety.DramCanonical s) (c : Fin 2) : Memory.wf s.dram[c] := by
  obtain ⟨c, hc⟩ := c
  rcases (show c = 0 ∨ c = 1 by omega) with rfl | rfl
  · exact h.1
  · exact h.2

theorem canonical_of_get {s : State} (h : ∀ c : Fin 2, Memory.wf s.dram[c]) : Safety.DramCanonical s := ⟨h 0, h 1⟩

theorem State.chanWrite_canonical {s : State} {ch a : Nat} {bs : List Nat} (h : Safety.DramCanonical s) :
    Safety.DramCanonical (s.chanWrite ch a bs) := by
  refine canonical_of_get fun c => ?_
  have e : (s.chanWrite ch a bs).dram = vupd s.dram (Fin.ofNat 2 ch) fun m => dramWrite m a bs := rfl
  rw [e]
  by_cases e : c = Fin.ofNat 2 ch
  · subst e; rw [vupd_get_same]; exact dramWrite_wf (canonical_get h _)
  · rw [vupd_get_ne e]; exact canonical_get h c

theorem State.parityAt_canonical {s : State} {ch a : Nat} (h : Safety.DramCanonical s) : Safety.DramCanonical (s.parityAt ch a) :=
  State.chanWrite_canonical h

theorem State.flip_canonical {s : State} {f : BitFlip} (h : Safety.DramCanonical s) : Safety.DramCanonical (s.flip f) := by
  unfold State.flip
  dsimp only
  split
  · exact canonical_of_dram rfl h
  · exact State.chanWrite_canonical h

theorem foldl_canonical {β : Type} {g : State → β → State} {l : List β} {s : State}
    (hg : ∀ s x, Safety.DramCanonical s → Safety.DramCanonical (g s x)) (h : Safety.DramCanonical s) :
    Safety.DramCanonical (l.foldl g s) := by
  induction l generalizing s with
  | nil => exact h
  | cons x l ih => exact ih (hg s x h)

theorem State.writeTemplate_canonical {s : State} {a : Asset} {off : Nat} {bs : Bytes} (h : Safety.DramCanonical s) :
    Safety.DramCanonical (s.writeTemplate a off bs) :=
  foldl_canonical (fun _ _ h => State.parityAt_canonical h) (foldl_canonical (fun _ _ h => State.chanWrite_canonical h) h)

theorem State.writeTile_canonical {s : State} {a : Asset} {off : Nat} {bs : Bytes} (h : Safety.DramCanonical s) :
    Safety.DramCanonical (s.writeTile a off bs) := State.chanWrite_canonical h

/-! ### The commands that write DRAM keep the canonical form -/

theorem State.loadPiece_canonical {s : State} {tile : Bool} {a : Asset} {off : Nat} {bs : Bytes} (h : Safety.DramCanonical s) :
    Safety.DramCanonical (s.loadPiece tile a off bs) := by
  unfold State.loadPiece
  split
  · exact canonical_of_dram (State.dram_of (State.failLoad_kept rfl)) h
  · dsimp only
    refine canonical_of_dram (State.dram_of (State.updAsset_kept rfl)) ?_
    split
    · exact State.writeTile_canonical h
    · exact State.writeTemplate_canonical h

theorem sequenced_dram {t kind : Nat} {m : Ktp} {s s1 : State} {r : Option (Fin 32 × Nat)}
    (e : (s.begin t).sequenced kind m State.staleNowhere = (r, s1)) : s1.dram = s.dram :=
  (State.dram_of (State.sequenced_to_kept e (fun _ h => State.staleNowhere_kept h) rfl)).trans (State.dram_of (State.begin_kkept rfl))

theorem execLoadData_canonical {t : Nat} {m : Ktp} {l off : Nat} {data : Bytes} {s : State} (h : Safety.DramCanonical s) :
    Lands Safety.DramCanonical (execLoadData t m l off data s) := by
  unfold execLoadData
  dsimp only
  split
  · rename_i e; exact Lands.next (canonical_of_dram (sequenced_dram e) h)
  · rename_i s1 e
    have h1 : ∀ i n, Safety.DramCanonical (s1.markRx i n) := fun i n =>
      canonical_of_dram ((State.dram_of (State.markRx_kept rfl)).trans (sequenced_dram e)) h
    have h2 : ∀ i n, Safety.DramCanonical
        (if hp : (m.dg.only !data.isEmpty).port < 4 then { (s1.markRx i n) with
          hports := vupd (s1.markRx i n).hports ⟨(m.dg.only !data.isEmpty).port, hp⟩ fun p => { p with discard := p.discard + 1 } }
         else s1.markRx i n) := by
      intro i n; split
      · exact canonical_of_dram rfl (h1 i n)
      · exact h1 i n
    split
    · exact Lands.next (h2 _ _)
    · split
      · split
        · exact Lands.next (State.loadPiece_canonical (h1 _ _))
        · exact Lands.next (h2 _ _)
      · exact Lands.next (h2 _ _)

theorem execTileVerify_canonical {t idx : Nat} {s : State} (h : Safety.DramCanonical s) :
    Lands Safety.DramCanonical (execTileVerify t idx s) := by
  have hb : Safety.DramCanonical (s.begin t) := canonical_of_dram rfl h
  have hf : ∀ c, Safety.DramCanonical ((s.begin t).failLoad true idx c) := fun c =>
    canonical_of_dram (State.dram_of (State.failLoad_kept rfl)) hb
  unfold execTileVerify
  dsimp only
  repeat' first
    | with_reducible apply Lands.ite
    | exact Lands.next hb
    | exact Lands.next (hf _)
    | split
  refine Lands.next (canonical_of_dram (State.dram_of (State.updAsset_kept rfl)) ?_)
  exact canonical_of_dram (State.dram_of (State.closeLoad_kept rfl)) (State.chanWrite_canonical hb)

theorem execRowLineCompose_canonical {t : Nat} {flips : List BitFlip} {s : State} (h : Safety.DramCanonical s) :
    Lands Safety.DramCanonical (execRowLineCompose t flips s) := by
  have hb : Safety.DramCanonical (flips.foldl State.flip (s.begin t)) :=
    foldl_canonical (fun _ _ h => State.flip_canonical h) (canonical_of_dram rfl h)
  unfold execRowLineCompose
  dsimp only
  split
  · exact Lands.next hb
  · exact Lands.next (canonical_of_dram (State.dram_of (State.composeRow_kept rfl)) hb)

end Sys2Proof.Machine
end

