-- ==== Sys2Proof/WellFormed.lean ====
section
/-! DEFINITION. Bounds of what a command can carry: the width of every field in the tables that lay the messages, frames and
records out. The meanings are total and do not rest on them; a field that a message checks for itself (reserved values, lengths)
is checked there. -/

namespace Sys2Proof

/-- A fire-timer tick has 64 bits (R137). -/
def tickOk (t : Tick) : Bool := decide (t < 2 ^ 64)

/-- A signed value of `n` bits. -/
def intOk (n : Nat) (x : Int) : Bool := decide (-(2 ^ (n - 1) : Int) ≤ x) && decide (x < 2 ^ (n - 1))

/-- Bytes of a message: at most what a datagram holds. -/
def bytesOk (b : Bytes) : Bool := decide (b.length ≤ 65535) && b.all fun x => decide (x < 256)

/-- A VLAN ID of 12 bits, an address of 128, a UDP port of 16 (R322). -/
def Eth.bounded (e : Eth) : Bool :=
  decide (e.vid < 2 ^ 12) && decide (e.bytes < 2 ^ 16) && decide (e.ip < 7) && decide (e.dst < 2 ^ 128) &&
  match e.body with | .udp p => decide (p < 2 ^ 16) | _ => true
/-- A datagram (Table 12.2): ports 0–5, VERSION, LENGTH, session ID, sequence. -/
def Dgram.bounded (d : Dgram) : Bool :=
  decide (d.port < 6) && d.eth.bounded && decide (d.ver < 2 ^ 8) && decide (d.kind < 2 ^ 8) && decide (d.len < 2 ^ 16) &&
  decide (d.bytes < 2 ^ 16) && decide (d.sid < 2 ^ 32) && decide (d.seq < 2 ^ 64) && bytesOk d.cipher && decide (d.tag.length ≤ 16) && bytesOk d.tag
/-- R334. -/
def Ktp.bounded (m : Ktp) : Bool := m.dg.bounded && decide (m.handle < 2 ^ 32)
/-- A request (Table 13.4). -/
def Kop.bounded (k : Kop) : Bool :=
  k.dg.bounded && decide (k.op < 2 ^ 8) && decide (k.tag < 2 ^ 16) && decide (k.index < 2 ^ 16) && decide (k.sub < 2 ^ 8) &&
  decide (k.off < 2 ^ 16) && decide (k.len < 2 ^ 16)
/-- A descriptor (Tables 2.1, 2.2). -/
def Descriptor.bounded (d : Descriptor) : Bool := decide (d.hdr < 2 ^ 256) && d.tiles.all fun x => decide (x < 2 ^ 128)
/-- The words of a frame: 3 to 2,048 of 64 bits (R205). -/
def frameBounded (ws : List Nat) : Bool :=
  decide (3 ≤ ws.length) && decide (ws.length ≤ 2048) && ws.all fun w => decide (w < 2 ^ 64)
def FireRep.bounded (r : FireRep) : Bool := frameBounded r.words
/-- Payloads of an FEC block as received: at most 83 of 64 bits (Table 7.3). -/
def fecBounded (b : List Nat) : Bool := decide (b.length ≤ 83) && b.all fun w => decide (w < 2 ^ 64)
def StatusRep.bounded (r : StatusRep) : Bool := frameBounded r.words && r.rx.all fun b => fecBounded b.1 && fecBounded b.2
def LaneBlock.bounded (b : LaneBlock) : Bool := decide (b.kind < 2 ^ 8)
def LossRep.bounded (r : LossRep) : Bool := frameBounded r.words
def CtlResp.bounded (r : CtlResp) : Bool := frameBounded r.words
/-- A sync frame (Table 5.4). -/
def SyncFrame.bounded (f : SyncFrame) : Bool :=
  decide (f.srcPos < 8) && decide (f.seq < 256) && decide (f.hops < 16) && decide (f.txFt < 2 ^ 64) && decide (f.echoFt < 2 ^ 64) &&
  decide (f.echoDwell < 2 ^ 32) && decide (f.snapFt < 2 ^ 64) && intOk 48 f.bp0Pos && intOk 48 f.bp1Pos &&
  decide (f.bp0Age < 2 ^ 16) && decide (f.bp1Age < 2 ^ 16) && decide (f.rsv < 16) && decide (f.crc < 2 ^ 32)
/-- A precision-time message. -/
def PtpMsg.bounded (m : PtpMsg) : Bool :=
  m.eth.bounded && decide (m.kind < 6) && decide (m.domain < 256) && intOk 16 m.utcOffset && decide (m.rx < 2 ^ 64) && decide (m.seqId < 2 ^ 16)
/-- A source of datagrams. -/
def Path.bounded (p : Path) : Bool := decide (p.port < 6)
def Sender.bounded (x : Sender) : Bool :=
  x.path.bounded && x.eth.bounded && decide (x.ver < 2 ^ 8) && decide (x.kind < 2 ^ 8) && decide (x.len < 2 ^ 16) &&
  decide (x.bytes < 2 ^ 16) && decide (x.sid < 2 ^ 32) && decide (x.seq < 2 ^ 64)
/-- Sync headers of two bits (R199). -/
def LaneHeaders.bounded (x : LaneHeaders) : Bool := x.hdrs.all fun h => decide (h < 4)
/-- A supply of Table 19.4. -/
def SupplyReading.bounded (x : SupplyReading) : Bool := decide (x.supply < 7) && decide (x.uv < 2 ^ 32)
/-- A reading of the clocks. -/
def ClockReading.bounded (x : ClockReading) : Bool := decide (x.ps < 2 ^ 32) && decide (x.ns < 2 ^ 32)
/-- HELLO (Tables 12.5, 16.8). -/
def HelloMsg.bounded (m : HelloMsg) : Bool := bytesOk m.bytes
/-- ACK (Table 12.7). -/
def AckMsg.bounded (m : AckMsg) : Bool := decide (m.body < 2 ^ 128)
/-- A CAN FD frame (R363): 29 bits of identifier, up to 64 bytes. -/
def CanMsg.bounded (m : CanMsg) : Bool := decide (m.ident < 2 ^ 29) && decide (m.data.length ≤ 64) && bytesOk m.data
/-- A word of a swept array (Tables 15.1, 15.2). -/
def MemWord.bounded (w : MemWord) : Bool :=
  decide (w.array < 3) && decide (w.inst < 16) && decide (w.macro_ < 64) && decide (w.row < 512) && decide (w.column < 144)
/-- Records of chapter 16 (Tables 16.2, 16.5, 16.6, 16.10). -/
def LcReq.bounded (r : LcReq) : Bool := decide (r.body < 2 ^ 2048)
def OwnerRec.bounded (r : OwnerRec) : Bool := decide (r.body < 2 ^ 2048)
def ListLoad.bounded (r : ListLoad) : Bool := decide (r.body < 2 ^ 8192)
def ClearTok.bounded (k : ClearTok) : Bool := decide (k.body < 2 ^ 2048)
/-- A faulty cell of a macro of 512 rows, of 128 columns and 16 of check bits. -/
def CellFault.bounded (f : CellFault) : Bool := decide (f.row < 512) && decide (f.column < 144)
/-- A fault in a buffer: the fields of its location code (R29). -/
def BufFault.bounded (f : BufFault) : Bool :=
  decide (f.sub < 32) && decide (f.slice < 64) && decide (f.block < 64) && decide (f.row < 2 ^ 16) && decide (f.column < 2 ^ 16) && decide (f.count < 256)
/-- A patch image: versions of 16 bits, eight engines, a slot of 512 KiB (R405). -/
def PatchImage.bounded (x : PatchImage) : Bool :=
  decide (x.rom < 2 ^ 16) && decide (x.version < 2 ^ 16) && decide (x.mask < 2 ^ 8) && decide (x.len ≤ 524288)
/-- What a tamper source measures: the mesh pattern has 16 bits. -/
def TamperSense.bounded : TamperSense → Bool
  | .mesh d r _ => decide (d < 2 ^ 16) && decide (r < 2 ^ 16)
  | .temp x => intOk 16 x
  | _ => true
/-- What a start-up finds. -/
def PowerUp.bounded (p : PowerUp) : Bool :=
  decide (p.bpos < 8) && decide (p.calendar < 2 ^ 64) && (p.arrays.all fun a => decide (a.1 < 20480) && a.2.bounded) &&
  p.buffers.all BufFault.bounded && p.installs.all fun x => x.2.bounded
/-- A changed bit of a DRAM byte. -/
def BitFlip.bounded (b : BitFlip) : Bool := decide (b.ch < 2) && decide (b.bit < 8)
/-- A part of a plane-line (Table 12.9). -/
def StreamPart.bounded (p : StreamPart) : Bool :=
  decide (p.handle < 2 ^ 16) && decide (p.plane < 8) && decide (p.line < 2 ^ 24) && decide (p.offset < 2 ^ 32) && decide (p.crc < 2 ^ 32) &&
  bytesOk p.data

/-- A command that the outside of the block can send: every operand within the width of its field. -/
def Instr.wf (i : Instr) : Bool :=
  match i with
  | .itemSubmit t m descs => tickOk t && m.bounded && (descs.length == 0 || decide (descs.length ≤ 255)) && descs.all Descriptor.bounded
  | .submission t _ => tickOk t
  | .admissionEvaluation t _ => tickOk t
  | .skippedNoMark t _ => tickOk t
  | .fireReport t _ r => tickOk t && r.bounded
  | .fireReportTimeout t _ _ => tickOk t
  | .outcomeNotice t => tickOk t
  | .itemOutcomeRead t k => tickOk t && k.bounded
  | .rejectAssert t _ handle => tickOk t && decide (handle < 2 ^ 16)
  | .rejectRelease t _ => tickOk t
  | .zoneEnable t k _ => tickOk t && k.bounded
  | .zoneDrain t k _ => tickOk t && k.bounded
  | .zoneAbort t k _ => tickOk t && k.bounded
  | .zoneDrainComplete t _ => tickOk t
  | .rejectHoldClear t k _ => tickOk t && k.bounded
  | .itemAbort t k handle => tickOk t && k.bounded && decide (handle < 2 ^ 16)
  | .templateBegin t m loadId hdr => tickOk t && m.bounded && decide (loadId < 2 ^ 16) && decide (hdr < 2 ^ 256)
  | .tileBegin t m loadId hdr => tickOk t && m.bounded && decide (loadId < 2 ^ 16) && decide (hdr < 2 ^ 256)
  | .loadData t m loadId offset data => tickOk t && m.bounded && decide (loadId < 2 ^ 16) && decide (offset < 2 ^ 64) && bytesOk data
  | .loadCancel t m loadId => tickOk t && m.bounded && decide (loadId < 2 ^ 16)
  | .templateVerify t idx => tickOk t && decide (idx < 256)
  | .tileVerify t idx => tickOk t && decide (idx < 65536)
  | .templateDelete t k handle => tickOk t && k.bounded && decide (handle < 2 ^ 32)
  | .tileDelete t k handle => tickOk t && k.bounded && decide (handle < 2 ^ 32)
  | .rowLineCompose t flips => tickOk t && flips.all BitFlip.bounded
  | .dramChannelFault t _ => tickOk t
  | .dramRetrainComplete t _ _ => tickOk t
  | .streamLine t m part => tickOk t && m.bounded && part.bounded
  | .generationInstall t _ => tickOk t
  | .encoderEdge t _ _ _ stamp => tickOk t && decide (stamp < 2 ^ 64)
  | .heldEdgeProcess t _ => tickOk t
  | .edgeTimeout t _ => tickOk t
  | .frameBuildEvaluation t => tickOk t
  | .cancelSend t _ _ => tickOk t
  | .traverseArm t _ => tickOk t
  | .traverseEnd t _ => tickOk t
  | .alignmentPattern t k _ cmd => tickOk t && k.bounded && decide (cmd < 2 ^ 128)
  | .syncFrameSend t _ => tickOk t
  | .syncFrameReceive t _ f => tickOk t && f.bounded
  | .fireTimerStep t => tickOk t
  | .syncHoldover t => tickOk t
  | .syncStartupEnd t => tickOk t
  | .boardFaultAssert t k v => tickOk t && k.bounded && decide (v < 2)
  | .vphSample t _ mv sense => tickOk t && decide (mv < 2 ^ 16) && decide (sense.natAbs ≤ 125000000)
  | .vphSampleTimeout t _ => tickOk t
  | .sourceResistanceEstimate t _ => tickOk t
  | .temperatureStale t _ => tickOk t
  | .supplyOn t k _ => tickOk t && k.bounded
  | .supplyOff t k _ => tickOk t && k.bounded
  | .chainSupplyReset t k _ => tickOk t && k.bounded
  | .supplyRampStart t _ => tickOk t
  | .rampTimeout t _ => tickOk t
  | .inrushTimeout t _ => tickOk t
  | .switchLeak t _ => tickOk t
  | .hvDieLoss t _ => tickOk t
  | .linkBringup t _ => tickOk t
  | .linkBringupRetry t _ => tickOk t
  | .portAutoBringup t _ => tickOk t
  | .enumerate t k _ => tickOk t && k.bounded
  | .echoMeasurement t _ _ echoes lam => tickOk t && decide (echoes.length ≤ 8) && decide (lam < 2 ^ 32)
  | .timePairSend t _ => tickOk t
  | .lineFrameTransmit t _ => tickOk t
  | .statusFrame t _ r => tickOk t && r.bounded
  | .lossReport t _ r => tickOk t && r.bounded
  | .controlResponse t _ r => tickOk t && r.bounded
  | .controlTimeout t _ _ => tickOk t
  | .statusTimeout t _ _ => tickOk t
  | .neighbourLockTimeout t _ _ => tickOk t
  | .portBlockLockLoss t _ => tickOk t
  | .spareTakeoverL0 t k _ => tickOk t && k.bounded
  | .spareTakeoverL1 t k _ => tickOk t && k.bounded
  | .spareRelease t k _ => tickOk t && k.bounded
  | .laneMove t _ => tickOk t
  | .reverseBlock t _ b content => tickOk t && b.bounded && decide (content < 2 ^ 56)
  | .dualLockRegained t _ => tickOk t
  | .restore t k _ => tickOk t && k.bounded
  | .headVerification t _ _ => tickOk t
  | .trimLoad t _ _ => tickOk t
  | .scanBlockStart t _ => tickOk t
  | .scanBlockComplete t _ _ v0 vs => tickOk t && decide (v0 < 2 ^ 16) && vs.all (fun x => decide (x < 2 ^ 16))
  | .scanIntervalExpiry t _ => tickOk t
  | .scanFull t k _ => tickOk t && k.bounded
  | .scanRebaseline t k _ => tickOk t && k.bounded
  | .warmStep t _ => tickOk t
  | .cooldownReturn t _ => tickOk t
  | .wireDisagreement t _ cause => tickOk t && decide (cause < 2 ^ 8)
  | .ssiRead t _ stamp bits _ _ => tickOk t && decide (stamp < 2 ^ 64) && decide (bits < 2 ^ 64)
  | .sincosSample t _ x y => tickOk t && intOk 16 x && intOk 16 y
  | .indexPulse t _ _ stamp => tickOk t && decide (stamp < 2 ^ 64)
  | .channelStarted t _ => tickOk t
  | .channelClear t k _ => tickOk t && k.bounded
  | .channelPreset t k _ v => tickOk t && k.bounded && decide (v < 2 ^ 64)
  | .speedSample t _ => tickOk t
  | .markEdge t _ stamp _ => tickOk t && decide (stamp < 2 ^ 64)
  | .markOffer t _ => tickOk t
  | .switchEdge t _ stamp _ => tickOk t && decide (stamp < 2 ^ 64)
  | .gateTest t k _ => tickOk t && k.bounded
  | .axisEnable t k _ retHighFor => tickOk t && k.bounded && decide (retHighFor < 2 ^ 64)
  | .axisDisable t k _ => tickOk t && k.bounded
  | .moveAbsolute t k _ v => tickOk t && k.bounded && decide (v < 2 ^ 64)
  | .moveRelative t k _ v => tickOk t && k.bounded && decide (v < 2 ^ 64)
  | .axisStop t k _ => tickOk t && k.bounded
  | .axisHome t k _ v => tickOk t && k.bounded && decide (v < 2 ^ 64)
  | .followStart t k _ => tickOk t && k.bounded
  | .followEnd t k _ => tickOk t && k.bounded
  | .axisPowerDown t k _ => tickOk t && k.bounded
  | .retRelease t _ => tickOk t
  | .retentionCheck t _ _ => tickOk t
  | .retentionComplete t _ => tickOk t
  | .retentionTimeout t _ => tickOk t
  | .axisPreset t k _ v => tickOk t && k.bounded && decide (v < 2 ^ 64)
  | .axisClear t k _ => tickOk t && k.bounded
  | .groupMove t k _ targets => tickOk t && k.bounded && decide (targets < 2 ^ 512)
  | .groupStop t k _ => tickOk t && k.bounded
  | .moveComplete t _ => tickOk t
  | .stopComplete t _ => tickOk t
  | .virtualLimitCrossed t _ => tickOk t
  | .coarseStep t _ _ => tickOk t
  | .driverSupplyLoss t _ => tickOk t
  | .feedMoveStart t _ => tickOk t
  | .calibrationTemperatureCheck t => tickOk t
  | .encoderCollectionComplete t _ => tickOk t
  | .collectionTimeout t _ => tickOk t
  | .encoderComputeDone t _ => tickOk t
  | .encoderVerifyDone t _ => tickOk t
  | .calibrationApply t _ => tickOk t
  | .applyTimeout t _ => tickOk t
  | .receiveRunStart t _ _ => tickOk t
  | .receiveRunComplete t _ openOff oldEye => tickOk t && decide (openOff < 2 ^ 8) && decide (oldEye < 2 ^ 8)
  | .transmitRunStart t _ _ => tickOk t
  | .transmitLockTimeout t _ => tickOk t
  | .requestCancel t k _ => tickOk t && k.bounded
  | .requestEncoderCal t k _ target deadline => tickOk t && k.bounded && decide (target < 2 ^ 16) && decide (deadline < 2 ^ 64)
  | .requestLaneCal t k _ target deadline => tickOk t && k.bounded && decide (target < 2 ^ 16) && decide (deadline < 2 ^ 64)
  | .requestElementScan t k _ target deadline => tickOk t && k.bounded && decide (target < 2 ^ 16) && decide (deadline < 2 ^ 64)
  | .requestMemoryTest t k _ target deadline => tickOk t && k.bounded && decide (target < 2 ^ 16) && decide (deadline < 2 ^ 64)
  | .requestWindowCheck t _ => tickOk t
  | .requestDeadline t _ => tickOk t
  | .calibrationValueWrite t k index sub v => tickOk t && k.bounded && decide (index < 2 ^ 16) && decide (sub < 2 ^ 8) && decide (v < 2 ^ 8192)
  | .autoCalibrationWrite t k index sub v => tickOk t && k.bounded && decide (index < 2 ^ 16) && decide (sub < 2 ^ 8) && decide (v < 2 ^ 8192)
  | .hostLinkUp t _ => tickOk t
  | .hostLinkDown t _ => tickOk t
  | .ptpMessage t _ m => tickOk t && m.bounded
  | .hello t src m => tickOk t && src.bounded && m.bounded
  | .proof t src hid sig => tickOk t && src.bounded && decide (hid < 2 ^ 32) && decide (sig < 2 ^ 512)
  | .handshakeTimeout t hid => tickOk t && decide (hid < 2 ^ 32)
  | .heartbeat t dg => tickOk t && dg.bounded
  | .close t dg => tickOk t && dg.bounded
  | .ack t dg m => tickOk t && dg.bounded && m.bounded
  | .ackSend t _ => tickOk t
  | .retransmit t _ n => tickOk t && decide (n < 2 ^ 27)
  | .leaseExpiry t _ => tickOk t
  | .sessionEvict t k _ => tickOk t && k.bounded
  | .ownershipClaim t k _ => tickOk t && k.bounded
  | .ownershipRelease t k _ => tickOk t && k.bounded
  | .ownershipTake t k _ => tickOk t && k.bounded
  | .ownershipLapse t _ => tickOk t
  | .registerWrite t k index sub v => tickOk t && k.bounded && decide (index < 2 ^ 16) && decide (sub < 2 ^ 8) && decide (v < 2 ^ 8192)
  | .txBegin t k => tickOk t && k.bounded
  | .txWrite t k txid index sub v => tickOk t && k.bounded && decide (txid < 2 ^ 32) && decide (index < 2 ^ 16) && decide (sub < 2 ^ 8) && decide (v < 2 ^ 8192)
  | .txRead t k txid index sub => tickOk t && k.bounded && decide (txid < 2 ^ 32) && decide (index < 2 ^ 16) && decide (sub < 2 ^ 8)
  | .txCommit t k txid limit => tickOk t && k.bounded && decide (txid < 2 ^ 32) && decide (limit < 2 ^ 32)
  | .txAbort t k txid => tickOk t && k.bounded && decide (txid < 2 ^ 32)
  | .txStatus t k txid => tickOk t && k.bounded && decide (txid < 2 ^ 32)
  | .commitApply t _ => tickOk t
  | .commitTimeout t _ => tickOk t
  | .transactionExpiry t _ => tickOk t
  | .transactionSlotAbort t k _ => tickOk t && k.bounded
  | .canFrame t _ m => tickOk t && m.bounded
  | .canReassemblyTimeout t _ host => tickOk t && decide (host < 64)
  | .storeSave t k => tickOk t && k.bounded
  | .storeSaveRestart t k => tickOk t && k.bounded
  | .storeErase t k => tickOk t && k.bounded
  | .saveComplete t _ => tickOk t
  | .engineWatchdog t _ => tickOk t
  | .engineInvalidOperation t _ => tickOk t
  | .engineRestart t _ _ _ => tickOk t
  | .uncorrectableWord t w => tickOk t && w.bounded
  | .regionTestStart t => tickOk t
  | .regionTestComplete t faults singles => tickOk t && faults.all CellFault.bounded && singles.all fun w => decide (w < 64)
  | .memoryTestRegion t => tickOk t
  | .transparentTestWrite t k v => tickOk t && k.bounded && decide (v < 2 ^ 8)
  | .lifeCycleRequest t k r stuck => tickOk t && k.bounded && r.bounded && stuck.all (fun x => decide (x < 2 ^ 16))
  | .ownerKeyLoad t k r => tickOk t && k.bounded && r.bounded
  | .headMakerListReplace t k r => tickOk t && k.bounded && r.bounded
  | .headMakerListAdd t k r => tickOk t && k.bounded && r.bounded
  | .headMakerListRemove t k r => tickOk t && k.bounded && r.bounded
  | .tamperDetect t x stuck => tickOk t && x.sense.bounded && stuck.all (fun x => decide (x < 2 ^ 16))
  | .tamperClear t k active => tickOk t && k.bounded && decide (active < 2 ^ 9)
  | .recordCommit t => tickOk t
  | .recorderClear t k tok => tickOk t && k.bounded && tok.bounded
  | .operatingSecondsWrite t => tickOk t
  | .calendarDiscipline t => tickOk t
  | .calendarSet t k v => tickOk t && k.bounded && decide (v < 2 ^ 64)
  | .snapshot t k => tickOk t && k.bounded
  | .boardSnapshot t k => tickOk t && k.bounded
  | .snapshotPeriod t => tickOk t
  | .snapshotLatch t => tickOk t
  | .snapshotBufferSwap t => tickOk t
  | .powerOnReset t p => tickOk t && p.bounded
  | .externalReset t p => tickOk t && p.bounded
  | .restart t k => tickOk t && k.bounded
  | .debugReset t p => tickOk t && p.bounded
  | .supplyOutOfRange t x p => tickOk t && x.bounded && p.bounded
  | .coreSupplyExcursion t supply _ uv => tickOk t && decide (supply < 7) && decide (uv < 2 ^ 32)
  | .clockLoss t x stuck p => tickOk t && x.bounded && stuck.all (fun x => decide (x < 2 ^ 16)) && p.bounded
  | .lanePllLoss t _ => tickOk t
  | .dieTemperatureSample t temp => tickOk t && intOk 16 temp
  | .deviceReady t => tickOk t
  | .domainRetention t _ => tickOk t
  | .domainOff t _ => tickOk t
  | .domainWake t _ => tickOk t
  | .domainWakeComplete t x => tickOk t && x.buffers.all BufFault.bounded && x.found.all fun a => decide (a.1 < 20480) && a.2.bounded
  | .orderlyPowerDown t k => tickOk t && k.bounded
  | .powerDownProgress t => tickOk t
  | .blockLockLost t _ x => tickOk t && x.bounded
  | .blockLockGained t _ x => tickOk t && x.bounded
  | .fecModeStart t _ => tickOk t
  | .canBusError t _ _ _ => tickOk t
  | .busOffRecovery t _ => tickOk t
  | .terminationCalibrationDone t _ code => tickOk t && decide (code < 2 ^ 8)
  | .commandedResetTimeout t p => tickOk t && p.bounded
  | .engineRunning t _ => tickOk t

end Sys2Proof
end

