-- ==== Sys2Proof/Laws/PerInstr.lean ====
section
/-! SUPPORT. What is said of each command as syntax, one lemma for each constructor: a well-formed command carries a tick of the 64-bit
fire timer (R137). -/

namespace Sys2Proof.Laws.CarriesTick

/-- The tick that a command carries. -/
def tick : Instr → Nat
  | .itemSubmit t _ _ => t
  | .submission t _ => t
  | .admissionEvaluation t _ => t
  | .skippedNoMark t _ => t
  | .fireReport t _ _ => t
  | .fireReportTimeout t _ _ => t
  | .outcomeNotice t => t
  | .itemOutcomeRead t _ => t
  | .rejectAssert t _ _ => t
  | .rejectRelease t _ => t
  | .zoneEnable t _ _ => t
  | .zoneDrain t _ _ => t
  | .zoneAbort t _ _ => t
  | .zoneDrainComplete t _ => t
  | .rejectHoldClear t _ _ => t
  | .itemAbort t _ _ => t
  | .templateBegin t _ _ _ => t
  | .tileBegin t _ _ _ => t
  | .loadData t _ _ _ _ => t
  | .loadCancel t _ _ => t
  | .templateVerify t _ => t
  | .tileVerify t _ => t
  | .templateDelete t _ _ => t
  | .tileDelete t _ _ => t
  | .rowLineCompose t _ => t
  | .dramChannelFault t _ => t
  | .dramRetrainComplete t _ _ => t
  | .streamLine t _ _ => t
  | .generationInstall t _ => t
  | .encoderEdge t _ _ _ _ => t
  | .heldEdgeProcess t _ => t
  | .edgeTimeout t _ => t
  | .frameBuildEvaluation t => t
  | .cancelSend t _ _ => t
  | .traverseArm t _ => t
  | .traverseEnd t _ => t
  | .alignmentPattern t _ _ _ => t
  | .syncFrameSend t _ => t
  | .syncFrameReceive t _ _ => t
  | .fireTimerStep t => t
  | .syncHoldover t => t
  | .syncStartupEnd t => t
  | .boardFaultAssert t _ _ => t
  | .vphSample t _ _ _ => t
  | .vphSampleTimeout t _ => t
  | .sourceResistanceEstimate t _ => t
  | .temperatureStale t _ => t
  | .supplyOn t _ _ => t
  | .supplyOff t _ _ => t
  | .chainSupplyReset t _ _ => t
  | .supplyRampStart t _ => t
  | .rampTimeout t _ => t
  | .inrushTimeout t _ => t
  | .switchLeak t _ => t
  | .hvDieLoss t _ => t
  | .linkBringup t _ => t
  | .linkBringupRetry t _ => t
  | .portAutoBringup t _ => t
  | .enumerate t _ _ => t
  | .echoMeasurement t _ _ _ _ => t
  | .timePairSend t _ => t
  | .lineFrameTransmit t _ => t
  | .statusFrame t _ _ => t
  | .lossReport t _ _ => t
  | .controlResponse t _ _ => t
  | .controlTimeout t _ _ => t
  | .statusTimeout t _ _ => t
  | .neighbourLockTimeout t _ _ => t
  | .portBlockLockLoss t _ => t
  | .spareTakeoverL0 t _ _ => t
  | .spareTakeoverL1 t _ _ => t
  | .spareRelease t _ _ => t
  | .laneMove t _ => t
  | .reverseBlock t _ _ _ => t
  | .dualLockRegained t _ => t
  | .restore t _ _ => t
  | .headVerification t _ _ => t
  | .trimLoad t _ _ => t
  | .scanBlockStart t _ => t
  | .scanBlockComplete t _ _ _ _ => t
  | .scanIntervalExpiry t _ => t
  | .scanFull t _ _ => t
  | .scanRebaseline t _ _ => t
  | .warmStep t _ => t
  | .cooldownReturn t _ => t
  | .wireDisagreement t _ _ => t
  | .ssiRead t _ _ _ _ _ => t
  | .sincosSample t _ _ _ => t
  | .indexPulse t _ _ _ => t
  | .channelStarted t _ => t
  | .channelClear t _ _ => t
  | .channelPreset t _ _ _ => t
  | .speedSample t _ => t
  | .markEdge t _ _ _ => t
  | .markOffer t _ => t
  | .switchEdge t _ _ _ => t
  | .gateTest t _ _ => t
  | .axisEnable t _ _ _ => t
  | .axisDisable t _ _ => t
  | .moveAbsolute t _ _ _ => t
  | .moveRelative t _ _ _ => t
  | .axisStop t _ _ => t
  | .axisHome t _ _ _ => t
  | .followStart t _ _ => t
  | .followEnd t _ _ => t
  | .axisPowerDown t _ _ => t
  | .retRelease t _ => t
  | .retentionCheck t _ _ => t
  | .retentionComplete t _ => t
  | .retentionTimeout t _ => t
  | .axisPreset t _ _ _ => t
  | .axisClear t _ _ => t
  | .groupMove t _ _ _ => t
  | .groupStop t _ _ => t
  | .moveComplete t _ => t
  | .stopComplete t _ => t
  | .virtualLimitCrossed t _ => t
  | .coarseStep t _ _ => t
  | .driverSupplyLoss t _ => t
  | .feedMoveStart t _ => t
  | .calibrationTemperatureCheck t => t
  | .encoderCollectionComplete t _ => t
  | .collectionTimeout t _ => t
  | .encoderComputeDone t _ => t
  | .encoderVerifyDone t _ => t
  | .calibrationApply t _ => t
  | .applyTimeout t _ => t
  | .receiveRunStart t _ _ => t
  | .receiveRunComplete t _ _ _ => t
  | .transmitRunStart t _ _ => t
  | .transmitLockTimeout t _ => t
  | .requestCancel t _ _ => t
  | .requestEncoderCal t _ _ _ _ => t
  | .requestLaneCal t _ _ _ _ => t
  | .requestElementScan t _ _ _ _ => t
  | .requestMemoryTest t _ _ _ _ => t
  | .requestWindowCheck t _ => t
  | .requestDeadline t _ => t
  | .calibrationValueWrite t _ _ _ _ => t
  | .autoCalibrationWrite t _ _ _ _ => t
  | .hostLinkUp t _ => t
  | .hostLinkDown t _ => t
  | .ptpMessage t _ _ => t
  | .hello t _ _ => t
  | .proof t _ _ _ => t
  | .handshakeTimeout t _ => t
  | .heartbeat t _ => t
  | .close t _ => t
  | .ack t _ _ => t
  | .ackSend t _ => t
  | .retransmit t _ _ => t
  | .leaseExpiry t _ => t
  | .sessionEvict t _ _ => t
  | .ownershipClaim t _ _ => t
  | .ownershipRelease t _ _ => t
  | .ownershipTake t _ _ => t
  | .ownershipLapse t _ => t
  | .registerWrite t _ _ _ _ => t
  | .txBegin t _ => t
  | .txWrite t _ _ _ _ _ => t
  | .txRead t _ _ _ _ => t
  | .txCommit t _ _ _ => t
  | .txAbort t _ _ => t
  | .txStatus t _ _ => t
  | .commitApply t _ => t
  | .commitTimeout t _ => t
  | .transactionExpiry t _ => t
  | .transactionSlotAbort t _ _ => t
  | .canFrame t _ _ => t
  | .canReassemblyTimeout t _ _ => t
  | .storeSave t _ => t
  | .storeSaveRestart t _ => t
  | .storeErase t _ => t
  | .saveComplete t _ => t
  | .engineWatchdog t _ => t
  | .engineInvalidOperation t _ => t
  | .engineRestart t _ _ _ => t
  | .uncorrectableWord t _ => t
  | .regionTestStart t => t
  | .regionTestComplete t _ _ => t
  | .memoryTestRegion t => t
  | .transparentTestWrite t _ _ => t
  | .lifeCycleRequest t _ _ _ => t
  | .ownerKeyLoad t _ _ => t
  | .headMakerListReplace t _ _ => t
  | .headMakerListAdd t _ _ => t
  | .headMakerListRemove t _ _ => t
  | .tamperDetect t _ _ => t
  | .tamperClear t _ _ => t
  | .recordCommit t => t
  | .recorderClear t _ _ => t
  | .operatingSecondsWrite t => t
  | .calendarDiscipline t => t
  | .calendarSet t _ _ => t
  | .snapshot t _ => t
  | .boardSnapshot t _ => t
  | .snapshotPeriod t => t
  | .snapshotLatch t => t
  | .snapshotBufferSwap t => t
  | .powerOnReset t _ => t
  | .externalReset t _ => t
  | .restart t _ => t
  | .debugReset t _ => t
  | .supplyOutOfRange t _ _ => t
  | .coreSupplyExcursion t _ _ _ => t
  | .clockLoss t _ _ _ => t
  | .lanePllLoss t _ => t
  | .dieTemperatureSample t _ => t
  | .deviceReady t => t
  | .domainRetention t _ => t
  | .domainOff t _ => t
  | .domainWake t _ => t
  | .domainWakeComplete t _ => t
  | .orderlyPowerDown t _ => t
  | .powerDownProgress t => t
  | .blockLockLost t _ _ => t
  | .blockLockGained t _ _ => t
  | .fecModeStart t _ => t
  | .canBusError t _ _ _ => t
  | .busOffRecovery t _ => t
  | .terminationCalibrationDone t _ _ => t
  | .commandedResetTimeout t _ => t
  | .engineRunning t _ => t

/-- A well-formed command carries a tick below 2^64. -/
def Statement (i : Instr) : Prop := i.wf = true → tick i < 2 ^ 64

theorem left {a b : Bool} (h : (a && b) = true) : a = true := (Bool.and_eq_true_iff.mp h).1
theorem bound {t : Nat} (h : tickOk t = true) : t < 2 ^ 64 := of_decide_eq_true h

theorem itemSubmit {t a1 a2} : Statement (.itemSubmit t a1 a2) := fun h => bound (left (left (left h)))
theorem submission {t a1} : Statement (.submission t a1) := fun h => bound h
theorem admissionEvaluation {t a1} : Statement (.admissionEvaluation t a1) := fun h => bound h
theorem skippedNoMark {t a1} : Statement (.skippedNoMark t a1) := fun h => bound h
theorem fireReport {t a1 a2} : Statement (.fireReport t a1 a2) := fun h => bound (left h)
theorem fireReportTimeout {t a1 a2} : Statement (.fireReportTimeout t a1 a2) := fun h => bound h
theorem outcomeNotice {t} : Statement (.outcomeNotice t) := fun h => bound h
theorem itemOutcomeRead {t a1} : Statement (.itemOutcomeRead t a1) := fun h => bound (left h)
theorem rejectAssert {t a1 a2} : Statement (.rejectAssert t a1 a2) := fun h => bound (left h)
theorem rejectRelease {t a1} : Statement (.rejectRelease t a1) := fun h => bound h
theorem zoneEnable {t a1 a2} : Statement (.zoneEnable t a1 a2) := fun h => bound (left h)
theorem zoneDrain {t a1 a2} : Statement (.zoneDrain t a1 a2) := fun h => bound (left h)
theorem zoneAbort {t a1 a2} : Statement (.zoneAbort t a1 a2) := fun h => bound (left h)
theorem zoneDrainComplete {t a1} : Statement (.zoneDrainComplete t a1) := fun h => bound h
theorem rejectHoldClear {t a1 a2} : Statement (.rejectHoldClear t a1 a2) := fun h => bound (left h)
theorem itemAbort {t a1 a2} : Statement (.itemAbort t a1 a2) := fun h => bound (left (left h))
theorem templateBegin {t a1 a2 a3} : Statement (.templateBegin t a1 a2 a3) := fun h => bound (left (left (left h)))
theorem tileBegin {t a1 a2 a3} : Statement (.tileBegin t a1 a2 a3) := fun h => bound (left (left (left h)))
theorem loadData {t a1 a2 a3 a4} : Statement (.loadData t a1 a2 a3 a4) := fun h => bound (left (left (left (left h))))
theorem loadCancel {t a1 a2} : Statement (.loadCancel t a1 a2) := fun h => bound (left (left h))
theorem templateVerify {t a1} : Statement (.templateVerify t a1) := fun h => bound (left h)
theorem tileVerify {t a1} : Statement (.tileVerify t a1) := fun h => bound (left h)
theorem templateDelete {t a1 a2} : Statement (.templateDelete t a1 a2) := fun h => bound (left (left h))
theorem tileDelete {t a1 a2} : Statement (.tileDelete t a1 a2) := fun h => bound (left (left h))
theorem rowLineCompose {t a1} : Statement (.rowLineCompose t a1) := fun h => bound (left h)
theorem dramChannelFault {t a1} : Statement (.dramChannelFault t a1) := fun h => bound h
theorem dramRetrainComplete {t a1 a2} : Statement (.dramRetrainComplete t a1 a2) := fun h => bound h
theorem streamLine {t a1 a2} : Statement (.streamLine t a1 a2) := fun h => bound (left (left h))
theorem generationInstall {t a1} : Statement (.generationInstall t a1) := fun h => bound h
theorem encoderEdge {t a1 a2 a3 a4} : Statement (.encoderEdge t a1 a2 a3 a4) := fun h => bound (left h)
theorem heldEdgeProcess {t a1} : Statement (.heldEdgeProcess t a1) := fun h => bound h
theorem edgeTimeout {t a1} : Statement (.edgeTimeout t a1) := fun h => bound h
theorem frameBuildEvaluation {t} : Statement (.frameBuildEvaluation t) := fun h => bound h
theorem cancelSend {t a1 a2} : Statement (.cancelSend t a1 a2) := fun h => bound h
theorem traverseArm {t a1} : Statement (.traverseArm t a1) := fun h => bound h
theorem traverseEnd {t a1} : Statement (.traverseEnd t a1) := fun h => bound h
theorem alignmentPattern {t a1 a2 a3} : Statement (.alignmentPattern t a1 a2 a3) := fun h => bound (left (left h))
theorem syncFrameSend {t a1} : Statement (.syncFrameSend t a1) := fun h => bound h
theorem syncFrameReceive {t a1 a2} : Statement (.syncFrameReceive t a1 a2) := fun h => bound (left h)
theorem fireTimerStep {t} : Statement (.fireTimerStep t) := fun h => bound h
theorem syncHoldover {t} : Statement (.syncHoldover t) := fun h => bound h
theorem syncStartupEnd {t} : Statement (.syncStartupEnd t) := fun h => bound h
theorem boardFaultAssert {t a1 a2} : Statement (.boardFaultAssert t a1 a2) := fun h => bound (left (left h))
theorem vphSample {t a1 a2 a3} : Statement (.vphSample t a1 a2 a3) := fun h => bound (left (left h))
theorem vphSampleTimeout {t a1} : Statement (.vphSampleTimeout t a1) := fun h => bound h
theorem sourceResistanceEstimate {t a1} : Statement (.sourceResistanceEstimate t a1) := fun h => bound h
theorem temperatureStale {t a1} : Statement (.temperatureStale t a1) := fun h => bound h
theorem supplyOn {t a1 a2} : Statement (.supplyOn t a1 a2) := fun h => bound (left h)
theorem supplyOff {t a1 a2} : Statement (.supplyOff t a1 a2) := fun h => bound (left h)
theorem chainSupplyReset {t a1 a2} : Statement (.chainSupplyReset t a1 a2) := fun h => bound (left h)
theorem supplyRampStart {t a1} : Statement (.supplyRampStart t a1) := fun h => bound h
theorem rampTimeout {t a1} : Statement (.rampTimeout t a1) := fun h => bound h
theorem inrushTimeout {t a1} : Statement (.inrushTimeout t a1) := fun h => bound h
theorem switchLeak {t a1} : Statement (.switchLeak t a1) := fun h => bound h
theorem hvDieLoss {t a1} : Statement (.hvDieLoss t a1) := fun h => bound h
theorem linkBringup {t a1} : Statement (.linkBringup t a1) := fun h => bound h
theorem linkBringupRetry {t a1} : Statement (.linkBringupRetry t a1) := fun h => bound h
theorem portAutoBringup {t a1} : Statement (.portAutoBringup t a1) := fun h => bound h
theorem enumerate {t a1 a2} : Statement (.enumerate t a1 a2) := fun h => bound (left h)
theorem echoMeasurement {t a1 a2 a3 a4} : Statement (.echoMeasurement t a1 a2 a3 a4) := fun h => bound (left (left h))
theorem timePairSend {t a1} : Statement (.timePairSend t a1) := fun h => bound h
theorem lineFrameTransmit {t a1} : Statement (.lineFrameTransmit t a1) := fun h => bound h
theorem statusFrame {t a1 a2} : Statement (.statusFrame t a1 a2) := fun h => bound (left h)
theorem lossReport {t a1 a2} : Statement (.lossReport t a1 a2) := fun h => bound (left h)
theorem controlResponse {t a1 a2} : Statement (.controlResponse t a1 a2) := fun h => bound (left h)
theorem controlTimeout {t a1 a2} : Statement (.controlTimeout t a1 a2) := fun h => bound h
theorem statusTimeout {t a1 a2} : Statement (.statusTimeout t a1 a2) := fun h => bound h
theorem neighbourLockTimeout {t a1 a2} : Statement (.neighbourLockTimeout t a1 a2) := fun h => bound h
theorem portBlockLockLoss {t a1} : Statement (.portBlockLockLoss t a1) := fun h => bound h
theorem spareTakeoverL0 {t a1 a2} : Statement (.spareTakeoverL0 t a1 a2) := fun h => bound (left h)
theorem spareTakeoverL1 {t a1 a2} : Statement (.spareTakeoverL1 t a1 a2) := fun h => bound (left h)
theorem spareRelease {t a1 a2} : Statement (.spareRelease t a1 a2) := fun h => bound (left h)
theorem laneMove {t a1} : Statement (.laneMove t a1) := fun h => bound h
theorem reverseBlock {t a1 a2 a3} : Statement (.reverseBlock t a1 a2 a3) := fun h => bound (left (left h))
theorem dualLockRegained {t a1} : Statement (.dualLockRegained t a1) := fun h => bound h
theorem restore {t a1 a2} : Statement (.restore t a1 a2) := fun h => bound (left h)
theorem headVerification {t a1 a2} : Statement (.headVerification t a1 a2) := fun h => bound h
theorem trimLoad {t a1 a2} : Statement (.trimLoad t a1 a2) := fun h => bound h
theorem scanBlockStart {t a1} : Statement (.scanBlockStart t a1) := fun h => bound h
theorem scanBlockComplete {t a1 a2 a3 a4} : Statement (.scanBlockComplete t a1 a2 a3 a4) := fun h => bound (left (left h))
theorem scanIntervalExpiry {t a1} : Statement (.scanIntervalExpiry t a1) := fun h => bound h
theorem scanFull {t a1 a2} : Statement (.scanFull t a1 a2) := fun h => bound (left h)
theorem scanRebaseline {t a1 a2} : Statement (.scanRebaseline t a1 a2) := fun h => bound (left h)
theorem warmStep {t a1} : Statement (.warmStep t a1) := fun h => bound h
theorem cooldownReturn {t a1} : Statement (.cooldownReturn t a1) := fun h => bound h
theorem wireDisagreement {t a1 a2} : Statement (.wireDisagreement t a1 a2) := fun h => bound (left h)
theorem ssiRead {t a1 a2 a3 a4 a5} : Statement (.ssiRead t a1 a2 a3 a4 a5) := fun h => bound (left (left h))
theorem sincosSample {t a1 a2 a3} : Statement (.sincosSample t a1 a2 a3) := fun h => bound (left (left h))
theorem indexPulse {t a1 a2 a3} : Statement (.indexPulse t a1 a2 a3) := fun h => bound (left h)
theorem channelStarted {t a1} : Statement (.channelStarted t a1) := fun h => bound h
theorem channelClear {t a1 a2} : Statement (.channelClear t a1 a2) := fun h => bound (left h)
theorem channelPreset {t a1 a2 a3} : Statement (.channelPreset t a1 a2 a3) := fun h => bound (left (left h))
theorem speedSample {t a1} : Statement (.speedSample t a1) := fun h => bound h
theorem markEdge {t a1 a2 a3} : Statement (.markEdge t a1 a2 a3) := fun h => bound (left h)
theorem markOffer {t a1} : Statement (.markOffer t a1) := fun h => bound h
theorem switchEdge {t a1 a2 a3} : Statement (.switchEdge t a1 a2 a3) := fun h => bound (left h)
theorem gateTest {t a1 a2} : Statement (.gateTest t a1 a2) := fun h => bound (left h)
theorem axisEnable {t a1 a2 a3} : Statement (.axisEnable t a1 a2 a3) := fun h => bound (left (left h))
theorem axisDisable {t a1 a2} : Statement (.axisDisable t a1 a2) := fun h => bound (left h)
theorem moveAbsolute {t a1 a2 a3} : Statement (.moveAbsolute t a1 a2 a3) := fun h => bound (left (left h))
theorem moveRelative {t a1 a2 a3} : Statement (.moveRelative t a1 a2 a3) := fun h => bound (left (left h))
theorem axisStop {t a1 a2} : Statement (.axisStop t a1 a2) := fun h => bound (left h)
theorem axisHome {t a1 a2 a3} : Statement (.axisHome t a1 a2 a3) := fun h => bound (left (left h))
theorem followStart {t a1 a2} : Statement (.followStart t a1 a2) := fun h => bound (left h)
theorem followEnd {t a1 a2} : Statement (.followEnd t a1 a2) := fun h => bound (left h)
theorem axisPowerDown {t a1 a2} : Statement (.axisPowerDown t a1 a2) := fun h => bound (left h)
theorem retRelease {t a1} : Statement (.retRelease t a1) := fun h => bound h
theorem retentionCheck {t a1 a2} : Statement (.retentionCheck t a1 a2) := fun h => bound h
theorem retentionComplete {t a1} : Statement (.retentionComplete t a1) := fun h => bound h
theorem retentionTimeout {t a1} : Statement (.retentionTimeout t a1) := fun h => bound h
theorem axisPreset {t a1 a2 a3} : Statement (.axisPreset t a1 a2 a3) := fun h => bound (left (left h))
theorem axisClear {t a1 a2} : Statement (.axisClear t a1 a2) := fun h => bound (left h)
theorem groupMove {t a1 a2 a3} : Statement (.groupMove t a1 a2 a3) := fun h => bound (left (left h))
theorem groupStop {t a1 a2} : Statement (.groupStop t a1 a2) := fun h => bound (left h)
theorem moveComplete {t a1} : Statement (.moveComplete t a1) := fun h => bound h
theorem stopComplete {t a1} : Statement (.stopComplete t a1) := fun h => bound h
theorem virtualLimitCrossed {t a1} : Statement (.virtualLimitCrossed t a1) := fun h => bound h
theorem coarseStep {t a1 a2} : Statement (.coarseStep t a1 a2) := fun h => bound h
theorem driverSupplyLoss {t a1} : Statement (.driverSupplyLoss t a1) := fun h => bound h
theorem feedMoveStart {t a1} : Statement (.feedMoveStart t a1) := fun h => bound h
theorem calibrationTemperatureCheck {t} : Statement (.calibrationTemperatureCheck t) := fun h => bound h
theorem encoderCollectionComplete {t a1} : Statement (.encoderCollectionComplete t a1) := fun h => bound h
theorem collectionTimeout {t a1} : Statement (.collectionTimeout t a1) := fun h => bound h
theorem encoderComputeDone {t a1} : Statement (.encoderComputeDone t a1) := fun h => bound h
theorem encoderVerifyDone {t a1} : Statement (.encoderVerifyDone t a1) := fun h => bound h
theorem calibrationApply {t a1} : Statement (.calibrationApply t a1) := fun h => bound h
theorem applyTimeout {t a1} : Statement (.applyTimeout t a1) := fun h => bound h
theorem receiveRunStart {t a1 a2} : Statement (.receiveRunStart t a1 a2) := fun h => bound h
theorem receiveRunComplete {t a1 a2 a3} : Statement (.receiveRunComplete t a1 a2 a3) := fun h => bound (left (left h))
theorem transmitRunStart {t a1 a2} : Statement (.transmitRunStart t a1 a2) := fun h => bound h
theorem transmitLockTimeout {t a1} : Statement (.transmitLockTimeout t a1) := fun h => bound h
theorem requestCancel {t a1 a2} : Statement (.requestCancel t a1 a2) := fun h => bound (left h)
theorem requestEncoderCal {t a1 a2 a3 a4} : Statement (.requestEncoderCal t a1 a2 a3 a4) := fun h => bound (left (left (left h)))
theorem requestLaneCal {t a1 a2 a3 a4} : Statement (.requestLaneCal t a1 a2 a3 a4) := fun h => bound (left (left (left h)))
theorem requestElementScan {t a1 a2 a3 a4} : Statement (.requestElementScan t a1 a2 a3 a4) := fun h => bound (left (left (left h)))
theorem requestMemoryTest {t a1 a2 a3 a4} : Statement (.requestMemoryTest t a1 a2 a3 a4) := fun h => bound (left (left (left h)))
theorem requestWindowCheck {t a1} : Statement (.requestWindowCheck t a1) := fun h => bound h
theorem requestDeadline {t a1} : Statement (.requestDeadline t a1) := fun h => bound h
theorem calibrationValueWrite {t a1 a2 a3 a4} : Statement (.calibrationValueWrite t a1 a2 a3 a4) := fun h => bound (left (left (left (left h))))
theorem autoCalibrationWrite {t a1 a2 a3 a4} : Statement (.autoCalibrationWrite t a1 a2 a3 a4) := fun h => bound (left (left (left (left h))))
theorem hostLinkUp {t a1} : Statement (.hostLinkUp t a1) := fun h => bound h
theorem hostLinkDown {t a1} : Statement (.hostLinkDown t a1) := fun h => bound h
theorem ptpMessage {t a1 a2} : Statement (.ptpMessage t a1 a2) := fun h => bound (left h)
theorem hello {t a1 a2} : Statement (.hello t a1 a2) := fun h => bound (left (left h))
theorem proof {t a1 a2 a3} : Statement (.proof t a1 a2 a3) := fun h => bound (left (left (left h)))
theorem handshakeTimeout {t a1} : Statement (.handshakeTimeout t a1) := fun h => bound (left h)
theorem heartbeat {t a1} : Statement (.heartbeat t a1) := fun h => bound (left h)
theorem close {t a1} : Statement (.close t a1) := fun h => bound (left h)
theorem ack {t a1 a2} : Statement (.ack t a1 a2) := fun h => bound (left (left h))
theorem ackSend {t a1} : Statement (.ackSend t a1) := fun h => bound h
theorem retransmit {t a1 a2} : Statement (.retransmit t a1 a2) := fun h => bound (left h)
theorem leaseExpiry {t a1} : Statement (.leaseExpiry t a1) := fun h => bound h
theorem sessionEvict {t a1 a2} : Statement (.sessionEvict t a1 a2) := fun h => bound (left h)
theorem ownershipClaim {t a1 a2} : Statement (.ownershipClaim t a1 a2) := fun h => bound (left h)
theorem ownershipRelease {t a1 a2} : Statement (.ownershipRelease t a1 a2) := fun h => bound (left h)
theorem ownershipTake {t a1 a2} : Statement (.ownershipTake t a1 a2) := fun h => bound (left h)
theorem ownershipLapse {t a1} : Statement (.ownershipLapse t a1) := fun h => bound h
theorem registerWrite {t a1 a2 a3 a4} : Statement (.registerWrite t a1 a2 a3 a4) := fun h => bound (left (left (left (left h))))
theorem txBegin {t a1} : Statement (.txBegin t a1) := fun h => bound (left h)
theorem txWrite {t a1 a2 a3 a4 a5} : Statement (.txWrite t a1 a2 a3 a4 a5) := fun h => bound (left (left (left (left (left h)))))
theorem txRead {t a1 a2 a3 a4} : Statement (.txRead t a1 a2 a3 a4) := fun h => bound (left (left (left (left h))))
theorem txCommit {t a1 a2 a3} : Statement (.txCommit t a1 a2 a3) := fun h => bound (left (left (left h)))
theorem txAbort {t a1 a2} : Statement (.txAbort t a1 a2) := fun h => bound (left (left h))
theorem txStatus {t a1 a2} : Statement (.txStatus t a1 a2) := fun h => bound (left (left h))
theorem commitApply {t a1} : Statement (.commitApply t a1) := fun h => bound h
theorem commitTimeout {t a1} : Statement (.commitTimeout t a1) := fun h => bound h
theorem transactionExpiry {t a1} : Statement (.transactionExpiry t a1) := fun h => bound h
theorem transactionSlotAbort {t a1 a2} : Statement (.transactionSlotAbort t a1 a2) := fun h => bound (left h)
theorem canFrame {t a1 a2} : Statement (.canFrame t a1 a2) := fun h => bound (left h)
theorem canReassemblyTimeout {t a1 a2} : Statement (.canReassemblyTimeout t a1 a2) := fun h => bound (left h)
theorem storeSave {t a1} : Statement (.storeSave t a1) := fun h => bound (left h)
theorem storeSaveRestart {t a1} : Statement (.storeSaveRestart t a1) := fun h => bound (left h)
theorem storeErase {t a1} : Statement (.storeErase t a1) := fun h => bound (left h)
theorem saveComplete {t a1} : Statement (.saveComplete t a1) := fun h => bound h
theorem engineWatchdog {t a1} : Statement (.engineWatchdog t a1) := fun h => bound h
theorem engineInvalidOperation {t a1} : Statement (.engineInvalidOperation t a1) := fun h => bound h
theorem engineRestart {t a1 a2 a3} : Statement (.engineRestart t a1 a2 a3) := fun h => bound h
theorem uncorrectableWord {t a1} : Statement (.uncorrectableWord t a1) := fun h => bound (left h)
theorem regionTestStart {t} : Statement (.regionTestStart t) := fun h => bound h
theorem regionTestComplete {t a1 a2} : Statement (.regionTestComplete t a1 a2) := fun h => bound (left (left h))
theorem memoryTestRegion {t} : Statement (.memoryTestRegion t) := fun h => bound h
theorem transparentTestWrite {t a1 a2} : Statement (.transparentTestWrite t a1 a2) := fun h => bound (left (left h))
theorem lifeCycleRequest {t a1 a2 a3} : Statement (.lifeCycleRequest t a1 a2 a3) := fun h => bound (left (left (left h)))
theorem ownerKeyLoad {t a1 a2} : Statement (.ownerKeyLoad t a1 a2) := fun h => bound (left (left h))
theorem headMakerListReplace {t a1 a2} : Statement (.headMakerListReplace t a1 a2) := fun h => bound (left (left h))
theorem headMakerListAdd {t a1 a2} : Statement (.headMakerListAdd t a1 a2) := fun h => bound (left (left h))
theorem headMakerListRemove {t a1 a2} : Statement (.headMakerListRemove t a1 a2) := fun h => bound (left (left h))
theorem tamperDetect {t a1 a2} : Statement (.tamperDetect t a1 a2) := fun h => bound (left (left h))
theorem tamperClear {t a1 a2} : Statement (.tamperClear t a1 a2) := fun h => bound (left (left h))
theorem recordCommit {t} : Statement (.recordCommit t) := fun h => bound h
theorem recorderClear {t a1 a2} : Statement (.recorderClear t a1 a2) := fun h => bound (left (left h))
theorem operatingSecondsWrite {t} : Statement (.operatingSecondsWrite t) := fun h => bound h
theorem calendarDiscipline {t} : Statement (.calendarDiscipline t) := fun h => bound h
theorem calendarSet {t a1 a2} : Statement (.calendarSet t a1 a2) := fun h => bound (left (left h))
theorem snapshot {t a1} : Statement (.snapshot t a1) := fun h => bound (left h)
theorem boardSnapshot {t a1} : Statement (.boardSnapshot t a1) := fun h => bound (left h)
theorem snapshotPeriod {t} : Statement (.snapshotPeriod t) := fun h => bound h
theorem snapshotLatch {t} : Statement (.snapshotLatch t) := fun h => bound h
theorem snapshotBufferSwap {t} : Statement (.snapshotBufferSwap t) := fun h => bound h
theorem powerOnReset {t a1} : Statement (.powerOnReset t a1) := fun h => bound (left h)
theorem externalReset {t a1} : Statement (.externalReset t a1) := fun h => bound (left h)
theorem restart {t a1} : Statement (.restart t a1) := fun h => bound (left h)
theorem debugReset {t a1} : Statement (.debugReset t a1) := fun h => bound (left h)
theorem supplyOutOfRange {t a1 a2} : Statement (.supplyOutOfRange t a1 a2) := fun h => bound (left (left h))
theorem coreSupplyExcursion {t a1 a2 a3} : Statement (.coreSupplyExcursion t a1 a2 a3) := fun h => bound (left (left h))
theorem clockLoss {t a1 a2 a3} : Statement (.clockLoss t a1 a2 a3) := fun h => bound (left (left (left h)))
theorem lanePllLoss {t a1} : Statement (.lanePllLoss t a1) := fun h => bound h
theorem dieTemperatureSample {t a1} : Statement (.dieTemperatureSample t a1) := fun h => bound (left h)
theorem deviceReady {t} : Statement (.deviceReady t) := fun h => bound h
theorem domainRetention {t a1} : Statement (.domainRetention t a1) := fun h => bound h
theorem domainOff {t a1} : Statement (.domainOff t a1) := fun h => bound h
theorem domainWake {t a1} : Statement (.domainWake t a1) := fun h => bound h
theorem domainWakeComplete {t a1} : Statement (.domainWakeComplete t a1) := fun h => bound (left (left h))
theorem orderlyPowerDown {t a1} : Statement (.orderlyPowerDown t a1) := fun h => bound (left h)
theorem powerDownProgress {t} : Statement (.powerDownProgress t) := fun h => bound h
theorem blockLockLost {t a1 a2} : Statement (.blockLockLost t a1 a2) := fun h => bound (left h)
theorem blockLockGained {t a1 a2} : Statement (.blockLockGained t a1 a2) := fun h => bound (left h)
theorem fecModeStart {t a1} : Statement (.fecModeStart t a1) := fun h => bound h
theorem canBusError {t a1 a2 a3} : Statement (.canBusError t a1 a2 a3) := fun h => bound h
theorem busOffRecovery {t a1} : Statement (.busOffRecovery t a1) := fun h => bound h
theorem terminationCalibrationDone {t a1 a2} : Statement (.terminationCalibrationDone t a1 a2) := fun h => bound (left h)
theorem commandedResetTimeout {t a1} : Statement (.commandedResetTimeout t a1) := fun h => bound (left h)
theorem engineRunning {t a1} : Statement (.engineRunning t a1) := fun h => bound h

end Sys2Proof.Laws.CarriesTick
end

