-- ==== Sys2Proof/Laws/Requests.lean ====
section
/-! SUPPORT. What a permitted request gives: the answers of command objects and of plain writes. -/

namespace Sys2Proof.Machine

variable {s s' x : State} {c : Instr} {t i sub v code : Nat} {k : Kop} {w : Fin 32} {act : State → Who → State × CmdRes}

/-- A request that need not wait arrives as it is granted. -/
theorem State.arrive_of_grant (h : Safety.grant s k = (some w, x)) : s.arrive c k = (some w, x) := by
  unfold Safety.grant at h
  unfold State.arrive
  cases e : s.resumed with
  | some i => rw [e] at h; exact h
  | none =>
    rw [e] at h
    rcases r : s.request k with ⟨_ | i, y⟩ <;> rw [r] at h <;> simp only [Prod.mk.injEq, reduceCtorEq, false_and] at h
    obtain ⟨h1, rfl⟩ := h
    split at h1
    · cases h1; simp only [*, if_true]
    · cases h1

theorem State.command_eq (h : Safety.Admits s t k i sub v w) :
    (s.begin t).command c k i sub v act =
      match act (Safety.taken s t k) (Safety.actor s t k i sub w) with
      | (s', .refuse c) => Safety.refused s' w k c
      | (s', .done) => Safety.done s' w k i sub
      | (s', .running) => Safety.going s' w k i sub := by
  obtain ⟨h1, hn, h2, h5, hd, r, h3, h4⟩ := h
  unfold Safety.taken at h2 hd
  unfold State.command Safety.actor Safety.taken
  rcases e : Safety.grant (s.begin t) k with ⟨o, x⟩
  rw [e] at h1 h2 hd
  cases h1
  rw [State.arrive_of_grant e]
  simp only [h2, h3, h4, h5, hn, hd, ne_eq, not_true_eq_false, if_false, if_true, Bool.false_eq_true, Bool.not_true]
  rcases act x (x.whoFor i sub w) with ⟨y, c | _ | _⟩ <;> rfl

/-- A command whose action is done. -/
theorem State.command_done (h : Safety.Admits s t k i sub v w)
    (ha : act (Safety.taken s t k) (Safety.actor s t k i sub w) = (s', .done)) :
    (s.begin t).command c k i sub v act = Safety.done s' w k i sub := by rw [State.command_eq h, ha]

/-- A command whose action goes on. -/
theorem State.command_going (h : Safety.Admits s t k i sub v w)
    (ha : act (Safety.taken s t k) (Safety.actor s t k i sub w) = (s', .running)) :
    (s.begin t).command c k i sub v act = Safety.going s' w k i sub := by rw [State.command_eq h, ha]

/-- A command whose action refuses. -/
theorem State.command_refused (h : Safety.Admits s t k i sub v w)
    (ha : act (Safety.taken s t k) (Safety.actor s t k i sub w) = (s', .refuse code)) :
    (s.begin t).command c k i sub v act = Safety.refused s' w k code := by rw [State.command_eq h, ha]

/-- A permitted write of an object that takes no transaction. -/
theorem State.write_eq {act : State → Who → State × Nat} (h : Safety.Admits s t k i sub v w)
    (hr : ∀ r, objRow i sub = some r → r.acc ≠ 4) (hx : textRange i sub v = true) :
    (s.begin t).write c k i sub v act =
      let r := act (Safety.taken s t k) (Safety.actor s t k i sub w)
      r.1.respond w (r.1.plainResp k r.2) := by
  obtain ⟨h1, hn, h2, _, _, r, h3, h4⟩ := h
  unfold Safety.taken at h2 ⊢
  unfold State.write Safety.actor Safety.taken
  rcases e : Safety.grant (s.begin t) k with ⟨o, x⟩
  rw [e] at h1 h2
  cases h1
  rw [State.arrive_of_grant e]
  simp only [h2, h3, h4, hn, hx, hr r h3, ne_eq, not_true_eq_false, if_false, if_true, Bool.not_true, Bool.false_eq_true, Bool.and_self]

/-- A key load that is being applied (R430) acts as any command. -/
theorem State.keyLoad_eq (h : s.resumed.isSome = true) : s.keyLoad c k sub act = s.command c k 0x8000 sub 0 act := by
  unfold State.keyLoad; simp only [h, if_true]

end Sys2Proof.Machine
end

