-- ==== Sys2Proof/Tests/Slice0.lean ====
section
/-! SUPPORT. Tests: a witness for the hypotheses of every statement, one ill-formed term for each check of well-formedness, and
worked examples of the manual. -/

open Sys2Proof Sys2Proof.Machine
namespace Sys2Proof.Tests

set_option linter.unusedVariables false
set_option Elab.async false

/-- A session with every role, whose lease runs. -/
def sess : Session :=
  { Session.init with isOpen := true, hostId := 5, roles := 31, leaseMs := 10000, leaseEnd := 2 ^ 60, window := 64, txCredit := 64 }

/-- The block at work: session 0 open on HP0, the engines running, the domains ON, READY, in life cycle FIELD. -/
def live : State :=
  { State.reset.oput 0x1F40 0x06 7 with
    sessions := State.reset.sessions.set 0 sess
    hports := State.reset.hports.set 0 { HPort.init with link := 1 }
    engines := Vector.replicate 8 { Engine.init with state := 2 }
    domains := Vector.replicate 11 { Domain.init with state := 2 }
    devState := 1
    lifeCycle := 3
    power := { Power.init with dramMib := 2048, trained := Vector.replicate 2 true, pll := Vector.replicate 20 true } }

/-- A frame that the packet engine takes for KTP. -/
def eth : Eth :=
  { fcsOk := true, bytes := 128, tags := 0, vid := 0, own := true, ip := 4, dst := 7, body := .udp 47100, fixed := 0, lost := 0 }

/-- The tag of an empty message of a KIND under the key 0, with SEQ 1 (R438). -/
def tagOf (kind : Nat) : Bytes :=
  match kind with
  | 0x06 => [86, 40, 0, 51, 190, 41, 242, 167, 217, 45, 72, 139, 244, 6, 245, 12]
  | 0x07 => [197, 173, 211, 183, 67, 47, 108, 155, 171, 85, 29, 142, 86, 119, 104, 40]
  | 0x10 => [155, 105, 209, 102, 96, 87, 85, 233, 211, 185, 230, 204, 30, 58, 105, 154]
  | 0x11 => [8, 236, 2, 226, 157, 81, 203, 213, 161, 193, 179, 201, 188, 75, 244, 190]
  | 0x12 => [126, 98, 118, 111, 154, 90, 105, 145, 55, 73, 76, 199, 90, 217, 83, 211]
  | 0x13 => [237, 231, 165, 235, 103, 92, 247, 173, 69, 49, 25, 194, 248, 168, 206, 247]
  | 0x14 => [147, 126, 159, 117, 148, 77, 45, 24, 26, 88, 178, 218, 151, 252, 29, 9]
  | 0x18 => [139, 71, 77, 65, 136, 99, 164, 10, 64, 123, 78, 225, 13, 182, 128, 188]
  | 0x1A => [110, 76, 234, 72, 114, 110, 152, 114, 164, 139, 228, 234, 73, 85, 186, 245]
  | _ => [219, 211, 161, 249, 192, 132, 146, 103, 156, 179, 70, 120, 80, 9, 205, 2]

/-- Session 0's first datagram. -/
def dgram (kind : Nat) : Dgram :=
  { port := 0, addr := 0, eth, ver := 1, kind, len := 16, bytes := 48, sid := 0, seq := 1, cipher := [], tag := tagOf kind, rsv := 0 }

/-- A request of that session: an operation on an object, of `len` bytes. -/
def kop (op index sub len : Nat) : Kop := { dg := dgram 0x30, op, tag := 1, index, sub, rsv := 0, off := 0, len }

/-- Its sequenced message number 0. -/
def ktp (kind : Nat) : Ktp := { dg := dgram kind, handle := 0 }

/-- A permitted write, as a Boolean. -/
def admitsB (s : State) (t : Nat) (k : Kop) (i sub v : Nat) (w : Fin 32) : Bool :=
  (Safety.grant (s.begin t) k).1 == some w && k.names 2 i sub && (Safety.taken s t k).writeCode k i sub w == 0 && requestMalformed i v == false &&
    (Safety.taken s t k).domainsOn (objDomains i sub) && match objRow i sub with | some r => rowRange r v | none => false

theorem admits_of {s : State} {t : Nat} {k : Kop} {i sub v : Nat} {w : Fin 32} (h : admitsB s t k i sub v w = true) :
    Safety.Admits s t k i sub v w := by
  simp only [admitsB, Bool.and_eq_true, beq_iff_eq] at h
  refine ⟨h.1.1.1.1.1, h.1.1.1.1.2, h.1.1.1.2, h.1.1.2, h.1.2, ?_⟩
  cases hr : objRow i sub with
  | none => rw [hr] at h; exact absurd h.2 Bool.false_ne_true
  | some r => rw [hr] at h; exact ⟨r, rfl, h.2⟩

/-- The request that writes to an object. -/
def kopFor (i sub : Nat) : Kop := kop 2 i sub (match objRow i sub with | some r => r.bytes | none => 0)

/-- A request of session 0 whose turn has come. -/
def due (s : State) : State := { s with resumed := some 0 }

theorem pair_of {α β : Type} {p : α × β} {a : α} (h : p.1 = a) : p = (a, p.2) := by subst h; rfl

theorem row_of {i sub : Nat} (h : ((objRow i sub).map (·.acc)) ≠ some 4) : ∀ r, objRow i sub = some r → r.acc ≠ 4 := by
  intro r hr e; rw [hr] at h; exact h (congrArg some e)

theorem fam_of {i f : Nat} (h : ((objFam i).map (·.1)) ≠ some f) : ∀ n, objFam i ≠ some (f, n) := by
  intro n e; rw [e] at h; exact h rfl

theorem get_of {α : Type} {o : Option α} (h : o.isSome = true) : o = some (o.get h) := by
  cases o with
  | none => exact absurd h (by simp)
  | some x => rfl

theorem opt_of {α β : Type} {o : Option (α × β)} {a : α} (d : β) (h : o.map (·.1) = some a) : o = some (a, (o.map (·.2)).getD d) := by
  cases o with
  | none => exact absurd h (by simp)
  | some x => cases h; rfl

theorem some_of {α : Type} {o : Option α} (d : α) (h : o.isSome = true) : o = some (o.getD d) := by
  cases o with
  | none => exact absurd h (by simp)
  | some x => rfl

/-! ### Parts of states -/

/-- A descriptor: VERSION 1, zone 0, LINE_COUNT 1, START_RULE POSITION at 2^30, host item 7, template 0. -/
def desc : Descriptor := { hdr := 1 + 7 * 2 ^ 32 + 2 ^ 96 + 2 ^ 30 * 2 ^ 128, tiles := [] }

/-- The item that it describes, in slot 0. -/
def item : Item :=
  { slot := 0, gen := 0, zone := 0, hostId := 7, direct := false, template := 0, lineCount := 1, startRule := 0, start := 2 ^ 30,
    markWindow := 0, tiles := [], pattern := 0, sid := 0, host := 5, state := .queued, origin := none, refs := false,
    refTpl := false, refTiles := [], lastWait := 14, markFrom := none, markAt := none, reserved := false, startSet := none, startGens := [],
    prog := [], fired := [], lastFire := 0, reported := 0, badLine := none, outcome := none, blank := false, noticed := false, held := false,
    handedFired := 0, handedBad := 0xFFFFFF, pulsed := false, gone := false, overlap := false, feedBase := none, revDue := false, bySession := 0, byRole := 0 }

/-- A resident template of one line, one plane and 21 columns. -/
def tplHdr : Nat := 1 + 2 ^ 8 + 20 * 2 ^ 32 + 2 ^ 64 + 64 * 2 ^ 128 + crc32c (List.replicate 64 0) * 2 ^ 96
def template : Asset :=
  { idx := 0, gen := 0, st := .resident, hdr := tplHdr, refs := 0, sid := 0, loadId := 0, got := 0, crc := 0, pieces := [], padOk := true,
    base0 := 0, base1 := 0, len0 := 0, len1 := 0, ch := 0, deleted := false }

/-- The header of a tile of one pixel, whose coded data is the one byte EOL (Table 3.5). -/
def tileHdr : Nat := 1 + 2 ^ 64 + 2 ^ 80 + 2 ^ 96 + crc32c [0xC0] * 2 ^ 128

/-- A plane-map entry: plane 0, PRIMARY, columns from 0, nozzles 0 to 20 (Table 4.2). -/
def pmWord : Nat := 2 ^ 3 + 20 * 2 ^ 48

/-- A zone in TRACKING under a source that is valid, with a head and a reject output, owned by the session's host. -/
def zoned : State :=
  (((((live.oput (zIdx 0) 0x01 1).oput (zIdx 0) 0x50 0).oput (zIdx 0) 0x72 0).oput (gIdx 0) 0x01 (2 ^ 40)).updZone 0 fun z =>
    { z with state := .enabled, owner := some 5, place := .tracking }).updChan 0 fun c => { c with state := .valid }

/-- A maker block (Table 8.2): one row of 21 nozzles, no trim plane, temperatures 40, 45, 60, 70 and 50 degrees, one drive record. -/
def maker : Nat :=
  1 + 0x1B0 * 2 ^ 32 + 21 * 2 ^ (8 * 0x18) + 1000 * 2 ^ (8 * 0x20) + 16384 * 2 ^ (8 * 0x24) + 1000 * 2 ^ (8 * 0x26) +
    60000 * 2 ^ (8 * 0x2A) + 40000 * 2 ^ (8 * 0x2E) + 100 * 2 ^ (8 * 0x4C) + 400 * 2 ^ (8 * 0x158) + 450 * 2 ^ (8 * 0x15A) + 600 * 2 ^ (8 * 0x15C) +
    700 * 2 ^ (8 * 0x15E) + 500 * 2 ^ (8 * 0x160)

/-- A verified head in service on node 1 of HL0. -/
def head : Head :=
  { Head.init with link := some 0, node := 1, inService := true, idState := .verified, maker, blockOk := true, driveOk := true, trimOk := true,
                   thermal := .normal, fullRuns := 1, temp := 400, tempAt := some 0 }

/-- The zone with that head, whose row A is PRIMARY, and its item admitted, not a line of it composed. -/
def composing : State :=
  { ((zoned.oput (hIdx 0) 0x40 pmWord).updHead 0 fun _ => head) with
    templates := [template]
    items := [{ item with state := .admitted, origin := some (2 ^ 30), prog := [{ head := 0, row := 0, composed := 0, built := 0 }] }] }

/-- A stamped line of the item. -/
def line : Stamped :=
  { handle := 0, line := 0, void := false, fire := 1000, f0 := 1000, segs := [], codes := 0, drops := 1, sag := 0, factors := [],
    port := 0, depth := 1, order := 1, sent := none, missed := false }
/-! ### A witness for the hypotheses of every statement -/

theorem witness_StepRunsTheFrontCommand_0_0 :
    ∃ (c : Instr) (rest : List Instr) (s : State),
    (s.pending = c :: rest) :=
  ⟨.linkBringup 0 15, [], { live with pending := [.linkBringup 0 15] }, rfl⟩

theorem witness_AnIdleStepIsOneCycle_0_0 :
    ∃ (s : State) (w : Waiting) (rest : List Waiting),
    (s.pending = []) ∧
    (s.nextWaiting = some (w, rest)) :=
  ⟨{ live with waiting := [{ sess := 0, tag := 1, domains := [6], cmd := .linkBringup 0 15 }] }, { sess := 0, tag := 1, domains := [6], cmd := .linkBringup 0 15 }, [], rfl, rfl⟩

theorem witness_AnIdleStepIsOneCycle_1_0 :
    ∃ (s : State),
    (s.pending = []) ∧
    (s.nextWaiting = none) :=
  ⟨live, rfl, rfl⟩

theorem witness_AnIdleStepIsOneCycle_1_1 :
    ∃ (s : State),
    (s.pending = []) ∧
    (s.nextWaiting = none) ∧
    (s.lcPending = none) ∧
    (s.ft % 2 = 0) :=
  ⟨live, rfl, rfl, by decide +kernel⟩

theorem witness_AnIdleStepIsOneCycle_1_2 :
    ∃ (s : State),
    (s.pending = []) ∧
    (s.nextWaiting = none) ∧
    (s.lcPending = none) ∧
    (s.ft % 2 = 1) :=
  ⟨{ live with ft := 1 }, rfl, rfl, by decide +kernel⟩

theorem witness_AnIdleStepIsOneCycle_1_3 :
    ∃ (s : State),
    (s.pending = []) ∧
    (s.nextWaiting = none) ∧
    (smapWf 0 s.arrays.words) :=
  ⟨live, rfl, rfl, by decide +kernel⟩

theorem witness_AnIdleStepIsOneCycle_1_4 :
    ∃ (s : State),
    (s.pending = []) ∧
    (s.nextWaiting = none) ∧
    (s.ft % 2 = 0) :=
  ⟨live, rfl, rfl, by decide +kernel⟩

theorem witness_AnIdleStepIsOneCycle_2_0 :
    ∃ (x : Arrays) (k : Fin 8) (q : Access),
    (smapWf 0 x.words) ∧
    (smapWf 0 x.shadow) ∧
    (x.portA k = some q ∧ x.portB k = none ∨ x.portA k = none ∧ x.portB k = some q) :=
  ⟨{ State.reset.arrays with words := [(wordKey 7 5, 3)], waiting := [{ client := .engine 7, array := 7, word := 5, op := .write 8, edge := 0 }] }, 7, { client := .engine 7, array := 7, word := 5, op := .write 8, edge := 0 }, by decide +kernel⟩

theorem witness_AnIdleStepIsOneCycle_2_1 :
    ∃ (x : Arrays) (k : Fin 8) (q : Access) (key : Nat),
    (smapWf 0 x.words) ∧
    (smapWf 0 x.shadow) ∧
    (x.portA k = some q ∧ x.portB k = none ∨ x.portA k = none ∧ x.portB k = some q) ∧
    (x.shadowed q.array q.word = true ∨ key ≠ x.home q.array q.word) :=
  ⟨{ State.reset.arrays with words := [(wordKey 7 5, 3)], waiting := [{ client := .engine 7, array := 7, word := 5, op := .write 8, edge := 0 }] }, 7, { client := .engine 7, array := 7, word := 5, op := .write 8, edge := 0 }, 0, by decide +kernel⟩

theorem witness_AnIdleStepIsOneCycle_2_2 :
    ∃ (x : Arrays) (k : Fin 8) (q : Access) (key : Nat),
    (smapWf 0 x.words) ∧
    (smapWf 0 x.shadow) ∧
    (x.portA k = some q ∧ x.portB k = none ∨ x.portA k = none ∧ x.portB k = some q) ∧
    (x.shadowed q.array q.word = false ∨ key ≠ wordKey q.array q.word) :=
  ⟨{ State.reset.arrays with words := [(wordKey 7 5, 3)], waiting := [{ client := .engine 7, array := 7, word := 5, op := .write 8, edge := 0 }] }, 7, { client := .engine 7, array := 7, word := 5, op := .write 8, edge := 0 }, wordKey 7 5, by decide +kernel⟩

theorem witness_AnIdleStepIsOneCycle_3_0 :
    ∃ (x : Arrays) (k : Fin 8) (a b : Access),
    (smapWf 0 x.words) ∧
    (smapWf 0 x.shadow) ∧
    (x.portA k = some a) ∧
    (x.portB k = some b) ∧
    (a.word = b.word) ∧
    (a.edge ≤ b.edge) ∧
    (wordWrites a.op = true) :=
  ⟨{ State.reset.arrays with words := [(wordKey 7 5, 3)], waiting := [{ client := .engine 7, array := 7, word := 5, op := .write 8, edge := 0 }, { client := .dma, array := 7, word := 5, op := .write 9, edge := 0 }] }, 7, { client := .engine 7, array := 7, word := 5, op := .write 8, edge := 0 }, { client := .dma, array := 7, word := 5, op := .write 9, edge := 0 }, by decide +kernel⟩

theorem witness_AnIdleStepIsOneCycle_4_0 :
    ∃ (x : Arrays) (n : Fin 4) (q : Access) (v : Nat),
    (q, v) ∈ (x.bankCycle n).answers ∧
    (q, v) ∉ x.answers ∧
    (wordWrites q.op = false) :=
  ⟨{ State.reset.arrays with waiting := [{ client := .engine 6, array := 11, word := 65535, op := .read, edge := 0 }] }, 3, { client := .engine 6, array := 11, word := 65535, op := .read, edge := 0 }, 0, by decide +kernel⟩

theorem witness_AnIdleStepIsOneCycle_5_0 :
    ∃ (x : Arrays) (n : Fin 4),
    (x.waiting.filter fun q => q.array == 8 + n.val && onP2 q).length ≤ 1 :=
  ⟨{ State.reset.arrays with waiting := [{ client := .engine 6, array := 11, word := 65535, op := .read, edge := 0 }] }, 3, by decide +kernel⟩

theorem witness_CommandsLeaveTheQueueAlone_0_0 :
    ∃ (c : Instr) (s s' : State),
    (exec c s = .next s') :=
  ⟨.linkBringup 0 15, live, _, rfl⟩

theorem witness_StepsKeepTheDramCanonical_0_0 :
    ∃ (s s' : State),
    (Safety.DramCanonical s) ∧
    (step s = .next s') :=
  ⟨{ live with dram := live.dram.set 1 [(7, 1)] }, _, ⟨by decide +kernel, by decide +kernel⟩, rfl⟩

theorem witness_OnlyLoadsAndReadsTouchDram_0_0 :
    ∃ (c : Instr) (s s' : State) (ch : Fin 2) (a : Nat),
    (exec c s = .next s') ∧
    (∀ t m loadId off data, c ≠ .loadData t m loadId off data) ∧
    (∀ t idx, c ≠ .tileVerify t idx) ∧
    (∀ t flips, c ≠ .rowLineCompose t flips) :=
  ⟨.linkBringup 0 15, live, _, 1, 2 ^ 32, rfl, (by nofun), (by nofun), (by nofun)⟩

theorem witness_OnlyRequestsMoveTheLifeCycle_0_0 :
    ∃ (c : Instr) (s s' : State),
    (exec c s = .next s') :=
  ⟨.linkBringup 0 15, live, _, rfl⟩

theorem witness_OnlyRequestsMoveTheLifeCycle_0_1 :
    ∃ (c : Instr) (s s' : State),
    (exec c s = .next s') ∧
    (¬ Safety.IsReset c) ∧
    (∀ t k r stuck, c ≠ .lifeCycleRequest t k r stuck) :=
  ⟨.linkBringup 0 15, live, _, rfl, id, (by nofun)⟩

theorem witness_RetiredIsForEver_0_0 :
    ∃ (s s' : State),
    (Safety.Retired s) ∧
    (step s = .next s') :=
  ⟨{ live with lifeCycle := 4, fuses := 4 }, _, ⟨by decide +kernel, rfl, rfl⟩, rfl⟩

theorem witness_RecordsChangeOnlyAtCommitAndClear_0_0 :
    ∃ (c : Instr) (s s' : State),
    (exec c s = .next s') ∧
    (∀ t, c ≠ .recordCommit t) ∧
    (∀ t k tok, c ≠ .recorderClear t k tok) ∧
    (∀ t, c ≠ .powerDownProgress t) ∧
    (∀ t p, c ≠ .commandedResetTimeout t p) :=
  ⟨.linkBringup 0 15, live, _, rfl, (by nofun), (by nofun), (by nofun), (by nofun)⟩

theorem witness_RecordsChangeOnlyAtCommitAndClear_0_1 :
    ∃ (c : Instr) (s s' : State),
    (exec c s = .next s') ∧
    (∀ t, c ≠ .recordCommit t) ∧
    (∀ t k tok, c ≠ .recorderClear t k tok) ∧
    (∀ t, c ≠ .powerDownProgress t) ∧
    (∀ t p, c ≠ .commandedResetTimeout t p) ∧
    (¬ Safety.IsReset c) :=
  ⟨.linkBringup 0 15, live, _, rfl, (by nofun), (by nofun), (by nofun), (by nofun), id⟩

theorem witness_BanksChangeOnlyBySaveAndErase_0_0 :
    ∃ (c : Instr) (s s' : State),
    (exec c s = .next s') ∧
    (∀ t k, c ≠ .storeSave t k) ∧
    (∀ t k, c ≠ .storeSaveRestart t k) ∧
    (∀ t k, c ≠ .storeErase t k) ∧
    (∀ t ok, c ≠ .saveComplete t ok) ∧
    (∀ t k r stuck, c ≠ .lifeCycleRequest t k r stuck) :=
  ⟨.linkBringup 0 15, live, _, rfl, (by nofun), (by nofun), (by nofun), (by nofun), (by nofun)⟩

theorem witness_TamperLatchHolds_0_0 :
    ∃ (c : Instr) (s s' : State) (n : Fin 9),
    (exec c s = .next s') ∧
    (¬ Safety.IsReset c) ∧
    (∀ t k active, c ≠ .tamperClear t k active) ∧
    (bitOf s.tamper.latch n.val = true) :=
  ⟨.linkBringup 0 15, { live with tamper := { Tamper.init with latch := 256 } }, _, 8, rfl, id, (by nofun), by decide +kernel⟩

theorem witness_SubmissionsAreTakenAndQueued_0_0 :
    ∃ (t : Nat) (m : Ktp) (ds : List Descriptor) (s s1 : State) (i : Fin 32) (n : Nat),
    (ds ≠ []) ∧
    (ds.length ≤ 64) ∧
    (s.begin t).sequenced 0x18 m (fun s => s.staleIn (descsZone ds)) = (some (i, n), s1) :=
  ⟨0, ktp 0x18, List.replicate 64 desc, live, _, 0, 0, by decide +kernel, by decide +kernel, pair_of (by decide +kernel)⟩

theorem witness_SubmissionsAreTakenAndQueued_1_0 :
    ∃ (t : Nat) (i : Fin 32) (s : State) (n : Nat) (d : Descriptor) (it : Item) (slot : Fin 256) (rest : List Nat),
    (s.sessions[i].subs = [(n, [d])]) ∧
    (n < s.sessions[i].rxCum) ∧
    (parseItem d = some it) ∧
    (s.freeSlots = slot.val :: rest) ∧
    (s.zoneItems it.zone).length < s.zc it.zone 0x13 ∧
    (∀ x ∈ s.zoneItems it.zone, x.hostId ≠ it.hostId) :=
  ⟨0, 0, live.updSess 0 fun x => { x with subs := [(0, [desc])], rxCum := 1 }, 0, desc, (parseItem desc).getD item, 0, List.range' 1 255, by decide +kernel⟩

theorem witness_TheSluiceAdmits_0_0 :
    ∃ (t : Nat) (z : Fin 8) (s : State) (it : Item) (o : Int),
    let s0 := s.begin t
    let s1 := s0.updItem it.handle fun x => { x with origin := some o }
    let s1 := if it.origin.isNone then s1.updZone z fun x => { x with refOrigin := some o } else s1
    let it1 : Item := { it with origin := some o }
    (s0.running 2 = true) ∧
    (s0.queue z).head? = some it ∧
    (s0.staticReason it = 0) ∧
    (¬ (it.startRule = 2 ∧ it.markAt = none)) ∧
    (it.zone = z) ∧
    (s0.resolveOrigin it = some o) ∧
    (s1.outOfOrder z o = false) ∧
    (s1.sluiceOk z o = true) ∧
    (it.direct = true → s1.zc z 0x20 ≠ 0 ∧ s1.streamCapacity it1 = true) ∧
    (s1.residentVerified it1 = true) ∧
    (s1.headsReady z = true) ∧
    (s1.domains[(2 : Fin 11)].state = 2) ∧
    (s1.loadFits z (maxRes s1.zones[z].res (s1.itemRes it1)) = true) ∧
    (s1.commitHolds z = false) :=
  ⟨0, 0, { zoned with items := [item], templates := [template] }, item, 2 ^ 30, by decide +kernel⟩

theorem witness_TheSluiceAdmits_1_0 :
    ∃ (s : State) (it : Item),
    (it.origin = none) ∧
    (it.startRule = 0) :=
  ⟨live, item, by decide +kernel⟩

theorem witness_TheSluiceAdmits_1_1 :
    ∃ (s : State) (it : Item) (r : Int),
    (it.origin = none) ∧
    (it.startRule = 1) ∧
    (s.zones[it.zone].refOrigin = some r) :=
  ⟨live.updZone 0 fun z => { z with refOrigin := some 7 }, { item with startRule := 1 }, 7, by decide +kernel⟩

theorem witness_TheSluiceAdmits_1_2 :
    ∃ (s : State) (it : Item) (m : Int),
    (it.origin = none) ∧
    (it.startRule = 2) ∧
    (it.markAt = some m) :=
  ⟨live, { item with startRule := 2, markAt := some 7 }, 7, by decide +kernel⟩

theorem witness_TheSluiceAdmits_2_0 :
    ∃ (t : Nat) (z : Fin 8) (s : State) (it : Item) (reason : Nat),
    (s.begin t).running 2 = true ∧
    ((s.begin t).queue z).head? = some it ∧
    (s.begin t).staticReason it = reason ∧
    (reason ≠ 0) :=
  ⟨0, 0, { live with items := [item] }, item, 2, by decide +kernel⟩

theorem witness_TheSluiceAdmits_3_0 :
    ∃ (t : Nat) (z : Fin 8) (s : State) (it : Item),
    ((s.begin t).queue z).head? = some it ∧
    (s.begin t).running 2 = true ∧
    (it.startRule = 2) ∧
    (it.markAt = none) ∧
    (s.begin t).windowPast it = true :=
  ⟨0, 0, { zoned with items := [{ item with startRule := 2, markFrom := some (-(2 ^ 30)), markWindow := 1 }] }, { item with startRule := 2, markFrom := some (-(2 ^ 30)), markWindow := 1 }, by decide +kernel⟩

theorem witness_AdmissionSpoilingAndEndsAreRecorded_0_0 :
    ∃ (s : State) (it : Item) (o : Int),
    (it ∈ s.items) :=
  ⟨{ zoned with items := [item] }, item, 2 ^ 30, by decide +kernel⟩

theorem witness_AdmissionSpoilingAndEndsAreRecorded_1_0 :
    ∃ (s : State) (it : Item) (code : Fin 12) (reason : Nat),
    (s.item? it.handle = some it) :=
  ⟨{ zoned with items := [item] }, item, 11, 21, by decide +kernel⟩

theorem witness_AdmissionSpoilingAndEndsAreRecorded_2_0 :
    ∃ (s : State) (it : Item) (code : Fin 12) (loc : Nat) (line : Option Nat) (sess role : Nat),
    (s.item? it.handle = some it) ∧
    (it.inPolder = true) :=
  ⟨{ live with items := [{ item with state := .admitted, origin := some (2 ^ 30), reserved := true }] }, { item with state := .admitted, origin := some (2 ^ 30), reserved := true }, 5, 0, none, 0, 0, by decide +kernel⟩

theorem witness_FireReportsCount_0_0 :
    ∃ (t : Nat) (l : Fin 16) (rep : FireRep) (s : State) (h : Fin 64) (it : Item) (y : Stamped),
    let s0 := s.begin t
    let r : Fin 4 := Fin.ofNat 4 rep.row
    (s0.headAt l rep.addr = some h) ∧
    (rep.ok = true) ∧
    (rep.row < 4) ∧
    (rep.result = 0) ∧
    (s0.item? rep.handle = some it) ∧
    (s0.heads[h].rows[r].stamped.find? fun y => y.handle == rep.handle && y.void == rep.void && (y.line % max 1 it.lineCount == rep.line && y.fire == rep.fireFt)) = some y :=
  ⟨0, 0, FireRep.make 1 0 false 0 0 0 1000, (({ live with items := [{ item with state := .printing, origin := some (2 ^ 30) }] }.updRow 0 0 fun r => { r with stamped := [line] }).updNode 0 1 fun n => { n with head := some 0 }), 0, { item with state := .printing, origin := some (2 ^ 30) }, line, by decide +kernel⟩

theorem witness_FireReportsCount_1_0 :
    ∃ (s : State) (h : Fin 64) (r : Fin 4) (y : Stamped) (it : Item),
    let s0 := (s.headCounts h r y 0).updRow h r fun x => { x with stamped := x.stamped.filter (fun y' => y' ≠ y), lastFire := max x.lastFire y.fire, lastEnd := max x.lastEnd y.lastSeg }
    (s0.item? y.handle = some it) :=
  ⟨(({ live with items := [{ item with state := .printing, origin := some (2 ^ 30) }] }.updRow 0 0 fun r => { r with stamped := [line] }).updNode 0 1 fun n => { n with head := some 0 }), 0, 0, line, { item with state := .printing, origin := some (2 ^ 30) }, by decide +kernel⟩

theorem witness_FireReportsCount_2_1 :
    ∃ (s : State) (h : Fin 64) (r : Fin 4) (y : Stamped) (result : Nat),
    (result = 1 ∨ result = 3 ∨ result = 5 ∨ result = 6) :=
  ⟨(({ live with items := [{ item with state := .printing, origin := some (2 ^ 30) }] }.updRow 0 0 fun r => { r with stamped := [line] }).updNode 0 1 fun n => { n with head := some 0 }), 0, 0, line, 1, by decide +kernel⟩

theorem witness_FireReportsCount_3_0 :
    ∃ (s : State) (h : Fin 64) (r : Fin 4) (w : Withdrawn) (it : Item) (result : Nat),
    let s0 := (s.updRow h r fun x => { x with withdrawn := x.withdrawn.filter fun y => y ≠ w }).headCounts h r w.toStamped result
    (s0.item? w.handle = some it) ∧
    (it.noticed = true ∨ it.held = true) :=
  ⟨{ live with items := [{ item with state := .printing, origin := some (2 ^ 30), noticed := true }] }.updRow 0 0 fun r => { r with withdrawn := [{ toStamped := line, cancels := 2, cancelAt := 0 }] }, 0, 0, { toStamped := line, cancels := 2, cancelAt := 0 }, { item with state := .printing, origin := some (2 ^ 30), noticed := true }, 4, by decide +kernel⟩

theorem witness_FireReportsCount_3_1 :
    ∃ (s : State) (h : Fin 64) (r : Fin 4) (w : Withdrawn) (it : Item) (result : Nat),
    let s0 := (s.updRow h r fun x => { x with withdrawn := x.withdrawn.filter fun y => y ≠ w }).headCounts h r w.toStamped result
    (s0.item? w.handle = some it) ∧
    (it.noticed = false) ∧
    (it.held = false) ∧
    (w.void = false) ∧
    (result = 0) :=
  ⟨{ live with items := [{ item with state := .printing, origin := some (2 ^ 30) }] }.updRow 0 0 fun r => { r with withdrawn := [{ toStamped := line, cancels := 2, cancelAt := 0 }] }, 0, 0, { toStamped := line, cancels := 2, cancelAt := 0 }, { item with state := .printing, origin := some (2 ^ 30) }, 0, by decide +kernel⟩

theorem witness_FireReportsCount_4_0 :
    ∃ (t : Nat) (h : Fin 64) (r : Fin 4) (s : State) (y : Stamped),
    let s0 := s.begin t
    (s0.heads[h].rows[r].stamped.find? fun l => !l.missed && decide (l.fire + usFt 100 ≤ s0.ft)) = some y ∧
    (y.void = true) :=
  ⟨1000 + usFt 100, 0, 0, (({ live with items := [{ item with state := .printing, origin := some (2 ^ 30) }] }.updRow 0 0 fun r => { r with stamped := [{ line with void := true }] }).updNode 0 1 fun n => { n with head := some 0 }), { line with void := true }, by decide +kernel⟩

theorem witness_FireReportsCount_4_1 :
    ∃ (t : Nat) (h : Fin 64) (r : Fin 4) (s : State) (y : Stamped) (it : Item),
    let s0 := s.begin t
    let s1 := s0.updRow h r fun x => { x with stamped := x.stamped.map fun z => if z = y then { z with missed := true } else z }
    let s2 := s1.spoil y.handle 3 (s1.linkLoc h r) none 0 0
    (s0.heads[h].rows[r].stamped.find? fun l => !l.missed && decide (l.fire + usFt 100 ≤ s0.ft)) = some y ∧
    (y.void = false) ∧
    (s2.item? y.handle = some it) :=
  ⟨1000 + usFt 100, 0, 0, (({ live with items := [{ item with state := .printing, origin := some (2 ^ 30) }] }.updRow 0 0 fun r => { r with stamped := [line] }).updNode 0 1 fun n => { n with head := some 0 }), line, _, by decide +kernel, by decide +kernel, some_of item (by decide +kernel)⟩

theorem witness_OutcomesReachTheHostAndTheGate_0_0 :
    ∃ (t : Nat) (s : State) (n : Notice) (rest : List Notice),
    (s.notices = n :: rest) :=
  ⟨0, { live with items := [{ item with state := .spoiled, origin := some (2 ^ 30), outcome := some { code := 1, reason := 0, finalFt := 5, op := 0, cal := 0, loc := 0 } }], notices := [{ handle := 0, zone := 0, hostId := 7, sid := 0, noSlot := none }] }, { handle := 0, zone := 0, hostId := 7, sid := 0, noSlot := none }, [], by decide +kernel⟩

theorem witness_OutcomesReachTheHostAndTheGate_1_0 :
    ∃ (s : State) (n : Notice) (it : Item) (o : Outcome) (i : Fin 32),
    (n.noSlot = none) ∧
    (s.item? n.handle = some it) ∧
    (it.outcome = some o) ∧
    (s.noticeSession n = some i) :=
  ⟨{ live with items := [{ item with state := .spoiled, origin := some (2 ^ 30), outcome := some { code := 1, reason := 0, finalFt := 5, op := 0, cal := 0, loc := 0 } }], notices := [{ handle := 0, zone := 0, hostId := 7, sid := 0, noSlot := none }] }, { handle := 0, zone := 0, hostId := 7, sid := 0, noSlot := none }, { item with state := .spoiled, origin := some (2 ^ 30), outcome := some { code := 1, reason := 0, finalFt := 5, op := 0, cal := 0, loc := 0 } }, { code := 1, reason := 0, finalFt := 5, op := 0, cal := 0, loc := 0 }, 0, by decide +kernel⟩

theorem witness_OutcomesReachTheHostAndTheGate_2_0 :
    ∃ (t : Nat) (k : Kop) (s : State) (w : Fin 32) (it : Item),
    let s1 := Safety.taken s t k
    let h := s1.outcomeSelect w
    let s2 := s1.respond w { s1.plainResp k 0 with size := 40, data := fld (s1.outcomeRead h) 0 320, dlen := 40 }
    (Safety.grant (s.begin t) k).1 = some w ∧
    (k.names 1 0x2400 0x02 = true) ∧
    (s1.sessions[w].roles &&& 15 ≠ 0) ∧
    (k.off = 0) ∧
    (k.len = 40) ∧
    (s2.item? h = some it) ∧
    (it.held = true) :=
  ⟨0, kop 1 0x2400 2 40, due ({ live with items := [{ { item with state := .spoiled, origin := some (2 ^ 30), outcome := some { code := 1, reason := 0, finalFt := 5, op := 0, cal := 0, loc := 0 } } with held := true }] }.updSess 0 fun x => { x with selects := [(objKey 0x2400 3, 0)] }), 0, { { item with state := .spoiled, origin := some (2 ^ 30), outcome := some { code := 1, reason := 0, finalFt := 5, op := 0, cal := 0, loc := 0 } } with held := true }, by decide +kernel⟩

theorem witness_OutcomesReachTheHostAndTheGate_3_0 :
    ∃ (t : Nat) (z : Fin 8) (handle : Nat) (s : State) (g : Fin 8) (it : Item),
    let s0 := s.begin t
    (s0.zoneGate z = some g) ∧
    (s0.item? handle = some it) ∧
    (it.zone = z) ∧
    (it.state = .spoiled ∨ it.state = .spoiledTail) ∧
    (it.pulsed = false) ∧
    (it.gone = false) ∧
    (s0.zones[z].hold = false) ∧
    (s0.gateDue g it = true) :=
  ⟨0, 0, 0, { (zoned.updZone 0 fun z => { z with upd := some { pos := 2 ^ 42, stamp := 0 } }) with items := [{ item with state := .spoiled, origin := some (2 ^ 30), outcome := some { code := 1, reason := 0, finalFt := 5, op := 0, cal := 0, loc := 0 } }] }, 0, { item with state := .spoiled, origin := some (2 ^ 30), outcome := some { code := 1, reason := 0, finalFt := 5, op := 0, cal := 0, loc := 0 } }, by decide +kernel⟩

theorem witness_OutcomesReachTheHostAndTheGate_5_0 :
    ∃ (t : Nat) (z : Fin 8) (s : State) (g : Fin 8),
    let s0 := (s.begin t).endTests
    (s0.zoneGate z = some g) ∧
    (s0.gates[g].asserted = true) ∧
    (s0.zones[z].hold = false) ∧
    (s0.gates[g].minEnd ≤ s0.ft) ∧
    (s0.gates[g].handles.all s0.pulseOver = true) :=
  ⟨usFt 5000, 0, zoned.updGate 0 fun g => { g with asserted := true, minEnd := usFt 5000 }, 0, by decide +kernel⟩

theorem witness_OutcomesReachTheHostAndTheGate_6_0 :
    ∃ (t : Nat) (k : Kop) (z : Fin 8) (s : State) (w : Fin 32),
    let s1 := Safety.taken s t k
    (Safety.Admits s t k (zIdx z) 0x16 1 w) ∧
    (s1.zones[z].hold = true) :=
  ⟨0, kopFor (zIdx 0) 0x16, 0, due (zoned.updZone 0 fun z => { z with hold := true }), 0, admits_of (by decide +kernel), by decide +kernel⟩

theorem witness_ZonesAreControlledAndReport_0_0 :
    ∃ (t : Nat) (k : Kop) (z : Fin 8) (s : State) (w : Fin 32),
    let s1 := Safety.taken s t k
    (Safety.Admits s t k (zIdx z) 0x11 1 w) ∧
    (s1.lifeCycle = 1 ∨ s1.lifeCycle = 2 ∨ s1.lifeCycle = 3) ∧
    (s1.devState = 1) ∧
    (s1.zones[z].state = .disabled) ∧
    (s1.zoneReady z = 0) :=
  ⟨0, kopFor (zIdx 0) 0x11, 0, due (zoned.updZone 0 fun z => { z with state := .disabled }), 0, admits_of (by decide +kernel), by decide +kernel⟩

theorem witness_ZonesAreControlledAndReport_1_0 :
    ∃ (t : Nat) (k : Kop) (z : Fin 8) (s : State) (w : Fin 32),
    let s1 := Safety.taken s t k
    (Safety.Admits s t k (zIdx z) 0x11 2 w) ∧
    (s1.zones[z].state = .enabled) :=
  ⟨0, kopFor (zIdx 0) 0x11, 0, due zoned, 0, admits_of (by decide +kernel), by decide +kernel⟩

theorem witness_ZonesAreControlledAndReport_2_0 :
    ∃ (t : Nat) (k : Kop) (z : Fin 8) (s : State) (w : Fin 32),
    let s1 := Safety.taken s t k
    (Safety.Admits s t k (zIdx z) 0x11 3 w) ∧
    (s1.zones[z].state = .enabled ∨ s1.zones[z].state = .draining) :=
  ⟨0, kopFor (zIdx 7) 0x11, 7, due (live.updZone 7 fun z => { z with state := .draining }), 0, admits_of (by decide +kernel), by decide +kernel⟩

theorem witness_ZonesAreControlledAndReport_3_0 :
    ∃ (t : Nat) (z : Fin 8) (s : State),
    let s0 := s.begin t
    (s0.zones[z].state = .draining ∨ s0.zones[z].state = .aborting) ∧
    (s0.polder z).isEmpty = true :=
  ⟨0, 7, live.updZone 7 fun z => { z with state := .aborting }, by decide +kernel⟩

theorem witness_ZonesAreControlledAndReport_4_0 :
    ∃ (s : State) (z : Fin 8) (st : ZoneState),
    (s.zones[z].state ≠ st) :=
  ⟨live, 7, .enabled, by decide +kernel⟩

theorem witness_AssetsOpenAndAreDeleted_0_0 :
    ∃ (t : Nat) (m : Ktp) (loadId hdr : Nat) (s s1 s3 : State) (i : Fin 32) (n idx b0 b1 : Nat),
    let s2 := s1.markRx i n
    (s.begin t).sequenced 0x11 m State.staleNowhere = (some (i, n), s1) ∧
    (s2.beginCond i loadId (tplHeaderOk hdr) = 0) ∧
    (s2.nextTemplate = some (idx, s3)) ∧
    (s2.allocTemplate hdr = some (b0, b1)) :=
  ⟨0, ktp 0x11, 9, tplHdr, live, _, _, 0, 0, 0, (live.allocTemplate tplHdr).getD (0, 0) |>.1, (live.allocTemplate tplHdr).getD (0, 0) |>.2, pair_of (by decide +kernel), by decide +kernel, opt_of live (by decide +kernel), by decide +kernel⟩

theorem witness_AssetsOpenAndAreDeleted_1_0 :
    ∃ (t : Nat) (m : Ktp) (loadId hdr : Nat) (s s1 s3 : State) (i : Fin 32) (n idx ch b0 b1 : Nat),
    let s2 := s1.markRx i n
    (s.begin t).sequenced 0x12 m State.staleNowhere = (some (i, n), s1) ∧
    (s2.beginCond i loadId (tileHeaderOk hdr) = 0) ∧
    (s2.nextTile = some (idx, s3)) ∧
    (s2.allocTile hdr = some (ch, b0, b1)) :=
  ⟨0, ktp 0x12, 9, tileHdr, live, _, _, 0, 0, 0, (live.allocTile tileHdr).getD (0, 0, 0) |>.1, (live.allocTile tileHdr).getD (0, 0, 0) |>.2.1, (live.allocTile tileHdr).getD (0, 0, 0) |>.2.2, pair_of (by decide +kernel), by decide +kernel, opt_of live (by decide +kernel), by decide +kernel⟩

theorem witness_AssetsOpenAndAreDeleted_2_0 :
    ∃ (t : Nat) (k : Kop) (handle : Nat) (s : State) (w : Fin 32) (a : Asset),
    let s1 := Safety.taken s t k
    (Safety.Admits s t k 0x2800 0x05 handle w) ∧
    (s1.template? handle = some a) ∧
    (a.st = .resident) :=
  ⟨0, kopFor 0x2800 5, 0, due ({ live with templates := [template] }), 0, template, admits_of (by decide +kernel), by decide +kernel⟩

theorem witness_AssetsOpenAndAreDeleted_3_0 :
    ∃ (t : Nat) (k : Kop) (handle : Nat) (s : State) (w : Fin 32) (a : Asset),
    let s1 := Safety.taken s t k
    (Safety.Admits s t k 0x2800 0x09 handle w) ∧
    (s1.tile? handle = some a) ∧
    (a.st = .resident) :=
  ⟨0, kopFor 0x2800 9, 0, due ({ live with tiles := [template] }), 0, template, admits_of (by decide +kernel), by decide +kernel⟩

theorem witness_LoadsAreReceivedAndVerified_0_0 :
    ∃ (t : Nat) (m : Ktp) (loadId off : Nat) (data : Bytes) (s s1 : State) (i : Fin 32) (n : Nat) (l : Load) (a : Asset),
    let s2 := s1.markRx i n
    (data ≠ []) ∧
    (s.begin t).sequenced 0x13 m State.staleNowhere = (some (i, n), s1) ∧
    (s2.sessions[i].openLoads.find? fun l => l.loadId == loadId) = some l ∧
    (s2.assetAt l.tile l.idx = some a) ∧
    (a.st = .loading) ∧
    (off + data.length ≤ a.dataLength l.tile) ∧
    (piecesMeet a.pieces off data.length = false) :=
  ⟨0, ktp 0x13, 9, 63, [0], ({ live with templates := [{ template with st := .loading, base0 := 0x1000, base1 := 0x1000 }] }.updSess 0 fun x => { x with loads := [{ loadId := 9, tile := false, idx := 0, done := none }] }), _, 0, 0, { loadId := 9, tile := false, idx := 0, done := none }, { template with st := .loading, base0 := 0x1000, base1 := 0x1000 }, by decide +kernel, pair_of (by decide +kernel), by decide +kernel⟩

theorem witness_LoadsAreReceivedAndVerified_1_0 :
    ∃ (t : Nat) (m : Ktp) (loadId : Nat) (s s1 : State) (i : Fin 32) (n : Nat) (l : Load) (a : Asset),
    let s2 := s1.markRx i n
    (s.begin t).sequenced 0x14 m State.staleNowhere = (some (i, n), s1) ∧
    (s2.sessions[i].openLoads.find? fun l => l.loadId == loadId) = some l ∧
    (s2.assetAt l.tile l.idx = some a) ∧
    (a.st = .loading) ∧
    (a.refs = 0) :=
  ⟨0, ktp 0x14, 9, ({ live with templates := [{ template with st := .loading, base0 := 0x1000, base1 := 0x1000 }] }.updSess 0 fun x => { x with loads := [{ loadId := 9, tile := false, idx := 0, done := none }] }), _, 0, 0, { loadId := 9, tile := false, idx := 0, done := none }, { template with st := .loading, base0 := 0x1000, base1 := 0x1000 }, pair_of (by decide +kernel), by decide +kernel⟩

theorem witness_LoadsAreReceivedAndVerified_2_0 :
    ∃ (t idx : Nat) (s : State) (a : Asset),
    let s0 := s.begin t
    (s0.assetAt false idx = some a) ∧
    (s0.loadDone false a = true) ∧
    (a.padOk = true) ∧
    (crc32cJoin (tplLength a.hdr) a.crc = tplCrc a.hdr) :=
  ⟨0, 0, { live with templates := [{ template with st := .loading, got := 64 }] }, { template with st := .loading, got := 64 }, by decide +kernel⟩

theorem witness_LoadsAreReceivedAndVerified_3_0 :
    ∃ (t idx : Nat) (s : State) (a : Asset) (es : List (Nat × Nat × Nat)),
    let s0 := s.begin t
    let n := tilePlanes a.hdr * tileHeight a.hdr
    (s0.assetAt true idx = some a) ∧
    (s0.loadDone true a = true) ∧
    (crc32cJoin (tileLength a.hdr) a.crc = tileCrc a.hdr) ∧
    (tileLimitsOk (tileWidth a.hdr) (tilePlanes a.hdr) n 0 (s0.tileData a) = true) ∧
    (indexTile (tileWidth a.hdr) (tilePlanes a.hdr) (tileMaxOps a.hdr) (tileMaxBytes a.hdr) n 0 0 (s0.tileData a) = some es) :=
  ⟨0, 0, { live with tiles := [{ template with st := .loading, hdr := tileHdr, got := 1, crc := crc32cPart [0xC0] 0, base0 := 0x1000, base1 := 0x1000, ch := 0 }], dram := live.dram.set 0 [(0x1000, 0xC0)] }, { template with st := .loading, hdr := tileHdr, got := 1, crc := crc32cPart [0xC0] 0, base0 := 0x1000, base1 := 0x1000, ch := 0 }, (indexTile 1 1 1 1 1 0 0 [0xC0]).getD [], by decide +kernel⟩

theorem witness_DramFailsAndRetrains_0_0 :
    ∃ (t : Nat) (ch : Fin 2) (s : State),
    (s.begin t).power.trained[ch] = true :=
  ⟨0, 1, live, by decide +kernel⟩

theorem witness_DramFailsAndRetrains_1_0 :
    ∃ (t : Nat) (ch : Fin 2) (s : State),
    (s.begin t).power.training[ch] = true :=
  ⟨0, 1, { live with power := { Power.init with training := Vector.replicate 2 true, failures := Vector.replicate 2 2 } }, by decide +kernel⟩

theorem witness_DramFailsAndRetrains_2_0 :
    ∃ (t : Nat) (ch : Fin 2) (s : State),
    (s.begin t).power.training[ch] = true ∧
    (s.begin t).power.failures[ch] = 2 :=
  ⟨0, 1, { live with power := { Power.init with training := Vector.replicate 2 true, failures := Vector.replicate 2 2 } }, by decide +kernel⟩

theorem witness_DramFailsAndRetrains_3_0 :
    ∃ (t : Nat) (m : Ktp) (p : StreamPart) (s s1 : State) (i : Fin 32) (n q : Nat) (it : Item),
    (partForm p = true) ∧
    (s.begin t).sequenced 0x1A m (fun s => s.countStale p.handle) = (some (i, n), s1) ∧
    (s1.item? p.handle = some it) ∧
    (s1.hostActs it.zone s1.sessions[i].hostId s1.sessions[i].roles = true) ∧
    (s1.partFate it p = .store q) :=
  ⟨0, ktp 0x1A, { handle := 0, plane := 0, line := 0, offset := 0, crc := crc32c (List.replicate 64 0), data := List.replicate 64 0 }, { (zoned.oput (hIdx 0) 0x40 pmWord) with items := [{ item with direct := true, template := 0xFFFF }] }, _, 0, 0, 0, { item with direct := true, template := 0xFFFF }, by decide +kernel, pair_of (by decide +kernel), by decide +kernel⟩

theorem witness_RowsComposeAndGenerationsInstall_0_0 :
    ∃ (t : Nat) (flips : List BitFlip) (s : State) (h : Fin 64) (r : Fin 4) (it : Item) (l : Nat) (m : SMap Nat),
    let s0 := flips.foldl State.flip (s.begin t)
    let cols := (activeNozzles (s0.planeMap h r)).filterMap fun j => s0.nozCol it h r j (s0.traverseOf it l)
    (s0.pickRow = some (h, r, it, l)) ∧
    (it.pattern = 0) ∧
    (s0.composePlane it (pmPlane (s0.planeMap h r)) (it.lineOf l) cols = .codes m) :=
  ⟨0, [], composing, 0, 0, { item with state := .admitted, origin := some (2 ^ 30), prog := [{ head := 0, row := 0, composed := 0, built := 0 }] }, 0, [], by decide +kernel⟩

theorem witness_RowsComposeAndGenerationsInstall_1_0 :
    ∃ (t : Nat) (flips : List BitFlip) (s : State) (h : Fin 64) (r : Fin 4) (it : Item) (l : Nat),
    let s0 := flips.foldl State.flip (s.begin t)
    (s0.pickRow = some (h, r, it, l)) ∧
    (it.pattern ≠ 0) :=
  ⟨0, [], { composing with items := [{ item with pattern := 1, state := .admitted, origin := some (2 ^ 30), prog := [{ head := 0, row := 0, composed := 0, built := 0 }] }] }, 0, 0, { item with pattern := 1, state := .admitted, origin := some (2 ^ 30), prog := [{ head := 0, row := 0, composed := 0, built := 0 }] }, 0, by decide +kernel⟩

theorem witness_RowsComposeAndGenerationsInstall_2_0 :
    ∃ (t : Nat) (h : Fin 64) (s : State),
    (s.begin t).heads[h].pend.isSome = true ∧
    (s.begin t).mayInstall h = true :=
  ⟨0, 63, live.updHead 63 fun h => { h with pend := some { NozMap.init with inst := 1 } }, by decide +kernel⟩

theorem witness_RowsComposeAndGenerationsInstall_3_0 :
    ∃ (s : State) (h : Fin 64) (p : NozMap),
    (s.heads[h].pend = some p) :=
  ⟨live.updHead 63 fun h => { h with pend := some { NozMap.init with inst := 1 } }, 63, { NozMap.init with inst := 1 }, by decide +kernel⟩

theorem witness_EncoderEdgesCount_0_0 :
    ∃ (t : Nat) (c : Fin 8) (wire : Fin 2) (level : Bool) (stamp : Nat) (s : State),
    let s0 := s.begin t
    let x := s0.chans[c]
    (if wire = 0 then x.levA else x.levB) ≠ level ∧
    (s0.filtered stamp (s0.cc c 0x05) = true) ∧
    (x.lastEdge = none) :=
  ⟨200, 0, 1, true, 7, ((live.oput (cIdx 0) 0x01 1).updChan 0 fun x => { x with state := .valid, lastEdge := none }), by decide +kernel⟩

theorem witness_EncoderEdgesCount_0_0b :
    ∃ (t : Nat) (c : Fin 8) (wire : Fin 2) (level : Bool) (stamp : Nat) (s : State),
    let s0 := s.begin t
    let x := s0.chans[c]
    (if wire = 0 then x.levA else x.levB) ≠ level ∧
    (s0.filtered stamp (s0.cc c 0x05) = true) ∧
    (x.lastEdge = some (7, 0)) :=
  ⟨200, 0, 1, true, 7, ((live.oput (cIdx 0) 0x01 1).updChan 0 fun x => { x with state := .valid, lastEdge := some (7, 0) }), by decide +kernel⟩

theorem witness_FeedbackIsCounted_0_0 :
    ∃ (t : Nat) (c : Fin 8) (cause : Nat) (s : State),
    (s.begin t).cc c 0x01 = 1 ∧
    (cause = 1 ∨ cause = 2 ∨ cause = 4) :=
  ⟨0, 0, 4, (live.oput (cIdx 0) 0x01 1), by decide +kernel⟩

theorem witness_FeedbackIsCounted_1_0 :
    ∃ (t : Nat) (c : Fin 8) (stamp bits : Nat) (s : State) (r : Int),
    let s0 := s.begin t
    let x := s0.chans[c]
    let p := fld (s0.cc c 0x0D) 6 6
    let raw : Int := s0.inverted c (ssiPos (s0.cc c 0x0D) bits)
    let step : Int := sx p (toU p (raw - r))
    (s0.cc c 0x01 = 2) ∧
    (x.state ≠ .off) ∧
    (x.state.counts = true) ∧
    (ssiErr (s0.cc c 0x0D) bits = false) ∧
    (x.raw = some r) ∧
    (step.natAbs ≤ s0.cc c 0x12) :=
  ⟨0, 0, 7, 0, ((live.oput (cIdx 0) 0x01 2).updChan 0 fun x => { x with state := .valid, raw := some 0 }), 0, by decide +kernel⟩

theorem witness_FeedbackIsCounted_2_0 :
    ∃ (t : Nat) (c : Fin 8) (x y : Int) (s : State),
    let s0 := s.begin t
    let pr := (s0.corr c).phase x y
    (s0.cc c 0x01 = 3) ∧
    (c.val < 4) ∧
    (s0.chans[c].state = .starting) ∧
    (s0.chans[c].phase = none) ∧
    (1 / 4 ≤ pr.2) ∧
    (pr.2 ≤ 9 / 4) :=
  ⟨0, 0, 5000, 0, ((live.oput (cIdx 0) 0x01 3).updChan 0 fun x => { x with state := .starting }), by decide +kernel⟩

theorem witness_FeedbackIsCounted_3_0 :
    ∃ (t : Nat) (c : Fin 8) (active : Bool) (stamp : Nat) (s : State),
    let s0 := s.begin t
    let x := s0.chans[c]
    (s0.cc c 0x01 = 1) ∧
    (s0.cc c 0x06 ≠ 0) ∧
    (active = x.dirPos.getD true) ∧
    (s0.filtered stamp (s0.cc c 0x05) = true) ∧
    (x.state = .starting) ∧
    (x.last = none) ∧
    (s0.cc c 0x08 = 0) :=
  ⟨200, 0, true, 7, (((live.oput (cIdx 0) 0x01 1).oput (cIdx 0) 0x06 1000).updChan 0 fun x => { x with state := .starting }), by decide +kernel⟩

theorem witness_ChannelsStartAndMarksAreOffered_0_0 :
    ∃ (t : Nat) (c : Fin 8) (s : State),
    let s0 := s.begin t
    (s0.chans[c].state = .starting) ∧
    (s0.mayStart c = true) :=
  ⟨msFt 1, 0, ((live.oput (cIdx 0) 0x01 1).updChan 0 fun x => { x with state := .starting }), by decide +kernel⟩

theorem witness_ChannelsStartAndMarksAreOffered_1_0 :
    ∃ (t : Nat) (k : Kop) (c : Fin 8) (s : State) (w : Fin 32),
    let s1 := Safety.taken s t k
    (Safety.Admits s t k (cIdx c) 0x16 1 w) ∧
    (s1.chans[c].state = .fault) ∧
    (s1.chans[c].badAt + msFt 1 ≤ s1.ft) :=
  ⟨msFt 1, kopFor (cIdx 7) 0x16, 7, due (live.updChan 7 fun x => { x with state := .fault }), 0, admits_of (by decide +kernel), by decide +kernel⟩

theorem witness_ChannelsStartAndMarksAreOffered_2_0 :
    ∃ (t : Nat) (k : Kop) (c : Fin 8) (v : Nat) (s : State) (w : Fin 32),
    (Safety.Admits s t k (cIdx c) 0x17 v w) :=
  ⟨0, kopFor (cIdx 7) 0x17, 7, 2 ^ 63, due live, 0, admits_of (by decide +kernel)⟩

theorem witness_ChannelsStartAndMarksAreOffered_3_0 :
    ∃ (t : Nat) (c : Fin 8) (s : State),
    let s0 := s.begin t
    (s0.ft % 12500 = 0) :=
  ⟨12500, 7, live.updChan 7 fun x => { x with state := .valid, u1 := some (1, 12000) }, by decide +kernel⟩

theorem witness_ChannelsStartAndMarksAreOffered_4_0 :
    ∃ (t : Nat) (m : Fin 8) (stamp : Nat) (level : Bool) (s : State) (z : Fin 8),
    (s.begin t).markZone m = some z ∧
    (s.begin t).markFiltered m stamp = true ∧
    (level = ((s.begin t).oget (mIdx m) 0x01 == 0)) ∧
    (s.begin t).srcValid z = true :=
  ⟨usFt 1000, 7, 9, true, (zoned.oput (zIdx 0) 0x71 7), 0, by decide +kernel⟩

theorem witness_ChannelsStartAndMarksAreOffered_5_0 :
    ∃ (t : Nat) (m : Fin 8) (s : State) (z : Fin 8) (w : MarkWait) (ws : List MarkWait) (p : Int),
    let s0 := s.begin t
    let s1 := s0.updMark m fun x => { x with waits := x.waits.filter fun v => v ≠ w }
    (s0.markZone m = some z) ∧
    (s0.marks[m].waits = w :: ws) ∧
    (w.pos = some p) ∧
    (s0.oget (mIdx m) 0x05 = 0) ∧
    (s1.markOk z m p none = true) ∧
    (s1.running 2 = true) :=
  ⟨0, 7, (zoned.oput (zIdx 0) 0x71 7).updMark 7 fun m => { m with waits := [{ stamp := 9, pos := some 5, close := none, closePos := none }] }, 0, { stamp := 9, pos := some 5, close := none, closePos := none }, [], 5, by decide +kernel⟩

theorem witness_ChannelsStartAndMarksAreOffered_6_0 :
    ∃ (t : Nat) (k : Kop) (g : Fin 8) (s : State) (w : Fin 32),
    let s1 := Safety.taken s t k
    (Safety.Admits s t k (gIdx g) 0x0A 1 w) ∧
    (∀ z, s1.gateZone g = some z → s1.zoneIdle z = true) ∧
    (s1.gates[g].asserted = false) :=
  ⟨0, kopFor (gIdx 7) 0x0A, 7, due live, 0, admits_of (by decide +kernel), by decide +kernel⟩

theorem witness_SpeedsStayWithinTheMaximum_0_1 :
    ∃ (s : State) (c : Fin 8),
    (s.speedOf c).2 = true :=
  ⟨{ (live.updChan 7 fun x => { x with u1 := some (0, 0) }) with ft := 2 ^ 60 }, 7, by decide +kernel⟩

theorem witness_SamplesMoveChains_0_0 :
    ∃ (t : Nat) (c : Fin 16) (mv : Nat) (sense : Int) (s : State),
    let s0 := s.begin t
    (s0.domains[(8 : Fin 11)].state = 2 ∨ (s0.domains[(8 : Fin 11)].state = 1 ∧ ∀ a, s0.chains[c].lastSample = some a → a + msFt 1 ≤ s0.ft)) :=
  ⟨0, 15, 24000, 0, live, by decide +kernel⟩

theorem witness_SamplesMoveChains_2_0 :
    ∃ (s : State) (c : Fin 16),
    let x := s.chains[c]
    (x.state = .ramp) ∧
    (s.rampDue c = true) :=
  ⟨(live.updChain 15 fun x => { x with state := .ramp }), 15, by decide +kernel⟩

theorem witness_SamplesMoveChains_3_0 :
    ∃ (s : State) (c : Fin 16),
    let x := s.chains[c]
    (x.state = .ramp) ∧
    (s.rampDue c = false) ∧
    (s.inrushDue c = true) :=
  ⟨{ (live.updChain 15 fun x => { x with state := .ramp, timeout := 20, inrushFrom := some 0 }) with ft := msFt 5 }, 15, by decide +kernel⟩

theorem witness_SamplesMoveChains_4_0 :
    ∃ (s : State) (c : Fin 16),
    let x := s.chains[c]
    (x.state = .on ∨ x.state = .fault) ∧
    (2 ≤ x.overI) :=
  ⟨(live.updChain 15 fun x => { x with state := .fault, overI := 2 }), 15, by decide +kernel⟩

theorem witness_SamplesMoveChains_5_0 :
    ∃ (s : State) (c : Fin 16),
    let x := s.chains[c]
    (x.state = .on ∨ x.state = .fault) ∧
    (x.overI < 2) ∧
    (2 ≤ x.overV) :=
  ⟨(live.updChain 15 fun x => { x with state := .on, overI := 1, overV := 2 }), 15, by decide +kernel⟩

theorem witness_SamplesMoveChains_6_0 :
    ∃ (s : State) (c : Fin 16),
    let x := s.chains[c]
    (x.state = .ramp) ∧
    (s.rampDue c = false) ∧
    (s.inrushDue c = false) ∧
    (x.overI < 2) ∧
    (x.overV < 2) :=
  ⟨(live.updChain 15 fun x => { x with state := .ramp, timeout := 20, inRun := 200 }), 15, by decide +kernel⟩

theorem witness_SamplesMoveChains_7_0 :
    ∃ (s : State) (c : Fin 16),
    let x := s.chains[c]
    (x.state = .on) ∧
    (x.overI < 2) ∧
    (x.overV < 2) :=
  ⟨(live.updChain 15 fun x => { x with state := .on, outRun := 2 }), 15, by decide +kernel⟩

theorem witness_SamplesMoveChains_8_0 :
    ∃ (s : State) (c : Fin 16),
    let x := s.chains[c]
    (x.state = .fault) ∧
    (x.overI < 2) ∧
    (x.overV < 2) :=
  ⟨(live.updChain 15 fun x => { x with state := .fault, inRun := 199 }), 15, by decide +kernel⟩

theorem witness_SamplesMoveChains_9_0 :
    ∃ (s : State) (c : Fin 16),
    let x := s.chains[c]
    (x.state = .off ∨ x.state = .armed ∨ x.state = .tripped) :=
  ⟨(live.updChain 15 fun x => { x with state := .tripped }), 15, by decide +kernel⟩

theorem witness_SuppliesAreControlledAndTrip_0_0 :
    ∃ (t : Nat) (k : Kop) (c : Fin 16) (s : State) (w : Fin 32),
    let s1 := Safety.taken s t k
    (Safety.Admits s t k (lIdx c) 0x40 1 w) ∧
    (s1.lifeCycle ≠ 0) ∧
    (s1.lifeCycle ≠ 4) ∧
    (s1.isSecondary c = false) ∧
    (s1.devState ≠ 2) ∧
    (s1.chains[c].state = .off) :=
  ⟨0, kopFor (lIdx 15) 0x40, 15, due live, 0, admits_of (by decide +kernel), by decide +kernel⟩

theorem witness_SuppliesAreControlledAndTrip_1_0 :
    ∃ (t : Nat) (k : Kop) (c : Fin 16) (s : State) (w : Fin 32),
    let s1 := Safety.taken s t k
    (Safety.Admits s t k (lIdx c) 0x40 0 w) ∧
    (s1.chains[c].state = .on) :=
  ⟨0, kopFor (lIdx 15) 0x40, 15, due ((live.updChain 15 fun x => { x with state := .on })), 0, admits_of (by decide +kernel), by decide +kernel⟩

theorem witness_SuppliesAreControlledAndTrip_2_0 :
    ∃ (t : Nat) (k : Kop) (c : Fin 16) (s : State) (w : Fin 32),
    let s1 := Safety.taken s t k
    (Safety.Admits s t k (lIdx c) 0x40 2 w) ∧
    (s1.chains[c].state = .tripped) :=
  ⟨0, kopFor (lIdx 15) 0x40, 15, due ((live.updChain 15 fun x => { x with state := .tripped, vph := 1999 })), 0, admits_of (by decide +kernel), by decide +kernel⟩

theorem witness_SuppliesAreControlledAndTrip_3_0 :
    ∃ (t : Nat) (c : Fin 16) (s : State),
    let s0 := s.begin t
    (s0.chains[c].state = .armed) ∧
    (s0.mayRamp c = true) :=
  ⟨0, 0, { (((composing.updNode 0 1 fun n => { n with present := true, kind := 1, head := some 0 }).updPort 0 fun p => { p with state := .ready, enumDepth := 1 }).updChain 0 fun x => { x with state := .armed, vph := 1999 }) with power := { live.power with die := Vector.replicate 2 true } }, by decide +kernel⟩

theorem witness_SuppliesAreControlledAndTrip_4_0 :
    ∃ (t : Nat) (c : Fin 16) (s : State),
    (s.begin t).chains[c].state = .ramp ∧
    (s.begin t).rampDue c = true :=
  ⟨msFt 20, 15, (live.updChain 15 fun x => { x with state := .ramp, timeout := 20 }), by decide +kernel⟩

theorem witness_SuppliesAreControlledAndTrip_5_0 :
    ∃ (t : Nat) (c : Fin 16) (s : State),
    (s.begin t).chains[c].state = .ramp ∧
    (s.begin t).inrushDue c = true :=
  ⟨msFt 5, 15, (live.updChain 15 fun x => { x with state := .ramp, inrushFrom := some 0 }), by decide +kernel⟩

theorem witness_SuppliesAreControlledAndTrip_6_0 :
    ∃ (t : Nat) (c : Fin 16) (s : State),
    (s.begin t).chains[c].state = .off ∧
    (s.begin t).leaks c = true :=
  ⟨msFt 1, 15, (live.updChain 15 fun x => { x with leakFrom := some 0 }), by decide +kernel⟩

theorem witness_SuppliesAreControlledAndTrip_8_0 :
    ∃ (t : Nat) (c : Fin 16) (s : State) (a : Nat),
    let s0 := s.begin t
    (s0.chains[c].state = .on) ∧
    (s0.chains[c].lastSample = some a) ∧
    (a + usFt 50 ≤ s0.ft) :=
  ⟨usFt 50, 15, (live.updChain 15 fun x => { x with state := .on, lastSample := some 0 }), 0, by decide +kernel⟩

theorem witness_SuppliesAreControlledAndTrip_9_0 :
    ∃ (t : Nat) (c : Fin 16) (s : State) (r : Rat),
    let s0 := s.begin t
    (s0.lc c 0x4A = 0) ∧
    (s0.chains[c].rsAt + msFt 10 ≤ s0.ft) ∧
    (slopeOf (s0.chains[c].samples.filter fun y => s0.ft ≤ y.tick + msFt 10) = some r) ∧
    (0 ≤ r) ∧
    (r ≤ 500000) :=
  ⟨msFt 10, 15, (live.updChain 15 fun x => { x with samples := [{ tick := 2, mv := 24000, ma := 10000 }, { tick := 1, mv := 25000, ma := 0 }] }), 100000, by decide +kernel⟩

theorem witness_HeadsAreKeptAndScanned_0_0 :
    ∃ (t : Nat) (h : Fin 64) (s : State),
    let s0 := s.begin t
    let x := s0.heads[h]
    (x.blockOk = true) ∧
    (x.thermal ≠ .cooldown) ∧
    (s0.tempStale h = true) :=
  ⟨187500, 63, (live.updHead 63 fun _ => { head with temp := 400 }), by decide +kernel⟩

theorem witness_HeadsAreKeptAndScanned_1_0 :
    ∃ (t : Nat) (h : Fin 64) (s : State),
    let s0 := s.begin t
    let x := s0.heads[h]
    (x.thermal = .cooldown) ∧
    (s0.tempStale h = false) ∧
    (x.temp < x.tResume) ∧
    (x.sensorFault = false) ∧
    (x.tripped = false) ∧
    (s0.headBoundary h = true) :=
  ⟨0, 0, (live.updHead 0 fun _ => { head with thermal := .cooldown, temp := 499 }), by decide +kernel⟩

theorem witness_HeadsAreKeptAndScanned_2_0 :
    ∃ (t : Nat) (h : Fin 64) (s : State),
    let s0 := s.begin t
    (s0.running 4 = true) ∧
    (s0.heads[h].blockOk = true) :=
  ⟨0, 63, (live.updHead 63 fun _ => { head with temp := 400 }), by decide +kernel⟩

theorem witness_HeadsAreKeptAndScanned_3_0 :
    ∃ (t : Nat) (h : Fin 64) (s : State) (c : Fin 16),
    let s0 := s.begin t
    (s0.running 1 = true) ∧
    (s0.heads[h].link = some c) ∧
    (s0.heads[h].idState = .reading) ∧
    (s0.heads[h].rdEnd = 1) ∧
    (makerWf (wordsNum s0.heads[h].rd) s0.ports[c].nodes[(Fin.ofNat 9 s0.heads[h].node : Fin 9)].identity = true) :=
  ⟨0, 0, (live.updHead 0 fun _ => { head with idState := .reading, rdEnd := 1, rd := (List.range 54).map fun i => fld maker (64 * i) 64 }), 0, by decide +kernel⟩

theorem witness_HeadsAreKeptAndScanned_4_0 :
    ∃ (t : Nat) (h : Fin 64) (c : Fin 16) (s : State) (p : Nat),
    let s0 := s.begin t
    let x := s0.heads[h]
    (x.link = some c) ∧
    (s0.headNode h).isSome = true ∧
    (x.idState = .verified) ∧
    (x.trimBusy = false) ∧
    (x.trimOk = false) ∧
    (x.trimFailed = false) ∧
    (s0.trimPlane h = some p) :=
  ⟨0, 0, 0, ((live.updHead 0 fun _ => { head with trimOk := false, trimSrc := 1, baseOk := true }).updNode 0 1 fun n => { n with present := true }), ((((live.updHead 0 fun _ => { head with trimOk := false, trimSrc := 1, baseOk := true }).updNode 0 1 fun n => { n with present := true }).begin 0).trimPlane 0).getD 0, by decide +kernel⟩

theorem witness_HeadsAreKeptAndScanned_5_0 :
    ∃ (s : State) (h : Fin 64) (status crc : Nat),
    (s.heads[h].trimBusy = true) :=
  ⟨(live.updHead 0 fun _ => { head with trimBusy := true }), 0, 0, 0, by decide +kernel⟩

theorem witness_HeadsAreKeptAndScanned_6_0 :
    ∃ (t : Nat) (h : Fin 64) (s : State) (c : Fin 16) (a : Fin 9),
    let s0 := s.begin t
    let x := s0.heads[h]
    let l := s0.nodePort c a
    let at_ := s0.scanTick l none
    (x.scanRedo = []) ∧
    (x.scanNext ≠ 0) ∧
    (x.scanNext < x.nozzleTotal) ∧
    (x.scanBlk = none) ∧
    (x.scanAhead = none) ∧
    (x.blockOk = true) ∧
    (s0.scanIsDue h = true) ∧
    (s0.headNode h = some (c, a)) ∧
    (s0.ports[c].nodes[a].ctl = none) ∧
    (s0.ports[c].nodes[a].ctlWait = []) ∧
    (s0.sends l = true) ∧
    (s0.lineWaits l = false) ∧
    (s0.scanWindow h at_ = true) :=
  ⟨0, 0, ((((live.updHead 0 fun _ => { head with scanDue := true, scanNext := 20 }).updNode 0 1 fun n => { n with present := true })).updPort 0 fun p => { p with state := .ready, fec := true }), 0, 1, by decide +kernel⟩

theorem witness_HeadsAreKeptAndScanned_7_0 :
    ∃ (t : Nat) (h : Fin 64) (v0 : Nat) (vs : List Nat) (s : State) (b : ScanBlock),
    let s0 := s.begin t
    (s0.heads[h].scanBlk = some b) ∧
    (vs.length = b.count) ∧
    (b.end_ ≤ s0.ft) :=
  ⟨5000, 0, 16384, [16384], (live.updHead 0 fun _ => { head with scanBlk := some { row := 0, first := 20, count := 1, ft := 0, cur := 500, open_ := 0, short := 0, drift := 0, lead := 0 } }), { row := 0, first := 20, count := 1, ft := 0, cur := 500, open_ := 0, short := 0, drift := 0, lead := 0 }, by decide +kernel⟩

theorem witness_HeadsAreKeptAndScanned_8_0 :
    ∃ (t : Nat) (h : Fin 64) (s : State),
    let s0 := s.begin t
    (s0.hc h 0x21 ≠ 0) ∧
    (s0.heads[h].link.isSome = true) ∧
    (s0.heads[h].lastFull + secFt (s0.hc h 0x21) ≤ s0.ft) :=
  ⟨secFt 600, 63, (live.updHead 63 fun _ => { head with temp := 400 }), by decide +kernel⟩

theorem witness_HeadsAreKeptAndScanned_9_0 :
    ∃ (t : Nat) (k : Kop) (h : Fin 64) (s : State) (w : Fin 32),
    (Safety.Admits s t k (hIdx h) 0x22 1 w) :=
  ⟨0, kopFor (hIdx 63) 0x22, 63, due live, 0, admits_of (by decide +kernel)⟩

theorem witness_HeadsAreKeptAndScanned_10_0 :
    ∃ (t : Nat) (k : Kop) (h : Fin 64) (s : State) (w : Fin 32),
    (Safety.Admits s t k (hIdx h) 0x22 2 w) :=
  ⟨0, kopFor (hIdx 63) 0x22, 63, due live, 0, admits_of (by decide +kernel)⟩

theorem witness_EdgesAreProcessedAndTimeOut_0_0 :
    ∃ (t : Nat) (z : Fin 8) (s : State) (c : Rat) (stamp : Nat),
    let s0 := s.begin t
    (s0.zones[z].place ≠ .noSource) ∧
    (s0.zones[z].trk.held = some (c, stamp)) ∧
    (s0.zones[z].trk.tLast + 64 ≤ s0.ft) :=
  ⟨64, 7, live.updZone 7 fun z => { z with place := .standby, trk := { z.trk with held := some (5, 0) } }, 5, 0, by decide +kernel⟩

theorem witness_EdgesAreProcessedAndTimeOut_0_1 :
    ∃ (t : Nat) (z : Fin 8) (s : State),
    let s0 := s.begin t
    (s0.zones[z].place ≠ .noSource) ∧
    (s0.zones[z].trk.held = none ∨ s0.ft < s0.zones[z].trk.tLast + 64) :=
  ⟨63, 7, live.updZone 7 fun z => { z with place := .standby, trk := { z.trk with held := some (5, 0) } }, by decide +kernel⟩

theorem witness_EdgesAreProcessedAndTimeOut_1_0 :
    ∃ (t : Nat) (z : Fin 8) (s : State),
    let s0 := s.begin t
    (s0.zones[z].trk.tLast + msFt 1 ≤ s0.ft) ∧
    (s0.zones[z].place = .tracking) :=
  ⟨msFt 1, 7, live.updZone 7 fun z => { z with place := .tracking, trk := { z.trk with held := some (5, 0) } }, by decide +kernel⟩

theorem witness_EdgesAreProcessedAndTimeOut_1_1 :
    ∃ (t : Nat) (z : Fin 8) (s : State),
    let s0 := s.begin t
    (s0.zones[z].trk.tLast + msFt 1 ≤ s0.ft) ∧
    (s0.zones[z].place = .fault) :=
  ⟨msFt 1, 7, live.updZone 7 fun z => { z with place := .fault, trk := { z.trk with held := some (5, 0) } }, by decide +kernel⟩

theorem witness_EdgesAreProcessedAndTimeOut_1_2 :
    ∃ (t : Nat) (z : Fin 8) (s : State),
    let s0 := s.begin t
    (s0.zones[z].trk.tLast + msFt 1 ≤ s0.ft) ∧
    (s0.zones[z].place = .standby ∨ s0.zones[z].place = .suspended ∨ s0.zones[z].place = .noSource) :=
  ⟨msFt 1, 7, live.updZone 7 fun z => { z with place := .suspended, trk := { z.trk with held := some (5, 0) } }, by decide +kernel⟩

theorem witness_TheTrackerFiltersAndStamps_0_0 :
    ∃ (s : State) (z : Fin 8) (cnt : Rat) (t : Nat),
    let k := s.zones[z].trk
    let dt : Rat := (t : Rat) - (k.tLast : Rat)
    let r := wrapR (cnt - (k.pHat + k.vHat * dt))
    (s.zones[z].place = .tracking) ∧
    (absR r ≤ s.trackLimit z) ∧
    (0 < wrapR (cnt - k.lastCnt)) :=
  ⟨zoned, 0, 1, 100, by decide +kernel⟩

theorem witness_TheTrackerFiltersAndStamps_1_0 :
    ∃ (s : State) (it : Item) (h : Fin 64) (r : Fin 4) (l : Nat) (f f0 : Int) (void : Bool) (fire : Nat),
    (s.buildNow it h r l f void = .stamp fire f0) :=
  ⟨{ ((composing.oput (cIdx 0) 0x04 4096).updRow 0 0 fun r => { r with ring := [{ handle := 0, line := 0, codes := 0 }] }).updChain 0 fun x => { x with state := .on } with free := 0 }, { item with state := .admitted, origin := some (2 ^ 30), prog := [{ head := 0, row := 0, composed := 0, built := 0 }] }, 0, 0, 0, 1000000, 1000000, false, 1000000, by decide +kernel⟩

theorem witness_TheTrackerFiltersAndStamps_1_1 :
    ∃ (s : State) (it : Item) (h : Fin 64) (r : Fin 4) (l : Nat) (f f0 : Int) (void : Bool) (fire : Nat),
    (s.buildNow it h r l f void = .stamp fire f0) ∧
    (void = false) :=
  ⟨{ ((composing.oput (cIdx 0) 0x04 4096).updRow 0 0 fun r => { r with ring := [{ handle := 0, line := 0, codes := 0 }] }).updChain 0 fun x => { x with state := .on } with free := 0 }, { item with state := .admitted, origin := some (2 ^ 30), prog := [{ head := 0, row := 0, composed := 0, built := 0 }] }, 0, 0, 0, 1000000, 1000000, false, 1000000, by decide +kernel⟩

theorem witness_FramesAreBuiltAndCancelled_1_0 :
    ∃ (t : Nat) (h : Fin 64) (row : Fin 4) (s : State) (w : Withdrawn) (x : Sent),
    let s0 := s.begin t
    (s0.heads[h].rows[row].withdrawn.find? s0.cancelDue = some w) ∧
    (w.sent = some x) :=
  ⟨90000, 0, 3, live.updRow 0 3 fun r => { r with withdrawn := [{ toStamped := { line with fire := 100000, sent := some { port := 0, lane := 0, tick := 0, bseq := 0, depth := 1 } }, cancels := 2, cancelAt := 0 }] }, { toStamped := { line with fire := 100000, sent := some { port := 0, lane := 0, tick := 0, bseq := 0, depth := 1 } }, cancels := 2, cancelAt := 0 }, { port := 0, lane := 0, tick := 0, bseq := 0, depth := 1 }, by decide +kernel⟩

theorem witness_FramesAreBuiltAndCancelled_2_0 :
    ∃ (t : Nat) (h : Fin 64) (row : Fin 4) (s : State),
    (s.begin t).heads[h].rows[row].withdrawn.find? (s.begin t).cancelDue = none :=
  ⟨90000, 0, 3, live, by decide +kernel⟩

theorem witness_TraversesRun_0_0 :
    ∃ (t : Nat) (z : Fin 8) (s : State) (it : Item) (o : Int),
    let s0 := s.begin t
    (s0.scanItem z = some it) ∧
    (s0.zc z 0x30 ≠ 0) ∧
    (s0.zones[z].armed = false) ∧
    (s0.zones[z].feedDue = false) ∧
    (s0.zones[z].feedRun = false) ∧
    (it.origin = some o) ∧
    (s0.zc z 0x12 : Rat) * s0.pitch z ≤ wrapR (((o + s0.lowestOff it : Int) : Rat) - s0.counted z) :=
  ⟨0, 0, ((composing.oput (zIdx 0) 0x30 1).oput (zIdx 0) 0x5F 0), { item with state := .admitted, origin := some (2 ^ 30), prog := [{ head := 0, row := 0, composed := 0, built := 0 }] }, 2 ^ 30, by decide +kernel⟩

theorem witness_TraversesRun_1_0 :
    ∃ (t : Nat) (z : Fin 8) (s : State) (it : Item),
    let s0 := s.begin t
    (s0.zc z 0x30 ≠ 0) ∧
    ((s0.zoneItems z).find? fun it => !it.prog.isEmpty && it.feedBase.isNone) = some it ∧
    (s0.traverseDone it = true) ∧
    (s0.zones[z].armed = true) ∧
    (s0.unbuilt it = true) ∧
    (it.pattern = 0) ∧
    (s0.feedAxis z).isSome = true :=
  ⟨0, 0, { ((((composing.oput (zIdx 0) 0x30 1).oput (zIdx 0) 0x5F 0).oput (zIdx 0) 0x61 1).oput (zIdx 0) 0x30 2).updZone 0 fun z => { z with armed := true } with items := [{ item with state := .printing, origin := some (2 ^ 30), prog := [{ head := 0, row := 0, composed := 1, built := 1 }] }] }, { item with state := .printing, origin := some (2 ^ 30), prog := [{ head := 0, row := 0, composed := 1, built := 1 }] }, by decide +kernel⟩

theorem witness_TraversesRun_2_0 :
    ∃ (t : Nat) (k : Kop) (z : Fin 8) (cmd : Nat) (s : State) (w : Fin 32) (it : Item) (slot : Nat) (rest : List Nat),
    let s1 := Safety.taken s t k
    let a := Safety.actor s t k (zIdx z) 0x67 w
    let x := s1.sessions[a.sess]
    (Safety.Admits s t k (zIdx z) 0x67 cmd w) ∧
    (s1.patternItem z cmd (s1.sid a.sess) (if bitOf x.roles 2 then x.hostId else 0) = some it) ∧
    (s1.freeSlots = slot :: rest) ∧
    (s1.zoneItems z).length < s1.zc z 0x13 :=
  ⟨0, kopFor (zIdx 0) 0x67, 0, 1, due zoned, 0, _, 0, List.range' 1 255, admits_of (by decide +kernel), some_of item (by decide +kernel), by decide +kernel⟩

theorem witness_BoardsSynchroniseAndAlign_0_1 :
    ∃ (t : Nat) (p : Fin 2) (s : State),
    let s0 := s.begin t
    (s0.sync.passive = false) :=
  ⟨0, 1, live, by decide +kernel⟩

theorem witness_BoardsSynchroniseAndAlign_1_0 :
    ∃ (t : Nat) (p : Fin 2) (f : SyncFrame) (s : State),
    let s0 := s.begin t
    (f.ok = true) ∧
    (s0.sync.passive = false) ∧
    (s0.neighbour p = some f.srcPos) ∧
    (f.echoFt = 0) ∧
    (f.snap = false) :=
  ⟨0, 1, SyncFrame.seal { srcPos := 1, aligned := false, fault := false, snap := false, bp0Valid := false, bp1Valid := false, seq := 0, hops := 0, txFt := 0, echoFt := 0, echoDwell := 0, snapFt := 0, bp0Pos := 0, bp0Age := 0, bp1Pos := 0, bp1Age := 0, rsv := 0, crc := 0 }, live, by decide +kernel⟩

theorem witness_BoardsSynchroniseAndAlign_2_0 :
    ∃ (t : Nat) (p : Fin 2) (f : SyncFrame) (s : State),
    (f.ok = true) ∧
    (s.begin t).sync.passive = false ∧
    (s.begin t).neighbour p ≠ some f.srcPos :=
  ⟨0, 1, SyncFrame.seal { srcPos := 2, aligned := false, fault := false, snap := false, bp0Valid := false, bp1Valid := false, seq := 0, hops := 0, txFt := 0, echoFt := 0, echoDwell := 0, snapFt := 0, bp0Pos := 0, bp0Age := 0, bp1Pos := 0, bp1Age := 0, rsv := 0, crc := 0 }, live, by decide +kernel⟩

theorem witness_BoardsSynchroniseAndAlign_3_0 :
    ∃ (t : Nat) (p : Fin 2) (f : SyncFrame) (s : State),
    (f.ok = false) :=
  ⟨0, 1, { srcPos := 1, aligned := false, fault := false, snap := false, bp0Valid := false, bp1Valid := false, seq := 0, hops := 0, txFt := 0, echoFt := 0, echoDwell := 0, snapFt := 0, bp0Pos := 0, bp0Age := 0, bp1Pos := 0, bp1Age := 0, rsv := 0, crc := 0 }, live, by decide +kernel⟩

theorem witness_BoardsSynchroniseAndAlign_4_0 :
    ∃ (t : Nat) (s : State),
    let s0 := s.begin t
    (s0.sync.stepDue = true) ∧
    (s0.allIdle = true) ∧
    (s0.sync.passive = false) :=
  ⟨0, live.updSync fun y => { y with stepDue := true }, by decide +kernel⟩

theorem witness_BoardsSynchroniseAndAlign_5_0 :
    ∃ (t : Nat) (s : State),
    let s0 := s.begin t
    (s0.bpos ≠ 0) ∧
    (waited (s0.sync.rx[(0 : Fin 2)].map (·.at_)) 125000 s0.ft = true) ∧
    (s0.sync.align ≤ 2) :=
  ⟨125000, { live.updSync fun y => { y with align := 2, rx := y.rx.set 0 (some { txFt := 0, at_ := 0, fault := false, snap := false, snapFt := 0, bp0 := none, bp1 := none }) } with bpos := 7 }, by decide +kernel⟩

theorem witness_BoardsSynchroniseAndAlign_6_0 :
    ∃ (t : Nat) (s : State),
    (s.begin t).sync.startup = true ∧
    (s.begin t).bpos = 0 ∨ (s.begin t).sync.seen = true :=
  ⟨0, live.updSync fun y => { y with startup := true }, by decide +kernel⟩

theorem witness_BoardsSynchroniseAndAlign_6_1 :
    ∃ (t : Nat) (s : State),
    (s.begin t).sync.startup = true ∧
    (s.begin t).bpos ≠ 0 ∧
    (s.begin t).sync.seen = false :=
  ⟨0, { live.updSync fun y => { y with startup := true } with bpos := 1 }, by decide +kernel⟩

theorem witness_BoardsSynchroniseAndAlign_7_0 :
    ∃ (t : Nat) (k : Kop) (v : Nat) (s : State) (w : Fin 32),
    (Safety.Admits s t k 0xA800 0x09 v w) :=
  ⟨0, kopFor 0xA800 9, 1, due live, 0, admits_of (by decide +kernel)⟩

theorem witness_BoardsSynchroniseAndAlign_8_0 :
    ∃ (s : State) (f : SyncFrame),
    (f.echoFt ≠ 0) :=
  ⟨live, { srcPos := 1, aligned := false, fault := false, snap := false, bp0Valid := false, bp1Valid := false, seq := 0, hops := 0, txFt := 0, echoFt := 1, echoDwell := 0, snapFt := 0, bp0Pos := 0, bp0Age := 0, bp1Pos := 0, bp1Age := 0, rsv := 0, crc := 0 }, by decide +kernel⟩

theorem witness_BoardsSynchroniseAndAlign_8_1 :
    ∃ (s : State) (f : SyncFrame),
    (f.echoFt ≠ 0) ∧
    (0 < syncOffset2 f s.ft) :=
  ⟨live, { srcPos := 1, aligned := false, fault := false, snap := false, bp0Valid := false, bp1Valid := false, seq := 0, hops := 0, txFt := 1000, echoFt := 1, echoDwell := 0, snapFt := 0, bp0Pos := 0, bp0Age := 0, bp1Pos := 0, bp1Age := 0, rsv := 0, crc := 0 }, by decide +kernel⟩

theorem witness_BoardsSynchroniseAndAlign_8_2 :
    ∃ (s : State) (f : SyncFrame),
    (f.echoFt ≠ 0) ∧
    (syncOffset2 f s.ft < 0) :=
  ⟨{ live with ft := 1000 }, { srcPos := 1, aligned := false, fault := false, snap := false, bp0Valid := false, bp1Valid := false, seq := 0, hops := 0, txFt := 10, echoFt := 900, echoDwell := 0, snapFt := 0, bp0Pos := 0, bp0Age := 0, bp1Pos := 0, bp1Age := 0, rsv := 0, crc := 0 }, by decide +kernel⟩

theorem witness_BoardsSynchroniseAndAlign_8_3 :
    ∃ (s : State) (f : SyncFrame),
    (f.echoFt ≠ 0) ∧
    (s.sync.stepped = true) ∧
    (s.align f).sync.align = 2 :=
  ⟨live.updSync fun y => { y with stepped := true, align := 2 }, { srcPos := 1, aligned := false, fault := false, snap := false, bp0Valid := false, bp1Valid := false, seq := 0, hops := 0, txFt := 0, echoFt := 1, echoDwell := 0, snapFt := 0, bp0Pos := 0, bp0Age := 0, bp1Pos := 0, bp1Age := 0, rsv := 0, crc := 0 }, by decide +kernel⟩

theorem witness_LinksComeUp_0_1 :
    ∃ (t : Nat) (l : Fin 16) (s : State),
    let s0 := s.begin t
    (s0.chainOf l = l) ∧
    (s0.isDual l = false) ∧
    (s0.ports[l].state = .off) ∧
    (s0.power.pll[(Fin.castLE (by omega) l : Fin 20)] = true) :=
  ⟨0, 15, live, by decide +kernel⟩

theorem witness_LinksComeUp_2_0 :
    ∃ (t : Nat) (l : Fin 16) (s : State),
    let s0 := s.begin t
    (s0.ports[l].state = .fault) ∧
    (s0.ports[l].since + msFt 100 ≤ s0.ft) ∧
    (s0.domains[linkDomain l].state = 2) ∧
    (s0.chainOf l ≠ l) :=
  ⟨msFt 100, 1, ((live.oput (lIdx 0) 0x04 1).updPort 1 fun p => { p with state := .fault }), by decide +kernel⟩

theorem witness_LinksComeUp_2_1 :
    ∃ (t : Nat) (l : Fin 16) (s : State),
    let s0 := s.begin t
    (s0.ports[l].state = .fault) ∧
    (s0.ports[l].since + msFt 100 ≤ s0.ft) ∧
    (s0.domains[linkDomain l].state = 2) ∧
    (s0.chainOf l = l) ∧
    (s0.chainIdle l = true) :=
  ⟨msFt 100, 15, (live.updPort 15 fun p => { p with state := .fault }), by decide +kernel⟩

theorem witness_LinksComeUp_2_2 :
    ∃ (t : Nat) (l : Fin 16) (s : State),
    let s0 := s.begin t
    (s0.ports[l].state = .fault) ∧
    (s0.ports[l].since + msFt 100 ≤ s0.ft) ∧
    (s0.domains[linkDomain l].state = 2) ∧
    (s0.chainOf l = l) ∧
    (s0.chainIdle l = false) :=
  ⟨msFt 100, 0, ((composing.updPort 0 fun p => { p with state := .fault, again := true }).updNode 0 1 fun n => { n with present := true, kind := 1, head := some 0 }), by decide +kernel⟩

theorem witness_LinksComeUp_3_0 :
    ∃ (t : Nat) (l : Fin 16) (s : State),
    let s0 := s.begin t
    (s0.ports[s0.chainOf l].again = true) ∧
    (s0.chainIdle (s0.chainOf l) = true) :=
  ⟨0, 15, (live.updPort 15 fun p => { p with again := true }), by decide +kernel⟩

theorem witness_LinksComeUp_3_1 :
    ∃ (t : Nat) (l : Fin 16) (s : State),
    let s0 := s.begin t
    (s0.ports[s0.chainOf l].again = true) ∧
    (s0.chainIdle (s0.chainOf l) = false) :=
  ⟨0, 0, ((composing.updPort 0 fun p => { p with state := .fault, again := true }).updNode 0 1 fun n => { n with present := true, kind := 1, head := some 0 }), by decide +kernel⟩

theorem witness_LinksComeUp_4_0 :
    ∃ (t : Nat) (k : Kop) (l : Fin 16) (s : State) (w : Fin 32),
    let s1 := Safety.taken s t k
    (Safety.Admits s t k (lIdx l) 0x10 1 w) ∧
    (s1.chainIdle (s1.chainOf l) = true) :=
  ⟨0, kopFor (lIdx 15) 0x10, 15, due live, 0, admits_of (by decide +kernel), by decide +kernel⟩

theorem witness_LinksComeUp_4_1 :
    ∃ (t : Nat) (k : Kop) (l : Fin 16) (s : State) (w : Fin 32),
    let s1 := Safety.taken s t k
    (Safety.Admits s t k (lIdx l) 0x10 1 w) ∧
    (s1.chainIdle (s1.chainOf l) = false) :=
  ⟨0, kopFor (lIdx 0) 0x10, 0, due (((composing.updPort 0 fun p => { p with state := .fault, again := true }).updNode 0 1 fun n => { n with present := true, kind := 1, head := some 0 })), 0, admits_of (by decide +kernel), by decide +kernel⟩

theorem witness_LinksComeUp_5_0 :
    ∃ (t : Nat) (l : Fin 16) (lane : Fin 2) (hdrs : List Nat) (s : State),
    let last := hdrs.reverse.take 64
    (64 ≤ hdrs.length) ∧
    (∀ x ∈ last, x = 1 ∨ x = 2) :=
  ⟨0, 15, 0, List.replicate 64 1, live, by decide +kernel⟩

theorem witness_LinksComeUp_5_1 :
    ∃ (t : Nat) (l : Fin 16) (lane : Fin 2) (hdrs : List Nat) (s : State),
    let last := hdrs.reverse.take 64
    (hdrs.length < 64 ∨ (∃ x ∈ last, x ≠ 1 ∧ x ≠ 2)) :=
  ⟨0, 15, 0, 3 :: List.replicate 63 1, live, by decide +kernel⟩

theorem witness_LinksComeUp_6_0 :
    ∃ (t : Nat) (l : Fin 16) (lane : Fin 2) (hdrs : List Nat) (s : State),
    let s0 := s.begin t
    let wrong := ((hdrs.reverse.take 64).filter fun x => x != 1 && x != 2).length
    (16 ≤ wrong) ∧
    (s0.lanes[l].run ≠ (if lane = 0 then 5 else 4)) :=
  ⟨0, 15, 1, List.replicate 16 3, live, by decide +kernel⟩

theorem witness_LinksComeUp_6_1 :
    ∃ (t : Nat) (l : Fin 16) (lane : Fin 2) (hdrs : List Nat) (s : State),
    let s0 := s.begin t
    let wrong := ((hdrs.reverse.take 64).filter fun x => x != 1 && x != 2).length
    (16 ≤ wrong) ∧
    (s0.lanes[l].run = (if lane = 0 then 5 else 4)) :=
  ⟨0, 15, 1, List.replicate 16 3, (live.updLane 15 fun y => { y with run := 4 }), by decide +kernel⟩

theorem witness_LinksComeUp_6_2 :
    ∃ (t : Nat) (l : Fin 16) (lane : Fin 2) (hdrs : List Nat) (s : State),
    let wrong := ((hdrs.reverse.take 64).filter fun x => x != 1 && x != 2).length
    (wrong < 16) :=
  ⟨0, 15, 1, List.replicate 15 3, live, by decide +kernel⟩

theorem witness_LinksComeUp_7_0 :
    ∃ (t : Nat) (l : Fin 16) (s : State),
    let s0 := s.begin t
    (s0.ports[l].state = .training) ∧
    (s0.ports[l].since + msFt 9 ≤ s0.ft) ∧
    (s0.ports[l].lockU0 = true ∨ s0.ports[l].lockUS = true) ∧
    (s0.chainOf l = l) :=
  ⟨msFt 9, 15, (live.updPort 15 fun p => { p with state := .training, lockUS := true }), by decide +kernel⟩

theorem witness_LinksComeUp_7_1 :
    ∃ (t : Nat) (l : Fin 16) (s : State),
    let s0 := s.begin t
    (s0.ports[l].state = .training) ∧
    (s0.ports[l].since + msFt 9 ≤ s0.ft) ∧
    (s0.ports[l].lockU0 = false) ∧
    (s0.ports[l].lockUS = false) :=
  ⟨msFt 9, 15, (live.updPort 15 fun p => { p with state := .training }), by decide +kernel⟩

theorem witness_NodesAreWatched_0_0 :
    ∃ (t : Nat) (l : Fin 16) (a : Fin 9) (s : State) (b : Nat),
    let s0 := s.begin t
    let n := s0.ports[s0.chainOf l].nodes[a]
    (n.present = true) ∧
    (n.lost = false) ∧
    (n.lastStatus = some b) ∧
    (b + usFt 120 ≤ s0.ft) :=
  ⟨usFt 120, 15, 8, (live.updNode 15 8 fun n => { n with present := true, lastStatus := some 0 }), 0, by decide +kernel⟩

theorem witness_NodesAreWatched_1_0 :
    ∃ (t : Nat) (l : Fin 16) (a : Fin 9) (s : State) (b : Nat),
    let s0 := s.begin t
    let n := s0.ports[l].nodes[(Fin.ofNat 9 (a.val - 1) : Fin 9)]
    (2 ≤ a.val) ∧
    (s0.chainOf l = l) ∧
    (s0.isDual l = false) ∧
    (n.present = true) ∧
    (n.farLostAt = some b) ∧
    (b + usFt 2 ≤ s0.ft) :=
  ⟨usFt 2, 15, 8, (live.updNode 15 7 fun n => { n with present := true, farLostAt := some 0 }), 0, by decide +kernel⟩

theorem witness_NodesAreWatched_2_0 :
    ∃ (t : Nat) (l : Fin 16) (s : State),
    let s0 := s.begin t
    (s0.ports[l].lockU0 = false) ∧
    (s0.ports[l].lockUS = false) :=
  ⟨0, 15, live, by decide +kernel⟩

theorem witness_NodesAreWatched_3_0 :
    ∃ (t : Nat) (l : Fin 16) (a : Fin 9) (s : State) (f : Ctl),
    let s0 := s.begin t
    let c := s0.chainOf l
    (s0.ports[c].nodes[a].ctl = some f) ∧
    (f.busy = false) ∧
    (f.sentAt + usFt 50 ≤ s0.ft) ∧
    (s0.running 6 = true) ∧
    (f.req.op ≠ 3) :=
  ⟨usFt 50, 15, 8, (live.updNode 15 8 fun n => { n with present := true, ctl := some { cseq := 255, req := { op := 1, reg := 0x108, cnt := 1, data := [] }, tries := 8, sentAt := 0, busy := false, again := true } }), { cseq := 255, req := { op := 1, reg := 0x108, cnt := 1, data := [] }, tries := 8, sentAt := 0, busy := false, again := true }, by decide +kernel⟩

theorem witness_NodesAreWatched_4_0 :
    ∃ (t : Nat) (l : Fin 16) (r : CtlResp) (s : State) (f : Ctl) (a : Fin 9),
    let s0 := s.begin t
    let c := s0.chainOf l
    (r.addr = a.val) ∧
    (s0.ports[c].nodes[a].ctl = some f) ∧
    (r.ok = true) ∧
    (f.busy = false) ∧
    (f.cseq = r.cseq) ∧
    (f.req.op = r.op) ∧
    (f.req.reg = r.reg) ∧
    (f.req.op ≠ 3) ∧
    (r.status = 4) :=
  ⟨0, 15, CtlResp.make 8 255 1 1 4 0x108 [], (live.updNode 15 8 fun n => { n with present := true, ctl := some { cseq := 255, req := { op := 1, reg := 0x108, cnt := 1, data := [] }, tries := 8, sentAt := 0, busy := false, again := true } }), { cseq := 255, req := { op := 1, reg := 0x108, cnt := 1, data := [] }, tries := 8, sentAt := 0, busy := false, again := true }, 8, by decide +kernel⟩

theorem witness_NodesAreWatched_4_1 :
    ∃ (t : Nat) (l : Fin 16) (r : CtlResp) (s : State) (f : Ctl) (a : Fin 9),
    let s0 := s.begin t
    let c := s0.chainOf l
    (r.addr = a.val) ∧
    (s0.ports[c].nodes[a].ctl = some f) ∧
    (r.ok = true) ∧
    (f.busy = false) ∧
    (f.cseq = r.cseq) ∧
    (f.req.op = r.op) ∧
    (f.req.reg = r.reg) ∧
    (f.req.op ≠ 3) ∧
    (r.status < 4) :=
  ⟨0, 15, CtlResp.make 8 255 1 1 3 0x108 [], (live.updNode 15 8 fun n => { n with present := true, ctl := some { cseq := 255, req := { op := 1, reg := 0x108, cnt := 1, data := [] }, tries := 8, sentAt := 0, busy := false, again := true } }), { cseq := 255, req := { op := 1, reg := 0x108, cnt := 1, data := [] }, tries := 8, sentAt := 0, busy := false, again := true }, 8, by decide +kernel⟩

theorem witness_NodesAreWatched_5_0 :
    ∃ (t : Nat) (l : Fin 16) (r : CtlResp) (s : State),
    (r.ok = false) :=
  ⟨0, 15, { words := [0, 0, 0] }, live, by decide +kernel⟩

theorem witness_NodesAreWatched_6_0 :
    ∃ (t : Nat) (l : Fin 16) (r : StatusRep) (s : State) (a : Fin 9) (hd : Fin 64),
    let s0 := (s.begin t).updPort l fun p => r.rx.foldl Port.takeFec p
    let c := s0.chainOf l
    let s1 := (s0.updNode c a fun n => { n with lastStatus := some s0.ft, lastSeq := some r.sseq, timeErr := r.timeErr, lanes := r.lanes, timeOk := r.timeOk, side := r.side, status := r.body }).farSide c a r.lanes
    let p := s1.nodePort c a
    (r.addr = a.val) ∧
    (r.ok = true) ∧
    (s0.ports[c].nodes[a].present = true) ∧
    (s0.ports[c].nodes[a].lost = false) ∧
    (s0.ports[c].nodes[a].head = some hd) ∧
    (s1.ports[c].state = .ready) ∧
    (∀ q ∈ s1.chainPorts c, s1.lanes[q].run = 0) ∧
    (s1.laneLost p 0 r.lanes = false) ∧
    (s1.laneLost p 1 r.lanes = false) :=
  ⟨0, 15, StatusRep.make 8 0 400 0 31 true 0 false false, ((live.updNode 15 8 fun n => { n with present := true, head := some 63 }).updPort 15 fun p => { p with state := .ready }), 8, 63, by decide +kernel⟩

theorem witness_LinksCarryLinesAndMoveLanes_0_0 :
    ∃ (t : Nat) (l : Fin 16) (s : State) (h : Fin 64) (r : Fin 4) (y : Stamped),
    let s0 := s.begin t
    (s0.sends l = true) ∧
    (s0.nextFrame l = some (h, r, y)) :=
  ⟨0, 0, (((live.updHead 0 fun _ => head).updRow 0 0 fun r => { r with stamped := [line] }).updPort 0 fun p => { p with state := .ready, fec := true }), 0, 0, line, by decide +kernel⟩

theorem witness_LinksCarryLinesAndMoveLanes_1_0 :
    ∃ (t : Nat) (l : Fin 16) (s : State),
    let s0 := s.begin t
    (s0.ports[l].state = .aligning ∨ s0.ports[l].state = .ready) ∧
    (periodic s0.ports[l].lastTime (usFt 10) s0.ft = true) :=
  ⟨0, 15, (live.updPort 15 fun p => { p with state := .ready }), by decide +kernel⟩

theorem witness_LinksCarryLinesAndMoveLanes_2_0 :
    ∃ (t : Nat) (l : Fin 16) (a : Fin 9) (echoes : List Echo) (lam : Nat) (s : State) (rt : Rat),
    let s0 := s.begin t
    let c := s0.chainOf l
    let n := s0.ports[c].nodes[a]
    let d := toU 32 (s0.ports[c].delayAOf a rt)
    let good := goodEchoes a.val n.eseq echoes
    (s0.echoDue c a = true) ∧
    (medianOf (good.map fun e => (e.t4 : Int) - e.t1 - e.turn) = some rt) ∧
    (s0.ports[c].state = .ready) ∧
    (s0.isDual c = false) ∧
    (n.delayA ≠ d) :=
  ⟨0, 15, 8, (List.range 8).map fun i => { t1 := 0, t4 := 1000, content := echoRspContent 8 i 500 }, 0, ((live.updNode 15 8 fun n => { n with present := true }).updPort 15 fun p => { p with state := .ready }), 500, by decide +kernel⟩

theorem witness_LinksCarryLinesAndMoveLanes_3_0 :
    ∃ (t : Nat) (l : Fin 16) (a : Fin 9) (echoes : List Echo) (lam : Nat) (s : State) (rt : Rat),
    let s0 := s.begin t
    let c := s0.chainOf l
    let n := s0.ports[c].nodes[a]
    let d := toU 32 (s0.ports[c].delayFarOf s0.ports[c].enumDepth a.val rt)
    let good := goodEchoes a.val n.eseq echoes
    let s1 := (s0.timed (s0.nodePort c a) ((List.range 8).map fun i => (0x66, echoReqContent a.val ((n.eseq + i) % 256)))).updNode c a fun x => { x with eseq := (x.eseq + 8) % 256 }
    let s2 := (s1.updPort l fun q => { q with discards := q.discards + (echoes.length - good.length) }).updNode c a fun x => { x with echoAt := some s1.ft }
    (s0.echoDue c a = true) ∧
    (medianOf (good.map fun e => (e.t4 : Int) - e.t1 - e.turn) = some rt) ∧
    (s0.ports[c].state = .ready) ∧
    (s0.ports[c].dual = .split) ∧
    (s0.nodePort c a ≠ c) ∧
    (s2.nodePort c a ≠ c) ∧
    (n.delayB ≠ d) :=
  ⟨0, 1, 8, (List.range 8).map fun i => { t1 := 0, t4 := 1000, content := echoRspContent 8 i 500 }, 0, (((live.oput (lIdx 0) 0x04 1).updPort 0 fun p => { p with state := .ready, dual := .split, splitPt := 8, enumDepth := 8 }).updNode 0 8 fun n => { n with present := true }), 500, by decide +kernel⟩

theorem witness_LinksCarryLinesAndMoveLanes_4_0 :
    ∃ (t : Nat) (l : Fin 16) (r : LossRep) (s : State) (a : Fin 9),
    let s0 := s.begin t
    let c := s0.chainOf l
    let recs := s0.ports[l].named r.logical r.bseq s0.ft
    let s1 := s0.updPort l fun p => { p with blocksLost := p.blocksLost + 1, loss0 := if r.logical = 0 then (s0.ft :: p.loss0).filter fun b => s0.ft < b + msFt 1 else p.loss0, loss1 := if r.logical = 1 then (s0.ft :: p.loss1).filter fun b => s0.ft < b + msFt 1 else p.loss1 }
    let mine := (recs.flatMap (·.lines)).filter fun e => s1.heads[e.1].link == some c && s1.heads[e.1].node == a.val
    let s2 := mine.eraseDups.foldl (fun x e => x.loseLine l r.logical e) s1
    (r.addr = a.val) ∧
    (r.ok = true) ∧
    (r.logical ≤ 1) ∧
    (∀ x ∈ recs, x.ctls = []) ∧
    (if r.logical = 0 then s2.ports[l].loss0 else s2.ports[l].loss1).length ≤ 16 :=
  ⟨0, 15, LossRep.make 8 255 1 false, ((live.updNode 15 8 fun n => { n with present := true }).updPort 15 fun p => { p with recs := [{ lane := 1, bseq := 255, lines := [(63, 3, 0, 0)], ctls := [] }] }), 8, by decide +kernel⟩

theorem witness_LinksCarryLinesAndMoveLanes_5_0 :
    ∃ (t : Nat) (l : Fin 16) (s : State) (logical target reason : Nat),
    let s0 := s.begin t
    let s1 := s0.moveLane l logical target reason
    let s2 := if target = 2 then s1.event 0x6812 (s1.locBMR 13 l.val logical 1023 0xFFFF) [(8, l.val), (8, logical), (8, reason)] else s1
    (s0.ports[l].move = some (logical, target, reason)) ∧
    (s0.ports[l].tx[(Fin.ofNat 2 logical : Fin 2)]).free ≤ s0.ft ∧
    (s2.lanes[l].run = 0) :=
  ⟨0, 15, (live.updPort 15 fun p => { p with move := some (1, 2, 2) }), 1, 2, 2, by decide +kernel⟩

theorem witness_LinksCarryLinesAndMoveLanes_6_0 :
    ∃ (t : Nat) (k : Kop) (l : Fin 16) (s : State) (w : Fin 32),
    let s1 := Safety.taken s t k
    (Safety.Admits s t k (lIdx l) 0x0C 1 w) ∧
    (s1.ports[l].physical 0 ≠ 2) :=
  ⟨0, kopFor (lIdx 15) 0x0C, 15, due live, 0, admits_of (by decide +kernel), by decide +kernel⟩

theorem witness_LinksCarryLinesAndMoveLanes_7_0 :
    ∃ (t : Nat) (k : Kop) (l : Fin 16) (s : State) (w : Fin 32),
    let s1 := Safety.taken s t k
    (Safety.Admits s t k (lIdx l) 0x0C 2 w) ∧
    (s1.ports[l].physical 1 ≠ 2) :=
  ⟨0, kopFor (lIdx 15) 0x0C, 15, due live, 0, admits_of (by decide +kernel), by decide +kernel⟩

theorem witness_LinksCarryLinesAndMoveLanes_8_0 :
    ∃ (t : Nat) (k : Kop) (l : Fin 16) (s : State) (w : Fin 32),
    (Safety.Admits s t k (lIdx l) 0x0C 0 w) :=
  ⟨0, kopFor (lIdx 15) 0x0C, 15, due live, 0, admits_of (by decide +kernel)⟩

theorem witness_LinksCarryLinesAndMoveLanes_9_0 :
    ∃ (t : Nat) (l : Fin 16) (lane : Fin 2) (node : Fin 9) (s : State),
    let s0 := s.begin t
    let c := s0.chainOf l
    (c ≠ l) ∧
    (s0.ports[c].dual = .normal) ∧
    (s0.ports[c].nodes[node].present = true) :=
  ⟨0, 1, 0, 8, (((live.oput (lIdx 0) 0x04 1).updPort 0 fun p => { p with dual := .normal }).updNode 0 8 fun n => { n with present := true }), by decide +kernel⟩

theorem witness_LinksCarryLinesAndMoveLanes_10_0 :
    ∃ (t : Nat) (l : Fin 16) (lane : Fin 2) (kind content : Nat) (s : State),
    (kind = 0x87 ∧ 64 ≤ content) ∨ (kind = 0x1E ∧ content ≠ 0) ∨ (kind = 0x33 ∧ 256 ≤ content) ∨ (kind = 0x4C ∧ (s.begin t).ports[l].rxKind[lane] ≠ 0x4B) ∨ (kind = 0x56 ∧ (s.begin t).ports[l].rxKind[lane] ≠ 0x55) ∨ kind ∉ ([0x1E, 0x2D, 0x33, 0x4B, 0x4C, 0x55, 0x56, 0x66, 0x67, 0x78, 0x87] : List Nat) ∧
    (kind = 0x87 ∧ 64 ≤ content) :=
  ⟨0, 15, 0, 0x87, 64, live, by decide +kernel⟩

theorem witness_LinksCarryLinesAndMoveLanes_10_0b :
    ∃ (t : Nat) (l : Fin 16) (lane : Fin 2) (kind content : Nat) (s : State),
    (kind = 0x87 ∧ 64 ≤ content) ∨ (kind = 0x1E ∧ content ≠ 0) ∨ (kind = 0x33 ∧ 256 ≤ content) ∨ (kind = 0x4C ∧ (s.begin t).ports[l].rxKind[lane] ≠ 0x4B) ∨ (kind = 0x56 ∧ (s.begin t).ports[l].rxKind[lane] ≠ 0x55) ∨ kind ∉ ([0x1E, 0x2D, 0x33, 0x4B, 0x4C, 0x55, 0x56, 0x66, 0x67, 0x78, 0x87] : List Nat) ∧
    (kind = 0x4C) :=
  ⟨0, 15, 1, 0x4C, 0, live, by decide +kernel⟩

theorem witness_LinksCarryLinesAndMoveLanes_10_0c :
    ∃ (t : Nat) (l : Fin 16) (lane : Fin 2) (kind content : Nat) (s : State),
    (kind = 0x87 ∧ 64 ≤ content) ∨ (kind = 0x1E ∧ content ≠ 0) ∨ (kind = 0x33 ∧ 256 ≤ content) ∨ (kind = 0x4C ∧ (s.begin t).ports[l].rxKind[lane] ≠ 0x4B) ∨ (kind = 0x56 ∧ (s.begin t).ports[l].rxKind[lane] ≠ 0x55) ∨ kind ∉ ([0x1E, 0x2D, 0x33, 0x4B, 0x4C, 0x55, 0x56, 0x66, 0x67, 0x78, 0x87] : List Nat) ∧
    (kind ∉ ([0x1E, 0x2D, 0x33, 0x4B, 0x4C, 0x55, 0x56, 0x66, 0x67, 0x78, 0x87] : List Nat)) :=
  ⟨0, 15, 1, 0, 0, live, by decide +kernel⟩

theorem witness_LinksCarryLinesAndMoveLanes_11_0 :
    ∃ (t : Nat) (l : Fin 16) (s : State),
    let s0 := s.begin t
    let c := s0.chainOf l
    (s0.isDual c = true) ∧
    (s0.ports[c].dual = .degraded) ∧
    (heldFor s0.ports[(Fin.ofNat 16 (c.val + 1) : Fin 16)].lockSince s0.ft = true) :=
  ⟨msFt 100, 0, (((live.oput (lIdx 0) 0x04 1).updPort 0 fun p => { p with dual := .degraded }).updPort 1 fun p => { p with lockSince := some 0 }), by decide +kernel⟩

theorem witness_LinksCarryLinesAndMoveLanes_12_0 :
    ∃ (t : Nat) (k : Kop) (l : Fin 16) (s : State) (w : Fin 32),
    let s1 := Safety.taken s t k
    let c := s1.chainOf l
    (Safety.Admits s t k (lIdx l) 0x07 1 w) ∧
    (s1.ports[c].dual = .split) ∧
    (s1.segmentOk c = true) :=
  ⟨msFt 10, kopFor (lIdx 0) 0x07, 0, due ((((live.oput (lIdx 0) 0x04 1).updPort 0 fun p => { p with dual := .split }).updPort 0 fun p => { p with lockSince := some 0 })), 0, admits_of (by decide +kernel), by decide +kernel⟩

theorem witness_AxesMove_0_0 :
    ∃ (t : Nat) (k : Kop) (a : Fin 8) (v : Nat) (s : State) (w : Fin 32),
    let s1 := Safety.taken s t k
    let d := sx 64 v - s1.axes[a].pos
    (Safety.Admits s t k (aIdx a) 0x06 v w) ∧
    (s1.motionCode a = 0) ∧
    (s1.axes[a].referenced = true) ∧
    (posRange (sx 64 v) = true) ∧
    (d ≠ 0) ∧
    (s1.limitBlocks a (decide (0 < d)) = false) :=
  ⟨0, kopFor (aIdx 7) 6, 7, 2 ^ 47 - 1, due ((live.updAxis 7 fun x => { x with state := .idle, status := 1, en := true })), 0, admits_of (by decide +kernel), by decide +kernel⟩

theorem witness_AxesMove_1_0 :
    ∃ (t : Nat) (k : Kop) (a : Fin 8) (v : Nat) (s : State) (w : Fin 32),
    let s1 := Safety.taken s t k
    let d := s1.axes[a].pos + sx 64 v - s1.axes[a].pos
    (Safety.Admits s t k (aIdx a) 0x07 v w) ∧
    (s1.motionCode a = 0) ∧
    (posRange (s1.axes[a].pos + sx 64 v) = true) ∧
    (d ≠ 0) ∧
    (s1.limitBlocks a (decide (0 < d)) = false) :=
  ⟨0, kopFor (aIdx 7) 7, 7, 2 ^ 64 - 1, due ((live.updAxis 7 fun x => { x with state := .idle, status := 1, en := true })), 0, admits_of (by decide +kernel), by decide +kernel⟩

theorem witness_AxesMove_2_0 :
    ∃ (t : Nat) (k : Kop) (a : Fin 8) (s : State) (w : Fin 32),
    let s1 := Safety.taken s t k
    let pos := s1.ac a 0x1B == 0
    (Safety.Admits s t k (aIdx a) 0x09 1 w) ∧
    (s1.motionCode a = 0) ∧
    ((fins 16).any fun w => s1.oget (swIdx w) 0x04 == 1 && s1.oget (swIdx w) 0x05 == a.val) = true ∧
    (s1.limitBlocks a pos = false) :=
  ⟨0, kopFor (aIdx 7) 9, 7, due ((((live.updAxis 7 fun x => { x with state := .idle, status := 1, en := true }).oput (swIdx 15) 4 1).oput (swIdx 15) 5 7)), 0, admits_of (by decide +kernel), by decide +kernel⟩

theorem witness_AxesMove_3_0 :
    ∃ (t : Nat) (k : Kop) (a : Fin 8) (s : State) (w : Fin 32),
    let s1 := Safety.taken s t k
    (Safety.Admits s t k (aIdx a) 0x0A 1 w) ∧
    (s1.motionCode a = 0) :=
  ⟨0, kopFor (aIdx 7) 0x0A, 7, due ((live.updAxis 7 fun x => { x with state := .idle, status := 1, en := true })), 0, admits_of (by decide +kernel), by decide +kernel⟩

theorem witness_AxesMove_4_0 :
    ∃ (t : Nat) (k : Kop) (a : Fin 8) (s : State) (w : Fin 32),
    let s1 := Safety.taken s t k
    (Safety.Admits s t k (aIdx a) 0x0A 0 w) ∧
    (s1.axes[a].state = .following) :=
  ⟨0, kopFor (aIdx 7) 0x0A, 7, due ((live.updAxis 7 fun x => { x with state := .following })), 0, admits_of (by decide +kernel), by decide +kernel⟩

theorem witness_AxesMove_5_0 :
    ∃ (t : Nat) (a : Fin 8) (s : State),
    let s0 := s.begin t
    let x := s0.axes[a]
    (x.state = .following) ∧
    (x.ending = false) ∧
    (s0.hardLimit a x.dir = false) ∧
    (x.lastIn = none) ∧
    (x.segs = []) :=
  ⟨0, 7, (live.updAxis 7 fun x => { x with state := .following, mult := 1 }), by decide +kernel⟩

theorem witness_AxesMove_6_0 :
    ∃ (x : Axis) (p : Profile) (dir : Bool) (stamp setup ready : Nat),
    (x.segs = [p]) ∧
    (p.over_ stamp = false) ∧
    (p.pos = !dir) :=
  ⟨{ Axis.init with segs := [{ kind := 0, t0 := 0, pos := true, turn := none, base := .rat 0, dist := .rat 10, v0 := .rat 0, vmax := 1, acc := 1, dec := 1, num := 1, den := 1, total := 10 }] }, { kind := 0, t0 := 0, pos := true, turn := none, base := .rat 0, dist := .rat 10, v0 := .rat 0, vmax := 1, acc := 1, dec := 1, num := 1, den := 1, total := 10 }, false, 5, 6, 7, by decide +kernel⟩

theorem witness_AxesMove_7_0 :
    ∃ (x : Axis) (p : Profile) (stamp setup ready i : Nat),
    (x.segs = [p]) ∧
    (p.over_ stamp = false) ∧
    (x.state = .following) ∧
    (x.lastIn = some i) ∧
    (stamp < i + msFt 10) :=
  ⟨{ Axis.init with state := .following, lastIn := some 0, segs := [{ kind := 0, t0 := 0, pos := true, turn := none, base := .rat 0, dist := .rat 10, v0 := .rat 0, vmax := 1, acc := 1, dec := 1, num := 1, den := 1, total := 10 }] }, { kind := 0, t0 := 0, pos := true, turn := none, base := .rat 0, dist := .rat 10, v0 := .rat 0, vmax := 1, acc := 1, dec := 1, num := 1, den := 1, total := 10 }, 5, 6, 7, 0, by decide +kernel⟩

theorem witness_AxesMove_8_0 :
    ∃ (t : Nat) (a : Fin 8) (dir : Bool) (s : State),
    let s0 := s.begin t
    (s0.axes[a].state ≠ .following ∨ s0.axes[a].ending = true) :=
  ⟨0, 7, true, live, by decide +kernel⟩

theorem witness_AxesMove_8_1 :
    ∃ (t : Nat) (a : Fin 8) (dir : Bool) (s : State),
    let s0 := s.begin t
    (s0.axes[a].state = .following) ∧
    (s0.axes[a].ending = false) ∧
    (s0.hardLimit a dir = true) :=
  ⟨0, 7, true, (((live.updAxis 7 fun x => { x with state := .following }).oput (swIdx 15) 4 2).oput (swIdx 15) 5 7) |> fun s => { s with switches := vupd s.switches 15 fun x => { x with level := true } }, by decide +kernel⟩

theorem witness_AxesMove_9_0 :
    ∃ (t : Nat) (z : Fin 8) (s : State) (a : Fin 8),
    let s0 := s.begin t
    let d := sx 32 (s0.zc z 0x60)
    let s1 := (s0.updZone z fun y => { y with feedDue := false, feedRun := true }).latchAxis a
    (s0.feedAxis z = some a) ∧
    (s0.zones[z].feedDue = true) ∧
    (s0.axes[a].state = .idle) ∧
    (s0.running 3 = true) ∧
    (d ≠ 0) ∧
    (s1.limitBlocks a (decide (0 < d)) = false) ∧
    (posRange (s1.axes[a].pos + d) = true) :=
  ⟨0, 7, ((((live.updAxis 7 fun x => { x with state := .idle, status := 1, en := true }).oput (zIdx 7) 0x5F 7).oput (zIdx 7) 0x60 (2 ^ 32 - 1)).updZone 7 fun z => { z with feedDue := true }), 7, by decide +kernel⟩

theorem witness_AxesMove_10_0 :
    ∃ (t : Nat) (k : Kop) (g : Fin 4) (targets : Nat) (s : State) (w : Fin 32),
    let s1 := Safety.taken s t k
    let ms := s1.members g
    let target := fun (a : Fin 8) => sx 64 (fld targets (64 * a.val) 64)
    let ds := (fins 8).map fun a => if ms.contains a then target a - s1.axes[a].pos else 0
    let big := (ds.map Int.natAbs).foldl max 0
    (Safety.Admits s t k (grpIdx g) 0x01 targets w) ∧
    ((fins 8).any fun a => !ms.contains a && target a != 0) = false ∧
    (s1.running 3 = true) ∧
    (ms.map fun a => s1.memberCode a (target a)).foldl (fun c x => if c ≠ 0 then c else x) 0 = 0 ∧
    (big ≠ 0) :=
  ⟨0, kopFor (grpIdx 3) 1, 3, 100 * 2 ^ 448, due (((live.updAxis 7 fun x => { x with state := .idle, status := 1, en := true }).oput (aIdx 7) 0x1F 3)), 0, admits_of (by decide +kernel), by decide +kernel⟩

theorem witness_AxesStopAndAreRetained_0_0 :
    ∃ (t : Nat) (k : Kop) (a : Fin 8) (s : State) (w : Fin 32),
    let s1 := Safety.taken s t k
    (Safety.Admits s t k (aIdx a) 0x08 1 w) ∧
    (s1.axes[a].state = .moving) ∧
    (s1.axes[a].grp = none) :=
  ⟨0, kopFor (aIdx 7) 8, 7, due ((live.updAxis 7 fun x => { x with state := .moving })), 0, admits_of (by decide +kernel), by decide +kernel⟩

theorem witness_AxesStopAndAreRetained_0_1 :
    ∃ (t : Nat) (k : Kop) (a : Fin 8) (s : State) (w : Fin 32),
    let s1 := Safety.taken s t k
    (Safety.Admits s t k (aIdx a) 0x08 1 w) ∧
    (s1.axes[a].state.rest = true ∨ s1.axes[a].state = .stopping) :=
  ⟨0, kopFor (aIdx 7) 8, 7, due ((live.updAxis 7 fun x => { x with state := .stopping })), 0, admits_of (by decide +kernel), by decide +kernel⟩

theorem witness_AxesStopAndAreRetained_1_0 :
    ∃ (t : Nat) (k : Kop) (g : Fin 4) (s : State) (w : Fin 32),
    let s1 := Safety.taken s t k
    (Safety.Admits s t k (grpIdx g) 0x02 1 w) ∧
    (s1.groups[g].state = 1) :=
  ⟨0, kopFor (grpIdx 3) 2, 3, due ({ live with groups := Vector.replicate 4 { live.groups[0] with state := 1 } }), 0, admits_of (by decide +kernel), by decide +kernel⟩

theorem witness_AxesStopAndAreRetained_2_0 :
    ∃ (t : Nat) (a : Fin 8) (s : State),
    (s.begin t).axes[a].state = .moving ∧
    (s.begin t).axes[a].idleAt (s.begin t).ft = true :=
  ⟨0, 7, (live.updAxis 7 fun x => { x with state := .moving }), by decide +kernel⟩

theorem witness_AxesStopAndAreRetained_3_0 :
    ∃ (t : Nat) (a : Fin 8) (s : State),
    let s0 := s.begin t
    (s0.axes[a].state = .stopping) ∧
    (s0.axes[a].idleAt s0.ft = true) ∧
    (s0.axes[a].homed = false) :=
  ⟨0, 7, (live.updAxis 7 fun x => { x with state := .stopping }), by decide +kernel⟩

theorem witness_AxesStopAndAreRetained_4_0 :
    ∃ (t : Nat) (a : Fin 8) (s : State),
    (s.begin t).crossed a = true :=
  ⟨0, 7, (((live.oput (aIdx 7) 0x18 (2 ^ 62 - 1)).oput (aIdx 7) 0x17 0).updAxis 7 fun x => { x with status := 1, dir := true, pos := 2 ^ 62 }), by decide +kernel⟩

theorem witness_AxesStopAndAreRetained_5_0 :
    ∃ (t : Nat) (sw : Fin 16) (stamp : Nat) (level : Bool) (s : State) (a : Fin 8) (p : Profile),
    let s0 := (s.begin t).wake 6
    let lv := level != (s0.oget (swIdx sw) 0x02 == 1)
    (s0.switches[sw].level ≠ lv) ∧
    (s0.filtered stamp (usFt (s0.oget (swIdx sw) 0x03)) = true) ∧
    (s0.oget (swIdx sw) 0x05 = a.val) ∧
    (lv = true) ∧
    (s0.oget (swIdx sw) 0x04 = 1) :=
  ⟨usFt 1000, 15, 9, true, (((live.oput (swIdx 15) 4 1).oput (swIdx 15) 5 7).updAxis 7 fun x => { x with state := .moving, segs := [{ kind := 0, t0 := 0, pos := true, turn := none, base := .rat 0, dist := .rat 10, v0 := .rat 0, vmax := 1, acc := 1, dec := 1, num := 1, den := 1, total := 10 }] }), 7, { kind := 0, t0 := 0, pos := true, turn := none, base := .rat 0, dist := .rat 10, v0 := .rat 0, vmax := 1, acc := 1, dec := 1, num := 1, den := 1, total := 10 }, by decide +kernel⟩

theorem witness_AxesStopAndAreRetained_5_1 :
    ∃ (t : Nat) (sw : Fin 16) (stamp : Nat) (level : Bool) (s : State) (a : Fin 8) (p : Profile),
    let s0 := (s.begin t).wake 6
    let lv := level != (s0.oget (swIdx sw) 0x02 == 1)
    (s0.switches[sw].level ≠ lv) ∧
    (s0.filtered stamp (usFt (s0.oget (swIdx sw) 0x03)) = true) ∧
    (s0.oget (swIdx sw) 0x05 = a.val) ∧
    (lv = true) ∧
    (s0.oget (swIdx sw) 0x04 = 2) ∧
    (s0.axes[a].active s0.ft = some p) ∧
    (p.pos = true) ∧
    (s0.axes[a].state.rest = false) :=
  ⟨usFt 1000, 15, 9, true, (((live.oput (swIdx 15) 4 2).oput (swIdx 15) 5 7).updAxis 7 fun x => { x with state := .moving, segs := [{ kind := 0, t0 := 0, pos := true, turn := none, base := .rat 0, dist := .rat 10, v0 := .rat 0, vmax := 1, acc := 1, dec := 1, num := 1, den := 1, total := 10 }] }), 7, { kind := 0, t0 := 0, pos := true, turn := none, base := .rat 0, dist := .rat 10, v0 := .rat 0, vmax := 1, acc := 1, dec := 1, num := 1, den := 1, total := 10 }, by decide +kernel⟩

theorem witness_AxesStopAndAreRetained_5_2 :
    ∃ (t : Nat) (sw : Fin 16) (stamp : Nat) (level : Bool) (s : State) (a : Fin 8) (p : Profile),
    let s0 := (s.begin t).wake 6
    let lv := level != (s0.oget (swIdx sw) 0x02 == 1)
    (s0.switches[sw].level ≠ lv) ∧
    (s0.filtered stamp (usFt (s0.oget (swIdx sw) 0x03)) = true) ∧
    (s0.oget (swIdx sw) 0x05 = a.val) ∧
    (lv = true) ∧
    (s0.oget (swIdx sw) 0x04 = 3) ∧
    (s0.axes[a].active s0.ft = some p) ∧
    (p.pos = false) ∧
    (s0.axes[a].state.rest = false) :=
  ⟨usFt 1000, 15, 9, true, (((live.oput (swIdx 15) 4 3).oput (swIdx 15) 5 7).updAxis 7 fun x => { x with state := .moving, segs := [{ kind := 0, t0 := 0, pos := false, turn := none, base := .rat 0, dist := .rat 10, v0 := .rat 0, vmax := 1, acc := 1, dec := 1, num := 1, den := 1, total := 10 }] }), 7, { kind := 0, t0 := 0, pos := false, turn := none, base := .rat 0, dist := .rat 10, v0 := .rat 0, vmax := 1, acc := 1, dec := 1, num := 1, den := 1, total := 10 }, by decide +kernel⟩

theorem witness_AxesStopAndAreRetained_6_0 :
    ∃ (t : Nat) (k : Kop) (a : Fin 8) (high : Nat) (s : State) (w : Fin 32),
    let s1 := Safety.taken s t k
    (Safety.Admits s t k (aIdx a) 0x05 1 w) ∧
    (s1.axes[a].state = .disabled) :=
  ⟨0, kopFor (aIdx 7) 5, 7, 0, due ((live.updAxis 7 fun x => { x with state := .disabled })), 0, admits_of (by decide +kernel), by decide +kernel⟩

theorem witness_AxesStopAndAreRetained_7_0 :
    ∃ (t : Nat) (k : Kop) (a : Fin 8) (s : State) (w : Fin 32),
    let s1 := Safety.taken s t k
    (Safety.Admits s t k (aIdx a) 0x05 0 w) ∧
    (s1.axes[a].state = .idle) :=
  ⟨0, kopFor (aIdx 7) 5, 7, due ((live.updAxis 7 fun x => { x with state := .idle })), 0, admits_of (by decide +kernel), by decide +kernel⟩

theorem witness_AxesStopAndAreRetained_7_1 :
    ∃ (t : Nat) (k : Kop) (a : Fin 8) (s : State) (w : Fin 32),
    let s1 := Safety.taken s t k
    (Safety.Admits s t k (aIdx a) 0x05 0 w) ∧
    (s1.axes[a].state.rest = false) :=
  ⟨0, kopFor (aIdx 7) 5, 7, due ((live.updAxis 7 fun x => { x with state := .moving })), 0, admits_of (by decide +kernel), by decide +kernel⟩

theorem witness_AxesStopAndAreRetained_8_0 :
    ∃ (t : Nat) (k : Kop) (a : Fin 8) (v : Nat) (s : State) (w : Fin 32),
    let s1 := Safety.taken s t k
    (Safety.Admits s t k (aIdx a) 0x0C v w) ∧
    (s1.axes[a].state.rest = true) ∧
    (posRange (sx 64 v) = true) :=
  ⟨0, kopFor (aIdx 7) 0x0C, 7, 2 ^ 47 - 1, due ((live.updAxis 7 fun x => { x with state := .idle })), 0, admits_of (by decide +kernel), by decide +kernel⟩

theorem witness_AxesStopAndAreRetained_9_0 :
    ∃ (t : Nat) (k : Kop) (a : Fin 8) (s : State) (w : Fin 32),
    (Safety.Admits s t k (aIdx a) 0x0D 1 w) :=
  ⟨0, kopFor (aIdx 7) 0x0D, 7, due live, 0, admits_of (by decide +kernel)⟩

theorem witness_AxesStopAndAreRetained_10_0 :
    ∃ (t : Nat) (k : Kop) (a : Fin 8) (s : State) (w : Fin 32),
    let s1 := Safety.taken s t k
    (Safety.Admits s t k (aIdx a) 0x0B 1 w) ∧
    (s1.powerDownCode a = 0) :=
  ⟨0, kopFor (aIdx 7) 0x0B, 7, due ((live.updAxis 7 fun x => { x with state := .idle })), 0, admits_of (by decide +kernel), by decide +kernel⟩

theorem witness_AxesStopAndAreRetained_11_0 :
    ∃ (t : Nat) (a : Fin 8) (s : State),
    let s0 := s.begin t
    (s0.axes[a].state = .retaining) ∧
    (s0.axes[a].retStep = 1) ∧
    (s0.axes[a].retAt + usFt 2 ≤ s0.ft) :=
  ⟨usFt 2, 7, (live.updAxis 7 fun x => { x with state := .retaining, retStep := 1 }), by decide +kernel⟩

theorem witness_AxesStopAndAreRetained_12_0 :
    ∃ (t : Nat) (a : Fin 8) (low : Bool) (s : State),
    let s0 := s.begin t
    (s0.axes[a].state = .retaining) ∧
    (s0.axes[a].retStep = 2) ∧
    (s0.axes[a].retAt + usFt 12 ≤ s0.ft) :=
  ⟨usFt 12, 7, true, (live.updAxis 7 fun x => { x with state := .retaining, retStep := 2 }), by decide +kernel⟩

theorem witness_AxesStopAndAreRetained_13_0 :
    ∃ (t : Nat) (a : Fin 8) (s : State),
    let s0 := s.begin t
    (s0.axes[a].state = .retaining) ∧
    (s0.axes[a].retStep = 3) ∧
    (s0.ft ≤ s0.axes[a].retAt + usFt 22 + s0.axes[a].retTo) :=
  ⟨usFt 22 + 5, 7, (live.updAxis 7 fun x => { x with state := .retaining, retStep := 3, retTo := 5 }), by decide +kernel⟩

theorem witness_AxesStopAndAreRetained_14_0 :
    ∃ (t : Nat) (a : Fin 8) (s : State),
    let s0 := s.begin t
    (s0.axes[a].state = .retaining) ∧
    (s0.axes[a].retStep = 3) ∧
    (s0.axes[a].retAt + usFt 12 + s0.axes[a].retTo ≤ s0.ft) :=
  ⟨usFt 12 + 5, 7, (live.updAxis 7 fun x => { x with state := .retaining, retStep := 3, retTo := 5 }), by decide +kernel⟩

theorem witness_AxesStopAndAreRetained_15_0 :
    ∃ (t : Nat) (a : Fin 8) (s : State),
    let s0 := s.begin t
    (s0.axes[a].state = .idle) ∧
    (s0.axes[a].grp = none) :=
  ⟨0, 7, (live.updAxis 7 fun x => { x with state := .idle }), by decide +kernel⟩

theorem witness_ChannelsAndLanesAreCalibrated_0_0 :
    ∃ (t : Nat) (c : Fin 4) (s : State),
    let s0 := s.begin t
    (s0.enc[c].st = 1) ∧
    (s0.enc[c].ready = false) ∧
    (s0.chans[encChan c].state = .valid) ∧
    (s0.collected c = true) :=
  ⟨0, 3, ((live.updCal 3 fun e => { e with st := 1, sectors := Vector.replicate 16 { n := 256, sx := 0, sy := 0, sxx := 0, syy := 0, sxy := 0, rho := 256 }, counted := 64 }).updChan (encChan 3) fun x => { x with state := .valid }), by decide +kernel⟩

theorem witness_ChannelsAndLanesAreCalibrated_1_0 :
    ∃ (t : Nat) (c : Fin 4) (s : State),
    let s0 := s.begin t
    (s0.enc[c].st = 1 ∨ s0.enc[c].st = 3) ∧
    (s0.enc[c].ready = false) ∧
    (s0.chans[encChan c].state = .valid) ∧
    (s0.collected c = false) ∧
    (s0.enc[c].since + msFt (s0.oget (encIdx c) 0x03) ≤ s0.ft) :=
  ⟨msFt 60000, 3, ((live.updCal 3 fun e => { e with st := 1 }).updChan (encChan 3) fun x => { x with state := .valid }), by decide +kernel⟩

theorem witness_ChannelsAndLanesAreCalibrated_2_0 :
    ∃ (t : Nat) (c : Fin 4) (s : State),
    let s0 := s.begin t
    (s0.enc[c].st = 2) :=
  ⟨0, 3, (live.updCal 3 fun e => { e with st := 2 }), by decide +kernel⟩

theorem witness_ChannelsAndLanesAreCalibrated_3_0 :
    ∃ (t : Nat) (c : Fin 4) (s : State) (n : Corr),
    let s0 := s.begin t
    let r := s0.enc[c].residualOf
    let bad := failingCheck (s0.corr (encChan c)) n r (s0.oget (encIdx c) 0x04)
    (s0.enc[c].new = some n) ∧
    (s0.enc[c].st = 3) ∧
    (s0.chans[encChan c].state = .valid) ∧
    (s0.collected c = true) ∧
    (bad = 0) :=
  ⟨0, 3, ((live.updCal 3 fun e => { e with st := 3, new := some { os := 0, oc := 0, as := 5000, ac := 5000, ph := 0 }, sectors := Vector.replicate 16 { n := 256, sx := 0, sy := 0, sxx := 0, syy := 0, sxy := 0, rho := 256 }, counted := 64 }).updChan (encChan 3) fun x => { x with state := .valid }), { os := 0, oc := 0, as := 5000, ac := 5000, ph := 0 }, by decide +kernel⟩

theorem witness_ChannelsAndLanesAreCalibrated_3_0b :
    ∃ (t : Nat) (c : Fin 4) (s : State) (n : Corr),
    let s0 := s.begin t
    let r := s0.enc[c].residualOf
    let bad := failingCheck (s0.corr (encChan c)) n r (s0.oget (encIdx c) 0x04)
    (s0.enc[c].new = some n) ∧
    (s0.enc[c].st = 3) ∧
    (s0.chans[encChan c].state = .valid) ∧
    (s0.collected c = true) ∧
    (bad = 1) :=
  ⟨0, 3, ((live.updCal 3 fun e => { e with st := 3, new := some { os := 0, oc := 0, as := 999, ac := 5000, ph := 0 }, sectors := Vector.replicate 16 { n := 256, sx := 0, sy := 0, sxx := 0, syy := 0, sxy := 0, rho := 256 }, counted := 64 }).updChan (encChan 3) fun x => { x with state := .valid }), { os := 0, oc := 0, as := 999, ac := 5000, ph := 0 }, by decide +kernel⟩

theorem witness_ChannelsAndLanesAreCalibrated_4_0 :
    ∃ (t : Nat) (c : Fin 4) (s : State) (n : Corr),
    let s0 := s.begin t
    (s0.enc[c].new = some n) ∧
    (s0.enc[c].st = 4) ∧
    (s0.mayApply (encChan c) n = true) :=
  ⟨0, 3, (live.updCal 3 fun e => { e with st := 4, new := some { os := 0, oc := 0, as := 5000, ac := 5000, ph := 0 } }), { os := 0, oc := 0, as := 5000, ac := 5000, ph := 0 }, by decide +kernel⟩

theorem witness_ChannelsAndLanesAreCalibrated_5_0 :
    ∃ (t : Nat) (c : Fin 4) (s : State),
    let s0 := s.begin t
    (s0.enc[c].st = 4) ∧
    (s0.enc[c].since + msFt (s0.oget (encIdx c) 0x05) ≤ s0.ft) :=
  ⟨msFt 3600000, 3, (live.updCal 3 fun e => { e with st := 4 }), by decide +kernel⟩

theorem witness_ChannelsAndLanesAreCalibrated_6_0 :
    ∃ (t : Nat) (s : State),
    (s.begin t).running 5 = false :=
  ⟨0, live.updEngine 5 fun e => { e with state := 0 }, by decide +kernel⟩

theorem witness_ChannelsAndLanesAreCalibrated_7_0 :
    ∃ (t : Nat) (s : State),
    let s0 := s.begin t
    (s0.running 5 = true) :=
  ⟨0, live, by decide +kernel⟩

theorem witness_ChannelsAndLanesAreCalibrated_8_0 :
    ∃ (t : Nat) (l : Fin 16) (lane : Fin 2) (s : State) (d : DueRun),
    (s.begin t).firstLane l = some d ∧
    (d.target = laneTarget l (3 + lane.val)) :=
  ⟨0, 15, 1, { (live.updPort 15 fun p => { p with state := .ready, fec := true, lockU0 := true, lockUS := true }) with due := [{ kind := 2, target := 244, write := none, auto := true }] }, { kind := 2, target := 244, write := none, auto := true }, by decide +kernel⟩

theorem witness_ChannelsAndLanesAreCalibrated_9_0 :
    ∃ (t : Nat) (l : Fin 16) (lane : Fin 3) (s : State) (d : DueRun),
    (s.begin t).firstLane l = some d ∧
    (d.target = laneTarget l lane.val) :=
  ⟨0, 15, 0, { (live.updPort 15 fun p => { p with state := .ready, fec := true, lockU0 := true, lockUS := true }) with due := [{ kind := 2, target := 240, write := none, auto := true }] }, { kind := 2, target := 240, write := none, auto := true }, by decide +kernel⟩

theorem witness_ChannelsAndLanesAreCalibrated_10_0 :
    ∃ (t : Nat) (l : Fin 16) (openOff oldEye : Nat) (s : State),
    let s0 := s.begin t
    let x := s0.lanes[l]
    let r := sweep openOff
    (x.run = 4 ∨ x.run = 5) ∧
    (x.write = none) ∧
    (s0.oget (lcIdx l) 0x03 ≤ r.2.2) :=
  ⟨0, 15, 2 ^ 64 - 1, 0, (live.updLane 15 fun y => { y with run := 5 }), by decide +kernel⟩

theorem witness_ChannelsAndLanesAreCalibrated_11_0 :
    ∃ (t : Nat) (l : Fin 16) (code : Nat) (s : State),
    let s0 := s.begin t
    let x := s0.lanes[l]
    (1 ≤ x.run) ∧
    (x.run ≤ 3) ∧
    (x.step = 2) ∧
    (x.since + usFt 50 ≤ s0.ft) ∧
    (x.write = none) ∧
    (x.verdict = 3) ∧
    (8 ≤ code) ∧
    (code ≤ 56) :=
  ⟨usFt 50, 15, 56, (live.updLane 15 fun y => { y with run := 3, step := 2, verdict := 3 }), by decide +kernel⟩

theorem witness_ChannelsAndLanesAreCalibrated_12_0 :
    ∃ (t : Nat) (l : Fin 16) (openOff oldEye v : Nat) (s : State),
    let s0 := s.begin t
    let x := s0.lanes[l]
    (x.run = 4 ∨ x.run = 5) ∧
    (x.write = some v) :=
  ⟨0, 15, 0, 0, 9, (live.updLane 15 fun y => { y with run := 5, write := some 9 }), by decide +kernel⟩

theorem witness_ChannelsAndLanesAreCalibrated_13_0 :
    ∃ (t : Nat) (l : Fin 16) (s : State),
    let s0 := s.begin t
    let x := s0.lanes[l]
    (1 ≤ x.run) ∧
    (x.run ≤ 3) ∧
    (x.since + msFt 10 ≤ s0.ft) ∧
    (x.step = 3) :=
  ⟨msFt 10, 15, (live.updLane 15 fun y => { y with run := 3, step := 3 }), by decide +kernel⟩

theorem witness_ChannelsAndLanesAreCalibrated_13_1 :
    ∃ (t : Nat) (l : Fin 16) (s : State),
    let s0 := s.begin t
    let x := s0.lanes[l]
    (1 ≤ x.run) ∧
    (x.run ≤ 3) ∧
    (x.since + msFt 10 ≤ s0.ft) ∧
    (x.step = 4) :=
  ⟨msFt 10, 15, (live.updLane 15 fun y => { y with run := 3, step := 4 }), by decide +kernel⟩

theorem witness_RequestsAreTaken_0_0 :
    ∃ (t : Nat) (k : Kop) (i : Fin 16) (s : State) (w : Fin 32),
    (Safety.Admits s t k (0x6010 + i.val) 0x01 (reqValue 0 0 0) w) :=
  ⟨0, kopFor 0x601F 1, 15, due live, 0, admits_of (by decide +kernel)⟩

theorem witness_RequestsAreTaken_0_0b :
    ∃ (t : Nat) (k : Kop) (i : Fin 16) (s : State) (w : Fin 32),
    let s1 := Safety.taken s t k
    let q := s1.reqs[i]
    (Safety.Admits s t k (0x6010 + i.val) 0x01 (reqValue 0 0 0) w) ∧
    (q.result = 1) :=
  ⟨0, kopFor 0x601F 1, 15, due ((live.updReq 15 fun q => { q with result := 1 })), 0, admits_of (by decide +kernel), by decide +kernel⟩

theorem witness_RequestsAreTaken_0_0c :
    ∃ (t : Nat) (k : Kop) (i : Fin 16) (s : State) (w : Fin 32),
    let s1 := Safety.taken s t k
    let q := s1.reqs[i]
    (Safety.Admits s t k (0x6010 + i.val) 0x01 (reqValue 0 0 0) w) ∧
    (q.result = 2) :=
  ⟨0, kopFor 0x601F 1, 15, due ((live.updReq 15 fun q => { q with result := 2 })), 0, admits_of (by decide +kernel), by decide +kernel⟩

theorem witness_RequestsAreTaken_1_0 :
    ∃ (t : Nat) (k : Kop) (i : Fin 16) (c : Fin 4) (deadline : Nat) (s : State) (w : Fin 32),
    let s1 := Safety.taken s t k
    (Safety.Admits s t k (0x6010 + i.val) 0x01 (reqValue 1 c.val deadline) w) ∧
    (s1.reqBusy i = false) ∧
    (s1.cc (encChan c) 0x01 = 3) ∧
    (s1.enc[c].st = 0) :=
  ⟨0, kopFor 0x601F 1, 15, 3, 2 ^ 64 - 1, due (((live.oput (cIdx 3) 0x01 3).updChan 3 fun c => { c with state := .valid })), 0, admits_of (by decide +kernel), by decide +kernel⟩

theorem witness_RequestsAreTaken_2_0 :
    ∃ (t : Nat) (k : Kop) (i : Fin 16) (target deadline : Nat) (s : State) (w : Fin 32),
    let s1 := Safety.taken s t k
    (Safety.Admits s t k (0x6010 + i.val) 0x01 (reqValue 2 target deadline) w) ∧
    (s1.reqBusy i = false) ∧
    (s1.laneExists target = true) :=
  ⟨0, kopFor 0x601F 1, 15, 244, 0, due live, 0, admits_of (by decide +kernel), by decide +kernel⟩

theorem witness_RequestsAreTaken_2_0b :
    ∃ (t : Nat) (k : Kop) (i : Fin 16) (target deadline : Nat) (s : State) (w : Fin 32),
    let s1 := Safety.taken s t k
    (Safety.Admits s t k (0x6010 + i.val) 0x01 (reqValue 2 target deadline) w) ∧
    (s1.reqBusy i = false) ∧
    (s1.laneExists target = false) :=
  ⟨0, kopFor 0x601F 1, 15, 245, 0, due live, 0, admits_of (by decide +kernel), by decide +kernel⟩

theorem witness_RequestsAreTaken_3_0 :
    ∃ (t : Nat) (k : Kop) (i : Fin 16) (h : Fin 64) (deadline : Nat) (s : State) (w : Fin 32),
    let s1 := Safety.taken s t k
    (Safety.Admits s t k (0x6010 + i.val) 0x01 (reqValue 3 h.val deadline) w) ∧
    (s1.reqBusy i = false) :=
  ⟨0, kopFor 0x601F 1, 15, 63, 0, due live, 0, admits_of (by decide +kernel), by decide +kernel⟩

theorem witness_RequestsAreTaken_4_0 :
    ∃ (t : Nat) (i : Fin 16) (s : State),
    let s0 := s.begin t
    let q := s0.reqs[i]
    (q.result = 1) ∧
    (q.deadline ≠ 0) ∧
    (q.deadline ≤ s0.ft) :=
  ⟨9, 15, (live.updReq 15 fun q => { q with result := 1, deadline := 9 }), by decide +kernel⟩

theorem witness_RequestsAreTaken_5_0 :
    ∃ (t : Nat) (k : Kop) (index sub v : Nat) (s : State) (w : Fin 32) (target : Nat),
    let s1 := Safety.taken s t k
    (Safety.Admits s t k index sub v w) ∧
    (∀ r, objRow index sub = some r → r.acc ≠ 4) ∧
    (calTarget index sub = some (2, target)) ∧
    (s1.calBusy 2 target = false) :=
  ⟨0, kopFor 0x62F0 4, 0x62F0, 4, 0, due live, 0, 243, admits_of (by decide +kernel), row_of (by decide +kernel), by decide +kernel⟩

theorem witness_RequestsAreTaken_6_0 :
    ∃ (t : Nat) (k : Kop) (c : Fin 4) (s : State) (w : Fin 32),
    (Safety.Admits s t k (encIdx c) 0x01 0 w) :=
  ⟨0, kopFor (encIdx 3) 1, 3, due live, 0, admits_of (by decide +kernel)⟩

theorem witness_RequestsAreTaken_7_0 :
    ∃ (t : Nat) (k : Kop) (c : Fin 4) (s : State) (w : Fin 32),
    (Safety.Admits s t k (encIdx c) 0x01 1 w) :=
  ⟨0, kopFor (encIdx 3) 1, 3, due live, 0, admits_of (by decide +kernel)⟩

theorem witness_DatagramsAreTakenOnce_0_0 :
    ∃ (s s1 : State) (d : Dgram) (i : Fin 32),
    let x := s1.sessions[i]
    (s.frameIn d.port false d.eth = (true, s1)) ∧
    (s1.sess? d.sid = some i) ∧
    (s1.ft < x.leaseEnd) ∧
    (x.port = d.port) ∧
    (x.addr = d.addr) ∧
    (d.tagVerifies x.keyIn = false) :=
  ⟨live, _, { dgram 6 with tag := [] }, 0, pair_of (by decide +kernel), by decide +kernel⟩

theorem witness_DatagramsAreTakenOnce_0_1 :
    ∃ (s s1 : State) (d : Dgram) (i : Fin 32),
    let x := s1.sessions[i]
    (s.frameIn d.port false d.eth = (true, s1)) ∧
    (s1.sess? d.sid = some i) ∧
    (s1.ft < x.leaseEnd) ∧
    (x.port = d.port) ∧
    (x.addr = d.addr) ∧
    (d.tagVerifies x.keyIn = true) ∧
    (d.seq + 1024 ≤ x.seqHi ∨ d.seq ∈ x.seqSeen ∨ d.seq = 0) :=
  ⟨live.updSess 0 fun x => { x with seqHi := 1025 }, _, dgram 6, 0, pair_of (by decide +kernel), by decide +kernel⟩

theorem witness_DatagramsAreTakenOnce_0_2 :
    ∃ (s s1 : State) (d : Dgram) (i : Fin 32),
    let x := s1.sessions[i]
    (s.frameIn d.port false d.eth = (true, s1)) ∧
    (s1.sess? d.sid = some i) ∧
    (s1.ft < x.leaseEnd) ∧
    (x.port = d.port) ∧
    (x.addr = d.addr) ∧
    (d.tagVerifies x.keyIn = true) ∧
    (x.seqHi < d.seq + 1024) ∧
    (d.seq ∉ x.seqSeen) ∧
    (d.seq ≠ 0) ∧
    (s1.envelopeOk d = false) :=
  ⟨live.updSess 0 fun x => { x with seqHi := 1024 }, _, { dgram 6 with rsv := 1 }, 0, pair_of (by decide +kernel), by decide +kernel⟩

theorem witness_DatagramsAreTakenOnce_0_3 :
    ∃ (s s1 : State) (d : Dgram) (i : Fin 32),
    let x := s1.sessions[i]
    (s.frameIn d.port false d.eth = (true, s1)) ∧
    (s1.sess? d.sid = some i) ∧
    (s1.ft < x.leaseEnd) ∧
    (x.port = d.port) ∧
    (x.addr = d.addr) ∧
    (s1.envelopeOk d = true) :=
  ⟨live, _, dgram 6, 0, pair_of (by decide +kernel), by decide +kernel⟩

theorem witness_DatagramsAreTakenOnce_1_0 :
    ∃ (s s1 : State) (d : Dgram) (i : Fin 32),
    (s.frameIn d.port false d.eth = (true, s1)) ∧
    (s1.sess? d.sid = some i) ∧
    (s1.running 1 = true) ∧
    (s1.sessions[i].leaseEnd ≤ s1.ft) :=
  ⟨live.updSess 0 fun x => { x with leaseEnd := 0 }, _, dgram 6, 0, pair_of (by decide +kernel), by decide +kernel⟩

theorem witness_DatagramsAreTakenOnce_2_0 :
    ∃ (s s' : State) (d : Dgram) (i : Fin 32),
    (s.datagram d = (some i, s')) :=
  ⟨live, _, dgram 6, 0, pair_of (by decide +kernel)⟩

theorem witness_DatagramsAreTakenOnce_3_0 :
    ∃ (s : State) (p : Fin 4) (e : Eth),
    (s.pathUp p.val = true) ∧
    (s.netBuffers = false) ∧
    (ethIgnored e = true) :=
  ⟨live, 0, { eth with body := .pause }, by decide +kernel⟩

theorem witness_DatagramsAreTakenOnce_3_1 :
    ∃ (s : State) (p : Fin 4) (e : Eth),
    let s1 := (s.updHport p fun x => { x with rx := x.rx + 1, fecOk := x.fecOk + (if s.fecOn p = true then e.fixed else 0), fecBad := x.fecBad + (if s.fecOn p = true then e.lost else 0) }).wake 0
    (s.pathUp p.val = true) ∧
    (s.netBuffers = false) ∧
    (ethIgnored e = false) ∧
    (s1.ethOk p.val false e = true) :=
  ⟨live, 0, eth, by decide +kernel⟩

theorem witness_DatagramsAreTakenOnce_3_2 :
    ∃ (s : State) (p : Fin 4) (e : Eth),
    let s1 := (s.updHport p fun x => { x with rx := x.rx + 1, fecOk := x.fecOk + (if s.fecOn p = true then e.fixed else 0), fecBad := x.fecBad + (if s.fecOn p = true then e.lost else 0) }).wake 0
    (s.pathUp p.val = true) ∧
    (s.netBuffers = false) ∧
    (ethIgnored e = false) ∧
    (e.fcsOk = false ∨ 1 < e.tags ∨ e.vid ≠ s1.oget (0x1F40 + p.val) 0x0C ∨ e.own = false ∨ (∃ n, e.body = .udp n ∧ n ≠ s1.oget 0x1F00 0x04)) :=
  ⟨live, 0, { eth with fcsOk := false }, by decide +kernel, by decide +kernel, by decide +kernel, .inl (by decide +kernel)⟩

theorem witness_DatagramsAreTakenOnce_3_2b :
    ∃ (s : State) (p : Fin 4) (e : Eth),
    let s1 := (s.updHport p fun x => { x with rx := x.rx + 1, fecOk := x.fecOk + (if s.fecOn p = true then e.fixed else 0), fecBad := x.fecBad + (if s.fecOn p = true then e.lost else 0) }).wake 0
    (s.pathUp p.val = true) ∧
    (s.netBuffers = false) ∧
    (ethIgnored e = false) ∧
    (e.fcsOk = false ∨ 1 < e.tags ∨ e.vid ≠ s1.oget (0x1F40 + p.val) 0x0C ∨ e.own = false ∨ (∃ n, e.body = .udp n ∧ n ≠ s1.oget 0x1F00 0x04)) :=
  ⟨live, 0, { eth with tags := 2 }, by decide +kernel, by decide +kernel, by decide +kernel, .inr (.inl (by decide +kernel))⟩

theorem witness_DatagramsAreTakenOnce_3_2c :
    ∃ (s : State) (p : Fin 4) (e : Eth),
    let s1 := (s.updHport p fun x => { x with rx := x.rx + 1, fecOk := x.fecOk + (if s.fecOn p = true then e.fixed else 0), fecBad := x.fecBad + (if s.fecOn p = true then e.lost else 0) }).wake 0
    (s.pathUp p.val = true) ∧
    (s.netBuffers = false) ∧
    (ethIgnored e = false) ∧
    (e.fcsOk = false ∨ 1 < e.tags ∨ e.vid ≠ s1.oget (0x1F40 + p.val) 0x0C ∨ e.own = false ∨ (∃ n, e.body = .udp n ∧ n ≠ s1.oget 0x1F00 0x04)) :=
  ⟨live, 0, { eth with vid := 1 }, by decide +kernel, by decide +kernel, by decide +kernel, .inr (.inr (.inl (by decide +kernel)))⟩

theorem witness_DatagramsAreTakenOnce_3_2d :
    ∃ (s : State) (p : Fin 4) (e : Eth),
    let s1 := (s.updHport p fun x => { x with rx := x.rx + 1, fecOk := x.fecOk + (if s.fecOn p = true then e.fixed else 0), fecBad := x.fecBad + (if s.fecOn p = true then e.lost else 0) }).wake 0
    (s.pathUp p.val = true) ∧
    (s.netBuffers = false) ∧
    (ethIgnored e = false) ∧
    (e.fcsOk = false ∨ 1 < e.tags ∨ e.vid ≠ s1.oget (0x1F40 + p.val) 0x0C ∨ e.own = false ∨ (∃ n, e.body = .udp n ∧ n ≠ s1.oget 0x1F00 0x04)) :=
  ⟨live, 0, { eth with own := false }, by decide +kernel, by decide +kernel, by decide +kernel, .inr (.inr (.inr (.inl (by decide +kernel))))⟩

theorem witness_DatagramsAreTakenOnce_3_2e :
    ∃ (s : State) (p : Fin 4) (e : Eth),
    let s1 := (s.updHport p fun x => { x with rx := x.rx + 1, fecOk := x.fecOk + (if s.fecOn p = true then e.fixed else 0), fecBad := x.fecBad + (if s.fecOn p = true then e.lost else 0) }).wake 0
    (s.pathUp p.val = true) ∧
    (s.netBuffers = false) ∧
    (ethIgnored e = false) ∧
    (e.fcsOk = false ∨ 1 < e.tags ∨ e.vid ≠ s1.oget (0x1F40 + p.val) 0x0C ∨ e.own = false ∨ (∃ n, e.body = .udp n ∧ n ≠ s1.oget 0x1F00 0x04)) :=
  ⟨live, 0, { eth with body := .udp 0 }, by decide +kernel, by decide +kernel, by decide +kernel, .inr (.inr (.inr (.inr ⟨0, by decide +kernel, by decide +kernel⟩)))⟩

theorem witness_DatagramsAreTakenOnce_3_3 :
    ∃ (s : State) (p : Fin 4) (e : Eth),
    let s1 := (s.updHport p fun x => { x with rx := x.rx + 1, fecOk := x.fecOk + (if s.fecOn p = true then e.fixed else 0), fecBad := x.fecBad + (if s.fecOn p = true then e.lost else 0) }).wake 0
    let recent := s1.hports[p].echoes.filter fun t => s1.ft < t + secFt 1
    (s.pathUp p.val = true) ∧
    (s.netBuffers = false) ∧
    (ethIgnored e = false) ∧
    (s1.ethForUs p.val false e = true) ∧
    (e.body = .echo) ∧
    (recent.length < 100) :=
  ⟨live, 0, { eth with body := .echo }, by decide +kernel⟩

theorem witness_SessionsOpenAndEnd_0_0 :
    ∃ (t : Nat) (src : Sender) (m : HelloMsg) (s s0 : State),
    let path := src.path
    (s.begin t).frameIn path.port false src.eth = (true, s0) ∧
    (src.form 1 m.bytes.length (s0.oget (0x1F40 + path.port) 0x04) = false) :=
  ⟨0, { path := { port := 0, addr := 0 }, eth, ver := 2, kind := 1, len := 220, bytes := 236, sid := 0, seq := 0 }, { bytes := leBytes 220 (packBits [(16, 160), (5, 31), (459, 0), (128, packBits [(16, 1), (16, 31), (32, 0), (64, 5)])]) }, { live with cocoon := { live.cocoon with owner := some 0 } }, _, pair_of (by decide +kernel), by decide +kernel⟩

theorem witness_SessionsOpenAndEnd_0_1 :
    ∃ (t : Nat) (src : Sender) (m : HelloMsg) (s s0 : State),
    let path := src.path
    (s.begin t).frameIn path.port false src.eth = (true, s0) ∧
    (src.form 1 m.bytes.length (s0.oget (0x1F40 + path.port) 0x04) = true) ∧
    (s0.running 1 = true) ∧
    (s0.tamper.active = 0) ∧
    (s0.shakes.length < 8) ∧
    (helloForm m = true) :=
  ⟨0, { path := { port := 0, addr := 0 }, eth, ver := 1, kind := 1, len := 220, bytes := 236, sid := 0, seq := 0 }, { bytes := leBytes 220 (packBits [(16, 160), (5, 31), (459, 0), (128, packBits [(16, 1), (16, 31), (32, 0), (64, 5)])]) }, { live with cocoon := { live.cocoon with owner := some 0 } }, _, pair_of (by decide +kernel), by decide +kernel⟩

theorem witness_SessionsOpenAndEnd_1_0 :
    ∃ (t : Nat) (src : Sender) (hid sig : Nat) (s s0 : State) (hs : Handshake),
    let path := src.path
    (s.begin t).frameIn path.port false src.eth = (true, s0) ∧
    (src.form 3 68 (s0.oget (0x1F40 + path.port) 0x04) = true) ∧
    (s0.running 1 = true) ∧
    (s0.tamper.active = 0) ∧
    (s0.shakes.find? fun h => h.hid == hid && samePath h.path path) = some hs ∧
    (s0.ft ≤ hs.at_ + msFt 500) :=
  ⟨msFt 500, { path := { port := 0, addr := 0 }, eth, ver := 1, kind := 3, len := 68, bytes := 84, sid := 0, seq := 0 }, 1, 0, { live with shakes := [{ hid := 1, path := { port := 0, addr := 0 }, roles := 31, leaseMs := 200, window := 32, hostId := 1, prov := false, at_ := 0, hello := [], chal := [], key := 1, eph := 0 }] }, _, { hid := 1, path := { port := 0, addr := 0 }, roles := 31, leaseMs := 200, window := 32, hostId := 1, prov := false, at_ := 0, hello := [], chal := [], key := 1, eph := 0 }, pair_of (by decide +kernel), by decide +kernel⟩

theorem witness_SessionsOpenAndEnd_3_0 :
    ∃ (t : Nat) (d : Dgram) (s s1 : State) (i : Fin 32),
    (s.begin t).datagram (d.of 6) = (some i, s1) :=
  ⟨0, dgram 6, live, _, 0, pair_of (by decide +kernel)⟩

theorem witness_SessionsOpenAndEnd_3_1 :
    ∃ (t : Nat) (d : Dgram) (s s1 : State) (i : Fin 32),
    (s.begin t).datagram (d.of 7) = (some i, s1) :=
  ⟨0, dgram 7, live, _, 0, pair_of (by decide +kernel)⟩

theorem witness_SessionsOpenAndEnd_4_0 :
    ∃ (t : Nat) (i : Fin 32) (s : State),
    let s0 := s.begin t
    (s0.sessions[i].isOpen = true) ∧
    (s0.running 1 = true) ∧
    (s0.sessions[i].leaseEnd ≤ s0.ft) :=
  ⟨9, 0, live.updSess 0 fun x => { x with leaseEnd := 9 }, by decide +kernel⟩

theorem witness_SessionsOpenAndEnd_5_0 :
    ∃ (t : Nat) (k : Kop) (i : Fin 32) (s : State) (w : Fin 32),
    let s1 := Safety.taken s t k
    (Safety.Admits s t k (0x1F20 + i.val) 0x08 1 w) ∧
    (s1.sessions[i].isOpen = true) :=
  ⟨0, kopFor 0x1F3F 8, 31, due (live.updSess 31 fun _ => sess), 0, admits_of (by decide +kernel), by decide +kernel⟩

theorem witness_SessionsOpenAndEnd_6_0 :
    ∃ (t : Nat) (x : PcsReport) (s : State),
    let s0 := s.begin t
    let p := x.port
    (s0.hports[p].link = 0) ∧
    (x.block = true) ∧
    (s0.fecOn p = true) ∧
    (x.align = true) ∧
    (msFt 10 ≤ x.quiet) :=
  ⟨0, { port := 3, block := true, align := true, quiet := msFt 10, failing := 0 }, (live.oput 0x1F43 3 1), by decide +kernel⟩

theorem witness_SessionsOpenAndEnd_6_1 :
    ∃ (t : Nat) (x : PcsReport) (s : State),
    let s0 := s.begin t
    let p := x.port
    (s0.hports[p].link = 0) ∧
    (x.block = true) ∧
    (s0.fecOn p = false) ∧
    (msFt 10 ≤ x.quiet) :=
  ⟨0, { port := 3, block := true, align := false, quiet := msFt 10, failing := 0 }, (live.oput 0x1F43 3 0), by decide +kernel⟩

theorem witness_SessionsOpenAndEnd_6_2 :
    ∃ (t : Nat) (x : PcsReport) (s : State),
    let s0 := s.begin t
    let p := x.port
    (s0.hports[p].link = 1) ∧
    (x.block = false ∨ (s0.fecOn p = true ∧ x.align = false) ∨ x.quiet = 0) ∧
    (msFt 1 ≤ x.failing) :=
  ⟨0, { port := 0, block := false, align := true, quiet := 9, failing := msFt 1 }, (live.oput 0x1F40 3 1), by decide +kernel⟩

theorem witness_SessionsOpenAndEnd_6_2b :
    ∃ (t : Nat) (x : PcsReport) (s : State),
    let s0 := s.begin t
    let p := x.port
    (s0.hports[p].link = 1) ∧
    (x.block = false ∨ (s0.fecOn p = true ∧ x.align = false) ∨ x.quiet = 0) ∧
    (msFt 1 ≤ x.failing) :=
  ⟨0, { port := 0, block := true, align := false, quiet := 9, failing := msFt 1 }, (live.oput 0x1F40 3 1), by decide +kernel⟩

theorem witness_SessionsOpenAndEnd_6_2c :
    ∃ (t : Nat) (x : PcsReport) (s : State),
    let s0 := s.begin t
    let p := x.port
    (s0.hports[p].link = 1) ∧
    (x.block = false ∨ (s0.fecOn p = true ∧ x.align = false) ∨ x.quiet = 0) ∧
    (msFt 1 ≤ x.failing) :=
  ⟨0, { port := 0, block := true, align := true, quiet := 0, failing := msFt 1 }, (live.oput 0x1F40 3 1), by decide +kernel⟩

theorem witness_SessionsOpenAndEnd_7_0 :
    ∃ (t : Nat) (p : Fin 4) (m : PtpMsg) (s s0 : State),
    let s1 := s0.ptpFresh
    let x := s1.ptp
    (s.begin t).frameIn p.val true m.eth = (true, s0) ∧
    (x.port = some p.val) ∧
    (m.domain = (if s1.oget 0x1F48 0x01 = 2 then 0 else s1.oget 0x1F48 0x02)) :=
  ⟨0, 0, { eth := { eth with body := .udp 319 }, kind := 1, domain := if live.oget 0x1F48 0x01 = 2 then 0 else live.oget 0x1F48 0x02, quality := 0, utcOffset := 0, utcValid := true, rx := 0, originNs := 0, seqId := 0, master := 3, arrival := 0, turnNs := 0 }, { live with ptp := { Ptp.init with port := some 0, state := 1, grand := none } }, _, pair_of (by decide +kernel), by decide +kernel⟩

theorem witness_SessionsOpenAndEnd_7_1 :
    ∃ (t : Nat) (p : Fin 4) (m : PtpMsg) (s s0 : State),
    let s1 := s0.ptpFresh
    let x := s1.ptp
    (s.begin t).frameIn p.val true m.eth = (true, s0) ∧
    (x.port = some p.val) ∧
    (m.domain = (if s1.oget 0x1F48 0x01 = 2 then 0 else s1.oget 0x1F48 0x02)) ∧
    (m.kind = 0) ∧
    (x.grand = none) :=
  ⟨0, 0, { eth := { eth with body := .udp 319 }, kind := 0, domain := if live.oget 0x1F48 0x01 = 2 then 0 else live.oget 0x1F48 0x02, quality := 0, utcOffset := 0, utcValid := true, rx := 0, originNs := 0, seqId := 0, master := 3, arrival := 0, turnNs := 0 }, { live with ptp := { Ptp.init with port := some 0, state := 1, grand := none } }, _, pair_of (by decide +kernel), by decide +kernel⟩

theorem witness_SessionsOpenAndEnd_7_2 :
    ∃ (t : Nat) (p : Fin 4) (m : PtpMsg) (s s0 : State) (q a : Nat),
    let s1 := s0.ptpFresh
    let x := s1.ptp
    (s.begin t).frameIn p.val true m.eth = (true, s0) ∧
    (x.port = some p.val) ∧
    (m.domain = (if s1.oget 0x1F48 0x01 = 2 then 0 else s1.oget 0x1F48 0x02)) ∧
    (x.grand = some (q, m.master, a)) ∧
    (x.state = 2 ∨ x.state = 3) ∧
    (m.kind = 1) :=
  ⟨0, 0, { eth := { eth with body := .udp 319 }, kind := 1, domain := if live.oget 0x1F48 0x01 = 2 then 0 else live.oget 0x1F48 0x02, quality := 0, utcOffset := 0, utcValid := true, rx := 0, originNs := 0, seqId := 0, master := 3, arrival := 0, turnNs := 0 }, { live with ptp := { Ptp.init with port := some 0, state := 3, grand := some (1, 3, 0) } }, _, 1, 0, pair_of (by decide +kernel), by decide +kernel⟩

theorem witness_SessionsOpenAndEnd_7_3 :
    ∃ (t : Nat) (p : Fin 4) (m : PtpMsg) (s s0 : State) (q a : Nat),
    let s1 := s0.ptpFresh
    let x := s1.ptp
    (s.begin t).frameIn p.val true m.eth = (true, s0) ∧
    (x.port = some p.val) ∧
    (m.domain = (if s1.oget 0x1F48 0x01 = 2 then 0 else s1.oget 0x1F48 0x02)) ∧
    (x.grand = some (q, m.master, a)) ∧
    (x.state = 2 ∨ x.state = 3) ∧
    (m.kind = 2) :=
  ⟨0, 0, { eth := { eth with body := .udp 319 }, kind := 2, domain := if live.oget 0x1F48 0x01 = 2 then 0 else live.oget 0x1F48 0x02, quality := 0, utcOffset := 0, utcValid := true, rx := 0, originNs := 0, seqId := 0, master := 3, arrival := 0, turnNs := 0 }, { live with ptp := { Ptp.init with port := some 0, state := 2, grand := some (1, 3, 0) } }, _, 1, 0, pair_of (by decide +kernel), by decide +kernel⟩

theorem witness_SessionsOpenAndEnd_7_4 :
    ∃ (t : Nat) (p : Fin 4) (m : PtpMsg) (s s0 : State) (q b a : Nat),
    let s1 := s0.ptpFresh
    let x := s1.ptp
    (s.begin t).frameIn p.val true m.eth = (true, s0) ∧
    (x.port = some p.val) ∧
    (m.domain = (if s1.oget 0x1F48 0x01 = 2 then 0 else s1.oget 0x1F48 0x02)) ∧
    (x.grand = some (q, b, a)) ∧
    (b ≠ m.master) ∧
    (m.kind = 1) :=
  ⟨0, 0, { eth := { eth with body := .udp 319 }, kind := 1, domain := if live.oget 0x1F48 0x01 = 2 then 0 else live.oget 0x1F48 0x02, quality := 0, utcOffset := 0, utcValid := true, rx := 0, originNs := 0, seqId := 0, master := 3, arrival := 0, turnNs := 0 }, { live with ptp := { Ptp.init with port := some 0, state := 2, grand := some (1, 4, 0) } }, _, 1, 4, 0, pair_of (by decide +kernel), by decide +kernel⟩

theorem witness_SessionsOpenAndEnd_7_5 :
    ∃ (t : Nat) (p : Fin 4) (m : PtpMsg) (s s0 : State),
    let s1 := s0.ptpFresh
    let x := s1.ptp
    (s.begin t).frameIn p.val true m.eth = (true, s0) ∧
    (x.port = some p.val) ∧
    (m.domain = (if s1.oget 0x1F48 0x01 = 2 then 0 else s1.oget 0x1F48 0x02)) ∧
    (m.kind = 5) ∧
    (s1.oget 0x1F48 0x01 = 2) :=
  ⟨0, 0, { eth := { eth with body := .udp 319 }, kind := 5, domain := 0, quality := 0, utcOffset := 0, utcValid := true, rx := 0, originNs := 0, seqId := 0, master := 3, arrival := 0, turnNs := 0 }, { live with ptp := { Ptp.init with port := some 0, state := 1, grand := none } }.oput 0x1F48 1 2, _, pair_of (by decide +kernel), by decide +kernel⟩

theorem witness_MessagesAreAcknowledgedAndZonesOwned_0_0 :
    ∃ (t : Nat) (d : Dgram) (m : AckMsg) (s s1 : State) (i : Fin 32),
    let x := s1.sessions[i]
    let cum := nearNo x.txCum m.cum
    (s.begin t).datagram ((d.of 0x10).only m.ok) = (some i, s1) ∧
    (x.txCum : Int) ≤ cum ∧
    (cum ≤ x.txNext) :=
  ⟨0, dgram 0x10, { body := 1 + 32 * 2 ^ 32 }, live.updSess 0 fun x => { x with txNext := 1 }, _, 0, pair_of (by decide +kernel), by decide +kernel⟩

theorem witness_MessagesAreAcknowledgedAndZonesOwned_1_0 :
    ∃ (t : Nat) (i : Fin 32) (s : State),
    let s0 := s.begin t
    let x := s0.sessions[i]
    (x.isOpen = true) ∧
    (0 < x.accepted ∨ x.ackNow = true) :=
  ⟨0, 0, live.updSess 0 fun x => { x with accepted := 1 }, by decide +kernel⟩

theorem witness_MessagesAreAcknowledgedAndZonesOwned_2_0 :
    ∃ (t : Nat) (i : Fin 32) (n : Nat) (s : State) (m : TxMsg) (b : Nat),
    let s0 := s.begin t
    let x := s0.sessions[i]
    (x.unacked.find? fun m => m.n == n) = some m ∧
    (m.sentAt = some b) ∧
    (b : Rat) + x.rtoOf m ≤ s0.ft ∧
    (s0.pathUp x.port = true) :=
  ⟨2 ^ 50, 0, 0, live.updSess 0 fun x => { x with unacked := [{ n := 0, kind := 0x41, body := 0, len := 4, items := [], zone := 0, sentAt := some 0, tries := 0, fastAt := none }] }, { n := 0, kind := 0x41, body := 0, len := 4, items := [], zone := 0, sentAt := some 0, tries := 0, fastAt := none }, 0, by decide +kernel⟩

theorem witness_MessagesAreAcknowledgedAndZonesOwned_3_0 :
    ∃ (t : Nat) (k : Kop) (z : Fin 8) (s : State) (w : Fin 32),
    let s1 := Safety.taken s t k
    let a := Safety.actor s t k (zIdx z) 0x7A w
    let x := s1.sessions[a.sess]
    (Safety.Admits s t k (zIdx z) 0x7A 1 w) ∧
    (bitOf x.roles 2 = true) ∧
    (s1.zones[z].owner = none) :=
  ⟨0, kopFor (zIdx 7) 0x7A, 7, due ((live.updZone 7 fun z => { z with owner := none })), 0, admits_of (by decide +kernel), by decide +kernel⟩

theorem witness_MessagesAreAcknowledgedAndZonesOwned_3_0b :
    ∃ (t : Nat) (k : Kop) (z : Fin 8) (s : State) (w : Fin 32),
    let s1 := Safety.taken s t k
    let a := Safety.actor s t k (zIdx z) 0x7A w
    let x := s1.sessions[a.sess]
    (Safety.Admits s t k (zIdx z) 0x7A 1 w) ∧
    (bitOf x.roles 2 = true) ∧
    (s1.zones[z].owner = some x.hostId) :=
  ⟨0, kopFor (zIdx 7) 0x7A, 7, due ((live.updZone 7 fun z => { z with owner := some 5 })), 0, admits_of (by decide +kernel), by decide +kernel⟩

theorem witness_MessagesAreAcknowledgedAndZonesOwned_3_0c :
    ∃ (t : Nat) (k : Kop) (z : Fin 8) (s : State) (w : Fin 32),
    let s1 := Safety.taken s t k
    let a := Safety.actor s t k (zIdx z) 0x7A w
    let x := s1.sessions[a.sess]
    (Safety.Admits s t k (zIdx z) 0x7A 1 w) ∧
    (bitOf x.roles 2 = true) ∧
    (s1.zones[z].owner = some 6) ∧
    (x.hostId ≠ 6) :=
  ⟨0, kopFor (zIdx 7) 0x7A, 7, due ((live.updZone 7 fun z => { z with owner := some 6 })), 0, admits_of (by decide +kernel), by decide +kernel⟩

theorem witness_MessagesAreAcknowledgedAndZonesOwned_4_0 :
    ∃ (t : Nat) (k : Kop) (z : Fin 8) (s : State) (w : Fin 32),
    let s1 := Safety.taken s t k
    let a := Safety.actor s t k (zIdx z) 0x7A w
    let x := s1.sessions[a.sess]
    (Safety.Admits s t k (zIdx z) 0x7A 2 w) ∧
    (bitOf x.roles 3 = true) :=
  ⟨0, kopFor (zIdx 7) 0x7A, 7, due ((live.updZone 7 fun z => { z with owner := some 6 })), 0, admits_of (by decide +kernel), by decide +kernel⟩

theorem witness_MessagesAreAcknowledgedAndZonesOwned_5_0 :
    ∃ (t : Nat) (k : Kop) (z : Fin 8) (s : State) (w : Fin 32),
    let s1 := Safety.taken s t k
    let a := Safety.actor s t k (zIdx z) 0x7A w
    let x := s1.sessions[a.sess]
    (Safety.Admits s t k (zIdx z) 0x7A 3 w) ∧
    (bitOf x.roles 3 = true) :=
  ⟨0, kopFor (zIdx 7) 0x7A, 7, due ((live.updZone 7 fun z => { z with owner := some 6 })), 0, admits_of (by decide +kernel), by decide +kernel⟩

theorem witness_MessagesAreAcknowledgedAndZonesOwned_5_0b :
    ∃ (t : Nat) (k : Kop) (z : Fin 8) (s : State) (w : Fin 32),
    let s1 := Safety.taken s t k
    let a := Safety.actor s t k (zIdx z) 0x7A w
    let x := s1.sessions[a.sess]
    (Safety.Admits s t k (zIdx z) 0x7A 3 w) ∧
    (bitOf x.roles 3 = false) :=
  ⟨0, kopFor (zIdx 7) 0x7A, 7, due (((live.updZone 7 fun z => { z with owner := some 6 })).updSess 0 fun x => { x with roles := 4 }), 0, admits_of (by decide +kernel), by decide +kernel⟩

theorem witness_MessagesAreAcknowledgedAndZonesOwned_6_0 :
    ∃ (t : Nat) (z : Fin 8) (s : State) (u : Nat),
    (s.begin t).zones[z].lapseAt = some u ∧
    (u ≤ (s.begin t).ft) :=
  ⟨9, 7, live.updZone 7 fun z => { z with owner := some 5, lapseAt := some 9 }, 9, by decide +kernel⟩

theorem witness_RegistersAndTransactionsAreServed_0_0 :
    ∃ (t : Nat) (k : Kop) (index sub v : Nat) (s : State) (w : Fin 32),
    let s0 := Safety.taken s t k
    let x := s0.writtenValue k index sub v
    (Safety.Admits s t k index sub v w) ∧
    (∀ r, objRow index sub = some r → r.acc ≠ 4) ∧
    (otherCommand index sub v = false) ∧
    (isSelect index sub = false) ∧
    (∀ n, objFam index ≠ some (0x5000, n)) ∧
    (textRange index sub v = true) ∧
    (textRange index sub x = true) :=
  ⟨0, kopFor 0x1F80 2, 0x1F80, 2, 1000, due live, 0, admits_of (by decide +kernel), row_of (by decide +kernel), by decide +kernel, by decide +kernel, fam_of (by decide +kernel), by decide +kernel⟩

theorem witness_RegistersAndTransactionsAreServed_1_0 :
    ∃ (s : State) (i sub v : Nat),
    (smapWf 1 s.ver) ∧
    (sget 0 s.verAt (objKey i sub) ≠ s.ft + 1) :=
  ⟨live, 0x2000, 0x13, 1, by decide +kernel⟩

theorem witness_RegistersAndTransactionsAreServed_2_0 :
    ∃ (t : Nat) (k : Kop) (index sub v : Nat) (s s1 : State) (w : Fin 32),
    (Safety.grant (s.begin t) k = (some w, s1)) ∧
    (k.op = 1) ∧
    (s1.readCode k k.index k.sub w ≠ 0) :=
  ⟨0, kop 1 1 0 4, 0, 0, 0, due live, _, 0, pair_of (by decide +kernel), by decide +kernel⟩

theorem witness_RegistersAndTransactionsAreServed_2_1 :
    ∃ (t : Nat) (k : Kop) (index sub v : Nat) (s s1 : State) (w : Fin 32),
    let r := readBlob (s1.plainResp k 0) (readSize k.index k.sub) k.off k.len (s1.readObj w k.index k.sub)
    (Safety.grant (s.begin t) k = (some w, s1)) ∧
    (k.op = 1) ∧
    (s1.readCode k k.index k.sub w = 0) ∧
    (s1.domainsOn (readDomains k.index k.sub) = true) ∧
    (r.code = 0) :=
  ⟨0, kop 1 0x2000 0x13 2, 0, 0, 0, due live, _, 0, pair_of (by decide +kernel), by decide +kernel⟩

theorem witness_RegistersAndTransactionsAreServed_2_2 :
    ∃ (t : Nat) (k : Kop) (index sub v : Nat) (s s1 : State) (w : Fin 32),
    (Safety.grant (s.begin t) k = (some w, s1)) ∧
    (k.op = 1) ∧
    (s1.readCode k k.index k.sub w = 0) ∧
    (s1.domainsOn (readDomains k.index k.sub) = false) :=
  ⟨0, kop 1 0x2000 0x10 2, 0, 0, 0, due ({ live with domains := Vector.replicate 11 { Domain.init with state := 1 } }), _, 0, pair_of (by decide +kernel), by decide +kernel⟩

theorem witness_RegistersAndTransactionsAreServed_3_0 :
    ∃ (t : Nat) (k : Kop) (index v : Nat) (s s1 : State) (w : Fin 32) (r : ObjRow),
    (Safety.grant (s.begin t) k = (some w, s1)) ∧
    (k.names 2 index 0x01 = true) ∧
    (s1.writeCode k index 0x01 w = 0) ∧
    (objRow index 0x01 = some r) ∧
    (requestMalformed index v = true) :=
  ⟨0, kopFor 0x601F 1, 0x601F, 5, due live, _, 0, (objRow 0x601F 0x01).get (by decide +kernel), pair_of (by decide +kernel), by decide +kernel, by decide +kernel, get_of (by decide +kernel), by decide +kernel⟩

theorem witness_RegistersAndTransactionsAreServed_4_0 :
    ∃ (t : Nat) (k : Kop) (s s1 : State) (w : Fin 32) (y : Fin 8),
    (Safety.grant (s.begin t) k = (some w, s1)) ∧
    (k.names 3 0 0 = true) ∧
    (s1.freeTx = some y) :=
  ⟨0, kop 3 0 0 0, due live, _, 0, 0, pair_of (by decide +kernel), by decide +kernel⟩

theorem witness_RegistersAndTransactionsAreServed_5_0 :
    ∃ (t : Nat) (k : Kop) (txid index sub v : Nat) (s s1 s3 : State) (w : Fin 32) (y : Fin 8) (r : ObjRow),
    let s2 := s1.updTx y fun x => { x with leaseEnd := s1.ft + msFt (s1.oget 0x1F80 0x03) }
    let x := s2.stageValue y k index sub (s2.bindOf w index sub) v
    let tx := s3.txs[y].put (objKey index sub) (s2.bindOf w index sub) x
    (Safety.grant (s.begin t) k = (some w, s1)) ∧
    (k.names 4 index sub = true) ∧
    (s1.tx? w txid = some y) ∧
    (s2.txs[y].state = 1) ∧
    (s2.stageCode k index sub w = 0) ∧
    (objRow index sub = some r) ∧
    (v < 2 ^ (8 * k.len)) ∧
    (rowRange r x = true) ∧
    (stageRange index sub x = true) ∧
    (s2.touch y index sub = some s3) ∧
    (stageBytes tx.staged ≤ 65536) :=
  ⟨0, { kopFor 0x2000 0x13 with op := 4 }, (7 + 256), 0x2000, 0x13, 1, due ({ live with txs := live.txs.set 7 { Tx.init with gen := 1, host := 5, roles := 31, leaseEnd := 2 ^ 60, state := 1 } }), _, _, 0, 7, (objRow 0x2000 0x13).get (by decide +kernel), pair_of (by decide +kernel), by decide +kernel, by decide +kernel, by decide +kernel, by decide +kernel, get_of (by decide +kernel), by decide +kernel, by decide +kernel, by decide +kernel, some_of live (by decide +kernel), by decide +kernel⟩

theorem witness_RegistersAndTransactionsAreServed_6_0 :
    ∃ (t : Nat) (k : Kop) (txid index sub : Nat) (s s1 s3 : State) (w : Fin 32) (y : Fin 8),
    let s2 := s1.updTx y fun x => { x with leaseEnd := s1.ft + msFt (s1.oget 0x1F80 0x03) }
    let r := readBlob (s2.txResp k y 0) (readSize index sub) k.off k.len (s2.txValue w y index sub)
    (Safety.grant (s.begin t) k = (some w, s1)) ∧
    (k.names 5 index sub = true) ∧
    (s1.tx? w txid = some y) ∧
    (s2.txs[y].state = 1) ∧
    (s2.readCode k index sub w = 0) ∧
    (s2.domainsOn (readDomains index sub) = true) ∧
    (r.code = 0) ∧
    (s2.touch y index sub = some s3) :=
  ⟨0, { kopFor 0x2000 0x13 with op := 5 }, (7 + 256), 0x2000, 0x13, due ({ live with txs := live.txs.set 7 { Tx.init with gen := 1, host := 5, roles := 31, leaseEnd := 2 ^ 60, state := 1 } }), _, _, 0, 7, pair_of (by decide +kernel), by decide +kernel, by decide +kernel, by decide +kernel, by decide +kernel, by decide +kernel, by decide +kernel, some_of live (by decide +kernel)⟩

theorem witness_RegistersAndTransactionsAreServed_7_0 :
    ∃ (t : Nat) (k : Kop) (txid limit : Nat) (s s1 : State) (w : Fin 32) (y : Fin 8),
    let s2 := s1.updTx y fun x => { x with leaseEnd := s1.ft + msFt (s1.oget 0x1F80 0x03) }
    (Safety.grant (s.begin t) k = (some w, s1)) ∧
    (k.names 6 0 0 = true) ∧
    (s1.tx? w txid = some y) ∧
    (s2.txs[y].state = 1) ∧
    (k.len = 4) ∧
    (s2.txCheck y = 0) :=
  ⟨0, kop 6 0 0 4, (7 + 256), 1000, due ({ live with txs := live.txs.set 7 { Tx.init with gen := 1, host := 5, roles := 31, leaseEnd := 2 ^ 60, state := 1 } }), _, 0, 7, pair_of (by decide +kernel), by decide +kernel⟩

theorem witness_RegistersAndTransactionsAreServed_7_0b :
    ∃ (t : Nat) (k : Kop) (txid limit : Nat) (s s1 : State) (w : Fin 32) (y : Fin 8),
    let s2 := s1.updTx y fun x => { x with leaseEnd := s1.ft + msFt (s1.oget 0x1F80 0x03) }
    (Safety.grant (s.begin t) k = (some w, s1)) ∧
    (k.names 6 0 0 = true) ∧
    (s1.tx? w txid = some y) ∧
    (s2.txs[y].state = 1) ∧
    (k.len = 4) ∧
    (s2.txCheck y ≠ 0) :=
  ⟨0, kop 6 0 0 4, (7 + 256), 1000, due ({ live with txs := live.txs.set 7 { Tx.init with gen := 1, host := 5, roles := 31, leaseEnd := 2 ^ 60, state := 1, touched := [(objKey 0x2000 0x13, 9)] } }), _, 0, 7, pair_of (by decide +kernel), by decide +kernel⟩

theorem witness_RegistersAndTransactionsAreServed_8_0 :
    ∃ (t : Nat) (k : Kop) (txid : Nat) (s s1 : State) (w : Fin 32) (y : Fin 8),
    let s2 := s1.updTx y fun x => { x with leaseEnd := s1.ft + msFt (s1.oget 0x1F80 0x03) }
    (Safety.grant (s.begin t) k = (some w, s1)) ∧
    (s1.tx? w txid = some y) ∧
    (k.names 7 0 0 = true) ∧
    (s2.txs[y].state = 1 ∨ s2.txs[y].state = 2) :=
  ⟨0, kop 7 0 0 0, (7 + 256), due ({ live with txs := live.txs.set 7 { Tx.init with gen := 1, host := 5, roles := 31, leaseEnd := 2 ^ 60, state := 2 } }), _, 0, 7, pair_of (by decide +kernel), by decide +kernel⟩

theorem witness_RegistersAndTransactionsAreServed_8_1 :
    ∃ (t : Nat) (k : Kop) (txid : Nat) (s s1 : State) (w : Fin 32) (y : Fin 8),
    (Safety.grant (s.begin t) k = (some w, s1)) ∧
    (s1.tx? w txid = some y) ∧
    (k.names 8 0 0 = true) :=
  ⟨0, kop 8 0 0 0, (7 + 256), due ({ live with txs := live.txs.set 7 { Tx.init with gen := 1, host := 5, roles := 31, leaseEnd := 2 ^ 60, state := 2 } }), _, 0, 7, pair_of (by decide +kernel), by decide +kernel⟩

theorem witness_RegistersAndTransactionsAreServed_9_0 :
    ∃ (t : Nat) (k : Kop) (txid : Nat) (s s1 : State) (w : Fin 32),
    (Safety.grant (s.begin t) k = (some w, s1)) ∧
    (k.names 8 0 0 = true) ∧
    (s1.tx? w txid = none) :=
  ⟨0, kop 8 0 0 0, (7 + 256), due live, _, 0, pair_of (by decide +kernel), by decide +kernel⟩

theorem witness_RegistersAndTransactionsAreServed_10_0 :
    ∃ (t : Nat) (k : Kop) (y : Fin 8) (s : State) (w : Fin 32),
    let s1 := Safety.taken s t k
    (Safety.Admits s t k (0x1F88 + y.val) 0x07 1 w) ∧
    (s1.txs[y].state = 1 ∨ s1.txs[y].state = 2) :=
  ⟨0, kopFor 0x1F8F 7, 7, due ({ live with txs := live.txs.set 7 { Tx.init with gen := 1, host := 5, roles := 31, leaseEnd := 2 ^ 60, state := 2 } }), 0, admits_of (by decide +kernel), by decide +kernel⟩

theorem witness_RegistersAndTransactionsAreServed_10_0b :
    ∃ (t : Nat) (k : Kop) (y : Fin 8) (s : State) (w : Fin 32),
    let s1 := Safety.taken s t k
    (Safety.Admits s t k (0x1F88 + y.val) 0x07 1 w) ∧
    (s1.txs[y].state = 3) :=
  ⟨0, kopFor 0x1F8F 7, 7, due ({ live with txs := live.txs.set 7 { Tx.init with gen := 1, host := 5, roles := 31, leaseEnd := 2 ^ 60, state := 3 } }), 0, admits_of (by decide +kernel), by decide +kernel⟩

theorem witness_RegistersAndTransactionsAreServed_11_0 :
    ∃ (t : Nat) (y : Fin 8) (s : State),
    let s0 := s.begin t
    (s0.txs[y].state = 2) ∧
    (s0.boundaryMet s0.txs[y] = true) ∧
    (s0.earlierDue y = false) ∧
    (s0.txCheck y = 0) :=
  ⟨0, 7, { live with txs := live.txs.set 7 { Tx.init with gen := 1, host := 5, roles := 31, leaseEnd := 2 ^ 60, state := 2 } }, by decide +kernel⟩

theorem witness_RegistersAndTransactionsAreServed_11_0b :
    ∃ (t : Nat) (y : Fin 8) (s : State),
    let s0 := s.begin t
    (s0.txs[y].state = 2) ∧
    (s0.boundaryMet s0.txs[y] = true) ∧
    (s0.earlierDue y = false) ∧
    (s0.txCheck y ≠ 0) :=
  ⟨0, 7, { live with txs := live.txs.set 7 { Tx.init with gen := 1, host := 5, roles := 31, leaseEnd := 2 ^ 60, state := 2, touched := [(objKey 0x2000 0x13, 9)] } }, by decide +kernel⟩

theorem witness_RegistersAndTransactionsAreServed_12_0 :
    ∃ (t : Nat) (y : Fin 8) (s : State),
    (s.begin t).txs[y].state = 2 ∧
    (s.begin t).txs[y].limitAt ≤ (s.begin t).ft :=
  ⟨9, 7, { live with txs := live.txs.set 7 { Tx.init with gen := 1, host := 5, roles := 31, leaseEnd := 2 ^ 60, state := 2, limitAt := 9 } }, by decide +kernel⟩

theorem witness_RegistersAndTransactionsAreServed_13_0 :
    ∃ (t : Nat) (y : Fin 8) (s : State),
    let s0 := s.begin t
    (s0.txs[y].state = 1) ∧
    (s0.txs[y].leaseEnd ≤ s0.ft) :=
  ⟨2 ^ 60, 7, { live with txs := live.txs.set 7 { Tx.init with gen := 1, host := 5, roles := 31, leaseEnd := 2 ^ 60, state := 1 } }, by decide +kernel⟩

theorem witness_FieldNetworksReassemble_0_0 :
    ∃ (t : Nat) (f : Fin 2) (m : CanMsg) (s : State),
    let s0 := s.begin t
    let host := fld m.ident 13 6
    let seg := fld m.ident 5 5
    let x := ({ s0.cans[f] with rxErr := if 127 < s0.cans[f].rxErr then 127 else s0.cans[f].rxErr - 1 } : Can).confine
    (s0.oget (0x1F50 + f.val) 0x01 = 1) ∧
    (s0.cans[f].bus = 1 ∨ s0.cans[f].bus = 2) ∧
    (m.crcOk = true) ∧
    (m.fd = true) ∧
    (m.extended = true) ∧
    (m.remote = false) ∧
    (bitOf m.ident 25 = false) ∧
    (fld m.ident 19 6 = s0.oget (0x1F50 + f.val) 0x02) ∧
    (fld m.ident 0 5 = 0) ∧
    (x.part? host = none) ∧
    (seg = 0) ∧
    (bitOf m.ident 10 = false) :=
  ⟨0, 1, { fd := true, remote := false, extended := true, crcOk := true, ident := 5 * 2 ^ 13 + 2 ^ 19 * live.oget 0x1F51 0x02, data := [0] }, ((live.oput 0x1F51 1 1).updCan 1 fun x => { x with bus := 1 }), by decide +kernel⟩

theorem witness_FieldNetworksReassemble_0_1 :
    ∃ (t : Nat) (f : Fin 2) (m : CanMsg) (s : State),
    let s0 := s.begin t
    let host := fld m.ident 13 6
    let seg := fld m.ident 5 5
    let x := ({ s0.cans[f] with rxErr := if 127 < s0.cans[f].rxErr then 127 else s0.cans[f].rxErr - 1 } : Can).confine
    (s0.oget (0x1F50 + f.val) 0x01 = 1) ∧
    (s0.cans[f].bus = 1 ∨ s0.cans[f].bus = 2) ∧
    (m.crcOk = true) ∧
    (m.fd = true) ∧
    (m.extended = true) ∧
    (m.remote = false) ∧
    (bitOf m.ident 25 = false) ∧
    (fld m.ident 19 6 = s0.oget (0x1F50 + f.val) 0x02) ∧
    (fld m.ident 0 5 = 0) ∧
    (x.part? host = none) ∧
    (seg ≠ 0) :=
  ⟨0, 1, { fd := true, remote := false, extended := true, crcOk := true, ident := 5 * 2 ^ 13 + 2 ^ 19 * live.oget 0x1F51 0x02 + 2 ^ 5, data := [0] }, ((live.oput 0x1F51 1 1).updCan 1 fun x => { x with bus := 1 }), by decide +kernel⟩

theorem witness_FieldNetworksReassemble_0_2 :
    ∃ (t : Nat) (f : Fin 2) (m : CanMsg) (s : State) (p : Partial),
    let s0 := s.begin t
    let host := fld m.ident 13 6
    let msgno := fld m.ident 11 2
    let seg := fld m.ident 5 5
    let x := ({ s0.cans[f] with rxErr := if 127 < s0.cans[f].rxErr then 127 else s0.cans[f].rxErr - 1 } : Can).confine
    (s0.oget (0x1F50 + f.val) 0x01 = 1) ∧
    (s0.cans[f].bus = 1 ∨ s0.cans[f].bus = 2) ∧
    (m.crcOk = true) ∧
    (m.fd = true) ∧
    (m.extended = true) ∧
    (m.remote = false) ∧
    (bitOf m.ident 25 = false) ∧
    (fld m.ident 19 6 = s0.oget (0x1F50 + f.val) 0x02) ∧
    (fld m.ident 0 5 = 0) ∧
    (x.part? host = some p) ∧
    (p.next = seg) ∧
    (p.msgno = msgno) ∧
    (s0.ft ≤ p.at_ + msFt 20) ∧
    (bitOf m.ident 10 = false) :=
  ⟨0, 1, { fd := true, remote := false, extended := true, crcOk := true, ident := 5 * 2 ^ 13 + 2 ^ 19 * live.oget 0x1F51 0x02 + 2 ^ 5, data := [0] }, ((live.oput 0x1F51 1 1).updCan 1 fun x => { x with bus := 1, parts := [{ host := 5, msgno := 0, next := 1, bytes := [0], at_ := 0 }] }), { host := 5, msgno := 0, next := 1, bytes := [0], at_ := 0 }, by decide +kernel⟩

theorem witness_FieldNetworksReassemble_0_3 :
    ∃ (t : Nat) (f : Fin 2) (m : CanMsg) (s : State) (p : Partial),
    let s0 := s.begin t
    let host := fld m.ident 13 6
    let msgno := fld m.ident 11 2
    let seg := fld m.ident 5 5
    let x := ({ s0.cans[f] with rxErr := if 127 < s0.cans[f].rxErr then 127 else s0.cans[f].rxErr - 1 } : Can).confine
    (s0.oget (0x1F50 + f.val) 0x01 = 1) ∧
    (s0.cans[f].bus = 1 ∨ s0.cans[f].bus = 2) ∧
    (m.crcOk = true) ∧
    (m.fd = true) ∧
    (m.extended = true) ∧
    (m.remote = false) ∧
    (bitOf m.ident 25 = false) ∧
    (fld m.ident 19 6 = s0.oget (0x1F50 + f.val) 0x02) ∧
    (fld m.ident 0 5 = 0) ∧
    (x.part? host = some p) ∧
    (p.next = seg) ∧
    (p.msgno = msgno) ∧
    (s0.ft ≤ p.at_ + msFt 20) ∧
    (bitOf m.ident 10 = true) :=
  ⟨0, 1, { fd := true, remote := false, extended := true, crcOk := true, ident := 5 * 2 ^ 13 + 2 ^ 19 * live.oget 0x1F51 0x02 + 2 ^ 5 + 2 ^ 10, data := [0] }, ((live.oput 0x1F51 1 1).updCan 1 fun x => { x with bus := 1, parts := [{ host := 5, msgno := 0, next := 1, bytes := [0], at_ := 0 }] }), { host := 5, msgno := 0, next := 1, bytes := [0], at_ := 0 }, by decide +kernel⟩

theorem witness_FieldNetworksReassemble_1_0 :
    ∃ (t : Nat) (f : Fin 2) (m : CanMsg) (s : State),
    let s0 := s.begin t
    (s0.cans[f].bus = 1 ∨ s0.cans[f].bus = 2) ∧
    (bitOf m.ident 25 = true) ∧
    (m.crcOk = true) :=
  ⟨0, 1, { fd := true, remote := false, extended := true, crcOk := true, ident := 5 * 2 ^ 13 + 2 ^ 19 * live.oget 0x1F51 0x02 + 2 ^ 25, data := [0] }, ((live.oput 0x1F51 1 1).updCan 1 fun x => { x with bus := 2 }), by decide +kernel⟩

theorem witness_FieldNetworksReassemble_1_1 :
    ∃ (t : Nat) (f : Fin 2) (m : CanMsg) (s : State),
    let s0 := s.begin t
    (s0.cans[f].bus = 1 ∨ s0.cans[f].bus = 2) ∧
    (bitOf m.ident 25 = true) ∧
    (m.crcOk = false) :=
  ⟨0, 1, { fd := true, remote := false, extended := true, crcOk := false, ident := 5 * 2 ^ 13 + 2 ^ 19 * live.oget 0x1F51 0x02 + 2 ^ 25, data := [0] }, ((live.oput 0x1F51 1 1).updCan 1 fun x => { x with bus := 2 }), by decide +kernel⟩

theorem witness_FieldNetworksReassemble_2_0 :
    ∃ (t : Nat) (f : Fin 2) (host : Nat) (s : State),
    let s0 := s.begin t
    (s0.cans[f].part? host = none) :=
  ⟨0, 1, 5, live, by decide +kernel⟩

theorem witness_FieldNetworksReassemble_2_1 :
    ∃ (t : Nat) (f : Fin 2) (host : Nat) (s : State) (p : Partial),
    let s0 := s.begin t
    (s0.cans[f].part? host = some p) ∧
    (p.at_ + msFt 20 < s0.ft) :=
  ⟨msFt 20 + 1, 1, 5, ((live.oput 0x1F51 1 1).updCan 1 fun x => { x with parts := [{ host := 5, msgno := 0, next := 1, bytes := [0], at_ := 0 }] }), { host := 5, msgno := 0, next := 1, bytes := [0], at_ := 0 }, by decide +kernel⟩

theorem witness_FieldNetworksReassemble_3_0 :
    ∃ (t : Nat) (f : Fin 2) (primary : Bool) (s : State),
    let s0 := s.begin t
    let x := s0.cans[f]
    (x.bus = 1 ∨ x.bus = 2) ∧
    (x.txErr + 8 ≤ 255) :=
  ⟨0, 1, true, ((live.oput 0x1F51 1 1).updCan 1 fun x => { x with bus := 1 }), by decide +kernel⟩

theorem witness_FieldNetworksReassemble_3_1 :
    ∃ (t : Nat) (f : Fin 2) (primary : Bool) (s : State),
    let s0 := s.begin t
    let x := s0.cans[f]
    (x.bus = 1 ∨ x.bus = 2) ∧
    (255 < x.txErr + 8) :=
  ⟨0, 1, true, ((live.oput 0x1F51 1 1).updCan 1 fun x => { x with bus := 1, txErr := 248 }), by decide +kernel⟩

theorem witness_FieldNetworksReassemble_3_2 :
    ∃ (t : Nat) (f : Fin 2) (primary : Bool) (s : State),
    let s0 := s.begin t
    let x := s0.cans[f]
    (x.bus = 1 ∨ x.bus = 2) ∧
    (x.txErr ≤ 255) :=
  ⟨0, 1, true, ((live.oput 0x1F51 1 1).updCan 1 fun x => { x with bus := 1, txErr := 255 }), by decide +kernel⟩

theorem witness_FieldNetworksReassemble_4_0 :
    ∃ (t : Nat) (f : Fin 2) (transmit primary : Bool) (s : State),
    (s.begin t).cans[f].bus ≠ 1 ∧
    (s.begin t).cans[f].bus ≠ 2 :=
  ⟨0, 1, true, true, ((live.oput 0x1F51 1 1).updCan 1 fun x => { x with bus := 3 }), by decide +kernel⟩

theorem witness_FieldNetworksReassemble_5_0 :
    ∃ (t : Nat) (f : Fin 2) (s : State),
    let s0 := s.begin t
    (s0.cans[f].bus = 3) :=
  ⟨0, 1, ((live.oput 0x1F51 1 1).updCan 1 fun x => { x with bus := 3 }), by decide +kernel⟩

theorem witness_FieldNetworksReassemble_5_1 :
    ∃ (t : Nat) (f : Fin 2) (s : State),
    let s0 := s.begin t
    (s0.cans[f].bus ≠ 3) :=
  ⟨0, 1, ((live.oput 0x1F51 1 1).updCan 1 fun x => { x with bus := 1 }), by decide +kernel⟩

theorem witness_TheStoreSaves_0_0 :
    ∃ (t : Nat) (k : Kop) (s : State) (w : Fin 32),
    let s1 := Safety.taken s t k
    (Safety.Admits s t k 0x1000 0x20 1 w) ∧
    (s1.save.isSome = false) :=
  ⟨0, kopFor 0x1000 0x20, due live, 0, admits_of (by decide +kernel), by decide +kernel⟩

theorem witness_TheStoreSaves_0_0b :
    ∃ (t : Nat) (k : Kop) (s : State) (w : Fin 32),
    let s1 := Safety.taken s t k
    (Safety.Admits s t k 0x1000 0x20 1 w) ∧
    (s1.save.isSome = true) :=
  ⟨0, kopFor 0x1000 0x20, due ({ live with save := some { bank := 1, count := 1, entries := [], restart := false } }), 0, admits_of (by decide +kernel), by decide +kernel⟩

theorem witness_TheStoreSaves_2_0 :
    ∃ (t : Nat) (k : Kop) (s : State) (w : Fin 32),
    let s1 := Safety.taken s t k
    (Safety.Admits s t k 0x1000 0x20 3 w) ∧
    (s1.save.isSome = false) :=
  ⟨0, kopFor 0x1000 0x20, due live, 0, admits_of (by decide +kernel), by decide +kernel⟩

theorem witness_TheStoreSaves_2_0b :
    ∃ (t : Nat) (k : Kop) (s : State) (w : Fin 32),
    let s1 := Safety.taken s t k
    (Safety.Admits s t k 0x1000 0x20 3 w) ∧
    (s1.save.isSome = true) :=
  ⟨0, kopFor 0x1000 0x20, due ({ live with save := some { bank := 1, count := 1, entries := [], restart := false } }), 0, admits_of (by decide +kernel), by decide +kernel⟩

theorem witness_TheStoreSaves_1_0 :
    ∃ (t : Nat) (k : Kop) (s : State) (w : Fin 32),
    let s1 := Safety.taken s t k
    (Safety.Admits s t k 0x1000 0x20 2 w) ∧
    (s1.save.isSome = false) ∧
    (s1.allIdle = true) :=
  ⟨0, kopFor 0x1000 0x20, due live, 0, admits_of (by decide +kernel), by decide +kernel⟩

theorem witness_TheStoreSaves_1_0b :
    ∃ (t : Nat) (k : Kop) (s : State) (w : Fin 32),
    let s1 := Safety.taken s t k
    (Safety.Admits s t k 0x1000 0x20 2 w) ∧
    (s1.allIdle = false) :=
  ⟨0, kopFor 0x1000 0x20, due ({ zoned with items := [item] }), 0, admits_of (by decide +kernel), by decide +kernel⟩

theorem witness_TheStoreSaves_3_0 :
    ∃ (t : Nat) (s : State) (v : Save),
    let s0 := s.begin t
    (s0.save = some v) ∧
    (v.restart = true) :=
  ⟨0, { live with save := some { bank := 1, count := 1, entries := [], restart := true } }, { bank := 1, count := 1, entries := [], restart := true }, by decide +kernel⟩

theorem witness_TheStoreSaves_3_0b :
    ∃ (t : Nat) (s : State) (v : Save),
    let s0 := s.begin t
    (s0.save = some v) ∧
    (v.restart = false) :=
  ⟨0, { live with save := some { bank := 1, count := 1, entries := [], restart := false } }, { bank := 1, count := 1, entries := [], restart := false }, by decide +kernel⟩

theorem witness_TheStoreSaves_4_0 :
    ∃ (t : Nat) (k : Kop) (s : State) (w : Fin 32),
    let s1 := Safety.taken s t k
    (Safety.Admits s t k 0xA000 0x04 1 w) ∧
    (s1.allIdle = true) :=
  ⟨0, kopFor 0xA000 4, due live, 0, admits_of (by decide +kernel), by decide +kernel⟩

theorem witness_TheStoreSaves_4_0b :
    ∃ (t : Nat) (k : Kop) (s : State) (w : Fin 32),
    let s1 := Safety.taken s t k
    (Safety.Admits s t k 0xA000 0x04 1 w) ∧
    (s1.allIdle = false) :=
  ⟨0, kopFor 0xA000 4, due ({ zoned with items := [item] }), 0, admits_of (by decide +kernel), by decide +kernel⟩

theorem witness_TrustIsKept_0_0 :
    ∃ (t : Nat) (source : Fin 9) (sense : TamperSense) (stuck : List Nat) (s : State),
    let s0 := s.begin t
    (s0.trips source sense = true) ∧
    (bitOf s0.tamper.active source.val = false) ∧
    (source.val < 7) :=
  ⟨0, 5, .vbat 1449, [], live, by decide +kernel⟩

theorem witness_TrustIsKept_0_1 :
    ∃ (t : Nat) (source : Fin 9) (sense : TamperSense) (stuck : List Nat) (s : State),
    let s0 := s.begin t
    (s0.trips source sense = true) ∧
    (bitOf s0.tamper.active source.val = false) ∧
    (7 ≤ source.val) :=
  ⟨0, 8, .supply 879, [], live, by decide +kernel⟩

theorem witness_TrustIsKept_0_2 :
    ∃ (t : Nat) (source : Fin 9) (sense : TamperSense) (stuck : List Nat) (s : State),
    let s0 := s.begin t
    (s0.trips source sense = true) ∧
    (bitOf s0.tamper.active source.val = true) :=
  ⟨0, 5, .vbat 1449, [], { live with tamper := { Tamper.init with active := 32 } }, by decide +kernel⟩

theorem witness_TrustIsKept_0_3 :
    ∃ (t : Nat) (source : Fin 9) (sense : TamperSense) (stuck : List Nat) (s : State),
    let s0 := s.begin t
    (s0.trips source sense = false) ∧
    (s0.tamper.active = 0) :=
  ⟨0, 5, .vbat 1450, [], live, by decide +kernel⟩

theorem witness_TrustIsKept_1_0 :
    ∃ (s : State) (mask : Nat),
    (s.tamper.active ≠ 0) ∧
    (s.tamper.active &&& mask = 0) :=
  ⟨{ live with tamper := { Tamper.init with active := 32 } }, 511 - 32, by decide +kernel⟩

theorem witness_TrustIsKept_2_0 :
    ∃ (t : Nat) (k : Kop) (active : Nat) (s : State) (w : Fin 32),
    (Safety.Admits s t k 0x8000 0x0C 1 w) :=
  ⟨0, kopFor 0x8000 0x0C, 0, due live, 0, admits_of (by decide +kernel)⟩

theorem witness_TrustIsKept_3_0 :
    ∃ (t : Nat) (k : Kop) (r : LcReq) (stuck : List Nat) (s : State) (w : Fin 32),
    let s1 := Safety.taken s t k
    (Safety.Admits s t k 0x8000 0x02 0 w) ∧
    (s.lcPending = none) ∧
    (s1.lcCode r ≠ 0) :=
  ⟨0, kopFor 0x8000 2, { body := 1 + 3 * 2 ^ 8 + 0 * 2 ^ 16 + 2 ^ 1536, fuseOk := true }, [], due live, 0, admits_of (by decide +kernel), by decide +kernel⟩

theorem witness_TrustIsKept_3_1 :
    ∃ (t : Nat) (k : Kop) (r : LcReq) (stuck : List Nat) (s : State) (w : Fin 32),
    let s1 := Safety.taken s t k
    (Safety.Admits s t k 0x8000 0x02 0 w) ∧
    (s.lcPending = none) ∧
    (s1.lcCode r = 0) :=
  ⟨0, kopFor 0x8000 2, { body := 1 + 3 * 2 ^ 8 + 2 * 2 ^ 16 + 2 ^ 1536, fuseOk := true }, [], due ({ live with cocoon := { live.cocoon with owner := some 1 } }), 0, admits_of (by decide +kernel), by decide +kernel⟩

theorem witness_TrustIsKept_4_0 :
    ∃ (s : State) (r : LcRun),
    (s.lcPending = some r) :=
  ⟨{ live with lcPending := some { from_ := 3, to_ := 2, toggles := 0, fuseOk := true, sess := 0 } }, { from_ := 3, to_ := 2, toggles := 0, fuseOk := true, sess := 0 }, by decide +kernel⟩

theorem witness_TrustIsKept_4_1 :
    ∃ (s : State) (r : LcRun),
    (s.lcPending = some r) ∧
    (r.fuseOk = true) :=
  ⟨{ live with lcPending := some { from_ := 3, to_ := 2, toggles := 0, fuseOk := true, sess := 0 } }, { from_ := 3, to_ := 2, toggles := 0, fuseOk := true, sess := 0 }, by decide +kernel⟩

theorem witness_TrustIsKept_4_2 :
    ∃ (s : State) (r : LcRun),
    (s.lcPending = some r) ∧
    (r.fuseOk = false) :=
  ⟨{ live with lcPending := some { from_ := 3, to_ := 2, toggles := 0, fuseOk := false, sess := 0 } }, { from_ := 3, to_ := 2, toggles := 0, fuseOk := false, sess := 0 }, by decide +kernel⟩

theorem witness_TrustIsKept_5_0 :
    ∃ (t : Nat) (k : Kop) (r : OwnerRec) (s s1 : State) (w : Fin 32),
    let a := s1.whoFor 0x8000 0x04 w
    let ok := (s1.cocoon.owner.isSome || s1.sessions[a.sess].prov) && s1.keyAuth 256 r.body r.serial r.recordSeq s1.cocoon.recordSeq (s1.cocoon.owner.getD r.ownerKey)
    (s.resumed = none) ∧
    (Safety.grant (s.begin t) k = (some w, s1)) ∧
    (k.names 2 0x8000 0x04 = true) ∧
    (s1.writeCode k 0x8000 0x04 w = 0) ∧
    (r.wf = true) ∧
    (ok = true) :=
  ⟨0, kopFor 0x8000 4, { body := 1 + 2 ^ 32 + 2 ^ 1536 }, { live with cocoon := { live.cocoon with owner := some 1 } }, _, 0, by decide +kernel, pair_of (by decide +kernel), by decide +kernel⟩

theorem witness_TrustIsKept_5_1 :
    ∃ (t : Nat) (k : Kop) (r : OwnerRec) (s s1 : State) (w : Fin 32),
    let a := s1.whoFor 0x8000 0x04 w
    let ok := (s1.cocoon.owner.isSome || s1.sessions[a.sess].prov) && s1.keyAuth 256 r.body r.serial r.recordSeq s1.cocoon.recordSeq (s1.cocoon.owner.getD r.ownerKey)
    (s.resumed = none) ∧
    (Safety.grant (s.begin t) k = (some w, s1)) ∧
    (k.names 2 0x8000 0x04 = true) ∧
    (s1.writeCode k 0x8000 0x04 w = 0) ∧
    (r.wf = true) ∧
    (ok = false) :=
  ⟨0, kopFor 0x8000 4, { body := 1 + 2 ^ 32 + 2 ^ 1536 }, live, _, 0, by decide +kernel, pair_of (by decide +kernel), by decide +kernel⟩

theorem witness_TrustIsKept_6_0 :
    ∃ (t : Nat) (k : Kop) (r : OwnerRec) (s : State) (w : Fin 32),
    (s.resumed.isSome = true) ∧
    (Safety.Admits s t k 0x8000 0x04 0 w) ∧
    (r.wf = true) :=
  ⟨0, kopFor 0x8000 4, { body := 1 + 2 ^ 32 + 2 ^ 1536 }, due ({ live with cocoon := { live.cocoon with owner := some 1 } }), 0, by decide +kernel, admits_of (by decide +kernel), by decide +kernel⟩

theorem witness_TrustIsKept_7_0 :
    ∃ (t : Nat) (k : Kop) (r : ListLoad) (s : State) (w : Fin 32),
    (s.resumed.isSome = true) ∧
    (Safety.Admits s t k 0x8000 0x09 0 w) :=
  ⟨0, kopFor 0x8000 9, { body := 0 }, due live, 0, by decide +kernel, admits_of (by decide +kernel)⟩

theorem witness_TrustIsKept_8_0 :
    ∃ (t : Nat) (k : Kop) (r : ListLoad) (s s1 : State) (w : Fin 32),
    (s.resumed = none) ∧
    (Safety.grant (s.begin t) k = (some w, s1)) ∧
    (k.names 2 0x8000 0x09 = true) ∧
    (s1.writeCode k 0x8000 0x09 w = 0) :=
  ⟨0, kopFor 0x8000 9, { body := 0 }, live, _, 0, by decide +kernel, pair_of (by decide +kernel), by decide +kernel⟩

theorem witness_AWipeLeavesNoKeyAndNoSession_1_0 :
    ∃ (s : State) (x : Waiting) (sub : Nat),
    (x ∈ s.waiting) ∧
    (keyLoadOf x.cmd = some sub) :=
  ⟨{ live with waiting := [{ sess := 0, tag := 1, domains := [], cmd := .ownerKeyLoad 0 (kopFor 0x8000 4) { body := 1 + 2 ^ 32 + 2 ^ 1536 } }] }, { sess := 0, tag := 1, domains := [], cmd := .ownerKeyLoad 0 (kopFor 0x8000 4) { body := 1 + 2 ^ 32 + 2 ^ 1536 } }, 4, List.mem_singleton.mpr rfl, rfl⟩

theorem witness_EnginesRestartAndMemoryIsSwept_1_0 :
    ∃ (t : Nat) (e : Fin 8) (sig0 sig1 : Bool) (s : State) (f : Nat),
    let s0 := s.begin t
    (s0.engines[e].heldFrom = some f) ∧
    (f + usFt 10 ≤ s0.ft) ∧
    (s0.engines[e].bypassAt = none) ∧
    (s0.engines[e].stops.length < 3) :=
  ⟨usFt 10, 7, true, true, (live.updEngine 7 fun y => { y with heldFrom := some 0, stops := [0, 0] }), 0, by decide +kernel⟩

theorem witness_EnginesRestartAndMemoryIsSwept_1_1 :
    ∃ (t : Nat) (e : Fin 8) (sig0 sig1 : Bool) (s : State) (f : Nat),
    let s0 := s.begin t
    (s0.engines[e].heldFrom = some f) ∧
    (f + usFt 10 ≤ s0.ft) ∧
    (s0.engines[e].bypassAt = none) ∧
    (3 ≤ s0.engines[e].stops.length) :=
  ⟨usFt 10, 7, true, true, (live.updEngine 7 fun y => { y with heldFrom := some 0, stops := [0, 0, 0] }), 0, by decide +kernel⟩

theorem witness_EnginesRestartAndMemoryIsSwept_2_0 :
    ∃ (t : Nat) (e : Fin 8) (s : State),
    let s0 := s.begin t
    (s0.engines[e].state = 1 ∨ s0.engines[e].state = 3) ∧
    (s0.engines[e].heldFrom = none) :=
  ⟨0, 7, (live.updEngine 7 fun y => { y with state := 3 }), by decide +kernel⟩

theorem witness_EnginesRestartAndMemoryIsSwept_3_0 :
    ∃ (t : Nat) (w : MemWord) (s : State) (a : Fin 3) (e : Fin 8),
    (Fin.ofNat 3 w.array = a) ∧
    (a.val ≠ 2) ∧
    (w.reader = e.val) :=
  ⟨0, { array := 1, inst := 0, reader := 7, macro_ := 0, row := 0, column := 0 }, live, 1, 7, by decide +kernel⟩

theorem witness_EnginesRestartAndMemoryIsSwept_3_1 :
    ∃ (t : Nat) (w : MemWord) (s : State) (a : Fin 3) (e : Fin 8),
    (Fin.ofNat 3 w.array = a) ∧
    (a.val ≠ 2) ∧
    (8 ≤ w.reader) :=
  ⟨0, { array := 1, inst := 0, reader := 8, macro_ := 0, row := 0, column := 0 }, live, 1, 7, by decide +kernel⟩

theorem witness_EnginesRestartAndMemoryIsSwept_3_2 :
    ∃ (t : Nat) (w : MemWord) (s : State) (a : Fin 3) (e : Fin 8),
    (Fin.ofNat 3 w.array = a) ∧
    (a.val = 2) :=
  ⟨0, { array := 2, inst := 0, reader := 255, macro_ := 0, row := 0, column := 0 }, live, 2, 7, by decide +kernel⟩

theorem witness_EnginesRestartAndMemoryIsSwept_4_0 :
    ∃ (t : Nat) (s : State),
    let s0 := s.begin t
    (s0.running 7 = true) ∧
    (s0.oget 0x7000 0x01 = 1) ∧
    (s0.mem.shadowBad = false) ∧
    (s0.mem.under = none) ∧
    (s0.mem.req = none) ∧
    (periodic s0.mem.lastAt s0.mem.every s0.ft = true) :=
  ⟨0, live, by decide +kernel⟩

theorem witness_EnginesRestartAndMemoryIsSwept_5_0 :
    ∃ (t : Nat) (faults : List CellFault) (singles : List Nat) (s : State) (r : Nat),
    let s0 := s.begin t
    let n := (r + 1) % 20480
    (s0.mem.under = some (r, false)) ∧
    (n = 0) :=
  ⟨0, [{ row := 511, column := 0, kind := .stuck true }], [0], { live with mem := { live.mem with under := some (20479, false) } }, 20479, by decide +kernel⟩

theorem witness_EnginesRestartAndMemoryIsSwept_5_0b :
    ∃ (t : Nat) (faults : List CellFault) (singles : List Nat) (s : State) (r : Nat),
    let s0 := s.begin t
    let n := (r + 1) % 20480
    (s0.mem.under = some (r, false)) ∧
    (n ≠ 0) :=
  ⟨0, [], [], { live with mem := { live.mem with under := some (0, false) } }, 0, by decide +kernel⟩

theorem witness_EnginesRestartAndMemoryIsSwept_6_0 :
    ∃ (t : Nat) (s : State) (slot r : Nat) (rest : List Nat),
    let s0 := s.begin t
    (s0.mem.req = some (slot, r :: rest)) ∧
    (s0.running 7 = true) ∧
    (s0.mem.under = none) ∧
    (s0.mem.reqAt + usFt 10 ≤ s0.ft) :=
  ⟨usFt 10, { live with mem := { live.mem with req := some (15, [20479]) } }, 15, 20479, [], by decide +kernel⟩

theorem witness_EnginesRestartAndMemoryIsSwept_7_0 :
    ∃ (t : Nat) (k : Kop) (v : Nat) (s : State) (w : Fin 32),
    (Safety.Admits s t k 0x7000 0x01 v w) :=
  ⟨0, kopFor 0x7000 1, 0, due live, 0, admits_of (by decide +kernel)⟩

theorem witness_EnginesRestartAndMemoryIsSwept_8_0 :
    ∃ (t : Nat) (k : Kop) (i : Fin 16) (target deadline : Nat) (s : State) (w : Fin 32),
    let s1 := Safety.taken s t k
    (Safety.Admits s t k (0x6010 + i.val) 0x01 (reqValue 4 target deadline) w) ∧
    (s1.reqBusy i = false) ∧
    (testRegions target).isNone = false :=
  ⟨0, kopFor 0x601F 1, 15, 31, 0, due live, 0, admits_of (by decide +kernel), by decide +kernel⟩

theorem witness_EnginesRestartAndMemoryIsSwept_8_0b :
    ∃ (t : Nat) (k : Kop) (i : Fin 16) (target deadline : Nat) (s : State) (w : Fin 32),
    let s1 := Safety.taken s t k
    (Safety.Admits s t k (0x6010 + i.val) 0x01 (reqValue 4 target deadline) w) ∧
    (s1.reqBusy i = false) ∧
    (testRegions target).isNone = true :=
  ⟨0, kopFor 0x601F 1, 15, 32, 0, due live, 0, admits_of (by decide +kernel), by decide +kernel⟩

theorem witness_EnginesRestartAndMemoryIsSwept_9_0 :
    ∃ (t : Nat) (i : Fin 16) (s : State),
    let s0 := s.begin t
    (s0.reqs[i].result = 1) ∧
    (s0.reqs[i].kind = 4) :=
  ⟨0, 15, (live.updReq 15 fun q => { q with result := 1, kind := 4 }), by decide +kernel⟩

theorem witness_EnginesRestartAndMemoryIsSwept_10_0 :
    ∃ (x : Arrays) (k : Fin 8) (q : Access),
    (x.portB k = some q) ∧
    (∃ y ∈ x.waiting, y.array = k.val ∧ onPortA y = false ∧ (engineOf y).isSome = true) :=
  ⟨{ State.reset.arrays with words := [(wordKey 7 5, 3)], waiting := [{ client := .dma, array := 7, word := 5, op := .write 9, edge := 0 }, { client := .engine 6, array := 7, word := 5, op := .read, edge := 0 }] }, 7, { client := .engine 6, array := 7, word := 5, op := .read, edge := 0 }, by decide +kernel⟩

theorem witness_EnginesRestartAndMemoryIsSwept_11_0 :
    ∃ (x : Arrays) (n : Fin 4) (q : Access),
    (q ∈ x.bankServed n) ∧
    (wordWrites q.op = false) :=
  ⟨{ State.reset.arrays with waiting := [{ client := .engine 6, array := 11, word := 65535, op := .read, edge := 0 }] }, 3, { client := .engine 6, array := 11, word := 65535, op := .read, edge := 0 }, by decide +kernel⟩

theorem witness_EnginesRestartAndMemoryIsSwept_12_0 :
    ∃ (x : Arrays) (n : Fin 4) (key : Nat),
    (∀ q ∈ x.bankServed n, wordWrites q.op = true → x.home q.array q.word ≠ key) :=
  ⟨{ State.reset.arrays with waiting := [{ client := .engine 6, array := 11, word := 65535, op := .read, edge := 0 }] }, 3, 0, by decide +kernel⟩

theorem witness_EnginesRestartAndMemoryIsSwept_12_1 :
    ∃ (x : Arrays) (n : Fin 4) (key : Nat),
    (∀ q ∈ x.bankServed n, wordWrites q.op = true → wordKey q.array q.word ≠ key) :=
  ⟨{ State.reset.arrays with waiting := [{ client := .engine 6, array := 11, word := 65535, op := .read, edge := 0 }] }, 3, 0, by decide +kernel⟩

theorem witness_EnginesRestartAndMemoryIsSwept_13_0 :
    ∃ (x : Arrays) (r w : Nat),
    (r < 20480) ∧
    (w ∈ regionWords r) :=
  ⟨State.reset.arrays, 20479, 49151, by decide +kernel⟩

theorem witness_EnginesRestartAndMemoryIsSwept_13_1 :
    ∃ (x : Arrays) (r w : Nat) (v : Nat),
    (r < 20480) ∧
    (w ∈ regionWords r) ∧
    (x.locked = some r) :=
  ⟨{ State.reset.arrays with locked := some 20479 }, 20479, 49151, 7, by decide +kernel⟩

theorem witness_EnginesRestartAndMemoryIsSwept_13_2 :
    ∃ (x : Arrays) (r w : Nat),
    let a := regionArray r
    (r < 20480) ∧
    (w ∈ regionWords r) ∧
    (x.locked = some r) ∧
    (smapWf 0 x.words) ∧
    (∀ u ∈ regionWords r, ∀ v ∈ regionWords r, x.home a u = x.home a v → u = v) :=
  ⟨{ State.reset.arrays with locked := some 20479 }, 20479, 49088, by decide +kernel⟩

theorem witness_RecordsAndCountersAreKept_0_0 :
    ∃ (t : Nat) (s : State) (e : Event) (rest : List Event),
    let s0 := s.begin t
    (s0.running 7 = true) ∧
    (s0.recorder.clearing = none) ∧
    (s0.events = e :: rest) :=
  ⟨0, { live with events := [{ tick := 0, opSeconds := 0, powerCycles := 0, calendar := 0, code := 0x9815, cls := 5, sev := 1, session := 0, role := 0, loc := 0, payload := 0 }] }, { tick := 0, opSeconds := 0, powerCycles := 0, calendar := 0, code := 0x9815, cls := 5, sev := 1, session := 0, role := 0, loc := 0, payload := 0 }, [], by decide +kernel⟩

theorem witness_RecordsAndCountersAreKept_1_0 :
    ∃ (t : Nat) (k : Kop) (tok : ClearTok) (s : State) (w : Fin 32),
    let s1 := Safety.taken s t k
    (Safety.Admits s t k 0x9000 0x07 0 w) ∧
    (s1.recorder.clearing = none) ∧
    (s1.running 7 = true) :=
  ⟨0, kopFor 0x9000 7, { body := 0 }, due live, 0, admits_of (by decide +kernel), by decide +kernel⟩

theorem witness_RecordsAndCountersAreKept_2_0 :
    ∃ (t : Nat) (s : State),
    (s.begin t).opStored + 64 ≤ (s.begin t).opNow :=
  ⟨64 * 1250000000, live, by decide +kernel⟩

theorem witness_RecordsAndCountersAreKept_3_0 :
    ∃ (t : Nat) (s : State),
    (s.begin t).oget 0x9400 0x04 = 1 ∧
    (s.begin t).ptp.state = 3 ∧
    (s.begin t).ptp.utcValid = true ∧
    (periodic (s.begin t).calRun (msFt 16000) (s.begin t).ft = true) :=
  ⟨0, { (live.oput 0x9400 4 1) with ptp := { Ptp.init with state := 3, utcValid := true } }, by decide +kernel⟩

theorem witness_RecordsAndCountersAreKept_4_0 :
    ∃ (t : Nat) (k : Kop) (v : Nat) (s : State) (w : Fin 32),
    let s1 := Safety.taken s t k
    (Safety.Admits s t k 0x9400 0x03 v w) ∧
    (v < 2 ^ 48) ∧
    (¬(s1.oget 0x9400 0x04 = 1 ∧ s1.ptp.state = 3)) :=
  ⟨0, kopFor 0x9400 3, 2 ^ 48 - 1, due live, 0, admits_of (by decide +kernel), by decide +kernel⟩

theorem witness_RecordsAndCountersAreKept_4_0b :
    ∃ (t : Nat) (k : Kop) (v : Nat) (s : State) (w : Fin 32),
    let s1 := Safety.taken s t k
    (Safety.Admits s t k 0x9400 0x03 v w) ∧
    (v < 2 ^ 48) ∧
    (s1.oget 0x9400 0x04 = 1 ∧ s1.ptp.state = 3) :=
  ⟨0, kopFor 0x9400 3, 1, due ({ (live.oput 0x9400 4 1) with ptp := { Ptp.init with state := 3, utcValid := true } }), 0, admits_of (by decide +kernel), by decide +kernel⟩

theorem witness_RecordsAndCountersAreKept_5_0 :
    ∃ (t : Nat) (k : Kop) (s : State) (w : Fin 32),
    let s1 := Safety.taken s t k
    (Safety.Admits s t k 0x9800 0x01 1 w) ∧
    (s1.liveDue = []) :=
  ⟨0, kopFor 0x9800 1, due live, 0, admits_of (by decide +kernel), by decide +kernel⟩

theorem witness_RecordsAndCountersAreKept_6_0 :
    ∃ (t : Nat) (k : Kop) (s : State) (w : Fin 32),
    let s1 := Safety.taken s t k
    (Safety.Admits s t k 0x9800 0x03 1 w) ∧
    (s1.bpos = 0) :=
  ⟨0, kopFor 0x9800 3, due live, 0, admits_of (by decide +kernel), by decide +kernel⟩

theorem witness_RecordsAndCountersAreKept_7_0 :
    ∃ (t : Nat) (s : State),
    let s0 := s.begin t
    (s0.oget 0x9800 0x02 ≠ 0) ∧
    (s0.ft % msFt (s0.oget 0x9800 0x02) = 0) :=
  ⟨msFt 7, live.oput 0x9800 2 7, by decide +kernel⟩

theorem witness_RecordsAndCountersAreKept_8_1 :
    ∃ (t : Nat) (s : State) (l : Latch),
    (s.snap.due = [l]) ∧
    (l.period = false) ∧
    (l.at_ ≤ max s.ft t) ∧
    (s.snap.latched = none) :=
  ⟨9, { live with snap := { live.snap with due := [{ at_ := 9, board := true, period := false }] } }, { at_ := 9, board := true, period := false }, by decide +kernel⟩

theorem witness_RecordsAndCountersAreKept_8_2 :
    ∃ (t : Nat) (s : State) (l : Latch),
    (s.snap.due = [l]) ∧
    (l.period = false) ∧
    (l.at_ ≤ max s.ft t) ∧
    (s.snap.latched = none) ∧
    (s.snap.active = true) :=
  ⟨9, { live with snap := { live.snap with due := [{ at_ := 9, board := true, period := false }], active := true } }, { at_ := 9, board := true, period := false }, by decide +kernel⟩

theorem witness_RecordsAndCountersAreKept_8_3 :
    ∃ (t : Nat) (s : State) (l : Latch),
    (s.snap.due = [l]) ∧
    (l.period = false) ∧
    (l.at_ ≤ max s.ft t) ∧
    (s.snap.latched = none) ∧
    (s.snap.active = false) :=
  ⟨9, { live with snap := { live.snap with due := [{ at_ := 9, board := true, period := false }] } }, { at_ := 9, board := true, period := false }, by decide +kernel⟩

theorem witness_RecordsAndCountersAreKept_9_0 :
    ∃ (s : State) (tick : Nat) (board : Bool) (l : Latch),
    (l ∈ s.scheduled) ∧
    (l.board = true) ∧
    (nearLatch l.at_ tick = true) :=
  ⟨{ live with snap := { live.snap with due := [{ at_ := 9, board := true, period := false }] } }, 125009, false, { at_ := 9, board := true, period := false }, by decide +kernel⟩

theorem witness_RecordsAndCountersAreKept_10_0 :
    ∃ (t : Nat) (s : State) (d : Nat),
    let s0 := s.begin t
    (s0.snap.latched = some d) :=
  ⟨0, { live with snap := { live.snap with latched := some 9 } }, 9, by decide +kernel⟩

theorem witness_ResetsStartTheBlock_2_0 :
    ∃ (t : Nat) (p : PowerUp) (s : State) (f : Nat),
    let s0 := s.begin t
    (s0.power.resetFrom = some f) ∧
    (∀ c : Fin 16, s0.chains[c].vph < 2000) :=
  ⟨0, { bpos := 1, bakPresent := true, wiped := [], calendar := 0, lcBlown := false, cellsOk := true, shadowOk := true, arrays := [], buffers := [], installs := [], dramMib := 2048, vhv := true }, { live with power := { live.power with resetFrom := some 0 } }, 0, by decide +kernel⟩

theorem witness_ResetsStartTheBlock_2_1 :
    ∃ (t : Nat) (p : PowerUp) (s : State) (f : Nat),
    let s0 := s.begin t
    (s0.power.resetFrom = some f) ∧
    (f + secFt 1 ≤ s0.ft) :=
  ⟨secFt 1, { bpos := 1, bakPresent := true, wiped := [], calendar := 0, lcBlown := false, cellsOk := true, shadowOk := true, arrays := [], buffers := [], installs := [], dramMib := 2048, vhv := true }, { live with power := { live.power with resetFrom := some 0 } }, 0, by decide +kernel⟩

theorem witness_ResetsStartTheBlock_3_0 :
    ∃ (t supply uv : Nat) (p : PowerUp) (s : State),
    (supply < 2) ∧
    (uv < (if supply = 0 then 637500 else 722500)) :=
  ⟨0, 1, 722499, { bpos := 1, bakPresent := true, wiped := [], calendar := 0, lcBlown := false, cellsOk := true, shadowOk := true, arrays := [], buffers := [], installs := [], dramMib := 2048, vhv := true }, live, by decide +kernel⟩

theorem witness_ResetsStartTheBlock_3_1 :
    ∃ (t supply uv : Nat) (p : PowerUp) (s : State),
    (2 ≤ supply) ∧
    (supply < 7) ∧
    (inRange supply uv = false) :=
  ⟨0, 6, 0, { bpos := 1, bakPresent := true, wiped := [], calendar := 0, lcBlown := false, cellsOk := true, shadowOk := true, arrays := [], buffers := [], installs := [], dramMib := 2048, vhv := true }, live, by decide +kernel⟩

theorem witness_ResetsStartTheBlock_4_0 :
    ∃ (t ps : Nat) (locked : Bool) (ns : Nat) (stuck : List Nat) (p : PowerUp) (s : State),
    (¬ (5400 ≤ ps ∧ ps ≤ 7400 ∧ locked = true)) :=
  ⟨0, 7401, true, 1000, [], { bpos := 1, bakPresent := true, wiped := [], calendar := 0, lcBlown := false, cellsOk := true, shadowOk := true, arrays := [], buffers := [], installs := [], dramMib := 2048, vhv := true }, live, by decide +kernel⟩

theorem witness_PowerIsManaged_0_0 :
    ∃ (t : Nat) (i : Fin 2) (begins : Bool) (uv : Nat) (s : State),
    let s0 := s.begin t
    (nearNominal i.val uv = true) ∧
    (s0.power.excursion[i] ≠ begins) ∧
    (inRange i.val uv ≠ begins) :=
  ⟨0, 1, true, 800000, live, by decide +kernel⟩

theorem witness_PowerIsManaged_0_1 :
    ∃ (t : Nat) (i : Fin 2) (begins : Bool) (uv : Nat) (s : State),
    (nearNominal i.val uv = false) :=
  ⟨0, 1, true, 700000, live, by decide +kernel⟩

theorem witness_PowerIsManaged_1_0 :
    ∃ (t : Nat) (port : Fin 20) (s : State) (l : Fin 16),
    let s0 := s.begin t
    (l.val = port.val) ∧
    (s0.ports[l].state = .ready) :=
  ⟨0, 15, (live.updPort 15 fun p => { p with state := .ready }), 15, by decide +kernel⟩

theorem witness_PowerIsManaged_3_0 :
    ∃ (t : Nat) (s : State),
    let s0 := s.begin t
    (s0.devState = 0) ∧
    (s0.startedUp = true) :=
  ⟨0, { (live.updSync fun y => { y with startup := false }) with devState := 0, power := { live.power with autoOn := true } }, by decide +kernel⟩

theorem witness_PowerIsManaged_4_0 :
    ∃ (t : Nat) (d : Fin 11) (s : State),
    let s0 := s.begin t
    (s0.domains[d].state = 2) ∧
    (s0.idleFor d Prod.fst = true) ∧
    (s0.offFirst d = false) :=
  ⟨msFt 50, 5, { live with idle := Vector.replicate 11 (some (0, 50, 0)), ft := msFt 50 }, by decide +kernel⟩

theorem witness_PowerIsManaged_4_1 :
    ∃ (t : Nat) (d : Fin 11) (s : State),
    let s0 := s.begin t
    (s0.domains[d].state = 1 ∨ s0.domains[d].state = 2) ∧
    (s0.idleFor d Prod.snd = true) ∧
    (neverOff d = false) :=
  ⟨msFt 50, 5, { live with idle := Vector.replicate 11 (some (0, 50, 50)), ft := msFt 50 }, by decide +kernel⟩

theorem witness_PowerIsManaged_5_0 :
    ∃ (t : Nat) (d : Fin 11) (found : List (Nat × CellFault)) (buffers : List BufFault) (s : State),
    let s0 := s.begin t
    (s0.domains[d].state < 2) :=
  ⟨0, 7, [], [], { live with domains := live.domains.set 7 { Domain.init with state := 1 } }, by decide +kernel⟩

theorem witness_PowerIsManaged_5_1 :
    ∃ (t : Nat) (d : Fin 11) (found : List (Nat × CellFault)) (buffers : List BufFault) (s : State),
    let s0 := s.begin t
    (s0.domains[d].state = 3) ∧
    (s0.domains[d].wakeAt + wakeFt d.val s0.domains[d].wakeFrom ≤ s0.ft) :=
  ⟨msFt 35, 7, [], [], { live with domains := live.domains.set 7 { Domain.init with state := 3, wakeAt := 0, wakeFrom := 0 } }, by decide +kernel⟩

theorem witness_PowerIsManaged_6_0 :
    ∃ (t : Nat) (k : Kop) (s : State) (w : Fin 32),
    let s1 := Safety.taken s t k
    (Safety.Admits s t k 0xA000 0x05 1 w) ∧
    (s1.power.step = 0) :=
  ⟨0, kopFor 0xA000 5, due live, 0, admits_of (by decide +kernel), by decide +kernel⟩

theorem witness_PowerIsManaged_7_0 :
    ∃ (t : Nat) (s : State),
    let s0 := s.begin t
    (s0.power.step = 1) :=
  ⟨0, { live with power := { live.power with step := 1 } }, by decide +kernel⟩

theorem witness_PowerIsManaged_7_1 :
    ∃ (t : Nat) (s : State),
    let s0 := s.begin t
    (s0.power.step = 2) ∧
    ((fins 16).all fun c => decide (s0.chains[c].vph < 2000)) = true :=
  ⟨0, { live with power := { live.power with step := 2 } }, by decide +kernel⟩

theorem witness_PowerIsManaged_7_2 :
    ∃ (t : Nat) (s : State),
    let s0 := s.begin t
    (s0.power.step = 3) :=
  ⟨0, { live with power := { live.power with step := 3 } }, by decide +kernel⟩

theorem witness_PowerIsManaged_7_3 :
    ∃ (t : Nat) (s : State),
    let s0 := s.begin t
    (s0.power.step = 4) :=
  ⟨0, { live with power := { live.power with step := 4 } }, by decide +kernel⟩

theorem witness_PowerIsManaged_7_4 :
    ∃ (t : Nat) (s : State),
    let s0 := s.begin t
    (s0.power.step = 5) :=
  ⟨0, { live with power := { live.power with step := 5 } }, by decide +kernel⟩

theorem witness_DefectiveNozzlesAreClassed_1_0 :
    ∃ (e v : Nat),
    (fld e 0 3 = 1 ∨ fld e 0 3 = 2) :=
  ⟨2, 255, by decide +kernel⟩

theorem witness_CalendarSetTakesEffectAtOnce_0_0 :
    ∃ (t : Nat) (k : Kop) (v : Nat) (s : State) (w : Fin 32),
    let s1 := Safety.taken s t k
    (Safety.Admits s t k 0x9400 0x03 v w) ∧
    (v < 2 ^ 48) ∧
    (s1.oget 0x9400 0x04 ≠ 1 ∨ s1.ptp.state ≠ 3) :=
  ⟨0, kopFor 0x9400 3, 2 ^ 48 - 1, due live, 0, admits_of (by decide +kernel), by decide +kernel⟩

theorem witness_AnAbortActsOnItsItem_0_0 :
    ∃ (t : Nat) (k : Kop) (h : Nat) (s : State) (w : Fin 32) (it : Item),
    let s1 := Safety.taken s t k
    let a := Safety.actor s t k 0x2400 0x01 w
    (Safety.Admits s t k 0x2400 0x01 h w) ∧
    (s1.item? h = some it) ∧
    (s1.jobOnly it.zone a.sess = false) ∧
    (it.state = .queued) :=
  ⟨0, kopFor 0x2400 1, 0, due ({ zoned with items := [{ item with state := .queued }] }), 0, { item with state := .queued }, admits_of (by decide +kernel), by decide +kernel⟩

theorem witness_AnAbortActsOnItsItem_0_1 :
    ∃ (t : Nat) (k : Kop) (h : Nat) (s : State) (w : Fin 32) (it : Item),
    let s1 := Safety.taken s t k
    let a := Safety.actor s t k 0x2400 0x01 w
    (Safety.Admits s t k 0x2400 0x01 h w) ∧
    (s1.item? h = some it) ∧
    (s1.jobOnly it.zone a.sess = false) ∧
    (it.state = .admitted ∨ it.state = .printing) :=
  ⟨0, kopFor 0x2400 1, 0, due ({ zoned with items := [{ item with state := .printing }] }), 0, { item with state := .printing }, admits_of (by decide +kernel), by decide +kernel⟩

theorem witness_AnAbortActsOnItsItem_0_2 :
    ∃ (t : Nat) (k : Kop) (h : Nat) (s : State) (w : Fin 32) (it : Item),
    let s1 := Safety.taken s t k
    let a := Safety.actor s t k 0x2400 0x01 w
    (Safety.Admits s t k 0x2400 0x01 h w) ∧
    (s1.item? h = some it) ∧
    (s1.jobOnly it.zone a.sess = false) ∧
    (it.state ≠ .queued) ∧
    (it.state ≠ .admitted) ∧
    (it.state ≠ .printing) :=
  ⟨0, kopFor 0x2400 1, 0, due ({ zoned with items := [{ item with state := .delivered }] }), 0, { item with state := .delivered }, admits_of (by decide +kernel), by decide +kernel⟩

theorem witness_SubmissionsWithoutASlotAreRejected_0_0 :
    ∃ (s : State) (i : Fin 32) (d : Descriptor) (it : Item),
    (parseItem d = some it) ∧
    (s.freeSlots = [] ∨ s.zc (Fin.ofNat 8 (fld d.hdr 8 3)) 0x13 ≤ (s.zoneItems (Fin.ofNat 8 (fld d.hdr 8 3))).length) :=
  ⟨{ live with freeSlots := [] }, 31, desc, (parseItem desc).get (by decide +kernel), some_of item (by decide +kernel), by decide +kernel⟩

theorem witness_SubmissionsWithoutASlotAreRejected_0_0b :
    ∃ (s : State) (i : Fin 32) (d : Descriptor) (it : Item),
    (parseItem d = some it) ∧
    (s.freeSlots = [] ∨ s.zc (Fin.ofNat 8 (fld d.hdr 8 3)) 0x13 ≤ (s.zoneItems (Fin.ofNat 8 (fld d.hdr 8 3))).length) ∧
    (s.freeSlots ≠ []) :=
  ⟨(live.oput (zIdx 0) 0x13 1)|> fun s => { s with items := [item] }, 31, desc, (parseItem desc).get (by decide +kernel), some_of item (by decide +kernel), by decide +kernel⟩

theorem witness_RollbacksApplyNothing_0_1 :
    ∃ (s : State) (y : Fin 8) (result : Nat) (x : Fin 8),
    (x ≠ y) :=
  ⟨live, 7, 0, 3, by decide +kernel⟩


/-! ### Worked examples of the manual -/

/-- The repair of chapter 1's example, at board position 3: LB5, block 2, macro 23, row 420, column 55. -/
theorem test_location_of_a_repair : locOf 3 0 10 5 2 23 420 55 = 0x6285081701A40037 := by decide +kernel

/-- The SPOILED_THERMAL event of an item in zone Z2 at board position 3 (chapter 1). -/
theorem test_location_of_a_zone : ({ State.reset with bpos := 3 } : State).loc 5 2 = 0x6142FFFFFFFFFFFF := by decide +kernel

/-- Region 12,413 of chapter 15's example lies in macro 23 of LB5's data arrays and begins at its row 416. -/
theorem test_region_of_the_sweep : macroOf (regionMacro 12413) = (2, 5, 23) ∧ regionRow 12413 = 416 := by decide +kernel

/-- The CAN identifiers of the example under R368: the request to node 16 and its response. -/
theorem test_can_identifiers : canIdent 4 0 16 5 0 1 0 = 0x1080A400 ∧ canIdent 4 1 16 5 0 1 0 = 0x1280A400 := by decide +kernel

/-- The message number of the late handle of chapter 12's example. -/
theorem test_transfer_handle : handleNo 0x00927C03 = 300000 := by decide +kernel

/-- A message of the example's session 3: 300,000 against cum = 302,100 and window 512 is stale, 301,900 a duplicate. -/
theorem test_stale_and_duplicate :
    let s : State := { State.reset with sessions := State.reset.sessions.set 3 { sess with rxCum := 302100, window := 512 } }
    s.classify 3 0x00927C03 = .stale ∧ s.classify 3 (3 + 32 * (301900 % 2048) + 65536 * (301900 / 2048)) = .duplicate := by
  decide +kernel

/-- Line 1,999 at the default pitch lies 5,545,940 pu beyond the origin (chapter 5's example). -/
theorem test_line_offset : State.reset.lineOff 0 1999 = 5545940 := by decide +kernel

/-- The second move of Table 10.7: 55,000 microsteps at 4,000,000 and 1,000,000 per second squared take 0.4 s. -/
def move : Profile :=
  { kind := 0, t0 := 0, pos := false, turn := none, base := .rat 0, dist := .rat 55000, v0 := .rat 0, vmax := 200000, acc := 4000000, dec := 1000000, num := 1,
    den := 1, total := 55000 }

/-- 5,000 microsteps in 0.05 s, a cruise of 0.15 s, 0.2 s of deceleration (Table 10.7, step 8). -/
theorem test_move_phases : move.phases = (.rat (1 / 20), .rat (3 / 20), .rat (1 / 5)) ∧ move.run (1 / 20) = .rat 5000 ∧
    move.duration = .rat (2 / 5) := by
  decide +kernel

/-- The CRC-32C check value of RFC 3720 for the ASCII digits 1 to 9. -/
theorem test_crc32c : crc32c [0x31, 0x32, 0x33, 0x34, 0x35, 0x36, 0x37, 0x38, 0x39] = 0xE3069283 := by decide +kernel

/-- Rounding is half away from zero (R20). -/
theorem test_rounding : roundR (5 / 2) = 3 ∧ roundR (-5 / 2) = -3 ∧ roundR (7 / 3) = 2 := by decide +kernel

/-- The block at reset idles: one cycle of CLK_FT passes. -/
theorem test_idle_step : (match step State.reset with | .next s => s.ft == 1 && s.pending.isEmpty | _ => false) = true := by
  decide +kernel

/-- A commit that stages nothing breaks no rule. -/
theorem test_empty_commit : State.reset.ruleCode [] = 0 := by decide +kernel

/-- SHA-256 of "abc" (FIPS 180-4). -/
theorem test_sha256 : ofBytes (sha2 false [0x61, 0x62, 0x63]).reverse =
    0xBA7816BF8F01CFEA414140DE5DAE2223B00361A396177A9CB410FF61F20015AD := by decide +kernel

/-- A block of zeros under a key and a nonce of zeros (test case 14 of the GCM specification). -/
theorem test_gcm : ofBytes (gcmCipher (List.replicate 32 0) (List.replicate 12 0) (List.replicate 16 0)).reverse =
      0xCEA7403D4D606B6E074EC5D3BAF39D18 ∧
    ofBytes (gcmTag (List.replicate 32 0) (List.replicate 12 0) []
      (leBytes 16 0x189DF3BAD3C54E076E6B604D3D40A7CE)).reverse = 0xD0D1C8A799996BF0265B98B5D48AB919 := by decide +kernel

/-- The public key of the first test of RFC 8032 (7.1), and the first iteration of RFC 7748 (5.2). -/
theorem test_public_keys :
    edPublic (ofBytes (leBytes 32 0x9D61B19DEFFD5A60BA844AF492EC2CC44449C5697B326919703BAC031CAE7F60).reverse) =
      ofBytes (leBytes 32 0xD75A980182B10AB7D54BFED3C964073A0EE172F3DAA62325AF021A68F707511A).reverse ∧
    x25519 9 9 = ofBytes (leBytes 32 0x422C8E7A6227D7BCA1350B3E2BB7279F7897B87BB6854B783C60E80311AE3079).reverse := by
  decide +kernel

/-- Inverse of a byte of AES, its power 254. -/
def aesInv (a : Nat) : Nat := ((List.range 7).foldl (fun (x : Nat × Nat) _ => let q := aesMul x.1 x.1; (q, aesMul x.2 q)) (a, 1)).2

/-- The table of AES is FIPS 197's (5.1.1): the inverse, its rotations by one to four places added up, and 0x63. -/
theorem test_aes_table : (List.range 256).all (fun a =>
    let b := aesInv a
    let r := fun n => (b * 2 ^ n) % 256 ^^^ b / 2 ^ (8 - n)
    aesSub a == (b ^^^ r 1 ^^^ r 2 ^^^ r 3 ^^^ r 4 ^^^ 0x63)) = true := by decide +kernel

/-- March C- finds every kind of cell fault, in an even and an odd column (R417). -/
theorem test_march : ([.stuck false, .stuck true, .noRise, .noFall, .disturbed] : List CellKind).all (fun k =>
    cellFound { row := 0, column := 0, kind := k } && cellFound { row := 511, column := 143, kind := k }) = true := by decide +kernel

/-- The locator of errors 1 and 7 at the powers 3 and 27 has their inverses as roots, and no other near (R204). -/
theorem test_error_locator :
    let lam := rsLocator ((List.range 14).map fun j => gfPow (3 * j) ^^^ gfMul 7 (gfPow (27 * j)))
    ((List.range 32).filter fun p => gfEval lam (gfInv (gfPow p)) == 0) = [3, 27] := by
  decide +kernel

/-- A reception that the engines run for: session 0's read of its own row arrives (R438, R471). -/
theorem witness_ArrivingRequest : (Safety.grant (live.begin 0) (kopFor (lIdx 15) 0x10)).1 = some 0 := by decide +kernel

/-! ### Well-formedness -/

/-- A Eth within its bounds. -/
def wfEth : Eth := { fcsOk := true, bytes := 0, tags := 0, vid := 0, own := true, ip := 0, dst := 0, body := (.udp 0), fixed := 0, lost := 0 }

/-- Each field of a Eth is held to its width. -/
theorem test_wf_Eth : wfEth.bounded = true ∧ ([{ wfEth with vid := 2 ^ 12 },
   { wfEth with bytes := 2 ^ 16 },
   { wfEth with ip := 7 },
   { wfEth with dst := 2 ^ 128 },
   { wfEth with body := .udp (2 ^ 16) }] : List Eth).all (fun x => !x.bounded) = true := by
  decide +kernel

/-- A Dgram within its bounds. -/
def wfDgram : Dgram := { port := 0, addr := 0, eth := wfEth, ver := 0, kind := 0, len := 0, bytes := 0, sid := 0, seq := 0, cipher := [], tag := [], rsv := 0 }

/-- Each field of a Dgram is held to its width. -/
theorem test_wf_Dgram : wfDgram.bounded = true ∧ ([{ wfDgram with port := 6 },
   { wfDgram with ver := 2 ^ 8 },
   { wfDgram with kind := 2 ^ 8 },
   { wfDgram with len := 2 ^ 16 },
   { wfDgram with bytes := 2 ^ 16 },
   { wfDgram with sid := 2 ^ 32 },
   { wfDgram with seq := 2 ^ 64 },
   { wfDgram with cipher := [256] },
   { wfDgram with tag := List.replicate 17 0 },
   { wfDgram with tag := [256] },
   { wfDgram with eth := { wfEth with vid := 2 ^ 12 } }] : List Dgram).all (fun x => !x.bounded) = true := by
  decide +kernel

/-- A Ktp within its bounds. -/
def wfKtp : Ktp := { dg := wfDgram, handle := 0 }

/-- Each field of a Ktp is held to its width. -/
theorem test_wf_Ktp : wfKtp.bounded = true ∧ ([{ wfKtp with handle := 2 ^ 32 },
   { wfKtp with dg := { wfDgram with port := 6 } }] : List Ktp).all (fun x => !x.bounded) = true := by
  decide +kernel

/-- A Kop within its bounds. -/
def wfKop : Kop := { dg := wfDgram, op := 0, tag := 0, index := 0, sub := 0, rsv := 0, off := 0, len := 0 }

/-- Each field of a Kop is held to its width. -/
theorem test_wf_Kop : wfKop.bounded = true ∧ ([{ wfKop with tag := 2 ^ 16 },
   { wfKop with op := 2 ^ 8 },
   { wfKop with index := 2 ^ 16 },
   { wfKop with sub := 2 ^ 8 },
   { wfKop with off := 2 ^ 16 },
   { wfKop with len := 2 ^ 16 },
   { wfKop with dg := { wfDgram with port := 6 } }] : List Kop).all (fun x => !x.bounded) = true := by
  decide +kernel

/-- A Descriptor within its bounds. -/
def wfDescriptor : Descriptor := { hdr := 0, tiles := [] }

/-- Each field of a Descriptor is held to its width. -/
theorem test_wf_Descriptor : wfDescriptor.bounded = true ∧ ([{ wfDescriptor with hdr := 2 ^ 256 },
   { wfDescriptor with tiles := [2 ^ 128] }] : List Descriptor).all (fun x => !x.bounded) = true := by
  decide +kernel

/-- A FireRep within its bounds. -/
def wfFireRep : FireRep := { words := [0, 0, 0] }

/-- Each field of a FireRep is held to its width. -/
theorem test_wf_FireRep : wfFireRep.bounded = true ∧ ([{ wfFireRep with words := [0, 0] },
   { wfFireRep with words := [0, 0, 2 ^ 64] },
   { wfFireRep with words := List.replicate 2049 0 }] : List FireRep).all (fun x => !x.bounded) = true := by
  decide +kernel

/-- A StatusRep within its bounds. -/
def wfStatusRep : StatusRep := { words := [0, 0, 0], rx := [] }

/-- Each field of a StatusRep is held to its width. -/
theorem test_wf_StatusRep : wfStatusRep.bounded = true ∧ ([{ wfStatusRep with words := [0, 0] },
   { wfStatusRep with words := [0, 0, 2 ^ 64] },
   { wfStatusRep with words := List.replicate 2049 0 },
   { wfStatusRep with rx := [([2 ^ 64], [])] },
   { wfStatusRep with rx := [([], List.replicate 84 0)] }] : List StatusRep).all (fun x => !x.bounded) = true := by
  decide +kernel

/-- A LossRep within its bounds. -/
def wfLossRep : LossRep := { words := [0, 0, 0] }

/-- Each field of a LossRep is held to its width. -/
theorem test_wf_LossRep : wfLossRep.bounded = true ∧ ([{ wfLossRep with words := [0, 0] },
   { wfLossRep with words := [0, 0, 2 ^ 64] },
   { wfLossRep with words := List.replicate 2049 0 }] : List LossRep).all (fun x => !x.bounded) = true := by
  decide +kernel

/-- A CtlResp within its bounds. -/
def wfCtlResp : CtlResp := { words := [0, 0, 0] }

/-- Each field of a CtlResp is held to its width. -/
theorem test_wf_CtlResp : wfCtlResp.bounded = true ∧ ([{ wfCtlResp with words := [0, 0] },
   { wfCtlResp with words := [0, 0, 2 ^ 64] },
   { wfCtlResp with words := List.replicate 2049 0 }] : List CtlResp).all (fun x => !x.bounded) = true := by
  decide +kernel

/-- A LaneBlock within its bounds. -/
def wfLaneBlock : LaneBlock := { lane := 0, kind := 0 }

/-- Each field of a LaneBlock is held to its width. -/
theorem test_wf_LaneBlock : wfLaneBlock.bounded = true ∧ ([{ wfLaneBlock with kind := 2 ^ 8 }] : List LaneBlock).all (fun x => !x.bounded) = true := by
  decide +kernel

/-- A SyncFrame within its bounds. -/
def wfSyncFrame : SyncFrame := { srcPos := 0, aligned := true, fault := true, snap := true, bp0Valid := true, bp1Valid := true, seq := 0, hops := 0, txFt := 0, echoFt := 0, echoDwell := 0, snapFt := 0, bp0Pos := 0, bp0Age := 0, bp1Pos := 0, bp1Age := 0, rsv := 0, crc := 0 }

/-- Each field of a SyncFrame is held to its width. -/
theorem test_wf_SyncFrame : wfSyncFrame.bounded = true ∧ ([{ wfSyncFrame with srcPos := 8 },
   { wfSyncFrame with seq := 256 },
   { wfSyncFrame with hops := 16 },
   { wfSyncFrame with txFt := 2 ^ 64 },
   { wfSyncFrame with echoFt := 2 ^ 64 },
   { wfSyncFrame with echoDwell := 2 ^ 32 },
   { wfSyncFrame with snapFt := 2 ^ 64 },
   { wfSyncFrame with bp0Pos := 2 ^ 47 },
   { wfSyncFrame with bp1Pos := 2 ^ 47 },
   { wfSyncFrame with bp0Age := 2 ^ 16 },
   { wfSyncFrame with bp1Age := 2 ^ 16 },
   { wfSyncFrame with rsv := 16 },
   { wfSyncFrame with crc := 2 ^ 32 }] : List SyncFrame).all (fun x => !x.bounded) = true := by
  decide +kernel

/-- A PtpMsg within its bounds. -/
def wfPtpMsg : PtpMsg := { eth := wfEth, kind := 0, domain := 0, quality := 0, utcOffset := 0, utcValid := true, rx := 0, originNs := 0, seqId := 0, master := 0, arrival := 0, turnNs := 0 }

/-- Each field of a PtpMsg is held to its width. -/
theorem test_wf_PtpMsg : wfPtpMsg.bounded = true ∧ ([{ wfPtpMsg with kind := 6 },
   { wfPtpMsg with domain := 256 },
   { wfPtpMsg with utcOffset := 32768 },
   { wfPtpMsg with rx := 2 ^ 64 },
   { wfPtpMsg with seqId := 2 ^ 16 },
   { wfPtpMsg with eth := { wfEth with vid := 2 ^ 12 } }] : List PtpMsg).all (fun x => !x.bounded) = true := by
  decide +kernel

/-- A Path within its bounds. -/
def wfPath : Path := { port := 0, addr := 0 }

/-- Each field of a Path is held to its width. -/
theorem test_wf_Path : wfPath.bounded = true ∧ ([{ wfPath with port := 6 }] : List Path).all (fun x => !x.bounded) = true := by
  decide +kernel

/-- A Sender within its bounds. -/
def wfSender : Sender := { path := wfPath, eth := wfEth, ver := 0, kind := 0, len := 0, bytes := 0, sid := 0, seq := 0 }

/-- Each field of a Sender is held to its width. -/
theorem test_wf_Sender : wfSender.bounded = true ∧ ([{ wfSender with path := { wfPath with port := 6 } },
   { wfSender with eth := { wfEth with vid := 2 ^ 12 } },
   { wfSender with ver := 2 ^ 8 },
   { wfSender with kind := 2 ^ 8 },
   { wfSender with len := 2 ^ 16 },
   { wfSender with bytes := 2 ^ 16 },
   { wfSender with sid := 2 ^ 32 },
   { wfSender with seq := 2 ^ 64 }] : List Sender).all (fun x => !x.bounded) = true := by
  decide +kernel

/-- A LaneHeaders within its bounds. -/
def wfLaneHeaders : LaneHeaders := { lane := 0, hdrs := [] }

/-- Each field of a LaneHeaders is held to its width. -/
theorem test_wf_LaneHeaders : wfLaneHeaders.bounded = true ∧ ([{ wfLaneHeaders with hdrs := [4] }] : List LaneHeaders).all (fun x => !x.bounded) = true := by
  decide +kernel

/-- A SupplyReading within its bounds. -/
def wfSupplyReading : SupplyReading := { supply := 0, uv := 0 }

/-- Each field of a SupplyReading is held to its width. -/
theorem test_wf_SupplyReading : wfSupplyReading.bounded = true ∧ ([{ wfSupplyReading with supply := 7 },
   { wfSupplyReading with uv := 2 ^ 32 }] : List SupplyReading).all (fun x => !x.bounded) = true := by
  decide +kernel

/-- A ClockReading within its bounds. -/
def wfClockReading : ClockReading := { ps := 0, locked := true, ns := 0 }

/-- Each field of a ClockReading is held to its width. -/
theorem test_wf_ClockReading : wfClockReading.bounded = true ∧ ([{ wfClockReading with ps := 2 ^ 32 },
   { wfClockReading with ns := 2 ^ 32 }] : List ClockReading).all (fun x => !x.bounded) = true := by
  decide +kernel

/-- A HelloMsg within its bounds. -/
def wfHelloMsg : HelloMsg := { bytes := [] }

/-- Each field of a HelloMsg is held to its width. -/
theorem test_wf_HelloMsg : wfHelloMsg.bounded = true ∧ ([{ wfHelloMsg with bytes := [256] },
   { wfHelloMsg with bytes := List.replicate 65536 0 }] : List HelloMsg).all (fun x => !x.bounded) = true := by
  decide +kernel

/-- A AckMsg within its bounds. -/
def wfAckMsg : AckMsg := { body := 0 }

/-- Each field of a AckMsg is held to its width. -/
theorem test_wf_AckMsg : wfAckMsg.bounded = true ∧ ([{ wfAckMsg with body := 2 ^ 128 }] : List AckMsg).all (fun x => !x.bounded) = true := by
  decide +kernel

/-- A CanMsg within its bounds. -/
def wfCanMsg : CanMsg := { fd := true, remote := true, extended := true, crcOk := true, ident := 0, data := [] }

/-- Each field of a CanMsg is held to its width. -/
theorem test_wf_CanMsg : wfCanMsg.bounded = true ∧ ([{ wfCanMsg with ident := 2 ^ 29 },
   { wfCanMsg with data := List.replicate 65 0 },
   { wfCanMsg with data := [256] }] : List CanMsg).all (fun x => !x.bounded) = true := by
  decide +kernel

/-- A MemWord within its bounds. -/
def wfMemWord : MemWord := { array := 0, inst := 0, reader := 0, macro_ := 0, row := 0, column := 0 }

/-- Each field of a MemWord is held to its width. -/
theorem test_wf_MemWord : wfMemWord.bounded = true ∧ ([{ wfMemWord with array := 3 },
   { wfMemWord with inst := 16 },
   { wfMemWord with macro_ := 64 },
   { wfMemWord with row := 512 },
   { wfMemWord with column := 144 }] : List MemWord).all (fun x => !x.bounded) = true := by
  decide +kernel

/-- A LcReq within its bounds. -/
def wfLcReq : LcReq := { body := 0, fuseOk := true }

/-- Each field of a LcReq is held to its width. -/
theorem test_wf_LcReq : wfLcReq.bounded = true ∧ ([{ wfLcReq with body := 2 ^ 2048 }] : List LcReq).all (fun x => !x.bounded) = true := by
  decide +kernel

/-- A OwnerRec within its bounds. -/
def wfOwnerRec : OwnerRec := { body := 0 }

/-- Each field of a OwnerRec is held to its width. -/
theorem test_wf_OwnerRec : wfOwnerRec.bounded = true ∧ ([{ wfOwnerRec with body := 2 ^ 2048 }] : List OwnerRec).all (fun x => !x.bounded) = true := by
  decide +kernel

/-- A ListLoad within its bounds. -/
def wfListLoad : ListLoad := { body := 0 }

/-- Each field of a ListLoad is held to its width. -/
theorem test_wf_ListLoad : wfListLoad.bounded = true ∧ ([{ wfListLoad with body := 2 ^ 8192 }] : List ListLoad).all (fun x => !x.bounded) = true := by
  decide +kernel

/-- A ClearTok within its bounds. -/
def wfClearTok : ClearTok := { body := 0 }

/-- Each field of a ClearTok is held to its width. -/
theorem test_wf_ClearTok : wfClearTok.bounded = true ∧ ([{ wfClearTok with body := 2 ^ 2048 }] : List ClearTok).all (fun x => !x.bounded) = true := by
  decide +kernel

/-- A CellFault within its bounds. -/
def wfCellFault : CellFault := { row := 0, column := 0, kind := .noRise }

/-- Each field of a CellFault is held to its width. -/
theorem test_wf_CellFault : wfCellFault.bounded = true ∧ ([{ wfCellFault with row := 512 },
   { wfCellFault with column := 144 }] : List CellFault).all (fun x => !x.bounded) = true := by
  decide +kernel

/-- A BufFault within its bounds. -/
def wfBufFault : BufFault := { sub := 0, slice := 0, block := 0, row := 0, column := 0, count := 0 }

/-- Each field of a BufFault is held to its width. -/
theorem test_wf_BufFault : wfBufFault.bounded = true ∧ ([{ wfBufFault with sub := 32 },
   { wfBufFault with slice := 64 },
   { wfBufFault with block := 64 },
   { wfBufFault with row := 2 ^ 16 },
   { wfBufFault with column := 2 ^ 16 },
   { wfBufFault with count := 256 }] : List BufFault).all (fun x => !x.bounded) = true := by
  decide +kernel

/-- A PatchImage within its bounds. -/
def wfPatchImage : PatchImage := { rom := 0, version := 0, mask := 0, len := 0, sigOk := true }

/-- Each field of a PatchImage is held to its width. -/
theorem test_wf_PatchImage : wfPatchImage.bounded = true ∧ ([{ wfPatchImage with rom := 2 ^ 16 },
   { wfPatchImage with version := 2 ^ 16 },
   { wfPatchImage with mask := 2 ^ 8 },
   { wfPatchImage with len := 524289 }] : List PatchImage).all (fun x => !x.bounded) = true := by
  decide +kernel

/-- A PowerUp within its bounds. -/
def wfPowerUp : PowerUp := { bpos := 0, bakPresent := true, wiped := [], calendar := 0, lcBlown := true, cellsOk := true, shadowOk := true, arrays := [], buffers := [], installs := [], dramMib := 0, vhv := true }

/-- Each field of a PowerUp is held to its width. -/
theorem test_wf_PowerUp : wfPowerUp.bounded = true ∧ ([{ wfPowerUp with bpos := 8 },
   { wfPowerUp with calendar := 2 ^ 64 },
   { wfPowerUp with arrays := [(20480, wfCellFault)] },
   { wfPowerUp with arrays := [(0, { wfCellFault with row := 512 })] },
   { wfPowerUp with buffers := [{ wfBufFault with sub := 32 }] },
   { wfPowerUp with installs := [(0, { wfPatchImage with len := 524289 })] }] : List PowerUp).all (fun x => !x.bounded) = true := by
  decide +kernel

/-- A BitFlip within its bounds. -/
def wfBitFlip : BitFlip := { ch := 0, addr := 0, bit := 0 }

/-- Each field of a BitFlip is held to its width. -/
theorem test_wf_BitFlip : wfBitFlip.bounded = true ∧ ([{ wfBitFlip with ch := 2 },
   { wfBitFlip with bit := 8 }] : List BitFlip).all (fun x => !x.bounded) = true := by
  decide +kernel

/-- A StreamPart within its bounds. -/
def wfStreamPart : StreamPart := { handle := 0, plane := 0, line := 0, offset := 0, crc := 0, data := [] }

/-- Each field of a StreamPart is held to its width. -/
theorem test_wf_StreamPart : wfStreamPart.bounded = true ∧ ([{ wfStreamPart with handle := 2 ^ 16 },
   { wfStreamPart with plane := 8 },
   { wfStreamPart with line := 2 ^ 24 },
   { wfStreamPart with offset := 2 ^ 32 },
   { wfStreamPart with crc := 2 ^ 32 },
   { wfStreamPart with data := [256] }] : List StreamPart).all (fun x => !x.bounded) = true := by
  decide +kernel

/-- Commands within the widths of their fields. -/
theorem test_wf_takes1 : ([.itemSubmit 0 wfKtp [],
   .submission 0 0,
   .admissionEvaluation 0 0,
   .skippedNoMark 0 0,
   .fireReport 0 0 wfFireRep,
   .fireReportTimeout 0 0 0,
   .outcomeNotice 0,
   .itemOutcomeRead 0 wfKop,
   .rejectAssert 0 0 0,
   .rejectRelease 0 0,
   .zoneEnable 0 wfKop 0,
   .zoneDrain 0 wfKop 0,
   .zoneAbort 0 wfKop 0,
   .zoneDrainComplete 0 0,
   .rejectHoldClear 0 wfKop 0,
   .itemAbort 0 wfKop 0,
   .templateBegin 0 wfKtp 0 0,
   .tileBegin 0 wfKtp 0 0,
   .loadData 0 wfKtp 0 0 [],
   .loadCancel 0 wfKtp 0,
   .templateVerify 0 0,
   .tileVerify 0 0,
   .templateDelete 0 wfKop 0,
   .tileDelete 0 wfKop 0,
   .rowLineCompose 0 [],
   .dramChannelFault 0 0,
   .dramRetrainComplete 0 0 true,
   .streamLine 0 wfKtp wfStreamPart,
   .generationInstall 0 0,
   .encoderEdge 0 0 0 true 0,
   .heldEdgeProcess 0 0,
   .edgeTimeout 0 0,
   .frameBuildEvaluation 0,
   .cancelSend 0 0 0,
   .traverseArm 0 0,
   .traverseEnd 0 0,
   .alignmentPattern 0 wfKop 0 0,
   .syncFrameSend 0 0,
   .syncFrameReceive 0 0 wfSyncFrame,
   .fireTimerStep 0] : List Instr).all (fun i => i.wf) = true := by
  decide +kernel

/-- Commands within the widths of their fields. -/
theorem test_wf_takes2 : ([.syncHoldover 0,
   .syncStartupEnd 0,
   .boardFaultAssert 0 wfKop 0,
   .vphSample 0 0 0 0,
   .vphSampleTimeout 0 0,
   .sourceResistanceEstimate 0 0,
   .temperatureStale 0 0,
   .supplyOn 0 wfKop 0,
   .supplyOff 0 wfKop 0,
   .chainSupplyReset 0 wfKop 0,
   .supplyRampStart 0 0,
   .rampTimeout 0 0,
   .inrushTimeout 0 0,
   .switchLeak 0 0,
   .hvDieLoss 0 0,
   .linkBringup 0 0,
   .linkBringupRetry 0 0,
   .portAutoBringup 0 0,
   .enumerate 0 wfKop 0,
   .echoMeasurement 0 0 0 [] 0,
   .timePairSend 0 0,
   .lineFrameTransmit 0 0,
   .statusFrame 0 0 wfStatusRep,
   .lossReport 0 0 wfLossRep,
   .controlResponse 0 0 wfCtlResp,
   .controlTimeout 0 0 0,
   .statusTimeout 0 0 0,
   .neighbourLockTimeout 0 0 0,
   .portBlockLockLoss 0 0,
   .spareTakeoverL0 0 wfKop 0,
   .spareTakeoverL1 0 wfKop 0,
   .spareRelease 0 wfKop 0,
   .laneMove 0 0,
   .reverseBlock 0 0 wfLaneBlock 0,
   .dualLockRegained 0 0,
   .restore 0 wfKop 0,
   .headVerification 0 0 0,
   .trimLoad 0 0 0,
   .scanBlockStart 0 0,
   .scanBlockComplete 0 0 true 0 []] : List Instr).all (fun i => i.wf) = true := by
  decide +kernel

/-- Commands within the widths of their fields. -/
theorem test_wf_takes3 : ([.scanIntervalExpiry 0 0,
   .scanFull 0 wfKop 0,
   .scanRebaseline 0 wfKop 0,
   .warmStep 0 0,
   .cooldownReturn 0 0,
   .wireDisagreement 0 0 0,
   .ssiRead 0 0 0 0 true true,
   .sincosSample 0 0 0 0,
   .indexPulse 0 0 true 0,
   .channelStarted 0 0,
   .channelClear 0 wfKop 0,
   .channelPreset 0 wfKop 0 0,
   .speedSample 0 0,
   .markEdge 0 0 0 true,
   .markOffer 0 0,
   .switchEdge 0 0 0 true,
   .gateTest 0 wfKop 0,
   .axisEnable 0 wfKop 0 0,
   .axisDisable 0 wfKop 0,
   .moveAbsolute 0 wfKop 0 0,
   .moveRelative 0 wfKop 0 0,
   .axisStop 0 wfKop 0,
   .axisHome 0 wfKop 0 0,
   .followStart 0 wfKop 0,
   .followEnd 0 wfKop 0,
   .axisPowerDown 0 wfKop 0,
   .retRelease 0 0,
   .retentionCheck 0 0 true,
   .retentionComplete 0 0,
   .retentionTimeout 0 0,
   .axisPreset 0 wfKop 0 0,
   .axisClear 0 wfKop 0,
   .groupMove 0 wfKop 0 0,
   .groupStop 0 wfKop 0,
   .moveComplete 0 0,
   .stopComplete 0 0,
   .virtualLimitCrossed 0 0,
   .coarseStep 0 0 true,
   .driverSupplyLoss 0 0,
   .feedMoveStart 0 0] : List Instr).all (fun i => i.wf) = true := by
  decide +kernel

/-- Commands within the widths of their fields. -/
theorem test_wf_takes4 : ([.calibrationTemperatureCheck 0,
   .encoderCollectionComplete 0 0,
   .collectionTimeout 0 0,
   .encoderComputeDone 0 0,
   .encoderVerifyDone 0 0,
   .calibrationApply 0 0,
   .applyTimeout 0 0,
   .receiveRunStart 0 0 0,
   .receiveRunComplete 0 0 0 0,
   .transmitRunStart 0 0 0,
   .transmitLockTimeout 0 0,
   .requestCancel 0 wfKop 0,
   .requestEncoderCal 0 wfKop 0 0 0,
   .requestLaneCal 0 wfKop 0 0 0,
   .requestElementScan 0 wfKop 0 0 0,
   .requestMemoryTest 0 wfKop 0 0 0,
   .requestWindowCheck 0 0,
   .requestDeadline 0 0,
   .calibrationValueWrite 0 wfKop 0 0 0,
   .autoCalibrationWrite 0 wfKop 0 0 0,
   .hostLinkUp 0 ({ port := 0, block := true, align := true, quiet := 0, failing := 0 } : PcsReport),
   .hostLinkDown 0 ({ port := 0, block := true, align := true, quiet := 0, failing := 0 } : PcsReport),
   .ptpMessage 0 0 wfPtpMsg,
   .hello 0 wfSender wfHelloMsg,
   .proof 0 wfSender 0 0,
   .handshakeTimeout 0 0,
   .heartbeat 0 wfDgram,
   .close 0 wfDgram,
   .ack 0 wfDgram wfAckMsg,
   .ackSend 0 0,
   .retransmit 0 0 0,
   .leaseExpiry 0 0,
   .sessionEvict 0 wfKop 0,
   .ownershipClaim 0 wfKop 0,
   .ownershipRelease 0 wfKop 0,
   .ownershipTake 0 wfKop 0,
   .ownershipLapse 0 0,
   .registerWrite 0 wfKop 0 0 0,
   .txBegin 0 wfKop,
   .txWrite 0 wfKop 0 0 0 0] : List Instr).all (fun i => i.wf) = true := by
  decide +kernel

/-- Commands within the widths of their fields. -/
theorem test_wf_takes5 : ([.txRead 0 wfKop 0 0 0,
   .txCommit 0 wfKop 0 0,
   .txAbort 0 wfKop 0,
   .txStatus 0 wfKop 0,
   .commitApply 0 0,
   .commitTimeout 0 0,
   .transactionExpiry 0 0,
   .transactionSlotAbort 0 wfKop 0,
   .canFrame 0 0 wfCanMsg,
   .canReassemblyTimeout 0 0 0,
   .storeSave 0 wfKop,
   .storeSaveRestart 0 wfKop,
   .storeErase 0 wfKop,
   .saveComplete 0 true,
   .engineWatchdog 0 0,
   .engineInvalidOperation 0 0,
   .engineRestart 0 0 true true,
   .uncorrectableWord 0 wfMemWord,
   .regionTestStart 0,
   .regionTestComplete 0 [] [],
   .memoryTestRegion 0,
   .transparentTestWrite 0 wfKop 0,
   .lifeCycleRequest 0 wfKop wfLcReq [],
   .ownerKeyLoad 0 wfKop wfOwnerRec,
   .headMakerListReplace 0 wfKop wfListLoad,
   .headMakerListAdd 0 wfKop wfListLoad,
   .headMakerListRemove 0 wfKop wfListLoad,
   .tamperDetect 0 { source := 0, sense := .level true } [],
   .tamperClear 0 wfKop 0,
   .recordCommit 0,
   .recorderClear 0 wfKop wfClearTok,
   .operatingSecondsWrite 0,
   .calendarDiscipline 0,
   .calendarSet 0 wfKop 0,
   .snapshot 0 wfKop,
   .boardSnapshot 0 wfKop,
   .snapshotPeriod 0,
   .snapshotLatch 0,
   .snapshotBufferSwap 0,
   .powerOnReset 0 wfPowerUp] : List Instr).all (fun i => i.wf) = true := by
  decide +kernel

/-- Commands within the widths of their fields. -/
theorem test_wf_takes6 : ([.externalReset 0 wfPowerUp,
   .restart 0 wfKop,
   .debugReset 0 wfPowerUp,
   .supplyOutOfRange 0 wfSupplyReading wfPowerUp,
   .coreSupplyExcursion 0 0 true 0,
   .clockLoss 0 wfClockReading [] wfPowerUp,
   .lanePllLoss 0 0,
   .dieTemperatureSample 0 0,
   .deviceReady 0,
   .domainRetention 0 0,
   .domainOff 0 0,
   .domainWake 0 0,
   .domainWakeComplete 0 { domain := 0, found := [], buffers := [] },
   .orderlyPowerDown 0 wfKop,
   .powerDownProgress 0,
   .blockLockLost 0 0 wfLaneHeaders,
   .blockLockGained 0 0 wfLaneHeaders,
   .fecModeStart 0 0,
   .canBusError 0 0 true true,
   .busOffRecovery 0 0,
   .terminationCalibrationDone 0 0 0,
   .commandedResetTimeout 0 wfPowerUp,
   .engineRunning 0 0] : List Instr).all (fun i => i.wf) = true := by
  decide +kernel

/-- One ill-formed command for each bound, each refused. -/
theorem test_wf_refuses1 : ([.itemSubmit (2 ^ 64) wfKtp [],
   .itemSubmit 0 { wfKtp with handle := 2 ^ 32 } [],
   .itemSubmit 0 wfKtp (List.replicate 256 wfDescriptor),
   .itemSubmit 0 wfKtp [{ wfDescriptor with hdr := 2 ^ 256 }],
   .submission (2 ^ 64) 0,
   .admissionEvaluation (2 ^ 64) 0,
   .skippedNoMark (2 ^ 64) 0,
   .fireReport (2 ^ 64) 0 wfFireRep,
   .fireReport 0 0 { wfFireRep with words := [0, 0] },
   .fireReportTimeout (2 ^ 64) 0 0,
   .outcomeNotice (2 ^ 64),
   .itemOutcomeRead (2 ^ 64) wfKop,
   .itemOutcomeRead 0 { wfKop with tag := 2 ^ 16 },
   .rejectAssert (2 ^ 64) 0 0,
   .rejectAssert 0 0 (2 ^ 16),
   .rejectRelease (2 ^ 64) 0,
   .zoneEnable (2 ^ 64) wfKop 0,
   .zoneEnable 0 { wfKop with tag := 2 ^ 16 } 0,
   .zoneDrain (2 ^ 64) wfKop 0,
   .zoneDrain 0 { wfKop with tag := 2 ^ 16 } 0,
   .zoneAbort (2 ^ 64) wfKop 0,
   .zoneAbort 0 { wfKop with tag := 2 ^ 16 } 0,
   .zoneDrainComplete (2 ^ 64) 0,
   .rejectHoldClear (2 ^ 64) wfKop 0,
   .rejectHoldClear 0 { wfKop with tag := 2 ^ 16 } 0,
   .itemAbort (2 ^ 64) wfKop 0,
   .itemAbort 0 { wfKop with tag := 2 ^ 16 } 0,
   .itemAbort 0 wfKop (2 ^ 16),
   .templateBegin (2 ^ 64) wfKtp 0 0,
   .templateBegin 0 { wfKtp with handle := 2 ^ 32 } 0 0,
   .templateBegin 0 wfKtp (2 ^ 16) 0,
   .templateBegin 0 wfKtp 0 (2 ^ 256),
   .tileBegin (2 ^ 64) wfKtp 0 0,
   .tileBegin 0 { wfKtp with handle := 2 ^ 32 } 0 0,
   .tileBegin 0 wfKtp (2 ^ 16) 0,
   .tileBegin 0 wfKtp 0 (2 ^ 256),
   .loadData (2 ^ 64) wfKtp 0 0 [],
   .loadData 0 { wfKtp with handle := 2 ^ 32 } 0 0 [],
   .loadData 0 wfKtp (2 ^ 16) 0 [],
   .loadData 0 wfKtp 0 (2 ^ 64) []] : List Instr).all (fun i => !i.wf) = true := by
  decide +kernel

/-- One ill-formed command for each bound, each refused. -/
theorem test_wf_refuses2 : ([.loadData 0 wfKtp 0 0 [256],
   .loadCancel (2 ^ 64) wfKtp 0,
   .loadCancel 0 { wfKtp with handle := 2 ^ 32 } 0,
   .loadCancel 0 wfKtp (2 ^ 16),
   .templateVerify (2 ^ 64) 0,
   .templateVerify 0 (256),
   .tileVerify (2 ^ 64) 0,
   .tileVerify 0 (65536),
   .templateDelete (2 ^ 64) wfKop 0,
   .templateDelete 0 { wfKop with tag := 2 ^ 16 } 0,
   .templateDelete 0 wfKop (2 ^ 32),
   .tileDelete (2 ^ 64) wfKop 0,
   .tileDelete 0 { wfKop with tag := 2 ^ 16 } 0,
   .tileDelete 0 wfKop (2 ^ 32),
   .rowLineCompose (2 ^ 64) [],
   .rowLineCompose 0 [{ wfBitFlip with ch := 2 }],
   .dramChannelFault (2 ^ 64) 0,
   .dramRetrainComplete (2 ^ 64) 0 true,
   .streamLine (2 ^ 64) wfKtp wfStreamPart,
   .streamLine 0 { wfKtp with handle := 2 ^ 32 } wfStreamPart,
   .streamLine 0 wfKtp { wfStreamPart with handle := 2 ^ 16 },
   .generationInstall (2 ^ 64) 0,
   .encoderEdge (2 ^ 64) 0 0 true 0,
   .encoderEdge 0 0 0 true (2 ^ 64),
   .heldEdgeProcess (2 ^ 64) 0,
   .edgeTimeout (2 ^ 64) 0,
   .frameBuildEvaluation (2 ^ 64),
   .cancelSend (2 ^ 64) 0 0,
   .traverseArm (2 ^ 64) 0,
   .traverseEnd (2 ^ 64) 0,
   .alignmentPattern (2 ^ 64) wfKop 0 0,
   .alignmentPattern 0 { wfKop with tag := 2 ^ 16 } 0 0,
   .alignmentPattern 0 wfKop 0 (2 ^ 128),
   .syncFrameSend (2 ^ 64) 0,
   .syncFrameReceive (2 ^ 64) 0 wfSyncFrame,
   .syncFrameReceive 0 0 { wfSyncFrame with srcPos := 8 },
   .fireTimerStep (2 ^ 64),
   .syncHoldover (2 ^ 64),
   .syncStartupEnd (2 ^ 64),
   .boardFaultAssert (2 ^ 64) wfKop 0] : List Instr).all (fun i => !i.wf) = true := by
  decide +kernel

/-- One ill-formed command for each bound, each refused. -/
theorem test_wf_refuses3 : ([.boardFaultAssert 0 { wfKop with tag := 2 ^ 16 } 0,
   .boardFaultAssert 0 wfKop (2),
   .vphSample (2 ^ 64) 0 0 0,
   .vphSample 0 0 (2 ^ 16) 0,
   .vphSample 0 0 0 125000001,
   .vphSampleTimeout (2 ^ 64) 0,
   .sourceResistanceEstimate (2 ^ 64) 0,
   .temperatureStale (2 ^ 64) 0,
   .supplyOn (2 ^ 64) wfKop 0,
   .supplyOn 0 { wfKop with tag := 2 ^ 16 } 0,
   .supplyOff (2 ^ 64) wfKop 0,
   .supplyOff 0 { wfKop with tag := 2 ^ 16 } 0,
   .chainSupplyReset (2 ^ 64) wfKop 0,
   .chainSupplyReset 0 { wfKop with tag := 2 ^ 16 } 0,
   .supplyRampStart (2 ^ 64) 0,
   .rampTimeout (2 ^ 64) 0,
   .inrushTimeout (2 ^ 64) 0,
   .switchLeak (2 ^ 64) 0,
   .hvDieLoss (2 ^ 64) 0,
   .linkBringup (2 ^ 64) 0,
   .linkBringupRetry (2 ^ 64) 0,
   .portAutoBringup (2 ^ 64) 0,
   .enumerate (2 ^ 64) wfKop 0,
   .enumerate 0 { wfKop with tag := 2 ^ 16 } 0,
   .echoMeasurement (2 ^ 64) 0 0 [] 0,
   .echoMeasurement 0 0 0 (List.replicate 9 { t1 := 0, t4 := 0, content := 0 }) 0,
   .echoMeasurement 0 0 0 [] (2 ^ 32),
   .timePairSend (2 ^ 64) 0,
   .lineFrameTransmit (2 ^ 64) 0,
   .statusFrame (2 ^ 64) 0 wfStatusRep,
   .statusFrame 0 0 { wfStatusRep with words := [0, 0] },
   .lossReport (2 ^ 64) 0 wfLossRep,
   .lossReport 0 0 { wfLossRep with words := [0, 0] },
   .controlResponse (2 ^ 64) 0 wfCtlResp,
   .controlResponse 0 0 { wfCtlResp with words := [0, 0] },
   .controlTimeout (2 ^ 64) 0 0,
   .statusTimeout (2 ^ 64) 0 0,
   .neighbourLockTimeout (2 ^ 64) 0 0,
   .portBlockLockLoss (2 ^ 64) 0,
   .spareTakeoverL0 (2 ^ 64) wfKop 0] : List Instr).all (fun i => !i.wf) = true := by
  decide +kernel

/-- One ill-formed command for each bound, each refused. -/
theorem test_wf_refuses4 : ([.spareTakeoverL0 0 { wfKop with tag := 2 ^ 16 } 0,
   .spareTakeoverL1 (2 ^ 64) wfKop 0,
   .spareTakeoverL1 0 { wfKop with tag := 2 ^ 16 } 0,
   .spareRelease (2 ^ 64) wfKop 0,
   .spareRelease 0 { wfKop with tag := 2 ^ 16 } 0,
   .laneMove (2 ^ 64) 0,
   .reverseBlock (2 ^ 64) 0 wfLaneBlock 0,
   .reverseBlock 0 0 { wfLaneBlock with kind := 2 ^ 8 } 0,
   .reverseBlock 0 0 wfLaneBlock (2 ^ 56),
   .dualLockRegained (2 ^ 64) 0,
   .restore (2 ^ 64) wfKop 0,
   .restore 0 { wfKop with tag := 2 ^ 16 } 0,
   .headVerification (2 ^ 64) 0 0,
   .trimLoad (2 ^ 64) 0 0,
   .scanBlockStart (2 ^ 64) 0,
   .scanBlockComplete (2 ^ 64) 0 true 0 [],
   .scanBlockComplete 0 0 true (2 ^ 16) [],
   .scanBlockComplete 0 0 true 0 [2 ^ 16],
   .scanIntervalExpiry (2 ^ 64) 0,
   .scanFull (2 ^ 64) wfKop 0,
   .scanFull 0 { wfKop with tag := 2 ^ 16 } 0,
   .scanRebaseline (2 ^ 64) wfKop 0,
   .scanRebaseline 0 { wfKop with tag := 2 ^ 16 } 0,
   .warmStep (2 ^ 64) 0,
   .cooldownReturn (2 ^ 64) 0,
   .wireDisagreement (2 ^ 64) 0 0,
   .wireDisagreement 0 0 (2 ^ 8),
   .ssiRead (2 ^ 64) 0 0 0 true true,
   .ssiRead 0 0 (2 ^ 64) 0 true true,
   .ssiRead 0 0 0 (2 ^ 64) true true,
   .sincosSample (2 ^ 64) 0 0 0,
   .sincosSample 0 0 32768 0,
   .sincosSample 0 0 0 32768,
   .indexPulse (2 ^ 64) 0 true 0,
   .indexPulse 0 0 true (2 ^ 64),
   .channelStarted (2 ^ 64) 0,
   .channelClear (2 ^ 64) wfKop 0,
   .channelClear 0 { wfKop with tag := 2 ^ 16 } 0,
   .channelPreset (2 ^ 64) wfKop 0 0,
   .channelPreset 0 { wfKop with tag := 2 ^ 16 } 0 0] : List Instr).all (fun i => !i.wf) = true := by
  decide +kernel

/-- One ill-formed command for each bound, each refused. -/
theorem test_wf_refuses5 : ([.channelPreset 0 wfKop 0 (2 ^ 64),
   .speedSample (2 ^ 64) 0,
   .markEdge (2 ^ 64) 0 0 true,
   .markEdge 0 0 (2 ^ 64) true,
   .markOffer (2 ^ 64) 0,
   .switchEdge (2 ^ 64) 0 0 true,
   .switchEdge 0 0 (2 ^ 64) true,
   .gateTest (2 ^ 64) wfKop 0,
   .gateTest 0 { wfKop with tag := 2 ^ 16 } 0,
   .axisEnable (2 ^ 64) wfKop 0 0,
   .axisEnable 0 { wfKop with tag := 2 ^ 16 } 0 0,
   .axisEnable 0 wfKop 0 (2 ^ 64),
   .axisDisable (2 ^ 64) wfKop 0,
   .axisDisable 0 { wfKop with tag := 2 ^ 16 } 0,
   .moveAbsolute (2 ^ 64) wfKop 0 0,
   .moveAbsolute 0 { wfKop with tag := 2 ^ 16 } 0 0,
   .moveAbsolute 0 wfKop 0 (2 ^ 64),
   .moveRelative (2 ^ 64) wfKop 0 0,
   .moveRelative 0 { wfKop with tag := 2 ^ 16 } 0 0,
   .moveRelative 0 wfKop 0 (2 ^ 64),
   .axisStop (2 ^ 64) wfKop 0,
   .axisStop 0 { wfKop with tag := 2 ^ 16 } 0,
   .axisHome (2 ^ 64) wfKop 0 0,
   .axisHome 0 { wfKop with tag := 2 ^ 16 } 0 0,
   .axisHome 0 wfKop 0 (2 ^ 64),
   .followStart (2 ^ 64) wfKop 0,
   .followStart 0 { wfKop with tag := 2 ^ 16 } 0,
   .followEnd (2 ^ 64) wfKop 0,
   .followEnd 0 { wfKop with tag := 2 ^ 16 } 0,
   .axisPowerDown (2 ^ 64) wfKop 0,
   .axisPowerDown 0 { wfKop with tag := 2 ^ 16 } 0,
   .retRelease (2 ^ 64) 0,
   .retentionCheck (2 ^ 64) 0 true,
   .retentionComplete (2 ^ 64) 0,
   .retentionTimeout (2 ^ 64) 0,
   .axisPreset (2 ^ 64) wfKop 0 0,
   .axisPreset 0 { wfKop with tag := 2 ^ 16 } 0 0,
   .axisPreset 0 wfKop 0 (2 ^ 64),
   .axisClear (2 ^ 64) wfKop 0,
   .axisClear 0 { wfKop with tag := 2 ^ 16 } 0] : List Instr).all (fun i => !i.wf) = true := by
  decide +kernel

/-- One ill-formed command for each bound, each refused. -/
theorem test_wf_refuses6 : ([.groupMove (2 ^ 64) wfKop 0 0,
   .groupMove 0 { wfKop with tag := 2 ^ 16 } 0 0,
   .groupMove 0 wfKop 0 (2 ^ 512),
   .groupStop (2 ^ 64) wfKop 0,
   .groupStop 0 { wfKop with tag := 2 ^ 16 } 0,
   .moveComplete (2 ^ 64) 0,
   .stopComplete (2 ^ 64) 0,
   .virtualLimitCrossed (2 ^ 64) 0,
   .coarseStep (2 ^ 64) 0 true,
   .driverSupplyLoss (2 ^ 64) 0,
   .feedMoveStart (2 ^ 64) 0,
   .calibrationTemperatureCheck (2 ^ 64),
   .encoderCollectionComplete (2 ^ 64) 0,
   .collectionTimeout (2 ^ 64) 0,
   .encoderComputeDone (2 ^ 64) 0,
   .encoderVerifyDone (2 ^ 64) 0,
   .calibrationApply (2 ^ 64) 0,
   .applyTimeout (2 ^ 64) 0,
   .receiveRunStart (2 ^ 64) 0 0,
   .receiveRunComplete (2 ^ 64) 0 0 0,
   .receiveRunComplete 0 0 (2 ^ 8) 0,
   .receiveRunComplete 0 0 0 (2 ^ 8),
   .transmitRunStart (2 ^ 64) 0 0,
   .transmitLockTimeout (2 ^ 64) 0,
   .requestCancel (2 ^ 64) wfKop 0,
   .requestCancel 0 { wfKop with tag := 2 ^ 16 } 0,
   .requestEncoderCal (2 ^ 64) wfKop 0 0 0,
   .requestEncoderCal 0 { wfKop with tag := 2 ^ 16 } 0 0 0,
   .requestEncoderCal 0 wfKop 0 (2 ^ 16) 0,
   .requestEncoderCal 0 wfKop 0 0 (2 ^ 64),
   .requestLaneCal (2 ^ 64) wfKop 0 0 0,
   .requestLaneCal 0 { wfKop with tag := 2 ^ 16 } 0 0 0,
   .requestLaneCal 0 wfKop 0 (2 ^ 16) 0,
   .requestLaneCal 0 wfKop 0 0 (2 ^ 64),
   .requestElementScan (2 ^ 64) wfKop 0 0 0,
   .requestElementScan 0 { wfKop with tag := 2 ^ 16 } 0 0 0,
   .requestElementScan 0 wfKop 0 (2 ^ 16) 0,
   .requestElementScan 0 wfKop 0 0 (2 ^ 64),
   .requestMemoryTest (2 ^ 64) wfKop 0 0 0,
   .requestMemoryTest 0 { wfKop with tag := 2 ^ 16 } 0 0 0] : List Instr).all (fun i => !i.wf) = true := by
  decide +kernel

/-- One ill-formed command for each bound, each refused. -/
theorem test_wf_refuses7 : ([.requestMemoryTest 0 wfKop 0 (2 ^ 16) 0,
   .requestMemoryTest 0 wfKop 0 0 (2 ^ 64),
   .requestWindowCheck (2 ^ 64) 0,
   .requestDeadline (2 ^ 64) 0,
   .calibrationValueWrite (2 ^ 64) wfKop 0 0 0,
   .calibrationValueWrite 0 { wfKop with tag := 2 ^ 16 } 0 0 0,
   .calibrationValueWrite 0 wfKop (2 ^ 16) 0 0,
   .calibrationValueWrite 0 wfKop 0 (2 ^ 8) 0,
   .calibrationValueWrite 0 wfKop 0 0 (2 ^ 8192),
   .autoCalibrationWrite (2 ^ 64) wfKop 0 0 0,
   .autoCalibrationWrite 0 { wfKop with tag := 2 ^ 16 } 0 0 0,
   .autoCalibrationWrite 0 wfKop (2 ^ 16) 0 0,
   .autoCalibrationWrite 0 wfKop 0 (2 ^ 8) 0,
   .autoCalibrationWrite 0 wfKop 0 0 (2 ^ 8192),
   .hostLinkUp (2 ^ 64) ({ port := 0, block := true, align := true, quiet := 0, failing := 0 } : PcsReport),
   .hostLinkDown (2 ^ 64) ({ port := 0, block := true, align := true, quiet := 0, failing := 0 } : PcsReport),
   .ptpMessage (2 ^ 64) 0 wfPtpMsg,
   .ptpMessage 0 0 { wfPtpMsg with kind := 6 },
   .hello (2 ^ 64) wfSender wfHelloMsg,
   .hello 0 { wfSender with path := { wfPath with port := 6 } } wfHelloMsg,
   .hello 0 wfSender { wfHelloMsg with bytes := [256] },
   .proof (2 ^ 64) wfSender 0 0,
   .proof 0 { wfSender with path := { wfPath with port := 6 } } 0 0,
   .proof 0 wfSender (2 ^ 32) 0,
   .proof 0 wfSender 0 (2 ^ 512),
   .handshakeTimeout (2 ^ 64) 0,
   .handshakeTimeout 0 (2 ^ 32),
   .heartbeat (2 ^ 64) wfDgram,
   .heartbeat 0 { wfDgram with port := 6 },
   .close (2 ^ 64) wfDgram,
   .close 0 { wfDgram with port := 6 },
   .ack (2 ^ 64) wfDgram wfAckMsg,
   .ack 0 { wfDgram with port := 6 } wfAckMsg,
   .ack 0 wfDgram { wfAckMsg with body := 2 ^ 128 },
   .ackSend (2 ^ 64) 0,
   .retransmit (2 ^ 64) 0 0,
   .retransmit 0 0 (2 ^ 27),
   .leaseExpiry (2 ^ 64) 0,
   .sessionEvict (2 ^ 64) wfKop 0,
   .sessionEvict 0 { wfKop with tag := 2 ^ 16 } 0] : List Instr).all (fun i => !i.wf) = true := by
  decide +kernel

/-- One ill-formed command for each bound, each refused. -/
theorem test_wf_refuses8 : ([.ownershipClaim (2 ^ 64) wfKop 0,
   .ownershipClaim 0 { wfKop with tag := 2 ^ 16 } 0,
   .ownershipRelease (2 ^ 64) wfKop 0,
   .ownershipRelease 0 { wfKop with tag := 2 ^ 16 } 0,
   .ownershipTake (2 ^ 64) wfKop 0,
   .ownershipTake 0 { wfKop with tag := 2 ^ 16 } 0,
   .ownershipLapse (2 ^ 64) 0,
   .registerWrite (2 ^ 64) wfKop 0 0 0,
   .registerWrite 0 { wfKop with tag := 2 ^ 16 } 0 0 0,
   .registerWrite 0 wfKop (2 ^ 16) 0 0,
   .registerWrite 0 wfKop 0 (2 ^ 8) 0,
   .registerWrite 0 wfKop 0 0 (2 ^ 8192),
   .txBegin (2 ^ 64) wfKop,
   .txBegin 0 { wfKop with tag := 2 ^ 16 },
   .txWrite (2 ^ 64) wfKop 0 0 0 0,
   .txWrite 0 { wfKop with tag := 2 ^ 16 } 0 0 0 0,
   .txWrite 0 wfKop (2 ^ 32) 0 0 0,
   .txWrite 0 wfKop 0 (2 ^ 16) 0 0,
   .txWrite 0 wfKop 0 0 (2 ^ 8) 0,
   .txWrite 0 wfKop 0 0 0 (2 ^ 8192),
   .txRead (2 ^ 64) wfKop 0 0 0,
   .txRead 0 { wfKop with tag := 2 ^ 16 } 0 0 0,
   .txRead 0 wfKop (2 ^ 32) 0 0,
   .txRead 0 wfKop 0 (2 ^ 16) 0,
   .txRead 0 wfKop 0 0 (2 ^ 8),
   .txCommit (2 ^ 64) wfKop 0 0,
   .txCommit 0 { wfKop with tag := 2 ^ 16 } 0 0,
   .txCommit 0 wfKop (2 ^ 32) 0,
   .txCommit 0 wfKop 0 (2 ^ 32),
   .txAbort (2 ^ 64) wfKop 0,
   .txAbort 0 { wfKop with tag := 2 ^ 16 } 0,
   .txAbort 0 wfKop (2 ^ 32),
   .txStatus (2 ^ 64) wfKop 0,
   .txStatus 0 { wfKop with tag := 2 ^ 16 } 0,
   .txStatus 0 wfKop (2 ^ 32),
   .commitApply (2 ^ 64) 0,
   .commitTimeout (2 ^ 64) 0,
   .transactionExpiry (2 ^ 64) 0,
   .transactionSlotAbort (2 ^ 64) wfKop 0,
   .transactionSlotAbort 0 { wfKop with tag := 2 ^ 16 } 0] : List Instr).all (fun i => !i.wf) = true := by
  decide +kernel

/-- One ill-formed command for each bound, each refused. -/
theorem test_wf_refuses9 : ([.canFrame (2 ^ 64) 0 wfCanMsg,
   .canFrame 0 0 { wfCanMsg with ident := 2 ^ 29 },
   .canReassemblyTimeout (2 ^ 64) 0 0,
   .canReassemblyTimeout 0 0 (64),
   .storeSave (2 ^ 64) wfKop,
   .storeSave 0 { wfKop with tag := 2 ^ 16 },
   .storeSaveRestart (2 ^ 64) wfKop,
   .storeSaveRestart 0 { wfKop with tag := 2 ^ 16 },
   .storeErase (2 ^ 64) wfKop,
   .storeErase 0 { wfKop with tag := 2 ^ 16 },
   .saveComplete (2 ^ 64) true,
   .engineWatchdog (2 ^ 64) 0,
   .engineInvalidOperation (2 ^ 64) 0,
   .engineRestart (2 ^ 64) 0 true true,
   .uncorrectableWord (2 ^ 64) wfMemWord,
   .uncorrectableWord 0 { wfMemWord with array := 3 },
   .regionTestStart (2 ^ 64),
   .regionTestComplete (2 ^ 64) [] [],
   .regionTestComplete 0 [{ wfCellFault with row := 512 }] [],
   .regionTestComplete 0 [] [64],
   .memoryTestRegion (2 ^ 64),
   .transparentTestWrite (2 ^ 64) wfKop 0,
   .transparentTestWrite 0 { wfKop with tag := 2 ^ 16 } 0,
   .transparentTestWrite 0 wfKop (2 ^ 8),
   .lifeCycleRequest (2 ^ 64) wfKop wfLcReq [],
   .lifeCycleRequest 0 { wfKop with tag := 2 ^ 16 } wfLcReq [],
   .lifeCycleRequest 0 wfKop { wfLcReq with body := 2 ^ 2048 } [],
   .lifeCycleRequest 0 wfKop wfLcReq [2 ^ 16],
   .ownerKeyLoad (2 ^ 64) wfKop wfOwnerRec,
   .ownerKeyLoad 0 { wfKop with tag := 2 ^ 16 } wfOwnerRec,
   .ownerKeyLoad 0 wfKop { wfOwnerRec with body := 2 ^ 2048 },
   .headMakerListReplace (2 ^ 64) wfKop wfListLoad,
   .headMakerListReplace 0 { wfKop with tag := 2 ^ 16 } wfListLoad,
   .headMakerListReplace 0 wfKop { wfListLoad with body := 2 ^ 8192 },
   .headMakerListAdd (2 ^ 64) wfKop wfListLoad,
   .headMakerListAdd 0 { wfKop with tag := 2 ^ 16 } wfListLoad,
   .headMakerListAdd 0 wfKop { wfListLoad with body := 2 ^ 8192 },
   .headMakerListRemove (2 ^ 64) wfKop wfListLoad,
   .headMakerListRemove 0 { wfKop with tag := 2 ^ 16 } wfListLoad,
   .headMakerListRemove 0 wfKop { wfListLoad with body := 2 ^ 8192 }] : List Instr).all (fun i => !i.wf) = true := by
  decide +kernel

/-- One ill-formed command for each bound, each refused. -/
theorem test_wf_refuses10 : ([.tamperDetect (2 ^ 64) { source := 0, sense := .level true } [],
   .tamperDetect 0 { source := 0, sense := .temp 32768 } [],
   .tamperDetect 0 { source := 0, sense := .mesh (2 ^ 16) 0 true } [],
   .tamperDetect 0 { source := 0, sense := .level true } [2 ^ 16],
   .tamperClear (2 ^ 64) wfKop 0,
   .tamperClear 0 { wfKop with tag := 2 ^ 16 } 0,
   .tamperClear 0 wfKop (2 ^ 9),
   .recordCommit (2 ^ 64),
   .recorderClear (2 ^ 64) wfKop wfClearTok,
   .recorderClear 0 { wfKop with tag := 2 ^ 16 } wfClearTok,
   .recorderClear 0 wfKop { wfClearTok with body := 2 ^ 2048 },
   .operatingSecondsWrite (2 ^ 64),
   .calendarDiscipline (2 ^ 64),
   .calendarSet (2 ^ 64) wfKop 0,
   .calendarSet 0 { wfKop with tag := 2 ^ 16 } 0,
   .calendarSet 0 wfKop (2 ^ 64),
   .snapshot (2 ^ 64) wfKop,
   .snapshot 0 { wfKop with tag := 2 ^ 16 },
   .boardSnapshot (2 ^ 64) wfKop,
   .boardSnapshot 0 { wfKop with tag := 2 ^ 16 },
   .snapshotPeriod (2 ^ 64),
   .snapshotLatch (2 ^ 64),
   .snapshotBufferSwap (2 ^ 64),
   .powerOnReset (2 ^ 64) wfPowerUp,
   .powerOnReset 0 { wfPowerUp with bpos := 8 },
   .externalReset (2 ^ 64) wfPowerUp,
   .externalReset 0 { wfPowerUp with bpos := 8 },
   .restart (2 ^ 64) wfKop,
   .restart 0 { wfKop with tag := 2 ^ 16 },
   .debugReset (2 ^ 64) wfPowerUp,
   .debugReset 0 { wfPowerUp with bpos := 8 },
   .supplyOutOfRange (2 ^ 64) wfSupplyReading wfPowerUp,
   .supplyOutOfRange 0 { wfSupplyReading with supply := 7 } wfPowerUp,
   .supplyOutOfRange 0 wfSupplyReading { wfPowerUp with bpos := 8 },
   .coreSupplyExcursion (2 ^ 64) 0 true 0,
   .coreSupplyExcursion 0 (7) true 0,
   .coreSupplyExcursion 0 0 true (2 ^ 32),
   .clockLoss (2 ^ 64) wfClockReading [] wfPowerUp,
   .clockLoss 0 { wfClockReading with ps := 2 ^ 32 } [] wfPowerUp,
   .clockLoss 0 wfClockReading [2 ^ 16] wfPowerUp] : List Instr).all (fun i => !i.wf) = true := by
  decide +kernel

/-- One ill-formed command for each bound, each refused. -/
theorem test_wf_refuses11 : ([.clockLoss 0 wfClockReading [] { wfPowerUp with bpos := 8 },
   .lanePllLoss (2 ^ 64) 0,
   .dieTemperatureSample (2 ^ 64) 0,
   .dieTemperatureSample 0 32768,
   .deviceReady (2 ^ 64),
   .domainRetention (2 ^ 64) 0,
   .domainOff (2 ^ 64) 0,
   .domainWake (2 ^ 64) 0,
   .domainWakeComplete (2 ^ 64) { domain := 0, found := [], buffers := [] },
   .domainWakeComplete 0 { domain := 0, found := [], buffers := [{ wfBufFault with sub := 32 }] },
   .domainWakeComplete 0 { domain := 0, found := [(20480, wfCellFault)], buffers := [] },
   .domainWakeComplete 0 { domain := 0, found := [(0, { wfCellFault with row := 512 })], buffers := [] },
   .orderlyPowerDown (2 ^ 64) wfKop,
   .orderlyPowerDown 0 { wfKop with tag := 2 ^ 16 },
   .powerDownProgress (2 ^ 64),
   .blockLockLost (2 ^ 64) 0 wfLaneHeaders,
   .blockLockLost 0 0 { wfLaneHeaders with hdrs := [4] },
   .blockLockGained (2 ^ 64) 0 wfLaneHeaders,
   .blockLockGained 0 0 { wfLaneHeaders with hdrs := [4] },
   .fecModeStart (2 ^ 64) 0,
   .canBusError (2 ^ 64) 0 true true,
   .busOffRecovery (2 ^ 64) 0,
   .terminationCalibrationDone (2 ^ 64) 0 0,
   .terminationCalibrationDone 0 0 (2 ^ 8),
   .commandedResetTimeout (2 ^ 64) wfPowerUp,
   .commandedResetTimeout 0 { wfPowerUp with bpos := 8 },
   .engineRunning (2 ^ 64) 0] : List Instr).all (fun i => !i.wf) = true := by
  decide +kernel

end Sys2Proof.Tests
end

section
/-! PROOFS. The block never stops (notes/assumptions/2 and 3): whichever way a command branches, it answers a next state. The tree of
each command's branches is followed to its leaves; a leaf is always a next state, never a fault and never a refusal. -/

namespace Sys2Proof.Machine

/-- The outcome is a next state. -/
def Answers (o : Host.Outcome State Fault Refusal) : Prop := ∃ t, o = .next t

namespace Answers

variable {c : Prop} [Decidable c]

theorem next {x : State} : Answers (.next x) := ⟨x, rfl⟩

theorem ite {x y : Host.Outcome State Fault Refusal} (hx : Answers x) (hy : Answers y) : Answers (if c then x else y) := by
  split <;> assumption

theorem dite {x : c → Host.Outcome State Fault Refusal} {y : ¬ c → Host.Outcome State Fault Refusal}
    (hx : ∀ h, Answers (x h)) (hy : ∀ h, Answers (y h)) : Answers (if h : c then x h else y h) := by
  split
  · exact hx _
  · exact hy _

end Answers

/-! ### Commands that match on what they find -/

theorem execItemSubmit_answers {t m descs s} : Answers (execItemSubmit t m descs s) := by
  unfold execItemSubmit
  extract_lets
  split <;> exact .next

theorem execSubmission_answers {t sess s} : Answers (execSubmission t sess s) := by
  unfold execSubmission
  extract_lets
  split <;> exact .next

theorem execSkippedNoMark_answers {t z s} : Answers (execSkippedNoMark t z s) := by
  unfold execSkippedNoMark
  extract_lets
  split
  · exact .ite .next .next
  · exact .next

theorem execFireReport_answers {t l r s} : Answers (execFireReport t l r s) := by
  refine .ite .next ?_
  split
  · exact .next
  · split <;> exact .next

theorem execFireReportTimeout_answers {t h row s} : Answers (execFireReportTimeout t h row s) := by
  unfold execFireReportTimeout
  extract_lets
  split
  · exact .next
  · refine .ite .next ?_
    extract_lets
    split <;> exact .next

theorem execOutcomeNotice_answers {t s} : Answers (execOutcomeNotice t s) := by
  unfold execOutcomeNotice
  extract_lets
  split <;> exact .next

theorem execItemOutcomeRead_answers {t k s} : Answers (execItemOutcomeRead t k s) := by
  unfold execItemOutcomeRead
  extract_lets
  split
  · exact .next
  · exact .ite .next (.ite .next (.ite .next .next))

theorem execRejectAssert_answers {t z handle s} : Answers (execRejectAssert t z handle s) := by
  unfold execRejectAssert
  extract_lets
  split
  · exact .ite .next .next
  · exact .next

theorem execRejectRelease_answers {t z s} : Answers (execRejectRelease t z s) := by
  unfold execRejectRelease
  extract_lets
  split
  · exact .next
  · exact .ite .next .next

theorem execTemplateBegin_answers {t m loadId hdr s} : Answers (execTemplateBegin t m loadId hdr s) := by
  unfold execTemplateBegin
  split <;> exact .next

theorem execTileBegin_answers {t m loadId hdr s} : Answers (execTileBegin t m loadId hdr s) := by
  unfold execTileBegin
  split <;> exact .next

theorem execLoadData_answers {t m loadId offset data s} : Answers (execLoadData t m loadId offset data s) := by
  unfold execLoadData
  extract_lets
  split
  · exact .next
  · extract_lets
    split
    · exact .next
    · split <;> exact .next

theorem execLoadCancel_answers {t m loadId s} : Answers (execLoadCancel t m loadId s) := by
  unfold execLoadCancel
  split
  · exact .next
  · extract_lets
    split <;> exact .next

theorem execTemplateVerify_answers {t idx s} : Answers (execTemplateVerify t idx s) := by
  unfold execTemplateVerify
  extract_lets
  split
  · exact .next
  · exact .ite (.ite .next (.ite .next .next)) .next

theorem execTileVerify_answers {t idx s} : Answers (execTileVerify t idx s) := by
  unfold execTileVerify
  extract_lets
  split
  · exact .next
  · refine .ite (.ite .next (.ite .next ?_)) .next
    split <;> exact .next

theorem execRowLineCompose_answers {t flips s} : Answers (execRowLineCompose t flips s) := by
  unfold execRowLineCompose
  extract_lets
  split <;> exact .next

theorem execStreamLine_answers {t m part s} : Answers (execStreamLine t m part s) := by
  unfold execStreamLine
  extract_lets
  split
  · exact .next
  · split
    · exact .next
    · refine .ite .next ?_
      split <;> exact .next

theorem execGenerationInstall_answers {t h s} : Answers (execGenerationInstall t h s) := by
  refine .ite ?_ .next
  split <;> exact .next

theorem execEdgeTimeout_answers {t z s} : Answers (execEdgeTimeout t z s) := by
  refine .ite ?_ .next
  split <;> exact .next

theorem execCancelSend_answers {t h row s} : Answers (execCancelSend t h row s) := by
  unfold execCancelSend
  extract_lets
  split <;> exact .next

theorem execTraverseArm_answers {t z s} : Answers (execTraverseArm t z s) := by
  unfold execTraverseArm
  extract_lets
  split
  · exact .next
  · exact .ite .next .next

theorem execTraverseEnd_answers {t z s} : Answers (execTraverseEnd t z s) := by
  refine .ite .next ?_
  split
  · exact .next
  · exact .ite .next .next

theorem execSourceResistanceEstimate_answers {t c s} : Answers (execSourceResistanceEstimate t c s) := by
  refine .ite ?_ .next
  split
  · exact .next
  · exact .ite .next .next

theorem execEchoMeasurement_answers {t l a echoes lam s} : Answers (execEchoMeasurement t l a echoes lam s) := by
  refine .ite ?_ .next
  split
  · exact .next
  · exact .ite .next .next

theorem execLineFrameTransmit_answers {t l s} : Answers (execLineFrameTransmit t l s) := by
  refine .ite .next ?_
  split <;> exact .next

theorem execStatusFrame_answers {t l r s} : Answers (execStatusFrame t l r s) := by
  refine .ite .next (.dite (fun _ => .ite .next ?_) fun _ => .next)
  extract_lets
  split <;> exact .next

theorem execControlResponse_answers {t l r s} : Answers (execControlResponse t l r s) := by
  refine .ite .next (.dite (fun _ => ?_) fun _ => .next)
  extract_lets
  split
  · exact .next
  · exact .ite .next (.ite .next (.ite (.ite .next .next) (.ite .next .next)))

theorem execControlTimeout_answers {t l a s} : Answers (execControlTimeout t l a s) := by
  unfold execControlTimeout
  extract_lets
  split
  · exact .next
  · exact .ite .next (.ite .next (.ite .next .next))

theorem execLaneMove_answers {t l s} : Answers (execLaneMove t l s) := by
  unfold execLaneMove
  extract_lets
  split
  · exact .next
  · exact .ite .next (.ite .next (.ite .next .next))

theorem execTrimLoad_answers {t h c s} : Answers (execTrimLoad t h c s) := by
  refine .ite ?_ .next
  split <;> exact .next

theorem execScanBlockComplete_answers {t h aborted v0 vs s} : Answers (execScanBlockComplete t h aborted v0 vs s) := by
  unfold execScanBlockComplete
  extract_lets
  split
  · exact .next
  · exact .ite .next (.ite .next (.ite .next .next))

theorem execIndexPulse_answers {t c active stamp s} : Answers (execIndexPulse t c active stamp s) := by
  refine .ite .next ?_
  split
  · split <;> exact .next
  · split <;> exact .next
  · split <;> exact .next
  · exact .next

theorem execMarkEdge_answers {t m stamp active s} : Answers (execMarkEdge t m stamp active s) := by
  unfold execMarkEdge
  extract_lets
  split
  · exact .next
  · exact .ite .next (.ite (.ite .next .next) .next)

theorem execMarkOffer_answers {t m s} : Answers (execMarkOffer t m s) := by
  unfold execMarkOffer
  extract_lets
  split
  · split
    · exact .next
    · refine .ite .next ?_
      split
      · exact .next
      · split <;> exact .next
  · exact .next

theorem execDriverSupplyLoss_answers {t a s} : Answers (execDriverSupplyLoss t a s) := by
  unfold execDriverSupplyLoss
  extract_lets
  split <;> exact .next

theorem execFeedMoveStart_answers {t z s} : Answers (execFeedMoveStart t z s) := by
  unfold execFeedMoveStart
  extract_lets
  split
  · exact .next
  · exact .ite (.ite .next (.ite .next .next)) .next

theorem execEncoderVerifyDone_answers {t c s} : Answers (execEncoderVerifyDone t c s) := by
  unfold execEncoderVerifyDone
  extract_lets
  split
  · exact .next
  · exact .ite (.ite .next .next) .next

theorem execCalibrationApply_answers {t c s} : Answers (execCalibrationApply t c s) := by
  unfold execCalibrationApply
  extract_lets
  split
  · exact .next
  · exact .ite .next .next

theorem execReceiveRunComplete_answers {t l openOff oldEye s} : Answers (execReceiveRunComplete t l openOff oldEye s) := by
  refine .ite .next ?_
  split
  · exact .next
  · exact .ite .next .next

theorem execRequestWindowCheck_answers {t slot s} : Answers (execRequestWindowCheck t slot s) := by
  refine .ite .next ?_
  split <;> exact .next

theorem execPtpMessage_answers {t p m s} : Answers (execPtpMessage t p m s) := by
  refine .ite .next ?_
  split
  · exact .next
  · exact .ite .next .next
  · exact .ite .next .next
  · split
    · exact .ite .next .next
    · exact .next
  · exact .ite .next .next
  · exact .ite .next .next
  · exact .next

theorem execProof_answers {t src hid sig s} : Answers (execProof t src hid sig s) := by
  refine .ite .next (.ite .next (.ite .next ?_))
  split
  · exact .next
  · exact .ite .next (.ite .next .next)

theorem execHeartbeat_answers {t dg s} : Answers (execHeartbeat t dg s) := by
  unfold execHeartbeat
  split <;> exact .next

theorem execClose_answers {t dg s} : Answers (execClose t dg s) := by
  unfold execClose
  split <;> exact .next

theorem execAck_answers {t dg m s} : Answers (execAck t dg m s) := by
  unfold execAck
  split
  · exact .next
  · exact .ite .next .next

theorem execRetransmit_answers {t sess n s} : Answers (execRetransmit t sess n s) := by
  unfold execRetransmit
  extract_lets
  split
  · exact .next
  · split
    · exact .next
    · exact .ite .next .next

theorem execOwnershipLapse_answers {t z s} : Answers (execOwnershipLapse t z s) := by
  unfold execOwnershipLapse
  extract_lets
  split
  · exact .ite .next .next
  · exact .next

theorem execTxBegin_answers {t k s} : Answers (execTxBegin t k s) := by
  unfold execTxBegin
  split
  · exact .next
  · refine .ite .next ?_
    split <;> exact .next

theorem execCanReassemblyTimeout_answers {t f host s} : Answers (execCanReassemblyTimeout t f host s) := by
  unfold execCanReassemblyTimeout
  extract_lets
  split
  · exact .ite .next .next
  · exact .next

theorem execSaveComplete_answers {t ok s} : Answers (execSaveComplete t ok s) := by
  unfold execSaveComplete
  extract_lets
  split
  · exact .next
  · exact .ite .next .next

theorem execEngineRestart_answers {t e sig0 sig1 s} : Answers (execEngineRestart t e sig0 sig1 s) := by
  unfold execEngineRestart
  extract_lets
  split
  · exact .next
  · exact .ite .next (.ite .next (.ite .next .next))

theorem execRegionTestComplete_answers {t faults singles s} : Answers (execRegionTestComplete t faults singles s) := by
  unfold execRegionTestComplete
  extract_lets
  split
  · exact .next
  · refine .ite ?_ .next
    split <;> exact .next

theorem execMemoryTestRegion_answers {t s} : Answers (execMemoryTestRegion t s) := by
  unfold execMemoryTestRegion
  extract_lets
  split
  · exact .ite .next .next
  · exact .next

theorem execLanePllLoss_answers {t port s} : Answers (execLanePllLoss t port s) := by
  refine .dite (fun _ => ?_) fun _ => .next
  split <;> exact .next

theorem execPowerDownProgress_answers {t s} : Answers (execPowerDownProgress t s) := by
  unfold execPowerDownProgress
  extract_lets
  split
  · exact .ite .next .next
  · exact .ite .next .next
  · exact .ite .next .next
  · exact .ite .next .next
  · exact .next
  · exact .next

theorem execFecModeStart_answers {t l s} : Answers (execFecModeStart t l s) := by
  refine .ite (.ite (.ite .next ?_) .next) .next
  split <;> exact .next

/-! ### Every command -/

/-- Every command answers a next state: the commands are grouped by the tree of their conditions. -/
theorem exec_answers (c : Instr) (s : State) : Answers (exec c s) := by
  cases c with
  | zoneEnable | zoneDrain | zoneAbort | rejectHoldClear | itemAbort | templateDelete | tileDelete | frameBuildEvaluation
    | alignmentPattern | boardFaultAssert | supplyOn | supplyOff | chainSupplyReset | hvDieLoss | linkBringup | enumerate
    | spareTakeoverL0 | spareTakeoverL1 | spareRelease | restore | scanBlockStart | scanFull | scanRebaseline | channelClear
    | channelPreset | gateTest | axisEnable | axisDisable | moveAbsolute | moveRelative | axisStop | axisHome | followStart
    | followEnd | axisPowerDown | axisPreset | axisClear | groupMove | groupStop | receiveRunStart | transmitRunStart | requestCancel
    | requestEncoderCal | requestLaneCal | requestElementScan | requestMemoryTest | calibrationValueWrite | autoCalibrationWrite
    | handshakeTimeout | sessionEvict | ownershipClaim | ownershipRelease | ownershipTake | txWrite | txRead | txCommit | txAbort
    | txStatus | transactionSlotAbort | storeSave | storeSaveRestart | storeErase | engineWatchdog | engineInvalidOperation
    | transparentTestWrite | lifeCycleRequest | ownerKeyLoad | headMakerListReplace | headMakerListAdd | headMakerListRemove
    | tamperClear | recorderClear | calendarSet | snapshot | boardSnapshot | snapshotLatch | snapshotBufferSwap | powerOnReset
    | externalReset | restart | dieTemperatureSample | domainWake | orderlyPowerDown => exact .next
  | admissionEvaluation | zoneDrainComplete | dramChannelFault | syncFrameSend | fireTimerStep | syncHoldover | vphSample
    | vphSampleTimeout | temperatureStale | supplyRampStart | rampTimeout | inrushTimeout | switchLeak | portAutoBringup
    | timePairSend | statusTimeout | neighbourLockTimeout | portBlockLockLoss | dualLockRegained | scanIntervalExpiry | warmStep
    | cooldownReturn | wireDisagreement | channelStarted | speedSample | retRelease | retentionComplete | retentionTimeout
    | moveComplete | stopComplete | virtualLimitCrossed | calibrationTemperatureCheck | encoderCollectionComplete | collectionTimeout
    | encoderComputeDone | applyTimeout | requestDeadline | hostLinkUp | hostLinkDown | ackSend | leaseExpiry | commitTimeout
    | transactionExpiry | regionTestStart | tamperDetect | recordCommit | operatingSecondsWrite | calendarDiscipline | snapshotPeriod
    | debugReset | clockLoss | deviceReady | domainRetention | domainOff | blockLockLost | blockLockGained | canBusError
    | busOffRecovery | terminationCalibrationDone | commandedResetTimeout | engineRunning => exact .ite .next .next
  | dramRetrainComplete | retentionCheck | commitApply | domainWakeComplete => exact .ite (.ite .next .next) .next
  | heldEdgeProcess | syncStartupEnd | headVerification | sincosSample => exact .ite .next (.ite .next .next)
  | syncFrameReceive | coarseStep | registerWrite => exact .ite .next (.ite .next (.ite .next .next))
  | linkBringupRetry | transmitLockTimeout => exact .ite (.ite .next (.ite .next .next)) .next
  | ssiRead | canFrame => exact .ite .next (.ite .next (.ite .next (.ite .next (.ite .next .next))))
  | encoderEdge => exact .ite .next (.ite .next (.ite .next (.ite .next .next)))
  | lossReport => exact .ite .next (.dite (fun _ => .ite .next .next) fun _ => .next)
  | reverseBlock => exact .ite .next (.ite .next (.ite .next (.dite (fun _ => .ite .next .next) fun _ => .next)))
  | switchEdge => exact .ite .next (.dite (fun _ => .ite (.ite .next (.ite .next .next)) (.ite .next .next)) fun _ => .next)
  | hello => exact .ite .next (.ite .next (.ite .next (.ite .next (.ite .next (.ite .next (.ite .next (.ite .next .next)))))))
  | uncorrectableWord => exact .ite .next (.dite (fun _ => .next) fun _ => .next)
  | supplyOutOfRange => exact .ite (.ite .next .next) (.ite .next .next)
  | coreSupplyExcursion => exact .dite (fun _ => .ite .next (.ite .next .next)) fun _ => .next
  | itemSubmit => exact execItemSubmit_answers
  | submission => exact execSubmission_answers
  | skippedNoMark => exact execSkippedNoMark_answers
  | fireReport => exact execFireReport_answers
  | fireReportTimeout => exact execFireReportTimeout_answers
  | outcomeNotice => exact execOutcomeNotice_answers
  | itemOutcomeRead => exact execItemOutcomeRead_answers
  | rejectAssert => exact execRejectAssert_answers
  | rejectRelease => exact execRejectRelease_answers
  | templateBegin => exact execTemplateBegin_answers
  | tileBegin => exact execTileBegin_answers
  | loadData => exact execLoadData_answers
  | loadCancel => exact execLoadCancel_answers
  | templateVerify => exact execTemplateVerify_answers
  | tileVerify => exact execTileVerify_answers
  | rowLineCompose => exact execRowLineCompose_answers
  | streamLine => exact execStreamLine_answers
  | generationInstall => exact execGenerationInstall_answers
  | edgeTimeout => exact execEdgeTimeout_answers
  | cancelSend => exact execCancelSend_answers
  | traverseArm => exact execTraverseArm_answers
  | traverseEnd => exact execTraverseEnd_answers
  | sourceResistanceEstimate => exact execSourceResistanceEstimate_answers
  | echoMeasurement => exact execEchoMeasurement_answers
  | lineFrameTransmit => exact execLineFrameTransmit_answers
  | statusFrame => exact execStatusFrame_answers
  | controlResponse => exact execControlResponse_answers
  | controlTimeout => exact execControlTimeout_answers
  | laneMove => exact execLaneMove_answers
  | trimLoad => exact execTrimLoad_answers
  | scanBlockComplete => exact execScanBlockComplete_answers
  | indexPulse => exact execIndexPulse_answers
  | markEdge => exact execMarkEdge_answers
  | markOffer => exact execMarkOffer_answers
  | driverSupplyLoss => exact execDriverSupplyLoss_answers
  | feedMoveStart => exact execFeedMoveStart_answers
  | encoderVerifyDone => exact execEncoderVerifyDone_answers
  | calibrationApply => exact execCalibrationApply_answers
  | receiveRunComplete => exact execReceiveRunComplete_answers
  | requestWindowCheck => exact execRequestWindowCheck_answers
  | ptpMessage => exact execPtpMessage_answers
  | proof => exact execProof_answers
  | heartbeat => exact execHeartbeat_answers
  | close => exact execClose_answers
  | ack => exact execAck_answers
  | retransmit => exact execRetransmit_answers
  | ownershipLapse => exact execOwnershipLapse_answers
  | txBegin => exact execTxBegin_answers
  | canReassemblyTimeout => exact execCanReassemblyTimeout_answers
  | saveComplete => exact execSaveComplete_answers
  | engineRestart => exact execEngineRestart_answers
  | regionTestComplete => exact execRegionTestComplete_answers
  | memoryTestRegion => exact execMemoryTestRegion_answers
  | lanePllLoss => exact execLanePllLoss_answers
  | powerDownProgress => exact execPowerDownProgress_answers
  | fecModeStart => exact execFecModeStart_answers

/-- Settles O3: the branches of every command end in a next state. -/
theorem everyCommandGoesOn : Obligations.EveryCommandGoesOn := exec_answers

end Sys2Proof.Machine
end

section
/-! PROOFS. Board time and the sync ports (O34): one lemma for each sync command on the path that the statement names, and what a frame that
answers one of the block's own does to the alignment. -/

namespace Sys2Proof.Machine

/-! ### Frames -/

/-- The CRC covers no part of itself: a sealed frame is right (R162). -/
theorem syncFrame_seal_ok (f : SyncFrame) : f.seal.ok = true := by
  have body_seal : f.seal.body = { f with rsv := 0 }.body := rfl
  have crc_seal : f.seal.crc = crc32c (leBytes 47 { f with rsv := 0 }.body) := rfl
  have rsv_seal : f.seal.rsv = 0 := rfl
  simp only [SyncFrame.ok, body_seal, crc_seal, rsv_seal, BEq.rfl, Bool.and_self]

theorem State.syncFrame_ok (s : State) (p : Fin 2) : (s.syncFrame p).ok = true := syncFrame_seal_ok _

theorem exec_syncFrameSend {t : Nat} {p : Fin 2} {s : State} (active : (s.begin t).sync.passive = false) :
    exec (.syncFrameSend t p) s =
      .next (((s.begin t).emit (.sync p.val ((s.begin t).syncFrame p).bytes)).updSync fun y =>
        { y with seq := vupd y.seq p fun n => (n + 1) % 256 }) :=
  if_neg (Bool.eq_false_iff.mp active)

theorem State.align_of_no_echo {s : State} {f : SyncFrame} (noEcho : f.echoFt = 0) : s.align f = s := if_pos noEcho

theorem exec_syncFrameReceive_bad {t : Nat} {p : Fin 2} {f : SyncFrame} {s : State} (bad : f.ok = false) :
    exec (.syncFrameReceive t p f) s = .next ((s.begin t).updSync fun y => { y with discards := y.discards + 1 }) :=
  if_pos (by simp [bad])

theorem exec_syncFrameReceive_wrongNeighbour {t : Nat} {p : Fin 2} {f : SyncFrame} {s : State} (ok : f.ok = true)
    (active : (s.begin t).sync.passive = false) (wrong : (s.begin t).neighbour p ≠ some f.srcPos) :
    exec (.syncFrameReceive t p f) s = .next (((s.begin t).sawPeer p).goPassive p f.srcPos) := by
  change execSyncFrameReceive t p f s = _
  simp only [execSyncFrameReceive, ok, active, wrong, Bool.not_true, Bool.false_eq_true, if_false, ne_eq, not_false_eq_true, if_true]

/-- A valid frame of the right neighbour that echoes nothing and asks for no snapshot is stored, and its board positions are taken. -/
theorem exec_syncFrameReceive_noEcho {t : Nat} {p : Fin 2} {f : SyncFrame} {s : State} (ok : f.ok = true)
    (active : (s.begin t).sync.passive = false) (right : (s.begin t).neighbour p = some f.srcPos) (noEcho : f.echoFt = 0)
    (noSnap : f.snap = false) :
    let s0 := s.begin t
    let rx : SyncRx := { txFt := f.txFt, at_ := (s0.sawPeer p).ft, fault := f.fault, snap := f.snap, snapFt := f.snapFt,
                         bp0 := if f.bp0Valid then some (f.bp0Pos, f.bp0Age) else none,
                         bp1 := if f.bp1Valid then some (f.bp1Pos, f.bp1Age) else none }
    let s1 := (s0.sawPeer p).updSync fun y => { y with rx := vupd y.rx p fun _ => some rx }
    exec (.syncFrameReceive t p f) s =
      .next ((s1.takeBp p 0 f.bp0Valid f.bp0Pos f.bp0Age f.txFt).takeBp p 1 f.bp1Valid f.bp1Pos f.bp1Age f.txFt).checkSources.updateLine := by
  change execSyncFrameReceive t p f s = _
  simp only [execSyncFrameReceive, ok, active, right, noEcho, noSnap, State.align_of_no_echo noEcho, Bool.not_true, Bool.false_eq_true,
    if_false, ne_eq, not_true_eq_false, if_true, ite_self, false_and]

/-! ### Stepping, holdover and start-up -/

theorem exec_fireTimerStep_due {t : Nat} {s : State} (due : (s.begin t).sync.stepDue = true) (idle : (s.begin t).allIdle = true)
    (active : (s.begin t).sync.passive = false) :
    exec (.fireTimerStep t) s =
      .next (((s.begin t).stepTimer (s.begin t).sync.offset).updSync fun y => { y with stepDue := false, stepped := true, inTol := 0 }) :=
  if_pos ⟨due, idle, Bool.eq_false_iff.mp active⟩

theorem exec_syncHoldover_stopped {t : Nat} {s : State} (above : (s.begin t).bpos ≠ 0)
    (stopped : waited ((s.begin t).sync.rx[(0 : Fin 2)].map (·.at_)) 125000 (s.begin t).ft = true) (aligned : (s.begin t).sync.align ≤ 2) :
    exec (.syncHoldover t) s =
      .next ((s.begin t).updSync fun y =>
        { y with align := 3, inTol := 0, rx := vupd y.rx 0 fun r => r.map fun x => { x with bp0 := none, bp1 := none },
                 bp := y.bp.map fun b => { b with valid := false } }).checkSources.updateLine :=
  if_pos ⟨above, stopped, aligned⟩

/-- The end of start-up waits no longer for a peer; a board above position 0 that has seen none is late (R35). -/
theorem exec_syncStartupEnd {t : Nat} {s : State} (waits : (s.begin t).sync.startup = true) :
    let s1 := (s.begin t).updSync fun y => { y with startup := false }
    exec (.syncStartupEnd t) s =
      if (s.begin t).bpos ≠ 0 ∧ ¬ (s.begin t).sync.seen = true then
        .next ((s1.updSync fun y => { y with late := true }).faultEvent 11 ((s.begin t).loc 11 8) 0xA800 0x02 0 0)
      else .next s1 :=
  if_neg (by rw [waits]; decide)

theorem exec_boardFaultAssert {t : Nat} {k : Kop} {v : Nat} {s : State} {w : Fin 32} (permitted : Safety.Admits s t k 0xA800 0x09 v w) :
    let s2 := (((Safety.taken s t k).oapply 0xA800 0x09 v).updSync fun y => { y with ownFault := v == 1 }).updateLine
    exec (.boardFaultAssert t k v) s = .next (s2.respond w (s2.plainResp k 0)) := by
  have plain : ∀ r, objRow 0xA800 0x09 = some r → r.acc ≠ 4 := by decide +kernel
  have noText : textRange 0xA800 0x09 v = true := rfl
  exact congrArg Host.Outcome.next (State.write_eq permitted plain noText)

/-! ### Alignment (R163, R164) -/

/-- Whatever the free choice (notes/assumptions/19), the steering stays within 200 ppm. -/
theorem steer_bounded (off2 : Int) (n : Nat) : -200000 ≤ steer off2 n ∧ steer off2 n ≤ 200000 := by
  have below : (Config.steerRate n).natAbs % 200001 < 200001 := Nat.mod_lt _ (by decide)
  simp only [steer, clampI]
  split
  · omega
  · split <;> omega

theorem steer_nonneg {off2 : Int} (n : Nat) (behind : 0 < off2) : 0 ≤ steer off2 n := by
  simp only [steer, behind, if_true]; omega

theorem steer_nonpos {off2 : Int} (n : Nat) (ahead : off2 < 0) : steer off2 n ≤ 0 := by
  simp only [steer, ahead, if_true, Int.not_lt.mpr (Int.le_of_lt ahead), if_false]; omega

/-- The block with the offset that an answering frame gives, and steered by it. -/
def State.steered (s : State) (f : SyncFrame) : State :=
  { s with free := s.free + 1 }.updSync fun y =>
    { y with offset := roundR ((syncOffset2 f s.ft : Rat) / 2), rate := steer (syncOffset2 f s.ft) s.free,
             phase := y.phaseAt_ s.ft, phaseAt := s.ft }

/-- The offset that an answering frame gives is at most 1 ft. -/
def State.within (s : State) (f : SyncFrame) : Bool := decide ((syncOffset2 f s.ft).natAbs ≤ 2)

/-- The answering frames in a row within 1 ft, with this one. -/
def State.goodRun (s : State) (f : SyncFrame) : Nat := if s.within f then s.sync.inTol + 1 else 0

/-- What an answering frame does beyond steering: a board not yet stepped steps while its zones are idle, else waits for that; a stepped
one counts the frame and is ALIGNED or not (R163, R164, notes/assumptions/29). -/
theorem State.align_cases {s : State} {f : SyncFrame} (answers : f.echoFt ≠ 0) :
    (s.sync.stepped = false ∧ (s.steered f).allIdle = true ∧
      s.align f = ((s.steered f).stepTimer (s.steered f).sync.offset).updSync fun y =>
        { y with stepped := true, stepDue := false, align := 1, inTol := 0 }) ∨
    (s.sync.stepped = false ∧ (s.steered f).allIdle = false ∧
      s.align f = (s.steered f).updSync fun y => { y with stepDue := true, align := 1, inTol := 0 }) ∨
    (s.sync.stepped = true ∧
      s.align f = (s.steered f).updSync fun y =>
        { y with inTol := s.goodRun f, hops := min 15 (f.hops + 1),
                 align := if 1000 ≤ s.goodRun f ∨ (s.sync.align = 2 ∧ s.within f) then 2 else 1 }) := by
  cases stepped : s.sync.stepped with
  | false =>
    cases idle : (s.steered f).allIdle with
    | true => exact .inl ⟨rfl, rfl, (if_neg answers).trans ((if_pos (by simp [stepped])).trans (if_pos idle))⟩
    | false =>
      exact .inr (.inl ⟨rfl, rfl, (if_neg answers).trans ((if_pos (by simp [stepped])).trans (if_neg (Bool.eq_false_iff.mp idle)))⟩)
  | true => exact .inr (.inr ⟨rfl, (if_neg answers).trans (if_neg (by simp [stepped]))⟩)

/-- Whatever becomes of the alignment, offset, rate and the advance of the free counter (notes/assumptions/19) are those of
the steering. -/
theorem State.align_keeps_steered {s : State} {f : SyncFrame} (answers : f.echoFt ≠ 0) :
    (s.align f).sync.offset = (s.steered f).sync.offset ∧ (s.align f).sync.rate = (s.steered f).sync.rate ∧
    (s.align f).free = (s.steered f).free := by
  obtain ⟨-, -, stepping⟩ | ⟨-, -, waiting⟩ | ⟨-, tracking⟩ := s.align_cases answers
  · rw [stepping]; exact ⟨rfl, rfl, rfl⟩
  · rw [waiting]; exact ⟨rfl, rfl, rfl⟩
  · rw [tracking]; exact ⟨rfl, rfl, rfl⟩

theorem State.align_offset {s : State} {f : SyncFrame} (answers : f.echoFt ≠ 0) :
    (s.align f).sync.offset = roundR ((syncOffset2 f s.ft : Rat) / 2) := (s.align_keeps_steered answers).1

theorem State.align_rate {s : State} {f : SyncFrame} (answers : f.echoFt ≠ 0) :
    (s.align f).sync.rate = steer (syncOffset2 f s.ft) s.free := (s.align_keeps_steered answers).2.1

theorem State.align_free {s : State} {f : SyncFrame} (answers : f.echoFt ≠ 0) : (s.align f).free = s.free + 1 :=
  (s.align_keeps_steered answers).2.2

/-- A run of frames within 1 ft is longer than 0 only when it holds this one. -/
theorem State.within_of_goodRun {s : State} {f : SyncFrame} (run : 1000 ≤ s.goodRun f) : s.within f = true := by
  unfold State.goodRun at run
  split at run
  · assumption
  · omega

theorem State.offset_le_of_aligned {s : State} {f : SyncFrame} (answers : f.echoFt ≠ 0) (stepped : s.sync.stepped = true)
    (aligned : (s.align f).sync.align = 2) : (syncOffset2 f s.ft).natAbs ≤ 2 := by
  obtain ⟨fresh, -⟩ | ⟨fresh, -⟩ | ⟨-, tracking⟩ := s.align_cases answers
  · rw [stepped] at fresh; cases fresh
  · rw [stepped] at fresh; cases fresh
  · rw [tracking, State.updSync] at aligned
    dsimp only at aligned
    split at aligned
    case isTrue kept => exact of_decide_eq_true (kept.elim State.within_of_goodRun And.right)
    case isFalse => cases aligned

/-! ### The statement -/

/-- Settles O34: the sync commands by a lemma each, the alignment by what an answering frame does. -/
theorem boardsSynchroniseAndAlign : Obligations.BoardsSynchroniseAndAlign := by
  refine ⟨⟨?send, ?receive, ?wrongNeighbour, ?bad, ?step, ?holdover, ?startup, ?assert⟩, ?align⟩
  case send => exact fun t p s => ⟨State.syncFrame_ok _ p, exec_syncFrameSend⟩
  case receive => exact fun t p f s => exec_syncFrameReceive_noEcho
  case wrongNeighbour => exact fun t p f s => exec_syncFrameReceive_wrongNeighbour
  case bad => exact fun t p f s => exec_syncFrameReceive_bad
  case step => exact fun t s => exec_fireTimerStep_due
  case holdover => exact fun t s => exec_syncHoldover_stopped
  case startup =>
    refine fun t s waits => ⟨fun ready => ?_, fun above unseen => ?_⟩
    · refine (exec_syncStartupEnd waits).trans (if_neg fun late => ?_)
      exact ready.elim late.1 late.2
    · exact (exec_syncStartupEnd waits).trans (if_pos ⟨above, Bool.eq_false_iff.mp unseen⟩)
  case assert => exact fun t k v s w => exec_boardFaultAssert
  case align =>
    intro s f answers
    rw [State.align_rate answers]
    exact ⟨State.align_offset answers, (steer_bounded _ _).1, (steer_bounded _ _).2, steer_nonneg _, steer_nonpos _,
      State.align_free answers, State.offset_le_of_aligned answers⟩

end Sys2Proof.Machine
end

section
/-! PROOFS. The rules of the item ledger: what an update of the item under a handle does to the list of items. -/

namespace Sys2Proof.Machine

@[simp] theorem State.updItem_items (s : State) (h : Nat) (f : Item → Item) :
    (s.updItem h f).items = s.items.map fun it => if it.handle = h then f it else it := rfl

theorem State.mem_updItem {s : State} {h : Nat} {f : Item → Item} {x : Item} (mem : x ∈ s.items) (named : x.handle = h) :
    f x ∈ (s.updItem h f).items :=
  List.mem_map.mpr ⟨x, mem, if_pos named⟩

theorem State.mem_of_item? {s : State} {h : Nat} {it : Item} (found : s.item? h = some it) : it ∈ s.items :=
  List.mem_of_find?_eq_some found

theorem State.handle_of_item? {s : State} {h : Nat} {it : Item} (found : s.item? h = some it) : it.handle = h :=
  beq_iff_eq.mp (List.find?_some found :)

/-- After an update that keeps the handles, the handle names the item as updated. -/
theorem State.item?_updItem {s : State} {h : Nat} {f : Item → Item} {it : Item} (keeps : ∀ x, (f x).handle = x.handle)
    (found : s.item? h = some it) : (s.updItem h f).item? h = some (f it) := by
  have named : ((fun x => x.handle == h) ∘ fun x => if x.handle = h then f x else x) = fun x : Item => x.handle == h := by
    funext x
    simp only [Function.comp_apply]
    split <;> simp only [keeps]
  unfold State.item? at found ⊢
  rw [State.updItem_items, List.find?_map, named, found, Option.map_some, if_pos (State.handle_of_item? found)]

end Sys2Proof.Machine
end

section
/-! PROOFS. What becomes of an item (O15, O58, O59): an early end, admission, a spoil cause, an abort, and a submission that gets no slot. -/

namespace Sys2Proof.Machine

/-! ### What the end of an item records -/

/-- The outcome that an item gets now (Table 2.8, R441). -/
def State.outcomeNow (s : State) (code reason loc : Nat) : Outcome :=
  { code, reason, finalFt := s.ft, op := s.opNow, cal := s.calStamp, loc }

/-- The notice of a slot holder (R63). -/
def Item.notice (it : Item) : Notice := { handle := it.handle, zone := it.zone, hostId := it.hostId, sid := it.sid, noSlot := none }

@[simp] theorem State.pushNotice_notices (s : State) (it : Item) : (s.pushNotice it).notices = s.notices ++ [it.notice] := rfl
@[simp] theorem State.pushNotice_items (s : State) (it : Item) : (s.pushNotice it).items = s.items := rfl
@[simp] theorem State.pushNotice_zones (s : State) (it : Item) : (s.pushNotice it).zones = s.zones := rfl

theorem State.countOutcome_fin (s : State) (z : Fin 8) (code : Fin 12) :
    s.countOutcome z code.val true = s.updZone z fun x => { x with outcomes := vupd x.outcomes code (· + 1) } := dif_pos code.isLt

theorem State.countOutcome_outcomes (s : State) (z : Fin 8) (code : Fin 12) :
    (s.countOutcome z code.val true).zones[z].outcomes[code] = s.zones[z].outcomes[code] + 1 := by
  simp only [State.countOutcome_fin, State.updZone_zones, vupd_get_same]

/-! ### A new head item -/

theorem State.setHead_zones (s : State) (z : Fin 8) : (s.setHead z).zones = s.zones := by
  unfold State.setHead
  split
  · split <;> rfl
  · rfl

theorem State.setHead_notices (s : State) (z : Fin 8) : (s.setHead z).notices = s.notices := by
  unfold State.setHead
  split
  · split <;> rfl
  · rfl

/-- The item that has become the head of its queue may begin its window (R51); nothing else of any item changes. -/
theorem State.mem_setHead {s : State} {z : Fin 8} {x : Item} (mem : x ∈ s.items) :
    ∃ m, { x with markFrom := m } ∈ (s.setHead z).items := by
  unfold State.setHead
  split
  next head _ =>
    split
    · by_cases named : x.handle = head.handle
      · exact ⟨_, State.mem_updItem mem named⟩
      · exact ⟨x.markFrom, List.mem_map.mpr ⟨x, mem, if_neg named⟩⟩
    · exact ⟨x.markFrom, mem⟩
  · exact ⟨x.markFrom, mem⟩

/-! ### Early end -/

/-- The item that ends as REJECTED or SKIPPED_NO_MARK. -/
def State.itemFinal (s : State) (code reason : Nat) (x : Item) : Item :=
  { x with state := .final, outcome := some (s.outcomeNow code reason (s.loc 5 x.zone.val)) }

theorem State.finish_eq {s : State} {h : Nat} {it : Item} (found : s.item? h = some it) (code reason : Nat) :
    s.finish h code reason =
      (((s.updItem h (s.itemFinal code reason)).countOutcome it.zone code true).pushNotice it).setHead it.zone := by
  unfold State.finish
  rw [found]
  rfl

theorem State.finish_notices {s : State} {h : Nat} {it : Item} (found : s.item? h = some it) (code : Fin 12) (reason : Nat) :
    (s.finish h code.val reason).notices = s.notices ++ [it.notice] := by
  rw [State.finish_eq found, State.setHead_notices, State.pushNotice_notices, State.countOutcome_fin]
  rfl

theorem State.finish_outcomes {s : State} {h : Nat} {it : Item} (found : s.item? h = some it) (code : Fin 12) (reason : Nat) :
    (s.finish h code.val reason).zones[it.zone].outcomes[code] = s.zones[it.zone].outcomes[code] + 1 := by
  rw [State.finish_eq found, State.setHead_zones, State.pushNotice_zones, State.countOutcome_outcomes, State.updItem_zones]

theorem State.mem_finish {s : State} {h : Nat} {it : Item} (found : s.item? h = some it) (code : Fin 12) (reason : Nat) :
    ∃ x ∈ (s.finish h code.val reason).items, x.handle = h ∧ x.state = .final ∧
      x.outcome = some (s.outcomeNow code.val reason (s.loc 5 it.zone.val)) := by
  have named := State.handle_of_item? found
  have ended : s.itemFinal code.val reason it ∈
      (((s.updItem h (s.itemFinal code.val reason)).countOutcome it.zone code.val true).pushNotice it).items := by
    rw [State.pushNotice_items, State.countOutcome_fin]
    exact State.mem_updItem (State.mem_of_item? found) named
  obtain ⟨m, mem⟩ := State.mem_setHead (z := it.zone) ended
  rw [State.finish_eq found]
  exact ⟨_, mem, named, rfl, rfl⟩

/-! ### Admission -/

/-- The zone that counts an item admitted to it, which ends where the item's last line lies (R48). -/
def State.zoneAdmits (s : State) (it : Item) (origin : Int) (x : Zone) : Zone :=
  { x with admitted := x.admitted + 1, zoneEnd := some (pos48 (origin + s.lineOff it.zone (it.lineCount - 1))), res := maxRes x.res (s.itemRes it) }

/-- The item in the polder, no line of it composed (R48). -/
def State.itemAdmitted (s : State) (z : Fin 8) (origin : Int) (x : Item) : Item :=
  { x with state := .admitted, reserved := true, origin := some origin,
           prog := (s.zoneRows z).map fun q => { head := q.1, row := q.2, composed := 0, built := 0 } }

/-- The zone and its item as admission leaves them, before a first traverse is armed (R157) and a new head item found. -/
def State.admitted (s : State) (it : Item) (origin : Int) : State :=
  (s.updItem it.handle (s.itemAdmitted it.zone origin)).updZone it.zone (s.zoneAdmits it origin)

theorem State.admitItem_cases (s : State) (it : Item) (o : Int) :
    s.admitItem it o = (s.admitted it o).setHead it.zone ∨
    ∃ t, s.admitItem it o = ((s.admitted it o).armTraverse it.zone it.handle t).setHead it.zone := by
  unfold State.admitItem
  extract_lets z free s1 s2 s3
  by_cases arms : s2.zc z 0x30 ≠ 0 ∧ free = true
  · exact .inr ⟨(s2.traverses it).1, congrArg (State.setHead · z) (if_pos arms)⟩
  · exact .inl (congrArg (State.setHead · z) (if_neg arms))

theorem State.admitted_zones (s : State) (it : Item) (o : Int) :
    (s.admitted it o).zones = vupd s.zones it.zone (s.zoneAdmits it o) := rfl

theorem State.admitItem_zone (s : State) (it : Item) (o : Int) :
    (s.admitItem it o).zones[it.zone].admitted = s.zones[it.zone].admitted + 1 ∧
    (s.admitItem it o).zones[it.zone].zoneEnd = some (pos48 (o + s.lineOff it.zone (it.lineCount - 1))) := by
  obtain plain | ⟨t, arms⟩ := s.admitItem_cases it o
  · simp only [plain, State.setHead_zones, State.admitted_zones, vupd_get_same, State.zoneAdmits, and_self]
  · simp only [arms, State.setHead_zones, State.armTraverse, State.updZone_zones, State.admitted_zones, vupd_get_same, State.zoneAdmits,
      and_self]

theorem State.mem_admitItem {s : State} {it : Item} (mem : it ∈ s.items) (o : Int) :
    ∃ x ∈ (s.admitItem it o).items, x.handle = it.handle ∧ x.state = .admitted ∧ x.origin = some o ∧ x.reserved = true ∧
      ∀ p ∈ x.prog, p.composed = 0 ∧ p.built = 0 := by
  have enters : s.itemAdmitted it.zone o it ∈ (s.admitted it o).items := State.mem_updItem mem rfl
  have fresh : ∀ p ∈ (s.itemAdmitted it.zone o it).prog, p.composed = 0 ∧ p.built = 0 := by
    intro p hp
    obtain ⟨q, -, rfl⟩ := List.mem_map.mp hp
    exact ⟨rfl, rfl⟩
  obtain plain | ⟨t, arms⟩ := s.admitItem_cases it o
  · rw [plain]
    obtain ⟨m, mem'⟩ := State.mem_setHead (z := it.zone) enters
    exact ⟨_, mem', rfl, rfl, rfl, rfl, fresh⟩
  · rw [arms]
    obtain ⟨m, mem'⟩ := State.mem_setHead (s := (s.admitted it o).armTraverse it.zone it.handle t) (z := it.zone) enters
    exact ⟨_, mem', rfl, rfl, rfl, rfl, fresh⟩

/-! ### What the operations after a spoil cause leave as it is -/

/-- An item without what marks, withdrawals and pulses still change once its outcome is recorded. -/
def Item.bare (it : Item) : Item := { it with prog := [], badLine := none, pulsed := false }

theorem Item.markBad_bare (it : Item) (line : Nat) : (it.markBad line).bare = it.bare := by
  unfold Item.markBad
  split <;> rfl

theorem Item.markLeft_bare (it : Item) (n built : Nat) : (it.markLeft n built).bare = it.bare := by
  unfold Item.markLeft
  split
  · exact Item.markBad_bare ..
  · rfl

theorem Item.markAllLeft_bare (it : Item) (n : Nat) : (it.markAllLeft n).bare = it.bare := by
  unfold Item.markAllLeft
  induction it.prog generalizing it with
  | nil => rfl
  | cons q qs ih => exact (ih _).trans (it.markLeft_bare n q.built)

/-- What does not look at the rows, the mark and the pulse is the same of items that are bare the same. -/
theorem Item.eq_of_bare {α : Type} (p : Item → α) {x y : Item} (same : x.bare = y.bare) (blind : ∀ x, p x = p x.bare := by exact fun _ => rfl) :
    p x = p y := by
  rw [blind x, same, ← blind y]

/-- The notices, the outcome counts and the bare items stay. -/
structure State.KeepsRecords (a b : State) : Prop where
  notices : b.notices = a.notices
  outcomes : ∀ z : Fin 8, b.zones[z].outcomes = a.zones[z].outcomes
  items : ∀ x ∈ a.items, ∃ y ∈ b.items, y.bare = x.bare

section KeepsRecords

variable {a b c : State}

theorem State.KeepsRecords.of_eq (notices : b.notices = a.notices) (zones : b.zones = a.zones) (items : b.items = a.items) :
    a.KeepsRecords b :=
  ⟨notices, fun z => by rw [zones], fun x mem => ⟨x, items ▸ mem, rfl⟩⟩

theorem State.KeepsRecords.refl : a.KeepsRecords a := .of_eq rfl rfl rfl

theorem State.KeepsRecords.trans (ab : a.KeepsRecords b) (bc : b.KeepsRecords c) : a.KeepsRecords c := by
  refine ⟨bc.notices.trans ab.notices, fun z => (bc.outcomes z).trans (ab.outcomes z), fun x mem => ?_⟩
  obtain ⟨y, mem_y, xy⟩ := ab.items x mem
  obtain ⟨w, mem_w, yw⟩ := bc.items y mem_y
  exact ⟨w, mem_w, yw.trans xy⟩

theorem State.KeepsRecords.ite {p : Prop} [Decidable p] (ab : a.KeepsRecords b) (ac : a.KeepsRecords c) : a.KeepsRecords (if p then b else c) := by
  split <;> assumption

/-- A further step that is done only under a condition. -/
theorem State.KeepsRecords.andIf {p : Prop} [Decidable p] (ab : a.KeepsRecords b) (bc : b.KeepsRecords c) :
    a.KeepsRecords (if p then c else b) := .ite (ab.trans bc) ab

theorem State.KeepsRecords.foldl {α : Type} {g : State → α → State} (step : ∀ (s : State) x, s.KeepsRecords (g s x)) (l : List α) :
    a.KeepsRecords (l.foldl g a) := by
  induction l generalizing a with
  | nil => exact .refl
  | cons x xs ih => exact (step a x).trans ih

theorem State.KeepsRecords.pushNotice (ab : a.KeepsRecords b) (it : Item) : (a.pushNotice it).KeepsRecords (b.pushNotice it) :=
  ⟨by rw [State.pushNotice_notices, State.pushNotice_notices, ab.notices], ab.outcomes, ab.items⟩

theorem State.updItem_keepsRecords {h : Nat} {f : Item → Item} (keeps : ∀ x, (f x).bare = x.bare) : a.KeepsRecords (a.updItem h f) := by
  refine ⟨rfl, fun _ => rfl, fun x mem => ⟨_, List.mem_map.mpr ⟨x, mem, rfl⟩, ?_⟩⟩
  split
  · exact keeps x
  · rfl

theorem State.updZone_keepsRecords {z : Fin 8} {f : Zone → Zone} (keeps : ∀ x, (f x).outcomes = x.outcomes) : a.KeepsRecords (a.updZone z f) := by
  refine ⟨rfl, fun y => ?_, fun x mem => ⟨x, mem, rfl⟩⟩
  rw [State.updZone_zones]
  by_cases same : y = z
  · rw [same, vupd_get_same, keeps]
  · rw [vupd_get_ne same]

theorem State.updRow_keepsRecords {h : Fin 64} {r : Fin 4} {f : HRow → HRow} : a.KeepsRecords (a.updRow h r f) := .of_eq rfl rfl rfl

theorem State.updGate_keepsRecords {g : Fin 8} {f : Gate → Gate} : a.KeepsRecords (a.updGate g f) := .of_eq rfl rfl rfl

theorem State.event_keepsRecords {code loc : Nat} {payload : List (Nat × Nat)} : a.KeepsRecords (a.event code loc payload) := by
  unfold State.event State.eventBy State.addEvent
  exact .ite (.of_eq rfl rfl rfl) (.of_eq rfl rfl rfl)

theorem State.recomputeRes_keepsRecords {z : Fin 8} : a.KeepsRecords (a.recomputeRes z) := State.updZone_keepsRecords fun _ => rfl

theorem State.assertGate_keepsRecords {g : Fin 8} {h : Nat} : a.KeepsRecords (a.assertGate g h) := by
  unfold State.assertGate
  extract_lets was s1 s2
  have marked : a.KeepsRecords s2 := State.updGate_keepsRecords.trans (State.updItem_keepsRecords fun _ => rfl)
  exact .ite marked (marked.trans (.of_eq rfl rfl rfl))

theorem State.lateReject_keepsRecords {h code loc : Nat} : a.KeepsRecords (a.lateReject h code loc) := by
  unfold State.lateReject
  split
  · exact .refl
  · split
    · exact .ite ((State.assertGate_keepsRecords.trans State.updGate_keepsRecords).trans State.event_keepsRecords) .refl
    · exact .refl

theorem State.withdrawRow_keepsRecords {h : Fin 64} {r : Fin 4} {p : Stamped → Bool} : a.KeepsRecords (a.withdrawRow h r p) := by
  unfold State.withdrawRow
  extract_lets row keep go s1 s2
  have lines : a.KeepsRecords s2 := by
    refine State.updRow_keepsRecords.trans (.foldl (fun s l => State.updItem_keepsRecords fun x => ?_) _)
    split
    · exact Item.markBad_bare ..
    · rfl
  refine .ite .refl ?_
  split
  · exact lines.trans (State.updZone_keepsRecords fun _ => rfl)
  · exact lines

theorem State.dropItem_keepsRecords {h : Nat} : a.KeepsRecords (a.dropItem h) := by
  unfold State.dropItem
  split
  · exact .refl
  · exact (State.KeepsRecords.foldl (fun _ _ => State.updRow_keepsRecords) _).trans (State.updItem_keepsRecords fun _ => rfl)

end KeepsRecords

/-! ### Spoiling -/

/-- The item as a spoil cause leaves its record (R55, R443): its reservation is released. -/
def Item.spoiledAs (o : Outcome) (blank : Bool) (sess role : Nat) (it : Item) : Item :=
  { it with state := .spoiled, blank, reserved := false, bySession := sess, byRole := role, outcome := some o }

/-- A spoil cause that names no line: after the outcome is recorded and counted and the notice waits, what else is done keeps that. -/
theorem State.spoil_keepsRecords {s : State} {h : Nat} {it : Item} (found : s.item? h = some it) (polder : it.inPolder = true)
    (code loc sess role : Nat) :
    (((s.updItem h (Item.spoiledAs (s.outcomeNow code 0 loc) (it.state == .admitted) sess role)).countOutcome it.zone code true).pushNotice
      it).KeepsRecords (s.spoil h code loc none sess role) := by
  unfold State.spoil
  simp only [found, polder, if_true]
  refine .trans (.pushNotice (.andIf (.andIf ?reserves ?withdraws) ?drops) it) State.lateReject_keepsRecords
  case reserves => exact State.recomputeRes_keepsRecords
  case withdraws => exact .foldl (fun _ _ => State.withdrawRow_keepsRecords) _
  case drops => exact (State.updItem_keepsRecords fun _ => Item.markAllLeft_bare ..).trans State.dropItem_keepsRecords

/-- What a spoil cause leaves of an item in the polder and its zone. -/
structure State.SpoilRecorded (s : State) (it : Item) (code : Fin 12) (loc sess role : Nat) (s' : State) : Prop where
  item : ∃ x ∈ s'.items, x.handle = it.handle ∧ x.state = .spoiled ∧ x.reserved = false ∧
    x.outcome = some (s.outcomeNow code.val 0 loc) ∧ x.bySession = sess ∧ x.byRole = role
  notices : s'.notices = s.notices ++ [it.notice]
  outcomes : s'.zones[it.zone].outcomes[code] = s.zones[it.zone].outcomes[code] + 1

theorem State.spoil_recorded_noLine {s : State} {it : Item} (found : s.item? it.handle = some it) (polder : it.inPolder = true)
    (code : Fin 12) (loc sess role : Nat) : s.SpoilRecorded it code loc sess role (s.spoil it.handle code.val loc none sess role) := by
  have kept := State.spoil_keepsRecords found polder code.val loc sess role
  have spoiled := State.mem_updItem (f := Item.spoiledAs (s.outcomeNow code.val 0 loc) (it.state == .admitted) sess role)
    (State.mem_of_item? found) rfl
  rw [State.countOutcome_fin] at kept
  refine ⟨?_, kept.notices, ?_⟩
  · obtain ⟨x, mem, bare⟩ := kept.items _ spoiled
    refine ⟨x, mem, ?_⟩
    rw [Item.eq_of_bare Item.handle bare, Item.eq_of_bare Item.state bare, Item.eq_of_bare Item.reserved bare, Item.eq_of_bare Item.outcome bare,
      Item.eq_of_bare Item.bySession bare, Item.eq_of_bare Item.byRole bare]
    exact ⟨rfl, rfl, rfl, rfl, rfl, rfl⟩
  · rw [kept.outcomes it.zone, State.pushNotice_zones, State.updZone_zones, vupd_get_same, State.updItem_zones]
    exact vupd_get_same

/-- The line that a cause names is marked before (R507), which changes nothing of the record. -/
theorem State.spoil_recorded {s : State} {it : Item} (found : s.item? it.handle = some it) (polder : it.inPolder = true)
    (code : Fin 12) (loc : Nat) (line : Option Nat) (sess role : Nat) :
    s.SpoilRecorded it code loc sess role (s.spoil it.handle code.val loc line sess role) := by
  cases line with
  | none => exact State.spoil_recorded_noLine found polder code loc sess role
  | some l =>
    have bare := it.markBad_bare (l % max 1 it.lineCount)
    have handle := Item.eq_of_bare Item.handle bare
    have marked := State.item?_updItem (f := fun x => x.markBad (l % max 1 x.lineCount))
      (fun x => Item.eq_of_bare Item.handle (x.markBad_bare _)) found
    obtain ⟨item, notices, outcomes⟩ := State.spoil_recorded_noLine (handle.symm ▸ marked)
      ((Item.eq_of_bare Item.inPolder bare).trans polder) code loc sess role
    rw [Item.eq_of_bare Item.notice bare] at notices
    simp only [handle, Item.eq_of_bare Item.zone bare] at item notices outcomes
    exact ⟨item, notices, outcomes⟩

/-! ### The statements -/

/-- Settles O15: admission by what it does to its zone and item, an early end by its record, a spoil cause by what the operations after the
record keep. -/
theorem admissionSpoilingAndEndsAreRecorded : Obligations.AdmissionSpoilingAndEndsAreRecorded := by
  refine ⟨⟨?enters, ?finish⟩, ?spoil⟩
  case enters => exact fun s it o mem => ⟨(s.admitItem_zone it o).1, (s.admitItem_zone it o).2, State.mem_admitItem mem o⟩
  case finish =>
    exact fun s it code reason found =>
      ⟨State.finish_notices found code reason, State.finish_outcomes found code reason, State.mem_finish found code reason⟩
  case spoil =>
    intro s it code loc line sess role found polder
    obtain ⟨item, notices, outcomes⟩ := State.spoil_recorded found polder code loc line sess role
    exact ⟨item, notices, outcomes⟩

/-- Settles O59: neither a full ledger nor a full zone gives a slot. -/
theorem submissionsWithoutASlotAreRejected : Obligations.SubmissionsWithoutASlotAreRejected := by
  intro s i d it parsed full
  have rejected : s.submit i d = (s.refuseSlot (Fin.ofNat 8 (fld d.hdr 8 3)) (fld d.hdr 32 32) (s.sid i) 7, 0xFFFF, 7) := by
    unfold State.submit
    rw [parsed]
    cases slots : s.freeSlots with
    | nil => rfl
    | cons slot rest => exact if_pos (full.resolve_left (by rw [slots]; exact List.cons_ne_nil _ _))
  rw [rejected]
  exact ⟨rfl, rfl, rfl, rfl, rfl⟩

section Abort

variable {s : State} {h : Nat} {w : Who} {it : Item} (found : s.item? h = some it) (acts : s.jobOnly it.zone w.sess = false)
include found acts

theorem State.abortItem_queued (queued : it.state = .queued) : s.abortItem h w = (s.finish h 11 19, .done) := by
  unfold State.abortItem
  simp only [found, acts, queued, Bool.false_eq_true, if_false, if_true]

theorem State.abortItem_polder (polder : it.state = .admitted ∨ it.state = .printing) :
    s.abortItem h w = ((s.spoil h 5 (s.loc 5 it.zone.val) none w.sess.val w.role).settle it.zone, .done) := by
  have waits : it.state ≠ .queued := by rcases polder with st | st <;> rw [st] <;> decide
  have inPolder : it.inPolder = true := by rcases polder with st | st <;> rw [Item.inPolder, st] <;> decide
  unfold State.abortItem
  simp only [found, acts, waits, inPolder, Bool.false_eq_true, if_false, if_true]

theorem State.abortItem_other (notQueued : it.state ≠ .queued) (notAdmitted : it.state ≠ .admitted) (notPrinting : it.state ≠ .printing) :
    s.abortItem h w = (s, .refuse abFinal) := by
  have out : it.inPolder = false := by rw [Item.inPolder, beq_false_of_ne notAdmitted, beq_false_of_ne notPrinting]; rfl
  unfold State.abortItem
  simp only [found, acts, notQueued, out, Bool.false_eq_true, if_false]

end Abort

/-- Settles O58: by the state of the item, the command is done or refused. -/
theorem anAbortActsOnItsItem : Obligations.AnAbortActsOnItsItem := by
  intro t k h s w it s1 a permitted found acts
  refine ⟨fun queued => ?_, fun polder => ?_, fun notQueued notAdmitted notPrinting => ?_⟩ <;> refine congrArg Host.Outcome.next ?_
  · exact State.command_done permitted (State.abortItem_queued found acts queued)
  · exact State.command_done permitted (State.abortItem_polder found acts polder)
  · exact State.command_refused permitted (State.abortItem_other found acts notQueued notAdmitted notPrinting)

end Sys2Proof.Machine
end

section
/-! PROOFS. The sluice (O14): a head item goes to it with its origin, passes it, or ends before it. -/

namespace Sys2Proof.Machine

/-- An item whose origin is known passes the sluice when no check has it end or wait. -/
theorem State.sluice_admits {s : State} {it : Item} {o : Int} (inOrder : s.outOfOrder it.zone o = false) (far : s.sluiceOk it.zone o = true)
    (streams : it.direct = true → s.zc it.zone 0x20 ≠ 0 ∧ s.streamCapacity it = true) (verified : s.residentVerified it = true)
    (heads : s.headsReady it.zone = true) (imaging : s.domains[(2 : Fin 11)].state = 2)
    (fits : s.loadFits it.zone (maxRes s.zones[it.zone].res (s.itemRes it)) = true) (noCommit : s.commitHolds it.zone = false) :
    s.sluice it o = s.admitItem it o := by
  have ring : ¬ (it.direct = true ∧ s.zc it.zone 0x20 = 0) := fun h => (streams h.1).1 h.2
  have capacity : ¬ (it.direct = true ∧ ¬ s.streamCapacity it = true) := fun h => h.2 (streams h.1).2
  unfold State.sluice
  simp only [inOrder, far, ring, verified, heads, capacity, imaging, fits, noCommit, ne_eq, not_true_eq_false, Bool.false_eq_true, or_self, if_false]

/-- A head item that passes the static checks goes to the sluice with its origin, the zone's reference where it was not resolved before. -/
theorem State.evaluate_to_sluice {s : State} {z : Fin 8} {it : Item} {o : Int} (head : (s.queue z).head? = some it) (static : s.staticReason it = 0)
    (marked : ¬ (it.startRule = 2 ∧ it.markAt = none)) (resolved : s.resolveOrigin it = some o) :
    let s1 := s.updItem it.handle fun x => { x with origin := some o }
    let s2 := if it.origin.isNone then s1.updZone z fun x => { x with refOrigin := some o } else s1
    s.evaluate z = s2.sluice { it with origin := some o } o := by
  have goesOn : ¬ (it.startRule = 2 ∧ it.markAt.isNone = true) := fun h => marked ⟨h.1, Option.isNone_iff_eq_none.mp h.2⟩
  unfold State.evaluate
  simp only [head, static, goesOn, resolved, ne_eq, not_true_eq_false, if_false]

theorem State.evaluate_rejects {s : State} {z : Fin 8} {it : Item} (head : (s.queue z).head? = some it) (fails : s.staticReason it ≠ 0) :
    s.evaluate z = s.finish it.handle 11 (s.staticReason it) := by
  unfold State.evaluate
  simp only [head, fails, ne_eq, not_false_eq_true, if_true]

theorem exec_admissionEvaluation {t : Nat} {z : Fin 8} {s : State} (running : (s.begin t).running 2 = true) :
    exec (.admissionEvaluation t z) s = .next ((s.begin t).evaluate z) := if_pos running

theorem exec_skippedNoMark {t : Nat} {z : Fin 8} {s : State} {it : Item} (head : ((s.begin t).queue z).head? = some it)
    (running : (s.begin t).running 2 = true) (byMark : it.startRule = 2) (unmarked : it.markAt = none) (past : (s.begin t).windowPast it = true) :
    exec (.skippedNoMark t z) s = .next ((s.begin t).finish it.handle 10 0) := by
  change execSkippedNoMark t z s = _
  unfold execSkippedNoMark
  simp only [head, running, byMark, unmarked, past, Option.isNone_none, and_self, if_true]

section Origin

variable {s : State} {it : Item} (unresolved : it.origin = none)
include unresolved

theorem State.resolveOrigin_absolute (rule : it.startRule = 0) : s.resolveOrigin it = some it.start := by
  unfold State.resolveOrigin
  simp only [unresolved, rule]

theorem State.resolveOrigin_pitch {r : Int} (rule : it.startRule = 1) (ref : s.zones[it.zone].refOrigin = some r) :
    s.resolveOrigin it = some (pos48 (r + it.start)) := by
  unfold State.resolveOrigin
  simp only [unresolved, rule, ref, Option.map_some]

theorem State.resolveOrigin_mark {m : Int} (rule : it.startRule = 2) (mark : it.markAt = some m) :
    s.resolveOrigin it = some (pos48 (m + it.start)) := by
  unfold State.resolveOrigin
  simp only [unresolved, rule, mark, Option.map_some]

end Origin

/-- Settles O14: the head item goes to the sluice with its origin and passes it, or ends at a static check or without its mark. -/
theorem theSluiceAdmits : Obligations.TheSluiceAdmits := by
  refine ⟨?admits, ?origins, ?rejects, ?skips⟩
  case admits =>
    rintro t z s it o s0 s1 s2 it1 running head static marked rfl resolved inOrder far streams verified heads imaging fits noCommit
    rw [exec_admissionEvaluation running, State.evaluate_to_sluice head static marked resolved]
    exact congrArg Host.Outcome.next (State.sluice_admits (it := it1) inOrder far streams verified heads imaging fits noCommit)
  case origins =>
    exact fun s it unresolved => ⟨State.resolveOrigin_absolute unresolved, fun r => State.resolveOrigin_pitch unresolved,
      fun m => State.resolveOrigin_mark unresolved⟩
  case rejects =>
    rintro t z s it _ running head rfl fails
    rw [exec_admissionEvaluation running, State.evaluate_rejects head fails]
  case skips => exact fun t z s it head running byMark unmarked past => exec_skippedNoMark head running byMark unmarked past

end Sys2Proof.Machine
end

section
/-! PROOFS. Fire reports (O16): the report of a stamped line, of a withdrawn one, and the one that does not come. -/

namespace Sys2Proof.Machine

theorem exec_fireReport_stamped {t : Nat} {l : Fin 16} {rep : FireRep} {s : State} {h : Fin 64} {it : Item} {y : Stamped}
    (at_ : (s.begin t).headAt l rep.addr = some h) (ok : rep.ok = true) (found : (s.begin t).item? rep.handle = some it)
    (line : ((s.begin t).heads[h].rows[Fin.ofNat 4 rep.row].stamped.find? fun y =>
      y.handle == rep.handle && y.void == rep.void && (y.line % max 1 it.lineCount == rep.line && y.fire == rep.fireFt)) = some y) :
    exec (.fireReport t l rep) s = .next (((s.begin t).reportLine h (Fin.ofNat 4 rep.row) y rep.result).settle it.zone) := by
  change execFireReport t l rep s = _
  unfold execFireReport
  simp only [ok, at_, found, line, Bool.not_true, Bool.false_eq_true, if_false]

/-- The head counts the line that it fired, and the line leaves its row. -/
def State.lineCounted (s : State) (h : Fin 64) (r : Fin 4) (y : Stamped) : State :=
  (s.headCounts h r y 0).updRow h r fun x =>
    { x with stamped := x.stamped.filter (fun y' => y' ≠ y), lastFire := max x.lastFire y.fire, lastEnd := max x.lastEnd y.lastSeg }

theorem State.reportLine_fired {s : State} {h : Fin 64} {r : Fin 4} {y : Stamped} {it : Item}
    (found : (s.lineCounted h r y).item? y.handle = some it) :
    let s1 := (s.lineCounted h r y).itemFired y false
    s.reportLine h r y 0 =
      if it.noticed ∨ it.held then { s1 with lateReports := s1.lateReports + 1 }
      else (s1.updItem y.handle fun x => { x with reported := x.reported + 1 }).deliver y.handle := by
  have fired : resultFired 0 = true := rfl
  unfold State.lineCounted at found ⊢
  unfold State.reportLine
  simp only [found, fired, if_true, OfNat.zero_ne_ofNat, decide_false, true_or]

theorem State.headCounts_suppressed {s : State} {h : Fin 64} {r : Fin 4} {y : Stamped} {result : Nat}
    (suppressed : result = 1 ∨ result = 3 ∨ result = 5 ∨ result = 6) :
    s.headCounts h r y result = s.updHead h fun x => { x with suppressed := x.suppressed + 1 } := by
  rcases suppressed with rfl | rfl | rfl | rfl <;> rfl

section Withdrawn

variable {s : State} {h : Fin 64} {r : Fin 4} {w : Withdrawn} {it : Item} {result : Nat}

/-- The row without the withdrawn line, its report counted with the head. -/
def State.withdrawnCounted (s : State) (h : Fin 64) (r : Fin 4) (w : Withdrawn) (result : Nat) : State :=
  (s.updRow h r fun x => { x with withdrawn := x.withdrawn.filter fun y => y ≠ w }).headCounts h r w.toStamped result

theorem State.reportWithdrawn_late (found : (s.withdrawnCounted h r w result).item? w.handle = some it) (handed : it.noticed = true ∨ it.held = true) :
    s.reportWithdrawn h r w result =
      { s.withdrawnCounted h r w result with lateReports := (s.withdrawnCounted h r w result).lateReports + 1 } := by
  unfold State.withdrawnCounted at found ⊢
  unfold State.reportWithdrawn
  simp only [found, handed, if_true]

theorem State.reportWithdrawn_fired (found : (s.withdrawnCounted h r w 0).item? w.handle = some it) (waits : it.noticed = false)
    (free : it.held = false) (composed : w.void = false) :
    s.reportWithdrawn h r w 0 =
      (s.withdrawnCounted h r w 0).spoil w.handle 3 ((s.withdrawnCounted h r w 0).linkLoc h r) (some w.line) 0 0 := by
  have fired : resultFired 0 = true := rfl
  unfold State.withdrawnCounted at found ⊢
  unfold State.reportWithdrawn
  simp only [found, waits, free, composed, fired, Bool.false_eq_true, or_self, not_true_eq_false,
    if_false, OfNat.zero_ne_ofNat]

end Withdrawn

section Timeout

variable {t : Nat} {h : Fin 64} {r : Fin 4} {s : State} {y : Stamped}

/-- The row with an overdue line marked as missed. -/
def State.lineMissed (s : State) (h : Fin 64) (r : Fin 4) (y : Stamped) : State :=
  s.updRow h r fun x => { x with stamped := x.stamped.map fun z => if z = y then { z with missed := true } else z }

variable (overdue : ((s.begin t).heads[h].rows[r].stamped.find? fun l => !l.missed && decide (l.fire + usFt 100 ≤ (s.begin t).ft)) = some y)
include overdue

theorem exec_fireReportTimeout_void (void : y.void = true) : exec (.fireReportTimeout t h r) s = .next ((s.begin t).lineMissed h r y) := by
  change execFireReportTimeout t h r s = _
  unfold execFireReportTimeout
  simp only [overdue, void, if_true, State.lineMissed]

theorem exec_fireReportTimeout_spoils {it : Item} (composed : y.void = false)
    (found : (((s.begin t).lineMissed h r y).spoil y.handle 3 (((s.begin t).lineMissed h r y).linkLoc h r) none 0 0).item? y.handle = some it) :
    exec (.fireReportTimeout t h r) s =
      .next ((((s.begin t).lineMissed h r y).spoil y.handle 3 (((s.begin t).lineMissed h r y).linkLoc h r) none 0 0).settle it.zone) := by
  change execFireReportTimeout t h r s = _
  unfold State.lineMissed at found ⊢
  unfold execFireReportTimeout
  simp only [overdue, composed, Bool.false_eq_true, if_false, found]

end Timeout

/-- Settles O16: a lemma for the report of each kind of line and for the one that does not come. -/
theorem fireReportsCount : Obligations.FireReportsCount := by
  refine ⟨?report, ?line, ?counts, ?withdrawn, ?timeout⟩
  case report =>
    intro t l rep s h it y s0 r at_ ok _ fired found line
    rw [exec_fireReport_stamped at_ ok found line, fired]
  case line => exact fun s h r y it => State.reportLine_fired
  case counts => exact fun s h r y result => ⟨rfl, rfl, rfl, State.headCounts_suppressed⟩
  case withdrawn =>
    intro s h r w it result s0 found
    refine ⟨State.reportWithdrawn_late found, ?_⟩
    rintro waits free composed rfl
    exact State.reportWithdrawn_fired found waits free composed
  case timeout =>
    intro t h r s y s0 s1 s2 overdue
    exact ⟨exec_fireReportTimeout_void overdue, fun it composed found => exec_fireReportTimeout_spoils overdue composed found⟩

end Sys2Proof.Machine
end

section
/-! PROOFS. Outcomes and reject pulses (O17): one lemma for each command on the path that the statement names. -/

namespace Sys2Proof.Machine

/-! ### Outcomes (R63, R64) -/

theorem exec_outcomeNotice {t : Nat} {s : State} {n : Notice} {rest : List Notice} (waiting : s.notices = n :: rest) :
    exec (.outcomeNotice t) s = .next (({ s.begin t with notices := rest } : State).handNotice n) := by
  change execOutcomeNotice t s = _
  unfold execOutcomeNotice
  simp only [State.begin_notices, waiting]

theorem State.handNotice_sends {s : State} {n : Notice} {it : Item} {o : Outcome} {i : Fin 32} (slot : n.noSlot = none)
    (found : s.item? n.handle = some it) (ended : it.outcome = some o) (to_ : s.noticeSession n = some i) :
    let f := s.lineFigures it
    let s1 := (s.updItem n.handle fun x => { x with handedFired := f.1, handedBad := f.2, noticed := true, held := false }).outcomeEvent
      n.zone n.handle n.hostId o f.2 f.1 it.bySession it.byRole
    let s2 := s1.sendSeq i 0x1B 44 (outcomeBody (({ it with handedFired := f.1, handedBad := f.2 } : Item).record o)) [n.handle] n.zone.val
    s.handNotice n = ({ s2 with noticesSent := s1.noticesSent + 1 } : State).settle n.zone := by
  unfold State.handNotice
  simp only [slot, found, ended, to_, Option.isSome_some, Option.isNone_some]

theorem State.outcomeTaken_held {s : State} {h : Nat} {it : Item} (found : s.item? h = some it) (held : it.held = true) :
    s.outcomeTaken h = (s.updItem h fun x => { x with held := false, noticed := true }).settle it.zone := by
  unfold State.outcomeTaken
  simp only [found, held, if_true]

theorem exec_itemOutcomeRead {t : Nat} {k : Kop} {s s1 : State} {w : Fin 32} (taken : Safety.taken s t k = s1)
    (granted : (Safety.grant (s.begin t) k).1 = some w) (names : k.names 1 0x2400 0x02 = true) (role : s1.sessions[w].roles &&& 15 ≠ 0)
    (off : k.off = 0) (len : k.len = 40) :
    let h := s1.outcomeSelect w
    exec (.itemOutcomeRead t k) s =
      .next ((s1.respond w { s1.plainResp k 0 with size := 40, data := fld (s1.outcomeRead h) 0 320, dlen := 40 }).outcomeTaken h) := by
  have arrives : (s.begin t).arrive (.itemOutcomeRead t k) k = (some w, s1) := State.arrive_of_grant (Prod.ext granted taken)
  change execItemOutcomeRead t k s = _
  unfold execItemOutcomeRead
  simp only [arrives, names, role, off, len, Bool.not_true, Bool.false_eq_true, if_false]
  rfl

/-! ### The gate (R72, R276, R277) -/

theorem exec_rejectAssert {t : Nat} {z : Fin 8} {handle : Nat} {s : State} {g : Fin 8} {it : Item} (gate : (s.begin t).zoneGate z = some g)
    (found : (s.begin t).item? handle = some it) (zone : it.zone = z) (spoiled : it.state = .spoiled ∨ it.state = .spoiledTail)
    (fresh : it.pulsed = false) (here : it.gone = false) (free : (s.begin t).zones[z].hold = false) (due : (s.begin t).gateDue g it = true) :
    exec (.rejectAssert t z handle) s = .next (((s.begin t).assertGate g handle).settle z) := by
  change execRejectAssert t z handle s = _
  unfold execRejectAssert
  simp only [gate, found, zone, spoiled, fresh, here, free, due, Bool.false_eq_true, not_false_eq_true, and_self, if_true]

theorem State.assertGate_gates (s : State) (g : Fin 8) (h : Nat) :
    (s.assertGate g h).gates = vupd s.gates g fun x =>
      { x with asserted := true, since := if s.gates[g].asserted then x.since else s.ft,
               minEnd := max x.minEnd (s.ft + usFt (s.gc g 0x03)), handles := x.handles ++ ((s.item? h).map (s.pulseOf g)).toList,
               pulses := x.pulses + 1 } := by
  unfold State.assertGate
  exact (apply_ite State.gates _ _ _).trans (ite_self _)

/-- The output is driven only where it was not asserted before. -/
theorem State.assertGate_out (s : State) (g : Fin 8) (h : Nat) :
    (s.assertGate g h).out = if s.gates[g].asserted then s.out else s.out ++ [.gate g.val (true != (s.gc g 0x05 == 1))] := by
  unfold State.assertGate
  extract_lets was s1 s2
  split <;> rfl

theorem exec_rejectRelease {t : Nat} {z : Fin 8} {s s0 : State} {g : Fin 8} (tests : (s.begin t).endTests = s0) (gate : s0.zoneGate z = some g)
    (asserted : s0.gates[g].asserted = true) (free : s0.zones[z].hold = false) (shortest : s0.gates[g].minEnd ≤ s0.ft)
    (passed : s0.gates[g].handles.all s0.pulseOver = true) :
    let s1 := s0.updGate g fun y => { y with asserted := false, handles := [], test := false }
    exec (.rejectRelease t z) s = .next (((if s1.zc z 0x30 = 0 then s1
      else s0.gates[g].handles.foldl (fun s p => s.updItem p.handle fun it => { it with gone := true }) s1).gateOut g false).settle z) := by
  change execRejectRelease t z s = _
  unfold execRejectRelease
  simp only [tests, gate, asserted, free, shortest, passed, Bool.false_eq_true, not_false_eq_true, and_self, if_true]

theorem exec_rejectHoldClear {t : Nat} {k : Kop} {z : Fin 8} {s : State} {w : Fin 32} (permitted : Safety.Admits s t k (zIdx z) 0x16 1 w)
    (holds : (Safety.taken s t k).zones[z].hold = true) :
    let s1 := Safety.taken s t k
    exec (.rejectHoldClear t k z) s =
      .next (Safety.done (((s1.lossLeft z).foldl (fun s h => s.updItem h fun it => { it with gone := true }) s1).releaseHold z (s1.lossLeft z).length)
        w k (zIdx z) 0x16) :=
  congrArg Host.Outcome.next (State.command_done permitted (if_pos holds))

/-- Settles O17: a lemma for each command, and for what a hand-over sends and an assertion drives. -/
theorem outcomesReachTheHostAndTheGate : Obligations.OutcomesReachTheHostAndTheGate := by
  refine ⟨⟨?notice, ?hand, ?read⟩, ?assert, ?drive, ?release, ?clear⟩
  case notice => exact fun t s n rest => exec_outcomeNotice
  case hand => exact fun s n it o i => State.handNotice_sends
  case read =>
    intro t k s w it s1 h s2 granted names role off len found held
    rw [exec_itemOutcomeRead rfl granted names role off len, State.outcomeTaken_held found held]
  case assert => exact fun t z handle s g it => exec_rejectAssert
  case drive => exact fun s g h => ⟨s.assertGate_gates g h, s.assertGate_out g h⟩
  case release => exact fun t z s g => exec_rejectRelease rfl
  case clear => exact fun t k z s w => exec_rejectHoldClear

end Sys2Proof.Machine
end

section
/-! PROOFS. Zone control (O18): what ENABLE, DRAIN and ABORT do to the zone, the end of a drain, and the event of a change of state. -/

namespace Sys2Proof.Machine

theorem State.enableZone_disabled {s : State} {z : Fin 8} (life : s.lifeCycle = 1 ∨ s.lifeCycle = 2 ∨ s.lifeCycle = 3) (up : s.devState = 1)
    (off : s.zones[z].state = .disabled) (ready : s.zoneReady z = 0) :
    let s1 := s.setZoneState z .enabled
    s.enableZone z = ((s1.updZone z fun x => { x with refOrigin := none, hwm := s1.counted z }).discardHeld z, .done) := by
  have lives : ¬ (s.lifeCycle = 0 ∨ s.lifeCycle = 4) := by omega
  unfold State.enableZone
  simp only [lives, up, off, ready, reduceCtorEq, ne_eq, not_true_eq_false, or_self, if_false, if_true]

theorem State.drainZone_enabled {s : State} {z : Fin 8} (on : s.zones[z].state = .enabled) :
    s.drainZone z = (s.setZoneState z .draining).rejectQueue z := if_pos on

theorem State.abortZone_on {s : State} {z : Fin 8} (who : Who) (on : s.zones[z].state = .enabled ∨ s.zones[z].state = .draining) :
    let s1 := (s.setZoneState z .aborting).rejectQueue z
    s.abortZone z who =
      (((s1.zoneItems z).filter s1.unsettled).foldl (fun s it => s.spoil it.handle 5 (s.loc 5 z.val) none who.sess.val who.role) s1).settle z :=
  if_pos on

theorem exec_zoneDrainComplete {t : Nat} {z : Fin 8} {s : State}
    (ending : (s.begin t).zones[z].state = .draining ∨ (s.begin t).zones[z].state = .aborting) (empty : ((s.begin t).polder z).isEmpty = true) :
    exec (.zoneDrainComplete t z) s =
      .next ((s.begin t).setZoneState z (if ((s.begin t).tracked z).isEmpty then .disabled else .tail)) := if_pos ⟨ending, empty⟩

theorem State.setZoneState_changes {s : State} {z : Fin 8} {st : ZoneState} (changes : s.zones[z].state ≠ st) :
    s.setZoneState z st = (s.updZone z fun x => { x with state := st }).event 0x2801 (s.loc 5 z.val)
      [(16, zIdx z), (8, 0x10), (8, 0), (32, s.zones[z].state.code), (32, st.code), (64, s.ft)] := if_neg changes

theorem State.event_zones (s : State) (code loc : Nat) (payload : List (Nat × Nat)) : (s.event code loc payload).zones = s.zones := by
  unfold State.event State.eventBy State.addEvent
  split <;> rfl

/-- Settles O18: the three commands by what their actions do on the path named, the change of a state by its event. -/
theorem zonesAreControlledAndReport : Obligations.ZonesAreControlledAndReport := by
  refine ⟨⟨?enable, ?drain, ?abort, ?complete⟩, ?reports⟩
  case enable =>
    exact fun t k z s w permitted life up off ready =>
      congrArg Host.Outcome.next (State.command_done permitted (State.enableZone_disabled life up off ready))
  case drain =>
    exact fun t k z s w permitted on =>
      congrArg Host.Outcome.next (State.command_done permitted (congrArg (·, CmdRes.done) (State.drainZone_enabled on)))
  case abort =>
    exact fun t k z s w permitted on =>
      congrArg Host.Outcome.next (State.command_done permitted (congrArg (·, CmdRes.done) (State.abortZone_on _ on)))
  case complete => exact fun t z s => exec_zoneDrainComplete
  case reports =>
    intro s z st changes
    rw [State.setZoneState_changes changes]
    exact ⟨State.event_zones .., rfl⟩

end Sys2Proof.Machine
end

section
/-! PROOFS. The external DRAM (O5, O6): which commands write it, and that every step keeps its canonical form. The form itself, rising
addresses and no byte 0, is the model's own (notes/assumptions/14). -/

namespace Sys2Proof.Machine

/-- The commands that write external DRAM: data of a load, the line index of a tile, and bits that change by themselves before a read
(R79, R85, R108). -/
def WritesDram : Instr → Prop
  | .loadData .. => True
  | .tileVerify .. => True
  | .rowLineCompose .. => True
  | _ => False

/-- The commands that change one of the fields that few operations change (`Kept`): those that write DRAM, the persistent store, the fuses, the
recorder or the tamper latch, and the resets. -/
def ChangesKept : Instr → Prop
  | .loadData .. => True
  | .tileVerify .. => True
  | .rowLineCompose .. => True
  | .storeSave .. => True
  | .storeSaveRestart .. => True
  | .storeErase .. => True
  | .saveComplete .. => True
  | .lifeCycleRequest .. => True
  | .tamperDetect .. => True
  | .tamperClear .. => True
  | .recordCommit .. => True
  | .recorderClear .. => True
  | .powerOnReset .. => True
  | .externalReset .. => True
  | .debugReset .. => True
  | .supplyOutOfRange .. => True
  | .coreSupplyExcursion .. => True
  | .clockLoss .. => True
  | .powerDownProgress .. => True
  | .commandedResetTimeout .. => True
  | _ => False

/-! ### Every command -/

/-- Every other command leaves all those fields as they are. -/
theorem exec_kept {c : Instr} {s : State} (other : ¬ ChangesKept c) : Lands (fun x => x.kept = s.kept) (exec c s) := by
  unfold exec
  cases c with
  | loadData | tileVerify | rowLineCompose | storeSave | storeSaveRestart | storeErase | saveComplete | lifeCycleRequest | tamperDetect
    | tamperClear | recordCommit | recorderClear | powerOnReset | externalReset | debugReset | supplyOutOfRange | coreSupplyExcursion
    | clockLoss | powerDownProgress | commandedResetTimeout => exact absurd trivial other
  | itemSubmit => exact execItemSubmit_kept rfl
  | submission => exact execSubmission_kept rfl
  | admissionEvaluation => exact execAdmissionEvaluation_kept rfl
  | skippedNoMark => exact execSkippedNoMark_kept rfl
  | fireReport => exact execFireReport_kept rfl
  | fireReportTimeout => exact execFireReportTimeout_kept rfl
  | outcomeNotice => exact execOutcomeNotice_kept rfl
  | itemOutcomeRead => exact execItemOutcomeRead_kept rfl
  | rejectAssert => exact execRejectAssert_kept rfl
  | rejectRelease => exact execRejectRelease_kept rfl
  | zoneEnable => exact execZoneEnable_kept rfl
  | zoneDrain => exact execZoneDrain_kept rfl
  | zoneAbort => exact execZoneAbort_kept rfl
  | zoneDrainComplete => exact execZoneDrainComplete_kept rfl
  | rejectHoldClear => exact execRejectHoldClear_kept rfl
  | itemAbort => exact execItemAbort_kept rfl
  | templateBegin => exact execTemplateBegin_kept rfl
  | tileBegin => exact execTileBegin_kept rfl
  | loadCancel => exact execLoadCancel_kept rfl
  | templateVerify => exact execTemplateVerify_kept rfl
  | templateDelete => exact execTemplateDelete_kept rfl
  | tileDelete => exact execTileDelete_kept rfl
  | dramChannelFault => exact execDramChannelFault_kept rfl
  | dramRetrainComplete => exact execDramRetrainComplete_kept rfl
  | streamLine => exact execStreamLine_kept rfl
  | generationInstall => exact execGenerationInstall_kept rfl
  | encoderEdge => exact execEncoderEdge_kept rfl
  | heldEdgeProcess => exact execHeldEdgeProcess_kept rfl
  | edgeTimeout => exact execEdgeTimeout_kept rfl
  | frameBuildEvaluation => exact execFrameBuildEvaluation_kept rfl
  | cancelSend => exact execCancelSend_kept rfl
  | traverseArm => exact execTraverseArm_kept rfl
  | traverseEnd => exact execTraverseEnd_kept rfl
  | alignmentPattern => exact execAlignmentPattern_kept rfl
  | syncFrameSend => exact execSyncFrameSend_kept rfl
  | syncFrameReceive => exact execSyncFrameReceive_kept rfl
  | fireTimerStep => exact execFireTimerStep_kept rfl
  | syncHoldover => exact execSyncHoldover_kept rfl
  | syncStartupEnd => exact execSyncStartupEnd_kept rfl
  | boardFaultAssert => exact execBoardFaultAssert_kept rfl
  | vphSample => exact execVphSample_kept rfl
  | vphSampleTimeout => exact execVphSampleTimeout_kept rfl
  | sourceResistanceEstimate => exact execSourceResistanceEstimate_kept rfl
  | temperatureStale => exact execTemperatureStale_kept rfl
  | supplyOn => exact execSupplyOn_kept rfl
  | supplyOff => exact execSupplyOff_kept rfl
  | chainSupplyReset => exact execChainSupplyReset_kept rfl
  | supplyRampStart => exact execSupplyRampStart_kept rfl
  | rampTimeout => exact execRampTimeout_kept rfl
  | inrushTimeout => exact execInrushTimeout_kept rfl
  | switchLeak => exact execSwitchLeak_kept rfl
  | hvDieLoss => exact execHvDieLoss_kept rfl
  | linkBringup => exact execLinkBringup_kept rfl
  | linkBringupRetry => exact execLinkBringupRetry_kept rfl
  | portAutoBringup => exact execPortAutoBringup_kept rfl
  | enumerate => exact execEnumerate_kept rfl
  | echoMeasurement => exact execEchoMeasurement_kept rfl
  | timePairSend => exact execTimePairSend_kept rfl
  | lineFrameTransmit => exact execLineFrameTransmit_kept rfl
  | statusFrame => exact execStatusFrame_kept rfl
  | lossReport => exact execLossReport_kept rfl
  | controlResponse => exact execControlResponse_kept rfl
  | controlTimeout => exact execControlTimeout_kept rfl
  | statusTimeout => exact execStatusTimeout_kept rfl
  | neighbourLockTimeout => exact execNeighbourLockTimeout_kept rfl
  | portBlockLockLoss => exact execPortBlockLockLoss_kept rfl
  | spareTakeoverL0 => exact execSpareTakeoverL0_kept rfl
  | spareTakeoverL1 => exact execSpareTakeoverL1_kept rfl
  | spareRelease => exact execSpareRelease_kept rfl
  | laneMove => exact execLaneMove_kept rfl
  | reverseBlock => exact execReverseBlock_kept rfl
  | dualLockRegained => exact execDualLockRegained_kept rfl
  | restore => exact execRestore_kept rfl
  | headVerification => exact execHeadVerification_kept rfl
  | trimLoad => exact execTrimLoad_kept rfl
  | scanBlockStart => exact execScanBlockStart_kept rfl
  | scanBlockComplete => exact execScanBlockComplete_kept rfl
  | scanIntervalExpiry => exact execScanIntervalExpiry_kept rfl
  | scanFull => exact execScanFull_kept rfl
  | scanRebaseline => exact execScanRebaseline_kept rfl
  | warmStep => exact execWarmStep_kept rfl
  | cooldownReturn => exact execCooldownReturn_kept rfl
  | wireDisagreement => exact execWireDisagreement_kept rfl
  | ssiRead => exact execSsiRead_kept rfl
  | sincosSample => exact execSincosSample_kept rfl
  | indexPulse => exact execIndexPulse_kept rfl
  | channelStarted => exact execChannelStarted_kept rfl
  | channelClear => exact execChannelClear_kept rfl
  | channelPreset => exact execChannelPreset_kept rfl
  | speedSample => exact execSpeedSample_kept rfl
  | markEdge => exact execMarkEdge_kept rfl
  | markOffer => exact execMarkOffer_kept rfl
  | switchEdge => exact execSwitchEdge_kept rfl
  | gateTest => exact execGateTest_kept rfl
  | axisEnable => exact execAxisEnable_kept rfl
  | axisDisable => exact execAxisDisable_kept rfl
  | moveAbsolute => exact execMoveAbsolute_kept rfl
  | moveRelative => exact execMoveRelative_kept rfl
  | axisStop => exact execAxisStop_kept rfl
  | axisHome => exact execAxisHome_kept rfl
  | followStart => exact execFollowStart_kept rfl
  | followEnd => exact execFollowEnd_kept rfl
  | axisPowerDown => exact execAxisPowerDown_kept rfl
  | retRelease => exact execRetRelease_kept rfl
  | retentionCheck => exact execRetentionCheck_kept rfl
  | retentionComplete => exact execRetentionComplete_kept rfl
  | retentionTimeout => exact execRetentionTimeout_kept rfl
  | axisPreset => exact execAxisPreset_kept rfl
  | axisClear => exact execAxisClear_kept rfl
  | groupMove => exact execGroupMove_kept rfl
  | groupStop => exact execGroupStop_kept rfl
  | moveComplete => exact execMoveComplete_kept rfl
  | stopComplete => exact execStopComplete_kept rfl
  | virtualLimitCrossed => exact execVirtualLimitCrossed_kept rfl
  | coarseStep => exact execCoarseStep_kept rfl
  | driverSupplyLoss => exact execDriverSupplyLoss_kept rfl
  | feedMoveStart => exact execFeedMoveStart_kept rfl
  | calibrationTemperatureCheck => exact execCalibrationTemperatureCheck_kept rfl
  | encoderCollectionComplete => exact execEncoderCollectionComplete_kept rfl
  | collectionTimeout => exact execCollectionTimeout_kept rfl
  | encoderComputeDone => exact execEncoderComputeDone_kept rfl
  | encoderVerifyDone => exact execEncoderVerifyDone_kept rfl
  | calibrationApply => exact execCalibrationApply_kept rfl
  | applyTimeout => exact execApplyTimeout_kept rfl
  | receiveRunStart => exact execReceiveRunStart_kept rfl
  | receiveRunComplete => exact execReceiveRunComplete_kept rfl
  | transmitRunStart => exact execTransmitRunStart_kept rfl
  | transmitLockTimeout => exact execTransmitLockTimeout_kept rfl
  | requestCancel => exact execRequestCancel_kept rfl
  | requestEncoderCal => exact execRequestEncoderCal_kept rfl
  | requestLaneCal => exact execRequestLaneCal_kept rfl
  | requestElementScan => exact execRequestElementScan_kept rfl
  | requestMemoryTest => exact execRequestMemoryTest_kept rfl
  | requestWindowCheck => exact execRequestWindowCheck_kept rfl
  | requestDeadline => exact execRequestDeadline_kept rfl
  | calibrationValueWrite => exact execCalibrationValueWrite_kept rfl
  | autoCalibrationWrite => exact execAutoCalibrationWrite_kept rfl
  | hostLinkUp => exact execHostLinkUp_kept rfl
  | hostLinkDown => exact execHostLinkDown_kept rfl
  | ptpMessage => exact execPtpMessage_kept rfl
  | hello => exact execHello_kept rfl
  | proof => exact execProof_kept rfl
  | handshakeTimeout => exact execHandshakeTimeout_kept rfl
  | heartbeat => exact execHeartbeat_kept rfl
  | close => exact execClose_kept rfl
  | ack => exact execAck_kept rfl
  | ackSend => exact execAckSend_kept rfl
  | retransmit => exact execRetransmit_kept rfl
  | leaseExpiry => exact execLeaseExpiry_kept rfl
  | sessionEvict => exact execSessionEvict_kept rfl
  | ownershipClaim => exact execOwnershipClaim_kept rfl
  | ownershipRelease => exact execOwnershipRelease_kept rfl
  | ownershipTake => exact execOwnershipTake_kept rfl
  | ownershipLapse => exact execOwnershipLapse_kept rfl
  | registerWrite => exact execRegisterWrite_kept rfl
  | txBegin => exact execTxBegin_kept rfl
  | txWrite => exact execTxWrite_kept rfl
  | txRead => exact execTxRead_kept rfl
  | txCommit => exact execTxCommit_kept rfl
  | txAbort => exact execTxAbort_kept rfl
  | txStatus => exact execTxStatus_kept rfl
  | commitApply => exact execCommitApply_kept rfl
  | commitTimeout => exact execCommitTimeout_kept rfl
  | transactionExpiry => exact execTransactionExpiry_kept rfl
  | transactionSlotAbort => exact execTransactionSlotAbort_kept rfl
  | canFrame => exact execCanFrame_kept rfl
  | canReassemblyTimeout => exact execCanReassemblyTimeout_kept rfl
  | engineWatchdog => exact execEngineWatchdog_kept rfl
  | engineInvalidOperation => exact execEngineInvalidOperation_kept rfl
  | engineRestart => exact execEngineRestart_kept rfl
  | uncorrectableWord => exact execUncorrectableWord_kept rfl
  | regionTestStart => exact execRegionTestStart_kept rfl
  | regionTestComplete => exact execRegionTestComplete_kept rfl
  | memoryTestRegion => exact execMemoryTestRegion_kept rfl
  | transparentTestWrite => exact execTransparentTestWrite_kept rfl
  | ownerKeyLoad => exact execOwnerKeyLoad_kept rfl
  | headMakerListReplace => exact execHeadMakerListReplace_kept rfl
  | headMakerListAdd => exact execHeadMakerListAdd_kept rfl
  | headMakerListRemove => exact execHeadMakerListRemove_kept rfl
  | operatingSecondsWrite => exact execOperatingSecondsWrite_kept rfl
  | calendarDiscipline => exact execCalendarDiscipline_kept rfl
  | calendarSet => exact execCalendarSet_kept rfl
  | snapshot => exact execSnapshot_kept rfl
  | boardSnapshot => exact execBoardSnapshot_kept rfl
  | snapshotPeriod => exact execSnapshotPeriod_kept rfl
  | snapshotLatch => exact execSnapshotLatch_kept rfl
  | snapshotBufferSwap => exact execSnapshotBufferSwap_kept rfl
  | restart => exact execRestart_kept rfl
  | lanePllLoss => exact execLanePllLoss_kept rfl
  | dieTemperatureSample => exact execDieTemperatureSample_kept rfl
  | deviceReady => exact execDeviceReady_kept rfl
  | domainRetention => exact execDomainRetention_kept rfl
  | domainOff => exact execDomainOff_kept rfl
  | domainWake => exact execDomainWake_kept rfl
  | domainWakeComplete => exact execDomainWakeComplete_kept rfl
  | orderlyPowerDown => exact execOrderlyPowerDown_kept rfl
  | blockLockLost => exact execBlockLockLost_kept rfl
  | blockLockGained => exact execBlockLockGained_kept rfl
  | fecModeStart => exact execFecModeStart_kept rfl
  | canBusError => exact execCanBusError_kept rfl
  | busOffRecovery => exact execBusOffRecovery_kept rfl
  | terminationCalibrationDone => exact execTerminationCalibrationDone_kept rfl
  | engineRunning => exact execEngineRunning_kept rfl

/-- A command that does not write DRAM leaves both channels as they are. -/
theorem exec_dram {c : Instr} {s : State} (other : ¬ WritesDram c) : Lands (fun x => x.dram = s.dram) (exec c s) := by
  by_cases changes : ChangesKept c
  case neg => exact fun x e => State.dram_of (exec_kept changes x e)
  case pos =>
    unfold ChangesKept at changes
    split at changes
    · exact absurd trivial other
    · exact absurd trivial other
    · exact absurd trivial other
    · exact execStoreSave_dram rfl
    · exact execStoreSaveRestart_dram rfl
    · exact execStoreErase_dram rfl
    · exact execSaveComplete_dram rfl
    · exact execLifeCycleRequest_dram rfl
    · exact execTamperDetect_dram rfl
    · exact execTamperClear_dram rfl
    · exact execRecordCommit_dram rfl
    · exact execRecorderClear_dram rfl
    · exact execPowerOnReset_dram rfl
    · exact execExternalReset_dram rfl
    · exact execDebugReset_dram rfl
    · exact execSupplyOutOfRange_dram rfl
    · exact execCoreSupplyExcursion_dram rfl
    · exact execClockLoss_dram rfl
    · exact execPowerDownProgress_dram rfl
    · exact execCommandedResetTimeout_dram rfl
    · exact changes.elim

/-! ### Every step -/

theorem exec_canonical {c : Instr} {s : State} (h : Safety.DramCanonical s) : Lands Safety.DramCanonical (exec c s) := by
  by_cases writes : WritesDram c
  case neg => exact fun x e => canonical_of_dram (exec_dram writes x e) h
  case pos =>
    unfold WritesDram at writes
    split at writes
    · exact execLoadData_canonical h
    · exact execTileVerify_canonical h
    · exact execRowLineCompose_canonical h
    · exact writes.elim

/-- A step is a command, whether of the queue or one that waited, or a cycle without one. -/
theorem step_canonical {s : State} (h : Safety.DramCanonical s) : Lands Safety.DramCanonical (step s) := by
  unfold step
  split
  · exact exec_canonical h
  · split
    · exact exec_canonical h
    · exact Lands.next (canonical_of_dram (State.tick_dram rfl) h)

/-- Settles O5: a command that does not write DRAM leaves it alone, and those that write it do so by writes that keep the form. -/
theorem stepsKeepTheDramCanonical : Obligations.StepsKeepTheDramCanonical := fun _ s' h e => step_canonical h s' e

/-- No byte is listed at reset. -/
theorem reset_dram : State.reset.dram = Vector.replicate 2 [] := rfl

/-- Settles O6: the empty list is canonical. -/
theorem resetDramIsCanonical : Obligations.ResetDramIsCanonical := by
  have empty : Memory.wf [] := ⟨.nil, nofun⟩
  refine canonical_of_get fun c => ?_
  rw [reset_dram]
  simpa using empty

end Sys2Proof.Machine
end

section
/-! PROOFS. Templates and tiles (O19, O20): how a load opens, takes data, is cancelled and verified, and what deleting does. One lemma says what an
operation does on its path; the command that runs it cites that lemma. -/

namespace Sys2Proof.Machine

variable {t n idx loadId hdr off : Nat} {m : Ktp} {k : Kop} {tile : Bool} {data : Bytes} {s s1 s3 : State} {i w : Fin 32} {a : Asset}

/-! ### Opening -/

theorem State.openTemplate_accepted {b0 b1 : Nat} (may : s.beginCond i loadId (tplHeaderOk hdr) = 0) (free : s.nextTemplate = some (idx, s3))
    (room : s.allocTemplate hdr = some (b0, b1)) :
    let a := newAsset idx (sget 0 s.tplGen idx) hdr (s.sid i) loadId b0 b1 (tplBytes hdr 0) (tplBytes hdr 1) 0
    s.openTemplate i loadId hdr = (({ s3 with templates := s3.templates ++ [a] } : State).updSess i fun x =>
      { x with loads := x.loads ++ [{ loadId, tile := false, idx, done := none }] }).sendLoad i loadId false 0 a.tplHandle 0 := by
  unfold State.openTemplate
  simp only [may, free, room, ne_eq, not_true_eq_false, if_false]
  rfl

theorem State.openTile_accepted {ch b0 b1 : Nat} (may : s.beginCond i loadId (tileHeaderOk hdr) = 0) (free : s.nextTile = some (idx, s3))
    (room : s.allocTile hdr = some (ch, b0, b1)) :
    let a := newAsset idx (sget 0 s.tileGen idx) hdr (s.sid i) loadId b0 b1 (tileLength hdr) (8 * tilePlanes hdr * tileHeight hdr) ch
    s.openTile i loadId hdr = (({ s3 with tiles := s3.tiles ++ [a] } : State).updSess i fun x =>
      { x with loads := x.loads ++ [{ loadId, tile := true, idx, done := none }] }).sendLoad i loadId true 0 a.tileHandle 0 := by
  unfold State.openTile
  simp only [may, free, room, ne_eq, not_true_eq_false, if_false]
  rfl

theorem exec_templateBegin_taken (taken : (s.begin t).sequenced 0x11 m State.staleNowhere = (some (i, n), s1)) :
    exec (.templateBegin t m loadId hdr) s = .next ((s1.markRx i n).openTemplate i loadId hdr) := by
  change execTemplateBegin t m loadId hdr s = _
  simp only [execTemplateBegin, taken]

theorem exec_tileBegin_taken (taken : (s.begin t).sequenced 0x12 m State.staleNowhere = (some (i, n), s1)) :
    exec (.tileBegin t m loadId hdr) s = .next ((s1.markRx i n).openTile i loadId hdr) := by
  change execTileBegin t m loadId hdr s = _
  simp only [execTileBegin, taken]

/-! ### Deleting (R86, Table 3.4) -/

/-- A RESIDENT asset goes at once, or, with items that still refer to it, once they no longer do. -/
theorem State.deleteAsset_resident {h : Nat} (named : (if tile then s.tile? h else s.template? h) = some a) (resident : a.st = .resident) :
    s.deleteAsset tile h =
      (if a.refs = 0 then s.freeAsset tile a.idx else s.updAsset tile a.idx fun x => { x with st := .retiring }, .done) := by
  unfold State.deleteAsset
  simp only [named, resident]
  split <;> rfl

/-! ### Data (R79, R340) -/

/-- A piece within the data that meets no other is written, weighed against the share of host writes, and counted in. -/
theorem State.loadPiece_within (within : off + data.length ≤ a.dataLength tile) (apart : piecesMeet a.pieces off data.length = false) :
    s.loadPiece tile a off data =
      ((if tile then s.writeTile a off data else s.writeTemplate a off data).hostWrite data.length).updAsset tile a.idx fun x =>
        { x with got := x.got + data.length, crc := x.crc ^^^ crc32cPart data (a.dataLength tile - off - data.length),
                 pieces := x.pieces ++ [(off, data.length)],
                 padOk := x.padOk && (tile || (data.zipIdx).all fun p => padByteOk a.hdr (off + p.2) p.1) } :=
  if_neg (by simp only [apart, Bool.false_eq_true, or_false]; omega)

/-- A check that holds leaves the datagram as it came. -/
theorem Dgram.only_true (d : Dgram) : d.only true = d := rfl

theorem exec_loadData_loading {l : Load} (filled : data ≠ [])
    (taken : (s.begin t).sequenced 0x13 m State.staleNowhere = (some (i, n), s1))
    (opened : ((s1.markRx i n).sessions[i].openLoads.find? fun l => l.loadId == loadId) = some l)
    (held : (s1.markRx i n).assetAt l.tile l.idx = some a) (loading : a.st = .loading) :
    exec (.loadData t m loadId off data) s = .next ((s1.markRx i n).loadPiece l.tile a off data) := by
  change execLoadData t m loadId off data s = _
  have carries : (!data.isEmpty) = true := by simpa using filled
  simp only [execLoadData, carries, Dgram.only_true, taken, opened, held, loading, if_true]

theorem State.cancelLoad_unreferenced (held : s.assetAt tile idx = some a) (loading : a.st = .loading) (unreferenced : a.refs = 0) :
    s.cancelLoad tile idx = (s.closeLoad tile idx 4 0).freeAsset tile idx := by
  unfold State.cancelLoad
  simp only [held, loading, unreferenced, if_true]

theorem exec_loadCancel_open {l : Load} (taken : (s.begin t).sequenced 0x14 m State.staleNowhere = (some (i, n), s1))
    (opened : ((s1.markRx i n).sessions[i].openLoads.find? fun l => l.loadId == loadId) = some l) :
    exec (.loadCancel t m loadId) s = .next ((s1.markRx i n).cancelLoad l.tile l.idx) := by
  change execLoadCancel t m loadId s = _
  simp only [execLoadCancel, taken, opened]

/-! ### Verification (R82, R85) -/

theorem exec_templateVerify_valid (held : (s.begin t).assetAt false idx = some a) (complete : (s.begin t).loadDone false a = true)
    (padded : a.padOk = true) (sum : crc32cJoin (tplLength a.hdr) a.crc = tplCrc a.hdr) :
    exec (.templateVerify t idx) s =
      .next (((s.begin t).closeLoad false idx 1 0).updAsset false idx fun x => { x with st := .resident }) := by
  change execTemplateVerify t idx s = _
  simp only [execTemplateVerify, held, complete, padded, sum, Bool.not_true, Bool.false_eq_true, ne_eq, not_true_eq_false, if_true, if_false]

theorem exec_tileVerify_valid {es : List (Nat × Nat × Nat)} (held : (s.begin t).assetAt true idx = some a)
    (complete : (s.begin t).loadDone true a = true) (sum : crc32cJoin (tileLength a.hdr) a.crc = tileCrc a.hdr)
    (limits : tileLimitsOk (tileWidth a.hdr) (tilePlanes a.hdr) (tilePlanes a.hdr * tileHeight a.hdr) 0 ((s.begin t).tileData a) = true)
    (lines : indexTile (tileWidth a.hdr) (tilePlanes a.hdr) (tileMaxOps a.hdr) (tileMaxBytes a.hdr) (tilePlanes a.hdr * tileHeight a.hdr) 0 0
      ((s.begin t).tileData a) = some es) :
    exec (.tileVerify t idx) s =
      .next ((((s.begin t).chanWrite (1 - a.ch) a.base1 (indexBytes es)).closeLoad true idx 1 0).updAsset true idx
        fun x => { x with st := .resident }) := by
  change execTileVerify t idx s = _
  simp only [execTileVerify, held, complete, sum, limits, lines, Bool.not_true, Bool.false_eq_true, ne_eq, not_true_eq_false, if_true, if_false]

/-! ### The statements -/

/-- Settles O19: the two openings by the command and what opening does, the two deletions by what deleting a RESIDENT asset does. -/
theorem assetsOpenAndAreDeleted : Obligations.AssetsOpenAndAreDeleted := by
  refine ⟨⟨?template, ?tile⟩, ⟨?deleteTemplate, ?deleteTile⟩⟩
  case template =>
    intro t m loadId hdr s s1 s3 i n idx b0 b1 s2 a taken may free room
    rw [exec_templateBegin_taken taken, State.openTemplate_accepted may free room]
  case tile =>
    intro t m loadId hdr s s1 s3 i n idx ch b0 b1 s2 a taken may free room
    rw [exec_tileBegin_taken taken, State.openTile_accepted may free room]
  case deleteTemplate =>
    exact fun t k handle s w a permitted named resident =>
      congrArg Host.Outcome.next (State.command_done permitted (State.deleteAsset_resident (tile := false) named resident))
  case deleteTile =>
    exact fun t k handle s w a permitted named resident =>
      congrArg Host.Outcome.next (State.command_done permitted (State.deleteAsset_resident (tile := true) named resident))

/-- Settles O20: a piece of data and a cancellation by the command and what the operation does, the two verifications by a lemma each. -/
theorem loadsAreReceivedAndVerified : Obligations.LoadsAreReceivedAndVerified := by
  refine ⟨⟨?data, ?cancel⟩, ⟨?template, ?tile⟩⟩
  case data =>
    intro t m loadId off data s s1 i n l a s2 s3 filled taken opened held loading within apart
    rw [exec_loadData_loading filled taken opened held loading, State.loadPiece_within within apart]
  case cancel =>
    intro t m loadId s s1 i n l a s2 taken opened held loading unreferenced
    rw [exec_loadCancel_open taken opened, State.cancelLoad_unreferenced held loading unreferenced]
  case template => exact fun t idx s a => exec_templateVerify_valid
  case tile => exact fun t idx s a es => exec_tileVerify_valid

end Sys2Proof.Machine
end

section
/-! PROOFS. DRAM channels and stream lines (O21). That an open load ends with condition 0 and that the events of a channel are faults is the model's
own (notes/assumptions/26), as is where a part of a stream line is kept (notes/assumptions/14). -/

namespace Sys2Proof.Machine

variable {t : Nat} {ch : Fin 2} {s : State}

/-- A trained channel that fails: its loads are closed, everything held is INVALID, and what is not yet composed is spoiled (R111, R469). -/
theorem exec_dramChannelFault_trained (trained : (s.begin t).power.trained[ch] = true) :
    let s1 : State := { s.begin t with
      power := { s.power with trained := s.power.trained.set ch false, training := s.power.training.set ch true },
      dataErrors := s.dataErrors + 1, stream := [] }
    let s2 := ((s1.templates.filter fun a => a.st == .loading).map (·.idx)).foldl (fun s i => s.closeLoad false i 2 0) s1
    let s3 := ((s2.tiles.filter fun a => a.st == .loading).map (·.idx)).foldl (fun s i => s.closeLoad true i 2 0) s2
    let s4 := (s3.templates.map (·.idx)).foldl (fun s i => s.invalidate false i) s3
    let s5 := (s4.tiles.map (·.idx)).foldl (fun s i => s.invalidate true i) s4
    let s6 := s5.faultEvent 6 (s5.loc 6 ch.val) 0x2800 0x0C 0 0
    exec (.dramChannelFault t ch) s = .next (s6.spoilAll s6.uncomposed 9 (s6.loc 6 ch.val)) := if_pos trained

theorem exec_dramRetrainComplete_trained (training : (s.begin t).power.training[ch] = true) :
    exec (.dramRetrainComplete t ch true) s =
      .next (({ s.begin t with power := { s.power with trained := s.power.trained.set ch true, training := s.power.training.set ch false,
                                                       failures := s.power.failures.set ch 0 } } : State).faultEvent
        6 (s.loc 6 ch.val) 0x2800 0x0C 0 0) := if_pos training

/-- A training that fails is tried again until it has failed three times in a row (R469). -/
theorem exec_dramRetrainComplete_failed (training : (s.begin t).power.training[ch] = true) :
    let n := (s.begin t).power.failures[ch] + 1
    exec (.dramRetrainComplete t ch false) s =
      .next (({ s.begin t with power := { s.power with training := s.power.training.set ch (decide (n < 3)),
                                                       failures := s.power.failures.set ch n } } : State).faultEvent
        6 (s.loc 6 ch.val) 0x2800 0x0C 0 0) := if_pos training

theorem exec_streamLine_stored {m : Ktp} {p : StreamPart} {s1 : State} {i : Fin 32} {n q : Nat} {it : Item} (formed : partForm p = true)
    (taken : (s.begin t).sequenced 0x1A m (fun s => s.countStale p.handle) = (some (i, n), s1)) (found : s1.item? p.handle = some it)
    (acts : s1.hostActs it.zone s1.sessions[i].hostId s1.sessions[i].roles = true) (fate : s1.partFate it p = .store q) :
    exec (.streamLine t m p) s = .next (((s1.markRx i n).storePart it q p).updSess i fun x => { x with ringFull := false }) := by
  change execStreamLine t m p s = _
  simp only [execStreamLine, formed, Dgram.only_true, taken, found, acts, fate, Bool.not_true, Bool.false_eq_true, if_false]

/-- Settles O21: a lemma for each command on its path; the third failure in a row leaves the channel untrained. -/
theorem dramFailsAndRetrains : Obligations.DramFailsAndRetrains := by
  refine ⟨?fault, ?trained, ?givenUp, ?stored⟩
  case fault => exact fun t ch s => exec_dramChannelFault_trained
  case trained => exact fun t ch s => exec_dramRetrainComplete_trained
  case givenUp =>
    intro t ch s training twice
    rw [exec_dramRetrainComplete_failed training, twice]
    rfl
  case stored => exact fun t m p s s1 i n q it => exec_streamLine_stored

end Sys2Proof.Machine
end

section
/-! PROOFS. Composition and generations (O22). That heads which carry a partner row compose again too is the model's own (notes/assumptions/7). -/

namespace Sys2Proof.Machine

variable {t l : Nat} {s : State} {h : Fin 64} {r : Fin 4} {it : Item}

/-! ### Composition (R93–R98, R161) -/

theorem exec_rowLineCompose_served {flips : List BitFlip} (served : (flips.foldl State.flip (s.begin t)).pickRow = some (h, r, it, l)) :
    exec (.rowLineCompose t flips) s = .next ((flips.foldl State.flip (s.begin t)).composeRow h r it l) := by
  change execRowLineCompose t flips s = _
  simp only [execRowLineCompose, served]

theorem State.composeRow_pattern (pattern : it.pattern ≠ 0) :
    s.composeRow h r it l = s.writeRing it h r l { codes := s.patternCodes it h r (it.lineOf l), subst := 0, spread := 0, reass := 0, unhid := [] } :=
  if_pos pattern

theorem State.composeRow_codes {m : SMap Nat} (image : it.pattern = 0)
    (codes : s.composePlane it (pmPlane (s.planeMap h r)) (it.lineOf l)
      ((activeNozzles (s.planeMap h r)).filterMap fun j => s.nozCol it h r j (s.traverseOf it l)) = .codes m) :
    s.composeRow h r it l =
      s.writeRing it h r l (if pmRole (s.planeMap h r) = 2 then s.mapRedundant it h r (s.traverseOf it l) (it.lineOf l) m
        else s.mapPrimary it h r (s.traverseOf it l) (it.lineOf l) m) := by
  unfold State.composeRow
  simp only [image, ne_eq, not_true_eq_false, if_false, codes]

/-! ### Generations (R126, R127) -/

theorem exec_generationInstall_may (pending : (s.begin t).heads[h].pend.isSome = true) (may : (s.begin t).mayInstall h = true) :
    let s1 := (s.begin t).installGen h
    exec (.generationInstall t h) s = .next (match s1.zoneOfHead h with | some z => s1.newSet z [] | none => s1) := by
  intro s1
  refine (if_pos ⟨pending, may⟩).trans ?_
  change (match s1.zoneOfHead h with | some z => _ | none => _) = _
  cases s1.zoneOfHead h <;> rfl

/-- The pending generation takes the place of the one in force, which is kept, and the event counts the nozzles that turned bad and good. -/
theorem State.installGen_pending {p : NozMap} (pending : s.heads[h].pend = some p) :
    let x := s.heads[h]
    let s1 := s.updHead h fun x =>
      { x with inst := { p with inst := x.inst.inst + 1 }, prev := some x.inst, pend := none, installs := x.installs + 1 }
    s.installGen h = (s1.discardUnstarted (h :: s1.partnerHeads h)).event 0x4811 (s.loc 9 h.val)
      [(8, h.val), (32, ((List.range x.nozzleTotal).filter fun i => p.bad i && !x.inst.bad i).length),
       (32, ((List.range x.nozzleTotal).filter fun i => !p.bad i && x.inst.bad i).length)] := by
  unfold State.installGen
  simp only [pending]
  rfl

/-- Settles O22: a row-line by the command and what composing does, an installation by the command and by what it does to the head. -/
theorem rowsComposeAndGenerationsInstall : Obligations.RowsComposeAndGenerationsInstall := by
  refine ⟨?image, ?pattern, ?install, ?generation⟩
  case image =>
    intro t flips s h r it l m s0 cols served image codes
    rw [exec_rowLineCompose_served served, State.composeRow_codes image codes]
  case pattern =>
    intro t flips s h r it l s0 served pattern
    rw [exec_rowLineCompose_served served, State.composeRow_pattern pattern]
  case install => exact fun t h s => exec_generationInstall_may
  case generation => exact fun s h p pending => ⟨_, _, State.installGen_pending pending⟩

end Sys2Proof.Machine
end

section
/-! PROOFS. Nozzle planes (O55, O56): where the bit of a scale lies in the scale's bytes, and the class of a nozzle-map entry. The rules of `fld` and
`setFld` that both rest on stand first. -/

namespace Sys2Proof.Machine

/-! ### Bits and fields -/

/-- A bit inside a field of a word is the bit of the word that far above the field's place. -/
@[simp] theorem bitOf_fld (w lo len i : Nat) : bitOf (fld w lo len) i = (decide (i < len) && bitOf w (lo + i)) := by
  simp only [bitOf, fld, Nat.testBit_mod_two_pow, Nat.testBit_shiftRight]

theorem fld_and (a b lo len : Nat) : fld (a &&& b) lo len = fld a lo len &&& fld b lo len := by
  simp only [fld, Nat.shiftRight_and_distrib, Nat.and_mod_two_pow]

theorem fld_or (a b lo len : Nat) : fld (a ||| b) lo len = fld a lo len ||| fld b lo len := by
  simp only [fld, Nat.shiftRight_or_distrib, Nat.or_mod_two_pow]

/-- A field reads back what was put in it. -/
@[simp] theorem fld_setFld_same (w lo len v : Nat) : fld (setFld w lo len v) lo len = v % 2 ^ len := by
  have clear : w / 2 ^ lo - fld w lo len = 2 ^ len * (w / 2 ^ lo / 2 ^ len) := by
    rw [fld, Nat.shiftRight_eq_div_pow, Nat.sub_eq_iff_eq_add (Nat.mod_le _ _), Nat.div_add_mod]
  calc fld (setFld w lo len v) lo len
      = (w / 2 ^ lo - fld w lo len + v % 2 ^ len) % 2 ^ len := by
        rw [fld, Nat.shiftRight_eq_div_pow, setFld, Nat.add_mul_div_right _ _ (Nat.two_pow_pos lo),
          Nat.mul_comm (fld w lo len), Nat.sub_mul_div]
    _ = v % 2 ^ len := by rw [clear, Nat.mul_add_mod_self_left, Nat.mod_mod]

/-- A flag put in a word reads back. -/
@[simp] theorem bitOf_setFld_b2n (w i : Nat) (b : Bool) : bitOf (setFld w i 1 (b2n b)) i = b := by
  have flag : bitOf (fld (setFld w i 1 (b2n b)) i 1) 0 = bitOf (setFld w i 1 (b2n b)) i := bitOf_fld _ i 1 0
  rw [← flag, fld_setFld_same]
  cases b <;> rfl

/-! ### Scales (R119) -/

/-- Settles O55: the bit within the byte is below 8, so reading the byte first keeps it. -/
theorem scaleBitsLieWhereTheRuleSays : Obligations.ScaleBitsLieWhereTheRuleSays := by
  intro s it k c n
  have inByte : c % 64 % 8 < 8 := Nat.mod_lt _ (by decide)
  simp only [bitOf_fld, inByte, decide_true, Bool.true_and, State.scaleBit]

/-! ### Nozzle classes (R124) -/

theorem entryDefective_iff (e : Nat) :
    entryDefective e = true ↔
      fld e 0 3 = 1 ∨ fld e 0 3 = 2 ∨ fld e 0 3 = 4 ∨ (fld e 0 3 = 3 ∧ bitOf e 4 = false) ∨ bitOf e 3 = true := by
  simp only [entryDefective, Bool.or_eq_true, Bool.and_eq_true, beq_iff_eq, Bool.not_eq_true', or_assoc]

/-- DEFECTIVE of an entry is its effective class. -/
@[simp] theorem bitOf_mkEntry_defective (e : Nat) : bitOf (mkEntry e) 5 = entryDefective e :=
  bitOf_setFld_b2n e 5 _

/-- A host's write of MARKED and ACCEPT_DRIFT leaves SCAN_CLASS as it is (Table 4.3). -/
theorem scanClass_hostWrite (e v : Nat) : fld ((e &&& 0x27) ||| (v &&& 0x18)) 0 3 = fld e 0 3 := by
  have kept : fld (e &&& 0x27) 0 3 = fld e 0 3 := by
    rw [fld_and, show fld 0x27 0 3 = 2 ^ 3 - 1 by decide, Nat.and_two_pow_sub_one_eq_mod, fld, Nat.mod_mod]
  have untouched : fld (v &&& 0x18) 0 3 = 0 := by
    rw [fld_and, show fld 0x18 0 3 = 0 by decide, Nat.and_zero]
  rw [fld_or, kept, untouched, Nat.or_zero]

/-- Settles O56: DEFECTIVE is the effective class, and a host's write leaves SCAN_CLASS, which alone makes OPEN and SHORT defective. -/
theorem defectiveNozzlesAreClassed : Obligations.DefectiveNozzlesAreClassed := by
  refine ⟨?classes, ?stays⟩
  case classes =>
    intro e
    rw [bitOf_mkEntry_defective, entryDefective_iff]
  case stays =>
    intro e v openOrShort
    rw [bitOf_mkEntry_defective, entryDefective_iff, scanClass_hostWrite]
    exact openOrShort.elim .inl (.inr ∘ .inl)

end Sys2Proof.Machine
end

section
/-! PROOFS. The tracker (O30, O31): an edge held, the timeout, the filter within the tracking limit. -/

namespace Sys2Proof.Machine

variable {t : Nat} {z : Fin 8} {s : State}

/-- Passing instants concern a zone in FAULT alone (R143). -/
theorem State.faultPasses_of_place (sound : s.zones[z].place ≠ .fault) : s.faultPasses z = s := if_pos sound

/-- In TRACKING the edges allow no transition (Table 5.1). -/
theorem State.edgesAllow_tracking (tracking : s.zones[z].place = .tracking) : s.edgesAllow z = s := by
  unfold State.edgesAllow
  simp only [tracking]

/-- A forward edge within the tracking limit is filtered, and the zone stays in TRACKING (R140). -/
theorem State.processEdge_within {cnt : Rat} (tracking : s.zones[z].place = .tracking)
    (within : absR (s.zones[z].trk.innovation cnt t) ≤ s.trackLimit z) (forward : 0 < wrapR (cnt - s.zones[z].trk.lastCnt)) :
    s.processEdge z cnt t =
      s.updZone z fun x => { x with trk := x.trk.filter cnt t true true ((s.zc z 0x58 : Rat) / 65536) ((s.zc z 0x59 : Rat) / 65536) } := by
  have sound : s.zones[z].place ≠ .fault := by rw [tracking]; decide
  unfold State.processEdge
  simp only [State.faultPasses_of_place sound, tracking, within, forward, reduceCtorEq, false_and, and_false, decide_true, not_true_eq_false,
    if_false]
  refine State.edgesAllow_tracking ?_
  rw [State.updZone_zones, vupd_get_same]
  exact tracking

/-! ### Edges held, and none (R140, R142) -/

theorem State.processHeld_due {now stamp : Nat} {c : Rat} (held : s.zones[z].trk.held = some (c, stamp))
    (due : s.zones[z].trk.tLast + 64 ≤ now) : s.processHeld z now = s.processEdge z c stamp := by
  unfold State.processHeld
  simp only [held, due, if_true]

theorem exec_heldEdgeProcess_due {c : Rat} {stamp : Nat} (source : (s.begin t).zones[z].place ≠ .noSource)
    (held : (s.begin t).zones[z].trk.held = some (c, stamp)) (due : (s.begin t).zones[z].trk.tLast + 64 ≤ (s.begin t).ft) :
    exec (.heldEdgeProcess t z) s =
      .next (((s.begin t).processEdge z c stamp).afterCount z none (s.begin t).zones[z].hwm) := by
  have ready : (s.begin t).zones[z].trk.held.isSome = true := by rw [held]; rfl
  rw [← State.processHeld_due held due]
  exact (if_neg source).trans (if_pos ⟨ready, due⟩)

theorem exec_heldEdgeProcess_waits (source : (s.begin t).zones[z].place ≠ .noSource)
    (waits : (s.begin t).zones[z].trk.held = none ∨ (s.begin t).ft < (s.begin t).zones[z].trk.tLast + 64) :
    exec (.heldEdgeProcess t z) s = .next (s.begin t) := by
  refine (if_neg source).trans (if_neg fun ready => ?_)
  rcases waits with none_ | early
  · have held := ready.1
    rw [none_] at held
    cases held
  · exact Nat.not_le_of_lt early ready.2

section Timeout

variable (silent : (s.begin t).zones[z].trk.tLast + msFt 1 ≤ (s.begin t).ft)
include silent

theorem exec_edgeTimeout_tracking (tracking : (s.begin t).zones[z].place = .tracking) :
    exec (.edgeTimeout t z) s = .next (((s.begin t).toStandby z).withdrawZone z) := by
  change execEdgeTimeout t z s = _
  unfold execEdgeTimeout
  simp only [silent, tracking, if_true]

theorem exec_edgeTimeout_fault (fault : (s.begin t).zones[z].place = .fault) :
    exec (.edgeTimeout t z) s = .next ((((s.begin t).faultPasses z).endFault z .standby).toStandby z) := by
  change execEdgeTimeout t z s = _
  unfold execEdgeTimeout
  simp only [silent, fault, if_true]

theorem exec_edgeTimeout_other (notTracking : (s.begin t).zones[z].place ≠ .tracking) (sound : (s.begin t).zones[z].place ≠ .fault) :
    exec (.edgeTimeout t z) s = .next (s.begin t) := by
  refine (if_pos silent).trans ?_
  split
  next tracking => exact absurd tracking notTracking
  next fault => exact absurd fault sound
  next => rfl

end Timeout

/-- Settles O30: HELD_EDGE_PROCESS by whether an edge is due, EDGE_TIMEOUT by the zone's place. -/
theorem edgesAreProcessedAndTimeOut : Obligations.EdgesAreProcessedAndTimeOut := by
  refine ⟨?held, ?timeout⟩
  case held =>
    exact fun t z s source => ⟨fun c stamp => exec_heldEdgeProcess_due source, exec_heldEdgeProcess_waits source⟩
  case timeout =>
    refine fun t z s silent => ⟨exec_edgeTimeout_tracking silent, exec_edgeTimeout_fault silent, fun other => ?_⟩
    refine exec_edgeTimeout_other silent ?_ ?_ <;> rcases other with place | place | place <;> rw [place] <;> decide

/-! ### Stamps (R146, R148, R150, R208) -/

/-- The instant that a line gets: its prediction, unless the row's last line or the link asks for a later one (R148). -/
def State.stampAt (s : State) (h : Fin 64) (r : Fin 4) (f : Int) : Int :=
  max f (max ((s.heads[h].rows[r].last + s.heads[h].pMin : Nat) : Int) ((s.ft + s.leadFloor h : Nat) : Int))

/-- What building a line asks for before it is stamped (R146, R148, R150, R208). -/
structure State.Stampable (s : State) (it : Item) (h : Fin 64) (r : Fin 4) (l : Nat) (f : Int) (void : Bool) : Prop where
  beyond : 0 < wrapR ((s.target it h r l : Rat) - s.zones[it.zone].hwm)
  fires : s.headFires h = true
  complete : void = false → s.heads[h].rows[r].complete it.handle l = true
  segs : segsFit (s.segDelays it h r (s.estimate it.zone s.ft).2) = true
  near : ((s.stampAt h r f - f : Int) : Rat) * (s.estimate it.zone s.ft).2 ≤
    s.tolOf it.zone (s.ogetFor it (zIdx it.zone) 0x53) - s.tolOf it.zone (s.ogetFor it (zIdx it.zone) 0x53) / 4 - s.countSize it.zone

/-- A line is stamped only past every check, at the instant that the checks allow. -/
theorem State.buildNow_stamp {it : Item} {h : Fin 64} {r : Fin 4} {l fire : Nat} {f f0 : Int} {void : Bool}
    (stamped : s.buildNow it h r l f void = .stamp fire f0) :
    s.Stampable it h r l f void ∧ fire = (s.stampAt h r f).toNat ∧ f0 = f := by
  unfold State.buildNow at stamped
  dsimp only at stamped
  split at stamped
  · cases stamped
  next beyond =>
  split at stamped
  · split at stamped <;> cases stamped
  next fires =>
  split at stamped
  · cases stamped
  next complete =>
  split at stamped
  · cases stamped
  next segs =>
  split at stamped
  · cases stamped
  next near =>
  cases stamped
  refine ⟨⟨not_le.mp beyond, not_not.mp fires, fun composed => ?_, not_not.mp segs, not_lt.mp near⟩, rfl, rfl⟩
  simpa [composed] using complete

/-- The instant is a tick. -/
theorem State.stampAt_nonneg (h : Fin 64) (r : Fin 4) (f : Int) : 0 ≤ s.stampAt h r f :=
  le_max_of_le_right (le_max_of_le_left (Int.natCast_nonneg _))

theorem State.stampAt_bounds (h : Fin 64) (r : Fin 4) (f : Int) :
    f ≤ s.stampAt h r f ∧ ((s.heads[h].rows[r].last + s.heads[h].pMin : Nat) : Int) ≤ s.stampAt h r f ∧
    ((s.ft + s.leadFloor h : Nat) : Int) ≤ s.stampAt h r f :=
  ⟨le_max_left .., le_max_of_le_right (le_max_left ..), le_max_of_le_right (le_max_right ..)⟩

/-- Settles O31: the filter by what an edge within the limit does, the bounds of a stamp by the checks that it has passed. -/
theorem theTrackerFiltersAndStamps : Obligations.TheTrackerFiltersAndStamps := by
  refine ⟨?filter, ?stamp⟩
  case filter =>
    intro s z cnt t k dt r tracking within forward
    rw [State.processEdge_within tracking within forward]
    rfl
  case stamp =>
    intro s it h r l f f0 void fire stamped v tol
    obtain ⟨checks, rfl, rfl⟩ := State.buildNow_stamp stamped
    obtain ⟨prediction, spacing, lead⟩ := State.stampAt_bounds (s := s) h r f0
    have tick : ((s.stampAt h r f0).toNat : Int) = s.stampAt h r f0 := Int.toNat_of_nonneg (State.stampAt_nonneg h r f0)
    refine ⟨rfl, tick ▸ prediction, by omega, by omega, checks.beyond, checks.fires, checks.segs, ?_, checks.complete⟩
    rw [tick]
    exact checks.near

end Sys2Proof.Machine
end

section
/-! PROOFS. Frames (O32) and traverses (O33): one lemma for each command on the path that the statement names. -/

namespace Sys2Proof.Machine

variable {t : Nat} {z : Fin 8} {h : Fin 64} {row : Fin 4} {s : State}

/-! ### CANCEL blocks (R221) -/

/-- The number by which a CANCEL names a withdrawn line: that in its item, while the ledger holds the item. -/
def State.cancelLine (s : State) (w : Withdrawn) : Nat :=
  match s.item? w.handle with
  | some it => it.lineOf w.line
  | none => w.line

/-- The row with one CANCEL fewer to send for a line. -/
def State.cancelCounted (s : State) (h : Fin 64) (row : Fin 4) (w : Withdrawn) : State :=
  s.updRow h row fun y =>
    { y with withdrawn := y.withdrawn.map fun q => if q = w then { q with cancels := q.cancels - 1, cancelAt := s.ft } else q }

theorem exec_cancelSend_due {w : Withdrawn} {x : Sent}
    (due : (s.begin t).heads[h].rows[row].withdrawn.find? (s.begin t).cancelDue = some w) (sent : w.sent = some x) :
    exec (.cancelSend t h row) s =
      .next (((s.begin t).cancelCounted h row w).timed x.port
        [(0x78, cancelContent (s.begin t).heads[h].node row.val ((s.begin t).cancelLine w) w.handle)]) := by
  change execCancelSend t h row s = _
  unfold execCancelSend
  simp only [due, sent]
  rfl

theorem exec_cancelSend_none (none_ : (s.begin t).heads[h].rows[row].withdrawn.find? (s.begin t).cancelDue = none) :
    exec (.cancelSend t h row) s = .next (s.begin t) := by
  change execCancelSend t h row s = _
  unfold execCancelSend
  simp only [none_]

/-- Settles O32: an evaluation is the passes that the rule names in their order, a CANCEL leaves when one is due. -/
theorem framesAreBuiltAndCancelled : Obligations.FramesAreBuiltAndCancelled := by
  refine ⟨?build, ?due, ?none_⟩
  case build => exact fun t s => rfl
  case due => exact fun t h row s w x => exec_cancelSend_due
  case none_ => exact fun t h row s => exec_cancelSend_none

/-! ### Traverses (R157, R158) -/

theorem exec_traverseArm_far {it : Item} {o : Int} (next : (s.begin t).scanItem z = some it) (scans : (s.begin t).zc z 0x30 ≠ 0)
    (unarmed : (s.begin t).zones[z].armed = false) (noFeed : (s.begin t).zones[z].feedDue = false)
    (still : (s.begin t).zones[z].feedRun = false) (origin : it.origin = some o)
    (far : ((s.begin t).zc z 0x12 : Rat) * (s.begin t).pitch z ≤
      wrapR (((o + (s.begin t).lowestOff it : Int) : Rat) - (s.begin t).counted z)) :
    exec (.traverseArm t z) s =
      .next ((s.begin t).armTraverse z it.handle
        ((s.begin t).traverseOf it ((it.prog.map (·.built)).foldl min ((s.begin t).totalLines it)))) := by
  change execTraverseArm t z s = _
  unfold execTraverseArm
  simp only [next]
  have known : it.origin.isSome = true := by rw [origin]; rfl
  have ahead : it.origin.getD 0 = o := by rw [origin]; rfl
  refine if_pos ⟨scans, Bool.eq_false_iff.mp unarmed, Bool.eq_false_iff.mp noFeed, Bool.eq_false_iff.mp still, known, ?_⟩
  rw [ahead]
  exact far

/-- Where the zone's feed axis stands (R278). -/
def State.feedPosNow (s : State) (z : Fin 8) : Int :=
  match s.feedAxis z with
  | some a => s.axes[a].posAt s.ft
  | none => 0

/-- A traverse over which an item has lines left, that is no pattern, makes a feed move due (R158, R161). -/
theorem exec_traverseEnd_feeds {it : Item} (scans : (s.begin t).zc z 0x30 ≠ 0)
    (prints : (((s.begin t).zoneItems z).find? fun it => !it.prog.isEmpty && it.feedBase.isNone) = some it)
    (done : (s.begin t).traverseDone it = true) (armed : (s.begin t).zones[z].armed = true) (left : (s.begin t).unbuilt it = true)
    (image : it.pattern = 0) (axis : ((s.begin t).feedAxis z).isSome = true) :
    exec (.traverseEnd t z) s =
      .next (((s.begin t).updZone z fun y =>
        { y with armed := false, feedDue := true, feedPos := (s.begin t).feedPosNow z }).settle z) := by
  refine (if_neg scans).trans ?_
  simp only [prints]
  refine (if_pos ⟨done, .inl armed⟩).trans ?_
  simp only [armed, left, image, axis, Bool.true_and, BEq.rfl, Bool.or_true, if_true]
  rfl

/-! ### Alignment patterns (R160) -/

/-- Settles O33: a traverse is armed, or ends with its feed move due, by a lemma each; a pattern item takes the slot that is free. -/
theorem traversesRun : Obligations.TraversesRun := by
  refine ⟨?arm, ?end_, ?pattern⟩
  case arm => exact fun t z s it o => exec_traverseArm_far
  case end_ => exact fun t z s it => exec_traverseEnd_feeds
  case pattern =>
    intro t k z cmd s w it slot rest
    dsimp only
    intro permitted pattern slots room
    refine congrArg Host.Outcome.next (State.command_done permitted ?_)
    simp only [pattern, slots, Nat.not_le_of_lt room, if_false]

end Sys2Proof.Machine
end

section
/-! PROOFS. One cycle of the swept arrays (O2): what serving an access does to the words, what a cycle of a scratchpad, of a bank and of the
line store serves, and what an idle step does. -/

namespace Sys2Proof.Machine

/-! ### Words (R413, R418) -/

section Words

variable {x : Arrays} {a w v key : Nat}

@[simp] theorem Arrays.put_answers (x : Arrays) (a w v : Nat) : (x.put a w v).answers = x.answers := by
  unfold Arrays.put; split <;> rfl

@[simp] theorem Arrays.put_waiting (x : Arrays) (a w v : Nat) : (x.put a w v).waiting = x.waiting := by
  unfold Arrays.put; split <;> rfl

@[simp] theorem Arrays.put_retries (x : Arrays) (a w v : Nat) : (x.put a w v).retries = x.retries := by
  unfold Arrays.put; split <;> rfl

@[simp] theorem Arrays.put_cycle (x : Arrays) (a w v : Nat) : (x.put a w v).cycle = x.cycle := by
  unfold Arrays.put; split <;> rfl

/-- A write looks at no check code. -/
theorem Arrays.put_unchecked (single : Vector Nat 28) (weak : List Nat) :
    ({ x with single, weak } : Arrays).put a w v = { x.put a w v with single, weak } := by
  have alike : ({ x with single, weak } : Arrays).shadowed a w = x.shadowed a w := rfl
  unfold Arrays.put
  rw [alike]
  split <;> rfl

/-- A client reads the word that was written, from the shadow or from its cells. -/
theorem Arrays.at_put_same (words : smapWf 0 x.words) (shadow : smapWf 0 x.shadow) : (x.put a w v).at_ a w = v := by
  unfold Arrays.put
  split
  next locked => exact (if_pos locked).trans (sget_sset_same shadow)
  next free => exact (if_neg free).trans (sget_sset_same words)

/-- The cells that a write leaves as they are: all while the region is locked, else all but the word's own. -/
theorem Arrays.put_words (other : x.shadowed a w = true ∨ key ≠ x.home a w) : sget 0 (x.put a w v).words key = sget 0 x.words key := by
  unfold Arrays.put
  split
  next => rfl
  next free => exact sget_sset_ne (other.resolve_left free)

/-- What a write leaves of the shadow: all while the region is not locked, else all but the word. -/
theorem Arrays.put_shadow (other : x.shadowed a w = false ∨ key ≠ wordKey a w) : sget 0 (x.put a w v).shadow key = sget 0 x.shadow key := by
  unfold Arrays.put
  split
  next locked => exact sget_sset_ne (other.resolve_left (by simp [locked]))
  next => rfl

theorem Arrays.put_wf (words : smapWf 0 x.words) : smapWf 0 (x.put a w v).words := by
  unfold Arrays.put
  split
  next => exact words
  next => exact sset_wf words

end Words

/-! ### Serving an access (R413, R415) -/

section Serve

variable {x : Arrays} {q : Access}

/-- The check of a word changes its check code and the count of errors alone. -/
theorem Arrays.check_eq (x : Arrays) (q : Access) : ∃ single weak, x.check q = { x with single, weak } := by
  unfold Arrays.check
  extract_lets key reads
  split
  · exact ⟨x.single, x.weak, rfl⟩
  · exact ⟨_, _, rfl⟩

/-- The word that an access finds, as its answer, and the arrays once it is served, its check code apart. -/
def Arrays.found (x : Arrays) (q : Access) : Nat := x.at_ q.array q.word
def Arrays.written (x : Arrays) (q : Access) : Arrays := x.put q.array q.word (wordAfter q.op (x.found q))

theorem Arrays.serve_eq (x : Arrays) (q : Access) :
    ∃ single weak, x.serve q = { x.written q with single, weak, answers := x.answers ++ [(q, x.found q)], waiting := x.waiting.erase q } := by
  obtain ⟨single, weak, checked⟩ := x.check_eq q
  refine ⟨single, weak, ?_⟩
  unfold Arrays.serve
  simp only [checked, Arrays.put_unchecked, Arrays.put_answers, Arrays.put_waiting]
  rfl

@[simp] theorem Arrays.serve_answers (x : Arrays) (q : Access) : (x.serve q).answers = x.answers ++ [(q, x.found q)] := by
  obtain ⟨_, _, served⟩ := x.serve_eq q
  rw [served]

@[simp] theorem Arrays.serve_waiting (x : Arrays) (q : Access) : (x.serve q).waiting = x.waiting.erase q := by
  obtain ⟨_, _, served⟩ := x.serve_eq q
  rw [served]

@[simp] theorem Arrays.serve_retries (x : Arrays) (q : Access) : (x.serve q).retries = x.retries := by
  obtain ⟨_, _, served⟩ := x.serve_eq q
  rw [served]
  exact Arrays.put_retries ..

@[simp] theorem Arrays.serve_cycle (x : Arrays) (q : Access) : (x.serve q).cycle = x.cycle := by
  obtain ⟨_, _, served⟩ := x.serve_eq q
  rw [served]
  exact Arrays.put_cycle ..

@[simp] theorem Arrays.serve_words (x : Arrays) (q : Access) : (x.serve q).words = (x.written q).words := by
  obtain ⟨_, _, served⟩ := x.serve_eq q
  rw [served]

@[simp] theorem Arrays.serve_shadow (x : Arrays) (q : Access) : (x.serve q).shadow = (x.written q).shadow := by
  obtain ⟨_, _, served⟩ := x.serve_eq q
  rw [served]

/-- The word becomes what the operation makes of it. -/
theorem Arrays.at_serve (words : smapWf 0 x.words) (shadow : smapWf 0 x.shadow) :
    (x.serve q).at_ q.array q.word = wordAfter q.op (x.found q) := by
  obtain ⟨_, _, served⟩ := x.serve_eq q
  rw [served]
  exact Arrays.at_put_same words shadow

end Serve

/-! ### One cycle of a scratchpad (R409) -/

section Pad

variable {x : Arrays} {k : Fin 8} {a b q : Access}

theorem Arrays.padCycle_alone (alone : x.portA k = some q ∧ x.portB k = none ∨ x.portA k = none ∧ x.portB k = some q) :
    x.padCycle k = x.serve q := by
  unfold Arrays.padCycle
  rcases alone with ⟨portA, portB⟩ | ⟨portA, portB⟩ <;> simp only [portA, portB]

/-- A word that port A writes makes port B repeat its access. -/
theorem Arrays.padCycle_busy (portA : x.portA k = some a) (portB : x.portB k = some b) (same : a.word = b.word) (order : a.edge ≤ b.edge)
    (writes : wordWrites a.op = true) : x.padCycle k = (x.serve a).busy k := by
  unfold Arrays.padCycle
  simp only [portA, portB, same, order, ne_eq, not_true_eq_false, if_false, if_true]
  unfold Arrays.meet
  simp only [writes, not_true_eq_false, false_and, if_false, if_true]

end Pad

/-! ### What a cycle keeps -/

/-- The cycle of CLK_ENG is the same, and the words keep their canonical form. -/
structure Arrays.Keeps (x y : Arrays) : Prop where
  cycle : y.cycle = x.cycle
  words : smapWf 0 x.words → smapWf 0 y.words

namespace Arrays.Keeps

variable {x y z : Arrays}

theorem refl : x.Keeps x := ⟨rfl, id⟩

theorem trans (xy : x.Keeps y) (yz : y.Keeps z) : x.Keeps z := ⟨yz.cycle.trans xy.cycle, yz.words ∘ xy.words⟩

/-- What changes neither the words nor the cycle keeps both. -/
theorem of_eq (cycle : y.cycle = x.cycle) (words : y.words = x.words) : x.Keeps y := ⟨cycle, fun wf => words ▸ wf⟩

theorem foldl {α : Type} {f : Arrays → α → Arrays} (step : ∀ (x : Arrays) a, x.Keeps (f x a)) (l : List α) : x.Keeps (l.foldl f x) := by
  induction l generalizing x with
  | nil => exact refl
  | cons a l ih => exact (step x a).trans ih

theorem check (q : Access) : x.Keeps (x.check q) := by
  obtain ⟨_, _, checked⟩ := x.check_eq q
  rw [checked]
  exact of_eq rfl rfl

theorem put (a w v : Nat) : x.Keeps (x.put a w v) := ⟨Arrays.put_cycle .., Arrays.put_wf⟩

theorem serve (q : Access) : x.Keeps (x.serve q) := by
  refine ⟨Arrays.serve_cycle .., fun wf => ?_⟩
  rw [Arrays.serve_words]
  exact Arrays.put_wf wf

theorem busy (k : Fin 8) : x.Keeps (x.busy k) := of_eq rfl rfl

theorem meet (k : Fin 8) (a b : Access) : x.Keeps (x.meet k a b) := by
  unfold Arrays.meet
  split
  · exact (serve a).trans (serve b)
  split
  · exact (serve a).trans (busy k)
  extract_lets y1 y2
  have answered : x.Keeps y1 := of_eq rfl rfl
  refine (answered.trans ?_).trans (busy k)
  dsimp only [y2]
  split
  · exact refl
  · exact (check b).trans (put ..)

theorem padCycle (k : Fin 8) : x.Keeps (x.padCycle k) := by
  unfold Arrays.padCycle
  split
  next => exact refl
  next a _ _ => exact serve a
  next b _ _ => exact serve b
  next a b _ _ =>
    split
    · exact (serve a).trans (serve b)
    split
    · exact meet k a b
    · exact meet k b a

end Arrays.Keeps

/-! ### One cycle of a pool bank (R411, R412) -/

section Bank

variable {before x : Arrays} {n : Fin 4} {q : Access} {v : Nat}

/-- What a bank does with one access of a cycle: a write changes its word as it stands, a read finds what was there before the cycle. -/
def Arrays.bankServe (before x : Arrays) (q : Access) : Arrays :=
  if wordWrites q.op then x.serve q
  else { x.check q with answers := x.answers ++ [(q, before.found q)], waiting := x.waiting.erase q }

theorem Arrays.bankCycle_eq (x : Arrays) (n : Fin 4) :
    ∃ turn, x.bankCycle n = { (x.bankServed n).foldl x.bankServe (x.notePorts n) with turn } := by
  unfold Arrays.bankCycle
  cases (x.enginesOn n).getLast?.bind engineOf with
  | none => exact ⟨_, rfl⟩
  | some k => exact ⟨_, rfl⟩

theorem Arrays.notePorts_eq (x : Arrays) (n : Fin 4) : ∃ portUse, x.notePorts n = { x with portUse } := by
  unfold Arrays.notePorts
  refine List.foldlRecOn (motive := fun y : Arrays => ∃ portUse, y = { x with portUse }) _ _ ⟨x.portUse, rfl⟩ ?_
  rintro _ ⟨_, rfl⟩ p -
  exact ⟨_, rfl⟩

theorem Arrays.bankServe_answers (before x : Arrays) (q : Access) :
    (before.bankServe x q).answers = x.answers ++ [(q, if wordWrites q.op then x.found q else before.found q)] := by
  unfold Arrays.bankServe
  split
  · exact Arrays.serve_answers x q
  · rfl

/-- An answer of a bank was there, or belongs to a write, or is the word as it was before the cycle. -/
theorem Arrays.bankCycle_reads (answered : (q, v) ∈ (x.bankCycle n).answers) (fresh : (q, v) ∉ x.answers) (reads : wordWrites q.op = false) :
    v = x.found q := by
  obtain ⟨_, cycled⟩ := x.bankCycle_eq n
  obtain ⟨_, noted⟩ := x.notePorts_eq n
  rw [cycled] at answered
  refine List.foldlRecOn (motive := fun y => (q, v) ∈ y.answers → v = x.found q) (x.bankServed n) x.bankServe ?_ ?_ answered
  · rw [noted]
    exact fun old => absurd old fresh
  · intro y ih p _ mem
    rw [Arrays.bankServe_answers] at mem
    rcases List.mem_append.mp mem with old | new
    · exact ih old
    · obtain ⟨rfl, rfl⟩ := Prod.mk.inj (List.mem_singleton.mp new)
      rw [reads]
      rfl

theorem Arrays.foldl_bankServe_length (before x : Arrays) (qs : List Access) :
    (qs.foldl before.bankServe x).answers.length = x.answers.length + qs.length := by
  induction qs generalizing x with
  | nil => rfl
  | cons q qs ih =>
    simp only [List.foldl_cons, ih, Arrays.bankServe_answers, List.length_append, List.length_cons, List.length_nil]
    omega

/-- Two ports for engines and the DMA unit, one for the hardware clients. -/
theorem Arrays.bankServed_length (once : (x.waiting.filter fun q => q.array == 8 + n.val && onP2 q).length ≤ 1) :
    (x.bankServed n).length ≤ 3 := by
  have ports : (x.openPorts n).length ≤ 2 := List.length_filter_le _ (fins 2)
  have engines : (x.enginesOn n).length ≤ (x.openPorts n).length := List.length_take_le ..
  have dma : ((x.waiting.filter fun y => y.array == 8 + n.val && y.client == .dma).take (2 - (x.enginesOn n).length)).length ≤
      2 - (x.enginesOn n).length := List.length_take_le ..
  unfold Arrays.bankServed
  simp only [List.length_append, List.length_reverse]
  omega

theorem Arrays.bankCycle_length (once : (x.waiting.filter fun q => q.array == 8 + n.val && onP2 q).length ≤ 1) :
    (x.bankCycle n).answers.length ≤ x.answers.length + 3 := by
  obtain ⟨_, cycled⟩ := x.bankCycle_eq n
  obtain ⟨_, noted⟩ := x.notePorts_eq n
  have answers : (x.notePorts n).answers = x.answers := by rw [noted]
  calc (x.bankCycle n).answers.length
      = (x.notePorts n).answers.length + (x.bankServed n).length := by rw [cycled, ← Arrays.foldl_bankServe_length]
    _ ≤ x.answers.length + 3 := answers ▸ Nat.add_le_add_left (Arrays.bankServed_length once) _

theorem Arrays.Keeps.bankServe (q : Access) : x.Keeps (before.bankServe x q) := by
  unfold Arrays.bankServe
  split
  · exact serve q
  · exact (check q).trans (of_eq rfl rfl)

theorem Arrays.Keeps.bankCycle (n : Fin 4) : x.Keeps (x.bankCycle n) := by
  obtain ⟨_, cycled⟩ := x.bankCycle_eq n
  obtain ⟨_, noted⟩ := x.notePorts_eq n
  have ports : x.Keeps (x.notePorts n) := by rw [noted]; exact of_eq rfl rfl
  have served : (x.notePorts n).Keeps ((x.bankServed n).foldl x.bankServe (x.notePorts n)) := foldl (fun _ q => bankServe q) _
  rw [cycled]
  exact (ports.trans served).trans (of_eq rfl rfl)

end Bank

/-! ### One cycle of all arrays (R408, R414) -/

theorem Arrays.Keeps.lineCycle {x : Arrays} (n : Fin 16) : x.Keeps (x.lineCycle n) :=
  (foldl (fun _ q => serve q) _).trans (foldl (fun _ q => serve q) _)

/-- The arrays as a cycle finds them, with what is issued on it, and once every array has served its ports. -/
def State.withIssued (s : State) : Arrays :=
  { s.arrays with waiting := s.arrays.waiting ++ s.issued, answers := [], weak := s.arrays.weak ++ s.arrays.flipped }
def Arrays.served (x : Arrays) : Arrays :=
  (fins 16).foldl Arrays.lineCycle ((fins 4).foldl Arrays.bankCycle ((fins 8).foldl Arrays.padCycle x))

theorem Arrays.Keeps.served {x : Arrays} : x.Keeps x.served := by
  have pads : x.Keeps ((fins 8).foldl Arrays.padCycle x) := foldl (fun _ k => padCycle k) _
  have banks : ((fins 8).foldl Arrays.padCycle x).Keeps ((fins 4).foldl Arrays.bankCycle ((fins 8).foldl Arrays.padCycle x)) :=
    foldl (fun _ n => bankCycle n) _
  exact (pads.trans banks).trans (foldl (fun _ n => lineCycle n) _)

theorem State.arrayCycle_eq (s : State) :
    s.arrayCycle = { s with arrays := { s.withIssued.served with cycle := s.withIssued.served.cycle + 1 } } := rfl

/-- A cycle of CLK_ENG counts, and keeps the words in canonical form. -/
theorem State.arrayCycle_keeps (s : State) :
    ∃ a : Arrays, s.arrayCycle = { s with arrays := a } ∧ a.cycle = s.arrays.cycle + 1 ∧ (smapWf 0 s.arrays.words → smapWf 0 a.words) := by
  have kept : s.withIssued.Keeps s.withIssued.served := .served
  rw [s.arrayCycle_eq]
  generalize s.withIssued.served = x at kept ⊢
  exact ⟨_, rfl, congrArg (· + 1) kept.cycle, kept.words⟩

/-- A port of a hardware client takes one access of those issued on a cycle. -/
theorem oncePerPort_once (qs : List Access) (a p : Nat) :
    ((oncePerPort qs).filter fun q => q.array == a && hwPort q == some p).length ≤ 1 := by
  refine List.foldlRecOn (motive := fun acc : List Access => (acc.filter fun q => q.array == a && hwPort q == some p).length ≤ 1) qs _
    (Nat.zero_le 1) fun acc once q _ => ?_
  split
  next => exact once
  next free =>
    rw [List.filter_append]
    by_cases here : q.array = a ∧ hwPort q = some p
    · obtain ⟨rfl, port⟩ := here
      have none_ : (acc.filter fun y => y.array == q.array && hwPort y == some p) = [] := by
        rw [List.filter_eq_nil_iff]
        intro y mem taken
        exact free (by rw [port]; exact Bool.and_eq_true_iff.mpr ⟨rfl, List.any_eq_true.mpr ⟨y, mem, taken⟩⟩)
      rw [none_, List.nil_append]
      exact List.length_filter_le _ [q]
    · have other : ([q].filter fun y => y.array == a && hwPort y == some p) = [] := by
        simpa using here
      rw [other, List.append_nil]
      exact once

/-! ### An idle step (R137, R426) -/

section Idle

variable {s : State}

theorem step_waiting {w : Waiting} {rest : List Waiting} (empty : s.pending = []) (turn : s.nextWaiting = some (w, rest)) :
    step s = exec w.cmd { s with waiting := rest, resumed := some w.sess } := by
  unfold step
  simp only [empty, turn]

theorem State.transition_none (settled : s.lcPending = none) : s.transition = s := by
  unfold State.transition
  simp only [settled]

variable (empty : s.pending = []) (idle : s.nextWaiting = none)
include empty idle

theorem step_idle : step s = .next s.tick := by
  unfold step
  simp only [empty, idle]

theorem step_idle_even (even : s.ft % 2 = 0) : step s = .next (s.begin (s.ft + 1)).transition :=
  (step_idle empty idle).trans (congrArg _ (if_neg (by omega)))

theorem step_idle_odd (odd : s.ft % 2 = 1) (settled : s.lcPending = none) : step s = .next (s.begin (s.ft + 1)).arrayCycle :=
  (step_idle empty idle).trans (congrArg _ ((if_pos (by omega)).trans (congrArg State.arrayCycle (State.transition_none settled))))

end Idle

/-- Settles O2: an idle step by the parity of the fire timer, a cycle of the arrays by what each port serves. -/
theorem anIdleStepIsOneCycle : Obligations.AnIdleStepIsOneCycle := by
  refine ⟨?waiting, ?idle, ?alone, ?busy, ?reads, ?served, ?once⟩
  case waiting => exact fun s w rest => step_waiting
  case idle =>
    intro s empty idle
    refine ⟨max_eq_right (Nat.le_succ _), fun settled even => ?_, fun settled odd => ?_, step_idle_even empty idle⟩
    · exact (step_idle_even empty idle even).trans (congrArg _ (State.transition_none settled))
    · obtain ⟨a, cycled, counts, words⟩ := (s.begin (s.ft + 1)).arrayCycle_keeps
      exact ⟨a, (step_idle_odd empty idle odd settled).trans (congrArg _ cycled), counts, words⟩
  case alone =>
    intro x k q words shadow alone w y
    have served : y = x.serve q := Arrays.padCycle_alone alone
    rw [served, Arrays.serve_answers, Arrays.serve_waiting, Arrays.serve_words, Arrays.serve_shadow]
    exact ⟨rfl, Arrays.at_serve words shadow, fun key => Arrays.put_words, fun key => Arrays.put_shadow, rfl⟩
  case busy =>
    intro x k a b words shadow portA portB same order writes w y
    have served : y = (x.serve a).busy k := Arrays.padCycle_busy portA portB same order writes
    rw [served]
    refine ⟨Arrays.serve_answers x a, Arrays.at_serve words shadow, Arrays.serve_waiting x a, ?_⟩
    exact vupd_get_same.trans (by rw [Arrays.serve_retries])
  case reads => exact fun x n q v => Arrays.bankCycle_reads
  case served => exact fun x n => Arrays.bankCycle_length
  case once => exact fun s a p => oncePerPort_once _ a p

end Sys2Proof.Machine
end

section
/-! PROOFS. Heater supplies (O27, O28): when a sample is taken and what it leaves in the record, the transition that a sample brings in each
state of its chain, and one lemma for each command of a supply on the path that the statement names. A sample that trips the
chain does so before any other transition (notes/assumptions/45). -/

namespace Sys2Proof.Machine

/-! ### Samples (R176, R188, Table 6.6) -/

section Samples

variable {s : State} {c : Fin 16}

theorem State.samples?_iff :
    s.samples? c = true ↔ s.domains[(8 : Fin 11)].state = 2 ∨
      (s.domains[(8 : Fin 11)].state = 1 ∧ ∀ a, s.chains[c].lastSample = some a → a + msFt 1 ≤ s.ft) := by
  unfold State.samples?
  split
  case h_1 on => exact iff_of_true rfl (.inl on)
  case h_2 retention => cases s.chains[c].lastSample <;> simp [-Fin.getElem_fin, retention]
  case h_3 notOn notRetention => exact iff_of_false Bool.false_ne_true (not_or.mpr ⟨notOn, fun retained => notRetention retained.1⟩)

theorem exec_vphSample_taken {t mv : Nat} {sense : Int} (taken : (s.begin t).samples? c = true) :
    exec (.vphSample t c mv sense) s =
      .next (((((s.begin t).takeSample c mv ((s.begin t).shuntCurrent c sense)).sampleStep c).driveGate c).sendSupply c mv) := if_pos taken

theorem State.inWindow_iff {mv : Nat} : s.inWindow c mv = true ↔ s.lc c 0x43 ≤ mv ∧ mv ≤ s.lc c 0x44 := by
  rw [State.inWindow, Bool.and_eq_true, decide_eq_true_iff, decide_eq_true_iff]

/-- What a sample leaves in the record of its chain. -/
theorem State.takeSample_record (mv : Nat) (ma : Int) :
    let x := s.chains[c]
    let y := (s.takeSample c mv ma).chains[c]
    y.vph = mv ∧ y.current = ma ∧ y.lastSample = some s.ft ∧ y.state = x.state ∧
    y.inRun = (if s.lc c 0x43 ≤ mv ∧ mv ≤ s.lc c 0x44 then x.inRun + 1 else 0) ∧
    y.outRun = (if s.lc c 0x43 ≤ mv ∧ mv ≤ s.lc c 0x44 then 0 else x.outRun + 1) ∧
    y.overI = (if ((100 * s.lc c 0x49 : Nat) : Int) < ma then x.overI + 1 else 0) := by
  simp only [State.takeSample, State.updChain_chains, vupd_get_same, State.inWindow_iff, decide_eq_true_iff, and_self]

theorem State.sampleStep_ramp (ramp : s.chains[c].state = .ramp) :
    s.sampleStep c =
      if s.rampDue c = true then s.tripChain c 1 0
      else if s.inrushDue c = true then s.tripChain c 2 0
      else if 2 ≤ s.chains[c].overI then s.tripChain c 3 0
      else if 2 ≤ s.chains[c].overV then s.tripChain c 4 0
      else if 200 ≤ s.chains[c].inRun then s.setChain c .on else s := by
  simp only [State.sampleStep, ramp, ChainState.live, true_and, if_true]

theorem State.sampleStep_on (on : s.chains[c].state = .on) :
    s.sampleStep c =
      if 2 ≤ s.chains[c].overI then s.tripChain c 3 0
      else if 2 ≤ s.chains[c].overV then s.tripChain c 4 0
      else if 2 ≤ s.chains[c].outRun then s.faultChain c else s := by
  simp only [State.sampleStep, on, ChainState.live, reduceCtorEq, false_and, if_true, if_false]

theorem State.sampleStep_fault (fault : s.chains[c].state = .fault) :
    s.sampleStep c =
      if 2 ≤ s.chains[c].overI then s.tripChain c 3 0
      else if 2 ≤ s.chains[c].overV then s.tripChain c 4 0
      else if 200 ≤ s.chains[c].inRun then s.setChain c .on else s := by
  simp only [State.sampleStep, fault, ChainState.live, reduceCtorEq, false_and, if_true, if_false]

theorem State.sampleStep_not_live (dead : s.chains[c].state.live = false) : s.sampleStep c = s :=
  if_neg (Bool.eq_false_iff.mp dead)

end Samples

/-- Settles O27: a sample is taken when it is due, its record by what taking it writes, its transition by the state of the chain. -/
theorem samplesMoveChains : Obligations.SamplesMoveChains := by
  refine ⟨?taken, fun s c => State.takeSample_record, fun s c => ⟨?rampTime, ?inrush, ?current, ?voltage, ?ramp, ?on, ?fault, ?dead⟩⟩
  case taken => exact fun t c mv sense s due => exec_vphSample_taken (State.samples?_iff.mpr due)
  case rampTime => exact fun ramp due => (State.sampleStep_ramp ramp).trans (if_pos due)
  case inrush =>
    intro ramp inTime due
    simp only [State.sampleStep_ramp ramp, inTime, due, Bool.false_eq_true, if_false, if_true]
  case current =>
    rintro (on | fault) excess
    · exact (State.sampleStep_on on).trans (if_pos excess)
    · exact (State.sampleStep_fault fault).trans (if_pos excess)
  case voltage =>
    rintro (on | fault) fewI excess
    · simp only [State.sampleStep_on on, fewI.not_ge, excess, if_false, if_true]
    · simp only [State.sampleStep_fault fault, fewI.not_ge, excess, if_false, if_true]
  case ramp =>
    intro ramp inTime noInrush fewI fewV
    simp only [State.sampleStep_ramp ramp, inTime, noInrush, fewI.not_ge, fewV.not_ge, Bool.false_eq_true, if_false]
  case on =>
    intro on fewI fewV
    simp only [State.sampleStep_on on, fewI.not_ge, fewV.not_ge, if_false]
  case fault =>
    intro fault fewI fewV
    simp only [State.sampleStep_fault fault, fewI.not_ge, fewV.not_ge, if_false]
  case dead =>
    rintro (off | armed | tripped)
    · exact State.sampleStep_not_live (by rw [off]; rfl)
    · exact State.sampleStep_not_live (by rw [armed]; rfl)
    · exact State.sampleStep_not_live (by rw [tripped]; rfl)

/-! ### Control (R187–R190, R193) -/

section Supplies

variable {s : State} {t : Nat} {c : Fin 16}

theorem State.supplyOn_off (life : s.lifeCycle ≠ 0) (retired : s.lifeCycle ≠ 4) (primary : s.isSecondary c = false) (up : s.devState ≠ 2)
    (off : s.chains[c].state = .off) : s.supplyOn c = (s.updChain c fun x => { x with state := .armed }, .done) := by
  simp only [State.supplyOn, life, retired, primary, up, off, or_self, Bool.false_eq_true, if_false, if_true]

theorem State.supplyOff_on (on : s.chains[c].state = .on) :
    s.supplyOff c = ((s.gateTo c false).updChain c fun x => { x with state := .off }).supplyDown c (s.loc 14 c.val) := by
  simp only [State.supplyOff, on]

theorem State.supplyReset_tripped (tripped : s.chains[c].state = .tripped) :
    s.supplyReset c = if s.chains[c].vph < 2000 then s.setChain c .off else s := by
  simp only [State.supplyReset, tripped, true_and]

theorem exec_supplyRampStart_armed (armed : (s.begin t).chains[c].state = .armed) (may : (s.begin t).mayRamp c = true) :
    let s0 := s.begin t
    exec (.supplyRampStart t c) s = .next ((s0.updChain c fun x =>
      { x with state := .ramp, rampFrom := s0.ft, inrush := s0.lc c 0x46, rate := s0.lc c 0x47, timeout := s0.lc c 0x48,
               inRun := 0, outRun := 0, overI := 0, overV := 0, inrushFrom := none, leakFrom := none }).gateTo c true) :=
  if_pos ⟨armed, may⟩

/-! ### Trips, missing samples and the source resistance (R179, R180, R188) -/

theorem exec_rampTimeout_due (ramp : (s.begin t).chains[c].state = .ramp) (due : (s.begin t).rampDue c = true) :
    exec (.rampTimeout t c) s = .next ((s.begin t).tripChain c 1 0) := if_pos ⟨ramp, due⟩

theorem exec_inrushTimeout_due (ramp : (s.begin t).chains[c].state = .ramp) (due : (s.begin t).inrushDue c = true) :
    exec (.inrushTimeout t c) s = .next ((s.begin t).tripChain c 2 0) := if_pos ⟨ramp, due⟩

theorem exec_switchLeak_unpowered (unpowered : (s.begin t).chains[c].state = .off ∨ (s.begin t).chains[c].state = .armed)
    (leaks : (s.begin t).leaks c = true) : exec (.switchLeak t c) s = .next ((s.begin t).tripChain c 6 0) := if_pos ⟨unpowered, leaks⟩

theorem exec_hvDieLoss (die : Fin 2) :
    let s1 : State := { s.begin t with power := { (s.begin t).power with die := (s.begin t).power.die.set die false } }
    exec (.hvDieLoss t die) s = .next (((fins 16).filter fun c => dieOf c = die).foldl (fun s c => s.tripChain c 5 (die.val + 1)) s1) := rfl

theorem State.sampleMissing_of_last {a : Nat} (last : s.chains[c].lastSample = some a) (late : a + usFt 50 ≤ s.ft) :
    s.sampleMissing c = true := by
  simp only [State.sampleMissing, last, late, decide_true]

theorem exec_vphSampleTimeout_on (on : (s.begin t).chains[c].state = .on) (missing : (s.begin t).sampleMissing c = true) :
    exec (.vphSampleTimeout t c) s = .next ((s.begin t).faultChain c) := if_pos ⟨on, missing⟩

theorem exec_sourceResistanceEstimate_taken {r : Rat} (learned : (s.begin t).lc c 0x4A = 0)
    (due : (s.begin t).chains[c].rsAt + msFt 10 ≤ (s.begin t).ft)
    (slope : slopeOf ((s.begin t).chains[c].samples.filter fun y => (s.begin t).ft ≤ y.tick + msFt 10) = some r) (lower : 0 ≤ r)
    (upper : r ≤ 500000) :
    exec (.sourceResistanceEstimate t c) s =
      .next (((s.begin t).updChain c fun y => { y with rsAt := (s.begin t).ft }).updChain c fun y => { y with rsLearned := (roundR r).toNat }) := by
  refine (if_pos ⟨learned, due⟩).trans ?_
  split
  case h_1 noSlope => cases slope.symm.trans noSlope
  case h_2 found => cases slope.symm.trans found; exact if_pos ⟨lower, upper⟩

end Supplies

/-- Settles O28: the controls by what their actions do in the state named, each trip and timeout by its command. -/
theorem suppliesAreControlledAndTrip : Obligations.SuppliesAreControlledAndTrip := by
  refine ⟨⟨?on, ?off, ?reset, ?ramp⟩, ?rampTime, ?inrush, ?leak, ?die, ?silent, ?resistance⟩
  case on =>
    exact fun t k c s w permitted life retired primary up off =>
      congrArg Host.Outcome.next (State.command_done permitted (State.supplyOn_off life retired primary up off))
  case off =>
    exact fun t k c s w permitted on =>
      congrArg Host.Outcome.next (State.command_done permitted (congrArg (·, CmdRes.done) (State.supplyOff_on on)))
  case reset =>
    exact fun t k c s w permitted tripped =>
      congrArg Host.Outcome.next (State.command_done permitted (congrArg (·, CmdRes.done) (State.supplyReset_tripped tripped)))
  case ramp => exact fun t c s => exec_supplyRampStart_armed
  case rampTime => exact fun t c s => exec_rampTimeout_due
  case inrush => exact fun t c s => exec_inrushTimeout_due
  case leak => exact fun t c s off => exec_switchLeak_unpowered (.inl off)
  case die => exact fun t die s => exec_hvDieLoss die
  case silent => exact fun t c s a on last late => exec_vphSampleTimeout_on on (State.sampleMissing_of_last last late)
  case resistance => exact fun t c s r => exec_sourceResistanceEstimate_taken

end Sys2Proof.Machine
end

section
/-! PROOFS. Heads (O29): heat, verification, the trim plane and element scans, a lemma for each command on the path that the statement names.
An answer to the trim plane's READ that is not OK counts as a mismatch, and SCAN_FT names a tick 20 µs after its last word
(notes/assumptions/17). -/

namespace Sys2Proof.Machine

section Heads

variable {s : State} {t : Nat} {h : Fin 64}

/-- Two changes of a head that agree on the head as it stands. -/
theorem State.updHead_congr {f g : Head → Head} (agree : f s.heads[h] = g s.heads[h]) : s.updHead h f = s.updHead h g := by
  unfold State.updHead vupd
  rw [agree]

/-! ### Heat (R183, R247, R249, R251) -/

theorem exec_temperatureStale_stale (read : (s.begin t).heads[h].blockOk = true) (warm : (s.begin t).heads[h].thermal ≠ .cooldown)
    (stale : (s.begin t).tempStale h = true) : exec (.temperatureStale t h) s = .next ((s.begin t).coolDown h 4) :=
  if_pos ⟨read, warm, stale⟩

theorem exec_cooldownReturn_cooled (cooling : (s.begin t).heads[h].thermal = .cooldown) (reported : (s.begin t).tempStale h = false)
    (cooled : (s.begin t).heads[h].temp < (s.begin t).heads[h].tResume) (sensor : (s.begin t).heads[h].sensorFault = false)
    (untripped : (s.begin t).heads[h].tripped = false) (boundary : (s.begin t).headBoundary h = true) :
    let s0 := s.begin t
    let x := s0.heads[h]
    exec (.cooldownReturn t h) s =
      .next ((s0.setThermal h (if s0.tSet h - s0.band h ≤ x.temp ∨ ¬ x.warms then Thermal.normal else Thermal.cold) true).updHead h fun y =>
        { y with cooldowns := y.cooldowns + 1 }) :=
  if_pos ⟨cooling, Bool.eq_false_iff.mp reported, cooled, Bool.eq_false_iff.mp sensor, Bool.eq_false_iff.mp untripped, boundary⟩

theorem exec_warmStep_running (running : (s.begin t).running 4 = true) (read : (s.begin t).heads[h].blockOk = true) :
    exec (.warmStep t h) s =
      .next (((s.begin t).updHead h fun x => { x with integ := ((s.begin t).warmLoop h).1 }).warmTo h ((s.begin t).warmLoop h).2) :=
  if_pos ⟨running, read⟩

/-! ### Verification and the trim plane (R237, R245) -/

theorem exec_headVerification_wellFormed {c : Fin 16} (running : (s.begin t).running 1 = true) (link : (s.begin t).heads[h].link = some c)
    (reading : (s.begin t).heads[h].idState = .reading) (ended : (s.begin t).heads[h].rdEnd = 1)
    (formed : makerWf (wordsNum (s.begin t).heads[h].rd)
      (s.begin t).ports[c].nodes[(Fin.ofNat 9 (s.begin t).heads[h].node : Fin 9)].identity = true) :
    exec (.headVerification t h c) s = .next ((s.begin t).takeBlock h) := by
  change execHeadVerification t h c s = _
  simp only [execHeadVerification, running, link, reading, ended, formed, ne_eq, not_true_eq_false, one_ne_zero, or_self, and_self,
    if_false, if_true]

theorem exec_trimLoad_verified {c : Fin 16} {p : Nat} (link : (s.begin t).heads[h].link = some c)
    (node : ((s.begin t).headNode h).isSome = true) (verified : (s.begin t).heads[h].idState = .verified)
    (idle : (s.begin t).heads[h].trimBusy = false) (unloaded : (s.begin t).heads[h].trimOk = false)
    (untried : (s.begin t).heads[h].trimFailed = false) (plane : (s.begin t).trimPlane h = some p) :
    exec (.trimLoad t h c) s = .next (((s.begin t).updHead h fun y => { y with trim := p, trimBusy := true }).sendTrim h) := by
  change execTrimLoad t h c s = _
  simp only [execTrimLoad, link, node, verified, idle, unloaded, untried, plane, Bool.false_eq_true, not_false_eq_true, true_or, and_self,
    if_true]

theorem State.trimAnswer_busy (status crc : Nat) (busy : s.heads[h].trimBusy = true) :
    s.trimAnswer h status crc =
      if status = 0 ∧ crc % 2 ^ 32 = crc32c s.heads[h].trimBytes then s.updHead h fun y => { y with trimBusy := false, trimOk := true }
      else if s.heads[h].trimTries < 2 then (s.updHead h fun y => { y with trimTries := y.trimTries + 1 }).sendTrim h
      else s.updHead h fun y => { y with trimBusy := false, trimTries := y.trimTries + 1, trimFailed := true } :=
  if_neg (not_not_intro busy)

/-! ### Element scans (R239–R244) -/

theorem Head.nextNozzles_of_noRedo {x : Head} (noRedo : x.scanRedo = []) :
    x.nextNozzles =
      ((x.rowOfNozzle x.scanNext).1, (x.rowOfNozzle x.scanNext).2, min 64 (x.nozzles (x.rowOfNozzle x.scanNext).1 - (x.rowOfNozzle x.scanNext).2)) := by
  simp only [Head.nextNozzles, noRedo]

/-- A block that neither begins a scan nor measures an aborted one again, while none is in progress. -/
theorem State.startScanBlock_next {c : Fin 16} {a : Fin 9} (noRedo : s.heads[h].scanRedo = []) (begun : s.heads[h].scanNext ≠ 0)
    (left_ : s.heads[h].scanNext < s.heads[h].nozzleTotal) (idle : s.heads[h].scanBlk = none) (noneAhead : s.heads[h].scanAhead = none)
    (read : s.heads[h].blockOk = true) (due : s.scanIsDue h = true) (node : s.headNode h = some (c, a))
    (noCtl : s.ports[c].nodes[a].ctl = none) (noWait : s.ports[c].nodes[a].ctlWait = []) (sends : s.sends (s.nodePort c a) = true)
    (noLine : s.lineWaits (s.nodePort c a) = false) (window : s.scanWindow h (s.scanTick (s.nodePort c a) none) = true) :
    let x := s.heads[h]
    let r := (x.rowOfNozzle x.scanNext).1
    let j := (x.rowOfNozzle x.scanNext).2
    let n := min 64 (x.nozzles r - j)
    let at_ := s.scanTick (s.nodePort c a) none
    s.startScanBlock h = (s.updHead h fun y =>
      { y with scanBlk := some { row := r, first := j, count := n, ft := at_, cur := s.scanCurrent h, open_ := s.hc h 0x24,
                                 short := s.hc h 0x25, drift := s.hc h 0x26, lead := s.hc h 0x27 },
               scanNext := x.nozzleBase r + j + n }).writeHeads h 0x28000018 [packBits [(13, j), (2, r), (1, 0), (6, n - 1)], at_] := by
  intro x r j n at_
  simp only [State.startScanBlock, node, idle, noneAhead, read, due, noCtl, noWait, sends, noLine, window, Head.nextNozzles_of_noRedo noRedo,
    noRedo, begun, left_, ne_eq, not_true_eq_false, Bool.false_eq_true, not_false_eq_true, Option.isNone_none, false_or, and_self, false_and,
    decide_false, if_false, if_true]
  refine congrArg (fun y : State => y.writeHeads h 0x28000018 _) (State.updHead_congr ?_)
  simp only [idle, noRedo, Option.isNone_none, List.drop_nil, if_true]
  rfl

theorem exec_scanBlockComplete_ended {v0 : Nat} {vs : List Nat} {b : ScanBlock} (block : (s.begin t).heads[h].scanBlk = some b)
    (whole : vs.length = b.count) (ended : b.end_ ≤ (s.begin t).ft) :
    let s1 := (s.begin t).takeBlockSamples h b v0 vs
    exec (.scanBlockComplete t h false v0 vs) s =
      .next (if s1.heads[h].nozzleTotal ≤ s1.heads[h].scanNext ∧ s1.heads[h].scanRedo = [] ∧ s1.heads[h].scanBlk = none then s1.scanDone h
             else s1) := by
  change execScanBlockComplete t h false v0 vs s = _
  simp only [execScanBlockComplete, block, whole, ended.not_gt, ne_eq, not_true_eq_false, or_self, Bool.false_eq_true, if_false,
    Option.isNone_iff_eq_none]
  exact (apply_ite Host.Outcome.next _ _ _).symm

theorem exec_scanIntervalExpiry_due (interval : (s.begin t).hc h 0x21 ≠ 0) (linked : (s.begin t).heads[h].link.isSome = true)
    (due : (s.begin t).heads[h].lastFull + secFt ((s.begin t).hc h 0x21) ≤ (s.begin t).ft) :
    exec (.scanIntervalExpiry t h) s = .next ((s.begin t).updHead h fun x => { x with scanDue := true }) :=
  if_pos ⟨interval, linked, due⟩

theorem exec_scanFull {k : Kop} {w : Fin 32} (permitted : Safety.Admits s t k (hIdx h) 0x22 1 w) :
    exec (.scanFull t k h) s = .next (Safety.done ((Safety.taken s t k).updHead h fun x => { x with scanDue := true }) w k (hIdx h) 0x22) :=
  congrArg Host.Outcome.next (State.command_done permitted rfl)

/-- Role S drops the baseline, any other is refused. -/
theorem exec_scanRebaseline {k : Kop} {w : Fin 32} (permitted : Safety.Admits s t k (hIdx h) 0x22 2 w) :
    let s1 := Safety.taken s t k
    exec (.scanRebaseline t k h) s = .next (
      if bitOf s1.sessions[(Safety.actor s t k (hIdx h) 0x22 w).sess].roles 3 = true then
        Safety.done (s1.updHead h fun x => { x with baseOk := false, baseline := [] }) w k (hIdx h) 0x22
      else Safety.refused s1 w k abRole) := by
  intro s1
  split
  case isTrue service => exact congrArg Host.Outcome.next (State.command_done permitted (if_neg (by rw [service]; decide)))
  case isFalse other => exact congrArg Host.Outcome.next (State.command_refused permitted (if_pos (by simpa using other)))

end Heads

/-- Settles O29: a lemma for each command on its path, and for the answer that a trim plane gets. -/
theorem headsAreKeptAndScanned : Obligations.HeadsAreKeptAndScanned := by
  refine ⟨⟨?stale, ?cooled, ?warm, ?verify, ?trim, ?answer⟩, ?start, ?complete, ?interval, ?full, ?baseline⟩
  case stale => exact fun t h s => exec_temperatureStale_stale
  case cooled => exact fun t h s => exec_cooldownReturn_cooled
  case warm => exact fun t h s => exec_warmStep_running
  case verify => exact fun t h s c => exec_headVerification_wellFormed
  case trim => exact fun t h c s p => exec_trimLoad_verified
  case answer => exact fun s h => State.trimAnswer_busy
  case start =>
    exact fun t h s noRedo begun left_ idle noneAhead read due c a node noCtl noWait sends noLine window =>
      congrArg Host.Outcome.next
        (State.startScanBlock_next noRedo begun left_ idle noneAhead read due node noCtl noWait sends noLine window)
  case complete => exact fun t h v0 vs s b => exec_scanBlockComplete_ended
  case interval => exact fun t h s => exec_scanIntervalExpiry_due
  case full => exact fun t k h s w => exec_scanFull
  case baseline => exact fun t k h s w => exec_scanRebaseline

end Sys2Proof.Machine
end

section
/-! PROOFS. Links come up (O35): what the lanes of a port leave as it is, what training makes of a port, and one lemma for each command of
bring-up on the path that the statement names. That a port waits for idle zones before it comes up again, and that a secondary comes up
alone, is the model's own reading of R213. -/

namespace Sys2Proof.Machine

/-! ### The fire timer and the object dictionary on the lanes (R202–R205, R225) -/

/-- The fire timer and the objects stay: all that the lanes of a port do is to its ports and its outputs. -/
structure State.KeepsClock (a b : State) : Prop where
  ft : b.ft = a.ft
  obj : b.obj = a.obj

namespace State.KeepsClock

variable {a b c : State} {l : Fin 16}

theorem refl : a.KeepsClock a := ⟨rfl, rfl⟩

theorem trans (ab : a.KeepsClock b) (bc : b.KeepsClock c) : a.KeepsClock c := ⟨bc.ft.trans ab.ft, bc.obj.trans ab.obj⟩

theorem ite {p : Prop} [Decidable p] (ab : a.KeepsClock b) (ac : a.KeepsClock c) : a.KeepsClock (if p then b else c) := by
  split <;> assumption

theorem foldl {α : Type} {g : State → α → State} (step : ∀ (s : State) x, s.KeepsClock (g s x)) (xs : List α) :
    a.KeepsClock (xs.foldl g a) :=
  List.foldlRecOn (motive := fun y : State => a.KeepsClock y) xs g refl fun _ kept x _ => kept.trans (step _ x)

theorem updPort (f : Port → Port) : a.KeepsClock (a.updPort l f) := ⟨rfl, rfl⟩

theorem updHead (h : Fin 64) (f : Head → Head) : a.KeepsClock (a.updHead h f) := ⟨rfl, rfl⟩

theorem updNode (n : Fin 9) (f : Node → Node) : a.KeepsClock (a.updNode l n f) := ⟨rfl, rfl⟩

theorem send (lane : Nat) (os : List Out) : a.KeepsClock (a.send l lane os) := ite refl ⟨rfl, rfl⟩

theorem idleLane (i : Fin 2) : a.KeepsClock (a.idleLane l i) := ite (updPort _) ((updPort _).trans (send ..))

theorem idleFree : a.KeepsClock (a.idleFree l) := ite (updPort _) ((updPort _).trans (send ..))

theorem idleLanes : a.KeepsClock (a.idleLanes l) := ite (((idleLane 0).trans (idleLane 1)).trans idleFree) refl

theorem openFree : a.KeepsClock (a.openFree l) := ite refl ((updPort _).trans (send ..))

theorem timed (bs : List (Nat × Nat)) : a.KeepsClock (a.timed l bs) := idleLanes.trans (foldl (fun _ _ => send ..) _)

end State.KeepsClock

/-! ### A port in training (R213 step 1) -/

section Training

variable {s : State} {l : Fin 16}

/-- Sending moves nothing in a port but the scrambler of the lane. -/
theorem State.send_port (s : State) (l : Fin 16) (lane : Nat) (os : List Out) :
    ∃ scr, (s.send l lane os).ports[l] = { s.ports[l] with scr } := by
  unfold State.send
  split
  case isTrue => exact ⟨_, rfl⟩
  case isFalse => exact ⟨_, vupd_get_same⟩

theorem State.foldl_send_port (s : State) (l : Fin 16) (os : Nat → List Out) (lanes : List Nat) :
    ∃ scr, (lanes.foldl (fun s i => s.send l i (os i)) s).ports[l] = { s.ports[l] with scr } := by
  induction lanes generalizing s with
  | nil => exact ⟨_, rfl⟩
  | cons i lanes ih =>
    obtain ⟨_, sent⟩ := s.send_port l i (os i)
    obtain ⟨scr, rest⟩ := ih (s.send l i (os i))
    exact ⟨scr, by rw [List.foldl_cons, rest, sent]⟩

/-- A port in training has forgotten its chain and has no lock. -/
theorem State.trainPort_port (s : State) (l : Fin 16) :
    let p := (s.trainPort l).ports[l]
    p.state = .training ∧ p.since = s.ft ∧ p.enumDepth = 0 ∧ p.lockU0 = false ∧ p.lockUS = false ∧ p.fec = false ∧ p.again = false ∧
    p.nodes = Vector.replicate 9 Node.init := by
  unfold State.trainPort
  extract_lets s1 now s2 _ s3 _ s4 p
  have heads : s.KeepsClock s1 := .foldl (fun _ h => .updHead h _) _
  obtain ⟨scr, trains⟩ := s4.foldl_send_port l (fun i => [Out.block l.val i 0x33 (trainContent 1 0)]) [0, 1, 2]
  have port : s4.ports[l] = s3.ports[l] := rfl
  simp only [p, trains, port, s3, State.updPort_ports, vupd_get_same, true_and, and_true]
  exact heads.ft

end Training

/-! ### Bring-up (R213, R224, R232) -/

section BringUp

variable {s : State} {t : Nat} {l : Fin 16}

theorem State.chainPorts_single (single : s.isDual l = false) : s.chainPorts l = [l] := if_neg (Bool.eq_false_iff.mp single)

theorem exec_linkBringup (t : Nat) (l : Fin 16) (s : State) :
    let s0 := s.begin t
    exec (.linkBringup t l) s = .next (((s0.chainPorts (s0.chainOf l)).filter fun p =>
      s0.ports[p].state == .off && s0.power.pll[(Fin.castLE (by omega) p : Fin 20)]).foldl State.trainPort s0) := rfl

theorem exec_linkBringup_single (own : (s.begin t).chainOf l = l) (single : (s.begin t).isDual l = false)
    (off : (s.begin t).ports[l].state = .off) (locked : (s.begin t).power.pll[(Fin.castLE (by omega) l : Fin 20)] = true) :
    exec (.linkBringup t l) s = .next ((s.begin t).trainPort l) := by
  have trains : ((s.begin t).ports[l].state == .off && (s.begin t).power.pll[(Fin.castLE (by omega) l : Fin 20)]) = true := by
    rw [off, locked]; rfl
  simp only [exec_linkBringup, own, State.chainPorts_single single, List.filter_cons, trains, if_true, List.filter_nil, List.foldl_cons,
    List.foldl_nil]

theorem exec_linkBringupRetry_due (fault : (s.begin t).ports[l].state = .fault) (due : (s.begin t).ports[l].since + msFt 100 ≤ (s.begin t).ft)
    (on : (s.begin t).domains[linkDomain l].state = 2) :
    exec (.linkBringupRetry t l) s =
      if (s.begin t).chainOf l ≠ l then .next ((s.begin t).trainPort l)
      else if (s.begin t).chainIdle l = true then .next ((s.begin t).bringUp l) else .next (s.begin t) := if_pos ⟨fault, due, on⟩

theorem exec_portAutoBringup_again (again : (s.begin t).ports[(s.begin t).chainOf l].again = true) :
    exec (.portAutoBringup t l) s =
      if (s.begin t).chainIdle ((s.begin t).chainOf l) = true then .next ((s.begin t).bringUp ((s.begin t).chainOf l))
      else .next (s.begin t) := by
  change execPortAutoBringup t l s = _
  simp only [execPortAutoBringup, again, true_and]

/-- A command whose action is done under a condition and refused without it. -/
theorem State.command_done_or_refused {cmd : Instr} {k : Kop} {i sub v code : Nat} {w : Fin 32} {act : State → Who → State × CmdRes} {s' : State}
    {p : Prop} [Decidable p] (permitted : Safety.Admits s t k i sub v w)
    (acts : act (Safety.taken s t k) (Safety.actor s t k i sub w) = if p then (s', .done) else (Safety.taken s t k, .refuse code)) :
    (s.begin t).command cmd k i sub v act = if p then Safety.done s' w k i sub else Safety.refused (Safety.taken s t k) w k code := by
  split
  case isTrue holds => exact State.command_done permitted (acts.trans (if_pos holds))
  case isFalse fails => exact State.command_refused permitted (acts.trans (if_neg fails))

theorem exec_enumerate {k : Kop} {w : Fin 32} (permitted : Safety.Admits s t k (lIdx l) 0x10 1 w) :
    let s1 := Safety.taken s t k
    exec (.enumerate t k l) s = .next (
      if s1.chainIdle (s1.chainOf l) = true then Safety.done (s1.bringUp (s1.chainOf l)) w k (lIdx l) 0x10
      else Safety.refused s1 w k abWork) :=
  congrArg Host.Outcome.next (State.command_done_or_refused permitted rfl)

end BringUp

/-! ### Block lock (R199) -/

section BlockLock

variable {s : State} {t : Nat} {l : Fin 16} {lane : Fin 2} {hdrs : List Nat}

theorem syncValid_iff {hdr : Nat} : syncValid hdr = true ↔ hdr = 1 ∨ hdr = 2 := by
  simp only [syncValid, Bool.or_eq_true, beq_iff_eq]

theorem lockGained_iff : lockGained hdrs = true ↔ 64 ≤ hdrs.length ∧ ∀ x ∈ hdrs.reverse.take 64, x = 1 ∨ x = 2 := by
  simp only [lockGained, Bool.and_eq_true, decide_eq_true_iff, List.all_eq_true, syncValid_iff]

theorem lockGained_eq_false (short : hdrs.length < 64 ∨ ∃ x ∈ hdrs.reverse.take 64, x ≠ 1 ∧ x ≠ 2) : ¬ lockGained hdrs = true := by
  rw [lockGained_iff]
  rintro ⟨long, valid⟩
  rcases short with short | ⟨x, mem, not1, not2⟩
  · exact absurd long short.not_ge
  · exact (valid x mem).elim not1 not2

theorem lockLost_iff : lockLost hdrs = true ↔ 16 ≤ ((hdrs.reverse.take 64).filter fun x => x != 1 && x != 2).length := by
  have invalid (x : Nat) : (!syncValid x) = (x != 1 && x != 2) := Bool.not_or ..
  simp only [lockLost, decide_eq_true_iff, invalid]

theorem exec_blockLockGained (gained : lockGained hdrs = true) :
    exec (.blockLockGained t l { lane, hdrs }) s = .next ((s.begin t).updPort l fun p =>
      { p with lockU0 := p.lockU0 || lane == 0, lockUS := p.lockUS || lane == 1,
               lockSince := if p.lockU0 ∨ p.lockUS then p.lockSince else some (s.begin t).ft }) := if_pos gained

theorem exec_blockLockGained_not (notGained : ¬ lockGained hdrs = true) :
    exec (.blockLockGained t l { lane, hdrs }) s = .next (s.begin t) := if_neg notGained

/-- A lane that loses its lock abandons the receive run of the other lane (R310). -/
theorem exec_blockLockLost (lost : lockLost hdrs = true) :
    let s1 := (s.begin t).updPort l fun p =>
      { p with lockU0 := p.lockU0 && lane != 0, lockUS := p.lockUS && lane != 1,
               lockSince := if (p.lockU0 && lane != 0) || (p.lockUS && lane != 1) then p.lockSince else none }
    exec (.blockLockLost t l { lane, hdrs }) s =
      .next (if (s.begin t).lanes[l].run = (if lane = 0 then 5 else 4) then s1.endLane l 6 else s1) := if_pos lost

theorem exec_blockLockLost_not (notLost : ¬ lockLost hdrs = true) :
    exec (.blockLockLost t l { lane, hdrs }) s = .next (s.begin t) := if_neg notLost

end BlockLock

/-! ### FEC mode (R213 step 3) -/

section Fec

variable {s : State} {t : Nat} {l : Fin 16}

theorem exec_fecModeStart_locked (training : (s.begin t).ports[l].state = .training)
    (due : (s.begin t).ports[l].since + msFt 9 ≤ (s.begin t).ft)
    (locked : (s.begin t).ports[l].lockU0 = true ∨ (s.begin t).ports[l].lockUS = true) (own : (s.begin t).chainOf l = l) :
    exec (.fecModeStart t l) s = .next (((((s.begin t).startFec l).adapted l).setLink l .enumerating).sendEnum l 1) :=
  (if_pos ⟨training, due⟩).trans ((if_pos locked).trans (if_pos own))

theorem exec_fecModeStart_unlocked (training : (s.begin t).ports[l].state = .training)
    (due : (s.begin t).ports[l].since + msFt 9 ≤ (s.begin t).ft) (noU0 : (s.begin t).ports[l].lockU0 = false)
    (noUS : (s.begin t).ports[l].lockUS = false) : exec (.fecModeStart t l) s = .next ((s.begin t).setLink l .fault) :=
  (if_pos ⟨training, due⟩).trans (if_neg (not_or.mpr ⟨Bool.eq_false_iff.mp noU0, Bool.eq_false_iff.mp noUS⟩))

end Fec

/-- Settles O35: a lemma for each command on its path, and for what training makes of a port. -/
theorem linksComeUp : Obligations.LinksComeUp := by
  refine ⟨?bringup, State.trainPort_port, ?retry, ?auto, ?enumerate, ?gained, ?lost, ?fec⟩
  case bringup => exact fun t l s => ⟨exec_linkBringup_single, exec_linkBringup t l s⟩
  case retry =>
    intro t l s s0 fault due on
    rw [exec_linkBringupRetry_due fault due on]
    exact ⟨fun other => if_pos other, fun own idle => (if_neg (not_not_intro own)).trans (if_pos idle),
      fun own busy => (if_neg (not_not_intro own)).trans (if_neg (Bool.eq_false_iff.mp busy))⟩
  case auto =>
    intro t l s s0 again
    rw [exec_portAutoBringup_again again]
    exact ⟨fun idle => if_pos idle, fun busy => if_neg (Bool.eq_false_iff.mp busy)⟩
  case enumerate =>
    intro t k l s w s1 permitted
    rw [exec_enumerate permitted]
    exact ⟨fun idle => congrArg _ (if_pos idle), fun busy => congrArg _ (if_neg (Bool.eq_false_iff.mp busy))⟩
  case gained =>
    exact fun t l lane hdrs s => ⟨fun long valid => exec_blockLockGained (lockGained_iff.mpr ⟨long, valid⟩),
      fun short => exec_blockLockGained_not (lockGained_eq_false short)⟩
  case lost =>
    intro t l lane hdrs s s0 wrong s1
    refine ⟨fun many other => ?_, fun many run => ?_, fun few => exec_blockLockLost_not fun lost => absurd (lockLost_iff.mp lost) few.not_ge⟩
    · rw [exec_blockLockLost (lockLost_iff.mpr many), if_neg other]
    · rw [exec_blockLockLost (lockLost_iff.mpr many), if_pos run]
  case fec =>
    exact fun t l s training due => ⟨exec_fecModeStart_locked training due, exec_fecModeStart_unlocked training due⟩

end Sys2Proof.Machine
end

section
/-! PROOFS. Nodes are watched (O36): each trigger of a lost node, the responses to control frames, and a status frame of a node that is in
order. -/

namespace Sys2Proof.Machine

section Nodes

variable {s : State} {t : Nat} {l : Fin 16} {a : Fin 9}

/-! ### Lost nodes (R224, R229) -/

theorem exec_statusTimeout_silent {b : Nat} (present : (s.begin t).ports[(s.begin t).chainOf l].nodes[a].present = true)
    (kept : (s.begin t).ports[(s.begin t).chainOf l].nodes[a].lost = false)
    (last : (s.begin t).ports[(s.begin t).chainOf l].nodes[a].lastStatus = some b) (silent : b + usFt 120 ≤ (s.begin t).ft) :
    exec (.statusTimeout t l a) s = .next ((s.begin t).loseNode ((s.begin t).chainOf l) a 1) := by
  have silent_ : waited (some b) (usFt 120) (s.begin t).ft = true := decide_eq_true silent
  exact if_pos ⟨present, Bool.eq_false_iff.mp kept, last ▸ silent_⟩

theorem exec_neighbourLockTimeout_lost {b : Nat} (far : 2 ≤ a.val) (own : (s.begin t).chainOf l = l) (single : (s.begin t).isDual l = false)
    (present : (s.begin t).ports[l].nodes[(Fin.ofNat 9 (a.val - 1) : Fin 9)].present = true)
    (since : (s.begin t).ports[l].nodes[(Fin.ofNat 9 (a.val - 1) : Fin 9)].farLostAt = some b) (held : b + usFt 2 ≤ (s.begin t).ft) :
    exec (.neighbourLockTimeout t l a) s = .next ((s.begin t).loseNode l a 3) := by
  have held_ : waited (some b) (usFt 2) (s.begin t).ft = true := decide_eq_true held
  exact if_pos ⟨far, own, Bool.eq_false_iff.mp single, present, since ▸ held_⟩

theorem State.portLost_eq (s : State) (l : Fin 16) :
    s.portLost l =
      if s.chainOf l = l then (if s.isDual l = true then s else (fins 9).foldl (fun x a => x.loseNode l a 4) s)
      else if s.ports[s.chainOf l].dual = .normal ∧ s.sends l = true then s.setDual (s.chainOf l) .degraded 0 else s := ite_not ..

theorem exec_portBlockLockLoss_unlocked (noU0 : (s.begin t).ports[l].lockU0 = false) (noUS : (s.begin t).ports[l].lockUS = false) :
    exec (.portBlockLockLoss t l) s = .next ((s.begin t).portLost l) :=
  if_neg (not_or.mpr ⟨Bool.eq_false_iff.mp noU0, Bool.eq_false_iff.mp noUS⟩)

/-! ### Control frames (R211, R223) -/

/-- A frame without an answer is sent again; after its eighth attempt the node is lost. -/
theorem exec_controlTimeout_due {f : Ctl} (outstanding : (s.begin t).ports[(s.begin t).chainOf l].nodes[a].ctl = some f)
    (sent : f.busy = false) (due : f.sentAt + usFt 50 ≤ (s.begin t).ft) (runs : (s.begin t).running 6 = true) (noEnum : f.req.op ≠ 3) :
    let s0 := s.begin t
    let c := s0.chainOf l
    exec (.controlTimeout t l a) s = .next (
      if 8 ≤ f.tries then s0.loseNode c a 2
      else (((s0.updPort c fun p => { p with retries := p.retries + 1 }).updNode c a fun n =>
        { n with ctl := some { f with busy := true } }).sendCtl c a)) := by
  change execControlTimeout t l a s = _
  simp only [execControlTimeout, outstanding, sent, due.not_gt, runs, noEnum, Bool.false_eq_true, not_true_eq_false, or_self, false_and,
    if_false]
  exact (apply_ite Host.Outcome.next _ _ _).symm

/-- A response answers the frame that is outstanding for a node: its address, sequence, operation and register are those of the frame. -/
structure Ctl.AnsweredBy (f : Ctl) (a : Fin 9) (r : CtlResp) : Prop where
  addr : r.addr = a.val
  ok : r.ok = true
  sent : f.busy = false
  cseq : f.cseq = r.cseq
  op : f.req.op = r.op
  reg : f.req.reg = r.reg

section Responses

variable {r : CtlResp} {f : Ctl}

theorem Ctl.AnsweredBy.taken (answered : f.AnsweredBy a r) (status : r.status ≤ 4) :
    ¬ (f.busy = true ∨ f.cseq ≠ r.cseq ∨ f.req.op ≠ r.op ∨ f.req.reg ≠ r.reg ∨ 4 < r.status) := by
  obtain ⟨-, -, sent, cseq, op, reg⟩ := answered
  simp only [sent, cseq, op, reg, status.not_gt, ne_eq, not_true_eq_false, Bool.false_eq_true, or_self, not_false_eq_true]

theorem exec_controlResponse_busy (answered : f.AnsweredBy a r)
    (outstanding : (s.begin t).ports[(s.begin t).chainOf l].nodes[a].ctl = some f) (busy : r.status = 4) :
    let s0 := s.begin t
    let c := s0.chainOf l
    exec (.controlResponse t l r) s =
      .next (((s0.updPort c fun p => { p with retries := p.retries + 1 }).updNode c a fun n =>
        { n with ctl := some { f with busy := true, tries := 0 } }).sendCtl c a) := by
  have node : r.addr < 9 := answered.addr ▸ a.isLt
  obtain rfl : a = ⟨r.addr, node⟩ := Fin.ext answered.addr.symm
  change execControlResponse t l r s = _
  simp only [execControlResponse, answered.ok, node, outstanding, answered.taken busy.le, Bool.not_true, Bool.false_eq_true, dite_true, if_false]
  exact if_pos busy

/-- A response that is not BUSY completes the frame; the words of a READ are taken. -/
theorem exec_controlResponse_completes (answered : f.AnsweredBy a r)
    (outstanding : (s.begin t).ports[(s.begin t).chainOf l].nodes[a].ctl = some f) (noEnum : f.req.op ≠ 3) (status : r.status < 4) :
    let s0 := s.begin t
    let c := s0.chainOf l
    let s1 := s0.updNode c a fun n => { n with ctl := none }
    exec (.controlResponse t l r) s =
      .next ((if f.req.op = 1 then s1.takeRead c a f.req.reg r.status r.data else s1).nextCtl c a) := by
  have node : r.addr < 9 := answered.addr ▸ a.isLt
  obtain rfl : a = ⟨r.addr, node⟩ := Fin.ext answered.addr.symm
  change execControlResponse t l r s = _
  simp only [execControlResponse, answered.ok, node, outstanding, answered.taken status.le, status.ne, noEnum, Bool.not_true,
    Bool.false_eq_true, dite_true, if_false]
  split <;> rfl

theorem exec_controlResponse_bad (bad : r.ok = false) :
    exec (.controlResponse t l r) s = .next ((s.begin t).updPort l fun p => { p with discards := p.discards + 1 }) :=
  if_pos (by rw [bad]; rfl)

end Responses

/-! ### Status frames (R210, R226, R234) -/

theorem State.countLock_of_no_run (noRun : s.lanes[l].run = 0) (lanes : Nat) : s.countLock l a lanes = s := by
  unfold State.countLock
  extract_lets x
  split
  case h_1 => rfl
  case h_2 => exact if_neg fun run => absurd run.1 (by rw [noRun]; decide)

theorem State.foldl_countLock_of_no_run {ports : List (Fin 16)} (noRun : ∀ q ∈ ports, s.lanes[q].run = 0) (lanes : Nat) :
    ports.foldl (fun s q => s.countLock q a lanes) s = s := by
  induction ports with
  | nil => rfl
  | cons q ports ih =>
    rw [List.foldl_cons, State.countLock_of_no_run (noRun q List.mem_cons_self)]
    exact ih fun p mem => noRun p (List.mem_cons_of_mem q mem)

/-- The status of a node of a ready chain, without a lane run and with lock on both logical lanes, reports on its head. -/
theorem exec_statusFrame_ready {r : StatusRep} {hd : Fin 64} (addr : r.addr = a.val) :
    let s0 := (s.begin t).updPort l fun p => r.rx.foldl Port.takeFec p
    let c := s0.chainOf l
    let s1 := (s0.updNode c a fun n =>
      { n with lastStatus := some s0.ft, lastSeq := some r.sseq, timeErr := r.timeErr, lanes := r.lanes, timeOk := r.timeOk,
               side := r.side, status := r.body }).farSide c a r.lanes
    let p := s1.nodePort c a
    r.ok = true → s0.ports[c].nodes[a].present = true → s0.ports[c].nodes[a].lost = false →
    s0.ports[c].nodes[a].head = some hd → s1.ports[c].state = .ready → (∀ q ∈ s1.chainPorts c, s1.lanes[q].run = 0) →
    s1.laneLost p 0 r.lanes = false → s1.laneLost p 1 r.lanes = false →
    exec (.statusFrame t l r) s = .next (s1.headReport hd r.temp r.sensorFault r.tripped) := by
  have node : r.addr < 9 := addr ▸ a.isLt
  obtain rfl : a = ⟨r.addr, node⟩ := Fin.ext addr.symm
  intro s0 c s1 p ok present kept head ready noRun held0 held1
  have known : ¬ (¬ s0.ports[c].nodes[(⟨r.addr, node⟩ : Fin 9)].present = true ∨
      s0.ports[c].nodes[(⟨r.addr, node⟩ : Fin 9)].lost = true) := by
    rw [present, kept]; decide
  refine (if_neg (by rw [ok]; decide)).trans ((dif_pos node).trans ((if_neg known).trans ?_))
  extract_lets now x1 x2 aligned port counted carried
  have noAligned : aligned = s1 := if_neg fun aligning => by cases ready.symm.trans aligning.1
  have noCounted : counted = s1 := by
    simp only [counted, noAligned]
    exact State.foldl_countLock_of_no_run noRun r.lanes
  have noneLost : carried = s1 := by
    have served : port = p := congrArg (fun x : State => x.nodePort c ⟨r.addr, node⟩) noAligned
    simp only [carried, noCounted, served, List.foldl_cons, List.foldl_nil, held0, held1, Bool.false_eq_true, if_false]
  rw [noneLost]
  split
  case h_1 found => cases head.symm.trans found; rfl
  case h_2 found => cases head.symm.trans found

end Nodes

/-- Settles O36: a lemma for each command on its path. -/
theorem nodesAreWatched : Obligations.NodesAreWatched := by
  refine ⟨?silent, ?neighbour, ?port, ?timeout, ?response, ?bad, ?status⟩
  case silent => exact fun t l a s b => exec_statusTimeout_silent
  case neighbour => exact fun t l a s b => exec_neighbourLockTimeout_lost
  case port =>
    exact fun t l s noU0 noUS => (exec_portBlockLockLoss_unlocked noU0 noUS).trans (congrArg Host.Outcome.next (State.portLost_eq _ l))
  case timeout => exact fun t l a s f => exec_controlTimeout_due
  case response =>
    intro t l r s f a s0 c addr outstanding ok sent cseq op reg noEnum
    have answered : f.AnsweredBy a r := ⟨addr, ok, sent, cseq, op, reg⟩
    exact ⟨exec_controlResponse_busy answered outstanding, exec_controlResponse_completes answered outstanding noEnum⟩
  case bad => exact fun t l r s => exec_controlResponse_bad
  case status =>
    intro t l r s a hd s0 c s1 p addr
    exact exec_statusFrame_ready addr

end Sys2Proof.Machine
end

section
/-! PROOFS. Links carry lines and move lanes (O37): a line frame and what is recorded of it, the delays of the nodes, lost blocks, the lanes and
the dual-homed chains. The delay on the far side, a release refused while the data lane is marked failed, and RESTORE in SPLIT alone are the
model's own (notes/assumptions/16); blocks that are not good are discarded by R200. -/

namespace Sys2Proof.Machine

/-! ### Line frames and time (R207, R217, R219) -/

section Frames

variable {s : State} {t : Nat} {l : Fin 16} {h : Fin 64} {r : Fin 4}

theorem lineFrame_length (node row : Nat) (void : Bool) (line fire : Nat) (segs : List Int) (factors : List Nat) (sag : Int)
    (handle q codes : Nat) : (lineFrame node row void line fire segs factors sag handle q codes).length = frameWords q := by
  simp only [lineFrame, sealFrame, wordsOfNat, frameWords, List.length_append, List.length_cons, List.length_map, List.length_range,
    List.length_nil]
  omega

theorem State.mem_send_out {o : Out} (s : State) (l : Fin 16) (lane : Nat) (os : List Out) (sent : o ∈ s.out) : o ∈ (s.send l lane os).out := by
  unfold State.send
  split
  case isTrue => exact sent
  case isFalse => exact List.mem_append_left _ sent

theorem State.frame_mem_placeFrame_out (s : State) (l : Fin 16) (ws : List Nat) (line : List (Fin 64 × Fin 4 × Nat × Nat)) (ctl : List Nat) :
    .frame l.val (s.placeFrame l ws line ctl).2.1 ws ∈ (s.placeFrame l ws line ctl).1.out :=
  State.mem_send_out _ _ _ _ (List.mem_append_right _ (List.mem_singleton_self _))

theorem exec_lineFrameTransmit_next {y : Stamped} (sends : (s.begin t).sends l = true) (next : (s.begin t).nextFrame l = some (h, r, y)) :
    let s0 := s.begin t
    let q := s0.placeFrame l (s0.lineWords h r y) [(h, r, y.handle, y.line)] []
    let s1 := q.1.updRow h r fun x =>
      { x with stamped := x.stamped.map fun z =>
          if z.order = y.order then { z with sent := some { port := l, lane := q.2.1, tick := q.2.2.1, bseq := q.2.2.2, depth := y.depth } } else z }
    exec (.lineFrameTransmit t l) s = .next (s1.pumpCtl l) := by
  refine (if_neg (by rw [sends]; decide)).trans ?_
  split
  case h_1 none_ => cases next.symm.trans none_
  case h_2 found => cases next.symm.trans found; rfl

theorem exec_timePairSend_due (up : (s.begin t).ports[l].state = .aligning ∨ (s.begin t).ports[l].state = .ready)
    (due : periodic (s.begin t).ports[l].lastTime (usFt 10) (s.begin t).ft = true) :
    let s0 := s.begin t
    exec (.timePairSend t l) s = .next ((s0.updPort l fun x =>
      { x with lastTime := some s0.ft, tseq := (x.tseq + 1) % 256 }).timed l (timePair s0.ft s0.ports[l].tseq)) := if_pos ⟨up, due⟩

end Frames

/-! ### Delays (R216) -/

namespace State.KeepsClock

variable {a b : State} {l c : Fin 16} {n : Fin 9}

theorem isDual (kept : a.KeepsClock b) : b.isDual c = a.isDual c := by
  simp only [State.isDual, State.lc, State.oget, kept.obj]

theorem placeFrame (ws : List Nat) (line : List (Fin 64 × Fin 4 × Nat × Nat)) (ctl : List Nat) :
    a.KeepsClock (a.placeFrame l ws line ctl).1 := by
  have placed (x : State) (f : Port → Port) (o : Out) : x.KeepsClock ((x.updPort l f).emit o) := ⟨rfl, rfl⟩
  exact ((idleLane _).trans (placed ..)).trans (send ..)

theorem sendCtl : a.KeepsClock (a.sendCtl c n) := by
  unfold State.sendCtl
  extract_lets x
  split
  case h_1 => exact ite ((placeFrame ..).trans (updNode ..)) refl
  case h_2 => exact refl

theorem nextCtl : a.KeepsClock (a.nextCtl c n) := by
  unfold State.nextCtl
  extract_lets x
  split
  case h_1 => exact (updNode ..).trans sendCtl
  case h_2 => exact refl

theorem writeReg (reg v : Nat) : a.KeepsClock (a.writeReg c n reg v) := (updNode ..).trans nextCtl

end State.KeepsClock

section Delays

variable {s : State} {t lam : Nat} {l c : Fin 16} {a : Fin 9} {echoes : List Echo} {rt : Rat}

/-- The chain after eight exchanges with a node that give a delay: the requests have left, the answers that fail their checks are counted,
and the node has been measured now. -/
def State.exchanged (s : State) (l c : Fin 16) (a : Fin 9) (echoes : List Echo) : State :=
  let n := s.ports[c].nodes[a]
  let good := goodEchoes a.val n.eseq echoes
  let s1 := (s.timed (s.nodePort c a) ((List.range 8).map fun i => (0x66, echoReqContent a.val ((n.eseq + i) % 256)))).updNode c a
    fun x => { x with eseq := (x.eseq + 8) % 256 }
  (s1.updPort l fun q => { q with discards := q.discards + (echoes.length - good.length) }).updNode c a fun x => { x with echoAt := some s1.ft }

/-- What a median round trip `rt`, measured while the port stood as `p`, writes to the node: the delay of the side that serves it, if it has
changed. -/
def State.noteDelay (s : State) (c : Fin 16) (a : Fin 9) (p : Port) (rt : Rat) : State :=
  if s.nodePort c a = c then
    let d := toU 32 (p.delayAOf a rt)
    if d = p.nodes[a].delayA then s else (s.updNode c a fun x => { x with delayA := d }).writeReg c a 0x108 d
  else
    let d := toU 32 (p.delayFarOf p.enumDepth a.val rt)
    if d = p.nodes[a].delayB then s else (s.updNode c a fun x => { x with delayB := d }).writeReg c a 0x110 d

theorem State.KeepsClock.exchanged : s.KeepsClock (s.exchanged l c a echoes) :=
  (((State.KeepsClock.timed _).trans (.updNode ..)).trans (.updPort _)).trans (.updNode ..)

theorem State.nodePort_single (single : s.isDual c = false) : s.nodePort c a = c := if_neg fun dual => by cases single.symm.trans dual.1

theorem State.noteDelay_near {p : Port} (near : s.nodePort c a = c) (changed : p.nodes[a].delayA ≠ toU 32 (p.delayAOf a rt)) :
    let d := toU 32 (p.delayAOf a rt)
    s.noteDelay c a p rt = (s.updNode c a fun x => { x with delayA := d }).writeReg c a 0x108 d :=
  (if_pos near).trans (if_neg changed.symm)

theorem State.noteDelay_far {p : Port} (far : s.nodePort c a ≠ c) (changed : p.nodes[a].delayB ≠ toU 32 (p.delayFarOf p.enumDepth a.val rt)) :
    let d := toU 32 (p.delayFarOf p.enumDepth a.val rt)
    s.noteDelay c a p rt = (s.updNode c a fun x => { x with delayB := d }).writeReg c a 0x110 d :=
  (if_neg far).trans (if_neg changed.symm)

/-- A node of a ready chain is due for its measurement, and eight good answers give the median round trip `rt`. -/
structure State.Measures (s : State) (c : Fin 16) (a : Fin 9) (echoes : List Echo) (rt : Rat) : Prop where
  due : s.echoDue c a = true
  median : medianOf ((goodEchoes a.val s.ports[c].nodes[a].eseq echoes).map fun e => (e.t4 : Int) - e.t1 - e.turn) = some rt
  ready : s.ports[c].state = .ready

/-- A node of a ready chain is not told to align again; delay_b of all nodes is written in NORMAL alone. -/
theorem exec_echoMeasurement (measures : (s.begin t).Measures ((s.begin t).chainOf l) a echoes rt) :
    let s0 := s.begin t
    let c := s0.chainOf l
    let s3 := (s0.exchanged l c a echoes).noteDelay c a s0.ports[c] rt
    exec (.echoMeasurement t l a echoes lam) s =
      .next (if s3.isDual c = true ∧ s0.ports[c].dual = .normal ∧ 0 < lam then s3.writeDelayB c lam else s3) := by
  obtain ⟨due, median, ready⟩ := measures
  change execEchoMeasurement t l a echoes lam s = _
  unfold execEchoMeasurement
  rw [if_pos due]
  extract_lets good x1 x2 now x3
  split
  case h_1 none_ => cases median.symm.trans none_
  case h_2 found =>
    cases median.symm.trans found
    extract_lets near far x4 x5
    have sameTick : now = x1.ft := State.updPort_ft ..
    have measured : x3 = (s.begin t).exchanged l ((s.begin t).chainOf l) a echoes := by
      simp only [x3, sameTick]
      rfl
    have noted : x4 = x3.noteDelay ((s.begin t).chainOf l) a (s.begin t).ports[(s.begin t).chainOf l] rt := rfl
    have aligned : ¬ ((s.begin t).ports[(s.begin t).chainOf l].state = .aligning ∧
        ¬ (s.begin t).ports[(s.begin t).chainOf l].nodes[a].timeOk = true) := fun aligning => by cases ready.symm.trans aligning.1
    rw [if_neg aligned, ← measured, ← noted]

theorem State.KeepsClock.noteDelay (p : Port) (rt : Rat) : s.KeepsClock (s.noteDelay c a p rt) :=
  .ite (.ite .refl ((State.KeepsClock.updNode ..).trans (.writeReg ..))) (.ite .refl ((State.KeepsClock.updNode ..).trans (.writeReg ..)))

/-- In a chain of one port the delay to the near side is written, and delay_b is not. -/
theorem exec_echoMeasurement_near (measures : (s.begin t).Measures ((s.begin t).chainOf l) a echoes rt)
    (single : (s.begin t).isDual ((s.begin t).chainOf l) = false) :
    let s0 := s.begin t
    let c := s0.chainOf l
    let d := toU 32 (s0.ports[c].delayAOf a rt)
    s0.ports[c].nodes[a].delayA ≠ d →
    exec (.echoMeasurement t l a echoes lam) s =
      .next (((s0.exchanged l c a echoes).updNode c a fun x => { x with delayA := d }).writeReg c a 0x108 d) := by
  intro s0 c d changed
  have kept : s0.KeepsClock (s0.exchanged l c a echoes) := .exchanged
  have near : (s0.exchanged l c a echoes).nodePort c a = c := State.nodePort_single (kept.isDual.trans single)
  have stillSingle : ((s0.exchanged l c a echoes).noteDelay c a s0.ports[c] rt).isDual c = false :=
    (kept.trans (.noteDelay ..)).isDual.trans single
  exact (exec_echoMeasurement measures).trans (congrArg Host.Outcome.next
    ((if_neg fun dual => Bool.eq_false_iff.mp stillSingle dual.1).trans (State.noteDelay_near near changed)))

/-- In SPLIT the delay of a node that the secondary reaches is that of its far side. -/
theorem exec_echoMeasurement_far (measures : (s.begin t).Measures ((s.begin t).chainOf l) a echoes rt)
    (inSplit : (s.begin t).ports[(s.begin t).chainOf l].dual = .split) :
    let s0 := s.begin t
    let c := s0.chainOf l
    let d := toU 32 (s0.ports[c].delayFarOf s0.ports[c].enumDepth a.val rt)
    (s0.exchanged l c a echoes).nodePort c a ≠ c → s0.ports[c].nodes[a].delayB ≠ d →
    exec (.echoMeasurement t l a echoes lam) s =
      .next (((s0.exchanged l c a echoes).updNode c a fun x => { x with delayB := d }).writeReg c a 0x110 d) := by
  intro s0 c d far changed
  have notNormal : s0.ports[c].dual ≠ .normal := by rw [inSplit]; decide
  exact (exec_echoMeasurement measures).trans
    (congrArg Host.Outcome.next ((if_neg fun normal => notNormal normal.2.1).trans (State.noteDelay_far far changed)))

end Delays

/-! ### Losses (R222) -/

theorem lostCtls_of_no_ctls {a : Nat} {recs : List FecRec} (noCtls : ∀ x ∈ recs, x.ctls = []) : lostCtls a recs = [] := by
  rw [lostCtls, List.flatMap_eq_nil_iff.mpr noCtls]
  rfl

/-- A block without control frames is lost, and its lane has not lost more than 16 within the last millisecond. -/
theorem exec_lossReport_lines {t : Nat} {l : Fin 16} {r : LossRep} {s : State} {a : Fin 9} (addr : r.addr = a.val) :
    let s0 := s.begin t
    let c := s0.chainOf l
    let recs := s0.ports[l].named r.logical r.bseq s0.ft
    let s1 := s0.updPort l fun p =>
      { p with blocksLost := p.blocksLost + 1,
               loss0 := if r.logical = 0 then (s0.ft :: p.loss0).filter fun b => s0.ft < b + msFt 1 else p.loss0,
               loss1 := if r.logical = 1 then (s0.ft :: p.loss1).filter fun b => s0.ft < b + msFt 1 else p.loss1 }
    let mine := (recs.flatMap (·.lines)).filter fun e => s1.heads[e.1].link == some c && s1.heads[e.1].node == a.val
    let s2 := mine.eraseDups.foldl (fun x e => x.loseLine l r.logical e) s1
    r.ok = true → r.logical ≤ 1 → (∀ x ∈ recs, x.ctls = []) →
    (if r.logical = 0 then s2.ports[l].loss0 else s2.ports[l].loss1).length ≤ 16 →
    exec (.lossReport t l r) s = .next ((fins 8).foldl State.settle s2) := by
  have node : r.addr < 9 := addr ▸ a.isLt
  obtain rfl : a = ⟨r.addr, node⟩ := Fin.ext addr.symm
  intro s0 c recs s1 mine s2 ok logical noCtls few
  refine (if_neg (by rw [ok]; decide)).trans ((dif_pos node).trans ((if_neg logical.not_gt).trans ?_))
  extract_lets now recs_ x1 mine_ x2 x3 many x4
  have noRetry : x3 = s2 := by
    simp only [x3, recs_]
    rw [lostCtls_of_no_ctls noCtls]
    rfl
  have notMany : many = false := by
    simp only [many, noRetry]
    exact decide_eq_false few.not_gt
  simp only [x4, notMany, noRetry, Bool.false_eq_true, if_false]

/-! ### Lanes (R225) -/

section Lanes

variable {s : State} {t : Nat} {k : Kop} {l : Fin 16} {w : Fin 32}

/-- A move that no lane run waits for. -/
theorem exec_laneMove_done {logical target reason : Nat} (move : (s.begin t).ports[l].move = some (logical, target, reason))
    (complete : ((s.begin t).ports[l].tx[(Fin.ofNat 2 logical : Fin 2)]).free ≤ (s.begin t).ft) :
    let s1 := (s.begin t).moveLane l logical target reason
    let s2 := if target = 2 then s1.event 0x6812 (s1.locBMR 13 l.val logical 1023 0xFFFF) [(8, l.val), (8, logical), (8, reason)] else s1
    s2.lanes[l].run = 0 → exec (.laneMove t l) s = .next s2 := by
  intro s1 s2 noRun
  change execLaneMove t l s = _
  unfold execLaneMove
  extract_lets s0
  split
  case h_1 none_ => cases move.symm.trans none_
  case h_2 found =>
    cases move.symm.trans found
    have otherRun : s2.lanes[l].run ≠ logical + 1 := by omega
    exact (if_neg complete.not_gt).trans ((if_neg fun run => otherRun run.1).trans (if_neg fun run => otherRun run.1))

theorem State.takeOver_elsewhere {logical : Nat} (elsewhere : s.ports[l].physical logical ≠ 2) :
    s.takeOver l logical = if s.spareFree l = true then (s.beginMove l logical 2 2, .done) else (s, .refuse abResource) := if_neg elsewhere

theorem exec_spareTakeoverL0_elsewhere (permitted : Safety.Admits s t k (lIdx l) 0x0C 1 w)
    (elsewhere : (Safety.taken s t k).ports[l].physical 0 ≠ 2) :
    let s1 := Safety.taken s t k
    exec (.spareTakeoverL0 t k l) s = .next (if s1.spareFree l = true then Safety.done (s1.beginMove l 0 2 2) w k (lIdx l) 0x0C
      else Safety.refused s1 w k abResource) :=
  congrArg Host.Outcome.next (State.command_done_or_refused permitted (State.takeOver_elsewhere elsewhere))

theorem exec_spareTakeoverL1_elsewhere (permitted : Safety.Admits s t k (lIdx l) 0x0C 2 w)
    (elsewhere : (Safety.taken s t k).ports[l].physical 1 ≠ 2) :
    let s1 := Safety.taken s t k
    exec (.spareTakeoverL1 t k l) s = .next (if s1.spareFree l = true then Safety.done (s1.beginMove l 1 2 2) w k (lIdx l) 0x0C
      else Safety.refused s1 w k abResource) :=
  congrArg Host.Outcome.next (State.command_done_or_refused permitted (State.takeOver_elsewhere elsewhere))

/-- A logical lane is given back, unless its data lane is marked failed (R311). -/
theorem State.command_giveBack {cmd : Instr} {act : State → Who → State × CmdRes} {i sub v logical : Nat}
    (permitted : Safety.Admits s t k i sub v w)
    (acts : act (Safety.taken s t k) (Safety.actor s t k i sub w) = (Safety.taken s t k).giveBack l logical) :
    let s1 := Safety.taken s t k
    (s.begin t).command cmd k i sub v act =
      if bitOf s1.lanes[l].failed logical = true then Safety.refused s1 w k abResource
      else Safety.done (s1.beginMove l logical logical 2) w k i sub :=
  (State.command_done_or_refused permitted (acts.trans (ite_not ..).symm)).trans (ite_not ..)

theorem exec_spareRelease (permitted : Safety.Admits s t k (lIdx l) 0x0C 0 w) :
    let s1 := Safety.taken s t k
    exec (.spareRelease t k l) s = .next (
      if s1.ports[l].physical 0 = 2 then
        (if bitOf s1.lanes[l].failed 0 = true then Safety.refused s1 w k abResource
         else Safety.done (s1.beginMove l 0 0 2) w k (lIdx l) 0x0C)
      else if s1.ports[l].physical 1 = 2 then
        (if bitOf s1.lanes[l].failed 1 = true then Safety.refused s1 w k abResource
         else Safety.done (s1.beginMove l 1 1 2) w k (lIdx l) 0x0C)
      else Safety.done (s1.updPort l fun p => { p with move := none }) w k (lIdx l) 0x0C) := by
  refine congrArg Host.Outcome.next ?_
  by_cases l0 : (Safety.taken s t k).ports[l].physical 0 = 2
  · exact (State.command_giveBack permitted (if_pos l0)).trans (if_pos l0).symm
  by_cases l1 : (Safety.taken s t k).ports[l].physical 1 = 2
  · exact (State.command_giveBack permitted ((if_neg l0).trans (if_pos l1))).trans ((if_neg l0).trans (if_pos l1)).symm
  · exact (State.command_done permitted ((if_neg l0).trans (if_neg l1))).trans ((if_neg l0).trans (if_neg l1)).symm

end Lanes

/-! ### Dual-homed chains (R200, R229, R230) -/

section Dual

variable {s : State} {t content : Nat} {l : Fin 16} {lane : Fin 2}

theorem blockGood_iff {kind before : Nat} :
    blockGood kind content before = true ↔
      (∃ x ∈ blockTypes, x.1 = kind ∧ content < 2 ^ x.2) ∧ (kind = 0x4C → before = 0x4B) ∧ (kind = 0x56 → before = 0x55) := by
  simp only [blockGood, Bool.and_eq_true, Bool.or_eq_true, bne_iff_ne, beq_iff_eq, List.any_eq_true, decide_eq_true_iff, ne_eq,
    ← imp_iff_not_or, and_assoc]

/-- A control block of a type that is not listed, with a reserved bit set, or with the second half of a pair out of its place (R200). -/
theorem blockGood_bad {kind before : Nat}
    (bad : (kind = 0x87 ∧ 64 ≤ content) ∨ (kind = 0x1E ∧ content ≠ 0) ∨ (kind = 0x33 ∧ 256 ≤ content) ∨
      (kind = 0x4C ∧ before ≠ 0x4B) ∨ (kind = 0x56 ∧ before ≠ 0x55) ∨
      kind ∉ ([0x1E, 0x2D, 0x33, 0x4B, 0x4C, 0x55, 0x56, 0x66, 0x67, 0x78, 0x87] : List Nat)) :
    ¬ blockGood kind content before = true := by
  rw [blockGood_iff]
  rintro ⟨⟨x, listed, rfl, fits⟩, supply, time⟩
  have reserved : ∀ x ∈ blockTypes, (x.1 = 0x87 → x.2 = 6) ∧ (x.1 = 0x1E → x.2 = 0) ∧ (x.1 = 0x33 → x.2 = 8) := by decide
  have types : x.1 ∈ blockTypes.map (·.1) := List.mem_map_of_mem listed
  obtain ⟨reverse, idle, train⟩ := reserved x listed
  rcases bad with ⟨kind, beyond⟩ | ⟨kind, beyond⟩ | ⟨kind, beyond⟩ | ⟨kind, other⟩ | ⟨kind, other⟩ | unlisted
  · rw [reverse kind] at fits; omega
  · rw [idle kind] at fits; omega
  · rw [train kind] at fits; omega
  · exact other (supply kind)
  · exact other (time kind)
  · exact unlisted types

theorem exec_reverseBlock_bad {kind : Nat} (bad : ¬ blockGood kind content (s.begin t).ports[l].rxKind[lane] = true) :
    exec (.reverseBlock t l { lane, kind } content) s =
      .next (((s.begin t).updPort l fun p => { p with rxKind := vupd p.rxKind lane fun _ => kind }).updPort l fun p =>
        { p with discards := p.discards + 1 }) := if_pos bad

/-- A REVERSE block that the secondary of a chain in NORMAL receives: the nodes from the named one on are served from the other side. -/
theorem exec_reverseBlock_splits {node : Fin 9} (named : fld content 0 6 = node.val) (fits : content < 64)
    (secondary : (s.begin t).chainOf l ≠ l) (normal : (s.begin t).ports[(s.begin t).chainOf l].dual = .normal)
    (present : (s.begin t).ports[(s.begin t).chainOf l].nodes[node].present = true) :
    let s0 := s.begin t
    let c := s0.chainOf l
    let s1 := s0.updPort l fun p => { p with rxKind := vupd p.rxKind lane fun _ => 0x87 }
    exec (.reverseBlock t l { lane, kind := 0x87 } content) s =
      .next (((fins 9).foldl (fun x a => if node.val ≤ a.val then x.updNode c a fun n => { n with side := 1 } else x) s1).setDual
        c .split node.val) := by
  intro s0 c s1
  have good : blockGood 0x87 content s0.ports[l].rxKind[lane] = true :=
    blockGood_iff.mpr ⟨⟨(0x87, 6), by decide, rfl, fits⟩, (by omega), (by omega)⟩
  have notTrain : (0x87 : Nat) ≠ 0x33 := by decide
  have inRange : fld content 0 6 < 9 := named ▸ node.isLt
  obtain rfl : node = ⟨fld content 0 6, inRange⟩ := Fin.ext named.symm
  have other : s1.ports[c] = s0.ports[c] := vupd_get_ne secondary
  refine (if_neg (not_not_intro good)).trans ((if_neg notTrain).trans ((if_neg (not_not_intro rfl)).trans ((dif_pos inRange).trans (if_pos ?_))))
  exact ⟨secondary, (congrArg Port.dual other).trans normal, other ▸ present⟩

theorem exec_dualLockRegained_held (dual : (s.begin t).isDual ((s.begin t).chainOf l) = true)
    (degraded : (s.begin t).ports[(s.begin t).chainOf l].dual = .degraded)
    (held : heldFor (s.begin t).ports[(Fin.ofNat 16 (((s.begin t).chainOf l).val + 1) : Fin 16)].lockSince (s.begin t).ft = true) :
    exec (.dualLockRegained t l) s = .next ((s.begin t).setDual ((s.begin t).chainOf l) .normal 0) := if_pos ⟨dual, degraded, held⟩

theorem exec_restore_split {k : Kop} {w : Fin 32} (permitted : Safety.Admits s t k (lIdx l) 0x07 1 w)
    (inSplit : (Safety.taken s t k).ports[(Safety.taken s t k).chainOf l].dual = .split)
    (healed : (Safety.taken s t k).segmentOk ((Safety.taken s t k).chainOf l) = true) :
    let s1 := Safety.taken s t k
    let c := s1.chainOf l
    let far := (fins 9).reverse.filter fun a => decide (s1.ports[c].splitPt ≤ a.val) && s1.ports[c].nodes[a].present
    exec (.restore t k l) s = .next (
      if s1.chainIdle c = true then
        Safety.done ((far.foldl (fun x a => x.updNode c a fun n => { n with side := 0 }) (far.foldl (fun x a => x.writeReg c a 0x118 9) s1)).setDual
          c .normal 0) w k (lIdx l) 0x07
      else Safety.refused s1 w k abWork) := by
  intro s1 c far
  refine congrArg Host.Outcome.next (State.command_done_or_refused permitted ?_)
  by_cases idle : s1.chainIdle c = true
  · exact (if_neg (by rw [idle]; decide)).trans ((if_pos ⟨inSplit, healed⟩).trans (if_pos idle).symm)
  · exact (if_pos (by simpa using idle)).trans (if_neg idle).symm

end Dual

/-- Settles O37: a lemma for each command on its path. -/
theorem linksCarryLinesAndMoveLanes : Obligations.LinksCarryLinesAndMoveLanes := by
  refine ⟨⟨?line, ?time, ?near, ?far, ?loss⟩, ?move, ?take0, ?take1, ?release, ?reverse, ?bad, ?regained, ?restore⟩
  case line =>
    intro t l s h r y s0 q s1 sends next
    exact ⟨lineFrame_length .., s0.frame_mem_placeFrame_out l .., exec_lineFrameTransmit_next sends next⟩
  case time => exact fun t l s => exec_timePairSend_due
  case near => exact fun t l a echoes lam s rt due median ready => exec_echoMeasurement_near ⟨due, median, ready⟩
  case far =>
    exact fun t l a echoes lam s rt due median ready inSplit _ => exec_echoMeasurement_far ⟨due, median, ready⟩ inSplit
  case loss =>
    intro t l r s a s0 c recs s1 mine s2 addr
    exact exec_lossReport_lines addr
  case move => exact fun t l s logical target reason move complete => exec_laneMove_done move complete
  case take0 => exact fun t k l s w => exec_spareTakeoverL0_elsewhere
  case take1 => exact fun t k l s w => exec_spareTakeoverL1_elsewhere
  case release => exact fun t k l s w => exec_spareRelease
  case reverse =>
    intro t l lane node s s0 c s1 secondary normal present
    have named : fld node.val 0 6 = node.val := Nat.mod_eq_of_lt (by omega)
    exact exec_reverseBlock_splits named (by omega) secondary normal present
  case bad => exact fun t l lane kind content s bad => exec_reverseBlock_bad (blockGood_bad bad)
  case regained => exact fun t l s => exec_dualLockRegained_held
  case restore => exact fun t k l s w => exec_restore_split

end Sys2Proof.Machine
end

section
/-! PROOFS. Position feedback (O23, O25, O26): the range of a measured speed, which channels an accepted encoder edge counts on, and one lemma for each
command of a channel, a mark or a gate on the path that the statement names. -/

namespace Sys2Proof.Machine

/-! ### Speed (R271) -/

theorem roundR_le {q : Rat} {n : Nat} (upper : q ≤ n) : roundR q ≤ n := by
  unfold roundR
  split
  case isTrue => exact Int.lt_add_one_iff.mp (Rat.floor_lt_iff.mpr (by push_cast; linarith))
  case isFalse negative =>
    have floor_nonneg : 0 ≤ (1 / 2 - q).floor := Rat.le_floor_iff.mpr (by push_cast; linarith)
    omega

theorem le_roundR {q : Rat} {n : Nat} (lower : -(n : Rat) ≤ q) : -(n : Int) ≤ roundR q := by
  unfold roundR
  split
  case isTrue nonneg =>
    have floor_nonneg : 0 ≤ (q + 1 / 2).floor := Rat.le_floor_iff.mpr (by push_cast; linarith)
    omega
  case isFalse =>
    exact Int.neg_le_neg (Int.lt_add_one_iff.mp (Rat.floor_lt_iff.mpr (by push_cast; linarith)))

/-- Rounding does not carry a clamped value beyond whole limits. -/
theorem natAbs_roundR_clampR_le (v : Rat) (n : Nat) : (roundR (clampR v (-n) n)).natAbs ≤ n := by
  have limits : -(n : Rat) ≤ n := neg_le_self n.cast_nonneg
  have upper : roundR (clampR v (-n) n) ≤ n := roundR_le (max_le limits (min_le_right ..))
  have lower : -(n : Int) ≤ roundR (clampR v (-n) n) := le_roundR (le_max_left ..)
  omega

section Channels

variable {s : State} {t : Nat} {c : Fin 8}

/-- What a speed and its standstill bit may be under a maximum. -/
def SpeedWithin (vm : Nat) (v : Int × Bool) : Prop := v.1.natAbs ≤ vm ∧ (v.2 = true → v.1 = 0)

theorem SpeedWithin.zero {vm : Nat} {still : Bool} : SpeedWithin vm (0, still) := ⟨Nat.zero_le _, fun _ => rfl⟩

theorem SpeedWithin.clamped {vm : Nat} {v : Rat} : SpeedWithin vm (roundR (clampR v (-vm) vm), false) :=
  ⟨natAbs_roundR_clampR_le v vm, fun still => absurd still Bool.false_ne_true⟩

theorem State.speedOf_within (s : State) (c : Fin 8) : SpeedWithin (s.cc c 0x0B) (s.speedOf c) := by
  unfold State.speedOf
  extract_lets
  split
  case h_1 =>
    split
    case isTrue => exact .zero
    case isFalse =>
      split
      case h_1 =>
        split
        case isTrue => exact .zero
        case isFalse => exact .clamped
      case h_2 => exact .zero
  case h_2 => exact .zero

theorem exec_speedSample_due (due : (s.begin t).ft % 12500 = 0) :
    let s0 := s.begin t
    exec (.speedSample t c) s = .next (s0.updChan c fun x =>
      { x with speed := (s0.speedOf c).1, revBit := x.revNew, revNew := false, standstill := (s0.speedOf c).2,
               hist := if (s0.speedOf c).2 then 0 else x.hist, u1 := if (s0.speedOf c).2 then none else x.u1,
               u2 := if (s0.speedOf c).2 then none else x.u2 }) := if_neg (not_not.mpr due)

/-! ### Incremental inputs (R257, R258) -/

/-- Of the channels that are on, those in FAULT do not count (Table 9.2). -/
theorem ChanState.fault_iff {st : ChanState} (on : st ≠ .off) : st = .fault ↔ ¬ st.counts = true := by
  cases st with
  | off => exact absurd rfl on
  | fault | starting | valid | mismatch => decide

/-- The input levels of a channel after an accepted edge of A (wire 0) or B (wire 1). -/
def Chan.followEdge (y : Chan) (wire : Fin 2) (level : Bool) (stamp : Nat) : Chan :=
  { y with levA := if wire = 0 then level else y.levA, levB := if wire = 1 then level else y.levB, lastEdge := some (stamp, wire.val) }

/-- The direction of an edge: A leads B in the one that adds (R257). -/
def Chan.edgeDir (x : Chan) (wire : Fin 2) (level : Bool) : Int :=
  if wire = 0 then (if level != x.levB then 1 else -1) else (if level == x.levA then 1 else -1)

section Edges

variable {wire : Fin 2} {level : Bool} {stamp : Nat}
  (edge : (if wire = 0 then (s.begin t).chans[c].levA else (s.begin t).chans[c].levB) ≠ level)
  (held : (s.begin t).filtered stamp ((s.begin t).cc c 0x05) = true)

include edge held

/-- A channel that is OFF or of another mode only follows an accepted edge. -/
theorem exec_encoderEdge_followed
    (aside : (s.begin t).cc c 0x01 ≠ 1 ∨ (s.begin t).chans[c].state = .off) :
    exec (.encoderEdge t c wire level stamp) s = .next ((s.begin t).updChan c fun y => y.followEdge wire level stamp) :=
  (if_neg (not_or.mpr ⟨edge, not_not.mpr held⟩)).trans (if_pos aside)

/-- An INCREMENTAL channel that is on counts an accepted edge, where its state lets it and no edge of the other input met it. -/
theorem exec_encoderEdge_incremental
    (incremental : ¬ ((s.begin t).cc c 0x01 ≠ 1 ∨ (s.begin t).chans[c].state = .off)) :
    let x := (s.begin t).chans[c]
    let s1 := (s.begin t).updChan c fun y => y.followEdge wire level stamp
    exec (.encoderEdge t c wire level stamp) s = .next (
      if x.lastEdge.any (fun e => e.1 == stamp && e.2 != wire.val) = true then s1.chanFault c 4
      else if x.state.counts = true then s1.countTo c (x.count + s1.inverted c (x.edgeDir wire level)) stamp
      else s1) := by
  intro x s1
  refine (if_neg (not_or.mpr ⟨edge, not_not.mpr held⟩)).trans ((if_neg incremental).trans ?_)
  rw [apply_ite Host.Outcome.next, apply_ite Host.Outcome.next]
  refine if_congr (Eq.congr_left ?_) rfl rfl
  cases x.lastEdge with
  | none => rfl
  | some e => rfl

end Edges

/-! ### Starting, clearing, presetting (R263, R266) -/

theorem exec_channelStarted_may (starting : (s.begin t).chans[c].state = .starting) (may : (s.begin t).mayStart c = true) :
    exec (.channelStarted t c) s = .next ((((s.begin t).setChan c .valid).encValid c).checkSources) := if_pos ⟨starting, may⟩

theorem exec_channelClear_fault {k : Kop} {w : Fin 32} (permitted : Safety.Admits s t k (cIdx c) 0x16 1 w)
    (fault : (Safety.taken s t k).chans[c].state = .fault)
    (gone : (Safety.taken s t k).chans[c].badAt + msFt 1 ≤ (Safety.taken s t k).ft) :
    exec (.channelClear t k c) s =
      .next (Safety.done (((Safety.taken s t k).startChan c).updChan c fun y => { y with cause := 0 }) w k (cIdx c) 0x16) := by
  refine congrArg Host.Outcome.next (State.command_done permitted ?_)
  simp only [fault, gone, if_true]

theorem exec_channelPreset {k : Kop} {v : Nat} {w : Fin 32} (permitted : Safety.Admits s t k (cIdx c) 0x17 v w) :
    let s1 := Safety.taken s t k
    exec (.channelPreset t k c v) s = .next (
      if (s1.zonesOfChan c).all s1.zoneIdle = true then
        Safety.done ((s1.zonesOfChan c).foldl State.presetZone (s1.updChan c fun x => x.shift (sx 64 v - x.count))) w k (cIdx c) 0x17
      else Safety.refused s1 w k abWork) := by
  intro s1
  refine congrArg Host.Outcome.next (State.command_done_or_refused permitted ?_)
  simp only [Bool.not_eq_true', ← Bool.not_eq_true, ite_not]
  rfl

end Channels

/-! ### Marks (R273, R274) -/

section Marks

variable {s : State} {t : Nat} {m z : Fin 8}

theorem exec_markEdge_active {stamp : Nat} {level : Bool} (zone : (s.begin t).markZone m = some z)
    (held : (s.begin t).markFiltered m stamp = true) (active : level = ((s.begin t).oget (mIdx m) 0x01 == 0))
    (sound : (s.begin t).srcValid z = true) :
    exec (.markEdge t m stamp level) s = .next (((s.begin t).updMark m fun x =>
      { x with waits := x.waits ++ [{ stamp, pos := none, close := none, closePos := none }] }).recordMarks z) := by
  change execMarkEdge t m stamp level s = _
  simp only [execMarkEdge, zone, held, ← active, sound, not_true_eq_false, if_true, if_false]

theorem State.settledPos_known {stamp : Nat} {p : Int} : s.settledPos z m stamp (some p) = some p := rfl

/-- An accepted mark is offered to the ledger while K2 runs. -/
theorem State.decideMark_offers {w : MarkWait} {p : Int} {close : Option Int}
    (ok : (s.updMark m fun x => { x with waits := x.waits.filter fun v => v ≠ w }).markOk z m p close = true) (ledger : s.running 2 = true) :
    s.decideMark z m w p close =
      (((s.updMark m fun x => { x with waits := x.waits.filter fun v => v ≠ w }).updMark m fun x =>
        { x with accepted := x.accepted + 1, lastPos := p, lastAt := w.stamp, some_ := true }).offerMark z m p) :=
  (if_pos ok).trans (if_pos ledger)

theorem exec_markOffer_unlimited {w : MarkWait} {ws : List MarkWait} {p : Int} (zone : (s.begin t).markZone m = some z)
    (oldest : (s.begin t).marks[m].waits = w :: ws) (known : w.pos = some p) (unlimited : (s.begin t).oget (mIdx m) 0x05 = 0) :
    exec (.markOffer t m) s = .next ((s.begin t).decideMark z m w p none) := by
  change execMarkOffer t m s = _
  simp only [execMarkOffer, zone, oldest, known, State.settledPos_known, unlimited, if_true]

end Marks

/-! ### The gate test (R279) -/

theorem exec_gateTest_off {s : State} {t : Nat} {k : Kop} {g : Fin 8} {w : Fin 32} (permitted : Safety.Admits s t k (gIdx g) 0x0A 1 w)
    (idle : ∀ z, (Safety.taken s t k).gateZone g = some z → (Safety.taken s t k).zoneIdle z = true)
    (off : (Safety.taken s t k).gates[g].asserted = false) :
    let s1 := Safety.taken s t k
    exec (.gateTest t k g) s = .next (Safety.done ((s1.updGate g fun x =>
      { x with asserted := true, test := true, since := s1.ft, minEnd := max x.minEnd (s1.ft + usFt (s1.gc g 0x03)) }).gateOut
        g true) w k (gIdx g) 0x0A) := by
  intro s1
  refine congrArg Host.Outcome.next (State.command_done permitted ?_)
  cases zone : s1.gateZone g with
  | none => simp only [off, Bool.false_eq_true, if_false]; rfl
  | some z => simp only [idle z zone, off, Bool.not_true, Bool.false_eq_true, if_false]; rfl

/-! ### The statements -/

/-- Settles O26: each way to a speed ends in 0 or in a clamp to the maximum. -/
theorem speedsStayWithinTheMaximum : Obligations.SpeedsStayWithinTheMaximum := fun s c => s.speedOf_within c

/-- Settles O23: an accepted edge by whether the channel is an INCREMENTAL one that is on; of those, all but the ones in FAULT count. -/
theorem encoderEdgesCount : Obligations.EncoderEdgesCount := by
  intro t c wire level stamp s s0 x d s1 edge held
  split
  case isTrue aside => exact exec_encoderEdge_followed edge held aside
  case isFalse incremental =>
    have counting : x.state = .fault ↔ ¬ x.state.counts = true := ChanState.fault_iff (not_or.mp incremental).2
    rw [exec_encoderEdge_incremental edge held incremental]
    simp only [counting, ite_not]
    rfl

/-- Settles O25: a lemma for each command on its path; the mark that is offered by what deciding it does. -/
theorem channelsStartAndMarksAreOffered : Obligations.ChannelsStartAndMarksAreOffered := by
  refine ⟨⟨?started, ?clear, ?preset, ?speed⟩, ?edge, ?offer, ?test⟩
  case started => exact fun t c s => exec_channelStarted_may
  case clear => exact fun t k c s w => exec_channelClear_fault
  case preset => exact fun t k c v s w => exec_channelPreset
  case speed => exact fun t c s => exec_speedSample_due
  case edge => exact fun t m stamp level s z => exec_markEdge_active
  case offer =>
    intro t m s z w ws p s0 s1 zone oldest known unlimited ok ledger
    rw [exec_markOffer_unlimited zone oldest known unlimited, State.decideMark_offers ok ledger]
  case test => exact fun t k g s w => exec_gateTest_off

end Sys2Proof.Machine
end

section
/-! PROOFS. Stops, limits and retention of axes (O39): one lemma for each command on the path that the statement names. A hard limit stops its axis at
the tick at which the filtered edge is stamped (notes/assumptions/27). -/

namespace Sys2Proof.Machine

section Axes

variable {s : State} {t : Nat} {k : Kop} {w : Fin 32} {a : Fin 8}

/-! ### Stopping and coming to rest (R285, R288, R290, R292) -/

theorem State.stopAxis_single (moving : s.axes[a].state = .moving) (single : s.axes[a].grp = none) :
    s.stopAxis a = s.beginStop a (s.ac a 0x13) := by
  simp only [State.stopAxis, moving, single]

/-- STOP leaves an axis that is at rest, or stops already, as it is. -/
theorem State.stopAxis_still (still : s.axes[a].state.rest = true ∨ s.axes[a].state = .stopping) : s.stopAxis a = s := by
  unfold State.stopAxis
  cases state : s.axes[a].state with
  | disabled | idle | retaining | retained | stopping => rfl
  | moving | homing | following => rw [state] at still; exact absurd still (by decide)

theorem exec_axisStop_single (permitted : Safety.Admits s t k (aIdx a) 0x08 1 w) (moving : (Safety.taken s t k).axes[a].state = .moving)
    (single : (Safety.taken s t k).axes[a].grp = none) :
    let s1 := Safety.taken s t k
    exec (.axisStop t k a) s = .next (Safety.going (s1.beginStop a (s1.ac a 0x13)) w k (aIdx a) 0x08) := by
  refine congrArg Host.Outcome.next (State.command_going permitted ?_)
  rw [State.stopAxis_single moving single, moving]
  rfl

theorem exec_axisStop_still (permitted : Safety.Admits s t k (aIdx a) 0x08 1 w)
    (still : (Safety.taken s t k).axes[a].state.rest = true ∨ (Safety.taken s t k).axes[a].state = .stopping) :
    exec (.axisStop t k a) s = .next (Safety.done (Safety.taken s t k) w k (aIdx a) 0x08) := by
  refine congrArg Host.Outcome.next (State.command_done permitted ?_)
  rw [State.stopAxis_still still]
  exact if_pos (by simpa using still)

/-- A command whose action goes on under a condition and is done at once without it. -/
theorem State.command_going_or_done {cmd : Instr} {i sub v : Nat} {act : State → Who → State × CmdRes} {s' : State} {p : Prop} [Decidable p]
    (permitted : Safety.Admits s t k i sub v w)
    (acts : act (Safety.taken s t k) (Safety.actor s t k i sub w) = if p then (s', .running) else (Safety.taken s t k, .done)) :
    (s.begin t).command cmd k i sub v act = if p then Safety.going s' w k i sub else Safety.done (Safety.taken s t k) w k i sub := by
  split
  case isTrue holds => exact State.command_going permitted (acts.trans (if_pos holds))
  case isFalse fails => exact State.command_done permitted (acts.trans (if_neg fails))

theorem exec_groupStop {g : Fin 4} (permitted : Safety.Admits s t k (grpIdx g) 0x02 1 w) :
    let s1 := Safety.taken s t k
    exec (.groupStop t k g) s = .next (if s1.groups[g].state = 1 then Safety.going (s1.stopGroup g) w k (grpIdx g) 0x02
      else Safety.done s1 w k (grpIdx g) 0x02) :=
  congrArg Host.Outcome.next (State.command_going_or_done permitted rfl)

theorem exec_moveComplete_moving (moving : (s.begin t).axes[a].state = .moving) (idle : (s.begin t).axes[a].idleAt (s.begin t).ft = true) :
    exec (.moveComplete t a) s = .next ((s.begin t).comeToRest a .idle 0) := if_pos ⟨.inl moving, idle⟩

/-- A stop that found no home edge has failed unless it ended at the target. -/
theorem exec_stopComplete_not_homed (stopping : (s.begin t).axes[a].state = .stopping)
    (idle : (s.begin t).axes[a].idleAt (s.begin t).ft = true) (notHomed : (s.begin t).axes[a].homed = false) :
    exec (.stopComplete t a) s =
      .next ((s.begin t).comeToRest a .idle (if (s.begin t).axes[a].atTarget = true then 0 else 1 + Config.motionCode 1)) := by
  refine (if_pos ⟨stopping, idle⟩).trans ?_
  simp only [notHomed, Bool.and_false, Bool.false_eq_true, or_false]

theorem exec_virtualLimitCrossed_beyond (beyond : (s.begin t).crossed a = true) :
    exec (.virtualLimitCrossed t a) s = .next ((s.begin t).stopAxis a) := if_pos beyond

/-! ### Switches (R275, R291, R295) -/

section Switches

variable {sw : Fin 16} {stamp : Nat} {level : Bool} {s0 : State}

/-- The record of a switch after an accepted edge to active. -/
def State.switchOnAt (s : State) (sw : Fin 16) (stamp : Nat) : State :=
  { s with switches := vupd s.switches sw fun x => { level := true, edges := x.edges + 1, lastAt := stamp } }

/-- The direction in which an axis steps, or last stepped. -/
def State.stepsPos (s : State) (a : Fin 8) : Bool := match s.axes[a].active s.ft with | some p => p.pos | none => s.axes[a].dir

theorem State.stepsPos_active {p : Profile} (moves : s.axes[a].active s.ft = some p) : s.stepsPos a = p.pos := by
  rw [State.stepsPos, moves]

section Accepted

variable (woken : (s.begin t).wake 6 = s0) (active : (level != (s0.oget (swIdx sw) 0x02 == 1)) = true)
  (edge : s0.switches[sw].level = false) (held : s0.filtered stamp (usFt (s0.oget (swIdx sw) 0x03)) = true)
  (named : s0.oget (swIdx sw) 0x05 = a.val)

include woken active edge held named

/-- What the accepted edge of a switch to active does, by the function of the switch. -/
theorem exec_switchEdge_active :
    let s1 := s0.switchOnAt sw stamp
    let f := s0.oget (swIdx sw) 0x04
    exec (.switchEdge t sw stamp level) s =
      if f = 1 then .next (s1.homeEdge a stamp)
      else if ((f == 2 && s0.stepsPos a) || (f == 3 && !s0.stepsPos a)) && !s0.axes[a].state.rest then .next (s1.hardStop a (s0.stepsPos a))
      else .next s1 := by
  change execSwitchEdge t sw stamp level s = _
  unfold execSwitchEdge
  rw [woken]
  simp only [active, edge, held, Bool.false_eq_true, not_true_eq_false, or_self, if_false]
  have within : s0.oget (swIdx sw) 0x05 < 8 := named ▸ a.isLt
  refine (dif_pos within).trans ?_
  obtain rfl : (⟨s0.oget (swIdx sw) 0x05, within⟩ : Fin 8) = a := Fin.ext named
  rfl

theorem exec_switchEdge_home (home : s0.oget (swIdx sw) 0x04 = 1) :
    exec (.switchEdge t sw stamp level) s = .next ((s0.switchOnAt sw stamp).homeEdge a stamp) :=
  (exec_switchEdge_active woken active edge held named).trans (if_pos home)

/-- A LIMIT_POS switch (function 2) stops an axis that steps up, a LIMIT_NEG one (function 3) an axis that steps down. -/
theorem exec_switchEdge_limit {pos : Bool} (limit : s0.oget (swIdx sw) 0x04 = if pos then 2 else 3) (heads : s0.stepsPos a = pos)
    (inMotion : s0.axes[a].state.rest = false) :
    exec (.switchEdge t sw stamp level) s = .next ((s0.switchOnAt sw stamp).hardStop a pos) := by
  rw [exec_switchEdge_active woken active edge held named, limit, heads, inMotion]
  cases pos with
  | true => rfl
  | false => rfl

end Accepted

end Switches

/-! ### Enabling, disabling, preset, clear (R284, R296, R301) -/

theorem exec_axisEnable_disabled {high : Nat} (permitted : Safety.Admits s t k (aIdx a) 0x05 1 w)
    (disabled : (Safety.taken s t k).axes[a].state = .disabled) :
    let s1 := Safety.taken s t k
    exec (.axisEnable t k a high) s = .next (if high = 0 then Safety.refused s1 w k abMoving
      else Safety.done ((s1.driveEn a true).updAxis a fun x => { x with state := .idle }) w k (aIdx a) 0x05) := by
  refine congrArg Host.Outcome.next ((State.command_done_or_refused permitted ?_).trans (ite_not ..))
  simp only [disabled, ite_not]

theorem exec_axisDisable_idle (permitted : Safety.Admits s t k (aIdx a) 0x05 0 w) (idle : (Safety.taken s t k).axes[a].state = .idle) :
    exec (.axisDisable t k a) s = .next (Safety.done
      (((Safety.taken s t k).driveEn a false).updAxis a fun x => { x with state := .disabled }) w k (aIdx a) 0x05) := by
  refine congrArg Host.Outcome.next (State.command_done permitted ?_)
  simp only [idle, AxisState.rest, Bool.not_true, Bool.false_eq_true, if_false, if_true]

theorem exec_axisDisable_inMotion (permitted : Safety.Admits s t k (aIdx a) 0x05 0 w)
    (inMotion : (Safety.taken s t k).axes[a].state.rest = false) :
    exec (.axisDisable t k a) s = .next (Safety.refused (Safety.taken s t k) w k abMoving) := by
  refine congrArg Host.Outcome.next (State.command_refused permitted ?_)
  simp only [inMotion, Bool.not_false, if_true]

theorem exec_axisPreset_atRest {v : Nat} (permitted : Safety.Admits s t k (aIdx a) 0x0C v w)
    (atRest : (Safety.taken s t k).axes[a].state.rest = true) (range : posRange (sx 64 v) = true) :
    exec (.axisPreset t k a v) s =
      .next (Safety.done ((Safety.taken s t k).updAxis a fun x => { x.reference with pos := sx 64 v }) w k (aIdx a) 0x0C) := by
  refine congrArg Host.Outcome.next (State.command_done permitted ?_)
  simp only [atRest, range, Bool.not_true, Bool.false_eq_true, if_false]

theorem exec_axisClear (permitted : Safety.Admits s t k (aIdx a) 0x0D 1 w) :
    exec (.axisClear t k a) s =
      .next (Safety.done ((Safety.taken s t k).updAxis a fun x => (x.flag 6 false).flag 7 false) w k (aIdx a) 0x0D) :=
  congrArg Host.Outcome.next (State.command_done permitted rfl)

/-! ### Retention (R297, R298) -/

theorem exec_axisPowerDown (permitted : Safety.Admits s t k (aIdx a) 0x0B 1 w) :
    let s1 := Safety.taken s t k
    exec (.axisPowerDown t k a) s = .next (if s1.powerDownCode a = 0 then Safety.going (s1.beginRetain a) w k (aIdx a) 0x0B
      else Safety.refused s1 w k (s1.powerDownCode a)) := by
  refine congrArg Host.Outcome.next ?_
  split
  case isTrue may => exact State.command_going permitted (if_neg (not_not.mpr may))
  case isFalse mayNot => exact State.command_refused permitted (if_pos mayNot)

theorem exec_retRelease_due (retaining : (s.begin t).axes[a].state = .retaining) (driven : (s.begin t).axes[a].retStep = 1)
    (due : (s.begin t).axes[a].retAt + usFt 2 ≤ (s.begin t).ft) :
    exec (.retRelease t a) s =
      .next (((s.begin t).updAxis a fun x => { x with retStep := 2, retDriven := false }).emit (.axisPin a.val 1 1)) :=
  if_pos ⟨retaining, driven, due⟩

theorem exec_retentionCheck_due {low : Bool} (retaining : (s.begin t).axes[a].state = .retaining)
    (released : (s.begin t).axes[a].retStep = 2) (due : (s.begin t).axes[a].retAt + usFt 12 ≤ (s.begin t).ft) :
    exec (.retentionCheck t a low) s = .next (
      if low = true then (s.begin t).updAxis a fun x => { x with retStep := 3 }
      else (s.begin t).phaseLost a (1 + Config.motionCode 3)) :=
  (if_pos ⟨retaining, released, due⟩).trans (apply_ite ..).symm

theorem exec_retentionComplete_inTime (retaining : (s.begin t).axes[a].state = .retaining) (low : (s.begin t).axes[a].retStep = 3)
    (inTime : (s.begin t).ft ≤ (s.begin t).axes[a].retAt + usFt 22 + (s.begin t).axes[a].retTo) :
    exec (.retentionComplete t a) s =
      .next ((((s.begin t).comeToRest a .retained 0).driveEn a false).updAxis a fun x => { x with retStep := 0 }) :=
  if_pos ⟨retaining, low, inTime⟩

theorem exec_retentionTimeout_due (retaining : (s.begin t).axes[a].state = .retaining) (low : (s.begin t).axes[a].retStep = 3)
    (due : (s.begin t).axes[a].retAt + usFt 12 + (s.begin t).axes[a].retTo ≤ (s.begin t).ft) :
    exec (.retentionTimeout t a) s = .next ((s.begin t).phaseLost a (1 + Config.motionCode 3)) := if_pos ⟨retaining, low, due⟩

theorem exec_driverSupplyLoss_single (idle : (s.begin t).axes[a].state = .idle) (single : (s.begin t).axes[a].grp = none) :
    exec (.driverSupplyLoss t a) s = .next ((s.begin t).phaseLost a (1 + Config.motionCode 2)) := by
  change execDriverSupplyLoss t a s = _
  simp only [execDriverSupplyLoss, idle, single]

end Axes

/-- Settles O39: a lemma for each command on its path; the switch by its function. -/
theorem axesStopAndAreRetained : Obligations.AxesStopAndAreRetained := by
  refine ⟨⟨?stop, ?groupStop, ?moved, ?stopped, ?crossed, ?switch, ?enable, ?disable, ?preset, ?clear⟩,
    ?powerDown, ?release, ?check, ?complete, ?timeout, ?supply⟩
  case stop => exact fun t k a s w permitted => ⟨exec_axisStop_single permitted, exec_axisStop_still permitted⟩
  case groupStop => exact fun t k g s w => exec_groupStop
  case moved => exact fun t a s => exec_moveComplete_moving
  case stopped => exact fun t a s => exec_stopComplete_not_homed
  case crossed => exact fun t a s => exec_virtualLimitCrossed_beyond
  case switch =>
    intro t sw stamp level s a p s0 lv s1 edge held named active
    have wasOff : s0.switches[sw].level = false := by rw [active] at edge; exact Bool.eq_false_iff.mpr edge
    have record : s1 = s0.switchOnAt sw stamp := by simp only [s1, active]; rfl
    rw [record]
    refine ⟨exec_switchEdge_home rfl active wasOff held named, fun limit moves up inMotion => ?_, fun limit moves down inMotion => ?_⟩
    · exact exec_switchEdge_limit (pos := true) rfl active wasOff held named limit ((State.stepsPos_active moves).trans up) inMotion
    · exact exec_switchEdge_limit (pos := false) rfl active wasOff held named limit ((State.stepsPos_active moves).trans down) inMotion
  case enable => exact fun t k a high s w => exec_axisEnable_disabled
  case disable => exact fun t k a s w permitted => ⟨exec_axisDisable_idle permitted, exec_axisDisable_inMotion permitted⟩
  case preset => exact fun t k a v s w => exec_axisPreset_atRest
  case clear => exact fun t k a s w => exec_axisClear
  case powerDown => exact fun t k a s w => exec_axisPowerDown
  case release => exact fun t a s => exec_retRelease_due
  case check => exact fun t a low s => exec_retentionCheck_due
  case complete => exact fun t a s => exec_retentionComplete_inTime
  case timeout => exact fun t a s => exec_retentionTimeout_due
  case supply => exact fun t a s => exec_driverSupplyLoss_single

end Sys2Proof.Machine
end

section
/-! PROOFS. Moves, homing, following, feed moves and groups of axes (O38): one lemma for each command on the path that the statement names. The
stretches of a following axis are those of `Axis.coarse`: its first step, a step onward and a step that turns. -/

namespace Sys2Proof.Machine

section Motion

variable {s : State} {t : Nat} {k : Kop} {w : Fin 32} {a : Fin 8}

/-! ### Moves and homing (R285–R287, R295) -/

/-- A move within the range that no limit blocks starts its profile with the parameters just latched. -/
theorem State.moveTo_starts {target : Int} (range : posRange target = true) (moves : target - s.axes[a].pos ≠ 0)
    (free : s.limitBlocks a (decide (0 < target - s.axes[a].pos)) = false) :
    s.moveTo a target =
      ((s.latchAxis a).startMove a .moving (decide (0 < target - s.axes[a].pos)) (target - s.axes[a].pos).natAbs
        (s.latchAxis a).axes[a].vLat, .running) := by
  simp only [State.moveTo, range, Bool.not_true, Bool.false_eq_true, moves, free, if_false]

theorem exec_moveAbsolute_starts {v : Nat} (permitted : Safety.Admits s t k (aIdx a) 0x06 v w) (ready : (Safety.taken s t k).motionCode a = 0)
    (referenced : (Safety.taken s t k).axes[a].referenced = true) (range : posRange (sx 64 v) = true)
    (moves : sx 64 v - (Safety.taken s t k).axes[a].pos ≠ 0)
    (free : (Safety.taken s t k).limitBlocks a (decide (0 < sx 64 v - (Safety.taken s t k).axes[a].pos)) = false) :
    let s1 := Safety.taken s t k
    let d := sx 64 v - s1.axes[a].pos
    let s2 := s1.latchAxis a
    exec (.moveAbsolute t k a v) s =
      .next (Safety.going (s2.startMove a .moving (decide (0 < d)) d.natAbs s2.axes[a].vLat) w k (aIdx a) 0x06) := by
  have known : ¬ (!(Safety.taken s t k).axes[a].referenced) = true := by rw [referenced]; decide
  exact congrArg Host.Outcome.next (State.command_going permitted
    ((if_neg (not_not.mpr ready)).trans ((if_neg known).trans (State.moveTo_starts range moves free))))

theorem exec_moveRelative_starts {v : Nat} (permitted : Safety.Admits s t k (aIdx a) 0x07 v w) (ready : (Safety.taken s t k).motionCode a = 0)
    (range : posRange ((Safety.taken s t k).axes[a].pos + sx 64 v) = true)
    (moves : (Safety.taken s t k).axes[a].pos + sx 64 v - (Safety.taken s t k).axes[a].pos ≠ 0)
    (free : (Safety.taken s t k).limitBlocks a
      (decide (0 < (Safety.taken s t k).axes[a].pos + sx 64 v - (Safety.taken s t k).axes[a].pos)) = false) :
    let s1 := Safety.taken s t k
    let d := s1.axes[a].pos + sx 64 v - s1.axes[a].pos
    let s2 := s1.latchAxis a
    exec (.moveRelative t k a v) s =
      .next (Safety.going (s2.startMove a .moving (decide (0 < d)) d.natAbs s2.axes[a].vLat) w k (aIdx a) 0x07) :=
  congrArg Host.Outcome.next (State.command_going permitted ((if_neg (not_not.mpr ready)).trans (State.moveTo_starts range moves free)))

/-- A home of an axis that has a HOME switch starts towards the configured side. -/
theorem exec_axisHome_starts (permitted : Safety.Admits s t k (aIdx a) 0x09 1 w) (ready : (Safety.taken s t k).motionCode a = 0)
    (switch : ((fins 16).any fun w => (Safety.taken s t k).oget (swIdx w) 0x04 == 1 && (Safety.taken s t k).oget (swIdx w) 0x05 == a.val) = true)
    (free : (Safety.taken s t k).limitBlocks a ((Safety.taken s t k).ac a 0x1B == 0) = false) :
    let s1 := Safety.taken s t k
    let s2 := s1.latchAxis a
    exec (.axisHome t k a 1) s =
      .next (Safety.going ((s2.startMove a .homing (s1.ac a 0x1B == 0) (2 ^ 49) (s2.ac a 0x1C)).updAxis a fun x => { x with homed := false })
        w k (aIdx a) 0x09) := by
  refine congrArg Host.Outcome.next (State.command_going permitted ?_)
  simp only [ne_eq, not_true_eq_false, ready, switch, Bool.not_true, Bool.false_eq_true, free, if_false]

/-! ### Following (R293, R294) -/

theorem exec_followStart_idle (permitted : Safety.Admits s t k (aIdx a) 0x0A 1 w) (ready : (Safety.taken s t k).motionCode a = 0) :
    let s1 := Safety.taken s t k
    exec (.followStart t k a) s = .next (Safety.done ((s1.latchAxis a).updAxis a fun x =>
      { x with state := .following, mult := s1.ac a 0x1A, lastIn := none, ending := false }) w k (aIdx a) 0x0A) :=
  congrArg Host.Outcome.next (State.command_done permitted (if_neg (not_not.mpr ready)))

/-- The end of a follow is done at once where nothing is owed; else it goes on while the microsteps owed are issued. -/
theorem exec_followEnd_following (permitted : Safety.Admits s t k (aIdx a) 0x0A 0 w)
    (following : (Safety.taken s t k).axes[a].state = .following) :
    let s1 := Safety.taken s t k
    exec (.followEnd t k a) s = .next (
      if s1.axes[a].idleAt s1.ft = true then Safety.done (s1.comeToRest a .idle 0) w k (aIdx a) 0x0A
      else Safety.going (s1.updAxis a fun x => { x with ending := true }) w k (aIdx a) 0x0A) := by
  refine congrArg Host.Outcome.next ?_
  split
  case isTrue issued => exact State.command_done permitted ((if_neg (not_not.mpr following)).trans (if_pos issued))
  case isFalse owed => exact State.command_going permitted ((if_neg (not_not.mpr following)).trans (if_neg owed))

/-- The stretch that issues `owed` microsteps from `t0` on, evenly over `est` seconds but no faster than the latched maximum speed (R293). -/
def Axis.stretch (x : Axis) (t0 : Nat) (dir : Bool) (turn : Option Nat) (owed : Nat) (est : Rat) : Profile :=
  { kind := 2, t0, pos := dir, turn, base := .rat 0, dist := .rat owed, v0 := .rat (spread owed est x.vLat), vmax := 0, acc := 0, dec := 0,
    num := 1, den := 1, total := owed }

section Stretches

variable {x : Axis} {p : Profile} {stamp setup ready : Nat}

theorem Axis.dirAt_resting {now : Nat} (resting : x.segs = []) : x.dirAt now = x.dir := by rw [Axis.dirAt, resting]; rfl

/-- The axis with the stretches `gone` counted into its position, `rest` going on and `new` begun by the coarse step at `stamp`. -/
def Axis.replan (x : Axis) (gone rest : List Profile) (new : Profile) (now stamp : Nat) : Axis :=
  { { x with segs := gone }.halt now with segs := rest ++ [new], lastIn := some stamp }

theorem Axis.replan_nil {new : Profile} {now : Nat} : x.replan [] [] new now stamp = { x with segs := [new], lastIn := some stamp } := rfl

/-- The first step, in the direction for which DIR stands: the axis owes one step's microsteps, at the maximum speed. -/
theorem Axis.coarse_first (resting : x.segs = []) (first : x.lastIn = none) :
    x.coarse x.dir stamp setup ready = ([], [], x.stretch (max stamp ready) x.dir none x.mult ((x.mult : Rat) / x.vLat)) := by
  have heading : (x.heading stamp != x.dir) = false := by simp [Axis.heading, Axis.dirAt_resting resting, resting]
  have owed : x.owedAt stamp = 0 := by simp [Axis.owedAt, resting]
  simp [Axis.coarse, Axis.stretch, heading, owed, resting, first]

/-- A step of the other direction: the stretch under way is finished at the maximum speed; its end turns DIR, and the new stretch waits for DIR_SETUP
(R283, R293). -/
theorem Axis.coarse_turn {dir : Bool} (one : x.segs = [p]) (live : p.over_ stamp = false) (other : p.pos = !dir) :
    x.coarse dir stamp setup ready =
      ([], [p.finish stamp x.vLat],
        x.stretch (max (max stamp (p.finish stamp x.vLat).endTick + 125 * setup) ready) dir (some (max stamp (p.finish stamp x.vLat).endTick))
          x.mult ((x.mult : Rat) / x.vLat)) := by
  have heading : (x.heading stamp != dir) = true := by simp [Axis.heading, one, other]
  simp [Axis.coarse, Axis.stretch, heading, one, live]

/-- A step of the same direction within 10 ms of the step before it: what is still owed is issued with it, evenly over the time since then. -/
theorem Axis.coarse_onward {i : Nat} (one : x.segs = [p]) (live : p.over_ stamp = false) (following : x.state = .following)
    (before : x.lastIn = some i) (soon : stamp < i + msFt 10) :
    x.coarse p.pos stamp setup ready =
      ([p], [], x.stretch (max (max stamp p.t0) ready) p.pos p.turn (p.total - p.stepsAt stamp + x.mult) (ftSec (stamp - i))) := by
  have heading : (x.heading stamp != p.pos) = false := by simp [Axis.heading, one]
  have owed : x.owedAt stamp = p.total - p.stepsAt stamp := by simp [Axis.owedAt, following, one]
  have timely : waited (some i) (msFt 10) stamp = false := decide_eq_false (Nat.not_le.mpr soon)
  simp [Axis.coarse, Axis.stretch, heading, owed, timely, one, live, before]

end Stretches

section CoarseSteps

variable {dir : Bool}

/-- An axis that does not follow, or ends its follow, counts the step and ignores it (R294). -/
theorem exec_coarseStep_ignored (ignores : (s.begin t).axes[a].state ≠ .following ∨ (s.begin t).axes[a].ending = true) :
    exec (.coarseStep t a dir) s = .next ((s.begin t).updAxis a fun x => { x with ignored := x.ignored + 1 }) := if_pos ignores

section Following

variable (following : (s.begin t).axes[a].state = .following) (goesOn : (s.begin t).axes[a].ending = false)

include following goesOn

theorem State.heeds_coarseStep : ¬ ((s.begin t).axes[a].state ≠ .following ∨ (s.begin t).axes[a].ending = true) := by
  rw [following, goesOn]; decide

theorem exec_coarseStep_limited (limit : (s.begin t).hardLimit a dir = true) :
    exec (.coarseStep t a dir) s = .next ((s.begin t).hardStop a dir) :=
  (if_neg (State.heeds_coarseStep following goesOn)).trans (if_pos limit)

/-- A step for which DIR stays as it is and not more than four steps' microsteps are owed leaves the axis with the stretches of `Axis.coarse`. -/
theorem exec_coarseStep_follows {gone rest : List Profile} {new : Profile} :
    let s0 := s.begin t
    let x := s0.axes[a]
    let stamp := perEdge s0.ft
    let x' := x.replan gone rest new s0.ft stamp
    s0.hardLimit a dir = false →
    x.coarse dir stamp (fld (s0.ac a 0x19) 12 8) (x.enAt + usFt (10 * fld (s0.ac a 0x19) 20 8)) = (gone, rest, new) →
    x.dirAt s0.ft = x'.dirAt s0.ft → new.total ≤ 4 * x.mult →
    exec (.coarseStep t a dir) s = .next (s0.updAxis a fun _ => x') := by
  intro s0 x stamp x' free plan still few
  refine (if_neg (State.heeds_coarseStep following goesOn)).trans ((if_neg (Bool.eq_false_iff.mp free)).trans ?_)
  dsimp only
  rw [plan]
  exact (if_neg (Nat.not_lt.mpr few)).trans (congrArg Host.Outcome.next (if_pos still))

theorem exec_coarseStep_first (free : (s.begin t).hardLimit a (s.begin t).axes[a].dir = false)
    (first : (s.begin t).axes[a].lastIn = none) (resting : (s.begin t).axes[a].segs = []) :
    let s0 := s.begin t
    let x := s0.axes[a]
    exec (.coarseStep t a x.dir) s = .next (s0.updAxis a fun _ =>
      { x with lastIn := some (perEdge s0.ft),
               segs := [x.stretch (max (perEdge s0.ft) (x.enAt + usFt (10 * fld (s0.ac a 0x19) 20 8))) x.dir none x.mult
                 ((x.mult : Rat) / x.vLat)] }) := by
  intro s0 x
  refine (exec_coarseStep_follows following goesOn free (Axis.coarse_first resting first) ?still ?few).trans ?_
  case still => rw [Axis.replan_nil, Axis.dirAt_resting resting]; rfl
  case few => exact Nat.le_mul_of_pos_left _ (by decide)
  rw [Axis.replan_nil]

end Following

end CoarseSteps

/-! ### Feed moves and groups (R289, R299) -/

/-- A feed move that is due starts on the zone's idle feed axis. -/
theorem exec_feedMoveStart_due {z : Fin 8} (axis : (s.begin t).feedAxis z = some a) (due : (s.begin t).zones[z].feedDue = true)
    (idle : (s.begin t).axes[a].state = .idle) (runs : (s.begin t).running 3 = true) :
    let s0 := s.begin t
    let d := sx 32 (s0.zc z 0x60)
    let s1 := (s0.updZone z fun y => { y with feedDue := false, feedRun := true }).latchAxis a
    d ≠ 0 → s1.limitBlocks a (decide (0 < d)) = false → posRange (s1.axes[a].pos + d) = true →
    exec (.feedMoveStart t z) s =
      .next ((s1.startMove a .moving (decide (0 < d)) d.natAbs s1.axes[a].vLat).updAxis a fun x => { x with feed := some z }) := by
  intro s0 d s1 moves free range
  change execFeedMoveStart t z s = _
  unfold execFeedMoveStart
  simp only [axis]
  have unblocked : ¬ (s1.limitBlocks a (decide (0 < d)) = true ∨ ¬ posRange (s1.axes[a].pos + d) = true) := by rw [free, range]; decide
  exact (if_pos ⟨due, idle, runs⟩).trans ((if_neg moves).trans (if_neg unblocked))

end Motion

/-- Settles O38: a lemma for each command on its path; a coarse step by the stretches it leaves; a group by the checks that it passes. -/
theorem axesMove : Obligations.AxesMove := by
  refine ⟨?absolute, ?relative, ?home, ?follow, ?end_, ?first, ?turn, ?onward, ?step, ?feed, ?group⟩
  case absolute => exact fun t k a v s w => exec_moveAbsolute_starts
  case relative => exact fun t k a v s w => exec_moveRelative_starts
  case home => exact fun t k a s w => exec_axisHome_starts
  case follow => exact fun t k a s w => exec_followStart_idle
  case end_ => exact fun t k a s w => exec_followEnd_following
  case first => exact fun t a s => exec_coarseStep_first
  case turn => exact fun x p dir stamp setup ready one live other => ⟨rfl, rfl, Axis.coarse_turn one live other⟩
  case onward => exact fun x p stamp setup ready i => Axis.coarse_onward
  case step => exact fun t a dir s => ⟨exec_coarseStep_ignored, exec_coarseStep_limited⟩
  case feed => exact fun t z s a => exec_feedMoveStart_due
  case group =>
    intro t k g targets s w s1 ms target ds big lead v ac dc go s2 t0 s3 permitted members running able moves
    have runs : ¬ (!s1.running 3) = true := by rw [running]; decide
    exact congrArg Host.Outcome.next (State.command_going permitted
      ((if_neg (Bool.eq_false_iff.mp members)).trans ((if_neg runs).trans ((if_neg (not_not.mpr able)).trans (if_neg moves)))))

end Sys2Proof.Machine
end

section
/-! PROOFS. Self-calibration (O40, O41): sin/cos channels, lane runs, requests and the values that a host writes, one lemma for each command on the
path that the statement names. Filling the lanes of a port with idle words leaves the lane runs as they are, so that a termination run goes on with
the record it had. -/

namespace Sys2Proof.Machine

/-! ### Sin/cos channels (R305–R308) -/

section Channels

variable {s : State} {t : Nat} {c : Fin 4} {n : Corr}

theorem exec_encoderCollectionComplete_collected (first : (s.begin t).enc[c].st = 1) (waits : (s.begin t).enc[c].ready = false)
    (valid : (s.begin t).chans[encChan c].state = .valid) (collected : (s.begin t).collected c = true) :
    exec (.encoderCollectionComplete t c) s =
      .next ((s.begin t).updCal c fun e => { e with ready := true, since := (s.begin t).ft }).nextCompute :=
  if_pos ⟨first, Bool.eq_false_iff.mp waits, valid, collected⟩

theorem exec_collectionTimeout_due (collects : (s.begin t).enc[c].st = 1 ∨ (s.begin t).enc[c].st = 3) (waits : (s.begin t).enc[c].ready = false)
    (valid : (s.begin t).chans[encChan c].state = .valid) (incomplete : (s.begin t).collected c = false)
    (due : (s.begin t).enc[c].since + msFt ((s.begin t).oget (encIdx c) 0x03) ≤ (s.begin t).ft) :
    exec (.collectionTimeout t c) s = .next ((s.begin t).endEnc c 7) :=
  if_pos ⟨collects, Bool.eq_false_iff.mp waits, valid, Bool.eq_false_iff.mp incomplete, due⟩

theorem exec_encoderComputeDone_computing (computes : (s.begin t).enc[c].st = 2) :
    let s0 := s.begin t
    exec (.encoderComputeDone t c) s =
      .next (s0.updCal c fun e => { (e.collect s0.ft s0.chans[encChan c].periods) with st := 3, new := some e.compute }).nextCompute :=
  if_pos computes

/-- The values are kept for a gap if no check fails; the first that fails rejects them. -/
theorem exec_encoderVerifyDone_collected (new : (s.begin t).enc[c].new = some n) (verifies : (s.begin t).enc[c].st = 3)
    (valid : (s.begin t).chans[encChan c].state = .valid) (collected : (s.begin t).collected c = true) :
    let s0 := s.begin t
    let r := s0.enc[c].residualOf
    let bad := failingCheck (s0.corr (encChan c)) n r (s0.oget (encIdx c) 0x04)
    exec (.encoderVerifyDone t c) s = .next (
      if bad = 0 then s0.updCal c fun e => { e with st := 4, newResid := min r 0xFFFF, since := s0.ft }
      else (s0.endEnc c 4).event 0x9011 s0.calLoc [(8, 1), (16, c.val), (8, bad), (8, 0), (8, 0)]) := by
  intro s0 r bad
  change execEncoderVerifyDone t c s = _
  unfold execEncoderVerifyDone
  extract_lets
  split
  case h_1 none_ => cases new.symm.trans none_
  case h_2 found =>
    cases new.symm.trans found
    exact (if_pos ⟨verifies, valid, collected⟩).trans (apply_ite ..).symm

theorem exec_calibrationApply_waiting (new : (s.begin t).enc[c].new = some n) (waits : (s.begin t).enc[c].st = 4) :
    let s0 := s.begin t
    exec (.calibrationApply t c) s = .next (if s0.mayApply (encChan c) n = true then s0.applyCorr c n else s0) := by
  intro s0
  change execCalibrationApply t c s = _
  unfold execCalibrationApply
  extract_lets
  split
  case h_1 none_ => cases new.symm.trans none_
  case h_2 found =>
    cases new.symm.trans found
    by_cases fits : s0.mayApply (encChan c) n = true
    · exact (if_pos ⟨waits, fits⟩).trans (congrArg _ (if_pos fits).symm)
    · exact (if_neg fun may => fits may.2).trans (congrArg _ (if_neg fits).symm)

theorem exec_applyTimeout_due (waits : (s.begin t).enc[c].st = 4)
    (due : (s.begin t).enc[c].since + msFt ((s.begin t).oget (encIdx c) 0x05) ≤ (s.begin t).ft) :
    exec (.applyTimeout t c) s = .next (((s.begin t).endEnc c 8).faultEvent 18 (s.begin t).calLoc (encIdx c) 0x0A 8 0) := if_pos ⟨waits, due⟩

end Channels

/-! ### Lane runs (R303, R309–R311, R314) -/

section LaneRuns

variable {s : State} {t : Nat} {l : Fin 16}

@[simp] theorem State.send_lanes (lane : Nat) (os : List Out) : (s.send l lane os).lanes = s.lanes := by
  unfold State.send
  split <;> rfl

@[simp] theorem State.idleLane_lanes (i : Fin 2) : (s.idleLane l i).lanes = s.lanes := by
  unfold State.idleLane
  extract_lets
  split
  case isTrue held => rfl
  case isFalse sends => exact State.send_lanes ..

@[simp] theorem State.idleFree_lanes : (s.idleFree l).lanes = s.lanes := by
  unfold State.idleFree
  extract_lets
  split
  case isTrue silent => rfl
  case isFalse sends => exact State.send_lanes ..

@[simp] theorem State.idleLanes_lanes : (s.idleLanes l).lanes = s.lanes := by
  unfold State.idleLanes
  split
  case isTrue fec => rw [State.idleFree_lanes, State.idleLane_lanes, State.idleLane_lanes]
  case isFalse noFec => rfl

/-- An update of a lane record is known by the record it gives. -/
theorem State.updLane_eq_const {f : LaneCal → LaneCal} {x : LaneCal} (gives : f s.lanes[l] = x) : s.updLane l f = s.updLane l fun _ => x := by
  subst gives
  rfl

theorem exec_calibrationTemperatureCheck_stopped (stopped : (s.begin t).running 5 = false) :
    exec (.calibrationTemperatureCheck t) s = .next (s.begin t) := if_pos (by rw [stopped]; rfl)

theorem State.tryLane_first {lane : Nat} {d : DueRun} (first : s.firstLane l = some d) (target : d.target = laneTarget l lane) :
    s.tryLane l lane = s.startLane l d := by
  simp only [State.tryLane, first, target, if_true]

/-- A sweep whose widest eye reaches the limit takes effect. -/
theorem exec_receiveRunComplete_wide {openOff oldEye : Nat} :
    let s0 := s.begin t
    let x := s0.lanes[l]
    let k : Fin 2 := if x.run = 4 then 0 else 1
    let r := sweep openOff
    x.run = 4 ∨ x.run = 5 → x.write = none → s0.oget (lcIdx l) 0x03 ≤ r.2.2 →
    exec (.receiveRunComplete t l openOff oldEye) s =
      .next ((((((s0.oput (lcIdx l) (0x04 + k.val) (r.1 + 16 * toU 6 r.2.1)).laneRef l x.lane).updLane l fun y =>
        { y with eyes := vupd y.eyes k fun _ => r.2.2 })).endLane l 3).event 0x9010 s0.calLoc [(8, 2), (16, laneTarget l x.lane), (16, r.2.2)]) := by
  intro s0 x k r receives own wide
  refine (if_neg fun other => receives.elim other.1 other.2).trans ?_
  extract_lets
  split
  case h_1 written => cases own.symm.trans written
  case h_2 => exact if_pos wide

/-- A setting that a host has written takes effect whatever the sweep finds. -/
theorem exec_receiveRunComplete_written {openOff oldEye v : Nat} :
    let s0 := s.begin t
    let x := s0.lanes[l]
    let k : Fin 2 := if x.run = 4 then 0 else 1
    x.run = 4 ∨ x.run = 5 → x.write = some v →
    exec (.receiveRunComplete t l openOff oldEye) s = .next ((s0.oapply (lcIdx l) (0x04 + k.val) v).endLane l 3) := by
  intro s0 x k receives written
  refine (if_neg fun other => receives.elim other.1 other.2).trans ?_
  extract_lets
  split
  case h_1 found => cases written.symm.trans found; rfl
  case h_2 own => cases written.symm.trans own

/-- A plausible code is what the lane is to lock under. -/
theorem exec_terminationCalibrationDone_plausible {code : Nat} :
    let s0 := s.begin t
    let x := s0.lanes[l]
    1 ≤ x.run → x.run ≤ 3 → x.step = 2 → x.since + usFt 50 ≤ s0.ft → x.write = none → x.verdict = 3 → 8 ≤ code → code ≤ 56 →
    exec (.terminationCalibrationDone t l code) s =
      .next ((((s0.idleLanes l).updLane l fun _ =>
        { x with step := 3, lockOnce := [], lockTwice := [], write := some code }).sendAgain l x.lane).checkLocked l) := by
  intro s0 x inRun transmits held due own good low high
  refine (if_pos ⟨inRun, transmits, held, due⟩).trans ?_
  refine congrArg (fun y : State => Host.Outcome.next ((y.sendAgain l x.lane).checkLocked l)) (State.updLane_eq_const ?_)
  rw [State.idleLanes_lanes]
  have goes : ¬ (x.write.isSome || x.verdict != 3) = true := by rw [own, good]; decide
  have plausible : (decide (8 ≤ code) && decide (code ≤ 56)) = true := by rw [decide_eq_true low, decide_eq_true high]; rfl
  exact (if_neg goes).trans (if_pos plausible)

theorem exec_transmitLockTimeout_new :
    let s0 := s.begin t
    let x := s0.lanes[l]
    1 ≤ x.run → x.run ≤ 3 → x.since + msFt 10 ≤ s0.ft → x.step = 3 →
    exec (.transmitLockTimeout t l) s = .next (s0.updLane l fun y =>
      { y with step := 4, since := s0.ft, verdict := if y.verdict = 3 then 4 else y.verdict, write := none, lockOnce := [], lockTwice := [] }) :=
  fun inRun transmits due new => (if_pos ⟨inRun, transmits, due⟩).trans (if_pos new)

theorem exec_transmitLockTimeout_old :
    let s0 := s.begin t
    let x := s0.lanes[l]
    let s1 := (s0.updLane l fun y => { y with failed := y.failed ||| 2 ^ x.lane }).endLane l 4
    1 ≤ x.run → x.run ≤ 3 → x.since + msFt 10 ≤ s0.ft → x.step = 4 →
    exec (.transmitLockTimeout t l) s = .next (s1.event 0x6814 (s1.locBMR 13 l.val x.lane 1023 0xFFFF) [(8, l.val), (8, x.lane)]) :=
  fun inRun transmits due old => (if_pos ⟨inRun, transmits, due⟩).trans ((if_neg fun new => by omega).trans (if_pos old))

end LaneRuns

/-- Settles O40: a lemma for each command on its path. -/
theorem channelsAndLanesAreCalibrated : Obligations.ChannelsAndLanesAreCalibrated := by
  refine ⟨⟨?complete, ?timeout, ?computed, ?verified, ?apply, ?late⟩, ?stopped, ?moved, ?receive, ?transmit, ?wide, ?code, ?written, ?lock⟩
  case complete => exact fun t c s => exec_encoderCollectionComplete_collected
  case timeout => exact fun t c s => exec_collectionTimeout_due
  case computed => exact fun t c s => exec_encoderComputeDone_computing
  case verified => exact fun t c s n => exec_encoderVerifyDone_collected
  case apply => exact fun t c s n => exec_calibrationApply_waiting
  case late => exact fun t c s => exec_applyTimeout_due
  case stopped => exact fun t s => exec_calibrationTemperatureCheck_stopped
  case moved =>
    intro t s s0 s1 runs
    exact if_neg (by rw [runs]; decide)
  case receive => exact fun t l lane s d first target => congrArg Host.Outcome.next (State.tryLane_first first target)
  case transmit => exact fun t l lane s d first target => congrArg Host.Outcome.next (State.tryLane_first first target)
  case wide => exact fun t l openOff oldEye s => exec_receiveRunComplete_wide
  case code => exact fun t l code s => exec_terminationCalibrationDone_plausible
  case written => exact fun t l openOff oldEye v s => exec_receiveRunComplete_written
  case lock =>
    intro t l s s0 x inRun transmits due
    exact ⟨exec_transmitLockTimeout_new inRun transmits due, exec_transmitLockTimeout_old inRun transmits due⟩

/-! ### Requests (R304, R315–R317) -/

section Requests

variable {s : State} {t : Nat} {k : Kop} {i : Fin 16} {w : Fin 32} {target deadline : Nat}

theorem exec_requestCancel (permitted : Safety.Admits s t k (0x6010 + i.val) 0x01 (reqValue 0 0 0) w) :
    let s1 := Safety.taken s t k
    let q := s1.reqs[i]
    exec (.requestCancel t k i) s = .next (
      if q.result = 2 then Safety.refused s1 w k abWork
      else if q.result = 1 then Safety.done ((s1.updReq i fun q => { q with result := 9 }).pruneDue q.kind q.target) w k (0x6010 + i.val) 0x01
      else Safety.done s1 w k (0x6010 + i.val) 0x01) := by
  intro s1 q
  refine congrArg Host.Outcome.next ?_
  by_cases running : q.result = 2
  · exact (State.command_refused permitted (if_pos running)).trans (if_pos running).symm
  by_cases waiting : q.result = 1
  · exact (State.command_done permitted ((if_neg running).trans (if_pos waiting))).trans ((if_neg running).trans (if_pos waiting)).symm
  · exact (State.command_done permitted ((if_neg running).trans (if_neg waiting))).trans ((if_neg running).trans (if_neg waiting)).symm

/-- A request for a sin/cos channel of which no run is in progress. -/
theorem exec_requestEncoderCal_idle {c : Fin 4} (permitted : Safety.Admits s t k (0x6010 + i.val) 0x01 (reqValue 1 c.val deadline) w)
    (free : (Safety.taken s t k).reqBusy i = false) (sincos : (Safety.taken s t k).cc (encChan c) 0x01 = 3)
    (idle : (Safety.taken s t k).enc[c].st = 0) :
    exec (.requestEncoderCal t k i c.val deadline) s =
      .next (Safety.done ((((Safety.taken s t k).acceptReq i 1 c.val deadline 1).addDue 1 c.val none false).startEnc (encChan c))
        w k (0x6010 + i.val) 0x01) := by
  have noRun : ¬ (1 ≤ (Safety.taken s t k).enc[c].st ∧ (Safety.taken s t k).enc[c].st ≤ 4 ∧ ¬ (Safety.taken s t k).enc[c].written = true) :=
    fun runs => Nat.one_le_iff_ne_zero.mp runs.1 idle
  exact congrArg Host.Outcome.next (State.command_done permitted
    ((if_neg (Bool.eq_false_iff.mp free)).trans ((dif_pos c.isLt).trans ((if_neg (not_not_intro sincos)).trans (if_neg noRun)))))

theorem exec_requestLaneCal_free (permitted : Safety.Admits s t k (0x6010 + i.val) 0x01 (reqValue 2 target deadline) w)
    (free : (Safety.taken s t k).reqBusy i = false) :
    let s1 := Safety.taken s t k
    exec (.requestLaneCal t k i target deadline) s = .next (Safety.done (
      if s1.laneExists target = true then
        (if s1.lanes[Fin.ofNat 16 (target / 16)].run = target % 16 + 1 then s1.acceptReq i 2 target deadline 2
         else (s1.acceptReq i 2 target deadline 1).addDue 2 target none false)
      else s1.acceptReq i 2 target deadline 4) w k (0x6010 + i.val) 0x01) := by
  intro s1
  refine congrArg Host.Outcome.next (State.command_done permitted ((if_neg (Bool.eq_false_iff.mp free)).trans ?_))
  by_cases lane : s1.laneExists target = true
  · rw [if_pos lane]
    exact (if_neg (by rw [lane]; decide)).trans (apply_ite (·, CmdRes.done) ..).symm
  · rw [if_neg lane]
    exact if_pos (by rw [Bool.eq_false_iff.mpr lane]; rfl)

theorem exec_requestElementScan_free {h : Fin 64} (permitted : Safety.Admits s t k (0x6010 + i.val) 0x01 (reqValue 3 h.val deadline) w)
    (free : (Safety.taken s t k).reqBusy i = false) :
    let s1 := Safety.taken s t k
    exec (.requestElementScan t k i h.val deadline) s = .next (Safety.done (
      if s1.heads[h].link = none then s1.acceptReq i 3 h.val deadline 4
      else s1.acceptReq i 3 h.val deadline (if s1.heads[h].scanBlk.isSome ∨ s1.heads[h].scanNext ≠ 0 then 2 else 1)) w k (0x6010 + i.val) 0x01) := by
  intro s1
  refine congrArg Host.Outcome.next (State.command_done permitted ((if_neg (Bool.eq_false_iff.mp free)).trans ((dif_pos h.isLt).trans ?_)))
  by_cases absent : s1.heads[h].link = none
  · exact (if_pos (Option.isNone_iff_eq_none.mpr absent)).trans (congrArg (·, CmdRes.done) (if_pos absent).symm)
  · exact (if_neg (Option.isNone_iff_eq_none.not.mpr absent)).trans (congrArg (·, CmdRes.done) (if_neg absent).symm)

theorem exec_requestDeadline_passed :
    let s0 := s.begin t
    let q := s0.reqs[i]
    q.result = 1 → q.deadline ≠ 0 → q.deadline ≤ s0.ft →
    exec (.requestDeadline t i) s = .next (((s0.updReq i fun q => { q with result := 5 }).pruneDue q.kind q.target).event 0x9012 s0.calLoc
      [(8, i.val), (8, q.kind), (16, q.target)]) :=
  fun waits given passed => if_pos ⟨waits, given, passed⟩

end Requests

/-! ### Values written by a host, automatic calibration (R304, R314) -/

section Values

variable {s : State} {t : Nat} {k : Kop} {w : Fin 32}

/-- A permitted write whose action accepts the value. -/
theorem State.write_accepted {c : Instr} {i sub v : Nat} {act : State → Who → State × Nat} {s' : State} (permitted : Safety.Admits s t k i sub v w)
    (plain : ∀ r, objRow i sub = some r → r.acc ≠ 4) (text : textRange i sub v = true)
    (acts : act (Safety.taken s t k) (Safety.actor s t k i sub w) = (s', 0)) :
    (s.begin t).write c k i sub v act = s'.respond w (s'.plainResp k 0) := by
  rw [State.write_eq permitted plain text, acts]

/-- A calibration value of a lane is an object of the port (Table 11.8). -/
theorem lcIdx_of_calTarget {index sub target : Nat} (lane : calTarget index sub = some (2, target)) : ∃ l : Fin 16, index = lcIdx l := by
  unfold calTarget at lane
  split at lane
  case isTrue => cases lane
  case isFalse =>
    split at lane
    case isTrue port => exact ⟨⟨(index - 0x6200) / 16, by omega⟩, by unfold lcIdx; dsimp only; omega⟩
    case isFalse => cases lane

theorem textRange_lcIdx (l : Fin 16) (sub v : Nat) : textRange (lcIdx l) sub v = true := by
  have family : ∀ l : Fin 16, objFam (lcIdx l) = some (0x6200, l.val) := by decide +kernel
  simp only [textRange, family l]

theorem textRange_encIdx (c : Fin 4) (sub v : Nat) : textRange (encIdx c) sub v = true := by
  have family : ∀ c : Fin 4, objFam (encIdx c) = some (0x6100, c.val) := by decide +kernel
  simp only [textRange, family c]

/-- The value of a lane waits for a run of its own. -/
theorem exec_calibrationValueWrite_lane {index sub v target : Nat} (permitted : Safety.Admits s t k index sub v w)
    (plain : ∀ r, objRow index sub = some r → r.acc ≠ 4) (lane : calTarget index sub = some (2, target))
    (free : (Safety.taken s t k).calBusy 2 target = false) :
    let s2 := ((Safety.taken s t k).addDue 2 target (some v) false).laneRef (Fin.ofNat 16 (target / 16)) (target % 16)
    exec (.calibrationValueWrite t k index sub v) s = .next (s2.respond w (s2.plainResp k 0)) := by
  intro s2
  have text : textRange index sub v = true := by
    obtain ⟨l, rfl⟩ := lcIdx_of_calTarget lane
    exact textRange_lcIdx ..
  refine congrArg Host.Outcome.next (State.write_accepted permitted plain text ?_)
  simp only [lane]
  exact if_neg (Bool.eq_false_iff.mp free)

theorem encIdx_plain (c : Fin 4) : ∀ r, objRow (encIdx c) 0x01 = some r → r.acc ≠ 4 := by
  revert c
  decide +kernel

/-- Clearing automatic calibration abandons the channel's run in progress. -/
theorem exec_autoCalibrationWrite_off {c : Fin 4} (permitted : Safety.Admits s t k (encIdx c) 0x01 0 w) :
    let s2 := ((((Safety.taken s t k).oapply (encIdx c) 0x01 0).unAuto 1 c.val).pruneDue 1 c.val).abandonEnc c
    exec (.autoCalibrationWrite t k (encIdx c) 0x01 0) s = .next (s2.respond w (s2.plainResp k 0)) := by
  intro s2
  have range : 0x6100 ≤ encIdx c ∧ encIdx c < 0x6140 := by unfold encIdx; omega
  have channel : ∀ c : Fin 4, Fin.ofNat 4 ((encIdx c - 0x6100) / 16) = c := by decide
  refine congrArg Host.Outcome.next (State.write_accepted permitted (encIdx_plain c) (textRange_encIdx ..) ?_)
  refine (if_neg (not_not_intro rfl)).trans ((if_neg Nat.zero_ne_one).trans ((if_pos range).trans ?_))
  rw [channel c]

theorem exec_autoCalibrationWrite_on {c : Fin 4} (permitted : Safety.Admits s t k (encIdx c) 0x01 1 w) :
    let s2 := (Safety.taken s t k).oapply (encIdx c) 0x01 1
    exec (.autoCalibrationWrite t k (encIdx c) 0x01 1) s = .next (s2.respond w (s2.plainResp k 0)) :=
  congrArg Host.Outcome.next (State.write_accepted permitted (encIdx_plain c) (textRange_encIdx ..)
    ((if_neg (not_not_intro rfl)).trans (if_pos rfl)))

end Values

/-- Settles O41: a lemma for each command on its path. -/
theorem requestsAreTaken : Obligations.RequestsAreTaken := by
  refine ⟨?cancel, ?encoder, ?lane, ?scan, ?deadline, ?value, ?off, ?on⟩
  case cancel => exact fun t k i s w => exec_requestCancel
  case encoder => exact fun t k i c deadline s w => exec_requestEncoderCal_idle
  case lane => exact fun t k i target deadline s w => exec_requestLaneCal_free
  case scan => exact fun t k i h deadline s w => exec_requestElementScan_free
  case deadline => exact fun t i s => exec_requestDeadline_passed
  case value => exact fun t k index sub v s w target => exec_calibrationValueWrite_lane
  case off => exact fun t k c s w => exec_autoCalibrationWrite_off
  case on => exact fun t k c s w => exec_autoCalibrationWrite_on

end Sys2Proof.Machine
end

section
/-! PROOFS. What no command touches (O4, O8–O12): the queue, the life cycle, the recorder, the banks of the persistent store and the tamper latch
change by the commands that are named, and by no other. -/

namespace Sys2Proof.Machine

/-! ### The queue -/

/-- No command touches the queue: those that change one of the fields of `Kept` change another one. -/
theorem exec_pending {c : Instr} {s : State} : Lands (fun x => x.pending = s.pending) (exec c s) := by
  by_cases changes : ChangesKept c
  case neg => exact fun x e => State.pending_of (exec_kept changes x e)
  case pos =>
    unfold ChangesKept at changes
    split at changes
    · exact execLoadData_pending rfl
    · exact execTileVerify_pending rfl
    · exact execRowLineCompose_pending rfl
    · exact execStoreSave_pending rfl
    · exact execStoreSaveRestart_pending rfl
    · exact execStoreErase_pending rfl
    · exact execSaveComplete_pending rfl
    · exact execLifeCycleRequest_pending rfl
    · exact execTamperDetect_pending rfl
    · exact execTamperClear_pending rfl
    · exact execRecordCommit_pending rfl
    · exact execRecorderClear_pending rfl
    · exact execPowerOnReset_pending rfl
    · exact execExternalReset_pending rfl
    · exact execDebugReset_pending rfl
    · exact execSupplyOutOfRange_pending rfl
    · exact execCoreSupplyExcursion_pending rfl
    · exact execClockLoss_pending rfl
    · exact execPowerDownProgress_pending rfl
    · exact execCommandedResetTimeout_pending rfl
    · exact changes.elim

/-- Settles O4: no command touches the queue. -/
theorem commandsLeaveTheQueueAlone : Obligations.CommandsLeaveTheQueueAlone := fun _ _ s' e => exec_pending s' e

/-! ### The life cycle (R424, R426, Table 16.1) -/

/-- The part's serial number has no command that sets it. -/
theorem exec_serial {c : Instr} {s : State} : Lands (fun x => x.serial = s.serial) (exec c s) := by
  by_cases changes : ChangesKept c
  case neg => exact fun x e => State.serial_of (exec_kept changes x e)
  case pos =>
    unfold ChangesKept at changes
    split at changes
    · exact execLoadData_serial rfl
    · exact execTileVerify_serial rfl
    · exact execRowLineCompose_serial rfl
    · exact execStoreSave_serial rfl
    · exact execStoreSaveRestart_serial rfl
    · exact execStoreErase_serial rfl
    · exact execSaveComplete_serial rfl
    · exact execLifeCycleRequest_serial rfl
    · exact execTamperDetect_serial rfl
    · exact execTamperClear_serial rfl
    · exact execRecordCommit_serial rfl
    · exact execRecorderClear_serial rfl
    · exact execPowerOnReset_serial rfl
    · exact execExternalReset_serial rfl
    · exact execDebugReset_serial rfl
    · exact execSupplyOutOfRange_serial rfl
    · exact execCoreSupplyExcursion_serial rfl
    · exact execClockLoss_serial rfl
    · exact execPowerDownProgress_serial rfl
    · exact execCommandedResetTimeout_serial rfl
    · exact changes.elim

/-- The fields of the life cycle: its state, the toggles of SERVICE, the fuses, the transition that is pending. -/
def State.life (s : State) : Nat × Nat × Nat × Option LcRun := (s.lifeCycle, s.toggles, s.fuses, s.lcPending)

theorem State.life_of {a b : State} (same : a.kept = b.kept) : a.life = b.life :=
  congrArg (fun x : Kept => (x.2.2.2.1, x.2.2.2.2.1, x.2.2.2.2.2.1, x.2.2.2.2.2.2.1)) same

theorem State.life_eq {a b : State} (lifeCycle : a.lifeCycle = b.lifeCycle) (toggles : a.toggles = b.toggles) (fuses : a.fuses = b.fuses)
    (lcPending : a.lcPending = b.lcPending) : a.life = b.life := by
  unfold State.life
  rw [lifeCycle, toggles, fuses, lcPending]

theorem Lands.life {s : State} {o : Host.Outcome State Fault Refusal} (lifeCycle : Lands (fun x => x.lifeCycle = s.lifeCycle) o)
    (toggles : Lands (fun x => x.toggles = s.toggles) o) (fuses : Lands (fun x => x.fuses = s.fuses) o)
    (lcPending : Lands (fun x => x.lcPending = s.lcPending) o) : Lands (fun x => x.life = s.life) o :=
  fun x e => State.life_eq (lifeCycle x e) (toggles x e) (fuses x e) (lcPending x e)

/-- A command that is no reset and no life-cycle request leaves the life cycle as it is. -/
theorem exec_life {c : Instr} {s : State} (noReset : ¬ Safety.IsReset c) (noRequest : ∀ t k r stuck, c ≠ .lifeCycleRequest t k r stuck) :
    Lands (fun x => x.life = s.life) (exec c s) := by
  by_cases changes : ChangesKept c
  case neg => exact fun x e => State.life_of (exec_kept changes x e)
  case pos =>
    unfold ChangesKept at changes
    split at changes
    · exact .life (execLoadData_lifeCycle rfl) (execLoadData_toggles rfl) (execLoadData_fuses rfl) (execLoadData_lcPending rfl)
    · exact .life (execTileVerify_lifeCycle rfl) (execTileVerify_toggles rfl) (execTileVerify_fuses rfl) (execTileVerify_lcPending rfl)
    · exact .life (execRowLineCompose_lifeCycle rfl) (execRowLineCompose_toggles rfl) (execRowLineCompose_fuses rfl)
        (execRowLineCompose_lcPending rfl)
    · exact .life (execStoreSave_lifeCycle rfl) (execStoreSave_toggles rfl) (execStoreSave_fuses rfl) (execStoreSave_lcPending rfl)
    · exact .life (execStoreSaveRestart_lifeCycle rfl) (execStoreSaveRestart_toggles rfl) (execStoreSaveRestart_fuses rfl)
        (execStoreSaveRestart_lcPending rfl)
    · exact .life (execStoreErase_lifeCycle rfl) (execStoreErase_toggles rfl) (execStoreErase_fuses rfl) (execStoreErase_lcPending rfl)
    · exact .life (execSaveComplete_lifeCycle rfl) (execSaveComplete_toggles rfl) (execSaveComplete_fuses rfl) (execSaveComplete_lcPending rfl)
    · exact absurd rfl (noRequest _ _ _ _)
    · exact .life (execTamperDetect_lifeCycle rfl) (execTamperDetect_toggles rfl) (execTamperDetect_fuses rfl) (execTamperDetect_lcPending rfl)
    · exact .life (execTamperClear_lifeCycle rfl) (execTamperClear_toggles rfl) (execTamperClear_fuses rfl) (execTamperClear_lcPending rfl)
    · exact .life (execRecordCommit_lifeCycle rfl) (execRecordCommit_toggles rfl) (execRecordCommit_fuses rfl) (execRecordCommit_lcPending rfl)
    · exact .life (execRecorderClear_lifeCycle rfl) (execRecorderClear_toggles rfl) (execRecorderClear_fuses rfl)
        (execRecorderClear_lcPending rfl)
    · exact absurd trivial noReset
    · exact absurd trivial noReset
    · exact absurd trivial noReset
    · exact absurd trivial noReset
    · exact .life (execCoreSupplyExcursion_lifeCycle rfl) (execCoreSupplyExcursion_toggles rfl) (execCoreSupplyExcursion_fuses rfl)
        (execCoreSupplyExcursion_lcPending rfl)
    · exact absurd trivial noReset
    · exact .life (execPowerDownProgress_lifeCycle rfl) (execPowerDownProgress_toggles rfl) (execPowerDownProgress_fuses rfl)
        (execPowerDownProgress_lcPending rfl)
    · exact absurd trivial noReset
    · exact changes.elim

/-- Settles O8: the serial number by every command, the life cycle by every one but the resets and the request. -/
theorem onlyRequestsMoveTheLifeCycle : Obligations.OnlyRequestsMoveTheLifeCycle := by
  intro c s s' e
  refine ⟨exec_serial s' e, fun noReset noRequest => ?_⟩
  have same : s'.life = s.life := exec_life noReset noRequest s' e
  simpa only [State.life, Prod.mk.injEq] using same

/-! ### A retired board (Table 16.1) -/

theorem retired_iff_life {s : State} : Safety.Retired s ↔ bitOf s.life.2.2.1 2 = true ∧ s.life.1 = 4 ∧ s.life.2.2.2 = none := Iff.rfl

theorem retired_of_life {a b : State} (retired : Safety.Retired a) (same : b.life = a.life) : Safety.Retired b := by
  rw [retired_iff_life, same]
  exact retired

theorem State.backupCheck_life (s : State) (p : PowerUp) (on : Bool) (armed : Nat) : (s.backupCheck p on armed).life = s.life :=
  State.life_eq (State.backupCheck_lifeCycle rfl) (State.backupCheck_toggles rfl) (State.backupCheck_fuses rfl) (State.backupCheck_lcPending rfl)

theorem State.powerDomains_life (s : State) (p : PowerUp) : (s.powerDomains p).life = s.life :=
  State.life_eq (State.powerDomains_lifeCycle rfl) (State.powerDomains_toggles rfl) (State.powerDomains_fuses rfl) (State.powerDomains_lcPending rfl)

theorem State.lcInterrupted_of_none {s : State} {blown : Bool} (none_ : s.lcPending = none) : s.lcInterrupted blown = s := by
  unfold State.lcInterrupted
  split
  case h_1 => rfl
  case h_2 r some_ => cases none_.symm.trans some_

theorem State.transition_of_none {s : State} (none_ : s.lcPending = none) : s.transition = s := by
  unfold State.transition
  split
  case h_1 => rfl
  case h_2 r some_ => cases none_.symm.trans some_

/-- A blown fuse of RETIRED reads as RETIRED. -/
theorem State.readFuses_retired {s : State} (blown : bitOf s.fuses 2 = true) : s.readFuses = 4 := if_pos blown

/-- What a start-up leaves of a field that few operations change: what the reset keeps of it, where the check of the backup domain, a transition
found pending and the power-up of the domains leave it as it is. -/
theorem State.startUp_keeps {α : Type} {φ : State → α} {s : State} (of_kept : ∀ {a b : State}, a.kept = b.kept → φ a = φ b)
    (backup : ∀ (x : State) (p : PowerUp) (on : Bool) (armed : Nat), φ (x.backupCheck p on armed) = φ x)
    (interrupted : ∀ (x : State) (blown : Bool), x.lcPending = s.lcPending → φ (x.lcInterrupted blown) = φ x)
    (domains : ∀ (x : State) (p : PowerUp), φ (x.powerDomains p) = φ x) (cause : Nat) (p : PowerUp) :
    φ (s.startUp cause p) = φ ((s.installPatches p).resetKeeping (cause = 0)) := by
  have pending : (s.installPatches p).lcPending = s.lcPending := State.lcPending_of (State.installPatches_kept rfl)
  unfold State.startUp
  extract_lets on armed s1 s2 power s3 s4 s5 s6
  calc
    _ = φ (s6.powerDomains p) := of_kept (State.startChans_kept (State.startPorts_kept (State.startEngines_kept rfl)))
    _ = φ s6 := domains ..
    _ = φ s4 := of_kept (State.event_kept (State.loadStore_kept rfl))
    _ = φ (s3.backupCheck p on armed) := interrupted _ _ ((State.backupCheck_lcPending rfl).trans pending)
    _ = φ s3 := backup ..
    _ = φ s1 := of_kept rfl

/-- Start-up reads the fuses afresh: RETIRED is RETIRED again, and no transition is pending that it could complete. -/
theorem State.startUp_retired {s : State} (retired : Safety.Retired s) (cause : Nat) (p : PowerUp) : Safety.Retired (s.startUp cause p) := by
  obtain ⟨fuses, -, pending⟩ : Safety.Retired (s.installPatches p) := retired_of_life retired (State.life_of (State.installPatches_kept rfl))
  have reset : Safety.Retired ((s.installPatches p).resetKeeping (cause = 0)) := ⟨fuses, State.readFuses_retired fuses, pending⟩
  refine retired_of_life reset (State.startUp_keeps State.life_of State.backupCheck_life (fun x blown same => ?_) State.powerDomains_life cause p)
  rw [State.lcInterrupted_of_none (same.trans retired.2.2)]

/-- No transition leads out of RETIRED. -/
theorem lcPermits_retired (to_ : Nat) : lcPermits 4 to_ = false := rfl

/-- A request is refused on a retired board. -/
theorem State.lcCode_retired {s : State} (retired : Safety.Retired s) (r : LcReq) : s.lcCode r ≠ 0 := by
  obtain ⟨-, four, -⟩ := retired
  unfold State.lcCode
  split
  case isTrue => decide
  case isFalse =>
    refine (if_pos ?_).trans_ne (by decide)
    by_cases same : r.from_ = s.lifeCycle
    · exact .inr (.inl (by rw [same, four, lcPermits_retired]; decide))
    · exact .inl same

/-- A request of a command object keeps a predicate of fields that few operations change, where the action keeps it. -/
theorem State.command_keeps {P : State → Prop} {s : State} {c : Instr} {k : Kop} {i sub v : Nat} {act : State → Who → State × CmdRes}
    (of_kept : ∀ {a b : State}, b.kept = a.kept → P a → P b) (acts : ∀ x w, P x → P (act x w).1) (holds : P s) :
    P (s.command c k i sub v act) := by
  unfold State.command
  split
  case h_1 x arrives => exact of_kept (State.arrive_to_kept (r_ := (none, x)) arrives rfl) holds
  case h_2 w x arrives =>
    have arrived : P x := of_kept (State.arrive_to_kept (r_ := (some w, x)) arrives rfl) holds
    have acted : P (act x (x.whoFor i sub w)).1 := acts _ _ arrived
    refine iteInduction (fun _ => arrived) fun _ => iteInduction (fun _ => of_kept (State.respond_kept rfl) arrived) fun _ =>
      iteInduction (fun _ => of_kept (State.await_kept rfl) arrived) fun _ => ?_
    split
    case h_1 y res answers =>
      have answered : P y := (congrArg (fun r => P r.1) answers).mp acted
      split
      · exact of_kept (State.respond_kept rfl) answered
      · exact of_kept (State.respond_kept (State.setStat_kkept rfl)) answered
      · exact of_kept (State.respond_kept (State.setStat_kkept rfl)) answered

theorem State.wipe_life (s : State) (cause : Nat) (stuck : List Nat) : (s.wipe cause stuck).life = s.life :=
  State.life_eq (State.wipe_lifeCycle rfl) (State.wipe_toggles rfl) (State.wipe_fuses rfl) (State.wipe_lcPending rfl)

theorem State.tamperTrip_life (s : State) (source : Fin 9) (stuck : List Nat) : (s.tamperTrip source stuck).life = s.life :=
  State.life_eq (State.tamperTrip_lifeCycle rfl) (State.tamperTrip_toggles rfl) (State.tamperTrip_fuses rfl) (State.tamperTrip_lcPending rfl)

theorem State.commitAll_life (s : State) : s.commitAll.life = s.life :=
  State.life_eq (State.commitAll_lifeCycle rfl) (State.commitAll_toggles rfl) (State.commitAll_fuses rfl) (State.commitAll_lcPending rfl)

/-- A request is refused, and leaves the life cycle as it is. -/
theorem execLifeCycleRequest_retired {t : Nat} {k : Kop} {r : LcReq} {stuck : List Nat} {s : State} (retired : Safety.Retired s) :
    Lands Safety.Retired (execLifeCycleRequest t k r stuck s) := by
  have begun : Safety.Retired (s.begin t).transition := by
    have begun : Safety.Retired (s.begin t) := retired_of_life retired (State.life_of (State.begin_kkept rfl))
    rw [State.transition_of_none begun.2.2]
    exact begun
  refine .next ?_
  have refused : Safety.Retired ((s.begin t).transition.command (.lifeCycleRequest t k r stuck) k 0x8000 0x02 0 fun s w =>
      if s.lcCode r = 0 then
        ({ s with lcPending := some { from_ := r.from_, to_ := r.to_, toggles := r.toggles, fuseOk := r.fuseOk, sess := w.sess.val } }, .done)
      else (s, .refuse (s.lcCode r))) := by
    refine State.command_keeps (fun same h => retired_of_life h (State.life_of same)) (fun x w h => ?_) begun
    rw [if_neg (State.lcCode_retired h r)]
    exact h
  split
  case isTrue => exact retired_of_life refused (State.wipe_life ..)
  case isFalse => exact refused

/-- A reset keeps a predicate of the fields that few operations change, where a source that trips keeps it, the start-up, and the commit of what the
commanded reset finds uncommitted. -/
theorem exec_reset_keeps {P : State → Prop} {c : Instr} {s : State} (reset : Safety.IsReset c) (of_kept : ∀ {a b : State}, b.kept = a.kept → P a → P b)
    (trips : ∀ (x : State) (source : Fin 9) (stuck : List Nat), P x → P (x.tamperTrip source stuck))
    (commits : ∀ t p, c = .commandedResetTimeout t p → ∀ x : State, P x → P x.commitAll)
    (starts : ∀ (x : State) (cause : Nat) (p : PowerUp), P x → P (x.startUp cause p)) (holds : P s) : Lands P (exec c s) := by
  have begun : ∀ t, P (s.begin t) := fun t => of_kept (State.begin_kkept rfl) holds
  have started : ∀ t cause p, P ((s.begin t).startUp cause p) := fun t cause p => starts _ cause p (begun t)
  unfold Safety.IsReset at reset
  split at reset
  case h_1 t p => exact .next (started t 0 p)
  case h_2 t p => exact .next (started t 1 p)
  case h_3 t p => exact .ite (.next (started t 4 p)) (.next (begun t))
  case h_4 t reading p =>
    exact .ite (.ite (.next (started t 0 p)) (.next (begun t))) (.ite (.next (started t 3 p)) (.next (begun t)))
  case h_5 t reading stuck p =>
    change Lands P (execClockLoss t reading stuck p s)
    unfold execClockLoss
    extract_lets s1 power s2
    have noted : P s2 := of_kept (a := s1) rfl (begun t)
    have tripped : P (s2.tamperTrip 7 stuck) := trips _ _ _ noted
    exact .ite (.next noted) (.next (iteInduction (fun _ => starts _ _ _ tripped) fun _ => tripped))
  case h_6 t p =>
    have high : P (s.begin t).recordHigh := of_kept (State.recordHigh_kept rfl) (begun t)
    exact .ite (.next (starts _ _ _ (iteInduction (fun _ => commits t p rfl _ high) fun _ => high))) (.next (begun t))
  case h_7 => exact reset.elim

/-- A retired board stays so under every command: a reset reads its fuses, a request is refused, no other command moves the life cycle. -/
theorem exec_retired {c : Instr} {s : State} (retired : Safety.Retired s) : Lands Safety.Retired (exec c s) := by
  by_cases reset : Safety.IsReset c
  case pos =>
    exact exec_reset_keeps reset (fun same h => retired_of_life h (State.life_of same)) (fun x source stuck h => retired_of_life h (State.tamperTrip_life ..))
      (fun _ _ _ x h => retired_of_life h (State.commitAll_life x)) (fun _ cause p h => State.startUp_retired h cause p) retired
  case neg =>
    by_cases request : ∃ t k r stuck, c = .lifeCycleRequest t k r stuck
    case pos =>
      obtain ⟨t, k, r, stuck, rfl⟩ := request
      exact execLifeCycleRequest_retired retired
    case neg =>
      have noRequest : ∀ t k r stuck, c ≠ .lifeCycleRequest t k r stuck := fun t k r stuck h => request ⟨t, k, r, stuck, h⟩
      exact fun x e => retired_of_life retired (exec_life reset noRequest x e)

/-- A cycle of the fire timer in which no transition is pending. -/
theorem State.tick_retired {s : State} (retired : Safety.Retired s) : Safety.Retired s.tick := by
  have begun : Safety.Retired (s.begin (s.ft + 1)) := retired_of_life retired (State.life_of (State.begin_kkept rfl))
  unfold State.tick
  extract_lets t x
  have quiet : Safety.Retired x := (congrArg Safety.Retired (State.transition_of_none begun.2.2)).mpr begun
  exact iteInduction (fun _ => retired_of_life quiet (State.life_of (State.arrayCycle_kept rfl))) fun _ => quiet

/-- Settles O9: a step is a command, whether of the queue or one that waited, or a cycle in which no transition is pending. -/
theorem retiredIsForEver : Obligations.RetiredIsForEver := by
  intro s s' retired e
  have queued : ∀ rest, Safety.Retired { s with pending := rest } := fun _ => retired
  have resumed : ∀ rest w, Safety.Retired { s with waiting := rest, resumed := some w } := fun _ _ => retired
  unfold step at e
  split at e
  · exact exec_retired (queued _) s' e
  · split at e
    · exact exec_retired (resumed _ _) s' e
    · cases e
      exact State.tick_retired retired

/-! ### The recorder (R445, R449) -/

theorem State.startUp_recorder (s : State) (cause : Nat) (p : PowerUp) :
    (s.startUp cause p).recorder = { s.recorder.checkSlots with clearing := none, displaced := 0 } := by
  have installed : (s.installPatches p).recorder = s.recorder := State.recorder_of (State.installPatches_kept rfl)
  rw [State.startUp_keeps State.recorder_of (fun _ _ _ _ => State.backupCheck_recorder rfl) (fun _ _ _ => State.lcInterrupted_recorder rfl)
    (fun _ _ => State.powerDomains_recorder rfl), ← installed]
  rfl

/-- The records that are held, and how often they have been cleared. -/
def Recorder.held (x : Recorder) : List Rec × Nat := (x.records, x.clears)

theorem State.startUp_held (s : State) (cause : Nat) (p : PowerUp) : (s.startUp cause p).recorder.held = s.recorder.held := by
  rw [State.startUp_recorder]
  rfl

/-- Outside the commands that commit, clear, or power down, and the resets, no command touches the recorder. -/
theorem exec_recorder {c : Instr} {s : State} (noReset : ¬ Safety.IsReset c) (noCommit : ∀ t, c ≠ .recordCommit t)
    (noClear : ∀ t k tok, c ≠ .recorderClear t k tok) (noDown : ∀ t, c ≠ .powerDownProgress t) :
    Lands (fun x => x.recorder = s.recorder) (exec c s) := by
  by_cases changes : ChangesKept c
  case neg => exact fun x e => State.recorder_of (exec_kept changes x e)
  case pos =>
    unfold ChangesKept at changes
    split at changes
    · exact execLoadData_recorder rfl
    · exact execTileVerify_recorder rfl
    · exact execRowLineCompose_recorder rfl
    · exact execStoreSave_recorder rfl
    · exact execStoreSaveRestart_recorder rfl
    · exact execStoreErase_recorder rfl
    · exact execSaveComplete_recorder rfl
    · exact execLifeCycleRequest_recorder rfl
    · exact execTamperDetect_recorder rfl
    · exact execTamperClear_recorder rfl
    · exact absurd rfl (noCommit _)
    · exact absurd rfl (noClear _ _ _)
    · exact absurd trivial noReset
    · exact absurd trivial noReset
    · exact absurd trivial noReset
    · exact absurd trivial noReset
    · exact execCoreSupplyExcursion_recorder rfl
    · exact absurd trivial noReset
    · exact absurd rfl (noDown _)
    · exact absurd trivial noReset
    · exact changes.elim

/-- A reset keeps the records, but for the one that commits what it finds uncommitted (R465). -/
theorem exec_reset_held {c : Instr} {s : State} (reset : Safety.IsReset c) (noTimeout : ∀ t p, c ≠ .commandedResetTimeout t p) :
    Lands (fun x => x.recorder.held = s.recorder.held) (exec c s) :=
  exec_reset_keeps reset (fun same h => (congrArg Recorder.held (State.recorder_of same)).trans h)
    (fun _ _ _ h => (congrArg Recorder.held (State.tamperTrip_recorder rfl)).trans h) (fun t p e => absurd e (noTimeout t p))
    (fun x cause p h => (x.startUp_held cause p).trans h) rfl

/-- Settles O10: a reset by what it keeps, the other commands leave the recorder alone. -/
theorem recordsChangeOnlyAtCommitAndClear : Obligations.RecordsChangeOnlyAtCommitAndClear := by
  intro c s s' e noCommit noClear noDown noTimeout
  by_cases reset : Safety.IsReset c
  case pos =>
    have same : s'.recorder.held = s.recorder.held := exec_reset_held reset noTimeout s' e
    exact ⟨congrArg Prod.fst same, congrArg Prod.snd same, absurd reset⟩
  case neg =>
    have same : s'.recorder = s.recorder := exec_recorder reset noCommit noClear noDown s' e
    rw [same]
    exact ⟨rfl, rfl, fun _ => rfl⟩

/-! ### The banks (R384–R387, Table 16.1) -/

/-- Settles O11. -/
theorem banksChangeOnlyBySaveAndErase : Obligations.BanksChangeOnlyBySaveAndErase := by
  intro c s s' e noSave noRestart noErase noComplete noRequest
  refine (?_ : Lands (fun x => x.banks = s.banks) (exec c s)) s' e
  by_cases changes : ChangesKept c
  case neg => exact fun x e => State.banks_of (exec_kept changes x e)
  case pos =>
    unfold ChangesKept at changes
    split at changes
    · exact execLoadData_banks rfl
    · exact execTileVerify_banks rfl
    · exact execRowLineCompose_banks rfl
    · exact absurd rfl (noSave _ _)
    · exact absurd rfl (noRestart _ _)
    · exact absurd rfl (noErase _ _)
    · exact absurd rfl (noComplete _ _)
    · exact absurd rfl (noRequest _ _ _ _)
    · exact execTamperDetect_banks rfl
    · exact execTamperClear_banks rfl
    · exact execRecordCommit_banks rfl
    · exact execRecorderClear_banks rfl
    · exact execPowerOnReset_banks rfl
    · exact execExternalReset_banks rfl
    · exact execDebugReset_banks rfl
    · exact execSupplyOutOfRange_banks rfl
    · exact execCoreSupplyExcursion_banks rfl
    · exact execClockLoss_banks rfl
    · exact execPowerDownProgress_banks rfl
    · exact execCommandedResetTimeout_banks rfl
    · exact changes.elim

/-! ### The tamper latch (R431–R433) -/

theorem State.wipe_latch (s : State) (cause : Nat) (stuck : List Nat) : (s.wipe cause stuck).tamper.latch = s.tamper.latch := by
  unfold State.wipe
  extract_lets time old s1 s2
  have drawn : s1.tamper = { s.tamper with wipes := s.tamper.wipes + 1, cause := cause, time := time } :=
    State.tamper_of (State.failLoads_kept (State.drawSecret_kept rfl))
  have cells : s2.tamper = s1.tamper := State.tamper_of (State.foldl_kept (fun x row same => State.event_kept same) rfl)
  rw [State.tamper_of (State.endAll_kept (State.event_kept rfl)), cells, drawn]

/-- A bit of the latch that one state holds is held by the other. -/
def State.HoldsLatch (s x : State) : Prop := ∀ n, bitOf s.tamper.latch n = true → bitOf x.tamper.latch n = true

theorem State.HoldsLatch.of_eq {s x : State} (same : x.tamper.latch = s.tamper.latch) : s.HoldsLatch x := fun n set => by rw [same, set]

theorem State.holdsLatch_of_tamper {s x : State} (same : x.tamper = s.tamper) : s.HoldsLatch x := .of_eq (congrArg Tamper.latch same)

/-- A source that trips adds its bit. -/
theorem State.tamperTrip_holdsLatch (s : State) (source : Fin 9) (stuck : List Nat) : s.HoldsLatch (s.tamperTrip source stuck) := by
  unfold State.tamperTrip
  split
  case isTrue => exact .of_eq rfl
  case isFalse =>
    intro n set
    rw [State.wipe_latch]
    exact (Nat.testBit_or ..).trans ((congrArg (· || _) set).trans (Bool.true_or _))

theorem State.stillActive_latch (s : State) (mask : Nat) : (s.stillActive mask).tamper.latch = s.tamper.latch := by
  unfold State.stillActive
  extract_lets active old s'
  split
  case isTrue =>
    have drawn : s'.drawSecret.tamper = s'.tamper := State.tamper_of (State.drawSecret_kept rfl)
    rw [drawn]
  case isFalse => rfl

theorem execLifeCycleRequest_holdsLatch {t : Nat} {k : Kop} {r : LcReq} {stuck : List Nat} {s : State} :
    Lands s.HoldsLatch (execLifeCycleRequest t k r stuck s) := by
  unfold execLifeCycleRequest
  extract_lets s1 s2
  have same : s2.tamper = s.tamper := by
    refine State.command_tamper (fun x w kept => ?_) (State.transition_tamper rfl)
    dsimp only
    split <;> exact kept
  refine .next ?_
  split
  case isTrue => exact .of_eq ((State.wipe_latch ..).trans (congrArg Tamper.latch same))
  case isFalse => exact State.holdsLatch_of_tamper same

/-- No command but a clearance and the resets takes a bit of the latch away. -/
theorem exec_holdsLatch {c : Instr} {s : State} (noReset : ¬ Safety.IsReset c) (noClear : ∀ t k active, c ≠ .tamperClear t k active) :
    Lands s.HoldsLatch (exec c s) := by
  have same : ∀ {o}, Lands (fun x => x.tamper = s.tamper) o → Lands s.HoldsLatch o := fun keeps x e => State.holdsLatch_of_tamper (keeps x e)
  by_cases changes : ChangesKept c
  case neg => exact same fun x e => State.tamper_of (exec_kept changes x e)
  case pos =>
    unfold ChangesKept at changes
    split at changes
    · exact same (execLoadData_tamper rfl)
    · exact same (execTileVerify_tamper rfl)
    · exact same (execRowLineCompose_tamper rfl)
    · exact same (execStoreSave_tamper rfl)
    · exact same (execStoreSaveRestart_tamper rfl)
    · exact same (execStoreErase_tamper rfl)
    · exact same (execSaveComplete_tamper rfl)
    · exact execLifeCycleRequest_holdsLatch
    · exact .ite (.next (State.tamperTrip_holdsLatch (s.begin _) _ _)) (.next (.of_eq (State.stillActive_latch (s.begin _) _)))
    · exact absurd rfl (noClear _ _ _)
    · exact same (execRecordCommit_tamper rfl)
    · exact same (execRecorderClear_tamper rfl)
    · exact absurd trivial noReset
    · exact absurd trivial noReset
    · exact absurd trivial noReset
    · exact absurd trivial noReset
    · exact .dite (fun _ => .ite (.next (State.tamperTrip_holdsLatch (s.begin _) _ _))
        (.ite (.next (.of_eq rfl)) (.next (State.holdsLatch_of_tamper (State.tamper_of (State.faultEvent_kept rfl)))))) fun _ => .next (.of_eq rfl)
    · exact absurd trivial noReset
    · exact same (execPowerDownProgress_tamper rfl)
    · exact absurd trivial noReset
    · exact changes.elim

/-- Settles O12: a bit of the latch falls by no other command. -/
theorem tamperLatchHolds : Obligations.TamperLatchHolds := fun _ _ s' n e noReset noClear => exec_holdsLatch noReset noClear s' e n.val

end Sys2Proof.Machine
end

section
/-! PROOFS. What a message to a host leaves as it is, the end of a transaction (O60), and a wipe of the cocoon (O49). -/

namespace Sys2Proof.Machine

/-! ### What is sent to a host (R322, R336, R347) -/

/-- A session but for what is sent to its host. -/
def Session.standing (x : Session) : Session := { x with seqOut := 0, txNext := 0, unacked := [], rawWait := [], loads := [] }

/-- Objects, versions, transactions, cocoon and time stay, and of a session all but what is sent to its host: sending does no more than note what it
sends. -/
structure State.SendsOnly (a b : State) : Prop where
  obj : b.obj = a.obj
  ver : b.ver = a.ver
  restartObj : b.restartObj = a.restartObj
  txs : b.txs = a.txs
  cocoon : b.cocoon = a.cocoon
  ft : b.ft = a.ft
  standing : ∀ i : Fin 32, b.sessions[i].standing = a.sessions[i].standing

/-- An update that leaves a field of every element alone. -/
theorem vupd_field {α β : Type} {n : Nat} {v : Vector α n} {i j : Fin n} {f : α → α} {p : α → β} (keeps : ∀ x, p (f x) = p x) :
    p (vupd v i f)[j] = p v[j] := by
  by_cases same : j = i
  · subst same
    rw [vupd_get_same, keeps]
  · rw [vupd_get_ne same]

namespace State.SendsOnly

variable {a s : State}

theorem refl : a.SendsOnly a := ⟨rfl, rfl, rfl, rfl, rfl, rfl, fun _ => rfl⟩

theorem isOpen (sent : a.SendsOnly s) (i : Fin 32) : s.sessions[i].isOpen = a.sessions[i].isOpen := by
  have same := congrArg Session.isOpen (sent.standing i)
  exact same

theorem foldl {α : Type} {g : State → α → State} {xs : List α} (step : ∀ s x, a.SendsOnly s → a.SendsOnly (g s x)) (sent : a.SendsOnly s) :
    a.SendsOnly (xs.foldl g s) :=
  List.foldlRecOn (motive := fun y : State => a.SendsOnly y) xs g sent fun _ kept x _ => step _ x kept

theorem updSess {i : Fin 32} {f : Session → Session} (keeps : ∀ x, (f x).standing = x.standing) (sent : a.SendsOnly s) : a.SendsOnly (s.updSess i f) :=
  ⟨sent.obj, sent.ver, sent.restartObj, sent.txs, sent.cocoon, sent.ft, fun j => (vupd_field keeps).trans (sent.standing j)⟩

theorem emit {o : Out} (sent : a.SendsOnly s) : a.SendsOnly (s.emit o) :=
  ⟨sent.obj, sent.ver, sent.restartObj, sent.txs, sent.cocoon, sent.ft, sent.standing⟩

theorem ethOut {p : Fin 4} {kind : Nat} (sent : a.SendsOnly s) : a.SendsOnly (s.ethOut p kind) :=
  ⟨sent.obj, sent.ver, sent.restartObj, sent.txs, sent.cocoon, sent.ft, sent.standing⟩

theorem canSend {f : Fin 2} {host prio len : Nat} {bytes : Bytes} (sent : a.SendsOnly s) : a.SendsOnly (s.canSend f host prio len bytes) :=
  foldl (fun _ _ => emit) ⟨sent.obj, sent.ver, sent.restartObj, sent.txs, sent.cocoon, sent.ft, sent.standing⟩

theorem post {port addr kind key sid seq len body : Nat} (sent : a.SendsOnly s) : a.SendsOnly (s.post port addr kind key sid seq len body) := by
  unfold State.post
  extract_lets told
  split
  case isTrue eth => exact emit (ethOut (emit sent))
  case isFalse =>
    split
    case isTrue can => exact canSend (emit sent)
    case isFalse => exact emit sent

theorem sendDatagram {i : Fin 32} {kind len body : Nat} (sent : a.SendsOnly s) : a.SendsOnly (s.sendDatagram i kind len body) :=
  post (updSess (fun _ => rfl) sent)

theorem sendRaw {i : Fin 32} {kind len body : Nat} (sent : a.SendsOnly s) : a.SendsOnly (s.sendRaw i kind len body) := by
  unfold State.sendRaw
  split
  case isTrue path => exact sendDatagram sent
  case isFalse waits => exact updSess (fun _ => rfl) sent

theorem flushTx {i : Fin 32} (sent : a.SendsOnly s) : a.SendsOnly (s.flushTx i) := by
  unfold State.flushTx
  extract_lets x now s1 s2 go s3
  split
  case isTrue noPath => exact sent
  case isFalse path =>
    have raw : a.SendsOnly s2 := foldl (fun _ _ => sendDatagram) (updSess (fun _ => rfl) sent)
    exact foldl (fun _ _ => sendDatagram) (updSess (fun _ => rfl) raw)

theorem sendSeq {i : Fin 32} {kind len body : Nat} {items : List Nat} {zone : Nat} (sent : a.SendsOnly s) :
    a.SendsOnly (s.sendSeq i kind len body items zone) := by
  unfold State.sendSeq
  exact flushTx (updSess (fun _ => rfl) sent)

theorem sendLoad {i : Fin 32} {loadId : Nat} {tile : Bool} {status handle cond : Nat} (sent : a.SendsOnly s) :
    a.SendsOnly (s.sendLoad i loadId tile status handle cond) := sendSeq sent

theorem sendOutcomes {i : Fin 32} {z : Nat} {rs : List Nat} (sent : a.SendsOnly s) : a.SendsOnly (s.sendOutcomes i z rs) :=
  foldl (fun _ _ => sendSeq) sent

theorem notify {y : Fin 8} {result : Nat} (sent : a.SendsOnly s) : a.SendsOnly (s.notify y result) := by
  unfold State.notify
  split
  case h_1 => exact sendRaw sent
  case h_2 => exact sent

end State.SendsOnly

/-! ### The end of a transaction (R377) -/

/-- What a slot is once its transaction has ended. -/
def Tx.ended (x : Tx) (now result : Nat) : Tx := { x with state := 3, result, staged := [], freedAt := now, waitIdle := 0, waitItem := 0xFF }

/-- Objects and versions stay; of the slots, that of the transaction alone changes. -/
structure State.EndsTx (s : State) (y : Fin 8) (result : Nat) (x : State) : Prop where
  obj : x.obj = s.obj
  ver : x.ver = s.ver
  restartObj : x.restartObj = s.restartObj
  txs : x.txs = vupd s.txs y fun tx => tx.ended s.ft result

theorem State.EndsTx.send {s x x' : State} {y : Fin 8} {result : Nat} (ends : s.EndsTx y result x) (sends : x.SendsOnly x') : s.EndsTx y result x' :=
  ⟨sends.obj.trans ends.obj, sends.ver.trans ends.ver, sends.restartObj.trans ends.restartObj, sends.txs.trans ends.txs⟩

/-- A conflict is counted, and the host of a transaction that was COMMITTING is told: neither bears on objects or slots. -/
theorem State.endTx_ends (s : State) (y : Fin 8) (result : Nat) : s.EndsTx y result (s.endTx y result) := by
  unfold State.endTx
  extract_lets was s1 s2
  have slot : s.EndsTx y result s1 := ⟨rfl, rfl, rfl, rfl⟩
  have counted : s.EndsTx y result s2 := iteInduction (fun _ => ⟨slot.obj, slot.ver, slot.restartObj, slot.txs⟩) fun _ => slot
  exact iteInduction (fun _ => counted.send (.notify .refl)) fun _ => counted

/-- A slot that has ended holds no admission; the others hold what they held. -/
theorem State.commitHolds_of_endsTx {s x : State} {y : Fin 8} {result : Nat} (ends : s.EndsTx y result x) (z : Fin 8) :
    x.commitHolds z = ((fins 8).any fun i => decide (i ≠ y) && (s.txs[i].state == 2 && bitOf s.txs[i].waitIdle z.val)) := by
  unfold State.commitHolds
  congr 1
  funext i
  rw [ends.txs]
  by_cases own : i = y
  · subst own
    rw [vupd_get_same, decide_eq_false (not_not_intro rfl), Bool.false_and]
    rfl
  · rw [vupd_get_ne own, decide_eq_true own, Bool.true_and]

/-- Settles O60: by what the end of a transaction does to its slot. -/
theorem rollbacksApplyNothing : Obligations.RollbacksApplyNothing := by
  intro s y result s'
  have ends : s.EndsTx y result s' := s.endTx_ends y result
  have own : s'.txs[y] = s.txs[y].ended s.ft result := by rw [ends.txs, vupd_get_same]
  refine ⟨ends.obj, ends.ver, ends.restartObj, ?staged, ?state, ?result, ?others, State.commitHolds_of_endsTx ends⟩
  case staged => rw [own]; rfl
  case state => rw [own]; rfl
  case result => rw [own]; rfl
  case others => exact fun x other => by rw [ends.txs, vupd_get_ne other]

/-! ### A wipe of the cocoon (R430, R431, R434) -/

/-- The keys that a cocoon holds. -/
def Cocoon.keys (c : Cocoon) : Option Nat × Option Nat × List MakerKey := (c.owner, c.clearance, c.list)

/-- No key comes or goes, and no session opens. -/
structure State.KeepsTrust (a b : State) : Prop where
  keys : b.cocoon.keys = a.cocoon.keys
  closed : ∀ i : Fin 32, a.sessions[i].isOpen = false → b.sessions[i].isOpen = false

namespace State.KeepsTrust

variable {a s b : State}

theorem refl : a.KeepsTrust a := ⟨rfl, fun _ h => h⟩

theorem of_eq (kept : a.KeepsTrust s) (cocoon : b.cocoon = s.cocoon) (sessions : b.sessions = s.sessions) : a.KeepsTrust b :=
  ⟨(congrArg Cocoon.keys cocoon).trans kept.keys, fun i h => sessions ▸ kept.closed i h⟩

theorem trans (ab : a.KeepsTrust s) (bc : s.KeepsTrust b) : a.KeepsTrust b :=
  ⟨bc.keys.trans ab.keys, fun i h => bc.closed i (ab.closed i h)⟩

theorem ite {p : Prop} [Decidable p] (ab : a.KeepsTrust b) (ac : a.KeepsTrust s) : a.KeepsTrust (if p then b else s) := by
  split <;> assumption

theorem foldl {α : Type} {g : State → α → State} {xs : List α} (step : ∀ s x, a.KeepsTrust s → a.KeepsTrust (g s x)) (kept : a.KeepsTrust s) :
    a.KeepsTrust (xs.foldl g s) :=
  List.foldlRecOn (motive := fun y : State => a.KeepsTrust y) xs g kept fun _ kept x _ => step _ x kept

theorem sends (kept : a.KeepsTrust s) (sent : s.SendsOnly b) : a.KeepsTrust b :=
  ⟨(congrArg Cocoon.keys sent.cocoon).trans kept.keys, fun i h => (sent.isOpen i).trans (kept.closed i h)⟩

theorem updSess {i : Fin 32} {f : Session → Session} (keeps : ∀ x, (f x).isOpen = x.isOpen) (kept : a.KeepsTrust s) : a.KeepsTrust (s.updSess i f) :=
  ⟨kept.keys, fun j closed => (vupd_field keeps).trans (kept.closed j closed)⟩

theorem eventBy {sess role code sev loc : Nat} {payload : List (Nat × Nat)} (kept : a.KeepsTrust s) :
    a.KeepsTrust (s.eventBy sess role code sev loc payload) := by
  unfold State.eventBy State.addEvent
  exact ite (kept.of_eq rfl rfl) (kept.of_eq rfl rfl)

theorem event {code loc : Nat} {payload : List (Nat × Nat)} (kept : a.KeepsTrust s) : a.KeepsTrust (s.event code loc payload) := eventBy kept

theorem stateChanged {sub loc index subidx old new : Nat} (kept : a.KeepsTrust s) : a.KeepsTrust (s.stateChanged sub loc index subidx old new) := by
  unfold State.stateChanged
  exact event kept

theorem endTx {y : Fin 8} {result : Nat} (kept : a.KeepsTrust s) : a.KeepsTrust (s.endTx y result) := by
  unfold State.endTx
  extract_lets was s1 s2
  have counted : a.KeepsTrust s2 := ite (kept.of_eq rfl rfl) (kept.of_eq rfl rfl)
  exact ite (counted.sends (.notify .refl)) counted

theorem startHold {host roles : Nat} (kept : a.KeepsTrust s) : a.KeepsTrust (s.startHold host roles) :=
  foldl (fun _ _ kept => ite (kept.of_eq rfl rfl) kept) kept

theorem closeLoad {tile : Bool} {idx status cond : Nat} (kept : a.KeepsTrust s) : a.KeepsTrust (s.closeLoad tile idx status cond) := by
  unfold State.closeLoad
  split
  case h_1 => exact kept
  case h_2 =>
    split
    case h_1 => exact kept
    case h_2 =>
      split
      case h_1 => exact kept
      case h_2 l found =>
        extract_lets closed
        have noted : a.KeepsTrust closed := updSess (fun _ => rfl) kept
        exact noted.sends (.sendLoad .refl)

theorem freeAsset {tile : Bool} {idx : Nat} (kept : a.KeepsTrust s) : a.KeepsTrust (s.freeAsset tile idx) := by
  unfold State.freeAsset State.freeTile State.freeTemplate
  split
  case isTrue => split <;> exact kept.of_eq rfl rfl
  case isFalse => split <;> exact kept.of_eq rfl rfl

theorem invalidate {tile : Bool} {idx : Nat} (kept : a.KeepsTrust s) : a.KeepsTrust (s.invalidate tile idx) := by
  unfold State.invalidate State.updAsset
  split
  case h_1 => exact kept
  case h_2 => exact ite kept (stateChanged (ite (kept.of_eq rfl rfl) (kept.of_eq rfl rfl)))

theorem cancelLoad {tile : Bool} {idx : Nat} (kept : a.KeepsTrust s) : a.KeepsTrust (s.cancelLoad tile idx) := by
  unfold State.cancelLoad
  split
  case h_1 => exact kept
  case h_2 => exact ite (ite (freeAsset (closeLoad kept)) (invalidate (closeLoad kept))) kept

theorem dropLoads {sid : Nat} (kept : a.KeepsTrust s) : a.KeepsTrust (s.dropLoads sid) :=
  foldl (fun _ _ => cancelLoad) (foldl (fun _ _ => cancelLoad) kept)

theorem holdOutcomes {rs : List Nat} (kept : a.KeepsTrust s) : a.KeepsTrust (s.holdOutcomes rs) :=
  foldl (fun _ _ kept => ite (kept.of_eq rfl rfl) (ite kept (kept.of_eq rfl rfl))) kept

theorem passOutcomes {rs : List Nat} (kept : a.KeepsTrust s) : a.KeepsTrust (s.passOutcomes rs) := by
  refine foldl (fun x z kept => ite kept ?_) kept
  split
  case h_1 => exact ite (kept.sends (.sendOutcomes .refl)) (holdOutcomes kept)
  case h_2 => exact holdOutcomes kept

end State.KeepsTrust

/-- A session that ends is closed, and nothing that follows its end opens one. -/
theorem State.endSession_closes (a : State) (i : Fin 32) (cause sess role : Nat) :
    a.KeepsTrust (a.endSession i cause sess role).1 ∧ (a.endSession i cause sess role).1.sessions[i].isOpen = false := by
  unfold State.endSession
  extract_lets x sid blank s1 held s2 s3 s4 s5
  split
  case isTrue =>
    have shut : s1.sessions[i].isOpen = false := by
      rw [State.updSess_sessions, vupd_get_same]
      rfl
    have closes : a.KeepsTrust s1 := by
      refine ⟨rfl, fun j closed => ?_⟩
      by_cases own : j = i
      · subst own; exact shut
      · rw [State.updSess_sessions, vupd_get_ne own]; exact closed
    have after : s1.KeepsTrust s5 :=
      .startHold (.foldl (fun _ _ kept => .ite (.endTx kept) kept) (.dropLoads ⟨rfl, fun _ h => h⟩))
    have told : s1.KeepsTrust (s5.eventBy sess role 0x2015 (evClass 0x2015).2 (s5.loc 4 0) [(32, sid), (8, cause), (64, x.hostId)]) := .eventBy after
    dsimp only
    exact ⟨closes.trans told, told.closed i shut⟩
  case isFalse shut => exact ⟨.refl, Bool.eq_false_iff.mpr shut⟩

/-- No session stays open once all of them have ended. -/
theorem State.foldl_endSession_closed (cause : Nat) (is : List (Fin 32)) (r : State × List Nat) :
    let x := (is.foldl (fun (a : State × List Nat) (i : Fin 32) =>
      let e := a.1.endSession i cause 0 0
      (e.1, a.2 ++ e.2)) r).1
    r.1.KeepsTrust x ∧ ∀ i ∈ is, x.sessions[i].isOpen = false := by
  induction is generalizing r with
  | nil => exact ⟨.refl, nofun⟩
  | cons i is ih =>
    obtain ⟨kept, closed⟩ := ih ((r.1.endSession i cause 0 0).1, r.2 ++ (r.1.endSession i cause 0 0).2)
    obtain ⟨ends, shut⟩ := r.1.endSession_closes i cause 0 0
    refine ⟨ends.trans kept, fun j mem => ?_⟩
    rcases List.mem_cons.mp mem with rfl | mem
    · exact kept.closed _ shut
    · exact closed j mem

theorem State.endAll_closed (s : State) (cause : Nat) : s.KeepsTrust (s.endAll cause) ∧ ∀ i : Fin 32, (s.endAll cause).sessions[i].isOpen = false := by
  unfold State.endAll
  extract_lets r
  obtain ⟨kept, closed⟩ : s.KeepsTrust r.1 ∧ ∀ i ∈ fins 32, r.1.sessions[i].isOpen = false := State.foldl_endSession_closed cause (fins 32) (s, [])
  have passed : r.1.KeepsTrust (r.1.passOutcomes r.2) := .passOutcomes .refl
  exact ⟨kept.trans passed, fun i => passed.closed i (closed i (List.mem_finRange i))⟩

theorem State.failLoads_keepsTrust (s : State) : s.KeepsTrust s.failLoads := by
  unfold State.failLoads
  refine .foldl (fun x w kept => ?_) .refl
  split
  case h_1 => exact kept.of_eq rfl rfl
  case h_2 => exact kept

theorem State.drawSecret_keepsTrust (s : State) : s.KeepsTrust s.drawSecret := .ite .refl ⟨rfl, fun _ h => h⟩

/-- A wipe leaves an empty cocoon, its cause and its count, and no session. -/
theorem State.wipe_leaves (s : State) (cause : Nat) (stuck : List Nat) :
    (s.wipe cause stuck).cocoon.keys = Cocoon.init.keys ∧
    (s.wipe cause stuck).tamper = { s.tamper with wipes := s.tamper.wipes + 1, cause := cause, time := s.calStamp } ∧
    ∀ i : Fin 32, (s.wipe cause stuck).sessions[i].isOpen = false := by
  unfold State.wipe
  extract_lets time old s1 s2
  obtain ⟨ended, closed⟩ := State.endAll_closed (s2.event 0x2010 s2.tamperLoc [(16, s2.tamper.latch), (8, cause), (48, time)]) 5
  refine ⟨?keys, ?tamper, closed⟩
  case keys =>
    have loads : s1.cocoon.keys = Cocoon.init.keys := (State.failLoads_keepsTrust _).keys.trans (State.drawSecret_keepsTrust _).keys
    have told : s1.KeepsTrust (s2.event 0x2010 s2.tamperLoc [(16, s2.tamper.latch), (8, cause), (48, time)]) :=
      .event (.foldl (fun _ _ => .event) .refl)
    exact (told.trans ended).keys.trans loads
  case tamper =>
    have loads : s1.tamper = { s.tamper with wipes := s.tamper.wipes + 1, cause := cause, time := time } :=
      State.tamper_of (State.failLoads_kept (State.drawSecret_kept rfl))
    have told : s2.tamper = s1.tamper := State.tamper_of (State.foldl_kept (fun _ _ => State.event_kept) rfl)
    exact (State.tamper_of (State.endAll_kept (State.event_kept rfl))).trans (told.trans loads)

/-! ### A key load under way (R430) -/

/-- The status of a command that has failed with LIFE_CYCLE. -/
def wipedStat : CmdStat := { state := 3, code := abLifeCycle }

theorem State.cmdEnd_status (s : State) (sub : Nat) :
    (s.cmdEnd 0x8000 sub abLifeCycle).cmdStat = sset { state := 0, code := 0 } s.cmdStat (objKey 0x8000 sub) wipedStat := rfl

/-- A status that is not the reset value is read back, whatever the map held. -/
theorem State.cmdEnd_reads (s : State) (sub : Nat) :
    sget { state := 0, code := 0 } (s.cmdEnd 0x8000 sub abLifeCycle).cmdStat (objKey 0x8000 sub) = wipedStat := by
  have failed : wipedStat ≠ { state := 0, code := 0 } := by decide
  rw [State.cmdEnd_status, sset, if_neg failed, sget_sins_same]

/-- One key load fails; a failure recorded before it stays. -/
theorem State.cmdEnd_keeps {s : State} {sub : Nat} (read : sget { state := 0, code := 0 } s.cmdStat (objKey 0x8000 sub) = wipedStat) (other : Nat) :
    sget { state := 0, code := 0 } (s.cmdEnd 0x8000 other abLifeCycle).cmdStat (objKey 0x8000 sub) = wipedStat := by
  by_cases same : objKey 0x8000 sub = objKey 0x8000 other
  · rw [same]
    exact State.cmdEnd_reads s other
  · rw [State.cmdEnd_status, sget_sset_ne same]
    exact read

/-- One of the requests that wait, at a wipe. -/
def State.failWaiting (s : State) (w : Waiting) : State :=
  match keyLoadOf w.cmd with
  | some sub => s.cmdEnd 0x8000 sub abLifeCycle
  | none => s

theorem State.failLoads_eq (s : State) : s.failLoads = s.waiting.foldl State.failWaiting s := rfl

theorem State.failWaiting_keeps {s : State} {sub : Nat} (read : sget { state := 0, code := 0 } s.cmdStat (objKey 0x8000 sub) = wipedStat) (w : Waiting) :
    sget { state := 0, code := 0 } (s.failWaiting w).cmdStat (objKey 0x8000 sub) = wipedStat := by
  unfold State.failWaiting
  split
  case h_1 other _ => exact State.cmdEnd_keeps read other
  case h_2 => exact read

/-- Each key load among the requests that wait has failed at the end. -/
theorem State.failLoads_status (s : State) {x : Waiting} {sub : Nat} (mem : x ∈ s.waiting) (load : keyLoadOf x.cmd = some sub) :
    sget { state := 0, code := 0 } s.failLoads.cmdStat (objKey 0x8000 sub) = wipedStat := by
  obtain ⟨before, after, waiting⟩ := List.append_of_mem mem
  rw [State.failLoads_eq, waiting, List.foldl_append, List.foldl_cons]
  refine List.foldlRecOn (motive := fun y : State => sget { state := 0, code := 0 } y.cmdStat (objKey 0x8000 sub) = wipedStat)
    after State.failWaiting ?_ fun y read w _ => State.failWaiting_keeps read w
  unfold State.failWaiting
  rw [load]
  exact State.cmdEnd_reads _ sub

/-- Settles O49: the cocoon and the sessions by what a wipe leaves, a key load by what its failure writes. -/
theorem aWipeLeavesNoKeyAndNoSession : Obligations.AWipeLeavesNoKeyAndNoSession := by
  refine ⟨fun s cause stuck => ?_, fun s x sub mem load => s.failLoads_status mem load⟩
  obtain ⟨keys, tamper, closed⟩ := s.wipe_leaves cause stuck
  simp only [Cocoon.keys, Prod.mk.injEq] at keys
  obtain ⟨owner, clearance, list⟩ := keys
  exact ⟨owner, clearance, list, congrArg Tamper.cause tamper, congrArg Tamper.wipes tamper, closed⟩

end Sys2Proof.Machine
end

section
/-! PROOFS. Trust (O48): the tamper sources, the life-cycle request and the keys, a lemma for each command on its path. That a transition and a key load
take a second step, and which sources are momentary, is the model's own (notes/assumptions/34). -/

namespace Sys2Proof.Machine

/-! ### Tamper sources (R431, R432) -/

section Tamper

variable {s : State} {t : Nat} {source : Fin 9} {sense : TamperSense} {stuck : List Nat}

/-- The state with a source that has tripped: latched, and active but for a glitch. -/
theorem State.tamperTrip_new (new : bitOf s.tamper.active source.val = false) :
    s.tamperTrip source stuck = State.wipe { s with tamper := { s.tamper with
      latch := s.tamper.latch ||| 2 ^ source.val,
      active := if source.val < 7 then s.tamper.active ||| 2 ^ source.val else s.tamper.active } } (source.val + 1) stuck :=
  if_neg (Bool.eq_false_iff.mp new)

theorem exec_tamperDetect_trips (trips : (s.begin t).trips source sense = true) :
    exec (.tamperDetect t { source, sense } stuck) s = .next ((s.begin t).tamperTrip source stuck) := if_pos trips

theorem exec_tamperDetect_quiet (quiet : (s.begin t).trips source sense = false) :
    exec (.tamperDetect t { source, sense } stuck) s = .next ((s.begin t).stillActive (511 - 2 ^ source.val)) :=
  if_neg (Bool.eq_false_iff.mp quiet)

/-- With no source active there is none to fall. -/
theorem State.stillActive_of_none (none_ : s.tamper.active = 0) (mask : Nat) : s.stillActive mask = s := by
  unfold State.stillActive
  rw [if_neg fun was => was.1 none_, none_, Nat.zero_and, ← none_]

/-- The last active source falls: the secret is drawn (R432). -/
theorem State.stillActive_last {mask : Nat} (was : s.tamper.active ≠ 0) (last : s.tamper.active &&& mask = 0) :
    (s.stillActive mask).tamper.active = 0 ∧ (s.stillActive mask).cocoon.secret = Config.random s.free := by
  unfold State.stillActive
  rw [if_pos ⟨was, last⟩, last]
  exact ⟨rfl, rfl⟩

theorem exec_tamperClear {k : Kop} {active : Nat} {w : Fin 32} (permitted : Safety.Admits s t k 0x8000 0x0C 1 w) :
    let s1 := (Safety.taken s t k).stillActive active
    exec (.tamperClear t k active) s =
      .next (Safety.done { s1 with tamper := { s1.tamper with latch := s1.tamper.latch &&& active } } w k 0x8000 0x0C) :=
  congrArg Host.Outcome.next (State.command_done permitted rfl)

end Tamper

/-! ### Life cycle (R425, R426) -/

section LifeCycle

variable {s : State} {t : Nat} {k : Kop} {r : LcReq} {stuck : List Nat} {w : Fin 32}

theorem State.grant_kept (s : State) (k : Kop) : (Safety.grant s k).2.kept = s.kept := by
  unfold Safety.grant
  split
  case h_1 => exact State.accessBy_kept rfl
  case h_2 =>
    have kept : (s.request k).2.kept = s.kept := State.request_kept rfl
    split
    case h_1 i x e => exact (congrArg (fun r => State.kept r.2) e).symm.trans kept
    case h_2 x e => exact (congrArg (fun r => State.kept r.2) e).symm.trans kept

/-- A request that is taken changes none of the fields that few operations change. -/
theorem State.taken_kept (s : State) (t : Nat) (k : Kop) : (Safety.taken s t k).kept = s.kept := State.grant_kept (s.begin t) k

/-- What follows a request that has been answered: the cocoon is wiped where it has left a transition pending. -/
theorem exec_lifeCycleRequest_answered {x : State} (none_ : s.lcPending = none)
    (answers : (s.begin t).command (.lifeCycleRequest t k r stuck) k 0x8000 0x02 0 (fun s w =>
      if s.lcCode r = 0 then
        ({ s with lcPending := some { from_ := r.from_, to_ := r.to_, toggles := r.toggles, fuseOk := r.fuseOk, sess := w.sess.val } }, .done)
      else (s, .refuse (s.lcCode r))) = x) :
    exec (.lifeCycleRequest t k r stuck) s = .next (if x.lcPending.isSome = true then x.wipe 10 stuck else x) := by
  have begun : (s.begin t).transition = s.begin t := State.transition_of_none none_
  have absent : (s.begin t).lcPending.isNone = true := Option.isNone_iff_eq_none.mpr none_
  change execLifeCycleRequest t k r stuck s = _
  unfold execLifeCycleRequest
  simp only [begun, answers, absent, true_and]

theorem exec_lifeCycleRequest_refused (permitted : Safety.Admits s t k 0x8000 0x02 0 w) (none_ : s.lcPending = none)
    (refuses : (Safety.taken s t k).lcCode r ≠ 0) :
    exec (.lifeCycleRequest t k r stuck) s = .next (Safety.refused (Safety.taken s t k) w k ((Safety.taken s t k).lcCode r)) := by
  have waits : (Safety.refused (Safety.taken s t k) w k ((Safety.taken s t k).lcCode r)).lcPending = none :=
    (State.lcPending_of ((State.respond_kept rfl).trans (State.taken_kept s t k))).trans none_
  rw [exec_lifeCycleRequest_answered none_ (State.command_refused permitted (if_neg refuses)), waits]
  rfl

theorem exec_lifeCycleRequest_accepted (permitted : Safety.Admits s t k 0x8000 0x02 0 w) (none_ : s.lcPending = none)
    (accepts : (Safety.taken s t k).lcCode r = 0) :
    exec (.lifeCycleRequest t k r stuck) s = .next ((Safety.done { Safety.taken s t k with
      lcPending := some { from_ := r.from_, to_ := r.to_, toggles := r.toggles, fuseOk := r.fuseOk,
                          sess := (Safety.actor s t k 0x8000 0x02 w).sess.val } } w k 0x8000 0x02).wipe 10 stuck) := by
  rw [exec_lifeCycleRequest_answered none_ (State.command_done permitted (if_pos accepts))]
  refine congrArg Host.Outcome.next (if_pos ?_)
  rw [Safety.done, State.lcPending_of (State.respond_kept rfl)]
  rfl

theorem State.eraseBanks_life (s : State) : s.eraseBanks.life = s.life :=
  State.life_eq (State.eraseBanks_lifeCycle rfl) (State.eraseBanks_toggles rfl) (State.eraseBanks_fuses rfl) (State.eraseBanks_lcPending rfl)

/-- A transition that is carried out: its fuse is blown where it can be, and nothing is pending any more. -/
theorem State.transition_life {p : LcRun} (pending : s.lcPending = some p) :
    s.transition.life = State.life { (if p.fuseOk = true then s.blowFuse p.from_ p.to_ else s) with lcPending := none } := by
  unfold State.transition
  rw [pending]
  dsimp only
  by_cases blown : p.fuseOk = true
  · rw [if_pos blown, if_pos blown]
    split
    case isTrue retired => exact (State.eraseBanks_life _).trans (State.life_of (State.chainsOff_kept (State.eventBy_kept rfl)))
    case isFalse => exact State.life_of (State.eventBy_kept rfl)
  · rw [if_neg blown, if_neg blown]
    exact State.life_of (State.event_kept rfl)

end LifeCycle

/-! ### Keys (R428–R430) -/

section Keys

variable {s s1 : State} {t sub : Nat} {c : Instr} {k : Kop} {w : Fin 32} {act : State → Who → State × CmdRes}

/-- A key load that arrives: it is refused, or accepted and applied in a second step. -/
theorem State.keyLoad_arrives (first : s.resumed = none) (granted : Safety.grant (s.begin t) k = (some w, s1)) (names : k.names 2 0x8000 sub = true)
    (permitted : s1.writeCode k 0x8000 sub w = 0) :
    (s.begin t).keyLoad c k sub act =
      match (act s1 (s1.whoFor 0x8000 sub w)).2 with
      | .refuse e => Safety.refused s1 w k e
      | _ => (s1.await c k w []).setStat 0x8000 sub { state := 1, code := 0 } := by
  have resumed : ¬ (s.begin t).resumed.isSome = true := by rw [State.begin_resumed, first]; decide
  unfold State.keyLoad
  rw [if_neg resumed, State.arrive_of_grant granted]
  dsimp only
  rw [if_neg (by rw [names]; decide), if_neg (not_not_intro permitted)]
  rfl

/-- A key load that is applied acts as any command. -/
theorem State.keyLoad_applied (second : s.resumed.isSome = true) :
    (s.begin t).keyLoad c k sub act = (s.begin t).command c k 0x8000 sub 0 act := State.keyLoad_eq second

/-- The checks of an owner key record (R428). -/
def State.ownerOk (s : State) (r : OwnerRec) (a : Who) : Bool :=
  (s.cocoon.owner.isSome || s.sessions[a.sess].prov) && s.keyAuth 256 r.body r.serial r.recordSeq s.cocoon.recordSeq (s.cocoon.owner.getD r.ownerKey)

theorem exec_ownerKeyLoad_arrives {r : OwnerRec} (first : s.resumed = none) (granted : Safety.grant (s.begin t) k = (some w, s1))
    (names : k.names 2 0x8000 0x04 = true) (permitted : s1.writeCode k 0x8000 0x04 w = 0) (form : r.wf = true) :
    exec (.ownerKeyLoad t k r) s = .next (
      if s1.ownerOk r (s1.whoFor 0x8000 0x04 w) = true then (s1.await (.ownerKeyLoad t k r) k w []).setStat 0x8000 0x04 { state := 1, code := 0 }
      else Safety.refused s1 w k abAuth) := by
  have formed : ¬ (!r.wf) = true := by rw [form]; decide
  refine congrArg Host.Outcome.next ((State.keyLoad_arrives first granted names permitted).trans ?_)
  dsimp only
  rw [if_neg formed]
  by_cases ok : s1.ownerOk r (s1.whoFor 0x8000 0x04 w) = true
  · rw [if_pos ok, if_pos (by exact ok)]
  · rw [if_neg ok, if_neg (by exact ok)]

theorem exec_ownerKeyLoad_applied {r : OwnerRec} (second : s.resumed.isSome = true) (permitted : Safety.Admits s t k 0x8000 0x04 0 w)
    (form : r.wf = true) :
    let s1 := Safety.taken s t k
    exec (.ownerKeyLoad t k r) s = .next (
      if s1.ownerOk r (Safety.actor s t k 0x8000 0x04 w) = true then
        Safety.done { s1 with cocoon := { s1.cocoon with owner := some r.ownerKey, minEpoch := r.minEpoch, recordSeq := r.recordSeq,
                                                         clearance := if r.hasClearance then some r.clearanceKey else none } } w k 0x8000 0x04
      else Safety.refused s1 w k abAuth) := by
  intro s1
  have formed : ¬ (!r.wf) = true := by rw [form]; decide
  refine congrArg Host.Outcome.next ((State.keyLoad_applied second).trans ?_)
  by_cases ok : s1.ownerOk r (Safety.actor s t k 0x8000 0x04 w) = true
  · rw [if_pos ok]
    exact State.command_done permitted ((if_neg formed).trans (if_pos ok))
  · rw [if_neg ok]
    exact State.command_refused permitted ((if_neg formed).trans (if_neg ok))

/-- What a list load does where `code` is what its checks give and `ks` the list that it makes. -/
def State.listLoad (s : State) (r : ListLoad) (code : Nat) (ks : List MakerKey) : State × CmdRes :=
  if code ≠ 0 then (s, .refuse code) else s.setList r ks

theorem State.listLoad_arrives {r : ListLoad} {code : State → Nat} {ks : State → List MakerKey} (first : s.resumed = none)
    (granted : Safety.grant (s.begin t) k = (some w, s1)) (names : k.names 2 0x8000 0x09 = true) (permitted : s1.writeCode k 0x8000 0x09 w = 0) :
    (s.begin t).keyLoad c k 0x09 (fun s _ => s.listLoad r (code s) (ks s)) =
      if code s1 ≠ 0 then Safety.refused s1 w k (code s1)
      else if 64 < (ks s1).length then Safety.refused s1 w k abResource
      else (s1.await c k w []).setStat 0x8000 0x09 { state := 1, code := 0 } := by
  rw [State.keyLoad_arrives first granted names permitted]
  unfold State.listLoad State.setList
  by_cases refused : code s1 ≠ 0
  · rw [if_pos refused, if_pos refused]
  by_cases long : 64 < (ks s1).length
  · rw [if_neg refused, if_neg refused, if_pos long, if_pos long]
  · rw [if_neg refused, if_neg refused, if_neg long, if_neg long]

theorem State.listLoad_applied {r : ListLoad} {code : State → Nat} {ks : State → List MakerKey} (second : s.resumed.isSome = true)
    (permitted : Safety.Admits s t k 0x8000 0x09 0 w) :
    let s1 := Safety.taken s t k
    (s.begin t).keyLoad c k 0x09 (fun s _ => s.listLoad r (code s) (ks s)) =
      if code s1 ≠ 0 then Safety.refused s1 w k (code s1)
      else if 64 < (ks s1).length then Safety.refused s1 w k abResource
      else Safety.done { s1 with cocoon := { s1.cocoon with list := ks s1, listSeq := r.listSeq } } w k 0x8000 0x09 := by
  intro s1
  rw [State.keyLoad_applied second]
  by_cases refused : code s1 ≠ 0
  · rw [if_pos refused]
    exact State.command_refused permitted (if_pos refused)
  by_cases long : 64 < (ks s1).length
  · rw [if_neg refused, if_pos long]
    exact State.command_refused permitted ((if_neg refused).trans (if_pos long))
  · rw [if_neg refused, if_neg long]
    exact State.command_done permitted ((if_neg refused).trans (if_neg long))

end Keys

/-- Settles O48: a lemma for each command on its path, and for what a transition leaves of the life cycle. -/
theorem trustIsKept : Obligations.TrustIsKept := by
  refine ⟨?detect, ?active, ?clear, ?request, ?transition, ?owner, ?ownerApplied, ?applied, ?arrives⟩
  case detect =>
    intro t source sense stuck s s0
    refine ⟨fun trips new low => ?_, fun trips new high => ?_, fun trips again => ?_, fun quiet none_ => ?_⟩
    · rw [exec_tamperDetect_trips trips, State.tamperTrip_new new, if_pos low]
    · rw [exec_tamperDetect_trips trips, State.tamperTrip_new new, if_neg (Nat.not_lt.mpr high)]
    · exact (exec_tamperDetect_trips trips).trans (congrArg _ (if_pos again))
    · rw [exec_tamperDetect_quiet quiet, State.stillActive_of_none none_]
  case active => exact fun s mask => State.stillActive_last
  case clear => exact fun t k active s w => exec_tamperClear
  case request =>
    intro t k r stuck s w s1 a permitted none_
    exact ⟨exec_lifeCycleRequest_refused permitted none_, exec_lifeCycleRequest_accepted permitted none_⟩
  case transition =>
    intro s p pending
    have life := State.transition_life pending
    simp only [State.life, Prod.mk.injEq] at life
    obtain ⟨lifeCycle, toggles, fuses, none_⟩ := life
    refine ⟨none_, fun blown => ?_, fun whole => ?_⟩
    · rw [if_pos blown] at lifeCycle toggles fuses
      exact ⟨fuses, toggles, lifeCycle⟩
    · rw [if_neg (Bool.eq_false_iff.mp whole)] at lifeCycle toggles fuses
      exact ⟨fuses, toggles, lifeCycle⟩
  case owner =>
    intro t k r s s1 w a ok first granted names permitted form
    rw [exec_ownerKeyLoad_arrives first granted names permitted form]
    exact ⟨fun accepted => congrArg _ (if_pos accepted), fun rejected => congrArg _ (if_neg (Bool.eq_false_iff.mp rejected))⟩
  case ownerApplied => exact fun t k r s w => exec_ownerKeyLoad_applied
  case applied =>
    intro t k r s w s1 out second permitted
    exact ⟨congrArg _ (State.listLoad_applied (code := fun s => s.listCode r 1) (ks := fun _ => r.entries.foldl putKey []) second permitted),
      congrArg _ (State.listLoad_applied (code := fun s => s.listCode r 2) (ks := fun s => r.entries.foldl putKey s.cocoon.list) second permitted),
      congrArg _ (State.listLoad_applied (code := fun s => s.listCode r 3)
        (ks := fun s => s.cocoon.list.filter fun x => !(r.entries.any fun e => e.maker == x.maker && e.keyId == x.keyId)) second permitted)⟩
  case arrives =>
    intro t k r s s1 w left ans first granted names permitted
    exact ⟨congrArg _ (State.listLoad_arrives (code := fun s => s.listCode r 1) (ks := fun _ => r.entries.foldl putKey []) first granted names permitted),
      congrArg _ (State.listLoad_arrives (code := fun s => s.listCode r 2) (ks := fun s => r.entries.foldl putKey s.cocoon.list) first granted names
        permitted),
      congrArg _ (State.listLoad_arrives (code := fun s => s.listCode r 3)
        (ks := fun s => s.cocoon.list.filter fun x => !(r.entries.any fun e => e.maker == x.maker && e.keyId == x.keyId)) first granted names permitted)⟩

end Sys2Proof.Machine
end

section
/-! PROOFS. The persistent store (O47), the recorder, the calendar and the snapshots (O51, O57), a lemma for each command on its path. -/

namespace Sys2Proof.Machine

/-! ### The store (R382, R384, R386, R465) -/

section Store

variable {s : State} {t : Nat} {k : Kop} {w : Fin 32}

/-- A command that is refused where a condition holds, and goes on otherwise. -/
theorem State.command_refused_or_going {c : Instr} {i sub v code : Nat} {act : State → Who → State × CmdRes} {p : Prop} [Decidable p] {s' : State}
    (permitted : Safety.Admits s t k i sub v w)
    (acts : act (Safety.taken s t k) (Safety.actor s t k i sub w) = if p then (Safety.taken s t k, .refuse code) else (s', .running)) :
    (s.begin t).command c k i sub v act = if p then Safety.refused (Safety.taken s t k) w k code else Safety.going s' w k i sub := by
  by_cases refuses : p
  · rw [if_pos refuses] at acts ⊢
    exact State.command_refused permitted acts
  · rw [if_neg refuses] at acts ⊢
    exact State.command_going permitted acts

theorem exec_storeSave (permitted : Safety.Admits s t k 0x1000 0x20 1 w) :
    let s1 := Safety.taken s t k
    exec (.storeSave t k) s = .next (if s1.save.isSome = true then Safety.refused s1 w k abWork
      else Safety.going (s1.beginSave s1.persistentSet false) w k 0x1000 0x20) :=
  congrArg Host.Outcome.next (State.command_refused_or_going permitted rfl)

theorem exec_storeSaveRestart (permitted : Safety.Admits s t k 0x1000 0x20 2 w) :
    let s1 := Safety.taken s t k
    exec (.storeSaveRestart t k) s = .next (if s1.save.isSome = true ∨ ¬ s1.allIdle = true then Safety.refused s1 w k abWork
      else Safety.going (s1.beginSave s1.persistentSet true) w k 0x1000 0x20) :=
  congrArg Host.Outcome.next (State.command_refused_or_going permitted rfl)

theorem exec_storeErase (permitted : Safety.Admits s t k 0x1000 0x20 3 w) :
    let s1 := Safety.taken s t k
    exec (.storeErase t k) s = .next (if s1.save.isSome = true then Safety.refused s1 w k abWork
      else Safety.going (s1.beginSave [] false) w k 0x1000 0x20) :=
  congrArg Host.Outcome.next (State.command_refused_or_going permitted rfl)

theorem exec_saveComplete {v : Save} {ok : Bool} (runs : (s.begin t).save = some v) :
    let s0 := s.begin t
    let b : Fin 2 := Fin.ofNat 2 v.bank
    let s1 : State := { s0 with save := none }
    let s2 := (s1.writeBank b v.count v.entries).cmdEnd 0x1000 0x20 0
    exec (.saveComplete t ok) s = if ok = true then .next (if v.restart = true then s2.beginRestart else s2)
      else .next ((s1.cmdEnd 0x1000 0x20 abStoreFailed).event 0x9813 s0.storeLoc [(8, b.val)]) := by
  intro s0 b s1 s2
  change execSaveComplete t ok s = _
  unfold execSaveComplete
  extract_lets
  split
  case h_1 none_ => cases runs.symm.trans none_
  case h_2 found =>
    cases runs.symm.trans found
    rfl

theorem exec_restart (permitted : Safety.Admits s t k 0xA000 0x04 1 w) :
    let s1 := Safety.taken s t k
    exec (.restart t k) s = .next (if s1.allIdle = true then Safety.going s1.beginRestart w k 0xA000 0x04 else Safety.refused s1 w k abWork) := by
  intro s1
  refine congrArg Host.Outcome.next ?_
  by_cases idle : s1.allIdle = true
  · rw [if_pos idle]
    exact State.command_going permitted (if_pos idle)
  · rw [if_neg idle]
    exact State.command_refused permitted (if_neg idle)

end Store

/-- Settles O47: a lemma for each command on its path. -/
theorem theStoreSaves : Obligations.TheStoreSaves := by
  refine ⟨?save, ?saveRestart, ?erase, ?complete, ?restart⟩
  case save => exact fun t k s w => exec_storeSave
  case saveRestart => exact fun t k s w => exec_storeSaveRestart
  case erase => exact fun t k s w => exec_storeErase
  case complete =>
    intro t s v s0 b s1 s2 runs
    exact ⟨exec_saveComplete runs, exec_saveComplete runs⟩
  case restart => exact fun t k s w => exec_restart

/-! ### The recorder (R440, R445–R447, R449) -/

section Recorder

variable {s : State} {t : Nat} {k : Kop} {w : Fin 32}

theorem exec_recordCommit_waiting {e : Event} {rest : List Event} (runs : (s.begin t).running 7 = true) (noClear : (s.begin t).recorder.clearing = none)
    (waiting : (s.begin t).events = e :: rest) :
    exec (.recordCommit t) s =
      .next (State.lostEvents { s.begin t with events := rest, recorder := (s.begin t).recorder.commit e }) := by
  refine (if_pos runs).trans (congrArg Host.Outcome.next ?_)
  unfold State.commitRecord
  rw [noClear, waiting]

theorem exec_recorderClear_free {tok : ClearTok} (permitted : Safety.Admits s t k 0x9000 0x07 0 w)
    (free : (Safety.taken s t k).recorder.clearing = none) (runs : (Safety.taken s t k).running 7 = true) :
    let s1 := Safety.taken s t k
    let a := Safety.actor s t k 0x9000 0x07 w
    let host := s1.sessions[a.sess].hostId
    exec (.recorderClear t k tok) s = .next (if s1.tokenOk tok host = true then
      Safety.going { s1 with recorder := { s1.recorder with clearing := some (s1.clearedEvent host a.sess.val) } } w k 0x9000 0x07
      else Safety.refused s1 w k abAuth) := by
  intro s1 a host
  have goes : ¬ (s1.recorder.clearing.isSome = true ∨ ¬ s1.running 7 = true) := by
    rw [free, runs]
    decide
  refine congrArg Host.Outcome.next ?_
  by_cases ok : s1.tokenOk tok host = true
  · rw [if_pos ok]
    exact State.command_going permitted ((if_neg (by rw [ok]; decide)).trans (if_neg goes))
  · rw [if_neg ok]
    exact State.command_refused permitted (if_pos (by rw [Bool.eq_false_iff.mpr ok]; decide))

end Recorder

/-! ### The calendar clock (R451, R452) -/

section Calendar

variable {s : State} {t : Nat} {k : Kop} {w : Fin 32}

/-- A calendar set that PTP does not stand against. -/
theorem exec_calendarSet {v : Nat} (permitted : Safety.Admits s t k 0x9400 0x03 v w) (fits : v < 2 ^ 48) :
    let s1 := Safety.taken s t k
    let a := Safety.actor s t k 0x9400 0x03 w
    exec (.calendarSet t k v) s = .next (if s1.oget 0x9400 0x04 = 1 ∧ s1.ptp.state = 3 then Safety.refused s1 w k abConfig
      else Safety.done (s1.setCalendar (v * 65536) a.sess.val a.role) w k 0x9400 0x03) := by
  intro s1 a
  have range : ¬ 2 ^ 48 ≤ v := Nat.not_le.mpr fits
  refine congrArg Host.Outcome.next ?_
  by_cases held : s1.oget 0x9400 0x04 = 1 ∧ s1.ptp.state = 3
  · rw [if_pos held]
    exact State.command_refused permitted ((if_neg range).trans (if_pos held))
  · rw [if_neg held]
    exact State.command_done permitted ((if_neg range).trans (if_neg held))

/-- The calendar fields of a state. -/
def State.calFields (s : State) : Nat × Nat × Nat × Bool × Rat × Rat := (s.ft, s.calendar, s.calAt, s.calValid, s.calFreq, s.calCorr)

theorem State.eventBy_calFields (s : State) (sess role code sev loc : Nat) (payload : List (Nat × Nat)) :
    (s.eventBy sess role code sev loc payload).calFields = s.calFields := by
  unfold State.eventBy State.addEvent
  split <;> rfl

/-- With nothing elapsed a valid calendar reads what it was set to. -/
theorem State.calNow_of_set (valid : s.calValid = true) (now : s.calAt = s.ft) : s.calNow = s.calendar := by
  have none_ : (0 : Rat).floor = 0 := rfl
  unfold State.calNow
  simp [valid, now, none_]

/-- The event of a step in whole seconds names the value that was set. -/
theorem State.setCalendar_seconds (s : State) (v sess role : Nat) :
    s.setCalendar (v * 65536) sess role = ({ s with calendar := v * 65536, calAt := s.ft, calValid := true } : State).eventBy sess role 0x9815 0
      (s.loc 19 2) [(48, s.calNow / 65536), (48, v)] := by
  have whole : v * 65536 / 65536 = v := Nat.mul_div_cancel v (by decide)
  unfold State.setCalendar
  rw [whole]
  rfl

/-- Settles O57: the command by its path; the event that it records leaves the calendar as it has been set. -/
theorem calendarSetTakesEffectAtOnce : Obligations.CalendarSetTakesEffectAtOnce := by
  intro t k v s w s1 a s2 s3 permitted fits free
  have noPtp : ¬ (s1.oget 0x9400 0x04 = 1 ∧ s1.ptp.state = 3) := fun held => free.elim (· held.1) (· held.2)
  have kept : s3.calFields = s2.calFields := State.eventBy_calFields ..
  simp only [State.calFields, Prod.mk.injEq] at kept
  obtain ⟨ft, calendar, at_, valid, freq, corr⟩ := kept
  refine ⟨?command, ?now, valid, freq, corr⟩
  case command =>
    exact (exec_calendarSet permitted fits).trans (congrArg _ ((if_neg noPtp).trans
      (congrArg (fun x => Safety.done x w k 0x9400 0x03) (State.setCalendar_seconds ..))))
  case now => rw [State.calNow_of_set valid (at_.trans ft.symm), calendar]

theorem exec_calendarDiscipline_due (source : (s.begin t).oget 0x9400 0x04 = 1) (ptp : (s.begin t).ptp.state = 3)
    (utc : (s.begin t).ptp.utcValid = true) (due : periodic (s.begin t).calRun (msFt 16000) (s.begin t).ft = true) :
    exec (.calendarDiscipline t) s = .next { (s.begin t).discipline with calRun := some (s.begin t).ft } :=
  if_pos ⟨source, ptp, utc, due⟩

end Calendar

/-! ### Snapshots (R455, R456) -/

section Snapshots

variable {s : State} {t : Nat} {k : Kop} {w : Fin 32}

theorem exec_snapshot_free (permitted : Safety.Admits s t k 0x9800 0x01 1 w) (free : (Safety.taken s t k).liveDue = []) :
    let s1 := Safety.taken s t k
    exec (.snapshot t k) s = .next (Safety.done (s1.schedule (multipleFrom 1250 (s1.ft + 2500)) false) w k 0x9800 0x01) :=
  congrArg Host.Outcome.next (State.command_done permitted (if_pos (List.isEmpty_iff.mpr free)))

theorem exec_boardSnapshot_first (permitted : Safety.Admits s t k 0x9800 0x03 1 w) (first : (Safety.taken s t k).bpos = 0) :
    let s1 := Safety.taken s t k
    let free := s1.ft + 12500 + 1250 + Config.snapLead s1.free
    let at_ := match s1.liveDue.find? fun x => x.board && nearLatch x.at_ free with | some x => x.at_ | none => s1.spaced free
    exec (.boardSnapshot t k) s = .next (Safety.done
      ((State.schedule { s1 with free := s1.free + 1 } at_ true).updSync fun y => { y with snap := some at_ }) w k 0x9800 0x03) :=
  congrArg Host.Outcome.next (State.command_done permitted (if_neg (not_not_intro first)))

/-- A latch tick that is past is taken: its counters go into the buffer that is not active. -/
theorem State.latched_one {l : Latch} {now : Nat} (due : s.snap.due = [l]) (asked : l.period = false) (past : l.at_ ≤ now) (none_ : s.snap.latched = none) :
    s.latched now =
      let x : Snap := { s.snap with due := [], last := some (l.at_, l.board), latched := some l.at_ }
      if s.snap.active = true then { x with buf0 := s.countersAt l.at_ } else { x with buf1 := s.countersAt l.at_ } := by
  have live : s.liveDue = [l] := by simp [State.liveDue, due, asked]
  have swap : ({ s.snap with due := [] } : Snap).swap = { s.snap with due := [] } := by simp [Snap.swap, none_]
  simp [State.latched, due, live, past, State.latchOne, swap]

/-- A snapshot near a board snapshot that is scheduled joins it. -/
theorem State.schedule_joins {l : Latch} {tick : Nat} (mem : l ∈ s.scheduled) (board : l.board = true) (near : nearLatch l.at_ tick = true)
    (asksBoard : Bool) : (s.schedule tick asksBoard).snap.due = s.scheduled := by
  have joins : (s.scheduled.any fun x => x.board && nearLatch x.at_ tick) = true := List.any_eq_true.mpr ⟨l, mem, by rw [board, near]; rfl⟩
  unfold State.schedule
  extract_lets d put at_ taken
  rw [if_pos (.inr joins)]

theorem exec_snapshotBufferSwap_latched {d : Nat} (latched : (s.begin t).snap.latched = some d) :
    let s0 := s.begin t
    exec (.snapshotBufferSwap t) s = .next { s0 with snap := { s0.snap with
      active := !s0.snap.active, latched := none, epoch := (s0.snap.epoch + 1) % 2 ^ 32, tick := d } } := by
  intro s0
  have swap : s0.snap.swap = { s0.snap with active := !s0.snap.active, latched := none, epoch := (s0.snap.epoch + 1) % 2 ^ 32, tick := d } := by
    unfold Snap.swap
    rw [latched]
  exact congrArg (fun x => Host.Outcome.next { s0 with snap := x }) swap

end Snapshots

/-- Settles O51: a lemma for each command on its path, and for what a latch tick takes. -/
theorem recordsAndCountersAreKept : Obligations.RecordsAndCountersAreKept := by
  refine ⟨?commit, ?clear, ?seconds, ?discipline, ?set, ?snapshot, ?board, ?period, ?latch, ?joins, ?swap⟩
  case commit => exact fun t s e rest => exec_recordCommit_waiting
  case clear => exact fun t k tok s w => exec_recorderClear_free
  case seconds => exact fun t s due => if_pos due
  case discipline => exact fun t s => exec_calendarDiscipline_due
  case set => exact fun t k v s w => exec_calendarSet
  case snapshot => exact fun t k s w => exec_snapshot_free
  case board => exact fun t k s w => exec_boardSnapshot_first
  case period =>
    intro t s s0 on due
    exact if_pos ⟨on, due⟩
  case latch =>
    intro t s l x
    refine ⟨rfl, fun due asked past none_ => ?_⟩
    have taken : x = _ := State.latched_one due asked past none_
    by_cases active : s.snap.active = true
    · simp [taken, active]
    · simp [taken, active]
  case joins => exact fun s tick board l mem isBoard near => State.schedule_joins mem isBoard near board
  case swap => exact fun t s d => exec_snapshotBufferSwap_latched

end Sys2Proof.Machine
end

section
/-! PROOFS. The reset state (O54), the front of the queue (O1), resets (O52) and power (O53), a lemma for each command on its path. What a reset keeps, and
the codes of the supplies, are the model's own (notes/assumptions/15, 39). -/

namespace Sys2Proof.Machine

/-- Settles O1: the front of the queue is what a step runs. -/
theorem stepRunsTheFrontCommand : Obligations.StepRunsTheFrontCommand := by
  intro c rest s front
  unfold step
  rw [front]

/-! ### The state after reset -/

theorem replicate_get {α : Type} {n : Nat} (x : α) (i : Fin n) : (Vector.replicate n x)[i] = x := Vector.getElem_replicate i.isLt

/-- Settles O54: every field by its reset value. -/
theorem resetLeavesTheBlockEmpty : Obligations.ResetLeavesTheBlockEmpty := by
  refine ⟨rfl, rfl, rfl, rfl, rfl, rfl, ?zones, ?chains, ?chans, ?axes, ?sessions, ?txs, ?gates, ?heads, fun i sub => rfl⟩
  case zones =>
    intro z
    have blank : State.reset.zones[z] = Zone.init := replicate_get ..
    rw [blank]
    exact ⟨rfl, rfl, rfl⟩
  case chains =>
    intro c
    have chain : State.reset.chains[c] = Chain.init := replicate_get ..
    have port : State.reset.ports[c] = Port.init := replicate_get ..
    rw [chain, port]
    exact ⟨rfl, rfl, rfl⟩
  case chans =>
    exact fun c => congrArg Chan.state (replicate_get Chan.init c)
  case axes =>
    intro a
    have axis : State.reset.axes[a] = Axis.init := replicate_get ..
    rw [axis]
    exact ⟨rfl, rfl⟩
  case sessions => exact fun i => congrArg Session.isOpen (replicate_get Session.init i)
  case txs => exact fun y => congrArg Tx.state (replicate_get Tx.init y)
  case gates => exact fun g => congrArg Gate.asserted (replicate_get Gate.init g)
  case heads => exact fun h => congrArg Head.idState (replicate_get Head.init h)

/-! ### Resets (R463–R465, R467, Tables 18.1 and 18.2) -/

section Resets

variable {s : State} {t : Nat} {p : PowerUp}

/-- Below 2,000 mV no chain is recorded. -/
theorem State.recordHigh_of_low (low : ∀ c : Fin 16, s.chains[c].vph < 2000) : s.recordHigh = s := by
  have none_ : ((fins 16).filter fun c => decide (2000 < s.chains[c].vph)) = [] := by
    refine List.filter_eq_nil_iff.mpr fun c _ => ?_
    have := low c
    simp only [decide_eq_true_eq]
    omega
  unfold State.recordHigh
  rw [none_]
  rfl

theorem exec_commandedResetTimeout_low {f : Nat} (asked : (s.begin t).power.resetFrom = some f) (low : ∀ c : Fin 16, (s.begin t).chains[c].vph < 2000) :
    let s0 := s.begin t
    exec (.commandedResetTimeout t p) s = .next ((if s0.running 7 = true then s0.commitAll else s0).startUp 2 p) := by
  intro s0
  have fallen : ((fins 16).all fun c => decide (s0.chains[c].vph < 2000)) = true := List.all_eq_true.mpr fun c _ => decide_eq_true (low c)
  have waits : s0.power.resetFrom.isSome = true := by rw [asked]; rfl
  refine (if_pos (.inr ⟨waits, fallen⟩)).trans ?_
  rw [State.recordHigh_of_low low]

theorem exec_commandedResetTimeout_late {f : Nat} (asked : (s.begin t).power.resetFrom = some f) (late : f + secFt 1 ≤ (s.begin t).ft) :
    let s1 := (s.begin t).recordHigh
    exec (.commandedResetTimeout t p) s = .next ((if s1.running 7 = true then s1.commitAll else s1).startUp 2 p) := by
  refine if_pos (.inl ?_)
  rw [asked]
  exact decide_eq_true late

theorem exec_clockLoss_bad {ps ns : Nat} {locked : Bool} {stuck : List Nat} (bad : ¬ (5400 ≤ ps ∧ ps ≤ 7400 ∧ locked = true)) :
    let s0 := s.begin t
    let s1 := State.tamperTrip { s0 with power := { s0.power with refOk := decide (5400 ≤ ps) && decide (ps ≤ 7400), root := locked } } 7 stuck
    exec (.clockLoss t { ps, locked, ns } stuck p) s = .next (if 1000 ≤ ns then s1.startUp 0 p else s1) := by
  refine if_neg fun good => bad ?_
  obtain ⟨steady, root⟩ := good
  obtain ⟨low, high⟩ := Bool.and_eq_true_iff.mp steady
  exact ⟨of_decide_eq_true low, of_decide_eq_true high, root⟩

end Resets

/-- Settles O52: the commands by their paths, what a reset keeps by its definition. -/
theorem resetsStartTheBlock : Obligations.ResetsStartTheBlock := by
  refine ⟨fun t p s => ⟨rfl, rfl⟩, ?debug, ?timeout, ?supply, ?clock, ?keeps⟩
  case debug => exact fun t p s => (apply_ite ..).symm
  case timeout =>
    intro t p s f s0 s1 asked
    exact ⟨exec_commandedResetTimeout_low asked, exec_commandedResetTimeout_late asked⟩
  case supply =>
    intro t supply uv p s
    refine ⟨fun core low => (if_pos core).trans (if_pos low), fun other known out => ?_⟩
    exact (if_neg (Nat.not_lt.mpr other)).trans (if_pos ⟨known, Bool.eq_false_iff.mp out⟩)
  case clock => exact fun t ps locked ns stuck p s => exec_clockLoss_bad
  case keeps =>
    intro s on r
    refine ⟨rfl, rfl, rfl, rfl, rfl, rfl, rfl, rfl, rfl, rfl, rfl, rfl, rfl, rfl, rfl, rfl, rfl, rfl, rfl, rfl, ?sessions, ?chains⟩
    case sessions => exact fun i => congrArg Session.isOpen (replicate_get Session.init i)
    case chains => exact fun c => congrArg Chain.state (replicate_get Chain.init c)

/-! ### Supplies, clocks and temperature (R467, R468, R486) -/

section Supplies

variable {s : State} {t : Nat}

theorem exec_coreSupplyExcursion_near {i : Fin 2} {begins : Bool} {uv : Nat} (near : nearNominal i.val uv = true)
    (other : (s.begin t).power.excursion[i] ≠ begins) (found : inRange i.val uv ≠ begins) :
    let s0 := s.begin t
    let s1 : State := { s0 with power := { s0.power with excursion := s0.power.excursion.set i begins } }
    exec (.coreSupplyExcursion t i.val begins uv) s = .next (s1.faultEvent 20 s1.powerLoc 0xA000 0x01 i.val (uv / 1000)) :=
  (dif_pos i.isLt).trans ((if_neg (not_not_intro near)).trans (if_neg fun none_ => none_.elim other found))

theorem exec_coreSupplyExcursion_far {i : Fin 2} {begins : Bool} {uv : Nat} (far : nearNominal i.val uv = false) :
    exec (.coreSupplyExcursion t i.val begins uv) s = .next ((s.begin t).tamperTrip 8 []) :=
  (dif_pos i.isLt).trans (if_pos (Bool.eq_false_iff.mp far))

theorem exec_lanePllLoss_ready {port : Fin 20} {l : Fin 16} (own : l.val = port.val) (ready : (s.begin t).ports[l].state = .ready) :
    let s0 := s.begin t
    let s1 : State := { s0 with power := { s0.power with pll := s0.power.pll.set port false } }
    let s2 := (s1.setLink l .fault).updPort l fun p => { p with lockU0 := false, lockUS := false, lockSince := none }
    let s3 := if s2.lanes[l].run = 4 ∨ s2.lanes[l].run = 5 then s2.endLane l 6 else s2
    exec (.lanePllLoss t port) s = .next ((s3.portLost l).updPort l fun p => { p with fec := false }) := by
  obtain rfl : port = ⟨l.val, Nat.lt_trans l.isLt (by decide)⟩ := Fin.ext own.symm
  intro s0 s1 s2 s3
  refine (dif_pos l.isLt).trans ?_
  extract_lets
  split
  case h_1 off => cases ready.symm.trans off
  case h_2 fault => cases ready.symm.trans fault
  case h_3 => rfl

theorem exec_dieTemperatureSample {temp : Int} :
    let s0 := s.begin t
    let s1 : State := { s0 with power := { s0.power with dieTemp := temp, dieHot := decide (1150 < temp) } }
    exec (.dieTemperatureSample t temp) s = .next (
      if 1150 < temp ∧ s0.power.dieHot = false then s1.faultEvent 20 s1.powerLoc 0xA000 0x02 0 (toU 32 temp) else s1) := by
  intro s0 s1
  have first : ((decide (1150 < temp) && !s0.power.dieHot) = true) = (1150 < temp ∧ s0.power.dieHot = false) := by simp
  exact congrArg Host.Outcome.next (if_congr (iff_of_eq first) rfl rfl)

theorem exec_deviceReady_started (starting : (s.begin t).devState = 0) (complete : (s.begin t).startedUp = true) :
    let s0 := s.begin t
    let s1 := s0.setDevice 1
    exec (.deviceReady t) s = .next { s1 with power := { s0.power with readyTemp := some s0.power.dieTemp } } :=
  if_pos ⟨starting, complete⟩

end Supplies

/-! ### Power domains (R470, R471) -/

section Domains

variable {s : State} {t : Nat} {d : Fin 11}

theorem exec_domainRetention_idle (on : (s.begin t).domains[d].state = 2) (idle : (s.begin t).idleFor d Prod.fst = true)
    (later : (s.begin t).offFirst d = false) : exec (.domainRetention t d) s = .next ((s.begin t).setDomain d 1) :=
  if_pos ⟨on, idle, Bool.eq_false_iff.mp later⟩

theorem exec_domainOff_idle (up : (s.begin t).domains[d].state = 1 ∨ (s.begin t).domains[d].state = 2) (idle : (s.begin t).idleFor d Prod.snd = true)
    (may : neverOff d = false) : exec (.domainOff t d) s = .next (((s.begin t).domainLost d).setDomain d 0) :=
  if_pos ⟨up, idle, Bool.eq_false_iff.mp may⟩

theorem exec_domainWakeComplete_due {found : List (Nat × CellFault)} {buffers : List BufFault} (waking : (s.begin t).domains[d].state = 3)
    (due : (s.begin t).domains[d].wakeAt + wakeFt d.val (s.begin t).domains[d].wakeFrom ≤ (s.begin t).ft) :
    let s0 := s.begin t
    let s1 := s0.setDomain d 2
    let s2 := if d = 0 then { s1 with hports := s1.hports.map fun y => { y with buffered := 0 } } else s1
    exec (.domainWakeComplete t { domain := d, found, buffers }) s = .next (if s0.domains[d].wakeFrom = 0 then
      (s2.testArrays (found.filter fun f => engRegion d f.1) buffers).domainBack d else s2) :=
  (if_pos ⟨waking, due⟩).trans (apply_ite ..).symm

end Domains

/-! ### The orderly power-down (R477) -/

section PowerDown

variable {s : State} {t : Nat}

/-- What an ORDERLY_POWER_DOWN does at once: the device is on its way down and its zones drain. -/
def State.downStart (s : State) : State :=
  { (fins 8).foldl State.drainZone (s.setDevice 2) with
    power := { ((fins 8).foldl State.drainZone (s.setDevice 2)).power with step := 1, stepAt := s.ft } }

theorem exec_orderlyPowerDown_first {k : Kop} {w : Fin 32} (permitted : Safety.Admits s t k 0xA000 0x05 1 w)
    (first : (Safety.taken s t k).power.step = 0) :
    exec (.orderlyPowerDown t k) s = .next (Safety.going (Safety.taken s t k).downStart w k 0xA000 0x05) := by
  have idle : ¬ (1 ≤ (Safety.taken s t k).power.step ∧ (Safety.taken s t k).power.step ≤ 5) := by
    rw [first]
    decide
  change Host.Outcome.next ((s.begin t).command _ k 0xA000 0x05 1 _) = _
  exact congrArg _ (State.command_going permitted (if_neg idle))

/-- What the sequence does at step `n` of Table 18.7: the next step, once the condition of this one holds. -/
def State.downStep (s : State) : Nat → State
  | 1 => if ((fins 8).all fun z => s.zones[z].state == .disabled) = true then s.downHeads.nextStep 2 else s
  | 2 =>
    if ((fins 16).all fun c => decide (s.chains[c].vph < 2000)) = true ∨ s.power.stepAt + secFt 1 ≤ s.ft then s.downChains.nextStep 3 else s
  | 3 => if ((fins 8).all fun a => s.axes[a].state.rest) = true then s.downAxes.nextStep 4 else s
  | 4 => if ((fins 8).all fun a => s.axes[a].state != .retaining) = true then s.downRecords.nextStep 5 else s
  | 5 => s.downDomains.nextStep 6
  | _ => s

theorem exec_powerDownProgress_at {n : Nat} (stands : (s.begin t).power.step = n) :
    exec (.powerDownProgress t) s = .next ((s.begin t).downStep n) := by
  change execPowerDownProgress t s = _
  unfold execPowerDownProgress
  dsimp only
  rw [stands]
  split
  case h_1 => exact (apply_ite ..).symm
  case h_2 => exact (apply_ite ..).symm
  case h_3 => exact (apply_ite ..).symm
  case h_4 => exact (apply_ite ..).symm
  case h_5 => rfl
  case h_6 => simp_all only [State.downStep]

end PowerDown

/-- Settles O53: a lemma for each command on its path. -/
theorem powerIsManaged : Obligations.PowerIsManaged := by
  refine ⟨?excursion, ?pll, ?temperature, ?ready, ?idle, ?wake, ?down, ?progress⟩
  case excursion =>
    intro t i begins uv s s0 s1
    exact ⟨exec_coreSupplyExcursion_near, exec_coreSupplyExcursion_far⟩
  case pll => exact fun t port s l => exec_lanePllLoss_ready
  case temperature => exact fun t temp s => exec_dieTemperatureSample
  case ready => exact fun t s => exec_deviceReady_started
  case idle => exact fun t d s => ⟨exec_domainRetention_idle, exec_domainOff_idle⟩
  case wake =>
    intro t d found buffers s s0 s1 s2
    exact ⟨fun asleep => congrArg Host.Outcome.next (if_pos asleep), exec_domainWakeComplete_due⟩
  case down => exact fun t k s w => exec_orderlyPowerDown_first
  case progress =>
    intro t s s0
    refine ⟨exec_powerDownProgress_at, fun two low => ?_, exec_powerDownProgress_at, exec_powerDownProgress_at, exec_powerDownProgress_at⟩
    exact (exec_powerDownProgress_at two).trans (congrArg _ (if_pos (.inl low)))

end Sys2Proof.Machine
end

section
/-! PROOFS. Frames of a host port and datagrams of a session (O42). -/

namespace Sys2Proof.Machine

/-! ### A frame of a host port (R322, R471) -/

section Frames

variable {s : State} {p : Fin 4} {e : Eth}

/-- The sessions and the time stand. -/
structure State.SameSessions (a b : State) : Prop where
  sessions : b.sessions = a.sessions
  ft : b.ft = a.ft

theorem State.SameSessions.wake {a s : State} {d : Fin 11} (same : a.SameSessions s) : a.SameSessions (s.wake d) := by
  unfold State.wake
  exact iteInduction (fun _ => ⟨same.sessions, same.ft⟩) fun _ => same

theorem State.SameSessions.answerFrame {a s : State} (same : a.SameSessions s) : a.SameSessions (s.answerFrame p e) := by
  unfold State.answerFrame
  extract_lets
  exact iteInduction (fun _ => ⟨same.sessions, same.ft⟩) fun _ => iteInduction (fun _ => ⟨same.sessions, same.ft⟩) fun _ => same

/-- What becomes of a frame on its port is no matter of the sessions. -/
theorem State.frameIn_same (s : State) (port : Nat) (ptp : Bool) (e : Eth) : s.SameSessions (s.frameIn port ptp e).2 := by
  unfold State.frameIn
  split
  · exact ⟨rfl, rfl⟩
  · split
    · unfold State.portFrame
      extract_lets fec full held s1 drop
      have came : s.SameSessions s1 := .wake ⟨rfl, rfl⟩
      have dropped : s.SameSessions drop := ⟨came.sessions, came.ft⟩
      split
      · exact dropped
      · split
        · exact came
        · split
          · exact came
          · split
            · exact came.answerFrame
            · exact dropped
    · exact ⟨rfl, rfl⟩

theorem State.SameSessions.of_frameIn {s1 : State} {port : Nat} {ptp ok : Bool} (frame : s.frameIn port ptp e = (ok, s1)) : s.SameSessions s1 := by
  have same := s.frameIn_same port ptp e
  rwa [frame] at same

/-- A frame has come in on a port: counted, with what RS-FEC found in it, and PD-NET wakes. -/
def State.framed (s : State) (p : Fin 4) (e : Eth) : State :=
  (s.updHport p fun x => { x with rx := x.rx + 1, fecOk := x.fecOk + (if s.fecOn p = true then e.fixed else 0),
                                  fecBad := x.fecBad + (if s.fecOn p = true then e.lost else 0) }).wake 0

/-- A frame on a port whose link is up, while PD-NET needs no receive buffer. -/
theorem State.frameIn_framed {ptp : Bool} (up : s.pathUp p.val = true) (on : s.netBuffers = false) :
    s.frameIn p.val ptp e =
      if ethIgnored e then (false, s.framed p e)
      else if (s.framed p e).ethOk p.val ptp e then (ptp || !(s.framed p e).unreachable, s.framed p e)
      else if (s.framed p e).ethForUs p.val ptp e ∧ (e.body = .echo ∨ e.body = .resolve) then (false, (s.framed p e).answerFrame p e)
      else (false, (s.framed p e).updHport p fun x => { x with discard := x.discard + 1 }) := by
  have taken : s.frameIn p.val ptp e = s.portFrame p ptp e := by
    unfold State.frameIn
    rw [up, dif_pos p.isLt]
    rfl
  rw [taken]
  unfold State.portFrame State.framed
  rw [on]
  rfl

/-- A frame for another, or for a port on which nothing listens, is no message and has no answer. -/
theorem State.not_ours {ptp : Bool} (other : e.fcsOk = false ∨ 1 < e.tags ∨ e.vid ≠ s.oget (0x1F40 + p.val) 0x0C ∨ e.own = false) :
    s.ethForUs p.val ptp e = false := by
  unfold State.ethForUs
  obtain bad | tags | vlan | own := other
  · rw [bad]; rfl
  · rw [decide_eq_false (Nat.not_le.mpr tags), Bool.and_false]; rfl
  · rw [beq_false_of_ne vlan, Bool.and_false]; rfl
  · rw [own, Bool.and_false]; rfl

section NoMessage

variable (up : s.pathUp p.val = true) (on : s.netBuffers = false) (heard : ethIgnored e = false)
include up on heard

/-- A frame that is no message and has no answer is counted as discarded. -/
theorem State.frameIn_discarded
    (wrong : e.fcsOk = false ∨ 1 < e.tags ∨ e.vid ≠ (s.framed p e).oget (0x1F40 + p.val) 0x0C ∨ e.own = false ∨
      ∃ n, e.body = .udp n ∧ n ≠ (s.framed p e).oget 0x1F00 0x04) :
    s.frameIn p.val false e = (false, (s.framed p e).updHport p fun x => { x with discard := x.discard + 1 }) := by
  have noMessage : (s.framed p e).ethOk p.val false e = false ∧
      ¬ ((s.framed p e).ethForUs p.val false e ∧ (e.body = .echo ∨ e.body = .resolve)) := by
    obtain other | ⟨n, udp, unknown⟩ :
        (e.fcsOk = false ∨ 1 < e.tags ∨ e.vid ≠ (s.framed p e).oget (0x1F40 + p.val) 0x0C ∨ e.own = false) ∨
          ∃ n, e.body = .udp n ∧ n ≠ (s.framed p e).oget 0x1F00 0x04 := by tauto
    · rw [State.ethOk, State.not_ours other, Bool.and_false]
      exact ⟨rfl, fun ours => Bool.false_ne_true ours.1⟩
    · rw [State.ethOk, udp]
      exact ⟨by simp [unknown], fun answer => by simp at answer⟩
  exact (State.frameIn_framed up on).trans
    ((if_neg (Bool.eq_false_iff.mp heard)).trans ((if_neg (Bool.eq_false_iff.mp noMessage.1)).trans (if_neg noMessage.2)))

/-- An echo request is answered, while fewer than 100 have been within the second. -/
theorem State.frameIn_echo (ours : (s.framed p e).ethForUs p.val false e = true) (echo : e.body = .echo)
    (few : ((s.framed p e).hports[p].echoes.filter fun t => (s.framed p e).ft < t + secFt 1).length < 100) :
    s.frameIn p.val false e = (false, ((s.framed p e).updHport p fun x =>
      { x with echoes := ((s.framed p e).hports[p].echoes.filter fun t => (s.framed p e).ft < t + secFt 1) ++ [(s.framed p e).ft],
               tx := x.tx + 1 }).emit (.reply p.val 1 e.ip)) := by
  have noMessage : (s.framed p e).ethOk p.val false e = false := by rw [State.ethOk, echo, Bool.and_false]
  have answers : s.frameIn p.val false e = (false, (s.framed p e).answerFrame p e) := (State.frameIn_framed up on).trans
    ((if_neg (Bool.eq_false_iff.mp heard)).trans ((if_neg (Bool.eq_false_iff.mp noMessage)).trans (if_pos ⟨ours, .inl echo⟩)))
  exact answers.trans (congrArg _ (if_pos ⟨echo, few⟩))

end NoMessage

end Frames

/-! ### A datagram of a session (R326, R332) -/

section Datagrams

variable {s s1 s' : State} {d : Dgram} {i : Fin 32}

/-- The session has taken a datagram: its SEQ is recorded, the lease renewed, the path taken over. -/
def State.takes (s : State) (i : Fin 32) (d : Dgram) : State :=
  s.updSess i fun y =>
    { y with seqHi := max s.sessions[i].seqHi d.seq, seqSeen := (d.seq :: y.seqSeen).filter fun q => max s.sessions[i].seqHi d.seq < q + 1024,
             leaseEnd := s.ft + msFt y.leaseMs, port := d.port, addr := d.addr }

theorem State.sess?_slot {sid : Nat} (named : s.sess? sid = some i) : Fin.ofNat 32 sid = i := by
  simp only [State.sess?, Option.ite_none_right_eq_some, Option.some.injEq] at named
  exact named.2

/-- A datagram of an open session: the checks in their order. -/
theorem State.datagram_eq (frame : s.frameIn d.port false d.eth = (true, s1)) (named : s1.sess? d.sid = some i) :
    let x := s1.sessions[i]
    s.datagram d =
      if x.leaseEnd = 0 ∨ (s1.running 1 ∧ x.leaseEnd ≤ s1.ft) ∨ (x.port ≥ 4 ∨ d.port ≥ 4) ∧ ¬ (x.port = d.port ∧ x.addr = d.addr) then
        (none, { s1 with staleSess := s1.staleSess + 1 })
      else if !d.tagVerifies x.keyIn then (none, { s1 with authFails := s1.authFails + 1 })
      else if d.seq + 1024 ≤ x.seqHi ∨ d.seq ∈ x.seqSeen ∨ d.seq = 0 then (none, { s1 with replays := s1.replays + 1 })
      else if !s1.envelopeOk d then (none, { s1 with malformed := s1.malformed + 1 })
      else (some i, (s1.takes i d).flushTx i) := by
  unfold State.datagram
  rw [frame]
  dsimp only
  rw [named]
  rfl

/-- A datagram that is taken has passed every check. -/
theorem State.datagram_taken (taken : s.datagram d = (some i, s')) :
    ∃ s1, s.frameIn d.port false d.eth = (true, s1) ∧ s1.sess? d.sid = some i ∧ d.tagVerifies s1.sessions[i].keyIn = true ∧
      ¬ (d.seq + 1024 ≤ s1.sessions[i].seqHi ∨ d.seq ∈ s1.sessions[i].seqSeen ∨ d.seq = 0) ∧ s1.envelopeOk d = true ∧
      s' = (s1.takes i d).flushTx i := by
  rcases frame : s.frameIn d.port false d.eth with ⟨_ | _, s1⟩
  · unfold State.datagram at taken
    rw [frame] at taken
    cases taken
  · cases named : s1.sess? d.sid with
    | none =>
      unfold State.datagram at taken
      rw [frame] at taken
      dsimp only at taken
      rw [named] at taken
      cases taken
    | some j =>
      rw [State.datagram_eq frame named] at taken
      split at taken
      · cases taken
      split at taken
      · cases taken
      next auth =>
      split at taken
      · cases taken
      next fresh =>
      split at taken
      · cases taken
      next formed =>
      cases taken
      exact ⟨s1, rfl, named, by simpa using auth, fresh, by simpa using formed, rfl⟩

/-- A datagram whose SEQ its session has seen is not taken. -/
theorem State.datagram_seen (slot : Fin.ofNat 32 d.sid = i) (seen : d.seq ∈ s.sessions[i].seqSeen) : (s.datagram d).1 = none := by
  rcases again : s.datagram d with ⟨_ | j, s'⟩
  · rfl
  · obtain ⟨s1, frame, named, _, fresh, _⟩ := State.datagram_taken again
    have same : s1.sessions = s.sessions := (State.SameSessions.of_frameIn frame).sessions
    obtain rfl : i = j := slot.symm.trans (State.sess?_slot named)
    rw [← same] at seen
    exact absurd (.inr (.inl seen)) fresh

/-- What a datagram that is taken leaves of its session, and that it is taken once. -/
theorem State.datagram_once (taken : s.datagram d = (some i, s')) :
    s'.sessions[i].seqHi = max s.sessions[i].seqHi d.seq ∧ (d.seq ∈ s'.sessions[i].seqSeen) ∧
    s'.sessions[i].leaseEnd = s.ft + msFt s.sessions[i].leaseMs ∧ s'.sessions[i].port = d.port ∧
    d.tagVerifies s.sessions[i].keyIn = true ∧ d.ver = 1 ∧ d.rsv = 0 ∧ (s'.datagram d).1 = none := by
  obtain ⟨s1, frame, named, auth, fresh, formed, rfl⟩ := State.datagram_taken taken
  obtain ⟨sessions, ft⟩ : s.SameSessions s1 := .of_frameIn frame
  have kept : ((s1.takes i d).flushTx i).sessions[i].standing = (s1.takes i d).sessions[i].standing := (State.SendsOnly.flushTx .refl).standing i
  rw [State.takes, State.updSess_sessions, vupd_get_same, ← State.takes, sessions, ft] at kept
  simp only [State.envelopeOk, Bool.and_eq_true, beq_iff_eq] at formed
  obtain ⟨⟨⟨ver, rsv⟩, _⟩, _⟩ := formed
  rw [sessions] at auth fresh
  have seen : d.seq ∈ ((s1.takes i d).flushTx i).sessions[i].seqSeen := by
    have noted := congrArg Session.seqSeen kept
    refine noted ▸ List.mem_filter.mpr ⟨List.mem_cons_self, ?_⟩
    exact decide_eq_true (by omega)
  refine ⟨congrArg Session.seqHi kept, seen, congrArg Session.leaseEnd kept, congrArg Session.port kept, auth, ver, rsv, ?_⟩
  exact State.datagram_seen (State.sess?_slot named) seen

end Datagrams

/-- Settles O42: a datagram by its checks in their order, a frame by those of its port. -/
theorem datagramsAreTakenOnce : Obligations.DatagramsAreTakenOnce := by
  refine ⟨?checks, ?lease, ?taken, ?frames⟩
  case checks =>
    intro s s1 d i x frame named runs port addr
    have live : ¬ (x.leaseEnd = 0 ∨ (s1.running 1 ∧ x.leaseEnd ≤ s1.ft) ∨ (x.port ≥ 4 ∨ d.port ≥ 4) ∧ ¬ (x.port = d.port ∧ x.addr = d.addr)) := by
      rintro (zero | ⟨_, past⟩ | ⟨_, elsewhere⟩)
      · omega
      · omega
      · exact elsewhere ⟨port, addr⟩
    have reads := (State.datagram_eq frame named).trans (if_neg live)
    refine ⟨fun forged => ?_, fun auth old => ?_, fun auth new unseen nonzero => ?_⟩
    · exact reads.trans (if_pos (by rw [forged]; rfl))
    · exact reads.trans ((if_neg (by rw [auth]; decide)).trans (if_pos old))
    · have fresh : ¬ (d.seq + 1024 ≤ x.seqHi ∨ d.seq ∈ x.seqSeen ∨ d.seq = 0) := by
        rintro (old | seen | zero)
        · omega
        · exact unseen seen
        · exact nonzero zero
      have judged := (reads.trans (if_neg (by rw [auth]; decide))).trans (if_neg fresh)
      exact ⟨fun bad => judged.trans (if_pos (by rw [bad]; rfl)), fun formed => judged.trans (if_neg (by rw [formed]; decide))⟩
  case lease =>
    exact fun s s1 d i frame named runs past => (State.datagram_eq frame named).trans (if_pos (.inr (.inl ⟨runs, past⟩)))
  case taken => exact fun s s' d i => State.datagram_once
  case frames =>
    intro s p e s1 recent up on
    exact ⟨fun ignored => (State.frameIn_framed up on).trans (if_pos ignored),
      fun heard ok => (State.frameIn_framed up on).trans ((if_neg (Bool.eq_false_iff.mp heard)).trans (if_pos ok)),
      State.frameIn_discarded up on, State.frameIn_echo up on⟩

end Sys2Proof.Machine
end
section
/-! PROOFS. Submissions (O13). -/

namespace Sys2Proof.Machine

/-! ### The ledger takes an item (R43, R44, R50) -/

/-- Items, free slots and sessions stand. -/
structure State.SameLedger (a b : State) : Prop where
  items : b.items = a.items
  freeSlots : b.freeSlots = a.freeSlots
  sessions : b.sessions = a.sessions

theorem State.refTemplate_sameLedger (s : State) (h : Nat) : s.SameLedger (s.refTemplate h) := by
  unfold State.refTemplate
  split
  · exact iteInduction (fun _ => ⟨rfl, rfl, rfl⟩) fun _ => ⟨rfl, rfl, rfl⟩
  · exact ⟨rfl, rfl, rfl⟩

theorem State.refTile_sameLedger (s : State) (h : Nat) : s.SameLedger (s.refTile h) := by
  unfold State.refTile
  split
  · exact iteInduction (fun _ => ⟨rfl, rfl, rfl⟩) fun _ => ⟨rfl, rfl, rfl⟩
  · exact ⟨rfl, rfl, rfl⟩

theorem State.SameLedger.trans {a b c : State} (ab : a.SameLedger b) (bc : b.SameLedger c) : a.SameLedger c :=
  ⟨bc.items.trans ab.items, bc.freeSlots.trans ab.freeSlots, bc.sessions.trans ab.sessions⟩

theorem State.takeRefs_sameLedger (s : State) (it : Item) : s.SameLedger (s.takeRefs it) := by
  unfold State.takeRefs
  refine List.foldlRecOn (motive := fun y : State => s.SameLedger y) it.tiles _ ?template fun y kept e _ => kept.trans (y.refTile_sameLedger e.tile)
  exact iteInduction (fun _ => ⟨rfl, rfl, rfl⟩) fun _ => s.refTemplate_sameLedger it.template

section NewHead

variable {s : State} {z : Fin 8}

theorem State.setHead_handles : (s.setHead z).items.map Item.handle = s.items.map Item.handle := by
  unfold State.setHead
  split
  · split
    · refine List.map_map.trans (List.map_congr_left fun x _ => ?_)
      exact iteInduction (motive := fun y : Item => y.handle = x.handle) (fun _ => rfl) fun _ => rfl
    · rfl
  · rfl

theorem State.setHead_freeSlots : (s.setHead z).freeSlots = s.freeSlots := by
  unfold State.setHead
  split
  · split <;> rfl
  · rfl

theorem State.setHead_sessions : (s.setHead z).sessions = s.sessions := by
  unfold State.setHead
  split
  · split <;> rfl
  · rfl

end NewHead

/-- An item that its zone does not hold yet, in the slot at the front. -/
def State.slotted (s : State) (it : Item) (slot : Fin 256) : Item :=
  { it with slot := slot.val, gen := s.gens[slot], refs := true, refTpl := it.template ≠ 0xFFFF && s.refTplOk it.template,
            refTiles := (it.tiles.map (·.tile)).filter s.refTileOk }

def State.withSlot (s : State) (it : Item) (slot : Fin 256) : State :=
  let x := s.slotted it slot
  ({ s with freeSlots := s.freeSlots.drop 1, slotZone := sset 8 s.slotZone slot.val it.zone.val, items := s.items ++ [x] }.takeRefs x).setHead it.zone

theorem State.takeSlot_new {s : State} {it : Item} {slot : Fin 256} (fresh : ∀ x ∈ s.zoneItems it.zone, x.hostId ≠ it.hostId) :
    s.takeSlot it slot.val = (s.withSlot it slot, slot.val + 256 * s.gens[slot], 0) := by
  have single : ((s.zoneItems it.zone).any fun x => x.hostId == it.hostId) = false :=
    List.any_eq_false.mpr fun x mem => by simpa using fresh x mem
  unfold State.takeSlot
  rw [single, dif_pos slot.isLt]
  rfl

/-- The ledger of a state that has taken an item: the slot is no longer free, the item stands after the others. -/
theorem State.withSlot_ledger (s : State) (it : Item) (slot : Fin 256) :
    (s.withSlot it slot).freeSlots = s.freeSlots.drop 1 ∧ (s.withSlot it slot).sessions = s.sessions ∧
    (s.withSlot it slot).items.map Item.handle = s.items.map Item.handle ++ [(s.slotted it slot).handle] ∧
    ∃ m, { s.slotted it slot with markFrom := m } ∈ (s.withSlot it slot).items := by
  unfold State.withSlot
  extract_lets x
  have held := State.takeRefs_sameLedger { s with freeSlots := s.freeSlots.drop 1, slotZone := sset 8 s.slotZone slot.val it.zone.val, items := s.items ++ [x] } x
  refine ⟨State.setHead_freeSlots.trans held.freeSlots, State.setHead_sessions.trans held.sessions, ?handles, State.mem_setHead ?mem⟩
  case handles => rw [State.setHead_handles, held.items, List.map_append, List.map_singleton]
  case mem => exact held.items ▸ List.mem_append_right _ List.mem_cons_self

/-! ### A submission (R335, R341, R506) -/

/-- The fields of an item that its descriptor fixes. -/
theorem parseItem_fields {d : Descriptor} {it : Item} (parsed : parseItem d = some it) :
    it.zone = Fin.ofNat 8 (fld d.hdr 8 3) ∧ it.hostId = fld d.hdr 32 32 ∧ it.state = .queued := by
  unfold parseItem at parsed
  extract_lets at parsed
  split at parsed
  · cases parsed
  · split at parsed
    · cases parsed
    · cases parsed
      exact ⟨rfl, rfl, rfl⟩

/-- The item that a session submits. -/
def State.submitted (s : State) (i : Fin 32) (it : Item) : Item :=
  { it with sid := s.sid i, host := if bitOf s.sessions[i].roles 2 then s.sessions[i].hostId else 0 }

theorem State.submit_queued {s : State} {i : Fin 32} {d : Descriptor} {it : Item} {slot : Fin 256} {rest : List Nat}
    (parsed : parseItem d = some it) (slots : s.freeSlots = slot.val :: rest) (room : (s.zoneItems it.zone).length < s.zc it.zone 0x13)
    (fresh : ∀ x ∈ s.zoneItems it.zone, x.hostId ≠ it.hostId) :
    s.submit i d = (s.withSlot (s.submitted i it) slot, slot.val + 256 * s.gens[slot], 0) := by
  have fits : ¬ s.zc (Fin.ofNat 8 (fld d.hdr 8 3)) 0x13 ≤ (s.zoneItems (Fin.ofNat 8 (fld d.hdr 8 3))).length := by
    rw [← (parseItem_fields parsed).1]
    exact Nat.not_le.mpr room
  unfold State.submit
  rw [parsed]
  dsimp only
  rw [slots]
  exact (if_neg fits).trans (State.takeSlot_new (it := s.submitted i it) fresh)

/-- A message is delivered: it waits no longer. -/
def State.delivered (s : State) (i : Fin 32) (n : Nat) : State := s.updSess i fun x => { x with subs := x.subs.filter fun m => m.1 ≠ n }

theorem State.delivered_sid (s : State) (i : Fin 32) (n : Nat) : (s.delivered i n).sid i = s.sid i := by
  unfold State.sid
  rw [State.delivered, State.updSess_sessions, vupd_get_same]

theorem State.delivered_subs (s : State) (i : Fin 32) (n : Nat) :
    (s.delivered i n).sessions[i].subs = s.sessions[i].subs.filter fun m => m.1 ≠ n := by
  rw [State.delivered, State.updSess_sessions, vupd_get_same]

/-- The only message that waits, once its turn has come. -/
theorem exec_submission_one {t n : Nat} {i : Fin 32} {s : State} {d : Descriptor} (waits : s.sessions[i].subs = [(n, [d])])
    (turn : n < s.sessions[i].rxCum) :
    let s1 := (s.begin t).delivered i n
    exec (.submission t i) s = .next ((s1.submit i d).1.sendSeq i 0x19 12 (submitReply [(fld d.hdr 32 32, (s1.submit i d).2.1, (s1.submit i d).2.2)]) [] 0) := by
  intro s1
  change execSubmission t i s = _
  have next : ((s.begin t).sessions[i].subs.find? fun m => m.1 < (s.begin t).sessions[i].rxCum && (s.begin t).sessions[i].subs.all fun y => m.1 ≤ y.1) =
      some (n, [d]) := by
    rw [State.begin_sessions, waits]
    exact List.find?_cons_of_pos (by simpa using turn)
  unfold execSubmission
  dsimp only
  rw [next]
  rfl

/-- Settles O13: a message waits with its session; in its turn it takes the slot at the front. -/
theorem submissionsAreTakenAndQueued : Obligations.SubmissionsAreTakenAndQueued := by
  refine ⟨?message, ?turn⟩
  case message =>
    intro t m ds s s1 i n some_ few taken
    have count : (!ds.isEmpty && decide (ds.length ≤ 64)) = true := by simp [some_, few]
    change execItemSubmit t m ds s = _
    unfold execItemSubmit
    rw [count, Dgram.only_true]
    dsimp only
    rw [taken]
  case turn =>
    intro t i s n d it slot rest waits turn parsed slots room fresh
    obtain ⟨_, hostId, queued⟩ := parseItem_fields parsed
    set s1 := (s.begin t).delivered i n
    have submits : s1.submit i d = (s1.withSlot (s1.submitted i it) slot, slot.val + 256 * s1.gens[slot], 0) := State.submit_queued parsed slots room fresh
    obtain ⟨free, sessions, handles, m, mem⟩ := s1.withSlot_ledger (s1.submitted i it) slot
    refine ⟨s1.withSlot (s1.submitted i it) slot, { s1.slotted (s1.submitted i it) slot with markFrom := m }, ?exec, ?free, handles, mem, queued, rfl, rfl, rfl,
      rfl, ?sid, ?subs⟩
    case exec => rw [exec_submission_one waits turn, submits, hostId]; rfl
    case free => rw [free]; exact congrArg (List.drop 1) slots
    case sid => exact State.delivered_sid (s.begin t) i n
    case subs =>
      rw [sessions, State.delivered_subs (s.begin t) i n, State.begin_sessions, waits]
      simp

end Sys2Proof.Machine
end

section
/-! PROOFS. The messages of a session and the owners of zones (O44). -/

namespace Sys2Proof.Machine

/-! ### Acknowledgement (R336–R338) -/

section Acknowledgement

variable {s s1 : State} {t : Nat} {i : Fin 32}

theorem exec_ack_taken {d : Dgram} {m : AckMsg} (taken : (s.begin t).datagram ((d.of 0x10).only m.ok) = (some i, s1))
    (known : (s1.sessions[i].txCum : Int) ≤ nearNo s1.sessions[i].txCum m.cum) (sent : nearNo s1.sessions[i].txCum m.cum ≤ s1.sessions[i].txNext) :
    let x := s1.sessions[i]
    let cum := nearNo x.txCum m.cum
    exec (.ack t d m) s = .next (s1.acknowledge i cum.toNat m.credit
      ((m.sack.map fun n => (nearNo x.txCum n).toNat).filter fun n => decide (cum.toNat < n) && decide (n < x.txNext))) := by
  change execAck t d m s = _
  unfold execAck
  rw [taken]
  exact if_pos ⟨known, sent⟩

theorem exec_retransmit_due {n b : Nat} {m : TxMsg} (held : ((s.begin t).sessions[i].unacked.find? fun m => m.n == n) = some m)
    (sent : m.sentAt = some b) (due : (b : Rat) + (s.begin t).sessions[i].rtoOf m ≤ (s.begin t).ft)
    (up : (s.begin t).pathUp (s.begin t).sessions[i].port = true) : exec (.retransmit t i n) s = .next ((s.begin t).resend i m false) := by
  change execRetransmit t i n s = _
  unfold execRetransmit
  dsimp only
  rw [held]
  dsimp only
  rw [sent]
  exact if_pos ⟨due, up⟩

end Acknowledgement

/-! ### Ownership (R343–R346) -/

section Ownership

variable {s : State} {t : Nat} {k : Kop} {z : Fin 8} {w : Fin 32}

theorem exec_ownershipClaim (permitted : Safety.Admits s t k (zIdx z) 0x7A 1 w) :
    let s1 := Safety.taken s t k
    let a := Safety.actor s t k (zIdx z) 0x7A w
    let x := s1.sessions[a.sess]
    bitOf x.roles 2 = true → exec (.ownershipClaim t k z) s = .next (
      match s1.zones[z].owner with
      | none => Safety.done (s1.setOwner z (some x.hostId) a.sess.val 3) w k (zIdx z) 0x7A
      | some h => if h = x.hostId then Safety.done s1 w k (zIdx z) 0x7A else Safety.refused s1 w k abNotOwner) := by
  intro s1 a x job
  refine congrArg Host.Outcome.next ?_
  have host : ¬ (!bitOf x.roles 2) = true := by
    rw [job]
    decide
  cases owned : s1.zones[z].owner with
  | none => exact State.command_done permitted ((if_neg host).trans (by rw [owned]))
  | some h =>
    dsimp only
    split
    case isTrue same => exact State.command_done permitted ((if_neg host).trans (by rw [owned]; exact if_pos same))
    case isFalse other => exact State.command_refused permitted ((if_neg host).trans (by rw [owned]; exact if_neg other))

theorem exec_ownershipRelease (permitted : Safety.Admits s t k (zIdx z) 0x7A 2 w) :
    let s1 := Safety.taken s t k
    let a := Safety.actor s t k (zIdx z) 0x7A w
    bitOf s1.sessions[a.sess].roles 3 = true →
    exec (.ownershipRelease t k z) s = .next (Safety.done (s1.setOwner z none a.sess.val a.role) w k (zIdx z) 0x7A) :=
  fun service => congrArg Host.Outcome.next (State.command_done permitted (if_pos (.inl service)))

theorem exec_ownershipTake (permitted : Safety.Admits s t k (zIdx z) 0x7A 3 w) :
    let s1 := Safety.taken s t k
    let a := Safety.actor s t k (zIdx z) 0x7A w
    let x := s1.sessions[a.sess]
    exec (.ownershipTake t k z) s = .next (if bitOf x.roles 3 = true then Safety.done (s1.setOwner z (some x.hostId) a.sess.val 4) w k (zIdx z) 0x7A
      else Safety.refused s1 w k abRole) := by
  intro s1 a x
  refine congrArg Host.Outcome.next ?_
  split
  case isTrue service => exact State.command_done permitted (if_pos service)
  case isFalse lacks => exact State.command_refused permitted (if_neg lacks)

theorem exec_ownershipLapse_due {u : Nat} (held : (s.begin t).zones[z].lapseAt = some u) (past : u ≤ (s.begin t).ft) :
    exec (.ownershipLapse t z) s = .next ((s.begin t).setOwner z none 0 0) := by
  change execOwnershipLapse t z s = _
  unfold execOwnershipLapse
  dsimp only
  rw [held]
  exact if_pos past

end Ownership

/-- Settles O44: a lemma for each command. -/
theorem messagesAreAcknowledgedAndZonesOwned : Obligations.MessagesAreAcknowledgedAndZonesOwned := by
  refine ⟨?ack, ?send, ?again, ?claim, ?release, ?take, ?lapse⟩
  case ack =>
    intro t d m s s1 i x cum taken known sent
    exact exec_ack_taken taken known sent
  case send =>
    intro t i s s0 x isOpen due s1
    exact if_pos ⟨isOpen, due⟩
  case again => exact fun t i n s m b => exec_retransmit_due
  case claim => exact fun t k z s w => exec_ownershipClaim
  case release => exact fun t k z s w => exec_ownershipRelease
  case take => exact fun t k z s w => exec_ownershipTake
  case lapse => exact fun t z s u => exec_ownershipLapse_due

end Sys2Proof.Machine
end

section
/-! PROOFS. Handshakes, the life of a session, host links and precision time (O43). -/

namespace Sys2Proof.Machine

/-! ### Handshakes (R328–R331, R432, R435, R436) -/

section Handshakes

variable {s s0 : State} {t : Nat} {src : Sender}

theorem State.handshakes_of (runs : s.running 1 = true) (calm : s.tamper.active = 0) : s.handshakes = true := by
  rw [State.handshakes, runs, calm]
  rfl

theorem exec_hello_malformed {m : HelloMsg} (frame : (s.begin t).frameIn src.path.port false src.eth = (true, s0))
    (bad : src.form 1 m.bytes.length (s0.oget (0x1F40 + src.path.port) 0x04) = false) :
    exec (.hello t src m) s = .next { s0 with malformed := s0.malformed + 1 } := by
  change execHello t src m s = _
  unfold execHello
  dsimp only
  rw [frame]
  exact (if_neg Bool.false_ne_true).trans (if_pos (by rw [bad]; rfl))

/-- The controller's part of a handshake that it takes up, and its CHALLENGE (Table 12.5). -/
def State.helloChallenge (s : State) (m : HelloMsg) : Bytes :=
  challenge s.newHid (Config.random (s.free + 1)) (Config.random (s.free + 2)) s.serial m.bytes

def State.helloShake (s : State) (path : Path) (m : HelloMsg) : Handshake :=
  { hid := s.newHid, path, roles := helloRoles m &&& s.grantable, leaseMs := if m.leaseMs = 0 then s.oget 0x1F00 0x02 else m.leaseMs,
    window := if m.window = 0 then s.oget 0x1F00 0x03 else m.window, hostId := certHostId m.cert,
    prov := certIssuer m.cert == 1, at_ := s.ft, hello := m.bytes, chal := s.helloChallenge m, key := certHostKey m.cert,
    eph := Config.random (s.free + 1) }

theorem exec_hello_formed {m : HelloMsg} (frame : (s.begin t).frameIn src.path.port false src.eth = (true, s0))
    (formed : src.form 1 m.bytes.length (s0.oget (0x1F40 + src.path.port) 0x04) = true) (serves : s0.handshakes = true)
    (room : s0.shakes.length < 8) (hello : helloForm m = true) :
    exec (.hello t src m) s = .next (
      if x25519 (Config.random (s0.free + 1)) m.hostEph = 0 then s0.refuse src.path 0 1
      else if s0.certOk m.cert = false then s0.refuse src.path 0 2
      else if helloRoles m = 0 then s0.refuse src.path 0 3
      else if helloRoles m &&& s0.grantable = 0 then s0.refuse src.path 0 7
      else { s0 with shakes := s0.shakes ++ [s0.helloShake src.path m], free := s0.free + 3 }.sendPath src.path 2 156 (ofBytes (s0.helloChallenge m))) := by
  change execHello t src m s = _
  unfold execHello
  dsimp only
  rw [frame]
  dsimp only
  rw [formed, serves, hello, if_neg (Nat.not_le.mpr room)]
  simp only [apply_ite Host.Outcome.next, Bool.not_true, Bool.false_eq_true, if_false, false_or, Bool.not_eq_true']
  rfl

theorem exec_proof_inTime {hid sig : Nat} {hs : Handshake} (frame : (s.begin t).frameIn src.path.port false src.eth = (true, s0))
    (formed : src.form 3 68 (s0.oget (0x1F40 + src.path.port) 0x04) = true) (serves : s0.handshakes = true)
    (pending : (s0.shakes.find? fun h => h.hid == hid && samePath h.path src.path) = some hs) (early : s0.ft ≤ hs.at_ + msFt 500) :
    let s1 : State := { s0 with shakes := s0.shakes.filter fun h => h.hid ≠ hid }
    exec (.proof t src hid sig) s =
      .next (if edVerify hs.key sig (hs.hello ++ hs.chal) = true then s1.finishShake src.path hs else s1.refuse src.path hid 6) := by
  intro s1
  change execProof t src hid sig s = _
  unfold execProof
  dsimp only
  rw [frame]
  dsimp only
  rw [formed, serves, pending]
  dsimp only
  rw [if_neg (Nat.not_lt.mpr early)]
  cases edVerify hs.key sig (hs.hello ++ hs.chal) <;> rfl

end Handshakes

/-! ### The end of a session (R329, R332, R333) -/

section Ends

variable {s s1 : State} {t : Nat} {i : Fin 32}

theorem exec_heartbeat_taken {d : Dgram} (taken : (s.begin t).datagram (d.of 6) = (some i, s1)) :
    exec (.heartbeat t d) s = .next (s1.sendRaw i 6 12 (packBits [(64, s1.ft), (32, s1.sessions[i].leaseMs)])) := by
  change execHeartbeat t d s = _
  unfold execHeartbeat
  rw [taken]

theorem exec_close_taken {d : Dgram} (taken : (s.begin t).datagram (d.of 7) = (some i, s1)) : exec (.close t d) s = .next (s1.closeSession i 1 0 0) := by
  change execClose t d s = _
  unfold execClose
  rw [taken]

theorem exec_sessionEvict_open {k : Kop} {w : Fin 32} (permitted : Safety.Admits s t k (0x1F20 + i.val) 0x08 1 w)
    (isOpen : (Safety.taken s t k).sessions[i].isOpen = true) :
    let s1 := Safety.taken s t k
    let a := Safety.actor s t k (0x1F20 + i.val) 0x08 w
    exec (.sessionEvict t k i) s = .next (Safety.done ((s1.sendRaw i 7 4 4).closeSession i 4 a.sess.val a.role) w k (0x1F20 + i.val) 0x08) :=
  congrArg Host.Outcome.next (State.command_done permitted (if_pos isOpen))

end Ends

/-! ### Host links (R321) -/

section Links

variable {s : State} {t : Nat} {x : PcsReport}

/-- A link that has come up: its port, its PLL. -/
def State.linkUp (s : State) (p : Fin 4) : State :=
  { s with hports := vupd s.hports p fun x => { x with link := 1 }, power := { s.power with pll := s.power.pll.set (16 + p.val) true } }

theorem exec_hostLinkUp_locked (down : (s.begin t).hports[x.port].link = 0) (locked : (s.begin t).pcsLocked x = true) (quiet : msFt 10 ≤ x.quiet) :
    exec (.hostLinkUp t x) s = .next ((fins 32).foldl (fun y i =>
      if y.sessions[i].isOpen ∧ y.sessions[i].port = x.port.val then y.flushTx i else y) ((s.begin t).linkUp x.port).selectPtp) :=
  if_pos ⟨down, locked, quiet⟩

theorem exec_hostLinkDown_lost (up : (s.begin t).hports[x.port].link = 1) (lost : (s.begin t).pcsLocked x = false ∨ x.quiet = 0)
    (failing : msFt 1 ≤ x.failing) :
    exec (.hostLinkDown t x) s = .next (State.selectPtp { s.begin t with hports := vupd (s.begin t).hports x.port fun x => { x with link := 0 } }) :=
  if_pos ⟨up, lost.imp_left fun unlocked => by rw [unlocked]; rfl, failing⟩

end Links

/-! ### Precision time (R323) -/

/-- Messages of a master count: it is the one in use, and its time runs. -/
def Ptp.follows (x : Ptp) (master : Nat) : Bool :=
  (x.state == 2 || x.state == 3) && match x.grand with | some g => g.2.1 == master | none => false

theorem Ptp.follows_of {x : Ptp} {q b a : Nat} (master : x.grand = some (q, b, a)) (runs : x.state = 2 ∨ x.state = 3) : x.follows b = true := by
  unfold Ptp.follows
  rw [master]
  simpa using runs

theorem Ptp.not_follows_of {x : Ptp} {q b a c : Nat} (master : x.grand = some (q, b, a)) (other : b ≠ c) : x.follows c = false := by
  unfold Ptp.follows
  rw [master]
  simp [other]

theorem State.ptpAnnounce_first {s : State} {m : PtpMsg} (first : s.ptp.grand = none) :
    let x := s.ptp
    s.ptpAnnounce m =
      { s with ptp := { x with grand := some (m.quality, m.master, s.ft), utcOffset := m.utcOffset, utcValid := m.utcValid,
                               state := if x.state = 1 then 2 else x.state } } := by
  unfold State.ptpAnnounce
  dsimp only
  rw [first]

/-- Settles O43: a lemma for each command; a message of precision time by its kind. -/
theorem sessionsOpenAndEnd : Obligations.SessionsOpenAndEnd := by
  refine ⟨?hello, ?proof, fun _ _ _ => rfl, fun t d s s1 i => ⟨exec_heartbeat_taken, exec_close_taken⟩, ?lease, ?evict, ?links, ?ptp⟩
  case hello =>
    intro t src m s s0 path eph chal hs s1 frame
    exact ⟨exec_hello_malformed frame, fun formed runs calm => exec_hello_formed frame formed (State.handshakes_of runs calm)⟩
  case proof =>
    intro t src hid sig s s0 hs path s1 frame formed runs calm
    exact exec_proof_inTime frame formed (State.handshakes_of runs calm)
  case lease => exact fun t i s isOpen runs past => if_pos ⟨isOpen, runs, past⟩
  case evict => exact fun t k i s w => exec_sessionEvict_open
  case links =>
    intro t x s s0 p s1
    refine ⟨fun down block fec align => exec_hostLinkUp_locked down ?_, fun down block plain => exec_hostLinkUp_locked down ?_,
      fun up lost => exec_hostLinkDown_lost up ?_⟩
    · rw [State.pcsLocked, block, align, Bool.or_true]; rfl
    · rw [State.pcsLocked, block, plain]; rfl
    · obtain block | ⟨fec, align⟩ | fault := lost
      · exact .inl (by rw [State.pcsLocked, block]; rfl)
      · exact .inl (by rw [State.pcsLocked, fec, align]; exact Bool.and_false _)
      · exact .inr fault
  case ptp =>
    intro t p m s s0 s1 x frame port domain
    have reads : exec (.ptpMessage t p m) s = execPtpMessage t p m s := rfl
    have here : ¬ ((!true) = true ∨ s1.ptp.port ≠ some p.val ∨ m.domain ≠ if (s1.oget 0x1F48 0x01 == 2) = true then 0 else s1.oget 0x1F48 0x02) := by
      simp only [beq_iff_eq]
      rintro (no | elsewhere | other)
      · cases no
      · exact elsewhere port
      · exact other domain
    unfold execPtpMessage at reads
    rw [frame] at reads
    dsimp only at reads
    rw [if_neg here] at reads
    refine ⟨fun kind first => ?_, fun q a master locked => ?_, fun q b a other another kind => ?_, fun kind peer => ?_, rfl⟩
    · rw [kind] at reads
      exact reads.trans (congrArg Host.Outcome.next (State.ptpAnnounce_first first))
    · have ours : x.follows m.master = true := Ptp.follows_of master locked
      refine ⟨fun kind => ?_, fun kind => ?_⟩ <;> rw [kind] at reads <;> exact reads.trans (if_pos ours)
    · rw [kind] at reads
      exact reads.trans (if_neg (Bool.eq_false_iff.mp (Ptp.not_follows_of other another)))
    · rw [kind] at reads
      exact reads.trans (if_pos (beq_iff_eq.mpr peer))

end Sys2Proof.Machine
end

section
/-! PROOFS. Registers and transactions (O45). -/

namespace Sys2Proof.Machine

/-! ### Versions (R355) -/

section Versions

variable {s : State} {i sub : Nat}

theorem State.bump_over (keys : smapWf 1 s.ver) (first : sget 0 s.verAt (objKey i sub) ≠ s.ft + 1) :
    (s.bump i sub).over i sub = (s.over i sub + 1) % 2 ^ 32 ∧ sget 0 (s.bump i sub).verAt (objKey i sub) = s.ft + 1 := by
  have moves : s.bump i sub =
      { s with ver := sset 1 s.ver (objKey i sub) ((s.over i sub + 1) % 2 ^ 32), verAt := sset 0 s.verAt (objKey i sub) (s.ft + 1) } := if_neg first
  rw [moves]
  refine ⟨sget_sset_same keys, ?_⟩
  unfold sset
  rw [if_neg (Nat.succ_ne_zero s.ft)]
  exact sget_sins_same

theorem State.bump_twice (moved : sget 0 s.verAt (objKey i sub) = s.ft + 1) : s.bump i sub = s := if_pos moved

theorem State.bump_ft : (s.bump i sub).ft = s.ft := by
  unfold State.bump
  exact iteInduction (motive := fun y : State => y.ft = s.ft) (fun _ => rfl) fun _ => rfl

end Versions

/-! ### Direct requests (R351, R372, R472) -/

section Requests

variable {s s1 : State} {t index sub v : Nat} {k : Kop} {w : Fin 32}

theorem exec_registerWrite_plain (permitted : Safety.Admits s t k index sub v w) (plain : ∀ r, objRow index sub = some r → r.acc ≠ 4)
    (own : otherCommand index sub v = false) (select : isSelect index sub = false) (axis : ∀ n, objFam index ≠ some (0x5000, n))
    (text : textRange index sub v = true) :
    let s0 := Safety.taken s t k
    let x := s0.writtenValue k index sub v
    let s1 := s0.oapply index sub x
    textRange index sub x = true → exec (.registerWrite t k index sub v) s = .next (s1.respond w (s1.plainResp k 0)) := by
  intro s0 x s1 written
  obtain ⟨_, names, _, formed, _⟩ := id permitted
  have writes : k.op ≠ 1 := by
    simp only [Kop.names, Bool.and_eq_true, beq_iff_eq] at names
    omega
  change execRegisterWrite t k index sub v s = _
  unfold execRegisterWrite
  rw [if_neg writes, formed, own]
  refine congrArg Host.Outcome.next (State.write_accepted permitted plain text ?_)
  dsimp only
  rw [select, if_neg Bool.false_ne_true]
  split
  case h_1 n family => exact absurd family (axis n)
  case h_2 => exact if_pos written

section Reads

variable (grant : Safety.grant (s.begin t) k = (some w, s1)) (reads : k.op = 1)
include grant reads

theorem exec_registerWrite_read :
    exec (.registerWrite t k index sub v) s = .next (
      if s1.readCode k k.index k.sub w ≠ 0 then s1.respond w (s1.plainResp k (s1.readCode k k.index k.sub w))
      else if !s1.domainsOn (readDomains k.index k.sub) then s1.await (.registerWrite t k index sub v) k w (readDomains k.index k.sub)
      else
        let r := readBlob (s1.plainResp k 0) (readSize k.index k.sub) k.off k.len (s1.readObj w k.index k.sub)
        if r.code = 0 then (s1.respond w r).afterRead w k.index k.sub else s1.respond w r) := by
  refine (if_pos reads).trans (congrArg Host.Outcome.next ?_)
  unfold State.kopRead
  rw [State.arrive_of_grant grant]

end Reads

/-- A request that is malformed in itself: whatever else it meets, it is refused as such. -/
theorem exec_registerWrite_malformed {r : ObjRow} (grant : Safety.grant (s.begin t) k = (some w, s1)) (names : k.names 2 index 0x01 = true)
    (allowed : s1.writeCode k index 0x01 w = 0) (row : objRow index 0x01 = some r) (malformed : requestMalformed index v = true) :
    exec (.registerWrite t k index 0x01 v) s = .next (s1.respond w (s1.plainResp k abMalformed)) := by
  have writes : k.op ≠ 1 := by
    simp only [Kop.names, Bool.and_eq_true, beq_iff_eq] at names
    omega
  refine (if_neg writes).trans ((if_pos ⟨malformed, rfl⟩).trans (congrArg Host.Outcome.next ?_))
  unfold State.command
  rw [State.arrive_of_grant grant]
  dsimp only
  rw [names, allowed, row]
  dsimp only
  rw [malformed]
  rfl

end Requests

/-! ### Requests on a transaction (R371–R373, R375, R378) -/

section Transactions

variable {s s1 s3 : State} {t index sub v txid limit : Nat} {k : Kop} {w : Fin 32} {y : Fin 8}

/-- A request on an OPEN transaction renews its lease. -/
def State.renewed (s : State) (y : Fin 8) : State := s.updTx y fun x => { x with leaseEnd := s.ft + msFt (s.oget 0x1F80 0x03) }

theorem exec_txBegin_free (grant : Safety.grant (s.begin t) k = (some w, s1)) (names : k.names 3 0 0 = true) (free : s1.freeTx = some y) :
    let x := s1.sessions[w]
    let s2 := s1.updTx y fun z => { Tx.init with gen := nextTxGen z.gen, sessIdx := w.val, sid := s1.sid w, host := x.hostId, roles := x.roles,
                                                 state := 1, leaseEnd := s1.ft + msFt (s1.oget 0x1F80 0x03), freedAt := z.freedAt }
    exec (.txBegin t k) s = .next (s2.respond w (s2.txResp k y 0)) := by
  change execTxBegin t k s = _
  unfold execTxBegin
  rw [State.arrive_of_grant grant]
  dsimp only
  rw [names, free]
  rfl

section Named

variable {c : Instr} {op : Nat} {act : State → Fin 32 → Fin 8 → State} (grant : Safety.grant (s.begin t) k = (some w, s1))
include grant

theorem State.txRequest_named (names : k.names op index sub = true) (named : s1.tx? w txid = some y) :
    (s.begin t).txRequest c k op index sub txid act = act (s1.renewed y) w y := by
  unfold State.txRequest
  rw [State.arrive_of_grant grant]
  dsimp only
  rw [names, named]
  rfl

theorem exec_txStatus_unknown (names : k.names 8 0 0 = true) (unknown : s1.tx? w txid = none) :
    exec (.txStatus t k txid) s = .next (State.respond { s1 with staleTx := s1.staleTx + 1 } w { s1.plainResp k abTxUnknown with info := txid }) := by
  refine congrArg Host.Outcome.next ?_
  unfold State.txRequest
  rw [State.arrive_of_grant grant]
  dsimp only
  rw [names, unknown]
  have status : ¬ (k.op = 4 ∨ k.op = 5) := by
    simp only [Kop.names, Bool.and_eq_true, beq_iff_eq] at names
    omega
  exact congrArg (State.respond _ w) (if_neg status)

variable (named : s1.tx? w txid = some y)
include named

theorem exec_txWrite_stages {r : ObjRow} (names : k.names 4 index sub = true) (isOpen : (s1.renewed y).txs[y].state = 1)
    (allowed : (s1.renewed y).stageCode k index sub w = 0) (row : objRow index sub = some r) (size : v < 2 ^ (8 * k.len)) :
    let s2 := s1.renewed y
    let x := s2.stageValue y k index sub (s2.bindOf w index sub) v
    let tx := s3.txs[y].put (objKey index sub) (s2.bindOf w index sub) x
    rowRange r x = true → stageRange index sub x = true → s2.touch y index sub = some s3 → stageBytes tx.staged ≤ 65536 →
    exec (.txWrite t k txid index sub v) s = .next ((s3.updTx y fun _ => tx).respond w (s3.txResp k y 0)) := by
  intro s2 x tx range rules touched fits
  refine congrArg Host.Outcome.next ((State.txRequest_named grant names named).trans ?_)
  refine (if_neg (not_not_intro isOpen)).trans ((if_neg (not_not_intro allowed)).trans ((if_neg ?value).trans ?_))
  case value =>
    rw [row]
    dsimp only
    rw [decide_eq_true size, range, rules]
    decide
  rw [touched]
  exact if_neg (Nat.not_lt.mpr fits)

theorem exec_txRead_answers (names : k.names 5 index sub = true) (isOpen : (s1.renewed y).txs[y].state = 1)
    (allowed : (s1.renewed y).readCode k index sub w = 0) (on : (s1.renewed y).domainsOn (readDomains index sub) = true) :
    let s2 := s1.renewed y
    let r := readBlob (s2.txResp k y 0) (readSize index sub) k.off k.len (s2.txValue w y index sub)
    r.code = 0 → s2.touch y index sub = some s3 → exec (.txRead t k txid index sub) s = .next ((s3.respond w r).afterRead w index sub) := by
  intro s2 r good touched
  refine congrArg Host.Outcome.next ((State.txRequest_named grant names named).trans ?_)
  refine (if_neg (not_not_intro isOpen)).trans ((if_neg (not_not_intro allowed)).trans ((if_neg (by rw [on]; decide)).trans
    ((if_neg (not_not_intro good)).trans ?_)))
  rw [touched]

theorem exec_txCommit_checked (names : k.names 6 0 0 = true) (isOpen : (s1.renewed y).txs[y].state = 1) (size : k.len = 4) :
    let s2 := s1.renewed y
    let s3 := s2.afterCheck y
    let s4 := if s2.txCheck y ≠ 0 then s3.endTx y (s2.txCheck y)
      else { s3 with txClock := s3.txClock + 1 }.updTx y fun x =>
        { x with state := 2, limitAt := s3.ft + msFt (if limit = 0 then s3.oget 0x1F80 0x02 else limit), commitNo := s3.txClock,
                 waitIdle := (s3.waits s3.txs[y].staged).1, waitItem := (s3.waits s3.txs[y].staged).2 }
    exec (.txCommit t k txid limit) s = .next (s4.respond w (s4.txResp k y 0)) := by
  intro s2 s3 s4
  refine congrArg Host.Outcome.next ((State.txRequest_named grant names named).trans ?_)
  exact (if_neg (not_not_intro isOpen)).trans (if_neg (not_not_intro size))

theorem exec_txAbort_live (names : k.names 7 0 0 = true) (live : (s1.renewed y).txs[y].state = 1 ∨ (s1.renewed y).txs[y].state = 2) :
    let s3 := (s1.renewed y).endTx y abAborted
    exec (.txAbort t k txid) s = .next (s3.respond w (s3.txResp k y 0)) :=
  congrArg Host.Outcome.next ((State.txRequest_named grant names named).trans (if_pos live))

theorem exec_txStatus_named (names : k.names 8 0 0 = true) :
    exec (.txStatus t k txid) s = .next ((s1.renewed y).respond w ((s1.renewed y).txResp k y 0)) :=
  congrArg Host.Outcome.next (State.txRequest_named grant names named)

end Named

end Transactions

/-! ### The end of a transaction (R373, R375, R378, R379) -/

section Ends

variable {s : State} {t : Nat} {k : Kop} {w : Fin 32} {y : Fin 8}

theorem exec_transactionSlotAbort (permitted : Safety.Admits s t k (0x1F88 + y.val) 0x07 1 w) :
    let s1 := Safety.taken s t k
    exec (.transactionSlotAbort t k y) s = .next (if s1.txs[y].state = 1 ∨ s1.txs[y].state = 2 then
      Safety.done (s1.endTx y abAborted) w k (0x1F88 + y.val) 0x07 else Safety.refused s1 w k abTxState) := by
  intro s1
  refine congrArg Host.Outcome.next ?_
  split
  case isTrue live => exact State.command_done permitted (if_pos live)
  case isFalse ended => exact State.command_refused permitted (if_neg ended)

theorem exec_commitApply_due (commits : (s.begin t).txs[y].state = 2) (boundary : (s.begin t).boundaryMet (s.begin t).txs[y] = true)
    (first : (s.begin t).earlierDue y = false) :
    let s0 := s.begin t
    let s1 := s0.afterCheck y
    exec (.commitApply t y) s = .next (if s0.txCheck y = 0 then (s1.applyTx s0.txs[y].staged).endTx y 0 else s1.endTx y (s0.txCheck y)) := by
  intro s0 s1
  refine (if_pos ⟨commits, boundary, Bool.eq_false_iff.mp first⟩).trans ?_
  by_cases passes : s0.txCheck y = 0
  · rw [if_pos passes]
    exact if_neg (not_not_intro passes)
  · rw [if_neg passes]
    exact if_pos passes

end Ends

/-- Settles O45: a lemma for each request and each end. -/
theorem registersAndTransactionsAreServed : Obligations.RegistersAndTransactionsAreServed := by
  refine ⟨⟨?write, ?version, ?read, ?malformed, ?begin_, ?stage, ?txRead, ?commit, ?abort, ?unknown, ?slot⟩, ?apply, ?timeout, ?expiry⟩
  case write => exact fun t k index sub v s w => exec_registerWrite_plain
  case version =>
    intro s i sub v keys first
    obtain ⟨once, moved⟩ := State.bump_over (s := s.oput i sub v) keys first
    have stays := State.bump_twice (s := (s.oapply i sub v).oput i sub v) (moved.trans (congrArg (· + 1) State.bump_ft.symm))
    have same := congrArg (State.over · i sub) stays
    exact ⟨once, same⟩
  case read =>
    intro t k index sub v s s1 w r grant reads
    have answer := exec_registerWrite_read (index := index) (sub := sub) (v := v) grant reads
    refine ⟨fun refused => answer.trans (congrArg _ (if_pos refused)), fun allowed on whole => ?_, fun allowed off => ?_⟩
    · exact answer.trans (congrArg _ ((if_neg (not_not_intro allowed)).trans ((if_neg (by rw [on]; decide)).trans (if_pos whole))))
    · exact answer.trans (congrArg _ ((if_neg (not_not_intro allowed)).trans (if_pos (by rw [off]; rfl))))
  case malformed => exact fun t k index v s s1 w r => exec_registerWrite_malformed
  case begin_ => exact fun t k s s1 w y => exec_txBegin_free
  case stage => exact fun t k txid index sub v s s1 s3 w y r grant names named isOpen => exec_txWrite_stages grant named names isOpen
  case txRead => exact fun t k txid index sub s s1 s3 w y grant names named => exec_txRead_answers grant named names
  case commit => exact fun t k txid limit s s1 w y grant names named => exec_txCommit_checked grant named names
  case abort => exact fun t k txid s s1 w y grant named => ⟨exec_txAbort_live grant named, exec_txStatus_named grant named⟩
  case unknown => exact fun t k txid s s1 w => exec_txStatus_unknown
  case slot => exact fun t k y s w => exec_transactionSlotAbort
  case apply => exact fun t y s => exec_commitApply_due
  case timeout => exact fun t y s commits past => if_pos ⟨commits, past⟩
  case expiry => exact fun t y s isOpen past => if_pos ⟨isOpen, past⟩

end Sys2Proof.Machine
end

section
/-! PROOFS. The field networks (O46). -/

namespace Sys2Proof.Machine

/-! ### A controller (R362, R363, R366) -/

section Controllers

variable {x : Can} {host msgno seg now : Nat} {data : Bytes} {last : Bool}

theorem Can.part?_others : ({ x with parts := x.parts.filter fun q => q.host != host } : Can).part? host = none := by
  refine List.find?_eq_none.mpr fun q mem => ?_
  have other := (List.mem_filter.mp mem).2
  rwa [bne_iff_ne, ne_eq, ← beq_iff_eq] at other

/-- A message begins with SEG 0, and goes on. -/
theorem Can.take_begins (idle : x.part? host = none) :
    x.take host msgno 0 false data now =
      { x with parts := (x.parts.filter fun q => q.host != host) ++ [{ host, msgno, next := 1, bytes := data, at_ := now }] } := by
  unfold Can.take
  rw [idle]
  dsimp only
  rw [if_pos rfl, idle]
  rfl

/-- A segment of a message whose beginning is missing. -/
theorem Can.take_lost (idle : x.part? host = none) (later : seg ≠ 0) :
    x.take host msgno seg last data now = { x with parts := x.parts.filter fun q => q.host != host, discard := x.discard + 1 } := by
  have gone : (x.drop host).part? host = none := Can.part?_others (x := { x with discard := x.discard + 1 })
  unfold Can.take
  rw [idle]
  dsimp only
  rw [if_neg later, gone]
  dsimp only
  rw [if_neg later]
  rfl

/-- The next segment of the message, in time. -/
theorem Can.take_next {p : Partial} (part : x.part? host = some p) (next : p.next = seg) (same : p.msgno = msgno) (early : now ≤ p.at_ + msFt 20) :
    x.take host msgno seg last data now =
      if last then
        if canComplete (p.bytes ++ data) then { x with parts := x.parts.filter fun q => q.host != host }
        else { x with parts := x.parts.filter fun q => q.host != host, discard := x.discard + 1 }
      else { x with parts := (x.parts.filter fun q => q.host != host) ++ [{ p with next := seg + 1, bytes := p.bytes ++ data, at_ := now }] } := by
  have follows : ¬ (p.next ≠ seg ∨ p.msgno ≠ msgno ∨ p.at_ + msFt 20 < now) := by
    rintro (other | other | late)
    · exact other next
    · exact other same
    · omega
  unfold Can.take
  rw [part]
  dsimp only
  rw [if_neg follows, part]

end Controllers

/-! ### Frames (R362, R363, R366, R471) -/

section Frames

variable {s : State} {t : Nat} {f : Fin 2} {m : CanMsg} {d : Fin 11}

theorem State.wake_cans : (s.wake d).cans = s.cans := by
  unfold State.wake
  exact iteInduction (motive := fun y : State => y.cans = s.cans) (fun _ => rfl) fun _ => rfl

theorem State.wake_ft : (s.wake d).ft = s.ft := (State.SameSessions.wake (a := s) ⟨rfl, rfl⟩).ft

theorem State.wake_oget {i sub : Nat} : (s.wake d).oget i sub = s.oget i sub := by
  unfold State.wake
  exact iteInduction (motive := fun y : State => y.oget i sub = s.oget i sub) (fun _ => rfl) fun _ => rfl

theorem State.updCan_twice {g h : Can → Can} : (s.updCan f g).updCan f h = s.updCan f fun _ => h (g s.cans[f]) := by
  unfold State.updCan vupd
  simp

/-- A frame without error lowers the receive error counter. -/
def Can.heard (x : Can) : Can := { x with rxErr := if 127 < x.rxErr then 127 else x.rxErr - 1 }.confine

/-- A frame without error that carries the controller's DEV is taken. -/
theorem exec_canFrame_taken (fn : (s.begin t).oget (0x1F50 + f.val) 0x01 = 1) (runs : (s.begin t).cans[f].bus = 1 ∨ (s.begin t).cans[f].bus = 2)
    (crc : m.crcOk = true) (fd : m.fd = true) (extended : m.extended = true) (dataFrame : m.remote = false) (toUs : bitOf m.ident 25 = false)
    (dev : fld m.ident 19 6 = (s.begin t).oget (0x1F50 + f.val) 0x02) (reserved : fld m.ident 0 5 = 0) :
    exec (.canFrame t f m) s = .next (((s.begin t).wake 1).updCan f fun _ =>
      { (s.begin t).cans[f].heard with rx := (s.begin t).cans[f].heard.rx + 1 }.take
        (fld m.ident 13 6) (fld m.ident 11 2) (fld m.ident 5 5) (bitOf m.ident 10) m.data (s.begin t).ft) := by
  change execCanFrame t f m s = _
  unfold execCanFrame
  extract_lets s0 s1 x s2 now
  have wakes : s1 = s0.wake 1 := if_pos ⟨fn, by rw [toUs]; rfl, dev⟩
  have cans : s1.cans = s0.cans := by rw [wakes, State.wake_cans]
  have obj : ∀ i sub, s1.oget i sub = s0.oget i sub := fun i sub => by rw [wakes, State.wake_oget]
  have time : now = s0.ft := (congrArg State.ft wakes).trans State.wake_ft
  have live : ¬ (x.bus ≠ 1 ∧ x.bus ≠ 2) := fun off => by
    have state : x = s0.cans[f] := congrArg (fun v : Vector Can 2 => v[f]) cans
    rw [state] at off
    exact runs.elim off.1 off.2
  have inForm : ¬ ((!m.fd) = true ∨ (!m.extended) = true ∨ m.remote = true) := by
    rw [fd, extended, dataFrame]
    decide
  have named : ¬ (bitOf m.ident 25 = true ∨ fld m.ident 19 6 ≠ s2.oget (0x1F50 + f.val) 0x02) := by
    rintro (own | other)
    · exact Bool.false_ne_true (toUs.symm.trans own)
    · exact other (dev.trans (obj _ _).symm)
  refine (if_neg live).trans ((if_neg (by rw [crc]; decide)).trans ((if_neg inForm).trans ((if_neg named).trans
    ((if_neg (not_not_intro reserved)).trans (congrArg Host.Outcome.next (State.updCan_twice.trans ?_))))))
  rw [time, cans, wakes]
  rfl

/-- A frame of the controllers' direction is for no controller. -/
theorem exec_canFrame_own (runs : (s.begin t).cans[f].bus = 1 ∨ (s.begin t).cans[f].bus = 2) (own : bitOf m.ident 25 = true) :
    exec (.canFrame t f m) s = .next (if m.crcOk = true then (s.begin t).updCan f Can.heard else (s.begin t).updCan f fun x => x.error false false) := by
  change execCanFrame t f m s = _
  unfold execCanFrame
  extract_lets s0 s1 x s2 now
  have asleep : s1 = s0 := if_neg fun ours => by
    rw [own] at ours
    exact Bool.false_ne_true ours.2.1
  have live : ¬ (x.bus ≠ 1 ∧ x.bus ≠ 2) := fun off => by
    have state : x = s0.cans[f] := congrArg (fun y : State => y.cans[f]) asleep
    rw [state] at off
    exact runs.elim off.1 off.2
  refine (if_neg live).trans ?_
  have heard : s2 = s0.updCan f Can.heard := congrArg (fun y : State => y.updCan f Can.heard) asleep
  cases m.crcOk with
  | false => exact congrArg (fun y : State => Host.Outcome.next (y.updCan f fun x => x.error false false)) asleep
  | true =>
    refine (if_neg (by decide)).trans (Eq.trans ?_ (congrArg Host.Outcome.next heard))
    split
    · rfl
    · exact if_pos (.inl own)

end Frames

/-! ### Errors (R362) -/

section Errors

variable {x : Can} {primary : Bool}

theorem Can.error_transmit_within (within : x.txErr + 8 ≤ 255) : x.error true primary = { x with txErr := x.txErr + 8 }.confine :=
  if_neg (Nat.not_lt.mpr within)

theorem Can.error_transmit_beyond (beyond : 255 < x.txErr + 8) :
    x.error true primary = { x with txErr := x.txErr + 8, bus := 3, busOffs := x.busOffs + 1, parts := [] } := if_pos beyond

theorem Can.error_receive (within : x.txErr ≤ 255) :
    x.error false primary = { x with rxErr := min 255 (x.rxErr + if primary = true then 8 else 1) }.confine := if_neg (Nat.not_lt.mpr within)

end Errors

/-- Settles O46: what a controller makes of a segment, and of an error. -/
theorem fieldNetworksReassemble : Obligations.FieldNetworksReassemble := by
  refine ⟨?taken, ?own, ?timeout, ?error, ?off, ?recovery⟩
  case taken =>
    intro t f m s s0 host msgno seg x others out fn runs crc fd extended remote toUs dev reserved
    have takes := exec_canFrame_taken fn runs crc fd extended remote toUs dev reserved
    have taken : ∀ y : Can, ({ x with rx := x.rx + 1 } : Can).take host msgno seg (bitOf m.ident 10) m.data s0.ft = y →
        exec (.canFrame t f m) s = .next ((s0.wake 1).updCan f fun _ => y) := fun y becomes => becomes ▸ takes
    refine ⟨fun idle first more => taken _ ?_, fun idle later => taken _ (Can.take_lost idle later), fun p part next same early => ?_⟩
    · rw [first, more]
      exact Can.take_begins idle
    · have goesOn := (Can.take_next (x := { x with rx := x.rx + 1 }) (last := bitOf m.ident 10) (data := m.data) part next same early)
      refine ⟨fun more => taken _ (goesOn.trans (if_neg (by rw [more]; decide))), fun ends => taken _ (goesOn.trans ((if_pos ends).trans ?_))⟩
      cases canComplete (p.bytes ++ m.data) <;> rfl
  case own =>
    intro t f m s s0 runs own
    have frame := exec_canFrame_own runs own
    exact ⟨fun good => frame.trans (congrArg _ (if_pos good)), fun bad => frame.trans (congrArg _ (if_neg (by rw [bad]; decide)))⟩
  case timeout =>
    intro t f host s s0
    change (_ → execCanReassemblyTimeout t f host s = _) ∧ ∀ p, _ → _ → execCanReassemblyTimeout t f host s = _
    unfold execCanReassemblyTimeout
    dsimp only
    refine ⟨fun idle => ?_, fun p part late => ?_⟩
    · rw [idle]
    · rw [part]
      exact if_pos late
  case error =>
    intro t f primary s s0 x runs
    refine ⟨fun within => ?_, fun beyond => ?_, fun within => ?_⟩
    · exact (if_pos runs).trans (congrArg (fun y => Host.Outcome.next (s0.updCan f fun _ => y)) (Can.error_transmit_within within))
    · exact (if_pos runs).trans (congrArg (fun y => Host.Outcome.next (s0.updCan f fun _ => y)) (Can.error_transmit_beyond beyond))
    · exact (if_pos runs).trans (congrArg (fun y => Host.Outcome.next (s0.updCan f fun _ => y)) (Can.error_receive within))
  case off => exact fun t f transmit primary s active passive => if_neg (not_or.mpr ⟨active, passive⟩)
  case recovery => exact fun t f s => ⟨fun off => if_pos off, fun on => if_neg on⟩

end Sys2Proof.Machine
end

section
/-! PROOFS. Engines, the swept arrays and their tests (O50). -/

namespace Sys2Proof.Machine

/-! ### Engines (R404–R407, R415) -/

section Engines

variable {s : State} {t f : Nat} {e : Fin 8} {sig0 sig1 : Bool}

/-- An engine leaves its reset: its scratchpad is clear. -/
def State.released (s : State) (e : Fin 8) : State := (s.clearPad e).updEngine e fun y => { y with heldFrom := none, restarts := y.restarts + 1 }

section Restart

variable (held : (s.begin t).engines[e].heldFrom = some f) (due : f + usFt 10 ≤ (s.begin t).ft) (patched : (s.begin t).engines[e].bypassAt = none)
include held due patched

theorem exec_engineRestart_due :
    exec (.engineRestart t e sig0 sig1) s =
      if 3 ≤ (s.begin t).engines[e].stops.length then
        .next ((((s.begin t).released e).updEngine e fun y => { y with bypassAt := some (s.begin t).ft, patch := 0 }).event 0x9014
          (((s.begin t).released e).engineLoc e) [(8, e.val)])
      else .next ((((s.begin t).released e).verifyPatches sig0 sig1).startFirmware e) := by
  change execEngineRestart t e sig0 sig1 s = _
  unfold execEngineRestart
  dsimp only
  rw [held, patched]
  exact if_neg (Nat.not_lt.mpr due)

end Restart

/-- A word of a scratchpad or of the common pool is counted, and recorded. -/
def State.wordLost (s : State) (a : Fin 3) (loc : Nat) : State :=
  State.event { s with mem := { s.mem with uncorr := vupd s.mem.uncorr a (· + 1) } } 0xA012 loc [(8, a.val)]

theorem exec_uncorrectableWord {w : MemWord} {a : Fin 3} (array : Fin.ofNat 3 w.array = a) :
    let s0 := s.begin t
    let loc := s0.arrayLoc a.val w.inst w.macro_ w.row w.column
    let s1 := s0.wordLost a loc
    exec (.uncorrectableWord t w) s =
      if a.val = 2 then .next (s1.lostWord (Fin.ofNat 64 (w.reader / 4)) (Fin.ofNat 4 w.reader) loc)
      else if h : w.reader < 8 then .next (s1.stopEngine ⟨w.reader, h⟩ 3)
      else .next { s1.dropOperation (hwClients.getD (w.reader % 4) .fireUnit) with
        mem := { s1.mem with dropped := vupd s1.mem.dropped (Fin.ofNat 4 w.reader) (· + 1) } } := by
  subst array
  rfl

end Engines

/-! ### Tests of the arrays (R316, R317, R417–R423) -/

section Tests

variable {s : State} {t : Nat} {k : Kop} {w : Fin 32}

theorem exec_transparentTestWrite {v : Nat} (permitted : Safety.Admits s t k 0x7000 0x01 v w) :
    let s2 := (Safety.taken s t k).oapply 0x7000 0x01 v
    exec (.transparentTestWrite t k v) s = .next (s2.respond w (s2.plainResp k 0)) := by
  have plain : ∀ r, objRow 0x7000 0x01 = some r → r.acc ≠ 4 := by decide +kernel
  have text : textRange 0x7000 0x01 v = true := by
    have family : objFam 0x7000 = some (0x7000, 0) := by decide +kernel
    simp only [textRange, family]
  exact congrArg Host.Outcome.next (State.write_accepted permitted plain text rfl)

theorem exec_requestMemoryTest {i : Fin 16} {target deadline : Nat}
    (permitted : Safety.Admits s t k (0x6010 + i.val) 0x01 (reqValue 4 target deadline) w) (idle : (Safety.taken s t k).reqBusy i = false) :
    let s1 := Safety.taken s t k
    exec (.requestMemoryTest t k i target deadline) s = .next (Safety.done (
      if (testRegions target).isNone = true then s1.acceptReq i 4 target deadline 4
      else (s1.acceptReq i 4 target deadline 1).tryMemory i) w k (0x6010 + i.val) 0x01) := by
  intro s1
  refine congrArg Host.Outcome.next (State.command_done permitted ((if_neg (by rw [idle]; decide)).trans ?_))
  split <;> rfl

end Tests

/-! ### Ports (R410–R413) -/

section Ports

variable {x : Arrays} {q : Access}

/-- Port B serves an engine before the DMA unit. -/
theorem Arrays.portB_engine {k : Fin 8} (served : x.portB k = some q)
    (waits : ∃ y ∈ x.waiting, y.array = k.val ∧ onPortA y = false ∧ (engineOf y).isSome = true) : (engineOf q).isSome = true := by
  obtain ⟨y, mem, array, portA, engine⟩ := waits
  have candidate : y ∈ x.waiting.filter fun y => y.array == k.val && !onPortA y := by
    refine List.mem_filter.mpr ⟨mem, ?_⟩
    rw [array, portA]
    simp
  obtain ⟨z, found⟩ := Option.isSome_iff_exists.mp (List.find?_isSome (p := fun y => (engineOf y).isSome) |>.mpr ⟨y, candidate, engine⟩)
  unfold Arrays.portB at served
  extract_lets waits at served
  rw [found] at served
  obtain rfl : z = q := Option.some.inj served
  exact List.find?_some (p := fun y => (engineOf y).isSome) found

/-- A bank answers every read that it serves with the word as it was before the cycle. -/
theorem Arrays.mem_foldl_bankServe {before : Arrays} {qs : List Access} (served : q ∈ qs) (reads : wordWrites q.op = false) :
    (q, before.found q) ∈ (qs.foldl before.bankServe x).answers := by
  have stays : ∀ (qs : List Access) (y : Arrays) (r : Access × Nat), r ∈ y.answers → r ∈ (qs.foldl before.bankServe y).answers := fun qs y r mem =>
    List.foldlRecOn (motive := fun y : Arrays => r ∈ y.answers) qs _ mem fun y old p _ => by
      rw [Arrays.bankServe_answers]
      exact List.mem_append_left _ old
  induction qs generalizing x with
  | nil => cases served
  | cons p qs ih =>
    rw [List.foldl_cons]
    rcases List.mem_cons.mp served with rfl | later
    · refine stays qs _ _ ?_
      rw [Arrays.bankServe_answers, reads]
      exact List.mem_append_right _ List.mem_cons_self
    · exact ih later

theorem Arrays.bankCycle_answers {n : Fin 4} (served : q ∈ x.bankServed n) (reads : wordWrites q.op = false) :
    (q, x.at_ q.array q.word) ∈ (x.bankCycle n).answers := by
  obtain ⟨_, cycled⟩ := x.bankCycle_eq n
  rw [cycled]
  exact Arrays.mem_foldl_bankServe served reads

/-- Rows stay where they are, and cells that hold no word of `qs` that is written keep what they hold, in the arrays and in the shadow. -/
structure Arrays.WritesOnly (x : Arrays) (qs : List Access) (y : Arrays) : Prop where
  remap : y.remap = x.remap
  words : ∀ key, (∀ q ∈ qs, wordWrites q.op = true → x.home q.array q.word ≠ key) → sget 0 y.words key = sget 0 x.words key
  shadow : ∀ key, (∀ q ∈ qs, wordWrites q.op = true → wordKey q.array q.word ≠ key) → sget 0 y.shadow key = sget 0 x.shadow key

theorem Arrays.serve_remap (x : Arrays) (q : Access) : (x.serve q).remap = x.remap := by
  obtain ⟨_, _, served⟩ := x.serve_eq q
  rw [served]
  change (x.written q).remap = x.remap
  unfold Arrays.written Arrays.put
  split <;> rfl

theorem Arrays.WritesOnly.bankServe {before y : Arrays} {qs : List Access} (served : q ∈ qs) (kept : x.WritesOnly qs y) :
    x.WritesOnly qs (before.bankServe y q) := by
  have home : y.home q.array q.word = x.home q.array q.word := by
    unfold Arrays.home
    rw [kept.remap]
  unfold Arrays.bankServe
  split
  case isTrue writes =>
    refine ⟨(y.serve_remap q).trans kept.remap, fun key other => ?_, fun key other => ?_⟩
    · rw [Arrays.serve_words, Arrays.written, Arrays.put_words (.inr (home ▸ (other q served writes).symm))]
      exact kept.words key other
    · rw [Arrays.serve_shadow, Arrays.written, Arrays.put_shadow (.inr (other q served writes).symm)]
      exact kept.shadow key other
  case isFalse =>
    obtain ⟨_, _, checked⟩ := y.check_eq q
    rw [checked]
    exact ⟨kept.remap, kept.words, kept.shadow⟩

theorem Arrays.bankCycle_writesOnly (x : Arrays) (n : Fin 4) : x.WritesOnly (x.bankServed n) (x.bankCycle n) := by
  obtain ⟨_, cycled⟩ := x.bankCycle_eq n
  obtain ⟨_, noted⟩ := x.notePorts_eq n
  have served : x.WritesOnly (x.bankServed n) ((x.bankServed n).foldl x.bankServe (x.notePorts n)) :=
    List.foldlRecOn (motive := fun y : Arrays => x.WritesOnly (x.bankServed n) y) _ _ (by rw [noted]; exact ⟨rfl, fun _ _ => rfl, fun _ _ => rfl⟩)
      fun y kept q mem => kept.bankServe mem
  rw [cycled]
  exact ⟨served.remap, served.words, served.shadow⟩

end Ports

/-! ### A region under test (R417, R418) -/

section Regions

variable {x : Arrays} {r w : Nat}

/-- Each word `u` of a list is written at its key. -/
def writeAll (key val : Nat → Nat) (ws : List Nat) (m : SMap Nat) : SMap Nat := ws.foldl (fun m u => sset 0 m (key u) (val u)) m

section Writes

variable {m : SMap Nat} {ws us : List Nat} {key val : Nat → Nat}

theorem writeAll_wf (wf : smapWf 0 m) : smapWf 0 (writeAll key val ws m) :=
  List.foldlRecOn (motive := fun m : SMap Nat => smapWf 0 m) ws _ wf fun _ kept _ _ => sset_wf kept

/-- Further writes that agree with what a key holds leave it. -/
theorem sget_writeAll_of_agree (wf : smapWf 0 m) (agree : ∀ u ∈ us, key u = key w → val u = val w) (held : sget 0 m (key w) = val w) :
    sget 0 (writeAll key val us m) (key w) = val w := by
  induction us generalizing m with
  | nil => exact held
  | cons u us ih =>
    refine ih (sset_wf wf) (fun v mem => agree v (List.mem_cons_of_mem _ mem)) ?_
    by_cases same : key u = key w
    · rw [← same, sget_sset_same wf]
      exact agree u List.mem_cons_self same
    · exact (sget_sset_ne (Ne.symm same)).trans held

/-- A read at the key of a word of the list, whose writes agree on it. -/
theorem sget_writeAll (wf : smapWf 0 m) (mem : w ∈ ws) (agree : ∀ u ∈ ws, key u = key w → val u = val w) :
    sget 0 (writeAll key val ws m) (key w) = val w := by
  obtain ⟨before, after, rfl⟩ := List.append_of_mem mem
  have writes : writeAll key val (before ++ w :: after) m = writeAll key val after (sset 0 (writeAll key val before m) (key w) (val w)) :=
    List.foldl_append
  rw [writes]
  exact sget_writeAll_of_agree (sset_wf (writeAll_wf wf)) (fun u later => agree u (List.mem_append_right _ (List.mem_cons_of_mem _ later)))
    (sget_sset_same (writeAll_wf wf))

end Writes

/-- A word of a region lies in it. -/
theorem wordRegion_of_mem (region : r < 20480) (mem : w ∈ regionWords r) : wordRegion (regionArray r) w = r := by
  unfold regionWords at mem
  obtain ⟨j, word, rfl⟩ := List.mem_map.mp mem
  have low := List.mem_range.mp word
  unfold wordRegion wordMacro wordRow regionArray
  split
  · rw [if_pos (by omega)]
    omega
  · split
    · rw [if_neg (by omega), if_pos (by omega)]
      omega
    · rw [if_neg (by omega), if_neg (by omega)]
      omega

theorem wordKey_inj {a u v : Nat} (same : wordKey a u = wordKey a v) : u = v := Nat.add_left_cancel same

theorem Arrays.lock_at (region : r < 20480) (mem : w ∈ regionWords r) : (x.lock r).at_ (regionArray r) w = x.at_ (regionArray r) w := by
  have locked : (x.lock r).shadowed (regionArray r) w = true := by
    rw [Arrays.shadowed, wordRegion_of_mem region mem]
    exact beq_self_eq_true _
  refine (if_pos locked).trans ?_
  exact sget_writeAll (key := wordKey (regionArray r)) (val := x.at_ (regionArray r)) ⟨.nil, nofun⟩ mem fun u _ same => by rw [wordKey_inj same]

theorem Arrays.put_locked {v : Nat} (locked : x.locked = some r) (region : r < 20480) (mem : w ∈ regionWords r) :
    x.put (regionArray r) w v = { x with shadow := sset 0 x.shadow (wordKey (regionArray r) w) v } := by
  refine if_pos ?_
  rw [Arrays.shadowed, wordRegion_of_mem region mem, locked]
  exact beq_self_eq_true _

theorem Arrays.unlock_at (locked : x.locked = some r) (region : r < 20480) (words : smapWf 0 x.words) (mem : w ∈ regionWords r)
    (apart : ∀ u ∈ regionWords r, ∀ v ∈ regionWords r, x.home (regionArray r) u = x.home (regionArray r) v → u = v) :
    (x.unlock r).at_ (regionArray r) w = x.at_ (regionArray r) w := by
  have under : x.shadowed (regionArray r) w = true := by
    rw [Arrays.shadowed, wordRegion_of_mem region mem, locked]
    exact beq_self_eq_true _
  refine (if_neg Bool.false_ne_true).trans (Eq.trans ?_ (if_pos under).symm)
  exact sget_writeAll (key := x.home (regionArray r)) (val := fun u => sget 0 x.shadow (wordKey (regionArray r) u)) words mem
    fun u other same => by rw [apart u other w mem same]

end Regions

/-- Settles O50: engines by their stops, the tests by their regions, the ports by what each serves. -/
theorem enginesRestartAndMemoryIsSwept : Obligations.EnginesRestartAndMemoryIsSwept := by
  refine ⟨⟨fun _ _ _ => ⟨rfl, rfl⟩, ?restart, ?running, ?words⟩, ?start, ?complete, ?region, ?write, ?request, ?window, ?portB, ?reads, ?cells, ?shadow⟩
  case restart =>
    intro t e sig0 sig1 s f s0 s1 held due patched
    have restarts := exec_engineRestart_due (sig0 := sig0) (sig1 := sig1) held due patched
    exact ⟨fun few => restarts.trans (if_neg (Nat.not_le.mpr few)), fun many => restarts.trans (if_pos many)⟩
  case running => exact fun t e s stopped out => if_pos ⟨stopped, Option.isNone_iff_eq_none.mpr out⟩
  case words =>
    intro t w s a e s0 loc s1 array
    have lost := exec_uncorrectableWord (s := s) (t := t) array
    refine ⟨fun swept reader => ?_, fun swept reader => lost.trans ((if_neg swept).trans (dif_neg (Nat.not_lt.mpr reader))),
      fun line => lost.trans (if_pos line)⟩
    have engine : w.reader < 8 := reader ▸ e.isLt
    obtain rfl : (⟨w.reader, engine⟩ : Fin 8) = e := Fin.ext reader
    exact lost.trans ((if_neg swept).trans (dif_pos engine))
  case start =>
    intro t s s0 runs on good free unasked due
    exact if_pos ⟨runs, on, by rw [good]; decide, Option.isNone_iff_eq_none.mpr free, Option.isNone_iff_eq_none.mpr unasked, due⟩
  case complete =>
    intro t faults singles s r s0 a hit s1 x n under
    change execRegionTestComplete t faults singles s = _
    unfold execRegionTestComplete
    dsimp only
    rw [under]
    rfl
  case region =>
    intro t s slot r rest s0 asked runs free due
    change execMemoryTestRegion t s = _
    unfold execMemoryTestRegion
    dsimp only
    rw [asked]
    exact if_pos ⟨runs, Option.isNone_iff_eq_none.mpr free, due⟩
  case write => exact fun t k v s w => exec_transparentTestWrite
  case request => exact fun t k i target deadline s w => exec_requestMemoryTest
  case window =>
    intro t i s s0 waits kind
    refine (if_neg (not_not_intro waits)).trans ?_
    rw [kind]
    rfl
  case portB => exact fun x k q => Arrays.portB_engine
  case reads => exact fun x n q => Arrays.bankCycle_answers
  case cells => exact fun x n key => ⟨(x.bankCycle_writesOnly n).words key, (x.bankCycle_writesOnly n).shadow key⟩
  case shadow =>
    intro x r w region mem a
    refine ⟨Arrays.lock_at region mem, fun locked v => ?_, fun locked words apart => Arrays.unlock_at locked region words mem apart⟩
    rw [Arrays.put_locked locked region mem]
    exact ⟨rfl, rfl⟩

end Sys2Proof.Machine
end
